-- ==== Sys2Proof/Word.lean ====
section
/-!
DEFINITION. The words the spec adds, shifts and masks: register words (R4, R9), the two halves of a 64-bit register
(R531, R532), and saturation.
-/

namespace Sys2Proof

/-- A register word (R9). -/
abbrev Word := BitVec 32

/-- A byte of host memory or of a frame (R5). -/
abbrev Byte := BitVec 8

/-- The largest value a 32-bit counter holds before it saturates. -/
def satMax : Nat := 0xFFFFFFFF

/-- A count held in a saturating 32-bit counter. -/
def sat32 (n : Nat) : Nat := min n satMax

/-- Two's complement of width `w` read as a signed number (R6). -/
def signed (w : Nat) (n : Nat) : Int :=
  if n % 2 ^ w < 2 ^ (w - 1) then (n % 2 ^ w : Nat) else ((n % 2 ^ w : Nat) : Int) - (2 ^ w : Nat)

/-- A signed number as the two's complement of width `w` (R6). -/
def unsigned (w : Nat) (i : Int) : Nat := (i % (2 ^ w : Nat)).toNat

/-- A signed number held within `lo` and `hi`. -/
def clampInt (lo hi i : Int) : Int := max lo (min hi i)

end Sys2Proof
end

