-- ==== Sys2Proof/Machine/Sparse.lean ====
section
/-!
DEFINITION. Sparse data by key: a list of key and value pairs in one canonical form, keys strictly rising. Registers,
host memory, paddock cells, contexts and flows are held so; what an unlisted key reads as is said where each is used.
-/

namespace Sys2Proof.Machine

/-- Sparse data: keys with their values, keys strictly rising (`Sp.wf`). -/
abbrev Sp (α : Type) := List (Nat × α)

/-- The value listed for key `k`. -/
def Sp.find {α : Type} (m : Sp α) (k : Nat) : Option α :=
  match m with
  | [] => none
  | (k', v) :: r => if k = k' then some v else Sp.find r k

/-- List `v` for key `k`, in the key's place. -/
def Sp.put {α : Type} (m : Sp α) (k : Nat) (v : α) : Sp α :=
  match m with
  | [] => [(k, v)]
  | (k', v') :: r =>
    if k < k' then (k, v) :: (k', v') :: r
    else if k = k' then (k, v) :: r
    else (k', v') :: Sp.put r k v

/-- List nothing for key `k`. -/
def Sp.drop {α : Type} (m : Sp α) (k : Nat) : Sp α :=
  match m with
  | [] => []
  | (k', v') :: r => if k = k' then Sp.drop r k else (k', v') :: Sp.drop r k

/-- The value at key `k`, `d` where none is listed. -/
def Sp.at {α : Type} (m : Sp α) (d : α) (k : Nat) : α := (Sp.find m k).getD d

/-- Write `v` at key `k` where an unlisted key reads as `d`: a value equal to `d` is not listed. -/
def Sp.store {α : Type} [DecidableEq α] (m : Sp α) (d : α) (k : Nat) (v : α) : Sp α :=
  if v = d then Sp.drop m k else Sp.put m k v

/-- Every key of `m` lies above `b`, strictly rising. -/
def Sp.above {α : Type} (b : Nat) (m : Sp α) : Bool :=
  match m with
  | [] => true
  | (k, _) :: r => decide (b < k) && Sp.above k r

/-- The canonical form: keys strictly rising. -/
def Sp.wf {α : Type} (m : Sp α) : Bool :=
  match m with
  | [] => true
  | (k, _) :: r => Sp.above k r

/-- Insert `x` before the first element it does not come after; `le` orders. -/
def insertBy {α : Type} (le : α → α → Bool) (x : α) (l : List α) : List α :=
  match l with
  | [] => [x]
  | y :: r => if le x y then x :: y :: r else y :: insertBy le x r

/-- A list in the order of `le`; equal elements keep their order. -/
def sortBy {α : Type} (le : α → α → Bool) (l : List α) : List α := l.foldr (insertBy le) []

end Sys2Proof.Machine
end

