-- ==== Sys2Proof/Machine/Types.lean ====
section
/-!
DEFINITION. The records that commands carry and State holds, shared by every region: status codes, descriptors,
items, completions, events, long operations.
-/

namespace Sys2Proof.Machine

/-- The five policy functions of Table CYC-6, in the bit order of SVC_POLICY_OWN. -/
inductive PolicyFn where
  | session | rtcm | ptp | allot | mapimp
  deriving DecidableEq, Repr

/-- The bit of SVC_POLICY_OWN that names the owner of the function (Table CYC-7). -/
def PolicyFn.bit : PolicyFn → Nat
  | .session => 0 | .rtcm => 1 | .ptp => 2 | .allot => 3 | .mapimp => 4

/-- Completion status codes (R75, Table HIF-6). -/
inductive Status where
  | done | doneLate | doneClamped
  | rejState | rejRange | rejExpired | rejKey | rejVersion | rejConflict | rejOpcode
  | failPoison | failFault | failTamper | failTimeout | failReset
  | cancelled | suspended
  deriving DecidableEq, Repr

/-- The code of a status (Table HIF-6). -/
def Status.code : Status → Nat
  | .done => 0x00 | .doneLate => 0x01 | .doneClamped => 0x02
  | .rejState => 0x10 | .rejRange => 0x11 | .rejExpired => 0x12 | .rejKey => 0x13 | .rejVersion => 0x14
  | .rejConflict => 0x15 | .rejOpcode => 0x16
  | .failPoison => 0x20 | .failFault => 0x21 | .failTamper => 0x22 | .failTimeout => 0x24 | .failReset => 0x25
  | .cancelled => 0x30 | .suspended => 0x31

/-- The requesters that reach the register windows, in the order they are served (R533): host, SVC cores 0 to 7
(codes 1 to 8), JTAG. -/
abbrev Requester := Fin 10

/-- A descriptor (R63, Table HIF-3); reserved fields are not kept (R7). -/
structure Desc where
  opcode  : BitVec 16
  noLate  : Bool
  fence   : Bool
  irq     : Bool
  tag     : BitVec 16
  flow    : BitVec 10
  context : BitVec 8
  when_   : BitVec 64
  ptr     : BitVec 64
  len     : BitVec 32
  arg0    : BitVec 64
  arg1    : BitVec 64
  arg2    : BitVec 64
  deriving DecidableEq, Repr

/-- A descriptor with every field 0. -/
def Desc.zero : Desc := ⟨0, false, false, false, 0, 0, 0, 0, 0, 0, 0, 0, 0⟩

/-- Where an item came from (Table DSP-1); a ring item carries its submission index. -/
inductive Source where
  | ring (n : Nat) (idx : Nat)
  | cue (ring : Nat) (slot : Nat)
  | airHead (h : Nat)
  | air
  | svc
  | tim
  | net
  | byl
  | rec_
  | internal
  deriving DecidableEq, Repr

/-- How an item stands to its WHEN (R66): not yet compared, waiting in its region, come due in time, or acting late. -/
inductive Wait where
  | fresh | held | due | late
  deriving DecidableEq, Repr

/-- An item: a unit of work, with its identity, its source, the policy function it belongs to where it did not come
from a ring (R53), and its descriptor. `fresh` items have not yet been compared with their WHEN. -/
structure Item where
  id   : Nat
  src  : Source
  fn   : Option PolicyFn
  d    : Desc
  obs  : Bool
  wait : Wait
  deriving DecidableEq, Repr

/-- The ring whose completion ring an item completes on (R28, R368). -/
def Item.ring? (it : Item) : Option Nat :=
  match it.src with
  | .ring n _ => some n
  | .cue n _ => some n
  | _ => none

/-- The context the item addresses. -/
def Item.ctx (it : Item) : Nat := it.d.context.toNat

/-- The flow the item enters: flow CONTEXT, or FLOW where CONTEXT is 0 (R46, R64); the service firmware's own items go
in flow 0, and so does an item raised inside the chip that addresses no machine (R46; DEDUCED, log entry 118). -/
def Item.flow (it : Item) : Nat :=
  if it.ctx ≠ 0 then it.ctx else if it.ring?.isSome then it.d.flow.toNat else 0

/-- The three result words of a completion. -/
structure Res where
  r0 : Nat
  r1 : Nat
  r2 : Nat
  deriving DecidableEq, Repr

/-- Zero results (R73). -/
def Res.zero : Res := ⟨0, 0, 0⟩

/-- A completion (R70, Table HIF-5), before PHASE and, for an event, the sequence number are added at its writing. -/
structure Completion where
  tag    : Nat
  status : Status
  event  : Bool
  region : Nat
  cell   : Nat
  time   : Nat
  res    : Res
  deriving DecidableEq, Repr

/-- The cell index of an ORIGIN that is not cell-specific (Table HIF-5). -/
def noCell : Nat := 0xFFF

/-- A cell word read with an uncorrectable error (R206): the cell, and the index of the sweeper lane that reads it, 0xFFF
for a block that is not a lane. It was read from the tile cache where that holds the cell's tile, else from DRAM. -/
structure BadCell where
  i    : BitVec 16
  j    : BitVec 16
  lane : BitVec 12
  deriving DecidableEq, Repr

/-- States of a long operation (Table HIF-9); a handle that names none is in state NONE. -/
inductive LongState where
  | running | stopPending | cancelPending | suspended
  deriving DecidableEq, Repr

/-- A long operation: its handle (ring and TAG of the starting descriptor), the item that carries it, its progress
(R84), the control item that waits for its next safe point (R85) with the units done when that was accepted, the
starting descriptor, and the parameters it started with. -/
structure LongOp where
  ring    : Nat
  tag     : Nat
  carrier : Item
  region  : Nat
  state   : LongState
  done    : Nat
  total   : Nat
  word    : Nat
  ctl     : Option Item
  asked   : Nat
  start   : Desc
  /-- The live parameter words as they stood when the operation started (R23). -/
  live    : List (Nat × BitVec 32)
  deriving DecidableEq, Repr

/-- Stage ports of the chain (Table DSP-2); an item bound for a region outside the chain names the region. -/
inductive Stage where
  | fix | gait | pad | pack | air
  | outside (region : Nat)
  deriving DecidableEq, Repr

/-- The position of a stage (Table DSP-2). -/
def Stage.pos : Stage → Nat
  | .fix => 1 | .gait => 2 | .pad => 3 | .pack => 4 | .air => 5 | .outside _ => 6

/-- The region code of a stage (Table CYC-1). -/
def Stage.region : Stage → Nat
  | .fix => 6 | .gait => 8 | .pad => 7 | .pack => 8 | .air => 9 | .outside r => r

end Sys2Proof.Machine
end

