-- ==== Sys2Proof/Machine/AirTypes.lean ====
section
/-!
DEFINITION. What AIR holds beside its registers, and what arrives from the heads (files 06, 11, 12).
-/

namespace Sys2Proof.Machine

/-! ### OBS reports -/

/-- A satellite entry of an OBS report (Table FIX-2). -/
structure ObsSat where
  prn   : BitVec 6
  sys   : BitVec 2
  rough : BitVec 24
  rate  : BitVec 24
  deriving DecidableEq, Repr

/-- A signal record of an OBS report (Table FIX-3). -/
structure ObsSig where
  sat    : BitVec 5
  signal : BitVec 3
  finePr : BitVec 16
  fineCp : BitVec 22
  cn0    : BitVec 6
  half   : Bool
  slip   : Bool
  deriving DecidableEq, Repr

/-- An OBS report (Table FIX-1) with the length of its payload. -/
structure ObsReport where
  len       : Nat
  epoch     : BitVec 64
  nsat      : BitVec 8
  nsig      : BitVec 8
  flags     : BitVec 8
  selfState : BitVec 8
  selfE     : BitVec 32
  selfN     : BitVec 32
  selfU     : BitVec 32
  odoS      : BitVec 32
  odoV      : BitVec 16
  mstatus   : BitVec 16
  sats      : List ObsSat
  sigs      : List ObsSig
  deriving DecidableEq, Repr

/-! ### Air frames -/

/-- A session message (Table AIR-22), uplink; `unknown` where SMSG or the length fits none. -/
inductive SessMsg where
  | joinReq (rate20 compat : Bool) (machineId : BitVec 64) (mnonce : BitVec 128)
  | joinConfirm
  | leave (cause : BitVec 8)
  | present
  | unknown
  deriving DecidableEq, Repr

/-- An air frame header (Table AIR-5); `reserved` where a reserved field is not zero. -/
structure AirHdr where
  ftype    : BitVec 4
  dir      : Bool
  relayed  : Bool
  compat   : Bool
  context  : BitVec 8
  len      : BitVec 11
  fcnt     : BitVec 32
  origin   : BitVec 8
  target   : BitVec 8
  hop      : BitVec 2
  span     : BitVec 3
  reserved : Bool
  deriving DecidableEq, Repr

/-- What the GCM of R304 answers on one layer of a received frame: whether its tag verifies as class 0 under the session
key (`tagOld` under the old K of a rekey) and as class 1 under the join key, and the payload it opens to (a long
computation, an operand: log entry 7). -/
structure Opening where
  tag0   : Bool
  tagOld : Bool
  tag1   : Bool
  plain  : List Byte
  deriving DecidableEq, Repr

/-- A layer of a received frame: the length of the frame it is, its header, what its GCM answers. -/
structure AirLayer where
  total : Nat
  hdr   : AirHdr
  gcm   : Opening
  deriving DecidableEq, Repr

/-- A received frame: its bytes, its layers from the outermost wrapper in, whether the place of its burst is a span of the
frame's own context, and the device time at which that place ends. -/
structure AirFrame where
  bytes   : List Byte
  layers  : List AirLayer
  inSpan  : Bool
  spanEnd : Nat
  deriving DecidableEq, Repr

/-- A character as a head-link receiver takes it (R294): a comma that gives alignment, another valid character, a code or
disparity error; or 2 µs without a transition. -/
inductive LinkSym where
  | comma | valid | bad | quiet
  deriving DecidableEq, Repr

/-- A head-link receiver (R294): 0 DOWN, 1 TRAINING, 2 UP; consecutive valid characters; while UP the number of characters
since each error of the last 1,024, latest first. -/
structure LinkRx where
  st   : Nat
  good : Nat
  errs : List Nat
  deriving DecidableEq, Repr

/-! ### Schedules -/

/-- Span types of a schedule entry (Table AIR-8). -/
inductive SpanType where
  | free | uplink | downlink | relay | bulk | sleeper | beacon | reserved
  deriving DecidableEq, Repr

/-- A schedule entry (Table AIR-8). -/
structure SchedEntry where
  type    : SpanType
  cont    : Bool
  bulkUp  : Bool
  context : BitVec 8
  period  : BitVec 16
  phase   : BitVec 16
  deriving DecidableEq, Repr

/-- A head's part of a schedule: its index, PHY rate code, RF channel and entries. -/
structure SchedHead where
  head    : Nat
  rate    : Nat
  channel : Nat
  entries : List SchedEntry
  deriving DecidableEq, Repr

/-- A schedule. -/
structure Schedule where
  id    : Nat
  heads : List SchedHead
  deriving DecidableEq, Repr

/-- A schedule file as AIR reads it (Table AIR-9): whether MAGIC, HDR_LEN and FILE_LEN are right, and the CRC-32C of the
entries. -/
structure SchedFile where
  headerOk : Bool
  crcOk    : Bool
  format   : BitVec 16
  sched    : Schedule
  deriving DecidableEq, Repr

/-! ### Contexts -/

/-- A session key K (R303): the key slot that holds it and its KEY_ID there, KEY_SFN, the uplink window of R308 (H and
its map) and the downlink FCNT last sent. -/
structure AirKey where
  slot   : Nat
  id     : Nat
  keySfn : Nat
  high   : Nat
  map    : BitVec 64
  down   : Nat
  deriving DecidableEq, Repr

/-- A pending JOIN_REQ (R312): its fields and the SFN at which it lapses. -/
structure JoinReq where
  machineId : Nat
  rate20    : Bool
  compat    : Bool
  mnonce    : Nat
  lapse     : Nat
  deriving DecidableEq, Repr

/-- A join in progress (R315): its item while it lives, K unless a zeroise has erased it, BNONCE, rate, the SFN at which it times out once the first
JOIN_ACK has gone. -/
structure Joining where
  item   : Option Item
  key    : Option AirKey
  bnonce : Nat
  machineId : Nat
  rate20 : Bool
  compat : Bool
  lapse  : Option Nat
  deriving DecidableEq, Repr

/-- A plan handed over to AIR (R49, R263): its payload bytes, the device time at which stage 6 finished, whether it has
been counted late. -/
structure AirPlan where
  bytes   : List Byte
  readyAt : Nat
  counted : Bool
  deriving DecidableEq, Repr

/-- An expected uplink that has not been judged (R289): its superframe, its end in ns after that superframe's start,
whether a valid frame has come in it. -/
structure Expect where
  sfn   : Nat
  stop  : Nat
  heard : Bool
  deriving DecidableEq, Repr

/-- A context beside its registers. -/
structure AirCtx where
  rate20   : Bool
  key      : Option AirKey
  /-- The new K of a rekey (R318) with its BNONCE and, past its KEY_SFN, the old one. -/
  nextKey  : Option (AirKey × Nat)
  oldKey   : Option AirKey
  joinReq  : Option JoinReq
  joining  : Option Joining
  /-- SESSION_REFUSE waiting for its JOIN_NAK (R314): the item and its cause. -/
  refusing : Option (Item × Nat)
  machineId : Nat
  /-- What SESSION_SLEEP and SESSION_WAKE left to do: the state change at the next superframe start, the messages still
  to send, the wake at the next valid frame. -/
  sleepNext : Bool
  sendSleep : Bool
  sendWake : Bool
  waking   : Bool
  /-- A LEAVE still to send: the K it is sealed under, its FCNT counted, and its cause. -/
  sendLeave : Option (AirKey × Nat)
  sendRelay : Bool
  nextHop  : Option Nat
  /-- Device time of the last valid frame. -/
  lastValid : Nat
  /-- The instant at which CALL_PERIOD ends. -/
  callUntil : Option Nat
  /-- Plans not yet sent, newest last. -/
  plans    : List AirPlan
  /-- Downlink frames that the firmware injected (R321). -/
  inject   : List (List Byte)
  expect   : List Expect
  /-- The last DOWNLINK span, and BULK or RELAY span, that has been served: 512 × SFN + slot index + 1. -/
  downAt   : Nat
  bulkAt   : Nat
  deriving DecidableEq, Repr

/-- A FREE context. -/
def AirCtx.reset : AirCtx where
  rate20    := false
  key       := none
  nextKey   := none
  oldKey    := none
  joinReq   := none
  joining   := none
  refusing  := none
  machineId := 0
  sleepNext := false
  sendSleep := false
  sendWake  := false
  waking    := false
  sendLeave := none
  sendRelay := false
  nextHop   := none
  lastValid := 0
  callUntil := none
  plans     := []
  inject    := []
  expect    := []
  downAt    := 0
  bulkAt    := 0

/-- A context takes a plan (R49): the newest stands, and those before it only as far as a span that begins now could
still carry them. -/
def AirCtx.takePlan (x : AirCtx) (p : AirPlan) : AirCtx :=
  match x.plans.getLast? with
  | some q => { x with plans := (if q.readyAt + 200000 ≤ p.readyAt then [q] else x.plans) ++ [p] }
  | none => { x with plans := [p] }

/-- A sealed layer of a frame or stop-window field that AIR builds (R304, Tables AIR-20 and AIR-21): the class, the slot
of its key, the IV, the bytes in clear (a header, a header with the beacon payload, the field bytes 0x00–0x12) and the
plaintext that the GCM encrypts. What the GCM gives of them, ciphertext and tag, is AES-256-GCM's (log entry 7). -/
structure Seal where
  cls   : Nat
  slot  : Nat
  iv    : List Byte
  clear : List Byte
  plain : List Byte
  deriving DecidableEq, Repr

/-- The payload of a packet to a head (Table AIR-12): a frame by its layers from the outermost in (the plaintext of a
wrapper is the next layer's frame), a stop-window field whose TAG is zero, a frame the firmware built, or none. -/
inductive AirLoad where
  | sealed (layers : List Seal)
  | raw (bytes : List Byte)
  | none
  deriving DecidableEq, Repr

/-- What AIR sends to a head (R295, R296): a FRAME_MARK with its advance in ns; a packet with SEQ, PTYPE, ARG. -/
inductive AirOut where
  | mark (head frame sfnLow advance : Nat)
  | packet (head seq ptype arg : Nat) (load : AirLoad)
  deriving DecidableEq, Repr

/-- AIR beside its registers. -/
structure AirRt where
  ctx       : Sp AirCtx
  /-- The first whole 100 ms of device time at or after the first ENABLE (R273). -/
  startAt   : Option Nat
  /-- Superframes are counted. -/
  counting  : Bool
  /-- Device time of the present superframe's start; while none is counted, of the last whole 100 ms passed. -/
  sfStart   : Nat
  /-- The superframe the last build was for. -/
  builtFor  : Option Nat
  /-- What that build loads to each head, for one whose link comes UP after it (R279). -/
  built     : Sp (List AirOut)
  /-- The last FRAME_MARK: SFN and place, 0 to 49 a frame, 50 on a gap frame. -/
  marked    : Option (Nat × Nat)
  sched     : Option Schedule
  /-- The announced schedule, its switch SFN, and the item while it lives. -/
  next      : Option (Schedule × Nat × Option Item)
  callTurn  : Nat
  /-- What the latest command that sends has sent. -/
  sent      : List AirOut
  /-- The latest PONG of a head: its ARG and payload. -/
  lastPong  : Option (Nat × Nat × List Byte)
  /-- Each head's receiver, the SEQ of the last packet it took, and the SEQ of the last packet sent to the head. -/
  links     : Sp LinkRx
  rxSeq     : Sp Nat
  txSeq     : Sp Nat
  deriving DecidableEq, Repr

/-- AIR at power-on. -/
def AirRt.reset : AirRt := ⟨[], none, false, 0, none, [], none, none, none, 0, [], none, [], [], []⟩

end Sys2Proof.Machine
end

