-- ==== Sys2Proof/Machine/PadTypes.lean ====
section
/-!
DEFINITION. What the paddock map, the sweeps and the gait planner hold beside their registers, and the records they read
(files 08, 09, 10).
-/

namespace Sys2Proof.Machine

/-! ### The map -/

/-- A reservation slot (Table PAD-2): OWNER 0 means none; `kind` set for UNCERTAIN. -/
structure Slot where
  owner : BitVec 8
  start : BitVec 14
  stop  : BitVec 14
  kind  : Bool
  deriving DecidableEq, Repr

/-- A slot with every field 0. -/
def Slot.zero : Slot := ⟨0, 0, 0, false⟩

/-- The reservation half of a cell word (Table PAD-1). -/
structure Slots where
  s0 : Slot
  s1 : Slot
  s2 : Slot
  deriving DecidableEq, Repr

/-- No reservation. -/
def Slots.zero : Slots := ⟨Slot.zero, Slot.zero, Slot.zero⟩

/-- The grid (R193): W and H in units of 64 cells, the cell size in cm, the south-west corner in mm. -/
structure PadGeom where
  w64  : Nat
  h64  : Nat
  cm   : Nat
  orgE : Int
  orgN : Int
  deriving DecidableEq, Repr

/-- A tile directory entry (R205). -/
structure PadDir where
  groom : Nat
  write : Nat
  live  : Nat
  deriving DecidableEq, Repr

/-- Static halves of the 4,096 cells of a tile in cell order, as runs of a length and a half. -/
abbrev Halves := List (Nat × BitVec 16)

/-- A tile record of an import file (R211, Table PAD-8): its data as runs of static halves (RAW as runs of one), whether
its CRC32C matches. -/
structure TileRec where
  x     : BitVec 16
  y     : BitVec 16
  enc   : BitVec 8
  len   : BitVec 32
  crcOk : Bool
  runs  : Halves
  deriving DecidableEq, Repr

/-- A paddock import file (R210, Table PAD-7): whether MAGIC and HDR_LEN are right, its header fields, its records,
whether BODY_HASH matches. -/
structure PadFile where
  magicOk : Bool
  format  : BitVec 16
  w64     : BitVec 16
  h64     : BitVec 16
  cm      : BitVec 8
  deflt   : BitVec 16
  orgE    : BitVec 32
  orgN    : BitVec 32
  frameX  : BitVec 64
  frameY  : BitVec 64
  frameZ  : BitVec 64
  fileLen : BitVec 32
  version : BitVec 32
  recs    : List TileRec
  hashOk  : Bool
  deriving DecidableEq, Repr

/-- A MAP_IMPORT that runs or is suspended (R212, R213): its handle, mode, file, the next record. -/
structure Importing where
  ring  : Nat
  tag   : Nat
  patch : Bool
  file  : PadFile
  at_   : Nat
  deriving DecidableEq, Repr

/-- A MAP_EXPORT that runs or is suspended (R214): its handle, WITH_RES, the next tile, bytes of records written. -/
structure Exporting where
  ring    : Nat
  tag     : Nat
  withRes : Bool
  at_     : Nat
  wrote   : Nat
  deriving DecidableEq, Repr

/-- A tile directory (R205): entries by tile; unlisted tiles have GROOM_TICK `base` and no live slot. -/
structure PadTable where
  base : Nat
  list : Sp PadDir
  deriving DecidableEq, Repr

/-- Who holds or waits for tile locks (R230): a sweep, a SET_HOLD or a RELEASE by its item, the groom block, the renewal of
a context, the disc writer as it writes a tile of a disc and as a disc ends, a long operation by its handle. -/
inductive Locker where
  | item (id : Nat)
  | groom
  | renew (ctx : Nat)
  | disc (ctx tile : Nat)
  | discEnd (ctx : Nat)
  | long (ring tag : Nat)
  deriving DecidableEq, Repr

/-- A SET_HOLD or RELEASE that waits for tile locks, with the cell word that fails when it acts. -/
structure PadWait where
  item : Item
  bad  : Option BadCell
  deriving DecidableEq, Repr

/-- A request for tile locks: the tiles in ascending order. -/
structure LockReq where
  who   : Locker
  tiles : List Nat
  deriving DecidableEq, Repr

/-! ### Sweeps -/

/-- A shape record (Table PAD-14). -/
structure ShapeRec where
  nvert : BitVec 8
  clear : BitVec 16
  cap   : BitVec 32
  verts : List (BitVec 16 × BitVec 16)
  deriving DecidableEq, Repr

/-- A context's shape: vertices in mm in the body frame, clearance, disc cap. -/
structure Shape where
  verts : List (Int × Int)
  clear : Nat
  cap   : Nat
  deriving DecidableEq, Repr

/-- A profile sample (Table PAD-16). -/
structure Sample where
  e       : BitVec 32
  n       : BitVec 32
  heading : BitVec 16
  v       : BitVec 16
  deriving DecidableEq, Repr

/-- A sweep request (Table PAD-15). -/
structure SweepReq where
  nsamp   : BitVec 16
  first   : BitVec 14
  seq     : BitVec 32
  samples : List Sample
  deriving DecidableEq, Repr

/-- A sweep that holds or waits for a place (R230), with the live parameters it started with (R23). -/
structure Sweep where
  item : Item
  req  : SweepReq
  live : Sp Word
  deriving DecidableEq, Repr

/-- The journal entry of a commit (R232): context, request, latched now, PR, and whether it is marked finished. -/
structure Journal where
  ctx  : Nat
  req  : SweepReq
  now  : Nat
  pr   : Nat
  finished : Bool
  deriving DecidableEq, Repr

/-- An uncertainty disc (R238): centre in mm, time origin in device time, r0 in 2^-20 mm, v_max, a_max, the cap in
2^-20 mm. -/
structure Disc where
  e   : Int
  n   : Int
  t0  : Nat
  r0  : Nat
  v   : Nat
  a   : Nat
  cap : Nat
  deriving DecidableEq, Repr

/-- The body of a mirror record (Table PAD-22); of a disc its centre in mm, time origin and r0 in 2^-20 mm. -/
inductive MirrorBody where
  | commit (req : SweepReq)
  | release
  | discOpen (e n : BitVec 32) (t0 r0 : Nat)
  | discEnd
  | shape (x : ShapeRec)
  deriving DecidableEq, Repr

/-- A mirror record (Table PAD-22); `wait` is the item whose completion awaits its acknowledgement (R243). -/
structure MirrorRec where
  seq  : Nat
  ctx  : Nat
  now  : Nat
  tick : Nat
  pr   : Nat
  cells : Nat
  crc  : BitVec 32
  reqSeq : Nat
  body : MirrorBody
  deriving DecidableEq, Repr

/-- A commit that awaits its partner's acknowledgement (R243): its item, its record's MSEQ, its results, whether its
plan is still to be packed. -/
structure SyncWait where
  item : Item
  seq  : Nat
  res  : Res
  pack : Bool
  deriving DecidableEq, Repr

/-- PAD beside its registers. -/
structure PadRt where
  geom    : Option PadGeom
  /-- Copy of the map area that is active. -/
  copy    : Nat
  /-- The static half of every tile without an entry of its own. -/
  deflt   : BitVec 16
  tiles   : Sp Halves
  /-- Reservation halves by 4,096 × tile index + cell order; unlisted cells have none. -/
  slots   : Sp Slots
  /-- The tile directory on chip, and its copy in DRAM (R205). -/
  dir     : PadTable
  dirDram : PadTable
  /-- Tiles the cache holds (R204), the most recently used first; it is write-through, so its words are those of the
  map. -/
  cache   : List Nat
  /-- Tile locks (R230): by tile, its holder and then those that wait, in arrival order; the requests, oldest first. -/
  locks   : Sp (List Locker)
  asks    : List LockReq
  waits   : List PadWait
  /-- The journal entry of the last commit. -/
  journal : Option Journal
  /-- The groom pass: the tick at which the present one began, the next tile, the highest age seen (R207). -/
  groomFrom : Option Nat
  groomNext : Nat
  groomMax  : Nat
  importing : Option Importing
  /-- MAP_EXPORTs that run or are suspended. -/
  exports : List Exporting
  shapes  : Sp Shape
  sweeps  : List Sweep
  discs   : Sp Disc
  /-- Contexts whose disc has ended, whose UNCERTAIN slots are still to be freed (R240). -/
  ending  : List Nat
  /-- END of the parked cells by context (R233). -/
  parks   : Sp Nat
  renewed : Nat
  /-- The last MSEQ; commits that await an acknowledgement. -/
  mseq    : Nat
  sync    : List SyncWait
  /-- The pair is declared broken (R243, R497). -/
  broken  : Bool
  deriving DecidableEq, Repr

/-- PAD after reset. -/
def PadRt.reset : PadRt :=
  ⟨none, 0, 0, [], [], ⟨0, []⟩, ⟨0, []⟩, [], [], [], [], none, none, 0, 0, none, [], [], [], [], [], [], 0, 0, [], false⟩

/-! ### GAIT -/

/-- A track record (R248): its points in mm, whether TRACK_CRC matches them. -/
structure TrackRec where
  id    : BitVec 16
  npt   : BitVec 16
  crc   : BitVec 32
  crcOk : Bool
  pts   : List (BitVec 32 × BitVec 32)
  deriving DecidableEq, Repr

/-- A track held. -/
structure Track where
  id  : Nat
  crc : Nat
  pts : List (Int × Int)
  deriving DecidableEq, Repr

/-- A context's limits (Table GAIT-3). -/
structure Limits where
  vMax  : Nat
  vRev  : Nat
  aMax  : Nat
  dMax  : Nat
  jMax  : Nat
  creep : Nat
  pause : Nat
  revOk : Bool
  deriving DecidableEq, Repr

/-- A plan knot (Table GAIT-7): duration in µs, jerk in mm/s³, END_V in mm/s. -/
structure Knot where
  dur  : Nat
  jerk : Int
  endV : Int
  deriving DecidableEq, Repr

/-- A plan (Table GAIT-6): PLAN_SEQ, T0, S0, V0, A0, its knots, FLAGS, the track, the grace end tick. -/
structure Plan where
  seq    : Nat
  t0     : Nat
  tick   : Nat
  s0     : Int
  v0     : Int
  a0     : Int
  knots  : List Knot
  flags  : Nat
  track  : Nat
  crc    : Nat
  grace  : Nat
  deriving DecidableEq, Repr

/-- A datum run (R265): its end point, its creep speed, the device time at which its last creep plan ends. -/
structure Datum where
  target : Int
  creep  : Nat
  endsAt : Nat
  deriving DecidableEq, Repr

/-- What an operation's plan changes when it commits (R247): a track, a target, a datum run; the plan's payload once it is
packed, PLAN_SEQ still 0. -/
structure Draft where
  plan   : Plan
  track  : Option Track
  target : Int
  datum  : Option Datum
  req    : SweepReq
  res    : Res
  packed : List Byte
  deriving DecidableEq, Repr

/-- What an operation asks of the replan it starts (R247, R249, R251, R265). -/
inductive Ask where
  | track (tr : Track) (joinS : Nat) (target : Int)
  | target (x : Int)
  | stop
  | datum (target : Int) (creep : Nat)
  deriving DecidableEq, Repr

/-- A context's GAIT state (R247, R253, R261, R269). -/
structure GaitCtx where
  track   : Option Track
  target  : Option Int
  limits  : Option Limits
  /-- Lowered D_MAX and J_MAX that await their takeover tick (R261). -/
  lowered : Option (Nat × Nat × Nat)
  plans   : List Plan
  seq     : Nat
  datum   : Option Datum
  deriving DecidableEq, Repr

/-- A context with no GAIT state. -/
def GaitCtx.reset : GaitCtx := ⟨none, none, none, none, [], 0, none⟩

/-- GAIT beside its registers: contexts, what each operation between its checks and its replan asks, and the profile of
each item between its replan and its packing. -/
structure GaitRt where
  ctx    : Sp GaitCtx
  asked  : Sp Ask
  drafts : Sp Draft
  deriving DecidableEq, Repr

/-- GAIT after reset. -/
def GaitRt.reset : GaitRt := ⟨[], [], []⟩

end Sys2Proof.Machine
end

