-- ==== Sys2Proof/Machine/BylTypes.lean ====
section
/-!
DEFINITION. What BYL holds beside its registers, and what arrives from the partner (file 21).
-/

namespace Sys2Proof.Machine

/-- A tile as TILE_DATA carries it (R489, R495): its index, static halves, slots by cell order, the MSEQ at its
snapshot. -/
structure TileSnap where
  tile  : Nat
  runs  : Halves
  slots : Sp Slots
  mseq  : Nat
  deriving DecidableEq, Repr

/-- The map geometry as TILE_DATA carries it: the grid where there is a map, the default half, MAP_VERSION. -/
structure MapSnap where
  geom    : Option PadGeom
  deflt   : BitVec 16
  version : BitVec 32
  deriving DecidableEq, Repr

/-- The payload of TILE_DATA. -/
inductive TileData where
  | geometry (m : MapSnap)
  | tile (x : TileSnap)
  deriving DecidableEq, Repr

/-- The payload of a HEARTBEAT (Table BYL-6). -/
structure Beat where
  dev     : BitVec 64
  sfn     : BitVec 48
  role    : BitVec 2
  yield   : Bool
  sync    : Bool
  stopped : Bool
  quality : BitVec 2
  schedId : BitVec 16
  mseq    : BitVec 32
  deriving DecidableEq, Repr

/-- The payload of a HELLO (R488): UID, NONCE, SENIOR, PAIR_EPOCH, the firmware and bundle epochs, SVC_VERSION, KEY_ID of
the pair secret. -/
structure Hello where
  uid    : BitVec 128
  nonce  : BitVec 128
  senior : Bool
  epoch  : BitVec 8
  fw     : BitVec 32
  bundle : BitVec 32
  svc    : BitVec 32
  keyId  : BitVec 32
  deriving DecidableEq, Repr

/-- What a chip sends in frames (Table BYL-5). -/
inductive BylOut where
  | hello (h : Hello)
  | confirm
  | heartbeat (b : Beat)
  /-- ACK_ONLY for a class, up to a SEQ. -/
  | ackOnly (cls seq : Nat)
  | recArm (capture : Nat)
  | recFire (time : Nat)
  | pad (r : MirrorRec)
  | ack (mseq : Nat)
  | gait (ctx : Nat)
  | session (ctx : Nat)
  /-- MIRROR_CONFIG: 0 the schedule, 1 the reference, 2 parameter blocks, 3 all of it. -/
  | config (what : Nat)
  | tileReq (tiles : List Nat)
  | tileData (d : TileData)
  deriving DecidableEq, Repr

/-- The class of a frame (Table BYL-5). -/
def BylOut.class_ : BylOut → Nat
  | .hello _ | .confirm | .heartbeat _ | .ackOnly _ _ | .recArm _ | .recFire _ => 0
  | .pad _ | .ack _ | .gait _ | .session _ | .config _ => 1
  | .tileReq _ | .tileData _ => 2

/-- Patterns of the hitch line as classified (Table BYL-2). -/
inductive Hitch where
  | absent | present | heldSenior | heldJunior
  deriving DecidableEq, Repr

/-- A HELD pattern. -/
def Hitch.isHeld : Hitch → Bool
  | .heldSenior | .heldJunior => true
  | _ => false

/-- What a chip claims the token for: at start, in a takeover (whether it opens discs), in a cold takeover, after a
handover that was not taken up. -/
inductive ClaimFor where
  | start | takeover (discs : Bool) | cold | reclaim
  deriving DecidableEq, Repr

/-- What HITCH_IN has just shown: a level held for `ns`, or the last periods of its wave in ns, oldest first (R481). -/
inductive HitchIn where
  | level (ns : Nat)
  | periods (l : List Nat)
  deriving DecidableEq, Repr

/-- What the lanes have brought since the latest command that reads them: each lane's 130-bit blocks in order (R485); and
what opening the sealed frame among them gives: its padded payload, none where its tag does not verify. -/
structure BylRx where
  lanes : List (List (BitVec 130))
  opens : Option (List (BitVec 8))
  deriving DecidableEq, Repr

/-- The payload of MIRROR_GAIT for a context (Table BYL-5). -/
structure GaitMirror where
  track  : Option Track
  limits : Option Limits
  target : Option Int
  plans  : List Plan
  deriving DecidableEq, Repr

/-- The payload of MIRROR_SESSION for a context (Table BYL-5): its state, rate and mode, the KEY_SFN of its session or of
a join in progress, the KEY_SFN of a rekey, its next hop, the last downlink FCNT. -/
structure SessMirror where
  state   : Fin 5
  rate20  : Bool
  compat  : Bool
  machineId : BitVec 64
  keySfn  : Option Nat
  rekey   : Option Nat
  nextHop : BitVec 8
  down    : BitVec 32
  deriving DecidableEq, Repr

/-- The payload of MIRROR_CONFIG (Table BYL-5), each part where the frame carries it: the schedule in force, the one
announced with its switch SFN, the reference position, the frame origin, parameter words by address. -/
structure ConfigMirror where
  sched  : Option Schedule
  next   : Option (Schedule × Nat)
  ref    : Option (BitVec 64 × BitVec 64 × BitVec 64)
  origin : Option (BitVec 64 × BitVec 64 × BitVec 64)
  params : List (BitVec 24 × Word)
  deriving DecidableEq, Repr

/-- A resynchronisation (R495): whether the geometry has arrived, the snapshot MSEQ of every tile that has, whether the
other state of Table BYL-7 has, whether it is complete. -/
structure Resync where
  geometry : Bool
  tiles    : Sp Nat
  other    : Bool
  done     : Bool
  deriving DecidableEq, Repr

/-- Nothing has arrived. -/
def Resync.reset : Resync := ⟨false, [], false, false⟩

/-- A PAIR_HANDOVER that runs (R501): its item, the superframe start it yields after, the instant it yielded. -/
structure Handover where
  item    : Item
  at_     : Nat
  yielded : Option Nat
  deriving DecidableEq, Repr

/-- BYL beside its registers. Instants are TIM cycles. -/
structure BylRt where
  /-- The line as classified and driven; since when HITCH_IN has shown no HELD pattern, since when ABSENT, and when it
  last ceased to show a HELD pattern. -/
  lineIn   : Hitch
  lineOut  : Hitch
  quietAt  : Option Nat
  absentAt : Option Nat
  freedAt  : Option Nat
  /-- A claim in progress: when HELD was driven (R482), and what for. -/
  claim    : Option (Nat × ClaimFor)
  /-- The chip has been HOT or ACTIVE, or has seen an ACTIVE partner: its start is over (R484, R500). -/
  begun    : Bool
  /-- The partner's HELLO, own NONCE, whether BYL holds the link key, the instant a CONFIRM failed. -/
  partner  : Option Hello
  nonce    : Nat
  linkKey  : Bool
  authFail : Option Nat
  /-- The lanes (R485, R486): the descrambler of each, chunks received that no command has taken yet, the blocks of the
  latest HELLO sent, the one-way delay in ns measured at training. -/
  rxScr    : List (BitVec 23)
  rxChunks : List (List (BitVec 8))
  line     : List (List (BitVec 130))
  delay    : Nat
  /-- Unacknowledged frames by class with their SEQ, the next SEQ to send, the next to accept, and the instant ACK last
  advanced (R490). -/
  tx       : Sp (List (Nat × BylOut))
  txNext   : Sp Nat
  rxNext   : Sp Nat
  ackAt    : Sp Nat
  /-- Heartbeats: the last multiple of 10 ms sent, the last payload and class 0 SEQ received, consecutive misses, the
  next multiple due, loss declared. -/
  beatSent : Nat
  last     : Option Beat
  lastSeq  : Option Nat
  misses   : Nat
  dueAt    : Nat
  lost     : Bool
  /-- When the link left UP, where that has not been settled (R497). -/
  linkLeft : Option Nat
  resync   : Resync
  /-- Condition 5 of R494 as the firmware's exchange over SVC_MSG has settled it; the reference position and the frame
  origin that the active has mirrored, in 0.1 mm. -/
  keysOk   : Bool
  ref      : Option (Int × Int × Int)
  origin   : Option (Int × Int × Int)
  /-- When the last head link left UP, or since when none has been (R483). -/
  headsAt  : Nat
  handover : Option Handover
  /-- Messages for the service firmware (class 3), oldest first. -/
  svcIn    : List (List (BitVec 8))
  /-- What the latest command that sends class 0 frames, or resends, has sent. -/
  sent     : List BylOut
  deriving DecidableEq, Repr

/-- BYL after reset at instant `at_`. -/
def BylRt.resetAt (at_ : Nat) : BylRt where
  lineIn   := .absent
  lineOut  := .absent
  quietAt  := some at_
  absentAt := some at_
  freedAt  := none
  claim    := none
  begun    := false
  partner  := none
  nonce    := 0
  linkKey  := false
  authFail := none
  rxScr    := []
  rxChunks := []
  line     := []
  delay    := 0
  tx       := []
  txNext   := []
  rxNext   := []
  ackAt    := []
  beatSent := 0
  last     := none
  lastSeq  := none
  misses   := 0
  dueAt    := 0
  lost     := false
  linkLeft := none
  resync   := Resync.reset
  keysOk   := false
  ref      := none
  origin   := none
  headsAt  := at_
  handover := none
  svcIn    := []
  sent     := []

/-- BYL at power-on. -/
def BylRt.reset : BylRt := BylRt.resetAt 0

end Sys2Proof.Machine
end

