-- ==== Sys2Proof/Machine/ChipTypes.lean ====
section
/-!
DEFINITION. What CHIP holds beside its registers (files 19, 20, 23): the part's OTP and flash as the boot reads them,
the boot record, the images that run, power and thermal state.
-/

namespace Sys2Proof.Machine

/-- A compatibility entry (R453, Table BOOT-8). -/
structure CompatEntry where
  fwMajor : BitVec 16
  fwLo    : BitVec 16
  fwHi    : BitVec 16
  gbMajor : BitVec 16
  gbLo    : BitVec 16
  gbHi    : BitVec 16
  withdraw : Bool
  deriving DecidableEq, Repr

/-- An entry of a bundle's parameter directory (R27, Table RGN-5): PARAM_ID, region, ACCESS, window offset, length in bytes,
default contents. -/
structure ParamBlock where
  id     : BitVec 16
  region : Nat
  access : Nat
  offset : Nat
  len    : Nat
  data   : List Word
  deriving DecidableEq, Repr

/-- A signature block (Table BOOT-6): its first 16 bytes, SHA-384 of its two public keys, and whether each signature verifies
over what it signs, under its context string. -/
structure SigBlock where
  head    : List Byte
  keyHash : Nat
  ecdsa   : Bool
  mldsa   : Bool
  deriving DecidableEq, Repr

/-- A firmware image or a bundle (Tables BOOT-5, RGN-3): its header bytes, SHA-384 of its payload, its signature block and
its compatibility table; in a bundle the table directory with the table images it names, the parameter directory with the
default contents it names, and MQF_Q_n_CFG and MQF_Q_n_LIM of queues 0 to 95 (R114), whose place in the bundle the spec
does not give. -/
structure Image where
  header    : List Byte
  hash      : Nat
  sig       : SigBlock
  compat    : List Byte
  dir       : List Byte
  tableImgs : List (List Byte)
  pdir      : List Byte
  defaults  : List (List Byte)
  queues    : List (Fin 96 × Word × Word)
  deriving DecidableEq, Repr

/-- An OTP request (R463): its 64-byte header, its signature block, and whether the fuses read back as programmed. -/
structure OtpReq where
  header   : List Byte
  sig      : SigBlock
  readback : Bool
  deriving DecidableEq, Repr

/-- What the unit of work that ends at a safe point has found, where its region computes it outside the model (R85): a
survey's position in mm and its sigma, ciphertext of a readout unit and whether DRAM held a bad word, the slot an
IMG_WRITE reads back, the hash of an export, a cell word of the map that reads with an uncorrectable error. -/
inductive LongUnit where
  | plain
  | survey (x y z : Int)
  | cipher (bytes : List Byte) (poison : Bool)
  | image (img : Image)
  | hash (bytes : List Byte)
  | badCell (b : BadCell)
  deriving DecidableEq, Repr

/-- An IMG_WRITE that runs or is suspended (R458): its handle, KIND, the slot it writes (B set), the image. -/
structure ImgWriting where
  ring   : Nat
  tag    : Nat
  bundle : Bool
  slotB  : Bool
  image  : Image
  deriving DecidableEq, Repr

/-- A boot record (Table BOOT-9). -/
structure BootRec where
  gen    : Nat
  fwPref : Bool
  gbPref : Bool
  trialFw : Bool
  trialGb : Bool
  tries  : Nat
  wait   : Nat
  deriving DecidableEq, Repr

/-- The flash (Table BOOT-3): image slots A and B of each kind, where they hold an image at all, and the bytes of the two copies
of the boot record. -/
structure Flash where
  fwA : Option Image
  fwB : Option Image
  gbA : Option Image
  gbB : Option Image
  rec0 : List Byte
  rec1 : List Byte
  deriving DecidableEq, Repr

/-- OTP (R3, R395, R450, R452, R453, R463): signing-key hashes by index, revoke fuses, anti-rollback counters, debug
policy fuses, WHOA configuration words, compatibility entries, device UID, key epoch fuses, tamper log and
acknowledgement fuses (R396), EXHAUSTED. -/
structure Otp where
  keys    : Sp Nat
  revoked : Nat
  rollFw  : Nat
  rollGb  : Nat
  locked  : Bool
  disabled : Bool
  whoa    : List Word
  compat  : List CompatEntry
  uid     : BitVec 128
  epochs  : Nat
  tampers : Nat
  acks    : Nat
  exhausted : Bool
  deriving DecidableEq, Repr

/-- A blank OTP. -/
def Otp.blank : Otp := ⟨[], 0, 0, 0, false, false, [], [], 0, 0, 0, 0, false⟩

/-- A part as fitted on its board: grade, OTP, the ROM compatibility table, flash where one answers, the GiB that training
finds on each LPDDR5 channel (R434), whether the PUF reconstructs (R394). -/
structure Part where
  grade : Nat
  otp   : Otp
  rom   : List CompatEntry
  flash : Option Flash
  dram  : List Nat
  pufOk : Bool
  deriving DecidableEq, Repr

/-- No part fitted. -/
def Part.blank : Part := ⟨0, Otp.blank, [], none, [], false⟩

/-- CHIP beside its registers. Instants are TIM cycles since power-on. -/
structure ChipRt where
  powered  : Bool
  part     : Part
  straps   : BitVec 2
  senior   : Bool
  /-- The images that run. -/
  fw       : Option Image
  gb       : Option Image
  /-- End of CONFIRM_WAIT of a trial boot (R457), and the reset of IMG_ACTIVATE (R458)
  with the identity of the item whose completion it follows. -/
  confirmAt : Option Nat
  resetAt  : Option (Nat × Nat)
  /-- The policy is UNLOCKED until the next reset (R464). -/
  unlocked : Bool
  /-- Stabled, or waking from it; when a wake source was confirmed (R475). -/
  stabled  : Bool
  wakeAt   : Option Nat
  /-- Consecutive readings at or above the threshold of each level, and since when the hottest reading has stayed 5 °C
  below each level's threshold (R471). -/
  hotRun   : Sp Nat
  coolFrom : Sp (Option Nat)
  /-- A full chip reset held until the thermal level falls to 1 or below (Table PWR-5). -/
  heldReset : Bool
  /-- Attempts to bring the rails up (R467); the chip waits in the always-on domain for them. -/
  railTries : Nat
  railWait : Bool
  /-- Full chip resets by chip error, on the always-on clock (R537). -/
  errResets : List Nat
  writing  : Option ImgWriting
  /-- Outputs of CHIP: HEAD_n_WAKE (all eight driven alike), PWR_EN_MAIN and PWR_EN_DDR (driven alike) (R467, R474). -/
  headWake : Bool
  pwrEn    : Bool
  deriving DecidableEq, Repr

/-- CHIP at power-on, no part known. -/
def ChipRt.reset : ChipRt :=
  ⟨true, Part.blank, 0, false, none, none, none, none, false, false, none, [], [], false, 0, false, [], none, false, false⟩

end Sys2Proof.Machine
end

