-- ==== Sys2Proof/Machine/FabricTypes.lean ====
section
/-!
DEFINITION. The runtime state that regions, rings, dispatcher and queues hold beside their registers (files 01 to 04).
-/

namespace Sys2Proof.Machine

/-- Kinds of cells (R30): a pooled cell may be retired, an identity-bearing cell escalates to a block error. -/
inductive CellKind where
  | trackingChannel | acquisitionEngine | solverLane | searchUnit | sweeperLane | plannerLane | bylLane | svcCore
  | ring | flow | queue | context | keySlot | cueSlot | head | port | captureSource
  deriving DecidableEq, Repr

/-- The pooled kinds of R30. -/
def CellKind.pooled : CellKind → Bool
  | .trackingChannel | .acquisitionEngine | .solverLane | .searchUnit | .sweeperLane | .plannerLane | .bylLane
  | .svcCore => true
  | _ => false

/-- An access of a region to a DRAM address, for an item where it is for one (R437). -/
structure DramAccess where
  addr  : Nat
  write : Bool
  item  : Option Nat
  deriving DecidableEq, Repr

/-- Causes of TAG_RGN_ERR_INFO.CAUSE (Table RGN-10). -/
inductive ErrCause where
  | parity | ecc | computation | illegalStep | stepWatchdog | tableCrc | handshake | escalation | software | linkReset
  | obsAdmission
  deriving DecidableEq, Repr

/-- The code of a cause (Table RGN-10). -/
def ErrCause.code : ErrCause → Nat
  | .parity => 1 | .ecc => 2 | .computation => 3 | .illegalStep => 4 | .stepWatchdog => 5 | .tableCrc => 6
  | .handshake => 7 | .escalation => 8 | .software => 9 | .linkReset => 10 | .obsAdmission => 11

/-! ### Blocks (Table RGN-1)

A block's index is its place in the list that Table RGN-1 gives its region, counted from 0 (DEDUCED, log entry 115); the
admission block of DSP, which the table does not name, is the ready lists' (R100). -/

/-- HIF: fetch, completion writer. -/
abbrev blkFetch : Nat := 0
/-- HIF: completion writer. -/
abbrev blkWriter : Nat := 1
/-- DSP: ready lists, which admit and dispatch. -/
abbrev blkReady : Nat := 0
/-- DSP: flow release. -/
abbrev blkRelease : Nat := 1
/-- MQF: queue block, after two DRAM channels and the SRAM pool. -/
abbrev blkQueues : Nat := 3
/-- MQF: the first DRAM channel. -/
abbrev blkDram : Nat := 0
/-- GNB: front end of band `b`. -/
abbrev blkFront (b : Nat) : Nat := b
/-- GNB: acquisition. -/
abbrev blkAcquire : Nat := 2
/-- GNB: tracking. -/
abbrev blkTrack : Nat := 3
/-- FIX: solver array. -/
abbrev blkSolver : Nat := 0
/-- FIX: integer search. -/
abbrev blkSearch : Nat := 1
/-- PAD: sweeper. -/
abbrev blkSweeper : Nat := 0
/-- PAD: tile cache. -/
abbrev blkTiles : Nat := 1
/-- PAD: groom. -/
abbrev blkGroom : Nat := 2
/-- GAIT: planner. -/
abbrev blkPlanner : Nat := 0
/-- GAIT: knot packer. -/
abbrev blkPacker : Nat := 1
/-- AIR: schedule. -/
abbrev blkSched : Nat := 0
/-- AIR: crypto. -/
abbrev blkCrypto : Nat := 1
/-- AIR: relay. -/
abbrev blkRelay : Nat := 2
/-- AIR: head-link. -/
abbrev blkHeads : Nat := 3
/-- NET: MAC of port `p`. -/
abbrev blkPort (p : Nat) : Nat := p
/-- TIM: servo, after the counter. -/
abbrev blkServo : Nat := 1
/-- TIM: PTP trackers. -/
abbrev blkPtp : Nat := 2
/-- TIM: cues. -/
abbrev blkCues : Nat := 3
/-- TACK: key slots. -/
abbrev blkSlots : Nat := 0
/-- TACK: crypto engines. -/
abbrev blkEngines : Nat := 1
/-- TACK: tamper. -/
abbrev blkTamper : Nat := 2
/-- REC: trigger. -/
abbrev blkTrigger : Nat := 0
/-- REC: acquisition. -/
abbrev blkCapture : Nat := 1
/-- REC: readout. -/
abbrev blkReadout : Nat := 2
/-- BYL: lanes. -/
abbrev blkLanes : Nat := 0
/-- BYL: hitch line. -/
abbrev blkHitch : Nat := 1

/-- The block that executes an operation of a region (DEDUCED from the names of the blocks, log entry 115). -/
def blockOf (op : Nat) : Nat :=
  match op / 0x1000 with
  | 5 => blkTrack
  | 6 => blkSolver
  | 7 => if op < 0x7010 then blkTiles else blkSweeper
  | 8 => blkPlanner
  | 9 => if op = 0x9015 ∨ op = 0x9017 then blkRelay else if op = 0x9016 ∨ op = 0x9018 then blkCrypto else blkSched
  | 11 => if op = 0xB001 then blkCues else if op = 0xB004 then blkPtp else blkServo
  | 12 => blkEngines
  | 14 => if op = 0xE004 then blkReadout else blkTrigger
  | 15 => blkHitch
  | _ => 0

/-- A handshake port (R15 to R18): sender and receiver region codes, the block of the receiver that owns the port, the
item offered or held, whether the request toggle has been made and taken, and when. -/
structure HsPort where
  sender   : Nat
  receiver : Nat
  block    : Nat
  item     : Option Item
  taken    : Bool
  since    : Nat
  deriving DecidableEq, Repr

/-- What the regions' error handling remembers (R30 to R38): instants are TIM cycles since power-on. -/
structure RgnRt where
  /-- Cell errors of the last second: region, cell, instant. -/
  cellErrs : List (Nat × Nat × Nat)
  /-- Retired cells (R30): region, cell. -/
  retired  : List (Nat × Nat)
  /-- Block restarts: region, block, instant. -/
  blkErrs  : List (Nat × Nat × Nat)
  /-- Blocks now restarting (R31): region, block. -/
  restarting : List (Nat × Nat)
  /-- Region resets that count toward R34: region, instant. -/
  resets   : List (Nat × Nat)
  /-- Handshake ports with an item offered. -/
  hs       : List HsPort
  /-- Items a region has taken at a crossing whose acknowledge the sender has seen (R15): region, item, in the order
  taken. -/
  inbox    : List (Nat × Item)
  /-- The crossing served last by receiver and level (Table RGN-2): 8 × receiver + level; sender × 256 + block. -/
  turn     : Sp Nat
  /-- Level of the error that TAG_RGN_ERR_INFO holds, by region, plus 1; 0 none since TAG_RGN_ERR was cleared. -/
  infoLevel : Sp Nat
  deriving DecidableEq, Repr

/-- No error remembered. -/
def RgnRt.reset : RgnRt := ⟨[], [], [], [], [], [], [], [], []⟩

/-- How a completion that waits in HIF is to be written (R77 to R80). -/
inductive FinKind where
  /-- With its fetch-log records (R77), where the item was fetched from the ring. -/
  | normal
  /-- Held over a fresh enable: without log records (R79). -/
  | stale
  /-- FAIL_RESET for a fetched record found by the scan of R78, followed by its COMPLETE record. -/
  | recovery
  deriving DecidableEq, Repr

/-- A completion that waits in HIF for its ring (R61). -/
structure Fin_ where
  kind : FinKind
  item : Item
  c    : Completion
  deriving DecidableEq, Repr

/-- States of a fetch-log record (Table HIF-7). -/
inductive LogState where
  | empty | fetched | completing | complete
  deriving DecidableEq, Repr

/-- The code of a log state (Table HIF-7). -/
def LogState.code : LogState → Nat
  | .empty => 0 | .fetched => 1 | .completing => 2 | .complete => 3

/-- A fetch-log record as the device reads it in a recovery (R78), with, for a COMPLETING record, PHASE and TAG of
the completion entry at CQ_INDEX. -/
structure LogRec where
  state   : LogState
  tag     : BitVec 16
  index   : BitVec 32
  cqIndex : BitVec 32
  flow    : BitVec 16
  opcode  : BitVec 16
  cqPhase : Bool
  cqTag   : BitVec 16
  deriving DecidableEq, Repr

/-- A ring beside its registers. -/
structure RingRt where
  tail      : Nat
  cqHead    : Nat
  keptTail  : Option Nat
  keptHead  : Option Nat
  evSeq     : Nat
  /-- Items fetched, or released by a cue, whose completion is not yet written, in fetch order. -/
  out       : List Item
  /-- Ended items whose completion waits for its writing. -/
  fin       : List Fin_
  /-- Items still running that a fresh enable found outstanding (R79), by identity. -/
  staleIds  : List Nat
  /-- Completions still to be written before a recovery is done, from the front of `fin` (R78). -/
  recPend   : Nat
  /-- FAIL_RESET completions the recovery has written. -/
  recFailed : Nat
  /-- Completions since the vector last fired, and the instant of the first of them (R89). -/
  irqCount  : Nat
  irqFirst  : Option Nat
  deriving DecidableEq, Repr

/-- A ring never enabled. -/
def RingRt.reset : RingRt := ⟨0, 0, none, none, 0, [], [], [], 0, 0, 0, none⟩

/-- The PCIe function (R57, R58, Tables HIF-1 and HIF-2): Device Control, the power state, the MSI-X table by word and the vectors that fired while masked. -/
structure PcieRt where
  /-- Max payload size: 128 × 2^n bytes. -/
  mps     : Nat
  /-- Max read request size: 128 × 2^n bytes. -/
  mrrs    : Nat
  relaxed : Bool
  /-- D3hot; else D0. -/
  d3hot   : Bool
  /-- The 288 words of the MSI-X table; an unlisted word holds `msixInit`. -/
  msix    : Sp Word
  /-- The pending bit array. -/
  pba     : List Nat
  deriving DecidableEq, Repr

/-- What a word of the MSI-X table holds after a reset: the Mask bit of each entry's last word set (PRESUMED, log entry
116). -/
def msixInit (w : Nat) : Word := if w % 4 = 3 then 1 else 0

/-- The PCIe function after reset: 128-byte payloads, 512-byte reads, relaxed ordering enabled, D0 (PRESUMED, log entry
116). -/
def PcieRt.reset : PcieRt := ⟨0, 2, true, false, [], []⟩

/-- HIF beside its registers. -/
structure HifRt where
  rings   : Sp RingRt
  /-- Identity of the next item. -/
  nextId  : Nat
  longs   : List LongOp
  linkUp  : Bool
  /-- Owners in force (R54): bits [4:0] of SVC_POLICY_OWN as taken at the last superframe start. -/
  own     : Nat
  /-- Every function reverts at the next superframe start (R55). -/
  revert  : Bool
  /-- The last doorbell of the EVT_RING ring, and the SVC_HOST_WDOG in force (R56). -/
  wdogLast : Nat
  wdogMs  : Nat
  /-- MSI-X firings by vector (R88). -/
  vectors : Sp Nat
  /-- Completions and events that wait at their source for the staging buffer of MQF queue 0, by region code (R114). -/
  evtWait : List (Nat × Item × Completion)
  /-- The PCIe function beside its rings (R57, R58). -/
  pcie    : PcieRt
  deriving DecidableEq, Repr

/-- HIF after reset. -/
def HifRt.reset : HifRt := ⟨[], 0, [], false, 0, false, 0, 2000, [], [], PcieRt.reset⟩

/-- Where an item in DSP stands. -/
inductive Place where
  | waiting (st : Stage) (since : Nat)
  | at_ (st : Stage)
  | ended (c : Completion)
  deriving DecidableEq, Repr

/-- A pool entry (R97): its item, its flow, whether it is an OBS reserve entry, and where the item stands. -/
structure Entry where
  item    : Item
  flow    : Nat
  reserve : Bool
  place   : Place
  deriving DecidableEq, Repr

/-- Waiting-time statistics of a flow (R101). -/
structure WaitStat where
  min_  : Nat
  max_  : Nat
  count : Nat
  sum   : Nat
  hist  : Sp Nat
  deriving DecidableEq, Repr

/-- No waits counted. -/
def WaitStat.zero : WaitStat := ⟨0xFFFFFFFF, 0, 0, 0, []⟩

/-- DSP beside its registers: pool entries in the order they entered, items at each source port (Table DSP-1),
round-robin positions by stage position and level, statistics by flow. -/
structure DspRt where
  entries : List Entry
  ports   : Sp (List Item)
  turn    : Sp Nat
  stats   : Sp WaitStat
  deriving DecidableEq, Repr

/-- DSP after reset. -/
def DspRt.reset : DspRt := ⟨[], [], [], []⟩

/-- A queue word (R104, Table DSP-10), and for a POISON word the region and cell of its parity check (R29). -/
structure QWord where
  data   : BitVec 64
  tag    : BitVec 3
  parity : Bool
  origin : Option (Nat × Nat)
  deriving DecidableEq, Repr

/-- The parity of the bits of a word. -/
def oddOnes (n v : Nat) : Bool :=
  match n with
  | 0 => false
  | n + 1 => (v % 2 == 1) != oddOnes n (v / 2)

/-- A word with even parity over its 68 bits. -/
def QWord.mk' (d : BitVec 64) (tag : BitVec 3) (origin : Option (Nat × Nat) := none) : QWord :=
  ⟨d, tag, oddOnes 64 d.toNat != oddOnes 3 tag.toNat, origin⟩

/-- The idle item (R106). -/
def QWord.idle : QWord := QWord.mk' 0xFFFFFFFFFFFFFFFF#64 6#3

/-- A packet on its way into a queue: flow and defined word of its LEN word (R109), its data words, the origins of those
that carry POISON, and for a completion or event on its way to queue 0 the item it ends. -/
structure Packet where
  flow   : BitVec 10
  word   : BitVec 32
  data   : List (BitVec 64)
  poison : Sp (Nat × Nat)
  ends   : Option (Item × Completion)
  deriving DecidableEq, Repr

/-- What a producer does in a cycle (R108 to R110): push a word (word mode, or the next word of the open packet), open
a packet, or close it with its flow and defined word. A word that carries POISON from another region keeps the origin of
its parity check (R29). -/
inductive QPush where
  | word (d : BitVec 64) (poison : Option (Nat × Nat))
  | openPkt
  | closePkt (flow : BitVec 10) (w : BitVec 32)
  deriving DecidableEq, Repr

/-- A queue beside its registers. The packet records keep the boundaries of each bank (R111): words of each packet,
LEN word included. -/
structure QueueRt where
  drain   : List QWord
  fill    : List QWord
  drainPk : List Nat
  fillPk  : List Nat
  /-- Data words of the open packet; none while no packet is open. -/
  open_   : Option Nat
  /-- The producer overran its packet: its words are discarded up to its close (R110). -/
  overran    : Bool
  /-- Words left of a packet whose LEN word failed parity (R111). -/
  poison  : Nat
  lastRead : Nat
  /-- The consumer has started to read: it goes on until the drain bank is empty (R112). -/
  reading : Bool
  /-- Last word popped. -/
  popped  : Option QWord
  deriving DecidableEq, Repr

/-- An empty queue. -/
def QueueRt.reset : QueueRt := ⟨[], [], [], [], none, false, 0, 0, false, none⟩

/-- MQF's queues: runtime by queue, closed packets in the staging buffers of the merge queues (R115) and packets still
being written there, by 16 × queue + region code, the region served last by queue. -/
structure MqfRt where
  queues  : Sp QueueRt
  staging : Sp Packet
  building : Sp Packet
  served  : Sp Nat
  deriving DecidableEq, Repr

/-- Empty queues. -/
def MqfRt.reset : MqfRt := ⟨[], [], [], []⟩

/-- The state of one requester at the register windows (R531, R532): the 64-bit latch, the write shadow, and its
previous access by window: address and whether it was a write. -/
structure BusRt where
  latch    : Word
  shadow   : Word
  last     : Sp (Nat × Bool)
  /-- What the last read returned. -/
  readData : Word
  deriving DecidableEq, Repr

/-- A requester that has made no access. -/
def BusRt.reset : BusRt := ⟨0, 0, [], 0⟩

end Sys2Proof.Machine
end

