-- ==== Sys2Proof/Machine/Fx.lean ====
section
/-!
DEFINITION. The real numbers of the fix solver (R151): fixed point with 64 fraction bits in place of FP64, whose order of
operations the spec does not give (DESIGN CHOICE, log entry 122), and the arithmetic of position: sines, vectors, the
axes east, north and up on the WGS84 ellipsoid (R160).
-/

namespace Sys2Proof.Machine

/-! ### Square roots -/

/-- Bits of the integer square root from bit `k` down. -/
def isqrtFrom (n : Nat) (k acc : Nat) : Nat :=
  match k with
  | 0 => if (acc + 1) * (acc + 1) ≤ n then acc + 1 else acc
  | k + 1 =>
    let x := acc + 2 ^ (k + 1)
    isqrtFrom n k (if x * x ≤ n then x else acc)

/-- The integer square root of a number below 2^128, rounded down. -/
def isqrt (n : Nat) : Nat := isqrtFrom n 63 0

/-! ### Fixed point -/

/-- A real number as the integer nearest below its 2^64-fold. -/
abbrev Fx := Int

/-- 1. -/
def fxOne : Fx := 2 ^ 64

/-- `n`/`d`. -/
def fxOf (n : Int) (d : Nat) : Fx := n * 2 ^ 64 / d

/-- The product. -/
def fxMul (a b : Fx) : Fx := a * b / 2 ^ 64

/-- The quotient; 0 where the divisor is 0. -/
def fxDiv (a b : Fx) : Fx := a * 2 ^ 64 / b

/-- The square root; 0 of a negative number. -/
def fxSqrt (a : Fx) : Fx := (isqrtFrom (a * 2 ^ 64).toNat 127 0 : Nat)

/-- `a` times `d`, rounded to the nearest integer. -/
def fxRound (a : Fx) (d : Nat) : Int := (2 * a * d + 2 ^ 64) / 2 ^ 65

/-- The sum of a list. -/
def sumInt (l : List Int) : Int := l.foldl (· + ·) 0

/-- π. -/
def fxPi : Fx := 0x3243F6A8885A308D3

/-- The series of the sine from the term `t` of degree `k` on; `x2` is the square of the angle. -/
def sineFrom (x2 t : Fx) (k n : Nat) : Fx :=
  match n with
  | 0 => t
  | n + 1 => t + sineFrom x2 (-(fxMul t x2) / ((k + 1) * (k + 2) : Nat)) (k + 2) n

/-- The sine of an angle in 0.01°, from −90° to 90°. -/
def sine (h : Int) : Fx :=
  let x := h * fxPi / 18000
  sineFrom (fxMul x x) x 1 12

/-- The angle in 0.01°, from −90° to 90°, whose sine is nearest below `v`; `k` halvings of the span above `lo`. -/
def arcsineFrom (v : Fx) (lo : Int) (k : Nat) : Int :=
  match k with
  | 0 => lo
  | k + 1 =>
    let m := lo + 2 ^ k
    arcsineFrom v (if m ≤ 9000 ∧ sine m ≤ v then m else lo) k

/-- The angle in 0.01° of a sine. -/
def arcsine (v : Fx) : Int := arcsineFrom v (-9000) 15

/-! ### Vectors -/

/-- A vector. -/
structure Vec where
  x : Fx
  y : Fx
  z : Fx
  deriving DecidableEq, Repr

/-- The zero vector. -/
def Vec.zero : Vec := ⟨0, 0, 0⟩

/-- A position given in 0.1 mm. -/
def Vec.ofTenths (x y z : Int) : Vec := ⟨fxOf x 10000, fxOf y 10000, fxOf z 10000⟩

/-- The sum. -/
def Vec.add (a b : Vec) : Vec := ⟨a.x + b.x, a.y + b.y, a.z + b.z⟩

/-- The difference. -/
def Vec.sub (a b : Vec) : Vec := ⟨a.x - b.x, a.y - b.y, a.z - b.z⟩

/-- A multiple. -/
def Vec.scale (k : Fx) (a : Vec) : Vec := ⟨fxMul k a.x, fxMul k a.y, fxMul k a.z⟩

/-- The inner product. -/
def Vec.dot (a b : Vec) : Fx := fxMul a.x b.x + fxMul a.y b.y + fxMul a.z b.z

/-- The length. -/
def Vec.len (a : Vec) : Fx := fxSqrt (a.dot a)

/-- The vector of length 1 in its direction. -/
def Vec.unit (a : Vec) : Vec :=
  let l := a.len
  ⟨fxDiv a.x l, fxDiv a.y l, fxDiv a.z l⟩

/-! ### The axes at a place (R160) -/

/-- Axes at a place. -/
structure Axes where
  east  : Vec
  north : Vec
  up    : Vec
  deriving DecidableEq, Repr

/-- The semi-major and semi-minor axis of WGS84 in m (PRESUMED: the spec names the ellipsoid only, log entry 123). -/
def wgsA : Fx := fxOf 6378137 1
/-- The semi-minor axis. -/
def wgsB : Fx := fxOf 635675231424518 100000000

/-- The axes east, north and up at an ECEF position, by the closed formula for the geodetic latitude. -/
def axesAt (r : Vec) : Axes :=
  let p := fxSqrt (fxMul r.x r.x + fxMul r.y r.y)
  let q : Vec := ⟨fxMul p wgsB, fxMul r.z wgsA, 0⟩
  let b := q.unit
  let cube (v : Fx) := fxMul v (fxMul v v)
  let d := fxMul wgsA wgsA - fxMul wgsB wgsB
  let n : Vec := (Vec.mk (p - fxMul (fxDiv d wgsA) (cube b.x)) (r.z + fxMul (fxDiv d wgsB) (cube b.y)) 0).unit
  let c := fxDiv r.x p
  let s := fxDiv r.y p
  { east  := ⟨-s, c, 0⟩
    north := ⟨-(fxMul n.y c), -(fxMul n.y s), n.x⟩
    up    := ⟨fxMul n.x c, fxMul n.x s, n.y⟩ }

/-- The components of a vector along the axes. -/
def Axes.of (a : Axes) (v : Vec) : Vec := ⟨a.east.dot v, a.north.dot v, a.up.dot v⟩

end Sys2Proof.Machine
end

