-- ==== Sys2Proof/Machine/FixTypes.lean ====
section
/-!
DEFINITION. What the base receiver and the fix solver hold beside their registers (files 05, 06, 07).
-/

namespace Sys2Proof.Machine

/-! ### GNB -/

/-- What a band port carries in a bit-time: D0, D1 and FRM (R117, R118). -/
structure PortBit where
  d0  : Bool
  d1  : Bool
  frm : Bool
  deriving DecidableEq, Repr

/-- The sampling of a band port (R118 to R121): FRM in the last bit-time, the bits of the sample in progress, the run of
correct samples while out of sync, the samples since each wrong one of the last 256; since the last count of R119, the
samples and whether the port has been in sync throughout; since the last gain update, the samples and the sum of the
magnitudes of both levels. -/
structure Sampler where
  lastFrm : Bool
  bits    : List PortBit
  good    : Nat
  wrongs  : List Nat
  count   : Nat
  whole   : Bool
  meas    : Nat
  level   : Nat
  deriving DecidableEq, Repr

/-- A port that has carried nothing. -/
def Sampler.reset : Sampler := ⟨false, [], 0, [], 0, false, 0, 0⟩

/-- A tracked signal (R124, R125): system, PRN and signal code; SLIP owed to its next record; since when it coasts; since
when its carrier is locked; the last C/N0 in 0.25 dB-Hz and elevation in 0.01°; a fault of its channel since the last
epoch (R128). -/
structure Chan where
  sys    : Nat
  prn    : Nat
  sig    : Nat
  slip   : Bool
  coast  : Option Nat
  lockAt : Nat
  cn0    : Nat
  elev   : Int
  fault  : Bool
  deriving DecidableEq, Repr

/-- A signal that an acquisition engine can hand over (R125): PRN, signal code, elevation in 0.01°. -/
structure SigCand where
  prn  : BitVec 6
  sig  : Fin 6
  elev : Int
  deriving DecidableEq, Repr

/-- What a channel measures at an epoch (R127): `relock` where carrier lock was lost or reset since the previous epoch,
with the ms of lock since. -/
structure Meas where
  chan    : Nat
  relock  : Option (BitVec 32)
  half    : Bool
  cn0     : BitVec 8
  pr      : BitVec 48
  prSd    : BitVec 16
  cp      : BitVec 64
  doppler : BitVec 32
  elev    : BitVec 16
  azim    : BitVec 16
  deriving DecidableEq, Repr

/-- A notch of a port (R122): spectral bin from the band centre, and when its line was last above the threshold. -/
structure Notch where
  bin  : Int
  last : Nat
  deriving DecidableEq, Repr

/-- A band port beside its registers: its sampling, notches, bins that qualified in the last FFT, the AGC duties of the
last second each with the instant it was set, whether AGC_JUMP stands, and whether more than four lines qualify. -/
structure BandPort where
  rx      : Sampler
  notches : List Notch
  prev    : List Int
  duties  : List (Nat × Nat)
  jumped  : Bool
  overran : Bool
  deriving DecidableEq, Repr

/-- A port with no history. -/
def BandPort.reset : BandPort := ⟨Sampler.reset, [], [], [], false, false⟩

/-- A self-survey that runs or is suspended (R133): its handle, when it last counted a second or was resumed, the device
second of its last unit, the sums of the counted solutions in 0.1 mm and of their squares. -/
structure Survey where
  ring    : Nat
  tag     : Nat
  last    : Nat
  sec     : Nat
  sum     : Int × Int × Int
  sumSq   : Nat × Nat × Nat
  deriving DecidableEq, Repr

/-- A signal record of a base observation item (Table GNB-5), with the system of its satellite. -/
structure BaseSig where
  sys     : Nat
  prn     : Nat
  sig     : Nat
  half    : Bool
  slip    : Bool
  notched : Bool
  cn0     : BitVec 8
  chan    : Nat
  lockMs  : BitVec 32
  pr      : BitVec 48
  prSd    : BitVec 16
  cp      : BitVec 64
  doppler : BitVec 32
  elev    : BitVec 16
  azim    : BitVec 16
  deriving DecidableEq, Repr

/-- A base observation item (Table GNB-4). -/
structure BaseItem where
  epoch    : Nat
  sampled  : Nat
  seq      : Nat
  refValid : Bool
  refChanged : Bool
  down     : Bool × Bool
  refSeq   : Nat
  bias     : Int
  drift    : Int
  ref      : Int × Int × Int
  sigs     : List BaseSig
  deriving DecidableEq, Repr

/-- What the ephemeris of a satellite gives at an epoch (R146, R175): its ECEF position at transmit time and the satellite
clock and troposphere terms of the base's range, in 0.1 mm. -/
structure SvRange where
  sys  : Nat
  prn  : Nat
  x    : Int
  y    : Int
  z    : Int
  corr : Int
  deriving DecidableEq, Repr

/-- A cell of an MSM message (R186): satellite, RTCM signal code, lock-time indicator, half-cycle indicator, CNR. -/
structure MsmCell where
  prn  : Nat
  code : String
  lock : Nat
  half : Bool
  cnr  : Nat
  deriving DecidableEq, Repr

/-- An RTCM message as sent to a destination of Table INT-3 (R186 to R188): message number, station, time of week in ms,
the multiple-message bit, satellites and cells of an MSM; of a 1005 the bytes of its frame; the destination's address,
UDP port and NET port. -/
structure RtcmOut where
  msg     : Nat
  station : Nat
  tow     : Nat
  multi   : Bool
  sats    : List Nat
  cells   : List MsmCell
  frame   : List Byte
  ip      : Nat
  udp     : Nat
  portB   : Bool
  deriving DecidableEq, Repr

/-- GNB beside its registers. -/
structure GnbRt where
  chans    : Sp Chan
  /-- Disabled satellites (R125): 64 × system + PRN. -/
  disabled : List Nat
  ports    : Sp BandPort
  /-- Antenna (R123): the class run, SHORT classes in succession, when a SHORT cut the bias. -/
  runClass : Nat
  runLen   : Nat
  shorts   : Nat
  offAt    : Option Nat
  survey   : Option Survey
  /-- A reference that waits for its first epoch (R132): position, earliest measurement time. -/
  newRef   : Option (Nat × Nat × Nat × Nat)
  /-- An applied reference that no item has carried yet (R132). -/
  refNew   : Bool
  seq      : Nat
  history  : List BaseItem
  /-- Packets that wait for queue 25. -/
  outPk    : List Packet
  /-- The next record of every signal carries SLIP (R139); the clock tests skip the next epoch (R180). -/
  allSlip  : Bool
  skipTest : Bool
  /-- Bursts in a row without a clock solution (R138), the device second of the last burst, and the channels it tracked
  (R137). -/
  emptyBursts : Nat
  burstSec : Nat
  burst    : List Nat
  rtcm     : List RtcmOut
  deriving DecidableEq, Repr

/-- GNB after reset. -/
def GnbRt.reset : GnbRt :=
  ⟨[], [], [], 0, 0, 0, none, none, none, false, 0, [], [], false, false, 0, 0, [], []⟩

/-! ### FIX -/

/-- A FIX item (Table FIX-9). -/
structure FixRec where
  epoch   : BitVec 64
  context : BitVec 8
  state   : BitVec 3
  ndd     : BitVec 6
  nfix    : BitVec 6
  flags   : BitVec 16
  ratio   : BitVec 16
  e       : BitVec 32
  n       : BitVec 32
  u       : BitVec 32
  ve      : BitVec 16
  vn      : BitVec 16
  vu      : BitVec 16
  pr      : BitVec 16
  sigE    : BitVec 16
  sigN    : BitVec 16
  sigU    : BitVec 16
  holdMs  : BitVec 12
  odoS    : BitVec 32
  odoV    : BitVec 16
  mstatus : BitVec 16
  selfDev : BitVec 16
  obsFlags : BitVec 8
  seq     : BitVec 32
  deriving DecidableEq, Repr

/-- A position solution in the FIX frame: position in mm, velocity in mm/s, the east-north block of its covariance in
µm², the sigma up in mm. -/
structure FixPos where
  e : Int
  n : Int
  u : Int
  ve : Int
  vn : Int
  vu : Int
  covEE : Nat
  covNN : Nat
  covEN : Int
  sigU : Nat
  deriving DecidableEq, Repr

/-- A satellite of a report as its broadcast ephemeris gives it (R146): ECEF position at transmit time in 0.1 mm, whether
the ephemeris is healthy, and the differential troposphere of machine and base in 0.1 mm. -/
structure SatGeo where
  sys     : Nat
  prn     : Nat
  x       : Int
  y       : Int
  z       : Int
  healthy : Bool
  trop    : Int
  deriving DecidableEq, Repr

/-- The code solution of a report: ECEF position in 0.1 mm and velocity in 0.1 mm/s, the covariance of the position in
mm² (xx, xy, xz, yy, yz, zz), the variance of each velocity axis in mm²/s², the machine's clock bias in ps. -/
structure CodeSol where
  x    : Int
  y    : Int
  z    : Int
  vx   : Int
  vy   : Int
  vz   : Int
  cov  : Int × Int × Int × Int × Int × Int
  velVar : Nat
  bias : Int
  deriving DecidableEq, Repr

/-- What FIX has from the ephemeris and from the report's own code solution for one epoch: operand of FIX_SOLVE. -/
structure FixSol where
  sats : List SatGeo
  code : Option CodeSol
  deriving DecidableEq, Repr

/-- A search attempt (R153 to R155): the two best integer vectors of the set, highest elevation first, the bootstrapped
success rate in 10^-9, the nodes visited. -/
structure Attempt where
  best  : List Int
  next  : List Int
  rate  : Nat
  nodes : Nat
  deriving DecidableEq, Repr

/-- States with their covariance: the key of each state, its value, and the rows of the covariance, in the same order. -/
structure Gauss where
  keys : List Nat
  x    : List Fx
  p    : List (List Fx)
  deriving DecidableEq, Repr

/-- No states. -/
def Gauss.empty : Gauss := ⟨[], [], []⟩

/-- An ambiguity of a filter: the signal's id (512 × system + 8 × PRN + signal), whether it is fixed, whether it slipped
while no double difference could restart it, its elevation at the last update in 0.01°. -/
structure AmbState where
  sig   : Nat
  fixed : Bool
  stale : Bool
  elev  : Int
  deriving DecidableEq, Repr

/-- What a report held of a signal (R152): epoch, phase-range in m, range rate in m/s where given. -/
structure LastObs where
  sig   : Nat
  epoch : Nat
  phase : Fx
  rate  : Option Fx
  deriving DecidableEq, Repr

/-- A filter (R151, R157, R158): one of the two state buffers of a context. -/
structure Filter where
  /-- The last accepted, the last FIXED epoch, the last with a double-difference update. -/
  lastEpoch : Option Nat
  lastFixed : Option Nat
  lastDd    : Option Nat
  /-- Position and velocity in ECEF (keys 0 to 5) and the ambiguities in cycles (key 6 + id). -/
  g         : Gauss
  amb       : List AmbState
  /-- The reference position the filter's position belongs to (R159). -/
  ref       : Option (Int × Int × Int)
  obs       : List LastObs
  /-- The base epoch of the last double-difference update. -/
  baseAt    : Nat
  /-- Pivots by group (R147), and the pivots blamed at the last epoch (R172). -/
  pivots    : Sp Nat
  blamed    : List Nat
  /-- Consecutive removals by signal (R173). -/
  removals  : List (Nat × Nat)
  deriving DecidableEq, Repr

/-- A filter in state NONE. -/
def Filter.reset : Filter := ⟨none, none, none, Gauss.empty, [], none, [], 0, [], [], []⟩

/-- An epoch that is being solved (R157): the report, flags so far, R in 1/256 of a search, signals used, the code
solution where the report gives one, whether a double-difference update was made, when it finished, whether the context
was skipped before, and the parameters the epoch started with (R23). -/
structure Solving where
  item   : Item
  rep    : ObsReport
  flags  : Nat
  ratio  : Nat
  ndd    : Nat
  code   : Option CodeSol
  updated : Bool
  since  : Nat
  ahead  : Bool
  live   : Sp Word
  deriving DecidableEq, Repr

/-- A context of FIX (R157, R158, R168). -/
structure FixCtx where
  /-- The two state buffers; `second` says which is the completed one. -/
  bufs      : Filter × Filter
  second    : Bool
  /-- Satellites with the epoch of their last use (R178): 64 × system + PRN. -/
  used      : List (Nat × Nat)
  seq       : Nat
  /-- The fix state (Table FIX-6). -/
  st        : Nat
  last      : Option FixRec
  /-- The latest FIX item not in state NONE (R238). -/
  lastPos   : Option FixRec
  skipped   : Bool
  /-- REF_SEQ as the context's items last knew it (R159). -/
  refSeq    : Nat
  deriving DecidableEq, Repr

/-- A context in state NONE. -/
def FixCtx.reset : FixCtx := ⟨(Filter.reset, Filter.reset), false, [], 0, 0, none, none, false, 0⟩

/-- A REINIT that runs or is suspended (R167): handle, WAIT_FIX, contexts left to reset, contexts waited for with the
instant of their reset and what became of them, counts. -/
structure Reiniting where
  ring  : Nat
  tag   : Nat
  wait  : Bool
  left  : List Nat
  waiting : List (Nat × Nat × Option Bool)
  good  : Nat
  bad   : Nat
  deriving DecidableEq, Repr

/-- A passed epoch of the clock tests (R180): SAMPLED, bias and drift in ps and ps/s; the cycle, the counter and the
increment then. -/
structure Anchor where
  at_   : Nat
  bias  : Int
  drift : Int
  cyc   : Nat
  ctr   : Nat
  incr  : Nat
  deriving DecidableEq, Repr

/-- FIX beside its registers. -/
structure FixRt where
  ctx      : Sp FixCtx
  /-- OBS items on their way, by item identity: the words of their packet (R144). -/
  obs      : Sp (List (BitVec 64))
  /-- Epoch items past FIX, by identity: fix state, index of the FIX item's record (Table CYC-2). -/
  solved   : Sp (Nat × Nat)
  /-- The fleet state table (R162) by record index. -/
  table    : Sp FixRec
  searches : List Solving
  reinit   : Option Reiniting
  /-- The base epoch taken as missing last (R44), in GPS ns. -/
  missing  : Option Nat
  /-- Base epochs whose item came after their 2 ms (R44). -/
  late     : List Nat
  /-- The epoch of the last slip of a base signal (R152). -/
  baseSlips : Sp Nat
  /-- Removals: GPS time, satellite, context (R175). -/
  removals : List (Nat × Nat × Nat)
  /-- Base residuals over BASE_RES_MAX: epoch, satellite; and since which epoch each SUSPECT satellite is clean. -/
  overRes  : List (Nat × Nat)
  clean    : List (Nat × Nat)
  /-- C/N0 of the last minute by 2 × context + band, context 0 the base: epoch, sum in 0.25 dB-Hz, signals (R179). -/
  cn0      : Sp (List (Nat × Nat × Nat))
  /-- Passed epochs of the clock tests (R180), newest first; the last epoch that failed one (R182). -/
  anchors  : List Anchor
  failedAt : Option Nat
  interfAt : Nat
  /-- The reference position applied when REF_VALID first became 1 (R160). -/
  firstRef : Option (Nat × Nat × Nat)
  /-- REF_MONITOR seconds over the limit, the device second last counted, the last usable input epoch, whether one has
  come and whether a gap was posted (R189, R190). -/
  monRun   : Nat
  monSec   : Nat
  inputAt  : Nat
  inputOn  : Bool
  inGap    : Bool
  /-- The station the input takes, its position once received, and the frames dropped and ignored (R189). -/
  station  : Option Nat
  stationPos : Option (Int × Int × Int)
  badFrames : Nat
  ignored  : Nat
  deriving DecidableEq, Repr

/-- FIX after reset. -/
def FixRt.reset : FixRt :=
  ⟨[], [], [], [], [], none, none, [], [], [], [], [], [], [], none, 0, none, 0, 0, 0, false, false, none, none, 0, 0⟩

end Sys2Proof.Machine
end

