-- ==== Sys2Proof/Machine/PanelTypes.lean ====
section
/-!
DEFINITION. What the stop network (file 13) and the wired ports (file 15) hold beside their registers.
-/

namespace Sys2Proof.Machine

/-- A change of WHOA's status outputs that CHIP has not yet seen (R345): event code, RESULT_0[15:8], RESULT_1. -/
structure WhoaChange where
  code : Nat
  arg  : Nat
  r1   : Nat
  deriving DecidableEq, Repr

/-- One touch electrode or the guard (R338): consecutive measurements above the touch threshold and below the release
threshold, measurements since the baseline last moved, and whether its press was reported. -/
structure Electrode where
  above    : Nat
  below    : Nat
  sinceMove : Nat
  reported : Bool
  deriving DecidableEq, Repr

/-- An electrode never measured. -/
def Electrode.reset : Electrode := ⟨0, 0, 0, false⟩

/-- WHOA beside its registers. Instants are TIM cycles since power-on. -/
structure WhoaRt where
  /-- Faults latched (R330), by the bit numbers of Table WHOA-10. -/
  latched   : Nat
  /-- When the condition of each fault was last seen, by bit number. -/
  seen      : Sp Nat
  /-- Cause POWER_ON is active (Table WHOA-1). -/
  powerOn   : Bool
  /-- When each channel last closed, and the last failed test pulse. -/
  closedAt  : Nat × Nat
  failAt    : Nat
  /-- The last test pulse of each channel, and the last measurement of the electrodes. -/
  pulseAt   : Option Nat × Option Nat
  touchAt   : Option Nat
  /-- The key went from RUN to MAINT (R330). -/
  turning   : Bool
  /-- The electrodes by number, 12 the guard; whether a first measurement has set the baselines. -/
  touch     : Sp Electrode
  measured  : Bool
  /-- Measurements in a row with neither condition of WET. -/
  dry       : Nat
  /-- The present hold has completed without release: RESUME must be lifted first (R337). -/
  holdSpent : Bool
  /-- Level of the HEAD_n_STOP lines. -/
  headStop  : Bool
  /-- Changes CHIP has not yet seen, oldest first. -/
  changes   : List WhoaChange
  deriving DecidableEq, Repr

/-- WHOA at power-on: STOPPED, the lines high. -/
def WhoaRt.reset : WhoaRt := ⟨0, [], true, (0, 0), 0, (none, none), none, false, [], false, 0, false, true, []⟩

/-- A frame in a transmit queue: its item, class, its bytes from DA to the end of the payload, when it reached the head of
its class, as an instant and in device time; collisions so far and the instant until which it backs off (R388). -/
structure TxItem where
  item    : Item
  express : Bool
  data    : List Byte
  headAt  : Nat
  headNs  : Nat
  tries   : Nat
  backoff : Nat
  deriving DecidableEq, Repr

/-- A frame on the line of Port A: its identity, class, length with FCS, the bytes that went in earlier fragments, and when
this fragment began, in tenths of a nanosecond since power-on. -/
structure Wire where
  id      : Nat
  express : Bool
  len     : Nat
  from_   : Nat
  since   : Nat
  deriving DecidableEq, Repr

/-- What a port has sent. -/
inductive NetOut where
  /-- An express stop frame (Table WHOA-2), its bytes with FCS. -/
  | stop (port : Nat) (bytes : List Byte)
  /-- A PAUSE of some quanta (R387). -/
  | pause (quanta : Nat)
  /-- A NET_TX frame: port, express class, item, transmit stamp, its bytes with FCS. -/
  | frame (port : Nat) (express : Bool) (id : Nat) (stamp : Nat) (bytes : List Byte)
  /-- A preemptable frame ends a fragment at a byte, and goes on from it. -/
  | cut (id : Nat) (byte : Nat)
  | continued (id : Nat) (byte : Nat)
  /-- A management frame on MDIO. -/
  | mdio (write : Bool) (arg : Nat)
  deriving DecidableEq, Repr

/-- NET beside its registers: transmit queues and buffer lists by port (buffers by 2 × port + destination), the end of
the pause in tenths of a nanosecond since power-on, the last PAUSE sent while the receive buffer is high, the stop frame
a pause holds back, stop sequence numbers, when the last stop request was, the frame on the line of Port A and the rest of
the one that was preempted, what was sent. -/
structure NetRt where
  txq      : Sp (List TxItem)
  bufs     : Sp (List Item)
  pauseEnd : Nat
  paused   : Bool
  pauseSent : Option Nat
  stopHeld : Option (Nat × Nat)
  stopSeq  : Nat × Nat
  stopAt   : Nat
  beaconAt : Nat
  wire     : Option Wire
  held     : Option Wire
  sent     : List NetOut
  deriving DecidableEq, Repr

/-- NET after reset. -/
def NetRt.reset : NetRt := ⟨[], [], 0, false, none, none, (0, 0), 0, 0, none, none, []⟩

end Sys2Proof.Machine
end

