-- ==== Sys2Proof/Machine/RecTypes.lean ====
section
/-!
DEFINITION. What the recorder holds beside its registers (file 17).
-/

namespace Sys2Proof.Machine

/-- The sums of an averaging interval (R419): samples taken, levels of I and Q, the time of the first. -/
structure Averager where
  n     : Nat
  i     : Int
  q     : Int
  start : Nat
  deriving DecidableEq, Repr

/-- No sample taken. -/
def Averager.zero : Averager := ⟨0, 0, 0, 0⟩

/-- A capture source as ARM took it (R421): configuration, requested and clamped counts, whether a push was refused; the
device times of the samples taken, oldest first; the samples of the word being made and the averaging interval; the words
formed that no queue has taken; the words then in its queue that are not of this capture; and the words written to its
buffer, oldest first. -/
structure RecSrc where
  en      : Bool
  mode    : Nat
  avg     : Nat
  extra   : Nat
  preReq  : Nat
  postReq : Nat
  pre     : Nat
  post    : Nat
  clamped : Bool
  overran : Bool
  times   : List Nat
  part    : List Byte
  sum     : Averager
  formed  : List (BitVec 64)
  skip    : Nat
  data    : List (BitVec 64)
  deriving DecidableEq, Repr

/-- What REC drives: a low on TRIG_SYNC, 10 µs to arm or 1 µs to fire (R429). -/
inductive RecOut where
  | syncLow (fire : Bool)
  deriving DecidableEq, Repr

/-- A READOUT that runs or is suspended (R431): its handle, the key slot with ENC, the NONCE, host bytes written. -/
structure Reading where
  ring  : Nat
  tag   : Nat
  slot  : Option Nat
  nonce : Nat
  wrote : Nat
  deriving DecidableEq, Repr

/-- REC beside its registers: the capture's sources by number, the ARM item while it runs, the device time at which it was
armed, the trigger instant, the trigger sources that have fired with their instant before the trigger is taken, consecutive
samples at IF_LEVEL's level, flags of the capture, a readout, what was sent. -/
structure RecRt where
  srcs     : List RecSrc
  arm      : Option Item
  armedAt  : Nat
  trig     : Option Nat
  fired    : Option (Nat × Nat)
  run      : Nat
  poisoned : Bool
  overran     : Bool
  reading  : Option Reading
  out      : List RecOut
  deriving DecidableEq, Repr

/-- REC with no capture. -/
def RecRt.reset : RecRt := ⟨[], none, 0, none, none, 0, false, false, none, []⟩

end Sys2Proof.Machine
end

