-- ==== Sys2Proof/Machine/TackTypes.lean ====
section
/-!
DEFINITION. What TACK holds beside its registers (file 16).
-/

namespace Sys2Proof.Machine

/-- The attribute block of a key (Table TACK-2). -/
structure KeyAttr where
  epoch : BitVec 8
  type  : BitVec 8
  len   : BitVec 16
  usage : BitVec 16
  bind  : BitVec 16
  id    : BitVec 32
  anc0  : BitVec 32
  anc1  : BitVec 32
  anc2  : BitVec 32
  anc3  : BitVec 32
  inside : Bool
  imported : Bool
  deriving DecidableEq, Repr

/-- A key slot that is not EMPTY (R397): LOADED or REVOKED; `leaving` from the UNLOAD that erased it until its users
have ended. -/
structure KeySlot where
  attr    : KeyAttr
  mat     : BitVec 512
  revoked : Bool
  leaving : Bool
  deriving DecidableEq, Repr

/-- A saddlebag as TACK reads it (R400): its bytes, and what the unwrap of its blob under its wrapping key gives: the
attribute block followed by the key material, none where the integrity check fails. -/
structure Saddlebag where
  raw   : List (BitVec 8)
  plain : Option (List (BitVec 8))
  deriving DecidableEq, Repr

/-- What the always-on watch sees of a tamper condition (Table TACK-9): of an input the levels of OUT and IN in
consecutive always-on cycles, oldest first; of a rail, core or always-on, a level in millivolts that lasted `ns`, and whether
it then recovered without a power-on reset; of the reference clock its pulse width and frequency; the junction temperature
in centidegrees and how long it lasted; light above the detector's threshold. -/
inductive TamperSeen where
  | input (n : Fin 4) (cycles : List (Bool × Bool))
  | volt (core : Bool) (mV ns : Nat) (recovered : Bool)
  | clock (pulseNs hz : Nat)
  | temp (centi : Int) (us : Nat)
  | light (above : Bool)
  deriving DecidableEq, Repr

/-- An UNLOAD or REVOKE that waits for in-flight users to end (R402, R404): its item, the slots it erased, the item
identities that still hold them, and its results. -/
structure KeyWait where
  item  : Item
  slots : List Nat
  users : List Nat
  res   : Res
  deriving DecidableEq, Repr

/-- A REWRAP that runs or is suspended (R409): its handle, the inputs left with the blobs their re-wrapping gives, bytes
written so far, failures. -/
structure Rewrapping where
  ring   : Nat
  tag    : Nat
  left   : List (Saddlebag × List (BitVec 8))
  wrote  : Nat
  failed : Nat
  deriving DecidableEq, Repr

/-- TACK beside its registers: key slots, the root-derived keys it holds (R394), the revocation list (R404), in-flight
items past their key-load point with the slot they hold, and a zeroise whose steps 2 to 5 are still to run, with its
source bits (R412, R413). -/
structure TackRt where
  slots    : Sp KeySlot
  kek      : Bool
  kekPrev  : Bool
  identity : Bool
  /-- KEK and identity keys are withheld after DEBUG_UNLOCK (R464). -/
  withheld : Bool
  revoked  : List Nat
  holders  : List (Nat × Nat)
  waits    : List KeyWait
  rewrap   : Option Rewrapping
  zeroise  : Nat
  deriving DecidableEq, Repr

/-- TACK with no key. -/
def TackRt.reset : TackRt := ⟨[], false, false, false, false, [], [], [], none, 0⟩

end Sys2Proof.Machine
end

