-- ==== Sys2Proof/Machine/TimTypes.lean ====
section
/-!
DEFINITION. What the time unit holds beside its registers (file 14).
-/

namespace Sys2Proof.Machine

/-- A time source (R350 to R355). Offsets are in 2^-16 ns, signed. -/
structure TimeSource where
  /-- Samples of the running second: their number, sum, sum of squares, and sum after the adj of R349 is removed. -/
  n       : Nat
  sum     : Int
  sumSq   : Nat
  sumAdj  : Int
  /-- Latest 1 s value and the standard deviation of its samples. -/
  val     : Int
  sd      : Nat
  /-- Latest 1 s value with adj removed and the change before it (R354). -/
  prev    : Option Int
  change  : Option Int
  /-- Consecutive good seconds, and seconds without a sample. -/
  good    : Nat
  silent  : Nat
  /-- Consecutive comparisons outvoted, and seconds in agreement with both others (R355). -/
  outvoted : Nat
  agreed  : Nat
  /-- Consecutive seconds that the 1 s value has stayed within LOCK_NS (R357). -/
  near    : Nat
  deriving DecidableEq, Repr

/-- A source with no sample. -/
def TimeSource.reset : TimeSource := ⟨0, 0, 0, 0, 0, 0, none, none, 0, 0, 0, 0, 0⟩

/-- A PPS output (R359 to R362): started, index of the last mark passed, instant of the last pulse, instant before which
a mark is passed without a pulse, level and when a pulse ends. -/
structure PpsOut where
  started  : Bool
  mark     : Int
  lastAt   : Option Nat
  quietTo  : Nat
  pulseEnd : Option Nat
  pulses   : Nat
  deriving DecidableEq, Repr

/-- An output that has not started. -/
def PpsOut.reset : PpsOut := ⟨false, 0, none, 0, none, 0⟩

/-- A held cue slot (R365, R366): its item, its stored descriptor, the next instant's index, whether it repeats. -/
structure CueSlot where
  item   : Item
  stored : Option Desc
  next   : Nat
  repeats : Bool
  late   : Nat
  skipped : Nat
  deriving DecidableEq, Repr

/-- A SET_TIME that waits for its whole second (R364): the item, and that second in device seconds. -/
structure SetTimeWait where
  item : Item
  sec  : Nat
  deriving DecidableEq, Repr

/-- TIM beside its registers. -/
structure TimRt where
  /-- Sources by code: 1 GNSS, 2 A, 3 B. -/
  sources  : Sp TimeSource
  /-- The device second last taken by SECOND_BOUNDARY. -/
  second   : Nat
  /-- Consecutive comparisons with, and without, the no-majority condition. -/
  splitRun : Nat
  unityRun : Nat
  /-- E at the start of its growth in fs, and when the growth started (R358). -/
  e0       : Nat
  growAt   : Nat
  /-- Device time has been set (R357); the quality has been LOCKED (R359). -/
  isSet    : Bool
  wasLocked : Bool
  /-- A step of TIM's own that waits: S in ns, and its device second (R361). -/
  step     : Option (Int × Nat)
  setWaits : List SetTimeWait
  pps      : Sp PpsOut
  cues     : Sp CueSlot
  /-- When the pulse of each cue output ends, and the level it returns to. -/
  cuePulse : Sp (Nat × Bool)
  /-- Cue outputs that some cue has driven, a bit for each (R369). -/
  driven   : Nat
  /-- RELEASE and EVENT actions that fell in Stabled: slot, device time (R372). -/
  deferred : List (Nat × Nat)
  /-- The oscillator model (R349): the increments that the servo settled at while LOCKED, newest first, the newest and then
  about one an hour back to MODEL_SPAN, each with its instant. -/
  model    : List (Nat × Nat)
  /-- Where the increment ramps from while no source is selected: instant and increment. -/
  ramp     : Option (Nat × Nat)
  deriving DecidableEq, Repr

/-- TIM after reset. -/
def TimRt.reset : TimRt := ⟨[], 0, 0, 0, 0, 0, false, false, none, [], [], [], [], 0, [], [], none⟩

end Sys2Proof.Machine
end

