-- ==== Sys2Proof/Syntax.lean ====
section
/-!
DEFINITION. The commands: one constructor for each row of spec/opcode_table.json. Every command carries, as its first
operand `t`, the instant at which it happens, in TIM cycles of 2 ns since power-on (log entry 1).
-/

namespace Sys2Proof

open Sys2Proof.Machine

/-- The commands of the block. -/
inductive Instr where
  /-- POWER_ON_RESET (R444). Power-on or POR_N release samples the straps and starts the CHIP boot ROM, with WHOA
  STOPPED under POWER_ON. -/
  | powerOnReset (t : Nat) (straps : BitVec 2) (senior : Bool) (part : Option Part) (tamper : BitVec 10) (rails : Bool)
  /-- CHIP_BOOT_GO (R448). In HOST_WAIT a write of GO makes the chip fetch both images from host memory, check them
  and start the regions. -/
  | chipBootGo (t : Nat) (rq : Requester) (val : Word) (fw : Image) (gb : Image)
  /-- TRIAL_CONFIRM_TIMEOUT (R457). CONFIRM_WAIT expires without IMG_CONFIRM and CHIP makes a full chip reset. -/
  | trialConfirmTimeout (t : Nat)
  /-- ACTIVATE_RESET (R458). 10 ms after an IMG_ACTIVATE completion with RESET_NOW, CHIP makes a full chip reset. -/
  | activateReset (t : Nat)
  /-- CHIP_RST_CMD_FULL_RESET (R538). A write of FULL_RESET with KEY 0x8400 makes a full chip reset after stopping the
  fleet; another key sets BAD_KEY. -/
  | chipRstCmdFullReset (t : Nat) (rq : Requester) (val : Word)
  /-- PCIE_PERST (R536). PCIE_PERST_N resets HIF only, as a PCIe hot reset does. -/
  | pciePerst (t : Nat)
  /-- PCIE_LINK_RESET (R80). FLR, hot reset or link down resets HIF as a region, clears every ring ENABLE and holds
  completions of running items. -/
  | pcieLinkReset (t : Nat) (up : Bool)
  /-- BAD_ACCESS (R529). An access that is not an aligned full 32-bit access is dropped, reads all-ones and sets
  ACCESS. -/
  | badAccess (t : Nat) (rq : Requester) (write : Bool) (addr : Nat) (bytes : Nat) (enables : BitVec 4)
  /-- REGISTER_WRITE (R9). A write to a register without a row of its own acts under its access type, or is ignored
  with UNMAPPED or REGION_DOWN. -/
  | registerWrite (t : Nat) (rq : Requester) (addr : Nat) (val same : Word)
  /-- RC_REGISTER_READ (R9). A read of an RC register returns its state and then clears it, keeping an event from the
  same cycle. -/
  | rcRegisterRead (t : Nat) (rq : Requester) (addr : Nat) (same : Word)
  /-- REG64_LOW_READ (R531). A read of the low word of a 64-bit register latches the high word of the same instant for
  that requester. -/
  | reg64LowRead (t : Nat) (rq : Requester) (addr : Nat)
  /-- REG64_HIGH_WRITE (R532). A write of the high word of a 64-bit register commits it with the shadowed or present
  low half. -/
  | reg64HighWrite (t : Nat) (rq : Requester) (addr : Nat) (val : Word)
  /-- TIM_TIME_LOW_READ (R348). A low-word read of TIM_TIME latches the high word and the seconds, nanoseconds and
  fraction snapshot. -/
  | timTimeLowRead (t : Nat) (rq : Requester)
  /-- PARAM_APPLY (R23). A write of a PARAM_ID to TAG_RGN_PARAM_APPLY makes the shadow parameter block live between
  items, or sets PARAM_REJ. -/
  | paramApply (t : Nat) (rq : Requester) (region : Fin 16) (id : BitVec 16)
  /-- RGN_CMD_RESET (R33). A write of RESET to TAG_RGN_CMD raises a region error with CAUSE 9, except in WHOA and MQF. -/
  | rgnCmdReset (t : Nat) (rq : Requester) (region : Fin 16) (val : Word)
  /-- SQ_TAIL_WRITE (R60). A doorbell write to SQ_TAIL sets the ring tail, or is ignored with DB_ERR, or is kept while
  the ring is disabled or recovering. -/
  | sqTailWrite (t : Nat) (ring : Fin 64) (val : Word)
  /-- CQ_HEAD_WRITE (R60). A doorbell write to CQ_HEAD returns completion entries, or is ignored with DB_ERR, or is
  kept. -/
  | cqHeadWrite (t : Nat) (ring : Fin 64) (val : Word)
  /-- RING_ENABLE (R59). A write of ENABLE to HIF_RING_n_CTL starts a ring fresh or with recovery, or is refused with
  CFG_ERR. -/
  | ringEnable (t : Nat) (rq : Requester) (ring : Fin 64) (val : Word) (log : List LogRec)
  /-- RING_RECOVERED (R78). Once every recovery or stale completion is written, the device sets RECOVERED, raises the
  vector and applies kept doorbells. -/
  | ringRecovered (t : Nat) (ring : Fin 64)
  /-- STALE_COMPLETION_WRITE (R79). After a fresh enable, each held or still-running earlier item completes at
  completion index 0 upward without a log record. -/
  | staleCompletionWrite (t : Nat) (ring : Fin 64)
  /-- DESCRIPTOR_FETCH (R77). HIF fetches a batch of up to 16 descriptors, writes and reads back their FETCHED
  records, and passes them on. -/
  | descriptorFetch (t : Nat) (ring : Fin 64) (raw : List (List Byte))
  /-- COMPLETION_WRITE (R77). When an item ends and the completion ring has room, HIF writes the COMPLETING record,
  the completion and the COMPLETE record. -/
  | completionWrite (t : Nat) (ring : Fin 64)
  /-- IRQ_HOLDOFF_EXPIRY (R89). HOLDOFF µs after the first unsignalled completion, the ring vector fires. -/
  | irqHoldoffExpiry (t : Nat) (ring : Fin 64)
  /-- WHEN_REACHED (R66). Device time reaches the WHEN of a waiting item, which then acts. -/
  | whenReached (t : Nat) (id : Nat)
  /-- FLOW_ENTRY (R91). DSP accepts an item into its flow when the flow limit and pool entries allow, in source-port
  order. -/
  | flowEntry (t : Nat) (port : Fin 78)
  /-- STAGE_DISPATCH (R96). When a stage port can accept, DSP offers it the eligible item of highest priority level,
  round-robin within a level. -/
  | stageDispatch (t : Nat) (st : Stage)
  /-- COMPLETION_RELEASE (R93). DSP releases a flow's completions in entry order once every earlier item has been
  released. -/
  | completionRelease (t : Nat) (flow : Fin 1024)
  /-- DSP_OBS_SEL_WRITE (R101). A write to DSP_OBS_SEL snapshots a flow's waiting-time statistics and optionally
  clears them. -/
  | dspObsSelWrite (t : Nat) (rq : Requester) (val : Word)
  /-- DSP_LOAD_SEL_WRITE (R102). A write to DSP_LOAD_SEL snapshots a cell's busy and window cycles. -/
  | dspLoadSelWrite (t : Nat) (rq : Requester) (val : Word) (busy : Word) (win : Word)
  /-- HANDSHAKE_REQUEST (R15). A sender toggles its request and the receiver takes the item and toggles the
  acknowledge, passing ownership. -/
  | handshakeRequest (t : Nat) (sender : Fin 16) (receiver : Fin 16) (block : BitVec 8) (x : Item) (takes : Bool)
  /-- HANDSHAKE_ACK_SEEN (R15). The synchronised acknowledge reaches the sender, which may then offer its next item. -/
  | handshakeAckSeen (t : Nat) (sender : Fin 16) (receiver : Fin 16) (block : BitVec 8)
  /-- HANDSHAKE_TIMEOUT (R18). A request unacknowledged for 10 ms while the receiver is in RUN sets HS_TIMEOUT and
  raises a block error at the receiver. -/
  | handshakeTimeout (t : Nat) (sender : Fin 16) (receiver : Fin 16) (block : BitVec 8) (held : List Nat)
  /-- CELL_ERROR (R30). A cell error fails one item and, at the 16th in 1 s, retires a pooled cell or escalates an
  identity cell. -/
  | cellError (t : Nat) (region : Fin 16) (kind : CellKind) (cell : BitVec 16) (block : BitVec 8) (cause :
      ErrCause) (poison : Bool) (item : Option Nat) (held : List Nat)
  /-- BLOCK_ERROR (R31). A block stops, fails its items FAIL_FAULT, reloads its table and restarts, or escalates under
  R32. -/
  | blockError (t : Nat) (region : Fin 16) (block : BitVec 8) (cause : ErrCause) (held : List Nat)
      (access : Option DramAccess)
  /-- BLOCK_RESTART_DONE (R31). A restarting block finishes its table reload and restarts at its ENTRY table. -/
  | blockRestartDone (t : Nat) (region : Fin 16) (block : BitVec 8)
  /-- REGION_ERROR (R33). A region drains, stops its sequencers, fails its items FAIL_RESET and enters RESET, or
  escalates under R34. -/
  | regionError (t : Nat) (region : Fin 16) (cause : ErrCause)
  /-- REGION_RELOADED (R33). A region in LOADING finishes reloading tables and parameters and enters RUN, setting
  REGION_ERR. -/
  | regionReloaded (t : Nat) (region : Fin 16) (svcHash : Nat)
  /-- CHIP_ERROR (R36). A chip error requests stop from WHOA and then enters halter mode or makes a full chip reset
  under CHIP_ERR_CTL and R537. -/
  | chipError (t : Nat) (cause : BitVec 4) (region : Fin 16)
  /-- NOP (R83). The HIF NOP operation completes DONE with zero results. -/
  | hifNop (t : Nat) (it : Item)
  /-- SUSPEND (R85). SUSPEND asks a running long operation to stop at its next safe point and keep its state. -/
  | hifSuspend (t : Nat) (it : Item)
  /-- RESUME (R85). RESUME restarts a suspended long operation, which re-enters its flow. -/
  | hifResume (t : Nat) (it : Item)
  /-- CANCEL (R85). CANCEL ends a long operation at its next safe point or discards a suspended one. -/
  | hifCancel (t : Nat) (it : Item)
  /-- QUERY_OP (R85). QUERY_OP returns a long operation's progress without changing it. -/
  | queryOp (t : Nat) (it : Item)
  /-- LONG_OP_SAFE_POINT (R85). A long operation reaches a safe point after a unit of work and acts on a pending
  SUSPEND or CANCEL or continues. -/
  | longOpSafePoint (t : Nat) (ring : Fin 65) (tag : BitVec 16) (u : LongUnit)
  /-- HOST_WDOG_EXPIRY (R55). The EVT_RING doorbell gap exceeds SVC_HOST_WDOG and every policy function reverts to the
  service firmware at the next superframe start. -/
  | hostWdogExpiry (t : Nat)
  /-- SUPERFRAME_START (R272). A new superframe begins at a whole 100 ms, advancing the SFN and applying ownership
  changes, schedule switches and sleeper guard checks. -/
  | superframeStart (t : Nat)
  /-- SF_COUNT_START (R273). The first setting of ENABLE in any AIR_HEAD_n_CTL starts the superframe count from
  AIR_SF_NUM_INIT. -/
  | sfCountStart (t : Nat) (rq : Requester) (head : Fin 8) (val : Word)
  /-- SUPERFRAME_BUILD (R279). At 40 ms AIR builds the next superframe's beacon, GO, STOP and CALL fields and sends
  them to the heads. -/
  | superframeBuild (t : Nat)
  /-- FRAME_MARK (R295). The chip sends a FRAME_MARK to each head 10 µs before each frame start, or frame code 63 in a
  step gap. -/
  | frameMark (t : Nat)
  /-- DOWNLINK_SPAN (R282). In each DOWNLINK span AIR sends the newest plan that met the cutoff, or a NO_PLAN header,
  counting late and oversized plans. -/
  | downlinkSpan (t : Nat) (ctx : BitVec 8)
  /-- HEAD_LINK_STATE (R294). A head-link receiver changes between DOWN, TRAINING and UP, and posts HEAD_LINK. -/
  | headLinkState (t : Nat) (head : Fin 8) (chars : List LinkSym)
  /-- RX_FRAME (R306). A head's RX_FRAME packet is checked for size, COMPAT, tag, replay window and route, and a valid
  frame is accepted. -/
  | rxFrame (t : Nat) (head : Fin 8) (pkt : List Byte) (opens : List Opening)
  /-- TX_REPORT (R297). A head reports the outcome of a TX_BURST, counting LATE packets and releasing the token on
  NOT_ACTIVE. -/
  | txReport (t : Nat) (head : Fin 8) (pkt : List Byte)
  /-- HEAD_STATUS (R296). A head's STATUS packet updates RF_FAULT, TIMING_LOST and temperature. -/
  | headStatus (t : Nat) (head : Fin 8) (pkt : List Byte)
  /-- PONG (R296). A head returns the ARG and payload of a PING. -/
  | pong (t : Nat) (head : Fin 8) (pkt : List Byte)
  /-- SPAN_JUDGED (R289). An expected uplink span is judged, counting a miss and making an AWAKE context DARK or a
  SLEEPER LOST_ASLEEP on the third. -/
  | spanJudged (t : Nat) (ctx : BitVec 8)
  /-- CALL_PERIOD_EXPIRY (R291). A LOST_ASLEEP context that has not answered by the end of CALL_PERIOD is left with
  cause LOST. -/
  | callPeriodExpiry (t : Nat) (ctx : BitVec 8)
  /-- JOIN_TIMEOUT_EXPIRY (R315). No JOIN_CONFIRM within JOIN_TIMEOUT erases K, posts JOIN_FAILED and completes
  FAIL_TIMEOUT; a pending request lapses likewise. -/
  | joinTimeoutExpiry (t : Nat) (ctx : BitVec 8)
  /-- SCHED_LOAD (R286). SCHED_LOAD checks a schedule file, announces it in beacons and completes when it takes
  effect. -/
  | schedLoad (t : Nat) (it : Item) (raw : List Byte)
  /-- SESSION_ACCEPT (R315). SESSION_ACCEPT draws BNONCE, derives K and sends JOIN_ACK until the machine confirms or
  the join times out. -/
  | sessionAccept (t : Nat) (it : Item) (bnonce : BitVec 128)
  /-- SESSION_REFUSE (R314). SESSION_REFUSE clears the pending request and sends JOIN_NAK once. -/
  | sessionRefuse (t : Nat) (it : Item)
  /-- SESSION_LEAVE (R317). SESSION_LEAVE at position 6 ends the context's session and releases its state. -/
  | sessionLeave (t : Nat) (it : Item)
  /-- SESSION_SLEEP (R314). SESSION_SLEEP sends SLEEP and makes the context SLEEPER at the next superframe start. -/
  | sessionSleep (t : Nat) (it : Item)
  /-- SESSION_WAKE (R314). SESSION_WAKE sends WAKE and makes the context AWAKE on its next valid frame. -/
  | sessionWake (t : Nat) (it : Item)
  /-- SET_ROUTE (R316). SET_ROUTE sets a context's next hop at the next superframe start and sends RELAY_SET. -/
  | setRoute (t : Nat) (it : Item)
  /-- SET_JOIN_KEY (R314). SET_JOIN_KEY binds a key slot as the context's join key. -/
  | setJoinKey (t : Nat) (it : Item)
  /-- COMPAT_INJECT (R321). COMPAT_INJECT judges a recovered inner frame as received, or sends a firmware-built
  downlink frame. -/
  | compatInject (t : Nat) (it : Item) (raw : List Byte) (opens : List Opening)
  /-- SET_BEACON_KEY (R310). SET_BEACON_KEY replaces the beacon key while every context is FREE. -/
  | setBeaconKey (t : Nat) (it : Item)
  /-- BASE_OBS_EPOCH (R130). At each 50 ms epoch GNB measures every channel, solves the clock and delivers a base
  observation item to FIX and TIM. -/
  | baseObsEpoch (t : Nat) (epoch : BitVec 64) (sampled : BitVec 64) (ms : List Meas) (clk : Option (Int × Int))
      (sats : List SvRange)
  /-- BASE_EPOCH_TIMEOUT (R44). A base epoch still missing 2 ms after the epoch is treated as a base outage for
  waiting machine epochs. -/
  | baseEpochTimeout (t : Nat) (epoch : BitVec 64)
  /-- SV_SUSPECT_CLEAR (R177). A SUSPECT satellite whose base residual has stayed low for SV_CLEAR_S returns to
  candidacy. -/
  | svSuspectClear (t : Nat) (sat : Fin 192)
  /-- INTERFERENCE_CHANGE (R179). FIX sets INTERFERENCE on an AGC jump or a fleet C/N0 drop and clears it after
  INTERF_HOLD. -/
  | interferenceChange (t : Nat)
  /-- FIX_SOLVE (R145). FIX checks an OBS item, updates the filter, searches ambiguities and writes the FIX item to
  the fleet state table. -/
  | fixSolve (t : Nat) (id : Nat) (sol : FixSol)
  /-- AMBIGUITY_SEARCH (R155). An integer-search unit runs the ambiguity search of one context, accepting a set or
  subset under the ratio and success-rate tests. -/
  | ambiguitySearch (t : Nat) (ctx : BitVec 8) (attempts : List Attempt)
  /-- SEARCH_WAIT_EXPIRY (R155). A search not started within SEARCH_WAIT is skipped and SEARCH_SKIPPED is set. -/
  | searchWaitExpiry (t : Nat) (ctx : BitVec 8)
  /-- REINIT (R167). REINIT resets the selected contexts' filters in ascending order, optionally waiting for each to
  reach FIXED. -/
  | reinit (t : Nat) (it : Item) (mask : List Byte)
  /-- RESET_CTX (R166). RESET_CTX resets a context's filter to NONE between two of its epochs. -/
  | resetCtx (t : Nat) (it : Item)
  /-- READ_CTX (R166). READ_CTX returns words 1, 4 and 7 of the context's latest FIX record. -/
  | readCtx (t : Nat) (it : Item)
  /-- REPLAN (R254). A GAIT lane builds a profile from the followed plan and the latest fix and samples it at ticks. -/
  | gaitReplan (t : Nat) (id : Nat)
  /-- SWEEP_LOCKS_HELD (R222). A sweep that holds all its tile locks latches now, checks the request and the cells,
  and commits or reports a conflict. -/
  | sweepLocksHeld (t : Nat) (id : Nat) (bad : Option BadCell)
  /-- KNOT_PACK (R263). GAIT packs a committed profile into plan knots and hands the plan over to AIR. -/
  | knotPack (t : Nat) (id : Nat)
  /-- SET_TRACK (R249). SET_TRACK checks a track record and replans and commits onto it. -/
  | setTrack (t : Nat) (it : Item) (raw : List Byte)
  /-- SET_LIMITS (R261). SET_LIMITS replaces the context's limits, clamping a lowered D_MAX or J_MAX that would
  overrun the track. -/
  | setLimits (t : Nat) (it : Item)
  /-- RETARGET (R251). RETARGET replaces the target, or plans a stop with STOP_NOW, and replans and commits. -/
  | gaitRetarget (t : Nat) (it : Item)
  /-- DATUM_RUN (R265). DATUM_RUN starts a creep toward a hard stop at V_CREEP. -/
  | datumRun (t : Nat) (it : Item)
  /-- LIMIT_TAKEOVER (R261). At the takeover tick a clamped lowered limit applies and LIMIT_PENDING clears. -/
  | limitTakeover (t : Nat) (ctx : BitVec 8)
  /-- COMMIT (R219). COMMIT checks and commits one sweep request for the context. -/
  | padCommit (t : Nat) (it : Item) (raw : List Byte)
  /-- WHAT_IF (R236). WHAT_IF evaluates up to 16 candidate profiles without locks or writes and writes their results. -/
  | whatIf (t : Nat) (it : Item) (raw : List Byte) (bad : Option BadCell)
  /-- RELEASE (R237). RELEASE frees every slot of the context and ends its disc and park renewal. -/
  | padRelease (t : Nat) (it : Item) (bad : Option BadCell)
  /-- SET_SHAPE (R220). SET_SHAPE checks and sets the context's footprint, clearance and disc cap. -/
  | setShape (t : Nat) (it : Item) (raw : List Byte)
  /-- MAP_IMPORT (R212). MAP_IMPORT checks a paddock file and builds a FULL map or applies a PATCH tile by tile. -/
  | mapImport (t : Nat) (it : Item) (raw : List Byte) (hashOk : Bool)
  /-- MAP_EXPORT (R214). MAP_EXPORT writes every tile under its lock and then the header. -/
  | mapExport (t : Nat) (it : Item)
  /-- SET_HOLD (R215). SET_HOLD sets or clears HOLD in a rectangle of cells in one step. -/
  | setHold (t : Nat) (it : Item) (bad : Option BadCell)
  /-- READ_CELL (R209). READ_CELL returns the 128-bit word of one cell. -/
  | readCell (t : Nat) (it : Item) (bad : Bool)
  /-- PAD_TICK (R200). PAD_TICK_ABS advances by one at each 10 ms tick of device time. -/
  | padTick (t : Nat)
  /-- GROOM_TILE (R207). The groom block visits the next tile, frees expired slots, recounts LIVE and sets GROOM_TICK. -/
  | groomTile (t : Nat) (bad : Option BadCell)
  /-- PARK_RENEWAL (R233). Every 100 ticks PAD extends the parked cells of each parked context to now + 6,000. -/
  | parkRenewal (t : Nat) (bad : Option BadCell)
  /-- DISC_WRITE (R239). The disc writer writes UNCERTAIN slots tile by tile into every cell of an opened disc. -/
  | discWrite (t : Nat) (ctx : BitVec 8) (tile : BitVec 13) (bad : Option BadCell)
  /-- DISC_END (R240). A disc ends on commit, release or leave, its UNCERTAIN slots are freed and DISC_END is posted. -/
  | discEnd (t : Nat) (ctx : BitVec 8)
  /-- MIRROR_PAD_RECEIVED (R242). A standby applies a mirror record without checks and compares CELLS and CRC,
  requesting tiles on a mismatch. -/
  | mirrorPadReceived (t : Nat) (rx : BylRx)
  /-- SET_REF (R132). SET_REF applies a new reference position from the first epoch at least 10 ms later. -/
  | setRef (t : Nat) (it : Item)
  /-- SELF_SURVEY (R133). SELF_SURVEY accumulates one base solution per second until its sigma target or duration is
  met. -/
  | selfSurvey (t : Nat) (it : Item)
  /-- SURVEY_NETWORK_TIMEOUT (R134). A NETWORK survey that counts no second in 600 s ends FAIL_TIMEOUT. -/
  | surveyNetworkTimeout (t : Nat)
  /-- SAMPLE_COUNT_CHECK (R119). Each millisecond GNB counts a port's samples and declares a sample slip when the
  count is off by 2 or more. -/
  | sampleCountCheck (t : Nat) (port : Fin 2)
  /-- PORT_SYNC_CHANGE (R120). A band port gains or loses sync from its FRAM pattern. -/
  | portSyncChange (t : Nat) (port : Fin 2) (bits : List PortBit)
  /-- AGC_UPDATE (R121). Each millisecond GNB steers the AGC duty and raises AGC_JUMP on a large move. -/
  | agcUpdate (t : Nat) (port : Fin 2)
  /-- SPECTRUM_FFT (R122). Every 10 ms each port's FFT places or releases notches on strong lines. -/
  | spectrumFft (t : Nat) (port : Fin 2) (powers : List Nat)
  /-- ANTENNA_SAMPLE (R123). Each millisecond GNB classes the antenna current and cuts the bias on a SHORT. -/
  | antennaSample (t : Nat) (cur : BitVec 16)
  /-- ANTENNA_BIAS_RETRY (R123). 5 s after a SHORT the bias is retried, or left off and LATCHED after the third. -/
  | antennaBiasRetry (t : Nat)
  /-- ANT_REARM (R123). A write of REARM to GNB_ANT_CFG clears LATCHED and lets the bias return. -/
  | antRearm (t : Nat) (rq : Requester) (val : Word)
  /-- TRK_MASK_PRN_WRITE (R125). A write to GNB_TRK_MASK_PRN disables or restores one satellite's candidacy. -/
  | trkMaskPrnWrite (t : Nat) (rq : Requester) (val : Word)
  /-- STABLED_BURST (R137). In Stabled GNB runs a 40 ms tracking burst each second and feeds TIM its clock solution. -/
  | stabledBurst (t : Nat) (clk : Option Int) (found : List (Nat × BitVec 8))
  /-- SECOND_BOUNDARY (R355). Each device second TIM averages source offsets, qualifies sources, votes, selects a
  source and steers the servo. -/
  | secondBoundary (t : Nat)
  /-- TIME_STEP (R361). At a whole second a pending step adds S to the counter and updates ticks, AIR, waiting items
  and events. -/
  | timeStep (t : Nat)
  /-- PPS_PULSE (R360). A started PPS output pulses at each mark for WIDTH µs. -/
  | ppsPulse (t : Nat) (n : Fin 2)
  /-- CUE_INSTANT (R365). A cue's instant acts on its output, releases its stored descriptor and posts CUE_FIRED as
  selected. -/
  | cueInstant (t : Nat) (slot : Fin 64)
  /-- CUE_SET (R365). CUE_SET takes a cue slot and arms a single or repeating cue. -/
  | cueSet (t : Nat) (it : Item) (raw : List Byte)
  /-- SET_TIME (R364). SET_TIME steps the counter to a whole second at the next whole second and starts E from its
  uncertainty. -/
  | setTime (t : Nat) (it : Item)
  /-- PTP_SAMPLE (R352). PTP_SAMPLE delivers a domain's raw offset to TIM, corrected by ASYM. -/
  | ptpSample (t : Nat) (it : Item)
  /-- TIM_INCR_WRITE (R348). A write to TIM_INCR in MANUAL mode sets the increment, or is refused with INCR_REJ. -/
  | timIncrWrite (t : Nat) (rq : Requester) (val : BitVec 64)
  /-- VOTE_EXCL_GNSS (R355). TIM_VOTE_CMD.EXCL_GNSS excludes GNSS from the vote. -/
  | voteExclGnss (t : Nat) (rq : Requester)
  /-- VOTE_EXCL_A (R355). TIM_VOTE_CMD.EXCL_A excludes domain A from the vote. -/
  | voteExclA (t : Nat) (rq : Requester)
  /-- VOTE_EXCL_B (R355). TIM_VOTE_CMD.EXCL_B excludes domain B from the vote. -/
  | voteExclB (t : Nat) (rq : Requester)
  /-- VOTE_INCL_GNSS (R355). TIM_VOTE_CMD.INCL_GNSS returns GNSS to the vote. -/
  | voteInclGnss (t : Nat) (rq : Requester)
  /-- VOTE_INCL_A (R355). TIM_VOTE_CMD.INCL_A returns domain A to the vote. -/
  | voteInclA (t : Nat) (rq : Requester)
  /-- VOTE_INCL_B (R355). TIM_VOTE_CMD.INCL_B returns domain B to the vote. -/
  | voteInclB (t : Nat) (rq : Requester)
  /-- CLEAR_SUSPECT (R355). TIM_VOTE_CMD.CLEAR_SUSPECT clears every SUSPECT source. -/
  | clearSuspect (t : Nat) (rq : Requester)
  /-- PPS_FORCE_START (R359). A write of FORCE_START starts a PPS output without lock. -/
  | ppsForceStart (t : Nat) (rq : Requester) (n : Fin 2)
  /-- SPOOF_CLEAR (R182). FIX_INTEG_CMD.SPOOF_CLEAR clears SPOOF_SUSPECT when the clean time holds, or sets CLEAR_REJ. -/
  | spoofClear (t : Nat) (rq : Requester)
  /-- SV_CLEAR_ALL (R177). FIX_INTEG_CMD.SV_CLEAR_ALL returns every SUSPECT satellite to candidacy. -/
  | svClearAll (t : Nat) (rq : Requester)
  /-- STOP_CHANNEL_OPEN (R327). A stop input low for 19,000 WHOA cycles confirms the channel open and makes its cause
  active. -/
  | stopChannelOpen (t : Nat) (ch : Fin 2) (low : Nat)
  /-- STOP_CHANNEL_CLOSED (R327). A stop input high for 19,000 WHOA cycles confirms the channel closed. -/
  | stopChannelClosed (t : Nat) (ch : Fin 2) (high : Nat)
  /-- TEST_PULSE (R328). Every TP_PERIOD WHOA pulses a stop channel and latches TP or CROSS faults. -/
  | testPulse (t : Nat) (ch : Fin 2) (fell : Nat) (low : Nat) (other : Nat)
  /-- DISAGREE_FAULT (R329). Channels disagreeing for more than 50 ms latch a DISAGREE fault. -/
  | disagreeFault (t : Nat) (apart : Nat)
  /-- KEY_POSITION (R331). A debounced key position change updates cause KEY, clears faults after a RUN-MAINT-RUN turn
  and may latch KEY_FAULT. -/
  | keyPosition (t : Nat) (pos : Fin 4) (steady : Nat)
  /-- TOUCH_MEASURE (R338). Every 5 ms WHOA measures the electrodes and guard, confirms touches and releases, and sets
  WET or PALM. -/
  | touchMeasure (t : Nat) (readings : List (BitVec 16))
  /-- RESUME_HOLD_COMPLETE (R337). The RESUME hold completes and WHOA releases when every release condition holds. -/
  | resumeHoldComplete (t : Nat)
  /-- OUTPUT_READBACK_FAULT (R334). A relay driver output differing from its command for 1 ms latches an OUT fault. -/
  | outputReadbackFault (t : Nat) (outs : BitVec 4) (steady : Nat)
  /-- OSC_MONITOR (R343). Every millisecond WHOA compares its two oscillators and latches OSC on a 10 % difference. -/
  | oscMonitor (t : Nat) (main : Nat) (second : Nat)
  /-- PLUG_DETECT (R341). A debounced plug detect change updates cause PLUG and SERVICE_OK. -/
  | plugDetect (t : Nat) (hpd : BitVec 8) (ant : Bool) (svc : Bool) (steady : Nat)
  /-- WHOA_STATUS_EVENT (R345). CHIP sees a change of WHOA status, raises vector 65 and posts an event. -/
  | whoaStatusEvent (t : Nat)
  /-- FLEET_STOP (R344). FLEET_STOP asserts STOP_REQ and completes once WHOA reports STOPPED. -/
  | fleetStop (t : Nat) (it : Item)
  /-- FLEET_RESUME (R344). FLEET_RESUME deasserts STOP_REQ and sets PERMIT. -/
  | fleetResume (t : Nat) (it : Item)
  /-- STOP_FRAME_REPEAT (R335). Every 10 ms while STOPPED NET sends the express stop frame again. -/
  | stopFrameRepeat (t : Nat)
  /-- NET_FRAME_RX (R376). A received frame is judged by the receive checks and delivered into a posted buffer or
  dropped and counted. -/
  | netFrameRx (t : Nat) (port : Fin 2) (bs : List Byte) (express : Bool) (fragErr : Bool) (stamp : BitVec 64) (fill : Nat)
  /-- NET_TX_START (R380). A queued frame at the head of its class starts transmission with its FCS, checksums and
  time stamp. -/
  | netTxStart (t : Nat) (port : Fin 2) (express : Bool) (stamp : BitVec 64)
  /-- NET_TX_TIMEOUT (R380). A frame not started TX_TIMEOUT after reaching the head of its queue completes
  FAIL_TIMEOUT. -/
  | netTxTimeout (t : Nat) (port : Fin 2) (express : Bool)
  /-- PAUSE_RX (R385). A valid PAUSE on Port A starts, restarts or ends the pause timer. -/
  | pauseRx (t : Nat) (quanta : BitVec 16)
  /-- PAUSE_EXPIRY (R385). The pause timer expires and transmission resumes with express frames first. -/
  | pauseExpiry (t : Nat)
  /-- PAUSE_TX (R387). Port A sends a PAUSE on receive-buffer thresholds and repeats it every TX_QUANTA / 2. -/
  | pauseTx (t : Nat) (fill : Nat)
  /-- PORT_B_COLLISION (R388). A collision on Port B backs off and retries, or ends the frame REJ_CONFLICT. -/
  | portBCollision (t : Nat) (late : Bool)
  /-- PLCA_BEACON_TIMEOUT (R389). No PLCA BEACON for 130 ms drops PLCA_UP and Port B falls back to CSMA/CD. -/
  | plcaBeaconTimeout (t : Nat)
  /-- PORT_LINK_CHANGE (R393). A port's link goes up or down, setting LINK_CHANGED. -/
  | portLinkChange (t : Nat) (port : Fin 2) (up : Bool) (fast : Bool) (anFault : Bool)
  /-- NET_TX (R380). NET_TX queues one frame for transmission on a port. -/
  | netTx (t : Nat) (it : Item) (raw : List Byte)
  /-- NET_RX (R379). NET_RX posts a receive buffer for a port's destination list. -/
  | netRx (t : Nat) (it : Item)
  /-- MDIO (R391). MDIO runs one clause 22 or 45 read or write to the external PHY. -/
  | mdio (t : Nat) (it : Item) (data : Option (BitVec 16))
  /-- RTCM_INPUT_GAP (R189). No usable input epoch for INPUT_GAP seconds posts an input-gap event. -/
  | rtcmInputGap (t : Nat) (frames : List (List Byte))
  /-- REF_MONITOR (R190). Once per second the firmware solves the network baseline and posts REF_MONITOR after 60 s
  outside the limit. -/
  | refMonitor (t : Nat) (base : Int × Int × Int)
  /-- TAMPER_DETECT (R411). An enabled tamper condition is confirmed and TACK zeroises. -/
  | tamperDetect (t : Nat) (seen : TamperSeen)
  /-- LOAD (R401). LOAD checks a saddlebag and loads its key into a slot. -/
  | tackLoad (t : Nat) (it : Item) (raw : List Byte) (plain : Option (List Byte))
  /-- GENERATE (R402). GENERATE draws a key from the DRBG, loads it and writes its saddlebag. -/
  | tackGenerate (t : Nat) (it : Item) (mat : BitVec 512) (blob : List Byte)
  /-- DERIVE (R403). DERIVE computes a child key from a parent by HKDF into a new slot. -/
  | tackDerive (t : Nat) (it : Item) (mat : BitVec 512)
  /-- EXPORT (R402). EXPORT writes a slot's saddlebag under the present epoch. -/
  | tackExport (t : Nat) (it : Item) (blob : List Byte)
  /-- UNLOAD (R402). UNLOAD erases a slot once its in-flight users have ended. -/
  | tackUnload (t : Nat) (it : Item)
  /-- REVOKE (R404). REVOKE lists a KEY_ID and revokes every slot of it or its descendants, completing when no item
  holds them. -/
  | tackRevoke (t : Nat) (it : Item)
  /-- IMPORT (R407). IMPORT decapsulates an import record and loads the key with IMPORTED set. -/
  | tackImport (t : Nat) (it : Item) (plain : Option (List Byte))
  /-- SIGN (R402). SIGN signs a message with an ECDSA or ML-DSA slot key. -/
  | tackSign (t : Nat) (it : Item) (sig : List Byte)
  /-- MAC (R402). MAC computes HMAC-SHA-384 of a message with a slot key. -/
  | tackMac (t : Nat) (it : Item) (mac : BitVec 192)
  /-- RANDOM (R402). RANDOM writes DRBG output to a buffer. -/
  | tackRandom (t : Nat) (it : Item) (bytes : List Byte)
  /-- PUBKEY (R406). PUBKEY writes the public key of a slot or of an identity key. -/
  | tackPubkey (t : Nat) (it : Item) (pub : List Byte)
  /-- ATTEST (R405). ATTEST writes a statement about the chip or a slot signed by both identity keys. -/
  | tackAttest (t : Nat) (it : Item) (digest : BitVec 384) (sigs : List Byte)
  /-- EPOCH_ADVANCE (R408). EPOCH_ADVANCE programs the next epoch fuse, keeps the old KEK as KEK_PREV and derives the
  new KEK. -/
  | epochAdvance (t : Nat) (it : Item)
  /-- REWRAP (R409). REWRAP re-wraps input saddlebags under the present epoch one by one. -/
  | tackRewrap (t : Nat) (it : Item) (raw : List Byte) (opens : List (Option (List Byte) × List Byte))
  /-- ZEROISE (R402). ZEROISE runs a zeroise with source SOFTWARE. -/
  | tackZeroise (t : Nat) (it : Item)
  /-- TAMPER_CLEAR (R414). TAMPER_CLEAR acknowledges the tamper log and derives the KEK under the present epoch. -/
  | tamperClear (t : Nat) (it : Item)
  /-- ARM (R428). ARM starts a capture in ARMED or PRIMED and completes when the capture ends. -/
  | recArm (t : Nat) (it : Item)
  /-- FIRE (R427). FIRE fires trigger source 0 of an ARMED recorder. -/
  | recFire (t : Nat) (it : Item)
  /-- DISARM (R427). DISARM ends the capture in its present state. -/
  | recDisarm (t : Nat) (it : Item)
  /-- READOUT (R431). READOUT writes the held capture to host memory in 64 KiB units, optionally encrypted. -/
  | recReadout (t : Nat) (it : Item) (nonce : BitVec 64)
  /-- DISCARD (R427). DISCARD frees the held capture. -/
  | recDiscard (t : Nat) (it : Item)
  /-- REC_TRIGGER (R426). The first REC cycle in which a trigger source fires becomes the trigger instant. -/
  | recTrigger (t : Nat)
  /-- CAPTURE_FILLED (R428). Every source has delivered its POST and the capture ends HELD. -/
  | captureFilled (t : Nat)
  /-- TRIG_SYNC_PULSE (R429). A low on TRIG_SYNC is classed as ARM, FIRE or an error by its width. -/
  | trigSyncPulse (t : Nat) (width : Nat) (edge : Nat)
  /-- QUEUE_PUSH (R108). A producer pushes a word into a queue's fill bank, or is refused and curbed while the queue
  is full. -/
  | queuePush (t : Nat) (q : Fin 128) (producer : Fin 16) (p : QPush)
  /-- QUEUE_POP (R113). A consumer pops the next word of the drain bank, or the idle item, and the banks may swap. -/
  | queuePop (t : Nat) (q : Fin 128) (push : Option QPush) (hit : Bool) (into : Option Nat)
  /-- QUEUE_READ_TIMEOUT (R112). A non-empty queue unread for QTO cycles makes its consumer drain it regardless of
  BURST. -/
  | queueReadTimeout (t : Nat) (q : Fin 128)
  /-- MERGE_PORT_TAKE (R115). The merge port writes the next closed staging packet into a merge queue, round-robin by
  region. -/
  | mergePortTake (t : Nat) (q : Fin 9)
  /-- QUEUE_ENABLE_WRITE (R116). A write to MQF_Q_n_CFG enables or disables a queue, or is refused with CFG_ERR. -/
  | queueEnableWrite (t : Nat) (rq : Requester) (q : Fin 128) (val : Word)
  /-- SCRUB_WORD (R438). The scrub reads and checks the next DRAM word at its pass rate. -/
  | scrubWord (t : Nat) (found : Fin 3)
  /-- THERMAL_SAMPLE (R471). Each millisecond CHIP reads the sensors and raises or lowers the thermal level. -/
  | thermalSample (t : Nat) (readings : List (Fin 16 × BitVec 8))
  /-- REF_CLOCK_CHECK (R469). Each millisecond CHIP checks REF_10M_IN against the crystal and declares loss of an
  island clock. -/
  | refClockCheck (t : Nat) (ppb : Int) (silent : Nat)
  /-- PWR_GOOD_TIMEOUT (R467). PWR_GOOD still low 2 ms after PWR_EN_MAIN rises drops the enables and retries, or sets
  RAIL_FAIL. -/
  | pwrGoodTimeout (t : Nat) (good : Bool)
  /-- STABLE_ENTER (R474). STABLE_ENTER saves the regions' state, puts DRAM in self-refresh and powers down to
  Stabled. -/
  | stableEnter (t : Nat) (it : Item)
  /-- WAKE_SOURCE (R475). A confirmed wake source begins the wake from Stabled. -/
  | wakeSource (t : Nat) (src : Fin 6)
  /-- WAKE_DONE (R476). The wake completes, HIF enters RUN, latched doorbells apply and WOKEN is posted. -/
  | wakeDone (t : Nat)
  /-- IMG_WRITE (R458). IMG_WRITE checks an image and writes it sector by sector into the slot not booted. -/
  | imgWrite (t : Nat) (it : Item) (img : Image)
  /-- IMG_ACTIVATE (R458). IMG_ACTIVATE checks both named slots and writes the boot record with new preferences and
  trials. -/
  | imgActivate (t : Nat) (it : Item)
  /-- IMG_CONFIRM (R458). IMG_CONFIRM raises the anti-rollback counters and ends the trial. -/
  | imgConfirm (t : Nat) (it : Item)
  /-- OTP_PROGRAM (R463). OTP_PROGRAM checks an OTP request and programs one OTP entry. -/
  | otpProgram (t : Nat) (it : Item) (r : OtpReq)
  /-- DEBUG_UNLOCK (R464). DEBUG_UNLOCK checks a signed unlock token, opens JTAG and erases every key slot. -/
  | debugUnlock (t : Nat) (it : Item) (r : OtpReq)
  /-- HITCH_IN_CHANGE (R481). A HITCH_IN pattern is recognised as ABSENT, PRESENT or a HELD pattern. -/
  | hitchInChange (t : Nat) (seen : HitchIn)
  /-- TOKEN_CLAIM_CHECK (R482). 20 µs after driving HELD, a chip reads HITCH_IN and holds the token or backs off. -/
  | tokenClaimCheck (t : Nat)
  /-- CLAIM_WAIT_EXPIRY (R484). A COLD chip that has waited CLAIM_WAIT without a partner holder claims the token. -/
  | claimWaitExpiry (t : Nat)
  /-- TOKEN_RELEASE (R483). The active chip releases the token on a case of Table BYL-3 and becomes COLD or HOT. -/
  | tokenRelease (t : Nat) (partnerHeads : Bool)
  /-- BYL_LINK_TRAINED (R486). The Biyth lanes lock and deskew and the link trains at the widest width. -/
  | bylLinkTrained (t : Nat) (lanes : List (List (BitVec 130))) (skew : List Nat) (delay : Nat)
  /-- BYL_HELLO (R488). A received HELLO gives the partner's identity and nonce and the link key is derived. -/
  | bylHello (t : Nat) (rx : BylRx)
  /-- BYL_CONFIRM (R488). A received CONFIRM is verified and the link comes UP, or AUTH_FAIL is set. -/
  | bylConfirm (t : Nat) (rx : BylRx)
  /-- BYL_RESEND_TIMEOUT (R490). ACK not advancing for 50 µs resends from the oldest unacknowledged frame of a class. -/
  | bylResendTimeout (t : Nat) (class_ : Fin 4) (ack : Option Nat)
  /-- HEARTBEAT_SEND (R496). Every 10 ms of device time each chip sends a HEARTBEAT. -/
  | heartbeatSend (t : Nat)
  /-- HEARTBEAT_RECEIVED (R496). A received heartbeat updates BYL_TIME_DEV, the partner role and YIELD handling. -/
  | heartbeatReceived (t : Nat) (rx : BylRx)
  /-- HEARTBEAT_MISS (R497). A heartbeat not arriving within 2 ms is missed and the third miss declares heartbeat
  loss. -/
  | heartbeatMiss (t : Nat)
  /-- TAKEOVER (R498). A HOT standby claims the token, sends ACTIVE CONFIG and loads the present and next superframes. -/
  | takeover (t : Nat)
  /-- COLD_TAKEOVER (R500). A COLD standby with COLD_TAKEOVER asserts STOP_REQ, claims the token and runs as a fresh
  base. -/
  | coldTakeover (t : Nat)
  /-- MIRROR_GAIT (R491). A standby applies a mirrored track, limits, target and plans. -/
  | mirrorGait (t : Nat) (rx : BylRx) (ctx : BitVec 8) (m : GaitMirror)
  /-- MIRROR_SESSION (R491). A standby applies mirrored context, join, rekey, route and FCNT state. -/
  | mirrorSession (t : Nat) (rx : BylRx) (ctx : BitVec 8) (m : SessMirror)
  /-- MIRROR_CONFIG (R491). A standby applies mirrored schedules, reference, frame origin and parameters. -/
  | mirrorConfig (t : Nat) (rx : BylRx) (c : ConfigMirror)
  /-- MIRROR_ACK (R243). The partner's MIRROR_ACK completes a commit awaiting synchronous mirroring. -/
  | mirrorAck (t : Nat) (rx : BylRx)
  /-- TILE_REQ (R495). The active resends requested tiles with their snapshot MSEQ. -/
  | tileReq (t : Nat) (rx : BylRx)
  /-- TILE_DATA (R495). A standby applies a tile snapshot or the map geometry during resynchronisation. -/
  | tileData (t : Nat) (rx : BylRx) (d : TileData)
  /-- REC_ARM_MESSAGE (R429). A REC_ARM message over the Biyth link moves a PRIMED recorder to ARMED. -/
  | recArmMessage (t : Nat) (rx : BylRx)
  /-- REC_FIRE_MESSAGE (R429). A REC_FIRE message fires trigger source 1 with the partner's trigger instant. -/
  | recFireMessage (t : Nat) (rx : BylRx)
  /-- SVC_MSG (R489). A service firmware message arrives from the partner over class 3. -/
  | svcMsg (t : Nat) (rx : BylRx) (keysOk : Option Bool)
  /-- PAIR_HANDOVER (R501). PAIR_HANDOVER holds new commits, yields the token and completes when the partner reports
  ACTIVE. -/
  | pairHandover (t : Nat) (it : Item)
  /-- HANDOVER_TIMEOUT (R501). A partner not reporting ACTIVE within 100 ms completes PAIR_HANDOVER FAIL_TIMEOUT. -/
  | handoverTimeout (t : Nat)
  /-- POWER_OFF (R466). Main power is removed and the chip goes unpowered, closing the re-wrap window and leaving
  HEAD_n_STOP to the board pull-ups. -/
  | powerOff (t : Nat)
  /-- PLL_LOCK_LOSS (R469). An island PLL loses lock, which is a loss of an island clock and a chip error. -/
  | pllLockLoss (t : Nat) (region : Fin 16)
  /-- BYL_LINK_LOSS (R486). Sixteen sync-header errors within 1,024 blocks take the Biyth link out of UP, so
  unacknowledged frames are discarded, the pair is declared broken and the link retrains. -/
  | bylLinkLoss (t : Nat) (lane : Fin 4) (blocks : List (BitVec 130))
  /-- HELLO_RETRY (R488). One second after a CONFIRM fails, the link held in AUTH starts a new HELLO. -/
  | helloRetry (t : Nat)
  /-- PLCA_BEACON_RECEIVED (R389). A PLCA BEACON heard on Port B sets PLCA_UP and returns the port from CSMA/CD to
  PLCA. -/
  | plcaBeaconReceived (t : Nat)
  /-- PREEMPTION_VERIFY (R383). The clause 99 verify process on Port A succeeds or fails and sets or clears VERIFIED,
  which switches preemption on or off. -/
  | preemptionVerify (t : Nat) (passed : Bool)
  /-- ACQUISITION_HANDOFF (R125). An acquisition engine finishes its code and Doppler search and hands the signal to a
  free channel, or a channel comes free for the next candidate. -/
  | acquisitionHandoff (t : Nat) (engine : Fin 2) (prn : BitVec 6) (sig : Fin 6) (known : List SigCand)
  /-- SIGNAL_LOCK_LOSS (R120). A tracked signal that has coasted for 100 ms, or lost carrier lock, loses lock and
  frees its channel. -/
  | signalLockLoss (t : Nat) (ch : Fin 192) (carrier : Bool)
  /-- DOWNLINK_BULK_SPAN (R287). In a context's downlink BULK or RELAY span, AIR sends the pending JOIN_ACK, JOIN_NAK,
  WAKE, REKEY, LEAVE, bulk data or wrapped relay frame. -/
  | downlinkBulkSpan (t : Nat) (ctx : BitVec 8)
  /-- PULSE_WIDTH_END (R360). WIDTH µs after a PPS pulse, or a cue PULSE width after its start, the output returns
  from its pulse level. -/
  | pulseWidthEnd (t : Nat) (out : Fin 10)
  /-- HANDOVER_YIELD (R501). At 55 ms after the next superframe start the active holds new COMMITs, sends its last
  mirror records and a YIELD heartbeat, and releases the token. -/
  | handoverYield (t : Nat)
  /-- INTERCONNECT_CORRECTED_ERROR (R535). The chip interconnect corrects an error and sets CHIP_ERR_STS.IC_CORR,
  which may raise the CHIP error summary. -/
  | interconnectCorrectedError (t : Nat)
  deriving DecidableEq, Repr

end Sys2Proof
end

