-- ==== Sys2Proof/Decode.lean ====
section
/-!
DEFINITION. The command a word spells by the bits of spec/opcode_table.json. The table gives no row any bits, so no word
spells a command.
-/

namespace Sys2Proof

/-- The command that the `nbits`-bit word `w` spells: none, since no row of the table has bits. -/
def decodeTableWord (_nbits _w : Nat) : Option Instr := none

end Sys2Proof
end

