-- ==== Sys2Proof/Machine/Bytes.lean ====
section
/-!
DEFINITION. Bytes as the spec's formats lay them out: multi-byte fields least significant byte first (R5), bit fields of
a byte string from its least significant bit up, the layout of a descriptor (R63, Table HIF-3) and of
an OBS report (R142) and its packet (R144).
-/

namespace Sys2Proof.Machine

/-- `n` bytes of `v`, least significant first (R5). -/
def leBytes (n v : Nat) : List Byte :=
  match n with
  | 0 => []
  | n + 1 => BitVec.ofNat 8 v :: leBytes n (v / 256)

/-- The number that bytes spell, least significant first (R5). -/
def leNat (bs : List Byte) : Nat :=
  match bs with
  | [] => 0
  | b :: r => b.toNat + 256 * leNat r

/-- The `n`-byte field at offset `off`; bytes past the end count 0. -/
def leAt (bs : List Byte) (off n : Nat) : Nat := leNat ((bs.drop off).take n)

/-- Exactly `n` bytes: cut, or filled with zero bytes. -/
def fitBytes (n : Nat) (bs : List Byte) : List Byte := (bs ++ leBytes (n - bs.length) 0).take n

/-- Bits [hi:lo] of a number. -/
def bitsOf (v hi lo : Nat) : Nat := v / 2 ^ lo % 2 ^ (hi - lo + 1)

/-- A descriptor from its bytes (R63, Table HIF-3); reserved fields are not read (R7). -/
def Desc.ofBytes (bs : List Byte) : Desc where
  opcode  := BitVec.ofNat 16 (leAt bs 0x00 2)
  noLate  := leAt bs 0x02 2 % 2 == 1
  fence   := leAt bs 0x02 2 / 2 % 2 == 1
  irq     := leAt bs 0x02 2 / 4 % 2 == 1
  tag     := BitVec.ofNat 16 (leAt bs 0x04 2)
  flow    := BitVec.ofNat 10 (leAt bs 0x06 2)
  context := BitVec.ofNat 8 (leAt bs 0x08 1)
  when_   := BitVec.ofNat 64 (leAt bs 0x10 8)
  ptr     := BitVec.ofNat 64 (leAt bs 0x18 8)
  len     := BitVec.ofNat 32 (leAt bs 0x20 4)
  arg0    := BitVec.ofNat 64 (leAt bs 0x28 8)
  arg1    := BitVec.ofNat 64 (leAt bs 0x30 8)
  arg2    := BitVec.ofNat 64 (leAt bs 0x38 8)

/-- The bytes of a descriptor (Table HIF-3), reserved fields 0. -/
def Desc.bytes (d : Desc) : List Byte :=
  leBytes 2 d.opcode.toNat
    ++ leBytes 2 ((if d.noLate then 1 else 0) + (if d.fence then 2 else 0) + (if d.irq then 4 else 0))
    ++ leBytes 2 d.tag.toNat ++ leBytes 2 d.flow.toNat ++ leBytes 1 d.context.toNat ++ leBytes 7 0
    ++ leBytes 8 d.when_.toNat ++ leBytes 8 d.ptr.toNat ++ leBytes 4 d.len.toNat ++ leBytes 4 0
    ++ leBytes 8 d.arg0.toNat ++ leBytes 8 d.arg1.toNat ++ leBytes 8 d.arg2.toNat

/-! ### 64-bit words -/

/-- Bytes taken as 64-bit words, least significant byte first. -/
def wordsOf (bs : List Byte) : List (BitVec 64) :=
  match bs with
  | b0 :: b1 :: b2 :: b3 :: b4 :: b5 :: b6 :: b7 :: r => (b7 ++ b6 ++ b5 ++ b4 ++ b3 ++ b2 ++ b1 ++ b0) :: wordsOf r
  | _ => []

/-- Bytes filled with zero bytes to a whole number of words. -/
def padWords (bs : List Byte) : List Byte := bs ++ leBytes ((8 - bs.length % 8) % 8) 0

/-- The bytes of 64-bit words, least significant byte first. -/
def bytesOf (ws : List (BitVec 64)) : List Byte := (ws.map (fun w => leBytes 8 w.toNat)).flatten

/-! ### OBS reports (R142, Tables FIX-1 to FIX-3) -/

/-- A satellite entry from its 56 bits. -/
def ObsSat.ofBits (v : Nat) : ObsSat :=
  ⟨BitVec.ofNat 6 v, BitVec.ofNat 2 (bitsOf v 7 6), BitVec.ofNat 24 (bitsOf v 31 8), BitVec.ofNat 24 (bitsOf v 55 32)⟩

/-- A signal record from its 56 bits. -/
def ObsSig.ofBits (v : Nat) : ObsSig :=
  { sat := BitVec.ofNat 5 v, signal := BitVec.ofNat 3 (bitsOf v 7 5), finePr := BitVec.ofNat 16 (bitsOf v 23 8)
    fineCp := BitVec.ofNat 22 (bitsOf v 45 24), cn0 := BitVec.ofNat 6 (bitsOf v 51 46), half := v.testBit 52
    slip := v.testBit 53 }

/-- A report from its bytes; a length that R142 does not give shows in `len`. -/
def ObsReport.ofBytes (bs : List Byte) : ObsReport :=
  let nsat := leAt bs 0x08 1
  let nsig := leAt bs 0x09 1
  { len := bs.length
    epoch := BitVec.ofNat 64 (leAt bs 0x00 8), nsat := BitVec.ofNat 8 nsat, nsig := BitVec.ofNat 8 nsig
    flags := BitVec.ofNat 8 (leAt bs 0x0A 1), selfState := BitVec.ofNat 8 (leAt bs 0x0B 1)
    selfE := BitVec.ofNat 32 (leAt bs 0x0C 4), selfN := BitVec.ofNat 32 (leAt bs 0x10 4)
    selfU := BitVec.ofNat 32 (leAt bs 0x14 4), odoS := BitVec.ofNat 32 (leAt bs 0x18 4)
    odoV := BitVec.ofNat 16 (leAt bs 0x1C 2), mstatus := BitVec.ofNat 16 (leAt bs 0x1E 2)
    sats := (List.range nsat).map (fun k => ObsSat.ofBits (leAt bs (32 + 7 * k) 7))
    sigs := (List.range nsig).map (fun k => ObsSig.ofBits (leAt bs (32 + 7 * (nsat + k)) 7)) }

/-- The 56 bits of a satellite entry. -/
def ObsSat.bits (x : ObsSat) : Nat := x.prn.toNat + x.sys.toNat * 2 ^ 6 + x.rough.toNat * 2 ^ 8 + x.rate.toNat * 2 ^ 32

/-- The 56 bits of a signal record. -/
def ObsSig.bits (x : ObsSig) : Nat :=
  x.sat.toNat + x.signal.toNat * 2 ^ 5 + x.finePr.toNat * 2 ^ 8 + x.fineCp.toNat * 2 ^ 24 + x.cn0.toNat * 2 ^ 46
    + (if x.half then 2 ^ 52 else 0) + (if x.slip then 2 ^ 53 else 0)

/-- The bytes of a report. -/
def ObsReport.bytes (r : ObsReport) : List Byte :=
  leBytes 8 r.epoch.toNat ++ leBytes 1 r.nsat.toNat ++ leBytes 1 r.nsig.toNat ++ leBytes 1 r.flags.toNat
    ++ leBytes 1 r.selfState.toNat ++ leBytes 4 r.selfE.toNat ++ leBytes 4 r.selfN.toNat ++ leBytes 4 r.selfU.toNat
    ++ leBytes 4 r.odoS.toNat ++ leBytes 2 r.odoV.toNat ++ leBytes 2 r.mstatus.toNat
    ++ (r.sats.map (fun x => leBytes 7 x.bits)).flatten ++ (r.sigs.map (fun x => leBytes 7 x.bits)).flatten

/-- The words of an OBS item (R144): context, head and length; the device time of the slot end; the report. -/
def obsPacket (ctx head slotEnd : Nat) (bs : List Byte) : List (BitVec 64) :=
  BitVec.ofNat 64 (ctx % 256 + head % 8 * 2 ^ 8 + bs.length % 2 ^ 16 * 2 ^ 16) :: BitVec.ofNat 64 slotEnd
    :: wordsOf (padWords bs)

/-- The device time of the slot end in an OBS item. -/
def obsSlotEnd (ws : List (BitVec 64)) : Nat := (ws[1]?.getD 0).toNat

/-- The report in an OBS item. -/
def obsReport (ws : List (BitVec 64)) : ObsReport :=
  ObsReport.ofBytes ((bytesOf (ws.drop 2)).take ((ws[0]?.getD 0).toNat / 2 ^ 16 % 2 ^ 16))

end Sys2Proof.Machine
end

