-- ==== Sys2Proof/Machine/PadBytes.lean ====
section
/-!
DEFINITION. The layouts of what host buffers hold for PAD and GAIT: sweep requests and candidate sets (R221, R236), shape
records (R220), track records (R248), paddock import files (R210, R211). Bytes past the end of a buffer count 0; reserved
bytes are not read (R7).
-/

namespace Sys2Proof.Machine

/-- CRC-32C of bytes: polynomial 0x1EDC6F41 reflected. -/
def crc32c (bs : List Byte) : BitVec 32 :=
  let bit (c : BitVec 32) : BitVec 32 := if c.getLsbD 0 then (c >>> 1) ^^^ 0x82F63B78#32 else c >>> 1
  let byte (c : BitVec 32) (b : Byte) : BitVec 32 :=
    (List.range 8).foldl (fun (c : BitVec 32) _ => bit c) (c ^^^ b.setWidth 32)
  ~~~ (bs.foldl byte 0xFFFFFFFF#32)

/-! ### Sweep requests -/

/-- A profile sample (Table PAD-16). -/
def Sample.ofBytes (bs : List Byte) : Sample where
  e := BitVec.ofNat 32 (leAt bs 0x00 4)
  n := BitVec.ofNat 32 (leAt bs 0x04 4)
  heading := BitVec.ofNat 16 (leAt bs 0x08 2)
  v := BitVec.ofNat 16 (leAt bs 0x0A 2)

/-- A sweep request (Tables PAD-15, PAD-16). -/
def SweepReq.ofBytes (bs : List Byte) : SweepReq where
  nsamp := BitVec.ofNat 16 (leAt bs 0x00 2)
  first := BitVec.ofNat 14 (leAt bs 0x02 2)
  seq := BitVec.ofNat 32 (leAt bs 0x04 4)
  samples := (List.range (leAt bs 0x00 2)).map (fun k => Sample.ofBytes (bs.drop (16 + 12 * k)))

/-- The bytes of a profile sample. -/
def Sample.bytes (x : Sample) : List Byte :=
  leBytes 4 x.e.toNat ++ leBytes 4 x.n.toNat ++ leBytes 2 x.heading.toNat ++ leBytes 2 x.v.toNat

/-- The bytes of a sweep request. -/
def SweepReq.bytes (q : SweepReq) : List Byte :=
  leBytes 2 q.nsamp.toNat ++ leBytes 2 q.first.toNat ++ leBytes 4 q.seq.toNat ++ leBytes 8 0
    ++ (q.samples.map Sample.bytes).flatten

/-- `n` sweep requests back to back, each of the length its NSAMP gives (R236). -/
def candsOf (n : Nat) (bs : List Byte) : List SweepReq :=
  match n with
  | 0 => []
  | n + 1 => SweepReq.ofBytes bs :: candsOf n (bs.drop (16 + 12 * leAt bs 0x00 2))

/-- The bytes of a candidate set (R236). -/
def candBytes (l : List SweepReq) : List Byte := leBytes 1 l.length ++ leBytes 15 0 ++ (l.map SweepReq.bytes).flatten

/-! ### Shape and track records -/

/-- A shape record (Table PAD-14). -/
def ShapeRec.ofBytes (bs : List Byte) : ShapeRec where
  nvert := BitVec.ofNat 8 (leAt bs 0x00 1)
  clear := BitVec.ofNat 16 (leAt bs 0x02 2)
  cap := BitVec.ofNat 32 (leAt bs 0x04 4)
  verts := (List.range 8).map (fun k =>
    (BitVec.ofNat 16 (leAt bs (8 + 4 * k) 2), BitVec.ofNat 16 (leAt bs (10 + 4 * k) 2)))

/-- The bytes of a shape record. -/
def ShapeRec.bytes (x : ShapeRec) : List Byte :=
  leBytes 1 x.nvert.toNat ++ leBytes 1 0 ++ leBytes 2 x.clear.toNat ++ leBytes 4 x.cap.toNat
    ++ (x.verts.map (fun p => leBytes 2 p.1.toNat ++ leBytes 2 p.2.toNat)).flatten

/-- A track record (R248): TRACK_CRC is compared with the CRC-32C of the points. -/
def TrackRec.ofBytes (bs : List Byte) : TrackRec where
  id := BitVec.ofNat 16 (leAt bs 0x00 2)
  npt := BitVec.ofNat 16 (leAt bs 0x02 2)
  crc := BitVec.ofNat 32 (leAt bs 0x08 4)
  crcOk := crc32c ((bs.drop 16).take (8 * leAt bs 0x02 2)) == BitVec.ofNat 32 (leAt bs 0x08 4)
  pts := (List.range (leAt bs 0x02 2)).map (fun k =>
    (BitVec.ofNat 32 (leAt bs (16 + 8 * k) 4), BitVec.ofNat 32 (leAt bs (20 + 8 * k) 4)))

/-- The bytes of a track's points. -/
def trackPoints (l : List (BitVec 32 × BitVec 32)) : List Byte :=
  (l.map (fun p => leBytes 4 p.1.toNat ++ leBytes 4 p.2.toNat)).flatten

/-- The bytes of a track record. -/
def TrackRec.bytes (x : TrackRec) : List Byte :=
  leBytes 2 x.id.toNat ++ leBytes 2 x.npt.toNat ++ leBytes 4 0 ++ leBytes 4 x.crc.toNat ++ leBytes 4 0 ++ trackPoints x.pts

/-! ### Import files -/

/-- The static halves of a tile record's data: RAW one by one, RLE by its runs; other encodings carry none (R211). -/
def halvesIn (enc len : Nat) (data : List Byte) : Halves :=
  if enc = 0 then (List.range (len / 2)).map (fun k => (1, BitVec.ofNat 16 (leAt data (2 * k) 2)))
  else if enc = 1 then (List.range (len / 4)).map (fun k =>
    (bitsOf (leAt data (4 * k) 4) 27 16 + 1, BitVec.ofNat 16 (leAt data (4 * k) 4)))
  else []

/-- A tile record (Table PAD-8). -/
def TileRec.ofBytes (bs : List Byte) : TileRec :=
  let len := leAt bs 0x08 4
  let data := (bs.drop 16).take len
  { x := BitVec.ofNat 16 (leAt bs 0x00 2), y := BitVec.ofNat 16 (leAt bs 0x02 2), enc := BitVec.ofNat 8 (leAt bs 0x04 1)
    len := BitVec.ofNat 32 len, crcOk := crc32c data == BitVec.ofNat 32 (leAt bs 0x0C 4)
    runs := halvesIn (leAt bs 0x04 1) len data }

/-- `n` tile records one after another. -/
def tilesIn (n : Nat) (bs : List Byte) : List TileRec :=
  match n with
  | 0 => []
  | n + 1 => TileRec.ofBytes bs :: tilesIn n (bs.drop (16 + leAt bs 0x08 4))

/-- A paddock import file (Table PAD-7); `hashOk` says whether BODY_HASH is the SHA-384 of the body. -/
def PadFile.ofBytes (bs : List Byte) (hashOk : Bool) : PadFile where
  magicOk := bs.take 4 == [0x44#8, 0x5A#8, 0x50#8, 0x4D#8] && leAt bs 0x04 2 == 0x80
  format := BitVec.ofNat 16 (leAt bs 0x06 2)
  w64 := BitVec.ofNat 16 (leAt bs 0x08 2)
  h64 := BitVec.ofNat 16 (leAt bs 0x0A 2)
  cm := BitVec.ofNat 8 (leAt bs 0x0C 1)
  deflt := BitVec.ofNat 16 (leAt bs 0x0E 2)
  orgE := BitVec.ofNat 32 (leAt bs 0x10 4)
  orgN := BitVec.ofNat 32 (leAt bs 0x14 4)
  frameX := BitVec.ofNat 64 (leAt bs 0x18 8)
  frameY := BitVec.ofNat 64 (leAt bs 0x20 8)
  frameZ := BitVec.ofNat 64 (leAt bs 0x28 8)
  fileLen := BitVec.ofNat 32 (leAt bs 0x34 4)
  version := BitVec.ofNat 32 (leAt bs 0x68 4)
  recs := tilesIn (leAt bs 0x30 4) ((bs.take (leAt bs 0x34 4)).drop 0x80)
  hashOk := hashOk

end Sys2Proof.Machine
end

