-- ==== Sys2Proof/Machine/BylBytes.lean ====
section
/-!
DEFINITION. The Biyth link on its lanes: blocks, scrambler, ordered sets (R485), lock and stripes (R486), frames
(R487, Tables BYL-4 to BYL-6) and mirror records (Table PAD-22). What the spec names and does not lay out (a training
set's bytes, the stage of the scrambler that gives the bit, the bytes of a disc and of TILE_REQ) is log entry 142.
-/

namespace Sys2Proof.Machine

/-! ### Blocks (R485) -/

/-- A block: its sync header in bits [1:0], its payload in [129:2], bit 0 first on the lane. -/
abbrev Block := BitVec 130

/-- The sync header. -/
def blockSync (b : Block) : Nat := b.toNat % 4

/-- The 128 payload bits. -/
def blockPayload (b : Block) : BitVec 128 := BitVec.ofNat 128 (b.toNat / 4)

/-- A block of a sync header and a payload. -/
def lineBlock (sync : Nat) (p : BitVec 128) : Block := BitVec.ofNat 130 (sync + p.toNat * 4)

/-- A block is a data block. -/
def isData (b : Block) : Bool := blockSync b == 2

/-- A sync header is valid: 0b10 or 0b01. -/
def syncValid (b : Block) : Bool := blockSync b == 2 || blockSync b == 1

/-- One bit time of the scrambler x^23 + x^21 + x^16 + x^8 + x^5 + x^2 + 1. -/
def scrStep (c : BitVec 23) : BitVec 23 := if c.getLsbD 22 then (c <<< 1) ^^^ 0x210125#23 else c <<< 1

/-- The next `n` bits of the scrambler's sequence from bit `k` of `acc` on, and the register after them. -/
def scrBits (n k acc : Nat) (c : BitVec 23) : Nat × BitVec 23 :=
  match n with
  | 0 => (acc, c)
  | n + 1 => scrBits n (k + 1) (if c.getLsbD 22 then acc + 2 ^ k else acc) (scrStep c)

/-- The payload of a data block, scrambled or descrambled, and the register after it. -/
def scramble (c : BitVec 23) (p : BitVec 128) : BitVec 128 × BitVec 23 :=
  let (k, c) := scrBits 128 0 0 c
  (p ^^^ BitVec.ofNat 128 k, c)

/-- The seed of lane `k`. -/
def scrSeed (k : Nat) : BitVec 23 := 0x1DC0DE#23 ^^^ BitVec.ofNat 23 k

/-- The registers of the four lanes as seeded. -/
def scrSeeds : List (BitVec 23) := (List.range 4).map scrSeed

/-- An ordered set of bytes: its kind, what it carries, zeros. -/
def orderedSet (bs : List Byte) : Block := lineBlock 1 (BitVec.ofNat 128 (leNat (fitBytes 16 bs)))

/-- The training set of lane `k` for the width code `w` (Table BYL-13). -/
def trainingSet (k w : Nat) : Block := orderedSet (leBytes 1 0x1E ++ leBytes 1 k ++ leBytes 1 w)

/-- The skip set. -/
def skipSet : Block := orderedSet (leBytes 1 0xAA)

/-- A lane locks (R486): 8 consecutive valid sync headers; `run` is how many have just been seen. -/
def laneLocks (run : Nat) (bs : List Block) : Bool :=
  match bs with
  | [] => false
  | b :: r => if syncValid b then (8 ≤ run + 1 || laneLocks (run + 1) r) else laneLocks 0 r

/-- Sixteen sync-header errors within 1,024 blocks of a lane (R486). -/
def laneLost (bs : List Block) : Bool := 16 ≤ ((bs.take 1024).filter (fun b => !syncValid b)).length

/-! ### Chunks (R486) -/

/-- Lanes that a width code of Table BYL-13 uses. -/
def widthLanes (w : Nat) : Nat := if w = 3 then 4 else w

/-- The chunks of a lane's blocks: data blocks descrambled; ordered sets carry none. -/
def laneChunks (c : BitVec 23) (bs : List Block) : List (List Byte) × BitVec 23 :=
  match bs with
  | [] => ([], c)
  | b :: r =>
    if isData b then
      let (p, c) := scramble c (blockPayload b)
      let (l, c) := laneChunks c r
      (leBytes 16 p.toNat :: l, c)
    else laneChunks c r

/-- The chunks of the stream: chunk i from lane i mod width. -/
def weave (width : Nat) (lanes : List (List (List Byte))) : List (List Byte) :=
  let n := (lanes.map List.length).foldl max 0
  (List.range (width * n)).filterMap (fun i => (lanes[i % width]?).bind (fun l => l[i / width]?))

/-- The data blocks of a lane for chunks, a skip set before every 370th. -/
def laneBlocks (c : BitVec 23) (n : Nat) (chunks : List (List Byte)) : List Block :=
  match chunks with
  | [] => []
  | x :: r =>
    let (p, c) := scramble c (BitVec.ofNat 128 (leNat x))
    if n % 370 = 369 then skipSet :: lineBlock 2 p :: laneBlocks c (n + 1) r else lineBlock 2 p :: laneBlocks c (n + 1) r

/-- Bytes cut into 16-byte chunks. -/
def chunksOf (n : Nat) (bs : List Byte) : List (List Byte) :=
  match n with
  | 0 => []
  | n + 1 => bs.take 16 :: chunksOf n (bs.drop 16)

/-- The chunks that lane `k` of `width` carries. -/
def ofLane (width k : Nat) (chunks : List (List Byte)) : List (List Byte) :=
  (List.range chunks.length).filterMap (fun i => if i % width = k then chunks[i]? else none)

/-- What each lane carries after training at width code `w`: its training set, then the chunks of `bs`. -/
def linkBlocks (w : Nat) (bs : List Byte) : List (List Block) :=
  let width := widthLanes w
  (List.range width).map (fun k =>
    trainingSet k w :: laneBlocks (scrSeed k) 0 (ofLane width k (chunksOf (bs.length / 16) bs)))

/-! ### Frames (R487, Table BYL-4) -/

/-- A frame as received: header, padded payload, tag. -/
structure BylFrame where
  hdr  : List Byte
  body : List Byte
  tag  : List Byte
  deriving DecidableEq, Repr

/-- TYPE. -/
def BylFrame.type (f : BylFrame) : Nat := leAt f.hdr 2 1
/-- The traffic class. -/
def BylFrame.class_ (f : BylFrame) : Nat := leAt f.hdr 1 1 % 4
/-- LEN. -/
def BylFrame.len (f : BylFrame) : Nat := leAt f.hdr 4 4
/-- SEQ. -/
def BylFrame.seq (f : BylFrame) : Nat := leAt f.hdr 8 8
/-- ACK; all ones where the partner has received no frame of the class (DESIGN CHOICE, log entry 142). -/
def BylFrame.ack (f : BylFrame) : Option Nat := if leAt f.hdr 0x10 8 = 2 ^ 64 - 1 then none else some (leAt f.hdr 0x10 8)

/-- Chunks of a payload of `len` bytes. -/
def payloadChunks (len : Nat) : Nat := (len + 15) / 16

/-- Take the first frame of a stream: idle chunks before it, and chunks that cannot start one, are passed over. None, with
the stream as it is from the frame on, where the frame is not whole yet. -/
def firstFrame (chunks : List (List Byte)) : Option BylFrame × List (List Byte) :=
  match chunks with
  | [] => (none, [])
  | a :: r =>
    if leAt a 0 1 = 0xB5 ∧ leAt a 4 4 ≤ 65536 then
      let n := payloadChunks (leAt a 4 4)
      if n + 2 ≤ r.length then
        (some ⟨a ++ (r.take 1).flatten, ((r.drop 1).take n).flatten, ((r.drop (n + 1)).take 1).flatten⟩, r.drop (n + 2))
      else (none, chunks)
    else firstFrame r

/-- The header of a frame. -/
def bylHeader (cls type len seq : Nat) (ack : Option Nat) : List Byte :=
  leBytes 1 0xB5 ++ leBytes 1 cls ++ leBytes 1 type ++ leBytes 1 0 ++ leBytes 4 len ++ leBytes 8 seq
    ++ leBytes 8 (ack.getD (2 ^ 64 - 1)) ++ leBytes 8 0

/-! ### Payloads of class 0 (R488, R489, Table BYL-6) -/

/-- The payload of a HELLO, its fields in the order R488 lists them. -/
def Hello.payload (h : Hello) : List Byte :=
  leBytes 16 h.uid.toNat ++ leBytes 16 h.nonce.toNat ++ leBytes 1 (if h.senior then 1 else 0) ++ leBytes 1 h.epoch.toNat
    ++ leBytes 4 h.fw.toNat ++ leBytes 4 h.bundle.toNat ++ leBytes 4 h.svc.toNat ++ leBytes 4 h.keyId.toNat

/-- The HELLO frame: in clear, with the CRC-32C of header and payload in the tag. -/
def Hello.frame (h : Hello) : List Byte :=
  let p := h.payload
  let b := bylHeader 0 1 p.length 0 none
  b ++ fitBytes (16 * payloadChunks p.length) p ++ fitBytes 16 (leBytes 4 (crc32c (b ++ p)).toNat)

/-- The HELLO of a frame whose CRC matches. -/
def BylFrame.hello (f : BylFrame) : Option Hello :=
  let p := f.body.take f.len
  if f.len = 50 ∧ f.tag = fitBytes 16 (leBytes 4 (crc32c (f.hdr ++ p)).toNat) then
    some { uid := BitVec.ofNat 128 (leAt p 0 16), nonce := BitVec.ofNat 128 (leAt p 16 16), senior := leAt p 32 1 == 1
           epoch := BitVec.ofNat 8 (leAt p 33 1), fw := BitVec.ofNat 32 (leAt p 34 4)
           bundle := BitVec.ofNat 32 (leAt p 38 4), svc := BitVec.ofNat 32 (leAt p 42 4)
           keyId := BitVec.ofNat 32 (leAt p 46 4) }
  else none

/-- A HEARTBEAT payload (Table BYL-6). -/
def Beat.ofBytes (p : List Byte) : Beat where
  dev := BitVec.ofNat 64 (leAt p 0 8)
  sfn := BitVec.ofNat 48 (leAt p 8 6)
  role := BitVec.ofNat 2 (leAt p 0x10 1)
  yield := (leAt p 0x10 1).testBit 7
  sync := (leAt p 0x11 1).testBit 0
  stopped := (leAt p 0x11 1).testBit 1
  quality := BitVec.ofNat 2 (leAt p 0x11 1 / 4)
  schedId := BitVec.ofNat 16 (leAt p 0x12 2)
  mseq := BitVec.ofNat 32 (leAt p 0x14 4)

/-- The payload of a HEARTBEAT. -/
def Beat.bytes (b : Beat) : List Byte :=
  leBytes 8 b.dev.toNat ++ leBytes 8 b.sfn.toNat ++ leBytes 1 (b.role.toNat + (if b.yield then 128 else 0))
    ++ leBytes 1 ((if b.sync then 1 else 0) + (if b.stopped then 2 else 0) + b.quality.toNat * 4)
    ++ leBytes 2 b.schedId.toNat ++ leBytes 4 b.mseq.toNat

/-! ### Mirror records (Table PAD-22) -/

/-- KIND of a mirror record. -/
def MirrorBody.kind : MirrorBody → Nat
  | .commit _ => 1 | .release => 2 | .discOpen .. => 3 | .discEnd => 4 | .shape _ => 5

/-- The body of a mirror record. -/
def MirrorBody.bytes : MirrorBody → List Byte
  | .commit q => q.bytes
  | .discOpen e n t0 r0 => leBytes 4 e.toNat ++ leBytes 4 n.toNat ++ leBytes 8 t0 ++ leBytes 8 r0
  | .shape x => x.bytes
  | .release | .discEnd => []

/-- The payload of MIRROR_PAD. -/
def MirrorRec.bytes (r : MirrorRec) : List Byte :=
  let b := r.body.bytes
  leBytes 4 r.seq ++ leBytes 1 r.body.kind ++ leBytes 1 r.ctx ++ leBytes 2 r.now ++ leBytes 4 r.tick ++ leBytes 2 r.pr
    ++ leBytes 2 0 ++ leBytes 4 r.cells ++ leBytes 4 r.crc.toNat ++ leBytes 4 b.length ++ leBytes 4 r.reqSeq ++ b

/-- The body of kind `k`. -/
def MirrorBody.ofBytes (k : Nat) (b : List Byte) : Option MirrorBody :=
  match k with
  | 1 => some (.commit (SweepReq.ofBytes b))
  | 2 => some .release
  | 3 => some (.discOpen (BitVec.ofNat 32 (leAt b 0 4)) (BitVec.ofNat 32 (leAt b 4 4)) (leAt b 8 8) (leAt b 16 8))
  | 4 => some .discEnd
  | 5 => some (.shape (ShapeRec.ofBytes b))
  | _ => none

/-- A mirror record from its payload. -/
def MirrorRec.ofBytes (p : List Byte) : Option MirrorRec :=
  (MirrorBody.ofBytes (leAt p 4 1) ((p.drop 0x20).take (leAt p 0x18 4))).map (fun b =>
    ⟨leAt p 0 4, leAt p 5 1, leAt p 6 2 % 2 ^ 14, leAt p 8 4, leAt p 0xC 2, leAt p 0x10 4,
      BitVec.ofNat 32 (leAt p 0x14 4), leAt p 0x1C 4, b⟩)

/-- The tile indices of a TILE_REQ, two bytes each. -/
def tileIndices (p : List Byte) : List Nat := (List.range (p.length / 2)).map (fun k => leAt p (2 * k) 2)

/-! ### Frames as sent -/

/-- TYPE and class of a frame (Table BYL-5). -/
def BylOut.code : BylOut → Nat
  | .hello _ => 0x01 | .confirm => 0x02 | .heartbeat _ => 0x03 | .ackOnly _ _ => 0x04 | .recArm _ => 0x05 | .recFire _ => 0x06
  | .pad _ => 0x10 | .ack _ => 0x11 | .gait _ => 0x12 | .session _ => 0x13 | .config _ => 0x14
  | .tileReq _ => 0x20 | .tileData _ => 0x21

/-- The class a TYPE goes in (Table BYL-5). -/
def typeClass (n : Nat) : Nat := if n < 0x10 then 0 else if n < 0x20 then 1 else if n < 0x30 then 2 else 3

/-! ### The hitch line (Table BYL-2) -/

/-- A period of `ns` lies within ±10 % of `p`. -/
def nearPeriod (p ns : Nat) : Bool := decide (9 * p ≤ 10 * ns ∧ 10 * ns ≤ 11 * p)

/-- The pattern a line shows: a level held for 8 µs, or the last four of its periods within ±10 % of one; none where it
shows no pattern yet (R481). -/
def HitchIn.pattern : HitchIn → Option Hitch
  | .level ns => if 8000 ≤ ns then some .absent else none
  | .periods l =>
    let four (p : Nat) : Bool := l.length ≥ 4 && (l.drop (l.length - 4)).all (nearPeriod p)
    if four 4000 then some .present else if four 1000 then some .heldSenior else if four 500 then some .heldJunior else none

end Sys2Proof.Machine
end

