-- ==== Sys2Proof/Config.lean ====
section
/-!
DEFINITION. The free values: what the spec leaves undefined. Each is an uninterpreted constant: nothing here or in a
proof can see its value, so a statement about one holds for every value.
-/

namespace Sys2Proof.Config

/-- A fresh free word for each index: reserved bits as read (RSVD of Table SCOPE-3), and results the spec leaves
undefined or unstated. The step reads it at `State.freeIdx`, which then advances. -/
opaque freeWord : Nat → BitVec 64

/-- The Vendor ID of the PCIe function, assigned to Orvoavo (R57): the spec gives no number. -/
opaque vendorId : BitVec 16

/-- The revision byte beside the Class Code, which the spec does not give. -/
opaque revisionId : BitVec 8

end Sys2Proof.Config
end

