-- ==== Sys2Proof/Machine/InstrItem.lean ====
section
/-!
DEFINITION. The item an operation carries, and the operation with another item in its place: for operations that wait
for their WHEN (R66).
-/

namespace Sys2Proof

open Sys2Proof.Machine

/-- The item of an operation. -/
def Instr.item? (i : Instr) : Option Item :=
  match i with
  | .hifNop _ it => some it
  | .hifSuspend _ it => some it
  | .hifResume _ it => some it
  | .hifCancel _ it => some it
  | .queryOp _ it => some it
  | .schedLoad _ it _ => some it
  | .sessionAccept _ it _ => some it
  | .sessionRefuse _ it => some it
  | .sessionLeave _ it => some it
  | .sessionSleep _ it => some it
  | .sessionWake _ it => some it
  | .setRoute _ it => some it
  | .setJoinKey _ it => some it
  | .compatInject _ it _ _ => some it
  | .setBeaconKey _ it => some it
  | .reinit _ it _ => some it
  | .resetCtx _ it => some it
  | .readCtx _ it => some it
  | .setTrack _ it _ => some it
  | .setLimits _ it => some it
  | .gaitRetarget _ it => some it
  | .datumRun _ it => some it
  | .padCommit _ it _ => some it
  | .whatIf _ it _ _ => some it
  | .padRelease _ it _ => some it
  | .setShape _ it _ => some it
  | .mapImport _ it _ _ => some it
  | .mapExport _ it => some it
  | .setHold _ it _ => some it
  | .readCell _ it _ => some it
  | .setRef _ it => some it
  | .selfSurvey _ it => some it
  | .cueSet _ it _ => some it
  | .setTime _ it => some it
  | .ptpSample _ it => some it
  | .fleetStop _ it => some it
  | .fleetResume _ it => some it
  | .netTx _ it _ => some it
  | .netRx _ it => some it
  | .mdio _ it _ => some it
  | .tackLoad _ it _ _ => some it
  | .tackGenerate _ it _ _ => some it
  | .tackDerive _ it _ => some it
  | .tackExport _ it _ => some it
  | .tackUnload _ it => some it
  | .tackRevoke _ it => some it
  | .tackImport _ it _ => some it
  | .tackSign _ it _ => some it
  | .tackMac _ it _ => some it
  | .tackRandom _ it _ => some it
  | .tackPubkey _ it _ => some it
  | .tackAttest _ it _ _ => some it
  | .epochAdvance _ it => some it
  | .tackRewrap _ it _ _ => some it
  | .tackZeroise _ it => some it
  | .tamperClear _ it => some it
  | .recArm _ it => some it
  | .recFire _ it => some it
  | .recDisarm _ it => some it
  | .recReadout _ it _ => some it
  | .recDiscard _ it => some it
  | .stableEnter _ it => some it
  | .imgWrite _ it _ => some it
  | .imgActivate _ it => some it
  | .imgConfirm _ it => some it
  | .otpProgram _ it _ => some it
  | .debugUnlock _ it _ => some it
  | .pairHandover _ it => some it
  | _ => none

/-- The operation with item `it`; any other command as it stands. -/
def Instr.withItem (i : Instr) (it : Item) : Instr :=
  match i with
  | .hifNop t _ => .hifNop t it
  | .hifSuspend t _ => .hifSuspend t it
  | .hifResume t _ => .hifResume t it
  | .hifCancel t _ => .hifCancel t it
  | .queryOp t _ => .queryOp t it
  | .schedLoad t _ raw => .schedLoad t it raw
  | .sessionAccept t _ bnonce => .sessionAccept t it bnonce
  | .sessionRefuse t _ => .sessionRefuse t it
  | .sessionLeave t _ => .sessionLeave t it
  | .sessionSleep t _ => .sessionSleep t it
  | .sessionWake t _ => .sessionWake t it
  | .setRoute t _ => .setRoute t it
  | .setJoinKey t _ => .setJoinKey t it
  | .compatInject t _ raw os => .compatInject t it raw os
  | .setBeaconKey t _ => .setBeaconKey t it
  | .reinit t _ mask => .reinit t it mask
  | .resetCtx t _ => .resetCtx t it
  | .readCtx t _ => .readCtx t it
  | .setTrack t _ raw => .setTrack t it raw
  | .setLimits t _ => .setLimits t it
  | .gaitRetarget t _ => .gaitRetarget t it
  | .datumRun t _ => .datumRun t it
  | .padCommit t _ raw => .padCommit t it raw
  | .whatIf t _ raw bad => .whatIf t it raw bad
  | .padRelease t _ bad => .padRelease t it bad
  | .setShape t _ raw => .setShape t it raw
  | .mapImport t _ raw hashOk => .mapImport t it raw hashOk
  | .mapExport t _ => .mapExport t it
  | .setHold t _ bad => .setHold t it bad
  | .readCell t _ bad => .readCell t it bad
  | .setRef t _ => .setRef t it
  | .selfSurvey t _ => .selfSurvey t it
  | .cueSet t _ raw => .cueSet t it raw
  | .setTime t _ => .setTime t it
  | .ptpSample t _ => .ptpSample t it
  | .fleetStop t _ => .fleetStop t it
  | .fleetResume t _ => .fleetResume t it
  | .netTx t _ raw => .netTx t it raw
  | .netRx t _ => .netRx t it
  | .mdio t _ data => .mdio t it data
  | .tackLoad t _ raw plain => .tackLoad t it raw plain
  | .tackGenerate t _ mat blob => .tackGenerate t it mat blob
  | .tackDerive t _ mat => .tackDerive t it mat
  | .tackExport t _ blob => .tackExport t it blob
  | .tackUnload t _ => .tackUnload t it
  | .tackRevoke t _ => .tackRevoke t it
  | .tackImport t _ plain => .tackImport t it plain
  | .tackSign t _ sig => .tackSign t it sig
  | .tackMac t _ mac => .tackMac t it mac
  | .tackRandom t _ bytes => .tackRandom t it bytes
  | .tackPubkey t _ pub => .tackPubkey t it pub
  | .tackAttest t _ digest sigs => .tackAttest t it digest sigs
  | .epochAdvance t _ => .epochAdvance t it
  | .tackRewrap t _ raw opens => .tackRewrap t it raw opens
  | .tackZeroise t _ => .tackZeroise t it
  | .tamperClear t _ => .tamperClear t it
  | .recArm t _ => .recArm t it
  | .recFire t _ => .recFire t it
  | .recDisarm t _ => .recDisarm t it
  | .recReadout t _ nonce => .recReadout t it nonce
  | .recDiscard t _ => .recDiscard t it
  | .stableEnter t _ => .stableEnter t it
  | .imgWrite t _ img => .imgWrite t it img
  | .imgActivate t _ => .imgActivate t it
  | .imgConfirm t _ => .imgConfirm t it
  | .otpProgram t _ r => .otpProgram t it r
  | .debugUnlock t _ r => .debugUnlock t it r
  | .pairHandover t _ => .pairHandover t it
  | i => i

end Sys2Proof
end

