-- ==== Sys2Proof/Machine/Registers.lean ====
section
/-!
DEFINITION. The register map: one row for every 32-bit word of every register the spec names (files 01 to 21 and 23,
R39, R528 to R535), with each field's place, access type (Table SCOPE-3) and reset value; the BAR0 byte address of
each register (`Reg`), and the place of each field (`B`). Bits no field names are reserved (RSVD).
-/

namespace Sys2Proof.Machine

/-- Register access types of Table SCOPE-3 (R9). -/
inductive Access where
  | ro | rw | rws | w1c | wo | rc
  deriving DecidableEq, Repr

/-- One field of a register word: lowest bit, width, access type, reset value. -/
structure FieldDef where
  lo    : Nat
  width : Nat
  acc   : Access
  reset : Nat
  deriving DecidableEq, Repr

/-- Whether a word is a register of its own, or half of a 64-bit register (R531, R532). -/
inductive WordKind where
  | single | low | high
  deriving DecidableEq, Repr

/-- One row of the register map: the BAR0 address of the first instance, the stride between instances, how many
there are, and the fields. -/
structure RegDef where
  base   : Nat
  stride : Nat
  count  : Nat
  kind   : WordKind
  fields : List FieldDef
  deriving DecidableEq, Repr

/-- The place of a field: BAR0 address of its word, lowest bit, width. -/
structure Bits where
  addr  : Nat
  lo    : Nat
  width : Nat
  deriving DecidableEq, Repr

namespace Reg

/-- HIF_RING_n_SQ_BASE, RWS: Submission ring bus address, 64-bit; [11:0] read 0 (file 03). -/
def HIF_RING_SQ_BASE (n : Nat) : Nat := 0x101000 + 0x40 * n
/-- HIF_RING_n_CQ_BASE, RWS: Completion ring bus address, 64-bit; [11:0] read 0 (file 03). -/
def HIF_RING_CQ_BASE (n : Nat) : Nat := 0x101008 + 0x40 * n
/-- HIF_RING_n_LOG_BASE, RWS: Fetch log bus address, 64-bit; [11:0] read 0 (file 03). -/
def HIF_RING_LOG_BASE (n : Nat) : Nat := 0x101010 + 0x40 * n
/-- HIF_RING_n_CFG, RWS: Table HIF-12 (file 03). -/
def HIF_RING_CFG (n : Nat) : Nat := 0x101018 + 0x40 * n
/-- HIF_RING_n_CTL, RWS: Table HIF-13 (file 03). -/
def HIF_RING_CTL (n : Nat) : Nat := 0x10101C + 0x40 * n
/-- HIF_RING_n_SQ_HEAD, RO: Next submission index to fetch (file 03). -/
def HIF_RING_SQ_HEAD (n : Nat) : Nat := 0x101020 + 0x40 * n
/-- HIF_RING_n_CQ_PI, RWS: Next completion index to write; writable only while ENABLE is 0 (file 03). -/
def HIF_RING_CQ_PI (n : Nat) : Nat := 0x101024 + 0x40 * n
/-- HIF_RING_n_IRQ, RWS: Table HIF-14 (file 03). -/
def HIF_RING_IRQ (n : Nat) : Nat := 0x101028 + 0x40 * n
/-- HIF_RING_n_STS, RO, W1C: Table HIF-15 (file 03). -/
def HIF_RING_STS (n : Nat) : Nat := 0x10102C + 0x40 * n
/-- HIF_RING_n_RECOV_CNT, RO: Table HIF-16 (file 03). -/
def HIF_RING_RECOV_CNT (n : Nat) : Nat := 0x101030 + 0x40 * n
/-- DSP_POOL_CFG, RWS: Table DSP-5 (file 04). -/
def DSP_POOL_CFG : Nat := 0x200100
/-- DSP_POOL_STS, RO: Table DSP-6 (file 04). -/
def DSP_POOL_STS : Nat := 0x200104
/-- DSP_CURB_RING, RO: 64-bit; bit n set while ring n is curbed (R98) (file 04). -/
def DSP_CURB_RING : Nat := 0x200108
/-- DSP_CURB_SRC, RO: [7:0] bulk grants withheld on head 0–7; [8] SVC; [9] TIM; [10] NET; [11] BYL; [12] REC; [31:13] reserved (file 04). -/
def DSP_CURB_SRC : Nat := 0x200110
/-- DSP_OBS_SEL, WO: [9:0] FLOW; [15:10] reserved; [16] CLEAR: zero the flow's counters after the snapshot; [31:17] reserved. A wri (file 04). -/
def DSP_OBS_SEL : Nat := 0x200200
/-- DSP_OBS_MIN, RO: Snapshot minimum wait in ns; 0xFFFF_FFFF when COUNT is 0 (file 04). -/
def DSP_OBS_MIN : Nat := 0x200204
/-- DSP_OBS_MAX, RO: Snapshot maximum wait in ns, saturating (file 04). -/
def DSP_OBS_MAX : Nat := 0x200208
/-- DSP_OBS_COUNT, RO: Snapshot count of waits (file 04). -/
def DSP_OBS_COUNT : Nat := 0x20020C
/-- DSP_OBS_SUM, RO: 64-bit snapshot sum of waits in ns (file 04). -/
def DSP_OBS_SUM : Nat := 0x200210
/-- DSP_OBS_HIST_k, RO: Snapshot count in bin k, k = 0–15 (R101) (file 04). -/
def DSP_OBS_HIST (n : Nat) : Nat := 0x200220 + 0x4 * n
/-- DSP_LOAD_SEL, WO: [3:0] REGION; [19:4] CELL; [31:20] reserved. A write takes a snapshot (file 04). -/
def DSP_LOAD_SEL : Nat := 0x200280
/-- DSP_LOAD_BUSY, RO: Snapshot busy cycles (R102) (file 04). -/
def DSP_LOAD_BUSY : Nat := 0x200284
/-- DSP_LOAD_WIN, RO: Snapshot window cycles (R102) (file 04). -/
def DSP_LOAD_WIN : Nat := 0x200288
/-- DSP_FLOW_n_CFG, RWS: Table DSP-7 (file 04). -/
def DSP_FLOW_CFG (n : Nat) : Nat := 0x201000 + 0x4 * n
/-- DSP_FLOW_n_STS, RO: Table DSP-8 (file 04). -/
def DSP_FLOW_STS (n : Nat) : Nat := 0x202000 + 0x4 * n
/-- MQF_Q_n_CFG, RWS: Table DSP-15 (file 04). -/
def MQF_Q_CFG (n : Nat) : Nat := 0x301000 + 0x20 * n
/-- MQF_Q_n_LIM, RWS: [15:0] QTO in MQF cycles, 0 disables; [28:16] BURST in words; [31:29] reserved (R112) (file 04). -/
def MQF_Q_LIM (n : Nat) : Nat := 0x301004 + 0x20 * n
/-- MQF_Q_n_DEPTH, RO: Table DSP-16 (file 04). -/
def MQF_Q_DEPTH (n : Nat) : Nat := 0x301008 + 0x20 * n
/-- MQF_Q_n_STS, RO, W1C: Table DSP-17 (file 04). -/
def MQF_Q_STS (n : Nat) : Nat := 0x30100C + 0x20 * n
/-- MQF_Q_n_HWM, RC: [13:0] highest depth since last read; [31:14] reserved (file 04). -/
def MQF_Q_HWM (n : Nat) : Nat := 0x301010 + 0x20 * n
/-- MQF_Q_n_PAR_CNT, RWS: Parity errors (R105); saturates at 0xFFFF_FFFF; a write sets the count (file 04). -/
def MQF_Q_PAR_CNT (n : Nat) : Nat := 0x301014 + 0x20 * n
/-- MQF_Q_n_QTO_CNT, RWS: Read timeouts fired (R112); saturates at 0xFFFF_FFFF; a write sets the count (file 04). -/
def MQF_Q_QTO_CNT (n : Nat) : Nat := 0x301018 + 0x20 * n
/-- GNB_PORT_n_CTL, RW: [0] ENABLE; [1] AGC_HOLD: freeze the duty; [31:2] reserved (file 05). -/
def GNB_PORT_CTL (n : Nat) : Nat := 0x500100 + 0x20 * n
/-- GNB_PORT_n_STS, RO, W1C: Table GNB-8 (file 05). -/
def GNB_PORT_STS (n : Nat) : Nat := 0x500104 + 0x20 * n
/-- GNB_PORT_n_SLIP_CNT, RWS: Sample slips (R119); saturates at 0xFFFF_FFFF; a write sets the count (file 05). -/
def GNB_PORT_SLIP_CNT (n : Nat) : Nat := 0x500108 + 0x20 * n
/-- GNB_ANT_CFG, RW: [0] BIAS_EN: 1 allows bias; [1] REARM: WO, writing 1 clears LATCHED; [31:2] reserved (file 05). -/
def GNB_ANT_CFG : Nat := 0x500200
/-- GNB_ANT_STS, RO, W1C: [1:0] CLASS: 0 NORMAL, 1 OPEN, 2 SHORT; [2] LATCHED (RO); [3] CHANGED (W1C); [31:4] reserved (file 05). -/
def GNB_ANT_STS : Nat := 0x500204
/-- GNB_ANT_CUR, RO: [15:0] antenna current, 0.1 mA; [31:16] reserved (file 05). -/
def GNB_ANT_CUR : Nat := 0x500208
/-- GNB_TRK_STS, RO: [7:0] TRACKED; [15:8] UNTRACKED (R125); [23:16] working channels; [31:24] reserved (file 05). -/
def GNB_TRK_STS : Nat := 0x500300
/-- GNB_TRK_DIS_CNT, RO: [7:0] satellites disabled through GNB_TRK_MASK_PRN, 0–189; [31:8] reserved (file 05). -/
def GNB_TRK_DIS_CNT : Nat := 0x500308
/-- GNB_TRK_MASK_PRN, RW: Table GNB-8a (file 05). -/
def GNB_TRK_MASK_PRN : Nat := 0x500310
/-- GNB_SURVEY_X, RO: 64-bit; surveyed X, 0.1 mm, signed; reset 0 (file 05). -/
def GNB_SURVEY_X : Nat := 0x500400
/-- GNB_SURVEY_Y, RO: 64-bit; surveyed Y, 0.1 mm, signed; reset 0 (file 05). -/
def GNB_SURVEY_Y : Nat := 0x500408
/-- GNB_SURVEY_Z, RO: 64-bit; surveyed Z, 0.1 mm, signed; reset 0 (file 05). -/
def GNB_SURVEY_Z : Nat := 0x500410
/-- FIX_CAP, RO: Table FIX-14 (file 06). -/
def FIX_CAP : Nat := 0x600100
/-- FIX_STS, RO, W1C: Table FIX-15 (file 06). -/
def FIX_STS : Nat := 0x600104
/-- FIX_FST_DRAM, RO: 64-bit DRAM address of the fleet state table (file 06). -/
def FIX_FST_DRAM : Nat := 0x600108
/-- FIX_FST_HOST, RWS: 64-bit: [0] MIRROR; [11:1] reserved; [63:12] host bus address, which must not cross a 4 GiB boundary (file 06). -/
def FIX_FST_HOST : Nat := 0x600110
/-- FIX_CNT_STALE, RWS: STALE completions (R164) (file 06). -/
def FIX_CNT_STALE : Nat := 0x600118
/-- FIX_CNT_SKIP, RWS: Skipped searches (R155) (file 06). -/
def FIX_CNT_SKIP : Nat := 0x60011C
/-- FIX_CNT_SLIP, RWS: Slips (R152) (file 06). -/
def FIX_CNT_SLIP : Nat := 0x600120
/-- FIX_CNT_RELEASE, RWS: Released integers (R156) (file 06). -/
def FIX_CNT_RELEASE : Nat := 0x600124
/-- FIX_CNT_NODECAP, RWS: Searches ended at SEARCH_NODES (R155) (file 06). -/
def FIX_CNT_NODECAP : Nat := 0x600128
/-- FIX_INTEG_STS, RO, W1C: Table INT-5 (file 07). -/
def FIX_INTEG_STS : Nat := 0x600200
/-- FIX_INTEG_CMD, WO: Table INT-6 (file 07). -/
def FIX_INTEG_CMD : Nat := 0x600204
/-- FIX_CLK_STEP_DEV, RO: Last step-test deviation, ps, signed (file 07). -/
def FIX_CLK_STEP_DEV : Nat := 0x600208
/-- FIX_CLK_WANDER_DEV, RO: Last wander-test deviation, ps, signed (file 07). -/
def FIX_CLK_WANDER_DEV : Nat := 0x60020C
/-- FIX_SV_SUSPECT_GPS, RO: 64-bit; bit k set while GPS PRN k is SUSPECT; bit 0 reserved (file 07). -/
def FIX_SV_SUSPECT_GPS : Nat := 0x600210
/-- FIX_SV_SUSPECT_GAL, RO: As above, Galileo (file 07). -/
def FIX_SV_SUSPECT_GAL : Nat := 0x600218
/-- FIX_SV_SUSPECT_BDS, RO: As above, BeiDou (file 07). -/
def FIX_SV_SUSPECT_BDS : Nat := 0x600220
/-- FIX_CNT_EXCL, RWS: Removals (R171) (file 07). -/
def FIX_CNT_EXCL : Nat := 0x600228
/-- FIX_CNT_SUSPECT, RWS: Satellites marked SUSPECT (R175) (file 07). -/
def FIX_CNT_SUSPECT : Nat := 0x60022C
/-- FIX_CNT_MSM_OMIT, RWS: Satellites omitted for cell count (R186) (file 07). -/
def FIX_CNT_MSM_OMIT : Nat := 0x600230
/-- PAD_GEOM, RO: [15:0] W / 64; [31:16] H / 64; 0 while MAP_VALID is 0 (file 08). -/
def PAD_GEOM : Nat := 0x700100
/-- PAD_CELL, RO: [7:0] CELL_CM; [31:8] reserved (file 08). -/
def PAD_CELL : Nat := 0x700104
/-- PAD_ORG_E, RO: ORG_E, mm, signed (file 08). -/
def PAD_ORG_E : Nat := 0x700108
/-- PAD_ORG_N, RO: ORG_N, mm, signed (file 08). -/
def PAD_ORG_N : Nat := 0x70010C
/-- PAD_MAP_DRAM, RO: 64-bit ACTIVE_BASE (file 08). -/
def PAD_MAP_DRAM : Nat := 0x700110
/-- PAD_CAP, RO: [25:0] CELLS: largest W × H the map area holds; [31:26] reserved (file 08). -/
def PAD_CAP : Nat := 0x700118
/-- PAD_STS, RO, W1C: Table PAD-11 (file 08). -/
def PAD_STS : Nat := 0x70011C
/-- PAD_TICK_ABS, RO: Present tick count (R200) (file 08). -/
def PAD_TICK_ABS : Nat := 0x700120
/-- PAD_TICK_BASE, RO: 64-bit, ns, signed (R200) (file 08). -/
def PAD_TICK_BASE : Nat := 0x700128
/-- PAD_MAP_VER, RO: MAP_VERSION of the last import applied (file 08). -/
def PAD_MAP_VER : Nat := 0x700130
/-- PAD_GROOM_STS, RO: Table PAD-12 (file 08). -/
def PAD_GROOM_STS : Nat := 0x700134
/-- PAD_CNT_REPAIR, RWS: Cells repaired (R206) (file 08). -/
def PAD_CNT_REPAIR : Nat := 0x700138
/-- PAD_CNT_GROOM_FREED, RWS: Slots freed by groom (file 08). -/
def PAD_CNT_GROOM_FREED : Nat := 0x70013C
/-- PAD_SWEEP_STS, RO: Table PAD-25 (file 09). -/
def PAD_SWEEP_STS : Nat := 0x700200
/-- PAD_CNT_SWEEP, RWS: Sweeps completed, what-ifs excluded (file 09). -/
def PAD_CNT_SWEEP : Nat := 0x700204
/-- PAD_CNT_CONFLICT, RWS: Sweeps ended REJ_CONFLICT (file 09). -/
def PAD_CNT_CONFLICT : Nat := 0x700208
/-- PAD_CNT_WHATIF, RWS: Candidates evaluated (file 09). -/
def PAD_CNT_WHATIF : Nat := 0x70020C
/-- PAD_CNT_RENEW, RWS: Park and disc renewals (R233) (file 09). -/
def PAD_CNT_RENEW : Nat := 0x700210
/-- PAD_CNT_DISC_NOSLOT, RWS: Disc cells skipped (R239) (file 09). -/
def PAD_CNT_DISC_NOSLOT : Nat := 0x700214
/-- PAD_CNT_MIRROR_DIV, RWS: Mirror mismatches (R242) (file 09). -/
def PAD_CNT_MIRROR_DIV : Nat := 0x700218
/-- PAD_CTX_n_STS, RO: Table PAD-26, n = 1–255 (file 09). -/
def PAD_CTX_STS (n : Nat) : Nat := 0x701000 + 0x4 * n
/-- GAIT_STS, RO: Table GAIT-10 (file 10). -/
def GAIT_STS : Nat := 0x800100
/-- GAIT_CNT_REPLAN, RWS: Replans served (file 10). -/
def GAIT_CNT_REPLAN : Nat := 0x800104
/-- GAIT_CNT_CLAMP, RWS: SET_LIMITS completed DONE_CLAMPED (R261) (file 10). -/
def GAIT_CNT_CLAMP : Nat := 0x800108
/-- GAIT_CNT_DL_MISS, RWS: Missed downlinks seen through acknowledgements (R264) (file 10). -/
def GAIT_CNT_DL_MISS : Nat := 0x80010C
/-- GAIT_CNT_TRACK_DEV, RWS: TRACK_DEV and OFF_TRACK events (R254) (file 10). -/
def GAIT_CNT_TRACK_DEV : Nat := 0x800110
/-- GAIT_CNT_HORIZON, RWS: Plans with HORIZON_STOP (R259) (file 10). -/
def GAIT_CNT_HORIZON : Nat := 0x800114
/-- GAIT_CTX_n_STS, RO: Table GAIT-11, n = 1–255 (file 10). -/
def GAIT_CTX_STS (n : Nat) : Nat := 0x801000 + 0x4 * n
/-- GAIT_CTX_n_PLAN, RO: [15:0] PLAN_SEQ of the latest plan handed over; [23:16] latest acknowledgement (R253); [31:24] reserved (file 10). -/
def GAIT_CTX_PLAN (n : Nat) : Nat := 0x802000 + 0x4 * n
/-- AIR_SF_NUM, RO: 64-bit; [47:0] SFN of the present superframe, 0 before the first superframe (R273); [63:48] reserved (file 11). -/
def AIR_SF_NUM : Nat := 0x900100
/-- AIR_SF_NUM_INIT, RWS: 64-bit; [47:0] SFN of the first superframe after power-on or a full chip reset, read when that superframe begi (file 11). -/
def AIR_SF_NUM_INIT : Nat := 0x900108
/-- AIR_STS, RO, W1C: [0] SCHED_VALID (RO); [1] BULK_OPEN (RO); [2] HALTER (RO); [3] BEACON_NOKEY (RO); [4] GAP (W1C); [5] SCHED_SWI (file 11). -/
def AIR_STS : Nat := 0x900110
/-- AIR_SCHED, RO: [15:0] SCHED_ID in force; [31:16] NEXT_ID (file 11). -/
def AIR_SCHED : Nat := 0x900114
/-- AIR_SCHED_NEXT_SFN, RO: Low 32 bits of NEXT_SFN (file 11). -/
def AIR_SCHED_NEXT_SFN : Nat := 0x900118
/-- AIR_CNT_LATE_PLAN, RWS: Plans that missed the cutoff (R51) (file 11). -/
def AIR_CNT_LATE_PLAN : Nat := 0x90011C
/-- AIR_CNT_TX_OVERSIZE, RWS: Plans too large for their span (R282) (file 11). -/
def AIR_CNT_TX_OVERSIZE : Nat := 0x900120
/-- AIR_HEAD_n_CTL, RWS: Table AIR-16 (file 11). -/
def AIR_HEAD_CTL (n : Nat) : Nat := 0x901000 + 0x40 * n
/-- AIR_HEAD_n_STS, RO, W1C: Table AIR-17 (file 11). -/
def AIR_HEAD_STS (n : Nat) : Nat := 0x901004 + 0x40 * n
/-- AIR_HEAD_n_CNT_RUNT, RWS: Runts (R281) (file 11). -/
def AIR_HEAD_CNT_RUNT (n : Nat) : Nat := 0x901008 + 0x40 * n
/-- AIR_HEAD_n_CNT_LONG, RWS: Frames of 1,301 bytes or more (R281) (file 11). -/
def AIR_HEAD_CNT_LONG (n : Nat) : Nat := 0x90100C + 0x40 * n
/-- AIR_HEAD_n_CNT_BAD, RWS: Malformed frames (R281) (file 11). -/
def AIR_HEAD_CNT_BAD (n : Nat) : Nat := 0x901010 + 0x40 * n
/-- AIR_HEAD_n_CNT_LINK_ERR, RWS: Discarded packets and SEQ gaps (R296) (file 11). -/
def AIR_HEAD_CNT_LINK_ERR (n : Nat) : Nat := 0x901014 + 0x40 * n
/-- AIR_HEAD_n_CNT_TX_LATE, RWS: TX_REPORT LATE (R297) (file 11). -/
def AIR_HEAD_CNT_TX_LATE (n : Nat) : Nat := 0x901018 + 0x40 * n
/-- AIR_CTX_n_STS, RO: Table AIR-18, n = 1–255 (file 11). -/
def AIR_CTX_STS (n : Nat) : Nat := 0x902000 + 0x4 * n
/-- AIR_BEACON_KEY, RO: [8:0] key slot; [9] VALID; [31:10] reserved (file 12). -/
def AIR_BEACON_KEY : Nat := 0x900124
/-- AIR_CNT_RELAY_DROP, RWS: Frames dropped on route checks (R316, R320) (file 12). -/
def AIR_CNT_RELAY_DROP : Nat := 0x900128
/-- AIR_CNT_COMPAT_FWD, RWS: Frames delivered as COMPAT_RELAY (R321) (file 12). -/
def AIR_CNT_COMPAT_FWD : Nat := 0x90012C
/-- AIR_CTX_n_SESS, RO: Table AIR-25, n = 1–255 (file 12). -/
def AIR_CTX_SESS (n : Nat) : Nat := 0x903000 + 0x4 * n
/-- AIR_CTX_n_JOINKEY, RO: [8:0] key slot; [9] VALID; [31:10] reserved (file 12). -/
def AIR_CTX_JOINKEY (n : Nat) : Nat := 0x903400 + 0x4 * n
/-- AIR_CTX_n_CNT_AUTH, RWS: Frames failing order 1 or 2 (R306) (file 12). -/
def AIR_CTX_CNT_AUTH (n : Nat) : Nat := 0x903800 + 0x8 * n
/-- AIR_CTX_n_CNT_REPLAY, RWS: Frames failing the window (R308) (file 12). -/
def AIR_CTX_CNT_REPLAY (n : Nat) : Nat := 0x903804 + 0x8 * n
/-- WHOA_STS, RO: Table WHOA-8 (file 13). -/
def WHOA_STS : Nat := 0xD00100
/-- WHOA_CAUSE, RO: [10:1] bit k set while the cause of code k is active; [0] and [31:11] reserved (file 13). -/
def WHOA_CAUSE : Nat := 0xD00104
/-- WHOA_FAULT, RC: Table WHOA-10; a fault still latched reads as set again on the next read (file 13). -/
def WHOA_FAULT : Nat := 0xD00108
/-- WHOA_CFG, RO: Table WHOA-9 (file 13). -/
def WHOA_CFG : Nat := 0xD0010C
/-- WHOA_KEY, RO: [1:0] 0 RUN, 1 MAINT, 2 LOCK, 3 both contacts closed; [31:2] reserved (file 13). -/
def WHOA_KEY : Nat := 0xD00110
/-- WHOA_TOUCH_STS, RO: Table WHOA-11 (file 13). -/
def WHOA_TOUCH_STS : Nat := 0xD00114
/-- WHOA_PLUG_STS, RO: [7:0] HEAD_n_HPD present; [8] ANT_DET; [9] SVC_DET; [10] SERVICE_OK; [31:11] reserved (file 13). -/
def WHOA_PLUG_STS : Nat := 0xD00118
/-- WHOA_LED, RO: [15:0] two bits per LED: 0 off, 1 on, 2 flashing; LED n in [2n+1:2n] (file 13). -/
def WHOA_LED : Nat := 0xD0011C
/-- WHOA_CNT_STOP, RO: Entries into STOPPED from GO since power-on; the entry at power-on is not counted, so it reads 0 until the fir (file 13). -/
def WHOA_CNT_STOP : Nat := 0xD00120
/-- WHOA_CNT_TP_FAIL, RO: Failed test pulses since power-on; saturates at 0xFFFF_FFFF (file 13). -/
def WHOA_CNT_TP_FAIL : Nat := 0xD00124
/-- WHOA_TOUCH_k_RAW, RO: [15:0] latest reading; [31:16] baseline; k = 0–11 for the electrodes, 12 for the guard (file 13). -/
def WHOA_TOUCH_RAW (n : Nat) : Nat := 0xD00200 + 0x4 * n
/-- TIM_TIME, RO: 64-bit device time; a low-word read latches the high word and the snapshot below (file 14). -/
def TIM_TIME : Nat := 0xB00100
/-- TIM_TIME_SEC, RO: 64-bit; [47:0] seconds of the snapshot; [63:48] reserved (file 14). -/
def TIM_TIME_SEC : Nat := 0xB00108
/-- TIM_TIME_NSEC, RO: [29:0] nanoseconds of the snapshot; [31:30] reserved (file 14). -/
def TIM_TIME_NSEC : Nat := 0xB00110
/-- TIM_TIME_FRAC, RO: [15:0] fraction of the snapshot, 2^−16 ns; [31:16] reserved (file 14). -/
def TIM_TIME_FRAC : Nat := 0xB00114
/-- TIM_INCR, RWS: 64-bit; [47:0] increment (R348), nominal at power-on and full chip reset, kept through a TIM region reset (R37 (file 14). -/
def TIM_INCR : Nat := 0xB00118
/-- TIM_SERVO_CTL, RWS: [0] MANUAL (R349); [2:1] FORCE: 0 vote, 1 GNSS, 2 A, 3 B (R356); [31:3] reserved; reset 0 (file 14). -/
def TIM_SERVO_CTL : Nat := 0xB00120
/-- TIM_STS, RO, W1C: Table TIM-8 (file 14). -/
def TIM_STS : Nat := 0xB00124
/-- TIM_SRC_STS, RO: Table TIM-9 (file 14). -/
def TIM_SRC_STS : Nat := 0xB00128
/-- TIM_VOTE_CMD, WO: [0] EXCL_GNSS; [1] EXCL_A; [2] EXCL_B; [3] reserved; [4] INCL_GNSS; [5] INCL_A; [6] INCL_B; [7] reserved; [8] (file 14). -/
def TIM_VOTE_CMD : Nat := 0xB0012C
/-- TIM_OFFSET_GNSS, RO: Latest 1 s offset, ns, signed, saturating (file 14). -/
def TIM_OFFSET_GNSS : Nat := 0xB00130
/-- TIM_OFFSET_A, RO: As above, domain A (file 14). -/
def TIM_OFFSET_A : Nat := 0xB00134
/-- TIM_OFFSET_B, RO: As above, domain B (file 14). -/
def TIM_OFFSET_B : Nat := 0xB00138
/-- TIM_ERR_EST, RO: E, ns, saturating; 0xFFFF_FFFF while quality is UNSET (R358) (file 14). -/
def TIM_ERR_EST : Nat := 0xB0013C
/-- TIM_HOLD_S, RO: Seconds since the later of the last source loss and the last SET_TIME step (R358); 0 while a source is selecte (file 14). -/
def TIM_HOLD_S : Nat := 0xB00140
/-- TIM_LAST_STEP, RO: 64-bit; S of the last step, ns, signed (file 14). -/
def TIM_LAST_STEP : Nat := 0xB00148
/-- TIM_CNT_STEP, RWS: Steps made (R363) (file 14). -/
def TIM_CNT_STEP : Nat := 0xB00150
/-- TIM_PORT_A_DOM_A_ASYM, RWS: ASYM, ns, signed (R353); reset 0 (file 14). -/
def TIM_PORT_A_DOM_A_ASYM : Nat := 0xB00200
/-- TIM_PORT_A_DOM_B_ASYM, RWS: As above (file 14). -/
def TIM_PORT_A_DOM_B_ASYM : Nat := 0xB00204
/-- TIM_PORT_B_DOM_A_ASYM, RWS: As above (file 14). -/
def TIM_PORT_B_DOM_A_ASYM : Nat := 0xB00208
/-- TIM_PORT_B_DOM_B_ASYM, RWS: As above (file 14). -/
def TIM_PORT_B_DOM_B_ASYM : Nat := 0xB0020C
/-- TIM_DOM_A_CFG, RWS: [1:0] ROLE: 0 OFF, 1 TRACK, 2 SERVE, 3 reserved; [2] PROFILE: 0 IEEE 1588, 1 IEEE 802.1AS; [3] PORT: 0 A, 1 B; (file 14). -/
def TIM_DOM_A_CFG : Nat := 0xB00210
/-- TIM_DOM_B_CFG, RWS: As TIM_DOM_A_CFG (file 14). -/
def TIM_DOM_B_CFG : Nat := 0xB00214
/-- TIM_PPS_n_CTL, RWS: Table TIM-10, n = 0–1 (file 14). -/
def TIM_PPS_CTL (n : Nat) : Nat := 0xB00300 + 0x10 * n
/-- TIM_PPS_n_OFFSET, RWS: Edge advance, ns, signed, −1,000,000 to 1,000,000 (R360); reset 0 (file 14). -/
def TIM_PPS_OFFSET (n : Nat) : Nat := 0xB00304 + 0x10 * n
/-- TIM_CUE_k_CFG, RWS: [0] IDLE level (R369); [31:1] reserved; reset 0; k = 0–7 (file 14). -/
def TIM_CUE_CFG (n : Nat) : Nat := 0xB00400 + 0x4 * n
/-- TIM_CUE_OUT, RO: [7:0] present level of CUE_k; [31:8] reserved (file 14). -/
def TIM_CUE_OUT : Nat := 0xB00420
/-- TIM_CUE_BUSY, RO: 64-bit; bit s set while cue slot s is held (file 14). -/
def TIM_CUE_BUSY : Nat := 0xB00428
/-- NET_A_CFG, RWS: Table NET-7 (file 15). -/
def NET_A_CFG : Nat := 0xA00100
/-- NET_A_STS, RO, W1C: Table NET-9 (file 15). -/
def NET_A_STS : Nat := 0xA00104
/-- NET_A_MAX_LEN, RWS: [13:0] maximum frame, 1,522–9,216; other values are ignored; reset 1,522 (file 15). -/
def NET_A_MAX_LEN : Nat := 0xA00108
/-- NET_A_PAUSE, RWS: [15:0] TX_QUANTA, reset 0xFFFF; [16] TX_EN, reset 0 (R387) (file 15). -/
def NET_A_PAUSE : Nat := 0xA0010C
/-- NET_A_MAC, RWS: 64-bit; [47:0] port address (file 15). -/
def NET_A_MAC : Nat := 0xA00110
/-- NET_A_PHY_DLY, RWS: [15:0] TX delay, ns; [31:16] RX delay, ns (R381) (file 15). -/
def NET_A_PHY_DLY : Nat := 0xA00118
/-- NET_B_CFG, RWS: Table NET-8 (file 15). -/
def NET_B_CFG : Nat := 0xA00200
/-- NET_B_STS, RO, W1C: Table NET-9 (file 15). -/
def NET_B_STS : Nat := 0xA00204
/-- NET_B_MAC, RWS: 64-bit; [47:0] port address (file 15). -/
def NET_B_MAC : Nat := 0xA00210
/-- NET_STOP_IGNORE_PAUSE, RWS: [0] SET (R386); reset 0 (file 15). -/
def NET_STOP_IGNORE_PAUSE : Nat := 0xA00300
/-- NET_STOP_DA, RWS: 64-bit; [47:0] stop frame DA; reset FF-FF-FF-FF-FF-FF (file 15). -/
def NET_STOP_DA : Nat := 0xA00308
/-- NET_STOP_VLAN, RWS: [11:0] VID; [14:12] PCP; [15] VLAN_EN; [16] PORT_B_EN (file 15). -/
def NET_STOP_VLAN : Nat := 0xA00310
/-- NET_A_FILT_k, RWS: 64-bit; [47:0] address; [48] EN; [49] DEST; k = 0–7 (file 15). -/
def NET_A_FILT (n : Nat) : Nat := 0xA01000 + 0x8 * n
/-- NET_B_FILT_k, RWS: As above (file 15). -/
def NET_B_FILT (n : Nat) : Nat := 0xA01040 + 0x8 * n
/-- NET_A_CNT_RX_OK, RWS: q = 0 for A and 1 for B; i = 0 RX_OK, 1 RUNT, 2 FCS, 3 LONG, 4 FILT, 5 OVERFLOW, 6 NOBUF, 7 FRAG_ERR, 8 TX_OK, (file 15). -/
def NET_A_CNT_RX_OK : Nat := 0xA01100
/-- NET_A_CNT_RUNT, RWS: q = 0 for A and 1 for B; i = 0 RX_OK, 1 RUNT, 2 FCS, 3 LONG, 4 FILT, 5 OVERFLOW, 6 NOBUF, 7 FRAG_ERR, 8 TX_OK, (file 15). -/
def NET_A_CNT_RUNT : Nat := 0xA01104
/-- NET_A_CNT_FCS, RWS: q = 0 for A and 1 for B; i = 0 RX_OK, 1 RUNT, 2 FCS, 3 LONG, 4 FILT, 5 OVERFLOW, 6 NOBUF, 7 FRAG_ERR, 8 TX_OK, (file 15). -/
def NET_A_CNT_FCS : Nat := 0xA01108
/-- NET_A_CNT_LONG, RWS: q = 0 for A and 1 for B; i = 0 RX_OK, 1 RUNT, 2 FCS, 3 LONG, 4 FILT, 5 OVERFLOW, 6 NOBUF, 7 FRAG_ERR, 8 TX_OK, (file 15). -/
def NET_A_CNT_LONG : Nat := 0xA0110C
/-- NET_A_CNT_FILT, RWS: q = 0 for A and 1 for B; i = 0 RX_OK, 1 RUNT, 2 FCS, 3 LONG, 4 FILT, 5 OVERFLOW, 6 NOBUF, 7 FRAG_ERR, 8 TX_OK, (file 15). -/
def NET_A_CNT_FILT : Nat := 0xA01110
/-- NET_A_CNT_OVERFLOW, RWS: q = 0 for A and 1 for B; i = 0 RX_OK, 1 RUNT, 2 FCS, 3 LONG, 4 FILT, 5 OVERFLOW, 6 NOBUF, 7 FRAG_ERR, 8 TX_OK, (file 15). -/
def NET_A_CNT_OVERFLOW : Nat := 0xA01114
/-- NET_A_CNT_NOBUF, RWS: q = 0 for A and 1 for B; i = 0 RX_OK, 1 RUNT, 2 FCS, 3 LONG, 4 FILT, 5 OVERFLOW, 6 NOBUF, 7 FRAG_ERR, 8 TX_OK, (file 15). -/
def NET_A_CNT_NOBUF : Nat := 0xA01118
/-- NET_A_CNT_FRAG_ERR, RWS: q = 0 for A and 1 for B; i = 0 RX_OK, 1 RUNT, 2 FCS, 3 LONG, 4 FILT, 5 OVERFLOW, 6 NOBUF, 7 FRAG_ERR, 8 TX_OK, (file 15). -/
def NET_A_CNT_FRAG_ERR : Nat := 0xA0111C
/-- NET_A_CNT_TX_OK, RWS: q = 0 for A and 1 for B; i = 0 RX_OK, 1 RUNT, 2 FCS, 3 LONG, 4 FILT, 5 OVERFLOW, 6 NOBUF, 7 FRAG_ERR, 8 TX_OK, (file 15). -/
def NET_A_CNT_TX_OK : Nat := 0xA01120
/-- NET_A_CNT_PAUSE_RX, RWS: q = 0 for A and 1 for B; i = 0 RX_OK, 1 RUNT, 2 FCS, 3 LONG, 4 FILT, 5 OVERFLOW, 6 NOBUF, 7 FRAG_ERR, 8 TX_OK, (file 15). -/
def NET_A_CNT_PAUSE_RX : Nat := 0xA01124
/-- NET_A_CNT_COLL, RWS: q = 0 for A and 1 for B; i = 0 RX_OK, 1 RUNT, 2 FCS, 3 LONG, 4 FILT, 5 OVERFLOW, 6 NOBUF, 7 FRAG_ERR, 8 TX_OK, (file 15). -/
def NET_A_CNT_COLL : Nat := 0xA01128
/-- NET_A_CNT_EXCESS_COLL, RWS: q = 0 for A and 1 for B; i = 0 RX_OK, 1 RUNT, 2 FCS, 3 LONG, 4 FILT, 5 OVERFLOW, 6 NOBUF, 7 FRAG_ERR, 8 TX_OK, (file 15). -/
def NET_A_CNT_EXCESS_COLL : Nat := 0xA0112C
/-- NET_A_CNT_LATE_COLL, RWS: q = 0 for A and 1 for B; i = 0 RX_OK, 1 RUNT, 2 FCS, 3 LONG, 4 FILT, 5 OVERFLOW, 6 NOBUF, 7 FRAG_ERR, 8 TX_OK, (file 15). -/
def NET_A_CNT_LATE_COLL : Nat := 0xA01130
/-- NET_B_CNT_RX_OK, RWS: q = 0 for A and 1 for B; i = 0 RX_OK, 1 RUNT, 2 FCS, 3 LONG, 4 FILT, 5 OVERFLOW, 6 NOBUF, 7 FRAG_ERR, 8 TX_OK, (file 15). -/
def NET_B_CNT_RX_OK : Nat := 0xA01180
/-- NET_B_CNT_RUNT, RWS: q = 0 for A and 1 for B; i = 0 RX_OK, 1 RUNT, 2 FCS, 3 LONG, 4 FILT, 5 OVERFLOW, 6 NOBUF, 7 FRAG_ERR, 8 TX_OK, (file 15). -/
def NET_B_CNT_RUNT : Nat := 0xA01184
/-- NET_B_CNT_FCS, RWS: q = 0 for A and 1 for B; i = 0 RX_OK, 1 RUNT, 2 FCS, 3 LONG, 4 FILT, 5 OVERFLOW, 6 NOBUF, 7 FRAG_ERR, 8 TX_OK, (file 15). -/
def NET_B_CNT_FCS : Nat := 0xA01188
/-- NET_B_CNT_LONG, RWS: q = 0 for A and 1 for B; i = 0 RX_OK, 1 RUNT, 2 FCS, 3 LONG, 4 FILT, 5 OVERFLOW, 6 NOBUF, 7 FRAG_ERR, 8 TX_OK, (file 15). -/
def NET_B_CNT_LONG : Nat := 0xA0118C
/-- NET_B_CNT_FILT, RWS: q = 0 for A and 1 for B; i = 0 RX_OK, 1 RUNT, 2 FCS, 3 LONG, 4 FILT, 5 OVERFLOW, 6 NOBUF, 7 FRAG_ERR, 8 TX_OK, (file 15). -/
def NET_B_CNT_FILT : Nat := 0xA01190
/-- NET_B_CNT_OVERFLOW, RWS: q = 0 for A and 1 for B; i = 0 RX_OK, 1 RUNT, 2 FCS, 3 LONG, 4 FILT, 5 OVERFLOW, 6 NOBUF, 7 FRAG_ERR, 8 TX_OK, (file 15). -/
def NET_B_CNT_OVERFLOW : Nat := 0xA01194
/-- NET_B_CNT_NOBUF, RWS: q = 0 for A and 1 for B; i = 0 RX_OK, 1 RUNT, 2 FCS, 3 LONG, 4 FILT, 5 OVERFLOW, 6 NOBUF, 7 FRAG_ERR, 8 TX_OK, (file 15). -/
def NET_B_CNT_NOBUF : Nat := 0xA01198
/-- NET_B_CNT_FRAG_ERR, RWS: q = 0 for A and 1 for B; i = 0 RX_OK, 1 RUNT, 2 FCS, 3 LONG, 4 FILT, 5 OVERFLOW, 6 NOBUF, 7 FRAG_ERR, 8 TX_OK, (file 15). -/
def NET_B_CNT_FRAG_ERR : Nat := 0xA0119C
/-- NET_B_CNT_TX_OK, RWS: q = 0 for A and 1 for B; i = 0 RX_OK, 1 RUNT, 2 FCS, 3 LONG, 4 FILT, 5 OVERFLOW, 6 NOBUF, 7 FRAG_ERR, 8 TX_OK, (file 15). -/
def NET_B_CNT_TX_OK : Nat := 0xA011A0
/-- NET_B_CNT_PAUSE_RX, RWS: q = 0 for A and 1 for B; i = 0 RX_OK, 1 RUNT, 2 FCS, 3 LONG, 4 FILT, 5 OVERFLOW, 6 NOBUF, 7 FRAG_ERR, 8 TX_OK, (file 15). -/
def NET_B_CNT_PAUSE_RX : Nat := 0xA011A4
/-- NET_B_CNT_COLL, RWS: q = 0 for A and 1 for B; i = 0 RX_OK, 1 RUNT, 2 FCS, 3 LONG, 4 FILT, 5 OVERFLOW, 6 NOBUF, 7 FRAG_ERR, 8 TX_OK, (file 15). -/
def NET_B_CNT_COLL : Nat := 0xA011A8
/-- NET_B_CNT_EXCESS_COLL, RWS: q = 0 for A and 1 for B; i = 0 RX_OK, 1 RUNT, 2 FCS, 3 LONG, 4 FILT, 5 OVERFLOW, 6 NOBUF, 7 FRAG_ERR, 8 TX_OK, (file 15). -/
def NET_B_CNT_EXCESS_COLL : Nat := 0xA011AC
/-- NET_B_CNT_LATE_COLL, RWS: q = 0 for A and 1 for B; i = 0 RX_OK, 1 RUNT, 2 FCS, 3 LONG, 4 FILT, 5 OVERFLOW, 6 NOBUF, 7 FRAG_ERR, 8 TX_OK, (file 15). -/
def NET_B_CNT_LATE_COLL : Nat := 0xA011B0
/-- TACK_STS, RO, W1C: Table TACK-13 (file 16). -/
def TACK_STS : Nat := 0xC00100
/-- TACK_EPOCH, RO: [6:0] E; [7] reserved; [14:8] TAMPER_COUNT; [15] reserved; [22:16] acknowledgement count; [31:23] reserved (file 16). -/
def TACK_EPOCH : Nat := 0xC00104
/-- TACK_TAMPER_CFG, RWS: Table TACK-14 (file 16). -/
def TACK_TAMPER_CFG : Nat := 0xC00108
/-- TACK_TAMPER_SRC, W1C: Table TACK-15; sources of every zeroise since the last clear (file 16). -/
def TACK_TAMPER_SRC : Nat := 0xC0010C
/-- TACK_TAMPER_LIVE, RO: As Table TACK-15; conditions active now (file 16). -/
def TACK_TAMPER_LIVE : Nat := 0xC00110
/-- TACK_REVOKE_USED, RO: [10:0] entries on the revocation list, 0–1,024; [31:11] reserved (file 16). -/
def TACK_REVOKE_USED : Nat := 0xC00114
/-- TACK_CNT_REJ_KEY, RWS: Items ended REJ_KEY by TACK (file 16). -/
def TACK_CNT_REJ_KEY : Nat := 0xC00118
/-- TACK_UID, RO: 128-bit device UID, at 0x0120 to 0x012C, lowest word first (file 16). -/
def TACK_UID : Nat := 0xC00120
/-- TACK_SLOT_s_STS, RO: Table TACK-16, s = 0–511 (file 16). -/
def TACK_SLOT_STS (n : Nat) : Nat := 0xC01000 + 0x4 * n
/-- TACK_SLOT_s_ID, RO: KEY_ID of slot s; 0 when EMPTY (file 16). -/
def TACK_SLOT_ID (n : Nat) : Nat := 0xC02000 + 0x4 * n
/-- REC_STS, RO, W1C: Table REC-8 (file 17). -/
def REC_STS : Nat := 0xE00100
/-- REC_CAP_ID, RWS: CAPTURE_ID of the latest ARM (file 17). -/
def REC_CAP_ID : Nat := 0xE00104
/-- REC_AREA_BASE, RO: 64-bit DRAM address of the recorder area (file 17). -/
def REC_AREA_BASE : Nat := 0xE00108
/-- REC_AREA_SIZE, RO: [12:0] size in MiB, 0–4,096; [31:13] reserved (file 17). -/
def REC_AREA_SIZE : Nat := 0xE00110
/-- REC_SYNC_CFG, RWS: Table REC-10 (file 17). -/
def REC_SYNC_CFG : Nat := 0xE00114
/-- REC_TRIG_TIME, RO: 64-bit trigger instant of the latest capture (file 17). -/
def REC_TRIG_TIME : Nat := 0xE00118
/-- REC_CNT_OVERFLOW, RWS: Captures stopped by overflow (R423) (file 17). -/
def REC_CNT_OVERFLOW : Nat := 0xE00120
/-- REC_CNT_SYNC_ERR, RWS: Unclassified TRIG_SYNC lows (R429) (file 17). -/
def REC_CNT_SYNC_ERR : Nat := 0xE00124
/-- REC_SRC_n_CFG, RW: Table REC-9, n = 0–7 (file 17). -/
def REC_SRC_CFG (n : Nat) : Nat := 0xE00200 + 0x20 * n
/-- REC_SRC_n_PRE, RW: Requested pre-trigger samples (R421) (file 17). -/
def REC_SRC_PRE (n : Nat) : Nat := 0xE00204 + 0x20 * n
/-- REC_SRC_n_POST, RW: Requested post-trigger samples (R421) (file 17). -/
def REC_SRC_POST (n : Nat) : Nat := 0xE00208 + 0x20 * n
/-- REC_SRC_n_SEL, RW: Selector of Table REC-1 (file 17). -/
def REC_SRC_SEL (n : Nat) : Nat := 0xE0020C + 0x20 * n
/-- REC_TRIG_k_CFG, RW: [0] EN; [31:1] reserved; k = 2–7 (R425) (file 17). -/
def REC_TRIG_CFG (n : Nat) : Nat := 0xE00300 + 0x10 * n
/-- REC_TRIG_k_ARG, RW: 64-bit argument of Table REC-3 (file 17). -/
def REC_TRIG_ARG (n : Nat) : Nat := 0xE00308 + 0x10 * n
/-- MQF_DRAM_CFG, RWS: [1:0] RATE: 0 6,400, 1 5,500, 2 4,267 MT/s; 3 reserved; takes effect at the next training; reset 0 (file 18). -/
def MQF_DRAM_CFG : Nat := 0x300100
/-- MQF_DRAM_STS, RO, W1C: Table MEM-6 (file 18). -/
def MQF_DRAM_STS : Nat := 0x300104
/-- MQF_ECC_CE_CNT, RWS: Corrected words (R435) (file 18). -/
def MQF_ECC_CE_CNT : Nat := 0x300108
/-- MQF_ECC_UE_CNT, RWS: Uncorrectable words (R435) (file 18). -/
def MQF_ECC_UE_CNT : Nat := 0x30010C
/-- MQF_ECC_LOG, RO: 64-bit address of the latest uncorrectable word (file 18). -/
def MQF_ECC_LOG : Nat := 0x300110
/-- MQF_SCRUB_STS, RO: 64-bit; [39:0] ADDR, the next address of the scrub; [47:40] passes completed, wrapping; [63:48] reserved (file 18). -/
def MQF_SCRUB_STS : Nat := 0x300118
/-- MQF_AREA_k_BASE, RO: 64-bit base of area k, k = 1–10 (file 18). -/
def MQF_AREA_BASE (n : Nat) : Nat := 0x300200 + 0x10 * n
/-- MQF_AREA_k_SIZE, RO: [15:0] size in MiB; [31:16] reserved (file 18). -/
def MQF_AREA_SIZE (n : Nat) : Nat := 0x300208 + 0x10 * n
/-- CHIP_BOOT_STS, RO: Table BOOT-15 (file 19). -/
def CHIP_BOOT_STS : Nat := 0x200
/-- CHIP_FW_EPOCH, RO: [15:0] minor; [31:16] major, of the running firmware (file 19). -/
def CHIP_FW_EPOCH : Nat := 0x204
/-- CHIP_FW_VERSION, RO: SVC_VERSION of the running firmware (file 19). -/
def CHIP_FW_VERSION : Nat := 0x208
/-- CHIP_GB_EPOCH, RO: [15:0] minor; [31:16] major, of the loaded bundle (file 19). -/
def CHIP_GB_EPOCH : Nat := 0x20C
/-- CHIP_GB_VERSION, RO: BUNDLE_VERSION of the loaded bundle (file 19). -/
def CHIP_GB_VERSION : Nat := 0x210
/-- CHIP_ROLLBACK, RO: [6:0] firmware counter; [7] reserved; [14:8] bundle counter; [31:15] reserved (file 19). -/
def CHIP_ROLLBACK : Nat := 0x214
/-- CHIP_DEBUG, RO: [1:0] POLICY (Table BOOT-13); [2] SERVICE_OK; [31:3] reserved (file 19). -/
def CHIP_DEBUG : Nat := 0x218
/-- CHIP_BOOT_NONCE, RO: 128-bit nonce (R464), at 0x0220 to 0x022C, lowest word first (file 19). -/
def CHIP_BOOT_NONCE : Nat := 0x220
/-- CHIP_BOOT_HOST_FW, RW: 64-bit bus address of the firmware image (R448) (file 19). -/
def CHIP_BOOT_HOST_FW : Nat := 0x230
/-- CHIP_BOOT_HOST_GB, RW: 64-bit bus address of the bundle (file 19). -/
def CHIP_BOOT_HOST_GB : Nat := 0x238
/-- CHIP_BOOT_HOST_LEN, RW: [15:0] firmware length in KiB; [31:16] bundle length in KiB (file 19). -/
def CHIP_BOOT_HOST_LEN : Nat := 0x240
/-- CHIP_BOOT_GO, WO: [0] GO, acted on only in HOST_WAIT; [31:1] reserved (file 19). -/
def CHIP_BOOT_GO : Nat := 0x244
/-- CHIP_PWR_STS, RO, W1C: Table PWR-10 (file 20). -/
def CHIP_PWR_STS : Nat := 0x300
/-- CHIP_WAKE_EN, RWS: Table PWR-11 (file 20). -/
def CHIP_WAKE_EN : Nat := 0x304
/-- CHIP_WAKE_TIME, RWS: 64-bit device time of the TIMER source; reset 0 (file 20). -/
def CHIP_WAKE_TIME : Nat := 0x308
/-- CHIP_THERM_STS, RO: Table PWR-12 (file 20). -/
def CHIP_THERM_STS : Nat := 0x310
/-- CHIP_CNT_STABLED, RWS: Entries into Stabled (file 20). -/
def CHIP_CNT_STABLED : Nat := 0x314
/-- BYL_PAIR_CFG, RWS: Table BYL-11 (file 21). -/
def BYL_PAIR_CFG : Nat := 0xF00100
/-- BYL_PAIR_STS, RO, W1C: Table BYL-12 (file 21). -/
def BYL_PAIR_STS : Nat := 0xF00104
/-- BYL_LINK_STS, RO: Table BYL-13 (file 21). -/
def BYL_LINK_STS : Nat := 0xF00108
/-- BYL_TIME_DEV, RO: ns, signed, saturating (R496) (file 21). -/
def BYL_TIME_DEV : Nat := 0xF0010C
/-- BYL_MSEQ_APPLIED, RO: Last mirror record applied or sent (file 21). -/
def BYL_MSEQ_APPLIED : Nat := 0xF00110
/-- BYL_CNT_HB_MISS, RWS: Missed heartbeats (file 21). -/
def BYL_CNT_HB_MISS : Nat := 0xF00114
/-- BYL_CNT_RESEND, RWS: Frames resent (R490) (file 21). -/
def BYL_CNT_RESEND : Nat := 0xF00118
/-- BYL_CNT_TAKEOVER, RWS: Takeovers (file 21). -/
def BYL_CNT_TAKEOVER : Nat := 0xF0011C
/-- BYL_PARTNER_UID, RO: 128-bit partner UID, at 0x0120 to 0x012C, lowest word first (file 21). -/
def BYL_PARTNER_UID : Nat := 0xF00120
/-- CHIP_ID, RO: [31:0] 0x0D28_4000 (R3) (file 23). -/
def CHIP_ID : Nat := 0x0
/-- CHIP_REV, RO: Table MAP-3 (file 23). -/
def CHIP_REV : Nat := 0x4
/-- CHIP_ERR_SUM, RO: [0] CHIP_ERR_STS is non-zero; [15:1] bit r set while region r has a set bit in TAG_RGN_ERR and TAG_RGN_CTL.ERR (file 23). -/
def CHIP_ERR_SUM : Nat := 0x10
/-- CHIP_ERR_STS, W1C: Table MAP-4 (file 23). -/
def CHIP_ERR_STS : Nat := 0x14
/-- CHIP_ERR_CTL, RWS: Table MAP-5 (file 23). -/
def CHIP_ERR_CTL : Nat := 0x18
/-- CHIP_ERR_INFO, RO: Table MAP-6 (file 23). -/
def CHIP_ERR_INFO : Nat := 0x1C
/-- CHIP_RST_CMD, WO: [15:0] KEY; [16] FULL_RESET; [31:17] reserved (R538) (file 23). -/
def CHIP_RST_CMD : Nat := 0x20
/-- CHIP_RST_CAUSE, RO: Table MAP-7 (file 23). -/
def CHIP_RST_CAUSE : Nat := 0x24
/-- CHIP_RST_CNT, RO: Full chip resets caused by chip errors since power-on; saturates at 0xFFFF_FFFF; held in the always-on domain (file 23). -/
def CHIP_RST_CNT : Nat := 0x28
/-- RGN_ID, RO: Table RGN-7 (file 01). -/
def RGN_ID (n : Nat) : Nat := 0x0 + 0x100000 * n
/-- RGN_STATE, RO: Table RGN-8 (file 01). -/
def RGN_STATE (n : Nat) : Nat := 0x4 + 0x100000 * n
/-- RGN_ERR, W1C: Table RGN-9 (file 01). -/
def RGN_ERR (n : Nat) : Nat := 0x8 + 0x100000 * n
/-- RGN_ERR_INFO, RO: Table RGN-10 (file 01). -/
def RGN_ERR_INFO (n : Nat) : Nat := 0xC + 0x100000 * n
/-- RGN_CELL_ERR_CNT, RWS: Table RGN-11 (file 01). -/
def RGN_CELL_ERR_CNT (n : Nat) : Nat := 0x10 + 0x100000 * n
/-- RGN_BLK_RST_CNT, RWS: Table RGN-11 (file 01). -/
def RGN_BLK_RST_CNT (n : Nat) : Nat := 0x14 + 0x100000 * n
/-- RGN_RST_CNT, RWS: Table RGN-11 (file 01). -/
def RGN_RST_CNT (n : Nat) : Nat := 0x18 + 0x100000 * n
/-- RGN_CTL, RWS: Table RGN-12 (file 01). -/
def RGN_CTL (n : Nat) : Nat := 0x1C + 0x100000 * n
/-- RGN_CMD, WO: Table RGN-13 (file 01). -/
def RGN_CMD (n : Nat) : Nat := 0x20 + 0x100000 * n
/-- RGN_PARAM_APPLY, WO: Table RGN-14 (file 01). -/
def RGN_PARAM_APPLY (n : Nat) : Nat := 0x24 + 0x100000 * n
/-- RGN_PARAM_LIVE, RO: Table RGN-15 (file 01). -/
def RGN_PARAM_LIVE (n : Nat) : Nat := 0x28 + 0x100000 * n
/-- GAIT_VER, RO: Table RGN-16 (file 01). -/
def GAIT_VER (n : Nat) : Nat := 0x2C + 0x100000 * n
/-- GAIT_TSET, RO: Table RGN-17 (file 01). -/
def GAIT_TSET (n : Nat) : Nat := 0x30 + 0x100000 * n
/-- SVC_POLICY_OWN, RW: Table CYC-7 (file 02). -/
def SVC_POLICY_OWN : Nat := 0x400100

end Reg

namespace B

abbrev HIF_RING_CFG_SQ_LOG2 (n : Nat) : Bits := ⟨Reg.HIF_RING_CFG n, 0, 5⟩
abbrev HIF_RING_CFG_CQ_LOG2 (n : Nat) : Bits := ⟨Reg.HIF_RING_CFG n, 8, 5⟩
abbrev HIF_RING_CFG_UPDATE (n : Nat) : Bits := ⟨Reg.HIF_RING_CFG n, 16, 1⟩
abbrev HIF_RING_CTL_ENABLE (n : Nat) : Bits := ⟨Reg.HIF_RING_CTL n, 0, 1⟩
abbrev HIF_RING_CTL_RECOVER (n : Nat) : Bits := ⟨Reg.HIF_RING_CTL n, 1, 1⟩
abbrev HIF_RING_IRQ_COUNT (n : Nat) : Bits := ⟨Reg.HIF_RING_IRQ n, 0, 8⟩
abbrev HIF_RING_IRQ_HOLDOFF (n : Nat) : Bits := ⟨Reg.HIF_RING_IRQ n, 8, 10⟩
abbrev HIF_RING_STS_ACTIVE (n : Nat) : Bits := ⟨Reg.HIF_RING_STS n, 0, 1⟩
abbrev HIF_RING_STS_RECOVERING (n : Nat) : Bits := ⟨Reg.HIF_RING_STS n, 1, 1⟩
abbrev HIF_RING_STS_RECOVERED (n : Nat) : Bits := ⟨Reg.HIF_RING_STS n, 2, 1⟩
abbrev HIF_RING_STS_DB_ERR (n : Nat) : Bits := ⟨Reg.HIF_RING_STS n, 3, 1⟩
abbrev HIF_RING_STS_CFG_ERR (n : Nat) : Bits := ⟨Reg.HIF_RING_STS n, 4, 1⟩
abbrev HIF_RING_STS_CQ_FULL (n : Nat) : Bits := ⟨Reg.HIF_RING_STS n, 5, 1⟩
abbrev HIF_RING_STS_OUTSTANDING (n : Nat) : Bits := ⟨Reg.HIF_RING_STS n, 15, 17⟩
abbrev HIF_RING_RECOV_CNT_FAILED (n : Nat) : Bits := ⟨Reg.HIF_RING_RECOV_CNT n, 0, 16⟩
abbrev HIF_RING_RECOV_CNT_STALE (n : Nat) : Bits := ⟨Reg.HIF_RING_RECOV_CNT n, 16, 16⟩
abbrev DSP_POOL_CFG_CURB_ON : Bits := ⟨Reg.DSP_POOL_CFG, 0, 15⟩
abbrev DSP_POOL_CFG_CURB_OFF : Bits := ⟨Reg.DSP_POOL_CFG, 16, 15⟩
abbrev DSP_POOL_STS_FREE : Bits := ⟨Reg.DSP_POOL_STS, 0, 15⟩
abbrev DSP_POOL_STS_CURB : Bits := ⟨Reg.DSP_POOL_STS, 15, 1⟩
abbrev DSP_POOL_STS_OBS_RSV : Bits := ⟨Reg.DSP_POOL_STS, 16, 12⟩
abbrev DSP_CURB_SRC_HEADS : Bits := ⟨Reg.DSP_CURB_SRC, 0, 8⟩
abbrev DSP_CURB_SRC_SVC : Bits := ⟨Reg.DSP_CURB_SRC, 8, 1⟩
abbrev DSP_CURB_SRC_TIM : Bits := ⟨Reg.DSP_CURB_SRC, 9, 1⟩
abbrev DSP_CURB_SRC_NET : Bits := ⟨Reg.DSP_CURB_SRC, 10, 1⟩
abbrev DSP_CURB_SRC_BYL : Bits := ⟨Reg.DSP_CURB_SRC, 11, 1⟩
abbrev DSP_CURB_SRC_REC : Bits := ⟨Reg.DSP_CURB_SRC, 12, 1⟩
abbrev DSP_OBS_SEL_FLOW : Bits := ⟨Reg.DSP_OBS_SEL, 0, 10⟩
abbrev DSP_OBS_SEL_CLEAR : Bits := ⟨Reg.DSP_OBS_SEL, 16, 1⟩
abbrev DSP_LOAD_SEL_REGION : Bits := ⟨Reg.DSP_LOAD_SEL, 0, 4⟩
abbrev DSP_LOAD_SEL_CELL : Bits := ⟨Reg.DSP_LOAD_SEL, 4, 16⟩
abbrev DSP_FLOW_CFG_PRIO (n : Nat) : Bits := ⟨Reg.DSP_FLOW_CFG n, 0, 3⟩
abbrev DSP_FLOW_CFG_MAX_INFLIGHT (n : Nat) : Bits := ⟨Reg.DSP_FLOW_CFG n, 4, 7⟩
abbrev DSP_FLOW_STS_INFLIGHT (n : Nat) : Bits := ⟨Reg.DSP_FLOW_STS n, 0, 16⟩
abbrev DSP_FLOW_STS_HELD (n : Nat) : Bits := ⟨Reg.DSP_FLOW_STS n, 16, 1⟩
abbrev DSP_FLOW_STS_AT_LIMIT (n : Nat) : Bits := ⟨Reg.DSP_FLOW_STS n, 17, 1⟩
abbrev MQF_Q_CFG_BANK_LOG2 (n : Nat) : Bits := ⟨Reg.MQF_Q_CFG n, 0, 4⟩
abbrev MQF_Q_CFG_MODE (n : Nat) : Bits := ⟨Reg.MQF_Q_CFG n, 4, 1⟩
abbrev MQF_Q_CFG_MAX_PKT (n : Nat) : Bits := ⟨Reg.MQF_Q_CFG n, 8, 13⟩
abbrev MQF_Q_CFG_ENABLE (n : Nat) : Bits := ⟨Reg.MQF_Q_CFG n, 31, 1⟩
abbrev MQF_Q_LIM_QTO (n : Nat) : Bits := ⟨Reg.MQF_Q_LIM n, 0, 16⟩
abbrev MQF_Q_LIM_BURST (n : Nat) : Bits := ⟨Reg.MQF_Q_LIM n, 16, 13⟩
abbrev MQF_Q_DEPTH_DRAIN (n : Nat) : Bits := ⟨Reg.MQF_Q_DEPTH n, 0, 13⟩
abbrev MQF_Q_DEPTH_FILL (n : Nat) : Bits := ⟨Reg.MQF_Q_DEPTH n, 16, 13⟩
abbrev MQF_Q_DEPTH_PKT_OPEN (n : Nat) : Bits := ⟨Reg.MQF_Q_DEPTH n, 29, 1⟩
abbrev MQF_Q_STS_CURB (n : Nat) : Bits := ⟨Reg.MQF_Q_STS n, 0, 1⟩
abbrev MQF_Q_STS_QTO_FIRED (n : Nat) : Bits := ⟨Reg.MQF_Q_STS n, 1, 1⟩
abbrev MQF_Q_STS_PARITY (n : Nat) : Bits := ⟨Reg.MQF_Q_STS n, 2, 1⟩
abbrev MQF_Q_STS_PKT_OVER (n : Nat) : Bits := ⟨Reg.MQF_Q_STS n, 3, 1⟩
abbrev MQF_Q_STS_CFG_ERR (n : Nat) : Bits := ⟨Reg.MQF_Q_STS n, 4, 1⟩
abbrev MQF_Q_HWM_DEPTH (n : Nat) : Bits := ⟨Reg.MQF_Q_HWM n, 0, 14⟩
abbrev GNB_PORT_CTL_ENABLE (n : Nat) : Bits := ⟨Reg.GNB_PORT_CTL n, 0, 1⟩
abbrev GNB_PORT_CTL_AGC_HOLD (n : Nat) : Bits := ⟨Reg.GNB_PORT_CTL n, 1, 1⟩
abbrev GNB_PORT_STS_SYNC (n : Nat) : Bits := ⟨Reg.GNB_PORT_STS n, 0, 1⟩
abbrev GNB_PORT_STS_SLIPPED (n : Nat) : Bits := ⟨Reg.GNB_PORT_STS n, 1, 1⟩
abbrev GNB_PORT_STS_AGC_JUMP (n : Nat) : Bits := ⟨Reg.GNB_PORT_STS n, 2, 1⟩
abbrev GNB_PORT_STS_NOTCH_OVER (n : Nat) : Bits := ⟨Reg.GNB_PORT_STS n, 3, 1⟩
abbrev GNB_PORT_STS_NOTCHES (n : Nat) : Bits := ⟨Reg.GNB_PORT_STS n, 4, 4⟩
abbrev GNB_PORT_STS_AGC_DUTY (n : Nat) : Bits := ⟨Reg.GNB_PORT_STS n, 8, 10⟩
abbrev GNB_ANT_CFG_BIAS_EN : Bits := ⟨Reg.GNB_ANT_CFG, 0, 1⟩
abbrev GNB_ANT_CFG_REARM : Bits := ⟨Reg.GNB_ANT_CFG, 1, 1⟩
abbrev GNB_ANT_STS_CLASS : Bits := ⟨Reg.GNB_ANT_STS, 0, 2⟩
abbrev GNB_ANT_STS_LATCHED : Bits := ⟨Reg.GNB_ANT_STS, 2, 1⟩
abbrev GNB_ANT_STS_CHANGED : Bits := ⟨Reg.GNB_ANT_STS, 3, 1⟩
abbrev GNB_ANT_CUR_CUR : Bits := ⟨Reg.GNB_ANT_CUR, 0, 16⟩
abbrev GNB_TRK_STS_TRACKED : Bits := ⟨Reg.GNB_TRK_STS, 0, 8⟩
abbrev GNB_TRK_STS_UNTRACKED : Bits := ⟨Reg.GNB_TRK_STS, 8, 8⟩
abbrev GNB_TRK_STS_CHANNELS : Bits := ⟨Reg.GNB_TRK_STS, 16, 8⟩
abbrev GNB_TRK_DIS_CNT_COUNT : Bits := ⟨Reg.GNB_TRK_DIS_CNT, 0, 8⟩
abbrev GNB_TRK_MASK_PRN_PRN : Bits := ⟨Reg.GNB_TRK_MASK_PRN, 0, 6⟩
abbrev GNB_TRK_MASK_PRN_SYSTEM : Bits := ⟨Reg.GNB_TRK_MASK_PRN, 6, 2⟩
abbrev GNB_TRK_MASK_PRN_DISABLE : Bits := ⟨Reg.GNB_TRK_MASK_PRN, 8, 1⟩
abbrev FIX_CAP_EPOCH_CAP : Bits := ⟨Reg.FIX_CAP, 0, 12⟩
abbrev FIX_CAP_LANES : Bits := ⟨Reg.FIX_CAP, 12, 4⟩
abbrev FIX_CAP_UNITS : Bits := ⟨Reg.FIX_CAP, 16, 2⟩
abbrev FIX_STS_OVERLOAD : Bits := ⟨Reg.FIX_STS, 0, 1⟩
abbrev FIX_STS_CAP_CHANGED : Bits := ⟨Reg.FIX_STS, 1, 1⟩
abbrev FIX_STS_STALE : Bits := ⟨Reg.FIX_STS, 2, 1⟩
abbrev FIX_STS_REINIT_ACTIVE : Bits := ⟨Reg.FIX_STS, 3, 1⟩
abbrev FIX_STS_ORIGIN_LATCHED : Bits := ⟨Reg.FIX_STS, 4, 1⟩
abbrev FIX_FST_HOST_MIRROR : Bits := ⟨Reg.FIX_FST_HOST, 0, 1⟩
abbrev FIX_INTEG_STS_SPOOF_SUSPECT : Bits := ⟨Reg.FIX_INTEG_STS, 0, 1⟩
abbrev FIX_INTEG_STS_INTERFERENCE : Bits := ⟨Reg.FIX_INTEG_STS, 1, 1⟩
abbrev FIX_INTEG_STS_CLK_TEST_ON : Bits := ⟨Reg.FIX_INTEG_STS, 2, 1⟩
abbrev FIX_INTEG_STS_SV_CHANGED : Bits := ⟨Reg.FIX_INTEG_STS, 3, 1⟩
abbrev FIX_INTEG_STS_CLEAR_REJ : Bits := ⟨Reg.FIX_INTEG_STS, 4, 1⟩
abbrev FIX_INTEG_STS_SUSPECT_SATS : Bits := ⟨Reg.FIX_INTEG_STS, 8, 8⟩
abbrev FIX_INTEG_STS_SPOOF_CAUSE : Bits := ⟨Reg.FIX_INTEG_STS, 16, 2⟩
abbrev FIX_INTEG_CMD_SPOOF_CLEAR : Bits := ⟨Reg.FIX_INTEG_CMD, 0, 1⟩
abbrev FIX_INTEG_CMD_SV_CLEAR_ALL : Bits := ⟨Reg.FIX_INTEG_CMD, 1, 1⟩
abbrev PAD_GEOM_W64 : Bits := ⟨Reg.PAD_GEOM, 0, 16⟩
abbrev PAD_GEOM_H64 : Bits := ⟨Reg.PAD_GEOM, 16, 16⟩
abbrev PAD_CELL_CELL_CM : Bits := ⟨Reg.PAD_CELL, 0, 8⟩
abbrev PAD_CAP_CELLS : Bits := ⟨Reg.PAD_CAP, 0, 26⟩
abbrev PAD_STS_MAP_VALID : Bits := ⟨Reg.PAD_STS, 0, 1⟩
abbrev PAD_STS_IMPORT_ACTIVE : Bits := ⟨Reg.PAD_STS, 1, 1⟩
abbrev PAD_STS_GROOM_LATE : Bits := ⟨Reg.PAD_STS, 2, 1⟩
abbrev PAD_STS_REPAIRED : Bits := ⟨Reg.PAD_STS, 3, 1⟩
abbrev PAD_GROOM_STS_NEXT_TILE : Bits := ⟨Reg.PAD_GROOM_STS, 0, 13⟩
abbrev PAD_GROOM_STS_MAX_AGE : Bits := ⟨Reg.PAD_GROOM_STS, 16, 16⟩
abbrev PAD_SWEEP_STS_ACTIVE : Bits := ⟨Reg.PAD_SWEEP_STS, 0, 3⟩
abbrev PAD_SWEEP_STS_WAITING : Bits := ⟨Reg.PAD_SWEEP_STS, 8, 8⟩
abbrev PAD_SWEEP_STS_LOCKED : Bits := ⟨Reg.PAD_SWEEP_STS, 16, 8⟩
abbrev PAD_SWEEP_STS_MIRROR_PEND : Bits := ⟨Reg.PAD_SWEEP_STS, 24, 1⟩
abbrev PAD_CTX_STS_SHAPE_SET (n : Nat) : Bits := ⟨Reg.PAD_CTX_STS n, 0, 1⟩
abbrev PAD_CTX_STS_DISC (n : Nat) : Bits := ⟨Reg.PAD_CTX_STS n, 1, 1⟩
abbrev PAD_CTX_STS_PARKED (n : Nat) : Bits := ⟨Reg.PAD_CTX_STS n, 2, 1⟩
abbrev PAD_CTX_STS_TILES (n : Nat) : Bits := ⟨Reg.PAD_CTX_STS n, 8, 8⟩
abbrev PAD_CTX_STS_PARK_END (n : Nat) : Bits := ⟨Reg.PAD_CTX_STS n, 16, 14⟩
abbrev GAIT_STS_LANES : Bits := ⟨Reg.GAIT_STS, 0, 3⟩
abbrev GAIT_STS_WAITING : Bits := ⟨Reg.GAIT_STS, 8, 8⟩
abbrev GAIT_CTX_STS_TRACK (n : Nat) : Bits := ⟨Reg.GAIT_CTX_STS n, 0, 1⟩
abbrev GAIT_CTX_STS_LIMITS (n : Nat) : Bits := ⟨Reg.GAIT_CTX_STS n, 1, 1⟩
abbrev GAIT_CTX_STS_TARGET (n : Nat) : Bits := ⟨Reg.GAIT_CTX_STS n, 2, 1⟩
abbrev GAIT_CTX_STS_DATUM (n : Nat) : Bits := ⟨Reg.GAIT_CTX_STS n, 3, 1⟩
abbrev GAIT_CTX_STS_LIMIT_PENDING (n : Nat) : Bits := ⟨Reg.GAIT_CTX_STS n, 4, 1⟩
abbrev GAIT_CTX_STS_REVERSING (n : Nat) : Bits := ⟨Reg.GAIT_CTX_STS n, 5, 1⟩
abbrev GAIT_CTX_STS_DL_MISS_RUN (n : Nat) : Bits := ⟨Reg.GAIT_CTX_STS n, 8, 8⟩
abbrev GAIT_CTX_STS_TRACK_ID (n : Nat) : Bits := ⟨Reg.GAIT_CTX_STS n, 16, 16⟩
abbrev GAIT_CTX_PLAN_PLAN_SEQ (n : Nat) : Bits := ⟨Reg.GAIT_CTX_PLAN n, 0, 16⟩
abbrev GAIT_CTX_PLAN_ACK (n : Nat) : Bits := ⟨Reg.GAIT_CTX_PLAN n, 16, 8⟩
abbrev AIR_STS_SCHED_VALID : Bits := ⟨Reg.AIR_STS, 0, 1⟩
abbrev AIR_STS_BULK_OPEN : Bits := ⟨Reg.AIR_STS, 1, 1⟩
abbrev AIR_STS_HALTER : Bits := ⟨Reg.AIR_STS, 2, 1⟩
abbrev AIR_STS_BEACON_NOKEY : Bits := ⟨Reg.AIR_STS, 3, 1⟩
abbrev AIR_STS_GAP : Bits := ⟨Reg.AIR_STS, 4, 1⟩
abbrev AIR_STS_SCHED_SWITCHED : Bits := ⟨Reg.AIR_STS, 5, 1⟩
abbrev AIR_SCHED_SCHED_ID : Bits := ⟨Reg.AIR_SCHED, 0, 16⟩
abbrev AIR_SCHED_NEXT_ID : Bits := ⟨Reg.AIR_SCHED, 16, 16⟩
abbrev AIR_HEAD_CTL_ENABLE (n : Nat) : Bits := ⟨Reg.AIR_HEAD_CTL n, 0, 1⟩
abbrev AIR_HEAD_CTL_DELAY (n : Nat) : Bits := ⟨Reg.AIR_HEAD_CTL n, 2, 10⟩
abbrev AIR_HEAD_STS_LINK (n : Nat) : Bits := ⟨Reg.AIR_HEAD_STS n, 0, 2⟩
abbrev AIR_HEAD_STS_ACTIVE_HERE (n : Nat) : Bits := ⟨Reg.AIR_HEAD_STS n, 2, 1⟩
abbrev AIR_HEAD_STS_RF_FAULT (n : Nat) : Bits := ⟨Reg.AIR_HEAD_STS n, 3, 1⟩
abbrev AIR_HEAD_STS_TIMING_LOST (n : Nat) : Bits := ⟨Reg.AIR_HEAD_STS n, 4, 1⟩
abbrev AIR_HEAD_STS_LINK_CHANGED (n : Nat) : Bits := ⟨Reg.AIR_HEAD_STS n, 5, 1⟩
abbrev AIR_HEAD_STS_TEMP (n : Nat) : Bits := ⟨Reg.AIR_HEAD_STS n, 8, 8⟩
abbrev AIR_CTX_STS_STATE (n : Nat) : Bits := ⟨Reg.AIR_CTX_STS n, 0, 3⟩
abbrev AIR_CTX_STS_HEAD (n : Nat) : Bits := ⟨Reg.AIR_CTX_STS n, 3, 3⟩
abbrev AIR_CTX_STS_MISSES (n : Nat) : Bits := ⟨Reg.AIR_CTX_STS n, 6, 2⟩
abbrev AIR_CTX_STS_GUARD (n : Nat) : Bits := ⟨Reg.AIR_CTX_STS n, 8, 16⟩
abbrev AIR_BEACON_KEY_SLOT : Bits := ⟨Reg.AIR_BEACON_KEY, 0, 9⟩
abbrev AIR_BEACON_KEY_VALID : Bits := ⟨Reg.AIR_BEACON_KEY, 9, 1⟩
abbrev AIR_CTX_SESS_COMPAT (n : Nat) : Bits := ⟨Reg.AIR_CTX_SESS n, 0, 1⟩
abbrev AIR_CTX_SESS_JOIN_PENDING (n : Nat) : Bits := ⟨Reg.AIR_CTX_SESS n, 1, 1⟩
abbrev AIR_CTX_SESS_KEY_LIVE (n : Nat) : Bits := ⟨Reg.AIR_CTX_SESS n, 2, 1⟩
abbrev AIR_CTX_SESS_REKEYING (n : Nat) : Bits := ⟨Reg.AIR_CTX_SESS n, 3, 1⟩
abbrev AIR_CTX_SESS_RELAY (n : Nat) : Bits := ⟨Reg.AIR_CTX_SESS n, 4, 1⟩
abbrev AIR_CTX_SESS_NEXT_HOP (n : Nat) : Bits := ⟨Reg.AIR_CTX_SESS n, 8, 8⟩
abbrev AIR_CTX_SESS_HOPS (n : Nat) : Bits := ⟨Reg.AIR_CTX_SESS n, 16, 2⟩
abbrev AIR_CTX_JOINKEY_SLOT (n : Nat) : Bits := ⟨Reg.AIR_CTX_JOINKEY n, 0, 9⟩
abbrev AIR_CTX_JOINKEY_VALID (n : Nat) : Bits := ⟨Reg.AIR_CTX_JOINKEY n, 9, 1⟩
abbrev WHOA_STS_STOPPED : Bits := ⟨Reg.WHOA_STS, 0, 1⟩
abbrev WHOA_STS_RELEASE_PENDING : Bits := ⟨Reg.WHOA_STS, 1, 1⟩
abbrev WHOA_STS_STOP_REQ : Bits := ⟨Reg.WHOA_STS, 2, 1⟩
abbrev WHOA_STS_PERMIT : Bits := ⟨Reg.WHOA_STS, 3, 1⟩
abbrev WHOA_STS_CHAN_A : Bits := ⟨Reg.WHOA_STS, 4, 1⟩
abbrev WHOA_STS_CHAN_B : Bits := ⟨Reg.WHOA_STS, 5, 1⟩
abbrev WHOA_STS_FIRST_CAUSE : Bits := ⟨Reg.WHOA_STS, 8, 8⟩
abbrev WHOA_STS_OUT : Bits := ⟨Reg.WHOA_STS, 16, 4⟩
abbrev WHOA_CAUSE_ACTIVE : Bits := ⟨Reg.WHOA_CAUSE, 1, 10⟩
abbrev WHOA_FAULT_DISAGREE : Bits := ⟨Reg.WHOA_FAULT, 0, 1⟩
abbrev WHOA_FAULT_TP_A : Bits := ⟨Reg.WHOA_FAULT, 1, 1⟩
abbrev WHOA_FAULT_TP_B : Bits := ⟨Reg.WHOA_FAULT, 2, 1⟩
abbrev WHOA_FAULT_CROSS : Bits := ⟨Reg.WHOA_FAULT, 3, 1⟩
abbrev WHOA_FAULT_KEY_FAULT : Bits := ⟨Reg.WHOA_FAULT, 4, 1⟩
abbrev WHOA_FAULT_OSC : Bits := ⟨Reg.WHOA_FAULT, 5, 1⟩
abbrev WHOA_FAULT_OUT : Bits := ⟨Reg.WHOA_FAULT, 6, 4⟩
abbrev WHOA_FAULT_REGION : Bits := ⟨Reg.WHOA_FAULT, 10, 1⟩
abbrev WHOA_FAULT_BLOCK : Bits := ⟨Reg.WHOA_FAULT, 11, 1⟩
abbrev WHOA_CFG_LOCAL_RESUME : Bits := ⟨Reg.WHOA_CFG, 0, 1⟩
abbrev WHOA_CFG_TP_PERIOD : Bits := ⟨Reg.WHOA_CFG, 1, 7⟩
abbrev WHOA_CFG_PLUG_STOP : Bits := ⟨Reg.WHOA_CFG, 8, 8⟩
abbrev WHOA_CFG_PLUG_STOP_ANT : Bits := ⟨Reg.WHOA_CFG, 16, 1⟩
abbrev WHOA_CFG_TOUCH_THR : Bits := ⟨Reg.WHOA_CFG, 17, 5⟩
abbrev WHOA_CFG_RAIN_THR : Bits := ⟨Reg.WHOA_CFG, 22, 5⟩
abbrev WHOA_KEY_POS : Bits := ⟨Reg.WHOA_KEY, 0, 2⟩
abbrev WHOA_TOUCH_STS_TOUCHED : Bits := ⟨Reg.WHOA_TOUCH_STS, 0, 12⟩
abbrev WHOA_TOUCH_STS_WET : Bits := ⟨Reg.WHOA_TOUCH_STS, 12, 1⟩
abbrev WHOA_TOUCH_STS_PALM : Bits := ⟨Reg.WHOA_TOUCH_STS, 13, 1⟩
abbrev WHOA_TOUCH_STS_HOLD : Bits := ⟨Reg.WHOA_TOUCH_STS, 14, 1⟩
abbrev WHOA_TOUCH_STS_HOLD_MS : Bits := ⟨Reg.WHOA_TOUCH_STS, 16, 12⟩
abbrev WHOA_PLUG_STS_HPD : Bits := ⟨Reg.WHOA_PLUG_STS, 0, 8⟩
abbrev WHOA_PLUG_STS_ANT_DET : Bits := ⟨Reg.WHOA_PLUG_STS, 8, 1⟩
abbrev WHOA_PLUG_STS_SVC_DET : Bits := ⟨Reg.WHOA_PLUG_STS, 9, 1⟩
abbrev WHOA_PLUG_STS_SERVICE_OK : Bits := ⟨Reg.WHOA_PLUG_STS, 10, 1⟩
abbrev WHOA_LED_LEDS : Bits := ⟨Reg.WHOA_LED, 0, 16⟩
abbrev WHOA_TOUCH_RAW_READING (n : Nat) : Bits := ⟨Reg.WHOA_TOUCH_RAW n, 0, 16⟩
abbrev WHOA_TOUCH_RAW_BASELINE (n : Nat) : Bits := ⟨Reg.WHOA_TOUCH_RAW n, 16, 16⟩
abbrev TIM_TIME_NSEC_NSEC : Bits := ⟨Reg.TIM_TIME_NSEC, 0, 30⟩
abbrev TIM_TIME_FRAC_FRAC : Bits := ⟨Reg.TIM_TIME_FRAC, 0, 16⟩
abbrev TIM_SERVO_CTL_MANUAL : Bits := ⟨Reg.TIM_SERVO_CTL, 0, 1⟩
abbrev TIM_SERVO_CTL_FORCE : Bits := ⟨Reg.TIM_SERVO_CTL, 1, 2⟩
abbrev TIM_STS_QUALITY : Bits := ⟨Reg.TIM_STS, 0, 2⟩
abbrev TIM_STS_SELECTED : Bits := ⟨Reg.TIM_STS, 2, 2⟩
abbrev TIM_STS_DISAGREE : Bits := ⟨Reg.TIM_STS, 4, 1⟩
abbrev TIM_STS_FROZEN : Bits := ⟨Reg.TIM_STS, 5, 1⟩
abbrev TIM_STS_SLEWING : Bits := ⟨Reg.TIM_STS, 6, 1⟩
abbrev TIM_STS_STEP_PENDING : Bits := ⟨Reg.TIM_STS, 7, 1⟩
abbrev TIM_STS_PPS_STARTED : Bits := ⟨Reg.TIM_STS, 8, 1⟩
abbrev TIM_STS_STEPPED : Bits := ⟨Reg.TIM_STS, 16, 1⟩
abbrev TIM_STS_QUALITY_CHANGED : Bits := ⟨Reg.TIM_STS, 17, 1⟩
abbrev TIM_STS_SOURCE_CHANGED : Bits := ⟨Reg.TIM_STS, 18, 1⟩
abbrev TIM_STS_INCR_REJ : Bits := ⟨Reg.TIM_STS, 19, 1⟩
abbrev TIM_SRC_STS_GNSS_QUAL : Bits := ⟨Reg.TIM_SRC_STS, 0, 1⟩
abbrev TIM_SRC_STS_GNSS_SUSPECT : Bits := ⟨Reg.TIM_SRC_STS, 1, 1⟩
abbrev TIM_SRC_STS_GNSS_EXCL : Bits := ⟨Reg.TIM_SRC_STS, 2, 1⟩
abbrev TIM_SRC_STS_EXCL_SPOOF : Bits := ⟨Reg.TIM_SRC_STS, 3, 1⟩
abbrev TIM_SRC_STS_A_QUAL : Bits := ⟨Reg.TIM_SRC_STS, 4, 1⟩
abbrev TIM_SRC_STS_A_SUSPECT : Bits := ⟨Reg.TIM_SRC_STS, 5, 1⟩
abbrev TIM_SRC_STS_A_EXCL : Bits := ⟨Reg.TIM_SRC_STS, 6, 1⟩
abbrev TIM_SRC_STS_B_QUAL : Bits := ⟨Reg.TIM_SRC_STS, 8, 1⟩
abbrev TIM_SRC_STS_B_SUSPECT : Bits := ⟨Reg.TIM_SRC_STS, 9, 1⟩
abbrev TIM_SRC_STS_B_EXCL : Bits := ⟨Reg.TIM_SRC_STS, 10, 1⟩
abbrev TIM_VOTE_CMD_EXCL : Bits := ⟨Reg.TIM_VOTE_CMD, 0, 3⟩
abbrev TIM_VOTE_CMD_INCL : Bits := ⟨Reg.TIM_VOTE_CMD, 4, 3⟩
abbrev TIM_VOTE_CMD_CLEAR_SUSPECT : Bits := ⟨Reg.TIM_VOTE_CMD, 8, 1⟩
abbrev TIM_ERR_EST_E : Bits := ⟨Reg.TIM_ERR_EST, 0, 32⟩
abbrev TIM_DOM_A_CFG_ROLE : Bits := ⟨Reg.TIM_DOM_A_CFG, 0, 2⟩
abbrev TIM_DOM_A_CFG_PROFILE : Bits := ⟨Reg.TIM_DOM_A_CFG, 2, 1⟩
abbrev TIM_DOM_A_CFG_PORT : Bits := ⟨Reg.TIM_DOM_A_CFG, 3, 1⟩
abbrev TIM_DOM_A_CFG_DOMAIN_NUM : Bits := ⟨Reg.TIM_DOM_A_CFG, 8, 8⟩
abbrev TIM_DOM_B_CFG_ROLE : Bits := ⟨Reg.TIM_DOM_B_CFG, 0, 2⟩
abbrev TIM_DOM_B_CFG_PROFILE : Bits := ⟨Reg.TIM_DOM_B_CFG, 2, 1⟩
abbrev TIM_DOM_B_CFG_PORT : Bits := ⟨Reg.TIM_DOM_B_CFG, 3, 1⟩
abbrev TIM_DOM_B_CFG_DOMAIN_NUM : Bits := ⟨Reg.TIM_DOM_B_CFG, 8, 8⟩
abbrev TIM_PPS_CTL_ENABLE (n : Nat) : Bits := ⟨Reg.TIM_PPS_CTL n, 0, 1⟩
abbrev TIM_PPS_CTL_POLARITY (n : Nat) : Bits := ⟨Reg.TIM_PPS_CTL n, 1, 1⟩
abbrev TIM_PPS_CTL_FORCE_START (n : Nat) : Bits := ⟨Reg.TIM_PPS_CTL n, 2, 1⟩
abbrev TIM_PPS_CTL_WIDTH (n : Nat) : Bits := ⟨Reg.TIM_PPS_CTL n, 4, 20⟩
abbrev TIM_CUE_CFG_IDLE (n : Nat) : Bits := ⟨Reg.TIM_CUE_CFG n, 0, 1⟩
abbrev TIM_CUE_OUT_LEVEL : Bits := ⟨Reg.TIM_CUE_OUT, 0, 8⟩
abbrev NET_A_CFG_ENABLE : Bits := ⟨Reg.NET_A_CFG, 0, 1⟩
abbrev NET_A_CFG_MODE : Bits := ⟨Reg.NET_A_CFG, 1, 1⟩
abbrev NET_A_CFG_AN_EN : Bits := ⟨Reg.NET_A_CFG, 2, 1⟩
abbrev NET_A_CFG_PREEMPT : Bits := ⟨Reg.NET_A_CFG, 3, 1⟩
abbrev NET_A_CFG_ADD_FRAG : Bits := ⟨Reg.NET_A_CFG, 4, 2⟩
abbrev NET_A_CFG_KEEP_LONG : Bits := ⟨Reg.NET_A_CFG, 6, 1⟩
abbrev NET_A_CFG_BCAST_EN : Bits := ⟨Reg.NET_A_CFG, 7, 1⟩
abbrev NET_A_CFG_BCAST_DEST : Bits := ⟨Reg.NET_A_CFG, 8, 1⟩
abbrev NET_A_CFG_PTP_EN : Bits := ⟨Reg.NET_A_CFG, 9, 1⟩
abbrev NET_A_CFG_PTP_DEST : Bits := ⟨Reg.NET_A_CFG, 10, 1⟩
abbrev NET_A_CFG_OWN_DEST : Bits := ⟨Reg.NET_A_CFG, 11, 1⟩
abbrev NET_A_CFG_MDC_DIV : Bits := ⟨Reg.NET_A_CFG, 12, 4⟩
abbrev NET_A_CFG_TX_TIMEOUT : Bits := ⟨Reg.NET_A_CFG, 16, 10⟩
abbrev NET_A_STS_LINK : Bits := ⟨Reg.NET_A_STS, 0, 1⟩
abbrev NET_A_STS_SPEED : Bits := ⟨Reg.NET_A_STS, 1, 1⟩
abbrev NET_A_STS_VERIFIED : Bits := ⟨Reg.NET_A_STS, 2, 1⟩
abbrev NET_A_STS_PAUSED : Bits := ⟨Reg.NET_A_STS, 3, 1⟩
abbrev NET_A_STS_PLCA_UP : Bits := ⟨Reg.NET_A_STS, 4, 1⟩
abbrev NET_A_STS_LINK_CHANGED : Bits := ⟨Reg.NET_A_STS, 5, 1⟩
abbrev NET_A_STS_AN_FAULT : Bits := ⟨Reg.NET_A_STS, 6, 1⟩
abbrev NET_A_MAX_LEN_MAX : Bits := ⟨Reg.NET_A_MAX_LEN, 0, 14⟩
abbrev NET_A_PAUSE_TX_QUANTA : Bits := ⟨Reg.NET_A_PAUSE, 0, 16⟩
abbrev NET_A_PAUSE_TX_EN : Bits := ⟨Reg.NET_A_PAUSE, 16, 1⟩
abbrev NET_A_PHY_DLY_TX : Bits := ⟨Reg.NET_A_PHY_DLY, 0, 16⟩
abbrev NET_A_PHY_DLY_RX : Bits := ⟨Reg.NET_A_PHY_DLY, 16, 16⟩
abbrev NET_B_CFG_ENABLE : Bits := ⟨Reg.NET_B_CFG, 0, 1⟩
abbrev NET_B_CFG_PLCA_EN : Bits := ⟨Reg.NET_B_CFG, 1, 1⟩
abbrev NET_B_CFG_KEEP_LONG : Bits := ⟨Reg.NET_B_CFG, 2, 1⟩
abbrev NET_B_CFG_BCAST_EN : Bits := ⟨Reg.NET_B_CFG, 3, 1⟩
abbrev NET_B_CFG_BCAST_DEST : Bits := ⟨Reg.NET_B_CFG, 4, 1⟩
abbrev NET_B_CFG_PTP_EN : Bits := ⟨Reg.NET_B_CFG, 5, 1⟩
abbrev NET_B_CFG_PTP_DEST : Bits := ⟨Reg.NET_B_CFG, 6, 1⟩
abbrev NET_B_CFG_OWN_DEST : Bits := ⟨Reg.NET_B_CFG, 7, 1⟩
abbrev NET_B_CFG_NODE_ID : Bits := ⟨Reg.NET_B_CFG, 8, 8⟩
abbrev NET_B_CFG_TO_TIMER : Bits := ⟨Reg.NET_B_CFG, 16, 8⟩
abbrev NET_B_CFG_BURST_CNT : Bits := ⟨Reg.NET_B_CFG, 24, 8⟩
abbrev NET_B_STS_LINK : Bits := ⟨Reg.NET_B_STS, 0, 1⟩
abbrev NET_B_STS_SPEED : Bits := ⟨Reg.NET_B_STS, 1, 1⟩
abbrev NET_B_STS_VERIFIED : Bits := ⟨Reg.NET_B_STS, 2, 1⟩
abbrev NET_B_STS_PAUSED : Bits := ⟨Reg.NET_B_STS, 3, 1⟩
abbrev NET_B_STS_PLCA_UP : Bits := ⟨Reg.NET_B_STS, 4, 1⟩
abbrev NET_B_STS_LINK_CHANGED : Bits := ⟨Reg.NET_B_STS, 5, 1⟩
abbrev NET_B_STS_AN_FAULT : Bits := ⟨Reg.NET_B_STS, 6, 1⟩
abbrev NET_STOP_IGNORE_PAUSE_SET : Bits := ⟨Reg.NET_STOP_IGNORE_PAUSE, 0, 1⟩
abbrev NET_STOP_VLAN_VID : Bits := ⟨Reg.NET_STOP_VLAN, 0, 12⟩
abbrev NET_STOP_VLAN_PCP : Bits := ⟨Reg.NET_STOP_VLAN, 12, 3⟩
abbrev NET_STOP_VLAN_VLAN_EN : Bits := ⟨Reg.NET_STOP_VLAN, 15, 1⟩
abbrev NET_STOP_VLAN_PORT_B_EN : Bits := ⟨Reg.NET_STOP_VLAN, 16, 1⟩
abbrev NET_A_FILT_EN (n : Nat) : Bits := ⟨Reg.NET_A_FILT n + 4, 16, 1⟩
abbrev NET_A_FILT_DEST (n : Nat) : Bits := ⟨Reg.NET_A_FILT n + 4, 17, 1⟩
abbrev NET_B_FILT_EN (n : Nat) : Bits := ⟨Reg.NET_B_FILT n + 4, 16, 1⟩
abbrev NET_B_FILT_DEST (n : Nat) : Bits := ⟨Reg.NET_B_FILT n + 4, 17, 1⟩
abbrev TACK_STS_TAMPERED : Bits := ⟨Reg.TACK_STS, 0, 1⟩
abbrev TACK_STS_ACTIVE : Bits := ⟨Reg.TACK_STS, 1, 1⟩
abbrev TACK_STS_KEK_VALID : Bits := ⟨Reg.TACK_STS, 2, 1⟩
abbrev TACK_STS_WINDOW : Bits := ⟨Reg.TACK_STS, 3, 1⟩
abbrev TACK_STS_EXHAUSTED : Bits := ⟨Reg.TACK_STS, 4, 1⟩
abbrev TACK_STS_PUF_FAIL : Bits := ⟨Reg.TACK_STS, 5, 1⟩
abbrev TACK_STS_ZEROISED : Bits := ⟨Reg.TACK_STS, 6, 1⟩
abbrev TACK_EPOCH_E : Bits := ⟨Reg.TACK_EPOCH, 0, 7⟩
abbrev TACK_EPOCH_TAMPER_COUNT : Bits := ⟨Reg.TACK_EPOCH, 8, 7⟩
abbrev TACK_EPOCH_ACKS : Bits := ⟨Reg.TACK_EPOCH, 16, 7⟩
abbrev TACK_TAMPER_CFG_IN_EN : Bits := ⟨Reg.TACK_TAMPER_CFG, 0, 4⟩
abbrev TACK_TAMPER_CFG_IN_MESH : Bits := ⟨Reg.TACK_TAMPER_CFG, 4, 4⟩
abbrev TACK_TAMPER_CFG_VOLT_EN : Bits := ⟨Reg.TACK_TAMPER_CFG, 8, 1⟩
abbrev TACK_TAMPER_CFG_CLOCK_EN : Bits := ⟨Reg.TACK_TAMPER_CFG, 9, 1⟩
abbrev TACK_TAMPER_CFG_TEMP_EN : Bits := ⟨Reg.TACK_TAMPER_CFG, 10, 1⟩
abbrev TACK_TAMPER_CFG_LIGHT_EN : Bits := ⟨Reg.TACK_TAMPER_CFG, 11, 1⟩
abbrev TACK_TAMPER_CFG_LOCK : Bits := ⟨Reg.TACK_TAMPER_CFG, 31, 1⟩
abbrev TACK_TAMPER_SRC_IN : Bits := ⟨Reg.TACK_TAMPER_SRC, 0, 4⟩
abbrev TACK_TAMPER_SRC_VOLT : Bits := ⟨Reg.TACK_TAMPER_SRC, 4, 1⟩
abbrev TACK_TAMPER_SRC_CLOCK : Bits := ⟨Reg.TACK_TAMPER_SRC, 5, 1⟩
abbrev TACK_TAMPER_SRC_TEMP : Bits := ⟨Reg.TACK_TAMPER_SRC, 6, 1⟩
abbrev TACK_TAMPER_SRC_LIGHT : Bits := ⟨Reg.TACK_TAMPER_SRC, 7, 1⟩
abbrev TACK_TAMPER_SRC_SOFTWARE : Bits := ⟨Reg.TACK_TAMPER_SRC, 8, 1⟩
abbrev TACK_TAMPER_SRC_POWER_OFF : Bits := ⟨Reg.TACK_TAMPER_SRC, 9, 1⟩
abbrev TACK_REVOKE_USED_USED : Bits := ⟨Reg.TACK_REVOKE_USED, 0, 11⟩
abbrev TACK_SLOT_STS_STATE (n : Nat) : Bits := ⟨Reg.TACK_SLOT_STS n, 0, 2⟩
abbrev TACK_SLOT_STS_TYPE (n : Nat) : Bits := ⟨Reg.TACK_SLOT_STS n, 8, 8⟩
abbrev TACK_SLOT_STS_BIND (n : Nat) : Bits := ⟨Reg.TACK_SLOT_STS n, 16, 7⟩
abbrev TACK_SLOT_STS_HOLDERS (n : Nat) : Bits := ⟨Reg.TACK_SLOT_STS n, 24, 8⟩
abbrev REC_STS_STATE : Bits := ⟨Reg.REC_STS, 0, 3⟩
abbrev REC_STS_READING : Bits := ⟨Reg.REC_STS, 3, 1⟩
abbrev REC_STS_OVERFLOW : Bits := ⟨Reg.REC_STS, 4, 1⟩
abbrev REC_STS_SYNC_ERR : Bits := ⟨Reg.REC_STS, 5, 1⟩
abbrev REC_STS_CFG_ERR : Bits := ⟨Reg.REC_STS, 6, 1⟩
abbrev REC_STS_TRIG_WORD : Bits := ⟨Reg.REC_STS, 8, 8⟩
abbrev REC_STS_FIRST_SOURCE : Bits := ⟨Reg.REC_STS, 16, 3⟩
abbrev REC_AREA_SIZE_SIZE : Bits := ⟨Reg.REC_AREA_SIZE, 0, 13⟩
abbrev REC_SYNC_CFG_SYNC_EN : Bits := ⟨Reg.REC_SYNC_CFG, 0, 1⟩
abbrev REC_SYNC_CFG_BYL_EN : Bits := ⟨Reg.REC_SYNC_CFG, 1, 1⟩
abbrev REC_SYNC_CFG_DELAY : Bits := ⟨Reg.REC_SYNC_CFG, 2, 10⟩
abbrev REC_SYNC_CFG_DRIVE_EN : Bits := ⟨Reg.REC_SYNC_CFG, 12, 1⟩
abbrev REC_SRC_CFG_EN (n : Nat) : Bits := ⟨Reg.REC_SRC_CFG n, 0, 1⟩
abbrev REC_SRC_CFG_MODE (n : Nat) : Bits := ⟨Reg.REC_SRC_CFG n, 1, 1⟩
abbrev REC_SRC_CFG_AVG_LOG2 (n : Nat) : Bits := ⟨Reg.REC_SRC_CFG n, 2, 4⟩
abbrev REC_SRC_CFG_EXTRA (n : Nat) : Bits := ⟨Reg.REC_SRC_CFG n, 6, 4⟩
abbrev REC_SRC_CFG_SIZE_MIB (n : Nat) : Bits := ⟨Reg.REC_SRC_CFG n, 16, 12⟩
abbrev REC_TRIG_CFG_EN (n : Nat) : Bits := ⟨Reg.REC_TRIG_CFG n, 0, 1⟩
abbrev MQF_DRAM_CFG_RATE : Bits := ⟨Reg.MQF_DRAM_CFG, 0, 2⟩
abbrev MQF_DRAM_STS_TRAINED : Bits := ⟨Reg.MQF_DRAM_STS, 0, 1⟩
abbrev MQF_DRAM_STS_CFG_FAIL : Bits := ⟨Reg.MQF_DRAM_STS, 1, 1⟩
abbrev MQF_DRAM_STS_DENSITY : Bits := ⟨Reg.MQF_DRAM_STS, 2, 2⟩
abbrev MQF_DRAM_STS_UE : Bits := ⟨Reg.MQF_DRAM_STS, 4, 1⟩
abbrev MQF_DRAM_STS_BOUNDS : Bits := ⟨Reg.MQF_DRAM_STS, 5, 1⟩
abbrev MQF_SCRUB_STS_PASSES : Bits := ⟨Reg.MQF_SCRUB_STS + 4, 8, 8⟩
abbrev MQF_AREA_SIZE_MIB (n : Nat) : Bits := ⟨Reg.MQF_AREA_SIZE n, 0, 16⟩
abbrev CHIP_BOOT_STS_PHASE : Bits := ⟨Reg.CHIP_BOOT_STS, 0, 3⟩
abbrev CHIP_BOOT_STS_FW_SLOT : Bits := ⟨Reg.CHIP_BOOT_STS, 3, 1⟩
abbrev CHIP_BOOT_STS_GB_SLOT : Bits := ⟨Reg.CHIP_BOOT_STS, 4, 1⟩
abbrev CHIP_BOOT_STS_FALLBACK : Bits := ⟨Reg.CHIP_BOOT_STS, 5, 1⟩
abbrev CHIP_BOOT_STS_TRIAL : Bits := ⟨Reg.CHIP_BOOT_STS, 6, 2⟩
abbrev CHIP_BOOT_STS_TRIES : Bits := ⟨Reg.CHIP_BOOT_STS, 8, 2⟩
abbrev CHIP_BOOT_STS_SOURCE : Bits := ⟨Reg.CHIP_BOOT_STS, 10, 1⟩
abbrev CHIP_BOOT_STS_HALT_CAUSE : Bits := ⟨Reg.CHIP_BOOT_STS, 16, 8⟩
abbrev CHIP_FW_EPOCH_MINOR : Bits := ⟨Reg.CHIP_FW_EPOCH, 0, 16⟩
abbrev CHIP_FW_EPOCH_MAJOR : Bits := ⟨Reg.CHIP_FW_EPOCH, 16, 16⟩
abbrev CHIP_GB_EPOCH_MINOR : Bits := ⟨Reg.CHIP_GB_EPOCH, 0, 16⟩
abbrev CHIP_GB_EPOCH_MAJOR : Bits := ⟨Reg.CHIP_GB_EPOCH, 16, 16⟩
abbrev CHIP_ROLLBACK_FW : Bits := ⟨Reg.CHIP_ROLLBACK, 0, 7⟩
abbrev CHIP_ROLLBACK_GB : Bits := ⟨Reg.CHIP_ROLLBACK, 8, 7⟩
abbrev CHIP_DEBUG_POLICY : Bits := ⟨Reg.CHIP_DEBUG, 0, 2⟩
abbrev CHIP_DEBUG_SERVICE_OK : Bits := ⟨Reg.CHIP_DEBUG, 2, 1⟩
abbrev CHIP_BOOT_HOST_LEN_FW_KIB : Bits := ⟨Reg.CHIP_BOOT_HOST_LEN, 0, 16⟩
abbrev CHIP_BOOT_HOST_LEN_GB_KIB : Bits := ⟨Reg.CHIP_BOOT_HOST_LEN, 16, 16⟩
abbrev CHIP_BOOT_GO_GO : Bits := ⟨Reg.CHIP_BOOT_GO, 0, 1⟩
abbrev CHIP_PWR_STS_PSTATE : Bits := ⟨Reg.CHIP_PWR_STS, 0, 2⟩
abbrev CHIP_PWR_STS_RAIL_FAIL : Bits := ⟨Reg.CHIP_PWR_STS, 2, 1⟩
abbrev CHIP_PWR_STS_WAKE_SRC : Bits := ⟨Reg.CHIP_PWR_STS, 8, 7⟩
abbrev CHIP_PWR_STS_WOKEN : Bits := ⟨Reg.CHIP_PWR_STS, 16, 1⟩
abbrev CHIP_WAKE_EN_EN : Bits := ⟨Reg.CHIP_WAKE_EN, 0, 6⟩
abbrev CHIP_THERM_STS_HOTTEST : Bits := ⟨Reg.CHIP_THERM_STS, 0, 8⟩
abbrev CHIP_THERM_STS_SENSOR : Bits := ⟨Reg.CHIP_THERM_STS, 8, 4⟩
abbrev CHIP_THERM_STS_LEVEL : Bits := ⟨Reg.CHIP_THERM_STS, 12, 2⟩
abbrev BYL_PAIR_CFG_EN : Bits := ⟨Reg.BYL_PAIR_CFG, 0, 1⟩
abbrev BYL_PAIR_CFG_KEY_SLOT : Bits := ⟨Reg.BYL_PAIR_CFG, 1, 9⟩
abbrev BYL_PAIR_CFG_COLD_TAKEOVER : Bits := ⟨Reg.BYL_PAIR_CFG, 10, 1⟩
abbrev BYL_PAIR_CFG_FORCE_COLD : Bits := ⟨Reg.BYL_PAIR_CFG, 11, 1⟩
abbrev BYL_PAIR_STS_ROLE : Bits := ⟨Reg.BYL_PAIR_STS, 0, 2⟩
abbrev BYL_PAIR_STS_TOKEN : Bits := ⟨Reg.BYL_PAIR_STS, 2, 1⟩
abbrev BYL_PAIR_STS_PARTNER_LINE : Bits := ⟨Reg.BYL_PAIR_STS, 3, 2⟩
abbrev BYL_PAIR_STS_PARTNER_SENIOR : Bits := ⟨Reg.BYL_PAIR_STS, 5, 1⟩
abbrev BYL_PAIR_STS_SENIOR : Bits := ⟨Reg.BYL_PAIR_STS, 6, 1⟩
abbrev BYL_PAIR_STS_PAIR_VERSION_MISMATCH : Bits := ⟨Reg.BYL_PAIR_STS, 7, 1⟩
abbrev BYL_PAIR_STS_STRAP_ERR : Bits := ⟨Reg.BYL_PAIR_STS, 8, 1⟩
abbrev BYL_PAIR_STS_HITCH_FAULT : Bits := ⟨Reg.BYL_PAIR_STS, 9, 1⟩
abbrev BYL_PAIR_STS_DOUBLE_ACTIVE : Bits := ⟨Reg.BYL_PAIR_STS, 10, 1⟩
abbrev BYL_PAIR_STS_TAKEOVER : Bits := ⟨Reg.BYL_PAIR_STS, 11, 1⟩
abbrev BYL_PAIR_STS_AUTH_FAIL : Bits := ⟨Reg.BYL_PAIR_STS, 12, 1⟩
abbrev BYL_PAIR_STS_COLD_REASON : Bits := ⟨Reg.BYL_PAIR_STS, 16, 4⟩
abbrev BYL_LINK_STS_STATE : Bits := ⟨Reg.BYL_LINK_STS, 0, 2⟩
abbrev BYL_LINK_STS_WIDTH : Bits := ⟨Reg.BYL_LINK_STS, 2, 2⟩
abbrev BYL_LINK_STS_LANES_OK : Bits := ⟨Reg.BYL_LINK_STS, 4, 4⟩
abbrev CHIP_ID_ID : Bits := ⟨Reg.CHIP_ID, 0, 32⟩
abbrev CHIP_REV_STEP : Bits := ⟨Reg.CHIP_REV, 0, 8⟩
abbrev CHIP_REV_GRADE : Bits := ⟨Reg.CHIP_REV, 8, 2⟩
abbrev CHIP_ERR_SUM_CHIP : Bits := ⟨Reg.CHIP_ERR_SUM, 0, 1⟩
abbrev CHIP_ERR_SUM_REGIONS : Bits := ⟨Reg.CHIP_ERR_SUM, 1, 15⟩
abbrev CHIP_ERR_STS_ACCESS : Bits := ⟨Reg.CHIP_ERR_STS, 0, 1⟩
abbrev CHIP_ERR_STS_UNMAPPED : Bits := ⟨Reg.CHIP_ERR_STS, 1, 1⟩
abbrev CHIP_ERR_STS_REGION_DOWN : Bits := ⟨Reg.CHIP_ERR_STS, 2, 1⟩
abbrev CHIP_ERR_STS_BAD_KEY : Bits := ⟨Reg.CHIP_ERR_STS, 3, 1⟩
abbrev CHIP_ERR_STS_IC_CORR : Bits := ⟨Reg.CHIP_ERR_STS, 4, 1⟩
abbrev CHIP_ERR_CTL_ACTION : Bits := ⟨Reg.CHIP_ERR_CTL, 0, 1⟩
abbrev CHIP_ERR_CTL_RST_LIMIT : Bits := ⟨Reg.CHIP_ERR_CTL, 1, 3⟩
abbrev CHIP_ERR_INFO_REGION : Bits := ⟨Reg.CHIP_ERR_INFO, 0, 4⟩
abbrev CHIP_ERR_INFO_CAUSE : Bits := ⟨Reg.CHIP_ERR_INFO, 4, 4⟩
abbrev CHIP_ERR_INFO_HALTED_BY_LIMIT : Bits := ⟨Reg.CHIP_ERR_INFO, 8, 1⟩
abbrev CHIP_RST_CMD_KEY : Bits := ⟨Reg.CHIP_RST_CMD, 0, 16⟩
abbrev CHIP_RST_CMD_FULL_RESET : Bits := ⟨Reg.CHIP_RST_CMD, 16, 1⟩
abbrev CHIP_RST_CAUSE_POWER_ON : Bits := ⟨Reg.CHIP_RST_CAUSE, 0, 1⟩
abbrev CHIP_RST_CAUSE_CHIP_ERROR : Bits := ⟨Reg.CHIP_RST_CAUSE, 1, 1⟩
abbrev CHIP_RST_CAUSE_SOFTWARE : Bits := ⟨Reg.CHIP_RST_CAUSE, 2, 1⟩
abbrev CHIP_RST_CAUSE_TRIAL_TIMEOUT : Bits := ⟨Reg.CHIP_RST_CAUSE, 3, 1⟩
abbrev CHIP_RST_CAUSE_ACTIVATE : Bits := ⟨Reg.CHIP_RST_CAUSE, 4, 1⟩
abbrev RGN_ID_CODE (n : Nat) : Bits := ⟨Reg.RGN_ID n, 0, 4⟩
abbrev RGN_ID_BLOCKS (n : Nat) : Bits := ⟨Reg.RGN_ID n, 8, 8⟩
abbrev RGN_ID_CELLS (n : Nat) : Bits := ⟨Reg.RGN_ID n, 16, 16⟩
abbrev RGN_STATE_STATE (n : Nat) : Bits := ⟨Reg.RGN_STATE n, 0, 3⟩
abbrev RGN_STATE_GAIT_SRC (n : Nat) : Bits := ⟨Reg.RGN_STATE n, 4, 1⟩
abbrev RGN_STATE_RETIRED (n : Nat) : Bits := ⟨Reg.RGN_STATE n, 5, 11⟩
abbrev RGN_STATE_HELD (n : Nat) : Bits := ⟨Reg.RGN_STATE n, 16, 16⟩
abbrev RGN_ERR_CELL_ERR (n : Nat) : Bits := ⟨Reg.RGN_ERR n, 0, 1⟩
abbrev RGN_ERR_BLOCK_ERR (n : Nat) : Bits := ⟨Reg.RGN_ERR n, 1, 1⟩
abbrev RGN_ERR_REGION_ERR (n : Nat) : Bits := ⟨Reg.RGN_ERR n, 2, 1⟩
abbrev RGN_ERR_CELL_RETIRED (n : Nat) : Bits := ⟨Reg.RGN_ERR n, 3, 1⟩
abbrev RGN_ERR_HS_TIMEOUT (n : Nat) : Bits := ⟨Reg.RGN_ERR n, 4, 1⟩
abbrev RGN_ERR_PARAM_REJ (n : Nat) : Bits := ⟨Reg.RGN_ERR n, 5, 1⟩
abbrev RGN_ERR_INFO_BLOCK (n : Nat) : Bits := ⟨Reg.RGN_ERR_INFO n, 0, 8⟩
abbrev RGN_ERR_INFO_CELL (n : Nat) : Bits := ⟨Reg.RGN_ERR_INFO n, 8, 16⟩
abbrev RGN_ERR_INFO_CAUSE (n : Nat) : Bits := ⟨Reg.RGN_ERR_INFO n, 24, 4⟩
abbrev RGN_ERR_INFO_LEVEL (n : Nat) : Bits := ⟨Reg.RGN_ERR_INFO n, 28, 2⟩
abbrev RGN_CTL_BLK_LIMIT (n : Nat) : Bits := ⟨Reg.RGN_CTL n, 0, 4⟩
abbrev RGN_CTL_ERR_IRQ (n : Nat) : Bits := ⟨Reg.RGN_CTL n, 4, 1⟩
abbrev RGN_CMD_RESET (n : Nat) : Bits := ⟨Reg.RGN_CMD n, 0, 1⟩
abbrev RGN_PARAM_APPLY_PARAM_ID (n : Nat) : Bits := ⟨Reg.RGN_PARAM_APPLY n, 0, 16⟩
abbrev RGN_PARAM_LIVE_PARAM_ID (n : Nat) : Bits := ⟨Reg.RGN_PARAM_LIVE n, 0, 16⟩
abbrev GAIT_VER_IF_MINOR (n : Nat) : Bits := ⟨Reg.GAIT_VER n, 0, 16⟩
abbrev GAIT_VER_IF_MAJOR (n : Nat) : Bits := ⟨Reg.GAIT_VER n, 16, 16⟩
abbrev GAIT_TSET_TABLE_SET (n : Nat) : Bits := ⟨Reg.GAIT_TSET n, 0, 16⟩
abbrev SVC_POLICY_OWN_SESSION : Bits := ⟨Reg.SVC_POLICY_OWN, 0, 1⟩
abbrev SVC_POLICY_OWN_RTCM : Bits := ⟨Reg.SVC_POLICY_OWN, 1, 1⟩
abbrev SVC_POLICY_OWN_PTP : Bits := ⟨Reg.SVC_POLICY_OWN, 2, 1⟩
abbrev SVC_POLICY_OWN_ALLOT : Bits := ⟨Reg.SVC_POLICY_OWN, 3, 1⟩
abbrev SVC_POLICY_OWN_MAPIMP : Bits := ⟨Reg.SVC_POLICY_OWN, 4, 1⟩
abbrev SVC_POLICY_OWN_EVT_RING : Bits := ⟨Reg.SVC_POLICY_OWN, 8, 6⟩
abbrev SVC_POLICY_OWN_REVERTED : Bits := ⟨Reg.SVC_POLICY_OWN, 16, 1⟩

end B

/-- The common control block of windows HIF to BYL (R39). -/
def regsCommon : List RegDef := [
  ⟨0x100000, 0x100000, 15, .single, [⟨0, 4, .ro, 0⟩, ⟨8, 8, .ro, 0⟩, ⟨16, 16, .ro, 0⟩]⟩,
  ⟨0x100004, 0x100000, 15, .single, [⟨0, 3, .ro, 0⟩, ⟨4, 1, .ro, 0⟩, ⟨5, 11, .ro, 0⟩, ⟨16, 16, .ro, 0⟩]⟩,
  ⟨0x100008, 0x100000, 15, .single, [⟨0, 1, .w1c, 0⟩, ⟨1, 1, .w1c, 0⟩, ⟨2, 1, .w1c, 0⟩, ⟨3, 1, .w1c, 0⟩, ⟨4, 1, .w1c, 0⟩, ⟨5, 1, .w1c, 0⟩]⟩,
  ⟨0x10000C, 0x100000, 15, .single, [⟨0, 8, .ro, 0⟩, ⟨8, 16, .ro, 0⟩, ⟨24, 4, .ro, 0⟩, ⟨28, 2, .ro, 0⟩]⟩,
  ⟨0x100010, 0x100000, 15, .single, [⟨0, 32, .rws, 0⟩]⟩,
  ⟨0x100014, 0x100000, 15, .single, [⟨0, 32, .rws, 0⟩]⟩,
  ⟨0x100018, 0x100000, 15, .single, [⟨0, 32, .rws, 0⟩]⟩,
  ⟨0x10001C, 0x100000, 15, .single, [⟨0, 4, .rws, 3⟩, ⟨4, 1, .rws, 1⟩]⟩,
  ⟨0x100020, 0x100000, 15, .single, [⟨0, 1, .wo, 0⟩]⟩,
  ⟨0x100024, 0x100000, 15, .single, [⟨0, 16, .wo, 0⟩]⟩,
  ⟨0x100028, 0x100000, 15, .single, [⟨0, 16, .ro, 0⟩]⟩,
  ⟨0x10002C, 0x100000, 15, .single, [⟨0, 16, .ro, 0⟩, ⟨16, 16, .ro, 0⟩]⟩,
  ⟨0x100030, 0x100000, 15, .single, [⟨0, 16, .ro, 0⟩]⟩]

/-- The registers of the CHIP window, part 0. -/
def regsChip0 : List RegDef := [
  ⟨0x200, 0, 1, .single, [⟨0, 3, .ro, 0⟩, ⟨3, 1, .ro, 0⟩, ⟨4, 1, .ro, 0⟩, ⟨5, 1, .ro, 0⟩, ⟨6, 2, .ro, 0⟩, ⟨8, 2, .ro, 0⟩, ⟨10, 1, .ro, 0⟩, ⟨16, 8, .ro, 0⟩]⟩,
  ⟨0x204, 0, 1, .single, [⟨0, 16, .ro, 0⟩, ⟨16, 16, .ro, 0⟩]⟩,
  ⟨0x208, 0, 1, .single, [⟨0, 32, .ro, 0⟩]⟩,
  ⟨0x20C, 0, 1, .single, [⟨0, 16, .ro, 0⟩, ⟨16, 16, .ro, 0⟩]⟩,
  ⟨0x210, 0, 1, .single, [⟨0, 32, .ro, 0⟩]⟩,
  ⟨0x214, 0, 1, .single, [⟨0, 7, .ro, 0⟩, ⟨8, 7, .ro, 0⟩]⟩,
  ⟨0x218, 0, 1, .single, [⟨0, 2, .ro, 0⟩, ⟨2, 1, .ro, 0⟩]⟩,
  ⟨0x220, 0, 1, .single, [⟨0, 32, .ro, 0⟩]⟩,
  ⟨0x224, 0, 1, .single, [⟨0, 32, .ro, 0⟩]⟩,
  ⟨0x228, 0, 1, .single, [⟨0, 32, .ro, 0⟩]⟩,
  ⟨0x22C, 0, 1, .single, [⟨0, 32, .ro, 0⟩]⟩,
  ⟨0x230, 0, 1, .low, [⟨0, 32, .rw, 0⟩]⟩,
  ⟨0x234, 0, 1, .high, [⟨0, 32, .rw, 0⟩]⟩,
  ⟨0x238, 0, 1, .low, [⟨0, 32, .rw, 0⟩]⟩,
  ⟨0x23C, 0, 1, .high, [⟨0, 32, .rw, 0⟩]⟩,
  ⟨0x240, 0, 1, .single, [⟨0, 16, .rw, 0⟩, ⟨16, 16, .rw, 0⟩]⟩,
  ⟨0x244, 0, 1, .single, [⟨0, 1, .wo, 0⟩]⟩,
  ⟨0x300, 0, 1, .single, [⟨0, 2, .ro, 0⟩, ⟨2, 1, .ro, 0⟩, ⟨8, 7, .ro, 0⟩, ⟨16, 1, .w1c, 0⟩]⟩,
  ⟨0x304, 0, 1, .single, [⟨0, 6, .rws, 0x3F⟩]⟩,
  ⟨0x308, 0, 1, .low, [⟨0, 32, .rws, 0⟩]⟩,
  ⟨0x30C, 0, 1, .high, [⟨0, 32, .rws, 0⟩]⟩,
  ⟨0x310, 0, 1, .single, [⟨0, 8, .ro, 0⟩, ⟨8, 4, .ro, 0⟩, ⟨12, 2, .ro, 0⟩]⟩,
  ⟨0x314, 0, 1, .single, [⟨0, 32, .rws, 0⟩]⟩,
  ⟨0x0, 0, 1, .single, [⟨0, 32, .ro, 0xD284000⟩]⟩,
  ⟨0x4, 0, 1, .single, [⟨0, 8, .ro, 0x10⟩, ⟨8, 2, .ro, 0⟩]⟩,
  ⟨0x10, 0, 1, .single, [⟨0, 1, .ro, 0⟩, ⟨1, 15, .ro, 0⟩]⟩,
  ⟨0x14, 0, 1, .single, [⟨0, 1, .w1c, 0⟩, ⟨1, 1, .w1c, 0⟩, ⟨2, 1, .w1c, 0⟩, ⟨3, 1, .w1c, 0⟩, ⟨4, 1, .w1c, 0⟩]⟩,
  ⟨0x18, 0, 1, .single, [⟨0, 1, .rws, 0⟩, ⟨1, 3, .rws, 3⟩]⟩,
  ⟨0x1C, 0, 1, .single, [⟨0, 4, .ro, 0⟩, ⟨4, 4, .ro, 0⟩, ⟨8, 1, .ro, 0⟩]⟩,
  ⟨0x20, 0, 1, .single, [⟨0, 16, .wo, 0⟩, ⟨16, 1, .wo, 0⟩]⟩]

/-- The registers of the CHIP window, part 1. -/
def regsChip1 : List RegDef := [
  ⟨0x24, 0, 1, .single, [⟨0, 1, .ro, 1⟩, ⟨1, 1, .ro, 0⟩, ⟨2, 1, .ro, 0⟩, ⟨3, 1, .ro, 0⟩, ⟨4, 1, .ro, 0⟩]⟩,
  ⟨0x28, 0, 1, .single, [⟨0, 32, .ro, 0⟩]⟩]

/-- The registers of the CHIP window. -/
def regsChip : List RegDef := regsChip0 ++ regsChip1

/-- The registers of the HIF window. -/
def regsHif : List RegDef := [
  ⟨0x101000, 0x40, 64, .low, [⟨12, 20, .rws, 0⟩]⟩,
  ⟨0x101004, 0x40, 64, .high, [⟨0, 32, .rws, 0⟩]⟩,
  ⟨0x101008, 0x40, 64, .low, [⟨12, 20, .rws, 0⟩]⟩,
  ⟨0x10100C, 0x40, 64, .high, [⟨0, 32, .rws, 0⟩]⟩,
  ⟨0x101010, 0x40, 64, .low, [⟨12, 20, .rws, 0⟩]⟩,
  ⟨0x101014, 0x40, 64, .high, [⟨0, 32, .rws, 0⟩]⟩,
  ⟨0x101018, 0x40, 64, .single, [⟨0, 5, .rws, 0⟩, ⟨8, 5, .rws, 0⟩, ⟨16, 1, .rws, 0⟩]⟩,
  ⟨0x10101C, 0x40, 64, .single, [⟨0, 1, .rws, 0⟩, ⟨1, 1, .rws, 0⟩]⟩,
  ⟨0x101020, 0x40, 64, .single, [⟨0, 32, .ro, 0⟩]⟩,
  ⟨0x101024, 0x40, 64, .single, [⟨0, 32, .rws, 0⟩]⟩,
  ⟨0x101028, 0x40, 64, .single, [⟨0, 8, .rws, 0⟩, ⟨8, 10, .rws, 0⟩]⟩,
  ⟨0x10102C, 0x40, 64, .single, [⟨0, 1, .ro, 0⟩, ⟨1, 1, .ro, 0⟩, ⟨2, 1, .w1c, 0⟩, ⟨3, 1, .w1c, 0⟩, ⟨4, 1, .w1c, 0⟩, ⟨5, 1, .ro, 0⟩, ⟨15, 17, .ro, 0⟩]⟩,
  ⟨0x101030, 0x40, 64, .single, [⟨0, 16, .ro, 0⟩, ⟨16, 16, .ro, 0⟩]⟩]

/-- The registers of the DSP window. -/
def regsDsp : List RegDef := [
  ⟨0x200100, 0, 1, .single, [⟨0, 15, .rws, 0x1000⟩, ⟨16, 15, .rws, 0x1800⟩]⟩,
  ⟨0x200104, 0, 1, .single, [⟨0, 15, .ro, 0x3808⟩, ⟨15, 1, .ro, 0⟩, ⟨16, 12, .ro, 0⟩]⟩,
  ⟨0x200108, 0, 1, .low, [⟨0, 32, .ro, 0⟩]⟩,
  ⟨0x20010C, 0, 1, .high, [⟨0, 32, .ro, 0⟩]⟩,
  ⟨0x200110, 0, 1, .single, [⟨0, 8, .ro, 0⟩, ⟨8, 1, .ro, 0⟩, ⟨9, 1, .ro, 0⟩, ⟨10, 1, .ro, 0⟩, ⟨11, 1, .ro, 0⟩, ⟨12, 1, .ro, 0⟩]⟩,
  ⟨0x200200, 0, 1, .single, [⟨0, 10, .wo, 0⟩, ⟨16, 1, .wo, 0⟩]⟩,
  ⟨0x200204, 0, 1, .single, [⟨0, 32, .ro, 0xFFFFFFFF⟩]⟩,
  ⟨0x200208, 0, 1, .single, [⟨0, 32, .ro, 0⟩]⟩,
  ⟨0x20020C, 0, 1, .single, [⟨0, 32, .ro, 0⟩]⟩,
  ⟨0x200210, 0, 1, .low, [⟨0, 32, .ro, 0⟩]⟩,
  ⟨0x200214, 0, 1, .high, [⟨0, 32, .ro, 0⟩]⟩,
  ⟨0x200220, 0x4, 16, .single, [⟨0, 32, .ro, 0⟩]⟩,
  ⟨0x200280, 0, 1, .single, [⟨0, 4, .wo, 0⟩, ⟨4, 16, .wo, 0⟩]⟩,
  ⟨0x200284, 0, 1, .single, [⟨0, 32, .ro, 0⟩]⟩,
  ⟨0x200288, 0, 1, .single, [⟨0, 32, .ro, 0⟩]⟩,
  ⟨0x201000, 0x4, 1024, .single, [⟨0, 3, .rws, 0⟩, ⟨4, 7, .rws, 0⟩]⟩,
  ⟨0x202000, 0x4, 1024, .single, [⟨0, 16, .ro, 0⟩, ⟨16, 1, .ro, 0⟩, ⟨17, 1, .ro, 0⟩]⟩]

/-- The registers of the MQF window. -/
def regsMqf : List RegDef := [
  ⟨0x301000, 0x20, 128, .single, [⟨0, 4, .rws, 0⟩, ⟨4, 1, .rws, 0⟩, ⟨8, 13, .rws, 0⟩, ⟨31, 1, .rws, 0⟩]⟩,
  ⟨0x301004, 0x20, 128, .single, [⟨0, 16, .rws, 0⟩, ⟨16, 13, .rws, 0⟩]⟩,
  ⟨0x301008, 0x20, 128, .single, [⟨0, 13, .ro, 0⟩, ⟨16, 13, .ro, 0⟩, ⟨29, 1, .ro, 0⟩]⟩,
  ⟨0x30100C, 0x20, 128, .single, [⟨0, 1, .ro, 0⟩, ⟨1, 1, .w1c, 0⟩, ⟨2, 1, .w1c, 0⟩, ⟨3, 1, .w1c, 0⟩, ⟨4, 1, .w1c, 0⟩]⟩,
  ⟨0x301010, 0x20, 128, .single, [⟨0, 14, .rc, 0⟩]⟩,
  ⟨0x301014, 0x20, 128, .single, [⟨0, 32, .rws, 0⟩]⟩,
  ⟨0x301018, 0x20, 128, .single, [⟨0, 32, .rws, 0⟩]⟩,
  ⟨0x300100, 0, 1, .single, [⟨0, 2, .rws, 0⟩]⟩,
  ⟨0x300104, 0, 1, .single, [⟨0, 1, .ro, 0⟩, ⟨1, 1, .ro, 0⟩, ⟨2, 2, .ro, 0⟩, ⟨4, 1, .w1c, 0⟩, ⟨5, 1, .w1c, 0⟩]⟩,
  ⟨0x300108, 0, 1, .single, [⟨0, 32, .rws, 0⟩]⟩,
  ⟨0x30010C, 0, 1, .single, [⟨0, 32, .rws, 0⟩]⟩,
  ⟨0x300110, 0, 1, .low, [⟨0, 32, .ro, 0⟩]⟩,
  ⟨0x300114, 0, 1, .high, [⟨0, 32, .ro, 0⟩]⟩,
  ⟨0x300118, 0, 1, .low, [⟨0, 32, .ro, 0⟩]⟩,
  ⟨0x30011C, 0, 1, .high, [⟨0, 8, .ro, 0⟩, ⟨8, 8, .ro, 0⟩]⟩,
  ⟨0x300210, 0x10, 10, .low, [⟨0, 32, .ro, 0⟩]⟩,
  ⟨0x300214, 0x10, 10, .high, [⟨0, 32, .ro, 0⟩]⟩,
  ⟨0x300218, 0x10, 10, .single, [⟨0, 16, .ro, 0⟩]⟩]

/-- The registers of the SVC window. -/
def regsSvc : List RegDef := [
  ⟨0x400100, 0, 1, .single, [⟨0, 1, .rw, 0⟩, ⟨1, 1, .rw, 0⟩, ⟨2, 1, .rw, 0⟩, ⟨3, 1, .rw, 0⟩, ⟨4, 1, .rw, 0⟩, ⟨8, 6, .rw, 0x3F⟩, ⟨16, 1, .w1c, 0⟩]⟩]

/-- The registers of the GNB window. -/
def regsGnb : List RegDef := [
  ⟨0x500100, 0x20, 2, .single, [⟨0, 1, .rw, 0⟩, ⟨1, 1, .rw, 0⟩]⟩,
  ⟨0x500104, 0x20, 2, .single, [⟨0, 1, .ro, 0⟩, ⟨1, 1, .w1c, 0⟩, ⟨2, 1, .w1c, 0⟩, ⟨3, 1, .w1c, 0⟩, ⟨4, 4, .ro, 0⟩, ⟨8, 10, .ro, 0x200⟩]⟩,
  ⟨0x500108, 0x20, 2, .single, [⟨0, 32, .rws, 0⟩]⟩,
  ⟨0x500200, 0, 1, .single, [⟨0, 1, .rw, 0⟩, ⟨1, 1, .wo, 0⟩]⟩,
  ⟨0x500204, 0, 1, .single, [⟨0, 2, .ro, 0⟩, ⟨2, 1, .ro, 0⟩, ⟨3, 1, .w1c, 0⟩]⟩,
  ⟨0x500208, 0, 1, .single, [⟨0, 16, .ro, 0⟩]⟩,
  ⟨0x500300, 0, 1, .single, [⟨0, 8, .ro, 0⟩, ⟨8, 8, .ro, 0⟩, ⟨16, 8, .ro, 0⟩]⟩,
  ⟨0x500308, 0, 1, .single, [⟨0, 8, .ro, 0⟩]⟩,
  ⟨0x500310, 0, 1, .single, [⟨0, 6, .rw, 0⟩, ⟨6, 2, .rw, 0⟩, ⟨8, 1, .rw, 0⟩]⟩,
  ⟨0x500400, 0, 1, .low, [⟨0, 32, .ro, 0⟩]⟩,
  ⟨0x500404, 0, 1, .high, [⟨0, 32, .ro, 0⟩]⟩,
  ⟨0x500408, 0, 1, .low, [⟨0, 32, .ro, 0⟩]⟩,
  ⟨0x50040C, 0, 1, .high, [⟨0, 32, .ro, 0⟩]⟩,
  ⟨0x500410, 0, 1, .low, [⟨0, 32, .ro, 0⟩]⟩,
  ⟨0x500414, 0, 1, .high, [⟨0, 32, .ro, 0⟩]⟩]

/-- The registers of the FIX window. -/
def regsFix : List RegDef := [
  ⟨0x600100, 0, 1, .single, [⟨0, 12, .ro, 0x9F6⟩, ⟨12, 4, .ro, 8⟩, ⟨16, 2, .ro, 2⟩]⟩,
  ⟨0x600104, 0, 1, .single, [⟨0, 1, .ro, 0⟩, ⟨1, 1, .w1c, 0⟩, ⟨2, 1, .w1c, 0⟩, ⟨3, 1, .ro, 0⟩, ⟨4, 1, .ro, 0⟩]⟩,
  ⟨0x600108, 0, 1, .low, [⟨0, 32, .ro, 0⟩]⟩,
  ⟨0x60010C, 0, 1, .high, [⟨0, 32, .ro, 0⟩]⟩,
  ⟨0x600110, 0, 1, .low, [⟨0, 1, .rws, 0⟩, ⟨12, 20, .rws, 0⟩]⟩,
  ⟨0x600114, 0, 1, .high, [⟨0, 32, .rws, 0⟩]⟩,
  ⟨0x600118, 0, 1, .single, [⟨0, 32, .rws, 0⟩]⟩,
  ⟨0x60011C, 0, 1, .single, [⟨0, 32, .rws, 0⟩]⟩,
  ⟨0x600120, 0, 1, .single, [⟨0, 32, .rws, 0⟩]⟩,
  ⟨0x600124, 0, 1, .single, [⟨0, 32, .rws, 0⟩]⟩,
  ⟨0x600128, 0, 1, .single, [⟨0, 32, .rws, 0⟩]⟩,
  ⟨0x600200, 0, 1, .single, [⟨0, 1, .ro, 0⟩, ⟨1, 1, .ro, 0⟩, ⟨2, 1, .ro, 0⟩, ⟨3, 1, .w1c, 0⟩, ⟨4, 1, .w1c, 0⟩, ⟨8, 8, .ro, 0⟩, ⟨16, 2, .ro, 0⟩]⟩,
  ⟨0x600204, 0, 1, .single, [⟨0, 1, .wo, 0⟩, ⟨1, 1, .wo, 0⟩]⟩,
  ⟨0x600208, 0, 1, .single, [⟨0, 32, .ro, 0⟩]⟩,
  ⟨0x60020C, 0, 1, .single, [⟨0, 32, .ro, 0⟩]⟩,
  ⟨0x600210, 0, 1, .low, [⟨0, 32, .ro, 0⟩]⟩,
  ⟨0x600214, 0, 1, .high, [⟨0, 32, .ro, 0⟩]⟩,
  ⟨0x600218, 0, 1, .low, [⟨0, 32, .ro, 0⟩]⟩,
  ⟨0x60021C, 0, 1, .high, [⟨0, 32, .ro, 0⟩]⟩,
  ⟨0x600220, 0, 1, .low, [⟨0, 32, .ro, 0⟩]⟩,
  ⟨0x600224, 0, 1, .high, [⟨0, 32, .ro, 0⟩]⟩,
  ⟨0x600228, 0, 1, .single, [⟨0, 32, .rws, 0⟩]⟩,
  ⟨0x60022C, 0, 1, .single, [⟨0, 32, .rws, 0⟩]⟩,
  ⟨0x600230, 0, 1, .single, [⟨0, 32, .rws, 0⟩]⟩]

/-- The registers of the PAD window. -/
def regsPad : List RegDef := [
  ⟨0x700100, 0, 1, .single, [⟨0, 16, .ro, 0⟩, ⟨16, 16, .ro, 0⟩]⟩,
  ⟨0x700104, 0, 1, .single, [⟨0, 8, .ro, 0⟩]⟩,
  ⟨0x700108, 0, 1, .single, [⟨0, 32, .ro, 0⟩]⟩,
  ⟨0x70010C, 0, 1, .single, [⟨0, 32, .ro, 0⟩]⟩,
  ⟨0x700110, 0, 1, .low, [⟨0, 32, .ro, 0⟩]⟩,
  ⟨0x700114, 0, 1, .high, [⟨0, 32, .ro, 0⟩]⟩,
  ⟨0x700118, 0, 1, .single, [⟨0, 26, .ro, 0⟩]⟩,
  ⟨0x70011C, 0, 1, .single, [⟨0, 1, .ro, 0⟩, ⟨1, 1, .ro, 0⟩, ⟨2, 1, .w1c, 0⟩, ⟨3, 1, .w1c, 0⟩]⟩,
  ⟨0x700120, 0, 1, .single, [⟨0, 32, .ro, 0⟩]⟩,
  ⟨0x700128, 0, 1, .low, [⟨0, 32, .ro, 0⟩]⟩,
  ⟨0x70012C, 0, 1, .high, [⟨0, 32, .ro, 0⟩]⟩,
  ⟨0x700130, 0, 1, .single, [⟨0, 32, .ro, 0⟩]⟩,
  ⟨0x700134, 0, 1, .single, [⟨0, 13, .ro, 0⟩, ⟨16, 16, .ro, 0⟩]⟩,
  ⟨0x700138, 0, 1, .single, [⟨0, 32, .rws, 0⟩]⟩,
  ⟨0x70013C, 0, 1, .single, [⟨0, 32, .rws, 0⟩]⟩,
  ⟨0x700200, 0, 1, .single, [⟨0, 3, .ro, 0⟩, ⟨8, 8, .ro, 0⟩, ⟨16, 8, .ro, 0⟩, ⟨24, 1, .ro, 0⟩]⟩,
  ⟨0x700204, 0, 1, .single, [⟨0, 32, .rws, 0⟩]⟩,
  ⟨0x700208, 0, 1, .single, [⟨0, 32, .rws, 0⟩]⟩,
  ⟨0x70020C, 0, 1, .single, [⟨0, 32, .rws, 0⟩]⟩,
  ⟨0x700210, 0, 1, .single, [⟨0, 32, .rws, 0⟩]⟩,
  ⟨0x700214, 0, 1, .single, [⟨0, 32, .rws, 0⟩]⟩,
  ⟨0x700218, 0, 1, .single, [⟨0, 32, .rws, 0⟩]⟩,
  ⟨0x701004, 0x4, 255, .single, [⟨0, 1, .ro, 0⟩, ⟨1, 1, .ro, 0⟩, ⟨2, 1, .ro, 0⟩, ⟨8, 8, .ro, 0⟩, ⟨16, 14, .ro, 0⟩]⟩]

/-- The registers of the GAIT window. -/
def regsGait : List RegDef := [
  ⟨0x800100, 0, 1, .single, [⟨0, 3, .ro, 4⟩, ⟨8, 8, .ro, 0⟩]⟩,
  ⟨0x800104, 0, 1, .single, [⟨0, 32, .rws, 0⟩]⟩,
  ⟨0x800108, 0, 1, .single, [⟨0, 32, .rws, 0⟩]⟩,
  ⟨0x80010C, 0, 1, .single, [⟨0, 32, .rws, 0⟩]⟩,
  ⟨0x800110, 0, 1, .single, [⟨0, 32, .rws, 0⟩]⟩,
  ⟨0x800114, 0, 1, .single, [⟨0, 32, .rws, 0⟩]⟩,
  ⟨0x801004, 0x4, 255, .single, [⟨0, 1, .ro, 0⟩, ⟨1, 1, .ro, 0⟩, ⟨2, 1, .ro, 0⟩, ⟨3, 1, .ro, 0⟩, ⟨4, 1, .ro, 0⟩, ⟨5, 1, .ro, 0⟩, ⟨8, 8, .ro, 0⟩, ⟨16, 16, .ro, 0⟩]⟩,
  ⟨0x802004, 0x4, 255, .single, [⟨0, 16, .ro, 0⟩, ⟨16, 8, .ro, 0⟩]⟩]

/-- The registers of the AIR window. -/
def regsAir : List RegDef := [
  ⟨0x900100, 0, 1, .low, [⟨0, 32, .ro, 0⟩]⟩,
  ⟨0x900104, 0, 1, .high, [⟨0, 16, .ro, 0⟩]⟩,
  ⟨0x900108, 0, 1, .low, [⟨0, 32, .rws, 0⟩]⟩,
  ⟨0x90010C, 0, 1, .high, [⟨0, 16, .rws, 0⟩]⟩,
  ⟨0x900110, 0, 1, .single, [⟨0, 1, .ro, 0⟩, ⟨1, 1, .ro, 0⟩, ⟨2, 1, .ro, 0⟩, ⟨3, 1, .ro, 0⟩, ⟨4, 1, .w1c, 0⟩, ⟨5, 1, .w1c, 0⟩]⟩,
  ⟨0x900114, 0, 1, .single, [⟨0, 16, .ro, 0⟩, ⟨16, 16, .ro, 0⟩]⟩,
  ⟨0x900118, 0, 1, .single, [⟨0, 32, .ro, 0⟩]⟩,
  ⟨0x90011C, 0, 1, .single, [⟨0, 32, .rws, 0⟩]⟩,
  ⟨0x900120, 0, 1, .single, [⟨0, 32, .rws, 0⟩]⟩,
  ⟨0x901000, 0x40, 8, .single, [⟨0, 1, .rws, 0⟩, ⟨2, 10, .rws, 0⟩]⟩,
  ⟨0x901004, 0x40, 8, .single, [⟨0, 2, .ro, 0⟩, ⟨2, 1, .ro, 0⟩, ⟨3, 1, .ro, 0⟩, ⟨4, 1, .ro, 0⟩, ⟨5, 1, .w1c, 0⟩, ⟨8, 8, .ro, 0⟩]⟩,
  ⟨0x901008, 0x40, 8, .single, [⟨0, 32, .rws, 0⟩]⟩,
  ⟨0x90100C, 0x40, 8, .single, [⟨0, 32, .rws, 0⟩]⟩,
  ⟨0x901010, 0x40, 8, .single, [⟨0, 32, .rws, 0⟩]⟩,
  ⟨0x901014, 0x40, 8, .single, [⟨0, 32, .rws, 0⟩]⟩,
  ⟨0x901018, 0x40, 8, .single, [⟨0, 32, .rws, 0⟩]⟩,
  ⟨0x902004, 0x4, 255, .single, [⟨0, 3, .ro, 0⟩, ⟨3, 3, .ro, 0⟩, ⟨6, 2, .ro, 0⟩, ⟨8, 16, .ro, 0⟩]⟩,
  ⟨0x900124, 0, 1, .single, [⟨0, 9, .ro, 0⟩, ⟨9, 1, .ro, 0⟩]⟩,
  ⟨0x900128, 0, 1, .single, [⟨0, 32, .rws, 0⟩]⟩,
  ⟨0x90012C, 0, 1, .single, [⟨0, 32, .rws, 0⟩]⟩,
  ⟨0x903004, 0x4, 255, .single, [⟨0, 1, .ro, 0⟩, ⟨1, 1, .ro, 0⟩, ⟨2, 1, .ro, 0⟩, ⟨3, 1, .ro, 0⟩, ⟨4, 1, .ro, 0⟩, ⟨8, 8, .ro, 0⟩, ⟨16, 2, .ro, 0⟩]⟩,
  ⟨0x903404, 0x4, 255, .single, [⟨0, 9, .ro, 0⟩, ⟨9, 1, .ro, 0⟩]⟩,
  ⟨0x903808, 0x8, 255, .single, [⟨0, 32, .rws, 0⟩]⟩,
  ⟨0x90380C, 0x8, 255, .single, [⟨0, 32, .rws, 0⟩]⟩]

/-- The registers of the NET window, part 0. -/
def regsNet0 : List RegDef := [
  ⟨0xA00100, 0, 1, .single, [⟨0, 1, .rws, 0⟩, ⟨1, 1, .rws, 0⟩, ⟨2, 1, .rws, 1⟩, ⟨3, 1, .rws, 0⟩, ⟨4, 2, .rws, 0⟩, ⟨6, 1, .rws, 0⟩, ⟨7, 1, .rws, 1⟩, ⟨8, 1, .rws, 0⟩, ⟨9, 1, .rws, 1⟩, ⟨10, 1, .rws, 0⟩, ⟨11, 1, .rws, 0⟩, ⟨12, 4, .rws, 8⟩, ⟨16, 10, .rws, 0x64⟩]⟩,
  ⟨0xA00104, 0, 1, .single, [⟨0, 1, .ro, 0⟩, ⟨1, 1, .ro, 0⟩, ⟨2, 1, .ro, 0⟩, ⟨3, 1, .ro, 0⟩, ⟨4, 1, .ro, 0⟩, ⟨5, 1, .w1c, 0⟩, ⟨6, 1, .w1c, 0⟩]⟩,
  ⟨0xA00108, 0, 1, .single, [⟨0, 14, .rws, 0x5F2⟩]⟩,
  ⟨0xA0010C, 0, 1, .single, [⟨0, 16, .rws, 0xFFFF⟩, ⟨16, 1, .rws, 0⟩]⟩,
  ⟨0xA00110, 0, 1, .low, [⟨0, 32, .rws, 0⟩]⟩,
  ⟨0xA00114, 0, 1, .high, [⟨0, 16, .rws, 0⟩]⟩,
  ⟨0xA00118, 0, 1, .single, [⟨0, 16, .rws, 0⟩, ⟨16, 16, .rws, 0⟩]⟩,
  ⟨0xA00200, 0, 1, .single, [⟨0, 1, .rws, 0⟩, ⟨1, 1, .rws, 0⟩, ⟨2, 1, .rws, 0⟩, ⟨3, 1, .rws, 1⟩, ⟨4, 1, .rws, 0⟩, ⟨5, 1, .rws, 1⟩, ⟨6, 1, .rws, 0⟩, ⟨7, 1, .rws, 0⟩, ⟨8, 8, .rws, 1⟩, ⟨16, 8, .rws, 0x20⟩, ⟨24, 8, .rws, 0⟩]⟩,
  ⟨0xA00204, 0, 1, .single, [⟨0, 1, .ro, 0⟩, ⟨1, 1, .ro, 0⟩, ⟨2, 1, .ro, 0⟩, ⟨3, 1, .ro, 0⟩, ⟨4, 1, .ro, 0⟩, ⟨5, 1, .w1c, 0⟩, ⟨6, 1, .w1c, 0⟩]⟩,
  ⟨0xA00210, 0, 1, .low, [⟨0, 32, .rws, 0⟩]⟩,
  ⟨0xA00214, 0, 1, .high, [⟨0, 16, .rws, 0⟩]⟩,
  ⟨0xA00300, 0, 1, .single, [⟨0, 1, .rws, 0⟩]⟩,
  ⟨0xA00308, 0, 1, .low, [⟨0, 32, .rws, 0xFFFFFFFF⟩]⟩,
  ⟨0xA0030C, 0, 1, .high, [⟨0, 16, .rws, 0xFFFF⟩]⟩,
  ⟨0xA00310, 0, 1, .single, [⟨0, 12, .rws, 0⟩, ⟨12, 3, .rws, 0⟩, ⟨15, 1, .rws, 0⟩, ⟨16, 1, .rws, 0⟩]⟩,
  ⟨0xA01000, 0x8, 8, .low, [⟨0, 32, .rws, 0⟩]⟩,
  ⟨0xA01004, 0x8, 8, .high, [⟨0, 16, .rws, 0⟩, ⟨16, 1, .rws, 0⟩, ⟨17, 1, .rws, 0⟩]⟩,
  ⟨0xA01040, 0x8, 8, .low, [⟨0, 32, .rws, 0⟩]⟩,
  ⟨0xA01044, 0x8, 8, .high, [⟨0, 16, .rws, 0⟩, ⟨16, 1, .rws, 0⟩, ⟨17, 1, .rws, 0⟩]⟩,
  ⟨0xA01100, 0, 1, .single, [⟨0, 32, .rws, 0⟩]⟩,
  ⟨0xA01104, 0, 1, .single, [⟨0, 32, .rws, 0⟩]⟩,
  ⟨0xA01108, 0, 1, .single, [⟨0, 32, .rws, 0⟩]⟩,
  ⟨0xA0110C, 0, 1, .single, [⟨0, 32, .rws, 0⟩]⟩,
  ⟨0xA01110, 0, 1, .single, [⟨0, 32, .rws, 0⟩]⟩,
  ⟨0xA01114, 0, 1, .single, [⟨0, 32, .rws, 0⟩]⟩,
  ⟨0xA01118, 0, 1, .single, [⟨0, 32, .rws, 0⟩]⟩,
  ⟨0xA0111C, 0, 1, .single, [⟨0, 32, .rws, 0⟩]⟩,
  ⟨0xA01120, 0, 1, .single, [⟨0, 32, .rws, 0⟩]⟩,
  ⟨0xA01124, 0, 1, .single, [⟨0, 32, .rws, 0⟩]⟩,
  ⟨0xA01128, 0, 1, .single, [⟨0, 32, .rws, 0⟩]⟩]

/-- The registers of the NET window, part 1. -/
def regsNet1 : List RegDef := [
  ⟨0xA0112C, 0, 1, .single, [⟨0, 32, .rws, 0⟩]⟩,
  ⟨0xA01130, 0, 1, .single, [⟨0, 32, .rws, 0⟩]⟩,
  ⟨0xA01180, 0, 1, .single, [⟨0, 32, .rws, 0⟩]⟩,
  ⟨0xA01184, 0, 1, .single, [⟨0, 32, .rws, 0⟩]⟩,
  ⟨0xA01188, 0, 1, .single, [⟨0, 32, .rws, 0⟩]⟩,
  ⟨0xA0118C, 0, 1, .single, [⟨0, 32, .rws, 0⟩]⟩,
  ⟨0xA01190, 0, 1, .single, [⟨0, 32, .rws, 0⟩]⟩,
  ⟨0xA01194, 0, 1, .single, [⟨0, 32, .rws, 0⟩]⟩,
  ⟨0xA01198, 0, 1, .single, [⟨0, 32, .rws, 0⟩]⟩,
  ⟨0xA0119C, 0, 1, .single, [⟨0, 32, .rws, 0⟩]⟩,
  ⟨0xA011A0, 0, 1, .single, [⟨0, 32, .rws, 0⟩]⟩,
  ⟨0xA011A4, 0, 1, .single, [⟨0, 32, .rws, 0⟩]⟩,
  ⟨0xA011A8, 0, 1, .single, [⟨0, 32, .rws, 0⟩]⟩,
  ⟨0xA011AC, 0, 1, .single, [⟨0, 32, .rws, 0⟩]⟩,
  ⟨0xA011B0, 0, 1, .single, [⟨0, 32, .rws, 0⟩]⟩]

/-- The registers of the NET window. -/
def regsNet : List RegDef := regsNet0 ++ regsNet1

/-- The registers of the TIM window, part 0. -/
def regsTim0 : List RegDef := [
  ⟨0xB00100, 0, 1, .low, [⟨0, 32, .ro, 0⟩]⟩,
  ⟨0xB00104, 0, 1, .high, [⟨0, 32, .ro, 0⟩]⟩,
  ⟨0xB00108, 0, 1, .low, [⟨0, 32, .ro, 0⟩]⟩,
  ⟨0xB0010C, 0, 1, .high, [⟨0, 16, .ro, 0⟩]⟩,
  ⟨0xB00110, 0, 1, .single, [⟨0, 30, .ro, 0⟩]⟩,
  ⟨0xB00114, 0, 1, .single, [⟨0, 16, .ro, 0⟩]⟩,
  ⟨0xB00118, 0, 1, .low, [⟨0, 32, .rws, 0⟩]⟩,
  ⟨0xB0011C, 0, 1, .high, [⟨0, 16, .rws, 0x200⟩]⟩,
  ⟨0xB00120, 0, 1, .single, [⟨0, 1, .rws, 0⟩, ⟨1, 2, .rws, 0⟩]⟩,
  ⟨0xB00124, 0, 1, .single, [⟨0, 2, .ro, 0⟩, ⟨2, 2, .ro, 0⟩, ⟨4, 1, .ro, 0⟩, ⟨5, 1, .ro, 0⟩, ⟨6, 1, .ro, 0⟩, ⟨7, 1, .ro, 0⟩, ⟨8, 1, .ro, 0⟩, ⟨16, 1, .w1c, 0⟩, ⟨17, 1, .w1c, 0⟩, ⟨18, 1, .w1c, 0⟩, ⟨19, 1, .w1c, 0⟩]⟩,
  ⟨0xB00128, 0, 1, .single, [⟨0, 1, .ro, 0⟩, ⟨1, 1, .ro, 0⟩, ⟨2, 1, .ro, 0⟩, ⟨3, 1, .ro, 0⟩, ⟨4, 1, .ro, 0⟩, ⟨5, 1, .ro, 0⟩, ⟨6, 1, .ro, 0⟩, ⟨8, 1, .ro, 0⟩, ⟨9, 1, .ro, 0⟩, ⟨10, 1, .ro, 0⟩]⟩,
  ⟨0xB0012C, 0, 1, .single, [⟨0, 3, .wo, 0⟩, ⟨4, 3, .wo, 0⟩, ⟨8, 1, .wo, 0⟩]⟩,
  ⟨0xB00130, 0, 1, .single, [⟨0, 32, .ro, 0⟩]⟩,
  ⟨0xB00134, 0, 1, .single, [⟨0, 32, .ro, 0⟩]⟩,
  ⟨0xB00138, 0, 1, .single, [⟨0, 32, .ro, 0⟩]⟩,
  ⟨0xB0013C, 0, 1, .single, [⟨0, 32, .ro, 0xFFFFFFFF⟩]⟩,
  ⟨0xB00140, 0, 1, .single, [⟨0, 32, .ro, 0⟩]⟩,
  ⟨0xB00148, 0, 1, .low, [⟨0, 32, .ro, 0⟩]⟩,
  ⟨0xB0014C, 0, 1, .high, [⟨0, 32, .ro, 0⟩]⟩,
  ⟨0xB00150, 0, 1, .single, [⟨0, 32, .rws, 0⟩]⟩,
  ⟨0xB00200, 0, 1, .single, [⟨0, 32, .rws, 0⟩]⟩,
  ⟨0xB00204, 0, 1, .single, [⟨0, 32, .rws, 0⟩]⟩,
  ⟨0xB00208, 0, 1, .single, [⟨0, 32, .rws, 0⟩]⟩,
  ⟨0xB0020C, 0, 1, .single, [⟨0, 32, .rws, 0⟩]⟩,
  ⟨0xB00210, 0, 1, .single, [⟨0, 2, .rws, 0⟩, ⟨2, 1, .rws, 0⟩, ⟨3, 1, .rws, 0⟩, ⟨8, 8, .rws, 0⟩]⟩,
  ⟨0xB00214, 0, 1, .single, [⟨0, 2, .rws, 0⟩, ⟨2, 1, .rws, 0⟩, ⟨3, 1, .rws, 0⟩, ⟨8, 8, .rws, 0⟩]⟩,
  ⟨0xB00300, 0x10, 2, .single, [⟨0, 1, .rws, 1⟩, ⟨1, 1, .rws, 0⟩, ⟨2, 1, .rws, 0⟩, ⟨4, 20, .rws, 0x186A0⟩]⟩,
  ⟨0xB00304, 0x10, 2, .single, [⟨0, 32, .rws, 0⟩]⟩,
  ⟨0xB00400, 0x4, 8, .single, [⟨0, 1, .rws, 0⟩]⟩,
  ⟨0xB00420, 0, 1, .single, [⟨0, 8, .ro, 0⟩]⟩]

/-- The registers of the TIM window, part 1. -/
def regsTim1 : List RegDef := [
  ⟨0xB00428, 0, 1, .low, [⟨0, 32, .ro, 0⟩]⟩,
  ⟨0xB0042C, 0, 1, .high, [⟨0, 32, .ro, 0⟩]⟩]

/-- The registers of the TIM window. -/
def regsTim : List RegDef := regsTim0 ++ regsTim1

/-- The registers of the TACK window. -/
def regsTack : List RegDef := [
  ⟨0xC00100, 0, 1, .single, [⟨0, 1, .ro, 0⟩, ⟨1, 1, .ro, 0⟩, ⟨2, 1, .ro, 0⟩, ⟨3, 1, .ro, 0⟩, ⟨4, 1, .ro, 0⟩, ⟨5, 1, .ro, 0⟩, ⟨6, 1, .w1c, 0⟩]⟩,
  ⟨0xC00104, 0, 1, .single, [⟨0, 7, .ro, 0⟩, ⟨8, 7, .ro, 0⟩, ⟨16, 7, .ro, 0⟩]⟩,
  ⟨0xC00108, 0, 1, .single, [⟨0, 4, .rws, 0⟩, ⟨4, 4, .rws, 0⟩, ⟨8, 1, .rws, 1⟩, ⟨9, 1, .rws, 1⟩, ⟨10, 1, .rws, 1⟩, ⟨11, 1, .rws, 1⟩, ⟨31, 1, .rws, 0⟩]⟩,
  ⟨0xC0010C, 0, 1, .single, [⟨0, 4, .w1c, 0⟩, ⟨4, 1, .w1c, 0⟩, ⟨5, 1, .w1c, 0⟩, ⟨6, 1, .w1c, 0⟩, ⟨7, 1, .w1c, 0⟩, ⟨8, 1, .w1c, 0⟩, ⟨9, 1, .w1c, 0⟩]⟩,
  ⟨0xC00110, 0, 1, .single, [⟨0, 32, .ro, 0⟩]⟩,
  ⟨0xC00114, 0, 1, .single, [⟨0, 11, .ro, 0⟩]⟩,
  ⟨0xC00118, 0, 1, .single, [⟨0, 32, .rws, 0⟩]⟩,
  ⟨0xC00120, 0, 1, .single, [⟨0, 32, .ro, 0⟩]⟩,
  ⟨0xC00124, 0, 1, .single, [⟨0, 32, .ro, 0⟩]⟩,
  ⟨0xC00128, 0, 1, .single, [⟨0, 32, .ro, 0⟩]⟩,
  ⟨0xC0012C, 0, 1, .single, [⟨0, 32, .ro, 0⟩]⟩,
  ⟨0xC01000, 0x4, 512, .single, [⟨0, 2, .ro, 0⟩, ⟨8, 8, .ro, 0⟩, ⟨16, 7, .ro, 0⟩, ⟨24, 8, .ro, 0⟩]⟩,
  ⟨0xC02000, 0x4, 512, .single, [⟨0, 32, .ro, 0⟩]⟩]

/-- The registers of the WHOA window. -/
def regsWhoa : List RegDef := [
  ⟨0xD00100, 0, 1, .single, [⟨0, 1, .ro, 1⟩, ⟨1, 1, .ro, 0⟩, ⟨2, 1, .ro, 1⟩, ⟨3, 1, .ro, 0⟩, ⟨4, 1, .ro, 0⟩, ⟨5, 1, .ro, 0⟩, ⟨8, 8, .ro, 0xA⟩, ⟨16, 4, .ro, 0⟩]⟩,
  ⟨0xD00104, 0, 1, .single, [⟨1, 10, .ro, 0⟩]⟩,
  ⟨0xD00108, 0, 1, .single, [⟨0, 1, .rc, 0⟩, ⟨1, 1, .rc, 0⟩, ⟨2, 1, .rc, 0⟩, ⟨3, 1, .rc, 0⟩, ⟨4, 1, .rc, 0⟩, ⟨5, 1, .rc, 0⟩, ⟨6, 4, .rc, 0⟩, ⟨10, 1, .rc, 0⟩, ⟨11, 1, .rc, 0⟩]⟩,
  ⟨0xD0010C, 0, 1, .single, [⟨0, 1, .ro, 0⟩, ⟨1, 7, .ro, 0xA⟩, ⟨8, 8, .ro, 0⟩, ⟨16, 1, .ro, 0⟩, ⟨17, 5, .ro, 8⟩, ⟨22, 5, .ro, 0xC⟩]⟩,
  ⟨0xD00110, 0, 1, .single, [⟨0, 2, .ro, 0⟩]⟩,
  ⟨0xD00114, 0, 1, .single, [⟨0, 12, .ro, 0⟩, ⟨12, 1, .ro, 0⟩, ⟨13, 1, .ro, 0⟩, ⟨14, 1, .ro, 0⟩, ⟨16, 12, .ro, 0⟩]⟩,
  ⟨0xD00118, 0, 1, .single, [⟨0, 8, .ro, 0⟩, ⟨8, 1, .ro, 0⟩, ⟨9, 1, .ro, 0⟩, ⟨10, 1, .ro, 0⟩]⟩,
  ⟨0xD0011C, 0, 1, .single, [⟨0, 16, .ro, 0⟩]⟩,
  ⟨0xD00120, 0, 1, .single, [⟨0, 32, .ro, 0⟩]⟩,
  ⟨0xD00124, 0, 1, .single, [⟨0, 32, .ro, 0⟩]⟩,
  ⟨0xD00200, 0x4, 13, .single, [⟨0, 16, .ro, 0⟩, ⟨16, 16, .ro, 0⟩]⟩]

/-- The registers of the REC window. -/
def regsRec : List RegDef := [
  ⟨0xE00100, 0, 1, .single, [⟨0, 3, .ro, 0⟩, ⟨3, 1, .ro, 0⟩, ⟨4, 1, .w1c, 0⟩, ⟨5, 1, .w1c, 0⟩, ⟨6, 1, .w1c, 0⟩, ⟨8, 8, .ro, 0⟩, ⟨16, 3, .ro, 0⟩]⟩,
  ⟨0xE00104, 0, 1, .single, [⟨0, 32, .rws, 0⟩]⟩,
  ⟨0xE00108, 0, 1, .low, [⟨0, 32, .ro, 0⟩]⟩,
  ⟨0xE0010C, 0, 1, .high, [⟨0, 32, .ro, 0⟩]⟩,
  ⟨0xE00110, 0, 1, .single, [⟨0, 13, .ro, 0⟩]⟩,
  ⟨0xE00114, 0, 1, .single, [⟨0, 1, .rws, 0⟩, ⟨1, 1, .rws, 0⟩, ⟨2, 10, .rws, 0⟩, ⟨12, 1, .rws, 0⟩]⟩,
  ⟨0xE00118, 0, 1, .low, [⟨0, 32, .ro, 0⟩]⟩,
  ⟨0xE0011C, 0, 1, .high, [⟨0, 32, .ro, 0⟩]⟩,
  ⟨0xE00120, 0, 1, .single, [⟨0, 32, .rws, 0⟩]⟩,
  ⟨0xE00124, 0, 1, .single, [⟨0, 32, .rws, 0⟩]⟩,
  ⟨0xE00200, 0x20, 8, .single, [⟨0, 1, .rw, 0⟩, ⟨1, 1, .rw, 0⟩, ⟨2, 4, .rw, 0⟩, ⟨6, 4, .rw, 0⟩, ⟨16, 12, .rw, 0⟩]⟩,
  ⟨0xE00204, 0x20, 8, .single, [⟨0, 32, .rw, 0⟩]⟩,
  ⟨0xE00208, 0x20, 8, .single, [⟨0, 32, .rw, 0⟩]⟩,
  ⟨0xE0020C, 0x20, 8, .single, [⟨0, 32, .rw, 0⟩]⟩,
  ⟨0xE00320, 0x10, 6, .single, [⟨0, 1, .rw, 0⟩]⟩,
  ⟨0xE00328, 0x10, 6, .low, [⟨0, 32, .rw, 0⟩]⟩,
  ⟨0xE0032C, 0x10, 6, .high, [⟨0, 32, .rw, 0⟩]⟩]

/-- The registers of the BYL window. -/
def regsByl : List RegDef := [
  ⟨0xF00100, 0, 1, .single, [⟨0, 1, .rws, 0⟩, ⟨1, 9, .rws, 0⟩, ⟨10, 1, .rws, 1⟩, ⟨11, 1, .rws, 0⟩]⟩,
  ⟨0xF00104, 0, 1, .single, [⟨0, 2, .ro, 0⟩, ⟨2, 1, .ro, 0⟩, ⟨3, 2, .ro, 0⟩, ⟨5, 1, .ro, 0⟩, ⟨6, 1, .ro, 0⟩, ⟨7, 1, .ro, 0⟩, ⟨8, 1, .ro, 0⟩, ⟨9, 1, .w1c, 0⟩, ⟨10, 1, .w1c, 0⟩, ⟨11, 1, .w1c, 0⟩, ⟨12, 1, .w1c, 0⟩, ⟨16, 4, .ro, 0⟩]⟩,
  ⟨0xF00108, 0, 1, .single, [⟨0, 2, .ro, 0⟩, ⟨2, 2, .ro, 0⟩, ⟨4, 4, .ro, 0⟩]⟩,
  ⟨0xF0010C, 0, 1, .single, [⟨0, 32, .ro, 0⟩]⟩,
  ⟨0xF00110, 0, 1, .single, [⟨0, 32, .ro, 0⟩]⟩,
  ⟨0xF00114, 0, 1, .single, [⟨0, 32, .rws, 0⟩]⟩,
  ⟨0xF00118, 0, 1, .single, [⟨0, 32, .rws, 0⟩]⟩,
  ⟨0xF0011C, 0, 1, .single, [⟨0, 32, .rws, 0⟩]⟩,
  ⟨0xF00120, 0, 1, .single, [⟨0, 32, .ro, 0⟩]⟩,
  ⟨0xF00124, 0, 1, .single, [⟨0, 32, .ro, 0⟩]⟩,
  ⟨0xF00128, 0, 1, .single, [⟨0, 32, .ro, 0⟩]⟩,
  ⟨0xF0012C, 0, 1, .single, [⟨0, 32, .ro, 0⟩]⟩]

/-- The register words of the window of region code `w` (Table MAP-1). -/
def windowRegs (w : Nat) : List RegDef :=
  match w with
  | 0 => regsChip
  | 1 => regsHif ++ regsCommon
  | 2 => regsDsp ++ regsCommon
  | 3 => regsMqf ++ regsCommon
  | 4 => regsSvc ++ regsCommon
  | 5 => regsGnb ++ regsCommon
  | 6 => regsFix ++ regsCommon
  | 7 => regsPad ++ regsCommon
  | 8 => regsGait ++ regsCommon
  | 9 => regsAir ++ regsCommon
  | 10 => regsNet ++ regsCommon
  | 11 => regsTim ++ regsCommon
  | 12 => regsTack ++ regsCommon
  | 13 => regsWhoa ++ regsCommon
  | 14 => regsRec ++ regsCommon
  | 15 => regsByl ++ regsCommon
  | _ => []

/-- Whether the row `d` holds the word at BAR0 address `a`. -/
def RegDef.holds (d : RegDef) (a : Nat) : Bool :=
  d.base ≤ a && (if d.stride = 0 then a == d.base
    else (a - d.base) % d.stride == 0 && (a - d.base) / d.stride < d.count)

/-- The row of the word at BAR0 address `a`, where a chapter defines it (R530). -/
def regDef? (a : Nat) : Option RegDef := (windowRegs (a / 0x100000)).find? (·.holds a)

/-- The value the fields of a word have at reset, as the field tables give them. -/
def fieldsReset (fs : List FieldDef) : Nat := fs.foldl (fun v f => v + f.reset * 2 ^ f.lo) 0

/-- The mask of the bits of `fs` whose access satisfies `p`. -/
def fieldMask (p : Access → Bool) (fs : List FieldDef) : BitVec 32 :=
  fs.foldl (fun m f => if p f.acc then m ||| BitVec.ofNat 32 ((2 ^ f.width - 1) * 2 ^ f.lo) else m) 0#32

/-- BLOCKS and CELLS of TAG_RGN_ID for region code `r`: the counts of Table RGN-1. The table gives no count of PAD's
tile locks; the sixteen sweeper lanes alone are counted (DEDUCED, log entry 12). -/
def regionCells (r : Nat) : Nat × Nat :=
  match r with
  | 1 => (3, 64) | 2 => (2, 1032) | 3 => (4, 128) | 4 => (2, 8) | 5 => (4, 194) | 6 => (2, 10) | 7 => (3, 16)
  | 8 => (2, 4) | 9 => (4, 263) | 10 => (2, 2) | 11 => (4, 66) | 12 => (3, 512) | 13 => (3, 18) | 14 => (3, 8)
  | 15 => (2, 4) | _ => (0, 0)

/-- The reset value of the word at BAR0 address `a`: its fields' reset values, and the two words whose reset differs
by index, TAG_RGN_ID (Table RGN-7) and DSP_FLOW_n_CFG (Table DSP-7). A word no chapter defines reads 0 (R530). -/
def resetWord (a : Nat) : BitVec 32 :=
  if a % 0x100000 = 0 ∧ 1 ≤ a / 0x100000 ∧ a / 0x100000 ≤ 15 then
    let r := a / 0x100000
    BitVec.ofNat 32 (r + (regionCells r).1 * 2 ^ 8 + (regionCells r).2 * 2 ^ 16)
  else if Reg.DSP_FLOW_CFG 0 ≤ a ∧ a < Reg.DSP_FLOW_CFG 1024 ∧ a % 4 = 0 then
    let n := (a - Reg.DSP_FLOW_CFG 0) / 4
    if n = 0 then BitVec.ofNat 32 (5 + 64 * 2 ^ 4)
    else if n < 256 then BitVec.ofNat 32 (6 + 16 * 2 ^ 4)
    else BitVec.ofNat 32 (3 + 64 * 2 ^ 4)
  else
    match regDef? a with
    | some d => BitVec.ofNat 32 (fieldsReset d.fields)
    | none => 0#32

end Sys2Proof.Machine
end

