-- ==== Sys2Proof/Machine/Params.lean ====
section
/-!
DEFINITION. The parameter registers of the chapters' parameter tables (R22 to R24): BAR0 address, legal range and
default, each in the unit the table steps by (DEDUCED, log entry 6).
-/

namespace Sys2Proof.Machine

/-- What a legal value of a parameter register is (R24). -/
inductive ParamCheck where
  | range (lo hi : Nat)
  /-- Bits outside the mask must be 0 (CLASS_k of Table PAD-9). -/
  | mask (m : Nat)
  /-- Three source codes 1 to 3 (SRC_PRIO of Table TIM-11). -/
  | prio
  /-- A multiple of 50 that divides 1,000 (MSM_INTERVAL of Table INT-3). -/
  | msm
  | any
  deriving DecidableEq, Repr

/-- One parameter register. -/
structure ParamDef where
  addr  : Nat
  check : ParamCheck
  dflt  : Nat
  deriving DecidableEq, Repr

/-- Whether `v` lies in the range of the check. -/
def ParamCheck.ok (c : ParamCheck) (v : Nat) : Bool :=
  match c with
  | .range lo hi => lo ≤ v && v ≤ hi
  | .mask m => v &&& m == v
  | .prio => 1 ≤ v % 4 && 1 ≤ v / 4 % 4 && 1 ≤ v / 16 % 4
  | .msm => 50 ≤ v && v % 50 == 0 && 1000 % v == 0
  | .any => true

namespace P

/-- SVC_HOST_WDOG, in ms (Table CYC-8). -/
def SVC_HOST_WDOG : Nat := 0x480000
/-- MSM_INTERVAL, in ms (Table INT-3). -/
def MSM_INTERVAL : Nat := 0x481000
/-- STA_INTERVAL, in s (Table INT-3). -/
def STA_INTERVAL : Nat := 0x481004
/-- STATION_ID, in id (Table INT-3). -/
def STATION_ID : Nat := 0x481008
/-- IN_UDP_PORT, in port (Table INT-3). -/
def IN_UDP_PORT : Nat := 0x48100C
/-- INPUT_GAP, in s (Table INT-3). -/
def INPUT_GAP : Nat := 0x481010
/-- REF_MON_MAX, in mm (Table INT-3). -/
def REF_MON_MAX : Nat := 0x481014
/-- DEST_0_IP, in address (Table INT-3). -/
def DEST_0_IP : Nat := 0x481020
/-- DEST_0_CFG, in entry (Table INT-3). -/
def DEST_0_CFG : Nat := 0x481024
/-- DEST_1_IP, in address (Table INT-3). -/
def DEST_1_IP : Nat := 0x481028
/-- DEST_1_CFG, in entry (Table INT-3). -/
def DEST_1_CFG : Nat := 0x48102C
/-- DEST_2_IP, in address (Table INT-3). -/
def DEST_2_IP : Nat := 0x481030
/-- DEST_2_CFG, in entry (Table INT-3). -/
def DEST_2_CFG : Nat := 0x481034
/-- DEST_3_IP, in address (Table INT-3). -/
def DEST_3_IP : Nat := 0x481038
/-- DEST_3_CFG, in entry (Table INT-3). -/
def DEST_3_CFG : Nat := 0x48103C
/-- GNB_ELEV_MASK, in degrees (Table GNB-9). -/
def GNB_ELEV_MASK : Nat := 0x580000
/-- DLL_BW, in 0.01 Hz (Table GNB-9). -/
def DLL_BW : Nat := 0x580004
/-- PLL_BW, in Hz (Table GNB-9). -/
def PLL_BW : Nat := 0x580008
/-- AGC_TARGET, in 0.1 (Table GNB-9). -/
def AGC_TARGET : Nat := 0x58000C
/-- AGC_JUMP, in steps (Table GNB-9). -/
def AGC_JUMP : Nat := 0x580010
/-- NOTCH_THRESH, in dB (Table GNB-9). -/
def NOTCH_THRESH : Nat := 0x580014
/-- ANT_OPEN_MA, in mA (Table GNB-9). -/
def ANT_OPEN_MA : Nat := 0x580018
/-- ANT_SHORT_MA, in mA (Table GNB-9). -/
def ANT_SHORT_MA : Nat := 0x58001C
/-- REF_JUMP_MAX, in mm (Table GNB-9). -/
def REF_JUMP_MAX : Nat := 0x580020
/-- BURST_EN, in flag (Table GNB-9). -/
def BURST_EN : Nat := 0x580024
/-- BURST_SIGNALS, in signals (Table GNB-9). -/
def BURST_SIGNALS : Nat := 0x580028
/-- FIX_ELEV_MASK, in degrees (Table FIX-13). -/
def FIX_ELEV_MASK : Nat := 0x680000
/-- CN0_MIN, in dB-Hz (Table FIX-13). -/
def CN0_MIN : Nat := 0x680004
/-- ELEV_WT, in 0.01 (Table FIX-13). -/
def ELEV_WT : Nat := 0x680008
/-- SIG_CODE, in mm (Table FIX-13). -/
def SIG_CODE : Nat := 0x68000C
/-- SIG_PHASE, in mm (Table FIX-13). -/
def SIG_PHASE : Nat := 0x680010
/-- Q_ACC_H, in 0.01 m2/s3 (Table FIX-13). -/
def Q_ACC_H : Nat := 0x680014
/-- Q_ACC_V, in 0.01 m2/s3 (Table FIX-13). -/
def Q_ACC_V : Nat := 0x680018
/-- AMB_VAR0, in cycles2 (Table FIX-13). -/
def AMB_VAR0 : Nat := 0x68001C
/-- GF_SLIP, in mm (Table FIX-13). -/
def GF_SLIP : Nat := 0x680020
/-- DOP_SLIP, in 0.1 cycle (Table FIX-13). -/
def DOP_SLIP : Nat := 0x680024
/-- SLIP_GAP, in ms (Table FIX-13). -/
def SLIP_GAP : Nat := 0x680028
/-- RATIO, in 0.1 (Table FIX-13). -/
def RATIO : Nat := 0x68002C
/-- SR_MIN, in 1e-6 (Table FIX-13). -/
def SR_MIN : Nat := 0x680030
/-- MIN_FIX, in integers (Table FIX-13). -/
def MIN_FIX : Nat := 0x680034
/-- PAR_DROP, in removals (Table FIX-13). -/
def PAR_DROP : Nat := 0x680038
/-- SEARCH_NODES, in nodes (Table FIX-13). -/
def SEARCH_NODES : Nat := 0x68003C
/-- SEARCH_WAIT, in 0.1 ms (Table FIX-13). -/
def SEARCH_WAIT : Nat := 0x680040
/-- FIX_RES_MAX, in 0.01 cycle (Table FIX-13). -/
def FIX_RES_MAX : Nat := 0x680044
/-- REL_VAR, in 0.001 cycles2 (Table FIX-13). -/
def REL_VAR : Nat := 0x680048
/-- HOLD_MAX, in ms (Table FIX-13). -/
def HOLD_MAX : Nat := 0x68004C
/-- FLOAT_KEEP, in s (Table FIX-13). -/
def FLOAT_KEEP : Nat := 0x680050
/-- BASELINE_MAX, in km (Table FIX-13). -/
def BASELINE_MAX : Nat := 0x680054
/-- SELF_DEV_MAX, in mm (Table FIX-13). -/
def SELF_DEV_MAX : Nat := 0x680058
/-- REINIT_WAIT, in s (Table FIX-13). -/
def REINIT_WAIT : Nat := 0x68005C
/-- EXCL_K, in 0.1 (Table INT-7). -/
def EXCL_K : Nat := 0x680200
/-- EXCL_RESTART, in epochs (Table INT-7). -/
def EXCL_RESTART : Nat := 0x680204
/-- NOTCH_VAR_K, in factor (Table INT-7). -/
def NOTCH_VAR_K : Nat := 0x680208
/-- FLEET_N, in contexts (Table INT-7). -/
def FLEET_N : Nat := 0x68020C
/-- BASE_RES_MAX, in 0.1 m (Table INT-7). -/
def BASE_RES_MAX : Nat := 0x680210
/-- SV_CLEAR_S, in s (Table INT-7). -/
def SV_CLEAR_S : Nat := 0x680214
/-- CN0_DROP, in dB (Table INT-7). -/
def CN0_DROP : Nat := 0x680218
/-- INTERF_HOLD, in s (Table INT-7). -/
def INTERF_HOLD : Nat := 0x68021C
/-- CLK_STEP_NS, in ns (Table INT-7). -/
def CLK_STEP_NS : Nat := 0x680220
/-- CLK_WANDER_NS, in ns (Table INT-7). -/
def CLK_WANDER_NS : Nat := 0x680224
/-- WANDER_SPAN, in s (Table INT-7). -/
def WANDER_SPAN : Nat := 0x680228
/-- SPOOF_CLEAN_S, in s (Table INT-7). -/
def SPOOF_CLEAN_S : Nat := 0x68022C
/-- K_PR, in 0.1 (Table INT-7). -/
def K_PR : Nat := 0x680230
/-- PR_MIN, in mm (Table INT-7). -/
def PR_MIN : Nat := 0x680234
/-- GROOM_PERIOD, in ticks (Table PAD-9). -/
def GROOM_PERIOD : Nat := 0x780000
/-- HEAD_TOL, in degrees (Table PAD-9). -/
def HEAD_TOL : Nat := 0x780004
/-- TIME_MARGIN, in ticks (Table PAD-27). -/
def TIME_MARGIN : Nat := 0x780300
/-- HANDOVER_TICKS, in ticks (Table PAD-27). -/
def HANDOVER_TICKS : Nat := 0x780304
/-- PR_SWEEP_MAX, in mm (Table PAD-27). -/
def PR_SWEEP_MAX : Nat := 0x780308
/-- NEAR_TICKS, in ticks (Table PAD-27). -/
def NEAR_TICKS : Nat := 0x78030C
/-- NEAR_W, in cost (Table PAD-27). -/
def NEAR_W : Nat := 0x780310
/-- PAIR_SYNC_COMMIT, in flag (Table PAD-27). -/
def PAIR_SYNC_COMMIT : Nat := 0x780314
/-- PLAN_HORIZON, in ticks (Table GAIT-12). -/
def PLAN_HORIZON : Nat := 0x880000
/-- REPLAN_BUDGET, in ms (Table GAIT-12). -/
def REPLAN_BUDGET : Nat := 0x880004
/-- XTRACK_MAX, in mm (Table GAIT-12). -/
def XTRACK_MAX : Nat := 0x880008
/-- ALONG_MAX, in mm (Table GAIT-12). -/
def ALONG_MAX : Nat := 0x88000C
/-- V_DEV_MAX, in mm/s (Table GAIT-12). -/
def V_DEV_MAX : Nat := 0x880010
/-- PROBE_STEP, in mm (Table GAIT-12). -/
def PROBE_STEP : Nat := 0x880014
/-- DATUM_DIST, in mm (Table GAIT-12). -/
def DATUM_DIST : Nat := 0x880018
/-- GUARD_CAP, in us (Table AIR-19). -/
def GUARD_CAP : Nat := 0x980000
/-- CALL_PERIOD, in s (Table AIR-19). -/
def CALL_PERIOD : Nat := 0x980004
/-- JOIN_TIMEOUT, in superframes (Table AIR-26). -/
def JOIN_TIMEOUT : Nat := 0x980008
/-- SFN_RECORD_PERIOD, in superframes (Table AIR-26). -/
def SFN_RECORD_PERIOD : Nat := 0x98000C
/-- STEP_THRESHOLD, in us (Table TIM-11). -/
def STEP_THRESHOLD : Nat := 0xB80000
/-- SLEW_MAX, in 0.01 us/s (Table TIM-11). -/
def SLEW_MAX : Nat := 0xB80004
/-- AGREE_NS, in ns (Table TIM-11). -/
def AGREE_NS : Nat := 0xB80008
/-- LOCK_NS, in ns (Table TIM-11). -/
def LOCK_NS : Nat := 0xB8000C
/-- LOCK_S, in s (Table TIM-11). -/
def LOCK_S : Nat := 0xB80010
/-- HOLDOVER_LIMIT, in 0.1 us (Table TIM-11). -/
def HOLDOVER_LIMIT : Nat := 0xB80014
/-- OSC_FREQ_UNC, in ps/s (Table TIM-11). -/
def OSC_FREQ_UNC : Nat := 0xB80018
/-- OSC_AGEING, in 1e-15/s (Table TIM-11). -/
def OSC_AGEING : Nat := 0xB8001C
/-- QUAL_S, in s (Table TIM-11). -/
def QUAL_S : Nat := 0xB80020
/-- SRC_TIMEOUT, in s (Table TIM-11). -/
def SRC_TIMEOUT : Nat := 0xB80024
/-- SUSPECT_CLEAR_S, in s (Table TIM-11). -/
def SUSPECT_CLEAR_S : Nat := 0xB80028
/-- SERVO_TC, in s (Table TIM-11). -/
def SERVO_TC : Nat := 0xB8002C
/-- GNSS_DELAY, in ns (Table TIM-11). -/
def GNSS_DELAY : Nat := 0xB80030
/-- SRC_PRIO, in source codes (Table TIM-11). -/
def SRC_PRIO : Nat := 0xB80034
/-- MODEL_SPAN, in h (Table TIM-11). -/
def MODEL_SPAN : Nat := 0xB80038
/-- QUAL_JUMP_NS, in ns (Table TIM-11). -/
def QUAL_JUMP_NS : Nat := 0xB8003C
/-- SCRUB_PERIOD, in h (Table MEM-7). -/
def SCRUB_PERIOD : Nat := 0x380000
/-- TIME_DEV_MAX, in ns (Table BYL-14). -/
def TIME_DEV_MAX : Nat := 0xF80000
/-- CLAIM_WAIT_S, in ms (Table BYL-14). -/
def CLAIM_WAIT_S : Nat := 0xF80004
/-- CLAIM_WAIT_J, in ms (Table BYL-14). -/
def CLAIM_WAIT_J : Nat := 0xF80008
/-- RESYNC_RATE, in MB/s (Table BYL-14). -/
def RESYNC_RATE : Nat := 0xF8000C
/-- REF_X_LO, in see table (Table GNB-9). -/
def REF_X_LO : Nat := 0x580100
/-- REF_X_HI, in see table (Table GNB-9). -/
def REF_X_HI : Nat := 0x580104
/-- REF_Y_LO, in see table (Table GNB-9). -/
def REF_Y_LO : Nat := 0x580108
/-- REF_Y_HI, in see table (Table GNB-9). -/
def REF_Y_HI : Nat := 0x58010C
/-- REF_Z_LO, in see table (Table GNB-9). -/
def REF_Z_LO : Nat := 0x580110
/-- REF_Z_HI, in see table (Table GNB-9). -/
def REF_Z_HI : Nat := 0x580114
/-- REF_STS, in see table (Table GNB-9). -/
def REF_STS : Nat := 0x580118
/-- PCO_L5, in see table (Table GNB-9). -/
def PCO_L5 : Nat := 0x58011C
/-- ENU_X_LO, in see table (Table FIX-13). -/
def ENU_X_LO : Nat := 0x680100
/-- ENU_X_HI, in see table (Table FIX-13). -/
def ENU_X_HI : Nat := 0x680104
/-- ENU_Y_LO, in see table (Table FIX-13). -/
def ENU_Y_LO : Nat := 0x680108
/-- ENU_Y_HI, in see table (Table FIX-13). -/
def ENU_Y_HI : Nat := 0x68010C
/-- ENU_Z_LO, in see table (Table FIX-13). -/
def ENU_Z_LO : Nat := 0x680110
/-- ENU_Z_HI, in see table (Table FIX-13). -/
def ENU_Z_HI : Nat := 0x680114
/-- ENU_VALID, in see table (Table FIX-13). -/
def ENU_VALID : Nat := 0x680118
/-- CLASS_k, k = 0 to 63 (Table PAD-9). -/
def CLASS (k : Nat) : Nat := 0x780100 + 4 * k
/-- SPEED_k, k = 1 to 15, in mm/s (Table PAD-9). -/
def SPEED (k : Nat) : Nat := 0x780200 + 4 * k
/-- INFL_k, k = 0 to 11, in 1/16 (Table INT-7). -/
def INFL (k : Nat) : Nat := 0x680240 + 4 * k

end P

/-- Parameters of SVC, part 0. -/
def paramsSvc0 : List ParamDef := [
  ⟨0x480000, .range 0 60000, 2000⟩,
  ⟨0x481000, .msm, 1000⟩,
  ⟨0x481004, .range 1 60, 10⟩,
  ⟨0x481008, .range 0 4095, 0⟩,
  ⟨0x48100C, .range 0 65535, 0⟩,
  ⟨0x481010, .range 1 60, 5⟩,
  ⟨0x481014, .range 5 500, 30⟩,
  ⟨0x481020, .any, 0⟩,
  ⟨0x481024, .mask 0x1FFFF, 0⟩,
  ⟨0x481028, .any, 0⟩,
  ⟨0x48102C, .mask 0x1FFFF, 0⟩,
  ⟨0x481030, .any, 0⟩,
  ⟨0x481034, .mask 0x1FFFF, 0⟩,
  ⟨0x481038, .any, 0⟩,
  ⟨0x48103C, .mask 0x1FFFF, 0⟩]

/-- Parameters of GNB, part 0. -/
def paramsGnb0 : List ParamDef := [
  ⟨0x580000, .range 0 30, 5⟩,
  ⟨0x580004, .range 5 200, 50⟩,
  ⟨0x580008, .range 2 30, 10⟩,
  ⟨0x58000C, .range 30 110, 60⟩,
  ⟨0x580010, .range 16 512, 128⟩,
  ⟨0x580014, .range 10 30, 15⟩,
  ⟨0x580018, .range 1 20, 4⟩,
  ⟨0x58001C, .range 30 150, 90⟩,
  ⟨0x580020, .range 1 1000, 50⟩,
  ⟨0x580024, .range 0 1, 1⟩,
  ⟨0x580028, .range 4 16, 12⟩,
  ⟨0x580100, .any, 0⟩,
  ⟨0x580104, .any, 0⟩,
  ⟨0x580108, .any, 0⟩,
  ⟨0x58010C, .any, 0⟩,
  ⟨0x580110, .any, 0⟩,
  ⟨0x580114, .any, 0⟩,
  ⟨0x580118, .any, 0⟩,
  ⟨0x58011C, .any, 0⟩]

/-- Parameters of FIX, part 0. -/
def paramsFix0 : List ParamDef := [
  ⟨0x680000, .range 0 30, 10⟩,
  ⟨0x680004, .range 20 45, 30⟩,
  ⟨0x680008, .range 0 200, 50⟩,
  ⟨0x68000C, .range 50 2000, 300⟩,
  ⟨0x680010, .range 1 20, 3⟩,
  ⟨0x680014, .range 1 10000, 100⟩,
  ⟨0x680018, .range 1 10000, 25⟩,
  ⟨0x68001C, .range 1 10000, 100⟩,
  ⟨0x680020, .range 10 500, 50⟩,
  ⟨0x680024, .range 1 50, 5⟩,
  ⟨0x680028, .range 100 10000, 1000⟩,
  ⟨0x68002C, .range 15 100, 30⟩,
  ⟨0x680030, .range 900000 999999, 999000⟩,
  ⟨0x680034, .range 4 48, 6⟩,
  ⟨0x680038, .range 0 8, 8⟩,
  ⟨0x68003C, .range 10000 250000, 250000⟩,
  ⟨0x680040, .range 0 20, 20⟩,
  ⟨0x680044, .range 5 50, 25⟩,
  ⟨0x680048, .range 1 1000, 10⟩,
  ⟨0x68004C, .range 0 2000, 2000⟩,
  ⟨0x680050, .range 0 30, 10⟩,
  ⟨0x680054, .range 1 30, 15⟩,
  ⟨0x680058, .range 50 5000, 500⟩,
  ⟨0x68005C, .range 10 600, 120⟩,
  ⟨0x680200, .range 20 100, 40⟩,
  ⟨0x680204, .range 1 20, 3⟩,
  ⟨0x680208, .range 1 16, 4⟩,
  ⟨0x68020C, .range 2 32, 3⟩,
  ⟨0x680210, .range 10 500, 30⟩,
  ⟨0x680214, .range 10 3600, 120⟩]

/-- Parameters of FIX, part 1. -/
def paramsFix1 : List ParamDef := [
  ⟨0x680218, .range 3 20, 6⟩,
  ⟨0x68021C, .range 1 600, 10⟩,
  ⟨0x680220, .range 5 1000, 50⟩,
  ⟨0x680224, .range 50 10000, 500⟩,
  ⟨0x680228, .range 60 3600, 300⟩,
  ⟨0x68022C, .range 10 3600, 60⟩,
  ⟨0x680230, .range 30 100, 60⟩,
  ⟨0x680234, .range 0 1000, 20⟩,
  ⟨0x680240, .range 17 256, 64⟩,
  ⟨0x680244, .range 17 256, 32⟩,
  ⟨0x680248, .range 17 256, 64⟩,
  ⟨0x68024C, .range 17 256, 24⟩,
  ⟨0x680250, .range 17 256, 20⟩,
  ⟨0x680254, .range 17 256, 32⟩,
  ⟨0x680258, .range 17 256, 24⟩,
  ⟨0x68025C, .range 17 256, 20⟩,
  ⟨0x680260, .range 17 256, 20⟩,
  ⟨0x680264, .range 17 256, 32⟩,
  ⟨0x680268, .range 17 256, 20⟩,
  ⟨0x68026C, .range 17 256, 24⟩,
  ⟨0x680100, .any, 0⟩,
  ⟨0x680104, .any, 0⟩,
  ⟨0x680108, .any, 0⟩,
  ⟨0x68010C, .any, 0⟩,
  ⟨0x680110, .any, 0⟩,
  ⟨0x680114, .any, 0⟩,
  ⟨0x680118, .any, 0⟩]

/-- Parameters of PAD, part 0. -/
def paramsPad0 : List ParamDef := [
  ⟨0x780000, .range 200 4000, 1000⟩,
  ⟨0x780004, .range 5 90, 30⟩,
  ⟨0x780100, .mask 0xFF07, 0⟩,
  ⟨0x780104, .mask 0xFF07, 7⟩,
  ⟨0x780108, .mask 0xFF07, 7⟩,
  ⟨0x78010C, .mask 0xFF07, 2567⟩,
  ⟨0x780110, .mask 0xFF07, 5127⟩,
  ⟨0x780114, .mask 0xFF07, 7⟩,
  ⟨0x780118, .mask 0xFF07, 5121⟩,
  ⟨0x78011C, .mask 0xFF07, 12801⟩,
  ⟨0x780120, .mask 0xFF07, 0⟩,
  ⟨0x780124, .mask 0xFF07, 0⟩,
  ⟨0x780128, .mask 0xFF07, 0⟩,
  ⟨0x78012C, .mask 0xFF07, 0⟩,
  ⟨0x780130, .mask 0xFF07, 0⟩,
  ⟨0x780134, .mask 0xFF07, 0⟩,
  ⟨0x780138, .mask 0xFF07, 0⟩,
  ⟨0x78013C, .mask 0xFF07, 0⟩,
  ⟨0x780140, .mask 0xFF07, 0⟩,
  ⟨0x780144, .mask 0xFF07, 0⟩,
  ⟨0x780148, .mask 0xFF07, 0⟩,
  ⟨0x78014C, .mask 0xFF07, 0⟩,
  ⟨0x780150, .mask 0xFF07, 0⟩,
  ⟨0x780154, .mask 0xFF07, 0⟩,
  ⟨0x780158, .mask 0xFF07, 0⟩,
  ⟨0x78015C, .mask 0xFF07, 0⟩,
  ⟨0x780160, .mask 0xFF07, 0⟩,
  ⟨0x780164, .mask 0xFF07, 0⟩,
  ⟨0x780168, .mask 0xFF07, 0⟩,
  ⟨0x78016C, .mask 0xFF07, 0⟩]

/-- Parameters of PAD, part 1. -/
def paramsPad1 : List ParamDef := [
  ⟨0x780170, .mask 0xFF07, 0⟩,
  ⟨0x780174, .mask 0xFF07, 0⟩,
  ⟨0x780178, .mask 0xFF07, 0⟩,
  ⟨0x78017C, .mask 0xFF07, 0⟩,
  ⟨0x780180, .mask 0xFF07, 0⟩,
  ⟨0x780184, .mask 0xFF07, 0⟩,
  ⟨0x780188, .mask 0xFF07, 0⟩,
  ⟨0x78018C, .mask 0xFF07, 0⟩,
  ⟨0x780190, .mask 0xFF07, 0⟩,
  ⟨0x780194, .mask 0xFF07, 0⟩,
  ⟨0x780198, .mask 0xFF07, 0⟩,
  ⟨0x78019C, .mask 0xFF07, 0⟩,
  ⟨0x7801A0, .mask 0xFF07, 0⟩,
  ⟨0x7801A4, .mask 0xFF07, 0⟩,
  ⟨0x7801A8, .mask 0xFF07, 0⟩,
  ⟨0x7801AC, .mask 0xFF07, 0⟩,
  ⟨0x7801B0, .mask 0xFF07, 0⟩,
  ⟨0x7801B4, .mask 0xFF07, 0⟩,
  ⟨0x7801B8, .mask 0xFF07, 0⟩,
  ⟨0x7801BC, .mask 0xFF07, 0⟩,
  ⟨0x7801C0, .mask 0xFF07, 0⟩,
  ⟨0x7801C4, .mask 0xFF07, 0⟩,
  ⟨0x7801C8, .mask 0xFF07, 0⟩,
  ⟨0x7801CC, .mask 0xFF07, 0⟩,
  ⟨0x7801D0, .mask 0xFF07, 0⟩,
  ⟨0x7801D4, .mask 0xFF07, 0⟩,
  ⟨0x7801D8, .mask 0xFF07, 0⟩,
  ⟨0x7801DC, .mask 0xFF07, 0⟩,
  ⟨0x7801E0, .mask 0xFF07, 0⟩,
  ⟨0x7801E4, .mask 0xFF07, 0⟩]

/-- Parameters of PAD, part 2. -/
def paramsPad2 : List ParamDef := [
  ⟨0x7801E8, .mask 0xFF07, 0⟩,
  ⟨0x7801EC, .mask 0xFF07, 0⟩,
  ⟨0x7801F0, .mask 0xFF07, 0⟩,
  ⟨0x7801F4, .mask 0xFF07, 0⟩,
  ⟨0x7801F8, .mask 0xFF07, 0⟩,
  ⟨0x7801FC, .mask 0xFF07, 0⟩,
  ⟨0x780204, .range 10 20000, 100⟩,
  ⟨0x780208, .range 10 20000, 250⟩,
  ⟨0x78020C, .range 10 20000, 500⟩,
  ⟨0x780210, .range 10 20000, 750⟩,
  ⟨0x780214, .range 10 20000, 1000⟩,
  ⟨0x780218, .range 10 20000, 1250⟩,
  ⟨0x78021C, .range 10 20000, 1500⟩,
  ⟨0x780220, .range 10 20000, 2000⟩,
  ⟨0x780224, .range 10 20000, 2500⟩,
  ⟨0x780228, .range 10 20000, 3000⟩,
  ⟨0x78022C, .range 10 20000, 4000⟩,
  ⟨0x780230, .range 10 20000, 5000⟩,
  ⟨0x780234, .range 10 20000, 6000⟩,
  ⟨0x780238, .range 10 20000, 8000⟩,
  ⟨0x78023C, .range 10 20000, 10000⟩,
  ⟨0x780300, .range 0 200, 20⟩,
  ⟨0x780304, .range 10 200, 30⟩,
  ⟨0x780308, .range 50 5000, 1000⟩,
  ⟨0x78030C, .range 0 500, 50⟩,
  ⟨0x780310, .range 0 100, 1⟩,
  ⟨0x780314, .range 0 1, 0⟩]

/-- Parameters of GAIT, part 0. -/
def paramsGait0 : List ParamDef := [
  ⟨0x880000, .range 100 4095, 1000⟩,
  ⟨0x880004, .range 5 30, 16⟩,
  ⟨0x880008, .range 100 5000, 500⟩,
  ⟨0x88000C, .range 50 2000, 300⟩,
  ⟨0x880010, .range 50 2000, 250⟩,
  ⟨0x880014, .range 50 200, 100⟩,
  ⟨0x880018, .range 100 10000, 2000⟩]

/-- Parameters of AIR, part 0. -/
def paramsAir0 : List ParamDef := [
  ⟨0x980000, .range 1000 20000, 5000⟩,
  ⟨0x980004, .range 1 60, 10⟩,
  ⟨0x980008, .range 5 100, 20⟩,
  ⟨0x98000C, .range 100 6000, 600⟩]

/-- Parameters of TIM, part 0. -/
def paramsTim0 : List ParamDef := [
  ⟨0xB80000, .range 10 1000000, 100⟩,
  ⟨0xB80004, .range 5 100, 100⟩,
  ⟨0xB80008, .range 20 10000, 250⟩,
  ⟨0xB8000C, .range 10 1000, 100⟩,
  ⟨0xB80010, .range 1 600, 10⟩,
  ⟨0xB80014, .range 1 10000, 10⟩,
  ⟨0xB80018, .range 1 10000, 40⟩,
  ⟨0xB8001C, .range 0 10000, 10⟩,
  ⟨0xB80020, .range 3 600, 10⟩,
  ⟨0xB80024, .range 1 30, 3⟩,
  ⟨0xB80028, .range 10 3600, 60⟩,
  ⟨0xB8002C, .range 10 10000, 100⟩,
  ⟨0xB80030, .range 0 100000, 0⟩,
  ⟨0xB80034, .prio, 57⟩,
  ⟨0xB80038, .range 1 168, 24⟩,
  ⟨0xB8003C, .range 100 1000000, 5000⟩]

/-- Parameters of MQF, part 0. -/
def paramsMqf0 : List ParamDef := [
  ⟨0x380000, .range 1 168, 24⟩]

/-- Parameters of BYL, part 0. -/
def paramsByl0 : List ParamDef := [
  ⟨0xF80000, .range 100 1000, 500⟩,
  ⟨0xF80004, .range 100 5000, 200⟩,
  ⟨0xF80008, .range 500 10000, 1000⟩,
  ⟨0xF8000C, .range 50 1000, 200⟩]

/-- Every parameter register. -/
def paramDefs : List ParamDef :=
  paramsSvc0 ++ paramsGnb0 ++ paramsFix0 ++ paramsFix1 ++ paramsPad0 ++ paramsPad1 ++ paramsPad2 ++ paramsGait0 ++ paramsAir0 ++ paramsTim0 ++ paramsMqf0 ++ paramsByl0

/-- The parameter register at BAR0 address `a`, where a chapter defines one. -/
def paramDef? (a : Nat) : Option ParamDef := paramDefs.find? (·.addr == a)

/-- The default of the parameter register at `a` (R22); 0 where no chapter defines one. -/
def paramDefault (a : Nat) : BitVec 32 :=
  match paramDef? a with
  | some d => BitVec.ofNat 32 d.dflt
  | none => 0#32

end Sys2Proof.Machine
end

