-- ==== Sys2Proof/Machine/State.lean ====
section
/-!
DEFINITION. The state of the block: the clock, every register, the queue of waiting commands, and what each region
holds beside its registers. All of it is plain data.
-/

namespace Sys2Proof.Machine

/-- Reasons a step stops with a fault. -/
inductive Fault where
  /-- A register access named an address outside the three BARs and the configuration space (R58), which no part of the
  device decodes. Raised by the register commands. Safe: the device goes on; the model stops. -/
  | outsideBar (addr : Nat)
  deriving DecidableEq, Repr

/-- Reasons a step is refused. -/
inductive Refusal where
  /-- The command of that mnemonic has no meaning yet. Raised by the dispatch arms only. Safe. -/
  | notModelled (mnemonic : String)
  deriving DecidableEq, Repr

/-- What a command answers. -/
abbrev Out (σ : Type) := Host.Outcome σ Fault Refusal

/-- The machine. -/
structure State where
  /-- Commands that wait, first in, first out. -/
  pending : List Instr
  /-- The present instant, in TIM cycles of 2 ns since power-on. -/
  cyc     : Nat
  /-- The device-time counter in units of 2^-40 ns (R347). -/
  ctr     : Nat
  /-- Index of the next free value: the model's own field, not the spec's (log entry 3). -/
  freeIdx : Nat
  /-- Register words by BAR0 byte address; an unlisted word holds its reset value. -/
  regs    : Sp Word
  /-- Live parameter words by BAR0 byte address (R23); an unlisted one holds its default. -/
  live    : Sp Word
  /-- Bytes of host memory the device has written; an unlisted byte it has not written. -/
  hostMem : Sp Byte
  /-- Operations that wait in their region for their WHEN (R66). -/
  waiting : List Instr
  /-- The requesters at the register windows (R533). -/
  bus     : Sp BusRt
  rgn     : RgnRt
  hif     : HifRt
  dsp     : DspRt
  mqf     : MqfRt
  whoa    : WhoaRt
  net     : NetRt
  tim     : TimRt
  chip    : ChipRt
  tack    : TackRt
  recd    : RecRt
  air     : AirRt
  gnb     : GnbRt
  fix     : FixRt
  pad     : PadRt
  gait    : GaitRt
  byl     : BylRt
  deriving DecidableEq, Repr

/-- The machine right after power-on reset, before the boot ROM acts: every register at its reset value. -/
def State.reset : State where
  pending := []
  cyc     := 0
  ctr     := 0
  freeIdx := 0
  regs    := []
  live    := []
  hostMem := []
  waiting := []
  bus     := []
  rgn     := RgnRt.reset
  hif     := HifRt.reset
  dsp     := DspRt.reset
  mqf     := MqfRt.reset
  whoa    := WhoaRt.reset
  net     := NetRt.reset
  tim     := TimRt.reset
  chip    := ChipRt.reset
  tack    := TackRt.reset
  recd    := RecRt.reset
  air     := AirRt.reset
  gnb     := GnbRt.reset
  fix     := FixRt.reset
  pad     := PadRt.reset
  gait    := GaitRt.reset
  byl     := BylRt.reset

end Sys2Proof.Machine
end

