-- ==== Sys2Proof/Machine/Ops.lean ====
section
/-!
DEFINITION. The named operations over State that every family shares: the clock, register words and their fields,
parameters, free values, interrupts, host memory, events, and the ending of items.
-/

namespace Sys2Proof.Machine

/-- A command answers the next state `s`. -/
abbrev ok (s : State) : Out State := .next s

/-! ### Register words and fields -/

/-- What the word at BAR0 address `a` holds from power-on: the reset value of a register, the default of a parameter
(R22). -/
def initWord (a : Nat) : Word := if 0x80000 ≤ a % 0x100000 then paramDefault a else resetWord a

/-- The word at BAR0 address `a` (R9): as listed, else its reset value. -/
def State.word (s : State) (a : Nat) : Word := (Sp.find s.regs a).getD (initWord a)

/-- Set the word at BAR0 address `a`; a word at its reset value is not listed. -/
def State.setWord (s : State) (a : Nat) (v : Word) : State :=
  { s with regs := Sp.store s.regs (initWord a) a v }

/-- The mask of `n` bits from bit `lo`. -/
def maskAt (lo n : Nat) : Word := BitVec.ofNat 32 (2 ^ n - 1) <<< lo

/-- The `n`-bit field from bit `lo` of a word. -/
def fieldOf (w : Word) (lo n : Nat) : Nat := ((w >>> lo) &&& BitVec.ofNat 32 (2 ^ n - 1)).toNat

/-- The word with its `n`-bit field from bit `lo` set to `v`. -/
def putField (w : Word) (lo n v : Nat) : Word :=
  (w &&& ~~~ maskAt lo n) ||| ((BitVec.ofNat 32 v <<< lo) &&& maskAt lo n)

/-- The value of a field. -/
def State.get (s : State) (b : Bits) : Nat := fieldOf (s.word b.addr) b.lo b.width

/-- Set a field, keeping the rest of its word. -/
def State.set (s : State) (b : Bits) (v : Nat) : State := s.setWord b.addr (putField (s.word b.addr) b.lo b.width v)

/-- Whether a one-bit field is set. -/
def State.flag (s : State) (b : Bits) : Bool := s.get b != 0

/-- Set a one-bit field to a truth value. -/
def State.setFlag (s : State) (b : Bits) (v : Bool) : State := s.set b (if v then 1 else 0)

/-- The value of the register at `a`, read whole. -/
def State.rd (s : State) (a : Nat) : Nat := (s.word a).toNat

/-- Set the register at `a` whole. -/
def State.wr (s : State) (a v : Nat) : State := s.setWord a (BitVec.ofNat 32 v)

/-- The 64-bit register whose low word is at `a`. -/
def State.rd64 (s : State) (a : Nat) : Nat := s.rd a + s.rd (a + 4) * 2 ^ 32

/-- Set the 64-bit register whose low word is at `a`. -/
def State.wr64 (s : State) (a v : Nat) : State := (s.wr a (v % 2 ^ 32)).wr (a + 4) (v / 2 ^ 32)

/-- Count one more in the saturating counter at `a`. -/
def State.count (s : State) (a : Nat) : State := s.wr a (sat32 (s.rd a + 1))

/-- Count `n` more in the saturating counter at `a`. -/
def State.countBy (s : State) (a n : Nat) : State := s.wr a (sat32 (s.rd a + n))

/-! ### Parameters (R22 to R24) -/

/-- The live value of the parameter at `a`. -/
def State.param (s : State) (a : Nat) : Nat := ((Sp.find s.live a).getD (paramDefault a)).toNat

/-- Make `v` the live value of the parameter at `a`. -/
def State.setLive (s : State) (a : Nat) (v : Word) : State :=
  { s with live := Sp.store s.live (paramDefault a) a v }

/-- The state with other live parameter words: those an item or a long operation started with (R23). -/
def State.withLive (s : State) (l : Sp Word) : State := { s with live := l }

/-- Run `f` for an item that started with the live parameter words `l` (R23). -/
def State.under (s : State) (l : Sp Word) (f : State → State) : State := (f (s.withLive l)).withLive s.live

/-! ### The clock (R347, R348) -/

/-- `n` TIM cycles pass: device time advances by `n` increments of TIM_INCR. -/
def State.advance (s : State) (n : Nat) : State :=
  { s with cyc := s.cyc + n, ctr := s.ctr + n * s.rd64 Reg.TIM_INCR }

/-- The clock goes on to instant `t`; it never goes back. -/
def State.to (s : State) (t : Nat) : State := s.advance (t - s.cyc)

/-- Device time in nanoseconds (R8). -/
def State.devNs (s : State) : Nat := s.ctr / 2 ^ 40 % 2 ^ 64

/-- TIM cycles in a millisecond, in a second. -/
def cycMs : Nat := 500000
/-- TIM cycles in a second. -/
def cycS : Nat := 500000000
/-- TIM cycles in a microsecond. -/
def cycUs : Nat := 500

/-! ### Free values -/

/-- The next free word. -/
def State.freeVal (s : State) : BitVec 64 := Config.freeWord s.freeIdx

/-- The free word has been taken. -/
def State.tookFree (s : State) : State := { s with freeIdx := s.freeIdx + 1 }

/-! ### Regions -/

/-- TAG_RGN_STATE.STATE (Table RGN-8). -/
def State.rgnState (s : State) (r : Nat) : Nat := s.get (B.RGN_STATE_STATE r)

/-- Set TAG_RGN_STATE.STATE. -/
def State.setRgnState (s : State) (r v : Nat) : State := s.set (B.RGN_STATE_STATE r) v

/-- OFF, LOADING, RUN, DRAIN, RESET, HALTER (Table RGN-8). -/
abbrev rsOff : Nat := 0
/-- LOADING. -/
abbrev rsLoading : Nat := 1
/-- RUN. -/
abbrev rsRun : Nat := 2
/-- DRAIN. -/
abbrev rsDrain : Nat := 3
/-- RESET. -/
abbrev rsReset : Nat := 4
/-- HALTER. -/
abbrev rsHalter : Nat := 5

/-- Whether a region serves items (R17): RUN or HALTER; CHIP, code 0, always. -/
def State.up (s : State) (r : Nat) : Bool :=
  r == 0 || s.rgnState r == rsRun || s.rgnState r == rsHalter

/-- Halter mode (R459): CHIP_BOOT_STS.PHASE reads HALTER. -/
def State.halter (s : State) : Bool := s.get B.CHIP_BOOT_STS_PHASE == 6

/-- Block `b` of region `r` steps: the region serves items and the block is not restarting (R17, R31). -/
def State.runs (s : State) (r b : Nat) : Bool := s.up r && !s.rgn.restarting.contains (r, b)

/-! ### Interrupts (R88) -/

/-- Word `w` of the MSI-X table (Table HIF-2). -/
def State.msixWord (s : State) (w : Nat) : Word := (Sp.find s.hif.pcie.msix w).getD (msixInit w)

/-- MSI-X vector `v` fires once; while its table entry is masked it is pending (R57, R58; log entry 116). -/
def State.fire (s : State) (v : Nat) : State :=
  let masked := (s.msixWord (4 * v + 3)).getLsbD 0
  { s with hif := { s.hif with
    vectors := Sp.store s.hif.vectors 0 v (Sp.at s.hif.vectors 0 v + 1)
    pcie := if masked ∧ ¬ v ∈ s.hif.pcie.pba then { s.hif.pcie with pba := s.hif.pcie.pba ++ [v] } else s.hif.pcie } }

/-! ### Host memory (R5) -/

/-- The canonical form of host memory as the device has written it: addresses strictly rising. -/
abbrev Memory.wf (m : Sp Byte) : Bool := Sp.wf m

/-- The byte the device last wrote at bus address `a`; none where it wrote none. -/
def State.hostByte (s : State) (a : Nat) : Option Byte := Sp.find s.hostMem a

/-- Write bytes from bus address `a` up. -/
def writeBytes (m : Sp Byte) (a : Nat) (bs : List Byte) : Sp Byte :=
  match bs with
  | [] => m
  | b :: r => writeBytes (Sp.put m a b) (a + 1) r

/-- The device writes bytes to host memory. -/
def State.writeHost (s : State) (a : Nat) (bs : List Byte) : State := { s with hostMem := writeBytes s.hostMem a bs }

/-! ### Rings -/

/-- A ring beside its registers. -/
def State.ringOf (s : State) (n : Nat) : RingRt := Sp.at s.hif.rings RingRt.reset n

/-- Replace a ring's runtime. -/
def State.setRing (s : State) (n : Nat) (r : RingRt) : State :=
  { s with hif := { s.hif with rings := Sp.store s.hif.rings RingRt.reset n r } }

/-! ### Operation codes -/

/-- Operations that act when fetched and wait in no flow (R64, R83, R344, R458, R474, R501). -/
def actsAtFetch (op : Nat) : Bool :=
  (0x1000 ≤ op && op ≤ 0x1004) || op == 0x0010 || op == 0x0011 || (0x0020 ≤ op && op ≤ 0x0024) || op == 0x0030
    || op == 0xF001

/-- The operations the manual defines (check 1 of Table HIF-4). -/
def knownOp (op : Nat) : Bool :=
  actsAtFetch op || (0x5001 ≤ op && op ≤ 0x5002) || (0x6001 ≤ op && op ≤ 0x6003) || (0x7001 ≤ op && op ≤ 0x7004)
    || (0x7010 ≤ op && op ≤ 0x7013) || (0x8001 ≤ op && op ≤ 0x8004) || op == 0x9001 || (0x9010 ≤ op && op ≤ 0x9018)
    || (0xA001 ≤ op && op ≤ 0xA003) || op == 0xB001 || op == 0xB003 || op == 0xB004 || (0xC001 ≤ op && op ≤ 0xC010)
    || (0xE001 ≤ op && op ≤ 0xE005)

/-! ### Completions, events and owners (R28, R53) -/

/-- Whether the host owns a policy function, as in force since the last superframe start (R54). -/
def State.hostOwns (s : State) (f : PolicyFn) : Bool := s.hif.own / 2 ^ f.bit % 2 == 1

/-- The 32 bytes of a completion as its TAG, PHASE and EVENT stand (Table HIF-5). -/
def Completion.bytes (c : Completion) (tag : Nat) (phase : Nat) : List Byte :=
  leBytes 2 tag
    ++ leBytes 1 (c.status.code + (if c.event then 64 else 0) + phase * 128)
    ++ leBytes 2 (c.region + c.cell % 0x1000 * 16)
    ++ leBytes 3 (c.time / 2 ^ 16)
    ++ leBytes 8 c.res.r0 ++ leBytes 8 c.res.r1 ++ leBytes 8 c.res.r2

/-- A completion as a packet of MQF queue 0: its 32 bytes as four data words (DESIGN CHOICE, log entry 8). -/
def Completion.packet (c : Completion) (it : Item) : Packet := ⟨0, 0, wordsOf (c.bytes c.tag 0), [], some (it, c)⟩

/-- A completion or event goes to MQF queue 0: into its region's staging buffer, or it waits at its source while that
buffer holds a closed packet (R114, R115). -/
def State.toQueue0 (s : State) (it : Item) (c : Completion) : State :=
  match Sp.find s.mqf.staging c.region with
  | none => { s with mqf := { s.mqf with staging := Sp.put s.mqf.staging c.region (c.packet it) } }
  | some _ => { s with hif := { s.hif with evtWait := s.hif.evtWait ++ [(c.region, it, c)] } }

/-- A completion waits in HIF for its writing on ring `n` (R61). -/
def State.toRing (s : State) (n : Nat) (k : FinKind) (it : Item) (c : Completion) : State :=
  let r := s.ringOf n
  s.setRing n { r with fin := r.fin ++ [⟨k, it, c⟩] }

/-- A completion of an item that did not come from a ring goes to the owner of its function (R53): the ring of
EVT_RING where the host owns it and the link is up (R55), else MQF queue 0. -/
def State.toOwner (s : State) (it : Item) (c : Completion) : State :=
  match it.fn with
  | some f =>
    if s.hostOwns f ∧ s.hif.linkUp then
      s.toRing (s.get B.SVC_POLICY_OWN_EVT_RING) .normal it { c with event := true }
    else s.toQueue0 it c
  | none => s.toQueue0 it c

/-- An earlier FENCE item of the ring, or the item itself as a FENCE item, holds it: some item fetched from the ring
before that FENCE item has not completed (R65). -/
def State.fenced (s : State) (it : Item) : Bool :=
  match it.src with
  | .ring n _ =>
    let out := (s.ringOf n).out.filter (fun o => match o.src with | .ring _ _ => true | _ => false)
    out.any (fun o => o.id == it.id) &&
      (((out.takeWhile (fun o => o.id != it.id)) ++ [it]).drop 1).any (fun o => o.d.fence)
  | _ => false

/-- The longest-waiting completion or event of region `r` enters its staging buffer of queue 0, once that is free (R114,
R115). -/
def State.nextEvent (s : State) (r : Nat) : State :=
  match Sp.find s.mqf.staging r, s.hif.evtWait.find? (fun p => p.1 == r) with
  | none, some p =>
    let s := { s with hif := { s.hif with
      evtWait := s.hif.evtWait.takeWhile (fun (x : Nat × Item × Completion) => x.1 != r)
        ++ (s.hif.evtWait.dropWhile (fun (x : Nat × Item × Completion) => x.1 != r)).drop 1 } }
    s.toQueue0 p.2.1 p.2.2
  | _, _ => s

/-- The host receives what ends item `it`: it owns the item's function and the link is up (R53, R55). -/
def State.hostGets (s : State) (it : Item) : Bool :=
  match it.fn with
  | some f => s.hostOwns f && s.hif.linkUp
  | none => false

/-- Completions of items that came from no ring, not yet written, go to the owner of the moment (R54, R55): the host's
that wait in a ring pass to MQF queue 0 where the host is no longer to receive them, and those that wait before queue 0
pass to the host's ring where it now is. -/
def State.reroute (s : State) : State :=
  let stays (f : Fin_) : Bool := !f.c.event || s.hostGets f.item
  let back := (s.hif.rings.map (fun p => p.2.fin.filter (fun f => !stays f))).flatten
  let ahead (p : Packet) : Bool := match p.ends with | some (it, _) => s.hostGets it | none => false
  let lost := (s.mqf.staging.filter (fun p => ahead p.2)).filterMap (fun p => p.2.ends)
    ++ (s.hif.evtWait.filter (fun p => s.hostGets p.2.1)).map Prod.snd
  let s := { s with
    hif := { s.hif with
      rings := s.hif.rings.map (fun (p : Nat × RingRt) => (p.1, { p.2 with fin := p.2.fin.filter stays }))
      evtWait := s.hif.evtWait.filter (fun p => !s.hostGets p.2.1) }
    mqf := { s.mqf with staging := s.mqf.staging.filter (fun p => !ahead p.2) } }
  let s := (List.range 16).foldl (fun (s : State) r => s.nextEvent r) s
  let s := back.foldl (fun (s : State) f => s.toQueue0 f.item { f.c with event := false }) s
  lost.foldl (fun (s : State) x => s.toOwner x.1 x.2) s

/-- In halter mode HIF passes the items of a ring one at a time (R82): the undefined operations at the front of what is
still to be passed complete REJ_OPCODE, but for one that a fence holds (R65). -/
def State.passUnknown (s : State) (n : Nat) : State :=
  if s.halter then
    ((s.ringOf n).out.foldl (fun (p : State × Bool) it =>
      if p.2 ∨ actsAtFetch it.d.opcode.toNat ∨ (s.ringOf n).fin.any (fun f => f.item.id == it.id) then p
      else if knownOp it.d.opcode.toNat ∨ s.fenced it then (p.1, true)
      else (p.1.toRing n .normal it
        ⟨it.d.tag.toNat, .rejOpcode, false, it.d.opcode.toNat / 0x1000, noCell, p.1.devNs, Res.zero⟩, false)) (s, false)).1
  else s

/-- Deliver a completion (R28): a ring item's to its own ring, any other to the owner of its function. -/
def State.deliver (s : State) (it : Item) (c : Completion) : State :=
  match it.ring? with
  | some n =>
    let r := s.ringOf n
    let s' := s.setRing n { r with staleIds := r.staleIds.filter (· != it.id) }
    (s'.toRing n (if it.id ∈ r.staleIds then .stale else .normal) it c).passUnknown n
  | none => s.toOwner it c

/-- The item that stands for an event, which no descriptor started. -/
def eventItem (f : Option PolicyFn) : Item := ⟨0, .internal, f, Desc.zero, false, .fresh⟩

/-- Post an event of function `f` from region `r`: `code` in RESULT_0[7:0], `arg` above it. -/
def State.event (s : State) (f : PolicyFn) (r : Nat) (code arg r1 r2 : Nat) : State :=
  s.toOwner (eventItem (some f)) ⟨0, .done, false, r, noCell, s.devNs, ⟨code + arg * 256, r1, r2⟩⟩

/-! ### The ending of items -/

/-- Whether an entry of the dispatcher holds item `id`. -/
def State.entryOf? (s : State) (id : Nat) : Option Entry := s.dsp.entries.find? (fun e => e.item.id == id)

/-- The dispatcher marks the entry of item `id` ended with completion `c` (R93). -/
def endEntry (es : List Entry) (id : Nat) (c : Completion) : List Entry :=
  es.map (fun e => if e.item.id = id then { e with place := .ended c } else e)

/-- No item `id` waits for its WHEN any more. -/
def State.unwait (s : State) (id : Nat) : State :=
  { s with waiting := s.waiting.filter (fun c => (c.item?.map Item.id) != some id) }

/-- The flow `f` is held while one of its entries belongs to an item that waits on its WHEN, or to a running long
operation (Table DSP-8). -/
def State.flowHeld (s : State) (f : Nat) : Bool :=
  s.dsp.entries.any (fun e => e.flow == f &&
    (match e.place with
     | .at_ _ => s.waiting.any (fun c => (c.item?.map Item.id) == some e.item.id)
                 || s.hif.longs.any (fun l => l.carrier.id == e.item.id && l.state != .suspended)
     | _ => false))

/-- Report whether a flow is held (DSP_FLOW_n_STS.HELD). -/
def State.reportHeld (s : State) (f : Nat) : State :=
  if f < 1024 then s.setFlag (B.DSP_FLOW_STS_HELD f) (s.flowHeld f) else s

/-- The status an item that would return `st` returns: DONE_LATE for DONE where its WHEN had passed (R66). -/
def Item.statusOf (it : Item) (st : Status) : Status :=
  if st = .done ∧ it.wait = .late then .doneLate else st

/-- The flow number of entries that a DSP region reset took out of their flows: their items run on, and their completions
are released as they end (R95). -/
def orphanFlow : Nat := 1024

/-- End an item: one completion from `region` and `cell`, released by the dispatcher in flow order where the item holds
an entry (R93), else delivered at once. -/
def State.finishAt (s : State) (it : Item) (region cell : Nat) (st : Status) (r : Res) : State :=
  let c : Completion := ⟨it.d.tag.toNat, it.statusOf st, false, region, cell, s.devNs, r⟩
  let s := { s.unwait it.id with rgn := { s.rgn with inbox := s.rgn.inbox.filter (fun p => p.2.id != it.id) } }
  match s.entryOf? it.id with
  | some e =>
    if e.flow = orphanFlow then
      ({ s with dsp := { s.dsp with entries := s.dsp.entries.filter (fun x => x.item.id != it.id) } }).deliver it c
    else ({ s with dsp := { s.dsp with entries := endEntry s.dsp.entries it.id c } }).reportHeld e.flow
  | none => s.deliver it c

/-- End an item, not cell-specific. -/
def State.finish (s : State) (it : Item) (region : Nat) (st : Status) (r : Res := Res.zero) : State :=
  s.finishAt it region noCell st r

/-- An item goes on from its stage to stage `st` of the chain: it waits there for dispatch (R92). One that a DSP reset
took out of its flow re-enters it there, behind what has entered since (R95; DEDUCED, log entry 119). -/
def State.passOn (s : State) (it : Item) (st : Stage) : State :=
  let move (e : Entry) : Entry :=
    if e.item.id = it.id then
      { e with item := it, flow := if e.flow = orphanFlow then it.flow else e.flow, place := .waiting st s.cyc }
    else e
  { s with dsp := { s.dsp with entries :=
      (s.dsp.entries.filter (fun e => !(e.item.id == it.id && e.flow == orphanFlow))).map move
        ++ (s.dsp.entries.filter (fun e => e.item.id == it.id && e.flow == orphanFlow)).map move } }

/-- An item reaches the dispatcher at a source port (Table DSP-1). -/
def State.toPort (s : State) (p : Nat) (it : Item) : State :=
  { s with dsp := { s.dsp with ports := Sp.store s.dsp.ports [] p (Sp.at s.dsp.ports [] p ++ [it]) } }

/-- The next item identity is taken. -/
def State.tookId (s : State) : State := { s with hif := { s.hif with nextId := s.hif.nextId + 1 } }

/-! ### Error summary (Table MAP-2) -/

/-- CHIP_ERR_SUM as the error registers stand: bit 0 while CHIP_ERR_STS is non-zero, bit r while region r has an error
bit set and ERR_IRQ is 1. -/
def State.errSum (s : State) : Nat :=
  (if s.rd Reg.CHIP_ERR_STS = 0 then 0 else 1) +
  (List.range 15).foldl (fun n i =>
    let r := i + 1
    if s.rd (Reg.RGN_ERR r) ≠ 0 ∧ s.flag (B.RGN_CTL_ERR_IRQ r) then n + 2 ^ r else n) 0

/-- Report CHIP_ERR_SUM; vector 64 fires when it changes from zero to non-zero. -/
def State.sumErrors (s : State) : State :=
  let old := s.rd Reg.CHIP_ERR_SUM
  let new := s.errSum
  let s := s.wr Reg.CHIP_ERR_SUM new
  if old = 0 ∧ new ≠ 0 then s.fire 64 else s

/-- The wake from Stabled begins for sources `bits` of Table PWR-7 (R475); sources confirmed in the same cycle are
recorded together. -/
def State.beginWake (s : State) (bits : Nat) : State :=
  match s.chip.stabled, s.chip.wakeAt with
  | true, none =>
    (({ s with chip := { s.chip with wakeAt := some s.cyc } }).set B.CHIP_PWR_STS_PSTATE 2).set
      B.CHIP_PWR_STS_WAKE_SRC bits
  | true, some t =>
    if t = s.cyc then s.set B.CHIP_PWR_STS_WAKE_SRC (s.get B.CHIP_PWR_STS_WAKE_SRC ||| bits) else s
  | false, _ => s

/-! ### Contexts of AIR -/

/-- A context beside its registers. -/
def State.airCtx (s : State) (n : Nat) : AirCtx := Sp.at s.air.ctx AirCtx.reset n

/-- Replace a context beside its registers, and report JOIN_PENDING, KEY_LIVE and REKEYING (Table AIR-25). -/
def State.setAirCtx (s : State) (n : Nat) (x : AirCtx) : State :=
  let s := { s with air := { s.air with ctx := Sp.store s.air.ctx AirCtx.reset n x } }
  let s := s.setFlag (B.AIR_CTX_SESS_JOIN_PENDING n) x.joinReq.isSome
  let s := s.setFlag (B.AIR_CTX_SESS_KEY_LIVE n) (x.key.isSome || (x.joining.bind Joining.key).isSome)
  s.setFlag (B.AIR_CTX_SESS_REKEYING n) x.nextKey.isSome

end Sys2Proof.Machine
end

