-- ==== Sys2Proof/Machine/BylLink.lean ====
section
/-!
DEFINITION. Frames of the Biyth link as the chip sends them, and as they arrive over its lanes (R485 to R490): what every command
that a frame brings shares.
-/

namespace Sys2Proof.Machine

/-- Send a frame to the partner while the link is UP: classes 1 to 3 stay until acknowledged (R490). -/
def State.bylSend (s : State) (x : BylOut) : State :=
  if s.get B.BYL_LINK_STS_STATE = 3 then
    let c := x.class_
    if c = 0 then { s with byl := { s.byl with sent := [x] } }
    else
      let q := Sp.at s.byl.txNext 0 c
      let l := Sp.at s.byl.tx [] c
      { s with byl := { s.byl with
          tx := Sp.store s.byl.tx [] c (l ++ [(q, x)]), txNext := Sp.store s.byl.txNext 0 c (q + 1),
          ackAt := if l.isEmpty then Sp.store s.byl.ackAt 0 c s.cyc else s.byl.ackAt } }
  else s

/-- What the lanes have brought goes through descramblers and deskew into the chunk stream (R485, R486). -/
def State.feed (s : State) (rx : BylRx) : State :=
  let w := widthLanes (s.get B.BYL_LINK_STS_WIDTH)
  let ls := (List.range w).map (fun k => laneChunks (s.byl.rxScr.getD k 0) (rx.lanes.getD k []))
  { s with byl := { s.byl with rxScr := ls.map Prod.snd, rxChunks := s.byl.rxChunks ++ weave w (ls.map Prod.fst) } }

/-- The next frame of the stream, where its TYPE is `type` in its class (Tables BYL-4, BYL-5); a frame of another TYPE is
dropped. -/
def State.takeFrame (s : State) (rx : BylRx) (type : Nat) : State × Option BylFrame :=
  if s.get B.BYL_LINK_STS_STATE < 2 ∨ !s.runs 15 blkLanes then (s, none)
  else
    let s := s.feed rx
    let (f, rest) := firstFrame s.byl.rxChunks
    ({ s with byl := { s.byl with rxChunks := rest } },
      f.bind (fun f => if f.type = type ∧ f.class_ = typeClass type then some f else none))

/-- A sealed frame over a link that is UP: header and payload, where its tag verifies (R488). -/
def State.takeSealed (s : State) (rx : BylRx) (type : Nat) : State × Option (BylFrame × List Byte) :=
  let (u, f) := s.takeFrame rx type
  (u, f.bind (fun f => if u.get B.BYL_LINK_STS_STATE = 3 then rx.opens.map (fun p => (f, fitBytes f.len p)) else none))

/-- A frame of class 0: one whose SEQ does not exceed the last one received is dropped (R490). -/
def State.accept0 (s : State) (rx : BylRx) (type : Nat) (act : State → List Byte → State) : State :=
  let u := (s.takeSealed rx type).1
  match (s.takeSealed rx type).2 with
  | some (f, p) =>
    if (match u.byl.lastSeq with | some q => decide (q < f.seq) | none => true) then
      act { u with byl := { u.byl with lastSeq := some f.seq } } p
    else u
  | none => u

/-- The partner has acknowledged frames of class `c` up to SEQ `q`. -/
def State.takeAck (s : State) (c : Nat) (ack : Option Nat) : State :=
  match ack with
  | none => s
  | some q =>
    let l := Sp.at s.byl.tx [] c
    let l' := l.filter (fun p => decide (q < p.1))
    if l'.length = l.length then s
    else { s with byl := { s.byl with
      tx := Sp.store s.byl.tx [] c l', ackAt := Sp.store s.byl.ackAt 0 c s.cyc } }

/-- A chip with nothing to send in a class acknowledges with ACK_ONLY (R490). -/
def State.ackOnly (s : State) (c q : Nat) : State :=
  if (Sp.at s.byl.tx [] c).isEmpty then { s with byl := { s.byl with sent := [.ackOnly c q] } } else s

/-- A frame of a class from 1 to 3 (R490): its ACK counts; only the next SEQ of the class is accepted. -/
def State.accept (s : State) (rx : BylRx) (type : Nat) (act : State → List Byte → State) : State :=
  let c := typeClass type
  let u := (s.takeSealed rx type).1
  match (s.takeSealed rx type).2 with
  | some (f, p) =>
    let s := u.takeAck c f.ack
    if f.seq = Sp.at s.byl.rxNext 0 c then
      (act { s with byl := { s.byl with rxNext := Sp.store s.byl.rxNext 0 c (f.seq + 1) } } p).ackOnly c f.seq
    else s
  | none => u

end Sys2Proof.Machine
end

