-- ==== Sys2Proof/Machine/Operands.lean ====
section
/-!
DEFINITION. The checks every descriptor passes before it acts (R63 to R69, Table HIF-4), and the course of long
operations (R83 to R87).
-/

namespace Sys2Proof.Machine

/-- Bits [hi:lo] of an argument word. -/
def argBits (w : BitVec 64) (hi lo : Nat) : Nat := w.toNat / 2 ^ lo % 2 ^ (hi - lo + 1)

/-- One bit of an argument word. -/
def argBit (w : BitVec 64) (i : Nat) : Bool := w.getLsbD i

/-- The outcome of an operation's own checks of Table HIF-4: range, version, key and state; true where it passes. -/
structure Checks where
  range   : Bool
  version : Bool
  key     : Bool
  state   : Bool
  deriving DecidableEq, Repr

/-- Every check passes. -/
def Checks.pass : Checks := ⟨true, true, true, true⟩

/-- What the checks of Table HIF-4 answer: a rejection, a wait for WHEN, or to act, late or not (R66). -/
inductive Verdict where
  | reject (st : Status)
  | wait
  | act (late : Bool)
  deriving DecidableEq, Repr

/-- Operations halter mode serves (R82); ATTEST without a slot and PUBKEY of an identity key only. -/
def halterServes (d : Desc) : Bool :=
  let op := d.opcode.toNat
  (0x1000 ≤ op && op ≤ 0x1004) || op == 0x0010 || op == 0x0011 || (0x0020 ≤ op && op ≤ 0x0024) || op == 0xB003
    || (op == 0xC00C && argBit d.arg0 10) || (op == 0xC00B && argBit d.arg0 9)

/-- Operations a chip in COLD or HOT rejects (R480); SELF_SURVEY only with APPLY set. -/
def standbyRejects (d : Desc) : Bool :=
  let op := d.opcode.toNat
  op == 0x7010 || op == 0x7012 || op == 0x7013 || op == 0x7001 || op == 0x7003
    || (0x8001 ≤ op && op ≤ 0x8004) || op == 0x9001 || op == 0x5001 || (op == 0x5002 && argBit d.arg1 1)
    || (0x9010 ≤ op && op ≤ 0x9015) || op == 0x9017

/-- BYL_PAIR_STS.ROLE is COLD or HOT (Table BYL-1). -/
def State.standby (s : State) : Bool := s.get B.BYL_PAIR_STS_ROLE == 1 || s.get B.BYL_PAIR_STS_ROLE == 2

/-- FLOW and CONTEXT of an item as R64 requires: both 0 for an operation that acts when fetched; else, of a ring's item, a
flow of 256 to 1,023 where CONTEXT is 0. Items of no ring with CONTEXT 0 use flow 0 whatever FLOW holds (R46). -/
def flowLegal (it : Item) : Bool :=
  if actsAtFetch it.d.opcode.toNat then it.d.flow == 0 && it.d.context == 0
  else it.d.context != 0 || 256 ≤ it.d.flow.toNat || it.ring?.isNone

/-- WHEN lies more than 86,400 s after the present device time (R67). -/
def State.tooFar (s : State) (w : Nat) : Bool := s.devNs + 86400 * 10 ^ 9 < w

/-- E in fs where it grows from its start: E0 + Y·t + α·t²/2 (R358). -/
def State.grownE (s : State) : Nat :=
  let c := s.cyc - s.tim.growAt
  s.tim.e0 + (2 * s.param P.OSC_FREQ_UNC * 1000 * c * cycS + s.param P.OSC_AGEING * c * c) / (2 * cycS * cycS)

/-- The time quality at this moment: what TIM_STS holds, but FREE from the moment the growing E passes HOLDOVER_LIMIT
(Table TIM-8, R358; log entry 110). -/
def State.qualityNow (s : State) : Nat :=
  let q := s.get B.TIM_STS_QUALITY
  if q = 2 ∧ s.get B.TIM_STS_SELECTED = 0 ∧ s.param P.HOLDOVER_LIMIT * 10 ^ 8 < s.grownE then 1 else q

/-- Time quality is UNSET (Table TIM-8). -/
def State.timeUnset (s : State) : Bool := s.get B.TIM_STS_QUALITY == 0

/-- The verdict on an item, in the order of Table HIF-4. An item whose WHEN has come is checked for its state again
(DEDUCED, log entry 5); one that waits in no flow is checked for its state and for time quality UNSET only then (R67). -/
def State.judge (s : State) (it : Item) (k : Checks) : Verdict :=
  let w := it.d.when_.toNat
  let noFlow := (s.halter || actsAtFetch it.d.opcode.toNat) && (s.entryOf? it.id).isNone
  let state := k.state && !(w != 0 && s.timeUnset)
  let atAct := if noFlow then state else k.state
  match it.wait with
  | .due => if atAct then .act false else .reject .rejState
  | .late =>
    if !atAct then .reject .rejState else if it.d.noLate then .reject .rejExpired else .act true
  | _ =>
    if !(flowLegal it && k.range && !s.tooFar w) then .reject .rejRange
    else if !k.version then .reject .rejVersion
    else if !k.key then .reject .rejKey
    else if (s.halter && !halterServes it.d) || (s.standby && standbyRejects it.d)
        || (!state && !(noFlow && decide (s.devNs < w))) then .reject .rejState
    else if w = 0 then .act false
    else if s.devNs < w then .wait
    else if it.d.noLate then .reject .rejExpired
    else .act true

/-- In halter mode an item of a ring that does not act when fetched waits until the previous such item has ended (R82). -/
def State.behind (s : State) (it : Item) : Bool :=
  match it.src with
  | .ring n _ =>
    let r := s.ringOf n
    s.halter && !actsAtFetch it.d.opcode.toNat && r.out.any (fun o => o.id == it.id) &&
      (r.out.takeWhile (fun o => o.id != it.id)).any (fun o =>
        !actsAtFetch o.d.opcode.toNat && !r.fin.any (fun f => f.item.id == o.id))
  | _ => false

/-- An item that passes no dispatcher: one that acts when fetched, one raised inside the chip, a ring's item in halter
mode (R82, R83). -/
def State.unrouted (s : State) (it : Item) : Bool :=
  s.halter || actsAtFetch it.d.opcode.toNat || it.src == .internal

/-- The item is where it may act: at its stage where the dispatcher holds an entry of it; without an entry, only where it
passes no dispatcher (R92, R94). -/
def State.placed (s : State) (it : Item) : Bool :=
  match s.entryOf? it.id with
  | some e => match e.place with | .at_ _ => true | _ => false
  | none => s.unrouted it && !s.dsp.ports.any (fun p => p.2.any (fun x => x.id == it.id))

/-- An item does not act yet. -/
def State.barred (s : State) (it : Item) : Bool := s.fenced it || s.behind it || !s.placed it

/-- The item as it acts: late, or in time. -/
def Item.acting (it : Item) (late : Bool) : Item := { it with wait := if late then .late else .due }

/-- An item waits in its region for its WHEN (R66): the command `self` is kept to be run again. -/
def State.holdWhen (s : State) (it : Item) (self : Item → Instr) : State :=
  let s := { s.unwait it.id with waiting := (s.unwait it.id).waiting ++ [self { it with wait := .held }] }
  match s.entryOf? it.id with
  | some e => s.reportHeld e.flow
  | none => s

/-- Run an operation of region `r`: while the region serves no items (R17) or the block that executes it restarts (R31), a
fence holds the item (R65), or it is not at
its stage, nothing happens yet; in halter mode an operation of a region that does not run completes REJ_STATE (R82); else
the verdict decides: `wait` where the WHEN lies ahead, `act` with the item as it acts. -/
def State.runOpWith (s : State) (r : Nat) (it : Item) (k : Checks) (wait act : State → Item → State) : State :=
  if s.barred it then s
  else if !s.up r then (if s.halter then s.finish it r .rejState else s)
  else if !s.runs r (blockOf it.d.opcode.toNat) then s
  else
    match s.judge it k with
    | .reject st => s.finish it r st
    | .wait => wait s it
    | .act late => act (s.unwait it.id) (it.acting late)

/-- Run an operation whose WHEN is waited for in its region; `self` is the operation with its item. -/
def State.runOp (s : State) (r : Nat) (it : Item) (self : Item → Instr) (k : Checks) (act : State → Item → State) :
    State :=
  s.runOpWith r it k (fun s it => s.holdWhen it self) act

/-! ### Long operations -/

/-- The handle of an item that starts a long operation: its ring and TAG (an item of the service firmware has no ring;
64 stands for it). -/
def Item.handle (it : Item) : Nat × Nat := (it.ring?.getD 64, it.d.tag.toNat)

/-- The long operation of a handle. -/
def State.longOf? (s : State) (ring tag : Nat) : Option LongOp :=
  s.hif.longs.find? (fun l => l.ring == ring && l.tag == tag)

/-- Replace the long operation of the same handle. -/
def State.putLong (s : State) (l : LongOp) : State :=
  { s with hif := { s.hif with
      longs := s.hif.longs.map (fun x => if x.ring = l.ring ∧ x.tag = l.tag then l else x) } }

/-- No long operation has the handle any more. -/
def State.dropLong (s : State) (ring tag : Nat) : State :=
  { s with hif := { s.hif with longs := s.hif.longs.filter (fun x => !(x.ring == ring && x.tag == tag)) } }

/-- The results of R84. -/
def LongOp.res (l : LongOp) : Res := ⟨l.done, l.total, l.word + l.tag * 2 ^ 32 + l.ring % 64 * 2 ^ 48⟩

/-- A long operation starts, carried by `it` (R85: RUNNING). -/
def State.startLong (s : State) (it : Item) (region total word : Nat) : State :=
  let l : LongOp := ⟨it.handle.1, it.handle.2, it, region, .running, 0, total, word, none, 0, it.d, s.live⟩
  let s := { s with hif := { s.hif with longs := s.hif.longs ++ [l] } }
  match s.entryOf? it.id with
  | some e => s.reportHeld e.flow
  | none => s

/-- A long operation ends with status `st` and ORIGIN `region` and `cell`: its carrier completes with its progress, and a
control item that waited for a safe point completes REJ_STATE (R84, R86). -/
def State.endLongAt (s : State) (l : LongOp) (region cell : Nat) (st : Status) : State :=
  let s := (s.dropLong l.ring l.tag).finishAt l.carrier region cell st l.res
  match l.ctl with
  | some c => s.finish c 1 .rejState
  | none => s

/-- A long operation ends by itself: ORIGIN names its region. -/
def State.endLong (s : State) (l : LongOp) (st : Status) : State := s.endLongAt l l.region noCell st

/-- At a safe point: a pending SUSPEND or CANCEL takes effect (R85, Table HIF-9). -/
def State.safePoint (s : State) (l : LongOp) : State :=
  match l.state with
  | .stopPending =>
    let s := (s.putLong { l with state := .suspended, ctl := none }).finish l.carrier l.region .suspended l.res
    match l.ctl with
    | some c => s.finish c 1 .done l.res
    | none => s
  | .cancelPending =>
    let s := (s.dropLong l.ring l.tag).finish l.carrier l.region .cancelled l.res
    match l.ctl with
    | some c => s.finish c 1 .done l.res
    | none => s
  | _ => s

/-- Whether the carrier of a long operation is at its stage: not waiting in its flow after a RESUME (R86). -/
def State.longAtStage (s : State) (l : LongOp) : Bool :=
  match s.entryOf? l.carrier.id with
  | some e => match e.place with | .at_ _ => true | _ => false
  | none => !s.dsp.ports.any (fun p => p.2.any (fun x => x.id == l.carrier.id))

end Sys2Proof.Machine
end

