-- ==== Sys2Proof/Machine/Flags.lean ====
section
/-!
DEFINITION. Status fields computed from the state they report: ring status, pool and flow status, region error records.
-/

namespace Sys2Proof.Machine

/-! ### Rings (Tables HIF-12, HIF-15) -/

/-- S of a ring. -/
def State.sqLog (s : State) (n : Nat) : Nat := s.get (B.HIF_RING_CFG_SQ_LOG2 n)

/-- C of a ring. -/
def State.cqLog (s : State) (n : Nat) : Nat := s.get (B.HIF_RING_CFG_CQ_LOG2 n)

/-- A difference of free-running indices, modulo 2^32. -/
def idxDiff (a b : Nat) : Nat := (a + 2 ^ 32 - b % 2 ^ 32) % 2 ^ 32

/-- The completion ring has room: CQ_PI − CQ_HEAD is less than 2^C (R61). -/
def State.cqRoom (s : State) (n : Nat) : Bool :=
  idxDiff (s.rd (Reg.HIF_RING_CQ_PI n)) (s.ringOf n).cqHead < 2 ^ s.cqLog n

/-- Whether a ring is enabled. -/
def State.ringOn (s : State) (n : Nat) : Bool := s.flag (B.HIF_RING_CTL_ENABLE n)

/-- Report ACTIVE, CQ_FULL and OUTSTANDING of a ring; a descriptor released by a cue was not fetched and does not count
(R368). -/
def State.reportRing (s : State) (n : Nat) : State :=
  let r := s.ringOf n
  let s := s.set (B.HIF_RING_STS_OUTSTANDING n) (r.out.filter (fun o => match o.src with | .ring _ _ => true | _ => false)).length
  let s := s.setFlag (B.HIF_RING_STS_CQ_FULL n) (s.ringOn n && !r.fin.isEmpty && !s.cqRoom n)
  s.setFlag (B.HIF_RING_STS_ACTIVE n) (s.ringOn n && !s.flag (B.HIF_RING_STS_RECOVERING n))

/-- Set a ring status event bit and raise the ring's vector (Table HIF-10). -/
def State.ringEvent (s : State) (n : Nat) (b : Bits) : State := (s.setFlag b true).fire n

/-! ### The dispatcher's pool (R97) -/

/-- Recompute curb after FREE has changed: asserted below CURB_ON, released above CURB_OFF; and the sources it curbs
(Table DSP-3). -/
def State.reportCurb (s : State) : State :=
  let free := s.get B.DSP_POOL_STS_FREE
  let curb := if free < s.get B.DSP_POOL_CFG_CURB_ON then true
    else if s.get B.DSP_POOL_CFG_CURB_OFF < free then false
    else s.flag B.DSP_POOL_STS_CURB
  let s := s.setFlag B.DSP_POOL_STS_CURB curb
  s.wr Reg.DSP_CURB_SRC (if curb then 0x1FFF else 0)

/-- Entries of flow `f`. -/
def State.flowEntries (s : State) (f : Nat) : List Entry := s.dsp.entries.filter (fun e => e.flow == f)

/-- Items of flow `f` that count against MAX_INFLIGHT (R94). -/
def State.inflight (s : State) (f : Nat) : Nat := ((s.flowEntries f).filter (fun e => !e.item.obs)).length

/-- Report INFLIGHT, HELD and AT_LIMIT of a flow (Table DSP-8). -/
def State.reportFlow (s : State) (f : Nat) : State :=
  let s := s.set (B.DSP_FLOW_STS_INFLIGHT f) (s.flowEntries f).length
  let s := s.setFlag (B.DSP_FLOW_STS_AT_LIMIT f) (s.get (B.DSP_FLOW_CFG_MAX_INFLIGHT f) ≤ s.inflight f)
  s.reportHeld f

/-- Entries of ring `n`'s input buffer in use (R98); a RESUME that waits for its flow takes none (R83). -/
def State.buffered (s : State) (n : Nat) : Nat :=
  ((Sp.at s.dsp.ports [] n).filter (fun x => !actsAtFetch x.d.opcode.toNat)).length

/-- The ring input buffer of ring `n` is full: the ring is curbed (R98, DSP_CURB_RING). -/
def State.reportRingCurb (s : State) (n : Nat) : State :=
  let full := 16 ≤ s.buffered n
  let v := s.rd64 Reg.DSP_CURB_RING
  let v' := if full then v ||| 2 ^ n else v - (v &&& 2 ^ n)
  s.wr64 Reg.DSP_CURB_RING v'

/-! ### Region error registers (Tables RGN-8 to RGN-11) -/

/-- Set an error bit of region `r` and report the summary. -/
def State.rgnErr (s : State) (b : Bits) : State := (s.setFlag b true).sumErrors

/-- Record an error in TAG_RGN_ERR_INFO: the most recent one of the highest level since TAG_RGN_ERR was last cleared. -/
def State.rgnInfo (s : State) (r level block cell : Nat) (c : ErrCause) : State :=
  if Sp.at s.rgn.infoLevel 0 r ≤ level + 1 then
    let s := { s with rgn := { s.rgn with infoLevel := Sp.store s.rgn.infoLevel 0 r (level + 1) } }
    s.wr (Reg.RGN_ERR_INFO r) (block % 256 + cell % 2 ^ 16 * 2 ^ 8 + c.code * 2 ^ 24 + level * 2 ^ 28)
  else s

/-- Report the number of retired cells of region `r`. -/
def State.reportRetired (s : State) (r : Nat) : State :=
  s.set (B.RGN_STATE_RETIRED r) (s.rgn.retired.filter (fun p => p.1 == r)).length

/-- Set a bit of CHIP_ERR_STS and report the summary. -/
def State.chipErr (s : State) (b : Bits) : State := (s.setFlag b true).sumErrors

end Sys2Proof.Machine
end

