-- ==== Sys2Proof/Machine/Access.lean ====
section
/-!
DEFINITION. Register accesses (R9, R10, R529 to R534): the windows, the access types, 64-bit registers and reserved
bits. What a write does beyond its access type is in RegWrite.lean.
-/

namespace Sys2Proof.Machine

/-- A requester's state at the windows. -/
def State.busOf (s : State) (rq : Requester) : BusRt := Sp.at s.bus BusRt.reset rq.val

/-- Replace a requester's state at the windows. -/
def State.setBus (s : State) (rq : Requester) (b : BusRt) : State :=
  { s with bus := Sp.store s.bus BusRt.reset rq.val b }

/-- Note an access of a requester in the window of its address (R531, R532). -/
def State.noteAccess (s : State) (rq : Requester) (a : Nat) (write : Bool) : State :=
  let b := s.busOf rq
  s.setBus rq { b with last := Sp.put b.last (a / 0x100000) (a, write) }

/-- What the requester's read returns. -/
def State.answer (s : State) (rq : Requester) (v : Word) : State :=
  let b := s.busOf rq
  s.setBus rq { b with readData := v }

/-- Whether the word at `a` is served: CHIP always, alone while a HOST boot waits for its images (R448); in RESET, LOADING
and OFF only the common block of a region (R534). -/
def State.served (s : State) (a : Nat) : Bool :=
  let r := a / 0x100000
  r == 0 ||
    (s.get B.CHIP_BOOT_STS_PHASE != 7 &&
      (a % 0x100000 < 0x34 ||
        !(s.rgnState r == rsOff || s.rgnState r == rsLoading || s.rgnState r == rsReset)))

/-- JTAG reaches the windows: the debug policy is OPEN or UNLOCKED, and WHOA reports SERVICE_OK (R464, R528). -/
def State.jtagOpen (s : State) : Bool :=
  (s.get B.CHIP_DEBUG_POLICY == 0 || s.get B.CHIP_DEBUG_POLICY == 2) && s.flag B.CHIP_DEBUG_SERVICE_OK

/-- Whether `a` names a word some chapter defines: a register word or a parameter word (R530). -/
def mapped (a : Nat) : Bool := (regDef? a).isSome || (paramDef? a).isSome

/-- The word a software write of `v` leaves in a word of fields `fs` that holds `old`; a W1C bit that hardware sets in the
same cycle (`same`) stays set (Table SCOPE-3). -/
def softWord (fs : List FieldDef) (old v : Word) (same : Word := 0) : Word :=
  let rw := fieldMask (fun c => c == .rw || c == .rws) fs
  let w1 := fieldMask (fun c => c == .w1c) fs
  (((old &&& ~~~rw) ||| (v &&& rw)) &&& ~~~(v &&& w1)) ||| (same &&& w1)

/-- A software write under the access types of the word at `a`; a parameter word is a shadow copy (R23). -/
def State.softWrite (s : State) (a : Nat) (v : Word) (same : Word := 0) : State :=
  match regDef? a with
  | some d => s.setWord a (softWord d.fields (s.word a) v same)
  | none => match paramDef? a with
    | some _ => s.setWord a v
    | none => s

/-- The value a read of the word at `a` returns where `w` is its present state: reserved bits are undefined (RSVD of Table
SCOPE-3), a free value; write-only fields read 0. -/
def State.shown (s : State) (a : Nat) (w : Word) : Word :=
  match regDef? a with
  | some d =>
    let named := fieldMask (fun _ => true) d.fields
    let shown := fieldMask (fun c => c != .wo) d.fields
    (w &&& shown) ||| ((s.freeVal.truncate 32) &&& ~~~named)
  | none => w

/-- An access to BAR0 address `a`, taken by `act` where the region is served; where it is not, a read returns all ones,
a write is ignored, and REGION_DOWN is set (R534). In Stabled and while the chip wakes, a read returns all ones but for
CHIP_PWR_STS (R476), and a write changes nothing (DESIGN CHOICE, log entry 38). An access by the host shows that the link
is up (DEDUCED, log entry 39); in D3hot the host reaches no BAR (PRESUMED, log entry 116). -/
def State.access (s : State) (rq : Requester) (a : Nat) (write : Bool) (act : State → State) : State :=
  if !s.chip.powered ∨ s.chip.railWait ∨ (rq = 9 ∧ !s.jtagOpen) ∨ (rq = 0 ∧ s.hif.pcie.d3hot) then s
  else
    let s := if rq = 0 then { s with hif := { s.hif with linkUp := true } } else s
    if s.chip.stabled then
      if write then s else s.answer rq (if a = Reg.CHIP_PWR_STS then s.word a else BitVec.allOnes 32)
    else if s.served a then act (s.noteAccess rq a write)
    else
      let s := (s.noteAccess rq a write).chipErr B.CHIP_ERR_STS_REGION_DOWN
      if write then s else s.answer rq (BitVec.allOnes 32)

/-- The low half a write of the high word at `a` commits: the shadow where the requester's previous access in the
window was the write of the low word, else the present low half (R532). -/
def State.lowHalf (s : State) (rq : Requester) (a : Nat) : Word :=
  let b := s.busOf rq
  if Sp.find b.last (a / 0x100000) = some (a - 4, true) then b.shadow else s.word (a - 4)

/-- Whether the word at `a` is of kind `k`. -/
def isKind (a : Nat) (k : WordKind) : Bool :=
  match regDef? a with
  | some d => d.kind == k
  | none => false

/-- Whether the word at `a` has an RC field. -/
def hasRc (a : Nat) : Bool :=
  match regDef? a with
  | some d => d.fields.any (fun f => f.acc == .rc)
  | none => false

/-! ### The other BARs and the configuration space (R57, R58; log entry 116)

The commands name what lies beside BAR0 by addresses of the model's own: BAR2/3 from 0x100_0000, BAR4/5 from 0x200_0000,
the configuration space from 0x300_0000. -/

/-- BAR2/3 (256 KiB), BAR4/5 (64 KiB) and the configuration space (4 KiB), by address; with the offset. -/
def barOf (a : Nat) : Option (Nat × Nat) :=
  if 0x1000000 ≤ a ∧ a < 0x1040000 then some (2, a - 0x1000000)
  else if 0x2000000 ≤ a ∧ a < 0x2010000 then some (4, a - 0x2000000)
  else if 0x3000000 ≤ a ∧ a < 0x3001000 then some (6, a - 0x3000000)
  else none

/-- The function has something at the address: BAR0, another BAR or its configuration space. -/
def inBars (a : Nat) : Bool := a < 0x1000000 || (barOf a).isSome

/-- BAD_ACCESS: an access that is not one aligned full 32-bit access is dropped, a read returns all ones, and ACCESS is
set (R529). -/
def execBadAccess (t : Nat) (rq : Requester) (write : Bool) (addr bytes : Nat) (enables : BitVec 4) (s : State) :
    Out State :=
  if !inBars addr then .fault (.outsideBar addr)
  else
    let s := s.to t
    if addr % 4 = 0 ∧ bytes = 4 ∧ enables = 15#4 then ok s
    else
      let s := s.chipErr B.CHIP_ERR_STS_ACCESS
      ok (if write then s else s.answer rq (BitVec.allOnes 32))

end Sys2Proof.Machine
end

