-- ==== Sys2Proof/Machine/Capture.lean ====
section
/-!
DEFINITION. How the recorder watches the other regions (R417 to R420, R425): the words that its capture sources form, and
the trigger sources that fire. The words go to the capture queues in Queues.lean; operations are in Rec.lean.
-/

namespace Sys2Proof.Machine

/-- IDLE, PRIMED, ARMED, TRIGGERED, HELD (Table REC-8). -/
abbrev recIdle : Nat := 0
/-- PRIMED. -/
abbrev recPrimed : Nat := 1
/-- ARMED. -/
abbrev recArmed : Nat := 2
/-- TRIGGERED. -/
abbrev recTriggered : Nat := 3
/-- HELD. -/
abbrev recHeld : Nat := 4

/-- REC_STS.STATE. -/
def State.recState (s : State) : Nat := s.get B.REC_STS_STATE

/-- Set REC_STS.STATE. -/
def State.setRecState (s : State) (v : Nat) : State := s.set B.REC_STS_STATE v

/-- A capture takes samples: ARMED or TRIGGERED. -/
def State.capturing (s : State) : Bool := s.recState == recArmed || s.recState == recTriggered

/-- Bytes per sample of source `n` in mode `m` (Table REC-1). -/
def recBps (n m : Nat) : Nat := if n < 2 then (if m = 0 then 1 else 4) else 64

/-- Samples written to a source's buffer. -/
def RecSrc.written (x : RecSrc) (n : Nat) : Nat := 8 * x.data.length / recBps n x.mode

/-- Samples taken before post-trigger sample 0, which is the first whose time lies at or after the instant `trig` (R426). -/
def RecSrc.before (x : RecSrc) (trig : Nat) : Nat := (x.times.findIdx? (fun t => decide (trig ≤ t))).getD x.times.length

/-- Delivered PRE of a source (R421, R426). -/
def RecSrc.gotPre (x : RecSrc) (n : Nat) (trig : Option Nat) : Nat :=
  min x.pre (match trig with | some i => min (x.before i) (x.written n) | none => x.written n)

/-- Delivered POST. -/
def RecSrc.gotPost (x : RecSrc) (n : Nat) (trig : Option Nat) : Nat :=
  match trig with
  | some i => min x.post (x.written n - x.before i)
  | none => 0

/-- A source takes its next sample: it takes part, and has not delivered its POST. -/
def State.captureOpen (s : State) (n : Nat) : Option RecSrc :=
  if s.capturing ∧ s.runs 14 blkCapture then
    match s.recd.srcs[n]? with
    | some x =>
      if x.en ∧ (s.recd.trig.isNone ∨ x.gotPost n s.recd.trig < x.post) then some x else none
    | none => none
  else none

/-- Replace a source. -/
def State.setCapture (s : State) (n : Nat) (x : RecSrc) : State :=
  { s with recd := { s.recd with srcs := s.recd.srcs.set n x } }

/-! ### Stream records (R420, Table REC-2) -/

/-- The words of a record: device time, word 1, the first 48 bytes of the item. -/
def streamRecord (time w1 : Nat) (bs : List Byte) : List (BitVec 64) :=
  BitVec.ofNat 64 time :: BitVec.ofNat 64 w1 :: wordsOf (fitBytes 48 bs)

/-- Word 1 of a record: what the source says in [7:0], PTYPE, length, ARG. -/
def recordInfo (lo ptype len arg : Nat) : Nat := lo + ptype * 2 ^ 8 + min len 65535 * 2 ^ 16 + arg % 2 ^ 32 * 2 ^ 32

/-- Source `n` of the streams forms a record, where its REC_SRC_n_SEL has bit `sel`. -/
def State.stream (s : State) (n sel time w1 : Nat) (bs : List Byte) : State :=
  match s.captureOpen n with
  | some x =>
    if (s.rd (Reg.REC_SRC_SEL n)).testBit sel then
      s.setCapture n { x with times := x.times ++ [time], formed := x.formed ++ streamRecord time w1 bs }
    else s
  | none => s

/-! ### Samples (R418, R419) -/

/-- A rounded quotient, halves away from zero. -/
def roundAway (a : Int) (n : Nat) : Int :=
  if 0 ≤ a then (2 * a + n) / (2 * n) else -((2 * -a + n) / (2 * n))

/-- An averaged sample (R419): I in [15:0], Q in [31:16]. -/
def averaged (extra n : Nat) (i q : Int) : Nat :=
  unsigned 16 (roundAway (i * 2 ^ extra) n) + unsigned 16 (roundAway (q * 2 ^ extra) n) * 2 ^ 16

/-- A source takes a complex sample of levels `i` and `q`, `code` as received, at device time `t` (R418, R419). -/
def RecSrc.take (x : RecSrc) (t code : Nat) (i q : Int) : RecSrc :=
  if x.mode = 0 then
    let part := x.part ++ leBytes 1 code
    let x := { x with times := x.times ++ [t] }
    if part.length = 8 then { x with part := [], formed := x.formed ++ wordsOf part } else { x with part := part }
  else
    let a : Averager := ⟨x.sum.n + 1, x.sum.i + i, x.sum.q + q, if x.sum.n = 0 then t else x.sum.start⟩
    if a.n < 2 ^ x.avg then { x with sum := a }
    else
      let part := x.part ++ leBytes 4 (averaged x.extra a.n a.i a.q)
      let x := { x with sum := Averager.zero, times := x.times ++ [a.start] }
      if part.length = 8 then { x with part := [], formed := x.formed ++ wordsOf part } else { x with part := part }

/-! ### Trigger sources (R425, R426) -/

/-- Trigger source `k` is watched: 0 and 1 always, 2 to 7 where enabled. -/
def State.watches (s : State) (k : Nat) : Bool := k < 2 || s.flag (B.REC_TRIG_CFG_EN k)

/-- The argument of a trigger source. -/
def State.trigArg (s : State) (k : Nat) : Nat := s.rd64 (Reg.REC_TRIG_ARG k)

/-- Trigger source `k` fires at device time `t`: the earliest instant stands, with every source that fires in it. -/
def State.noteFire (s : State) (k t : Nat) : State :=
  if s.recState = recArmed ∧ s.runs 14 blkTrigger ∧ s.watches k then
    { s with recd := { s.recd with fired := some (match s.recd.fired with
      | some (w, t0) => if t < t0 then (2 ^ k, t) else if t = t0 then (w ||| 2 ^ k, t0) else (w, t0)
      | none => (2 ^ k, t)) } }
  else s

/-- A level magnitude of a sample counts toward IF_LEVEL: RUN consecutive samples of its port at LEVEL or more. -/
def State.watchLevel (s : State) (port t : Nat) (i q : Int) : State :=
  let a := s.trigArg 4
  if s.recState ≠ recArmed ∨ bitsOf a 0 0 ≠ port then s
  else
    let n := if bitsOf a 4 1 ≤ max i.natAbs q.natAbs then s.recd.run + 1 else 0
    let s := { s with recd := { s.recd with run := n } }
    if n ≠ 0 ∧ bitsOf a 31 16 ≤ n then s.noteFire 4 t else s

/-- REC sees an IF sample of a band port. -/
def State.seeSample (s : State) (port t code : Nat) (i q : Int) : State :=
  let s := match s.captureOpen port with
    | some x => s.setCapture port (x.take t code i q)
    | none => s
  s.watchLevel port t i q

/-- REC sees an event completion as it is written (R53, R425; log entry 139). -/
def State.seeEvent (s : State) (c : Completion) (bs : List Byte) : State :=
  let a := s.trigArg 6
  let s := s.stream 6 c.region s.devNs (recordInfo c.region 0 bs.length 0) bs
  if bitsOf a 3 0 = c.region ∧ bitsOf a 15 8 = c.res.r0 % 256 then s.noteFire 6 s.devNs else s

/-- REC sees a time or stop event of kind `k`: 0 TIM, 1 WHOA, 2 PPS_0, 3 PPS_1. -/
def State.seeStatus (s : State) (k : Nat) (words : List Nat) : State :=
  s.stream 7 k s.devNs (recordInfo k 0 (8 * words.length) 0) ((words.map (fun w => leBytes 8 w)).flatten)

/-- REC sees a received frame of a wired port, or one it sends, at its time stamp. -/
def State.seeWire (s : State) (port : Nat) (tx : Bool) (stamp ethertype : Nat) (bs : List Byte) : State :=
  let d := if tx then 1 else 0
  let s := s.stream (4 + port) d stamp (recordInfo d 0 bs.length 0) bs
  let a := s.trigArg 7
  if !tx ∧ bitsOf a 0 0 = port ∧ bitsOf a 31 16 = ethertype then s.noteFire 7 s.devNs else s

/-- REC sees a frame that crossed the head-link: AIR_MATCH by its header, `dropped` under R281 or R306. -/
def State.seeFrame (s : State) (head ftype ctx : Nat) (dropped : Bool) : State :=
  let a := s.trigArg 5
  if a.testBit head ∧ (a.testBit 12 ∨ bitsOf a 11 8 = ftype) ∧ (bitsOf a 23 16 = 0 ∨ bitsOf a 23 16 = ctx) ∧
      (!a.testBit 24 ∨ dropped) then s.noteFire 5 s.devNs
  else s

end Sys2Proof.Machine
end

