-- ==== Sys2Proof/Machine/Tim.lean ====
section
/-!
DEFINITION. The time unit (R347 to R374): the counter, sources and their vote, quality and holdover, steps, PPS outputs
and cues.
-/

namespace Sys2Proof.Machine

/-! ### The counter -/

/-- The nominal increment: 2 ns in 2^-40 ns (R348). -/
def incrNominal : Nat := 0x20000000000

/-- An increment within 100 ppm of nominal (R348). -/
def incrLegal (v : Nat) : Bool := ((v - incrNominal) + (incrNominal - v)) * 10000 ≤ incrNominal

/-- A TIM event (R370): vector 66 and an event of the PTP function. -/
def State.timEvent (s : State) (code r1 r2 : Nat) : State :=
  ((s.seeStatus 0 [code, r1, r2]).fire 66).event .ptp 11 code 0 r1 r2

/-- TIM_INCR_WRITE: in MANUAL mode, within 100 ppm; otherwise ignored with INCR_REJ (R348). -/
def execTimIncrWrite (t : Nat) (rq : Requester) (val : BitVec 64) (s : State) : Out State :=
  ok ((s.to t).access rq (Reg.TIM_INCR + 4) true (fun s =>
    let v := val.toNat % 2 ^ 48
    if s.flag B.TIM_SERVO_CTL_MANUAL ∧ incrLegal v then s.wr64 Reg.TIM_INCR v
    else s.setFlag B.TIM_STS_INCR_REJ true))

/-! ### Samples (R350, R352, R353) -/

/-- A source by code: 1 GNSS, 2 A, 3 B. -/
def State.source (s : State) (c : Nat) : TimeSource := Sp.at s.tim.sources TimeSource.reset c

/-- Replace a source. -/
def State.setSource (s : State) (c : Nat) (x : TimeSource) : State :=
  { s with tim := { s.tim with sources := Sp.store s.tim.sources TimeSource.reset c x } }

/-- The adj of R349 in 2^-16 ns: device time beyond what the reference counted at the nominal increment. -/
def State.adj (s : State) : Int := ((s.ctr : Int) - ((s.cyc * incrNominal : Nat) : Int)) / 2 ^ 24

/-- A source takes an offset sample in 2^-16 ns. -/
def State.sample (s : State) (c : Nat) (v : Int) : State :=
  let x := s.source c
  s.setSource c { x with
    n := x.n + 1, sum := x.sum + v, sumSq := x.sumSq + (v * v).toNat, sumAdj := x.sumAdj + (v - s.adj) }

/-- ASYM of a receiving port and domain, in ns (R353). -/
def State.asym (s : State) (port dom : Nat) : Int := signed 32 (s.rd (Reg.TIM_PORT_A_DOM_A_ASYM + 8 * port + 4 * dom))

/-- The ROLE and PORT of a domain. -/
def State.domCfg (s : State) (dom : Nat) : Nat × Nat :=
  if dom = 0 then (s.get B.TIM_DOM_A_CFG_ROLE, s.get B.TIM_DOM_A_CFG_PORT)
  else (s.get B.TIM_DOM_B_CFG_ROLE, s.get B.TIM_DOM_B_CFG_PORT)

/-- PTP_SAMPLE (R352, R353). -/
def execPtpSample (t : Nat) (it : Item) (s : State) : Out State :=
  let s := s.to t
  let a := it.d.arg0
  let dom := if argBit a 0 then 1 else 0
  let port := if argBit a 1 then 1 else 0
  ok (s.runOp 11 it (fun i => .ptpSample t i)
    { Checks.pass with
      range := it.d.context == 0 && s.devNs ≤ it.d.arg2.toNat + 2 * 10 ^ 9
      state := s.domCfg dom == (1, port) }
    (fun s it =>
      let s := s.sample (2 + dom) (signed 64 it.d.arg1.toNat - s.asym port dom * 2 ^ 16)
      s.finish it 11 .done))

/-! ### Qualification (R354) -/

/-- A source's second ends (R354): its 1 s value, the second difference with adj removed, and QUALIFIED. Averages are
rounded down to 2^-16 ns (DEDUCED, log entry 21). -/
def TimeSource.endSecond (x : TimeSource) (jump lock : Nat) : TimeSource :=
  let near (v : Int) : Nat := if v.natAbs ≤ lock * 2 ^ 16 then x.near + 1 else 0
  if x.n = 0 then { x with silent := x.silent + 1, good := 0, near := near x.val }
  else
    let v := x.sum / x.n
    let a := x.sumAdj / x.n
    let var := x.sumSq / x.n - (v * v).toNat
    let change := x.prev.map (fun p => a - p)
    let steady : Bool := match change, x.change with
      | some c, some c' => (c - c').natAbs ≤ jump * 2 ^ 16
      | _, _ => true
    { x with n := 0, sum := 0, sumSq := 0, sumAdj := 0, val := v, sd := isqrt var, prev := some a
             change := change, silent := 0, near := near v, good := if steady = true then x.good + 1 else 0 }

/-- The QUALIFIED, SUSPECT and EXCL fields of a source. -/
def srcQual (c : Nat) : Bits :=
  if c = 1 then B.TIM_SRC_STS_GNSS_QUAL else if c = 2 then B.TIM_SRC_STS_A_QUAL else B.TIM_SRC_STS_B_QUAL
/-- SUSPECT of a source. -/
def srcSuspect (c : Nat) : Bits :=
  if c = 1 then B.TIM_SRC_STS_GNSS_SUSPECT else if c = 2 then B.TIM_SRC_STS_A_SUSPECT else B.TIM_SRC_STS_B_SUSPECT
/-- Exclusion of a source by software. -/
def srcExcl (c : Nat) : Bits :=
  if c = 1 then B.TIM_SRC_STS_GNSS_EXCL else if c = 2 then B.TIM_SRC_STS_A_EXCL else B.TIM_SRC_STS_B_EXCL

/-- An offset in 2^-16 ns as nanoseconds, saturating in 32 bits, two's complement. -/
def offsetNs (v : Int) : Nat := unsigned 32 (clampInt (-(2 ^ 31)) (2 ^ 31 - 1) (v / 2 ^ 16))

/-- The second of source `c` ends: its value, its qualification, its TIM_OFFSET register. -/
def State.endSource (s : State) (c : Nat) : State :=
  let x := (s.source c).endSecond (s.param P.QUAL_JUMP_NS) (s.param P.LOCK_NS)
  let was := s.flag (srcQual c)
  let lost := s.param P.SRC_TIMEOUT ≤ x.silent || (x.good == 0 && x.silent == 0)
  let q := if was then !lost else decide (s.param P.QUAL_S ≤ x.good)
  let s := (s.setSource c x).setFlag (srcQual c) q
  s.wr (Reg.TIM_OFFSET_GNSS + 4 * (c - 1)) (offsetNs x.val)

/-! ### The vote (R355, R356) -/

/-- A source that takes part in the vote: QUALIFIED, not excluded, not SUSPECT. -/
def State.votes (s : State) (c : Nat) : Bool :=
  s.flag (srcQual c) && !s.flag (srcExcl c) && !s.flag (srcSuspect c)
    && !(c == 1 && s.flag B.TIM_SRC_STS_EXCL_SPOOF)

/-- Two sources agree: their 1 s values differ by at most AGREE_NS. -/
def State.agree (s : State) (c d : Nat) : Bool :=
  ((s.source c).val - (s.source d).val).natAbs ≤ s.param P.AGREE_NS * 2 ^ 16

/-- The other two sources. -/
def others (c : Nat) : Nat × Nat := if c = 1 then (2, 3) else if c = 2 then (1, 3) else (1, 2)

/-- A source outvoted by the other two: they agree, it disagrees with both. -/
def State.outvoted (s : State) (c : Nat) : Bool :=
  let (a, b) := others c
  s.votes c && s.votes a && s.votes b && s.agree a b && !s.agree c a && !s.agree c b

/-- SUSPECT or its clearing is posted (Table TIM-6). -/
def State.suspectEvent (s : State) (c : Nat) (isOn : Bool) : State :=
  s.timEvent 4 (c + (if isOn then 256 else 0)) (offsetNs (s.source 1).val + offsetNs (s.source c).val * 2 ^ 32)

/-- Majority rule for one source, given what it was before this second's changes. -/
def State.judgeSource (s s0 : State) (c : Nat) : State :=
  let x := s.source c
  if s0.flag (srcSuspect c) then
    let (a, b) := others c
    let agreed := if s0.flag (srcQual c) ∧ s0.votes a ∧ s0.votes b ∧ s0.agree c a ∧ s0.agree c b then x.agreed + 1
      else 0
    let s := s.setSource c { x with agreed := agreed }
    if s.param P.SUSPECT_CLEAR_S ≤ agreed then (s.setFlag (srcSuspect c) false).suspectEvent c false else s
  else
    let n := if s0.outvoted c then x.outvoted + 1 else 0
    let s := s.setSource c { x with outvoted := n, agreed := 0 }
    if 3 ≤ n then (s.setFlag (srcSuspect c) true).suspectEvent c true else s

/-- The no-majority condition: two voting sources that disagree, or three of which no two agree. -/
def State.split (s : State) : Bool :=
  match [1, 2, 3].filter (fun c => s.votes c) with
  | [a, b] => !s.agree a b
  | [a, b, c] => !s.agree a b && !s.agree a c && !s.agree b c
  | _ => false

/-- Set or clear DISAGREE, with its event. -/
def State.setDisagree (s : State) (v : Bool) : State :=
  if s.flag B.TIM_STS_DISAGREE = v then s
  else
    let s := s.setFlag B.TIM_STS_DISAGREE v
    s.timEvent 5 (if v then 256 else 0) (offsetNs (s.source 2).val + offsetNs (s.source 3).val * 2 ^ 32)

/-- Count the no-majority comparisons: DISAGREE is set after three, and cleared after three without. -/
def State.judgeSplit (s s0 : State) : State :=
  let split := s0.split
  let n := if split then s.tim.splitRun + 1 else 0
  let m := if split then 0 else s.tim.unityRun + 1
  let s := { s with tim := { s.tim with splitRun := n, unityRun := m } }
  if 3 ≤ n then s.setDisagree true else if 3 ≤ m then s.setDisagree false else s

/-- The sources in the order of SRC_PRIO. -/
def State.prio (s : State) : List Nat :=
  let p := s.param P.SRC_PRIO
  [p % 4, p / 4 % 4, p / 16 % 4]

/-- The source the vote selects (R356): FORCE, or the first of SRC_PRIO that votes while DISAGREE is clear; 0 none. -/
def State.choice (s : State) : Nat :=
  let f := s.get B.TIM_SERVO_CTL_FORCE
  if f ≠ 0 then (if s.flag (srcQual f) then f else 0)
  else if s.flag B.TIM_STS_DISAGREE then 0
  else (s.prio.find? (fun c => s.votes c)).getD 0

/-- E in fs: from the selected source, or grown. -/
def State.errorFs (s : State) : Nat :=
  let c := s.get B.TIM_STS_SELECTED
  if c = 0 then s.grownE
  else ((s.source c).val.natAbs + (s.source c).sd) * 10 ^ 6 / 2 ^ 16

/-- Select the source, reporting a change (Table TIM-6); on a loss, E starts to grow from its value then. -/
def State.select (s : State) : State :=
  let old := s.get B.TIM_STS_SELECTED
  let new := s.choice
  if new = old then s
  else
    let e := s.errorFs
    let s := if new = 0 then { s with tim := { s.tim with e0 := e, growAt := s.cyc } } else s
    let s := (s.set B.TIM_STS_SELECTED new).setFlag B.TIM_STS_SOURCE_CHANGED true
    s.timEvent 3 new 0

/-- Report quality, E and TIM_HOLD_S (R357, R358); below HOLDOVER the clock tests stop, and their history with them (R180). -/
def State.reportTime (s : State) : State :=
  let sel := s.get B.TIM_STS_SELECTED
  let e := s.errorFs
  let q := if !s.tim.isSet then 0
    else if sel ≠ 0 ∧ s.param P.LOCK_S ≤ (s.source sel).near then 3
    else if e ≤ s.param P.HOLDOVER_LIMIT * 10 ^ 8 then 2 else 1
  let old := s.get B.TIM_STS_QUALITY
  let s := s.wr Reg.TIM_ERR_EST (if q = 0 then satMax else sat32 (e / 10 ^ 6))
  let s := s.wr Reg.TIM_HOLD_S (if q = 0 ∨ sel ≠ 0 then 0 else sat32 ((s.cyc - s.tim.growAt) / cycS))
  let s := { s with tim := { s.tim with wasLocked := s.tim.wasLocked || q == 3 } }
  let s := if q < 2 then { s with fix := { s.fix with anchors := [] } } else s
  if q = old then s
  else ((s.set B.TIM_STS_QUALITY q).setFlag B.TIM_STS_QUALITY_CHANGED true).timEvent 2 q (e / 10 ^ 6)

/-- The selected offset calls for a slew or a step (R361): a step is S = −offset, rounded to the ns, at the next whole
second. -/
def State.planStep (s : State) : State :=
  let c := s.get B.TIM_STS_SELECTED
  let v := (s.source c).val
  if c = 0 ∨ s.flag B.TIM_SERVO_CTL_MANUAL then
    ({ s with tim := { s.tim with step := none } }.setFlag B.TIM_STS_SLEWING false).setFlag B.TIM_STS_STEP_PENDING false
  else if !s.tim.isSet ∨ s.param P.STEP_THRESHOLD * 1000 * 2 ^ 16 ≤ v.natAbs then
    let S : Int := (2 ^ 15 - v) / 2 ^ 16
    let sec := s.devNs / 10 ^ 9
    let at_ := match s.tim.step with | some (_, a) => if a ≤ sec then a else sec + 1 | none => sec + 1
    ({ s with tim := { s.tim with step := some (S, at_) } }.setFlag B.TIM_STS_SLEWING false).setFlag
      B.TIM_STS_STEP_PENDING true
  else
    ({ s with tim := { s.tim with step := none } }.setFlag B.TIM_STS_SLEWING (v != 0)).setFlag
      B.TIM_STS_STEP_PENDING false

/-- The learned ageing as the slope of the increment over the model's span: its change and the cycles it took (R349). -/
def State.ageing (s : State) : Int × Nat :=
  match s.tim.model, s.tim.model.getLast? with
  | (c1, i1) :: _, some (c0, i0) => ((i1 : Int) - i0, c1 - c0)
  | _, _ => (0, 0)

/-- What the learned ageing adds to the increment over `c` cycles. -/
def State.aged (s : State) (c : Nat) : Int := let (d, n) := s.ageing; d * c / n

/-- While LOCKED the servo learns the increment it settles at (R349); the slope is taken between the newest entry and the
oldest of MODEL_SPAN (DESIGN CHOICE, log entry 81). -/
def State.learn (s : State) (f : Nat) : State :=
  let hour := 3600 * cycS
  let old := match s.tim.model with
    | a :: b :: r => if b.1 + hour ≤ a.1 then a :: b :: r else b :: r
    | l => l
  let keep := old.filter (fun p => s.cyc < p.1 + s.param P.MODEL_SPAN * hour)
  { s with tim := { s.tim with model := (s.cyc, f) :: keep } }

/-- An increment brought within 100 ppm of nominal (R348). -/
def incrClamp (v : Int) : Nat :=
  let span := incrNominal / 10000
  (clampInt (incrNominal - span) (incrNominal + span) v).toNat

/-- The servo writes TIM_INCR in AUTO mode (R349). With a source selected the increment is the one it settles toward and a
phase correction against the offset of at most SLEW_MAX; the spec gives no loop equations, so both are free values within
those bounds (log entry 22). With none, DISAGREE or holdover, the increment holds and applies the learned ageing. -/
def State.servo (s : State) : State :=
  let s := s.setFlag B.TIM_STS_FROZEN (s.flag B.TIM_STS_DISAGREE)
  let c := s.get B.TIM_STS_SELECTED
  if s.flag B.TIM_SERVO_CTL_MANUAL then { s with tim := { s.tim with ramp := none } }
  else if c = 0 then
    let (c0, i0) := s.tim.ramp.getD (s.cyc, s.rd64 Reg.TIM_INCR)
    ({ s with tim := { s.tim with ramp := some (c0, i0) } }).wr64 Reg.TIM_INCR (incrClamp (i0 + s.aged (s.cyc - c0)))
  else
    let span := incrNominal / 10000
    let f := incrNominal - span + s.freeVal.toNat % (2 * span + 1)
    let s := s.tookFree
    let slew : Int := s.freeVal.toNat % (s.param P.SLEW_MAX * incrNominal / 10 ^ 8 + 1)
    let s := s.tookFree
    let s := { s with tim := { s.tim with ramp := none } }
    let s := if s.get B.TIM_STS_QUALITY = 3 then s.learn f else s
    s.wr64 Reg.TIM_INCR (incrClamp (if 0 < (s.source c).val then f - slew else f + slew))

/-! ### PPS outputs (R359, R360, R362) -/

/-- A PPS output. -/
def State.ppsOf (s : State) (n : Nat) : PpsOut := Sp.at s.tim.pps PpsOut.reset n

/-- Replace a PPS output. -/
def State.setPps (s : State) (n : Nat) (p : PpsOut) : State :=
  { s with tim := { s.tim with pps := Sp.store s.tim.pps PpsOut.reset n p } }

/-- The index of the last mark device time has reached on output `n`: a whole second less TIM_PPS_n_OFFSET. -/
def State.markOf (s : State) (n : Nat) : Int :=
  ((s.devNs : Int) + signed 32 (s.rd (Reg.TIM_PPS_OFFSET n))) / 10 ^ 9

/-- Start output `n`; `now` counts the mark of this very instant as still to come. -/
def State.startPps (s : State) (n : Nat) (now : Bool) : State :=
  let p := s.ppsOf n
  if p.started then s
  else (s.setPps n { p with started := true, mark := if now then s.markOf n - 1 else s.markOf n }).setFlag
    B.TIM_STS_PPS_STARTED true

/-- Output `n` sends a pulse of WIDTH µs. -/
def State.pulsePps (s : State) (n : Nat) : State :=
  let s := s.seeStatus (2 + n) []
  let p := s.ppsOf n
  s.setPps n { p with
    lastAt := some s.cyc, pulses := p.pulses + 1
    pulseEnd := some (s.cyc + s.get (B.TIM_PPS_CTL_WIDTH n) * cycUs) }

/-- Output `n` passes the mark that device time has reached: with a pulse where it is enabled, unless the mark follows a
backward step within 1 s of the previous pulse. -/
def State.passMark (s : State) (n : Nat) : State :=
  let p := s.ppsOf n
  let m := s.markOf n
  if p.started ∧ p.mark < m then
    let s := s.setPps n { p with mark := m }
    if s.flag (B.TIM_PPS_CTL_ENABLE n) ∧ p.quietTo ≤ s.cyc then s.pulsePps n else s
  else s

/-- A write of TIM_PPS_n_CTL: the pulses go on at the first mark after it (R359). -/
def State.resumePps (s : State) (n : Nat) : State := s.setPps n { s.ppsOf n with mark := s.markOf n }

/-- PPS_PULSE (R360). -/
def execPpsPulse (t : Nat) (n : Fin 2) (s : State) : Out State := ok ((s.to t).passMark n.val)

/-- PPS_FORCE_START: a write of FORCE_START (R359). -/
def execPpsForceStart (t : Nat) (rq : Requester) (n : Fin 2) (s : State) : Out State :=
  ok ((s.to t).access rq (Reg.TIM_PPS_CTL n.val) true (fun s =>
    (s.setFlag (B.TIM_PPS_CTL_FORCE_START n.val) true).startPps n.val false))

/-- Device time in whole seconds. -/
def State.devSec (s : State) : Nat := s.devNs / 10 ^ 9

/-- The comparison of the sources at a second's end, and the selection (R350 to R355). -/
def State.compareSources (s : State) : State :=
  let s := ((s.endSource 1).endSource 2).endSource 3
  let s0 := s
  let s := ((s.judgeSource s0 1).judgeSource s0 2).judgeSource s0 3
  (s.judgeSplit s0).select

/-- The second `sec` begins. -/
def State.newSecond (s : State) (sec : Nat) : State :=
  let s := { s with tim := { s.tim with second := sec } }
  let s := if s.tim.wasLocked then (s.startPps 0 true).startPps 1 true else s
  let s := s.setFlag B.TIM_SRC_STS_EXCL_SPOOF (s.flag B.FIX_INTEG_STS_SPOOF_SUSPECT)
  let s := s.compareSources
  (s.reportTime.planStep).servo

/-- SECOND_BOUNDARY (R354 to R361): once for each device second. -/
def execSecondBoundary (t : Nat) (s : State) : Out State :=
  let s := s.to t
  if s.devSec = s.tim.second ∨ !s.runs 11 blkServo then ok s else ok (s.newSecond s.devSec)

/-! ### Vote commands (R355) -/

/-- Software's exclusion leaves fewer than two voting sources: DISAGREE clears at once. -/
def State.afterExcl (s : State) : State :=
  if ([1, 2, 3].filter (fun c => s.votes c)).length < 2 then s.setDisagree false else s

/-- A write of TIM_VOTE_CMD. -/
def State.voteCmd (s : State) (rq : Requester) (act : State → State) : State := s.access rq Reg.TIM_VOTE_CMD true act

/-- VOTE_EXCL_GNSS. -/
def execVoteExclGnss (t : Nat) (rq : Requester) (s : State) : Out State :=
  ok ((s.to t).voteCmd rq (fun s => (s.setFlag (srcExcl 1) true).afterExcl))

/-- VOTE_EXCL_A. -/
def execVoteExclA (t : Nat) (rq : Requester) (s : State) : Out State :=
  ok ((s.to t).voteCmd rq (fun s => (s.setFlag (srcExcl 2) true).afterExcl))

/-- VOTE_EXCL_B. -/
def execVoteExclB (t : Nat) (rq : Requester) (s : State) : Out State :=
  ok ((s.to t).voteCmd rq (fun s => (s.setFlag (srcExcl 3) true).afterExcl))

/-- VOTE_INCL_GNSS. -/
def execVoteInclGnss (t : Nat) (rq : Requester) (s : State) : Out State :=
  ok ((s.to t).voteCmd rq (fun s => s.setFlag (srcExcl 1) false))

/-- VOTE_INCL_A. -/
def execVoteInclA (t : Nat) (rq : Requester) (s : State) : Out State :=
  ok ((s.to t).voteCmd rq (fun s => s.setFlag (srcExcl 2) false))

/-- VOTE_INCL_B. -/
def execVoteInclB (t : Nat) (rq : Requester) (s : State) : Out State :=
  ok ((s.to t).voteCmd rq (fun s => s.setFlag (srcExcl 3) false))

/-- CLEAR_SUSPECT. -/
def execClearSuspect (t : Nat) (rq : Requester) (s : State) : Out State :=
  ok ((s.to t).voteCmd rq (fun s =>
    [1, 2, 3].foldl (fun s c =>
      if s.flag (srcSuspect c) then (s.setFlag (srcSuspect c) false).suspectEvent c false else s) s))

/-! ### Steps (R361 to R364) -/

/-- A PPS output at the step that has just been made (R362): a forward step that skipped marks sends one pulse for all
of them, unless the output already pulsed at this instant; after a backward step no mark within 1 s of the previous
pulse is pulsed. -/
def State.stepPps (s : State) (n : Nat) (oldMark : Int) (back : Bool) : State :=
  let p := s.ppsOf n
  let m := s.markOf n
  let s := s.setPps n { p with
    mark := m
    quietTo := match p.lastAt with | some a => if back then a + cycS else p.quietTo | none => p.quietTo }
  if p.started ∧ !back ∧ oldMark < m ∧ s.flag (B.TIM_PPS_CTL_ENABLE n) ∧ p.lastAt ≠ some s.cyc then s.pulsePps n
  else s

/-- A source's offsets move with a step of `S` ns: an offset is device time minus the source's time. -/
def TimeSource.stepped (x : TimeSource) (S : Int) : TimeSource :=
  let d := S * 2 ^ 16
  { x with val := x.val + d, sum := x.sum + x.n * d, sumSq := ((x.sumSq : Int) + 2 * d * x.sum + x.n * d * d).toNat }

/-- Add `S` ns to the counter (R361 to R363): the PPS outputs, PAD_TICK_BASE, the records of the step, TIME_STEP. A second
whose comparison has not been made yet keeps it due. -/
def State.stepCounter (s : State) (S : Int) : State :=
  let s := (s.passMark 0).passMark 1
  let m0 := s.markOf 0
  let m1 := s.markOf 1
  let taken : Bool := s.devSec == s.tim.second
  let s := { s with ctr := ((s.ctr : Int) + S * 2 ^ 40).toNat }
  let s := { s with tim := { s.tim with
    isSet := true, second := if taken then s.devSec else s.devSec + 1
    sources := s.tim.sources.map (fun (p : Nat × TimeSource) => (p.1, p.2.stepped S)) } }
  let s := (s.stepPps 0 m0 (S < 0)).stepPps 1 m1 (S < 0)
  let s := s.wr64 Reg.PAD_TICK_BASE (unsigned 64 (signed 64 (s.rd64 Reg.PAD_TICK_BASE) + S))
  let s := s.wr64 Reg.TIM_LAST_STEP (unsigned 64 S)
  let s := (s.count Reg.TIM_CNT_STEP).setFlag B.TIM_STS_STEPPED true
  s.timEvent 1 (unsigned 64 S) s.devNs

/-- SET_TIME (R364): the item waits for the first whole second after the instant at which it acts. -/
def execSetTime (t : Nat) (it : Item) (s : State) : Out State :=
  let s := s.to t
  ok (s.runOp 11 it (fun i => .setTime t i)
    { Checks.pass with
      range := it.d.context == 0 && it.d.arg0.toNat % 10 ^ 9 == 0
      state := s.get B.TIM_STS_SELECTED == 0 || s.flag B.TIM_SERVO_CTL_MANUAL }
    (fun s it =>
      let s := { s with tim := { s.tim with setWaits := s.tim.setWaits ++ [SetTimeWait.mk it (s.devNs / 10 ^ 9 + 1)] } }
      s.setFlag B.TIM_STS_STEP_PENDING true))

/-- The step of the SET_TIME item at the front (R364): E starts at ARG_1, the other waiting items move past a second the
step has passed, and the item completes with S. -/
def State.setTimeStep (s : State) (w : SetTimeWait) : State :=
  let S : Int := (w.item.d.arg0.toNat : Int) - (w.sec * 10 ^ 9 : Nat)
  let s := s.stepCounter S
  let now := s.devNs / 10 ^ 9
  let s := { s with tim := { s.tim with
    setWaits := (s.tim.setWaits.drop 1).map (fun (x : SetTimeWait) => if x.sec ≤ now then { x with sec := now + 1 } else x)
    e0 := argBits w.item.d.arg1 31 0 * 10 ^ 6, growAt := s.cyc, step := none } }
  let s := if s.tim.setWaits.isEmpty then s.setFlag B.TIM_STS_STEP_PENDING false else s
  s.reportTime.finish w.item 11 .done ⟨unsigned 64 S, 0, 0⟩

/-- TIM's own step (R361). -/
def State.ownStep (s : State) (S : Int) : State :=
  let s := s.stepCounter S
  ({ s with tim := { s.tim with step := none } }.setFlag B.TIM_STS_STEP_PENDING false).reportTime

/-- The step that is due at the present device second: a waiting SET_TIME goes before TIM's own step (R364). Answers the
state and S where a step is made. -/
def State.dueStep (s : State) : State × Option Int :=
  let sec := s.devNs / 10 ^ 9
  match s.tim.setWaits with
  | w :: _ =>
    if w.sec ≤ sec then (s.setTimeStep w, some ((w.item.d.arg0.toNat : Int) - (w.sec * 10 ^ 9 : Nat))) else (s, none)
  | [] =>
    match s.tim.step with
    | some (S, at_) => if at_ ≤ sec then (s.ownStep S, some S) else (s, none)
    | none => (s, none)

/-! ### Cues (R365 to R369) -/

/-- The level of cue output `k`. -/
def State.cueLevel (s : State) (k : Nat) : Bool := (s.rd Reg.TIM_CUE_OUT).testBit k

/-- Drive cue output `k`. -/
def State.setCueLevel (s : State) (k : Nat) (v : Bool) : State :=
  let w := s.rd Reg.TIM_CUE_OUT
  s.wr Reg.TIM_CUE_OUT (if v then w ||| 2 ^ k else w - (w &&& 2 ^ k))

/-- A level action on an output: while a pulse holds it, the level comes when the pulse ends (R367). -/
def State.cueDrive (s : State) (k : Nat) (v : Bool) : State :=
  match Sp.find s.tim.cuePulse k with
  | some (e, _) => { s with tim := { s.tim with cuePulse := Sp.put s.tim.cuePulse k (e, v) } }
  | none => s.setCueLevel k v

/-- The level an output has, or returns to when its pulse ends. -/
def State.cueBase (s : State) (k : Nat) : Bool :=
  match Sp.find s.tim.cuePulse k with
  | some (_, v) => v
  | none => s.cueLevel k

/-- The output action of a CUE_SET (Table TIM-5). A PULSE takes the level opposite to IDLE for its width (DEDUCED, log
entry 23), rounded up to TIM cycles, and the output then returns to its level. -/
def State.cueAct (s : State) (d : Desc) : State :=
  let k := argBits d.arg0 2 0
  let s := { s with tim := { s.tim with driven := s.tim.driven ||| 2 ^ k } }
  match argBits d.arg0 5 4 with
  | 0 => s.cueDrive k true
  | 1 => s.cueDrive k false
  | 2 =>
    let base := s.cueBase k
    let width := (argBits d.arg2 63 32 + 1) / 2
    let s := { s with tim := { s.tim with cuePulse := Sp.put s.tim.cuePulse k (s.cyc + width, base) } }
    s.setCueLevel k (!s.flag (B.TIM_CUE_CFG_IDLE k))
  | _ => s.cueDrive k (!s.cueBase k)

/-- A released descriptor enters DSP port 74 as an item of the cue's ring (R368). -/
def State.cueRelease (s : State) (slot : Nat) (c : CueSlot) : State :=
  match c.stored with
  | none => s
  | some d =>
    let it : Item := ⟨s.hif.nextId, match c.item.ring? with | some n => .cue n slot | none => .svc, c.item.fn, d,
      false, .fresh⟩
    let s := s.tookId
    let s := match c.item.ring? with
      | some n => s.setRing n { s.ringOf n with out := (s.ringOf n).out ++ [it] }
      | none => s
    s.toPort 74 it

/-- RELEASE and EVENT of a cue instant at device time `w`. -/
def State.cuePost (s : State) (slot : Nat) (c : CueSlot) (w : Nat) : State :=
  let s := if argBit c.item.d.arg0 6 then s.cueRelease slot c else s
  if argBit c.item.d.arg0 7 then s.timEvent 6 slot w else s

/-- All actions of a cue instant; in Stabled, RELEASE and EVENT wait for the wake (R372). -/
def State.cueActions (s : State) (slot : Nat) (c : CueSlot) (w : Nat) : State :=
  let s := if argBit c.item.d.arg0 3 then s.cueAct c.item.d else s
  if s.chip.stabled ∧ (argBit c.item.d.arg0 6 ∨ argBit c.item.d.arg0 7) then
    { s with tim := { s.tim with deferred := s.tim.deferred ++ [(slot, w)] } }
  else s.cuePost slot c w

/-- A cue slot. -/
def State.cueOf? (s : State) (slot : Nat) : Option CueSlot := Sp.find s.tim.cues slot

/-- Hold or free a cue slot, reporting TIM_CUE_BUSY. -/
def State.putCue (s : State) (slot : Nat) (c : Option CueSlot) : State :=
  let w := s.rd64 Reg.TIM_CUE_BUSY
  match c with
  | some c =>
    ({ s with tim := { s.tim with cues := Sp.put s.tim.cues slot c } }).wr64 Reg.TIM_CUE_BUSY (w ||| 2 ^ slot)
  | none =>
    ({ s with tim := { s.tim with cues := Sp.drop s.tim.cues slot } }).wr64 Reg.TIM_CUE_BUSY (w - (w &&& 2 ^ slot))

/-- The device time of a cue's next instant (R365). -/
def CueSlot.due (c : CueSlot) : Nat := c.item.d.when_.toNat + c.next * c.item.d.arg1.toNat

/-- COUNT of a cue: none where it is unbounded. -/
def CueSlot.count (c : CueSlot) : Option Nat :=
  let n := argBits c.item.d.arg2 31 0
  if n = 0 then none else some n

/-- The progress of a repeating cue (R366): instants done, COUNT, late and skipped counts. -/
def State.cueProgress (s : State) (c : CueSlot) : State :=
  match s.longOf? c.item.handle.1 c.item.handle.2 with
  | some l => s.putLong { l with done := c.next, word := min c.late 0xFFFF + min c.skipped 0xFFFF * 2 ^ 16 }
  | none => s

/-- A repeating cue goes on with its next instant, or ends after its last one. -/
def State.cueNext (s : State) (slot : Nat) (c : CueSlot) : State :=
  let s := (s.putCue slot (some c)).cueProgress c
  match c.count, s.longOf? c.item.handle.1 c.item.handle.2 with
  | some n, some l =>
    if n ≤ c.next then (s.putCue slot none).endLong l (if c.late = 0 then .done else .doneLate) else s
  | _, _ => s

/-- One instant of a cue acts at this moment, late or not; `skip` further instants before it are skipped (R366). -/
def State.cueFire (s : State) (slot : Nat) (c : CueSlot) (late : Bool) (skip : Nat) : State :=
  let w := s.devNs
  if c.repeats then
    let s := s.cueActions slot c w
    s.cueNext slot { c with
      next := c.next + skip + 1, late := c.late + (if late then 1 else 0), skipped := c.skipped + skip }
  else if s.chip.stabled ∧ (argBit c.item.d.arg0 6 ∨ argBit c.item.d.arg0 7) then
    (s.cueActions slot c w).putCue slot (some { c with next := 1 })
  else
    let s := (s.cueActions slot c w).putCue slot none
    s.finish (c.item.acting late) 11 .done ⟨w, 0, 0⟩

/-- An instant of a cue is passed without acting. -/
def State.cueSkip (s : State) (slot : Nat) (c : CueSlot) (n : Nat) : State :=
  s.cueNext slot { c with next := c.next + n, skipped := c.skipped + n }

/-- The lowest free cue slot (DESIGN CHOICE, log entry 24). -/
def State.freeCue (s : State) : Option Nat := (List.range 64).find? (fun k => (s.cueOf? k).isNone)

/-- A cue takes a slot; with several instants it is a long operation. -/
def State.takeCue (s : State) (it : Item) (stored : Option Desc) (slot : Nat) : State :=
  let n := argBits it.d.arg2 31 0
  let rep := it.d.arg1 != 0#64 && n != 1
  let s := s.putCue slot (some ⟨it, if argBit it.d.arg0 6 then stored else none, 0, rep, 0, 0⟩)
  if rep then s.startLong it 11 n 0 else s

/-- The field ranges of CUE_SET (R365). -/
def cueRange (d : Desc) (stored : Option Desc) : Bool :=
  let period := d.arg1.toNat
  let width := argBits d.arg2 63 32
  let acts := argBit d.arg0 3 || argBit d.arg0 6 || argBit d.arg0 7
  let pulse := argBit d.arg0 3 && argBits d.arg0 5 4 == 2
  d.when_ != 0#64 && acts && (period == 0 || (1000 ≤ period && period ≤ 86400 * 10 ^ 9))
    && (!pulse || (20 ≤ width && width ≤ 10 ^ 9 && (period == 0 || width < period)))
    && (if argBit d.arg0 6 then
          d.len == 64#32 && (match stored with | some x => x.when_ == 0#64 && x.opcode != 0xB001#16 | none => false)
        else d.ptr == 0#64 && d.len == 0#32)

/-- A CUE that acts as it is accepted, its instant come or passed (R366). -/
def State.cueNow (s : State) (it : Item) (stored : Option Desc) (slot : Nat) : State :=
  let s := s.takeCue it stored slot
  match s.cueOf? slot with
  | some c => s.cueFire slot c (it.wait == .late) 0
  | none => s

/-- CUE_SET (R365): a cue takes a slot when it reaches TIM; a first instant that has passed acts at once (R66). `raw` is
what the host buffer holds: with RELEASE, the stored descriptor. -/
def execCueSet (t : Nat) (it : Item) (raw : List Byte) (s : State) : Out State :=
  let s := s.to t
  let stored := if argBit it.d.arg0 6 then some (Desc.ofBytes raw) else none
  match s.freeCue with
  | none => ok (s.runOpWith 11 it { Checks.pass with range := cueRange it.d stored, state := false }
      (fun s _ => s) (fun s _ => s))
  | some slot => ok (s.runOpWith 11 it { Checks.pass with range := cueRange it.d stored }
      (fun s it => s.takeCue it stored slot) (fun s it => s.cueNow it stored slot))

/-- Whether a cue is suspended (R366). -/
def State.cueHeld (s : State) (c : CueSlot) : Bool :=
  match s.longOf? c.item.handle.1 c.item.handle.2 with
  | some l => c.repeats && (l.state == .suspended || !s.longAtStage l)
  | none => false

/-- A lower cue slot has an instant that has come: it acts first (R367). -/
def State.cueBehind (s : State) (slot : Nat) : Bool :=
  s.tim.cues.any (fun p => decide (p.1 < slot) && decide (p.2.due ≤ s.devNs) && (p.2.repeats || p.2.next == 0))

/-- CUE_INSTANT: the instant of the cue in a slot arrives; a suspended cue skips it (R366). -/
def execCueInstant (t : Nat) (slot : Fin 64) (s : State) : Out State :=
  let s := s.to t
  match s.cueOf? slot.val with
  | some c =>
    if s.devNs < c.due ∨ !s.runs 11 blkCues ∨ (!c.repeats ∧ c.next = 1) ∨ s.cueBehind slot.val then ok s
    else if s.cueHeld c then ok (s.cueSkip slot.val c 1)
    else ok (s.cueFire slot.val c false 0)
  | none => ok s

/-- The instants of a cue that device time has reached. -/
def State.cuePassed (s : State) (c : CueSlot) : Nat :=
  if s.devNs < c.due ∨ (!c.repeats ∧ c.next = 1) then 0
  else if c.item.d.arg1 = 0#64 then 1
  else
    let n := (s.devNs - c.due) / c.item.d.arg1.toNat + 1
    match c.count with
    | some k => min n (k - c.next)
    | none => n

/-- A forward step passes instants of the cue in a slot (R66, R366): a first instant acts late, or is rejected with
NO_LATE; of later ones one acts, late, and the rest are skipped, all of them with NO_LATE or while suspended. -/
def State.cueStep (s : State) (slot : Nat) : State :=
  match s.cueOf? slot with
  | none => s
  | some c =>
    let n := s.cuePassed c
    if n = 0 then s
    else if s.cueHeld c then s.cueSkip slot c n
    else if c.next = 0 ∧ c.item.d.noLate then
      let s := s.putCue slot none
      match s.longOf? c.item.handle.1 c.item.handle.2, c.repeats with
      | some l, true =>
        let s := (s.dropLong l.ring l.tag).finish c.item 11 .rejExpired
        (match l.ctl with | some x => s.finish x 1 .rejState | none => s)
      | _, _ => s.finish c.item 11 .rejExpired
    else if c.item.d.noLate then s.cueSkip slot c n
    else s.cueFire slot c true (n - 1)

/-- PULSE_WIDTH_END: outputs 0 and 1 are PPS_OUT, 2 to 9 CUE_0 to CUE_7. -/
def execPulseWidthEnd (t : Nat) (out : Fin 10) (s : State) : Out State :=
  let s := s.to t
  if out.val < 2 then
    let p := s.ppsOf out.val
    match p.pulseEnd with
    | some e => if e ≤ s.cyc then ok (s.setPps out.val { p with pulseEnd := none }) else ok s
    | none => ok s
  else
    let k := out.val - 2
    match Sp.find s.tim.cuePulse k with
    | some (e, v) =>
      if e ≤ s.cyc then
        ok (({ s with tim := { s.tim with cuePulse := Sp.drop s.tim.cuePulse k } }).setCueLevel k v)
      else ok s
    | none => ok s

/-- At wake, RELEASE and EVENT actions that fell in Stabled are taken, late (R372). -/
def State.wakeCues (s : State) : State :=
  let l := s.tim.deferred
  let s := { s with tim := { s.tim with deferred := [] } }
  l.foldl (fun s p => match s.cueOf? p.1 with
    | some c =>
      let s := s.cuePost p.1 c p.2
      if c.repeats then s.putCue p.1 (some { c with late := c.late + 1 })
      else (s.putCue p.1 none).finish (c.item.acting true) 11 .done ⟨s.devNs, 0, 0⟩
    | none => s) s

/-- What a TIM region reset leaves (R369, R371): the counter, TIM_INCR and the PPS outputs stay; sources qualify again;
pending cues and SET_TIME items are failed by the caller; cue outputs return to IDLE where a cue was pending. -/
def State.timReset (s : State) : State :=
  let e := s.errorFs
  let hadSel := s.get B.TIM_STS_SELECTED != 0
  let held := !s.tim.cues.isEmpty
  let s := { s with tim := { s.tim with
    sources := [], splitRun := 0, unityRun := 0, step := none, setWaits := [], cues := [], cuePulse := []
    deferred := [], e0 := if hadSel then e else s.tim.e0, growAt := if hadSel then s.cyc else s.tim.growAt
    driven := if held then 0 else s.tim.driven } }
  let s := (s.wr Reg.TIM_SRC_STS 0).setFlag B.TIM_SRC_STS_EXCL_SPOOF (s.flag B.FIX_INTEG_STS_SPOOF_SUSPECT)
  let s := (((s.set B.TIM_STS_SELECTED 0).setFlag B.TIM_STS_DISAGREE false).setFlag B.TIM_STS_FROZEN false)
  let s := ((s.setFlag B.TIM_STS_SLEWING false).setFlag B.TIM_STS_STEP_PENDING false).wr64 Reg.TIM_CUE_BUSY 0
  let s := if held then (List.range 8).foldl (fun s k => s.setCueLevel k (s.flag (B.TIM_CUE_CFG_IDLE k))) s else s
  s.reportTime

end Sys2Proof.Machine
end

