-- ==== Sys2Proof/Machine/PadGeom.lean ====
section
/-!
DEFINITION. The plane geometry of sweeps (R223 to R225): poses, widening, hulls, covered cells. Lengths are in units of
2^-20 mm, sines in units of 2^-48; both are exact at headings that are multiples of 90°, elsewhere they are rounded
(DESIGN CHOICE, log entry 30).
-/

namespace Sys2Proof.Machine

/-- A point in units of 2^-20 mm. -/
abbrev Pt := Int × Int

/-- Units of a millimetre. -/
def padUnit : Int := 2 ^ 20

/-- The next term of a sine or cosine series and the sum so far: `x` in units of 2^-48, `k` the factor index. -/
def seriesStep (x : Int) (p : Int × Int) (k : Nat) : Int × Int :=
  let t := -(p.1 * x / 2 ^ 48 * x / 2 ^ 48) / ((k * (k + 1) : Nat) : Int)
  (t, p.2 + t)

/-- Sine of `h` hundredths of a degree, 0 to 9,000, by its series. -/
def sinQuarter (h : Nat) : Int :=
  if h = 9000 then 2 ^ 48
  else
    let x : Int := ((h * 884279719003555 / 18000 : Nat) : Int)
    ([2, 4, 6, 8, 10, 12, 14, 16, 18, 20].foldl (seriesStep x) (x, x)).2

/-- Sine of `h` hundredths of a degree. -/
def sinOf (h : Nat) : Int :=
  let h := h % 36000
  if h ≤ 9000 then sinQuarter h
  else if h ≤ 18000 then sinQuarter (18000 - h)
  else if h ≤ 27000 then -sinQuarter (h - 18000)
  else -sinQuarter (36000 - h)

/-- Cosine of `h` hundredths of a degree. -/
def cosOf (h : Nat) : Int := sinOf (h + 9000)

/-- A body point at pose (`e`, `n` in mm, heading `h`) (R223). -/
def posePt (e n : Int) (h : Nat) (p : Pt) : Pt :=
  let s := sinOf h
  let c := cosOf h
  (e * padUnit + (p.1 * s - p.2 * c) / 2 ^ 48, n * padUnit + (p.1 * c + p.2 * s) / 2 ^ 48)

/-- A body polygon at a pose. -/
def posePoly (e n : Int) (h : Nat) (ps : List Pt) : List Pt := ps.map (posePt e n h)

/-- Twice the signed area of the triangle `a`, `b`, `c`: positive where `c` lies left of the line from `a` to `b`. -/
def cross (a b c : Pt) : Int := (b.1 - a.1) * (c.2 - a.2) - (b.2 - a.2) * (c.1 - a.1)

/-- A list turned left by one. -/
def turnLeft {α : Type} (l : List α) : List α :=
  match l with
  | [] => []
  | x :: r => r ++ [x]

/-- The outward unit normal, in units of 2^-30, of the edge from `a` to `b` of a counter-clockwise polygon. -/
def edgeNormal (a b : Pt) : Pt :=
  let dx := b.1 - a.1
  let dy := b.2 - a.2
  let len : Int := ((isqrt ((dx * dx + dy * dy).toNat * 2 ^ 60) : Nat) : Int)
  if len = 0 then (0, 0) else (dy * 2 ^ 60 / len, -dx * 2 ^ 60 / len)

/-- A vertex between edges of normals `m` and `n`, moved so that both edge lines move outward by `d` mm (R224). -/
def mitre (d : Int) (v m n : Pt) : Pt :=
  let den := 2 ^ 30 + (m.1 * n.1 + m.2 * n.2) / 2 ^ 30
  if den ≤ 0 then v
  else (v.1 + d * padUnit * (m.1 + n.1) / den, v.2 + d * padUnit * (m.2 + n.2) / den)

/-- Body vertices in mm widened by `d` mm (R224), in units of 2^-20 mm. -/
def widenBody (vs : List (Int × Int)) (d : Nat) : List Pt :=
  let ns := (vs.zip (turnLeft vs)).map (fun p => edgeNormal p.1 p.2)
  let pts : List Pt := vs.map (fun p => (p.1 * padUnit, p.2 * padUnit))
  -- `ns` holds the edge that leaves each vertex; the one that reaches it is the edge before
  let reach : List Pt := match ns.getLast? with
    | some l => l :: ns.dropLast
    | none => []
  ((pts.zip reach).zip ns).map (fun p => mitre d p.1.1 p.1.2 p.2)

/-- Drop the points of a hull chain that a new point leaves inside. -/
def popHull (p : Pt) (l : List Pt) : List Pt :=
  match l with
  | b :: a :: r => if cross a b p ≤ 0 then popHull p (a :: r) else b :: a :: r
  | l => l

/-- One chain of the hull of points in order, last point first. -/
def hullChain (ps : List Pt) : List Pt := ps.foldl (fun acc p => p :: popHull p acc) []

/-- Points ordered by their first and then their second coordinate. -/
def ptLe (a b : Pt) : Bool := a.1 < b.1 || (a.1 == b.1 && a.2 ≤ b.2)

/-- The convex hull, counter-clockwise (R225). -/
def hull (ps : List Pt) : List Pt :=
  let l := (sortBy ptLe ps).eraseDups
  (hullChain l).tail.reverse ++ (hullChain l.reverse).tail.reverse

/-! ### The grid (R193, R194) -/

/-- W of a grid. -/
def PadGeom.w (g : PadGeom) : Nat := g.w64 * 64
/-- H of a grid. -/
def PadGeom.h (g : PadGeom) : Nat := g.h64 * 64
/-- Tiles of a grid. -/
def PadGeom.tiles (g : PadGeom) : Nat := g.w64 * g.h64

/-- R193, with the cells the map area holds. -/
def PadGeom.legal (g : PadGeom) (cap : Nat) : Bool :=
  1 ≤ g.w64 && g.w64 ≤ 512 && 1 ≤ g.h64 && g.h64 ≤ 512 && g.w * g.h ≤ 2 ^ 25 && g.w * g.h ≤ cap
    && [10, 20, 25, 50, 100].contains g.cm

/-- A cell (i, j), which may lie outside the grid. -/
abbrev Cell := Int × Int

/-- The cell lies in the grid (R194). -/
def PadGeom.has (g : PadGeom) (c : Cell) : Bool := 0 ≤ c.1 && c.1 < g.w && 0 ≤ c.2 && c.2 < g.h

/-- Tile index × 4,096 + cell order of a cell of the grid (R203). -/
def PadGeom.key (g : PadGeom) (c : Cell) : Nat :=
  let i := c.1.toNat
  let j := c.2.toNat
  (j / 64 * g.w64 + i / 64) * 4096 + (j % 64) * 64 + i % 64

/-- The cell of a key (R203). -/
def PadGeom.cellAt (g : PadGeom) (k : Nat) : Cell :=
  let t := k / 4096
  let o := k % 4096
  (((t % g.w64 * 64 + o % 64 : Nat) : Int), ((t / g.w64 * 64 + o / 64 : Nat) : Int))

/-- The cell a point in mm lies in (R194). -/
def PadGeom.cellOf (g : PadGeom) (e n : Int) : Cell := ((e - g.orgE) / (10 * g.cm), (n - g.orgN) / (10 * g.cm))

/-- A place in an order by j and then i, for any cell. -/
def cellOrd (c : Cell) : Nat := (c.2 + 2 ^ 27).toNat * 2 ^ 28 + (c.1 + 2 ^ 27).toNat

/-- The cell of a place. -/
def ordCell (k : Nat) : Cell := (((k % 2 ^ 28 : Nat) : Int) - 2 ^ 27, ((k / 2 ^ 28 : Nat) : Int) - 2 ^ 27)

/-- The corners of a cell's square, counter-clockwise from the south-west. -/
def PadGeom.corners (g : PadGeom) (c : Cell) : List Pt :=
  let l : Int := 10 * g.cm
  let x := (g.orgE + c.1 * l) * padUnit
  let y := (g.orgN + c.2 * l) * padUnit
  [(x, y), (x + l * padUnit, y), (x + l * padUnit, y + l * padUnit), (x, y + l * padUnit)]

/-- Least and greatest of a list of integers. -/
def spread (l : List Int) : Int × Int :=
  match l with
  | [] => (0, 0)
  | x :: r => r.foldl (fun (p : Int × Int) y => (min p.1 y, max p.2 y)) (x, x)

/-- A convex counter-clockwise polygon covers a cell (R223): no line along a side of either parts them, where touching
parts. -/
def PadGeom.covers (g : PadGeom) (poly : List Pt) (c : Cell) : Bool :=
  let cs := g.corners c
  let (px, qx) := spread (poly.map Prod.fst)
  let (py, qy) := spread (poly.map Prod.snd)
  let (cx, dx) := spread (cs.map Prod.fst)
  let (cy, dy) := spread (cs.map Prod.snd)
  px < dx && cx < qx && py < dy && cy < qy &&
    (poly.zip (turnLeft poly)).all (fun e => cs.any (fun q => 0 < cross e.1 e.2 q))

/-- The integers from `a` to `b`. -/
def intRange (a b : Int) : List Int := (List.range (b - a + 1).toNat).map (fun (k : Nat) => a + (k : Int))

/-- The cells a polygon covers, by j and then i. -/
def PadGeom.cells (g : PadGeom) (poly : List Pt) : List Cell :=
  let l : Int := 10 * g.cm * padUnit
  let (px, qx) := spread (poly.map Prod.fst)
  let (py, qy) := spread (poly.map Prod.snd)
  let ox := g.orgE * padUnit
  let oy := g.orgN * padUnit
  ((intRange ((py - oy) / l) ((qy - oy) / l)).map (fun j =>
    ((intRange ((px - ox) / l) ((qx - ox) / l)).map (fun i => (i, j))).filter (g.covers poly))).flatten

/-- Distance squared, in units of 2^-40 mm², from a point to the nearest point of a cell's square. -/
def PadGeom.dist2 (g : PadGeom) (p : Pt) (c : Cell) : Nat :=
  let cs := g.corners c
  let (x0, x1) := spread (cs.map Prod.fst)
  let (y0, y1) := spread (cs.map Prod.snd)
  let dx := max (max (x0 - p.1) (p.1 - x1)) 0
  let dy := max (max (y0 - p.2) (p.2 - y1)) 0
  (dx * dx + dy * dy).toNat

/-! ### Shapes (R220) -/

/-- Cosine of the angle at `b` between `a` and `c` is at most a half: 2 u·v ≤ |u||v|. -/
def angle60 (a b c : Pt) : Bool :=
  let u : Pt := (a.1 - b.1, a.2 - b.2)
  let v : Pt := (c.1 - b.1, c.2 - b.2)
  let d := u.1 * v.1 + u.2 * v.2
  d ≤ 0 || 4 * d * d ≤ (u.1 * u.1 + u.2 * u.2) * (v.1 * v.1 + v.2 * v.2)

/-- The vertices turn left at every corner, once around: strictly convex, counter-clockwise (R220). Every other vertex
lies left of every edge. -/
def convexCcw (vs : List Pt) : Bool :=
  (vs.zip (turnLeft vs)).all (fun e => vs.all (fun p => p == e.1 || p == e.2 || 0 < cross e.1 e.2 p))
    && (vs.zip (turnLeft vs)).all (fun e => e.1 != e.2)

/-- The shape of a record, in mm. -/
def ShapeRec.vertices (x : ShapeRec) : List Pt :=
  (x.verts.take x.nvert.toNat).map (fun p => (p.1.toInt, p.2.toInt))

/-- The checks of R220 and the ranges of Table PAD-14. -/
def ShapeRec.legal (x : ShapeRec) : Bool :=
  let vs := x.vertices
  3 ≤ x.nvert.toNat && x.nvert.toNat ≤ 8 && vs.length == x.nvert.toNat && vs.eraseDups.length == vs.length
    && convexCcw vs
    && ((vs.zip (turnLeft vs)).zip (turnLeft (turnLeft vs))).all (fun p => angle60 p.1.1 p.1.2 p.2)
    && vs.all (fun p => -16000 ≤ p.1 && p.1 ≤ 16000 && -16000 ≤ p.2 && p.2 ≤ 16000)
    && x.clear.toNat ≤ 2000 && x.cap.toNat ≤ 100000

/-- The circumradius about the body origin, in units of 2^-20 mm, rounded up. -/
def Shape.radius (x : Shape) : Nat :=
  let m := (x.verts.map (fun p => (p.1 * p.1 + p.2 * p.2).toNat)).foldl max 0
  let r := isqrt (m * 2 ^ 40)
  if r * r = m * 2 ^ 40 then r else r + 1

end Sys2Proof.Machine
end

