-- ==== Sys2Proof/Machine/Tack.lean ====
section
/-!
DEFINITION. The key store (R394 to R416): slots, saddlebags, operations, revocation, zeroise.
-/

namespace Sys2Proof.Machine

/-! ### Slots -/

/-- A key slot. -/
def State.slotOf? (s : State) (k : Nat) : Option KeySlot := Sp.find s.tack.slots k

/-- Whether slot `k` is EMPTY. -/
def State.slotEmpty (s : State) (k : Nat) : Bool := (s.slotOf? k).isNone

/-- The key of a slot that is LOADED. -/
def State.loaded? (s : State) (k : Nat) : Option KeySlot :=
  match s.slotOf? k with
  | some x => if x.revoked ∨ x.leaving then none else some x
  | none => none

/-- Report a slot (Table TACK-16, TACK_SLOT_s_ID). -/
def State.reportSlot (s : State) (k : Nat) : State :=
  let users := min 255 (s.tack.holders.filter (fun h => h.1 == k)).length
  match s.slotOf? k with
  | none => (s.wr (Reg.TACK_SLOT_STS k) (users * 2 ^ 24)).wr (Reg.TACK_SLOT_ID k) 0
  | some x =>
    let w := (if x.revoked then 2 else 1) + x.attr.type.toNat * 2 ^ 8 + x.attr.bind.toNat % 128 * 2 ^ 16
      + users * 2 ^ 24
    (s.wr (Reg.TACK_SLOT_STS k) w).wr (Reg.TACK_SLOT_ID k) x.attr.id.toNat

/-- Set or empty a slot. -/
def State.putSlot (s : State) (k : Nat) (x : Option KeySlot) : State :=
  let slots := match x with
    | some x => Sp.put s.tack.slots k x
    | none => Sp.drop s.tack.slots k
  ({ s with tack := { s.tack with slots := slots } }).reportSlot k

/-- The slot a slot argument names for a new key: 0x1FF is the lowest EMPTY slot (R402). -/
def State.targetSlot (s : State) (a : Nat) : Option Nat :=
  if a = 0x1FF then (List.range 512).find? (fun k => s.slotEmpty k)
  else if s.slotEmpty a then some a else none

/-- The slot that holds KEY_ID `id`, LOADED. -/
def State.slotById? (s : State) (id : Nat) : Option (Nat × KeySlot) :=
  (s.tack.slots.find? (fun p => p.2.attr.id.toNat == id && !p.2.revoked && !p.2.leaving))

/-- A USAGE bit of a key. -/
def KeyAttr.may (a : KeyAttr) (bit : Nat) : Bool := a.usage.getLsbD bit

/-- A key bound to the service firmware's wrapping (R399). -/
def KeyAttr.svcWrap (a : KeyAttr) : Bool := a.bind.getLsbD 6

/-- The ancestors of a key. -/
def KeyAttr.ancs (a : KeyAttr) : List Nat := [a.anc0.toNat, a.anc1.toNat, a.anc2.toNat, a.anc3.toNat]

/-- USAGE bits a TYPE permits, and the KEY_LEN it takes (Table TACK-3). -/
def KeyAttr.legal (a : KeyAttr) : Bool :=
  let u := a.usage.toNat
  let n := a.len.toNat
  let only (mask : Nat) : Bool := u &&& mask == u
  a.id != 0#32 &&
  match a.type.toNat with
  | 1 => n == 32 && only 3
  | 2 => n == 48 && only 16
  | 3 => 32 ≤ n && n ≤ 64 && only 4
  | 4 => n == 48 && only 8
  | 5 => n == 32 && only 8
  | 6 => n == 64 && only 32
  | _ => false

/-- BLOB_LEN of a key of `n` bytes (R400). -/
def bagBlobLen (n : Nat) : Nat := 8 * ((40 + n + 7) / 8) + 8

/-- The key bus (R398): region bit `b` of BIND and USAGE bit `u` must be set in a LOADED slot. -/
def State.keyFor? (s : State) (k b u : Nat) : Option KeySlot :=
  match s.loaded? k with
  | some x => if x.attr.bind.getLsbD b ∧ x.attr.may u ∧ !x.attr.svcWrap then some x else none
  | none => none

/-- An item passes its key-load point with slot `k`. -/
def State.holdKey (s : State) (k id : Nat) : State :=
  ({ s with tack := { s.tack with holders := s.tack.holders ++ [(k, id)] } }).reportSlot k

/-! ### Events and status (R396, R415) -/

/-- A TACK event: vector 67 and an event of the ALLOT function. -/
def State.tackEvent (s : State) (code r1 r2 : Nat) : State := (s.fire 67).event .allot 12 code 0 r1 r2

/-- The key epoch E. -/
def State.epoch (s : State) : Nat := s.chip.part.otp.epochs

/-- TAMPERED (R396). -/
def State.tampered (s : State) : Bool := s.chip.part.otp.acks < s.chip.part.otp.tampers

/-- Report TACK_STS and TACK_EPOCH from the fuses and the keys held. -/
def State.reportTack (s : State) : State :=
  let o := s.chip.part.otp
  let s := s.wr Reg.TACK_EPOCH (o.epochs + o.tampers * 2 ^ 8 + o.acks * 2 ^ 16)
  let s := (s.setFlag B.TACK_STS_TAMPERED s.tampered).setFlag B.TACK_STS_EXHAUSTED o.exhausted
  let s := (s.setFlag B.TACK_STS_KEK_VALID s.tack.kek).setFlag B.TACK_STS_WINDOW s.tack.kekPrev
  let s := s.setFlag B.TACK_STS_ACTIVE (s.rd Reg.TACK_TAMPER_LIVE != 0)
  s.wr Reg.TACK_REVOKE_USED s.tack.revoked.length

/-- Program OTP fuses. -/
def State.setOtp (s : State) (o : Otp) : State :=
  { s with chip := { s.chip with part := { s.chip.part with otp := o } } }

/-! ### In-flight users (R398, R402, R404) -/

/-- UNLOAD and REVOKE items whose users have all ended complete; their slots become EMPTY. -/
def State.settleKeys (s : State) : State :=
  let done := s.tack.waits.filter (fun w => w.users.isEmpty)
  let s := { s with tack := { s.tack with waits := s.tack.waits.filter (fun w => !w.users.isEmpty) } }
  done.foldl (fun s w => (w.slots.foldl (fun s k => s.putSlot k none) s).finish w.item 12 .done w.res) s

/-- The item of identity `id` ends: it holds no key any more. -/
def State.releaseKeys (s : State) (id : Nat) : State :=
  let slots := (s.tack.holders.filter (fun h => h.2 == id)).map Prod.fst
  let s := { s with tack := { s.tack with
    holders := s.tack.holders.filter (fun h => h.2 != id)
    waits := s.tack.waits.map (fun (w : KeyWait) => { w with users := w.users.filter (· != id) }) } }
  (slots.foldl (fun (s : State) k => s.reportSlot k) s).settleKeys

/-- The items that hold one of some slots. -/
def State.usersOf (s : State) (slots : List Nat) : List Nat :=
  (s.tack.holders.filter (fun h => slots.contains h.1)).map Prod.snd

/-! ### The form every operation has -/

/-- CONTEXT 0, and no operation while the keys are withheld (R402, R464). -/
def State.tackChecks (s : State) (it : Item) (range version key state : Bool) : Checks :=
  ⟨it.d.context == 0 && range, version, key, state && !s.tack.withheld⟩

/-- Run a TACK operation; an item ended REJ_KEY is counted. -/
def State.tackOp (s : State) (it : Item) (self : Item → Instr) (k : Checks) (act : State → Item → State) : State :=
  let rej := !s.barred it && s.runs 12 (blockOf it.d.opcode.toNat) && s.judge it k == .reject .rejKey
  let s := s.runOp 12 it self k act
  if rej then s.count Reg.TACK_CNT_REJ_KEY else s

/-- The wrapping key a WRAP_SLOT argument names: 0x1FF is the KEK (R399, R402); its KEY_ID and ancestors. -/
def State.wrapKey? (s : State) (it : Item) (a : Nat) : Option (Option KeyAttr) :=
  if a = 0x1FF then (if s.tack.kek then some none else none)
  else match s.loaded? a with
    | some x => if x.attr.may 1 ∧ (!x.attr.svcWrap ∨ it.src = .svc) then some (some x.attr) else none
    | none => none

/-- KEY_ID `id` is held in a slot. -/
def State.idHeld (s : State) (id : Nat) : Bool := s.tack.slots.any (fun p => p.2.attr.id.toNat == id)

/-- A KEY_ID, or any of a list, is on the revocation list. -/
def State.listed (s : State) (ids : List Nat) : Bool := ids.any (fun i => s.tack.revoked.contains i)

/-- A slot a TACK operation uses with USAGE bit `u`; a key with SVC_WRAP serves only as a wrapping key (R399). -/
def State.useSlot? (s : State) (k u : Nat) : Option KeySlot :=
  match s.loaded? k with
  | some x => if x.attr.may u ∧ !x.attr.svcWrap then some x else none
  | none => none

/-- The bytes of an attribute block (Table TACK-2). -/
def KeyAttr.bytes (a : KeyAttr) : List Byte :=
  leBytes 1 a.epoch.toNat ++ leBytes 1 a.type.toNat ++ leBytes 2 a.len.toNat ++ leBytes 2 a.usage.toNat
    ++ leBytes 2 a.bind.toNat ++ leBytes 4 a.id.toNat ++ leBytes 4 a.anc0.toNat ++ leBytes 4 a.anc1.toNat
    ++ leBytes 4 a.anc2.toNat ++ leBytes 4 a.anc3.toNat
    ++ leBytes 4 ((if a.inside then 1 else 0) + (if a.imported then 2 else 0)) ++ leBytes 8 0

/-- An attribute block from its bytes (Table TACK-2). -/
def KeyAttr.ofBytes (bs : List Byte) : KeyAttr where
  epoch := BitVec.ofNat 8 (leAt bs 0x00 1)
  type := BitVec.ofNat 8 (leAt bs 0x01 1)
  len := BitVec.ofNat 16 (leAt bs 0x02 2)
  usage := BitVec.ofNat 16 (leAt bs 0x04 2)
  bind := BitVec.ofNat 16 (leAt bs 0x06 2)
  id := BitVec.ofNat 32 (leAt bs 0x08 4)
  anc0 := BitVec.ofNat 32 (leAt bs 0x0C 4)
  anc1 := BitVec.ofNat 32 (leAt bs 0x10 4)
  anc2 := BitVec.ofNat 32 (leAt bs 0x14 4)
  anc3 := BitVec.ofNat 32 (leAt bs 0x18 4)
  inside := (leAt bs 0x1C 4).testBit 0
  imported := (leAt bs 0x1C 4).testBit 1

/-- The key material behind an attribute block in unwrapped bytes. -/
def materialOf (a : KeyAttr) (plain : List Byte) : BitVec 512 :=
  BitVec.ofNat 512 (leAt plain 40 a.len.toNat)

/-- Key material of KEY_LEN bytes. -/
def KeyAttr.trim (a : KeyAttr) (mat : BitVec 512) : BitVec 512 := BitVec.ofNat 512 (mat.toNat % 256 ^ a.len.toNat)

/-- The bytes of a saddlebag (Table TACK-4); `blob` is what the key wrap gives. -/
def bagBytes (a : KeyAttr) (wrapper : Nat) (blob : List Byte) : List Byte :=
  [0x44#8, 0x5A#8, 0x53#8, 0x42#8] ++ leBytes 2 0x40 ++ leBytes 2 1 ++ a.bytes ++ leBytes 4 wrapper
    ++ leBytes 4 (bagBlobLen a.len.toNat) ++ leBytes 8 0 ++ fitBytes (bagBlobLen a.len.toNat) blob

/-- Completion results of an operation that used slot `k` for key `id`. -/
def slotRes (k id : Nat) : Res := ⟨k + id * 2 ^ 32, 0, 0⟩

/-! ### LOAD (R401) -/

/-- The clear attribute block of a saddlebag. -/
def Saddlebag.attr (b : Saddlebag) : KeyAttr := KeyAttr.ofBytes (b.raw.drop 8)

/-- WRAPPER of a saddlebag. -/
def Saddlebag.wrapper (b : Saddlebag) : Nat := leAt b.raw 0x30 4

/-- BLOB_LEN of a saddlebag. -/
def Saddlebag.blobLen (b : Saddlebag) : Nat := leAt b.raw 0x34 4

/-- Check 1 of R401 on a saddlebag: MAGIC, HDR_LEN, lengths, codes. -/
def Saddlebag.inRange (b : Saddlebag) : Bool :=
  b.raw.take 4 == [0x44#8, 0x5A#8, 0x53#8, 0x42#8] && leAt b.raw 0x04 2 == 0x40 && b.raw.length == 64 + b.blobLen
    && b.blobLen == bagBlobLen b.attr.len.toNat && b.attr.legal

/-- FORMAT of a saddlebag is 1. -/
def Saddlebag.known (b : Saddlebag) : Bool := leAt b.raw 0x06 2 == 1

/-- No KEY_ID the saddlebag names is on the revocation list. -/
def State.bagUnlisted (s : State) (b : Saddlebag) : Bool :=
  !s.listed (b.attr.id.toNat :: b.wrapper :: b.attr.ancs)

/-- The unwrapped attribute block equals the clear copy. -/
def Saddlebag.sound (b : Saddlebag) : Bool := b.plain.any (fun p => p.take 40 == (b.raw.drop 8).take 40)

/-- The key a saddlebag holds, once its blob is unwrapped. -/
def Saddlebag.key (b : Saddlebag) : KeySlot := ⟨b.attr, materialOf b.attr (b.plain.getD []), false, false⟩

/-- The key that WRAPPER names is a LOADED key with USAGE WRAP; one with SVC_WRAP serves only where `svc` holds (R399). -/
def State.wrapsBag (s : State) (b : Saddlebag) (svc : Bool) : Bool :=
  match s.slotById? b.wrapper with
  | some (_, x) => x.attr.may 1 && (!x.attr.svcWrap || svc)
  | none => false

/-- Check 3 of R401: the epoch, the wrapping key, the revocation list, the unwrap. -/
def State.bagKey (s : State) (b : Saddlebag) (svc : Bool) : Bool :=
  b.attr.epoch.toNat == s.epoch && s.tack.kek && (b.wrapper == 0 || s.wrapsBag b svc) && s.bagUnlisted b && b.sound

/-- The checks of LOAD (R401). -/
def State.loadChecks (s : State) (it : Item) (b : Saddlebag) : Checks :=
  s.tackChecks it b.inRange b.known (s.bagKey b false)
    ((s.targetSlot (argBits it.d.arg0 8 0)).isSome && !s.idHeld b.attr.id.toNat && !s.tampered)

/-- The saddlebag a LOAD reads: LEN bytes at PTR. -/
def loadBag (it : Item) (raw : List Byte) (plain : Option (List Byte)) : Saddlebag :=
  ⟨raw.take it.d.len.toNat, plain⟩

/-- LOAD: `raw` is what stands in memory at PTR, `plain` what the unwrap of its blob gives, none where its integrity check
fails. -/
def execTackLoad (t : Nat) (it : Item) (raw : List Byte) (plain : Option (List Byte)) (s : State) : Out State :=
  let s := s.to t
  let b := loadBag it raw plain
  let slot := s.targetSlot (argBits it.d.arg0 8 0)
  ok (s.tackOp it (fun i => .tackLoad t i raw plain) (s.loadChecks it b)
    (fun s it => match slot with
      | some k => (s.putSlot k (some b.key)).finish it 12 .done (slotRes k b.attr.id.toNat)
      | none => s))

/-! ### GENERATE, DERIVE, EXPORT, IMPORT (R402, R403, R407) -/

/-- KEY_LEN of a new key by TYPE; for an HKDF secret the spec gives the command no length: a free value from 32 to 64
(log entry 25). -/
def State.newLen (s : State) (type : Nat) : Nat :=
  match type with
  | 1 => 32 | 2 => 48 | 3 => 32 + s.freeVal.toNat % 33 | 4 => 48 | 5 => 32 | 6 => 64 | _ => 0

/-- Attributes of a new key from ARG words in the layout of GENERATE's ARG_0; its parent gives the ancestors (R397). -/
def State.newAttr (s : State) (w : BitVec 64) (id : Nat) (parent : Option KeyAttr) (inside : Bool) : KeyAttr :=
  let type := argBits w 7 0
  { epoch := BitVec.ofNat 8 s.epoch, type := BitVec.ofNat 8 type, len := BitVec.ofNat 16 (s.newLen type)
    usage := BitVec.ofNat 16 (argBits w 23 8), bind := BitVec.ofNat 16 (argBits w 39 24), id := BitVec.ofNat 32 id
    anc0 := (parent.map KeyAttr.id).getD 0, anc1 := (parent.map KeyAttr.anc0).getD 0
    anc2 := (parent.map KeyAttr.anc1).getD 0, anc3 := (parent.map KeyAttr.anc2).getD 0
    inside := inside, imported := false }

/-- The attributes of the key a GENERATE makes; its wrapping key is its parent (R397). -/
def State.generateAttr (s : State) (it : Item) : KeyAttr :=
  s.newAttr it.d.arg0 (argBits it.d.arg1 63 32) ((s.wrapKey? it (argBits it.d.arg1 24 16)).getD none) true

/-- The checks of GENERATE (R402). -/
def State.generateChecks (s : State) (it : Item) : Checks :=
  let a := s.generateAttr it
  s.tackChecks it (a.legal && 64 + bagBlobLen a.len.toNat ≤ it.d.len.toNat) true
    (s.wrapKey? it (argBits it.d.arg1 24 16)).isSome
    ((s.targetSlot (argBits it.d.arg1 8 0)).isSome && !s.idHeld (argBits it.d.arg1 63 32) && !s.tampered)

/-- GENERATE: `mat` is the DRBG's output, `blob` the wrapped key. -/
def execTackGenerate (t : Nat) (it : Item) (mat : BitVec 512) (blob : List Byte) (s : State) : Out State :=
  let s := s.to t
  let slot := s.targetSlot (argBits it.d.arg1 8 0)
  let id := argBits it.d.arg1 63 32
  let a := s.generateAttr it
  ok (s.tackOp it (fun i => .tackGenerate t i mat blob) (s.generateChecks it)
    (fun s it => match slot with
      | some k =>
        let s := (s.tookFree.putSlot k (some ⟨a, a.trim mat, false, false⟩)).writeHost it.d.ptr.toNat
          (bagBytes a a.anc0.toNat blob)
        s.finish it 12 .done (slotRes k id)
      | none => s))

/-- The parent of the key a DERIVE makes. -/
def State.deriveParent (s : State) (it : Item) : Option KeyAttr := (s.slotOf? (argBits it.d.arg0 8 0)).map KeySlot.attr

/-- The attributes of the key a DERIVE makes (R403). -/
def State.deriveAttr (s : State) (it : Item) : KeyAttr :=
  s.newAttr it.d.arg1 (argBits it.d.arg0 63 32) (s.deriveParent it) (((s.deriveParent it).map KeyAttr.inside).getD false)

/-- The checks of DERIVE (R402, R403): a parent without a fourth ancestor, a BIND within the parent's. -/
def State.deriveChecks (s : State) (it : Item) : Checks :=
  let a := s.deriveAttr it
  let fits := (s.deriveParent it).all (fun x => x.anc3 == 0 && a.bind &&& x.bind == a.bind)
  s.tackChecks it (a.legal && 1 ≤ it.d.len.toNat && it.d.len.toNat ≤ 64 && fits) true
    (s.useSlot? (argBits it.d.arg0 8 0) 2).isSome
    ((s.targetSlot (argBits it.d.arg0 17 9)).isSome && !s.idHeld (argBits it.d.arg0 63 32) && !s.tampered)

/-- DERIVE (R403): `mat` is what HKDF-SHA-384 gives. -/
def execTackDerive (t : Nat) (it : Item) (mat : BitVec 512) (s : State) : Out State :=
  let s := s.to t
  let slot := s.targetSlot (argBits it.d.arg0 17 9)
  let id := argBits it.d.arg0 63 32
  let a := s.deriveAttr it
  ok (s.tackOp it (fun i => .tackDerive t i mat) (s.deriveChecks it)
    (fun s it => match slot with
      | some k => (s.tookFree.putSlot k (some ⟨a, a.trim mat, false, false⟩)).finish it 12 .done (slotRes k id)
      | none => s))

/-- The checks of EXPORT (R402). -/
def State.exportChecks (s : State) (it : Item) : Checks :=
  let x := s.loaded? (argBits it.d.arg0 8 0)
  s.tackChecks it (x.all (fun x => decide (64 + bagBlobLen x.attr.len.toNat ≤ it.d.len.toNat))) true
    (x.any (fun x => !x.attr.svcWrap) && (s.wrapKey? it (argBits it.d.arg0 24 16)).isSome) (!s.tampered)

/-- EXPORT: the slot's saddlebag under the present epoch. -/
def execTackExport (t : Nat) (it : Item) (blob : List Byte) (s : State) : Out State :=
  let s := s.to t
  let k := argBits it.d.arg0 8 0
  let x := s.loaded? k
  let w := s.wrapKey? it (argBits it.d.arg0 24 16)
  ok (s.tackOp it (fun i => .tackExport t i blob) (s.exportChecks it)
    (fun s it => match x, w with
      | some x, some w =>
        let a := { x.attr with epoch := BitVec.ofNat 8 s.epoch }
        (s.writeHost it.d.ptr.toNat (bagBytes a ((w.map (fun y => y.id.toNat)).getD 0) blob)).finish it 12 .done
          (slotRes k 0)
      | _, _ => s))

/-- The attributes of an import record's key: as sent, IMPORTED set and GENERATED_INSIDE clear (R407). -/
def importAttr (plain : List Byte) : KeyAttr := { KeyAttr.ofBytes plain with inside := false, imported := true }

/-- The checks of IMPORT (R407): the ciphertext, the IV, the block and key material, the tag make up LEN. -/
def State.keyImportChecks (s : State) (it : Item) (plain : Option (List Byte)) : Checks :=
  let n := it.d.len.toNat
  let range := match plain with
    | some p => (importAttr p).legal && n == 1088 + 12 + (40 + (importAttr p).len.toNat) + 16
    | none => decide (1088 + 12 + 40 + 16 < n)
  s.tackChecks it range true ((s.useSlot? (argBits it.d.arg0 8 0) 5).isSome && plain.isSome)
    ((s.targetSlot (argBits it.d.arg0 17 9)).isSome && !plain.any (fun p => s.idHeld (importAttr p).id.toNat)
      && !s.tampered)

/-- IMPORT (R407): `plain` is what decapsulation and decryption give, the attribute block and the key material; none where
one of them fails. -/
def execTackImport (t : Nat) (it : Item) (plain : Option (List Byte)) (s : State) : Out State :=
  let s := s.to t
  let slot := s.targetSlot (argBits it.d.arg0 17 9)
  ok (s.tackOp it (fun i => .tackImport t i plain) (s.keyImportChecks it plain)
    (fun s it => match slot, plain with
      | some k, some p =>
        let a := importAttr p
        (s.putSlot k (some ⟨a, materialOf a p, false, false⟩)).finish it 12 .done (slotRes k a.id.toNat)
      | _, _ => s))

/-! ### UNLOAD, REVOKE (R402, R404) -/

/-- UNLOAD: the slot is erased, and becomes EMPTY once its users have ended. -/
def execTackUnload (t : Nat) (it : Item) (s : State) : Out State :=
  let s := s.to t
  let k := argBits it.d.arg0 8 0
  ok (s.tackOp it (fun i => .tackUnload t i)
    (s.tackChecks it true true (s.loaded? k).isSome true)
    (fun s it => match s.slotOf? k with
      | some x =>
        let s := s.putSlot k (some { x with mat := 0, leaving := true })
        ({ s with tack := { s.tack with
          waits := s.tack.waits ++ [KeyWait.mk it [k] (s.usersOf [k]) ⟨k, 0, 0⟩] } }).settleKeys
      | none => s))

/-- A key named by `id`, itself or through an ancestor. -/
def KeyAttr.under (a : KeyAttr) (id : Nat) : Bool := a.id.toNat == id || a.ancs.contains id

/-- Slot `k` is revoked: its key is erased (R404). -/
def State.revokeSlot (s : State) (k : Nat) : State :=
  match s.slotOf? k with
  | some x => s.putSlot k (some { x with mat := 0, revoked := true })
  | none => s

/-- The slots whose KEY_ID or ancestors a revocation of `id` names, LOADED or already erased (R404). -/
def State.slotsUnder (s : State) (id : Nat) : List Nat :=
  (s.tack.slots.filter (fun p => p.2.attr.under id)).map Prod.fst

/-- REVOKE of a KEY_ID not yet listed: it is listed, its LOADED slots are revoked, and the item waits for every user of a key
it names, those of a slot that an earlier REVOKE or UNLOAD erased among them (log entry 138). -/
def State.revokeKey (s : State) (it : Item) (id : Nat) : State :=
  let under := s.slotsUnder id
  let hit := under.filter (fun k => (s.loaded? k).isSome)
  let s := { s with tack := { s.tack with revoked := s.tack.revoked ++ [id] } }
  let s := hit.foldl (fun (s : State) (k : Nat) => s.revokeSlot k) s
  let users := s.usersOf under
  let s := { s with tack := { s.tack with
    waits := s.tack.waits ++ [KeyWait.mk it hit users ⟨hit.length, users.length, 0⟩] } }
  s.settleKeys.reportTack

/-- REVOKE: every slot of the KEY_ID or of its descendants is REVOKED and erased at once. -/
def execTackRevoke (t : Nat) (it : Item) (s : State) : Out State :=
  let s := s.to t
  let id := argBits it.d.arg0 31 0
  let isListed := s.tack.revoked.contains id
  ok (s.tackOp it (fun i => .tackRevoke t i)
    (s.tackChecks it (id != 0) true true (isListed || s.tack.revoked.length < 1024))
    (fun s it => if isListed then s.finish it 12 .done else s.revokeKey it id))

/-! ### SIGN, MAC, RANDOM, PUBKEY, ATTEST (R402, R405, R406) -/

/-- Bytes of a signature by TYPE (R402, Table TACK-7): r then s, or the ML-DSA-65 encoding. -/
def sigLen (type : Nat) : Nat := if type = 4 then 96 else 3309

/-- SIGN: `sig` is the signature. -/
def execTackSign (t : Nat) (it : Item) (sig : List Byte) (s : State) : Out State :=
  let s := s.to t
  ok (s.tackOp it (fun i => .tackSign t i sig)
    (s.tackChecks it (it.d.len.toNat ≤ 65536) true (s.useSlot? (argBits it.d.arg0 8 0) 3).isSome true)
    (fun s it =>
      let n := ((s.loaded? (argBits it.d.arg0 8 0)).map (fun x => sigLen x.attr.type.toNat)).getD 0
      (s.writeHost it.d.arg1.toNat (fitBytes n sig)).finish it 12 .done))

/-- MAC: `mac` holds the first 24 bytes, the first lowest. -/
def execTackMac (t : Nat) (it : Item) (mac : BitVec 192) (s : State) : Out State :=
  let s := s.to t
  ok (s.tackOp it (fun i => .tackMac t i mac)
    (s.tackChecks it (it.d.len.toNat ≤ 65536) true (s.useSlot? (argBits it.d.arg0 8 0) 4).isSome true)
    (fun s it => s.finish it 12 .done
      ⟨mac.toNat % 2 ^ 64, mac.toNat / 2 ^ 64 % 2 ^ 64, mac.toNat / 2 ^ 128⟩))

/-- RANDOM: `bytes` is the DRBG's output. -/
def execTackRandom (t : Nat) (it : Item) (bytes : List Byte) (s : State) : Out State :=
  let s := s.to t
  let n := it.d.len.toNat
  ok (s.tackOp it (fun i => .tackRandom t i bytes)
    (s.tackChecks it (1 ≤ n && n ≤ 4096) true true true)
    (fun s it => (s.writeHost it.d.ptr.toNat (fitBytes n bytes)).finish it 12 .done))

/-- Bytes of a public key by TYPE (R406). -/
def pubLen (type : Nat) : Nat := if type = 4 then 97 else if type = 5 then 1952 else if type = 6 then 1184 else 0

/-- The TYPE of the key whose public key PUBKEY asks for. -/
def State.pubType (s : State) (it : Item) : Nat :=
  if argBit it.d.arg0 9 then (if argBit it.d.arg0 0 then 5 else 4)
  else ((s.loaded? (argBits it.d.arg0 8 0)).map (fun x => x.attr.type.toNat)).getD 0

/-- The slot an operation names is LOADED and has no SVC_WRAP. -/
def State.plainSlot (s : State) (it : Item) : Bool :=
  (s.loaded? (argBits it.d.arg0 8 0)).any (fun x => !x.attr.svcWrap)

/-- The checks of PUBKEY (R406). -/
def State.pubkeyChecks (s : State) (it : Item) : Checks :=
  s.tackChecks it (pubLen (s.pubType it) ≤ it.d.len.toNat) true
    (if argBit it.d.arg0 9 then s.tack.identity else 0 < pubLen (s.pubType it) && s.plainSlot it) true

/-- PUBKEY: `pub` is the public key. Without the identity keys (PUF_FAIL) the key is absent. -/
def execTackPubkey (t : Nat) (it : Item) (pub : List Byte) (s : State) : Out State :=
  let s := s.to t
  let n := pubLen (s.pubType it)
  ok (s.tackOp it (fun i => .tackPubkey t i pub) (s.pubkeyChecks it)
    (fun s it => (s.writeHost it.d.ptr.toNat (fitBytes n pub)).finish it 12 .done))

/-- The first 0xA0 bytes of an attestation statement (Table TACK-7). -/
def State.statement (s : State) (x : Option KeyAttr) (digest : BitVec 384) (n1 n2 : BitVec 64) : List Byte :=
  [0x44#8, 0x5A#8, 0x41#8, 0x54#8] ++ leBytes 2 1
    ++ leBytes 2 ((if x.isSome then 1 else 0) + (if s.halter then 2 else 0) + (if s.tampered then 4 else 0))
    ++ leBytes 16 s.chip.part.otp.uid.toNat
    ++ (match x with | some a => a.bytes | none => leBytes 40 0)
    ++ leBytes 48 (if x.isSome then digest.toNat else 0) ++ leBytes 8 n1.toNat ++ leBytes 8 n2.toNat
    ++ leBytes 8 s.devNs ++ leBytes 1 s.qualityNow ++ leBytes 1 s.epoch
    ++ leBytes 1 s.chip.part.otp.tampers ++ leBytes 1 0 ++ leBytes 4 (s.rd Reg.CHIP_FW_VERSION)
    ++ leBytes 4 (s.rd Reg.CHIP_GB_VERSION) ++ leBytes 12 0

/-- ATTEST: `digest` and the two signatures are what the algorithms give. -/
def execTackAttest (t : Nat) (it : Item) (digest : BitVec 384) (sigs : List Byte) (s : State) : Out State :=
  let s := s.to t
  let noSlot := argBit it.d.arg0 10
  let x := s.loaded? (argBits it.d.arg0 8 0)
  ok (s.tackOp it (fun i => .tackAttest t i digest sigs)
    (s.tackChecks it (3565 ≤ it.d.len.toNat) true (s.tack.identity && (noSlot || s.plainSlot it)) true)
    (fun s it =>
      let a := if noSlot then none else x.map KeySlot.attr
      (s.writeHost it.d.ptr.toNat (s.statement a digest it.d.arg1 it.d.arg2 ++ fitBytes 3405 sigs)).finish it 12 .done))

/-! ### EPOCH_ADVANCE, REWRAP (R408, R409) -/

/-- EPOCH_ADVANCE. -/
def execEpochAdvance (t : Nat) (it : Item) (s : State) : Out State :=
  let s := s.to t
  ok (s.tackOp it (fun i => .epochAdvance t i)
    (s.tackChecks it true true true (s.epoch < 62 && !s.tampered && s.tack.rewrap.isNone))
    (fun s it =>
      let o := s.chip.part.otp
      let s := if s.tack.kekPrev then s.tackEvent 4 0 0 else s
      let s := s.setOtp { o with epochs := o.epochs + 1 }
      let s := { s with tack := { s.tack with kekPrev := s.tack.kek, kek := true } }
      (s.reportTack.tackEvent 3 0 s.epoch).finish it 12 .done ⟨s.epoch, 0, 0⟩))

/-- A slot holds a LOADED key with USAGE WRAP. -/
def State.anyWrap (s : State) : Bool := s.tack.slots.any (fun p => p.2.attr.may 1 && !p.2.revoked && !p.2.leaving)

/-- The input saddlebags that stand back to back in `bs`, each 64 + BLOB_LEN bytes long by its own header, the last what is
left (log entry 138); `opens` gives, in their order, what each blob's unwrap gives and the blob its re-wrapping gives. -/
def bagsIn (n : Nat) (bs : List Byte) (opens : List (Option (List Byte) × List Byte)) :
    List (Saddlebag × List Byte) :=
  match n with
  | 0 => []
  | n + 1 =>
    if bs.isEmpty then []
    else
      let k := 64 + leAt bs 0x34 4
      let o := opens.head?.getD (none, [])
      (⟨bs.take k, o.1⟩, o.2) :: bagsIn n (bs.drop k) opens.tail

/-- REWRAP starts on the saddlebags in its LEN input bytes. -/
def execTackRewrap (t : Nat) (it : Item) (raw : List Byte) (opens : List (Option (List Byte) × List Byte)) (s : State) :
    Out State :=
  let s := s.to t
  let bs := raw.take it.d.len.toNat
  let bags := bagsIn (bs.length / 64 + 1) bs opens
  ok (s.tackOp it (fun i => .tackRewrap t i raw opens)
    (s.tackChecks it (it.d.len.toNat ≤ argBits it.d.arg1 31 0) true true
      ((s.tack.kekPrev || s.anyWrap) && !s.tampered && s.tack.rewrap.isNone))
    (fun s it =>
      let h := it.handle
      let s := { s with tack := { s.tack with rewrap := some ⟨h.1, h.2, bags, 0, 0⟩ } }
      s.startLong it 12 bags.length 0))

/-- What REWRAP writes for one input, and whether it failed (R409). -/
def State.rewrapOne (s : State) (src : Source) (b : Saddlebag) (blob : List Byte) : List Byte × Bool :=
  let sane := b.inRange && b.known
  let svc := src == .svc
  let old := b.attr.epoch.toNat + 1 == s.epoch && s.bagUnlisted b && b.sound
    && (if b.wrapper = 0 then s.tack.kekPrev else s.wrapsBag b svc)
  if sane && s.bagKey b svc then (b.raw, false)
  else if sane && old then
    (b.raw.take 8 ++ leBytes 1 s.epoch ++ (b.raw.take 64).drop 9 ++ fitBytes b.blobLen blob, false)
  else (leBytes 4 0 ++ b.raw.drop 4, true)

/-- One unit of REWRAP: the next input is written; the operation ends after the last. -/
def State.rewrapUnit (s : State) (l : LongOp) : State :=
  match s.tack.rewrap with
  | none => s
  | some r =>
    match r.left with
    | [] => ({ s with tack := { s.tack with rewrap := none } }).endLong l .done
    | (b, blob) :: rest =>
      let (bytes, bad) := s.rewrapOne l.carrier.src b blob
      let s := s.writeHost (l.start.arg0.toNat + r.wrote) bytes
      let failed := r.failed + (if bad then 1 else 0)
      let l := { l with done := l.done + 1, word := min failed 0xFFFF }
      let s := { s with tack := { s.tack with
        rewrap := if rest.isEmpty then none else some { r with left := rest, wrote := r.wrote + bytes.length, failed := failed } } }
      if rest.isEmpty then s.endLong l .done else (s.putLong l).safePoint l

/-! ### Zeroise (R411 to R414) -/

/-- AIR holds no session key, join key or beacon key any more: their slots have been erased. -/
def State.airKeysLost (s : State) : State :=
  let s := s.air.ctx.foldl (fun (s : State) (p : Nat × AirCtx) =>
    s.setAirCtx p.1 { p.2 with
      key := none, nextKey := none, oldKey := none
      joining := p.2.joining.map (fun (j : Joining) => { j with key := none }) }) s
  ((List.range 255).foldl (fun (s : State) (n : Nat) => s.setFlag (B.AIR_CTX_JOINKEY_VALID (n + 1)) false) s).setFlag
    B.AIR_BEACON_KEY_VALID false

/-- Step 1: every slot, the KEK and KEK_PREV are erased. -/
def State.eraseKeys (s : State) : State :=
  let ks := s.tack.slots.map Prod.fst
  let s := { s with tack := { s.tack with slots := [], kek := false, kekPrev := false } }
  (ks.foldl (fun s k => s.reportSlot k) s).airKeysLost

/-- Overwrite `n` bytes of host memory from `a` with zero. -/
def State.zeroHost (s : State) (a n : Nat) : State := s.writeHost a (List.replicate n 0#8)

/-- A REWRAP that runs or is suspended fails: what it wrote to host memory is set to zero (R412). -/
def State.failRewrap (s : State) : State :=
  match s.tack.rewrap with
  | some r =>
    let s := { s with tack := { s.tack with rewrap := none } }
    match s.longOf? r.ring r.tag with
    | some l =>
      if l.state = LongState.suspended then s.dropLong r.ring r.tag
      else (s.zeroHost l.start.arg0.toNat r.wrote).endLong l .failTamper
    | none => s
  | none => s

/-- A holder of a key loses it: a readout fails, and what it wrote to host memory is set to zero (R412). -/
def State.failHolder (s : State) (id : Nat) : State :=
  match s.hif.longs.find? (fun (l : LongOp) => l.carrier.id == id) with
  | some l =>
    let wrote := min l.start.len.toNat (l.done * 65536)
    let s := (s.zeroHost l.start.ptr.toNat wrote).releaseKeys id
    if l.state = LongState.suspended then s.dropLong l.ring l.tag else s.endLong l .failTamper
  | none => s.releaseKeys id

/-- Step 2: the items that hold a key end FAIL_TAMPER, their output overwritten with zero. -/
def State.failHolders (s : State) : State :=
  let s := s.failRewrap
  (s.tack.holders.map Prod.snd).foldl (fun (s : State) (id : Nat) => s.failHolder id) s

/-- Steps 3 to 5: the epoch fuse, the tamper log, the source, the event. -/
def State.zeroiseFuses (s : State) (src : Nat) : State :=
  let o := s.chip.part.otp
  let o := if o.epochs < 64 then { o with epochs := o.epochs + 1 } else { o with exhausted := true }
  let s := s.setOtp { o with tampers := min 64 (o.tampers + 1) }
  let s := s.wr Reg.TACK_TAMPER_SRC (s.rd Reg.TACK_TAMPER_SRC ||| src)
  let s := (s.setFlag B.TACK_STS_ZEROISED true).reportTack
  s.tackEvent 1 (s.rd Reg.TACK_TAMPER_SRC) s.epoch

/-- A zeroise with source bits `src`. In Stabled the always-on domain erases the slots and wakes the chip; the other
steps run at the end of the wake (R413). -/
def State.zeroise (s : State) (src : Nat) : State :=
  let closed := s.tack.kekPrev
  let s := s.eraseKeys
  let s := if closed then s.tackEvent 4 0 0 else s
  if s.chip.stabled then
    ({ s with tack := { s.tack with zeroise := s.tack.zeroise ||| src } }).beginWake 0x40
  else s.failHolders.zeroiseFuses src

/-- The enable of a tamper source (Table TACK-14). -/
def State.tamperEnabled (s : State) (src : Nat) : Bool :=
  let w := s.rd Reg.TACK_TAMPER_CFG
  if src < 4 then w.testBit src else if src < 8 then w.testBit (src + 4) else false

/-- Two consecutive always-on cycles of an input that its condition finds wrong. -/
def twoCycles (bad : Bool × Bool → Bool) (cycles : List (Bool × Bool)) : Bool :=
  match cycles.reverse with
  | a :: b :: _ => bad a && bad b
  | _ => false

/-- The bit of a condition in TACK_TAMPER_SRC (Table TACK-15). -/
def TamperSeen.source (c : TamperSeen) : Nat :=
  match c with
  | .input n _ => n.val | .volt .. => 4 | .clock .. => 5 | .temp .. => 6 | .light _ => 7

/-- The condition of Table TACK-9 holds; `mesh` is IN_MESH of the inputs. -/
def TamperSeen.holds (c : TamperSeen) (mesh : Nat) : Bool :=
  match c with
  | .input n cycles =>
    if mesh.testBit n.val then twoCycles (fun p => p.1 != p.2) cycles else twoCycles (fun p => p.1 && !p.2) cycles
  | .volt core mV ns recovered =>
    ((if core then 900 else 920) < mV && 1000 ≤ ns) || (mV < 600 && ns ≤ 5000 && recovered)
  | .clock pulseNs hz => pulseNs < 20 || 12 * 10 ^ 6 < hz
  | .temp centi us => (centi < -5500 || 13500 < centi) && 1000 ≤ us
  | .light above => above

/-- TAMPER_CLEAR (R414). -/
def execTamperClear (t : Nat) (it : Item) (s : State) : Out State :=
  let s := s.to t
  ok (s.tackOp it (fun i => .tamperClear t i)
    (s.tackChecks it true true true (!s.halter && s.get B.WHOA_KEY_POS == 1 && s.rd Reg.TACK_TAMPER_LIVE == 0
      && !s.chip.part.otp.exhausted && s.tampered))
    (fun s it =>
      let o := s.chip.part.otp
      let s := s.setOtp { o with acks := o.tampers }
      let s := ({ s with tack := { s.tack with kek := true } }).reportTack
      (s.tackEvent 2 0 0).finish it 12 .done ⟨s.epoch, 0, 0⟩))

end Sys2Proof.Machine
end

