-- ==== Sys2Proof/Machine/Rec.lean ====
section
/-!
DEFINITION. The recorder (R417 to R433).
-/

namespace Sys2Proof.Machine

/-! ### States and counts -/

/-- The captured bytes of a source: its PRE samples, then its POST samples. -/
def RecSrc.block (x : RecSrc) (n : Nat) (trig : Option Nat) : List Byte :=
  let b := recBps n x.mode
  let c := match trig with | some i => min (x.before i) (x.written n) | none => x.written n
  ((bytesOf x.data).drop ((c - x.gotPre n trig) * b)).take ((x.gotPre n trig + x.gotPost n trig) * b)

/-- The words of a queue's banks, in the order the consumer would take them. -/
def State.queuedWords (s : State) (q : Nat) : List (BitVec 64) :=
  let x := Sp.at s.mqf.queues QueueRt.reset q
  (x.drain ++ x.fill).map QWord.data

/-- Clamp the requested counts of a source to its capacity (R421). -/
def clampCounts (cap pre post : Nat) : Nat × Nat :=
  if cap < post then (0, cap) else if cap < pre + post then (cap - post, post) else (pre, post)

/-- A source as its registers stand at ARM. -/
def State.recSource (s : State) (n : Nat) : RecSrc :=
  let mode := if n < 2 then s.get (B.REC_SRC_CFG_MODE n) else 0
  let cap := s.get (B.REC_SRC_CFG_SIZE_MIB n) * 2 ^ 20 / recBps n mode
  let pre := s.rd (Reg.REC_SRC_PRE n)
  let post := s.rd (Reg.REC_SRC_POST n)
  let c := clampCounts cap pre post
  let on := s.flag (B.REC_SRC_CFG_EN n) && (pre != 0 || post != 0)
  { en := on, mode := mode, avg := s.get (B.REC_SRC_CFG_AVG_LOG2 n), extra := s.get (B.REC_SRC_CFG_EXTRA n)
    preReq := pre, postReq := post, pre := c.1, post := c.2, clamped := on && (c.1 != pre || c.2 != post), overran := false
    times := [], part := [], sum := Averager.zero, formed := [], skip := (s.queuedWords (26 + n)).length, data := [] }

/-- The sources with their numbers. -/
def State.recSrcs (s : State) : List (Nat × RecSrc) := (List.range 8).zip s.recd.srcs

/-- Mask of sources that meet `p`. -/
def maskWhere (l : List (Nat × RecSrc)) (p : RecSrc → Bool) : Nat :=
  l.foldl (fun m x => if p x.2 then m + 2 ^ x.1 else m) 0

/-- The results of an ARM (R428). -/
def State.armRes (s : State) : Res :=
  let l := s.recSrcs
  let clamp := maskWhere l RecSrc.clamped
  let c := ((l.find? (fun x => x.2.clamped)).map Prod.fst).getD 0
  let (r0, r1) := match l.find? (fun x => x.1 == c) with
    | some (n, x) => (x.postReq + x.gotPost n s.recd.trig * 2 ^ 32, x.preReq + x.gotPre n s.recd.trig * 2 ^ 32)
    | none => (0, 0)
  ⟨r0, r1, s.get B.REC_STS_TRIG_WORD + s.get B.REC_STS_FIRST_SOURCE * 2 ^ 8
    + (if s.recd.trig.isSome then 2 ^ 11 else 0) + (if s.recd.overran then 2 ^ 12 else 0)
    + (if s.recd.poisoned then 2 ^ 13 else 0) + clamp * 2 ^ 16 + c * 2 ^ 24 + s.rd Reg.REC_CAP_ID * 2 ^ 32⟩

/-- A REC event: vector 71 and an event of the ALLOT function (R432). -/
def State.recEvent (s : State) (code r1 r2 : Nat) : State := (s.fire 71).event .allot 14 code 0 r1 r2

/-! ### The end of a capture -/

/-- The capture ends in `st`: ARM completes with `status`, DONE_CLAMPED for DONE where a source was clamped, and with
ORIGIN `region` and `cell`. -/
def State.endCaptureAt (s : State) (region cell st : Nat) (status : Status) : State :=
  let clamped := s.recd.srcs.any RecSrc.clamped
  let status := if status = .done ∧ clamped then .doneClamped else status
  let r := s.armRes
  let arm := s.recd.arm
  let s := ({ s with recd := { s.recd with arm := none } }).setRecState st
  match arm with
  | some it => s.finishAt it region cell status r
  | none => s

/-- The capture ends by itself: ORIGIN names REC. -/
def State.endCapture (s : State) (st : Nat) (status : Status) : State := s.endCaptureAt 14 noCell st status

/-- A word the DRAM writer takes from queue 26 + n (R420, R424); a POISON word ends the capture with the origin of its parity
check (R29). Words that stood in the queue before the capture are not of it. -/
def State.recWord (s : State) (n : Nat) (w : QWord) : State :=
  if !s.capturing then s
  else
    match s.recd.srcs[n]? with
    | some x =>
      if !x.en then s
      else if x.skip ≠ 0 then s.setCapture n { x with skip := x.skip - 1 }
      else if w.tag = 7#3 then
        let o := w.origin.getD (3, 26 + n)
        ({ s with recd := { s.recd with poisoned := true } }).endCaptureAt o.1 (o.2 % 0x1000) recHeld .failPoison
      else s.setCapture n { x with data := x.data ++ [w.data] }
    | none => s

/-- The next word that source `n` has formed, and the state with it given to its queue. -/
def State.nextFormed (s : State) (n : Nat) : Option (State × BitVec 64) :=
  match s.recd.srcs[n]? with
  | some x => (match x.formed with
    | w :: r => some (s.setCapture n { x with formed := r }, w)
    | [] => none)
  | none => none

/-- A push of source `n` was refused (R423): the words already queued are written, and the capture ends. -/
def State.recOverflow (s : State) (n : Nat) : State :=
  if s.capturing then
    match s.recd.srcs[n]? with
    | some x =>
      if !x.en then s
      else
        let srcs := (List.range 8).zip (s.recd.srcs) |>.map (fun p =>
          { p.2 with
            data := p.2.data ++ (if p.2.en then (s.queuedWords (26 + p.1)).drop p.2.skip else [])
            overran := p.2.overran || p.1 == n })
        let s := { s with recd := { s.recd with srcs := srcs, overran := true } }
        let s := (s.setFlag B.REC_STS_OVERFLOW true).count Reg.REC_CNT_OVERFLOW
        (s.recEvent 2 (2 ^ n) 0).endCapture recHeld .done
    | none => s
  else s

/-- CAPTURE_FILLED: every source has delivered its POST (R428). -/
def execCaptureFilled (t : Nat) (s : State) : Out State :=
  let s := s.to t
  if s.recState = recTriggered ∧ s.recSrcs.all (fun x => !x.2.en || x.2.gotPost x.1 s.recd.trig == x.2.post) then
    ok (s.endCapture recHeld .done)
  else ok s

/-! ### Triggers (R425, R426, R430) -/

/-- What REC sends outside. -/
def State.recSend (s : State) (o : RecOut) : State := { s with recd := { s.recd with out := s.recd.out ++ [o] } }

/-- The lowest bit set. -/
def lowestBit (w : Nat) : Nat := ((List.range 8).find? (fun k => w.testBit k)).getD 0

/-- What has fired by now and when: what was noted, TIME once device time has reached its ARG, and the sources `word` at
instant `at_`; the earliest instant and every source that fired in it (R426). -/
def State.firedBy (s : State) (word at_ : Nat) : Option (Nat × Nat) :=
  let time := max (s.trigArg 2) s.recd.armedAt
  let all := s.recd.fired.toList ++ (if s.watches 2 && time ≤ s.devNs then [(4, time)] else [])
    ++ (if word = 0 then [] else [(word, at_)])
  match all with
  | [] => none
  | x :: r =>
    let t := r.foldl (fun m y => min m y.2) x.2
    some (all.foldl (fun w y => if y.2 = t then w ||| y.1 else w) 0, t)

/-- An ARMED capture triggers, where a source has fired, `word` at `at_` among them (R426, R430). -/
def State.trigger (s : State) (word at_ : Nat) : State :=
  if s.recState ≠ recArmed then s
  else
    match s.firedBy word at_ with
    | none => s
    | some (w, t) =>
      let s := { s with recd := { s.recd with trig := some t, fired := none } }
      let s := (s.setRecState recTriggered).wr64 Reg.REC_TRIG_TIME t
      let s := (s.set B.REC_STS_TRIG_WORD w).set B.REC_STS_FIRST_SOURCE (lowestBit w)
      let s := s.recEvent 1 (w + lowestBit w * 2 ^ 8) t
      let s := if s.flag B.REC_SYNC_CFG_DRIVE_EN then s.recSend (.syncLow true) else s
      if s.flag B.REC_SYNC_CFG_BYL_EN then s.bylSend (.recFire t) else s

/-- REC_TRIGGER: the sources that have fired make the trigger. -/
def execRecTrigger (t : Nat) (s : State) : Out State :=
  let s := s.to t
  if s.runs 14 blkTrigger then ok (s.trigger 0 0) else ok s

/-- The capture starts its rings (R428). -/
def State.armed (s : State) : State :=
  ({ s with recd := { s.recd with armedAt := s.devNs, fired := none, run := 0 } }).setRecState recArmed

/-- TRIG_SYNC_PULSE: a low of `width` ns, its falling edge seen behind the synchroniser at device time `edge` (R429). -/
def execTrigSyncPulse (t : Nat) (width : Nat) (edge : Nat) (s : State) : Out State :=
  let s := s.to t
  if !s.flag B.REC_SYNC_CFG_SYNC_EN ∨ !s.runs 14 blkTrigger then ok s
  else if 500 ≤ width ∧ width ≤ 3000 then ok (s.trigger 2 (edge - s.get B.REC_SYNC_CFG_DELAY))
  else if 8000 ≤ width ∧ width ≤ 12000 then ok (if s.recState = recPrimed then s.armed else s)
  else ok (((s.count Reg.REC_CNT_SYNC_ERR).setFlag B.REC_STS_SYNC_ERR true).recEvent 3 0 0)

/-- REC_ARM_MESSAGE: the master's arm message (R429). -/
def execRecArmMessage (t : Nat) (rx : BylRx) (s : State) : Out State :=
  ok ((s.to t).accept0 rx 0x05 (fun s _ =>
    if s.runs 14 blkTrigger ∧ s.flag B.REC_SYNC_CFG_BYL_EN ∧ s.recState = recPrimed then s.armed else s))

/-- REC_FIRE_MESSAGE: the partner's trigger instant is taken as this unit's own (R429). -/
def execRecFireMessage (t : Nat) (rx : BylRx) (s : State) : Out State :=
  ok ((s.to t).accept0 rx 0x06 (fun s p =>
    if s.runs 14 blkTrigger ∧ s.flag B.REC_SYNC_CFG_BYL_EN then s.trigger 2 (leAt p 0 8) else s))

/-! ### Operations (Table REC-4, Table REC-6) -/

/-- The ranges of R428. -/
def State.armRange (s : State) (d : Desc) : Bool :=
  let l := (List.range 8).zip ((List.range 8).map (fun n => s.recSource n))
  let on := l.filter (fun x => x.2.en)
  let size := (List.range 8).foldl (fun m n =>
    if s.flag (B.REC_SRC_CFG_EN n) then m + s.get (B.REC_SRC_CFG_SIZE_MIB n) else m) 0
  let step (x : Nat × RecSrc) : Nat := if x.1 < 2 then (if x.2.mode = 0 then 8 else 2) else 1
  d.context == 0 && !on.isEmpty && size ≤ s.get B.REC_AREA_SIZE_SIZE
    && on.all (fun x => x.2.preReq % step x == 0 && x.2.postReq % step x == 0)
    && !(argBit d.arg0 0 && argBit d.arg0 1)

/-- ARM. -/
def execRecArm (t : Nat) (it : Item) (s : State) : Out State :=
  let s := s.to t
  let st := s.recState
  ok (s.runOp 14 it (fun i => .recArm t i)
    ⟨s.armRange it.d, true, true, st == recIdle || (st == recHeld && !s.flag B.REC_STS_READING)⟩
    (fun s it =>
      let s := s.wr Reg.REC_CAP_ID ((s.rd Reg.REC_CAP_ID + 1) % 2 ^ 32)
      let s := { s with recd := { s.recd with
        srcs := (List.range 8).map (fun n => s.recSource n), arm := some it, trig := none, poisoned := false
        overran := false } }
      let s := ((s.set B.REC_STS_TRIG_WORD 0).set B.REC_STS_FIRST_SOURCE 0).wr64 Reg.REC_TRIG_TIME 0
      if argBit it.d.arg0 1 then s.setRecState recPrimed
      else
        let s := s.armed
        if argBit it.d.arg0 0 then
          let s := if s.flag B.REC_SYNC_CFG_DRIVE_EN then s.recSend (.syncLow false) else s
          if s.flag B.REC_SYNC_CFG_BYL_EN then s.bylSend (.recArm (s.rd Reg.REC_CAP_ID)) else s
        else s))

/-- FIRE. -/
def execRecFire (t : Nat) (it : Item) (s : State) : Out State :=
  let s := s.to t
  ok (s.runOp 14 it (fun i => .recFire t i)
    ⟨it.d.context == 0, true, true, s.recState == recArmed⟩
    (fun s it => (s.trigger 1 s.devNs).finish it 14 .done))

/-- The capture is stopped as a DISARM stops it (Table REC-6). -/
def State.disarm (s : State) : State :=
  if s.recState = recPrimed then s.endCapture recIdle .done
  else if s.recState = recArmed ∨ s.recState = recTriggered then s.endCapture recHeld .done
  else s

/-- DISARM. -/
def execRecDisarm (t : Nat) (it : Item) (s : State) : Out State :=
  let s := s.to t
  ok (s.runOp 14 it (fun i => .recDisarm t i)
    ⟨it.d.context == 0, true, true,
      s.recState == recPrimed || s.recState == recArmed || s.recState == recTriggered⟩
    (fun s it => s.disarm.finish it 14 .done))

/-- DISCARD. -/
def execRecDiscard (t : Nat) (it : Item) (s : State) : Out State :=
  let s := s.to t
  ok (s.runOp 14 it (fun i => .recDiscard t i)
    ⟨it.d.context == 0, true, true, s.recState == recHeld && !s.flag B.REC_STS_READING⟩
    (fun s it => (({ s with recd := { s.recd with srcs := [], trig := none } }).setRecState recIdle).finish it 14 .done))

/-! ### READOUT (R431) -/

/-- The data of the held capture, in the order it is written. -/
def State.recData (s : State) : List Byte := (s.recSrcs.map (fun x => if x.2.en then x.2.block x.1 s.recd.trig else [])).flatten

/-- Units of a readout. -/
def State.recUnits (s : State) : Nat := (s.recData.length + 65535) / 65536

/-- The descriptor of a source in the capture header. -/
def RecSrc.header (x : RecSrc) (n : Nat) (trig : Option Nat) : List Byte :=
  let bit (b : Bool) (k : Nat) : Nat := if b then 2 ^ k else 0
  leBytes 1 (n + bit x.en 3 + x.mode % 2 * 16 + bit x.clamped 5 + bit x.overran 6)
    ++ leBytes 1 (x.avg % 16 + x.extra % 16 * 16) ++ leBytes 2 0
    ++ leBytes 4 (x.gotPre n trig) ++ leBytes 4 (x.gotPost n trig) ++ leBytes 4 x.preReq ++ leBytes 4 x.postReq
    ++ leBytes 4 (((x.block n trig).length + 7) / 8)
    ++ leBytes 8 (if x.gotPost n trig = 0 then 0 else (trig.bind (fun i => x.times[x.before i]?)).getD 0)

/-- The capture header (Table REC-5). -/
def State.recHeader (s : State) (enc : Bool) (nonce : Nat) : List Byte :=
  let flags := s.get B.REC_STS_FIRST_SOURCE + (if s.recd.trig.isSome then 8 else 0)
    + (if s.recd.overran then 16 else 0) + (if s.recd.poisoned then 32 else 0) + (if enc then 64 else 0)
  [0x44#8, 0x5A#8, 0x52#8, 0x43#8] ++ leBytes 2 0x140 ++ leBytes 2 1 ++ leBytes 4 (s.rd Reg.REC_CAP_ID)
    ++ leBytes 1 (s.get B.REC_STS_TRIG_WORD) ++ leBytes 1 flags ++ leBytes 2 0
    ++ leBytes 8 (if s.recd.trig.isSome then s.rd64 Reg.REC_TRIG_TIME else 0)
    ++ leBytes 8 (if enc then nonce else 0) ++ leBytes 8 s.recData.length ++ leBytes 24 0
    ++ (s.recSrcs.map (fun x => x.2.header x.1 s.recd.trig)).flatten

/-- A readout ends with status `st`: the engine's key register is erased. -/
def State.endReading (s : State) (l : LongOp) (st : Status) : State :=
  let s := ({ s with recd := { s.recd with reading := none } }).setFlag B.REC_STS_READING false
  (s.releaseKeys l.carrier.id).endLong l st

/-- The checks of READOUT (R431): the buffer holds the file; with ENC, a slot the recorder may encrypt with. -/
def State.readoutChecks (s : State) (d : Desc) : Checks :=
  let enc := argBit d.arg0 0
  let need := 320 + s.recData.length + (if enc then 16 * s.recUnits else 0)
  ⟨d.context == 0 && (s.recState != recHeld || need ≤ d.len.toNat), true,
    !enc || (s.keyFor? (argBits d.arg0 17 9) 3 0).any (fun x => x.attr.type == 1),
    s.recState == recHeld && !s.flag B.REC_STS_READING⟩

/-- A readout begins: its header is written, and the units follow; it ends at once where there is none. -/
def State.beginReadout (s : State) (it : Item) (nonce : Nat) : State :=
  let enc := argBit it.d.arg0 0
  let slot := argBits it.d.arg0 17 9
  let s := s.writeHost it.d.ptr.toNat (s.recHeader enc nonce)
  let h := it.handle
  let s := ({ s with recd := { s.recd with
    reading := some ⟨h.1, h.2, if enc then some slot else none, nonce, 320⟩ } }).setFlag B.REC_STS_READING true
  let s := if enc then s.holdKey slot it.id else s
  let s := s.startLong it 14 s.recUnits 320
  match s.longOf? h.1 h.2 with
  | some l => if l.total = 0 then s.endReading l .done else s
  | none => s

/-- READOUT: `nonce` is what TACK draws. -/
def execRecReadout (t : Nat) (it : Item) (nonce : BitVec 64) (s : State) : Out State :=
  let s := s.to t
  ok (s.runOp 14 it (fun i => .recReadout t i nonce) (s.readoutChecks it.d)
    (fun s it => s.beginReadout it nonce.toNat))

/-- One unit of READOUT: the next 64 KiB; with ENC, `cipher` is the unit's ciphertext and tag; `poison` where DRAM holds
an uncorrectable word of the unit (Table MEM-2). -/
def State.readoutUnit (s : State) (l : LongOp) (cipher : List Byte) (poison : Bool) : State :=
  match s.recd.reading with
  | none => s
  | some r =>
    if poison then s.endReading l .failPoison
    else
      let plain := (s.recData.drop (l.done * 65536)).take 65536
      let bytes := if r.slot.isSome then fitBytes (plain.length + 16) cipher else plain
      let s := s.writeHost (l.start.ptr.toNat + r.wrote) bytes
      let wrote := r.wrote + bytes.length
      let s := { s with recd := { s.recd with reading := some { r with wrote := wrote } } }
      let l := { l with done := l.done + 1, word := wrote % 2 ^ 32 }
      if l.total ≤ l.done then s.endReading l .done else (s.putLong l).safePoint l

/-- What a REC region reset leaves (Stopping and failures): a HELD capture survives; any other is discarded. Its ARM and
its readout are failed by the caller. -/
def State.recReset (s : State) : State :=
  let s := { s with recd := { s.recd with reading := none, arm := none } }
  let s := s.setFlag B.REC_STS_READING false
  if s.recState = recHeld then s
  else ({ s with recd := { RecRt.reset with out := s.recd.out } }).setRecState recIdle

end Sys2Proof.Machine
end

