-- ==== Sys2Proof/Machine/QueueOps.lean ====
section
/-!
DEFINITION. Ping-pong queues (R104 to R116): pushes, pops and swaps. The commands that use them are in Queues.lean.
-/

namespace Sys2Proof.Machine

/-- A queue beside its registers. -/
def State.queueOf (s : State) (q : Nat) : QueueRt := Sp.at s.mqf.queues QueueRt.reset q

/-- Bank size in words. -/
def State.bankSize (s : State) (q : Nat) : Nat := 2 ^ s.get (B.MQF_Q_CFG_BANK_LOG2 q)

/-- Whether a queue runs in packet mode. -/
def State.packetMode (s : State) (q : Nat) : Bool := s.flag (B.MQF_Q_CFG_MODE q)

/-- Replace a queue and report its depth (Table DSP-16, MQF_Q_n_HWM). -/
def State.setQueue (s : State) (q : Nat) (x : QueueRt) : State :=
  let s := { s with mqf := { s.mqf with queues := Sp.store s.mqf.queues QueueRt.reset q x } }
  let s := (s.set (B.MQF_Q_DEPTH_DRAIN q) x.drain.length).set (B.MQF_Q_DEPTH_FILL q) x.fill.length
  let s := s.setFlag (B.MQF_Q_DEPTH_PKT_OPEN q) x.open_.isSome
  let d := x.drain.length + x.fill.length
  if s.get (B.MQF_Q_HWM_DEPTH q) < d then s.set (B.MQF_Q_HWM_DEPTH q) d else s

/-- Whether a push of the next word is refused: the fill bank is full (R108). -/
def State.queueFull (s : State) (q : Nat) : Bool := s.bankSize q ≤ (s.queueOf q).fill.length

/-- Whether a packet may be opened: the fill bank has MAX_PKT + 1 free words (R109). -/
def State.mayOpen (s : State) (q : Nat) : Bool :=
  (s.queueOf q).fill.length + s.get (B.MQF_Q_CFG_MAX_PKT q) + 1 ≤ s.bankSize q

/-- The queue asserts curb to its producer (R108, R109). -/
def State.curbQueue (s : State) (q : Nat) : State := s.setFlag (B.MQF_Q_STS_CURB q) true

/-- A word as POISON, with the origin it keeps or has here (R29). -/
def QWord.poisoned (w : QWord) (origin : Nat × Nat) : QWord := QWord.mk' w.data 7#3 (some (w.origin.getD origin))

/-- The open packet of `n` data words is closed with the LEN word `len`; the words of a poisoned one carry TAG POISON, of
origin `poison`. -/
def QueueRt.closePacket (x : QueueRt) (n : Nat) (len : BitVec 64) (poison : Option (Nat × Nat)) : QueueRt :=
  let k := x.fill.length - (n + 1)
  let head := x.fill.take k
  let body := x.fill.drop (k + 1)
  let pk := QWord.mk' len 1#3 :: body
  { x with
    fill := head ++ (match poison with | some o => pk.map (fun w => w.poisoned o) | none => pk)
    fillPk := x.fillPk ++ [n + 1], open_ := none }

/-- The LEN word of queue `q`: in a merge queue with the producer's region code (R109, R115). -/
def lenWord (q n : Nat) (flow : BitVec 10) (region : Nat) (w : BitVec 32) : BitVec 64 :=
  BitVec.ofNat 64 (n % 2 ^ 13 + flow.toNat * 2 ^ 16 + (if q < 9 then region % 16 * 2 ^ 26 else 0) + w.toNat * 2 ^ 32)

/-- A word as a producer writes it: DATA, or POISON with the origin it came with (R29). -/
def dataWord (d : BitVec 64) (poison : Option (Nat × Nat)) : QWord :=
  QWord.mk' d (if poison.isSome then 7#3 else 0#3) poison

/-- A producer's push (R108 to R110). The LEN word of an overrun packet, which the queue closes before its producer does,
holds 0 for the flow and the producer's word (DESIGN CHOICE, log entry 121). The answer says whether the push was refused
and whether it overran its packet. -/
def State.pushOne (s : State) (q region : Nat) (p : QPush) : State × Bool × Bool :=
  let x := s.queueOf q
  if !s.packetMode q then
    match p with
    | .word d o =>
      if s.queueFull q then (s.curbQueue q, true, false)
      else (s.setQueue q { x with fill := x.fill ++ [dataWord d o] }, false, false)
    | _ => (s, true, false)
  else
    match p, x.open_ with
    | .openPkt, none =>
      if x.overran then (s, true, false)
      else if s.mayOpen q then
        (s.setQueue q { x with fill := x.fill ++ [QWord.mk' 0 1#3], open_ := some 0 }, false, false)
      else (s.curbQueue q, true, false)
    | .word d o, some n =>
      if s.get (B.MQF_Q_CFG_MAX_PKT q) ≤ n then
        let x := x.closePacket n (lenWord q n 0 region 0) (some (3, q))
        ((s.setQueue q { x with overran := true }).setFlag (B.MQF_Q_STS_PKT_OVER q) true, false, true)
      else (s.setQueue q { x with fill := x.fill ++ [dataWord d o], open_ := some (n + 1) }, false, false)
    | .word _ _, none => (s, !x.overran, false)
    | .closePkt flow w, some n => (s.setQueue q (x.closePacket n (lenWord q n flow region w) none), false, false)
    | .closePkt _ _, none => (s.setQueue q { x with overran := false }, !x.overran, false)
    | .openPkt, some _ => (s, true, false)

/-- The swap at the end of a cycle (R107). -/
def State.swapBanks (s : State) (q : Nat) : State :=
  let x := s.queueOf q
  let ready := if s.packetMode q then x.open_.isNone && !x.fillPk.isEmpty else !x.fill.isEmpty
  if x.drain.isEmpty ∧ ready then
    (s.setQueue q { x with drain := x.fill, drainPk := x.fillPk, fill := [], fillPk := [], reading := false }).setFlag
      (B.MQF_Q_STS_CURB q) false
  else s

/-- Words left of the head packet after one word is read. -/
def stepPackets (l : List Nat) : List Nat :=
  match l with
  | [] => []
  | n :: r => if n ≤ 1 then r else (n - 1) :: r

/-- The consumer reads: it has started, or BURST words are ready, counted over both banks (R112; DEDUCED, log entry
121). -/
def State.mayRead (s : State) (q : Nat) : Bool :=
  let x := s.queueOf q
  x.reading || s.get (B.MQF_Q_LIM_BURST q) ≤ max 1 (x.drain.length + x.fill.length)

/-- A pop (R105, R106, R111); `hit` when the word fails its parity check: it is then POISON, of this queue's origin. The
answer gives the word, and whether parity failed. -/
def State.popOne (s : State) (q : Nat) (hit : Bool) : State × QWord × Bool :=
  let x := s.queueOf q
  match x.drain with
  | [] => (s.setQueue q { x with popped := some QWord.idle }, QWord.idle, false)
  | w :: rest =>
    let poison := if hit ∧ w.tag = 1#3 then x.drainPk.headD 1 - 1 else x.poison - 1
    let w' := if hit ∨ 0 < x.poison then w.poisoned (3, q) else w
    let s := s.setQueue q { x with
      drain := rest, drainPk := stepPackets x.drainPk, poison := poison, lastRead := s.cyc, popped := some w',
      reading := !rest.isEmpty }
    if hit then ((s.count (Reg.MQF_Q_PAR_CNT q)).setFlag (B.MQF_Q_STS_PARITY q) true, w', true) else (s, w', false)

/-- Push a whole packet and swap; the answer says whether it was refused. -/
def State.pushPacket (s : State) (q region : Nat) (p : Packet) : State × Bool :=
  if s.flag (B.MQF_Q_CFG_ENABLE q) ∧ s.packetMode q ∧ (s.queueOf q).open_.isNone ∧ s.mayOpen q then
    let s := (s.pushOne q region .openPkt).1
    let s := (p.data.foldl (fun (x : State × Nat) d =>
      ((x.1.pushOne q region (.word d (Sp.find p.poison x.2))).1, x.2 + 1)) (s, 0)).1
    ((s.pushOne q region (.closePkt p.flow p.word)).1.swapBanks q, false)
  else (s.curbQueue q, true)

end Sys2Proof.Machine
end

