-- ==== Sys2Proof/Machine/Fleet.lean ====
section
/-!
DEFINITION. Contexts, rates and the schedule as the regions of the fleet cycle share them (files 02 and 11).
-/

namespace Sys2Proof.Machine

/-! ### Contexts (Table AIR-13) -/

/-- FREE, AWAKE, DARK, SLEEPER, LOST_ASLEEP (Table AIR-18). -/
abbrev ctxFree : Nat := 0
/-- AWAKE. -/
abbrev ctxAwake : Nat := 1
/-- DARK. -/
abbrev ctxDark : Nat := 2
/-- SLEEPER. -/
abbrev ctxSleeper : Nat := 3
/-- LOST_ASLEEP. -/
abbrev ctxLost : Nat := 4

/-- The state of context `n`. -/
def State.ctxState (s : State) (n : Nat) : Nat := s.get (B.AIR_CTX_STS_STATE n)

/-- A context is joined: it is not FREE. -/
def State.joined (s : State) (n : Nat) : Bool := n != 0 && s.ctxState n != ctxFree

/-- The contexts 1 to 255. -/
def allCtx : List Nat := (List.range 255).map (· + 1)

/-- The joined contexts, ascending. -/
def State.joinedCtx (s : State) : List Nat := allCtx.filter (fun n => s.joined n)

/-- Epochs per second of a context (R45). -/
def State.ctxRate (s : State) (n : Nat) : Nat := if (s.airCtx n).rate20 then 20 else 10

/-- The epoch interval of a context in ns (R43). -/
def State.ctxInterval (s : State) (n : Nat) : Nat := if (s.airCtx n).rate20 then 50000000 else 100000000

/-- The sum of the epoch rates of the joined contexts. -/
def State.rateSum (s : State) : Nat := (s.joinedCtx.map s.ctxRate).sum

/-- The rates that the joins in progress were accepted with: true for 20 Hz. -/
def State.joiningRates (s : State) : List Bool :=
  allCtx.filterMap (fun n => (s.airCtx n).joining.map Joining.rate20)

/-- A session change that adds a context at 10 or 20 Hz stays within R45 and R165, with every join in progress counted
as if it were done (DEDUCED, log entry 106). -/
def State.rateFits (s : State) (rate20 : Bool) : Bool :=
  let j := s.joiningRates
  s.rateSum + (j.map (fun r => if r then 20 else 10)).sum + (if rate20 then 20 else 10)
      ≤ min 2550 (s.get B.FIX_CAP_EPOCH_CAP)
    && (!rate20 || (s.joinedCtx.filter (fun n => (s.airCtx n).rate20)).length + (j.filter id).length < 127)

/-- FIX_STS.OVERLOAD reads 1 while the admitted rate exceeds EPOCH_CAP (R165). -/
def State.reportOverload (s : State) : State :=
  s.setFlag B.FIX_STS_OVERLOAD (s.get B.FIX_CAP_EPOCH_CAP < s.rateSum)

/-! ### GPS time -/

/-- Device time at the GPS epoch, 1980-01-06T00:00:00 UTC: 3,657 days and 19 s of TAI after 1970 began. GPS time is TAI
minus 19 s (R8, R145); the date of the GPS epoch is PRESUMED (log entry 26). -/
def gpsEpoch : Nat := (3657 * 86400 + 19) * 10 ^ 9

/-- Device time of an instant of GPS time in ns since the GPS epoch. -/
def devOfGps (g : Nat) : Nat := g + gpsEpoch

/-- GPS time of an instant of device time. -/
def gpsOf (dev : Nat) : Nat := dev - gpsEpoch

/-! ### The frame origin (R160) -/

/-- The frame origin O in 0.1 mm: the ENU block while ENU_VALID is 1, else the first reference position applied since
power-on; none before. -/
def State.frameOrigin (s : State) : Option (Nat × Nat × Nat) :=
  let p (a : Nat) : Nat := s.param a + s.param (a + 4) * 2 ^ 32
  if s.param P.ENU_VALID % 2 = 1 then some (p P.ENU_X_LO, p P.ENU_Y_LO, p P.ENU_Z_LO) else s.fix.firstRef

/-- FIX latches the origin once a reference has been applied and ENU_VALID is 0. -/
def State.latchOrigin (s : State) : State :=
  if s.fix.firstRef.isSome ∧ s.param P.ENU_VALID % 2 = 0 then s.setFlag B.FIX_STS_ORIGIN_LATCHED true else s

/-! ### Epoch items (R40, R41) -/

/-- Plan outcomes of an epoch item (Table CYC-2). -/
inductive PlanOutcome where
  | newPlan | noFix | conflict | stale | failed
  deriving DecidableEq, Repr

/-- The code of a plan outcome. -/
def PlanOutcome.code : PlanOutcome → Nat
  | .newPlan => 0 | .noFix => 1 | .conflict => 2 | .stale => 3 | .failed => 4

/-- The results of an epoch item (Table CYC-2); `r2` is the conflict. Of an item that ended without a FIX item, RESULT_1
has fix state and index 0 (DESIGN CHOICE, log entry 27). -/
def State.epochRes (s : State) (it : Item) (o : PlanOutcome) (r2 : Nat) : Res :=
  let epoch := match Sp.find s.fix.obs it.id with | some ws => (obsReport ws).epoch.toNat | none => 0
  let (st, idx) := Sp.at s.fix.solved (0, 0) it.id
  ⟨epoch, it.ctx + st * 2 ^ 8 + o.code * 2 ^ 16 + idx * 2 ^ 32, r2⟩

/-- An epoch item ends. -/
def State.endEpoch (s : State) (it : Item) (region cell : Nat) (st : Status) (o : PlanOutcome) (r2 : Nat) : State :=
  let r := s.epochRes it o r2
  let s := s.finishAt it region cell st r
  { s with fix := { s.fix with obs := Sp.drop s.fix.obs it.id, solved := Sp.drop s.fix.solved it.id } }

/-! ### Spans of a schedule (R272, R275, R283) -/

/-- A span: the entry it begins with, its head, PHY rate code, first slot index and number of slots. -/
structure SpanOf where
  entry : SchedEntry
  head  : Nat
  rate  : Nat
  slot  : Nat
  len   : Nat
  deriving DecidableEq, Repr

/-- The spans of a head's entries from slot index `i` on; `cur` is the span in progress. -/
def spansFrom (h rate i : Nat) (cur : Option SpanOf) (es : List SchedEntry) : List SpanOf :=
  match es with
  | [] => cur.toList
  | e :: r =>
    match e.cont, cur with
    | true, some x => spansFrom h rate (i + 1) (some { x with len := x.len + 1 }) r
    | _, _ => cur.toList ++ spansFrom h rate (i + 1) (some ⟨e, h, rate, i, 1⟩) r

/-- The spans of a head. -/
def SchedHead.spans (x : SchedHead) : List SpanOf := spansFrom x.head x.rate 0 none x.entries

/-- The spans of a schedule. -/
def Schedule.spans (x : Schedule) : List SpanOf := (x.heads.map SchedHead.spans).flatten

/-- The spans of one context. -/
def Schedule.spansOf (x : Schedule) (n : Nat) : List SpanOf :=
  x.spans.filter (fun p => p.entry.context.toNat == n && p.entry.type != .free && p.entry.type != .beacon)

/-- The spans of a context in the schedule in force. -/
def State.ctxSpans (s : State) (n : Nat) : List SpanOf :=
  match s.air.sched with
  | some x => x.spansOf n
  | none => []

/-- The spans of a context of one type. -/
def State.spansType (s : State) (n : Nat) (ty : SpanType) : List SpanOf :=
  (s.ctxSpans n).filter (fun p => p.entry.type == ty)

/-- The start of slot index `i` in ns after the superframe start (R272). -/
def slotStart (i : Nat) : Nat := i / 6 * 2000000 + 200000 + i % 6 * 300000

/-- The start and the end of a span in ns after the superframe start. -/
def SpanOf.start (p : SpanOf) : Nat := slotStart p.slot
/-- The end of a span. -/
def SpanOf.stop (p : SpanOf) : Nat := slotStart (p.slot + p.len - 1) + 300000

/-- The capacity in bytes of a burst of `k` slots at PHY rate code `r` (R275, Table AIR-2). -/
def burstBytes (r k : Nat) : Nat := if k = 0 then 0 else (300 * k - 54) * (15 * 2 ^ r) / 80

/-- Slots from index `i` up to the end of its frame, of `len` slots. -/
def firstBurst (i len : Nat) : Nat := min len (6 - i % 6)

/-- The capacity of a span: the sum over its bursts; a span has at most 8 slots, so at most three bursts. -/
def SpanOf.capacity (p : SpanOf) : Nat :=
  let a := firstBurst p.slot p.len
  let b := firstBurst (p.slot + a) (p.len - a)
  burstBytes p.rate a + burstBytes p.rate b + burstBytes p.rate (p.len - a - b)

/-- The RELAY spans of a context in ascending slot index, downlink first and then alternating (R319), with whether each
is downlink. -/
def State.relaySpans (s : State) (n : Nat) : List (SpanOf × Bool) :=
  let l := s.spansType n .relay
  (List.range l.length).zip l |>.map (fun p => (p.2, p.1 % 2 == 0))

/-- The downlink BULK spans of a context. -/
def State.bulkDown (s : State) (n : Nat) : List SpanOf :=
  (s.spansType n .bulk).filter (fun p => !p.entry.bulkUp)

/-- The next hop of a context; 0 for the base. -/
def State.nextHop (s : State) (n : Nat) : Nat := s.get (B.AIR_CTX_SESS_NEXT_HOP n)

/-- The chain of next hops from a context up to the base, at most `k` of them. -/
def State.chain (s : State) (n k : Nat) : List Nat :=
  match k with
  | 0 => []
  | k + 1 => let h := s.nextHop n
    if h = 0 then [] else h :: s.chain h k

/-- The first of `spans` whose start lies at or after `at_` ns of superframe time, counted on over superframes of
100 ms: the instant of its start and of its end. -/
def firstSpan (spans : List SpanOf) (at_ : Nat) : Option (Nat × Nat) :=
  let base := at_ / 100000000 * 100000000
  let cand := spans.map (fun p => (base + p.start, base + p.stop))
    ++ spans.map (fun p => (base + 100000000 + p.start, base + 100000000 + p.stop))
  cand.foldl (fun o c => if c.1 < at_ then o else match o with
    | none => some c
    | some b => if c.1 < b.1 then some c else some b) none

/-- The instant at which a downlink frame that is ready at `at_` has passed every relay from the base toward the
context (R320): `hops` lists the relays from the base outward. -/
def State.passRelays (s : State) (hops : List Nat) (at_ : Nat) : Option Nat :=
  match hops with
  | [] => some at_
  | r :: rest =>
    match firstSpan ((s.relaySpans r).filterMap (fun p => if p.2 then some p.1 else none)) at_ with
    | some (_, stop) => s.passRelays rest stop
    | none => none

/-- The context's DOWNLINK span in which a frame arrives that the base sends in its first span starting at or after
device time `at_`: its end, in device time (R255, R320). -/
def State.downlinkEnd (s : State) (n at_ : Nat) : Option Nat :=
  let org := s.air.sfStart
  let x := at_ - org
  match s.passRelays (s.chain n 3).reverse x with
  | some y => (firstSpan (s.spansType n .downlink) y).map (fun p => org + p.2)
  | none => none

end Sys2Proof.Machine
end

