-- ==== Sys2Proof/Machine/Regions.lean ====
section
/-!
DEFINITION. Errors and their escalation, and crossings between regions (R15 to R18, R28 to R38).
-/

namespace Sys2Proof.Machine

/-! ### The items a region owns -/

/-- Items at a stage of region `r` in the dispatcher. -/
def State.atRegion (s : State) (r : Nat) : List Item :=
  s.dsp.entries.filterMap (fun e => match e.place with
    | .at_ st => if st.region = r then some e.item else none
    | _ => none)

/-- The region that executes an operation: the region code of its OPCODE. -/
def Item.region (it : Item) : Nat := it.d.opcode.toNat / 0x1000

/-- Items that wait in region `r` for their WHEN. -/
def State.waitingIn (s : State) (r : Nat) : List Item :=
  (s.waiting.filterMap Instr.item?).filter (fun it => it.region == r)

/-- Items that carry a running long operation of region `r`, at their stage or waiting in their flow after a RESUME
(R87). -/
def State.longIn (s : State) (r : Nat) : List Item :=
  (s.hif.longs.filter (fun l => l.region == r && l.state != .suspended)).map (fun l => l.carrier)

/-- Items region `r` has offered at a crossing and whose acknowledge has not been made, and items it has taken there
(R15). -/
def State.crossing (s : State) (r : Nat) : List Item :=
  s.rgn.hs.filterMap (fun h => if h.sender = r then h.item else none)
    ++ s.rgn.inbox.filterMap (fun p => if p.1 = r then some p.2 else none)

/-- Identities of the items that a crossing gives to a region other than `r` (R15). -/
def State.awayFrom (s : State) (r : Nat) : List Nat :=
  s.rgn.hs.filterMap (fun h => if h.sender = r then none else h.item.map Item.id)
    ++ s.rgn.inbox.filterMap (fun p => if p.1 = r then none else some p.2.id)

/-- The region that owns the items at source port `p`: a ring's input buffer lies in DSP (R98); an item at another port
is its source's until DSP accepts it (R91, R94, Table DSP-1). -/
def portRegion (p : Nat) : Nat :=
  if p < 64 then 2 else if p < 73 then 9 else if p = 73 then 4 else if p = 74 then 11 else if p = 75 then 10
  else if p = 76 then 15 else 14

/-- Items at the source ports of region `r`. -/
def State.atPorts (s : State) (r : Nat) : List Item :=
  (s.dsp.ports.filterMap (fun p => if portRegion p.1 = r then some p.2 else none)).flatten

/-- Items that wait in the dispatcher between stages. -/
def State.inDsp (s : State) : List Item :=
  s.dsp.entries.filterMap (fun e => match e.place with | .waiting _ _ => some e.item | _ => none)

/-- Drop later items of an identity already listed. -/
def dedupItems (l : List Item) : List Item :=
  match l with
  | [] => []
  | it :: r => it :: (dedupItems r).filter (fun o => o.id != it.id)

/-- Every item region `r` owns. -/
def State.owned (s : State) (r : Nat) : List Item :=
  dedupItems ((s.atRegion r ++ s.waitingIn r ++ s.longIn r ++ s.atPorts r ++ (if r = 2 then s.inDsp else [])).filter
    (fun it => !(s.awayFrom r).contains it.id) ++ s.crossing r)

/-- Remove an item from the source ports and crossings. -/
def State.dropItem (s : State) (id : Nat) : State :=
  { s with
    dsp := { s.dsp with ports := s.dsp.ports.filterMap (fun p =>
      let l := p.2.filter (fun it => it.id != id)
      if l.isEmpty then none else some (p.1, l)) }
    rgn := { s.rgn with
      hs := s.rgn.hs.filter (fun h => (h.item.map Item.id) != some id)
      inbox := s.rgn.inbox.filter (fun p => p.2.id != id) } }

/-- Fail an item with one completion; a long operation it carries ends with its progress (R84, R87), and the control
item pending on it completes REJ_STATE (R86). -/
def State.failItem (s : State) (it : Item) (region cell : Nat) (st : Status) : State :=
  let s := s.dropItem it.id
  match s.hif.longs.find? (fun l => l.carrier.id == it.id && l.state != .suspended) with
  | some l => s.endLongAt l region cell st
  | none => if it.obs then s.endEpoch it region cell st .failed 0 else s.finishAt it region cell st Res.zero

/-- Fail every item of a list. -/
def State.failAll (s : State) (l : List Item) (region cell : Nat) (st : Status) : State :=
  l.foldl (fun s it => s.failItem it region cell st) s

/-- Saved states of suspended long operations of region `r` are discarded (R87). -/
def State.discardSaved (s : State) (r : Nat) : State :=
  { s with hif := { s.hif with longs := s.hif.longs.filter (fun l => !(l.region == r && l.state == .suspended)) } }

/-! ### Reset of a region's registers (R10) -/

/-- Words a region reset leaves as they are: the identity, the state that the reset itself reports, the epochs of the
tables it reloads; of WHOA the latched faults and the two counters, and the words that report its inputs and its OTP
configuration, which a restart evaluates again as they stand (R343); the increment of TIM (R371); the Port A address
words of NET (R392). -/
def keptWord (a : Nat) : Bool :=
  let r := a / 0x100000
  let o := a % 0x100000
  o == 0 || o == 4 || o == 0x2C || o == 0x30
    || (r == 13 && 0x100 ≤ o && o < 0x128 && o != 0x114)
    || (r == 11 && o == 0x128)
    || (r == 10 && o == 0x104)

/-- Words whose RO fields a region reset leaves as they are: they report state that the region's chapter keeps through
the reset or that boot fixed (R81, R162, R168, R216, R269, R279, R314, R371, R400, R430;
log entry 36). -/
def keptState (a : Nat) : Bool :=
  let r := a / 0x100000
  let o := a % 0x100000
  (r == 1 && 0x1000 ≤ o && o < 0x2000 && o % 0x40 != 0x30)
    || (r == 6 && (o == 0x100 || o == 0x104 || o == 0x108 || o == 0x10C))
    || (r == 11 && o == 0x124)
    || (r == 7 && 0x100 ≤ o && o != 0x134) || (r == 8 && 0x1000 ≤ o) || (r == 9 && 0x100 ≤ o) || (r == 12 && 0x100 ≤ o)
    || (r == 14 && 0x100 ≤ o)

/-- A word after a region reset: RW, W1C, RC and RO fields at their reset value, RWS fields kept (R10), and the RO fields
of `state` words. -/
def resetFields (fs : List FieldDef) (w rst : Word) (state : Bool) : Word :=
  let keep := fieldMask (fun c => c == .rws || (state && c == .ro)) fs
  (w &&& keep) ||| (rst &&& ~~~keep)

/-- The register words of region `r` after its reset; the parameter area keeps its values (R22). -/
def State.resetRegs (s : State) (r : Nat) : State :=
  let words := s.regs.filter (fun p => p.1 / 0x100000 == r && p.1 % 0x100000 < 0x80000 && !keptWord p.1)
  words.foldl (fun (s : State) (p : Nat × Word) => match regDef? p.1 with
    | some d => s.setWord p.1 (resetFields d.fields p.2 (resetWord p.1) (keptState p.1))
    | none => s) s

/-! ### Escalation -/

/-- Block restarts of `region`, `block` within the preceding second (R32). -/
def State.recentRestarts (s : State) (region block : Nat) : Nat :=
  (s.rgn.blkErrs.filter (fun p => p.1 == region && p.2.1 == block && s.cyc < p.2.2 + cycS)).length

/-- Resets of `region` within the preceding 10 s (R34). -/
def State.recentResets (s : State) (region : Nat) : Nat :=
  (s.rgn.resets.filter (fun p => p.1 == region && s.cyc < p.2 + 10 * cycS)).length

/-- A block error that counts toward R32. -/
def State.noteRestart (s : State) (region block : Nat) : State :=
  { s with rgn := { s.rgn with blkErrs := s.rgn.blkErrs ++ [(region, block, s.cyc)] } }

/-- A region reset that counts toward R34. -/
def State.noteReset (s : State) (region : Nat) : State :=
  { s with rgn := { s.rgn with resets := s.rgn.resets ++ [(region, s.cyc)] } }

/-! ### Cell errors (R30) -/

/-- Errors of a cell within the last second. -/
def State.cellHits (s : State) (r cell : Nat) : Nat :=
  (s.rgn.cellErrs.filter (fun p => p.1 == r && p.2.1 == cell && s.cyc < p.2.2 + cycS)).length

/-- A cell error is counted, recorded, and remembered for a second. -/
def State.noteCell (s : State) (r block cell : Nat) (cause : ErrCause) : State :=
  let s := s.count (Reg.RGN_CELL_ERR_CNT r)
  let s := (s.rgnInfo r 0 block cell cause).rgnErr (B.RGN_ERR_CELL_ERR r)
  { s with rgn := { s.rgn with cellErrs := s.rgn.cellErrs ++ [(r, cell, s.cyc)] } }

/-- The errors of a cell have escalated: they are forgotten. -/
def State.clearHits (s : State) (r cell : Nat) : State :=
  { s with rgn := { s.rgn with cellErrs := s.rgn.cellErrs.filter (fun p => !(p.1 == r && p.2.1 == cell)) } }

/-- A cell is retired until the next reset of its region. -/
def State.markRetired (s : State) (r cell : Nat) : State :=
  let s := { s with rgn := { s.rgn with retired := s.rgn.retired ++ [(r, cell)] } }
  (s.reportRetired r).rgnErr (B.RGN_ERR_CELL_RETIRED r)

/-- A cell error of a sweeper lane, which a word of the tile cache that it read has caused (R206, R441); the 16th within
1 s retires the lane. -/
def State.laneError (s : State) (lane : Nat) : State :=
  if (7, lane) ∈ s.rgn.retired then s
  else
    let s := s.noteCell 7 blkSweeper lane .ecc
    if s.cellHits 7 lane < 16 then s else (s.clearHits 7 lane).markRetired 7 lane

/-! ### DRAM words (R435, R439, R442) -/

/-- The base of area `k`. -/
def State.areaBase (s : State) (k : Nat) : Nat := s.rd64 (Reg.MQF_AREA_BASE k)

/-- The area that holds a DRAM address (Table MEM-2). -/
def State.areaOf (s : State) (a : Nat) : Nat :=
  (((List.range 10).map (· + 1)).find? (fun k =>
    s.areaBase k ≤ a && a < s.areaBase k + s.get (B.MQF_AREA_SIZE_MIB k) * 2 ^ 20)).getD 0

/-- An uncorrectable word (R435, R439). -/
def State.dramUe (s : State) (a : Nat) (scrub : Bool) : State :=
  let s := ((s.count Reg.MQF_ECC_UE_CNT).wr64 Reg.MQF_ECC_LOG a).setFlag B.MQF_DRAM_STS_UE true
  s.event .allot 3 1 0 a (s.areaOf a + (if scrub then 16 else 0))

end Sys2Proof.Machine
end

