-- ==== Sys2Proof/Machine/PadMap.lean ====
section
/-!
DEFINITION. The paddock map (file 08): ticks, cells, slots, the tile directory, groom, repair, PAD's events and what the
mirror sends.
-/

namespace Sys2Proof.Machine

/-! ### Ticks (R200, R201) -/

/-- PAD_TICK_ABS: whole ticks of 10 ms since PAD_TICK_BASE. -/
def State.tickAbs (s : State) : Nat :=
  ((((s.devNs : Nat) : Int) - signed 64 (s.rd64 Reg.PAD_TICK_BASE)) / 10000000 % 2 ^ 32).toNat

/-- The 14-bit tick of now. -/
def State.tickNow (s : State) : Nat := s.tickAbs % 16384

/-- rel(t) of a 14-bit tick, against `now` (R201). -/
def relTick (now t : Nat) : Int := ((((t : Int) - (now : Int)) + 8192) % 16384) - 8192

/-- The 14-bit tick `r` after `now`. -/
def tickAt (now : Nat) (r : Int) : BitVec 14 := BitVec.ofNat 14 (((now : Int) + r) % 16384).toNat

/-- A slot is live (R196, R201). -/
def Slot.live (x : Slot) (now : Nat) : Bool :=
  x.owner != 0 && 1 ≤ relTick now x.stop.toNat && relTick now x.stop.toNat ≤ 6000

/-- The three slots of a cell. -/
def Slots.list (x : Slots) : List Slot := [x.s0, x.s1, x.s2]

/-- Map the three slots. -/
def Slots.map (f : Slot → Slot) (x : Slots) : Slots := ⟨f x.s0, f x.s1, f x.s2⟩

/-- Replace slot `k`. -/
def Slots.set (x : Slots) (k : Nat) (y : Slot) : Slots :=
  match k with
  | 0 => { x with s0 := y }
  | 1 => { x with s1 := y }
  | _ => { x with s2 := y }

/-- A slot with OWNER 0; its other fields stand. -/
def Slot.free (x : Slot) : Slot := { x with owner := 0 }

/-! ### Static halves (Table PAD-1) -/

/-- CLASS of a static half. -/
def halfClass (h : BitVec 16) : Nat := h.toNat % 64
/-- SPEED of a static half. -/
def halfSpeed (h : BitVec 16) : Nat := h.toNat / 64 % 16
/-- HEADING of a static half. -/
def halfHeading (h : BitVec 16) : Nat := h.toNat / 1024 % 16
/-- REPAIRED of a static half. -/
def halfRepaired (h : BitVec 16) : Bool := h.getLsbD 14
/-- HOLD of a static half. -/
def halfHold (h : BitVec 16) : Bool := h.getLsbD 15
/-- A static half with HOLD set to `v`. -/
def withHold (h : BitVec 16) (v : Bool) : BitVec 16 := (h &&& 0x7FFF#16) ||| (if v then 0x8000#16 else 0)
/-- CLASS, SPEED and HEADING of a static half alone. -/
def halfGround (h : BitVec 16) : BitVec 16 := h &&& 0x3FFF#16

/-- Join neighbouring runs of one half, and drop runs of none. -/
def mergeRuns (l : Halves) : Halves :=
  match l with
  | [] => []
  | (n, h) :: r =>
    match mergeRuns r with
    | (m, k) :: q => if n = 0 then (m, k) :: q else if h = k then (n + m, h) :: q else (n, h) :: (m, k) :: q
    | [] => if n = 0 then [] else [(n, h)]

/-- Apply `f` to the `n` halves from cell order `lo` on. -/
def mapRuns (f : BitVec 16 → BitVec 16) (lo n : Nat) (l : Halves) : Halves :=
  match l with
  | [] => []
  | (k, h) :: r =>
    let pre := min lo k
    let mid := min n (k - pre)
    (pre, h) :: (mid, f h) :: (k - pre - mid, h) :: mapRuns f (lo - k) (n - mid) r

/-- The half at cell order `o`. -/
def runAt (l : Halves) (o : Nat) : BitVec 16 :=
  match l with
  | [] => 0
  | (k, h) :: r => if o < k then h else runAt r (o - k)

/-- Cells the runs cover. -/
def runsLen (l : Halves) : Nat := (l.map Prod.fst).sum

/-! ### The map -/

/-- The map is valid (R216). -/
def State.mapValid (s : State) : Bool := s.flag B.PAD_STS_MAP_VALID && s.pad.geom.isSome

/-- The static halves of a tile. -/
def State.halvesOf (s : State) (t : Nat) : Halves := Sp.at s.pad.tiles [(4096, s.pad.deflt)] t

/-- Replace the static halves of a tile. -/
def State.setHalves (s : State) (t : Nat) (l : Halves) : State :=
  { s with pad := { s.pad with tiles := Sp.store s.pad.tiles [(4096, s.pad.deflt)] t (mergeRuns l) } }

/-- The slots of a cell by key. -/
def State.slotsOf (s : State) (k : Nat) : Slots := Sp.at s.pad.slots Slots.zero k

/-- Replace the slots of a cell. -/
def State.setSlots (s : State) (k : Nat) (x : Slots) : State :=
  { s with pad := { s.pad with slots := Sp.store s.pad.slots Slots.zero k x } }

/-- The static half of a cell by key. -/
def State.halfAt (s : State) (k : Nat) : BitVec 16 := runAt (s.halvesOf (k / 4096)) (k % 4096)

/-- The static half every reader sees at a cell: class 0 outside the grid (R194). -/
def State.cellHalf (s : State) (g : PadGeom) (c : Cell) : BitVec 16 := if g.has c then s.halfAt (g.key c) else 0

/-- The bits of a slot (Table PAD-2). -/
def Slot.bits (x : Slot) : Nat :=
  x.owner.toNat + x.start.toNat * 2 ^ 8 + x.stop.toNat * 2 ^ 22 + (if x.kind then 2 ^ 36 else 0)

/-- The 128-bit cell word (Table PAD-1). -/
def State.cellWord (s : State) (k : Nat) : Nat :=
  let x := s.slotsOf k
  (s.halfAt k).toNat + x.s0.bits * 2 ^ 16 + x.s1.bits * 2 ^ 53 + x.s2.bits * 2 ^ 90

/-- Attributes of a class (Table PAD-9): ENTER, DWELL, REVERSE, CLEAR_ADD. -/
def State.classEnter (s : State) (c : Nat) : Bool := (s.param (P.CLASS c)).testBit 0
/-- DWELL of a class. -/
def State.classDwell (s : State) (c : Nat) : Bool := (s.param (P.CLASS c)).testBit 1
/-- REVERSE of a class. -/
def State.classReverse (s : State) (c : Nat) : Bool := (s.param (P.CLASS c)).testBit 2
/-- CLEAR_ADD of a class, in cm. -/
def State.classAdd (s : State) (c : Nat) : Nat := s.param (P.CLASS c) / 256 % 256

/-- The limit of a speed code, in mm/s; none for code 0 (R198). -/
def State.speedLimit (s : State) (code : Nat) : Option Nat := if code = 0 then none else some (s.param (P.SPEED code))

/-! ### The directory and groom (R205, R207, R208) -/

/-- The entry of a tile. -/
def PadTable.of (x : PadTable) (t : Nat) : PadDir := Sp.at x.list ⟨x.base, 0, 0⟩ t

/-- Replace the entry of a tile. -/
def PadTable.put (x : PadTable) (t : Nat) (d : PadDir) : PadTable := { x with list := Sp.store x.list ⟨x.base, 0, 0⟩ t d }

/-- A tile's directory entry. -/
def State.dirOf (s : State) (t : Nat) : PadDir := s.pad.dir.of t

/-- Replace a tile's directory entry, on chip and in DRAM (R205). -/
def State.setDir (s : State) (t : Nat) (d : PadDir) : State :=
  { s with pad := { s.pad with dir := s.pad.dir.put t d, dirDram := s.pad.dirDram.put t d } }

/-- Every tile has been groomed at the present tick, and holds no slot (R213). -/
def State.freshDir (s : State) : State :=
  { s with pad := { s.pad with
      dir := ⟨s.tickAbs, []⟩, dirDram := ⟨s.tickAbs, []⟩, groomFrom := none, groomNext := 0, groomMax := 0 } }

/-! ### The tile cache (R204) -/

/-- A tile's lock is held. -/
def State.tileLocked (s : State) (t : Nat) : Bool := !(Sp.at s.pad.locks [] t).isEmpty

/-- The cached tiles without the least recently used unlocked one. -/
def State.evict (s : State) (l : List Nat) : List Nat := (l.reverse.eraseP (fun t => !s.tileLocked t)).reverse

/-- PAD works on a tile: it is the most recently used of the cache, which fetches it from DRAM unless it holds it, in place
of the least recently used unlocked one of 256. -/
def State.useTile (s : State) (t : Nat) : State :=
  let l := s.pad.cache
  let l := if l.contains t then l.filter (· != t) else if l.length < 256 then l else s.evict l
  { s with pad := { s.pad with cache := (t :: l).take 256 } }

/-! ### Groom (R207, R208) -/

/-- The age of a tile in ticks. -/
def State.tileAge (s : State) (t : Nat) : Nat := idxDiff s.tickAbs (s.dirOf t).groom

/-- The cells of tile `t` that hold a slot, by key. -/
def State.tileSlots (s : State) (t : Nat) : Sp Slots := s.pad.slots.filter (fun p => p.1 / 4096 == t)

/-- A slot of a cell of tile `t` is live; in a tile of age 10,000 or more every slot has expired (R208). -/
def State.liveIn (s : State) (t : Nat) (x : Slot) : Bool := decide (s.tileAge t < 10000) && x.live s.tickNow

/-- Live slots of a tile. -/
def State.liveCount (s : State) (t : Nat) : Nat :=
  ((s.tileSlots t).map (fun (p : Nat × Slots) => (p.2.list.filter (s.liveIn t)).length)).sum

/-- GROOM_LATE is set where a tile is as old as two periods of the pass (R208). -/
def State.lateAt (s : State) (age : Nat) : State :=
  if 2 * s.param P.GROOM_PERIOD ≤ age then s.setFlag B.PAD_STS_GROOM_LATE true else s

/-- Groom a tile: OWNER 0 in every slot not live, LIVE recounted, GROOM_TICK set (R207, R208). -/
def State.groomTile (s : State) (t : Nat) : State :=
  let s := (s.useTile t).lateAt (s.tileAge t)
  let keep (x : Slot) : Slot := if s.liveIn t x then x else x.free
  let gone := ((s.tileSlots t).map (fun (p : Nat × Slots) =>
    (p.2.list.filter (fun x => x.owner != 0 && !s.liveIn t x)).length)).sum
  let live := s.liveCount t
  let d := s.dirOf t
  let s := (s.tileSlots t).foldl (fun (s : State) (p : Nat × Slots) => s.setSlots p.1 (p.2.map keep)) s
  (s.setDir t { d with groom := s.tickAbs, live := live }).countBy Reg.PAD_CNT_GROOM_FREED gone

/-- PAD works on a tile; one of age 4,000 or more is groomed before it is read, or a slot written in it (R208). -/
def State.groomAged (s : State) (t : Nat) : State := if 4000 ≤ s.tileAge t then s.groomTile t else s.useTile t

/-- The age of the oldest tile of a grid. -/
def State.oldestAge (s : State) (g : PadGeom) : Nat :=
  let l := s.pad.dir.list.map (fun (p : Nat × PadDir) => idxDiff s.tickAbs p.2.groom)
  (if s.pad.dir.list.length < g.tiles then idxDiff s.tickAbs s.pad.dir.base :: l else l).foldl max 0

/-- Note slot writes in a tile (R205). -/
def State.noteWrite (s : State) (t : Nat) : State :=
  s.setDir t { s.dirOf t with write := s.tickAbs, live := s.liveCount t }

/-! ### Events (R241) and contexts' status (Table PAD-26) -/

/-- Post a PAD event: code, context, RESULT_1. -/
def State.padEvent (s : State) (code ctx r1 : Nat) : State := s.event .allot 7 code ctx r1 0

/-- Tiles in which context `n` holds a live PLANNED slot. -/
def State.plannedTiles (s : State) (n : Nat) : List Nat :=
  (s.pad.slots.filterMap (fun (p : Nat × Slots) =>
    if p.2.list.any (fun x => x.owner.toNat == n && !x.kind && s.liveIn (p.1 / 4096) x) then some (p.1 / 4096)
    else none)).eraseDups

/-- Report a context's shape, disc and parked cells; its TILES are counted at a read. -/
def State.reportPad (s : State) (n : Nat) : State :=
  let s := s.setFlag (B.PAD_CTX_STS_SHAPE_SET n) (Sp.find s.pad.shapes n).isSome
  let s := s.setFlag (B.PAD_CTX_STS_DISC n) (Sp.find s.pad.discs n).isSome
  let s := s.setFlag (B.PAD_CTX_STS_PARKED n) (Sp.find s.pad.parks n).isSome
  s.set (B.PAD_CTX_STS_PARK_END n) (Sp.at s.pad.parks 0 n)

/-- Report places, waits and pending acknowledgements (Table PAD-25); LOCKED is counted at a read. -/
def State.reportSweeps (s : State) : State :=
  let k := s.pad.sweeps.length
  let s := s.set B.PAD_SWEEP_STS_ACTIVE (min k 4)
  let s := s.set B.PAD_SWEEP_STS_WAITING (min (k - 4) 255)
  s.setFlag B.PAD_SWEEP_STS_MIRROR_PEND (!s.pad.sync.isEmpty)

/-! ### Repair (R206) -/

/-- The cell of a failed read. -/
def BadCell.cell (b : BadCell) : Cell := (((b.i.toNat : Nat) : Int), ((b.j.toNat : Nat) : Int))

/-- The DRAM address of a cell (R203). -/
def State.cellAddr (s : State) (g : PadGeom) (c : Cell) : Nat := s.rd64 Reg.PAD_MAP_DRAM + 16 * g.key c

/-- Region and cell where the error of a cell word was first detected (R206): of a word that the tile cache does not hold,
MQF; else PAD, with the lane. -/
def State.badOrigin (s : State) (g : PadGeom) (b : BadCell) : Nat × Nat :=
  if s.pad.cache.contains (g.key b.cell / 4096) then (7, b.lane.toNat) else (3, noCell)

/-- An uncorrectable word is reported: of DRAM, with its address (R435, R439); of the tile cache, as a cell error of the
lane that read it (R441). -/
def State.badWord (s : State) (g : PadGeom) (b : BadCell) : State :=
  if s.pad.cache.contains (g.key b.cell / 4096) then
    if b.lane.toNat = noCell then s else s.laneError b.lane.toNat
  else s.dramUe (s.cellAddr g b.cell) false

/-- The cell is rewritten: CLASS, SPEED and HEADING 0, REPAIRED set, HOLD kept, every slot free (R206). -/
def State.wipeCell (s : State) (k : Nat) : State :=
  let t := k / 4096
  let s := s.setHalves t (mapRuns (fun h => withHold 0x4000#16 (halfHold h)) (k % 4096) 1 (s.halvesOf t))
  ((s.useTile t).setSlots k Slots.zero).noteWrite t

/-- PAD reports the bad word, rewrites the cell and posts CELL_REPAIRED (R206). -/
def State.repairCell (s : State) (b : BadCell) : State :=
  match s.pad.geom with
  | none => s
  | some g =>
    if !g.has b.cell then s
    else
      let s := (s.badWord g b).wipeCell (g.key b.cell)
      let s := (s.count Reg.PAD_CNT_REPAIR).setFlag B.PAD_STS_REPAIRED true
      s.padEvent 1 0 (b.i.toNat + b.j.toNat * 2 ^ 16)

/-- What reads a bad word outside a map: none. -/
def State.badSeen (s : State) (b : BadCell) : Option (Nat × Nat) :=
  s.pad.geom.bind (fun g => if g.has b.cell then some (s.badOrigin g b) else none)

/-- Act on the cells where no word read fails, else repair the cell and let `fails` end what read it, at the region and
cell where the error was first detected (R29, R206). -/
def State.readCellsOr (s : State) (bad : Option BadCell) (fails : State → Nat × Nat → State) (act : State → State) :
    State :=
  match bad.bind (fun b => (s.badSeen b).map (fun o => (b, o))) with
  | none => act s
  | some (b, o) => fails (s.repairCell b) o

/-- The same for an item, which fails with FAIL_POISON. -/
def State.readCells (s : State) (it : Item) (bad : Option BadCell) (act : State → State) : State :=
  s.readCellsOr bad (fun s o => s.finishAt it o.1 o.2 .failPoison Res.zero) act

/-! ### Operation checks -/

/-- A FULL import runs or is suspended. -/
def State.fullImport (s : State) : Bool :=
  match s.pad.importing with
  | some x => !x.patch
  | none => false

/-- R219: the states in which a sweep operation is rejected; `shape` where the operation needs a shape. -/
def State.sweepState (s : State) (n : Nat) (shape : Bool) : Bool :=
  s.mapValid && !s.fullImport && s.joined n && (!shape || (Sp.find s.pad.shapes n).isSome)

/-! ### The mirror (R242) -/

/-- The chip sends mirror records: it is ACTIVE and its Biyth link is UP. -/
def State.mirrorUp (s : State) : Bool := s.get B.BYL_PAIR_STS_ROLE == 3 && s.get B.BYL_LINK_STS_STATE == 3

/-- Send a frame of the mirror, as the ACTIVE chip does. -/
def State.mirrorSend (s : State) (x : BylOut) : State := if s.mirrorUp then s.bylSend x else s

/-- Send a mirror record; its MSEQ is the next one. -/
def State.mirror (s : State) (n now pr cells : Nat) (crc : BitVec 32) (reqSeq : Nat) (body : MirrorBody) : State :=
  if s.mirrorUp then
    let q := (s.pad.mseq + 1) % 2 ^ 32
    let r : MirrorRec := ⟨q, n, now, s.tickAbs, pr, cells, crc, reqSeq, body⟩
    let s := { s with pad := { s.pad with mseq := q } }.wr Reg.BYL_MSEQ_APPLIED q
    s.bylSend (.pad r)
  else s

/-- The snapshot of a tile (R495). -/
def State.tileSnap (s : State) (t : Nat) : TileSnap :=
  ⟨t, s.halvesOf t, (s.tileSlots t).map (fun p => (p.1 % 4096, p.2)), s.pad.mseq⟩

/-- The active chip sends the map geometry and then every tile (R495). -/
def State.sendMap (s : State) : State :=
  if s.mirrorUp then
    let s := s.bylSend (.tileData (.geometry ⟨s.pad.geom, s.pad.deflt, s.word Reg.PAD_MAP_VER⟩))
    (List.range ((s.pad.geom.map PadGeom.tiles).getD 0)).foldl
      (fun (s : State) (t : Nat) => s.bylSend (.tileData (.tile (s.tileSnap t)))) s
  else s

/-! ### Slots of a context -/

/-- The live slots context `n` holds. -/
def State.heldSlots (s : State) (n : Nat) : Nat :=
  (s.pad.slots.map (fun (p : Nat × Slots) =>
    (p.2.list.filter (fun x => x.owner.toNat == n && s.liveIn (p.1 / 4096) x)).length)).sum

/-- Slot `x` of a cell of key `k` is a live one of context `n` of which `sel` holds. -/
def State.isHeld (s : State) (n : Nat) (sel : Slot → Bool) (k : Nat) (x : Slot) : Bool :=
  x.owner.toNat == n && s.liveIn (k / 4096) x && sel x

/-- The cells in which context `n` holds a live slot of which `sel` holds. -/
def State.slotCells (s : State) (n : Nat) (sel : Slot → Bool) : Sp Slots :=
  s.pad.slots.filter (fun p => p.2.list.any (s.isHeld n sel p.1))

/-- The tiles of cells by key. -/
def tilesOf (l : Sp Slots) : List Nat := (l.map (fun p => p.1 / 4096)).eraseDups

/-- CRC-32C over cell words in order (Table PAD-22). -/
def State.cellsCrc (s : State) (keys : List Nat) : BitVec 32 :=
  crc32c (keys.map (fun k => leBytes 16 (s.cellWord k))).flatten

/-- Free the live slots of context `n` of which `sel` holds, tile by tile; every other slot of its own is free as it
stands (R196). -/
def State.freeSlots (s : State) (n : Nat) (sel : Slot → Bool) : State :=
  let hit := s.slotCells n sel
  let s' := hit.foldl (fun (q : State) (p : Nat × Slots) =>
    q.setSlots p.1 (p.2.map (fun x => if s.isHeld n sel p.1 x then x.free else x))) s
  (tilesOf hit).foldl (fun (q : State) t => (q.useTile t).noteWrite t) s'

/-- The disc of context `n` ends (R240): the disc writer still has its UNCERTAIN slots to free. -/
def State.discOver (s : State) (n : Nat) : State :=
  match Sp.find s.pad.discs n with
  | none => s
  | some _ =>
    let s := { s with pad := { s.pad with discs := Sp.drop s.pad.discs n, ending := s.pad.ending ++ [n] } }
    (s.mirror n s.tickNow 0 0 0 0 .discEnd).reportPad n

/-- RELEASE (R237): every slot of the context is freed, its disc and park renewal end. -/
def State.padFree (s : State) (n : Nat) : State :=
  let s := s.freeSlots n (fun _ => true)
  let s := { s with pad := { s.pad with parks := Sp.drop s.pad.parks n } }
  (s.discOver n).reportPad n

/-- A context leave in PAD (R220, R237): the release, and the shape is cleared. -/
def State.padLeave (s : State) (n : Nat) : State :=
  let s := s.padFree n
  let s := { s with pad := { s.pad with shapes := Sp.drop s.pad.shapes n } }
  s.reportPad n

end Sys2Proof.Machine
end

