-- ==== Sys2Proof/Machine/PadLocks.lean ====
section
/-!
DEFINITION. Tile locks (R230): requests in ascending tile index, each tile's lock granted in arrival order; SET_HOLD (R215)
and RELEASE (R237), which act once they hold the locks of their tiles.
-/

namespace Sys2Proof.Machine

/-! ### Locks -/

/-- A requester goes on through its tiles: it holds the lock of each at which it stands first, and stands last at the
first one it does not hold. -/
def grabLocks (q : Sp (List Locker)) (who : Locker) (tiles : List Nat) : Sp (List Locker) :=
  match tiles with
  | [] => q
  | t :: r =>
    let l := Sp.at q [] t
    let l := if l.contains who then l else l ++ [who]
    let q := Sp.store q [] t l
    if l.head? = some who then grabLocks q who r else q

/-- Every requester goes on, the oldest request first. -/
def State.grantLocks (s : State) : State :=
  { s with pad := { s.pad with locks := s.pad.asks.foldl (fun q a => grabLocks q a.who a.tiles) s.pad.locks } }

/-- A requester asks for the locks of tiles, unless it has asked. -/
def State.askLocks (s : State) (who : Locker) (tiles : List Nat) : State :=
  if s.pad.asks.any (fun a => a.who == who) then s
  else
    let ask : LockReq := ⟨who, sortBy (fun a b => a ≤ b) tiles.eraseDups⟩
    ({ s with pad := { s.pad with asks := s.pad.asks ++ [ask] } }).grantLocks

/-- A requester holds every lock it has asked for. -/
def State.holdsLocks (s : State) (who : Locker) : Bool :=
  match s.pad.asks.find? (fun a => a.who == who) with
  | some a => a.tiles.all (fun t => (Sp.at s.pad.locks [] t).head? == some who)
  | none => false

/-- Requesters leave: their locks are released. -/
def State.leaveLocks (s : State) (sel : Locker → Bool) : State :=
  ({ s with pad := { s.pad with
      asks := s.pad.asks.filter (fun a => !sel a.who)
      locks := s.pad.locks.filterMap (fun (p : Nat × List Locker) =>
        let l := p.2.filter (fun w => !sel w)
        if l.isEmpty then none else some (p.1, l)) } }).grantLocks

/-- Tiles locked (Table PAD-25). -/
def State.lockedTiles (s : State) : Nat := min s.pad.locks.length 192

/-! ### SET_HOLD and RELEASE -/

/-- The rectangle of SET_HOLD: i0, j0, i1, j1. -/
def holdRect (d : Desc) : Nat × Nat × Nat × Nat :=
  (argBits d.arg0 15 0, argBits d.arg0 31 16, argBits d.arg0 47 32, argBits d.arg0 63 48)

/-- The keys of the cells of a rectangle. -/
def PadGeom.rectKeys (g : PadGeom) (i0 j0 i1 j1 : Nat) : List Nat :=
  ((List.range (j1 - j0 + 1)).map (fun (b : Nat) =>
    (List.range (i1 - i0 + 1)).map (fun (a : Nat) => g.key (((i0 + a : Nat) : Int), ((j0 + b : Nat) : Int))))).flatten

/-- The keys of the cells SET_HOLD names. -/
def State.holdKeys (s : State) (d : Desc) : List Nat :=
  match s.pad.geom with
  | some g => let (i0, j0, i1, j1) := holdRect d; g.rectKeys i0 j0 i1 j1
  | none => []

/-- HOLD of every cell of the rectangle is set or cleared in one step (R215). -/
def State.holdCells (s : State) (it : Item) : State :=
  let v := argBit it.d.arg1 0
  let ks := s.holdKeys it.d
  let changed := (ks.filter (fun k => halfHold (s.halfAt k) != v)).length
  let live := (ks.filter (fun k => (s.slotsOf k).list.any (s.liveIn (k / 4096)))).length
  let s := ks.foldl (fun (s : State) (k : Nat) =>
    s.setHalves (k / 4096) (mapRuns (fun h => withHold h v) (k % 4096) 1 (s.halvesOf (k / 4096)))) s
  s.finish it 7 .done ⟨changed, live, 0⟩

/-- RELEASE (R237): the slots of the context are freed, and the partner learns which cells were written (R242). -/
def State.releaseCells (s : State) (it : Item) : State :=
  let n := s.heldSlots it.ctx
  let keys := (s.slotCells it.ctx (fun _ => true)).map Prod.fst
  let s := s.padFree it.ctx
  (s.mirror it.ctx s.tickNow 0 keys.length (s.cellsCrc keys) 0 .release).finish it 7 .done ⟨n, 0, 0⟩

/-- The tiles of a SET_HOLD or RELEASE. -/
def State.waitTiles (s : State) (it : Item) : List Nat :=
  if it.d.opcode = 0x7003 then ((s.holdKeys it.d).map (· / 4096)).eraseDups
  else tilesOf (s.slotCells it.ctx (fun _ => true))

/-- A SET_HOLD or RELEASE that holds its locks acts, and releases them. -/
def State.actWait (s : State) (w : PadWait) : State :=
  let s := { s with pad := { s.pad with waits := s.pad.waits.filter (fun x => x.item.id != w.item.id) } }
  let tiles := s.waitTiles w.item
  let s := s.readCells w.item w.bad (fun s =>
    let s := tiles.foldl (fun (s : State) t => s.useTile t) s
    if w.item.d.opcode = 0x7003 then s.holdCells w.item else s.releaseCells w.item)
  s.leaveLocks (fun l => l == .item w.item.id)

/-- Those of the waiting SET_HOLDs and RELEASEs that hold their locks act, `k` at most, one after another. -/
def State.runWaits (s : State) (k : Nat) : State :=
  match k with
  | 0 => s
  | k + 1 =>
    match s.pad.waits.find? (fun w => s.holdsLocks (.item w.item.id)) with
    | some w => (s.actWait w).runWaits k
    | none => s

/-- Requesters leave, and what waited for their locks acts. -/
def State.freeLocks (s : State) (sel : Locker → Bool) : State :=
  let s := s.leaveLocks sel
  s.runWaits s.pad.waits.length

/-- A SET_HOLD or RELEASE asks for the locks of its tiles, once, and acts when it holds them. -/
def State.waitLocks (s : State) (it : Item) (bad : Option BadCell) : State :=
  if s.pad.waits.any (fun w => w.item.id == it.id) then s
  else
  let s := s.askLocks (.item it.id) (s.waitTiles it)
  let s := { s with pad := { s.pad with waits := s.pad.waits ++ [PadWait.mk it bad] } }
  s.runWaits s.pad.waits.length

/-- A requester asks for locks, and acts when it holds them: at once, or when its command is given again. -/
def State.withLocks (s : State) (who : Locker) (tiles : List Nat) (act : State → State) : State :=
  let s := s.askLocks who tiles
  if s.holdsLocks who then (act s).freeLocks (fun l => l == who) else s

/-- Locks, requests and waits are gone: PAD resets, or its map is another one. -/
def State.clearLocks (s : State) : State := { s with pad := { s.pad with locks := [], asks := [], waits := [] } }

end Sys2Proof.Machine
end

