-- ==== Sys2Proof/Machine/Sweep.lean ====
section
/-!
DEFINITION. Sweeps (R219 to R237): from a profile to cells and intervals, the checks, the commit, what-if queries.
-/

namespace Sys2Proof.Machine

/-! ### From profile to cells (R223 to R225) -/

/-- First and last sample index of a covered cell, and whether it is parked. -/
structure CellSpan where
  first : Nat
  last  : Nat
  park  : Bool
  deriving DecidableEq, Repr

/-- What a profile covers: spans of the widened cells by `cellOrd`, the bare hull, the bare cells of each sample, and the
cells of the widened polygon of sample 0. -/
structure Raster where
  spans : Sp CellSpan
  hull  : List Cell
  bare  : List (List Cell)
  stand : List Cell
  deriving DecidableEq, Repr

/-- A body polygon at the pose of a sample (R223). -/
def Sample.poly (x : Sample) (ps : List Pt) : List Pt := posePoly x.e.toInt x.n.toInt x.heading.toNat ps

/-- The bare body polygon. -/
def Shape.bare (x : Shape) : List Pt := x.verts.map (fun p => (p.1 * padUnit, p.2 * padUnit))

/-- d for a set of bare cells (R224). -/
def State.widenBy (s : State) (g : PadGeom) (sh : Shape) (pr : Nat) (cs : List Cell) : Nat :=
  sh.clear + pr + 10 * (cs.map (fun c => s.classAdd (halfClass (s.cellHalf g c)))).foldl max 0

/-- Extend the span of a cell. -/
def spanCell (m : Sp CellSpan) (c : Cell) (first last : Nat) (park : Bool) : Sp CellSpan :=
  let k := cellOrd c
  match Sp.find m k with
  | none => Sp.put m k ⟨first, last, park⟩
  | some x => Sp.put m k ⟨min x.first first, max x.last last, x.park || park⟩

/-- Extend the spans of many cells. -/
def spanCells (m : Sp CellSpan) (cs : List Cell) (first last : Nat) (park : Bool) : Sp CellSpan :=
  cs.foldl (fun (m : Sp CellSpan) c => spanCell m c first last park) m

/-- The cells of the hull of two polygons. -/
def PadGeom.hullCells (g : PadGeom) (a b : List Pt) : List Cell := g.cells (hull (a ++ b))

/-- The pairs of consecutive samples from index `k`, each pair's hulls added (R225). -/
def State.rasterPairs (s : State) (g : PadGeom) (sh : Shape) (pr k : Nat) (l : List (Sample × List Cell)) (r : Raster) :
    Raster :=
  match l with
  | (a, ca) :: (b, cb) :: rest =>
    let w := widenBody sh.verts (s.widenBy g sh pr (ca ++ cb))
    let r := { r with
      spans := spanCells r.spans (g.hullCells (a.poly w) (b.poly w)) k (k + 1) false
      hull := r.hull ++ g.hullCells (a.poly sh.bare) (b.poly sh.bare)
      stand := if k = 0 then g.cells (a.poly w) else r.stand }
    s.rasterPairs g sh pr (k + 1) ((b, cb) :: rest) r
  | _ => r

/-- What a profile covers (R225). d of the last pose is that of its own bare cells, and the polygon of sample 0 is
widened by d_0 (DEDUCED, log entry 31). -/
def State.raster (s : State) (g : PadGeom) (sh : Shape) (pr : Nat) (l : List Sample) : Raster :=
  let bare := l.map (fun x => g.cells (x.poly sh.bare))
  let r := s.rasterPairs g sh pr 0 (l.zip bare) ⟨[], [], bare, []⟩
  match l.getLast?, bare.getLast? with
  | some z, some cz =>
    let w := widenBody sh.verts (s.widenBy g sh pr cz)
    let park := g.cells (z.poly w)
    { r with
      spans := spanCells r.spans park (l.length - 1) 0 true
      hull := (r.hull ++ cz).eraseDups
      stand := if l.length ≤ 1 then park else r.stand }
  | _, _ => r

/-- A cell's new interval relative to now (R225); `f` is rel(FIRST_TICK). None where the start rule leaves it empty. -/
def CellSpan.interval (x : CellSpan) (f : Int) : Option (Int × Int) :=
  let a := max (f + x.first) 0
  let b := if x.park then 6000 else f + x.last + 1
  if a < b then some (a, b) else none

/-! ### Discs (R238) -/

/-- Whole ticks since PAD_TICK_BASE, not wrapped. -/
def State.tickRaw (s : State) : Int := (((s.devNs : Nat) : Int) - signed 64 (s.rd64 Reg.PAD_TICK_BASE)) / 10000000

/-- Device time at which tick `k`, not wrapped, begins. -/
def State.tickStart (s : State) (k : Int) : Int := signed 64 (s.rd64 Reg.PAD_TICK_BASE) + k * 10000000

/-- r(t) at `ns` after the time origin, in units of 2^-20 mm. -/
def Disc.radius (d : Disc) (ns : Nat) : Nat :=
  min (d.r0 + d.v * ns * 2 ^ 20 / 10 ^ 9 + d.a * ns * ns * 2 ^ 20 / (2 * 10 ^ 18)) d.cap

/-- The centre of a disc. -/
def Disc.centre (d : Disc) : Pt := (d.e * padUnit, d.n * padUnit)

/-- r at tick `k` reaches distance-squared `q`. -/
def State.discReaches (s : State) (d : Disc) (q : Nat) (k : Int) : Bool :=
  let r := d.radius (s.tickStart k - (d.t0 : Int)).toNat
  q ≤ r * r

/-- The first of the ticks `lo` to `lo` + 2^`b` − 1 at which r reaches `q`, or the one after them. -/
def State.discSearch (s : State) (d : Disc) (q b : Nat) (lo : Int) : Int :=
  match b with
  | 0 => if s.discReaches d q lo then lo else lo + 1
  | b + 1 =>
    let mid := lo + 2 ^ b - 1
    if s.discReaches d q mid then s.discSearch d q b lo else s.discSearch d q b (lo + 2 ^ b)

/-- t_d of a cell (R238), as ticks after the present one; none outside the capped radius, or where r does not reach the
cell within 16,384 ticks of the later of now and the time origin. -/
def State.discTime (s : State) (g : PadGeom) (d : Disc) (c : Cell) : Option Int :=
  let q := g.dist2 d.centre c
  if d.cap * d.cap < q then none
  else
    let k0 := -((signed 64 (s.rd64 Reg.PAD_TICK_BASE) - (d.t0 : Int)) / 10000000)
    let now := s.tickRaw
    let lo := if s.discReaches d q k0 then k0 else max k0 (now - 8192)
    let k := if lo = k0 ∧ s.discReaches d q k0 then k0 else s.discSearch d q 14 lo
    if s.discReaches d q k then some (k - now) else none

/-! ### The checks (R222, R226 to R229) -/

/-- A failed check: rel of its conflict tick, reason, cell, owner. -/
structure Conflict where
  at_    : Int
  reason : Nat
  cell   : Cell
  owner  : Nat
  deriving DecidableEq, Repr

/-- The order of R229. -/
def Conflict.before (a b : Conflict) : Bool :=
  a.at_ < b.at_ || (a.at_ == b.at_ && (a.reason < b.reason || (a.reason == b.reason &&
    (a.cell.2 < b.cell.2 || (a.cell.2 == b.cell.2 && a.cell.1 < b.cell.1)))))

/-- The one conflict a sweep reports. -/
def firstConflict (l : List Conflict) : Option Conflict :=
  l.foldl (fun (o : Option Conflict) c => match o with
    | none => some c
    | some b => if c.before b then some c else some b) none

/-- The own slot a commit writes into: the live PLANNED one, else a live UNCERTAIN one. -/
def Slots.mine (x : Slots) (n now : Nat) : Option Nat :=
  let own (k : Nat) (kind : Bool) : Bool := match x.list[k]? with
    | some y => y.owner.toNat == n && y.live now && y.kind == kind
    | none => false
  match [0, 1, 2].find? (fun k => own k false) with
  | some k => some k
  | none => [0, 1, 2].find? (fun k => own k true)

/-- The context's old PLANNED interval, relative to now, where it holds one. -/
def Slots.planned (x : Slots) (n now : Nat) : Option (Int × Int) :=
  (x.list.find? (fun y => y.owner.toNat == n && y.live now && !y.kind)).map (fun y =>
    (relTick now y.start.toNat, relTick now y.stop.toNat))

/-- A free slot of a cell. -/
def Slots.spare (x : Slots) (now : Nat) : Option Nat :=
  [0, 1, 2].find? (fun k => match x.list[k]? with | some y => !y.live now | none => false)

/-- The interval a commit writes (R231): the hull with the part of the old PLANNED interval kept for `hand` ticks. -/
def writtenInterval (old : Option (Int × Int)) (hand : Nat) (a b : Int) : Int × Int :=
  match old with
  | some (s2, e2) =>
    let rs := max s2 0
    let re := min e2 (hand : Int)
    if rs < re then (min a rs, max b re) else (a, b)
  | none => (a, b)

/-- Overlap of [a, b) with another interval (R228): the first tick of it. -/
def overlap (a b c d : Int) : Option Int := if max a c < min b d then some (max a c) else none

/-- Owner slots of others with which [a, b) overlaps: rel of the first tick and the owner. -/
def Slots.clashes (x : Slots) (n now : Nat) (a b : Int) : List (Int × Nat) :=
  x.list.filterMap (fun y =>
    if y.live now ∧ y.owner.toNat ≠ n then
      (overlap a b (relTick now y.start.toNat) (relTick now y.stop.toNat)).map (fun r => (r, y.owner.toNat))
    else none)

/-- The direction of travel lies within the tolerance of a heading code (R199): `dir` in 0.01°, `tol` in degrees. -/
def headingOk (code dir tol : Nat) : Bool :=
  let near (x : Nat) : Bool :=
    let d := (dir + 36000 - x % 36000) % 36000
    min d (36000 - d) ≤ tol * 100
  if code = 0 then true
  else if code ≤ 8 then near ((code - 1) * 4500)
  else near ((code - 9) * 4500) || near ((code - 9) * 4500 + 18000)

/-- The checks 5 to 8 of Table PAD-18 on the bare cells of a sample; `dwell` where it dwells. -/
def State.sampleChecks (s : State) (g : PadGeom) (x : Sample) (cs : List Cell) (at_ : Int) (dwell : Bool) :
    List Conflict :=
  let v := x.v.toInt
  (cs.map (fun (c : Cell) =>
    let h := s.cellHalf g c
    let cl := halfClass h
    let dir := if v < 0 then x.heading.toNat + 18000 else x.heading.toNat
    let fails : List (Bool × Nat) := [
      (dwell && !s.classDwell cl, 5),
      (decide (v < 0) && !s.classReverse cl, 6),
      (decide (v ≠ 0) && !headingOk (halfHeading h) (dir % 36000) (s.param P.HEAD_TOL), 7),
      ((match s.speedLimit (halfSpeed h) with | some m => decide (m < v.natAbs) | none => false), 8)]
    fails.filterMap (fun p => if p.1 then some (Conflict.mk at_ p.2 c 0) else none))).flatten

/-- The sample checks from index `k` on. -/
def State.samplesChecks (s : State) (g : PadGeom) (f : Int) (k : Nat) (l : List (Sample × List Cell)) : List Conflict :=
  match l with
  | [] => []
  | (x, cs) :: r =>
    let dwell := match r with
      | [] => true
      | (y, _) :: _ => x.v == 0 && y.v == 0
    s.sampleChecks g x cs (f + k) dwell ++ s.samplesChecks g f (k + 1) r

/-- A cell a sweep would write: key, interval relative to now, slot. -/
structure CellWrite where
  key   : Nat
  start : Int
  stop  : Int
  slot  : Nat
  deriving DecidableEq, Repr

/-- What a sweep's checks find: widened cells covered, writes, conflicts, near cells. -/
structure Eval where
  cells     : Nat
  writes    : List CellWrite
  conflicts : List Conflict
  near      : Nat
  deriving DecidableEq, Repr

/-- The earliest overlap of [a, b) with the discs of other contexts (check 9). -/
def State.discClash (s : State) (g : PadGeom) (n : Nat) (c : Cell) (a b : Int) : List Conflict :=
  s.pad.discs.filterMap (fun (p : Nat × Disc) =>
    if p.1 = n then none
    else match s.discTime g p.2 c with
      | some td => (overlap a b (max td (-8192)) 8191).map (fun r => Conflict.mk r 9 c p.1)
      | none => none)

/-- The checks 1, 2, 4 and 9 on one covered cell, and its write. -/
def State.cellChecks (s : State) (g : PadGeom) (n now : Nat) (stand : List Cell) (c : Cell) (a b : Int) (e : Eval) :
    Eval :=
  if !g.has c then { e with conflicts := e.conflicts ++ [Conflict.mk a 2 c 0] }
  else
    let k := g.key c
    let x := s.slotsOf k
    let (a, b) := writtenInterval (x.planned n now) (s.param P.HANDOVER_TICKS) a b
    let m : Int := s.param P.TIME_MARGIN
    let w : Int := s.param P.NEAR_TICKS
    let hits := (x.clashes n now (a - m) (b + m)).map (fun p => Conflict.mk p.1 1 c p.2)
    let near := hits.isEmpty && !(x.clashes n now (a - m - w) (b + m + w)).isEmpty
    let slot := match x.mine n now with | some k => some k | none => x.spare now
    let full := if slot.isNone then [Conflict.mk a 2 c 0] else []
    let hold := if halfHold (s.halfAt k) ∧ ¬ stand.contains c then [Conflict.mk a 4 c 0] else []
    { e with
      writes := e.writes ++ (match slot with | some j => [CellWrite.mk k a b j] | none => [])
      conflicts := e.conflicts ++ hits ++ full ++ hold ++ s.discClash g n c (a - m) (b + m)
      near := e.near + (if near then 1 else 0) }

/-- Start of the interval a bare hull cell is checked at: that of its written interval. -/
def State.hullStart (s : State) (g : PadGeom) (n now : Nat) (f : Int) (r : Raster) (c : Cell) : Int :=
  match (Sp.find r.spans (cellOrd c)).bind (fun x => x.interval f) with
  | some (a, b) =>
    if g.has c then (writtenInterval ((s.slotsOf (g.key c)).planned n now) (s.param P.HANDOVER_TICKS) a b).1 else a
  | none => max f 0

/-- The sweep checks of Table PAD-18 for context `n`, with `now` latched, on request samples `l` whose FIRST_TICK lies `f`
after now. -/
def State.evalSweep (s : State) (g : PadGeom) (n now pr : Nat) (f : Int) (l : List Sample) (r : Raster) : Eval :=
  let live := r.spans.filterMap (fun (p : Nat × CellSpan) => (p.2.interval f).map (fun i => (ordCell p.1, i)))
  let e := live.foldl (fun (e : Eval) p => s.cellChecks g n now r.stand p.1 p.2.1 p.2.2 e) ⟨r.spans.length, [], [], 0⟩
  let entry := r.hull.filterMap (fun (c : Cell) =>
    if r.stand.contains c then none
    else if g.has c && s.classEnter (halfClass (s.cellHalf g c)) then none
    else some (Conflict.mk (s.hullStart g n now f r c) 3 c 0))
  let radius := if s.param P.PR_SWEEP_MAX < pr then [Conflict.mk f 10 (0, 0) 0] else []
  { e with conflicts := e.conflicts ++ entry ++ s.samplesChecks g f 0 (l.zip r.bare) ++ radius }

/-! ### The request (R221, R222) -/

/-- Cause 1 of Table PAD-17: `len` is LEN where the request came in a buffer. -/
def SweepReq.formed (q : SweepReq) (len : Option Nat) : Bool :=
  1 ≤ q.nsamp.toNat && q.nsamp.toNat ≤ 4096 && q.samples.length == q.nsamp.toNat
    && len.all (fun n => n == 16 + 12 * q.nsamp.toNat)
    && q.samples.all (fun x => x.heading.toNat ≤ 35999 && x.v != 0x8000#16)

/-- Causes 1 to 3 of Table PAD-17, against the present tick; 0 where none holds. -/
def State.causeBefore (s : State) (q : SweepReq) (len : Option Nat) : Nat :=
  let f := relTick s.tickNow q.first.toNat
  if !q.formed len then 1 else if 100 < f then 2 else if f < -50 then 3 else 0

/-- The status of a cause (Table PAD-17). -/
def causeStatus (c : Nat) : Status := if c = 3 then .rejExpired else if c = 8 then .rejState else .rejRange

/-- Consecutive samples lie at most 200 mm apart. -/
def stepsOk (l : List Sample) : Bool :=
  match l with
  | a :: b :: r =>
    let dx := a.e.toInt - b.e.toInt
    let dy := a.n.toInt - b.n.toInt
    decide (dx * dx + dy * dy ≤ 40000) && stepsOk (b :: r)
  | _ => true

/-- The tiles a sweep locks (R230): those of covered cells, and those with a live PLANNED slot of the context. -/
def State.lockSet (s : State) (g : PadGeom) (n : Nat) (r : Raster) : List Nat :=
  ((r.spans.filterMap (fun (p : Nat × CellSpan) =>
    if g.has (ordCell p.1) then some (g.key (ordCell p.1) / 4096) else none)) ++ s.plannedTiles n).eraseDups

/-- Causes 4 to 7 of Table PAD-17; 0 where none holds. `locks` is the size of the lock set. -/
def SweepReq.causeAfter (q : SweepReq) (f : Int) (locks : Nat) : Nat :=
  if 5000 < f + q.samples.length - 1 then 4
  else if (match q.samples.getLast? with | some x => x.v != 0 | none => true) then 5
  else if !stepsOk q.samples then 6
  else if 48 < locks then 7
  else 0

/-- PROT_RADIUS of the context's latest FIX item (R224); 0 where it has none. -/
def State.latestPr (s : State) (n : Nat) : Nat :=
  match (Sp.at s.fix.ctx FixCtx.reset n).last with
  | some r => r.pr.toNat
  | none => 0

/-- Cause 8: DARK or LOST_ASLEEP, or no FIX item that is SINGLE or better. -/
def State.causeState (s : State) (n : Nat) : Bool :=
  s.ctxState n == ctxDark || s.ctxState n == ctxLost ||
    (match (Sp.at s.fix.ctx FixCtx.reset n).last with
    | some r => r.state == 0
    | none => true)

/-! ### The commit (R231, R232, R235) -/

/-- A slot as a commit writes it. -/
def plannedSlot (n now : Nat) (a b : Int) : Slot := ⟨BitVec.ofNat 8 n, tickAt now a, tickAt now b, false⟩

/-- An old PLANNED slot in a cell the new plan does not cover: END is cut at `hand` ticks from now; an empty one is
freed (R231). -/
def cutSlot (n now hand : Nat) (y : Slot) : Slot :=
  if y.owner.toNat = n ∧ !y.kind ∧ y.live now ∧ (hand : Int) < relTick now y.stop.toNat then
    if relTick now y.start.toNat < hand then { y with stop := tickAt now hand } else y.free
  else y

/-- Write a clear sweep (R231). Answers the keys written, ascending. -/
def State.writeSweep (s : State) (n now : Nat) (ws : List CellWrite) : State × List Nat :=
  let hand := s.param P.HANDOVER_TICKS
  let covered := ws.map CellWrite.key
  let cut := s.pad.slots.filter (fun (p : Nat × Slots) =>
    !covered.contains p.1 && p.2.map (cutSlot n now hand) != p.2)
  let s := ws.foldl (fun (s : State) (w : CellWrite) =>
    s.setSlots w.key ((s.slotsOf w.key).set w.slot (plannedSlot n now w.start w.stop))) s
  let s := cut.foldl (fun (s : State) (p : Nat × Slots) => s.setSlots p.1 (p.2.map (cutSlot n now hand))) s
  let keys := sortBy (fun a b => a ≤ b) (covered ++ cut.map Prod.fst)
  ((keys.map (· / 4096)).eraseDups.foldl (fun (s : State) t => (s.useTile t).noteWrite t) s, keys)

/-- Park END and disc after a commit (R233, R240). -/
def State.parkAt (s : State) (n now : Nat) : State :=
  let s := { s with pad := { s.pad with parks := Sp.put s.pad.parks n (tickAt now 6000).toNat } }
  (s.discOver n).reportPad n

/-- Results of a commit that is done (R235). -/
def State.commitRes (s : State) (now cells tiles : Nat) (q : SweepReq) : Res :=
  ⟨cells + tiles * 2 ^ 32,
   (tickAt now 6000).toNat + (tickAt now (s.param P.HANDOVER_TICKS)).toNat * 2 ^ 16,
   q.first.toNat + (q.first.toNat + q.samples.length - 1) % 16384 * 2 ^ 16⟩

/-- Results of a conflict (R235). -/
def Conflict.res (c : Conflict) (now : Nat) : Res :=
  ⟨(tickAt now c.at_).toNat + c.owner * 2 ^ 16 + c.reason * 2 ^ 24, unsigned 16 c.cell.1 + unsigned 16 c.cell.2 * 2 ^ 16, 0⟩

/-- RESULT_2 of an epoch whose sweep met a conflict: the first conflicting tick and its holder. -/
def Conflict.word (c : Conflict) (now : Nat) : Nat := (tickAt now c.at_).toNat + c.owner * 2 ^ 16

/-- The sweeps that hold one of the four places: each from the moment it obtains the place until its local write-through,
or until it releases its locks on a conflict (R230, R244); the others wait for a place. -/
def State.places (s : State) : List Sweep := s.pad.sweeps.take 4

/-- The tiles whose locks a sweep takes as it obtains its place (R230). -/
def State.sweepTiles (s : State) (w : Sweep) : List Nat :=
  match s.pad.geom, Sp.find s.pad.shapes w.item.ctx with
  | some g, some sh => s.lockSet g w.item.ctx (s.raster g sh (s.latestPr w.item.ctx) w.req.samples)
  | _, _ => []

/-- Every sweep with a place that has not asked for its locks asks for them, in the order of the places. -/
def State.seatSweeps (s : State) : State :=
  (s.places.foldl (fun (s : State) w =>
    if s.pad.asks.any (fun a => a.who == .item w.item.id) then s
    else s.askLocks (.item w.item.id) (s.sweepTiles w)) s).reportSweeps

/-- The sweep of an item has left its place: its locks are released, and the next sweep obtains the place. -/
def State.dropSweep (s : State) (id : Nat) : State :=
  ({ s with pad := { s.pad with sweeps := s.pad.sweeps.filter (fun w => w.item.id != id) } }.freeLocks
    (fun l => l == Locker.item id)).seatSweeps

/-- PAD holds nothing for item `id` any more: no sweep, no wait, no lock. -/
def State.leavePad (s : State) (id : Nat) : State :=
  if s.pad.sweeps.any (fun w => w.item.id == id) || s.pad.waits.any (fun w => w.item.id == id) then
    { s with pad := { s.pad with waits := s.pad.waits.filter (fun w => w.item.id != id) } }.dropSweep id
  else s

/-- A sweep ends its item without a plan: an epoch item with its plan outcome, an operation with `r`. -/
def State.failSweep (s : State) (it : Item) (st : Status) (o : PlanOutcome) (r : Res) (conflict : Nat) : State :=
  let s := s.dropSweep it.id
  let s := { s with gait := { s.gait with drafts := Sp.drop s.gait.drafts it.id } }
  if it.obs then s.endEpoch it 7 noCell st o conflict else s.finish it 7 st r

/-- A sweep takes its turn for a place (R230), after causes 1 to 3. -/
def State.enqueueSweep (s : State) (it : Item) (q : SweepReq) (len : Option Nat) : State :=
  let c := s.causeBefore q len
  if c ≠ 0 then s.failSweep it (causeStatus c) .failed ⟨0, 0, c⟩ 0
  else if !s.sweepState it.ctx true then s.failSweep it .rejState .failed Res.zero 0
  else { s with pad := { s.pad with sweeps := s.pad.sweeps ++ [Sweep.mk it q s.live] } }.seatSweeps

/-- A GAIT item's profile is committed (R247): what the operation changes takes effect; the plan goes on to the knot
packer with the grace end tick of the commit. -/
def State.gaitCommitted (s : State) (it : Item) (res : Res) : State :=
  match Sp.find s.gait.drafts it.id with
  | none => s
  | some d =>
    let n := it.ctx
    let x := Sp.at s.gait.ctx GaitCtx.reset n
    let x : GaitCtx := match d.track with
      | some tr => { x with track := some tr }
      | none => x
    let x : GaitCtx := if it.obs then x else { x with target := some d.target }
    let x : GaitCtx := match d.datum with
      | some z => if it.obs ∧ x.datum.isNone then x else { x with datum := some z }
      | none => x
    let d := { d with plan := { d.plan with grace := res.r1 / 2 ^ 16 % 2 ^ 14 }, res := res }
    { s with gait := { s.gait with
        ctx := Sp.store s.gait.ctx GaitCtx.reset n x, drafts := Sp.put s.gait.drafts it.id d } }

/-- A commit is complete (R243): a COMMIT is done; a plan goes back to GAIT. -/
def State.commitDone (s : State) (it : Item) (res : Res) : State :=
  if (Sp.find s.gait.drafts it.id).isSome then (s.gaitCommitted it res).passOn it .pack
  else s.finish it 7 .done res

/-- A commit is written: it completes at once, or awaits its partner's acknowledgement of its own record, that of MSEQ
`seq` (R243). -/
def State.committed (s : State) (it : Item) (seq : Nat) (res : Res) : State :=
  let s := s.dropSweep it.id
  if s.param P.PAIR_SYNC_COMMIT = 1 ∧ s.get B.BYL_PAIR_STS_ROLE = 3 then
    if s.mirrorUp ∧ !s.pad.broken then
      { s with pad := { s.pad with sync := s.pad.sync ++ [SyncWait.mk it seq res (Sp.find s.gait.drafts it.id).isSome] } }.reportSweeps
    else s.commitDone it { res with r2 := res.r2 + 2 ^ 31 }
  else s.commitDone it res

/-- The cause of a rejection that a sweep finds once it holds its locks; 0 for none (Table PAD-14). -/
def State.sweepCause (s : State) (q : SweepReq) (n : Nat) (f : Int) (locks : Nat) : Nat :=
  let c := q.causeAfter f locks
  if c = 0 ∧ s.causeState n then 8 else c

/-- The journal entry of a commit is written, not yet finished (R232). -/
def State.openJournal (s : State) (n now pr : Nat) (q : SweepReq) : State :=
  { s with pad := { s.pad with journal := some ⟨n, q, now, pr, false⟩ } }

/-- The journal entry is marked finished. -/
def State.closeJournal (s : State) : State :=
  { s with pad := { s.pad with journal := s.pad.journal.map (fun j => { j with finished := true }) } }

/-- The cells of a commit are written between the writing of its journal entry and its finishing (R231, R232). -/
def State.writeCommit (s : State) (n now pr : Nat) (q : SweepReq) (ws : List CellWrite) : State × List Nat :=
  let (s, keys) := (s.openJournal n now pr q).writeSweep n now ws
  (s.closeJournal, keys)

/-- A journal entry found unfinished as PAD loads is replayed, with the now and the PR it holds (R232). A commit is written
within one command here, so no reset finds one (DESIGN CHOICE, log entry 47). -/
def State.replay (s : State) : State :=
  match s.pad.journal, s.pad.geom with
  | some j, some g =>
    if j.finished then s
    else match Sp.find s.pad.shapes j.ctx with
      | some sh =>
        let f := relTick j.now j.req.first.toNat
        let e := s.evalSweep g j.ctx j.now j.pr f j.req.samples (s.raster g sh j.pr j.req.samples)
        (s.writeSweep j.ctx j.now e.writes).1.closeJournal.parkAt j.ctx j.now
      | none => s.closeJournal
  | _, _ => s

/-- PAD loads (R216): the on-chip directory comes from DRAM, the cache is empty, and an unfinished commit is replayed. -/
def State.padLoad (s : State) : State :=
  { s with pad := { s.pad with dir := s.pad.dirDram, cache := [] } }.replay

/-- The sweep of context `n`, which holds its locks `locks`, is checked and, where clear, committed (R226 to R232). -/
def State.runSweep (s : State) (g : PadGeom) (sh : Shape) (w : Sweep) (locks : List Nat) : State :=
  let n := w.item.ctx
  let now := s.tickNow
  let f := relTick now w.req.first.toNat
  let pr := s.latestPr n
  let r := s.raster g sh pr w.req.samples
  let c := s.sweepCause w.req n f locks.length
  if c ≠ 0 then s.failSweep w.item (causeStatus c) .failed ⟨0, 0, c⟩ 0
  else
    let s := locks.foldl (fun (s : State) t => s.groomAged t) s
    let e := s.evalSweep g n now pr f w.req.samples r
    let s := s.count Reg.PAD_CNT_SWEEP
    match firstConflict e.conflicts with
    | some k =>
      let s := s.count Reg.PAD_CNT_CONFLICT
      s.failSweep w.item .rejConflict .conflict (k.res now) (k.word now)
    | none =>
      let (s, keys) := s.writeCommit n now pr w.req e.writes
      let s := s.mirror n now pr keys.length (s.cellsCrc keys) w.req.seq.toNat (.commit w.req)
      let seq := s.pad.mseq
      let res := s.commitRes now keys.length locks.length w.req
      (s.parkAt n now).committed w.item seq res

/-- A sweep that holds its locks looks at its lock set again, with the PR of its latch: where that reaches a tile it has
not locked, it releases its locks and asks for those of the present set (DEDUCED, log entry 47). -/
def State.latchSweep (s : State) (g : PadGeom) (sh : Shape) (w : Sweep) : State :=
  let locks := s.sweepTiles w
  let got := (s.pad.asks.find? (fun a => a.who == .item w.item.id)).map LockReq.tiles |>.getD []
  if locks.all (fun t => got.contains t) then s.runSweep g sh w locks
  else (s.freeLocks (fun l => l == .item w.item.id)).seatSweeps

/-- A sweep has read a bad cell word: its item fails at the region and cell where the error was first detected (R206). -/
def State.poisonSweep (s : State) (it : Item) (o : Nat × Nat) : State :=
  let s := s.dropSweep it.id
  let s := { s with gait := { s.gait with drafts := Sp.drop s.gait.drafts it.id } }
  if it.obs then s.endEpoch it o.1 o.2 .failPoison .failed 0 else s.finishAt it o.1 o.2 .failPoison Res.zero

/-- SWEEP_LOCKS_HELD: one of the four sweeps with places, which holds all its locks, checks and commits (R222, R230);
`bad` where a cell word it reads fails (R206). -/
def execSweepLocksHeld (t : Nat) (id : Nat) (bad : Option BadCell) (s : State) : Out State :=
  let s := s.to t
  match s.places.find? (fun w => w.item.id == id) with
  | none => ok s
  | some w =>
    if !s.runs 7 blkSweeper ∨ !s.holdsLocks (.item id) then ok s
    else if !s.sweepState w.item.ctx true then ok (s.failSweep w.item .rejState .failed Res.zero 0)
    else match s.pad.geom, Sp.find s.pad.shapes w.item.ctx with
      | some g, some sh => ok (s.readCellsOr bad (fun s o => s.poisonSweep w.item o)
        (fun s => s.under w.live (fun s => s.latchSweep g sh w)))
      | _, _ => ok s

/-- COMMIT (R219, R222): causes 1 and 2 come with the range checks, cause 3 with the expiry check of Table HIF-4, each
with its number in RESULT_2[3:0]. `raw` is the request's buffer (R221). -/
def execPadCommit (t : Nat) (it : Item) (raw : List Byte) (s : State) : Out State :=
  let s := s.to t
  let req := SweepReq.ofBytes raw
  let c := s.causeBefore req (some it.d.len.toNat)
  let acts := decide (it.d.when_.toNat ≤ s.devNs)
  if s.up 7 ∧ !s.barred it ∧ it.ctx ≠ 0 ∧ !s.tooFar it.d.when_.toNat ∧ (c = 1 ∨ (c = 2 ∧ acts)) then
    ok (s.finish it 7 .rejRange ⟨0, 0, c⟩)
  else
    ok (s.runOp 7 it (fun i => .padCommit t i raw) { Checks.pass with range := it.d.context != 0, state := s.sweepState it.ctx true }
      (fun s it => s.enqueueSweep it req (some it.d.len.toNat)))

/-! ### WHAT_IF (R236) -/

/-- What a candidate comes to: STATUS, REASON, OWNER, TICK, COST, CELLS of Table PAD-21. -/
structure Guess where
  status : Nat
  reason : Nat
  owner  : Nat
  tick   : Nat
  cost   : Nat
  cells  : Nat
  deriving DecidableEq, Repr

/-- Evaluate one candidate: checked as a COMMIT would be, without check 8, locks and writes. Fields of the record that
have no content for its status are free values. -/
def State.guess (s : State) (g : PadGeom) (sh : Shape) (n : Nat) (q : SweepReq) : Guess :=
  let now := s.tickNow
  let f := relTick now q.first.toNat
  let pr := s.latestPr n
  let free := s.freeVal.toNat
  let c := s.causeBefore q none
  let r := s.raster g sh pr q.samples
  let c := if c = 0 then q.causeAfter f (s.lockSet g n r).length else c
  if c ≠ 0 then ⟨2, c, free % 2 ^ 8, free / 2 ^ 8 % 2 ^ 14, satMax, free / 2 ^ 32⟩
  else
    let e := s.evalSweep g n now pr f q.samples r
    match firstConflict e.conflicts with
    | some k => ⟨1, k.reason, k.owner, (tickAt now k.at_).toNat, satMax, e.cells⟩
    | none =>
      ⟨0, free % 2 ^ 8, free / 2 ^ 8 % 2 ^ 8, free / 2 ^ 16 % 2 ^ 14,
        (q.samples.length - 1 + s.param P.NEAR_W * e.near) % 2 ^ 32, e.cells⟩

/-- The record of a candidate (Table PAD-21). -/
def Guess.bytes (x : Guess) (q : SweepReq) : List Byte :=
  leBytes 1 x.status ++ leBytes 1 x.reason ++ leBytes 1 x.owner ++ leBytes 1 0 ++ leBytes 2 x.tick
    ++ leBytes 2 ((q.first.toNat + q.nsamp.toNat + 16383) % 16384) ++ leBytes 4 x.cost ++ leBytes 4 x.cells

/-- The tiles that a candidate of WHAT_IF locks: none where it fails before its locks. -/
def State.guessLocks (s : State) (g : PadGeom) (sh : Shape) (n : Nat) (q : SweepReq) : List Nat :=
  if s.causeBefore q none = 0 then s.lockSet g n (s.raster g sh (s.latestPr n) q.samples) else []

/-- Evaluate the candidates in order, each with the free value of its own. -/
def State.guesses (s : State) (g : PadGeom) (sh : Shape) (n : Nat) (qs : List SweepReq) : State × List Guess :=
  match qs with
  | [] => (s, [])
  | q :: r =>
    let s := (s.guessLocks g sh n q).foldl (fun (s : State) t => s.groomAged t) s
    let x := s.guess g sh n q
    let p := (s.tookFree).guesses g sh n r
    (p.1, x :: p.2)

/-- The CLEAR candidate of lowest cost, lower index first; 0xFF where none is clear. -/
def bestGuess (k : Nat) (l : List Guess) (best : Nat × Nat) : Nat :=
  match l with
  | [] => best.1
  | x :: r => bestGuess (k + 1) r (if x.status = 0 ∧ (best.1 = 0xFF ∨ x.cost < best.2) then (k, x.cost) else best)

/-- WHAT_IF evaluates its candidates, writes a result for each to host memory, and completes with the best. -/
def State.answerGuesses (s : State) (it : Item) (g : PadGeom) (sh : Shape) (cands : List SweepReq) : State :=
  let p := s.guesses g sh it.ctx cands
  let s := p.1.writeHost it.d.arg0.toNat ((p.2.zip cands).map (fun p => p.1.bytes p.2)).flatten
  let s := s.countBy Reg.PAD_CNT_WHATIF cands.length
  let clear := (p.2.filter (fun x => x.status == 0)).length
  s.finish it 7 .done ⟨bestGuess 0 p.2 (0xFF, 0) + clear * 2 ^ 8, 0, 0⟩

/-- WHAT_IF (R236): `raw` is the candidate set; `bad` where a word read fails. -/
def execWhatIf (t : Nat) (it : Item) (raw : List Byte) (bad : Option BadCell) (s : State) : Out State :=
  let s := s.to t
  let ncand := leAt raw 0 1
  let cands := candsOf ncand (raw.drop 16)
  let need := 16 + (cands.map (fun q => 16 + 12 * q.nsamp.toNat)).sum
  ok (s.runOp 7 it (fun i => .whatIf t i raw bad)
    { Checks.pass with
      range := it.d.context != 0 && 1 ≤ ncand && ncand ≤ 16 && need ≤ it.d.len.toNat
      state := s.sweepState it.ctx true }
    (fun s it =>
      match s.pad.geom, Sp.find s.pad.shapes it.ctx with
      | some g, some sh =>
        s.readCells it bad (fun s => s.answerGuesses it g sh cands)
      | _, _ => s.finish it 7 .rejState))

/-! ### RELEASE and SET_SHAPE (R220, R237) -/

/-- RELEASE (R237): it acts under the locks of the tiles that hold its slots; `bad` where a word read fails. -/
def execPadRelease (t : Nat) (it : Item) (bad : Option BadCell) (s : State) : Out State :=
  let s := s.to t
  ok (s.runOp 7 it (fun i => .padRelease t i bad)
    { Checks.pass with range := it.d.context != 0, state := s.sweepState it.ctx false }
    (fun s it => s.waitLocks it bad))

/-- Set a context's shape. -/
def State.setShape (s : State) (n : Nat) (x : ShapeRec) : State :=
  let sh : Shape := ⟨x.vertices, x.clear.toNat, x.cap.toNat⟩
  { s with pad := { s.pad with shapes := Sp.put s.pad.shapes n sh } }.reportPad n

/-- SET_SHAPE (R220): `raw` is the shape record. -/
def execSetShape (t : Nat) (it : Item) (raw : List Byte) (s : State) : Out State :=
  let s := s.to t
  let x := ShapeRec.ofBytes raw
  ok (s.runOp 7 it (fun i => .setShape t i raw)
    { Checks.pass with range := it.d.context != 0 && it.d.len == 40 && x.legal, state := s.sweepState it.ctx false }
    (fun s it =>
      let s := s.setShape it.ctx x
      (s.mirror it.ctx s.tickNow 0 0 0 0 (.shape x)).finish it 7 .done))

end Sys2Proof.Machine
end

