-- ==== Sys2Proof/Machine/Disc.lean ====
section
/-!
DEFINITION. Uncertainty discs and the renewal of parked ground (R233, R238 to R241).
-/

namespace Sys2Proof.Machine

/-- Cells of the square around a disc's capped radius. -/
def PadGeom.discCells (g : PadGeom) (d : Disc) : List Cell :=
  let r : Int := (d.cap : Int)
  let (x, y) := d.centre
  (g.cells [(x - r, y - r), (x + r, y - r), (x + r, y + r), (x - r, y + r)]).filter (fun c =>
    g.has c && decide (g.dist2 d.centre c ≤ d.cap * d.cap))

/-- Contexts other than `n` that hold a live PLANNED slot within its disc during its times (R240). -/
def State.discMeets (s : State) (g : PadGeom) (n : Nat) (d : Disc) : List Nat :=
  (s.pad.slots.map (fun (p : Nat × Slots) =>
    p.2.list.filterMap (fun x =>
      if x.owner.toNat ≠ n ∧ !x.kind ∧ s.liveIn (p.1 / 4096) x then
        match s.discTime g d (g.cellAt p.1) with
        | some td => if td < relTick s.tickNow x.stop.toNat then some x.owner.toNat else none
        | none => none
      else none))).flatten.eraseDups

/-- Post DISC_OVERLAP where some other context's plan lies within the disc (R240). -/
def State.discOverlap (s : State) (n : Nat) : State :=
  match s.pad.geom, Sp.find s.pad.discs n with
  | some g, some d =>
    let k := (s.discMeets g n d).length
    if k = 0 then s else s.padEvent 2 n k
  | _, _ => s

/-- The UNCERTAIN slots of a disc that has ended are freed, and DISC_END is posted (R240). -/
def State.endDisc (s : State) (n : Nat) : State :=
  let s := s.freeSlots n Slot.kind
  let s := { s with pad := { s.pad with ending := s.pad.ending.filter (· != n) } }
  (s.padEvent 3 n 0).reportPad n

/-- The disc of a context as its shape, latest position and limits give it (R238). A context without limits has v_max and
a_max 0; one without a shape or a FIX item not in state NONE has no disc (DEDUCED, log entry 32). -/
def State.discFor (s : State) (n : Nat) : Option Disc :=
  match Sp.find s.pad.shapes n, (Sp.at s.fix.ctx FixCtx.reset n).lastPos with
  | some sh, some r =>
    let r0 := sh.radius + (sh.clear + r.pr.toNat) * 2 ^ 20
    let (v, a) := match (Sp.at s.gait.ctx GaitCtx.reset n).limits with
      | some l => (l.vMax, l.aMax)
      | none => (0, 0)
    some ⟨r.e.toInt, r.n.toInt, devOfGps r.epoch.toNat, r0, v, a, max (sh.cap * 2 ^ 20) r0⟩
  | _, _ => none

/-- A disc as the active mirrors it: v_max and a_max are those of the mirrored limits, DISC_CAP that of the mirrored shape
(R491). -/
def State.mirroredDisc (s : State) (n : Nat) (e u : BitVec 32) (t0 r0 : Nat) : Disc :=
  let (v, a) := match (Sp.at s.gait.ctx GaitCtx.reset n).limits with
    | some l => (l.vMax, l.aMax)
    | none => (0, 0)
  let cap := match Sp.find s.pad.shapes n with | some sh => sh.cap | none => 0
  ⟨e.toInt, u.toInt, t0, r0, v, a, max (cap * 2 ^ 20) r0⟩

/-- Open a context's disc (R238): AIR has declared it DARK or LOST_ASLEEP, or a takeover calls for it (R499). -/
def State.discOpen (s : State) (n : Nat) : State :=
  match s.discFor n with
  | none => s
  | some d =>
    let s := if s.pad.ending.contains n then s.endDisc n else s
    let s := { s with pad := { s.pad with discs := Sp.put s.pad.discs n d } }
    ((s.mirror n s.tickNow 0 0 0 0 (.discOpen (BitVec.ofInt 32 d.e) (BitVec.ofInt 32 d.n) d.t0 d.r0)).discOverlap n).reportPad n

/-- Where the disc writer puts an UNCERTAIN slot: the context's UNCERTAIN slot, else a free one; its live PLANNED slot
stays as it was. -/
def Slots.discSlot (x : Slots) (n now : Nat) : Option Nat :=
  match [0, 1, 2].find? (fun k => match x.list[k]? with
    | some y => y.owner.toNat == n && y.live now && y.kind
    | none => false) with
  | some k => some k
  | none => x.spare now

/-- Write one cell of a disc (R239). -/
def State.discCell (s : State) (g : PadGeom) (n : Nat) (d : Disc) (c : Cell) : State :=
  let now := s.tickNow
  let k := g.key c
  match s.discTime g d c with
  | none => s
  | some td =>
    if 6000 ≤ td then s
    else match (s.slotsOf k).discSlot n now with
      | none => s.count Reg.PAD_CNT_DISC_NOSLOT
      | some j => s.setSlots k ((s.slotsOf k).set j ⟨BitVec.ofNat 8 n, tickAt now (max td 0), tickAt now 6000, true⟩)

/-- The disc writer writes the cells of a disc in tile `k`; a bad cell word it meets is repaired first. -/
def State.writeDisc (s : State) (g : PadGeom) (n : Nat) (d : Disc) (k : Nat) (cs : List Cell) (bad : Option BadCell) :
    State :=
  let s := match bad with | some b => s.repairCell b | none => s
  let s := s.groomAged k
  (cs.foldl (fun (s : State) c => s.discCell g n d c) s).noteWrite k

/-- DISC_WRITE: the disc writer writes the cells of one tile, once it holds the tile's lock (R230, R239). -/
def execDiscWrite (t : Nat) (ctx : BitVec 8) (tile : BitVec 13) (bad : Option BadCell) (s : State) : Out State :=
  let s := s.to t
  let n := ctx.toNat
  let k := tile.toNat
  match s.pad.geom, Sp.find s.pad.discs n with
  | some g, some d =>
    if !s.runs 7 blkSweeper then ok s
    else
      let cs := (g.discCells d).filter (fun c => g.key c / 4096 == k)
      if cs.isEmpty then ok s
      else ok (s.withLocks (.disc n k) [k] (fun s => s.writeDisc g n d k cs bad))
  | _, _ => ok s

/-- A lock of the disc writer for context `n`. -/
def Locker.ofDisc (l : Locker) (n : Nat) : Bool := match l with | .disc m _ => m == n | _ => false

/-- DISC_END: the slots of a disc that has ended are freed under the locks of their tiles, and DISC_END is posted
(R230, R240). -/
def execDiscEnd (t : Nat) (ctx : BitVec 8) (s : State) : Out State :=
  let s := s.to t
  let n := ctx.toNat
  if s.pad.ending.contains n ∧ s.runs 7 blkSweeper then
    let s := s.freeLocks (fun l => l.ofDisc n && (Sp.find s.pad.discs n).isNone)
    ok (s.withLocks (.discEnd n) (tilesOf (s.slotCells n Slot.kind)) (fun s => s.endDisc n))
  else ok s

/-- A slot renewed (R233): START no earlier than now, END at now + 6,000. -/
def renewSlot (now : Nat) (y : Slot) : Slot :=
  { y with start := if relTick now y.start.toNat < 0 then tickAt now 0 else y.start, stop := tickAt now 6000 }

/-- Renew the live slots of context `n` of which `sel` holds; a tile of age 4,000 or more is groomed first (R208). -/
def State.renewSlots (s : State) (n : Nat) (sel : Slot → Bool) : State :=
  let now := s.tickNow
  let hit := s.slotCells n sel
  let s := (tilesOf hit).foldl (fun (q : State) t => q.groomAged t) s
  let s' := (s.slotCells n sel).foldl (fun (q : State) (p : Nat × Slots) => q.setSlots p.1 (p.2.map (fun x =>
    if s.isHeld n sel p.1 x then renewSlot now x else x))) s
  let s' := (tilesOf hit).foldl (fun (q : State) t => q.noteWrite t) s'
  if hit.isEmpty then s' else s'.count Reg.PAD_CNT_RENEW

/-- The END of context `n`'s parked cells lies 5,100 ticks away or less (R233). -/
def State.parkDue (s : State) (n : Nat) : Bool :=
  match Sp.find s.pad.parks n with
  | some stop => decide (relTick s.tickNow stop ≤ 5100)
  | none => false

/-- A PLANNED slot that ends with the park of context `n`. -/
def State.parked (s : State) (n : Nat) (x : Slot) : Bool := !x.kind && x.stop.toNat == Sp.at s.pad.parks 0 n

/-- An UNCERTAIN slot that ends 5,100 ticks away or less (R239). -/
def State.discDue (s : State) (x : Slot) : Bool := x.kind && decide (relTick s.tickNow x.stop.toNat ≤ 5100)

/-- The slots of context `n` that are to be renewed. -/
def State.renewable (s : State) (n : Nat) (x : Slot) : Bool :=
  (s.parkDue n && s.parked n x) || ((Sp.find s.pad.discs n).isSome && s.discDue x)

/-- Renew the parked cells of a context where they are due. -/
def State.renewPark (s : State) (n : Nat) : State :=
  if s.parkDue n then
    let s := s.renewSlots n (s.parked n)
    { s with pad := { s.pad with parks := Sp.put s.pad.parks n (tickAt s.tickNow 6000).toNat } }.reportPad n
  else s

/-- Renew the UNCERTAIN slots of a disc likewise (R239), and count the plans within it (R240). -/
def State.renewDisc (s : State) (n : Nat) : State :=
  if (Sp.find s.pad.discs n).isSome ∧ !(s.slotCells n s.discDue).isEmpty then (s.renewSlots n s.discDue).discOverlap n
  else s

/-- A second of ticks has passed since parks and discs were renewed. -/
def State.renewDue (s : State) : Bool := 100 ≤ idxDiff s.tickAbs s.pad.renewed

/-- Every context whose park or disc is due asks for the locks of its tiles. -/
def State.askRenewals (s : State) : State :=
  let s := { s with pad := { s.pad with renewed := s.tickAbs } }
  (s.pad.parks.map Prod.fst ++ s.pad.discs.map Prod.fst).foldl (fun (s : State) n =>
    let hit := s.slotCells n (s.renewable n)
    if s.parkDue n ∨ !hit.isEmpty then s.askLocks (.renew n) (tilesOf hit) else s) s

/-- Context `n` is renewed once the locks it has asked for are held. -/
def State.runRenewal (s : State) (n : Nat) : State :=
  if s.holdsLocks (.renew n) then ((s.renewPark n).renewDisc n).freeLocks (fun l => l == .renew n) else s

/-- The contexts whose renewal has asked for locks. -/
def State.renewing (s : State) : List Nat :=
  s.pad.asks.filterMap (fun a => match a.who with | .renew n => some n | _ => none)

/-- PARK_RENEWAL: every 100 ticks (R233); a renewal whose tiles are locked waits for them, and is made when the command
comes again. `bad` where a cell word it reads fails. -/
def execParkRenewal (t : Nat) (bad : Option BadCell) (s : State) : Out State :=
  let s := s.to t
  if !s.runs 7 blkGroom ∨ !s.mapValid then ok s
  else
    let s := match bad with | some b => s.repairCell b | none => s
    let s := if s.renewDue then s.askRenewals else s
    ok (s.renewing.foldl (fun (s : State) n => s.runRenewal n) s)

end Sys2Proof.Machine
end

