-- ==== Sys2Proof/Machine/Filter.lean ====
section
/-!
DEFINITION. The arithmetic of a filter of the fleet fix solver (R147, R151, R153, R156, R171): states with their covariance
under linear maps and measurements, and the ambiguities among them.
-/

namespace Sys2Proof.Machine

/-! ### Signals -/

/-- A satellite as one number: 64 × system + PRN. -/
def satId (sys prn : Nat) : Nat := 64 * sys + prn

/-- A signal as one number: 512 × system + 8 × PRN + signal. -/
def sigId (sys prn sig : Nat) : Nat := 512 * sys + 8 * prn + sig

/-- The satellite of a signal. -/
def satOf (id : Nat) : Nat := satId (id / 512) (id / 8 % 64)

/-- The group of a signal id: its signal code, one for each system and band. -/
def groupOf (id : Nat) : Nat := id % 8

/-- The wavelength of a signal in m: 0.190293673 in the L1 band, 0.254828049 in the L5 band (R142). -/
def waveOf (sig : Nat) : Fx := fxOf (if sig % 2 = 0 then 190293673 else 254828049) (10 ^ 9)

/-! ### States with their covariance -/

/-- Where a state stands. -/
def Gauss.at (g : Gauss) (k : Nat) : Option Nat := g.keys.findIdx? (· == k)

/-- A state's value; 0 where it is not held. -/
def Gauss.val (g : Gauss) (k : Nat) : Fx :=
  match g.at k with
  | some i => g.x[i]?.getD 0
  | none => 0

/-- The covariance of two states. -/
def Gauss.cov (g : Gauss) (k l : Nat) : Fx :=
  match g.at k, g.at l with
  | some i, some j => (g.p[i]?.getD [])[j]?.getD 0
  | _, _ => 0

/-- The states of a linear map: each new key with the old keys it is made of and their coefficients. -/
def Gauss.linear (g : Gauss) (rows : List (Nat × List (Nat × Fx))) : Gauss where
  keys := rows.map Prod.fst
  x := rows.map (fun r => sumInt (r.2.map (fun c => fxMul c.2 (g.val c.1))))
  p := rows.map (fun r => rows.map (fun q =>
    sumInt ((r.2.map (fun c => q.2.map (fun d => fxMul (fxMul c.2 d.2) (g.cov c.1 d.1)))).flatten)))

/-- A state that stays as it is under a linear map. -/
def stays (k : Nat) : Nat × List (Nat × Fx) := (k, [(k, fxOne)])

/-- Only the states whose key satisfies `f`. -/
def Gauss.keep (g : Gauss) (f : Nat → Bool) : Gauss := g.linear ((g.keys.filter f).map stays)

/-- A state starts, or starts again: value and variance, no covariance with the others. -/
def Gauss.start (g : Gauss) (k : Nat) (v var : Fx) : Gauss :=
  let g := g.keep (· != k)
  ⟨g.keys ++ [k], g.x ++ [v], g.p.map (· ++ [0]) ++ [g.keys.map (fun _ => 0) ++ [var]]⟩

/-- The covariance of every pair of states becomes `f` of it. -/
def Gauss.mapCov (g : Gauss) (f : Nat → Nat → Fx → Fx) : Gauss :=
  { g with p := (g.keys.zip g.p).map (fun r => (g.keys.zip r.2).map (fun c => f r.1 c.1 c.2)) }

/-- A state's variance is set. -/
def Gauss.setVar (g : Gauss) (k : Nat) (var : Fx) : Gauss :=
  g.mapCov (fun i j v => if i = k ∧ j = k then var else v)

/-- The innovation of a measurement `z` of the row `h` with variance `r`, and its variance H P Hᵀ + R (R171). -/
def Gauss.innov (g : Gauss) (h : List (Nat × Fx)) (z r : Fx) : Fx × Fx :=
  (z - sumInt (h.map (fun c => fxMul c.2 (g.val c.1))),
    r + sumInt ((h.map (fun c => h.map (fun d => fxMul (fxMul c.2 d.2) (g.cov c.1 d.1)))).flatten))

/-- The states after the measurement `z` of the row `h` with variance `r` (R151). -/
def Gauss.update (g : Gauss) (h : List (Nat × Fx)) (z r : Fx) : Gauss :=
  let (nu, var) := g.innov h z r
  let ph := g.keys.map (fun k => sumInt (h.map (fun c => fxMul c.2 (g.cov k c.1))))
  { g with
    x := (g.x.zip ph).map (fun a => a.1 + a.2 * nu / var)
    p := (g.p.zip ph).map (fun a => (a.1.zip ph).map (fun b => b.1 - a.2 * b.2 / var)) }

/-! ### Position and velocity (R151) -/

/-- The filter holds a position. -/
def Filter.hasPos (f : Filter) : Bool := f.g.keys.contains 0

/-- The position r. -/
def Filter.pos (f : Filter) : Vec := ⟨f.g.val 0, f.g.val 1, f.g.val 2⟩

/-- The velocity v. -/
def Filter.vel (f : Filter) : Vec := ⟨f.g.val 3, f.g.val 4, f.g.val 5⟩

/-- The components of a vector. -/
def Vec.toList (v : Vec) : List Fx := [v.x, v.y, v.z]

/-- A filter without a position takes the code solution's (DESIGN CHOICE, log entry 122). -/
def Filter.startAt (f : Filter) (c : CodeSol) : Filter :=
  let q := c.cov
  let m (v : Int) : Fx := fxOf v (10 ^ 6)
  let row (a b d : Int) : List Fx := [m a, m b, m d, 0, 0, 0]
  let vrow (k : Nat) : List Fx := (List.range 6).map (fun j => if j = k then m c.velVar else 0)
  { f with g := {
      keys := [0, 1, 2, 3, 4, 5]
      x := (Vec.ofTenths c.x c.y c.z).toList ++ (Vec.ofTenths c.vx c.vy c.vz).toList
      p := [row q.1 q.2.1 q.2.2.1, row q.2.1 q.2.2.2.1 q.2.2.2.2.1, row q.2.2.1 q.2.2.2.2.1 q.2.2.2.2.2,
        vrow 3, vrow 4, vrow 5] }
           amb := [], pivots := [] }

/-- White acceleration noise with spectral density `qh` east and north and `qv` up, in ECEF. -/
def accelNoise (a : Axes) (qh qv : Fx) (i j : Nat) : Fx :=
  let c (v : Vec) (k : Nat) : Fx := v.toList[k]?.getD 0
  fxMul qh (fxMul (c a.east i) (c a.east j) + fxMul (c a.north i) (c a.north j)) + fxMul qv (fxMul (c a.up i) (c a.up j))

/-- The time update over `dt` ns: r ← r + v Δt and the noise of the acceleration. -/
def Filter.timeUpdate (f : Filter) (dt : Nat) (qh qv : Fx) : Filter :=
  if !f.hasPos ∨ dt = 0 then f
  else
    let d := fxOf dt (10 ^ 9)
    let a := axesAt f.pos
    let rows := f.g.keys.map (fun k => if k < 3 then (k, [(k, fxOne), (k + 3, d)]) else stays k)
    let noise (i j : Nat) : Fx :=
      if 6 ≤ i ∨ 6 ≤ j then 0
      else
        let q := accelNoise a qh qv (i % 3) (j % 3)
        if i < 3 ∧ j < 3 then fxMul q (fxMul d (fxMul d d)) / 3
        else if 3 ≤ i ∧ 3 ≤ j then fxMul q d
        else fxMul q (fxMul d d) / 2
    { f with g := (f.g.linear rows).mapCov (fun i j v => v + noise i j) }

/-- The filter's position moves with its reference (R159); one that has no reference takes it. -/
def Filter.toRef (f : Filter) (ref : Int × Int × Int) : Filter :=
  match f.ref with
  | some o =>
    let step := (Vec.sub (Vec.ofTenths ref.1 ref.2.1 ref.2.2) (Vec.ofTenths o.1 o.2.1 o.2.2)).toList
    { f with
      ref := some ref
      g := { f.g with x := (f.g.keys.zip f.g.x).map (fun a => if a.1 < 3 then a.2 + step[a.1]?.getD 0 else a.2) } }
  | none => { f with ref := some ref }

/-! ### Ambiguities -/

/-- The key of an ambiguity's state. -/
def ambKey (id : Nat) : Nat := 6 + id

/-- The ambiguity of a signal. -/
def Filter.ambOf? (f : Filter) (id : Nat) : Option AmbState := f.amb.find? (fun a => a.sig == id)

/-- Only the ambiguities that satisfy `p` (R151). -/
def Filter.keepAmb (f : Filter) (p : Nat → Bool) : Filter :=
  { f with amb := f.amb.filter (fun a => p a.sig), g := f.g.keep (fun k => k < 6 || p (k - 6)) }

/-- How many integers are fixed. -/
def Filter.nfix (f : Filter) : Nat := (f.amb.filter AmbState.fixed).length

/-- An ambiguity starts, or starts again (R151). -/
def Filter.restart (f : Filter) (id : Nat) (elev : Int) (v var : Fx) : Filter :=
  { f with
    g := f.g.start (ambKey id) v var
    amb := f.amb.filter (fun a => a.sig != id) ++ [⟨id, false, false, elev⟩] }

/-- The pivot of a group changes from `p` to `q` (R151): every N_jp becomes N_jp − N_qp, and `p` takes −N_qp. An integer
stays fixed where N_qp is fixed too (DEDUCED, log entry 132). Where the filter holds no ambiguity of `q` the group keeps
none. -/
def Filter.repivot (f : Filter) (grp p q : Nat) : Filter :=
  let f' := { f with pivots := Sp.put f.pivots grp q }
  match f.ambOf? q with
  | none => f'.keepAmb (fun id => groupOf id != grp)
  | some b =>
    let minus : Fx := -fxOne
    let row (k : Nat) : Nat × List (Nat × Fx) :=
      if k < 6 ∨ groupOf (k - 6) ≠ grp then stays k
      else if k = ambKey q then (ambKey p, [(ambKey q, minus)])
      else (k, [(k, fxOne), (ambKey q, minus)])
    { f' with
      g := f.g.linear (f.g.keys.map row)
      amb := f.amb.map (fun a =>
        if a.sig = q then { a with sig := p }
        else if groupOf a.sig = grp then { a with fixed := a.fixed && b.fixed, stale := a.stale || b.stale }
        else a) }

/-- Integers are released (R156): those that `p` names become float with variance `var`. -/
def Filter.release (f : Filter) (p : Nat → Bool) (var : Fx) : Filter :=
  let out := (f.amb.filter (fun a => a.fixed && p a.sig)).map AmbState.sig
  { f with
    g := f.g.mapCov (fun i j v => if i = j ∧ 6 ≤ i ∧ out.contains (i - 6) then var else v)
    amb := f.amb.map (fun a => if out.contains a.sig then { a with fixed := false } else a) }

/-- No ambiguity of a satellite is kept; a pivot among its signals is replaced by the signal of highest elevation of its
group (R176). -/
def Filter.dropSat (f : Filter) (sat : Nat) : Filter :=
  let swap (f : Filter) (x : Nat × Nat) : Filter :=
    if satOf x.2 ≠ sat then f
    else
      let l := f.amb.filter (fun a => groupOf a.sig == x.1 && satOf a.sig != sat)
      match sortBy (fun (a b : AmbState) => decide (b.elev ≤ a.elev)) l with
      | a :: _ => f.repivot x.1 x.2 a.sig
      | [] => { f.keepAmb (fun id => groupOf id != x.1) with pivots := Sp.drop f.pivots x.1 }
  (f.pivots.foldl swap f).keepAmb (fun id => satOf id != sat)

/-- The float ambiguities, highest elevation first. -/
def Filter.floats (f : Filter) : List Nat :=
  (sortBy (fun (a b : AmbState) => decide (b.elev < a.elev) || (decide (b.elev = a.elev) && a.sig ≤ b.sig))
    (f.amb.filter (fun a => !a.fixed && !a.stale))).map AmbState.sig

/-- q(z) of a set of ambiguities at the integers `z` (R153). -/
def Gauss.distance (g : Gauss) (l : List (Nat × Int)) : Fx :=
  match l with
  | [] => 0
  | a :: r =>
    let h := [(ambKey a.1, fxOne)]
    let (nu, var) := g.innov h (a.2 * fxOne) 0
    nu * nu / var + (g.update h (a.2 * fxOne) 0).distance r

/-- An accepted set is applied: pseudo-measurements with a variance of 10^-8 cycles² (R153). -/
def Filter.fix (f : Filter) (l : List (Nat × Int)) : Filter :=
  { f with
    g := l.foldl (fun (g : Gauss) a => g.update [(ambKey a.1, fxOne)] (a.2 * fxOne) (fxOf 1 (10 ^ 8))) f.g
    amb := f.amb.map (fun a => if l.any (fun p => p.1 == a.sig) then { a with fixed := true } else a) }

/-! ### The two state buffers (R168) -/

/-- The completed buffer. -/
def FixCtx.filter (x : FixCtx) : Filter := if x.second then x.bufs.2 else x.bufs.1

/-- The buffer that an update writes. -/
def FixCtx.work (x : FixCtx) : Filter := if x.second then x.bufs.1 else x.bufs.2

/-- Write the inactive buffer. -/
def FixCtx.setWork (x : FixCtx) (f : Filter) : FixCtx :=
  { x with bufs := if x.second then (f, x.bufs.2) else (x.bufs.1, f) }

/-- The update completes: the buffers switch. -/
def FixCtx.complete (x : FixCtx) : FixCtx := { x with second := !x.second }

/-- Both buffers change alike. -/
def FixCtx.mapBufs (x : FixCtx) (f : Filter → Filter) : FixCtx := { x with bufs := (f x.bufs.1, f x.bufs.2) }

/-- A satellite's ambiguities are given up in both buffers (R176, R177). -/
def FixCtx.forgetSat (x : FixCtx) (sat : Nat) : FixCtx := x.mapBufs (fun f => f.dropSat sat)

end Sys2Proof.Machine
end

