-- ==== Sys2Proof/Machine/Integ.lean ====
section
/-!
DEFINITION. Fix integrity and the correction streams (R171 to R192): suspect satellites, interference, the clock tests,
the protection radius, RTCM output and the reference monitor.
-/

namespace Sys2Proof.Machine

/-- An integrity event (R185): `sys` and `prn` 0 where it concerns no single satellite. -/
def State.integEvent (s : State) (code sys prn : Nat) : State := s.event .allot 6 code 0 (prn + sys * 256) 0

/-! ### Suspect satellites (R175 to R177) -/

/-- The SUSPECT register of a system. -/
def suspectReg (sys : Nat) : Nat := Reg.FIX_SV_SUSPECT_GPS + 8 * sys

/-- A satellite is SUSPECT. -/
def State.suspect (s : State) (sat : Nat) : Bool := (s.rd64 (suspectReg (sat / 64))).testBit (sat % 64)

/-- The numbers `satId` gives: three systems of 64. -/
def satellites : List Nat := List.range 192

/-- Every SUSPECT satellite, ascending. -/
def State.suspects (s : State) : List Nat := satellites.filter (fun sat => s.suspect sat)

/-- SV_CHANGED: a satellite became SUSPECT or returned. -/
def State.svChanged (s : State) (sat : Nat) : State :=
  let s := s.set B.FIX_INTEG_STS_SUSPECT_SATS s.suspects.length
  (s.setFlag B.FIX_INTEG_STS_SV_CHANGED true).integEvent 1 (sat / 64) (sat % 64)

/-- Mark a satellite SUSPECT (R175, R176). -/
def State.markSuspect (s : State) (sat : Nat) : State :=
  let s := s.wr64 (suspectReg (sat / 64)) (s.rd64 (suspectReg (sat / 64)) ||| 2 ^ (sat % 64))
  (s.count Reg.FIX_CNT_SUSPECT).svChanged sat

/-- A SUSPECT satellite returns to candidacy (R177). -/
def State.clearSuspect (s : State) (sat : Nat) : State :=
  let v := s.rd64 (suspectReg (sat / 64))
  let s := s.wr64 (suspectReg (sat / 64)) (v - (v &&& 2 ^ (sat % 64)))
  let s := { s with fix := { s.fix with
    clean := s.fix.clean.filter (fun p => p.1 != sat)
    ctx := s.fix.ctx.map (fun (p : Nat × FixCtx) => (p.1, p.2.forgetSat sat)) } }
  s.svChanged sat

/-- An instant falls within the second that ends at `epoch`. -/
def withinSecond (epoch at_ : Nat) : Bool := at_ ≤ epoch && epoch < at_ + 10 ^ 9

/-- Distinct contexts that removed a satellite within the second that ends at `epoch`. -/
def State.removers (s : State) (sat epoch : Nat) : Nat :=
  ((s.fix.removals.filter (fun p => p.2.1 == sat && withinSecond epoch p.1)).map (fun p => p.2.2)).eraseDups.length

/-- The entries of a list of instants that fall after the second before `epoch` began. -/
def inSecond {α : Type} (epoch : Nat) (l : List (Nat × α)) : List (Nat × α) := l.filter (fun p => epoch < p.1 + 10 ^ 9)

/-- Satellites that enough contexts removed, and whose base residual was over the limit, within a second become
suspect (R175). -/
def State.markFleet (s : State) (epoch : Nat) : State :=
  let overran := s.fix.overRes
  if s.joinedCtx.length < s.param P.FLEET_N then s
  else satellites.foldl (fun (s : State) (sat : Nat) =>
    if !s.suspect sat ∧ overran.any (fun p => p.2 == sat) ∧ s.param P.FLEET_N ≤ s.removers sat epoch
    then s.markSuspect sat else s) s

/-- A residual, as a magnitude, exceeds BASE_RES_MAX divided by `k`. -/
def State.resOver (s : State) (k : Nat) (r : Fx) : Bool := decide (((s.param P.BASE_RES_MAX : Nat) : Int) * 2 ^ 64 < r * 10 * k)

/-- A suspect satellite is clean while its residuals stay low: since when (R177). -/
def State.noteClean (s : State) (epoch : Nat) (res : List (Nat × Fx)) (sat : Nat) : State :=
  let dirty := res.any (fun p => p.1 == sat && s.resOver 2 p.2) || !res.any (fun p => p.1 == sat)
  let rest := s.fix.clean.filter (fun p => p.1 != sat)
  let since := match s.fix.clean.find? (fun p => p.1 == sat) with | some p => p.2 | none => epoch
  { s with fix := { s.fix with clean := if dirty then rest else rest ++ [(sat, since)] } }

/-- The speed of light in m/s. -/
def lightSpeed : Nat := 299792458

/-- The magnitude of the base's own code residual of a record: the pseudorange less the geometric range from the reference
position, the base clock bias, the satellite clock and the troposphere (R175). -/
def BaseItem.residual (b : BaseItem) (g : BaseSig) (v : SvRange) : Fx :=
  let r := (Vec.sub (Vec.ofTenths v.x v.y v.z) (Vec.ofTenths b.ref.1 b.ref.2.1 b.ref.2.2)).len
  let d := fxOf g.pr.toNat 1024 - r - fxOf (b.bias * lightSpeed) (10 ^ 12) - fxOf v.corr 10000
  (d.natAbs : Nat)

/-- The residuals of an epoch by satellite, of the signal of the larger magnitude; none without a valid reference. -/
def BaseItem.residuals (b : BaseItem) (sats : List SvRange) : List (Nat × Fx) :=
  if !b.refValid then []
  else sats.filterMap (fun v =>
    match b.sigs.filter (fun g => g.sys == v.sys && g.prn == v.prn) with
    | [] => none
    | l => some (satId v.sys v.prn, (l.map (fun g => b.residual g v)).foldl (fun m r => max m r) 0))

/-- The fleet test of a base epoch: residuals over BASE_RES_MAX are kept, and a satellite is marked SUSPECT under R175.
Clean time of SUSPECT satellites runs while the residual stays at or below half the limit (R177). -/
def State.fleetTest (s : State) (b : BaseItem) (sats : List SvRange) : State :=
  let res := b.residuals sats
  let overran : List (Nat × Nat) := inSecond b.epoch s.fix.overRes
    ++ res.filterMap (fun p => if s.resOver 1 p.2 then some (b.epoch, p.1) else none)
  let s : State := { s with fix := { s.fix with overRes := overran, removals := inSecond b.epoch s.fix.removals } }
  let s := s.markFleet b.epoch
  s.suspects.foldl (fun (s : State) (sat : Nat) => s.noteClean b.epoch res sat) s

/-- SV_SUSPECT_CLEAR: a SUSPECT satellite clean for SV_CLEAR_S returns (R177); the last base epoch measures the time. -/
def execSvSuspectClear (t : Nat) (sat : Fin 192) (s : State) : Out State :=
  let s := s.to t
  let now := match s.gnb.history.getLast? with | some b => b.epoch | none => 0
  match s.fix.clean.find? (fun p => p.1 == sat.val) with
  | some p =>
    if s.suspect sat.val ∧ p.2 + s.param P.SV_CLEAR_S * 10 ^ 9 ≤ now then ok (s.clearSuspect sat.val) else ok s
  | none => ok s

/-- SV_CLEAR_ALL: a write of FIX_INTEG_CMD returns every SUSPECT satellite (R177). -/
def execSvClearAll (t : Nat) (rq : Requester) (s : State) : Out State :=
  ok ((s.to t).access rq Reg.FIX_INTEG_CMD true (fun s => s.suspects.foldl (fun s sat => s.clearSuspect sat) s))

/-! ### Interference (R179) -/

/-- A condition of R179 occurs: INTERFERENCE is set, or its hold starts again. -/
def State.interfere (s : State) : State :=
  let s' := { s with fix := { s.fix with interfAt := s.cyc } }
  if s.flag B.FIX_INTEG_STS_INTERFERENCE then s' else (s'.setFlag B.FIX_INTEG_STS_INTERFERENCE true).integEvent 2 0 0

/-- The C/N0 of a station's signals at an epoch, each a band and a C/N0 in 0.25 dB-Hz; `n` is the context, 0 the base. The
last 61 s are kept (R179). -/
def State.noteCn0 (s : State) (n epoch : Nat) (l : List (Nat × Nat)) : State :=
  [0, 1].foldl (fun (s : State) (band : Nat) =>
    let mine := (l.filter (fun p => p.1 == band)).map Prod.snd
    let old := (Sp.at s.fix.cn0 [] (2 * n + band)).filter (fun p => epoch < p.1 + 61 * 10 ^ 9)
    if mine.isEmpty then s
    else { s with fix := { s.fix with
      cn0 := Sp.put s.fix.cn0 (2 * n + band) (old ++ [(epoch, mine.sum, mine.length)]) } }) s

/-- A station's mean C/N0 on a band over the last second lies CN0_DROP or more below its mean over the 60 s before. -/
def State.cn0Dropped (s : State) (now n band : Nat) : Bool :=
  let l := Sp.at s.fix.cn0 [] (2 * n + band)
  let a := l.filter (fun p => p.1 ≤ now && now < p.1 + 10 ^ 9)
  let b := l.filter (fun p => p.1 + 10 ^ 9 ≤ now && now < p.1 + 61 * 10 ^ 9)
  let sum (l : List (Nat × Nat × Nat)) : Nat := (l.map (fun p => p.2.1)).sum
  let num (l : List (Nat × Nat × Nat)) : Nat := (l.map (fun p => p.2.2)).sum
  !a.isEmpty && !b.isEmpty && (sum a + 4 * s.param P.CN0_DROP * num a) * num b ≤ sum b * num a

/-- The base and FLEET_N contexts show the drop on one band. -/
def State.cn0Falls (s : State) : Bool :=
  let now := gpsOf s.devNs
  [0, 1].any (fun band => s.cn0Dropped now 0 band
    && s.param P.FLEET_N ≤ (s.joinedCtx.filter (fun n => s.cn0Dropped now n band)).length)

/-- INTERFERENCE_CHANGE: the C/N0 condition of R179 holds now, or its hold ends. -/
def execInterferenceChange (t : Nat) (s : State) : Out State :=
  let s := s.to t
  if !s.runs 6 blkSolver then ok s
  else if s.cn0Falls then ok s.interfere
  else if s.flag B.FIX_INTEG_STS_INTERFERENCE ∧ s.fix.interfAt + s.param P.INTERF_HOLD * cycS ≤ s.cyc then
    ok ((s.setFlag B.FIX_INTEG_STS_INTERFERENCE false).integEvent 3 0 0)
  else ok s

/-! ### Clock consistency (R180 to R182) -/

/-- The increment changes and steps of TIM since an anchor, in ps: device time beyond what the anchor's increment would
have counted (R180, R349). -/
def State.adjSince (s : State) (a : Anchor) : Int :=
  (((s.ctr : Int) - a.ctr) - ((s.cyc : Int) - a.cyc) * a.incr) * 1000 / 2 ^ 40

/-- The prediction of CLK_BIAS from an anchor, in ps, spans in ns: an oscillator that ages faster is one whose settled
increment falls, so its ageing is the learned slope with its sign changed (R180, R349; DEDUCED, log entry 81). -/
def State.clockPred (s : State) (a : Anchor) (sampled : Nat) : Int :=
  let dt : Int := (sampled : Int) - a.at_
  let (d, n) := s.ageing
  a.bias + a.drift * dt / 10 ^ 9 - d * cycS * dt * dt / (2 ^ 42 * 10 ^ 6 * n) + s.adjSince a

/-- The wander anchor: the passed epoch WANDER_SPAN before, else the oldest. -/
def State.wanderAnchor (s : State) (sampled : Nat) : Option Anchor :=
  let span := s.param P.WANDER_SPAN * 10 ^ 9
  match s.fix.anchors.find? (fun a => a.at_ + span ≤ sampled) with
  | some a => some a
  | none => s.fix.anchors.getLast?

/-- SPOOF_SUSPECT is set by a failed test (R181). -/
def State.spoofed (s : State) (cause : Nat) : State :=
  if s.flag B.FIX_INTEG_STS_SPOOF_SUSPECT then s
  else
    let s := (s.setFlag B.FIX_INTEG_STS_SPOOF_SUSPECT true).set B.FIX_INTEG_STS_SPOOF_CAUSE cause
    let s := (s.setFlag B.TIM_SRC_STS_EXCL_SPOOF true).afterExcl
    s.integEvent 4 0 0

/-- The tests run at an epoch (R180): time quality LOCKED or HOLDOVER, no REF_CHANGED, not the first epoch after a port
regained sync, a GNB reset or a wake. -/
def State.testsRun (s : State) (changed : Bool) : Bool := 2 ≤ s.qualityNow && !changed && !s.gnb.skipTest

/-- Both tests of R180 at a base epoch. While SPOOF_SUSPECT is set both run against TIM's holdover prediction, which goes on
from the last epoch that passed before it (R182; DEDUCED, log entry 81). Passed epochs back to WANDER_SPAN are kept. -/
def State.clockTests (s : State) (b : BaseItem) : State :=
  let spoof := s.flag B.FIX_INTEG_STS_SPOOF_SUSPECT
  let dev (a : Option Anchor) : Int :=
    match if spoof then s.fix.anchors.head? else a with
    | some x => b.bias - s.clockPred x b.sampled
    | none => 0
  let d1 := dev s.fix.anchors.head?
  let d2 := dev (s.wanderAnchor b.sampled)
  let s := s.wr Reg.FIX_CLK_STEP_DEV (unsigned 32 (clampInt (-(2 ^ 31)) (2 ^ 31 - 1) d1))
  let s := s.wr Reg.FIX_CLK_WANDER_DEV (unsigned 32 (clampInt (-(2 ^ 31)) (2 ^ 31 - 1) d2))
  let bad1 : Bool := decide (s.param P.CLK_STEP_NS * 1000 < d1.natAbs)
  let bad2 : Bool := decide (s.param P.CLK_WANDER_NS * 1000 < d2.natAbs)
  if bad1 || bad2 then
    ({ s with fix := { s.fix with failedAt := some b.sampled } }).spoofed (if bad1 then 1 else 2)
  else
    let old := s.fix.anchors
    let span := s.param P.WANDER_SPAN * 10 ^ 9
    let young := old.takeWhile (fun a => decide (b.sampled < a.at_ + span))
    let keep := young ++ ((old.drop young.length).take 1)
    let now : Anchor := ⟨b.sampled, b.bias, b.drift, s.cyc, s.ctr, s.rd64 Reg.TIM_INCR⟩
    { s with fix := { s.fix with anchors := if spoof then old else now :: keep } }

/-- SPOOF_CLEAR: a write of FIX_INTEG_CMD clears SPOOF_SUSPECT when both tests have passed on every tested epoch of the
last SPOOF_CLEAN_S, else sets CLEAR_REJ (R182). -/
def execSpoofClear (t : Nat) (rq : Requester) (s : State) : Out State :=
  ok ((s.to t).access rq Reg.FIX_INTEG_CMD true (fun s =>
    if !s.flag B.FIX_INTEG_STS_SPOOF_SUSPECT then s
    else
      let clean : Bool := match s.fix.failedAt with
        | some c => decide (c + s.param P.SPOOF_CLEAN_S * 10 ^ 9 ≤ s.devNs)
        | none => true
      if clean then
        let s := (s.setFlag B.FIX_INTEG_STS_SPOOF_SUSPECT false).set B.FIX_INTEG_STS_SPOOF_CAUSE 0
        let s := s.setFlag B.TIM_SRC_STS_EXCL_SPOOF false
        let s := { s with fix := { s.fix with anchors := [] } }
        s.integEvent 5 0 0
      else s.setFlag B.FIX_INTEG_STS_CLEAR_REJ true))

/-! ### Protection radius (R184) -/

/-- The product of INFL_k over the set bits of FLAGS [11:0], in 16^-12. -/
def State.inflation (s : State) (flags : Nat) : Nat :=
  (List.range 12).foldl (fun n k => n * (if flags.testBit k then s.param (P.INFL k) else 16)) 1

/-- Whether the radius `p` mm reaches `k`/`d` times the major sigma of variances `a`, `b` and covariance `c`, exactly. -/
def coversMajor (p k d a b : Nat) (c : Int) : Bool :=
  let lhs : Int := 2 * (p * d : Nat) * (p * d : Nat) - (k * k * (a + b) : Nat)
  let disc : Int := ((a : Int) - b) * ((a : Int) - b) + 4 * c * c
  decide (0 ≤ lhs) && decide ((k * k * (k * k) : Nat) * disc ≤ lhs * lhs)

/-- The major sigma of the block times 2^20, rounded down. -/
def majorSigma (a b : Nat) (c : Int) : Nat :=
  let disc := (((a : Int) - b) * ((a : Int) - b) + 4 * c * c).toNat
  isqrt (((a + b) * 2 ^ 20 + isqrt (disc * 2 ^ 40)) / 2 * 2 ^ 20)

/-- PROT_RADIUS (R184) in mm, saturating at 0xFFFF, of variances in mm² divided by `unit`². -/
def State.protRadius (s : State) (unit a b : Nat) (c : Int) (flags : Nat) : Nat :=
  let f := s.inflation flags
  let d := 10 * 16 ^ 12 * unit
  let k := s.param P.K_PR * f
  let p0 := majorSigma a b c * k / (d * 2 ^ 20)
  let p := if coversMajor p0 k d a b c then p0 else if coversMajor (p0 + 1) k d a b c then p0 + 1 else p0 + 2
  let m := (s.param P.PR_MIN * f + 16 ^ 12 - 1) / 16 ^ 12
  min 0xFFFF (max m p)

/-! ### RTCM frames (R186, R189) -/

/-- One bit of CRC-24Q: the register after the message bit `b` (PRESUMED, log entry 131). -/
def crc24Step (r : Nat) (b : Bool) : Nat :=
  let r' := r * 2 % 2 ^ 24
  if (r / 2 ^ 23 == 1) != b then r' ^^^ 0x864CFB else r'

/-- The bits of `n` in a field of `w` bits, most significant first. -/
def bitsMsb (w n : Nat) : List Bool := (List.range w).map (fun k => n.testBit (w - 1 - k))

/-- CRC-24Q of bytes. -/
def crc24q (bs : List Byte) : Nat := ((bs.map (fun b => bitsMsb 8 b.toNat)).flatten).foldl crc24Step 0

/-- Bits as bytes, most significant first; a last part of a byte is filled with zeros. -/
def packMsb (bits : List Bool) (n : Nat) : List Byte :=
  match n with
  | 0 => []
  | n + 1 =>
    let byte := (List.range 8).foldl (fun (a : Nat) k => 2 * a + (if bits[k]?.getD false then 1 else 0)) 0
    BitVec.ofNat 8 byte :: packMsb (bits.drop 8) n

/-- Bits [first, first + w) of a message, most significant first. -/
def msbAt (bs : List Byte) (first w : Nat) : Nat :=
  (List.range w).foldl (fun (a : Nat) k =>
    2 * a + (if (bs[(first + k) / 8]?.getD 0).getLsbD (7 - (first + k) % 8) then 1 else 0)) 0

/-- An RTCM 3 transport frame: preamble, length, message, CRC-24Q (PRESUMED, log entry 131). -/
def rtcmFrame (msg : List Byte) : List Byte :=
  let h := [0xD3#8, BitVec.ofNat 8 (msg.length / 256 % 4), BitVec.ofNat 8 msg.length] ++ msg
  let c := crc24q h
  h ++ [BitVec.ofNat 8 (c / 65536), BitVec.ofNat 8 (c / 256), BitVec.ofNat 8 c]

/-- The message of a frame whose preamble, length and CRC-24Q are right. -/
def rtcmMessage (f : List Byte) : Option (List Byte) :=
  let n := msbAt f 14 10
  let body := f.take (n + 3)
  if f[0]? == some 0xD3#8 && f.length == n + 6 && crc24q body == msbAt f (8 * (n + 3)) 24 then some (body.drop 3) else none

/-- Message 1005 (R187): the reference position in 0.1 mm, GPS and Galileo indicators 1, GLONASS 0 (the places of its fields
PRESUMED, log entry 131). -/
def message1005 (station : Nat) (x y z : Int) : List Byte :=
  packMsb (bitsMsb 12 1005 ++ bitsMsb 12 station ++ bitsMsb 6 0 ++ [true, false, true, false] ++ bitsMsb 38 (unsigned 38 x)
    ++ [false, false] ++ bitsMsb 38 (unsigned 38 y) ++ [false, false] ++ bitsMsb 38 (unsigned 38 z)) 19

/-! ### Correction output (R186 to R188) -/

/-- The enabled destinations of Table INT-3. -/
def State.rtcmDests (s : State) : List Nat :=
  (List.range 4).filter (fun n => s.param (P.DEST_0_IP + 8 * n) != 0)

/-- One datagram of a message to every enabled destination, through the NET port it names (R188). -/
def State.sendRtcm (s : State) (m : RtcmOut) : State :=
  let outs := s.rtcmDests.map (fun n =>
    let cfg := s.param (P.DEST_0_IP + 4 + 8 * n)
    { m with station := s.param P.STATION_ID, ip := s.param (P.DEST_0_IP + 8 * n), udp := cfg % 2 ^ 16
             portB := cfg.testBit 16 })
  { s with gnb := { s.gnb with rtcm := s.gnb.rtcm ++ outs } }

/-- Satellites, highest elevation first, that fit 64 cells of `cells` signals each (R186). -/
def keepSats (sats : List (Nat × Int)) (cells : Nat) : List Nat :=
  let order := sortBy (fun a b => decide (b.2 ≤ a.2)) sats
  (order.take (64 / max 1 cells)).map Prod.fst

/-- The observation code of a signal (R186). -/
def obsCode (sig : Nat) : String := if sig = 0 then "1C" else if sig % 2 = 0 then "1X" else "5X"

/-- The lock-time indicator of a lock time in ms (R186; PRESUMED, log entry 131): 32 steps for each doubling from 32 ms
on. -/
def lockIndicator (ms : Nat) : Nat :=
  if ms < 64 then ms
  else
    let k := (List.range 20).foldl (fun (a : Nat) j => if 64 * 2 ^ j ≤ ms then j + 1 else a) 0
    min 704 (ms / 2 ^ k + 32 * k)

/-- One MSM7 message to every destination: the satellites of `sys` of the base item that are not SUSPECT. -/
def State.sendMsm (s : State) (sys : Nat) (last : Bool) (b : BaseItem) : State :=
  let mine := b.sigs.filter (fun g => g.sys == sys && !s.suspect (satId sys g.prn))
  let sats := (mine.map (fun g => (g.prn, g.elev.toInt))).foldl
    (fun l p => if l.any (fun q => q.1 == p.1) then l else l ++ [p]) []
  let cells := (mine.map BaseSig.sig).eraseDups.length
  let kept := sortBy (fun a b => decide (a ≤ b)) (keepSats sats cells)
  let tow := (b.epoch / 10 ^ 6 + 604800000 - (if sys = 2 then 14000 else 0)) % 604800000
  let s := s.countBy Reg.FIX_CNT_MSM_OMIT (sats.length - kept.length)
  s.sendRtcm
    { msg := 1077 + (if sys = 0 then 0 else if sys = 1 then 20 else 50), station := 0, tow := tow, multi := !last
      sats := kept
      cells := (kept.map (fun prn => (mine.filter (fun g => g.prn == prn)).map (fun g =>
        ⟨prn, obsCode g.sig, lockIndicator g.lockMs.toNat, g.half, g.cn0.toNat⟩))).flatten
      frame := [], ip := 0, udp := 0, portB := false }

/-- An event whose code the spec does not give: three free words. -/
def State.freeEvent (s : State) (f : Option PolicyFn) (region : Nat) : State :=
  let a := s.freeVal
  let s := s.tookFree
  let b := s.freeVal
  let s := s.tookFree
  let c := s.freeVal
  s.tookFree.toOwner (eventItem f) ⟨0, .done, false, region, noCell, s.devNs, ⟨a.toNat, b.toNat, c.toNat⟩⟩

/-- The correction output of a base epoch (R186): the service firmware's messages, or the output-ready event where the
host owns RTCM. -/
def State.corrections (s : State) (b : BaseItem) : State :=
  let msm : Bool := b.epoch % (s.param P.MSM_INTERVAL * 10 ^ 6) == 0
  let sta : Bool := b.epoch % (s.param P.STA_INTERVAL * 10 ^ 9) == 0
  if !b.refValid ∨ s.flag B.FIX_INTEG_STS_SPOOF_SUSPECT ∨ !(msm || sta) then s
  else if s.hostOwns .rtcm then s.freeEvent (some .rtcm) 5
  else
    let s := if msm then ((s.sendMsm 0 false b).sendMsm 1 false b).sendMsm 2 true b else s
    if sta then s.sendRtcm
      { msg := 1005, station := 0, tow := 0, multi := false, sats := [], cells := []
        frame := rtcmFrame (message1005 (s.param P.STATION_ID) b.ref.1 b.ref.2.1 b.ref.2.2), ip := 0, udp := 0
        portB := false }
    else s

/-! ### Correction input (R189, R190) -/

/-- The MSM messages the input uses. -/
def msmNumber (m : Nat) : Bool := [1074, 1077, 1094, 1097, 1124, 1127].contains m

/-- One frame of the input (R189): the first station heard is the one used; answers whether it gives a usable epoch. -/
def State.rtcmIn (s : State) (f : List Byte) : State × Bool :=
  match rtcmMessage f with
  | none => ({ s with fix := { s.fix with badFrames := s.fix.badFrames + 1 } }, false)
  | some m =>
    let num := msbAt m 0 12
    let st := msbAt m 12 12
    let pos := num == 1005 || num == 1006
    if (msmNumber num || pos) && s.fix.station.all (fun x => x == st) then
      let s := { s with fix := { s.fix with station := some st } }
      if pos then
        ({ s with fix := { s.fix with stationPos := some (signed 38 (msbAt m 34 38), signed 38 (msbAt m 74 38),
            signed 38 (msbAt m 114 38)) } }, false)
      else (s, s.fix.stationPos.isSome)
    else ({ s with fix := { s.fix with ignored := s.fix.ignored + 1 } }, false)

/-- Frames of the input, in order; answers whether one gives a usable epoch. -/
def State.rtcmIns (s : State) (l : List (List Byte)) : State × Bool :=
  l.foldl (fun (p : State × Bool) f => let q := p.1.rtcmIn f; (q.1, p.2 || q.2)) (s, false)

/-- RTCM_INPUT_GAP: the frames that IN_UDP_PORT has received since; a usable epoch keeps the input going, and ends a gap with
an event; none for INPUT_GAP seconds posts an input-gap event (R189), after which the next station heard is taken. -/
def execRtcmInputGap (t : Nat) (frames : List (List Byte)) (s : State) : Out State :=
  let s := s.to t
  if s.param P.IN_UDP_PORT = 0 then ok s
  else
    let (s, usable) := s.rtcmIns frames
    if usable then
      let s' := { s with fix := { s.fix with inputAt := s.cyc, inGap := false, inputOn := true } }
      ok (if s.fix.inGap then s'.freeEvent (some .rtcm) 6 else s')
    else if !s.fix.inGap ∧ s.fix.inputAt + s.param P.INPUT_GAP * cycS ≤ s.cyc then
      ok ({ s with fix := { s.fix with
        inGap := true, inputOn := false, station := none, stationPos := none } }.freeEvent (some .rtcm) 6)
    else ok s

/-- The baseline found from the station to the base lies more than REF_MON_MAX from the one the applied reference and the
station's position imply; all in 0.1 mm. -/
def State.refAway (s : State) (base : Int × Int × Int) : Bool :=
  match s.fix.stationPos with
  | none => false
  | some p =>
    let d (a : Nat) (b c : Int) : Int := b - (signed 64 (s.param a + s.param (a + 4) * 2 ^ 32) - c)
    let dx := d P.REF_X_LO base.1 p.1
    let dy := d P.REF_Y_LO base.2.1 p.2.1
    let dz := d P.REF_Z_LO base.2.2 p.2.2
    decide ((((s.param P.REF_MON_MAX * 10) ^ 2 : Nat) : Int) < dx * dx + dy * dy + dz * dz)

/-- REF_MONITOR: the second's baseline while REF_VALID is 1 and the input is usable; REF_MONITOR after 60 seconds in
succession over REF_MON_MAX (R190). -/
def execRefMonitor (t : Nat) (base : Int × Int × Int) (s : State) : Out State :=
  let s := s.to t
  let sec := s.devNs / 10 ^ 9
  if sec = s.fix.monSec then ok s
  else
    let live := s.param P.REF_STS % 2 = 1 ∧ s.fix.inputOn ∧ s.param P.IN_UDP_PORT ≠ 0
    let old := if sec = s.fix.monSec + 1 then s.fix.monRun else 0
    let n := if live ∧ s.refAway base then old + 1 else 0
    let s := { s with fix := { s.fix with monRun := n, monSec := sec } }
    ok (if n = 60 then s.integEvent 6 0 0 else s)

end Sys2Proof.Machine
end

