-- ==== Sys2Proof/Machine/Fix.lean ====
section
/-!
DEFINITION. The fleet fix solver (R142 to R170): the course of an epoch at FIX, the ambiguity search, and the operations.
What the ephemeris and the report's own code solution give enters as an operand of FIX_SOLVE, and what a search unit finds
as an operand of AMBIGUITY_SEARCH.
-/

namespace Sys2Proof.Machine

/-! ### Contexts and records -/

/-- A context of FIX. -/
def State.fixCtx (s : State) (n : Nat) : FixCtx := Sp.at s.fix.ctx FixCtx.reset n

/-- Replace a context of FIX. -/
def State.setFixCtx (s : State) (n : Nat) (x : FixCtx) : State :=
  { s with fix := { s.fix with ctx := Sp.store s.fix.ctx FixCtx.reset n x } }

/-- A context that leaves or joins settles a REINIT that waits for it: it left (R167). -/
def Reiniting.settle (q : Reiniting) (n : Nat) (v : Bool) : Reiniting :=
  { q with waiting := q.waiting.map (fun (w : Nat × Nat × Option Bool) =>
      if w.1 = n then (w.1, w.2.1, some (w.2.2.getD v)) else w) }

/-- FIX clears the state of a context at a join and at a leave (R168, R317): the filter starts at NONE. -/
def State.fixClear (s : State) (n : Nat) : State :=
  let s := s.setFixCtx n { FixCtx.reset with refSeq := s.param P.REF_STS / 2 ^ 16 }
  { s with fix := { s.fix with
    cn0 := Sp.drop (Sp.drop s.fix.cn0 (2 * n)) (2 * n + 1)
    reinit := s.fix.reinit.map (fun q => q.settle n false) } }

/-- The 64 bytes of a FIX item, word 7 with BUSY clear (Table FIX-9). -/
def FixRec.words (r : FixRec) : List (BitVec 64) :=
  [ r.epoch,
    r.ratio ++ r.flags ++ 0#2 ++ r.nfix ++ 0#2 ++ r.ndd ++ 0#5 ++ r.state ++ r.context,
    r.n ++ r.e,
    r.vn ++ r.ve ++ r.u,
    r.sigN ++ r.sigE ++ r.pr ++ r.vu,
    r.odoS ++ 0#4 ++ r.holdMs ++ r.sigU,
    0#8 ++ r.obsFlags ++ r.selfDev ++ r.mstatus ++ r.odoV,
    0#32 ++ r.seq ]

/-- Write a FIX item into the fleet state table at index 64 × CONTEXT + (SEQ mod 64), and its mirror in host memory
(R162). -/
def State.writeFix (s : State) (r : FixRec) : State :=
  let idx := 64 * r.context.toNat + r.seq.toNat % 64
  let s := { s with fix := { s.fix with table := Sp.put s.fix.table idx r } }
  if s.flag B.FIX_FST_HOST_MIRROR then
    s.writeHost (s.rd64 Reg.FIX_FST_HOST / 4096 * 4096 + 64 * idx) (bytesOf r.words)
  else s

/-! ### The FIX frame (R160) -/

/-- The origin as a vector; the Earth's centre where there is none. -/
def State.originVec (s : State) : Vec :=
  match s.frameOrigin with
  | some (x, y, z) => Vec.ofTenths (signed 64 x) (signed 64 y) (signed 64 z)
  | none => Vec.zero

/-! ### The checks of an OBS item (R145, Table FIX-4) -/

/-- The satellite and signal of a record: 64 × system + PRN of its entry, and the code. -/
def ObsReport.pairOf (r : ObsReport) (g : ObsSig) : Option (Nat × Nat) :=
  r.sats[g.sat.toNat]?.map (fun x => (satId x.sys.toNat x.prn.toNat, g.signal.toNat))

/-- No pair twice. -/
def noPairTwice (l : List (Nat × Nat)) : Bool :=
  match l with
  | [] => true
  | x :: r => !r.contains x && noPairTwice r

/-- Check 1: the report's shape. -/
def ObsReport.shapeOk (r : ObsReport) : Bool :=
  r.len == 32 + 7 * (r.nsat.toNat + r.nsig.toNat) && r.nsat.toNat ≤ 32 && r.nsig.toNat ≤ 64
    && r.sats.length == r.nsat.toNat && r.sigs.length == r.nsig.toNat
    && r.sigs.all (fun g => match r.sats[g.sat.toNat]? with
        | some x => g.signal.toNat / 2 == x.sys.toNat && g.signal.toNat ≤ 5
        | none => false)
    && noPairTwice (r.sigs.filterMap r.pairOf)

/-- The status of the first check of Table FIX-4 that fails. -/
def State.obsCheck (s : State) (n slotEnd : Nat) (r : ObsReport) : Option Status :=
  let e := r.epoch.toNat
  if !r.shapeOk then some .rejRange
  else if e % s.ctxInterval n ≠ 0 then some .rejRange
  else if slotEnd + 50 * 10 ^ 6 < devOfGps e then some .rejRange
  else if (match (s.fixCtx n).filter.lastEpoch with | some l => decide (e ≤ l) | none => false) then some .rejExpired
  else if devOfGps e + 10 ^ 9 < slotEnd then some .rejExpired
  else none

/-! ### What a report and a base item measure (R142, R149) -/

/-- A signal of a report: its id, record, satellite entry. -/
structure SigObs where
  id  : Nat
  rec_ : ObsSig
  sat : ObsSat
  deriving DecidableEq, Repr

/-- The signals of a report. -/
def ObsReport.signals (r : ObsReport) : List SigObs :=
  r.sigs.filterMap (fun g => r.sats[g.sat.toNat]?.map (fun x =>
    ⟨sigId x.sys.toNat x.prn.toNat g.signal.toNat, g, x⟩))

/-- The pseudorange in m. -/
def SigObs.range (x : SigObs) : Fx :=
  fxOf ((((x.sat.rough.toNat * 2 ^ 10 : Nat) : Int) + x.rec_.finePr.toInt) * lightSpeed) (1000 * 2 ^ 24)

/-- The phase-range in m. -/
def SigObs.phase (x : SigObs) : Fx :=
  fxOf ((((x.sat.rough.toNat * 2 ^ 17 : Nat) : Int) + x.rec_.fineCp.toInt) * lightSpeed) (1000 * 2 ^ 31)

/-- The range rate in m/s, where it is available. -/
def SigObs.rate (x : SigObs) : Option Fx :=
  if x.sat.rate = 0x800000#24 then none else some (fxOf x.sat.rate.toInt 10000)

/-- The signal's id in a base record. -/
def BaseSig.id (g : BaseSig) : Nat := sigId g.sys g.prn g.sig

/-- DOPPLER as a range rate in m/s: Doppler is positive while range shrinks (R127). -/
def BaseSig.rate (g : BaseSig) : Fx := -(fxMul (fxOf g.doppler.toInt 256) (waveOf g.sig))

/-- The base pseudorange in m, shifted by −DOPPLER × λ × Δt; `dt` in ps (R149). -/
def BaseSig.range (g : BaseSig) (dt : Int) : Fx := fxOf g.pr.toNat 1024 + fxOf (g.rate * dt) (10 ^ 12) / 2 ^ 64

/-- The base phase-range in m, shifted likewise. -/
def BaseSig.phase (g : BaseSig) (dt : Int) : Fx :=
  fxMul (fxOf g.cp.toInt 65536) (waveOf g.sig) + fxOf (g.rate * dt) (10 ^ 12) / 2 ^ 64

/-! ### Cycle slips (R152) -/

/-- A signal as the slip tests compare it: now and at an earlier epoch. -/
structure Pair where
  sig  : Nat
  now  : LastObs
  was  : LastObs
  deriving DecidableEq, Repr

/-- Signals observed now that were observed before. -/
def pairsOf (now was : List LastObs) : List Pair :=
  now.filterMap (fun a => (was.find? (fun b => b.sig == a.sig)).map (fun b => ⟨a.sig, a, b⟩))

/-- The middle of a sorted list, the mean of the two middle ones where their number is even. -/
def medianInt (l : List Int) : Int :=
  let l := sortBy (fun (a b : Int) => decide (a ≤ b)) l
  ((l[(l.length - 1) / 2]?.getD 0) + (l[l.length / 2]?.getD 0)) / 2

/-- The other band's signal of the same satellite. -/
def otherBand (id : Nat) : Nat := if id % 2 = 0 then id + 1 else id - 1

/-- Signals of satellites on both bands whose geometry-free value has changed by more than GF_SLIP (rule 2). -/
def State.gfSlips (s : State) (l : List Pair) : List Nat :=
  (l.filter (fun p => match l.find? (fun q => q.sig == otherBand p.sig) with
    | some q => p.was.epoch == q.was.epoch &&
        decide ((s.param P.GF_SLIP : Int) * 2 ^ 64
          < (((p.now.phase - q.now.phase) - (p.was.phase - q.was.phase)).natAbs : Int) * 1000)
    | none => false)).map Pair.sig

/-- d of the Doppler test, where both rates are available (rule 3). -/
def Pair.dopplerGap (p : Pair) : Option Fx :=
  match p.now.rate, p.was.rate with
  | some a, some b => some (p.now.phase - p.was.phase - fxMul (a + b) (fxOf (p.now.epoch - p.was.epoch : Nat) (10 ^ 9)) / 2)
  | _, _ => none

/-- Signals that fail the Doppler test. -/
def State.dopplerSlips (s : State) (l : List Pair) : List Nat :=
  let ds := l.filterMap (fun p => p.dopplerGap.map (fun d => (p.sig, d)))
  let m := medianInt (ds.map Prod.snd)
  (ds.filter (fun d => decide (waveOf d.1 * (s.param P.DOP_SLIP : Nat) < ((d.2 - m).natAbs : Int) * 10))).map Prod.fst

/-- What a report held of its signals. -/
def ObsReport.lastObs (r : ObsReport) : List LastObs :=
  r.signals.map (fun x => ⟨x.id, r.epoch.toNat, x.phase, x.rate⟩)

/-- The machine's signals that slipped at an epoch: SLIP, rules 2 and 3, and the gap. -/
def State.machineSlips (s : State) (f : Filter) (r : ObsReport) : List Nat :=
  let l := pairsOf r.lastObs f.obs
  (r.signals.filter (fun x => x.rec_.slip)).map SigObs.id ++ s.gfSlips l ++ s.dopplerSlips l
    ++ (l.filter (fun p => p.was.epoch + s.param P.SLIP_GAP * 10 ^ 6 < p.now.epoch)).map Pair.sig

/-- What a base item held of its signals. -/
def BaseItem.lastObs (b : BaseItem) : List LastObs := b.sigs.map (fun g => ⟨g.id, b.epoch, g.phase 0, some g.rate⟩)

/-- FIX tests the base signals once at each base epoch, by SLIP and rules 2 and 3, against the item before. -/
def State.baseSlipTest (s : State) (b : BaseItem) : State :=
  let was := match (s.gnb.history.filter (fun o => o.epoch < b.epoch)).getLast? with | some o => o.lastObs | none => []
  let l := pairsOf b.lastObs was
  let slips := (b.sigs.filter BaseSig.slip).map BaseSig.id ++ s.gfSlips l ++ s.dopplerSlips l
  { s with fix := { s.fix with
    baseSlips := slips.foldl (fun m id => Sp.put m id b.epoch) s.fix.baseSlips
    late := (s.fix.late.filter (fun e => b.epoch < e + 2 * 10 ^ 9))
      ++ (if devOfGps b.epoch + 2000000 < s.devNs then [b.epoch] else []) } }

/-- A base signal slipped since the filter's last base epoch. -/
def State.baseSlipped (s : State) (f : Filter) (epoch id : Nat) : Bool :=
  match Sp.find s.fix.baseSlips id with
  | some e => f.baseAt < e && e ≤ epoch
  | none => false

/-! ### Selecting signals (R146 to R148) -/

/-- The base item FIX uses for an epoch: one that was delivered in time (R44). -/
def State.baseItem? (s : State) (epoch : Nat) : Option BaseItem :=
  if s.fix.late.contains epoch then none else s.gnb.history.find? (fun b => b.epoch == epoch)

/-- A candidate (R146): its id, the sine of its elevation at the machine, whether it slipped, its observation, base record
and satellite. -/
structure Cand where
  id    : Nat
  sinEl : Fx
  slip  : Bool
  obs   : SigObs
  base  : BaseSig
  sat   : SatGeo
  deriving DecidableEq, Repr

/-- The position of a satellite. -/
def SatGeo.vec (g : SatGeo) : Vec := Vec.ofTenths g.x g.y g.z

/-- SELF as an ECEF position. -/
def State.selfVec (s : State) (r : ObsReport) : Vec :=
  let a := axesAt s.originVec
  let mm (v : Int) : Fx := fxOf v 1000
  s.originVec.add ((a.east.scale (mm r.selfE.toInt)).add ((a.north.scale (mm r.selfN.toInt)).add
    (a.up.scale (mm r.selfU.toInt))))

/-- Where FIX takes the machine to be: the filter's position, else the code solution, else SELF. -/
def State.machineAt (s : State) (f : Filter) (r : ObsReport) (code : Option CodeSol) : Vec :=
  if f.hasPos then f.pos
  else match code with
    | some c => Vec.ofTenths c.x c.y c.z
    | none => s.selfVec r

/-- A signal of the report as a candidate, where it is one (R146). -/
def State.candidate (s : State) (f : Filter) (at_ up : Vec) (slips : List Nat) (b : BaseItem) (sats : List SatGeo)
    (x : SigObs) : Option Cand :=
  let sys := x.sat.sys.toNat
  let prn := x.sat.prn.toNat
  match b.sigs.find? (fun g => g.id == x.id), sats.find? (fun g => g.sys == sys && g.prn == prn) with
  | some g, some v =>
    let el := up.dot ((v.vec.sub at_).unit)
    if !g.half && !x.rec_.half && decide (sine ((s.param P.FIX_ELEV_MASK * 100 : Nat) : Int) ≤ el)
        && s.param P.CN0_MIN ≤ x.rec_.cn0.toNat && v.healthy && !s.gnb.disabled.contains (satId sys prn)
        && !s.suspect (satId sys prn) then
      some ⟨x.id, el, slips.contains x.id || s.baseSlipped f b.epoch x.id, x, g, v⟩
    else none
  | _, _ => none

/-- The candidate of highest elevation; of equals the lowest id. -/
def highest (l : List Cand) : Option Cand :=
  l.foldl (fun o c => match o with
    | none => some c
    | some b => if b.sinEl < c.sinEl ∨ (b.sinEl = c.sinEl ∧ c.id < b.id) then some c else some b) none

/-- The pivot of a group (R147); a pivot blamed at the last epoch is left out of the choice (R172). -/
def Filter.pivot (f : Filter) (cands : List Cand) (g : Nat) : Option Nat :=
  let mine := cands.filter (fun c => groupOf c.id == g)
  let free := mine.filter (fun c => !f.blamed.contains c.id)
  if mine.length < 2 then none
  else
    let kept := free.find? (fun c => Sp.find f.pivots g == some c.id && !c.slip)
    ((match kept with | some c => some c | none => highest free)).map Cand.id

/-- The pivots of every group. -/
def Filter.choosePivots (f : Filter) (cands : List Cand) : Sp Nat :=
  (List.range 6).filterMap (fun g => (f.pivot cands g).map (fun p => (g, p)))

/-- The score of R148, in 10^-4. -/
def State.score (s : State) (c : Cand) : Int :=
  ((c.obs.rec_.cn0.toNat * 10000 : Nat) : Int) + s.param P.ELEV_WT * arcsine c.sinEl

/-- The double-differenced signals (R148): incumbents first, free places by score, at most 48. -/
def State.choose (s : State) (f : Filter) (pivots : Sp Nat) (cands : List Cand) : List Cand :=
  let groups := pivots.map Prod.fst
  let l := cands.filter (fun c => groups.contains (groupOf c.id) && !(pivots.map Prod.snd).contains c.id)
  let had (c : Cand) : Bool := f.amb.any (fun a => a.sig == c.id) || Sp.find f.pivots (groupOf c.id) == some c.id
  let old := l.filter had
  let new := l.filter (fun c => !had c)
  let order := sortBy (fun a b => decide (s.score b < s.score a) || (decide (s.score b = s.score a) && a.id ≤ b.id)) new
  old ++ order.take (48 - old.length)

/-! ### Double differences (R149, R151, R171 to R174) -/

/-- A double-differenced signal with its pivot and the offset Δt of the base's clock in ps. -/
structure DdSig where
  c  : Cand
  p  : Cand
  dt : Int
  deriving DecidableEq, Repr

/-- P_jp in m. -/
def DdSig.code (d : DdSig) : Fx :=
  (d.c.obs.range - d.c.base.range d.dt) - (d.p.obs.range - d.p.base.range d.dt)

/-- Phi_jp in m. -/
def DdSig.phase (d : DdSig) : Fx :=
  (d.c.obs.phase - d.c.base.phase d.dt) - (d.p.obs.phase - d.p.base.phase d.dt)

/-- rho_jp + T_jp of a machine at `r` with the base at `rb`, in m. -/
def DdSig.predicted (d : DdSig) (r rb : Vec) : Fx :=
  let one (v : SatGeo) : Fx := (v.vec.sub r).len - (v.vec.sub rb).len + fxOf v.trop 10000
  one d.c.sat - one d.p.sat

/-- The row −(e_j − e_p) at `r`. -/
def DdSig.row (d : DdSig) (r : Vec) : List (Nat × Fx) :=
  let v := ((d.p.sat.vec.sub r).unit).sub ((d.c.sat.vec.sub r).unit)
  [(0, v.x), (1, v.y), (2, v.z)]

/-- (Phi_jp − P_jp)/λ: where an ambiguity starts (R151). -/
def DdSig.start (d : DdSig) : Fx := fxDiv (d.phase - d.code) (waveOf d.c.id)

/-- The variance of a receiver's signal: A² + A²/sin²(elevation), A in mm. -/
def sigVar (a : Nat) (sinEl : Fx) : Fx := fxOf (a * a) (10 ^ 6) + fxDiv (fxOf (a * a) (10 ^ 6)) (fxMul sinEl sinEl)

/-- The variance of a single difference, the base's part times NOTCH_VAR_K where its record carries NOTCHED (R174). -/
def State.sdVar (s : State) (a : Nat) (c : Cand) : Fx :=
  sigVar a c.sinEl + sigVar a (sine c.base.elev.toInt) * (if c.base.notched then s.param P.NOTCH_VAR_K else 1)

/-- The keys of a pivot's code and phase noise, which the rows of its group share. -/
def noiseKey (grp : Nat) (phase : Bool) : Nat := 100000 + 2 * grp + (if phase then 1 else 0)

/-- The states with the noise of every pivot among them, so that rows that share a pivot are correlated. -/
def State.withNoise (s : State) (g : Gauss) (ps : List Cand) : Gauss :=
  ps.foldl (fun (g : Gauss) p =>
    (g.start (noiseKey (groupOf p.id) false) 0 (s.sdVar (s.param P.SIG_CODE) p)).start (noiseKey (groupOf p.id) true) 0
      (s.sdVar (s.param P.SIG_PHASE) p)) g

/-- A measurement row: coefficients, measurement, variance of its own noise. -/
structure MeasRow where
  h : List (Nat × Fx)
  z : Fx
  r : Fx
  deriving DecidableEq, Repr

/-- The code row and the phase row of a signal, linearised at `r`: the measurement is what the row would measure of the
states. -/
def State.rowsOf (s : State) (d : DdSig) (r rb : Vec) : MeasRow × MeasRow :=
  let h := d.row r
  let at_ := sumInt ((h.zip r.toList).map (fun a => fxMul a.1.2 a.2))
  let pred := d.predicted r rb
  let grp := groupOf d.c.id
  (⟨h ++ [(noiseKey grp false, -fxOne)], d.code - pred + at_, s.sdVar (s.param P.SIG_CODE) d.c⟩,
    ⟨h ++ [(noiseKey grp true, -fxOne), (ambKey d.c.id, waveOf d.c.id)], d.phase - pred + at_,
      s.sdVar (s.param P.SIG_PHASE) d.c⟩)

/-- w² of a row from the prior states (R171). -/
def MeasRow.score (m : MeasRow) (g : Gauss) : Fx :=
  let (nu, var) := g.innov m.h m.z m.r
  nu * nu / var

/-- A signal with its rows. -/
structure Scored where
  d    : DdSig
  rows : MeasRow × MeasRow
  w2   : Fx
  deriving DecidableEq, Repr

/-- A removal (R171), of a signal or of the pivot with its whole group (R172). -/
structure Removal where
  id    : Nat
  pivot : Bool
  deriving DecidableEq, Repr

/-- A score exceeds EXCL_K. -/
def State.scoreOver (s : State) (x : Scored) : Bool :=
  decide (((s.param P.EXCL_K ^ 2 : Nat) : Int) * 2 ^ 64 < x.w2 * 100)

/-- The group whose pivot is blamed (R172): more than half of its signals, and at least two, exceed EXCL_K; of several, that
of the highest score (DEDUCED, log entry 132). `l` is in descending order of score. -/
def State.blamed (s : State) (l : List Scored) : Option Nat :=
  ((l.map (fun x => groupOf x.d.c.id)).eraseDups).find? (fun g =>
    let mine := l.filter (fun x => groupOf x.d.c.id == g)
    let above := (mine.filter s.scoreOver).length
    2 ≤ above && decide (mine.length < 2 * above))

/-- The update is repeated from the prior states with removals, at most `k` times. Answers the signals left, the removals in
order, and whether a score still exceeds EXCL_K. -/
def State.exclude (s : State) (k : Nat) (l : List Scored) : List Scored × List Removal × Bool :=
  match l with
  | [] => ([], [], false)
  | x :: rest =>
    match k with
    | 0 => (l, [], s.scoreOver x)
    | k + 1 =>
      match s.blamed l with
      | some g =>
        let p := match l.find? (fun y => groupOf y.d.c.id == g) with | some y => y.d.p.id | none => 0
        let q := s.exclude k (l.filter (fun y => groupOf y.d.c.id != g))
        (q.1, ⟨p, true⟩ :: q.2.1, q.2.2)
      | none =>
        if s.scoreOver x then
          let q := s.exclude k rest
          (q.1, ⟨x.d.c.id, false⟩ :: q.2.1, q.2.2)
        else (l, [], false)

/-! ### The course of an epoch -/

/-- Set bit `k` of FLAGS where `v` holds. -/
def withFlag (flags k : Nat) (v : Bool) : Nat := if v then flags ||| 2 ^ k else flags

/-- Count removals by signal (R173): the signals now removed, with their runs. -/
def removalRuns (old : List (Nat × Nat)) (now : List Nat) : List (Nat × Nat) :=
  now.map (fun id => (id, match old.find? (fun p => p.1 == id) with | some p => p.2 + 1 | none => 1))

/-- Integers are released: those `p` names, and all where fewer than MIN_FIX remain (R156). Answers the filter and how
many. -/
def State.releaseInts (s : State) (f : Filter) (p : Nat → Bool) : Filter × Nat :=
  let var := fxOf (s.param P.REL_VAR) 1000
  let g := f.release p var
  let g := if g.nfix < s.param P.MIN_FIX then g.release (fun _ => true) var else g
  (g, f.nfix - g.nfix)

/-- Count released ambiguities (R156). -/
def State.released (s : State) (n : Nat) : State := s.countBy Reg.FIX_CNT_RELEASE n

/-- The reference in force at an epoch as FIX knows it: position and REF_SEQ of the newest item up to it (R159). -/
def State.refAt (s : State) (epoch : Nat) : Option ((Int × Int × Int) × Nat) :=
  ((s.gnb.history.filter (fun b => b.epoch ≤ epoch && b.refValid)).getLast?).map (fun b => (b.ref, b.refSeq))

/-- The filter at an epoch before its measurements: moved with the reference (R159), carried on over the time since its last
epoch. -/
def State.prior (s : State) (f : Filter) (epoch : Nat) : Filter :=
  let f := match s.refAt epoch with | some (ref, _) => f.toRef ref | none => f
  let dt := match f.lastEpoch with | some e => epoch - e | none => 0
  f.timeUpdate dt (fxOf (s.param P.Q_ACC_H) 100) (fxOf (s.param P.Q_ACC_V) 100)

/-- The baseline exceeds BASELINE_MAX (R150). -/
def State.farBase (s : State) (at_ : Vec) (ref : Int × Int × Int) : Bool :=
  decide ((s.param P.BASELINE_MAX : Int) * 1000 * fxOne < (at_.sub (Vec.ofTenths ref.1 ref.2.1 ref.2.2)).len)

/-- The ambiguities of the chosen signals and pivots (R147, R151): pivots change, signals no longer chosen give up their
state, new and slipped ones start. -/
def State.chooseAmb (s : State) (f : Filter) (pivots : Sp Nat) (dd : List DdSig) : Filter :=
  let f := pivots.foldl (fun (f : Filter) p => match Sp.find f.pivots p.1 with
    | some old => if old = p.2 then f else f.repivot p.1 old p.2
    | none => f.keepAmb (fun id => groupOf id != p.1)) f
  let ids := dd.map (fun d => d.c.id)
  let f := ({ f with pivots := pivots }).keepAmb (fun id => ids.contains id)
  let slipped := (dd.filter (fun d => d.p.slip)).map (fun d => groupOf d.p.id)
  dd.foldl (fun (f : Filter) d =>
    let el := arcsine d.c.sinEl
    let fresh := match f.ambOf? d.c.id with | some a => a.stale | none => true
    if d.c.slip || fresh || slipped.contains (groupOf d.c.id) then
      f.restart d.c.id el d.start (fxOf (s.param P.AMB_VAR0) 1)
    else { f with amb := f.amb.map (fun a => if a.sig = d.c.id then { a with elev := el } else a) }) f

/-- Slips of an epoch: signals that held a state or were pivots. -/
def Filter.slipCount (f : Filter) (ids : List Nat) : Nat :=
  (ids.eraseDups.filter (fun id => f.amb.any (fun a => a.sig == id) || f.pivots.any (fun p => p.2 == id))).length

/-- What a double-difference update gives: the filter, FLAGS, NDD, the removals, the signals used, how many integers were
released. -/
structure Updated where
  f    : Filter
  flags : Nat
  ndd  : Nat
  rm   : List Removal
  used : List Nat
  rel  : Nat
  deriving DecidableEq, Repr

/-- A double-difference update (R149 to R156, R171 to R174) of the filter `f` with the signals `dd`, base at `ref`. -/
def State.ddUpdate (s : State) (f : Filter) (epoch flags : Nat) (long : Bool) (pivots : Sp Nat) (ps : List Cand)
    (dd : List DdSig) (ref : Int × Int × Int) : Updated :=
  let rb := Vec.ofTenths ref.1 ref.2.1 ref.2.2
  let f := s.chooseAmb f pivots dd
  let cut := if long then s.releaseInts f (fun _ => true) else (f, 0)
  let f := cut.1
  let g := s.withNoise f.g ps
  let scored := dd.map (fun d =>
    let rows := s.rowsOf d f.pos rb
    Scored.mk d rows (max (rows.1.score g) (rows.2.score g)))
  let order := sortBy (fun (a b : Scored) => decide (b.w2 < a.w2) || (decide (b.w2 = a.w2) && a.d.c.id ≤ b.d.c.id)) scored
  let q := s.exclude 3 order
  let left := q.1.map (fun x => x.d.c.id)
  let gone := (dd.map (fun d => d.c.id)).filter (fun id => !left.contains id)
  let g := (scored.filter (fun x => left.contains x.d.c.id)).foldl (fun (g : Gauss) x =>
    (g.update x.rows.1.h x.rows.1.z x.rows.1.r).update x.rows.2.h x.rows.2.z x.rows.2.r) g
  let f := { f with g := g.keep (· < 100000) }
  let runs := removalRuns f.removals gone
  let again := (runs.filter (fun p => s.param P.EXCL_RESTART ≤ p.2)).map Prod.fst
  let f := (dd.filter (fun d => again.contains d.c.id)).foldl (fun (f : Filter) d =>
    f.restart d.c.id (arcsine d.c.sinEl) d.start (fxOf (s.param P.AMB_VAR0) 1)) f
  let off (d : DdSig) : Bool :=
    let res := fxDiv (d.phase - d.predicted f.pos rb) (waveOf d.c.id) - f.g.val (ambKey d.c.id)
    decide (((s.param P.FIX_RES_MAX : Nat) : Int) * 2 ^ 64 < (res.natAbs : Int) * 100)
  let bad := (dd.filter off).map (fun d => d.c.id)
  let rel := s.releaseInts f (fun id => bad.contains id)
  let blamed := (q.2.1.filter Removal.pivot).map Removal.id
  let n := cut.2 + rel.2
  { f := { rel.1 with
      blamed := blamed, removals := runs.filter (fun p => p.2 < s.param P.EXCL_RESTART), lastDd := some epoch
      baseAt := epoch, ref := some ref }
    flags := withFlag (withFlag flags 11 (n != 0)) 0 q.2.2
    ndd := left.length
    rm := q.2.1
    used := left ++ (ps.map Cand.id).filter (fun p => left.any (fun id => groupOf id == groupOf p))
    rel := n }

/-- An epoch without a double-difference update (R158): slipped integers are lost, the others released once HOLD_MAX has
passed or the baseline is too long, every ambiguity dropped once FLOAT_KEEP has, those of SUSPECT satellites at once.
Answers the filter and how many integers were released. -/
def State.noUpdate (s : State) (f : Filter) (epoch : Nat) (long : Bool) (slips : List Nat) : Filter × Nat :=
  let f := s.suspects.foldl (fun (f : Filter) sat => f.dropSat sat) f
  let lost := (f.pivots.filter (fun p => slips.contains p.2)).map Prod.fst
  let hit (id : Nat) : Bool := slips.contains id || lost.contains (groupOf id)
  let f := { f with
    amb := f.amb.map (fun a => if hit a.sig then { a with fixed := false, stale := true } else a)
    g := f.g.mapCov (fun i j v => if i = j ∧ 6 ≤ i ∧ hit (i - 6) then fxOf (s.param P.AMB_VAR0) 1 else v)
    blamed := [], removals := [] }
  let overran := match f.lastFixed with | some l => decide (l + s.param P.HOLD_MAX * 10 ^ 6 < epoch) | none => true
  let dropAll := match f.lastDd with | some l => decide (l + s.param P.FLOAT_KEEP * 10 ^ 9 < epoch) | none => true
  let q := if overran || long then s.releaseInts f (fun _ => true) else (f, 0)
  (if dropAll then { q.1.keepAmb (fun _ => false) with pivots := [] } else q.1, q.2)

/-! ### The FIX item (R157, R161, R183, R184) -/

/-- Satellites of a report by system. -/
def ObsReport.satCount (r : ObsReport) (sys : Nat) : Nat :=
  ((r.sats.filter (fun x => x.sys.toNat == sys)).map ObsSat.prn).eraseDups.length

/-- Row 4 of Table FIX-7: at least 4 satellites of one system, 5 of two or 6 of three. -/
def countsSuffice (a b c : Nat) : Bool :=
  4 ≤ a || 4 ≤ b || 4 ≤ c || 5 ≤ a + b || 5 ≤ a + c || 5 ≤ b + c || 6 ≤ a + b + c

/-- The report can give a code solution. -/
def ObsReport.codeOk (r : ObsReport) : Bool := countsSuffice (r.satCount 0) (r.satCount 1) (r.satCount 2)

/-- Fix states (Table FIX-6). -/
abbrev fsNone : Nat := 0
/-- SINGLE. -/
abbrev fsSingle : Nat := 1
/-- FLOAT. -/
abbrev fsFloat : Nat := 2
/-- FIXED. -/
abbrev fsFixed : Nat := 3
/-- HELD. -/
abbrev fsHeld : Nat := 4

/-- The state of the first row of Table FIX-7 whose condition holds, for the filter `f` after the epoch. -/
def State.fixState (s : State) (f : Filter) (epoch : Nat) (updated code : Bool) : Nat :=
  if updated then (if s.param P.MIN_FIX ≤ f.nfix then fsFixed else fsFloat)
  else if f.nfix != 0 && (match f.lastFixed with
      | some l => decide (epoch ≤ l + s.param P.HOLD_MAX * 10 ^ 6) | none => false) then fsHeld
  else if code then fsSingle
  else fsNone

/-- A signed number in a field of `w` bits, saturating. -/
def satSigned (w : Nat) (i : Int) : BitVec w := BitVec.ofInt w (clampInt (-(2 ^ (w - 1))) (2 ^ (w - 1) - 1) i)

/-- A count in a field of `w` bits, saturating. -/
def satField (w n : Nat) : BitVec w := BitVec.ofNat w (min n (2 ^ w - 1))

/-- The horizontal distance from SELF to the fix, rounded down (DEDUCED, log entry 28). -/
def selfDistance (r : ObsReport) (p : FixPos) : Nat :=
  let de := p.e - r.selfE.toInt
  let dn := p.n - r.selfN.toInt
  isqrt (de * de + dn * dn).toNat

/-- A position, velocity and covariance in the FIX frame, rounded to its units (DEDUCED, log entry 28). -/
def State.inFrame (s : State) (pos vel : Vec) (cov : Nat → Nat → Fx) : FixPos :=
  let a := axesAt s.originVec
  let p := a.of (pos.sub s.originVec)
  let v := a.of vel
  let quad (b c : Vec) : Fx := sumInt ((List.range 3).map (fun i => sumInt ((List.range 3).map (fun j =>
    fxMul (fxMul (b.toList[i]?.getD 0) (c.toList[j]?.getD 0)) (cov i j)))))
  { e := fxRound p.x 1000, n := fxRound p.y 1000, u := fxRound p.z 1000
    ve := fxRound v.x 1000, vn := fxRound v.y 1000, vu := fxRound v.z 1000
    covEE := (fxRound (quad a.east a.east) (10 ^ 12)).toNat, covNN := (fxRound (quad a.north a.north) (10 ^ 12)).toNat
    covEN := fxRound (quad a.east a.north) (10 ^ 12)
    sigU := isqrt (fxRound (quad a.up a.up) (10 ^ 12)).toNat / 1000 }

/-- The filter's solution. -/
def State.filterPos (s : State) (f : Filter) : FixPos := s.inFrame f.pos f.vel f.g.cov

/-- The code solution. -/
def State.codePos (s : State) (c : CodeSol) : FixPos :=
  let f := Filter.reset.startAt c
  s.inFrame f.pos f.vel f.g.cov

/-- The record of an epoch in state `st` with FLAGS `flags`, position `p`. -/
def State.fixRec (s : State) (n seq st flags ratio ndd nfix hold : Nat) (r : ObsReport) (p : Option FixPos) : FixRec :=
  let z : FixPos := ⟨0, 0, 0, 0, 0, 0, 0, 0, 0, 0⟩
  let q := p.getD z
  let self := if p.isNone || !r.flags.getLsbD 2 then 0xFFFF else min 0xFFFE (selfDistance r q)
  { epoch := r.epoch, context := BitVec.ofNat 8 n, state := BitVec.ofNat 3 st, ndd := BitVec.ofNat 6 ndd
    nfix := BitVec.ofNat 6 nfix, flags := BitVec.ofNat 16 flags, ratio := satField 16 ratio
    e := BitVec.ofInt 32 q.e, n := BitVec.ofInt 32 q.n, u := BitVec.ofInt 32 q.u
    ve := satSigned 16 q.ve, vn := satSigned 16 q.vn, vu := satSigned 16 q.vu
    pr := if p.isNone then 0xFFFF#16 else BitVec.ofNat 16 (s.protRadius 1000 q.covEE q.covNN q.covEN flags)
    sigE := if p.isNone then 0xFFFF#16 else satField 16 (isqrt q.covEE / 1000)
    sigN := if p.isNone then 0xFFFF#16 else satField 16 (isqrt q.covNN / 1000)
    sigU := if p.isNone then 0xFFFF#16 else satField 16 q.sigU
    holdMs := satField 12 hold, odoS := r.odoS, odoV := r.odoV, mstatus := r.mstatus
    selfDev := BitVec.ofNat 16 self, obsFlags := r.flags, seq := BitVec.ofNat 32 seq }

/-- A context that reaches FIXED counts for a REINIT that waits for it, unless REINIT_WAIT has passed (R167). -/
def State.settleFixed (s : State) (n : Nat) : State :=
  match s.fix.reinit with
  | none => s
  | some q =>
    let inTime := q.waiting.any (fun w => w.1 == n && decide (s.cyc < w.2.1 + s.param P.REINIT_WAIT * cycS))
    { s with fix := { s.fix with reinit := some (q.settle n inTime) } }

/-- The solved epoch's FIX item is written, the buffers switch, and the item goes on to GAIT (R161, R162, R168). -/
def State.finishSolve (s : State) (v : Solving) : State :=
  let n := v.item.ctx
  let epoch := v.rep.epoch.toNat
  let x := s.fixCtx n
  let f := x.work
  let st := s.fixState f epoch v.updated v.code.isSome
  let p := if st = fsNone then none
    else if st = fsSingle then v.code.map s.codePos
    else some (s.filterPos f)
  let self := match p with
    | some q => v.rep.flags.getLsbD 2 && decide (s.param P.SELF_DEV_MAX < min 0xFFFE (selfDistance v.rep q))
    | none => false
  let spoof := s.flag B.FIX_INTEG_STS_SPOOF_SUSPECT
  let ref := match s.refAt epoch with | some q => q.2 | none => x.refSeq
  let flags := withFlag (withFlag (withFlag v.flags 9 self) 2 spoof) 4 (ref != x.refSeq)
  let flags := withFlag flags 0 (spoof || s.flag B.FIX_INTEG_STS_INTERFERENCE)
  let hold := match st, f.lastFixed with | 4, some l => (epoch - l) / 10 ^ 6 | _, _ => 0
  let seq := (x.seq + 1) % 2 ^ 32
  let r := s.fixRec n seq st flags v.ratio v.ndd f.nfix hold v.rep p
  let f := { f with
    lastEpoch := some epoch, lastFixed := if st = fsFixed then some epoch else f.lastFixed
    obs := f.obs.filter (fun o => !(v.rep.signals.any (fun y => y.id == o.sig))) ++ v.rep.lastObs }
  let s := s.setFixCtx n ({ (x.setWork f) with
    seq := seq, st := st, last := some r, refSeq := ref
    lastPos := if st = fsNone then x.lastPos else some r
    skipped := v.flags.testBit 7 }).complete
  let s := s.writeFix r
  let s := { s with fix := { s.fix with
    solved := Sp.put s.fix.solved v.item.id (st, 64 * n + seq % 64)
    searches := s.fix.searches.filter (fun w => w.item.id != v.item.id) } }
  let s := if st = fsFixed then s.settleFixed n else s
  s.passOn v.item .gait

/-! ### FIX_SOLVE -/

/-- A later OBS item of the context waits in its flow at FIX (R164). -/
def State.laterObs (s : State) (it : Item) : Bool :=
  match (s.flowEntries it.ctx).dropWhile (fun e => e.item.id != it.id) with
  | _ :: r => r.any (fun e => e.item.obs)
  | [] => false

/-- Searches whose items are still at FIX. -/
def State.liveSearches (s : State) : List Solving :=
  s.fix.searches.filter (fun v => match s.entryOf? v.item.id with
    | some e => e.place == .at_ .fix
    | none => false)

/-- The update that finished at this instant: signals are searched where some ambiguities remain float and the baseline
allows it; a context that was skipped goes ahead (R155). -/
def State.afterUpdate (s : State) (v : Solving) (long : Bool) : State :=
  let float := !(s.fixCtx v.item.ctx).work.floats.isEmpty
  if v.updated ∧ float ∧ !long then
    let l := s.liveSearches
    let l' := if v.ahead then l.takeWhile Solving.ahead ++ [v] ++ l.dropWhile Solving.ahead else l ++ [v]
    { s with fix := { s.fix with searches := l' } }
  else s.finishSolve v

/-- The report's C/N0 by band (R179). -/
def ObsReport.cn0s (r : ObsReport) : List (Nat × Nat) :=
  r.signals.map (fun x => (x.rec_.signal.toNat % 2, 4 * x.rec_.cn0.toNat))

/-- The base's measurement moment against the machine's: Δt = CLK_BIAS − b_m in ps; 0 without a code solution (R149). -/
def clockOffset (b : BaseItem) (code : Option CodeSol) : Int :=
  match code with
  | some c => b.bias - c.bias
  | none => 0

/-- What an update leaves in State: counters, removals by satellite at the GPS time of now, uses (R171, R175, R178). -/
def State.noteUpdate (s : State) (n epoch : Nat) (u : Updated) : State :=
  let s := (s.countBy Reg.FIX_CNT_EXCL u.rm.length).released u.rel
  let now := gpsOf s.devNs
  let sats := (u.used.map satOf).eraseDups
  let x := s.fixCtx n
  let s := s.setFixCtx n { (x.setWork u.f) with
    used := x.used.filter (fun p => epoch ≤ p.2 + 10 ^ 9 && !sats.contains p.1) ++ sats.map (fun sat => (sat, epoch)) }
  { s with fix := { s.fix with removals := s.fix.removals ++ u.rm.map (fun m => (now, satOf m.id, n)) } }

/-- Solve an accepted epoch with the base item `b`, where there is one. A base item without a valid reference position has no
r_b: no double-difference update is made with it (DEDUCED, log entry 122). -/
def State.solve (s : State) (it : Item) (r : ObsReport) (b : Option BaseItem) (sol : FixSol) : State :=
  let n := it.ctx
  let epoch := r.epoch.toNat
  let x := s.fixCtx n
  let code := if r.codeOk then sol.code else none
  let f := s.prior x.filter epoch
  let at_ := s.machineAt f r code
  let slips := s.machineSlips f r
  let ref : Int × Int × Int := match b, s.refAt epoch with | some b, _ => b.ref | none, some q => q.1 | _, _ => (0, 0, 0)
  let long := (b.any BaseItem.refValid || (b.isNone && (s.refAt epoch).isSome)) && s.farBase at_ ref
  let dt := match b with | some b => clockOffset b code | none => 0
  let far := decide (1500000000 < dt.natAbs)
  let hit := x.used.any (fun u => s.suspect u.1 && epoch ≤ u.2 + 10 ^ 9)
  let flags := withFlag (withFlag (withFlag (withFlag 0 3 b.isNone) 6 far) 5 long) 1 hit
  let f := match code with | some c => if f.hasPos ∨ b.isNone ∨ far then f else f.startAt c | none => f
  let cands := match b with
    | some b => r.signals.filterMap (s.candidate f at_ (axesAt at_).up slips b sol.sats)
    | none => []
  let pivots := f.choosePivots cands
  let ps := cands.filter (fun c => pivots.any (fun p => p.2 == c.id))
  let dd := (s.choose f pivots cands).filterMap (fun c =>
    (ps.find? (fun p => groupOf p.id == groupOf c.id)).map (fun p => DdSig.mk c p dt))
  let upd := b.any BaseItem.refValid && !far && f.hasPos && 4 ≤ dd.length
  let s := s.countBy Reg.FIX_CNT_SLIP (x.filter.slipCount (slips ++ (cands.filter Cand.slip).map Cand.id))
  let s := s.noteCn0 n epoch r.cn0s
  let v (flags ndd : Nat) : Solving := ⟨it, r, flags, 0, ndd, code, upd, s.cyc, x.skipped, s.live⟩
  if upd then
    let u := s.ddUpdate f epoch flags long pivots ps dd ref
    (s.noteUpdate n epoch u).afterUpdate (v u.flags u.ndd) long
  else
    let q := s.noUpdate f epoch long slips
    let s := (s.released q.2).setFixCtx n ((s.fixCtx n).setWork q.1)
    s.finishSolve (v (withFlag flags 11 (q.2 != 0)) 0)

/-- FIX_SOLVE (R145 to R164): the epoch item `id` at FIX. It waits for its base epoch (R44); a stale one is not solved
(R164); one that fails a check of Table FIX-4 ends. -/
def execFixSolve (t : Nat) (id : Nat) (sol : FixSol) (s : State) : Out State :=
  let s := s.to t
  match s.entryOf? id, Sp.find s.fix.obs id with
  | some e, some ws =>
    let it := e.item
    let r := obsReport ws
    if e.place ≠ .at_ .fix ∨ !s.runs 6 blkSolver ∨ s.fix.searches.any (fun v => v.item.id == id) then ok s
    else if s.laterObs it then
      ok (((s.count Reg.FIX_CNT_STALE).setFlag B.FIX_STS_STALE true).endEpoch it 6 noCell .done .stale 0)
    else match s.obsCheck it.ctx (obsSlotEnd ws) r with
      | some st => ok (s.endEpoch it 6 noCell st .failed 0)
      | none =>
        match s.baseItem? r.epoch.toNat with
        | some b => ok (s.solve it r (some b) sol)
        | none =>
          if s.fix.late.contains r.epoch.toNat || s.fix.missing.any (fun m => r.epoch.toNat ≤ m) then
            ok (s.solve it r none sol)
          else ok s
  | _, _ => ok s

/-- BASE_EPOCH_TIMEOUT: a base epoch still missing 2 ms after the epoch is a base outage (R44). -/
def execBaseEpochTimeout (t : Nat) (epoch : BitVec 64) (s : State) : Out State :=
  let s := s.to t
  let e := epoch.toNat
  if devOfGps e + 2000000 ≤ s.devNs ∧ e % 50000000 = 0 ∧ (s.baseItem? e).isNone ∧ s.fix.missing.all (fun m => m < e) then
    ok { s with fix := { s.fix with missing := some e } }
  else ok s

/-! ### The ambiguity search (R153 to R155) -/

/-- R of an attempt: q_2 and max(q_1, 10^-6). -/
def Attempt.ratio (a : Attempt) (g : Gauss) (set : List Nat) : Fx × Fx :=
  let q (z : List Int) : Fx := g.distance (set.zip z)
  let a1 := q a.best
  let a2 := q a.next
  (max a1 a2, max (min a1 a2) (fxOf 1 (10 ^ 6)))

/-- R in 1/256 units. -/
def ratioField (q : Fx × Fx) : Nat := (q.1 * 256 / q.2).toNat

/-- An attempt passes both tests of R153. -/
def State.accepts (s : State) (a : Attempt) (q : Fx × Fx) : Bool :=
  decide ((s.param P.RATIO : Int) * q.2 ≤ q.1 * 10) && decide (s.param P.SR_MIN * 1000 ≤ a.rate)

/-- How a search ends: the accepted set with its integers, R, whether the node limit ended it. -/
structure Found where
  set   : Option (List (Nat × Int))
  ratio : Nat
  cap   : Bool
  deriving DecidableEq, Repr

/-- Attempts in turn (R153 to R155): `left` is the set, lowest elevation last; `drops` more removals are allowed, down to
`least` ambiguities; `nodes` may still be visited. None where the attempts named do not end the search. -/
def State.searchSet (s : State) (g : Gauss) (left : List Nat) (drops least nodes : Nat) (as : List Attempt) :
    Option Found :=
  match as with
  | [] => none
  | a :: r =>
    let q := a.ratio g left
    if a.best.length ≠ left.length ∨ a.next.length ≠ left.length then none
    else if nodes ≤ a.nodes then some ⟨none, ratioField q, true⟩
    else if s.accepts a q then some ⟨some (left.zip a.best), ratioField q, false⟩
    else
      match drops with
      | 0 => some ⟨none, ratioField q, false⟩
      | d + 1 =>
        if left.length ≤ max 1 least then some ⟨none, ratioField q, false⟩
        else s.searchSet g left.dropLast d least (nodes - a.nodes) r

/-- A search still may start on a unit: SEARCH_WAIT has not passed since the update. -/
def State.mayStart (s : State) (v : Solving) : Bool := s.cyc ≤ v.since + s.param P.SEARCH_WAIT * 50000

/-- What a search finds is applied to the filter, and the epoch ends. -/
def State.applySearch (s : State) (v : Solving) (q : Found) : State :=
  let n := v.item.ctx
  let x := s.fixCtx n
  match q.set with
  | some l =>
    let s := s.setFixCtx n (x.setWork (x.work.fix l))
    s.finishSolve { v with flags := withFlag v.flags 8 (l.length != x.work.floats.length), ratio := q.ratio }
  | none =>
    let s := if q.cap then s.count Reg.FIX_CNT_NODECAP else s
    s.finishSolve { v with flags := withFlag v.flags 10 q.cap, ratio := q.ratio }

/-- A search runs its attempts, where it may still start. -/
def State.search (s : State) (v : Solving) (attempts : List Attempt) : State :=
  if !s.mayStart v then s
  else
    let f := (s.fixCtx v.item.ctx).work
    match s.searchSet f.g f.floats (s.param P.PAR_DROP) (s.param P.MIN_FIX - f.nfix) (s.param P.SEARCH_NODES)
        attempts with
    | some q => s.applySearch v q
    | none => s

/-- AMBIGUITY_SEARCH (R153 to R155): the search of one context starts on a free unit within SEARCH_WAIT; searches start in
order. It runs with the parameters of its epoch (R23). -/
def execAmbiguitySearch (t : Nat) (ctx : BitVec 8) (attempts : List Attempt) (s : State) : Out State :=
  let s := s.to t
  match (s.liveSearches.take (s.get B.FIX_CAP_UNITS)).find? (fun v => v.item.ctx == ctx.toNat) with
  | none => ok s
  | some v =>
    if !s.runs 6 blkSearch then ok s
    else ok (s.under v.live (fun s => s.search v attempts))

/-- SEARCH_WAIT_EXPIRY: a search that has not started within SEARCH_WAIT is skipped (R155). -/
def execSearchWaitExpiry (t : Nat) (ctx : BitVec 8) (s : State) : Out State :=
  let s := s.to t
  match s.liveSearches.find? (fun v => v.item.ctx == ctx.toNat) with
  | none => ok s
  | some v => ok (s.under v.live (fun s =>
      if s.mayStart v ∨ !s.runs 6 blkSolver then s
      else (s.count Reg.FIX_CNT_SKIP).finishSolve { v with flags := withFlag v.flags 7 true }))

/-! ### Operations (R166, R167) -/

/-- The fix state of a context's filter. -/
def State.lastState (s : State) (n : Nat) : Nat := (s.fixCtx n).st

/-- Reset a context's filter to NONE; the record, the uses of satellites and SEQ of accepted epochs since the join stand, and
so does the last accepted epoch. -/
def State.resetFilter (s : State) (n : Nat) : State :=
  let x := s.fixCtx n
  let f := { Filter.reset with lastEpoch := x.filter.lastEpoch }
  s.setFixCtx n { x with bufs := (f, f), st := fsNone, skipped := false }

/-- RESET_CTX (R166). -/
def execResetCtx (t : Nat) (it : Item) (s : State) : Out State :=
  ok ((s.to t).runOp 6 it (fun i => .resetCtx t i) { Checks.pass with range := it.ctx != 0, state := s.joined it.ctx }
    (fun s it =>
      let st := s.lastState it.ctx
      (s.resetFilter it.ctx).finish it 6 .done ⟨st, 0, 0⟩))

/-- The NONE record READ_CTX reads for a context without a FIX item (Table FIX-12). -/
def noneRec (n : Nat) : FixRec :=
  { epoch := 0, context := BitVec.ofNat 8 n, state := 0, ndd := 0, nfix := 0, flags := 0, ratio := 0
    e := 0, n := 0, u := 0, ve := 0, vn := 0, vu := 0, pr := 0xFFFF#16, sigE := 0xFFFF#16, sigN := 0xFFFF#16
    sigU := 0xFFFF#16, holdMs := 0, odoS := 0, odoV := 0, mstatus := 0, selfDev := 0xFFFF#16, obsFlags := 0, seq := 0 }

/-- READ_CTX (R166). -/
def execReadCtx (t : Nat) (it : Item) (s : State) : Out State :=
  ok ((s.to t).runOp 6 it (fun i => .readCtx t i) { Checks.pass with range := it.ctx != 0, state := s.joined it.ctx }
    (fun s it =>
      let r := ((s.fixCtx it.ctx).last.getD (noneRec it.ctx)).words
      let w (k : Nat) : Nat := (r[k]?.getD 0).toNat
      s.finish it 6 .done ⟨w 1, w 4, w 7⟩))

/-- The contexts a REINIT selects: bit n mod 8 of byte n div 8 of the mask, or every joined context. -/
def reinitMask (d : Desc) (mask : List Byte) (n : Nat) : Bool :=
  if d.ptr = 0 ∧ d.len = 0 then true else (mask[n / 8]?.getD 0).getLsbD (n % 8)

/-- REINIT (R167): PTR 0 with LEN 0, or a 32-byte mask that the region has read. -/
def execReinit (t : Nat) (it : Item) (mask : List Byte) (s : State) : Out State :=
  ok ((s.to t).runOp 6 it (fun i => .reinit t i mask)
    { Checks.pass with
      range := it.d.context == 0 && ((it.d.ptr == 0 && it.d.len == 0) || it.d.len == 32)
      state := s.fix.reinit.isNone }
    (fun s it =>
      let l := s.joinedCtx.filter (reinitMask it.d mask)
      if l.isEmpty then s.finish it 6 .done
      else
        let s := s.startLong it 6 l.length 0
        let s := { s with fix := { s.fix with
          reinit := some ⟨it.handle.1, it.handle.2, argBit it.d.arg0 0, l, [], 0, 0⟩ } }
        s.setFlag B.FIX_STS_REINIT_ACTIVE true))

/-- A REINIT ends (R167). -/
def State.endReinit (s : State) (l : LongOp) (st : Status) : State :=
  let s := { s with fix := { s.fix with reinit := none } }
  (s.setFlag B.FIX_STS_REINIT_ACTIVE false).endLong l st

/-- No item of context `n` is at FIX. -/
def State.idleAtFix (s : State) (n : Nat) : Bool :=
  !s.dsp.entries.any (fun e => e.item.ctx == n && (match e.place with | .at_ .fix => true | _ => false))

/-- What has become of a context a WAIT_FIX REINIT waits for: it reached FIXED, left, or passed REINIT_WAIT since its
reset. -/
def State.reinitSettled (s : State) (w : Nat × Nat × Option Bool) : Option Bool :=
  match w.2.2 with
  | some v => some v
  | none => if w.2.1 + s.param P.REINIT_WAIT * cycS ≤ s.cyc then some false else none

/-- One unit of a REINIT (R167), at its safe point: the next reset, or the count of contexts that have settled. -/
def State.reinitUnit (s : State) (l : LongOp) : State :=
  match s.fix.reinit with
  | none => s
  | some q =>
    if q.ring ≠ l.ring ∨ q.tag ≠ l.tag then s
    else match q.left with
    | n :: rest =>
      if !s.idleAtFix n then s
      else
        let st := s.lastState n
        let hit : Nat := if st = fsFixed ∨ st = fsHeld then 1 else 0
        let s := if s.joined n then s.resetFilter n else s
        let q' : Reiniting :=
          if q.wait then { q with
            left := rest, waiting := q.waiting ++ [(n, s.cyc, if s.joined n then none else some false)] }
          else { q with left := rest, good := q.good + hit }
        let l' := { l with done := if q.wait then l.done else l.done + 1, word := q'.good + q'.bad * 2 ^ 16 }
        let s := { s with fix := { s.fix with reinit := some q' } }
        if rest.isEmpty ∧ !q.wait then s.endReinit l' .done else (s.putLong l').safePoint l'
    | [] =>
      let hits := q.waiting.filter (fun w => s.reinitSettled w == some true)
      let out := q.waiting.filter (fun w => s.reinitSettled w == some false)
      let wait := q.waiting.filter (fun w => s.reinitSettled w == none)
      let q' := { q with waiting := wait, good := q.good + hits.length, bad := q.bad + out.length }
      let l' := { l with done := l.done + hits.length + out.length, word := q'.good + q'.bad * 2 ^ 16 }
      let s := { s with fix := { s.fix with reinit := some q' } }
      if wait.isEmpty then s.endReinit l' .done else (s.putLong l').safePoint l'

/-! ### Capacity (R163, R165) -/

/-- Report the working lanes and EPOCH_CAP; a change of EPOCH_CAP sets CAP_CHANGED and posts an event to the SESSION
owner, whose code the spec does not give. -/
def State.setLanes (s : State) (w : Nat) : State :=
  let cap := min 2550 (w * 1000 / 3)
  let old := s.get B.FIX_CAP_EPOCH_CAP
  let s := (s.set B.FIX_CAP_LANES w).set B.FIX_CAP_EPOCH_CAP cap
  let s := s.reportOverload
  if old = cap then s else (s.setFlag B.FIX_STS_CAP_CHANGED true).freeEvent (some .session) 6

/-- What a FIX region reset leaves (R168): filters resume from their last completed buffer; a running search is lost, a
REINIT is over; TIM's exclusion of GNSS follows SPOOF_SUSPECT (R350). -/
def State.fixReset (s : State) : State :=
  let s := { s with fix := { s.fix with searches := [], reinit := none, anchors := [], failedAt := none } }
  (s.setFlag B.FIX_STS_REINIT_ACTIVE false).setFlag B.TIM_SRC_STS_EXCL_SPOOF (s.flag B.FIX_INTEG_STS_SPOOF_SUSPECT)

end Sys2Proof.Machine
end

