-- ==== Sys2Proof/Machine/AirBytes.lean ====
section
/-!
DEFINITION. The byte layouts of AIR: head-link packets (R296), air frames (R280, R304, R311), stop-window fields (R277),
schedule files (R283, R284), and the payload of a plan (R263).
-/

namespace Sys2Proof.Machine

/-- Bits of a byte string as a field of `w` bits from bit `lo` of the number it spells. -/
def fieldAt (bs : List Byte) (off n lo w : Nat) : BitVec w := BitVec.ofNat w (leAt bs off n / 2 ^ lo)

/-! ### Head-link packets (R296, Table AIR-12) -/

/-- A packet between K27.7 and K29.7. -/
structure Packet8b where
  ptype   : Nat
  seq     : Nat
  arg     : Nat
  payload : List Byte
  deriving DecidableEq, Repr

/-- A packet from its characters: header, LEN payload bytes, CRC-32C; none where LEN disagrees with the characters received
or the CRC is bad. -/
def Packet8b.ofBytes (bs : List Byte) : Option Packet8b :=
  let len := leAt bs 2 2
  if bs.length = 12 + len ∧ len ≤ 2047 ∧ crc32c (bs.take (8 + len)) = BitVec.ofNat 32 (leAt bs (8 + len) 4) then
    some ⟨leAt bs 0 1, leAt bs 1 1, leAt bs 4 4, (bs.drop 8).take len⟩
  else none

/-- The characters of a packet. -/
def Packet8b.bytes (p : Packet8b) : List Byte :=
  let b := leBytes 1 p.ptype ++ leBytes 1 p.seq ++ leBytes 2 p.payload.length ++ leBytes 4 p.arg ++ p.payload
  b ++ leBytes 4 (crc32c b).toNat

/-! ### Air frames (R280, Table AIR-5) -/

/-- A header from a frame's bytes. -/
def AirHdr.ofBytes (bs : List Byte) : AirHdr where
  ftype := fieldAt bs 0 1 0 4
  dir := (leAt bs 0 1).testBit 4
  relayed := (leAt bs 0 1).testBit 5
  compat := (leAt bs 0 1).testBit 6
  context := fieldAt bs 1 1 0 8
  len := fieldAt bs 2 2 0 11
  fcnt := fieldAt bs 4 4 0 32
  origin := fieldAt bs 8 1 0 8
  target := fieldAt bs 9 1 0 8
  hop := fieldAt bs 0xA 1 0 2
  span := fieldAt bs 0xB 1 0 3
  reserved := (leAt bs 0 1).testBit 7 || leAt bs 2 2 / 2048 != 0 || leAt bs 0xA 1 / 4 != 0 || leAt bs 0xB 1 / 8 != 0

/-- The bytes of a header, reserved fields 0. -/
def AirHdr.bytes (h : AirHdr) : List Byte :=
  leBytes 1 (h.ftype.toNat + (if h.dir then 16 else 0) + (if h.relayed then 32 else 0) + (if h.compat then 64 else 0))
    ++ leBytes 1 h.context.toNat ++ leBytes 2 h.len.toNat ++ leBytes 4 h.fcnt.toNat ++ leBytes 1 h.origin.toNat
    ++ leBytes 1 h.target.toNat ++ leBytes 1 h.hop.toNat ++ leBytes 1 h.span.toNat

/-- A payload opens to exactly LEN bytes. -/
def Opening.fit (o : Opening) (len : Nat) : Opening := { o with plain := fitBytes len o.plain }

/-- The layers of a frame: each wrapper's payload is the next layer's frame. A layer whose GCM is not at hand verifies
under no key. -/
def layersOf (bs : List Byte) (os : List Opening) : List AirLayer :=
  let h := AirHdr.ofBytes bs
  match os with
  | [] => [⟨bs.length, h, ⟨false, false, false, []⟩⟩]
  | o :: r =>
    let o := o.fit h.len.toNat
    ⟨bs.length, h, o⟩ :: (if h.relayed then layersOf o.plain r else [])

/-- The IV of an operation (Table AIR-20): SFN or KEY_SFN, COUNT, DIR, CLASS. -/
def airIv (sfn count : Nat) (down : Bool) (cls : Nat) : List Byte :=
  leBytes 6 sfn ++ leBytes 4 count ++ leBytes 2 ((if down then 1 else 0) + cls * 2)

/-- The session message of a payload (R311). -/
def SessMsg.ofBytes (bs : List Byte) : SessMsg :=
  match leAt bs 0 1, bs.length with
  | 1, 26 => .joinReq ((leAt bs 1 1).testBit 0) ((leAt bs 1 1).testBit 1) (fieldAt bs 2 8 0 64) (fieldAt bs 10 16 0 128)
  | 4, 1 => .joinConfirm
  | 5, 2 => .leave (fieldAt bs 1 1 0 8)
  | 8, 1 => .present
  | _, _ => .unknown

/-! ### Stop-window fields (R277, Table AIR-3) -/

/-- Bytes 0x00–0x12 of a stop-window field: TYPE 0 GO, 1 STOP, 2 CALL. -/
def windowField (type frame sfn : Nat) (body : List Byte) : List Byte :=
  leBytes 1 (type + frame * 4) ++ leBytes 4 sfn ++ (body ++ leBytes 14 0).take 14

/-! ### Schedule files (R283, R284) -/

/-- A span type from its code. -/
def SpanType.ofCode (n : Nat) : SpanType :=
  match n with
  | 0 => .free | 1 => .uplink | 2 => .downlink | 3 => .relay | 4 => .bulk | 5 => .sleeper | 6 => .beacon | _ => .reserved

/-- The code of a span type. -/
def SpanType.code : SpanType → Nat
  | .free => 0 | .uplink => 1 | .downlink => 2 | .relay => 3 | .bulk => 4 | .sleeper => 5 | .beacon => 6 | .reserved => 7

/-- A schedule entry from its 8 bytes (Table AIR-8). -/
def SchedEntry.ofBytes (bs : List Byte) : SchedEntry where
  type := SpanType.ofCode (leAt bs 0 1 % 8)
  cont := (leAt bs 0 1).testBit 3
  bulkUp := (leAt bs 0 1).testBit 4
  context := fieldAt bs 1 1 0 8
  period := fieldAt bs 2 2 0 16
  phase := fieldAt bs 4 2 0 16

/-- The bytes of a schedule entry. -/
def SchedEntry.bytes (e : SchedEntry) : List Byte :=
  leBytes 1 (e.type.code + (if e.cont then 8 else 0) + (if e.bulkUp then 16 else 0)) ++ leBytes 1 e.context.toNat
    ++ leBytes 2 e.period.toNat ++ leBytes 2 e.phase.toNat ++ leBytes 2 0

/-- `n` schedule entries one after another. -/
def entriesIn (n : Nat) (bs : List Byte) : List SchedEntry :=
  match n with
  | 0 => []
  | n + 1 => SchedEntry.ofBytes bs :: entriesIn n (bs.drop 8)

/-- The parts of the heads `hs`, 300 entries each, in that order. -/
def headsIn (hdr : List Byte) (hs : List Nat) (bs : List Byte) : List SchedHead :=
  match hs with
  | [] => []
  | h :: r => ⟨h, leAt hdr 0xC 2 / 4 ^ h % 4, leAt hdr (0xE + h) 1, entriesIn 300 bs⟩ :: headsIn hdr r (bs.drop 2400)

/-- The bytes "DZAS". -/
def schedMagic : List Byte := [0x44, 0x5A, 0x41, 0x53]

/-- A schedule file from its bytes (Table AIR-9). -/
def SchedFile.ofBytes (bs : List Byte) : SchedFile :=
  let heads := (List.range 8).filter (fun h => (leAt bs 0xA 1).testBit h)
  let fileLen := 64 + 2400 * heads.length
  { headerOk := bs.take 4 == schedMagic && leAt bs 4 2 == 0x40 && leAt bs 0x18 4 == fileLen && bs.length == fileLen
    crcOk := crc32c (bs.drop 64) == BitVec.ofNat 32 (leAt bs 0x1C 4)
    format := fieldAt bs 6 2 0 16
    sched := ⟨leAt bs 8 2, headsIn bs heads (bs.drop 64)⟩ }

/-! ### Plans (R263) -/

/-- A signed number in `n` bytes, two's complement. -/
def leInt (n : Nat) (v : Int) : List Byte := leBytes n (v % 2 ^ (8 * n)).toNat

/-- A knot (Table GAIT-7). -/
def Knot.bytes (q : Knot) : List Byte := leBytes 3 q.dur ++ leInt 3 q.jerk ++ leInt 2 q.endV

/-- The payload of a plan (Tables GAIT-6, GAIT-7). -/
def Plan.bytes (p : Plan) : List Byte :=
  leBytes 2 p.seq ++ leBytes 1 p.knots.length ++ leBytes 1 p.flags ++ leBytes 2 p.track ++ leBytes 2 (p.tick % 2 ^ 14)
    ++ leBytes 4 p.crc ++ leBytes 2 (p.grace % 2 ^ 14) ++ leBytes 2 0 ++ leBytes 8 p.t0
    ++ leInt 4 p.s0 ++ leInt 2 p.v0 ++ leInt 2 p.a0 ++ (p.knots.map Knot.bytes).flatten

/-- The NO_PLAN header (R263): the PLAN_SEQ of the latest plan handed over, NKNOT 0, every later field zero. -/
def noPlanBytes (seq : Nat) : List Byte := leBytes 2 seq ++ leBytes 1 0 ++ leBytes 1 1 ++ leBytes 28 0

end Sys2Proof.Machine
end

