-- ==== Sys2Proof/Machine/GaitKin.lean ====
section
/-!
DEFINITION. Tracks and the motion along them (R248, R254, R258 to R262). Positions along and across a track are in units
of 2^-20 mm; motion is exact: s in 1/(6·10^18) mm, v in 1/(2·10^12) mm/s, a in 10^-6 mm/s², with times in µs.
-/

namespace Sys2Proof.Machine

/-- `n` / `d` rounded, halves away from zero (R258). -/
def roundDiv (n : Int) (d : Nat) : Int :=
  if 0 ≤ n then (2 * n + d) / (2 * d) else -((2 * (-n) + d) / (2 * d))

/-! ### Tracks (R248) -/

/-- Length of a segment in units of 2^-20 mm. -/
def segLen (a b : Int × Int) : Nat :=
  let dx := b.1 - a.1
  let dy := b.2 - a.2
  isqrt ((dx * dx + dy * dy).toNat * 2 ^ 40)

/-- The segments of a track from arc length `s` on: start, end, arc length at the start, length. -/
def segsFrom (s : Nat) (ps : List (Int × Int)) : List ((Int × Int) × (Int × Int) × Nat × Nat) :=
  match ps with
  | a :: b :: r => (a, b, s, segLen a b) :: segsFrom (s + segLen a b) (b :: r)
  | _ => []

/-- The segments of a track. -/
def Track.segs (tr : Track) : List ((Int × Int) × (Int × Int) × Nat × Nat) := segsFrom 0 tr.pts

/-- Total length of a track in units of 2^-20 mm. -/
def Track.len (tr : Track) : Nat := (tr.segs.map (fun g => g.2.2.2)).sum

/-- Total length in whole mm, rounded down. -/
def Track.lenMm (tr : Track) : Nat := tr.len / 2 ^ 20

/-- The segment that holds `s`: at a vertex the one that begins there (R248). -/
def Track.segAt (tr : Track) (s : Int) : Option ((Int × Int) × (Int × Int) × Nat × Nat) :=
  match (tr.segs.filter (fun g => decide (((g.2.2.1 : Nat) : Int) ≤ s))).getLast? with
  | some g => some g
  | none => tr.segs.head?

/-- The track point at `s`, in units of 2^-20 mm. -/
def Track.point (tr : Track) (s : Int) : Pt :=
  match tr.segAt s with
  | some (a, b, s0, l) =>
    let u := s - (s0 : Int)
    (a.1 * padUnit + (b.1 - a.1) * padUnit * u / (max l 1 : Nat), a.2 * padUnit + (b.2 - a.2) * padUnit * u / (max l 1 : Nat))
  | none => (0, 0)

/-- The direction of the track at `s`, as an east and a north part. -/
def Track.dirAt (tr : Track) (s : Int) : Int × Int :=
  match tr.segAt s with
  | some (a, b, _, _) => (b.1 - a.1, b.2 - a.2)
  | none => (0, 1)

/-- The angle from north of a direction of non-negative parts, in 0.01°, rounded, halves up. -/
def quarterAngle (x y : Int) : Nat :=
  let below (h : Nat) : Bool := 0 ≤ x * cosOf h - y * sinOf h
  let h := (List.range 14).foldl (fun (h : Nat) k =>
    let c := h + 2 ^ (13 - k)
    if c ≤ 9000 ∧ below c then c else h) 0
  if h < 9000 ∧ y * sinOf (h + 1) - x * cosOf (h + 1) ≤ x * cosOf h - y * sinOf h then h + 1 else h

/-- HEADING of a direction: 0.01° clockwise from north, 0 to 35,999 (R262). -/
def headingOf (d : Int × Int) : Nat :=
  let (x, y) := d
  let h :=
    if 0 ≤ x ∧ 0 ≤ y then quarterAngle x y
    else if 0 ≤ x then 9000 + quarterAngle (-y) x
    else if y < 0 then 18000 + quarterAngle (-x) (-y)
    else 27000 + quarterAngle y (-x)
  h % 36000

/-- The nearest point of a track to `p` with arc length within `lo` to `hi`: distance squared and arc length. -/
def Track.nearest (tr : Track) (p : Pt) (lo hi : Int) : Option (Nat × Int) :=
  tr.segs.foldl (fun (o : Option (Nat × Int)) g =>
    let (a, b, s0, l) := g
    let from_ := max 0 (lo - (s0 : Int))
    let to_ := min (l : Int) (hi - (s0 : Int))
    if to_ < from_ ∨ l = 0 then o
    else
      let dx := (b.1 - a.1) * padUnit
      let dy := (b.2 - a.2) * padUnit
      let t := ((p.1 - a.1 * padUnit) * dx + (p.2 - a.2 * padUnit) * dy) / (l : Int)
      let t := max from_ (min to_ t)
      let ex := p.1 - (a.1 * padUnit + dx * t / (l : Int))
      let ey := p.2 - (a.2 * padUnit + dy * t / (l : Int))
      let q := (ex * ex + ey * ey).toNat
      match o with
      | none => some (q, (s0 : Int) + t)
      | some (r, _) => if q < r then some (q, (s0 : Int) + t) else o) none

/-- Directions `u` and `v` differ by at most `deg` degrees, 0 to 90. -/
def withinDeg (deg : Nat) (u v : Int × Int) : Bool :=
  let d := u.1 * v.1 + u.2 * v.2
  let c := cosOf (deg * 100)
  0 ≤ d && c * c * ((u.1 * u.1 + u.2 * u.2) * (v.1 * v.1 + v.2 * v.2)) ≤ d * d * 2 ^ 96

/-- Directions differ by at most 30° (R249). -/
def within30 (u v : Int × Int) : Bool :=
  let d := u.1 * v.1 + u.2 * v.2
  0 < d && 3 * ((u.1 * u.1 + u.2 * u.2) * (v.1 * v.1 + v.2 * v.2)) ≤ 4 * d * d

/-- Consecutive segments of a track turn by at most 30°. -/
def turnsOk (ps : List (Int × Int)) : Bool :=
  match ps with
  | a :: b :: c :: r => within30 (b.1 - a.1, b.2 - a.2) (c.1 - b.1, c.2 - b.2) && turnsOk (b :: c :: r)
  | _ => true

/-- Every segment is from 10 to 100,000 mm long (R249). -/
def segsOk (ps : List (Int × Int)) : Bool :=
  match ps with
  | a :: b :: r =>
    let q := (b.1 - a.1) * (b.1 - a.1) + (b.2 - a.2) * (b.2 - a.2)
    decide (100 ≤ q) && decide (q ≤ 10000000000) && segsOk (b :: r)
  | _ => true

/-- The track of a record. -/
def TrackRec.track (x : TrackRec) : Track := ⟨x.id.toNat, x.crc.toNat, x.pts.map (fun p => (p.1.toInt, p.2.toInt))⟩

/-- The checks of R249 on the record itself. -/
def TrackRec.legal (x : TrackRec) (len : Nat) : Bool :=
  let ps := x.track.pts
  x.id != 0 && 2 ≤ x.npt.toNat && x.npt.toNat ≤ 1024 && x.pts.length == x.npt.toNat && len == 16 + 8 * x.npt.toNat
    && x.crcOk && segsOk ps && turnsOk ps && x.track.len ≤ (2 ^ 31 - 1) * 2 ^ 20

/-! ### Motion -/

/-- A state of motion: s, v, a in the units above. -/
structure Kin where
  s : Int
  v : Int
  a : Int
  deriving DecidableEq, Repr

/-- Units of a millimetre, a mm/s and a mm/s². -/
def kinS : Nat := 6 * 10 ^ 18
/-- Units of a mm/s. -/
def kinV : Nat := 2 * 10 ^ 12
/-- Units of a mm/s². -/
def kinA : Nat := 10 ^ 6

/-- A state from whole mm, mm/s and mm/s². -/
def Kin.ofMm (s v a : Int) : Kin := ⟨s * kinS, v * kinV, a * kinA⟩

/-- `t` µs under jerk `j` (the phase formulas of file 10). -/
def Kin.step (k : Kin) (j : Int) (t : Nat) : Kin :=
  ⟨k.s + 3 * k.v * t + 3 * k.a * t * t + j * t * t * t, k.v + 2 * k.a * t + j * t * t, k.a + j * t⟩

/-- The end of a knot: the integrated state with END_V taken (R264). -/
def Kin.knot (k : Kin) (q : Knot) : Kin := { k.step q.jerk q.dur with v := q.endV * kinV }

/-- The state `t` µs after the first of the knots begins; at rest after the last. -/
def Kin.walk (k : Kin) (qs : List Knot) (t : Nat) : Kin :=
  match qs with
  | [] => ⟨k.s, 0, 0⟩
  | q :: r => if t < q.dur then k.step q.jerk t else (k.knot q).walk r (t - q.dur)

/-- The states at the knots' ends. -/
def Kin.ends (k : Kin) (qs : List Knot) : List Kin :=
  match qs with
  | [] => []
  | q :: r => k.knot q :: (k.knot q).ends r

/-- The duration of knots in µs. -/
def knotsDur (qs : List Knot) : Nat := (qs.map Knot.dur).sum

/-- The knots' final state. -/
def Kin.last (k : Kin) (qs : List Knot) : Kin := ((k.ends qs).getLast?).getD k

/-- The state of a plan at device time `dev` in ns, from T0 on. -/
def Plan.at_ (p : Plan) (dev : Nat) : Kin := (Kin.ofMm p.s0 p.v0 p.a0).walk p.knots ((dev - p.t0) / 1000)

/-- Device time at which a plan ends. -/
def Plan.stop (p : Plan) : Nat := p.t0 + knotsDur p.knots * 1000

/-- s in whole mm, v in mm/s, rounded (R258). -/
def Kin.sMm (k : Kin) : Int := roundDiv k.s kinS
/-- v in mm/s. -/
def Kin.vMm (k : Kin) : Int := roundDiv k.v kinV
/-- a in mm/s². -/
def Kin.aMm (k : Kin) : Int := roundDiv k.a kinA
/-- s in units of 2^-20 mm. -/
def Kin.sQ (k : Kin) : Int := roundDiv (k.s * 2 ^ 20) kinS

/-- The pieces of a stop from speed `v` ≥ 0 with acceleration `a` along it, under D and J (Table GAIT-4), in µs: jerk
−J (or +J where braking harder than D) to the peak, none, +J to rest. -/
def stopPieces (v a : Int) (d j : Nat) : List (Int × Nat) :=
  let j' : Int := (max j 1 : Nat)
  let d' : Int := (max d 1 : Nat)
  if a < -d' then
    let t1 := ((-d' - a) * 1000000 / j').toNat
    -- speed left after the leading phase, in 1/(2·10^12) mm/s
    let k := Kin.step ⟨0, v * kinV, a * kinA⟩ j' t1
    let tail := d' * d' * 10 ^ 12 / j'
    let t2 := ((k.v - tail) / (2 * d' * 1000000)).toNat
    [(j', t1), (0, t2), (j', (d' * 1000000 / j').toNat)]
  else
    let p2 := (2 * j' * v + a * a).toNat
    let p := isqrt (p2 * 10 ^ 12 / 2)
    if p ≤ d' * 1000000 then
      [(-j', ((a * 1000000 + p) / j').toNat), (j', p / j'.toNat)]
    else
      let t1 := ((a + d') * 1000000 / j').toNat
      let k := Kin.step ⟨0, v * kinV, a * kinA⟩ (-j') t1
      let tail := d' * d' * 10 ^ 12 / j'
      let t2 := ((k.v - tail) / (2 * d' * 1000000)).toNat
      [(-j', t1), (0, t2), (j', (d' * 1000000 / j').toNat)]

/-- The rest point in whole mm of a stop begun at state `k` at D and J (R251, R260, R261). -/
def Kin.stopMm (k : Kin) (d j : Nat) : Int :=
  let sg : Int := if k.v < 0 then -1 else 1
  let v := sg * roundDiv k.v kinV
  let a := sg * roundDiv k.a kinA
  let run := (stopPieces v a d j).foldl (fun (x : Kin) p => x.step p.1 p.2) ⟨0, v * kinV, a * kinA⟩
  k.sMm + sg * run.sMm

/-! ### Samples (R262) -/

/-- A sample of a profile at state `k`. -/
def Track.sample (tr : Track) (k : Kin) : Sample :=
  let p := tr.point k.sQ
  ⟨BitVec.ofInt 32 (roundDiv p.1 (2 ^ 20)), BitVec.ofInt 32 (roundDiv p.2 (2 ^ 20)),
    BitVec.ofNat 16 (headingOf (tr.dirAt k.sQ)), BitVec.ofInt 16 k.vMm⟩

/-- NSAMP (R262). -/
def sampleCount (qs : List Knot) : Nat := (knotsDur qs + 9999) / 10000 + 1

/-- The states of a profile at its ticks. -/
def sampleStates (k : Kin) (qs : List Knot) : List Kin :=
  (List.range (sampleCount qs)).map (fun i => k.walk qs (i * 10000))

end Sys2Proof.Machine
end

