-- ==== Sys2Proof/Machine/Profile.lean ====
section
/-!
DEFINITION. The profile GAIT builds (R256 to R260): phases, stretches of one speed ceiling, reversal, the horizon. Along
the direction of travel distances are in 10^-6 mm, speeds in 10^-6 mm/s and times in ns, where the spec computes in FP64
(DESIGN CHOICE, log entry 33).
-/

namespace Sys2Proof.Machine

/-- A piece of a profile: the sign and size of its jerk in mm/s³, its duration in ns. -/
abbrev Piece := Int × Nat

/-- Units of a mm, and of a mm/s. -/
abbrev milli : Nat := 10 ^ 6

/-! ### Changes of speed (Table GAIT-4) -/

/-- The largest accelerations while speed rises and while it falls, and the largest jerk (R250). -/
structure Dyn where
  up   : Nat
  down : Nat
  j    : Nat
  deriving DecidableEq, Repr

/-- The dynamics of a context's limits. -/
def Limits.dyn (l : Limits) : Dyn := ⟨l.aMax, l.dMax, l.jMax⟩

/-- A of a change of speed from `va` to `vb`. -/
def Dyn.acc (d : Dyn) (va vb : Nat) : Nat := if va ≤ vb then d.up else d.down

/-- tj and ta of a change of speed. -/
def Dyn.times (d : Dyn) (va vb : Nat) : Nat × Nat :=
  let a := d.acc va vb
  let dv := if va ≤ vb then vb - va else va - vb
  if a * a * milli ≤ dv * d.j then (a * 10 ^ 9 / d.j, dv * 1000 / a - a * 10 ^ 9 / d.j)
  else (isqrt (dv * 10 ^ 12 / d.j), 0)

/-- ds of a change of speed. -/
def Dyn.dist (d : Dyn) (va vb : Nat) : Nat :=
  let (tj, ta) := d.times va vb
  (va + vb) * (2 * tj + ta) / (2 * 10 ^ 9)

/-- The three phases of a change of speed. -/
def Dyn.change (d : Dyn) (va vb : Nat) : List Piece :=
  let (tj, ta) := d.times va vb
  let j : Int := if va ≤ vb then (d.j : Int) else -(d.j : Int)
  [(j, tj), (0, ta), (-j, tj)]

/-- The largest number from `lo` on that bisection over `b` bits finds `ok`; `lo` itself is not tried. -/
def largest (ok : Nat → Bool) (b lo : Nat) : Nat :=
  match b with
  | 0 => lo
  | b + 1 => largest ok b (if ok (lo + 2 ^ b) then lo + 2 ^ b else lo)

/-! ### Stretches (R256) -/

/-- A stretch of one ceiling: its length, and its ceiling in mm/s. -/
structure Stretch where
  len : Nat
  cap : Nat
  deriving DecidableEq, Repr

/-- Join neighbouring stretches of one ceiling. -/
def joinStretches (l : List Stretch) : List Stretch :=
  match l with
  | [] => []
  | x :: r =>
    match joinStretches r with
    | y :: q => if x.cap = y.cap then ⟨x.len + y.len, x.cap⟩ :: q else x :: y :: q
    | [] => [x]

/-- The largest speed in mm/s at the entry of a stretch from which `w` mm/s is reached at its end. -/
def Dyn.entry (d : Dyn) (x : Stretch) (w : Nat) : Nat :=
  largest (fun e => e ≤ x.cap && d.dist (e * milli) (w * milli) ≤ x.len) 14 (min w x.cap)

/-- The speed at the end of each stretch: at no more than the ceilings on both sides, and low enough for what follows;
rest after the last. -/
def Dyn.exits (d : Dyn) (l : List Stretch) : List Nat :=
  match l with
  | [] => []
  | [_] => [0]
  | x :: y :: r =>
    let b := d.exits (y :: r)
    min x.cap (d.entry y (b.headD 0)) :: b

/-- The speed in mm/s at the end of a stretch that is entered at `u`: `w`, or the nearest to it that the length allows. -/
def Dyn.reach (d : Dyn) (u len w : Nat) : Nat :=
  if u ≤ w * milli then
    largest (fun x => x ≤ w && d.dist u (x * milli) ≤ len) 14 (min w ((u + milli - 1) / milli))
  else if d.dist u (w * milli) ≤ len then w
  else u / milli - largest (fun y => y + w ≤ u / milli && d.dist u ((u / milli - y) * milli) ≤ len) 14 0

/-- The pieces of one stretch from `u` to `w` mm/s: up to the largest peak that fits, a cruise that fills it, down. -/
def Dyn.stretch (d : Dyn) (u : Nat) (x : Stretch) (w : Nat) : List Piece :=
  let v := w * milli
  let lo := max u v
  let fits (p : Nat) : Bool := d.dist u p + d.dist p v ≤ x.len
  if !fits lo then d.change u v
  else
    let base := (lo + milli - 1) / milli
    let p := if base ≤ x.cap ∧ fits (base * milli) then
        largest (fun q => q ≤ x.cap && fits (q * milli)) 14 base * milli else lo
    let rest := x.len - d.dist u p - d.dist p v
    d.change u p ++ [(0, if p = 0 then 0 else rest * 10 ^ 9 / p)] ++ d.change p v

/-- The pieces of a motion over stretches, each with the speed wanted at its end. -/
def Dyn.runs (d : Dyn) (u : Nat) (l : List (Stretch × Nat)) : List Piece :=
  match l with
  | [] => []
  | (x, w) :: r =>
    let w := if r.isEmpty then w else d.reach u x.len w
    d.stretch u x w ++ d.runs (w * milli) r

/-- The pieces of a motion over stretches, entered at `u` with no acceleration. -/
def Dyn.run (d : Dyn) (u : Nat) (l : List Stretch) : List Piece := d.runs u (l.zip (d.exits l))

/-! ### The start (R256) -/

/-- Lengthen the first stretch by `dx`, or shorten the first ones. -/
def shiftStretches (l : List Stretch) (dx : Int) : List Stretch :=
  match l with
  | [] => []
  | x :: r =>
    let n := (x.len : Int) + dx
    if 0 ≤ n then { x with len := n.toNat } :: r else
      match r with
      | [] => [{ x with len := 0 }]
      | _ => shiftStretches r n

/-- The distance of `t` ns from speed `v` with acceleration `a` in mm/s² under jerk `j`. -/
def phaseDist (v a j : Int) (t : Nat) : Int :=
  v * t / 10 ^ 9 + a * t * t / (2 * 10 ^ 12) + j * t * t * t / (6 * 10 ^ 21)

/-- The speed after `t` ns. -/
def phaseSpeed (v a j : Int) (t : Nat) : Int := v + a * t / 1000 + j * t * t / (2 * 10 ^ 12)

/-- The motion with a leading phase that brings `a` to 0 at J_MAX. -/
def Dyn.leadOut (d : Dyn) (v a : Int) (l : List Stretch) : List Piece :=
  let j : Int := if 0 < a then -(d.j : Int) else d.j
  let t := a.natAbs * 10 ^ 9 / d.j
  (j, t) :: d.run (phaseSpeed v a j t).toNat (shiftStretches l (-phaseDist v a j t))

/-- The motion from speed `v` and acceleration `a` in mm/s² along it: where `a` points toward the next change of speed, the
ramp it lies on goes on, after a phase that brings it to A where it exceeds it; else a leading phase brings it to 0. -/
def Dyn.motion (d : Dyn) (v a : Int) (l : List Stretch) : List Piece :=
  if a = 0 then d.run v.toNat l
  else
    let sg : Int := if 0 < a then 1 else -1
    let lim : Nat := if 0 < a then d.up else d.down
    let t1 : Nat := (a.natAbs - lim) * 10 ^ 9 / d.j
    let first : List Piece := if t1 = 0 then [] else [(-sg * d.j, t1)]
    let v1 := phaseSpeed v a (-sg * d.j) t1
    let d1 := phaseDist v a (-sg * d.j) t1
    let a1 : Int := sg * (min a.natAbs lim : Nat)
    let t : Nat := a1.natAbs * 10 ^ 9 / d.j
    -- where the ramp began with no acceleration
    let u := v1 - a1 * t / 1000 + sg * d.j * t * t / (2 * 10 ^ 12)
    let back := phaseDist u 0 (sg * d.j) t
    if u < 0 then d.leadOut v a l
    else match d.run u.toNat (shiftStretches l (back - d1)) with
      | (j, t0) :: r => if j = sg * d.j ∧ t ≤ t0 then first ++ (j, t0 - t) :: r else d.leadOut v a l
      | [] => d.leadOut v a l

/-! ### Knots (R258, R263) -/

/-- Join neighbouring pieces without jerk, and drop pieces of no duration. -/
def joinPieces (l : List Piece) : List Piece :=
  match l with
  | [] => []
  | (j, t) :: r =>
    match joinPieces r with
    | (i, u) :: q => if t = 0 then (i, u) :: q else if j = 0 ∧ i = 0 then (0, t + u) :: q else (j, t) :: (i, u) :: q
    | [] => if t = 0 then [] else [(j, t)]

/-- The knots of a duration of `us` µs under jerk `j` from `k`: more than one where it exceeds 24 bits. -/
def knotRun (n : Nat) (k : Kin) (j : Int) (us : Nat) : List Knot :=
  match n with
  | 0 => []
  | n + 1 =>
    if us = 0 then []
    else
      let t := min us (2 ^ 24 - 1)
      let k := k.step j t
      ⟨t, j, k.vMm⟩ :: knotRun n k j (us - t)

/-- The knots of pieces from `k` along direction `sg`: durations rounded to whole µs, each knot's state computed again
from them (R258). -/
def knotsOf (k : Kin) (sg : Int) (l : List Piece) : List Knot :=
  match l with
  | [] => []
  | (j, t) :: r =>
    let us := (t + 500) / 1000
    knotRun 65 k (sg * j) us ++ knotsOf (k.step (sg * j) us) sg r

/-! ### The whole profile (R259, R260) -/

/-- What a profile is built from: the start, the rest point of a stop begun there, whether it turns back there, the goal,
the probe step in mm, and the ceilings of its stretches from where it last sets out. -/
structure Course where
  start : Kin
  stop  : Int
  turn  : Bool
  goal  : Int
  step  : Nat
  caps  : List Nat
  deriving DecidableEq, Repr

/-- Where the motion toward the goal sets out, in mm: the start, or the rest point where it turns back. -/
def Course.base (c : Course) : Int := if c.turn ∧ c.start.v ≠ 0 then c.stop else c.start.sMm

/-- The direction toward the goal: from rest that of the goal, else that of the motion, or the other one after a turn. -/
def Course.dir (c : Course) : Int :=
  if c.start.v = 0 ∨ c.turn then (if c.goal < c.base then -1 else 1) else (if c.start.v < 0 then -1 else 1)

/-- Distance from the base to the goal in mm. -/
def Course.span (c : Course) : Nat := (c.goal - c.base).natAbs

/-- Distance in mm that every profile of one motion covers: that of the stop. -/
def Course.least (c : Course) : Nat := if c.turn ∨ c.start.v = 0 then 0 else (c.stop - c.start.sMm).natAbs

/-- The stretches of a motion of `mm` from the base. -/
def Course.stretches (c : Course) (mm : Nat) : List Stretch :=
  let step := max c.step 1
  joinStretches (c.caps.zipIdx.filterMap (fun p =>
    if p.2 * step < mm then some ⟨min step (mm - p.2 * step) * milli, p.1⟩ else none))

/-- The knots of a profile that rests `mm` from the base (R256, R260): one motion; or a stop, a rest of `pause` ms, and a
motion the other way. -/
def Course.knots (c : Course) (l : Limits) (mm : Nat) : List Knot :=
  let k := c.start
  let d := l.dyn
  if c.turn ∧ k.v ≠ 0 then
    let sg : Int := if k.v < 0 then -1 else 1
    let brake := knotsOf k sg ((stopPieces (sg * k.vMm) (sg * k.aMm) l.dMax l.jMax).map (fun p => (p.1, p.2 * 1000)))
    let k1 : Kin := ⟨(k.last brake).s, 0, 0⟩
    let rest : List Knot := if l.pause = 0 then [] else [⟨l.pause * 1000, 0, 0⟩]
    brake ++ rest ++ knotsOf k1 c.dir (joinPieces (d.run 0 (c.stretches mm)))
  else
    let v := c.dir * k.vMm * milli
    knotsOf k c.dir (joinPieces (d.motion v (c.dir * k.aMm) (c.stretches mm)))

/-- A profile ends within the horizon of `ticks` and takes 64 knots at most (R259). -/
def knotsFit (ticks : Nat) (qs : List Knot) : Bool := qs.length ≤ 64 && knotsDur qs ≤ ticks * 10000

/-- The distance from the base at which the profile rests: that of the goal, or of the farthest rest point toward it that
meets both limits (R259). -/
def Course.rest (c : Course) (l : Limits) (ticks : Nat) : Nat :=
  if knotsFit ticks (c.knots l c.span) then c.span
  else largest (fun mm => mm ≤ c.span && knotsFit ticks (c.knots l mm)) 32 (min c.least c.span)

/-- The profile (R256 to R260). -/
def Course.profile (c : Course) (l : Limits) (ticks : Nat) : List Knot := c.knots l (c.rest l ticks)

/-- Lower the ceiling of the stretch that holds `s` mm to `v` mm/s. -/
def Course.lower (c : Course) (s : Int) (v : Nat) : Course :=
  { c with caps := c.caps.modify ((s - c.base).natAbs / max c.step 1) (fun x => min x v) }

end Sys2Proof.Machine
end

