-- ==== Sys2Proof/Machine/Gait.lean ====
section
/-!
DEFINITION. GAIT (file 10): tracks, targets, limits, replans, plans and datum runs.
-/

namespace Sys2Proof.Machine

/-! ### Contexts -/

/-- A context's GAIT state. -/
def State.gaitCtx (s : State) (n : Nat) : GaitCtx := Sp.at s.gait.ctx GaitCtx.reset n

/-- Replace a context's GAIT state and report it (Table GAIT-11). -/
def State.setGaitCtx (s : State) (n : Nat) (x : GaitCtx) : State :=
  let s := { s with gait := { s.gait with ctx := Sp.store s.gait.ctx GaitCtx.reset n x } }
  let s := s.setFlag (B.GAIT_CTX_STS_TRACK n) x.track.isSome
  let s := s.setFlag (B.GAIT_CTX_STS_LIMITS n) x.limits.isSome
  let s := s.setFlag (B.GAIT_CTX_STS_TARGET n) x.target.isSome
  let s := s.setFlag (B.GAIT_CTX_STS_DATUM n) x.datum.isSome
  let s := s.setFlag (B.GAIT_CTX_STS_LIMIT_PENDING n) x.lowered.isSome
  s.set (B.GAIT_CTX_STS_TRACK_ID n) (match x.track with | some tr => tr.id | none => 0)

/-- Post a GAIT event (R267): code, context, RESULT_1, RESULT_2. -/
def State.gaitEvent (s : State) (code n r1 r2 : Nat) : State := s.event .allot 8 code n r1 r2

/-- Items at GAIT that await a replan. -/
def State.replans (s : State) : Nat :=
  (s.dsp.entries.filter (fun e => (match e.place with | .at_ .gait => true | _ => false)
    && (e.item.obs || (Sp.find s.gait.asked e.item.id).isSome))).length

/-- Report replans that wait for a lane (Table GAIT-10). -/
def State.reportReplans (s : State) : State :=
  s.set B.GAIT_STS_WAITING (min (s.replans - s.get B.GAIT_STS_LANES) 255)

/-- DATUM_RESULT ends a context's datum run (R266). -/
def State.endDatum (s : State) (n : Nat) (st : Status) (r1 r2 : Nat) : State :=
  let x := s.gaitCtx n
  match x.datum with
  | none => s
  | some _ =>
    let s := s.setGaitCtx n { x with datum := none }
    s.toOwner (eventItem (some .allot)) ⟨0, st, false, 8, noCell, s.devNs, ⟨4 + n * 256, r1, r2⟩⟩

/-- A context leave in GAIT (R266, R269). -/
def State.gaitLeave (s : State) (n : Nat) : State :=
  let s := s.endDatum n .failTimeout 0 0
  let s := s.setGaitCtx n GaitCtx.reset
  (s.wr (Reg.GAIT_CTX_STS n) 0).wr (Reg.GAIT_CTX_PLAN n) 0

/-- A GAIT region reset ends every datum run (R266, R269). -/
def State.gaitReset (s : State) : State :=
  let s := (s.gait.ctx.map Prod.fst).foldl (fun (s : State) n => s.endDatum n .failReset 0 0) s
  { s with gait := { s.gait with asked := [], drafts := [] } }

/-! ### Where a replan starts (R253 to R255) -/

/-- The latest FIX item of a context that is not in state NONE. -/
def State.fixPoint (s : State) (n : Nat) : Option FixRec :=
  match (s.fixCtx n).last with
  | some r => if r.state = 0 then none else some r
  | none => none

/-- The followed plan (R253): the newest of the kept plans whose sequence the report acknowledges. -/
def GaitCtx.followed (x : GaitCtx) (r : FixRec) : Option Plan :=
  x.plans.reverse.find? (fun p => p.seq % 256 == r.mstatus.toNat % 256)

/-- The position of a FIX item, in units of 2^-20 mm. -/
def FixRec.pt (r : FixRec) : Pt := (r.e.toInt * padUnit, r.n.toInt * padUnit)

/-- The projection of a FIX item onto a track, within 5,000 mm of `near` where there is one (R254): distance in units of
2^-20 mm, and s. -/
def Track.project (tr : Track) (r : FixRec) (near : Option Int) : Option (Nat × Int) :=
  let (lo, hi) : Int × Int := match near with
    | some s => (s - 5000 * padUnit, s + 5000 * padUnit)
    | none => (0, (tr.len : Int))
  (tr.nearest r.pt lo hi).map (fun q => (isqrt q.1, q.2))

/-- The measured speed in mm/s (R254): ODO_V, or the FIX velocity along the track. -/
def Track.speed (tr : Track) (r : FixRec) (sq : Int) : Int :=
  if r.obsFlags.getLsbD 0 then r.odoV.toInt
  else
    let d := tr.dirAt sq
    let l := isqrt (d.1 * d.1 + d.2 * d.2).toNat
    roundDiv (r.ve.toInt * d.1 + r.vn.toInt * d.2) (max l 1)

/-- The first tick that begins at or after device time `dev`, not wrapped. -/
def State.tickFrom (s : State) (dev : Nat) : Int :=
  -((signed 64 (s.rd64 Reg.PAD_TICK_BASE) - (dev : Int)) / 10000000)

/-- SWITCH_TICK, not wrapped (R255); none without a downlink slot. -/
def State.switchTick (s : State) (n : Nat) : Option Int :=
  (s.downlinkEnd n (s.devNs + s.param P.REPLAN_BUDGET * 1000000)).map s.tickFrom

/-- The start of a replan: cross-track distance in mm, s_fix in units of 2^-20 mm, δ in mm, the start state, whether
TRACK_DEV is posted. -/
structure Launch where
  cross : Nat
  sFix  : Int
  delta : Int
  kin   : Kin
  dev   : Bool
  deriving DecidableEq, Repr

/-- The start state at T0 (R254): `near` is JOIN_S for a new track. -/
def State.launch (s : State) (x : GaitCtx) (tr : Track) (r : FixRec) (near : Option Int) (t0 : Nat) : Option Launch :=
  let p? := match near with | some _ => none | none => x.followed r
  let epoch := devOfGps r.epoch.toNat
  let centre := match near with
    | some j => some j
    | none => p?.map (fun p => (p.at_ epoch).sQ)
  match tr.project r centre with
  | none => none
  | some (c, sq) =>
    let cross := (c + 2 ^ 20 - 1) / 2 ^ 20
    let v := tr.speed r sq
    match p? with
    | none => some ⟨cross, sq, 0, Kin.ofMm (roundDiv sq (2 ^ 20)) v 0, false⟩
    | some p =>
      let at0 := p.at_ epoch
      let at1 := p.at_ t0
      let delta := sq - at0.sQ
      let s0 := roundDiv (at1.sQ + delta) (2 ^ 20)
      let off := s.param P.ALONG_MAX * 2 ^ 20 < delta.natAbs || s.param P.V_DEV_MAX < (v - at0.vMm).natAbs
      let k := if off then Kin.ofMm s0 v 0 else Kin.ofMm s0 at1.vMm at1.aMm
      some ⟨cross, sq, roundDiv delta (2 ^ 20), k, off⟩

/-! ### What a replan aims at -/

/-- A replan's aim: track, target in mm, the item's target to hold, speed ceiling of a datum run, whether it plans rest
where the machine stands. -/
structure Aim where
  tr     : Track
  near   : Option Int
  target : Option Int
  creep  : Option Nat
  datum  : Bool
  deriving DecidableEq, Repr

/-- The aim of an item: what it asks, else what the context holds. None where something is missing (R252). -/
def GaitCtx.aim (x : GaitCtx) (a : Option Ask) : Option Aim :=
  match a, x.track with
  | some (.track tr j t), _ => some ⟨tr, some ((j : Int) * padUnit), some t, none, false⟩
  | some (.target t), some tr => some ⟨tr, none, some t, none, false⟩
  | some .stop, some tr => some ⟨tr, none, none, none, false⟩
  | some (.datum t c), some tr => some ⟨tr, none, some t, some c, true⟩
  | none, some tr =>
    match x.target with
    | none => none
    | some t => match x.datum with
      | some d => some ⟨tr, none, some d.target, some d.creep, true⟩
      | none => some ⟨tr, none, some t, none, false⟩
  | _, none => none

/-- Where a profile from `k` toward `target` must turn back (R260), and whether it needs reverse motion. -/
def needsReverse (k : Kin) (stop target : Int) : Bool × Bool :=
  if k.v = 0 then (false, target < k.sMm)
  else if 0 < k.v then (target < stop, target < stop)
  else (stop < target, target ≤ stop)

/-- The lowest limit among the cells the bare footprint covers at `sq` of a track (R256). -/
def State.probe (s : State) (n : Nat) (tr : Track) (sq : Int) : Nat :=
  match s.pad.geom, Sp.find s.pad.shapes n with
  | some g, some sh =>
    let p := tr.point sq
    let poly := posePoly 0 0 (headingOf (tr.dirAt sq)) sh.bare
    let cs := g.cells (poly.map (fun q => (q.1 + p.1, q.2 + p.2)))
    (cs.filterMap (fun c => s.speedLimit (halfSpeed (s.cellHalf g c)))).foldl min 30000
  | _, _ => 30000

/-- The lowest limit among the cells the bare footprint covers at the pose of a sample (R257). -/
def State.poseLimit (s : State) (n : Nat) (x : Sample) : Nat :=
  match s.pad.geom, Sp.find s.pad.shapes n with
  | some g, some sh =>
    ((g.cells (posePoly x.e.toInt x.n.toInt x.heading.toNat sh.bare)).filterMap (fun c =>
      s.speedLimit (halfSpeed (s.cellHalf g c)))).foldl min 30000
  | _, _ => 30000

/-- What a profile from `k` is built from (R256): the machine's own ceiling, that of a datum run where one is active,
lowered stretch by stretch to the lower of the probes at the ends of the stretch. Ground farther than the horizon allows
is not probed. -/
def State.course (s : State) (n : Nat) (a : Aim) (l : Limits) (k : Kin) (goal stop : Int) (turn : Bool) : Course :=
  let step := s.param P.PROBE_STEP
  let c : Course := ⟨k, stop, turn, goal, step, []⟩
  let own := match a.creep with | some v => v | none => if c.dir < 0 then l.vRev else l.vMax
  let span := min c.span (max own k.vMm.natAbs * s.param P.PLAN_HORIZON / 100 + 1)
  let probes := (List.range (span / max step 1 + 2)).map (fun (i : Nat) =>
    s.probe n a.tr ((c.base + c.dir * ((i * step : Nat) : Int)) * padUnit))
  { c with
    goal := c.base + c.dir * (span : Int)
    caps := (probes.zip probes.tail).map (fun p => min own (min p.1 p.2)) }

/-- Every stretch that holds a sample faster than the limit of its pose is lowered to that limit (R257). -/
def State.slowDown (s : State) (n : Nat) (a : Aim) (c : Course) (qs : List Knot) : Course :=
  (sampleStates c.start qs).foldl (fun (c : Course) q =>
    let lim := s.poseLimit n (a.tr.sample q)
    if lim < q.vMm.natAbs ∧ 0 ≤ c.dir * q.v then c.lower q.sMm lim else c) c

/-- The course after the speed passes: `k` at most, each where some sample is too fast (R257). -/
def State.speedPasses (s : State) (n : Nat) (a : Aim) (l : Limits) (c : Course) (k : Nat) : Course :=
  match k with
  | 0 => c
  | k + 1 =>
    let d := s.slowDown n a c (c.profile l (s.param P.PLAN_HORIZON))
    if d = c then c else s.speedPasses n a l d k

/-- The profile GAIT builds (R256 to R260): its knots, and whether it rests short of the goal. -/
def State.profile (s : State) (n : Nat) (a : Aim) (l : Limits) (k : Kin) (goal stop : Int) (turn : Bool) :
    List Knot × Bool :=
  let c := s.speedPasses n a l (s.course n a l k goal stop turn) 2
  let ticks := s.param P.PLAN_HORIZON
  (c.profile l ticks, decide (c.rest l ticks < (goal - c.base).natAbs))

/-- The plan that knots from `k` at tick `tick` make (Table GAIT-6). -/
def planOf (x : GaitCtx) (a : Aim) (k : Kin) (t0 : Nat) (tick : Int) (short : Bool) (qs : List Knot) : Plan :=
  let rev := k.v < 0 || qs.any (fun q => q.endV < 0)
  ⟨0, t0, (tick % 16384).toNat, k.sMm, k.vMm, k.aMm, qs,
    (if short then 2 else 0) + (if rev then 4 else 0) + (if a.datum then 8 else 0) + (if x.lowered.isSome then 16 else 0),
    a.tr.id, a.tr.crc, 0⟩

/-- GAIT ends an item without a plan: an epoch item with plan outcome `o`, an operation with REJ_STATE. -/
def State.endReplan (s : State) (it : Item) (o : PlanOutcome) : State :=
  let s := { s with gait := { s.gait with asked := Sp.drop s.gait.asked it.id } }
  let s := if it.obs then s.endEpoch it 8 noCell .done o 0 else s.finish it 8 .rejState
  s.reportReplans

/-- The profile goes on to PAD. -/
def State.toSweep (s : State) (it : Item) (x : GaitCtx) (a : Aim) (k : Kin) (t0 : Nat) (tick : Int) (goal hold : Int)
    (qs : List Knot) (short : Bool) : State :=
  let p := planOf x a k t0 tick short qs
  let samples := (sampleStates k qs).map a.tr.sample
  let req : SweepReq := ⟨BitVec.ofNat 16 samples.length, BitVec.ofNat 14 p.tick, s.freeVal.truncate 32, samples⟩
  let datum := if a.datum then some (Datum.mk goal (a.creep.getD 0) p.stop) else none
  let isNew := match Sp.find s.gait.asked it.id with | some (.track tr _ _) => some tr | _ => none
  let d : Draft := ⟨p, isNew, hold, datum, req, Res.zero, []⟩
  let s := s.tookFree.count Reg.GAIT_CNT_REPLAN
  let s := { s with gait := { s.gait with drafts := Sp.put s.gait.drafts it.id d, asked := Sp.drop s.gait.asked it.id } }
  (s.passOn it .pad).reportReplans

/-- The acknowledgement of an epoch report (R253, R264): downlinks missed are counted. -/
def State.ackPlan (s : State) (n : Nat) (r : FixRec) : State :=
  let x := s.gaitCtx n
  let s := s.set (B.GAIT_CTX_PLAN_ACK n) (r.mstatus.toNat % 256)
  let epoch := devOfGps r.epoch.toNat
  match x.plans.reverse.find? (fun p => p.t0 ≤ epoch) with
  | none => s
  | some p =>
    if p.seq % 256 = r.mstatus.toNat % 256 then s.set (B.GAIT_CTX_STS_DL_MISS_RUN n) 0
    else
      let s := s.count Reg.GAIT_CNT_DL_MISS
      s.set (B.GAIT_CTX_STS_DL_MISS_RUN n) (min (s.get (B.GAIT_CTX_STS_DL_MISS_RUN n) + 1) 255)

/-- The goal of a replan and what it holds as target: the aim's, or the rest point of a stop (R251, R260). `behind` where
an epoch replan needs reverse that is not allowed. -/
structure Goal where
  goal   : Int
  hold   : Int
  turn   : Bool
  behind : Bool
  refuse : Bool
  deriving DecidableEq, Repr

/-- R251 and R260 on a start state. -/
def goalOf (obs : Bool) (a : Aim) (l : Limits) (k : Kin) : Goal :=
  let stop := k.stopMm l.dMax l.jMax
  match a.target with
  | none => ⟨stop, stop, false, false, false⟩
  | some t =>
    let (turn, rev) := needsReverse k stop t
    if rev ∧ !l.revOk then
      if obs then ⟨stop, t, false, true, false⟩ else ⟨t, t, turn, false, true⟩
    else ⟨t, t, turn, false, false⟩

/-- A replan with every input at hand (R254 to R262). -/
def State.replan (s : State) (it : Item) (x : GaitCtx) (a : Aim) (l : Limits) (tick : Int) (w : Launch) : State :=
  let n := it.ctx
  let t0 := (s.tickStart tick).toNat
  if s.param P.XTRACK_MAX < w.cross then
    ((s.gaitEvent 2 n w.cross 0).count Reg.GAIT_CNT_TRACK_DEV).endReplan it .failed
  else
    let g := goalOf it.obs a l w.kin
    if g.refuse then s.endReplan it .failed
    else
      let (qs, short) := s.profile n a l w.kin g.goal (w.kin.stopMm l.dMax l.jMax) g.turn
      let s := if w.dev then (s.gaitEvent 1 n (unsigned 32 w.delta) 0).count Reg.GAIT_CNT_TRACK_DEV else s
      let s := if g.behind then s.gaitEvent 3 n 0 0 else s
      s.toSweep it x a w.kin t0 tick g.goal g.hold qs short

/-- A datum run at an epoch (R266): it stalls, or its last creep plan has ended without a stall. Answers the state, and
the rest point where it stalled. -/
def State.datumEpoch (s : State) (n : Nat) (r : FixRec) (sFix : Int) : State × Option Int :=
  match (s.gaitCtx n).datum with
  | none => (s, none)
  | some d =>
    let epoch := devOfGps r.epoch.toNat
    let rest := roundDiv sFix (2 ^ 20)
    if r.obsFlags.getLsbD 1 then
      let s := s.endDatum n .done epoch (r.odoS.toNat + unsigned 32 rest * 2 ^ 32)
      (s.setGaitCtx n { s.gaitCtx n with target := some rest }, some rest)
    else if d.endsAt < epoch then (s.endDatum n .failTimeout 0 0, none)
    else (s, none)

/-- A datum run is over at this report (R266). -/
def GaitCtx.datumOver (x : GaitCtx) (r : FixRec) : Bool :=
  match x.datum with
  | some d => r.obsFlags.getLsbD 1 || decide (d.endsAt < devOfGps r.epoch.toNat)
  | none => false

/-- No profile can start: the track deviation is reported with a free value, and the plan fails (R253). -/
def State.noLaunch (s : State) (it : Item) : State :=
  ((s.gaitEvent 2 it.ctx (s.freeVal.toNat % 2 ^ 32) 0).tookFree.count Reg.GAIT_CNT_TRACK_DEV).endReplan it .failed

/-- A replan whose report ends a datum run: held where the run found its mark, else without its creep limit (R266). -/
def State.replanDatum (s : State) (it : Item) (r : FixRec) (a : Aim) (l : Limits) (tick : Int) (w : Launch) : State :=
  let p := s.datumEpoch it.ctx r w.sFix
  match p.2 with
  | some q =>
    p.1.replan it (p.1.gaitCtx it.ctx) ⟨a.tr, none, some q, none, false⟩ l tick { w with kin := Kin.ofMm q 0 0, dev := false }
  | none => p.1.replan it (p.1.gaitCtx it.ctx) { a with creep := none, datum := false } l tick w

/-- A replan of item `it` from FIX item `r` (R252 to R266). -/
def State.replanFrom (s : State) (it : Item) (r : FixRec) : State :=
  let n := it.ctx
  let x := s.gaitCtx n
  match x.aim (Sp.find s.gait.asked it.id), x.limits, s.switchTick n with
  | some a, some l, some tick =>
    match s.launch x a.tr r a.near (s.tickStart tick).toNat with
    | none => s.noLaunch it
    | some w =>
      if it.obs ∧ x.datumOver r then s.replanDatum it r a l tick w
      else s.replan it x a l tick w
  | _, _, _ => s.endReplan it .failed

/-- Operations that change the target as their plan commits (R247). -/
def retargets (op : Nat) : Bool := op == 0x8001 || op == 0x8003 || op == 0x8004

/-- An earlier item of the flow still has its new target before its commit: the replans of later items wait for it, so that
it is applied between the replans (R47, R48; DEDUCED, log entry 143). -/
def State.targetOpen (s : State) (it : Item) (f : Nat) : Bool :=
  ((s.flowEntries f).takeWhile (fun e => e.item.id != it.id)).any (fun e =>
    retargets e.item.d.opcode.toNat && !e.item.obs && (match e.place with
      | .ended _ => false
      | .at_ st => st.pos < 4
      | .waiting st _ => st.pos < 4))

/-- REPLAN (R252 to R266): a working lane serves item `id` at GAIT. -/
def execGaitReplan (t : Nat) (id : Nat) (s : State) : Out State :=
  let s := s.to t
  match s.entryOf? id with
  | none => ok s
  | some e =>
    let it := e.item
    if e.place ≠ .at_ .gait ∨ !s.runs 8 blkPlanner ∨ (!it.obs ∧ (Sp.find s.gait.asked id).isNone)
      ∨ s.targetOpen it e.flow ∨ s.get B.GAIT_STS_LANES = 0 then ok s
    else
      match s.fixPoint it.ctx with
      | none => ok (s.endReplan it .noFix)
      | some r => ok ((if it.obs then s.ackPlan it.ctx r else s).replanFrom it r)

/-- KNOT_PACK (R263): the committed profile of item `id` is packed as a plan, which goes on to AIR. -/
def execKnotPack (t : Nat) (id : Nat) (s : State) : Out State :=
  let s := s.to t
  match s.entryOf? id, Sp.find s.gait.drafts id with
  | some e, some d =>
    let it := e.item
    if e.place ≠ .at_ .pack ∨ !s.runs 8 blkPacker then ok s
    else
      let d := { d with packed := d.plan.bytes }
      ok ({ s with gait := { s.gait with drafts := Sp.put s.gait.drafts id d } }.passOn it .air)
  | _, _ => ok s

/-- GAIT counts a plan as handed over: its PLAN_SEQ is the context's latest, and it is followed from its T0 on (R253,
R263). -/
def State.gaitHanded (s : State) (n : Nat) (p : Plan) : State :=
  let x := s.gaitCtx n
  let s := s.setGaitCtx n { x with seq := p.seq, plans := ((x.plans ++ [p]).drop ((x.plans.length + 1) - 8)) }
  let s := (s.set (B.GAIT_CTX_PLAN_PLAN_SEQ n) p.seq).setFlag (B.GAIT_CTX_STS_REVERSING n) (p.flags.testBit 2)
  if p.flags.testBit 1 then s.count Reg.GAIT_CNT_HORIZON else s

/-- Stage 6 (Table CYC-1): AIR queues the plan of an item for its context's next downlink slot, and the item is done. -/
def State.handOver (s : State) (it : Item) : State :=
  match Sp.find s.gait.drafts it.id with
  | none => s
  | some d =>
    let n := it.ctx
    let p := { d.plan with seq := ((s.gaitCtx n).seq + 1) % 2 ^ 16 }
    let s := s.gaitHanded n p
    let s := s.setAirCtx n ((s.airCtx n).takePlan ⟨leBytes 2 p.seq ++ d.packed.drop 2, s.devNs, false⟩)
    let s := { s with gait := { s.gait with drafts := Sp.drop s.gait.drafts it.id } }
    let s := s.mirrorSend (.gait n)
    if it.obs then s.endEpoch it 9 noCell .done .newPlan 0 else s.finish it 9 .done d.res

/-! ### Operations (R247 to R251, R261, R265) -/

/-- An operation that needs a plan hands its request to the planner. -/
def State.ask (s : State) (it : Item) (a : Ask) : State :=
  let s := { s with gait := { s.gait with asked := Sp.put s.gait.asked it.id a } }
  s.reportReplans

/-- Every point of a track lies in the grid (R249). -/
def State.trackInGrid (s : State) (tr : Track) : Bool :=
  match s.pad.geom with
  | some g => s.mapValid && tr.pts.all (fun p => g.has (g.cellOf p.1 p.2))
  | none => false

/-- The point at JOIN_S is near the latest position, and the tracks' directions agree there (R249). -/
def State.joinsTrack (s : State) (n : Nat) (tr : Track) (joinS : Nat) : Bool :=
  match s.fixPoint n with
  | none => false
  | some r =>
    let j : Int := (joinS : Int) * padUnit
    let p := tr.point j
    let dx := p.1 - r.pt.1
    let dy := p.2 - r.pt.2
    let lim := s.param P.XTRACK_MAX * 2 ^ 20
    let x := s.gaitCtx n
    let near := (x.followed r).map (fun q => (q.at_ (devOfGps r.epoch.toNat)).sQ)
    decide ((dx * dx + dy * dy).toNat ≤ lim * lim) &&
      (match x.track with
      | none => true
      | some old => match old.project r near with
        | some (_, sq) => withinDeg (s.param P.HEAD_TOL) (tr.dirAt j) (old.dirAt sq)
        | none => false)

/-- SET_TRACK (R249): `raw` is the track record. -/
def execSetTrack (t : Nat) (it : Item) (raw : List Byte) (s : State) : Out State :=
  let s := s.to t
  let rec_ := TrackRec.ofBytes raw
  let tr := rec_.track
  let joinS := argBits it.d.arg0 31 0
  let target := argBits it.d.arg1 31 0
  ok (s.runOp 8 it (fun i => .setTrack t i raw)
    { Checks.pass with
      range := it.d.context != 0 && rec_.legal it.d.len.toNat && s.trackInGrid tr
        && joinS ≤ tr.lenMm && target ≤ tr.lenMm
      state := s.joined it.ctx && (s.gaitCtx it.ctx).datum.isNone && s.joinsTrack it.ctx tr joinS }
    (fun s it => s.ask it (.track tr joinS target)))

/-- A target lies on the track of a context, where it has one (R251). -/
def State.onTrack (s : State) (n : Nat) (target : Int) : Bool :=
  match (s.gaitCtx n).track with
  | some tr => decide (0 ≤ target) && decide (target ≤ (tr.lenMm : Int))
  | none => true

/-- RETARGET (R251). -/
def execGaitRetarget (t : Nat) (it : Item) (s : State) : Out State :=
  let s := s.to t
  let target := signed 32 (argBits it.d.arg0 31 0)
  let stop := argBit it.d.arg0 32
  ok (s.runOp 8 it (fun i => .gaitRetarget t i)
    { Checks.pass with
      range := it.d.context != 0 && (stop || s.onTrack it.ctx target)
      state := s.joined it.ctx && (s.gaitCtx it.ctx).datum.isNone }
    (fun s it => s.ask it (if stop then .stop else .target target)))

/-- Where a datum run of a context would end (R265), with s_fix and the measured speed. -/
def State.datumEnd (s : State) (d : Desc) : Option (Int × Int × Int) :=
  let n := d.context.toNat
  let x := s.gaitCtx n
  match s.fixPoint n, x.track with
  | some r, some tr =>
    let near := (x.followed r).map (fun q => (q.at_ (devOfGps r.epoch.toNat)).sQ)
    match tr.project r near with
    | none => none
    | some (_, sq) =>
      let sFix := roundDiv sq (2 ^ 20)
      let stop := signed 32 (argBits d.arg0 31 0)
      let dist : Int := ((if argBits d.arg0 63 32 = 0 then s.param P.DATUM_DIST else argBits d.arg0 63 32 : Nat) : Int)
      let sg : Int := if sFix < stop then 1 else if stop < sFix then -1 else 0
      some (sFix + sg * dist, sFix, tr.speed r sq)
  | _, _ => none

/-- The range checks of DATUM_RUN (R265). -/
def State.datumRange (s : State) (d : Desc) : Bool :=
  let n := d.context.toNat
  match s.datumEnd d, (s.gaitCtx n).track with
  | some (stopAt, sFix, _), some tr =>
    let stop := signed 32 (argBits d.arg0 31 0)
    let dist := if argBits d.arg0 63 32 = 0 then s.param P.DATUM_DIST else argBits d.arg0 63 32
    let inside (v : Int) : Bool := decide (0 ≤ v) && decide (v ≤ (tr.lenMm : Int))
    inside stop && inside stopAt && decide ((stop - sFix).natAbs < dist)
  | _, _ => true

/-- The machine of a DATUM_RUN all but rests (R265). -/
def State.datumSlow (s : State) (d : Desc) : Bool :=
  match s.datumEnd d with
  | some (_, _, v) => v.natAbs ≤ 20
  | none => false

/-- DATUM_RUN (R265). -/
def execDatumRun (t : Nat) (it : Item) (s : State) : Out State :=
  let s := s.to t
  let x := s.gaitCtx it.ctx
  ok (s.runOp 8 it (fun i => .datumRun t i)
    { Checks.pass with
      range := it.d.context != 0 && s.datumRange it.d
      state := s.joined it.ctx && x.datum.isNone && x.limits.isSome && s.datumSlow it.d }
    (fun s it =>
      match s.datumEnd it.d, (s.gaitCtx it.ctx).limits with
      | some (stopAt, _, _), some l =>
        let v := argBits it.d.arg1 15 0
        s.ask it (.datum stopAt (if v = 0 then l.creep else v))
      | _, _ => s.finish it 8 .rejState))

/-- The limits that SET_LIMITS carries (Table GAIT-3). -/
def limitsOf (d : Desc) : Limits :=
  ⟨argBits d.arg0 15 0, argBits d.arg0 31 16, argBits d.arg0 47 32, argBits d.arg0 63 48, argBits d.arg1 31 0,
    argBits d.arg1 47 32, argBits d.arg1 63 48, argBit d.arg2 0⟩

/-- The ranges of Table GAIT-3, and R250. -/
def Limits.legal (l : Limits) : Bool :=
  10 ≤ l.vMax && l.vMax ≤ 10000 && l.vRev ≤ 10000 && 10 ≤ l.aMax && l.aMax ≤ 10000 && 10 ≤ l.dMax && l.dMax ≤ 10000
    && 50 ≤ l.jMax && l.jMax ≤ 100000 && 10 ≤ l.creep && l.creep ≤ 500 && l.pause ≤ 5000 && !(l.revOk && l.vRev == 0)

/-- The device time at which the deceleration in progress at `dev`, or else the next one, ends (R261); `from_` is the
state at the first of the knots, `at_` the device time at which it begins, `seen` whether the ramp has been reached. -/
def rampEnd (k : Kin) (qs : List Knot) (at_ dev : Nat) (seen : Option Nat) : Option Nat :=
  match qs with
  | [] => seen
  | q :: r =>
    let k' := k.knot q
    let end_ := at_ + q.dur * 1000
    if end_ ≤ dev then rampEnd k' r end_ dev none
    else if k'.v.natAbs < k.v.natAbs then rampEnd k' r end_ dev (some end_)
    else match seen with
      | some e => some e
      | none => rampEnd k' r end_ dev none

/-- A stop begun now from the followed plan under `d` and `j` ends on the track (R261). -/
def stopsOnTrack (tr : Track) (k : Kin) (d j : Nat) : Bool :=
  let e := k.stopMm d j
  decide (0 ≤ e) && decide (e ≤ (tr.lenMm : Int))

/-- SET_LIMITS (R250, R261). -/
def execSetLimits (t : Nat) (it : Item) (s : State) : Out State :=
  let s := s.to t
  let l := limitsOf it.d
  ok (s.runOp 8 it (fun i => .setLimits t i)
    { Checks.pass with range := it.d.context != 0 && l.legal, state := s.joined it.ctx }
    (fun s it =>
      let n := it.ctx
      let x := s.gaitCtx n
      let all : GaitCtx := { x with limits := some l, lowered := none }
      let done (s : State) (y : GaitCtx) : State := (s.setGaitCtx n y).mirrorSend (.gait n)
      match x.limits, x.track, s.fixPoint n with
      | some old, some tr, some r =>
        match x.followed r with
        | none => (done s all).finish it 8 .done
        | some p =>
          if (old.dMax ≤ l.dMax ∧ old.jMax ≤ l.jMax) ∨ stopsOnTrack tr (p.at_ s.devNs) l.dMax l.jMax then
            (done s all).finish it 8 .done
          else
            let keptD := max old.dMax l.dMax
            let keptJ := max old.jMax l.jMax
            let dev := (rampEnd (Kin.ofMm p.s0 p.v0 p.a0) p.knots p.t0 s.devNs none).getD s.devNs
            let tick := (s.tickFrom dev % 2 ^ 32).toNat
            let y : GaitCtx := { x with
              limits := some { l with dMax := keptD, jMax := keptJ }, lowered := some (l.dMax, l.jMax, tick) }
            ((done s y).count Reg.GAIT_CNT_CLAMP).finish it 8 .doneClamped
              ⟨l.dMax + l.jMax * 2 ^ 16, keptD + keptJ * 2 ^ 16, tick % 16384⟩
      | _, _, _ => (done s all).finish it 8 .done))

/-- LIMIT_TAKEOVER: at its tick a clamped lowered limit applies (R261). -/
def execLimitTakeover (t : Nat) (ctx : BitVec 8) (s : State) : Out State :=
  let s := s.to t
  let n := ctx.toNat
  let x := s.gaitCtx n
  match x.lowered, x.limits with
  | some (d, j, tick), some l =>
    if idxDiff s.tickAbs tick < 2 ^ 31 then
      ok (s.setGaitCtx n { x with limits := some { l with dMax := d, jMax := j }, lowered := none })
    else ok s
  | _, _ => ok s

end Sys2Proof.Machine
end

