-- ==== Sys2Proof/Machine/AirKeys.lean ====
section
/-!
DEFINITION. What AIR's commands share (files 11, 12): keys, contexts, routes, leaves.
-/

namespace Sys2Proof.Machine

/-- The SFN of the present superframe (R273). -/
def State.sfn (s : State) : Nat := s.rd64 Reg.AIR_SF_NUM % 2 ^ 48

/-- Post an AIR event (R292, R313): code, context, RESULT_1, RESULT_2. -/
def State.airEvent (s : State) (code n r1 r2 : Nat) : State := s.event .session 9 code n r1 r2

/-- Packets get their SEQ in the order in which they go, each head its own count modulo 256 (R296). -/
def numbered (seq : Sp Nat) (l : List AirOut) : Sp Nat × List AirOut :=
  match l with
  | [] => (seq, [])
  | .packet h _ ty arg x :: r =>
    let k := match Sp.find seq h with | some k => (k + 1) % 256 | none => 0
    let (q, o) := numbered (Sp.put seq h k) r
    (q, .packet h k ty arg x :: o)
  | m :: r =>
    let (q, o) := numbered seq r
    (q, m :: o)

/-- The bytes of a packet's load as far as they are not ciphertext or tag. -/
def AirLoad.clear (x : AirLoad) : List Byte :=
  match x with
  | .sealed (l :: _) => l.clear
  | .raw bs => bs
  | _ => []

/-- The first 48 bytes of a load as it crosses the head-link; ciphertext and tags are free (log entry 139). -/
def State.loadBytes (s : State) (x : AirLoad) : List Byte :=
  let free := (List.range 6).map (fun k => Config.freeWord (s.freeIdx + k))
  (x.clear ++ (bytesOf free).drop x.clear.length).take 48

/-- Bytes of a load on the head-link: each layer's clear and enciphered bytes, and its tag. -/
def AirLoad.size (x : AirLoad) : Nat :=
  match x with
  | .sealed ls => (ls.map (fun l => l.clear.length + l.plain.length + 8)).foldl (· + ·) 0
  | .raw bs => bs.length
  | .none => 0

/-- The device time of what a TX_BURST or WINDOW_LOAD is for: the slot start plus the 15 µs of R275, or the window start, in
the superframe that the SFN bits of ARG name. -/
def State.sendTime (s : State) (ptype arg : Nat) : Nat :=
  let org := if bitsOf arg 31 14 = s.rd64 Reg.AIR_SF_NUM % 2 ^ 18 then s.air.sfStart else s.air.sfStart + 100000000
  if ptype = 2 then org + bitsOf arg 5 0 * 2000000
  else org + slotStart (6 * bitsOf arg 5 0 + bitsOf arg 8 6) + 15000

/-- REC sees a packet to a head (Table REC-1). -/
def State.seeSent (s : State) (o : AirOut) : State :=
  match o with
  | .packet h _ ty arg x =>
    if ty = 1 ∨ ty = 2 then
      let s' := s.stream 3 h (s.sendTime ty arg) (recordInfo h ty x.size arg) (s.loadBytes x)
      { s' with freeIdx := s'.freeIdx + 6 }
    else s
  | _ => s

/-- AIR sends `l`, each packet with its SEQ; REC sees it while it captures. -/
def State.airSent (s : State) (l : List AirOut) : State :=
  let s := if s.capturing then l.foldl (fun (s : State) o => s.seeSent o) s else s
  let n := numbered s.air.txSeq l
  { s with air := { s.air with sent := n.2, txSeq := n.1 } }

/-- The heads whose port is enabled. -/
def State.headsOn (s : State) : List Nat := (List.range 8).filter (fun h => s.flag (B.AIR_HEAD_CTL_ENABLE h))

/-- The heads whose port is enabled and whose link is UP. -/
def State.headsUp (s : State) : List Nat := s.headsOn.filter (fun h => s.get (B.AIR_HEAD_STS_LINK h) == 2)

/-- The PHY rate code of a head in the schedule in force. -/
def State.headRate (s : State) (h : Nat) : Nat :=
  match s.air.sched with
  | some x => ((x.heads.find? (fun y => y.head == h)).map SchedHead.rate).getD 0
  | none => 0

/-- The RF channel of a head in the schedule in force. -/
def State.headChannel (s : State) (h : Nat) : Nat :=
  match s.air.sched with
  | some x => ((x.heads.find? (fun y => y.head == h)).map SchedHead.channel).getD 0
  | none => 0

/-- The CONFIG of a head: its rate and channel in the schedule in force (Table AIR-12). -/
def State.headConfig (s : State) (active : Bool) (h : Nat) : AirOut :=
  .packet h 0 0x03 (s.headRate h + s.headChannel h * 4 + (if active then 1024 else 0)) .none

/-! ### Keys (R303, R398) -/

/-- A key slot an AIR operation may name: neither empty nor revoked, and bound to AIR (R314). -/
def State.airSlot? (s : State) (k : Nat) : Option KeySlot :=
  match s.loaded? k with
  | some x => if x.attr.bind.getLsbD 0 ∧ !x.attr.svcWrap then some x else none
  | none => none

/-- The beacon key, where TACK can supply it (R279, R398). -/
def State.beaconKey? (s : State) : Option KeySlot :=
  if s.flag B.AIR_BEACON_KEY_VALID then s.keyFor? (s.get B.AIR_BEACON_KEY_SLOT) 0 0 else none

/-- The join key of a context: an HKDF secret with DERIVE bound to AIR (R397, R398). -/
def State.joinKey? (s : State) (n : Nat) : Option KeySlot :=
  if s.flag (B.AIR_CTX_JOINKEY_VALID n) then s.keyFor? (s.get (B.AIR_CTX_JOINKEY_SLOT n)) 0 2 else none

/-- TACK supplies a session key. -/
def State.keyLive (s : State) (k : AirKey) : Bool :=
  match s.keyFor? k.slot 0 0 with
  | some x => x.attr.id.toNat == k.id
  | none => false

/-- The attributes of a session key (R303, R397): TYPE 1 with AEAD, bound to AIR, a child of `parent`. -/
def State.sessionAttr (s : State) (parent : KeyAttr) (id : BitVec 32) : KeyAttr :=
  { epoch := BitVec.ofNat 8 s.epoch, type := 1, len := 32, usage := 1, bind := 1, id := id
    anc0 := parent.id, anc1 := parent.anc0, anc2 := parent.anc1, anc3 := parent.anc2
    inside := parent.inside, imported := false }

/-- Derive a session key under `parent` into the lowest EMPTY slot; none where no slot is EMPTY. The key material and
the KEY_ID of the slot, which the spec leaves open, are free values (log entry 3). -/
def State.deriveKey (s : State) (parent : KeyAttr) (keySfn : Nat) : Option (State × AirKey) :=
  match s.targetSlot 0x1FF with
  | some k =>
    let f (i : Nat) : BitVec 64 := Config.freeWord (s.freeIdx + i)
    let id : BitVec 32 := (f 4).setWidth 32
    let m : BitVec 512 := (f 3 ++ f 2 ++ f 1 ++ f 0).setWidth 512
    let s := { s with freeIdx := s.freeIdx + 5 }
    some (s.putSlot k (some ⟨s.sessionAttr parent id, m, false, false⟩), ⟨k, id.toNat, keySfn, 0, 0, 0⟩)
  | none => none

/-- AIR erases a session key. -/
def State.dropKey (s : State) (k : AirKey) : State :=
  match s.slotOf? k.slot with
  | some x => if x.attr.id.toNat = k.id then s.putSlot k.slot none else s
  | none => s

/-- Erase a session key where there is one. -/
def State.dropKey? (s : State) (k : Option AirKey) : State :=
  match k with
  | some k => s.dropKey k
  | none => s

/-- A rekey starts when a counter of the context has reached 0xF000_0000 (R305, R318): BNONCE is drawn, and K derived
from the present K, to be used 10 superframes on. -/
def State.checkRekey (s : State) (n : Nat) : State :=
  let x := s.airCtx n
  match x.key, x.nextKey with
  | some k, none =>
    if 0xF0000000 ≤ k.down ∨ 0xF0000000 ≤ k.high then
      match s.slotOf? k.slot with
      | some sl =>
        match s.deriveKey sl.attr (s.sfn + 10) with
        | some (s, k') =>
          let s := s.setAirCtx n { x with nextKey := some (k', s.freeVal.toNat) }
          s.tookFree.mirrorSend (.session n)
        | none => s
      | none => s
    else s
  | _, _ => s

/-! ### Routes (R316) -/

/-- The contexts whose next hop is `n`. -/
def State.children (s : State) (n : Nat) : List Nat := allCtx.filter (fun c => s.nextHop c == n)

/-- Report HOPS and RELAY of every context (Table AIR-25). -/
def State.reportRoutes (s : State) : State :=
  let hops := allCtx.filter (fun c => s.nextHop c != 0)
  let relays := hops.map s.nextHop
  allCtx.foldl (fun (s : State) (c : Nat) =>
    let w := s.rd (Reg.AIR_CTX_SESS c)
    if w = 0 ∧ !relays.contains c then s
    else (s.set (B.AIR_CTX_SESS_HOPS c) (s.chain c 3).length).setFlag (B.AIR_CTX_SESS_RELAY c) (relays.contains c)) s

/-- A relay is to be told its children (R316). -/
def State.owesRelay (s : State) (n : Nat) : State :=
  if n = 0 then s else s.setAirCtx n { s.airCtx n with sendRelay := true }

/-- Set a context's next hop; each relay whose children change is told. -/
def State.route (s : State) (n hop : Nat) : State :=
  let old := s.nextHop n
  if old = hop then s else ((s.set (B.AIR_CTX_SESS_NEXT_HOP n) hop).owesRelay old).owesRelay hop

/-! ### State changes -/

/-- Set a context's state (Table AIR-13); the partner is told. -/
def State.setCtxState (s : State) (n st : Nat) : State := (s.set (B.AIR_CTX_STS_STATE n) st).mirrorSend (.session n)

/-- The context's disc opens and its datum run ends (R238, R266). -/
def State.gone (s : State) (n : Nat) : State := (s.discOpen n).endDatum n .failTimeout 0 0

/-- AWAKE becomes DARK. -/
def State.goDark (s : State) (n : Nat) : State := ((s.setCtxState n ctxDark).airEvent 1 n 0 0).gone n

/-- SLEEPER becomes LOST_ASLEEP (R291). -/
def State.goLost (s : State) (n : Nat) : State :=
  let s := s.setAirCtx n { s.airCtx n with callUntil := some (s.cyc + s.param P.CALL_PERIOD * cycS) }
  ((s.setCtxState n ctxLost).airEvent 3 n 0 0).gone n

/-- A leave (R317) with cause `cause`; `own` where the machine's own LEAVE brought it. -/
def State.airLeave (s : State) (n cause : Nat) (own : Bool) : State :=
  let x := s.airCtx n
  let sealed := match x.key with
    | some k => if own ∨ !s.keyLive k ∨ 0xFFFFFFFF ≤ k.down then none else some ({ k with down := k.down + 1 }, cause)
    | none => none
  let s := ((s.dropKey? x.key).dropKey? (x.nextKey.map Prod.fst)).dropKey? x.oldKey
  let kids := s.children n
  let s := (s.route n 0)
  let s := kids.foldl (fun (s : State) (c : Nat) => s.set (B.AIR_CTX_SESS_NEXT_HOP c) 0) s
  let s := s.setAirCtx n { AirCtx.reset with sendLeave := sealed, downAt := x.downAt, bulkAt := x.bulkAt }
  let s := ((s.set (B.AIR_CTX_STS_MISSES n) 0).set (B.AIR_CTX_STS_GUARD n) 0).setFlag (B.AIR_CTX_SESS_COMPAT n) false
  let s := (s.setCtxState n ctxFree).reportRoutes
  let s := (s.padLeave n).mirror n s.tickNow 0 0 0 0 .release
  let s := (s.fixClear n).gaitLeave n
  (if cause = 3 then s.airEvent 5 n 0 0 else s.airEvent 9 n cause 0).reportOverload

/-- The head of a context's spans is reported (Table AIR-18). -/
def State.reportHeads (s : State) : State :=
  allCtx.foldl (fun (s : State) (n : Nat) =>
    match s.ctxSpans n with
    | p :: _ => s.set (B.AIR_CTX_STS_HEAD n) p.head
    | [] => s) s

end Sys2Proof.Machine
end

