-- ==== Sys2Proof/Machine/Ether.lean ====
section
/-!
DEFINITION. Ethernet frames as the wired ports read and build them (R376 to R382): FCS, VLAN tag, IPv4 and its checksums,
the PTP correctionField. A frame runs from the first byte of the destination address; a received one ends with its FCS.
The layouts of IEEE 802.3, 802.1Q, IPv4, UDP, TCP and IEEE 1588, which the spec names and does not repeat, are PRESUMED
(log entry 135).
-/

namespace Sys2Proof.Machine

/-- `n` bytes of `v`, most significant first. -/
def beBytes (n v : Nat) : List Byte := (leBytes n v).reverse

/-- The `n`-byte field at offset `off`, most significant byte first. -/
def beAt (bs : List Byte) (off n : Nat) : Nat := leNat ((bs.drop off).take n).reverse

/-- `bs` with the bytes at offset `off` on replaced by `x`. -/
def putBytes (bs : List Byte) (off : Nat) (x : List Byte) : List Byte := bs.take off ++ x ++ bs.drop (off + x.length)

/-- One bit of the IEEE 802.3 CRC-32, least significant bit first. -/
def crcBit (c : BitVec 32) : BitVec 32 := if c.getLsbD 0 then (c >>> 1) ^^^ 0xEDB88320#32 else c >>> 1

/-- One byte of the CRC. -/
def crcByte (c : BitVec 32) (b : Byte) : BitVec 32 :=
  crcBit (crcBit (crcBit (crcBit (crcBit (crcBit (crcBit (crcBit (c ^^^ b.zeroExtend 32))))))))

/-- The IEEE 802.3 CRC-32 of a frame. -/
def crc32 (bs : List Byte) : BitVec 32 := ~~~ (bs.foldl crcByte 0xFFFFFFFF#32)

/-- A frame with its FCS. -/
def withFcs (bs : List Byte) : List Byte := bs ++ leBytes 4 (crc32 bs).toNat

/-- The FCS of a received frame is good. -/
def fcsGood (bs : List Byte) : Bool :=
  crc32 (bs.take (bs.length - 4)) == BitVec.ofNat 32 (leAt bs (bs.length - 4) 4)

/-- A frame carries an 802.1Q tag. -/
def tagged (bs : List Byte) : Bool := beAt bs 12 2 == 0x8100

/-- Where the EtherType stands. -/
def etherAt (bs : List Byte) : Nat := if tagged bs then 16 else 12

/-- The EtherType. -/
def etherType (bs : List Byte) : Nat := beAt bs (etherAt bs) 2

/-- A frame carries IPv4. -/
def isIpv4 (bs : List Byte) : Bool := etherType bs == 0x0800 && beAt bs (etherAt bs + 2) 1 / 16 == 4

/-- Where the IPv4 header begins. -/
def ipAt (bs : List Byte) : Nat := etherAt bs + 2

/-- The length of the IPv4 header in bytes. -/
def ipHdrLen (bs : List Byte) : Nat := beAt bs (ipAt bs) 1 % 16 * 4

/-- The IPv4 protocol. -/
def ipProto (bs : List Byte) : Nat := beAt bs (ipAt bs + 9) 1

/-- An IPv4 fragment: MF is set or the fragment offset is not 0. -/
def ipFragment (bs : List Byte) : Bool := beAt bs (ipAt bs + 6) 2 % 0x4000 != 0

/-- Where the L4 header begins. -/
def l4At (bs : List Byte) : Nat := ipAt bs + ipHdrLen bs

/-- UDP, or TCP, over IPv4, no fragment. -/
def hasL4 (bs : List Byte) : Bool := isIpv4 bs && (ipProto bs == 17 || ipProto bs == 6) && !ipFragment bs

/-- Where the L4 checksum stands: offset 6 in UDP, 16 in TCP. -/
def l4SumAt (bs : List Byte) : Nat := l4At bs + (if ipProto bs = 17 then 6 else 16)

/-- The sum of the 16-bit words of bytes, most significant byte first; a last odd byte is filled with zero. -/
def sumWords (bs : List Byte) : Nat :=
  match bs with
  | a :: b :: r => a.toNat * 256 + b.toNat + sumWords r
  | [a] => a.toNat * 256
  | [] => 0

/-- A sum folded to 16 bits with its carries. -/
def foldSum (n : Nat) : Nat := let a := n % 65536 + n / 65536; a % 65536 + a / 65536

/-- The Internet checksum over a sum of words. -/
def onesComp (n : Nat) : Nat := 65535 - foldSum (foldSum n)

/-- The IPv4 header of a frame. -/
def ipHeader (bs : List Byte) : List Byte := (bs.drop (ipAt bs)).take (ipHdrLen bs)

/-- The L4 segment of a frame, as long as the IPv4 total length says. -/
def l4Segment (bs : List Byte) : List Byte := (bs.drop (l4At bs)).take (beAt bs (ipAt bs + 2) 2 - ipHdrLen bs)

/-- The sum over the IPv4 pseudo-header and the L4 segment. -/
def l4Sum (bs : List Byte) : Nat :=
  sumWords ((bs.drop (ipAt bs + 12)).take 8) + ipProto bs + (l4Segment bs).length + sumWords (l4Segment bs)

/-- IP_CSUM of a received frame (Table NET-4): 0 not IPv4, 1 good, 2 bad. -/
def ipCsum (bs : List Byte) : Nat :=
  if !isIpv4 bs then 0 else if onesComp (sumWords (ipHeader bs)) = 0 then 1 else 2

/-- L4_CSUM of a received frame (Table NET-4): 0 not checked, 1 good, 2 bad. -/
def l4Csum (bs : List Byte) : Nat :=
  if !hasL4 bs ∨ (ipProto bs = 17 ∧ beAt bs (l4SumAt bs) 2 = 0) then 0 else if onesComp (l4Sum bs) = 0 then 1 else 2

/-- CSUM_IP (R380): the IPv4 header checksum is written. -/
def putIpCsum (bs : List Byte) : List Byte :=
  if isIpv4 bs then
    let z := putBytes bs (ipAt bs + 10) (beBytes 2 0)
    putBytes bs (ipAt bs + 10) (beBytes 2 (onesComp (sumWords (ipHeader z))))
  else bs

/-- CSUM_L4 (R380): the UDP or TCP checksum is written; a UDP result of 0 is sent as 0xFFFF. -/
def putL4Csum (bs : List Byte) : List Byte :=
  if hasL4 bs then
    let c := onesComp (l4Sum (putBytes bs (l4SumAt bs) (beBytes 2 0)))
    putBytes bs (l4SumAt bs) (beBytes 2 (if c = 0 ∧ ipProto bs = 17 then 0xFFFF else c))
  else bs

/-- A PTP header stands at offset `off` of a frame (R382): right after the EtherType of IEEE 1588 over IEEE 802.3, or as
the payload of UDP over IPv4, whole within the frame. -/
def ptpAt (bs : List Byte) (off : Nat) : Bool :=
  decide (off + 34 ≤ bs.length) &&
    ((etherType bs == 0x88F7 && off == ipAt bs) || (hasL4 bs && ipProto bs == 17 && off == l4At bs + 8))

/-- ONE_STEP (R382): `corr` is added to the correctionField at offset 8 of the PTP header, and over UDP the checksum is set
to 0. -/
def putCorrection (bs : List Byte) (off corr : Nat) : List Byte :=
  let bs := putBytes bs (off + 8) (beBytes 8 (beAt bs (off + 8) 8 + corr))
  if etherType bs = 0x88F7 then bs else putBytes bs (l4At bs + 6) (beBytes 2 0)

/-- A payload shorter than 60 bytes is padded with zero bytes (R380). -/
def padFrame (bs : List Byte) : List Byte := bs ++ leBytes (60 - bs.length) 0

/-- A PAUSE frame (R377, R385): its quanta. -/
def pauseOf (bs : List Byte) : Option Nat :=
  if beAt bs 0 6 = 0x0180C2000001 ∧ etherType bs = 0x8808 ∧ beAt bs 14 2 = 1 then some (beAt bs 16 2) else none

end Sys2Proof.Machine
end

