-- ==== Sys2Proof/Machine/Rings.lean ====
section
/-!
DEFINITION. Descriptor rings (R59 to R62, R76 to R79, R89): doorbells, enabling, fetching and the writing of
completions.
-/

namespace Sys2Proof.Machine

/-! ### Doorbells -/

/-- The region HIF takes doorbells as they come: it runs, the ring is enabled and recovered (R60), and halter mode
fetches from it (R82). -/
def State.doorbellLive (s : State) (n : Nat) : Bool :=
  s.runs 1 blkFetch && s.ringOn n && !s.flag (B.HIF_RING_STS_RECOVERING n) && !s.hif.pcie.d3hot && (!s.halter || s.flag (B.HIF_RING_CFG_UPDATE n))

/-- Check and apply a tail index (R60): ignored with DB_ERR where tail − SQ_HEAD would exceed 2^S or the tail would move
backwards. -/
def State.applyTail (s : State) (n v : Nat) : State :=
  let r := s.ringOf n
  let head := s.rd (Reg.HIF_RING_SQ_HEAD n)
  if 2 ^ s.sqLog n < idxDiff v head ∨ idxDiff v head < idxDiff r.tail head then
    s.ringEvent n (B.HIF_RING_STS_DB_ERR n)
  else s.setRing n { r with tail := v }

/-- Check and apply a head index against CQ_PI and 2^C (R60). -/
def State.applyHead (s : State) (n v : Nat) : State :=
  let r := s.ringOf n
  let pi := s.rd (Reg.HIF_RING_CQ_PI n)
  if 2 ^ s.cqLog n < idxDiff pi v ∨ idxDiff pi r.cqHead < idxDiff pi v then
    s.ringEvent n (B.HIF_RING_STS_DB_ERR n)
  else (s.setRing n { r with cqHead := v }).reportRing n

/-- A doorbell of the EVT_RING ring restarts the host watchdog (R55, R56). -/
def State.feedWatchdog (s : State) (n : Nat) : State :=
  if s.get B.SVC_POLICY_OWN_EVT_RING = n then { s with hif := { s.hif with wdogLast := s.cyc } } else s

/-- A doorbell of ring `n`: SQ_TAIL, or CQ_HEAD (R60). -/
def State.ringDoorbell (s : State) (n : Nat) (tail : Bool) (val : Word) : State :=
  let s := s.feedWatchdog n
  if s.doorbellLive n then (if tail then s.applyTail n val.toNat else s.applyHead n val.toNat)
  else
    let r := s.ringOf n
    s.setRing n (if tail then { r with keptTail := some val.toNat } else { r with keptHead := some val.toNat })

/-- SQ_TAIL_WRITE (R60). -/
def execSqTailWrite (t : Nat) (ring : Fin 64) (val : Word) (s : State) : Out State :=
  ok ((s.to t).ringDoorbell ring.val true val)

/-- CQ_HEAD_WRITE (R60). -/
def execCqHeadWrite (t : Nat) (ring : Fin 64) (val : Word) (s : State) : Out State :=
  ok ((s.to t).ringDoorbell ring.val false val)

/-! ### The fetch log (R76) -/

/-- The bytes of a fetch-log record (Table HIF-7). -/
def logBytes (st : LogState) (ring tag index cqIndex flow opcode : Nat) : List Byte :=
  leBytes 1 st.code ++ leBytes 1 ring ++ leBytes 2 tag ++ leBytes 4 index ++ leBytes 4 cqIndex ++ leBytes 2 flow
    ++ leBytes 2 opcode

/-- Where the fetch-log record of submission index `idx` of ring `n` lies (R76). -/
def State.logAt (s : State) (n idx : Nat) : Nat := s.rd64 (Reg.HIF_RING_LOG_BASE n) + 16 * (idx % 2 ^ s.sqLog n)

/-- Write the fetch-log record of an item fetched from ring `n` at submission index `idx`. -/
def State.writeLog (s : State) (n : Nat) (st : LogState) (it : Item) (idx cqIndex : Nat) : State :=
  s.writeHost (s.logAt n idx) (logBytes st n it.d.tag.toNat idx cqIndex it.flow it.d.opcode.toNat)

/-! ### Enabling (R59, R78, R79) -/

/-- An array of `size` bytes from `base` does not cross a 4 GiB boundary. -/
def inside4G (base size : Nat) : Bool := base % 2 ^ 32 + size ≤ 2 ^ 32

/-- The configuration rules of R59. -/
def State.ringCfgOk (s : State) (n : Nat) : Bool :=
  let S := s.sqLog n
  let C := s.cqLog n
  4 ≤ S && S ≤ C && C ≤ 16
    && inside4G (s.rd64 (Reg.HIF_RING_SQ_BASE n)) (64 * 2 ^ S)
    && inside4G (s.rd64 (Reg.HIF_RING_CQ_BASE n)) (32 * 2 ^ C)
    && inside4G (s.rd64 (Reg.HIF_RING_LOG_BASE n)) (16 * 2 ^ S)

/-- Insert a log record in order of its INDEX, oldest first, differences modulo 2^32. -/
def insertLog (l : List LogRec) (r : LogRec) : List LogRec :=
  match l with
  | [] => [r]
  | x :: xs => if idxDiff x.index.toNat r.index.toNat < 2 ^ 31 ∧ x.index ≠ r.index then r :: x :: xs
    else x :: insertLog xs r

/-- The non-empty records, oldest INDEX first (R78 step 4). -/
def logOrder (l : List LogRec) : List LogRec :=
  (l.filter (fun r => r.state != .empty)).foldl insertLog []

/-- PHASE of completion index `j` on a ring of 2^C entries (R72): 1 on even laps. -/
def phaseOf (C j : Nat) : Nat := (j / 2 ^ C + 1) % 2

/-- The item that stands for a fetch-log record in a recovery. -/
def LogRec.item (r : LogRec) (n id : Nat) : Item :=
  ⟨id, .ring n r.index.toNat, none,
    { Desc.zero with tag := r.tag, opcode := r.opcode, flow := r.flow.truncate 10 }, false, .fresh⟩

/-- One record of the recovery scan (R78 step 4). -/
def State.scanRecord (s : State) (n : Nat) (r : LogRec) : State :=
  let known := (s.ringOf n).out.any (fun o => o.src == .ring n r.index.toNat)
  let it := r.item n s.hif.nextId
  let matched := r.state == .completing && r.cqTag == r.tag
    && (r.cqPhase == (phaseOf (s.cqLog n) r.cqIndex.toNat == 1))
  if known ∨ r.state = .complete ∨ r.state = .empty then s
  else if matched then s.writeLog n .complete it r.index.toNat r.cqIndex.toNat
  else
    let s := s.tookId
    let rt := s.ringOf n
    s.setRing n { rt with
      out := rt.out ++ [it]
      fin := rt.fin ++ [⟨.recovery, it, ⟨it.d.tag.toNat, .failReset, false, 0, noCell, s.devNs, Res.zero⟩⟩] }

/-- Start a ring with RECOVER set (R78, R80): held completions first, then the scan; what still runs completes on its own,
with its records. -/
def State.recoverRing (s : State) (n : Nat) (log : List LogRec) : State :=
  let recs := logOrder log
  let head := match recs.getLast? with
    | some r => (r.index.toNat + 1) % 2 ^ 32
    | none => 0
  let s := s.setRing n { s.ringOf n with fin := (s.ringOf n).fin.map (fun (f : Fin_) =>
    if f.kind = .stale then { f with kind := .normal } else f) }
  let s := recs.foldl (fun s r => s.scanRecord n r) s
  let r := s.ringOf n
  let s := s.setRing n { r with
    tail := head, cqHead := s.rd (Reg.HIF_RING_CQ_PI n), evSeq := 0, staleIds := [], recPend := r.fin.length, recFailed := 0 }
  s.wr (Reg.HIF_RING_SQ_HEAD n) head

/-- Start a ring afresh (R79): what is still outstanding is stale. -/
def State.freshRing (s : State) (n : Nat) : State :=
  let r := s.ringOf n
  let ended := r.fin.map (fun f => f.item.id)
  let s := s.setRing n { r with
    tail := 0, cqHead := 0, evSeq := 0, recPend := 0, recFailed := 0
    fin := r.fin.map (fun f => if f.c.event then f else { f with kind := .stale })
    staleIds := (r.out.map Item.id).filter (fun i => !ended.contains i) }
  ((s.wr (Reg.HIF_RING_SQ_HEAD n) 0).wr (Reg.HIF_RING_CQ_PI n) 0).set (B.HIF_RING_RECOV_CNT_STALE n) 0

/-- A written HIF_RING_n_CTL acts: a rising ENABLE starts the ring afresh or with recovery, where its configuration is
legal (R59). -/
def State.writeRingCtl (s : State) (n : Nat) (val : Word) (log : List LogRec) : State :=
  let was := s.ringOn n
  let on := val.getLsbD 0
  let recover := val.getLsbD 1
  let s := s.setFlag (B.HIF_RING_CTL_RECOVER n) recover
  if on ∧ !was then
    if s.ringCfgOk n then
      let s := s.setFlag (B.HIF_RING_CTL_ENABLE n) true
      let s := s.setFlag (B.HIF_RING_STS_RECOVERING n) true
      (if recover then s.recoverRing n log else s.freshRing n).reportRing n
    else s.ringEvent n (B.HIF_RING_STS_CFG_ERR n)
  else (s.setFlag (B.HIF_RING_CTL_ENABLE n) on).reportRing n

/-- RING_ENABLE: a write to HIF_RING_n_CTL (R59, R78, R79). -/
def execRingEnable (t : Nat) (rq : Requester) (ring : Fin 64) (val : Word) (log : List LogRec) (s : State) :
    Out State :=
  let n := ring.val
  ok ((s.to t).access rq (Reg.HIF_RING_CTL n) true (fun s => s.writeRingCtl n val log))

/-- Whether every completion the enable found has been written (R78 step 6, R79). -/
def State.ringClear (s : State) (n : Nat) : Bool :=
  let r := s.ringOf n
  if s.flag (B.HIF_RING_CTL_RECOVER n) then r.recPend == 0
  else r.staleIds.isEmpty && !r.fin.any (fun f => f.kind == .stale)

/-- Apply the kept doorbells (R60). -/
def State.applyKept (s : State) (n : Nat) : State :=
  let r := s.ringOf n
  let s := s.setRing n { r with keptTail := none, keptHead := none }
  let s := match r.keptTail with | some v => s.applyTail n v | none => s
  match r.keptHead with | some v => s.applyHead n v | none => s

/-- RING_RECOVERED (R78 step 6, R79). -/
def execRingRecovered (t : Nat) (ring : Fin 64) (s : State) : Out State :=
  let n := ring.val
  let s := s.to t
  if s.runs 1 blkWriter ∧ s.ringOn n ∧ s.flag (B.HIF_RING_STS_RECOVERING n) ∧ s.ringClear n then
    let s := if s.flag (B.HIF_RING_CTL_RECOVER n) then
        s.set (B.HIF_RING_RECOV_CNT_FAILED n) (s.ringOf n).recFailed else s
    let s := s.setFlag (B.HIF_RING_STS_RECOVERING n) false
    let s := s.ringEvent n (B.HIF_RING_STS_RECOVERED n)
    ok ((s.applyKept n).reportRing n)
  else ok s

/-! ### Fetching (R61, R77, R98) -/

/-- The items of a batch, with identities and submission indices from `id` and `idx` up. -/
def batchItems (n id idx : Nat) (ds : List Desc) : List Item :=
  match ds with
  | [] => []
  | d :: r => ⟨id, .ring n idx, none, d, false, .fresh⟩ :: batchItems n (id + 1) ((idx + 1) % 2 ^ 32) r

/-- Whether HIF may fetch `k` descriptors from ring `n` now. -/
def State.mayFetch (s : State) (n k : Nat) : Bool :=
  let r := s.ringOf n
  let head := s.rd (Reg.HIF_RING_SQ_HEAD n)
  s.doorbellLive n && 1 ≤ k && k ≤ 16 && k ≤ idxDiff r.tail head
    && k + s.buffered n ≤ 16
    && (List.range k).all (fun j => !r.out.any (fun o =>
         o.src == .ring n ((head + j + 2 ^ 32 - 2 ^ s.sqLog n) % 2 ^ 32)))

/-- A fetched item goes on: an operation that acts when fetched waits for nothing; in halter mode items reach their
regions without the dispatcher (R82); any other item enters its ring's input buffer (R98). -/
def State.placeFetched (s : State) (n : Nat) (it : Item) : State :=
  if actsAtFetch it.d.opcode.toNat then s
  else if s.halter then s.passUnknown n
  else (s.toPort n it).reportRingCurb n

/-- FETCHED records of a batch are written (R77). -/
def State.logFetched (s : State) (n : Nat) (items : List Item) : State :=
  items.foldl (fun (s : State) (it : Item) => match it.src with
    | .ring _ i => s.writeLog n .fetched it i 0
    | _ => s) s

/-- A batch of descriptors is fetched and passed on (R77). -/
def State.fetchBatch (s : State) (n : Nat) (ds : List Desc) : State :=
  let head := s.rd (Reg.HIF_RING_SQ_HEAD n)
  let items := batchItems n s.hif.nextId head ds
  let s := s.logFetched n items
  let s := { s with hif := { s.hif with nextId := s.hif.nextId + ds.length } }
  let s := s.wr (Reg.HIF_RING_SQ_HEAD n) ((head + ds.length) % 2 ^ 32)
  let r := s.ringOf n
  let s := s.setRing n { r with out := r.out ++ items }
  (items.foldl (fun (s : State) (it : Item) => s.placeFetched n it) s).reportRing n

/-- DESCRIPTOR_FETCH (R77); `raw` are the descriptors, 64 bytes each, as host memory holds them (R63). -/
def execDescriptorFetch (t : Nat) (ring : Fin 64) (raw : List (List Byte)) (s : State) : Out State :=
  let s := s.to t
  let ds := raw.map Desc.ofBytes
  if s.mayFetch ring.val ds.length then ok (s.fetchBatch ring.val ds) else ok s

/-! ### Writing completions (R61, R77, R89) -/

/-- Count a written completion toward the ring's vector (R89). -/
def State.ringIrq (s : State) (n : Nat) (now : Bool) : State :=
  let r := s.ringOf n
  let k := r.irqCount + 1
  if now ∨ s.get (B.HIF_RING_IRQ_COUNT n) ≤ k then
    (s.setRing n { r with irqCount := 0, irqFirst := none }).fire n
  else s.setRing n { r with irqCount := k, irqFirst := some (r.irqFirst.getD s.cyc) }

/-- Where the completion of ring `n` that is written next lies (R61). -/
def State.cqEntry (s : State) (n : Nat) : Nat :=
  s.rd64 (Reg.HIF_RING_CQ_BASE n) + 32 * (s.rd (Reg.HIF_RING_CQ_PI n) % 2 ^ s.cqLog n)

/-- The 32 bytes of a completion and its log records go to host memory, the entry between COMPLETING and COMPLETE
(R77, R78, Table HIF-7). -/
def State.writeEntry (s : State) (n : Nat) (f : Fin_) : State :=
  let pi := s.rd (Reg.HIF_RING_CQ_PI n)
  let C := s.cqLog n
  let tag := if f.c.event then (s.ringOf n).evSeq else f.c.tag
  let entry := s.cqEntry n
  let bytes := f.c.bytes tag (phaseOf C pi)
  match f.kind, f.item.src with
  | .normal, .ring _ i =>
    if f.c.event then s.writeHost entry bytes
    else ((s.writeLog n .completing f.item i pi).writeHost entry bytes).writeLog n .complete f.item i pi
  | .recovery, .ring _ i => (s.writeHost entry bytes).writeLog n .complete f.item i pi
  | _, _ => s.writeHost entry bytes

/-- Write one completion of ring `n` at CQ_PI: its log records under R77 where `f` has them, the completion, PHASE by
its lap (R72), an event with the ring's sequence number (R71). -/
def State.writeCompletion (s : State) (n : Nat) (f : Fin_) : State :=
  let pi := s.rd (Reg.HIF_RING_CQ_PI n)
  let r := s.ringOf n
  let s := s.writeEntry n f
  let s := s.wr (Reg.HIF_RING_CQ_PI n) ((pi + 1) % 2 ^ 32)
  let s := s.setRing n { r with
    evSeq := if f.c.event then (r.evSeq + 1) % 2 ^ 16 else r.evSeq
    out := if f.c.event then r.out else r.out.filter (fun o => o.id != f.item.id)
    recPend := r.recPend - 1
    recFailed := if f.kind = .recovery then r.recFailed + 1 else r.recFailed }
  let s := if f.c.event ∧ f.item.src = .internal ∧ f.item.id = 0 then
    s.seeEvent f.c (f.c.bytes r.evSeq (phaseOf (s.cqLog n) pi)) else s
  ((s.ringIrq n (f.item.d.irq && !f.c.event)).reportRing n).passUnknown n

/-- COMPLETION_WRITE (R61, R77): the completion that has waited longest. While the stale completions of a fresh enable
are being written, no other is (R79). -/
def execCompletionWrite (t : Nat) (ring : Fin 64) (s : State) : Out State :=
  let n := ring.val
  let s := s.to t
  let r := s.ringOf n
  match r.fin with
  | f :: rest =>
    if s.runs 1 blkWriter ∧ !s.hif.pcie.d3hot ∧ s.ringOn n ∧ s.cqRoom n ∧ f.kind ≠ .stale ∧
        !(s.flag (B.HIF_RING_STS_RECOVERING n) && !s.flag (B.HIF_RING_CTL_RECOVER n)) then
      ok ((s.setRing n { r with fin := rest }).writeCompletion n f)
    else ok (s.reportRing n)
  | [] => ok s

/-- STALE_COMPLETION_WRITE (R79). -/
def execStaleCompletionWrite (t : Nat) (ring : Fin 64) (s : State) : Out State :=
  let n := ring.val
  let s := s.to t
  let r := s.ringOf n
  match r.fin.find? (fun f => f.kind == .stale) with
  | some f =>
    if s.runs 1 blkWriter ∧ !s.hif.pcie.d3hot ∧ s.ringOn n ∧ s.cqRoom n ∧ s.flag (B.HIF_RING_STS_RECOVERING n) then
      let s := (s.setRing n { r with fin := r.fin.filter (fun g => g.item.id != f.item.id || g.kind != .stale) })
      let s := s.writeCompletion n f
      ok (s.set (B.HIF_RING_RECOV_CNT_STALE n) (s.get (B.HIF_RING_RECOV_CNT_STALE n) + 1))
    else ok (s.reportRing n)
  | none => ok s

/-- IRQ_HOLDOFF_EXPIRY (R89). -/
def execIrqHoldoffExpiry (t : Nat) (ring : Fin 64) (s : State) : Out State :=
  let n := ring.val
  let s := s.to t
  let r := s.ringOf n
  match r.irqFirst with
  | some t0 =>
    if t0 + s.get (B.HIF_RING_IRQ_HOLDOFF n) * cycUs ≤ s.cyc then
      ok ((s.setRing n { r with irqCount := 0, irqFirst := none }).fire n)
    else ok s
  | none => ok s

end Sys2Proof.Machine
end

