-- ==== Sys2Proof/Machine/NetStop.lean ====
section
/-!
DEFINITION. The stop block of NET (R335, R386, R392): the express stop frame, its layout and its sending.
-/

namespace Sys2Proof.Machine

/-- The express stop frame of a port (Table WHOA-2; with VLAN_EN, R386), FCS included. -/
def State.stopFrame (s : State) (port st cause seq : Nat) : List Byte :=
  let sa := if port = 0 then s.rd64 Reg.NET_A_MAC else s.rd64 Reg.NET_B_MAC
  let tagged := s.flag B.NET_STOP_VLAN_VLAN_EN
  let tag := if tagged then beBytes 2 0x8100
      ++ beBytes 2 (s.get B.NET_STOP_VLAN_VID + s.get B.NET_STOP_VLAN_PCP * 2 ^ 13) else []
  let body := beBytes 6 (s.rd64 Reg.NET_STOP_DA) ++ beBytes 6 sa ++ tag ++ beBytes 2 0x88B5
    ++ [0x44#8, 0x5A#8, 0x53#8, 0x54#8, 1#8] ++ leBytes 1 st ++ leBytes 1 cause ++ [0#8] ++ leBytes 2 seq
    ++ leBytes 8 s.devNs ++ List.replicate (if tagged then 24 else 28) 0#8
  withFcs body

/-- Note what a port has sent; REC sees its frames (Table REC-1), a stop frame at its sending. -/
def State.netSent (s : State) (o : NetOut) : State :=
  let s := match o with
    | .frame p _ _ stamp bs => s.seeWire p true stamp 0 bs
    | .stop p bs => s.seeWire p true s.devNs 0 bs
    | _ => s
  { s with net := { s.net with sent := s.net.sent ++ [o] } }

/-! ### The line of Port A (R383, R385) -/

/-- Tenths of a nanosecond since power-on. -/
def State.tenths (s : State) : Nat := s.cyc * 20

/-- A byte time of Port A in tenths of a nanosecond. -/
def State.byteTime (s : State) : Nat := if s.flag B.NET_A_STS_SPEED then 32 else 80

/-- The end of what is on the line: preamble, its bytes, the 12-byte gap. -/
def State.wireEnd (s : State) (w : Wire) : Nat := w.since + (w.len - w.from_ + 20) * s.byteTime

/-- What is on the line of Port A now. -/
def State.wireNow (s : State) : Option Wire :=
  match s.net.wire with
  | some w => if s.wireEnd w ≤ s.tenths then none else some w
  | none => none

/-- Preemption is active (R383). -/
def State.preempts (s : State) : Bool := s.flag B.NET_A_CFG_PREEMPT && s.flag B.NET_A_STS_VERIFIED

/-- The byte at which a preemptable frame on the line can end its fragment, at the earliest (R383): the fragment, its mCRC
included, has 64 × (1 + ADD_FRAG) bytes, and 64 bytes of the frame remain. -/
def State.preemptAt (s : State) (w : Wire) : Option Nat :=
  let sent := w.from_ + ((s.tenths - w.since) / s.byteTime - 8)
  let b := max sent (w.from_ + 64 * (1 + s.get B.NET_A_CFG_ADD_FRAG) - 4)
  if s.preempts ∧ !w.express ∧ b + 64 ≤ w.len then some b else none

/-- A preemptable frame on the line ends its fragment at the next preemption point, where it has one; its rest is held
(R383, R385). -/
def State.preempt (s : State) : State :=
  match s.wireNow with
  | some w => (match s.preemptAt w with
    | some b => { s with net := { s.net with
        wire := none, held := some { w with from_ := b }, sent := s.net.sent ++ [.cut w.id b] } }
    | none => s)
  | none => s

/-- Send the stop frame on Port A, counting its sequence; it preempts a preemptable frame (R386). -/
def State.stopOnA (s : State) (st cause : Nat) : State :=
  let s := s.preempt
  let q := s.net.stopSeq
  let s := s.netSent (.stop 0 (s.stopFrame 0 st cause q.1))
  { s with net := { s.net with stopSeq := ((q.1 + 1) % 2 ^ 16, q.2), stopHeld := none } }

/-- Send the stop frame on Port B, counting its sequence. -/
def State.stopOnB (s : State) (st cause : Nat) : State :=
  let q := s.net.stopSeq
  let s := s.netSent (.stop 1 (s.stopFrame 1 st cause q.2))
  { s with net := { s.net with stopSeq := (q.1, (q.2 + 1) % 2 ^ 16) } }

/-- The stop-frame sender runs: not OFF; a NET region reset does not stop it (R392). In halter mode NET does not run. -/
def State.stopSender (s : State) : Bool := s.rgnState 10 != rsOff && !s.halter

/-- WHOA's express stop request (R332, R335): one frame on Port A, where a pause holds it back unless
NET_STOP_IGNORE_PAUSE is set (R386), and on Port B where that is enabled and the region runs (R392). -/
def State.sendStop (s : State) (st cause : Nat) : State :=
  if s.stopSender then
    let s := { s with net := { s.net with stopAt := s.cyc } }
    let s := if s.flag B.NET_A_CFG_ENABLE then
        if s.net.paused ∧ !s.flag B.NET_STOP_IGNORE_PAUSE_SET then
          { s with net := { s.net with stopHeld := some (st, cause) } }
        else s.stopOnA st cause
      else s
    if s.flag B.NET_B_CFG_ENABLE ∧ s.flag B.NET_STOP_VLAN_PORT_B_EN ∧ s.runs 10 (blkPort 1) then s.stopOnB st cause else s
  else s

end Sys2Proof.Machine
end

