-- ==== Sys2Proof/Machine/Whoa.lean ====
section
/-!
DEFINITION. WHOA, the stop network and operator panel (R325 to R346).
-/

namespace Sys2Proof.Machine

/-! ### Causes and state -/

/-- Fault bits of INPUT_FAULT: DISAGREE, TP_A, TP_B, CROSS (Tables WHOA-1 and WHOA-10). -/
def faultsInput : Nat := 0x00F
/-- Fault bit of KEY_FAULT. -/
def faultsKey : Nat := 0x010
/-- Fault bits of WHOA_ERROR: OSC, OUT, REGION, BLOCK. -/
def faultsError : Nat := 0xFE0

/-- WHOA cycles in a millisecond at nominal frequency. -/
def whoaMs : Nat := 100000

/-- The key position: 0 RUN, 1 MAINT, 2 LOCK, 3 both contacts closed. -/
def State.keyPos (s : State) : Nat := s.get B.WHOA_KEY_POS

/-- A plug named in PLUG_STOP or PLUG_STOP_ANT is absent (R341). -/
def State.plugAbsent (s : State) : Bool :=
  let want := s.get B.WHOA_CFG_PLUG_STOP
  (want &&& s.get B.WHOA_PLUG_STS_HPD) != want
    || (s.flag B.WHOA_CFG_PLUG_STOP_ANT && !s.flag B.WHOA_PLUG_STS_ANT_DET)

/-- A confirmed STOP touch keeps its cause active except at LOCK (R339). -/
def State.stopTouched (s : State) : Bool := (s.get B.WHOA_TOUCH_STS_TOUCHED).testBit 1 && s.keyPos != 2

/-- The causes whose conditions hold (Table WHOA-1), bit k for code k. -/
def State.causesNow (s : State) : Nat :=
  let b (c : Bool) (k : Nat) : Nat := if c then 2 ^ k else 0
  b (!s.flag B.WHOA_STS_CHAN_A) 1 + b (!s.flag B.WHOA_STS_CHAN_B) 2
    + b ((s.whoa.latched &&& faultsInput) != 0) 3
    + b (s.keyPos == 1 || s.keyPos == 2) 4
    + b ((s.whoa.latched &&& faultsKey) != 0) 5
    + b s.stopTouched 6
    + b (s.flag B.WHOA_STS_STOP_REQ) 7
    + b ((s.whoa.latched &&& faultsError) != 0) 8
    + b s.plugAbsent 9
    + b s.whoa.powerOn 10

/-- The causes WHOA_CAUSE shows, bit k for code k. -/
def State.causes (s : State) : Nat := s.get B.WHOA_CAUSE_ACTIVE * 2

/-- The lowest code in a set of causes. -/
def lowestCause (m : Nat) : Nat := ((List.range 11).find? (fun k => m.testBit k)).getD 0

/-- Whether WHOA is STOPPED. -/
def State.stopped (s : State) : Bool := s.flag B.WHOA_STS_STOPPED

/-- WHOA's status outputs change: CHIP has yet to see it (R345). -/
def State.whoaChange (s : State) (code arg r1 : Nat) : State :=
  { s with whoa := { s.whoa with changes := s.whoa.changes ++ [⟨code, arg, r1⟩] } }

/-- Release conditions 1 to 3 of R337. -/
def State.releaseReady (s : State) : Bool :=
  s.causes &&& (2 ^ 10 - 1) == 0 && s.whoa.latched == 0 && s.flag B.WHOA_STS_CHAN_A && s.flag B.WHOA_STS_CHAN_B
    && s.keyPos == 0

/-- Release condition 5 of R337. -/
def State.releasePermitted (s : State) : Bool := s.flag B.WHOA_STS_PERMIT || s.flag B.WHOA_CFG_LOCAL_RESUME

/-- The LED outputs (R340, Table WHOA-5): two bits each, 0 off, 1 on, 2 flashing. -/
def State.ledValue (s : State) : Nat :=
  let on (c : Bool) : Nat := if c then 1 else 0
  let want := s.get B.WHOA_CFG_PLUG_STOP
  let hpd := s.get B.WHOA_PLUG_STS_HPD
  let heads := if want = 0 then on (hpd != 0)
    else if hpd &&& want = want then 1 else if hpd &&& want = 0 then 0 else 2
  on s.stopped
    + on (s.whoa.latched != 0) * 2 ^ 2
    + on (!s.stopped) * 2 ^ 4
    + (if s.flag B.WHOA_TOUCH_STS_HOLD then 2 else on (s.releaseReady && s.releasePermitted)) * 2 ^ 6
    + (if s.keyPos = 1 then 1 else if s.keyPos = 2 then 2 else 0) * 2 ^ 8
    + heads * 2 ^ 10
    + on (s.flag B.WHOA_PLUG_STS_ANT_DET) * 2 ^ 12
    + on (s.flag B.WHOA_STS_PERMIT) * 2 ^ 14

/-- A RESUME hold that lost one of conditions 1 to 3 restarts from zero (R337). -/
def State.checkHold (s : State) : State :=
  if s.releaseReady then s else (s.setFlag B.WHOA_TOUCH_STS_HOLD false).set B.WHOA_TOUCH_STS_HOLD_MS 0

/-- Report RELEASE_PENDING and the LEDs. -/
def State.reportWhoa (s : State) : State :=
  let s := s.setFlag B.WHOA_STS_RELEASE_PENDING (s.stopped && s.causes &&& (2 ^ 10 - 1) == 0)
  let s := s.checkHold
  s.wr Reg.WHOA_LED s.ledValue

/-- WHOA enters STOPPED for cause `c` (R332): HEAD_n_STOP lines high, drivers off, the express stop request, the status
outputs. -/
def State.enterStopped (s : State) (c : Nat) : State :=
  let s := (s.setFlag B.WHOA_STS_STOPPED true).set B.WHOA_STS_FIRST_CAUSE c
  let s := { s.set B.WHOA_STS_OUT 0 with whoa := { s.whoa with headStop := true } }
  ((s.noteFire 3 s.devNs).whoaChange 1 c 0).sendStop 1 c

/-- Take the causes as their conditions now stand (R325, R326): a cause that becomes active clears PERMIT (R344) and
stops WHOA where it is in GO. -/
def State.whoaEval (s : State) : State :=
  let old := s.causes
  let now := s.causesNow
  let newly := now - (now &&& old)
  let s := s.wr Reg.WHOA_CAUSE now
  let s := if newly = 0 then s else s.setFlag B.WHOA_STS_PERMIT false
  let s := if !s.stopped ∧ now ≠ 0 then
      (s.enterStopped (lowestCause newly)).count Reg.WHOA_CNT_STOP else s
  s.reportWhoa

/-- Latch a fault bit (Table WHOA-10). -/
def State.latchFault (s : State) (bit : Nat) : State :=
  let s := { s with whoa := { s.whoa with
    latched := s.whoa.latched ||| 2 ^ bit, seen := Sp.put s.whoa.seen bit s.cyc } }
  let s := s.wr Reg.WHOA_FAULT (s.rd Reg.WHOA_FAULT ||| 2 ^ bit)
  s.whoaChange 3 0 (s.rd Reg.WHOA_FAULT)

/-- WHOA releases (R337): lines low, drivers on, POWER_ON and PERMIT cleared, one stop frame with STATE 0. -/
def State.release (s : State) : State :=
  let s := { s with whoa := { s.whoa with powerOn := false, headStop := false, holdSpent := true } }
  let s := (s.setFlag B.WHOA_STS_STOPPED false).set B.WHOA_STS_FIRST_CAUSE 0
  let s := (s.set B.WHOA_STS_OUT 15).setFlag B.WHOA_STS_PERMIT false
  let s := (s.setFlag B.WHOA_TOUCH_STS_HOLD false).wr Reg.WHOA_CAUSE 0
  ((s.whoaChange 2 0 0).sendStop 0 0).reportWhoa

/-- CHIP asserts STOP_REQ (R36, R344). -/
def State.requestStop (s : State) : State := (s.setFlag B.WHOA_STS_STOP_REQ true).whoaEval

/-- WHOA restarts after a block or region error (R343): STOPPED with POWER_ON inactive, WHOA_ERROR reported; inputs,
latched faults and counters kept; the electrodes are measured afresh (log entry 20). -/
def State.whoaRestart (s : State) (bit : Nat) : State :=
  let s := (s.latchFault bit).whoaEval
  let s := s.set B.WHOA_STS_FIRST_CAUSE 8
  let s := { s with whoa := { s.whoa with
    powerOn := false, holdSpent := false, turning := false, touch := [], measured := false, dry := 0 } }
  let s := s.wr Reg.WHOA_TOUCH_STS 0
  s.whoaEval

/-! ### Stop inputs -/

/-- The field that shows channel `ch` closed. -/
def chanBit (ch : Nat) : Bits := if ch = 0 then B.WHOA_STS_CHAN_A else B.WHOA_STS_CHAN_B

/-- STOP_CHANNEL_OPEN: `low` WHOA cycles low without a break (R327). -/
def execStopChannelOpen (t : Nat) (ch : Fin 2) (low : Nat) (s : State) : Out State :=
  let s := s.to t
  if 19000 ≤ low then ok ((s.setFlag (chanBit ch.val) false).whoaEval) else ok s

/-- STOP_CHANNEL_CLOSED: `high` WHOA cycles high without a break (R327). -/
def execStopChannelClosed (t : Nat) (ch : Fin 2) (high : Nat) (s : State) : Out State :=
  let s := s.to t
  if 19000 ≤ high then
    let w := s.whoa
    let s := if s.flag (chanBit ch.val) then s else
      { s with whoa := { w with
        closedAt := if ch.val = 0 then (s.cyc, w.closedAt.2) else (w.closedAt.1, s.cyc) } }
    ok ((s.setFlag (chanBit ch.val) true).whoaEval)
  else ok s

/-- Time enough for something WHOA does every `ms` ms of its own oscillator has passed since `last`, at the −5 % limit of its
period (R327, R336; DEDUCED, log entry 136). -/
def State.whoaDue (s : State) (last : Option Nat) (ms : Nat) : Bool :=
  match last with
  | some c => decide (c + ms * cycMs * 95 / 100 ≤ s.cyc)
  | none => true

/-- TEST_PULSE (R328), every TP_PERIOD: STOP_TP_x is low for 5,000 WHOA cycles. `fell` is when the channel's own input went
low, in cycles from the start of the pulse (0 where it was low before), `low` how long it then stayed low, without a break
and up to 19,000 cycles (0 where it never went low); `other` how long the other channel's input, going low during the
pulse, stayed low. -/
def execTestPulse (t : Nat) (ch : Fin 2) (fell low other : Nat) (s : State) : Out State :=
  let s := s.to t
  let last := if ch.val = 0 then s.whoa.pulseAt.1 else s.whoa.pulseAt.2
  if !s.whoaDue last (s.get B.WHOA_CFG_TP_PERIOD * 10) then ok s
  else
    let s := { s with whoa := { s.whoa with
      pulseAt := if ch.val = 0 then (some s.cyc, s.whoa.pulseAt.2) else (s.whoa.pulseAt.1, some s.cyc) } }
    let went := 0 < low && fell ≤ 2000
    let back := fell + low ≤ 7000 || 19000 ≤ low
    let tp := !went || !back
    let cross := 0 < other && other < 19000
    if tp || cross then
      let s := if tp then s.latchFault (1 + ch.val) else s
      let s := if cross then s.latchFault 3 else s
      let s := { s with whoa := { s.whoa with failAt := s.cyc } }
      ok ((s.count Reg.WHOA_CNT_TP_FAIL).whoaEval)
    else ok s

/-- DISAGREE_FAULT: one channel open and the other closed for `apart` WHOA cycles (R329). -/
def execDisagreeFault (t : Nat) (apart : Nat) (s : State) : Out State :=
  let s := s.to t
  if s.flag B.WHOA_STS_CHAN_A ≠ s.flag B.WHOA_STS_CHAN_B ∧ 50 * whoaMs < apart then ok ((s.latchFault 0).whoaEval)
  else ok s

/-! ### Key, outputs, oscillator, plugs -/

/-- Both channels closed and every test pulse passed throughout the last second (R330). -/
def State.loopsGood (s : State) : Bool :=
  let w := s.whoa
  s.flag B.WHOA_STS_CHAN_A && s.flag B.WHOA_STS_CHAN_B && w.closedAt.1 + cycS ≤ s.cyc && w.closedAt.2 + cycS ≤ s.cyc
    && w.failAt + cycS ≤ s.cyc

/-- The latched faults that a turn of the key clears: those whose condition was absent throughout the last second
(R330). -/
def State.clearable (s : State) : Nat :=
  (List.range 12).foldl (fun m k =>
    if s.whoa.latched.testBit k ∧ Sp.at s.whoa.seen 0 k + cycS ≤ s.cyc then m + 2 ^ k else m) 0

/-- KEY_POSITION: position `pos` steady for `steady` WHOA cycles (R331): read after 20 ms; both contacts closed for
50 ms latches KEY_FAULT; a turn from RUN to MAINT and back clears faults (R330). -/
def execKeyPosition (t : Nat) (pos : Fin 4) (steady : Nat) (s : State) : Out State :=
  let s := s.to t
  if steady < 20 * whoaMs then ok s
  else
    let old := s.keyPos
    let s := s.wr Reg.WHOA_KEY pos.val
    let s := if old = pos.val then s else s.whoaChange 4 0 pos.val
    let s := if old = 3 then { s with whoa := { s.whoa with seen := Sp.put s.whoa.seen 4 s.cyc } } else s
    let s := if pos.val = 3 ∧ 50 * whoaMs ≤ steady then s.latchFault 4 else s
    let s := if pos.val = 0 ∧ old = 1 ∧ s.whoa.turning ∧ s.loopsGood then
        { s with whoa := { s.whoa with latched := s.whoa.latched - s.clearable } } else s
    let turning := if old = 0 ∧ pos.val = 1 then true else if pos.val = 1 then s.whoa.turning else false
    let service := s.flag B.WHOA_PLUG_STS_SVC_DET && pos.val == 1
    let s := (s.setFlag B.WHOA_PLUG_STS_SERVICE_OK service).setFlag B.CHIP_DEBUG_SERVICE_OK service
    ok ({ s with whoa := { s.whoa with turning := turning } }).whoaEval

/-- OUTPUT_READBACK_FAULT: the driver outputs read `outs` for `steady` WHOA cycles (R334). -/
def execOutputReadbackFault (t : Nat) (outs : BitVec 4) (steady : Nat) (s : State) : Out State :=
  let s := s.to t
  let bad := s.get B.WHOA_STS_OUT ^^^ outs.toNat
  if whoaMs < steady ∧ bad ≠ 0 then
    ok (((List.range 4).foldl (fun s k => if bad.testBit k then s.latchFault (6 + k) else s) s).whoaEval)
  else ok s

/-- OSC_MONITOR: cycles of the two oscillators in the same millisecond (R343). -/
def execOscMonitor (t : Nat) (main second : Nat) (s : State) : Out State :=
  let s := s.to t
  let diff := (main - second) + (second - main)
  if main < diff * 10 then ok ((s.latchFault 5).whoaEval) else ok s

/-- PLUG_DETECT: the plug detects steady for `steady` WHOA cycles (R341, R342). -/
def execPlugDetect (t : Nat) (hpd : BitVec 8) (ant svc : Bool) (steady : Nat) (s : State) : Out State :=
  let s := s.to t
  if steady < 10 * whoaMs then ok s
  else
    let old := s.rd Reg.WHOA_PLUG_STS
    let service := svc && s.keyPos == 1
    let new := hpd.toNat + (if ant then 2 ^ 8 else 0) + (if svc then 2 ^ 9 else 0) + (if service then 2 ^ 10 else 0)
    let s := (s.wr Reg.WHOA_PLUG_STS new).setFlag B.CHIP_DEBUG_SERVICE_OK service
    let s := if old = new then s else s.whoaChange 6 0 new
    ok s.whoaEval

/-! ### Touch keys (R338, R339) -/

/-- Electrode `k`'s threshold in counts: TOUCH_THR, or RAIN_THR for the guard, in steps of 16. -/
def State.touchThr (s : State) (k : Nat) : Nat :=
  16 * (if k = 12 then s.get B.WHOA_CFG_RAIN_THR else s.get B.WHOA_CFG_TOUCH_THR)

/-- The baseline moves one count toward the reading. -/
def follow (base reading : Nat) : Nat :=
  if base < reading then base + 1 else if reading < base then base - 1 else base

/-- One electrode's measurement: raw register, baseline (at most one count each 200 measurements while untouched), the
six-measurement confirmation of a touch or a release. -/
def State.measureOne (s : State) (k reading : Nat) : State :=
  let base := if s.whoa.measured then s.get (B.WHOA_TOUCH_RAW_BASELINE k) else reading
  let thr := s.touchThr k
  let e := Sp.at s.whoa.touch Electrode.reset k
  let excess := reading - base
  let touched := (s.get B.WHOA_TOUCH_STS_TOUCHED).testBit k
  let above := if thr ≤ excess then e.above + 1 else 0
  let below := if excess < thr / 2 then e.below + 1 else 0
  let touched' := if k = 12 then false else if !touched ∧ 6 ≤ above then true
    else if touched ∧ 6 ≤ below then false else touched
  let move := !touched && 199 ≤ e.sinceMove
  let base' := if move then follow base reading else base
  let e' : Electrode := { e with above := min above 6, below := min below 6, sinceMove := if move then 0 else e.sinceMove + 1 }
  let s := s.wr (Reg.WHOA_TOUCH_RAW k) (reading % 2 ^ 16 + base' * 2 ^ 16)
  let s := { s with whoa := { s.whoa with touch := Sp.store s.whoa.touch Electrode.reset k e' } }
  let m := s.get B.WHOA_TOUCH_STS_TOUCHED
  if touched' = touched then s
  else s.set B.WHOA_TOUCH_STS_TOUCHED (if touched' then m + 2 ^ k else m - 2 ^ k)

/-- Measure electrodes `k` up, with their readings. -/
def State.measureAll (s : State) (k : Nat) (rs : List (BitVec 16)) : State :=
  match rs with
  | [] => s
  | r :: rest => (s.measureOne k r.toNat).measureAll (k + 1) rest

/-- Number of electrodes in a touched set. -/
def touchCount (m : Nat) : Nat := ((List.range 12).filter (fun k => m.testBit k)).length

/-- Three or more adjacent electrodes are touched; electrode 11 is adjacent to electrode 0 (R338). -/
def palmLaid (m : Nat) : Bool :=
  (List.range 12).any (fun k => m.testBit k && m.testBit ((k + 1) % 12) && m.testBit ((k + 2) % 12))

/-- WET and PALM after a measurement (R338). -/
def State.suppression (s : State) : State :=
  let m := s.get B.WHOA_TOUCH_STS_TOUCHED
  let guardUp := s.touchThr 12 ≤ s.get (B.WHOA_TOUCH_RAW_READING 12) - s.get (B.WHOA_TOUCH_RAW_BASELINE 12)
  let wetNow := guardUp || 4 ≤ touchCount m
  let dry := if wetNow then 0 else s.whoa.dry + 1
  let wet := wetNow || (s.flag B.WHOA_TOUCH_STS_WET && dry < 100)
  let palm := palmLaid m || (s.flag B.WHOA_TOUCH_STS_PALM && m != 0)
  let s := { s with whoa := { s.whoa with dry := min dry 100 } }
  (s.setFlag B.WHOA_TOUCH_STS_WET wet).setFlag B.WHOA_TOUCH_STS_PALM palm

/-- Whether a touch of electrode `k` is suppressed: by LOCK, or by WET or PALM except for STOP (R331, R338, R339). -/
def State.touchSuppressed (s : State) (k : Nat) : Bool :=
  s.keyPos == 2 || (k != 1 && (s.flag B.WHOA_TOUCH_STS_WET || s.flag B.WHOA_TOUCH_STS_PALM))

/-- Report the presses and releases between the touched sets `old` and now (R338). -/
def State.reportTouches (s : State) (old : Nat) : State :=
  (List.range 12).foldl (fun s k =>
    let was := old.testBit k
    let now := (s.get B.WHOA_TOUCH_STS_TOUCHED).testBit k
    let e := Sp.at s.whoa.touch Electrode.reset k
    let put (s : State) (r : Bool) : State :=
      { s with whoa := { s.whoa with touch := Sp.store s.whoa.touch Electrode.reset k { e with reported := r } } }
    if !was ∧ now ∧ !s.touchSuppressed k then (put s true).whoaChange 5 0 (k + 2 ^ 8)
    else if was ∧ !now ∧ e.reported then (put s false).whoaChange 5 0 k
    else s) s

/-- The RESUME hold after a measurement (R337, R339): counting while RESUME alone is touched, unsuppressed, and
conditions 1 to 3 hold; 5 ms more each measurement. -/
def State.countHold (s : State) : State :=
  let m := s.get B.WHOA_TOUCH_STS_TOUCHED
  let lifted := !m.testBit 0
  let s := if lifted then { s with whoa := { s.whoa with holdSpent := false } } else s
  if m = 1 ∧ !s.touchSuppressed 0 ∧ s.releaseReady ∧ s.stopped ∧ !s.whoa.holdSpent then
    let ms := if s.flag B.WHOA_TOUCH_STS_HOLD then min 4095 (s.get B.WHOA_TOUCH_STS_HOLD_MS + 5) else 0
    (s.setFlag B.WHOA_TOUCH_STS_HOLD true).set B.WHOA_TOUCH_STS_HOLD_MS ms
  else (s.setFlag B.WHOA_TOUCH_STS_HOLD false).set B.WHOA_TOUCH_STS_HOLD_MS 0

/-- TOUCH_MEASURE, every 5 ms: the readings of electrodes 0 to 11 and the guard (R338). The first measurement after power-on sets
the baselines (DESIGN CHOICE, log entry 20). -/
def execTouchMeasure (t : Nat) (readings : List (BitVec 16)) (s : State) : Out State :=
  let s := s.to t
  if !s.whoaDue s.whoa.touchAt 5 then ok s
  else
    let old := s.get B.WHOA_TOUCH_STS_TOUCHED
    let s := s.measureAll 0 (readings.take 13)
    let s := { s with whoa := { s.whoa with measured := true, touchAt := some s.cyc } }
    ok (((s.suppression.reportTouches old).whoaEval.countHold).reportWhoa)

/-- RESUME_HOLD_COMPLETE: RESUME has been held for 2,000 ms of the WHOA oscillator, 200,000,000 cycles (R337). Without
condition 5 the hold counts as nothing. -/
def execResumeHoldComplete (t : Nat) (s : State) : Out State :=
  let s := s.to t
  if s.flag B.WHOA_TOUCH_STS_HOLD ∧ 2000 ≤ s.get B.WHOA_TOUCH_STS_HOLD_MS ∧ s.stopped ∧ s.releaseReady then
    if s.releasePermitted then ok s.release
    else
      let s := { s with whoa := { s.whoa with holdSpent := true } }
      ok (((s.setFlag B.WHOA_TOUCH_STS_HOLD false).set B.WHOA_TOUCH_STS_HOLD_MS 0).reportWhoa)
  else ok s

/-! ### CHIP's side (R344, R345) -/

/-- WHOA_STATUS_EVENT: CHIP sees the oldest change; vector 65 fires and an ALLOT event is posted (R345). -/
def execWhoaStatusEvent (t : Nat) (s : State) : Out State :=
  let s := s.to t
  match s.whoa.changes with
  | [] => ok s
  | c :: rest =>
    let s := { s with whoa := { s.whoa with changes := rest } }
    let r2 := if s.timeUnset then 0 else s.devNs
    let s := if c.code = 1 ∨ c.code = 2 then s.seeStatus 1 [c.code + c.arg * 256, c.r1, r2] else s
    ok ((s.fire 65).event .allot 13 c.code c.arg c.r1 r2)

/-- FLEET_STOP (R344): asserts STOP_REQ and completes DONE with the reported cause. -/
def execFleetStop (t : Nat) (it : Item) (s : State) : Out State :=
  ok ((s.to t).runOp 0 it (fun it => .fleetStop t it) Checks.pass (fun s it =>
    let s := s.requestStop
    s.finish it 0 .done ⟨s.get B.WHOA_STS_FIRST_CAUSE, 0, 0⟩))

/-- FLEET_RESUME (R344): deasserts STOP_REQ and sets PERMIT; REJ_STATE while WHOA is GO and in halter mode. -/
def execFleetResume (t : Nat) (it : Item) (s : State) : Out State :=
  let s := s.to t
  ok (s.runOp 0 it (fun it => .fleetResume t it) { Checks.pass with state := s.stopped && !s.halter }
    (fun s it =>
      let s := (s.setFlag B.WHOA_STS_STOP_REQ false).whoaEval
      (((s.setFlag B.WHOA_STS_PERMIT true).reportWhoa).finish it 0 .done)))

/-- STOP_FRAME_REPEAT: every 10 ms while STOPPED (R335). -/
def execStopFrameRepeat (t : Nat) (s : State) : Out State :=
  let s := s.to t
  if s.stopped ∧ s.net.stopAt + 10 * cycMs ≤ s.cyc then ok (s.sendStop 1 (s.get B.WHOA_STS_FIRST_CAUSE)) else ok s

end Sys2Proof.Machine
end

