-- ==== Sys2Proof/Machine/Air.lean ====
section
/-!
DEFINITION. The air schedule at work (file 11, and R318 to R320): superframes, what AIR builds for the heads, downlink
spans, the heads' reports.
-/

namespace Sys2Proof.Machine

/-! ### Superframes (R272 to R274) -/

/-- The first whole multiple of 100 ms of device time at or after `t`. -/
def up100 (t : Nat) : Nat := (t + 99999999) / 100000000 * 100000000

/-- The device time of the next superframe start: 100 ms after the present one, or after a time step the first whole
100 ms at or after that (R274); before the first superframe, the first whole 100 ms. -/
def State.nextStart (s : State) : Nat :=
  if s.air.counting then up100 (s.air.sfStart + 100000000)
  else
    let n := (s.air.sfStart / 100000000 + 1) * 100000000
    match s.air.startAt with
    | some w => if s.standby ∨ w < s.air.sfStart then n else w
    | none => n

/-- Owners of the policy functions at a superframe start (R54 to R56). The watchdog counts from the instant at which the
host first owns a function (DEDUCED, log entry 114). -/
def State.takeOwners (s : State) : State :=
  let w := s.rd Reg.SVC_POLICY_OWN
  let ms := s.param P.SVC_HOST_WDOG
  let s := if ms = s.hif.wdogMs then s else { s with hif := { s.hif with wdogMs := ms, wdogLast := s.cyc } }
  if s.hif.revert ∨ (!s.hif.linkUp ∧ w % 32 ≠ 0) then
    let s := (s.wr Reg.SVC_POLICY_OWN (w - w % 32)).setFlag B.SVC_POLICY_OWN_REVERTED true
    ({ s with hif := { s.hif with own := 0, revert := false } }).reroute
  else
    let first := s.hif.own = 0 ∧ w % 32 ≠ 0
    ({ s with hif := { s.hif with own := w % 32, wdogLast := if first then s.cyc else s.hif.wdogLast } }).reroute

/-- HOST_WDOG_EXPIRY: the doorbell of the EVT_RING ring has been silent for longer than SVC_HOST_WDOG while the host owns
a function: every function reverts at the next superframe start (R55, R56). -/
def execHostWdogExpiry (t : Nat) (s : State) : Out State :=
  let s := s.to t
  if s.hif.own ≠ 0 ∧ s.hif.wdogMs ≠ 0 ∧ s.hif.wdogLast + s.hif.wdogMs * cycMs < s.cyc then
    ok { s with hif := { s.hif with revert := true } }
  else ok s

/-- A context takes its new next hop at a superframe start (R316). -/
def State.startRoute (s : State) (n : Nat) : State :=
  let x := s.airCtx n
  match x.nextHop with
  | some h => ((s.setAirCtx n { x with nextHop := none }).route n h).reportRoutes
  | none => s

/-- A context that was told to sleep is SLEEPER from a superframe start on (R314). -/
def State.startSleep (s : State) (n : Nat) : State :=
  let x := s.airCtx n
  if x.sleepNext then
    let s := s.setAirCtx n { x with sleepNext := false }
    if s.ctxState n = ctxAwake then (s.setCtxState n ctxSleeper).set (B.AIR_CTX_STS_MISSES n) 0 else s
  else s

/-- The old K of a rekey is erased after the superframe KEY_SFN (R318). -/
def State.startOldKey (s : State) (n : Nat) : State :=
  let x := s.airCtx n
  match x.oldKey, x.key with
  | some k, some k' => if k'.keySfn < s.sfn then (s.dropKey k).setAirCtx n { x with oldKey := none } else s
  | _, _ => s

/-- The new K of a rekey is in force from superframe KEY_SFN on (R318). -/
def State.startNewKey (s : State) (n : Nat) : State :=
  let x := s.airCtx n
  match x.nextKey with
  | some (k, _) => if k.keySfn ≤ s.sfn then
      (s.dropKey? x.oldKey).setAirCtx n { x with key := some k, nextKey := none, oldKey := x.key } else s
  | none => s

/-- Contexts change at a superframe start: routes (R314), sleep (R314), rekeys (R318). -/
def State.ctxStart (s : State) (n : Nat) : State :=
  (((s.startRoute n).startSleep n).startOldKey n).startNewKey n

/-- G of a context in µs (R290): 30 µs and 25 µs a second since the last valid frame. -/
def State.guardTime (s : State) (n : Nat) : Nat := 30 + 25 * (s.devNs - (s.airCtx n).lastValid) / 1000000000

/-- A SLEEPER span expected in superframe `f` (R283). -/
def inPhase (p : SpanOf) (f : Nat) : Bool :=
  p.entry.period != 0 && f % p.entry.period.toNat == p.entry.phase.toNat

/-- A sleeper at the start of its phase superframe: G is reported, and above GUARD_CAP the sleep ends (R290, R291). -/
def State.sleeperStart (s : State) (n : Nat) : State :=
  if s.ctxState n = ctxSleeper ∧ (s.spansType n .sleeper).any (fun p => inPhase p s.sfn) then
    let g := s.guardTime n
    let s := s.set (B.AIR_CTX_STS_GUARD n) (min g 0xFFFF)
    if s.param P.GUARD_CAP < g then s.goLost n else s
  else s

/-- The uplink spans of a context that superframe `f` is expected to carry (R289, R291). -/
def State.expected (s : State) (n f : Nat) : List SpanOf :=
  let st := s.ctxState n
  if st = ctxAwake ∨ st = ctxDark then s.spansType n .uplink
  else if st = ctxSleeper then (s.spansType n .sleeper).filter (fun p => inPhase p f)
  else if st = ctxLost then s.spansType n .sleeper
  else []

/-- The expected uplinks of a superframe are noted. -/
def State.noteExpected (s : State) (n : Nat) : State :=
  let l := (s.expected n s.sfn).map (fun p => Expect.mk s.sfn p.stop false)
  if l.isEmpty then s else
    let x := s.airCtx n
    s.setAirCtx n { x with expect := x.expect ++ l }

/-- The uplinks of the present superframe that begin later and became expected when the context changed its state are
noted too (R289; DEDUCED, log entry 109). -/
def State.noteRest (s : State) (n : Nat) : State :=
  let at_ := s.devNs - s.air.sfStart
  let x := s.airCtx n
  let new (p : SpanOf) : Bool := decide (at_ ≤ p.start) && !x.expect.any (fun e => e.sfn == s.sfn && e.stop == p.stop)
  let l := ((s.expected n s.sfn).filter new).map (fun p => Expect.mk s.sfn p.stop false)
  if s.air.counting ∧ !l.isEmpty then s.setAirCtx n { x with expect := x.expect ++ l } else s

/-- The announced schedule takes effect (R286). -/
def State.switchSched (s : State) : State :=
  match s.air.next with
  | some (x, f, it) =>
    if f ≤ s.sfn then
      let s := { s with air := { s.air with sched := some x, next := none } }
      let s := (s.wr Reg.AIR_SCHED (x.id % 2 ^ 16)).wr Reg.AIR_SCHED_NEXT_SFN 0
      let s := (s.setFlag B.AIR_STS_SCHED_VALID true).setFlag B.AIR_STS_SCHED_SWITCHED true
      let s := s.reportHeads
      let s := s.airSent ((s.headsOn.filter (fun h => x.heads.any (fun y => y.head == h))).map (s.headConfig (!s.standby)))
      match it with
      | some it => s.finish it 9 .done ⟨s.sfn % 2 ^ 32, 0, 0⟩
      | none => s
    else s
  | none => s

/-- The superframe number goes on, or starts from AIR_SF_NUM_INIT (R272, R273). -/
def State.nextSfn (s : State) (first : Bool) : State :=
  if s.air.counting then s.wr64 Reg.AIR_SF_NUM ((s.sfn + 1) % 2 ^ 48)
  else if first then s.wr64 Reg.AIR_SF_NUM (s.rd64 Reg.AIR_SF_NUM_INIT % 2 ^ 48) else s

/-- A superframe begins at instant `at_` of device time; GAP where a step fell into the one before (R274). -/
def State.beginFrame (s : State) (at_ : Nat) (first : Bool) : State :=
  let gap := s.air.counting && at_ != s.air.sfStart + 100000000
  let s := s.nextSfn first
  let s := { s with air := { s.air with
    counting := s.air.counting || first
    sfStart := if s.air.counting || first then at_ else s.devNs / 100000000 * 100000000
    sent := [] } }
  if gap then s.setFlag B.AIR_STS_GAP true else s

/-- What applies to every context at a superframe start. -/
def State.contextsStart (s : State) : State :=
  let l := s.air.ctx.map Prod.fst
  let s := l.foldl (fun (s : State) (n : Nat) => s.ctxStart n) s
  let l := s.joinedCtx
  l.foldl (fun (s : State) (n : Nat) => ((s.sleeperStart n).noteExpected n).mirrorSend (.session n)) s

/-- SUPERFRAME_START: a superframe begins at a whole 100 ms (R272 to R274). The mark generator counts on in Stabled
(R472). A standby counts from the SFN of the heartbeats (R491) and changes no context by itself. -/
def execSuperframeStart (t : Nat) (s : State) : Out State :=
  let s := s.to t
  let at_ := s.nextStart
  if s.devNs < at_ then ok s
  else
    let s := s.beginFrame at_ (!s.air.counting && s.air.startAt.isSome && !s.standby)
    if s.chip.stabled then ok s
    else
      let s := s.takeOwners
      if !s.air.counting then ok s
      else
        let s := s.switchSched
        if s.standby then ok s else ok s.contextsStart

/-! ### Marks (R274, R295) -/

/-- The gap of R274 in ns after the end of the superframe in progress; 0 where the next one follows at once. -/
def State.gapLen (s : State) : Nat := up100 (s.air.sfStart + 100000000) - (s.air.sfStart + 100000000)

/-- The starts of the frames of a gap of `g` ns (R274). -/
def gapFrames (g : Nat) : List Nat :=
  let n := (g + 1999999) / 2000000
  let last := g - (n - 1) * 2000000
  if 1 < n ∧ last < 200000 then
    (List.range (n - 1)).map (· * 2000000) ++ [(n - 2) * 2000000 + (2000000 + last) / 2]
  else (List.range n).map (· * 2000000)

/-- The frame whose mark is due at an instant 10 µs before its start: its SFN, its place (50 on for a gap frame) and its
FRAME code. -/
def State.markDue (s : State) : Nat × Nat × Nat :=
  let x := s.devNs + 10000 - s.air.sfStart
  if x < 100000000 then (s.sfn, x / 2000000, x / 2000000)
  else if x < 100000000 + s.gapLen then
    (s.sfn, 50 + (((gapFrames s.gapLen).filter (· ≤ x - 100000000)).length - 1), 63)
  else ((s.sfn + 1) % 2 ^ 48, 0, 0)

/-- The marks to the heads that are on, for frame `f` of frame code `code`, each DELAY ns early (R295). -/
def State.frameMarks (s : State) (f code : Nat) : List AirOut :=
  s.headsOn.map (fun h => AirOut.mark h code (f % 256) (s.get (B.AIR_HEAD_CTL_DELAY h)))

/-- The marks of instant `i` of frame `f` go out. -/
def State.sendMarks (s : State) (f i code : Nat) : State :=
  let s := { s with air := { s.air with marked := some (f, i) } }
  s.airSent (s.frameMarks f code)

/-- FRAME_MARK: each enabled head gets the mark of the frame that begins 10 µs on, once. -/
def execFrameMark (t : Nat) (s : State) : Out State :=
  let s := s.to t
  let m := s.markDue
  if !s.air.counting ∨ s.air.marked = some (m.1, m.2.1) then ok s else ok (s.sendMarks m.1 m.2.1 m.2.2)

/-! ### The build (R278, R279) -/

/-- The first WHOA cause while stopped, or 0. -/
def State.stopCause (s : State) : Nat := if s.stopped then s.get B.WHOA_STS_FIRST_CAUSE else 0

/-- The device time at which superframe `f` starts: the present one's start, or the next one's. -/
def State.startOf (s : State) (f : Nat) : Nat := if s.air.counting ∧ f = s.sfn then s.air.sfStart else s.nextStart

/-- The beacon payload of a head for superframe `f` (Table AIR-4). -/
def State.beacon (s : State) (h f : Nat) : List Byte :=
  let st := (if s.stopped ∨ s.halter then 1 else 0) + (if s.flag B.DSP_POOL_STS_CURB then 0 else 2) + (if s.halter then 4 else 0)
  leBytes 1 st ++ leBytes 1 (h + s.headRate h * 8) ++ leBytes 2 (s.get B.AIR_SCHED_SCHED_ID)
    ++ leBytes 2 (s.get B.AIR_SCHED_NEXT_ID) ++ leBytes 4 (s.rd Reg.AIR_SCHED_NEXT_SFN)
    ++ leBytes 8 (s.startOf f) ++ leBytes 1 s.qualityNow
    ++ leBytes 2 (f / 2 ^ 32) ++ leBytes 1 s.stopCause ++ leBytes 4 0

/-- The layer of a frame under the beacon key: class 2 its header and payload, class 3 a stop-window field (R304). -/
def State.beaconSeal (s : State) (cls sfn count : Nat) (clear : List Byte) : Seal :=
  ⟨cls, s.get B.AIR_BEACON_KEY_SLOT, airIv sfn count true cls, clear, []⟩

/-- The WINDOW_LOAD of a field of TYPE `ty` for frame `fr` of superframe `f`, with a zero TAG where `key` is false (R276,
R304, R309). -/
def State.windowLoad (s : State) (h f fr ty : Nat) (key : Bool) (body : List Byte) : AirOut :=
  let x := windowField ty fr f body
  .packet h 0 0x02 (fr + 7 * 2 ^ 6 + ty * 2 ^ 9 + f % 2 ^ 18 * 2 ^ 14)
    (if key then .sealed [s.beaconSeal 3 f (fr + ty * 2 ^ 8) x] else .raw (x ++ leBytes 8 0))

/-- The TX_BURST of the beacon body (R278): a BEACON frame of LEN 26 in slot 0 of frame 0, at 1.5 Mb/s. -/
def State.beaconBurst (s : State) (h f : Nat) : AirOut :=
  let hdr : AirHdr := ⟨0, true, false, false, 0, 26, BitVec.ofNat 32 f, 0, 0, 0, 0, false⟩
  .packet h 0 0x01 (f % 2 ^ 18 * 2 ^ 14) (.sealed [s.beaconSeal 2 f (f % 2 ^ 32) (hdr.bytes ++ s.beacon h f)])

/-- The contexts a CALL field of frame `f` names: at most 14, taking turns from `turn` on (R291). -/
def callList (l : List Nat) (turn f : Nat) : List Nat :=
  if l.length ≤ 14 then l
  else ((l ++ l).drop ((turn + 14 * (f - 1)) % l.length)).take 14

/-- Every field and burst of superframe `f`, to every head whose link is UP; without the beacon key neither GO field,
CALL field nor beacon body (R279, R309). A GO field only where WHOA is GO at the build: a superframe built while the
fleet is stopped carries none (R337; DEDUCED, log entry 107). -/
def State.loadSuperframe (s : State) (f : Nat) : State :=
  let key := s.beaconKey?.isSome
  let lost := if key ∧ !s.halter then allCtx.filter (fun n => s.ctxState n == ctxLost) else []
  let s := s.setFlag B.AIR_STS_BEACON_NOKEY (!key)
  let s := s.setFlag B.AIR_STS_BULK_OPEN (!s.flag B.DSP_POOL_STS_CURB)
  let loads (h : Nat) : List AirOut :=
    (List.range 50).map (fun i => s.windowLoad h f i 1 key (leBytes 1 s.stopCause)) ++
    (if key ∧ !s.stopped ∧ !s.halter then [s.windowLoad h f 0 0 true []] else []) ++
    (if key then [s.beaconBurst h f] else []) ++
    (if lost.isEmpty then [] else (List.range 49).map (fun i =>
      s.windowLoad h f (i + 1) 2 true ((callList lost s.air.callTurn (i + 1)).map (BitVec.ofNat 8))))
  let out := s.headsUp.map loads
  let s := { s with air := { s.air with
    builtFor := some f
    built := (List.range 8).map (fun h => (h, loads h))
    callTurn := if lost.length ≤ 14 then 0 else (s.air.callTurn + 14 * 49) % lost.length } }
  s.airSent out.flatten

/-- The superframe the next build is for: the one after the present, or the first of all (R273). -/
def State.nextBuild (s : State) : Nat :=
  if s.air.counting then (s.sfn + 1) % 2 ^ 48 else s.rd64 Reg.AIR_SF_NUM_INIT % 2 ^ 48

/-- The build is due: 40 ms into the present superframe (R279). The first superframe of all is built too, since every
superframe has its beacon; no superframe precedes it, so that build falls from 60 ms before its start on (DEDUCED, log
entry 112). -/
def State.buildDue (s : State) : Bool :=
  if s.air.counting then decide (s.air.sfStart + 40000000 ≤ s.devNs)
  else s.air.startAt.isSome && decide (s.nextStart ≤ s.devNs + 60000000)

/-- SUPERFRAME_BUILD: at 40 ms AIR builds the next superframe from the state in force (R279). -/
def execSuperframeBuild (t : Nat) (s : State) : Out State :=
  let s := s.to t
  if s.buildDue ∧ s.runs 9 blkSched ∧ !s.standby ∧ s.air.builtFor ≠ some s.nextBuild then ok (s.loadSuperframe s.nextBuild)
  else ok s

/-- A head whose link comes UP, or that is enabled with its link UP, gets its CONFIG and what is built for the next
superframe, so that it sends that superframe's beacon (R279, R299; DEDUCED, log entry 113). -/
def State.meetHead (s : State) (h : Nat) : State :=
  if !s.headsUp.contains h then s
  else
    let l := if s.air.builtFor = some s.nextBuild then (Sp.find s.air.built h).getD [] else []
    s.airSent (s.headConfig (!s.standby) h :: (if s.up 9 ∧ !s.standby then l else []))

/-- A write of AIR_HEAD_n_CTL: the first ENABLE after power-on or a full chip reset starts the superframe count
(R273). -/
def State.headCtl (s : State) (rq : Requester) (h : Nat) (val : Word) : State :=
  s.access rq (Reg.AIR_HEAD_CTL h) true (fun s =>
    let was := s.headsUp.contains h
    let s := s.softWrite (Reg.AIR_HEAD_CTL h) val
    let s := if was then s else s.meetHead h
    if s.flag (B.AIR_HEAD_CTL_ENABLE h) ∧ s.air.startAt.isNone then
      { s with air := { s.air with startAt := some (up100 s.devNs) } }
    else s)

/-- SF_COUNT_START. -/
def execSfCountStart (t : Nat) (rq : Requester) (head : Fin 8) (val : Word) (s : State) : Out State :=
  ok ((s.to t).headCtl rq head.val val)

/-! ### Downlink spans (R282, R287, R305, R318 to R320) -/

/-- The span of `l` that has begun in the present superframe and not been served up to mark `done`, earliest first, with
its own mark. -/
def State.spanNow (s : State) (l : List SpanOf) (done : Nat) : Option (SpanOf × Nat) :=
  let x := s.devNs - s.air.sfStart
  (l.filterMap (fun p =>
    let m := 512 * s.sfn + p.slot + 1
    if p.start ≤ x ∧ x < p.stop ∧ done < m then some (p, m) else none)).head?

/-- AIR serves spans: it counts superframes, runs, and is no standby. -/
def State.airServes (s : State) : Bool := s.air.counting && s.rgnState 9 == rsRun && s.runs 9 blkSched && !s.standby

/-- The next downlink FCNT of a context under its K: none without a live K, or once it has counted out (R305). -/
def State.nextFcnt (s : State) (n : Nat) : Option Nat :=
  match (s.airCtx n).key with
  | some k => if s.keyLive k ∧ k.down < 0xFFFFFFFF then some (k.down + 1) else none
  | none => none

/-- A downlink frame has been sealed under the context's K. -/
def State.sentUnder (s : State) (n : Nat) : State :=
  let x := s.airCtx n
  match x.key with
  | some k => (s.setAirCtx n { x with key := some { k with down := k.down + 1 } }).checkRekey n
  | none => s

/-- The plan a span that begins at device time `at_` carries: the newest that met the cutoff of R51. -/
def AirCtx.planFor (x : AirCtx) (at_ : Nat) : Option AirPlan :=
  (x.plans.filter (fun p => p.readyAt + 200000 ≤ at_)).getLast?

/-- The plans left once `p` has been sent or given up: those handed over after it. -/
def AirCtx.dropPlan (x : AirCtx) (p : AirPlan) : AirCtx :=
  { x with plans := x.plans.filter (fun q => p.readyAt < q.readyAt) }

/-- Plans that missed the cutoff of the span at `at_` are counted once each (R51). -/
def State.countLate (s : State) (n at_ : Nat) : State :=
  let x := s.airCtx n
  let late (q : AirPlan) : Bool := decide (at_ < q.readyAt + 200000) && !q.counted
  let s := s.countBy Reg.AIR_CNT_LATE_PLAN (x.plans.filter late).length
  s.setAirCtx n { x with plans := x.plans.map (fun (q : AirPlan) => if late q then { q with counted := true } else q) }

/-- The TX_BURST ARG of span `p` in the present superframe (Table AIR-12). -/
def State.burstArg (s : State) (p : SpanOf) : Nat :=
  p.slot / 6 + p.slot % 6 * 2 ^ 6 + (p.len - 1) * 2 ^ 9 + p.rate * 2 ^ 12 + s.sfn % 2 ^ 18 * 2 ^ 14

/-- The TX_BURST of a frame in span `p`. -/
def State.burst (s : State) (p : SpanOf) (x : AirLoad) : AirOut := .packet p.head 0 0x01 (s.burstArg p) x

/-- The header of a downlink frame of context `n` sent in a span of `k` slots (Table AIR-5). -/
def State.downHdr (s : State) (n ftype len fcnt k : Nat) : AirHdr :=
  ⟨BitVec.ofNat 4 ftype, true, false, s.flag (B.AIR_CTX_SESS_COMPAT n), BitVec.ofNat 8 n, BitVec.ofNat 11 len,
    BitVec.ofNat 32 fcnt, 0, 0, 0, BitVec.ofNat 3 (k - 1), false⟩

/-- A frame sealed as class 0 under a session key with FCNT `c`. -/
def AirKey.sealAs (k : AirKey) (c : Nat) (h : AirHdr) (plain : List Byte) : Seal :=
  ⟨0, k.slot, airIv k.keySfn c true 0, h.bytes, plain⟩

/-- A downlink frame of context `n` sealed under its K as FCNT `c`. -/
def State.sealDown (s : State) (n ftype c k : Nat) (plain : List Byte) : List Seal :=
  match (s.airCtx n).key with
  | some key => [key.sealAs c (s.downHdr n ftype plain.length c k) plain]
  | none => []

/-- The PLAN frame of a context in span `p`: a plan's payload, or the NO_PLAN header (R263, R282). -/
def State.planFrame (s : State) (p : SpanOf) (n c : Nat) (bytes : Option (List Byte)) : AirOut :=
  s.burst p (.sealed (s.sealDown n 2 c p.len (bytes.getD (noPlanBytes (s.gaitCtx n).seq))))

/-- DOWNLINK_SPAN: AIR sends one PLAN frame in a DOWNLINK span of a direct context (R282). -/
def execDownlinkSpan (t : Nat) (ctx : BitVec 8) (s : State) : Out State :=
  let s := s.to t
  let n := ctx.toNat
  if !s.airServes ∨ !s.joined n ∨ s.nextHop n ≠ 0 then ok s
  else
    match s.spanNow (s.spansType n .downlink) (s.airCtx n).downAt with
    | some (p, m) =>
      let at_ := s.air.sfStart + p.start
      let s := s.setAirCtx n { s.airCtx n with downAt := m }
      let s := s.countLate n at_
      let x := s.airCtx n
      match s.nextFcnt n with
      | some c =>
        match x.planFor at_ with
        | some q =>
          let s := s.setAirCtx n (x.dropPlan q)
          if q.bytes.length + 20 ≤ p.capacity then ok ((s.airSent [s.planFrame p n c (some q.bytes)]).sentUnder n)
          else ok (((s.count Reg.AIR_CNT_TX_OVERSIZE).airSent [s.planFrame p n c none]).sentUnder n)
        | none => ok ((s.airSent [s.planFrame p n c none]).sentUnder n)
      | none => ok (s.airSent [])
    | none => ok s

/-- A message that waits for a context's downlink: SMSG (0 an injected frame), its payload (Table AIR-22) or the whole
injected frame, whether it is sealed under K. -/
structure AirMsg where
  smsg  : Nat
  bytes : List Byte
  k     : Bool
  deriving DecidableEq, Repr

/-- The length of the message's frame. -/
def AirMsg.total (m : AirMsg) : Nat := if m.smsg = 0 then m.bytes.length else m.bytes.length + 20

/-- The JOIN_ACK of a join (R311, R315): KEY_SFN, BNONCE, the beacon key, SCHED_ID. -/
def State.joinAck (s : State) (j : Joining) (beacon : KeySlot) : List Byte :=
  leBytes 1 2 ++ leBytes 1 0 ++ leBytes 6 ((j.key.map AirKey.keySfn).getD 0) ++ leBytes 16 j.bnonce
    ++ leBytes 32 beacon.mat.toNat ++ leBytes 2 (s.get B.AIR_SCHED_SCHED_ID)

/-- The message a context's downlink carries next (R314, R315, R317, R318, R321). -/
def State.nextMsg (s : State) (n : Nat) : Option AirMsg :=
  let x := s.airCtx n
  match x.joining, x.refusing, x.sendLeave with
  | some j, _, _ =>
    (match s.joinKey? n, s.beaconKey? with
    | some _, some b => some ⟨2, s.joinAck j b, false⟩
    | _, _ => none)
  | none, some (_, c), _ => if (s.joinKey? n).isSome then some ⟨3, leBytes 1 3 ++ leBytes 1 c, false⟩ else none
  | none, none, some (_, c) => some ⟨5, leBytes 1 5 ++ leBytes 1 c, false⟩
  | none, none, none =>
    if (s.nextFcnt n).isNone then none
    else if x.sendSleep then some ⟨6, leBytes 1 6, true⟩
    else if x.sendWake then some ⟨7, leBytes 1 7, true⟩
    else match x.nextKey with
      | some (k, b) => some ⟨10, leBytes 1 10 ++ leBytes 1 0 ++ leBytes 6 k.keySfn ++ leBytes 16 b, true⟩
      | none =>
        if x.sendRelay then
          let c := s.children n
          some ⟨9, leBytes 1 9 ++ leBytes 1 c.length ++ c.map (BitVec.ofNat 8), true⟩
        else match x.inject with
          | l :: _ => some ⟨0, l, false⟩
          | [] => none

/-- A message has been sent. -/
def State.msgSent (s : State) (n : Nat) (m : AirMsg) : State :=
  let x := s.airCtx n
  let s := if m.k then s.sentUnder n else s
  let x := { x with key := (s.airCtx n).key, nextKey := (s.airCtx n).nextKey }
  match m.smsg with
  | 2 => s.setAirCtx n { x with joining := x.joining.map (fun (j : Joining) =>
      if j.lapse.isNone then { j with lapse := some (s.sfn + s.param P.JOIN_TIMEOUT) } else j) }
  | 3 =>
    let s := s.setAirCtx n { x with refusing := none }
    match x.refusing with
    | some (it, _) => s.finish it 9 .done
    | none => s
  | 5 => s.setAirCtx n { x with sendLeave := none }
  | 6 => s.setAirCtx n { x with sendSleep := false }
  | 7 => s.setAirCtx n { x with sendWake := false }
  | 9 => s.setAirCtx n { x with sendRelay := false }
  | 0 => s.setAirCtx n { x with inject := x.inject.drop 1 }
  | _ => s

/-- The frame of a message in a span of `k` slots that begins at slot index `i`: the payload sealed under K, for a LEAVE
under the K that the leave erased, for JOIN_ACK and JOIN_NAK as class 1 under the join key with FCNT 0 (R304, R311; the
FCNT is the model's choice, log entry 133); an injected frame as it is. -/
def State.msgFrame (s : State) (n : Nat) (m : AirMsg) (i k : Nat) : AirLoad :=
  if m.smsg = 0 then .raw m.bytes
  else if m.k then .sealed (s.sealDown n 4 ((s.nextFcnt n).getD 0) k m.bytes)
  else match m.smsg, (s.airCtx n).sendLeave with
    | 5, some (key, _) => .sealed [key.sealAs key.down (s.downHdr n 4 m.bytes.length key.down k) m.bytes]
    | _, _ => .sealed [⟨1, s.get (B.AIR_CTX_JOINKEY_SLOT n), airIv s.sfn i true 1,
        (s.downHdr n 4 m.bytes.length 0 k).bytes, m.bytes⟩]

/-- The relays of a routed context from the base outward. -/
def State.via (s : State) (n : Nat) : List Nat := (s.chain n 3).reverse

/-- The wrappers of a frame to a routed context, each relay with its FCNT; none where one cannot be sealed. -/
def State.wrapVia (s : State) (l : List Nat) : Option (List (Nat × Nat)) :=
  l.foldr (fun (r : Nat) (o : Option (List (Nat × Nat))) =>
    match s.nextFcnt r, o with
    | some c, some l => some ((r, c) :: l)
    | _, _ => none) (some [])

/-- The bytes of a load's frame. -/
def AirLoad.total (x : AirLoad) : Nat :=
  match x with
  | .sealed (l :: _) => l.clear.length + l.plain.length + 8
  | .sealed [] => 0
  | .raw b => b.length
  | .none => 0

/-- A frame in its wrappers (R319): each a BULK frame of its relay with RELAYED, TARGET the destination, ORIGIN 0, HOP the
number of wrappers inside; `via` from the base outward, each with its FCNT. -/
def State.wrapAll (s : State) (via : List (Nat × Nat)) (target k : Nat) (x : AirLoad) : AirLoad :=
  match via with
  | [] => x
  | (r, c) :: rest =>
    let y := s.wrapAll rest target k x
    let h := { s.downHdr r 3 (x.total + 20 * rest.length) c k with
      relayed := true, target := BitVec.ofNat 8 target, hop := BitVec.ofNat 2 rest.length }
    match (s.airCtx r).key, y with
    | some key, .sealed l => .sealed (key.sealAs c h [] :: l)
    | some key, .raw b => .sealed [key.sealAs c h b]
    | _, _ => y

/-- A routed context of relay `r` with something to send in a span of `r` that begins at `at_`. -/
def State.routedWork (s : State) (r at_ : Nat) : Option Nat :=
  allCtx.find? (fun m => s.nextHop m != 0 && (s.via m).head? == some r
    && ((s.nextMsg m).isSome || (((s.airCtx m).planFor at_).isSome && (s.nextFcnt m).isSome)))

/-- Send in a wrapper what a routed context waits for: a message, else a plan. A wrapped frame beyond the span's
capacity is never sent (R320). -/
def State.sendWrapped (s : State) (p : SpanOf) (m at_ : Nat) : State :=
  let hops := s.via m
  match s.wrapVia hops with
  | none => s
  | some via =>
    let wrap (s : State) : State := hops.foldl (fun (s : State) (r : Nat) => s.sentUnder r) s
    match s.nextMsg m with
    | some g =>
      if g.total + 20 * hops.length ≤ p.capacity then
        (wrap ((s.airSent [s.burst p (s.wrapAll via m p.len (s.msgFrame m g p.slot p.len))]).msgSent m g))
      else (s.count Reg.AIR_CNT_TX_OVERSIZE).msgSent m g
    | none =>
      match (s.airCtx m).planFor at_, s.nextFcnt m with
      | some q, some c =>
        let s := s.setAirCtx m ((s.airCtx m).dropPlan q)
        if q.bytes.length + 20 + 20 * hops.length ≤ p.capacity then
          wrap ((s.airSent [s.burst p (s.wrapAll via m p.len (.sealed (s.sealDown m 2 c p.len q.bytes)))]).sentUnder m)
        else s.count Reg.AIR_CNT_TX_OVERSIZE
      | _, _ => s

/-- DOWNLINK_BULK_SPAN: in a downlink BULK span of a direct context AIR sends what waits for it, in a downlink RELAY span
what waits for a context routed through it (R287, R314 to R320). -/
def execDownlinkBulkSpan (t : Nat) (ctx : BitVec 8) (s : State) : Out State :=
  let s := s.to t
  let n := ctx.toNat
  if !s.airServes ∨ n = 0 ∨ s.nextHop n ≠ 0 then ok s
  else
    let relay := (s.relaySpans n).filterMap (fun p => if p.2 then some p.1 else none)
    match s.spanNow (s.bulkDown n ++ relay) (s.airCtx n).bulkAt with
    | some (p, m) =>
      let s := (s.setAirCtx n { s.airCtx n with bulkAt := m }).airSent []
      let at_ := s.air.sfStart + p.start
      if p.entry.type = .bulk then
        match s.nextMsg n with
        | some g =>
          if g.total ≤ p.capacity then ok ((s.airSent [s.burst p (s.msgFrame n g p.slot p.len)]).msgSent n g)
          else if g.smsg = 0 then ok ((s.count Reg.AIR_CNT_TX_OVERSIZE).msgSent n g)
          else ok s
        | none => ok s
      else
        let s := (allCtx.filter (fun m => s.nextHop m != 0 && (s.via m).head? == some n)).foldl
          (fun (s : State) (m : Nat) => s.countLate m at_) s
        match s.routedWork n at_ with
        | some m => ok (s.sendWrapped p m at_)
        | none => ok s
    | none => ok s

/-! ### The heads' reports (R294 to R297) -/

/-- A head-link receiver takes a character (R294): TRAINING on comma alignment, UP after 1,024 consecutive valid characters,
DOWN from UP on 16 errors within 1,024 characters or on 2 µs without a transition. -/
def LinkRx.take (l : LinkRx) (c : LinkSym) : LinkRx :=
  match c, l.st with
  | .quiet, _ => ⟨0, 0, []⟩
  | .comma, 0 => ⟨1, 0, []⟩
  | _, 0 => l
  | .bad, 1 => ⟨1, 0, []⟩
  | _, 1 => if l.good + 1 = 1024 then ⟨2, 0, []⟩ else ⟨1, l.good + 1, []⟩
  | .bad, _ =>
    let e := 0 :: (l.errs.map (· + 1)).filter (· < 1024)
    if 16 ≤ e.length then ⟨0, 0, []⟩ else ⟨2, 0, e⟩
  | _, _ => if l.errs.isEmpty then l else ⟨2, 0, (l.errs.map (· + 1)).filter (· < 1024)⟩

/-- A run of characters: the receiver after it, and the states it has changed to. -/
def LinkRx.run (l : LinkRx) (cs : List LinkSym) : LinkRx × List Nat :=
  match cs with
  | [] => (l, [])
  | c :: r =>
    let l' := l.take c
    let (m, st) := l'.run r
    (m, if l'.st = l.st then st else l'.st :: st)

/-- The receiver of a head. -/
def State.linkRx (s : State) (h : Nat) : LinkRx := (Sp.find s.air.links h).getD ⟨0, 0, []⟩

/-- LINK of a head changes (R292, R294). -/
def State.linkTo (s : State) (h st : Nat) : State :=
  let s := if s.headsUp.isEmpty then s else { s with byl := { s.byl with headsAt := s.cyc } }
  let s := (s.set (B.AIR_HEAD_STS_LINK h) st).setFlag (B.AIR_HEAD_STS_LINK_CHANGED h) true
  ((s.fire 70).airEvent 6 0 (h + st * 256) 0).meetHead h

/-- HEAD_LINK_STATE: the receiver of an enabled head takes characters (R294). -/
def execHeadLinkState (t : Nat) (head : Fin 8) (chars : List LinkSym) (s : State) : Out State :=
  let s := s.to t
  let h := head.val
  if !s.flag (B.AIR_HEAD_CTL_ENABLE h) then ok s
  else
    let (l, st) := (s.linkRx h).run chars
    let s := { s with air := { s.air with links := Sp.put s.air.links h l } }
    ok (st.foldl (fun (s : State) (x : Nat) => s.linkTo h x) s)

/-- Packet types a head sends (Table AIR-12). -/
def headPtype (n : Nat) : Bool := n == 0x81 || n == 0x82 || n == 0x83 || n == 0x84

/-- A packet from head `h` whose link is UP, taken where it is of type `ty`: a bad packet and a gap in SEQ are counted
(R296). -/
def State.takePacket (s : State) (h : Nat) (bs : List Byte) (ty : Nat) : State × Option Packet8b :=
  if s.get (B.AIR_HEAD_STS_LINK h) ≠ 2 then (s, none)
  else match Packet8b.ofBytes bs with
    | none => (s.count (Reg.AIR_HEAD_CNT_LINK_ERR h), none)
    | some p =>
      let gap := match Sp.find s.air.rxSeq h with | some k => p.seq != (k + 1) % 256 | none => false
      let s := { s with air := { s.air with rxSeq := Sp.put s.air.rxSeq h p.seq } }
      let s := if gap then s.count (Reg.AIR_HEAD_CNT_LINK_ERR h) else s
      if !headPtype p.ptype then (s.count (Reg.AIR_HEAD_CNT_LINK_ERR h), none)
      else (s, if p.ptype = ty then some p else none)

/-- HEAD_STATUS: the head's STATUS packet (Table AIR-12). -/
def execHeadStatus (t : Nat) (head : Fin 8) (pkt : List Byte) (s : State) : Out State :=
  let h := head.val
  match (s.to t).takePacket h pkt 0x83 with
  | (s, some p) =>
    let f := leAt p.payload 0 1
    ok (((s.setFlag (B.AIR_HEAD_STS_RF_FAULT h) (f.testBit 0)).setFlag (B.AIR_HEAD_STS_TIMING_LOST h) (f.testBit 1)).set
      (B.AIR_HEAD_STS_TEMP h) (leAt p.payload 1 1))
  | (s, none) => ok s

/-- PONG: a head answers a PING with its ARG and payload. -/
def execPong (t : Nat) (head : Fin 8) (pkt : List Byte) (s : State) : Out State :=
  match (s.to t).takePacket head.val pkt 0x84 with
  | (s, some p) => ok { s with air := { s.air with lastPong := some (head.val, p.arg, p.payload) } }
  | (s, none) => ok s

/-! ### Judging uplinks (R289, R291, R320) -/

/-- Whether the oldest unjudged uplink of a context is due to be judged: 0.5 ms after the span of a direct context, at
the end of the next superframe for a routed one. -/
def State.judgeDue (s : State) (n : Nat) (e : Expect) : Bool :=
  if s.nextHop n = 0 then
    decide (e.sfn + 1 < s.sfn) ||
      decide ((if e.sfn = s.sfn then s.air.sfStart else s.air.sfStart - 100000000) + e.stop + 500000 ≤ s.devNs)
  else decide (e.sfn + 2 ≤ s.sfn)

/-- A missed uplink is counted; the third in a row makes an AWAKE context DARK and a SLEEPER LOST_ASLEEP. -/
def State.missed (s : State) (n : Nat) : State :=
  let k := min 3 (s.get (B.AIR_CTX_STS_MISSES n) + 1)
  let s := s.set (B.AIR_CTX_STS_MISSES n) k
  if k = 3 ∧ s.ctxState n = ctxAwake then s.goDark n
  else if k = 3 ∧ s.ctxState n = ctxSleeper then s.goLost n
  else s

/-- SPAN_JUDGED: the oldest unjudged uplink of a context is judged. -/
def execSpanJudged (t : Nat) (ctx : BitVec 8) (s : State) : Out State :=
  let s := s.to t
  let n := ctx.toNat
  let x := s.airCtx n
  match x.expect with
  | e :: r =>
    if s.airServes ∧ s.judgeDue n e then
      let s := s.setAirCtx n { x with expect := r }
      if e.heard then ok (s.set (B.AIR_CTX_STS_MISSES n) 0) else ok (s.missed n)
    else ok s
  | [] => ok s

/-- CALL_PERIOD_EXPIRY: a LOST_ASLEEP context that has not answered leaves with cause LOST (R291). -/
def execCallPeriodExpiry (t : Nat) (ctx : BitVec 8) (s : State) : Out State :=
  let s := s.to t
  let n := ctx.toNat
  match (s.airCtx n).callUntil with
  | some u => if s.ctxState n = ctxLost ∧ u ≤ s.cyc ∧ !s.standby then ok (s.airLeave n 3 false) else ok s
  | none => ok s

end Sys2Proof.Machine
end

