-- ==== Sys2Proof/Machine/AirRx.lean ====
section
/-!
DEFINITION. Frames that AIR receives (R281, R289, R306 to R320): how they are judged, and what a valid one does.
-/

namespace Sys2Proof.Machine

/-! ### The checks of R306 -/

/-- What the checks of R306 answer on a layer: valid, under class 0 with the present K, with the old K of a rekey, under
K of a join in progress, under class 1; or the first check that failed. -/
inductive AirVerdict where
  | cur | old | join | joinKey
  | auth | replay
  deriving DecidableEq, Repr

/-- The replay window of R308: the window after FCNT `f`, none where it fails. -/
def AirKey.accept (k : AirKey) (f : Nat) : Option AirKey :=
  if k.high < f then
    some { k with high := f, map := (if f - k.high < 64 then k.map <<< (f - k.high) else 0) ||| 1 }
  else if k.high < f + 64 ∧ !k.map.getLsbD (k.high - f) then some { k with map := k.map ||| (1 <<< (k.high - f)) }
  else none

/-- A frame of a FREE context without a join in progress is judged as class 1 (R307). -/
def State.classOne (s : State) (n : Nat) : Bool := !s.joined n && (s.airCtx n).joining.isNone

/-- The tag verifies as class 1, under the join key. -/
def State.tagOne (s : State) (l : AirLayer) : Bool := l.gcm.tag1 && (s.joinKey? l.hdr.context.toNat).isSome

/-- Judge a layer under R306 orders 1 to 3. A FREE context has no mode: either COMPAT value passes (DEDUCED, log entry
34). -/
def State.judgeLayer (s : State) (l : AirLayer) : AirVerdict :=
  let n := l.hdr.context.toNat
  let x := s.airCtx n
  let f := l.hdr.fcnt.toNat
  let mode := match x.joining with
    | some j => some j.compat
    | none => if s.joined n then some (s.flag (B.AIR_CTX_SESS_COMPAT n)) else none
  if mode ≠ none ∧ mode ≠ some l.hdr.compat then .auth
  else if s.classOne n then (if s.tagOne l then .joinKey else .auth)
  else
    let kj := x.joining.bind Joining.key
    let fallback := if l.hdr.ftype = 4 ∧ s.tagOne l then AirVerdict.joinKey else .auth
    match x.joining, kj, x.key with
    | some _, some k, _ =>
      if s.keyLive k ∧ l.gcm.tag0 then (if (k.accept f).isSome then .join else .replay) else fallback
    | none, _, some k =>
      if s.keyLive k ∧ l.gcm.tag0 then (if (k.accept f).isSome then .cur else .replay)
      else match x.oldKey with
        | some o => if s.keyLive o ∧ l.gcm.tagOld then (if (o.accept f).isSome then .old else .replay) else fallback
        | none => fallback
    | _, _, _ => fallback

/-- A layer has been accepted: its bit is set in the window of its key (R308). -/
def State.acceptLayer (s : State) (l : AirLayer) (v : AirVerdict) : State :=
  let n := l.hdr.context.toNat
  let x := s.airCtx n
  let f := l.hdr.fcnt.toNat
  let take (k : AirKey) : AirKey := (k.accept f).getD k
  match v with
  | .cur => (s.setAirCtx n { x with key := x.key.map take }).checkRekey n
  | .old => s.setAirCtx n { x with oldKey := x.oldKey.map take }
  | .join => s.setAirCtx n { x with joining := x.joining.map (fun (j : Joining) => { j with key := j.key.map take }) }
  | _ => s

/-! ### Valid frames -/

/-- A valid frame of a context has arrived (R289 to R291, R314): the time restarts, its span is heard, and a DARK,
waking or LOST_ASLEEP context returns. `inSpan` where it was sent in an expected span that has not been judged. -/
def State.heardFrom (s : State) (n : Nat) (inSpan : Bool) (spanEnd : Nat) : State :=
  let x := s.airCtx n
  let off := spanEnd - s.air.sfStart
  let mark (e : Expect) : Bool := !e.heard && (s.nextHop n != 0 || (e.sfn == s.sfn && e.stop == off)
    || (e.sfn + 1 == s.sfn && e.stop + s.air.sfStart == spanEnd + 100000000))
  let expect := match inSpan, x.expect.findIdx? mark with
    | true, some i => x.expect.modify i (fun (e : Expect) => { e with heard := true })
    | _, _ => x.expect
  let st := s.ctxState n
  let s := s.setAirCtx n { x with
    lastValid := s.devNs, expect := expect
    waking := x.waking && st != ctxSleeper
    callUntil := if st = ctxLost then none else x.callUntil }
  if st = ctxDark then ((s.set (B.AIR_CTX_STS_MISSES n) 0).setCtxState n ctxAwake).airEvent 2 n 0 0
  else if st = ctxLost then ((s.set (B.AIR_CTX_STS_MISSES n) 0).setCtxState n ctxSleeper).airEvent 4 n 0 0
  else if st = ctxSleeper ∧ x.waking then
    (((s.set (B.AIR_CTX_STS_MISSES n) 0).setCtxState n ctxAwake).noteRest n).airEvent 2 n 0 0
  else s

/-- An OBS frame becomes an epoch item at the head's source port (R40, Table DSP-1); a standby makes shadow items only
(R480, R491). -/
def State.obsItem (s : State) (head n spanEnd : Nat) (bytes : List Byte) : State :=
  let it : Item := ⟨s.hif.nextId, .airHead head, some .allot, { Desc.zero with context := BitVec.ofNat 8 n }, true, .fresh⟩
  let s := { s with fix := { s.fix with obs := Sp.put s.fix.obs it.id (obsPacket n head spanEnd bytes) } }
  s.tookId.toPort (64 + head) it

/-- A JOIN_REQ of class 1 (R307, R312): on a FREE context it is kept pending, on a joined one it is a rejoin request; a
join in progress ignores it. -/
def State.joinReq (s : State) (n : Nat) (rate20 compat : Bool) (machineId mnonce : Nat) : State :=
  let flags := (if rate20 then 1 else 0) + (if compat then 2 else 0)
  let x := s.airCtx n
  if s.joined n then s.airEvent 7 n machineId (flags + 256)
  else if x.joining.isSome then s
  else
    let s := s.setAirCtx n { x with
      joinReq := some ⟨machineId, rate20, compat, mnonce, s.sfn + s.param P.JOIN_TIMEOUT⟩ }
    s.airEvent 7 n machineId flags

/-- The join fails (R315): K is erased, JOIN_FAILED posted, and the item, where it lives, completes `st`. -/
def State.joinFailed (s : State) (n : Nat) (j : Joining) (st : Status) : State :=
  let s := (s.dropKey? j.key).setAirCtx n { s.airCtx n with joining := none }
  let s := (s.mirrorSend (.session n)).airEvent 10 n 0 0
  match j.item with
  | some it => s.finish it 9 st
  | none => s

/-- A valid JOIN_CONFIRM (R315): the context is AWAKE. During a FULL map import the join is refused (R213). -/
def State.joinDone (s : State) (n : Nat) (j : Joining) (k : AirKey) : State :=
  if s.fullImport then s.joinFailed n j .rejState
  else
    let x := s.airCtx n
    let s := s.setAirCtx n { AirCtx.reset with
      rate20 := j.rate20, key := some k, machineId := j.machineId, lastValid := s.devNs
      plans := [], nextHop := x.nextHop, downAt := x.downAt, bulkAt := x.bulkAt, inject := x.inject }
    let s := (s.setFlag (B.AIR_CTX_SESS_COMPAT n) j.compat).set (B.AIR_CTX_STS_MISSES n) 0
    let s := s.fixClear n
    let s := ((s.setCtxState n ctxAwake).noteRest n).airEvent 8 n 0 0
    let s := s.reportOverload
    match j.item with
    | some it => s.finish it 9 .done ⟨k.keySfn, 0, 0⟩
    | none => s

/-- Count a malformed frame of a head. -/
def State.badFrame (s : State) (head : Nat) : State := s.count (Reg.AIR_HEAD_CNT_BAD head)

/-- Whether a session message verified under the class Table AIR-22 gives it (R311). -/
def SessMsg.classOk (m : SessMsg) (one : Bool) : Bool :=
  match m with
  | .joinReq _ _ _ _ => one
  | .joinConfirm | .leave _ | .present => !one
  | .unknown => false

/-- The innermost frame of a context has passed every check: what it does. -/
def State.validFrame (s : State) (head n : Nat) (v : AirVerdict) (l : AirLayer) (fr : AirFrame) : State :=
  let x := s.airCtx n
  let heard (s : State) : State := s.heardFrom n fr.inSpan fr.spanEnd
  let plain := l.gcm.plain
  match l.hdr.ftype.toNat with
  | 1 =>
    if v = .cur ∨ v = .old then
      if s.standby then s.obsItem head n fr.spanEnd plain else (heard s).obsItem head n fr.spanEnd plain
    else s
  | 4 =>
    let m := SessMsg.ofBytes plain
    if !m.classOk (v == .joinKey) then s.badFrame head
    else if s.standby then s
    else match m with
      | .joinReq r c i mn => s.joinReq n r c i.toNat mn.toNat
      | .joinConfirm =>
        match v, x.joining with
        | .join, some j => (match j.key with
          | some k => s.joinDone n j k
          | none => s)
        | .join, none => s
        | _, _ => heard s
      | .leave c => if v = .join then s else (heard s).airLeave n c.toNat true
      | .present => if v = .join then s else heard s
      | .unknown => s
  | _ => if (v = .cur ∨ v = .old) ∧ !s.standby then heard s else s

/-! ### Relay and compatibility -/

/-- The route check of R316 and R319 on the wrapper `l`: ORIGIN's next hops name CONTEXT at its place, HOP counts the
wrappers, and TARGET is 0; `outer` for the outermost. -/
def State.routeOk (s : State) (l : AirLayer) (outer : Bool) : Bool :=
  let chain := s.chain l.hdr.origin.toNat 3
  let h := l.hdr.hop.toNat
  l.hdr.relayed && l.hdr.target == 0 && h != 0 && chain[h - 1]? == some l.hdr.context.toNat && (!outer || h == chain.length)

/-- A layer is malformed (Table AIR-7): FTYPE or reserved fields, or a length other than the frame's; a BEACON frame and
CONTEXT 0 are never received (R307). -/
def AirLayer.bad (l : AirLayer) : Bool :=
  l.total != 20 + l.hdr.len.toNat || decide (5 ≤ l.hdr.ftype.toNat) || l.hdr.reserved || l.hdr.ftype == 0 || l.hdr.context == 0

/-- The bytes of a frame go to the owner of SESSION in events that follow the first, 16 bytes each (DESIGN CHOICE, log
entry 35). -/
def State.frameEvents (s : State) (n i : Nat) (bs : List (BitVec 64)) : State :=
  match bs with
  | a :: b :: r => (s.airEvent 11 (n + i * 256) a.toNat b.toNat).frameEvents n (i + 1) r
  | [a] => s.airEvent 11 (n + i * 256) a.toNat 0
  | [] => s

/-- A relayed frame of a compatibility context is delivered unopened (R321). -/
def State.compatRelay (s : State) (n : Nat) (fr : AirFrame) : State :=
  let s := (s.count Reg.AIR_CNT_COMPAT_FWD).airEvent 11 n fr.bytes.length 0
  s.frameEvents n 1 (wordsOf (padWords fr.bytes))

/-- A failed check is counted. -/
def State.dropped (s : State) (n : Nat) (v : AirVerdict) : State :=
  match v with
  | .auth => s.count (Reg.AIR_CTX_CNT_AUTH n)
  | .replay => s.count (Reg.AIR_CTX_CNT_REPLAY n)
  | _ => s

/-- Judge the layers of a frame from the outermost in. -/
def State.judgeFrame (s : State) (head : Nat) (fr : AirFrame) (outer : Bool) (ls : List AirLayer) : State :=
  match ls with
  | [] => s
  | l :: rest =>
    let n := l.hdr.context.toNat
    if l.bad then s.badFrame head
    else
      match s.judgeLayer l with
      | .auth => s.dropped n .auth
      | .replay => s.dropped n .replay
      | v =>
        if l.hdr.relayed then
          let o := l.hdr.origin.toNat
          if s.flag (B.AIR_CTX_SESS_COMPAT n) ∨ s.flag (B.AIR_CTX_SESS_COMPAT o) then
            let s := s.acceptLayer l v
            if s.standby then s else (s.heardFrom n fr.inSpan fr.spanEnd).compatRelay n fr
          else if !s.routeOk l outer then (s.acceptLayer l v).count Reg.AIR_CNT_RELAY_DROP
          else
            let s := s.acceptLayer l v
            let s := if s.standby then s else s.heardFrom n false fr.spanEnd
            match rest with
            | i :: _ =>
              if (if l.hdr.hop = 1 then i.hdr.context == l.hdr.origin && !i.hdr.relayed else i.hdr.origin == l.hdr.origin && i.hdr.relayed && i.hdr.hop + 1 == l.hdr.hop)
              then s.judgeFrame head fr false rest
              else s.count Reg.AIR_CNT_RELAY_DROP
            | [] => s
        else (s.acceptLayer l v).validFrame head n v l fr

/-- The frame of an RX_FRAME payload: ARG names FRAME and first SLOT, the header's SPAN the slots, which together are the
place it was sent in (R289, Tables AIR-5, AIR-12); a place that has not ended yet is one of the superframe before. -/
def State.airFrame (s : State) (arg : Nat) (bs : List Byte) (os : List Opening) : AirFrame :=
  let ls := layersOf bs os
  let i := 6 * bitsOf arg 5 0 + bitsOf arg 8 6
  let k := (AirHdr.ofBytes bs).span.toNat + 1
  let n := (AirHdr.ofBytes bs).context.toNat
  let stop := slotStart (i + k - 1) + 300000
  let org := if s.air.sfStart + stop ≤ s.devNs then s.air.sfStart else s.air.sfStart - 100000000
  ⟨bs, ls, decide (bitsOf arg 8 6 < 6) && (1 < ls.length || (s.ctxSpans n).any (fun p => p.slot == i && p.len == k)), org + stop⟩

/-- A frame is dropped under R281 or R306: a layer is malformed or fails its checks. -/
def State.frameDropped (s : State) (ls : List AirLayer) : Bool :=
  match ls with
  | [] => false
  | l :: r => l.bad || s.judgeLayer l == .auth || s.judgeLayer l == .replay || (l.hdr.relayed && s.frameDropped r)

/-- REC sees an RX_FRAME (Tables REC-1 to REC-3): the slot start plus the preamble start that ARG gives. -/
def State.seeReceived (s : State) (head : Nat) (p : Packet8b) (os : List Opening) : State :=
  let n := p.payload.length
  let at_ := slotStart (6 * bitsOf p.arg 5 0 + bitsOf p.arg 8 6)
  let org := if s.air.sfStart + at_ ≤ s.devNs then s.air.sfStart else s.air.sfStart - 100000000
  let s := s.stream 2 head (org + at_ + bitsOf p.arg 31 24 * 1000) (recordInfo head 0x81 n p.arg) p.payload
  let h := AirHdr.ofBytes p.payload
  s.seeFrame head h.ftype.toNat h.context.toNat
    (n ≤ 19 || 1301 ≤ n || s.frameDropped (layersOf p.payload os))

/-- RX_FRAME: a head forwards a frame (R281, R296, R306). Frames that arrive while AIR does not run are lost (R279). -/
def execRxFrame (t : Nat) (head : Fin 8) (pkt : List Byte) (opens : List Opening) (s : State) : Out State :=
  let s := s.to t
  let h := head.val
  if s.rgnState 9 ≠ rsRun ∨ !s.runs 9 blkHeads then ok s
  else match s.takePacket h pkt 0x81 with
    | (s, none) => ok s
    | (s, some p) =>
      let s := s.seeReceived h p opens
      let n := p.payload.length
      if 1301 ≤ n then ok (s.count (Reg.AIR_HEAD_CNT_LONG h))
      else if n ≤ 19 then ok (s.count (Reg.AIR_HEAD_CNT_RUNT h))
      else
        let fr := s.airFrame p.arg p.payload opens
        ok (s.judgeFrame h fr true fr.layers)

/-- JOIN_TIMEOUT_EXPIRY: a join that has not been confirmed in time fails, and a pending request lapses (R312, R315). -/
def execJoinTimeoutExpiry (t : Nat) (ctx : BitVec 8) (s : State) : Out State :=
  let s := s.to t
  let n := ctx.toNat
  let x := s.airCtx n
  if s.standby then ok s
  else match x.joining, x.joinReq with
    | some j, _ =>
      (match j.lapse with
      | some f => if f ≤ s.sfn then ok (s.joinFailed n j .failTimeout) else ok s
      | none => ok s)
    | none, some r => if r.lapse ≤ s.sfn then ok (s.setAirCtx n { x with joinReq := none }) else ok s
    | none, none => ok s

end Sys2Proof.Machine
end

