-- ==== Sys2Proof/Machine/AirOps.lean ====
section
/-!
DEFINITION. The operations that AIR executes (R285, R286, R310, R314 to R321).
-/

namespace Sys2Proof.Machine

/-! ### SCHED_LOAD (R284 to R286) -/

/-- The fields of a schedule entry are in the ranges of Table AIR-8. -/
def SchedEntry.legal (e : SchedEntry) : Bool :=
  (match e.type with
   | .reserved => false
   | .free | .beacon => e.context == 0
   | _ => e.context != 0) &&
  (if e.type = .sleeper then e.period != 0 && decide (e.phase.toNat < e.period.toNat) else e.period == 0 && e.phase == 0)

/-- CONT appears only after an entry of the same span. -/
def contOk (l : List SchedEntry) : Bool :=
  match l with
  | a :: b :: r =>
    (!b.cont || (a.type == b.type && a.context == b.context && a.period == b.period && a.phase == b.phase)) && contOk (b :: r)
  | _ => true

/-- A head's part of a schedule by itself is well formed (R285). -/
def SchedHead.wellFormed (h : SchedHead) : Bool :=
  decide (h.head < 8 ∧ h.rate ≤ 2 ∧ h.channel ≤ 255 ∧ h.entries.length = 300) && h.entries.all SchedEntry.legal &&
  (match h.entries with
   | e :: r => e.type == .beacon && !e.cont && r.all (fun x => x.type != .beacon)
   | [] => false) && contOk h.entries &&
  h.spans.all (fun p => decide (p.len ≤ 8) &&
    (!(p.entry.type == .uplink || p.entry.type == .sleeper) || decide (p.len ≤ 3)) &&
    (!(p.entry.type == .downlink) || decide (52 ≤ p.capacity)))

/-- Keys strictly rising. -/
def rising (l : List Nat) : Bool :=
  match l with
  | a :: b :: r => decide (a < b) && rising (b :: r)
  | _ => true

/-- The spans of one context as R285 has them: none; or all on one head, with one UPLINK span or two, the second from
frame 25 on. -/
def ctxSpansOk (l : List SpanOf) : Bool :=
  match l with
  | [] => true
  | p :: r => r.all (fun q => q.head == p.head) &&
    (match (l.filter (fun p => p.entry.type == .uplink)) with
     | [_] => true
     | [_, b] => decide (150 ≤ b.slot)
     | _ => false)

/-- A schedule is well formed (R285). -/
def Schedule.wellFormed (x : Schedule) : Bool :=
  decide (1 ≤ x.id ∧ x.id ≤ 65535) && rising (x.heads.map SchedHead.head) && x.heads.all SchedHead.wellFormed &&
  allCtx.all (fun n => ctxSpansOk (x.spansOf n))

/-- Every joined context keeps its number of UPLINK spans, and a sleeping one a SLEEPER span (R286). -/
def State.keepsContexts (s : State) (x : Schedule) : Bool :=
  s.joinedCtx.all (fun n =>
    let l := x.spansOf n
    (l.filter (fun p => p.entry.type == .uplink)).length == (if (s.airCtx n).rate20 then 2 else 1) &&
    (!(s.ctxState n == ctxSleeper || s.ctxState n == ctxLost) || l.any (fun p => p.entry.type == .sleeper)))

/-- NEXT_SFN (R286): the later of the first superframe that starts at or after WHEN and the present one plus 10. -/
def State.switchSfn (s : State) (w : Nat) : Nat :=
  max (s.sfn + 10)
    (if s.air.counting ∧ s.air.sfStart < w then s.sfn + (w - s.air.sfStart + 99999999) / 100000000 else 0)

/-- The schedule is announced until it takes effect. -/
def State.announce (s : State) (it : Item) (x : Schedule) : State :=
  let f := s.switchSfn it.d.when_.toNat
  let s := { s with air := { s.air with next := some (x, f, some it) } }
  ((s.set B.AIR_SCHED_NEXT_ID x.id).wr Reg.AIR_SCHED_NEXT_SFN (f % 2 ^ 32)).mirrorSend (.config 0)

/-- SCHED_LOAD (R286): its WHEN is the earliest switch time, so the item waits in AIR with the announcement standing;
`raw` is what the host buffer holds. -/
def execSchedLoad (t : Nat) (it : Item) (raw : List Byte) (s : State) : Out State :=
  let s := s.to t
  let file := SchedFile.ofBytes (raw.take it.d.len.toNat)
  let x := file.sched
  ok (s.runOpWith 9 it
    { range := it.d.context == 0 && file.headerOk && file.crcOk && x.wellFormed
      version := file.format == 1
      key := true
      state := s.air.next.isNone && s.keepsContexts x }
    (fun s it => s.announce it x) (fun s it => s.announce it x))

/-! ### Sessions (R314, R315, R317) -/

/-- Run an operation of Table AIR-23 that needs a context. -/
def State.sessOp (s : State) (it : Item) (self : Item → Instr) (range key state : Bool) (act : State → Item → State) :
    State :=
  s.runOp 9 it self ⟨it.d.context != 0 && range, true, key, state⟩ act

/-- SESSION_ACCEPT acts: K is derived and the context joins, JOIN_ACK being sent until the machine confirms (R315). Contexts
that joined while it waited for its WHEN count in R45. -/
def State.acceptSession (s : State) (it : Item) (bnonce : BitVec 128) : State :=
  let n := it.ctx
  let x := s.airCtx n
  if !s.rateFits (argBit it.d.arg0 0) then s.finish it 9 .rejRange
  else match x.joinReq, s.joinKey? n with
  | some r, some jk =>
    (match s.deriveKey jk.attr (s.sfn + 2) with
    | some (s, k) =>
      let j : Joining :=
        ⟨some it, some k, bnonce.toNat, r.machineId, argBit it.d.arg0 0, r.compat && argBit it.d.arg0 8, none⟩
      (s.setAirCtx n { x with joinReq := none, joining := some j }).mirrorSend (.session n)
    | none => s)
  | _, _ => s

/-- SESSION_ACCEPT (R315): K is derived and the join begins; `bnonce` is what TACK draws. -/
def execSessionAccept (t : Nat) (it : Item) (bnonce : BitVec 128) (s : State) : Out State :=
  let s := s.to t
  let n := it.ctx
  let rate20 := argBit it.d.arg0 0
  let ups := (s.spansType n .uplink).length
  let x := s.airCtx n
  ok (s.sessOp it (fun i => .sessionAccept t i bnonce) (s.rateFits rate20)
    ((s.joinKey? n).isSome && s.beaconKey?.isSome && (s.targetSlot 0x1FF).isSome)
    (x.joinReq.isSome && !s.joined n && ups == (if rate20 then 2 else 1)
      && (s.bulkDown n).any (fun p => decide (78 ≤ p.capacity)))
    (fun s it => s.acceptSession it bnonce))

/-- SESSION_REFUSE: the request is cleared; the item completes once JOIN_NAK has been sent. -/
def execSessionRefuse (t : Nat) (it : Item) (s : State) : Out State :=
  let s := s.to t
  let n := it.ctx
  let x := s.airCtx n
  ok (s.sessOp it (fun i => .sessionRefuse t i) true (s.joinKey? n).isSome
    (x.joinReq.isSome && !(s.bulkDown n).isEmpty)
    (fun s it => s.setAirCtx n { x with joinReq := none, refusing := some (it, argBits it.d.arg0 7 0) }))

/-- SESSION_LEAVE (R317). -/
def execSessionLeave (t : Nat) (it : Item) (s : State) : Out State :=
  let s := s.to t
  let n := it.ctx
  let c := argBits it.d.arg0 7 0
  ok (s.sessOp it (fun i => .sessionLeave t i) (c == 2 || c == 4) true (s.joined n)
    (fun s it => (s.airLeave n c false).finish it 9 .done))

/-- SESSION_SLEEP: SLEEP is sent, and the context is a SLEEPER from the next superframe start. -/
def execSessionSleep (t : Nat) (it : Item) (s : State) : Out State :=
  let s := s.to t
  let n := it.ctx
  ok (s.sessOp it (fun i => .sessionSleep t i) true true
    (s.ctxState n == ctxAwake && !(s.spansType n .sleeper).isEmpty)
    (fun s it => (s.setAirCtx n { s.airCtx n with sleepNext := true, sendSleep := true }).finish it 9 .done))

/-- SESSION_WAKE: WAKE is sent, and the context is AWAKE from its next valid frame. -/
def execSessionWake (t : Nat) (it : Item) (s : State) : Out State :=
  let s := s.to t
  let n := it.ctx
  ok (s.sessOp it (fun i => .sessionWake t i) true true (s.ctxState n == ctxSleeper)
    (fun s it => (s.setAirCtx n { s.airCtx n with waking := true, sendWake := true }).finish it 9 .done))

/-! ### Routes (R316) -/

/-- SET_ROUTE to `hop` is allowed (R316). -/
def State.routeAllowed (s : State) (n hop : Nat) : Bool :=
  hop == 0 ||
  let chain := hop :: s.chain hop 4
  let head := (s.ctxSpans n).head?.map SpanOf.head
  s.joined hop && decide (chain.length ≤ 3) && rising (sortBy (fun a b => decide (a ≤ b)) (n :: chain)) &&
  chain.all (fun c => !(s.spansType c .relay).isEmpty && (s.ctxSpans c).all (fun p => some p.head == head)) &&
  !s.flag (B.AIR_CTX_SESS_COMPAT n) && !s.flag (B.AIR_CTX_SESS_COMPAT hop)

/-- SET_ROUTE: it takes effect at the next superframe start. -/
def execSetRoute (t : Nat) (it : Item) (s : State) : Out State :=
  let s := s.to t
  let n := it.ctx
  let hop := argBits it.d.arg0 7 0
  ok (s.sessOp it (fun i => .setRoute t i) true true (s.routeAllowed n hop)
    (fun s it => (s.setAirCtx n { s.airCtx n with nextHop := some hop }).finish it 9 .done))

/-! ### Keys (R310, R314) -/

/-- SET_JOIN_KEY. -/
def execSetJoinKey (t : Nat) (it : Item) (s : State) : Out State :=
  let s := s.to t
  let n := it.ctx
  let k := argBits it.d.arg0 8 0
  ok (s.sessOp it (fun i => .setJoinKey t i) true (s.airSlot? k).isSome (!s.joined n)
    (fun s it => (s.wr (Reg.AIR_CTX_JOINKEY n) (k + 0x200)).finish it 9 .done))

/-- SET_BEACON_KEY (R310). -/
def execSetBeaconKey (t : Nat) (it : Item) (s : State) : Out State :=
  let s := s.to t
  let k := argBits it.d.arg0 8 0
  ok (s.runOp 9 it (fun i => .setBeaconKey t i)
    ⟨it.d.context == 0, true, (s.airSlot? k).isSome, s.joinedCtx.isEmpty⟩
    (fun s it => (s.wr Reg.AIR_BEACON_KEY (k + 0x200)).finish it 9 .done))

/-! ### COMPAT_INJECT (R321) -/

/-- COMPAT_INJECT: DIR 0 is judged as if it had been received, in no span of its own and at the present instant (DESIGN
CHOICE, log entry 134); DIR 1 waits for the context's downlink. `raw` is what the host buffer holds. -/
def execCompatInject (t : Nat) (it : Item) (raw : List Byte) (opens : List Opening) (s : State) : Out State :=
  let s := s.to t
  let n := it.ctx
  let l := it.d.len.toNat
  let bs := (raw ++ leBytes (l - raw.length) 0).take l
  ok (s.sessOp it (fun i => .compatInject t i raw opens) (decide (20 ≤ l ∧ l ≤ 1300)) true
    (s.joined n && s.flag (B.AIR_CTX_SESS_COMPAT n))
    (fun s it =>
      if argBit it.d.arg0 0 then
        (s.setAirCtx n { s.airCtx n with inject := (s.airCtx n).inject ++ [bs] }).finish it 9 .done
      else
        let ls := layersOf bs opens
        (s.judgeFrame (s.get (B.AIR_CTX_STS_HEAD n)) ⟨bs, ls, false, s.devNs⟩ true ls).finish it 9 .done))

end Sys2Proof.Machine
end

