-- ==== Sys2Proof/Machine/Gnb.lean ====
section
/-!
DEFINITION. The base receiver (R117 to R141): band ports, gain and notches, the antenna supply, channels, base observation
items, the reference position and its survey.
-/

namespace Sys2Proof.Machine

/-- An event of GNB, whose code the spec does not give; it belongs to no policy function. -/
def State.gnbEvent (s : State) : State := s.freeEvent none 5

/-! ### Band ports (R117 to R122) -/

/-- A band port beside its registers. -/
def State.band (s : State) (p : Nat) : BandPort := Sp.at s.gnb.ports BandPort.reset p

/-- Replace a band port. -/
def State.setBand (s : State) (p : Nat) (x : BandPort) : State :=
  { s with gnb := { s.gnb with ports := Sp.store s.gnb.ports BandPort.reset p x } }

/-- The band port of a signal code (Table GNB-3): 0 for L1, 1 for L5. -/
def bandOf (sig : Nat) : Nat := sig % 2

/-- Change every channel on a band. -/
def State.mapBand (s : State) (p : Nat) (f : Chan → Chan) : State :=
  { s with gnb := { s.gnb with chans := s.gnb.chans.map (fun c => if bandOf c.2.sig = p then (c.1, f c.2) else c) } }

/-- The signals of a band coast on their last rates (R120). -/
def State.coastBand (s : State) (p : Nat) : State :=
  s.mapBand p (fun c => { c with coast := some (c.coast.getD s.cyc) })

/-- A port samples: its region and front-end block run and it is enabled. -/
def State.samples (s : State) (p : Nat) : Bool := s.runs 5 (blkFront p) && s.flag (B.GNB_PORT_CTL_ENABLE p)

/-- The port gains sync (R120); the clock tests skip the first epoch after it (R180). -/
def State.gainSync (s : State) (p : Nat) : State :=
  let s := (s.setFlag (B.GNB_PORT_STS_SYNC p) true).mapBand p (fun c => { c with coast := none })
  { s with gnb := { s.gnb with skipTest := true } }

/-- The port loses sync (R120); a port that is disabled loses it too (DEDUCED, log entry 124). -/
def State.loseSync (s : State) (p : Nat) : State :=
  let x := s.band p
  let s := s.setBand p { x with rx := { x.rx with bits := [], good := 0, wrongs := [], whole := false } }
  (s.setFlag (B.GNB_PORT_STS_SYNC p) false).coastBand p

/-- A 4-bit code, in bit order from the most significant (R118). -/
def codeOf (code : List Bool) : Nat := code.foldl (fun (n : Nat) b => 2 * n + (if b then 1 else 0)) 0

/-- The signed level of a code (R118). -/
def levelOf (code : List Bool) : Int := 2 * (codeOf code : Int) - 15

/-- The FRM pattern of a sample is 1, 1, 0, 0 (R118). -/
def frameOk (bits : List PortBit) : Bool := bits.map PortBit.frm == [true, true, false, false]

/-- A sample of a port is complete (R120): 256 correct ones in a row gain sync, 8 wrong ones within any 256 lose it; out of
sync the sample is discarded. A wrong sample within sync is a sample (DEDUCED, log entry 124). -/
def State.portSample (s : State) (p : Nat) (bits : List PortBit) : State :=
  let x := s.band p
  let good := frameOk bits
  if s.flag (B.GNB_PORT_STS_SYNC p) then
    let aged := (x.rx.wrongs.map (· + 1)).filter (· < 256)
    let wrongs := if good then aged else 0 :: aged
    let i := levelOf (bits.map PortBit.d0)
    let q := levelOf (bits.map PortBit.d1)
    let s := s.seeSample p (s.devNs / 10 ^ 6 * 10 ^ 6 + x.rx.count * 10 ^ 6 / 61380)
      (codeOf (bits.map PortBit.d0) + 16 * codeOf (bits.map PortBit.d1)) i q
    let s := s.setBand p { x with rx := { x.rx with
      bits := [], wrongs := wrongs, count := x.rx.count + 1, meas := x.rx.meas + 1
      level := x.rx.level + i.natAbs + q.natAbs } }
    if 8 ≤ wrongs.length then s.loseSync p else s
  else
    let n := if good then x.rx.good + 1 else 0
    let s := s.setBand p { x with rx := { x.rx with bits := [], good := n, wrongs := [] } }
    if 256 ≤ n then s.gainSync p else s

/-- One bit-time of a port (R118). Out of sync a sample starts at a bit-time in which FRM is 1 after a bit-time in which it
was 0; in sync every fourth bit-time starts one. -/
def State.portBit (s : State) (p : Nat) (b : PortBit) : State :=
  let x := s.band p
  let rise := b.frm && !x.rx.lastFrm
  let sync := s.flag (B.GNB_PORT_STS_SYNC p)
  let early := rise && !sync && !x.rx.bits.isEmpty
  let bits := if early then [b] else if x.rx.bits.isEmpty && !sync && !rise then [] else x.rx.bits ++ [b]
  let s := s.setBand p { x with rx := { x.rx with
    lastFrm := b.frm, bits := bits, good := if early then 0 else x.rx.good } }
  if bits.length = 4 then s.portSample p bits else s

/-- PORT_SYNC_CHANGE: the bit-times of a port since the last such command (R118, R120). -/
def execPortSyncChange (t : Nat) (port : Fin 2) (bits : List PortBit) (s : State) : Out State :=
  let s := s.to t
  if s.samples port.val then ok (bits.foldl (fun (s : State) b => s.portBit port.val b) s) else ok s

/-- SAMPLE_COUNT_CHECK: the samples of a port in a millisecond of device time that was in sync throughout (R119; DEDUCED,
log entry 124). A slip resynchronises the port. -/
def execSampleCountCheck (t : Nat) (port : Fin 2) (s : State) : Out State :=
  let s := s.to t
  let p := port.val
  let x := s.band p
  let n := x.rx.count
  let s := s.setBand p { x with rx := { x.rx with count := 0, whole := s.flag (B.GNB_PORT_STS_SYNC p) } }
  if s.samples p ∧ x.rx.whole ∧ 2 ≤ (n - 61380) + (61380 - n) then
    let s := (s.count (Reg.GNB_PORT_SLIP_CNT p)).setFlag (B.GNB_PORT_STS_SLIPPED p) true
    ok ((s.mapBand p (fun c => { c with slip := true })).loseSync p)
  else ok s

/-- Duties that were in force within the last second, each with the instant it was set (R121). -/
def State.dutiesInForce (s : State) (l : List (Nat × Nat)) (now : Nat) : List (Nat × Nat) :=
  let l := if l.isEmpty then [(now, 0)] else l
  let old := l.filter (fun d => d.2 + cycS ≤ s.cyc)
  old.getLast?.toList ++ l.filter (fun d => s.cyc < d.2 + cycS)

/-- AGC_UPDATE: the mean absolute level of the samples since the last update, over both components (R121; DEDUCED, log entry
124), steers the duty. -/
def execAgcUpdate (t : Nat) (port : Fin 2) (s : State) : Out State :=
  let s := s.to t
  let p := port.val
  let x := s.band p
  let held := s.flag (B.GNB_PORT_CTL_AGC_HOLD p) || !s.flag (B.GNB_PORT_STS_SYNC p) || x.rx.meas == 0
  let s := s.setBand p { x with rx := { x.rx with meas := 0, level := 0 } }
  if !s.samples p ∨ held then ok s
  else
    let old := s.get (B.GNB_PORT_STS_AGC_DUTY p)
    let aim := s.param P.AGC_TARGET * (2 * x.rx.meas)
    let duty := if x.rx.level * 10 < aim then min 1023 (old + 1) else if aim < x.rx.level * 10 then old - 1 else old
    let hist := s.dutiesInForce x.duties old
    let jump := hist.any (fun d => s.param P.AGC_JUMP < (d.1 - duty) + (duty - d.1))
    let y := s.band p
    let s := s.setBand p { y with
      duties := if duty = old then hist else hist ++ [(duty, s.cyc)], jumped := jump }
    let s := s.set (B.GNB_PORT_STS_AGC_DUTY p) duty
    if jump ∧ !x.jumped then ok ((s.setFlag (B.GNB_PORT_STS_AGC_JUMP p) true).gnbEvent.interfere) else ok s

/-- Post `n` events. -/
def State.gnbEvents (s : State) (n : Nat) : State :=
  match n with
  | 0 => s
  | n + 1 => s.gnbEvent.gnbEvents n

/-- Twice the median of a list of powers, the mean of the middle two where their number is even. -/
def median2 (l : List Nat) : Nat :=
  let l := sortBy (fun (a b : Nat) => a ≤ b) l
  (l[(l.length - 1) / 2]?.getD 0) + (l[l.length / 2]?.getD 0)

/-- A bin of a port's FFT from the band centre: bins count up from it, those from 512 on lie below it. -/
def binOf (k : Nat) : Int := if k < 512 then k else (k : Int) - 1024

/-- SPECTRUM_FFT: the powers of a port's bins in 0.1 dB, from the band centre up (R122). A line is a bin; lines of equal
power count in the order of their bins (DESIGN CHOICE, log entry 125). -/
def execSpectrumFft (t : Nat) (port : Fin 2) (powers : List Nat) (s : State) : Out State :=
  let s := s.to t
  let p := port.val
  if !s.samples p ∨ !s.flag (B.GNB_PORT_STS_SYNC p) then ok s
  else
    let x := s.band p
    let thr := median2 powers + 20 * s.param P.NOTCH_THRESH
    let lines := ((List.range powers.length).zip powers).filter (fun l => thr ≤ 2 * l.2)
    let bins := (sortBy (fun (a b : Nat × Nat) => decide (b.2 ≤ a.2)) lines).map (fun l => binOf l.1)
    let qual := bins.filter (fun b => x.prev.contains b)
    let kept := (x.notches.map (fun (n : Notch) => if bins.contains n.bin then { n with last := s.cyc } else n)).filter
      (fun n => s.cyc < n.last + cycS)
    let fresh := qual.filter (fun b => !kept.any (fun n => n.bin == b))
    let overran := 4 < qual.length
    let now : List Notch :=
      if overran then (qual.take 4).map (fun b => ⟨b, s.cyc⟩)
      else kept ++ (fresh.take (4 - kept.length)).map (fun b => ⟨b, s.cyc⟩)
    let placed := (now.filter (fun n => !x.notches.any (fun m => m.bin == n.bin))).length
    let gone := (x.notches.filter (fun n => !now.any (fun m => m.bin == n.bin))).length
    let s := s.setBand p { x with notches := now, prev := bins, overran := overran }
    let s := s.set (B.GNB_PORT_STS_NOTCHES p) now.length
    let s := if overran then s.setFlag (B.GNB_PORT_STS_NOTCH_OVER p) true else s
    ok (s.gnbEvents (placed + gone + (if overran ∧ !x.overran then 1 else 0)))

/-! ### The antenna supply (R123) -/

/-- The level of ANT_BIAS_EN. -/
def State.antBias (s : State) : Bool :=
  s.flag B.GNB_ANT_CFG_BIAS_EN && s.gnb.offAt.isNone && !s.flag B.GNB_ANT_STS_LATCHED

/-- The class of a current in 0.1 mA (Table GNB-2). -/
def State.antClass (s : State) (cur : Nat) : Nat :=
  if cur < s.param P.ANT_OPEN_MA * 10 then 1 else if s.param P.ANT_SHORT_MA * 10 < cur then 2 else 0

/-- A class takes effect. -/
def State.antEffect (s : State) (c : Nat) : State :=
  let old := s.get B.GNB_ANT_STS_CLASS
  let s := s.set B.GNB_ANT_STS_CLASS c
  let s := if c = 2 then
      let n := s.gnb.shorts + 1
      let s := { s with gnb := { s.gnb with shorts := n, offAt := some s.cyc, runLen := 0 } }
      if n = 3 then s.setFlag B.GNB_ANT_STS_LATCHED true else s
    else { s with gnb := { s.gnb with shorts := 0 } }
  if c = old ∧ c ≠ 2 then s else (s.setFlag B.GNB_ANT_STS_CHANGED true).gnbEvent

/-- ANTENNA_SAMPLE: the antenna current of a millisecond in 0.1 mA. A class holds for 10 consecutive samples before it
takes effect; with the bias off the current reads 0 and is not classed. -/
def execAntennaSample (t : Nat) (cur : BitVec 16) (s : State) : Out State :=
  let s := s.to t
  if !s.runs 5 (blkFront 0) then ok s
  else if !s.antBias then ok ({ s with gnb := { s.gnb with runLen := 0 } }.wr Reg.GNB_ANT_CUR 0)
  else
    let s := s.wr Reg.GNB_ANT_CUR cur.toNat
    let c := s.antClass cur.toNat
    let n := if s.gnb.runClass = c then s.gnb.runLen + 1 else 1
    let s := { s with gnb := { s.gnb with runClass := c, runLen := n } }
    if n = 10 then ok (s.antEffect c) else ok s

/-- ANTENNA_BIAS_RETRY: 5 s after a SHORT the bias returns and the classing restarts; after the third it stays off. -/
def execAntennaBiasRetry (t : Nat) (s : State) : Out State :=
  let s := s.to t
  match s.gnb.offAt with
  | some t0 =>
    if t0 + 5 * cycS ≤ s.cyc ∧ !s.flag B.GNB_ANT_STS_LATCHED then
      ok { s with gnb := { s.gnb with offAt := none, runLen := 0 } }
    else ok s
  | none => ok s

/-- ANT_REARM: a write of GNB_ANT_CFG; REARM set while LATCHED stands clears it and lets the bias return. -/
def execAntRearm (t : Nat) (rq : Requester) (val : Word) (s : State) : Out State :=
  ok ((s.to t).access rq Reg.GNB_ANT_CFG true (fun s =>
    let s := s.softWrite Reg.GNB_ANT_CFG val
    if val.getLsbD 1 ∧ s.flag B.GNB_ANT_STS_LATCHED then
      { s with gnb := { s.gnb with offAt := none, runLen := 0, shorts := 0 } }.setFlag B.GNB_ANT_STS_LATCHED false
    else s))

/-! ### Channels (R124, R125) -/

/-- Retired cells of GNB (R30): cells 0 to 191 are the channels, 192 and 193 the acquisition engines (DESIGN CHOICE, log
entry 126). -/
def State.retiredGnb (s : State) : List Nat := (s.rgn.retired.filter (fun p => p.1 == 5)).map Prod.snd

/-- Channels retired under R30. -/
def State.retiredChans (s : State) : List Nat := s.retiredGnb.filter (· < 192)

/-- Report TRACKED and the working channels. -/
def State.reportTrack (s : State) : State :=
  (s.set B.GNB_TRK_STS_TRACKED s.gnb.chans.length).set B.GNB_TRK_STS_CHANNELS (192 - s.retiredChans.length)

/-- The free working channels, ascending. -/
def State.freeChans (s : State) : List Nat :=
  (List.range 192).filter (fun k => (Sp.find s.gnb.chans k).isNone && !s.retiredChans.contains k)

/-- The lowest free working channel (DESIGN CHOICE, log entry 29). -/
def State.freeChan (s : State) : Option Nat := s.freeChans.head?

/-- A signal is tracked. -/
def State.tracks (s : State) (c : SigCand) : Bool :=
  s.gnb.chans.any (fun x => x.2.prn == c.prn.toNat && x.2.sig == c.sig.val)

/-- The candidates among what the engines know that no channel tracks (R125). -/
def State.untracked (s : State) (l : List SigCand) : List SigCand :=
  l.filter (fun c => c.prn != 0 && decide (((s.param P.GNB_ELEV_MASK * 100 : Nat) : Int) < c.elev)
    && !s.gnb.disabled.contains (satId (c.sig.val / 2) c.prn.toNat) && !s.tracks c)

/-- One candidate goes before another: the higher elevation, but where channels are retired the L1 band first (R125). -/
def State.goesBefore (s : State) (a b : SigCand) : Bool :=
  let l1 (c : SigCand) : Bool := bandOf c.sig.val == 0
  if !s.retiredChans.isEmpty ∧ l1 a ≠ l1 b then l1 a else decide (b.elev ≤ a.elev)

/-- ACQUISITION_HANDOFF: an engine hands the found signal `(prn, sig)` to a free channel, where it is among the candidates
that take the channels (R125); `known` are the signals in view with their elevations. -/
def execAcquisitionHandoff (t : Nat) (engine : Fin 2) (prn : BitVec 6) (sig : Fin 6) (known : List SigCand) (s : State) :
    Out State :=
  let s := s.to t
  if !s.runs 5 blkAcquire ∨ !s.runs 5 blkTrack ∨ s.retiredGnb.contains (192 + engine.val) then ok s
  else
    let l := sortBy s.goesBefore (s.untracked known)
    let free := s.freeChans
    let s := match free.head?, (l.take free.length).find? (fun c => c.prn == prn && c.sig == sig) with
      | some k, some c =>
        if s.flag (B.GNB_PORT_STS_SYNC (bandOf sig.val)) then
          { s with gnb := { s.gnb with
            chans := Sp.put s.gnb.chans k ⟨sig.val / 2, prn.toNat, sig.val, true, none, s.cyc, 0, c.elev, false⟩ } }
        else s
      | _, _ => s
    ok ((s.set B.GNB_TRK_STS_UNTRACKED (min 255 ((s.untracked known).length - s.freeChans.length))).reportTrack)

/-- Free a channel. -/
def State.dropChan (s : State) (k : Nat) : State :=
  ({ s with gnb := { s.gnb with chans := Sp.drop s.gnb.chans k } }).reportTrack

/-- A channel is retired (R30): its signal loses it; where that is an L1 band signal and no channel is free, the L5 band
signal of lowest elevation gives up its channel, so that the L1 band is kept first (R125; DEDUCED, log entry 126). -/
def State.retireChan (s : State) (k : Nat) : State :=
  let l1 := match Sp.find s.gnb.chans k with | some c => bandOf c.sig == 0 | none => false
  let s := s.dropChan k
  if l1 && s.freeChans.isEmpty then
    match sortBy (fun (a b : Nat × Chan) => decide (a.2.elev ≤ b.2.elev)) (s.gnb.chans.filter (fun c => bandOf c.2.sig == 1)) with
    | c :: _ => s.dropChan c.1
    | [] => s
  else s

/-- A channel's correlator overflows or fails parity: its record is left out of the next epoch (R128). -/
def State.faultChan (s : State) (k : Nat) : State :=
  { s with gnb := { s.gnb with chans := s.gnb.chans.map (fun (c : Nat × Chan) =>
      if c.1 = k then (c.1, { c.2 with fault := true }) else c) } }

/-- SIGNAL_LOCK_LOSS: a signal that has coasted for 100 ms, or lost carrier lock, frees its channel (R120). -/
def execSignalLockLoss (t : Nat) (ch : Fin 192) (carrier : Bool) (s : State) : Out State :=
  let s := s.to t
  match Sp.find s.gnb.chans ch.val with
  | some c =>
    let coasted := match c.coast with | some t0 => decide (t0 + 100 * cycMs ≤ s.cyc) | none => false
    if s.runs 5 blkTrack ∧ (carrier || coasted) then ok (s.dropChan ch.val) else ok s
  | none => ok s

/-- TRK_MASK_PRN_WRITE: disable or restore one satellite (Table GNB-8a). PRN 0 and SYSTEM 3 name none: the fields are kept
and DISABLE reads 0 (DESIGN CHOICE, log entry 127). -/
def execTrkMaskPrnWrite (t : Nat) (rq : Requester) (val : Word) (s : State) : Out State :=
  ok ((s.to t).access rq Reg.GNB_TRK_MASK_PRN true (fun s =>
    let s := s.softWrite Reg.GNB_TRK_MASK_PRN val
    let prn := fieldOf val 0 6
    let sys := fieldOf val 6 2
    let sat := satId sys prn
    if prn = 0 ∨ sys = 3 then s.setFlag B.GNB_TRK_MASK_PRN_DISABLE false
    else
      let rest := s.gnb.disabled.filter (· != sat)
      let l := if val.getLsbD 8 then rest ++ [sat] else rest
      let s := { s with gnb := { s.gnb with
        disabled := l
        chans := s.gnb.chans.filter (fun c => !(l.contains (satId c.2.sys c.2.prn))) } }
      (s.set B.GNB_TRK_DIS_CNT_COUNT l.length).reportTrack))

/-! ### The reference position (R131, R132) -/

/-- A 64-bit parameter, low word at `a`. -/
def State.param64 (s : State) (a : Nat) : Nat := s.param a + s.param (a + 4) * 2 ^ 32

/-- Set a word of the read-only REF block: shadow and live. -/
def State.setRefWord (s : State) (a v : Nat) : State := (s.wr a v).setLive a (BitVec.ofNat 32 v)

/-- Set a 64-bit value of the REF block. -/
def State.setRef64 (s : State) (a v : Nat) : State :=
  (s.setRefWord a (v % 2 ^ 32)).setRefWord (a + 4) (v / 2 ^ 32)

/-- REF_VALID and REF_SEQ. -/
def State.refValid (s : State) : Bool := s.param P.REF_STS % 2 == 1

/-- A square. -/
def sq (i : Int) : Nat := (i * i).toNat

/-- A position in 0.1 mm lies 6,300,000 to 6,400,000 m from the Earth's centre. -/
def refInRange (x y z : Int) : Bool :=
  let r := sq x + sq y + sq z
  63000000000 * 63000000000 ≤ r && r ≤ 64000000000 * 64000000000

/-- The rule of R132 for a step from the applied reference. -/
def State.refAllowed (s : State) (x y z : Int) (force : Bool) : Bool :=
  let d := sq (x - signed 64 (s.param64 P.REF_X_LO)) + sq (y - signed 64 (s.param64 P.REF_Y_LO))
    + sq (z - signed 64 (s.param64 P.REF_Z_LO))
  let lim := s.param P.REF_JUMP_MAX * 10
  !(s.refValid && lim * lim < d && !s.joinedCtx.isEmpty && !force)

/-- A reference is to be applied from the first epoch at least 10 ms later. One that is still staged is replaced (DESIGN
CHOICE, log entry 128). -/
def State.stageRef (s : State) (x y z : Int) : State :=
  { s with gnb := { s.gnb with
    newRef := some (unsigned 64 x, unsigned 64 y, unsigned 64 z, s.devNs + 10 * 10 ^ 6) } }

/-- SET_REF (R131, R132). -/
def execSetRef (t : Nat) (it : Item) (s : State) : Out State :=
  let x := signed 40 (argBits it.d.arg0 39 0)
  let y := signed 40 (argBits it.d.arg1 39 0)
  let z := signed 40 (argBits it.d.arg2 39 0)
  ok ((s.to t).runOp 5 it (fun i => .setRef t i)
    { Checks.pass with
      range := it.d.context == 0 && refInRange x y z
      state := s.gnb.survey.isNone && s.refAllowed x y z (argBit it.d.arg0 63) }
    (fun s it => (s.stageRef x y z).finish it 5 .done))

/-- The staged reference is applied at an epoch measured at `sampled`, where it is due; the first one is the frame origin
while ENU_VALID is 0 (R132, R160). -/
def State.applyRef (s : State) (sampled : Nat) : State :=
  match s.gnb.newRef with
  | some (x, y, z, due) =>
    if due ≤ sampled then
      let seq := (s.param P.REF_STS / 2 ^ 16 + 1) % 2 ^ 16
      let s := (((s.setRef64 P.REF_X_LO x).setRef64 P.REF_Y_LO y).setRef64 P.REF_Z_LO z).setRefWord P.REF_STS
        (1 + seq * 2 ^ 16)
      let s := { s with
        gnb := { s.gnb with newRef := none, refNew := true }
        fix := { s.fix with firstRef := some (s.fix.firstRef.getD (x, y, z)) } }
      s.latchOrigin
    else s
  | none => s

/-! ### Base observation items (R127 to R130) -/

/-- Four words of a signal record (Table GNB-5). -/
def BaseSig.words (g : BaseSig) : List (BitVec 64) :=
  let bit (v : Bool) (k : Nat) : Nat := if v then 2 ^ k else 0
  [ BitVec.ofNat 64 (g.prn % 64 + g.sig % 8 * 2 ^ 8 + bit g.half 11 + bit g.slip 12 + bit g.notched 13
      + g.cn0.toNat * 2 ^ 16 + g.chan % 256 * 2 ^ 24 + g.lockMs.toNat * 2 ^ 32),
    g.prSd ++ g.pr, g.cp, g.azim ++ g.elev ++ g.doppler ]

/-- The words of a base observation item: its header (Table GNB-4) and its records. -/
def BaseItem.words (b : BaseItem) : List (BitVec 64) :=
  let bit (v : Bool) (k : Nat) : Nat := if v then 2 ^ k else 0
  [ BitVec.ofNat 64 b.epoch, BitVec.ofNat 64 b.sampled,
    BitVec.ofNat 64 (b.sigs.length + bit b.refValid 8 + bit (!b.refValid) 9 + bit b.refChanged 10 + bit b.down.1 11
      + bit b.down.2 12 + b.refSeq % 2 ^ 16 * 2 ^ 16 + b.seq * 2 ^ 32),
    BitVec.ofInt 64 b.bias, BitVec.ofInt 64 b.drift,
    BitVec.ofInt 64 b.ref.1, BitVec.ofInt 64 b.ref.2.1, BitVec.ofInt 64 b.ref.2.2 ]
  ++ (b.sigs.map BaseSig.words).flatten

/-- A notch lies within 1.023 MHz of the band centre, where every tracked carrier lies: bins are 61.38 MHz / 1,024
wide. -/
def State.notched (s : State) (p : Nat) : Bool :=
  (s.band p).notches.any (fun n => n.bin.natAbs * 61380 ≤ 1023 * 1024)

/-- What a tracked signal measures where the command names nothing for its channel: free values. -/
def State.freeMeas (s : State) (ch : Nat) : State × Meas :=
  let a := s.freeVal
  let s := s.tookFree
  let b := s.freeVal
  let s := s.tookFree
  let c := s.freeVal
  let s := s.tookFree
  let d := s.freeVal
  (s.tookFree, ⟨ch, none, a.getLsbD 0, a.extractLsb' 1 8, b.extractLsb' 0 48, b.extractLsb' 48 16, c, d.extractLsb' 0 32,
    d.extractLsb' 32 16, d.extractLsb' 48 16⟩)

/-- Since when the carrier of a channel is locked, after an epoch that measured `m`. -/
def Chan.lockedAt (c : Chan) (m : Meas) (cyc : Nat) : Nat :=
  match m.relock with
  | some ms => cyc - ms.toNat * cycMs
  | none => c.lockAt

/-- The lock time in ms, saturating. -/
def Chan.lockMs (c : Chan) (m : Meas) (cyc : Nat) : BitVec 32 :=
  BitVec.ofNat 32 (sat32 ((cyc - c.lockedAt m cyc) / cycMs))

/-- The record of a channel (R127, Table GNB-5): HALF_CYCLE only of the data-only signal, SLIP where lock was lost or reset
since the last record, in the first item after a wake, or after a fault (R119, R128, R139). -/
def State.recordOf (s : State) (ch : Nat) (c : Chan) (m : Meas) : BaseSig :=
  { sys := c.sys, prn := c.prn, sig := c.sig, half := m.half && c.sig == 0
    slip := c.slip || m.relock.isSome || s.gnb.allSlip, notched := s.notched (bandOf c.sig), cn0 := m.cn0, chan := ch
    lockMs := c.lockMs m s.cyc, pr := m.pr, prSd := m.prSd, cp := m.cp, doppler := m.doppler, elev := m.elev
    azim := m.azim }

/-- A channel after an epoch: what it measured; SLIP stays owed while no item carried the record. -/
def Chan.after (c : Chan) (m : Meas) (carried : Bool) (cyc : Nat) : Chan :=
  { c with
    lockAt := c.lockedAt m cyc, cn0 := m.cn0.toNat, elev := m.elev.toInt, fault := false
    slip := (c.fault || (!carried && (c.slip || m.relock.isSome))) }

/-- What each tracked channel measures at an epoch, in channel order (R127). -/
def State.measure (s : State) (ms : List Meas) (l : Sp Chan) : State × List (Nat × Chan × Meas) :=
  match l with
  | [] => (s, [])
  | (k, c) :: r =>
    let (s, m) := match ms.find? (fun m => m.chan == k) with
      | some m => (s, m)
      | none => s.freeMeas k
    let q := s.measure ms r
    (q.1, (k, c, m) :: q.2)

/-- Tracked satellites of a system among the records. -/
def trackedSats (l : List BaseSig) (sys : Nat) : Nat :=
  ((l.filter (fun p => p.sys == sys)).map BaseSig.prn).eraseDups.length

/-- Push the packets that wait for queue 25, oldest first, until one is refused. -/
def State.flushBase (s : State) (l : List Packet) : State :=
  match l with
  | [] => { s with gnb := { s.gnb with outPk := [] } }
  | p :: r =>
    let q := s.pushPacket 25 5 p
    if q.2 then { q.1 with gnb := { q.1.gnb with outPk := p :: r } } else q.1.flushBase r

/-- A base observation item goes to queue 25, flow 0 in its LEN word (DESIGN CHOICE, log entry 129), and into the base
history of the last 40 epochs (R130). The first item after reset has SEQ 1 (DESIGN CHOICE, log entry 129). -/
def State.deliverBase (s : State) (b : BaseItem) : State :=
  let h := (s.gnb.history ++ [b]).filter (fun o => b.epoch < o.epoch + 40 * 50000000)
  let s := { s with gnb := { s.gnb with seq := b.seq, history := h, allSlip := false, refNew := false } }
  s.flushBase (s.gnb.outPk ++ [Packet.mk 0 (BitVec.ofNat 32 b.seq) b.words [] none])

/-- The base observation item of an epoch. -/
def State.baseItem (s : State) (epoch sampled : Nat) (l : List BaseSig) (bias drift : Int) : BaseItem :=
  { epoch := epoch, sampled := sampled, seq := (s.gnb.seq + 1) % 2 ^ 32, refValid := s.refValid
    refChanged := s.gnb.refNew
    down := (!s.flag (B.GNB_PORT_STS_SYNC 0), !s.flag (B.GNB_PORT_STS_SYNC 1))
    refSeq := s.param P.REF_STS / 2 ^ 16, bias := bias, drift := drift
    ref := (signed 64 (s.param64 P.REF_X_LO), signed 64 (s.param64 P.REF_Y_LO), signed 64 (s.param64 P.REF_Z_LO))
    sigs := l }

/-- The signals suffice for a clock solution: any with a valid reference, else those of a position solution (R129). -/
def State.clockPossible (s : State) (l : List BaseSig) : Bool :=
  if s.refValid then !l.isEmpty else countsSuffice (trackedSats l 0) (trackedSats l 1) (trackedSats l 2)

/-- What FIX does at a base epoch with an item (R152, R175, R179, R180). -/
def State.fixBaseEpoch (s : State) (b : BaseItem) (sats : List SvRange) : State :=
  let run := s.testsRun b.refChanged
  let s := s.setFlag B.FIX_INTEG_STS_CLK_TEST_ON (2 ≤ s.qualityNow)
  let s := if s.qualityNow < 2 then { s with fix := { s.fix with anchors := [] } } else s
  let s := if run then s.clockTests b else s
  let s := { s with gnb := { s.gnb with skipTest := false } }
  ((s.baseSlipTest b).noteCn0 0 b.epoch (b.sigs.map (fun g => (bandOf g.sig, g.cn0.toNat)))).fleetTest b sats

/-- BASE_OBS_EPOCH (R127 to R130): the measurements of the channels at a 50 ms epoch, the clock solution (bias in ps, drift
in ps/s) where one is found, what the ephemeris gives. -/
def execBaseObsEpoch (t : Nat) (epoch sampled : BitVec 64) (ms : List Meas) (clk : Option (Int × Int))
    (sats : List SvRange) (s : State) : Out State :=
  let s := s.to t
  let e := epoch.toNat
  let newer := s.gnb.history.all (fun b => b.epoch < e)
  if !s.runs 5 blkTrack ∨ s.chip.stabled ∨ e % 50000000 ≠ 0 ∨ !newer then ok s
  else
    let s := s.applyRef sampled.toNat
    let (s, l) := s.measure ms s.gnb.chans
    let recs := (l.filter (fun p => !p.2.1.fault)).map (fun p => s.recordOf p.1 p.2.1 p.2.2)
    let next (carried : Bool) : Sp Chan := l.map (fun p => (p.1, p.2.1.after p.2.2 carried s.cyc))
    match clk with
    | some (bias, drift) =>
      if s.clockPossible recs then
        let b := s.baseItem e sampled.toNat recs bias drift
        let s := { s with gnb := { s.gnb with chans := next true } }
        let s := (s.sample 1 (bias * 2 ^ 16 / 1000 - s.param P.GNSS_DELAY * 2 ^ 16)).deliverBase b
        let s := if s.up 6 then s.fixBaseEpoch b sats else s
        ok (s.corrections b)
      else ok { s with gnb := { s.gnb with chans := next false } }
    | none => ok { s with gnb := { s.gnb with chans := next false } }

/-! ### Bursts in Stabled (R137 to R139) -/

/-- The channels a burst tracks: at most BURST_SIGNALS of the L1 band, those of highest last C/N0. -/
def State.burstChans (s : State) : List Nat :=
  let l := sortBy (fun (a b : Nat × Chan) => decide (b.2.cn0 ≤ a.2.cn0)) (s.gnb.chans.filter (fun c => bandOf c.2.sig == 0))
  (l.take (s.param P.BURST_SIGNALS)).map Prod.fst

/-- STABLED_BURST: the 40 ms burst of a whole second in Stabled, with the CLK_BIAS in ps where it yields a solution and the
C/N0 it finds by channel (R137, R138). -/
def execStabledBurst (t : Nat) (clk : Option Int) (found : List (Nat × BitVec 8)) (s : State) : Out State :=
  let s := s.to t
  let sec := s.devNs / 10 ^ 9
  if s.chip.stabled ∧ s.param P.BURST_EN = 1 ∧ s.gnb.emptyBursts < 60 ∧ s.devNs % 10 ^ 9 ≤ 40 * 10 ^ 6
      ∧ sec ≠ s.gnb.burstSec then
    let l := s.burstChans
    let chans := s.gnb.chans.map (fun (c : Nat × Chan) => if l.contains c.1 then
      (c.1, { c.2 with cn0 := match found.find? (fun f => f.1 == c.1) with | some f => f.2.toNat | none => 0 }) else c)
    let s := { s with gnb := { s.gnb with chans := chans, burst := l, burstSec := sec } }
    match clk with
    | some bias =>
      ok ({ s with gnb := { s.gnb with emptyBursts := 0 } }.sample 1
        (bias * 2 ^ 16 / 1000 - s.param P.GNSS_DELAY * 2 ^ 16))
    | none => ok { s with gnb := { s.gnb with emptyBursts := s.gnb.emptyBursts + 1 } }
  else ok s

/-- What GNB keeps as the chip goes to Stabled: with bursts, the channels and the AGC duties as they were (R137, R139). -/
def State.gnbToSleep (s old : State) : State :=
  if old.param P.BURST_EN = 1 then
    let s := { s with gnb := { s.gnb with chans := old.gnb.chans, burst := [], burstSec := 0, emptyBursts := 0 } }
    [0, 1].foldl (fun (s : State) p => s.set (B.GNB_PORT_STS_AGC_DUTY p) (old.get (B.GNB_PORT_STS_AGC_DUTY p))) s
  else { s with gnb := { s.gnb with chans := [], burst := [], emptyBursts := 0 } }

/-- What GNB resumes with after Stabled: the channels of the last burst while bursts ran, none where they had stopped; the
first item carries SLIP in every record (R138, R139). -/
def State.gnbWakes (s : State) : State :=
  let ran := s.param P.BURST_EN = 1 ∧ s.gnb.emptyBursts < 60
  ({ s with gnb := { s.gnb with
    chans := if ran then s.gnb.chans.filter (fun c => s.gnb.burst.contains c.1) else []
    allSlip := true, emptyBursts := 0, burst := [], skipTest := true } }).reportTrack

/-! ### The self-survey (R133 to R135) -/

/-- DURATION and SIGMA_TARGET of a survey's descriptor. -/
def surveyDuration (d : Desc) : Nat := argBits d.arg0 31 0
/-- SIGMA_TARGET. -/
def surveyTarget (d : Desc) : Nat := argBits d.arg0 47 32

/-- SELF_SURVEY (R131, R133). -/
def execSelfSurvey (t : Nat) (it : Item) (s : State) : Out State :=
  ok ((s.to t).runOp 5 it (fun i => .selfSurvey t i)
    { Checks.pass with
      range := it.d.context == 0 && 60 ≤ surveyDuration it.d && surveyDuration it.d ≤ 604800
      state := s.gnb.survey.isNone }
    (fun s it =>
      let s := s.startLong it 5 (surveyDuration it.d) 0
      { s with gnb := { s.gnb with
        survey := some ⟨it.handle.1, it.handle.2, s.cyc, s.devSec, (0, 0, 0), (0, 0, 0)⟩ } }))

/-- A survey ends. -/
def State.endSurvey (s : State) (l : LongOp) (st : Status) : State :=
  ({ s with gnb := { s.gnb with survey := none } }).endLong l st

/-- Solutions of a survey that count as independent: one in 300 s in AVERAGE mode, one in 10 s in NETWORK mode (R133). -/
def surveySpan (d : Desc) : Nat := if argBit d.arg1 0 then 10 else 300

/-- `n²` times the largest one-axis variance of `n` solutions, in (0.1 mm)². -/
def Survey.spread (v : Survey) (n : Nat) : Nat :=
  max ((n * v.sumSq.1) - sq v.sum.1) (max (n * v.sumSq.2.1 - sq v.sum.2.1) (n * v.sumSq.2.2 - sq v.sum.2.2))

/-- The achieved sigma in mm of `n` counted seconds, rounded up (R133; DEDUCED, log entry 130): the variance of the mean is
the variance of a solution over the number of independent ones. -/
def Survey.sigma (v : Survey) (n span : Nat) : Nat :=
  let num := v.spread n * span
  let den := 100 * n * n * n
  let r := isqrt (num / den)
  if r * r * den = num then r else r + 1

/-- The mean of `n` solutions in 0.1 mm, rounded down. -/
def Survey.mean (v : Survey) (n : Nat) : Int × Int × Int := (v.sum.1 / n, v.sum.2.1 / n, v.sum.2.2 / n)

/-- One solution more. -/
def Survey.add (v : Survey) (x y z : Int) (cyc : Nat) : Survey :=
  { v with
    last := cyc
    sum := (v.sum.1 + x, v.sum.2.1 + y, v.sum.2.2 + z)
    sumSq := (v.sumSq.1 + sq x, v.sumSq.2.1 + sq y, v.sumSq.2.2 + sq z) }

/-- A counted second of a survey (R133 to R135): the solution of the second, in 0.1 mm. -/
def State.surveyCount (s : State) (l : LongOp) (v : Survey) (x y z : Int) : State :=
  let d := l.start
  let v := v.add x y z s.cyc
  let n := l.done + 1
  let sigma := v.sigma n (surveySpan d)
  let m := v.mean n
  let s := ((s.wr64 Reg.GNB_SURVEY_X (unsigned 64 m.1)).wr64 Reg.GNB_SURVEY_Y (unsigned 64 m.2.1)).wr64
    Reg.GNB_SURVEY_Z (unsigned 64 m.2.2)
  let s := { s with gnb := { s.gnb with survey := some v } }
  let target := surveyTarget d
  let met := target != 0 && sigma ≤ target && 60 ≤ n
  if met || surveyDuration d ≤ n then
    let apply := argBit d.arg1 1 && refInRange m.1 m.2.1 m.2.2 && s.refAllowed m.1 m.2.1 m.2.2 (argBit d.arg1 2)
    let missed := target != 0 && target < sigma
    let s := if apply then s.stageRef m.1 m.2.1 m.2.2 else s
    s.endSurvey { l with
      done := n
      word := min 0xFFFF sigma + (if apply then 2 ^ 16 else 0) + (if missed then 2 ^ 17 else 0) } .done
  else
    let l' := { l with done := n, word := min 0xFFFF sigma }
    (s.putLong l').safePoint l'

/-- A second of a survey, with the solution it yields, if any; safe points fall on each second (R133). -/
def State.surveyUnit (s : State) (l : LongOp) (sol : Option (Int × Int × Int)) : State :=
  match s.gnb.survey with
  | none => s
  | some v =>
    if s.devSec = v.sec then s
    else
      let v := { v with sec := s.devSec }
      match sol with
      | some (x, y, z) => s.surveyCount l v x y z
      | none => ({ s with gnb := { s.gnb with survey := some v } }).safePoint l

/-- SURVEY_NETWORK_TIMEOUT: a NETWORK survey that counts no second in 600 s of running ends (R134). -/
def execSurveyNetworkTimeout (t : Nat) (s : State) : Out State :=
  let s := s.to t
  match s.gnb.survey with
  | none => ok s
  | some v =>
    match s.longOf? v.ring v.tag with
    | none => ok s
    | some l =>
      if s.runs 5 blkTrack ∧ argBit l.start.arg1 0 ∧ l.state ≠ .suspended ∧ v.last + 600 * cycS ≤ s.cyc then
        ok (s.endSurvey l .failTimeout)
      else ok s

/-- What a GNB region reset leaves (R136): the reference, one still staged and the count SEQ among it (DESIGN CHOICE, log
entry 128), the base history and the parameters; every channel lost lock. -/
def State.gnbReset (s : State) : State :=
  ({ s with gnb := { s.gnb with chans := [], ports := [], survey := none, outPk := [], skipTest := true } }).reportTrack

end Sys2Proof.Machine
end

