-- ==== Sys2Proof/Machine/ImageBytes.lean ====
section
/-!
DEFINITION. The layouts of images and of what CHIP keeps in flash and OTP: image headers (Tables BOOT-5, RGN-3), the
directories of a bundle (Tables RGN-4, RGN-5), compatibility tables (Table BOOT-8), signature blocks (Table BOOT-6), boot
records (Table BOOT-9), OTP requests (R463).
-/

namespace Sys2Proof.Machine

/-! ### Headers -/

/-- The interface epoch, minor. -/
def Image.minor (i : Image) : BitVec 16 := BitVec.ofNat 16 (leAt i.header 0x08 2)
/-- The interface epoch, major. -/
def Image.major (i : Image) : BitVec 16 := BitVec.ofNat 16 (leAt i.header 0x0A 2)
/-- SVC_VERSION or BUNDLE_VERSION. -/
def Image.version (i : Image) : BitVec 32 := BitVec.ofNat 32 (leAt i.header 0x0C 4)
/-- ROLLBACK. -/
def Image.rollback (i : Image) : Nat := leAt i.header 0x10 4
/-- PAIR_EPOCH of a firmware image. -/
def Image.pairEpoch (i : Image) : BitVec 8 := BitVec.ofNat 8 (leAt i.header 0x19 1)
/-- TOTAL_LEN. -/
def Image.len (i : Image) : Nat := leAt i.header 0x1C 4
/-- DEBUG_BUILD. -/
def Image.debug (i : Image) : Bool := (leAt i.header 0x60 4).testBit 0
/-- PAYLOAD_HASH matches. -/
def Image.hashOk (i : Image) : Bool := leAt i.header 0x20 48 == i.hash
/-- TABLE_COUNT of a bundle. -/
def Image.tableCount (i : Image) : Nat := leAt i.header 0x19 1
/-- PARAM_COUNT of a bundle. -/
def Image.paramCount (i : Image) : Nat := leAt i.header 0x1A 2
/-- The length of the compatibility table: its header and COUNT entries. -/
def Image.compatLen (i : Image) : Nat := 8 + 16 * leAt i.compat 4 2

/-- Bytes of a signature block (Table BOOT-6). -/
abbrev sigLenBlock : Nat := 5488

/-- MAGIC, HDR_LEN, TARGET_ID and MIN_STEP of a header match the kind and a chip of step `step`. -/
def Image.headOk (i : Image) (bundle : Bool) (step : Nat) : Bool :=
  i.header.take 4 == [0x44#8, 0x5A#8, if bundle then 0x47#8 else 0x46#8, if bundle then 0x42#8 else 0x57#8]
    && leAt i.header 0x04 2 == 0x100 && leAt i.header 0x14 4 == 0x0D284000 && leAt i.header 0x18 1 ≤ step

/-- The offsets of a header lie in order inside TOTAL_LEN. -/
def Image.offsetsOk (i : Image) (bundle : Bool) : Bool :=
  let o := leAt i.header 0x50 4
  let p := leAt i.header 0x54 4
  let c := leAt i.header 0x58 4
  let g := leAt i.header 0x5C 4
  o == 0x100 && (if bundle then o + 24 * i.tableCount ≤ p && p + 16 * i.paramCount ≤ c else o + p ≤ c)
    && c + i.compatLen ≤ g && g + sigLenBlock ≤ i.len

/-! ### The directories of a bundle -/

/-- A table directory entry (Table RGN-4) and the image that its OFFSET and LEN name. -/
structure GaitTable where
  region  : Nat
  block   : Nat
  id      : Nat
  offset  : Nat
  len     : Nat
  version : Nat
  steps   : Nat
  crc     : Nat
  entry   : Bool
  image   : List Byte
  deriving DecidableEq, Repr

/-- Entry `k` of the table directory. -/
def Image.table (i : Image) (k : Nat) : GaitTable :=
  let e := (i.dir.drop (24 * k)).take 24
  ⟨leAt e 0x00 1, leAt e 0x01 1, leAt e 0x02 2, leAt e 0x04 4, leAt e 0x08 4, leAt e 0x0C 2, leAt e 0x0E 2, leAt e 0x10 4,
    (leAt e 0x14 4).testBit 0, i.tableImgs[k]?.getD []⟩

/-- The table directory. -/
def Image.tables (i : Image) : List GaitTable := (List.range i.tableCount).map i.table

/-- An entry is legal: a region that has gait tables of a bundle, a length of 64 to 65,536 in steps of 16. -/
def GaitTable.legal (g : GaitTable) : Bool :=
  0 < g.region && g.region < 16 && g.region != 13 && 64 ≤ g.len && g.len ≤ 65536 && g.len % 16 == 0

/-- The table's CRC-32C matches (R26). -/
def GaitTable.good (g : GaitTable) : Bool := (crc32c (fitBytes g.len g.image)).toNat == g.crc

/-- The first table of region `r` whose CRC does not match. -/
def Image.badTable (i : Image) (r : Nat) : Option GaitTable := i.tables.find? (fun g => g.region == r && !g.good)

/-- 32-bit words of bytes. -/
def words32 (n : Nat) (bs : List Byte) : List Word := (List.range n).map (fun k => BitVec.ofNat 32 (leAt bs (4 * k) 4))

/-- Entry `k` of the parameter directory (Table RGN-5) with its default contents. -/
def Image.param (i : Image) (k : Nat) : ParamBlock :=
  let e := (i.pdir.drop (16 * k)).take 16
  let len := leAt e 0x08 4
  { id := BitVec.ofNat 16 (leAt e 0x00 2), region := leAt e 0x02 1, access := leAt e 0x03 1, offset := leAt e 0x04 4, len := len
    data := words32 (len / 4) (i.defaults[k]?.getD []) }

/-- The parameter directory. -/
def Image.params (i : Image) : List ParamBlock := (List.range i.paramCount).map i.param

/-- APPLY may make the block live: it is not read-only to software. -/
def ParamBlock.apply (b : ParamBlock) : Bool := b.access == 1

/-- A block is legal (Table RGN-5, R27): inside its region's parameter area. -/
def ParamBlock.legal (b : ParamBlock) : Bool :=
  b.id != 0 && b.region < 16 && b.access ≤ 1 && 0x80000 ≤ b.offset && b.offset % 4 == 0 && 4 ≤ b.len && b.len ≤ 4096
    && b.len % 4 == 0 && b.offset + b.len ≤ 0x100000

/-- Two blocks overlap, or share a PARAM_ID. -/
def ParamBlock.clash (a b : ParamBlock) : Bool :=
  a.id == b.id || (a.region == b.region && decide (a.offset < b.offset + b.len) && decide (b.offset < a.offset + a.len))

/-- No two blocks of a list clash. -/
def apart (l : List ParamBlock) : Bool :=
  match l with
  | [] => true
  | b :: r => !r.any (fun c => b.clash c) && apart r

/-- The directories of a bundle are legal (R26, R27). -/
def Image.dirsOk (i : Image) : Bool :=
  1 ≤ i.tableCount && i.tableCount ≤ 240 && i.paramCount ≤ 1024 && i.tables.all GaitTable.legal
    && i.params.all ParamBlock.legal && apart i.params

/-- The lowest VERSION of the tables of region `r` (Table RGN-17); 0 where it has none. -/
def Image.tableSet (i : Image) (r : Nat) : Nat :=
  match (i.tables.filter (fun g => g.region == r)).map GaitTable.version with
  | [] => 0
  | v :: l => l.foldl min v

/-! ### Compatibility tables -/

/-- An entry from its 16 bytes (Table BOOT-8). -/
def CompatEntry.ofBytes (bs : List Byte) : CompatEntry where
  fwMajor := BitVec.ofNat 16 (leAt bs 0x00 2)
  fwLo := BitVec.ofNat 16 (leAt bs 0x02 2)
  fwHi := BitVec.ofNat 16 (leAt bs 0x04 2)
  gbMajor := BitVec.ofNat 16 (leAt bs 0x06 2)
  gbLo := BitVec.ofNat 16 (leAt bs 0x08 2)
  gbHi := BitVec.ofNat 16 (leAt bs 0x0A 2)
  withdraw := (leAt bs 0x0C 2).testBit 0

/-- The entries of an image's compatibility table (R453); none where its header is not that of one. -/
def Image.entries (i : Image) : List CompatEntry :=
  let n := leAt i.compat 4 2
  if i.compat.take 4 = [0x44#8, 0x5A#8, 0x43#8, 0x54#8] ∧ 1 ≤ n ∧ n ≤ 64 ∧ leAt i.compat 6 2 = 1 then
    (List.range n).map (fun k => CompatEntry.ofBytes ((i.compat.drop (8 + 16 * k)).take 16))
  else []

/-! ### Signature blocks -/

/-- The block is one of Table BOOT-6: MAGIC, FORMAT, KEY_INDEX. -/
def SigBlock.formed (g : SigBlock) : Bool :=
  g.head.take 4 == [0x44#8, 0x5A#8, 0x53#8, 0x47#8] && leAt g.head 4 2 == 1 && leAt g.head 6 1 < 8

/-- KEY_INDEX. -/
def SigBlock.key (g : SigBlock) : Nat := leAt g.head 6 1

/-- Both signatures verify. -/
def SigBlock.verifies (g : SigBlock) : Bool := g.ecdsa && g.mldsa

/-! ### Boot records (R456, Table BOOT-9) -/

/-- The bytes "DZBR". -/
def recMagic : List Byte := [0x44#8, 0x5A#8, 0x42#8, 0x52#8]

/-- The bytes of a boot record. -/
def BootRec.bytes (r : BootRec) : List Byte :=
  let bit (b : Bool) (k : Nat) : Nat := if b then 2 ^ k else 0
  let b := recMagic ++ leBytes 4 r.gen ++ leBytes 1 (bit r.fwPref 0) ++ leBytes 1 (bit r.gbPref 0)
    ++ leBytes 1 (bit r.trialFw 0 + bit r.trialGb 1) ++ leBytes 1 r.tries ++ leBytes 2 r.wait ++ leBytes 46 0
  b ++ leBytes 4 (crc32c b).toNat

/-- The record of a copy: none where MAGIC or the CRC is wrong. -/
def BootRec.ofBytes (bs : List Byte) : Option BootRec :=
  if bs.take 4 = recMagic ∧ (crc32c (fitBytes 0x3C bs)).toNat = leAt bs 0x3C 4 then
    some ⟨leAt bs 4 4, (leAt bs 8 1).testBit 0, (leAt bs 9 1).testBit 0, (leAt bs 0xA 1).testBit 0,
      (leAt bs 0xA 1).testBit 1, leAt bs 0xB 1, leAt bs 0xC 2⟩
  else none

/-! ### OTP requests (R463) -/

/-- MAGIC is right. -/
def OtpReq.magicOk (r : OtpReq) : Bool := r.header.take 4 == [0x44#8, 0x5A#8, 0x4F#8, 0x50#8]
/-- FORMAT. -/
def OtpReq.format (r : OtpReq) : Nat := leAt r.header 0x04 2
/-- GROUP. -/
def OtpReq.group (r : OtpReq) : Nat := leAt r.header 0x06 1
/-- INDEX. -/
def OtpReq.index (r : OtpReq) : Nat := leAt r.header 0x07 1
/-- UID. -/
def OtpReq.uid (r : OtpReq) : BitVec 128 := BitVec.ofNat 128 (leAt r.header 0x08 16)
/-- NONCE. -/
def OtpReq.nonce (r : OtpReq) : Nat := leAt r.header 0x18 16
/-- VALUE. -/
def OtpReq.value (r : OtpReq) : BitVec 128 := BitVec.ofNat 128 (leAt r.header 0x28 16)
/-- A group that Table BOOT-12 marks signed. -/
def OtpReq.signed (r : OtpReq) : Bool := r.group == 2 || r.group == 3 || r.group == 5
/-- Bytes of a request: its header, and the signature block of a signed group. -/
def OtpReq.size (r : OtpReq) : Nat := 64 + (if r.signed then sigLenBlock else 0)

end Sys2Proof.Machine
end

