-- ==== Sys2Proof/Machine/Pad.lean ====
section
/-!
DEFINITION. Map operations (file 08): MAP_IMPORT, MAP_EXPORT, SET_HOLD, READ_CELL, ticks and groom.
-/

namespace Sys2Proof.Machine

/-! ### READ_CELL and SET_HOLD (R209, R215) -/

/-- The cell that ARG_0 of READ_CELL names lies in the grid; not checked without a grid. -/
def State.cellNamed (s : State) (d : Desc) : Bool :=
  match s.pad.geom with
  | some g => !s.mapValid || (argBits d.arg0 15 0 < g.w && argBits d.arg0 31 16 < g.h)
  | none => true

/-- READ_CELL (R209); `bad` where the word read fails (R206). -/
def execReadCell (t : Nat) (it : Item) (bad : Bool) (s : State) : Out State :=
  ok ((s.to t).runOp 7 it (fun i => .readCell t i bad)
    { Checks.pass with range := it.d.context == 0 && (s.to t).cellNamed it.d, state := (s.to t).mapValid }
    (fun s it =>
      match s.pad.geom with
      | none => s.finish it 7 .rejState
      | some g =>
        let i := argBits it.d.arg0 15 0
        let j := argBits it.d.arg0 31 16
        let k := g.key ((i : Int), (j : Int))
        s.readCells it (if bad then some ⟨BitVec.ofNat 16 i, BitVec.ofNat 16 j, 0xFFF#12⟩ else none) (fun s =>
          let s := s.groomAged (k / 4096)
          s.finish it 7 .done ⟨s.cellWord k % 2 ^ 64, s.cellWord k / 2 ^ 64, 0⟩)))

/-- The range checks of SET_HOLD (R215). -/
def State.holdRange (s : State) (d : Desc) : Bool :=
  let (i0, j0, i1, j1) := holdRect d
  i0 ≤ i1 && j0 ≤ j1 && (match s.pad.geom with
    | some g => !s.mapValid || (i1 < g.w && j1 < g.h)
    | none => true)

/-- SET_HOLD (R215): HOLD of every cell of the rectangle in one step, under the locks of its tiles. -/
def execSetHold (t : Nat) (it : Item) (bad : Option BadCell) (s : State) : Out State :=
  ok ((s.to t).runOp 7 it (fun i => .setHold t i bad)
    { Checks.pass with range := it.d.context == 0 && (s.to t).holdRange it.d, state := (s.to t).mapValid && !(s.to t).fullImport }
    (fun s it => s.waitLocks it bad))

/-! ### MAP_IMPORT (R210 to R213) -/

/-- The geometry of a file. -/
def PadFile.geom (f : PadFile) : PadGeom := ⟨f.w64.toNat, f.h64.toNat, f.cm.toNat, f.orgE.toInt, f.orgN.toInt⟩

/-- A half that no file may carry: HEADING 13 to 15, REPAIRED or HOLD. -/
def halfBad (h : BitVec 16) : Bool := 13 ≤ halfHeading h || halfRepaired h || halfHold h

/-- The frame origin of a file lies within 1 mm of O in each axis; false while O is unset. -/
def State.frameOk (s : State) (f : PadFile) : Bool :=
  let near (a : BitVec 64) (o : Nat) : Bool := (a.toInt - signed 64 o).natAbs ≤ 10
  match s.frameOrigin with
  | some o => near f.frameX o.1 && near f.frameY o.2.1 && near f.frameZ o.2.2
  | none => false

/-- The header checks of R212 in the classes of Table HIF-4. -/
def State.importChecks (s : State) (d : Desc) (f : PadFile) : Checks where
  range := d.context == 0 && f.fileLen.toNat ≤ d.len.toNat && f.magicOk && f.geom.legal (s.get B.PAD_CAP_CELLS)
    && (argBit d.arg0 0 || !halfBad f.deflt)
  version := f.format == 1
  key := true
  state := s.frameOk f && (argBit d.arg0 0 || s.joinedCtx.isEmpty) && s.pad.importing.isNone
    && (!argBit d.arg0 0 || (s.mapValid && s.pad.geom == some f.geom))

/-- MAP_IMPORT (R212): the header of the file `raw` is checked, then the records follow unit by unit; `hashOk` says whether
BODY_HASH is the SHA-384 of the body (log entry 7). -/
def execMapImport (t : Nat) (it : Item) (raw : List Byte) (hashOk : Bool) (s : State) : Out State :=
  let file := PadFile.ofBytes raw hashOk
  ok ((s.to t).runOp 7 it (fun i => .mapImport t i raw hashOk) ((s.to t).importChecks it.d file)
    (fun s it =>
      let patch := argBit it.d.arg0 0
      let n := file.recs.length
      let s := s.startLong it 7 (if patch then 2 * n else n + 1) 0
      let s := { s with pad := { s.pad with importing := some ⟨it.handle.1, it.handle.2, patch, file, 0⟩ } }
      s.setFlag B.PAD_STS_IMPORT_ACTIVE true))

/-- The cause by which record `k` of a file fails (R212), the lowest of its causes; 0 where it passes. -/
def PadFile.recCause (f : PadFile) (k : Nat) (r : TileRec) : Nat :=
  let rep := (f.recs.take k).any (fun q => q.x == r.x && q.y == r.y)
  if !r.crcOk then 1
  else if r.enc = 1 ∧ runsLen r.runs ≠ 4096 then 2
  else if f.w64.toNat ≤ r.x.toNat ∨ f.h64.toNat ≤ r.y.toNat ∨ rep then 3
  else if ¬ (r.enc = 0 ∧ r.len = 8192) ∧ ¬ (r.enc = 1 ∧ r.len.toNat % 4 = 0) then 4
  else if r.runs.any (fun p => halfBad p.2) then 5
  else 0

/-- The tile index of a record. -/
def PadFile.tileOf (f : PadFile) (r : TileRec) : Nat := r.y.toNat * f.w64.toNat + r.x.toNat

/-- The import is over. -/
def State.endImport (s : State) (l : LongOp) (st : Status) : State :=
  let s := { s with pad := { s.pad with importing := none } }
  (s.setFlag B.PAD_STS_IMPORT_ACTIVE false).endLong l st

/-- The import has met a bad cell word: it fails at the region and cell where the error was first detected (R206). -/
def State.failImport (s : State) (l : LongOp) (o : Nat × Nat) : State :=
  let s := { s with pad := { s.pad with importing := none } }
  (s.setFlag B.PAD_STS_IMPORT_ACTIVE false).endLongAt l o.1 o.2 .failPoison

/-- The switch of a FULL import (R213): the build copy becomes the active map. -/
def State.switchMap (s : State) (f : PadFile) : State :=
  let g := f.geom
  let size := s.get B.PAD_CAP_CELLS * 16
  let base := s.rd64 Reg.PAD_MAP_DRAM
  let deflt := f.deflt
  let tiles := f.recs.foldl (fun (m : Sp Halves) r =>
    Sp.store m [(4096, deflt)] (f.tileOf r) (mergeRuns r.runs)) ([] : Sp Halves)
  let s := { s with pad := { s.pad with
    geom := some g, copy := 1 - s.pad.copy, deflt := deflt, tiles := tiles, slots := [], cache := [], parks := [] } }
  let s := s.freshDir.clearLocks
  let s := s.wr64 Reg.PAD_MAP_DRAM (if s.pad.copy = 1 then base + size else base - size)
  let s := (s.set B.PAD_GEOM_W64 g.w64).set B.PAD_GEOM_H64 g.h64
  let s := s.set B.PAD_CELL_CELL_CM g.cm
  let s := (s.wr Reg.PAD_ORG_E f.orgE.toNat).wr Reg.PAD_ORG_N f.orgN.toNat
  let s := (s.wr Reg.PAD_MAP_VER f.version.toNat).set B.PAD_GROOM_STS_NEXT_TILE 0
  s.setFlag B.PAD_STS_MAP_VALID true

/-- Apply a record of a PATCH (R213): CLASS, SPEED and HEADING from the record, REPAIRED cleared, HOLD and slots kept.
Answers the cells that hold a live slot and whose new class has ENTER 0. -/
def State.patchTile (s : State) (t : Nat) (runs : Halves) : State × Nat :=
  let old := s.halvesOf t
  let cells := (List.range 4096).map (fun o => (1, withHold (halfGround (runAt runs o)) (halfHold (runAt old o))))
  let s := s.setHalves t cells
  let hit := (s.tileSlots t).filter (fun (p : Nat × Slots) =>
    p.2.list.any (s.liveIn t) && !s.classEnter (halfClass (s.halfAt p.1)))
  (s, hit.length)

/-- Judge record `k` of an import: its cause and position, else the hash after the last record. -/
def PadFile.verdict (f : PadFile) (k : Nat) (last : Bool) : Option Nat :=
  let c := match f.recs[k]? with | some r => f.recCause k r | none => 0
  if c ≠ 0 then some (k % 2 ^ 16 + c * 2 ^ 16)
  else if last ∧ !f.hashOk then some (0xFFFF + 6 * 2 ^ 16)
  else none

/-- One unit of a MAP_IMPORT (R213), with the safe point that follows it. -/
def State.importUnit (s : State) (l : LongOp) (bad : Option BadCell) : State :=
  match s.pad.importing with
  | none => s
  | some q =>
    if q.ring ≠ l.ring ∨ q.tag ≠ l.tag then s
    else
      let n := q.file.recs.length
      let next (s : State) (l : LongOp) : State :=
        let s := { s with pad := { s.pad with importing := some { q with at_ := q.at_ + 1 } } }
        let l := { l with done := l.done + 1 }
        if l.done = l.total then (s.wr Reg.PAD_MAP_VER q.file.version.toNat).endImport l .done
        else (s.putLong l).safePoint l
      if q.patch then
        if q.at_ < n then
          match q.file.verdict q.at_ (q.at_ + 1 == n) with
          | some w => s.endImport { l with word := w } .rejRange
          | none => next s l
        else if n = 0 then
          match q.file.verdict 0 true with
          | some w => s.endImport { l with word := w } .rejRange
          | none => (s.wr Reg.PAD_MAP_VER q.file.version.toNat).endImport l .done
        else
          match q.file.recs[q.at_ - n]? with
          | none => s
          | some r =>
            let k := q.file.tileOf r
            s.withLocks (.long l.ring l.tag) [k] (fun s =>
              s.readCellsOr bad (fun s o => s.failImport l o) (fun s =>
                let p := (s.useTile k).patchTile k r.runs
                next p.1 { l with word := (l.word + p.2) % 2 ^ 24 }))
      else if q.at_ < n then
        match q.file.verdict q.at_ false with
        | some w => s.endImport { l with word := w } .rejRange
        | none => next s l
      else
        match q.file.verdict q.at_ true with
        | some w => s.endImport { l with word := w } .rejRange
        | none => (s.switchMap q.file).sendMap.endImport { l with done := l.done + 1 } .done

/-! ### MAP_EXPORT (R214) -/

/-- The buffer MAP_EXPORT needs. -/
def exportNeed (g : PadGeom) (withRes : Bool) : Nat := 128 + g.tiles * (if withRes then 65552 else 8208)

/-- The buffer of a MAP_EXPORT holds the file; not checked without a map. -/
def State.exportFits (s : State) (d : Desc) : Bool :=
  match s.pad.geom with
  | some g => !s.mapValid || exportNeed g (argBit d.arg0 0) ≤ d.len.toNat
  | none => true

/-- MAP_EXPORT (R214). -/
def execMapExport (t : Nat) (it : Item) (s : State) : Out State :=
  let s := s.to t
  let wr := argBit it.d.arg0 0
  ok (s.runOp 7 it (fun i => .mapExport t i)
    { Checks.pass with
      range := it.d.context == 0 && s.exportFits it.d
      state := s.mapValid }
    (fun s it =>
      match s.pad.geom with
      | none => s.finish it 7 .rejState
      | some g =>
        let s := s.startLong it 7 g.tiles 0
        { s with pad := { s.pad with exports := s.pad.exports ++ [⟨it.handle.1, it.handle.2, wr, 0, 0⟩] } }))

/-- The data of a tile record (R211) and its ENC: FULL_WORD with reservations, else RAW or RLE, whichever is shorter.
RAW and RLE carry neither REPAIRED nor HOLD, which no record holds (R212, R213). -/
def State.tileData (s : State) (t : Nat) (withRes : Bool) : Nat × List Byte :=
  if withRes then (2, ((List.range 4096).map (fun o => leBytes 16 (s.cellWord (t * 4096 + o)))).flatten)
  else
    let runs := mergeRuns ((s.halvesOf t).map (fun p => (p.1, halfGround p.2)))
    if 4 * runs.length < 8192 then (1, (runs.map (fun p => leBytes 4 (p.2.toNat + (p.1 - 1) * 2 ^ 16))).flatten)
    else (0, (runs.map (fun p => ((List.range p.1).map (fun _ => leBytes 2 p.2.toNat)).flatten)).flatten)

/-- A tile record (Table PAD-8). -/
def State.tileRecord (s : State) (g : PadGeom) (t : Nat) (withRes : Bool) : List Byte :=
  let (enc, data) := s.tileData t withRes
  leBytes 2 (t % g.w64) ++ leBytes 2 (t / g.w64) ++ leBytes 4 enc ++ leBytes 4 data.length
    ++ leBytes 4 (crc32c data).toNat ++ data

/-- The header of an exported file (Table PAD-7); `hash` is the SHA-384 of the body. -/
def State.exportHeader (s : State) (g : PadGeom) (len : Nat) (hash : List Byte) : List Byte :=
  [0x44#8, 0x5A#8, 0x50#8, 0x4D#8] ++ leBytes 2 0x80 ++ leBytes 2 1 ++ leBytes 2 g.w64 ++ leBytes 2 g.h64
    ++ leBytes 2 g.cm ++ leBytes 2 s.pad.deflt.toNat ++ leBytes 4 (unsigned 32 g.orgE) ++ leBytes 4 (unsigned 32 g.orgN)
    ++ (let o := s.frameOrigin.getD (0, 0, 0); leBytes 8 o.1 ++ leBytes 8 o.2.1 ++ leBytes 8 o.2.2)
    ++ leBytes 4 g.tiles ++ leBytes 4 len ++ hash.take 48 ++ leBytes 4 (s.rd Reg.PAD_MAP_VER) ++ leBytes 20 0

/-- The MAP_EXPORT of a handle. -/
def State.exportOf? (s : State) (l : LongOp) : Option Exporting :=
  s.pad.exports.find? (fun q => q.ring == l.ring && q.tag == l.tag)

/-- The MAP_EXPORT of a handle is replaced, or over. -/
def State.setExport (s : State) (l : LongOp) (q : Option Exporting) : State :=
  { s with pad := { s.pad with
      exports := s.pad.exports.filter (fun x => !(x.ring == l.ring && x.tag == l.tag)) ++ q.toList } }

/-- MAP_EXPORT writes the record of its next tile, and the header after the last. -/
def State.exportTile (s : State) (l : LongOp) (q : Exporting) (g : PadGeom) (hash : List Byte) : State :=
  let s := s.groomAged q.at_
  let rec_ := s.tileRecord g q.at_ q.withRes
  let ptr := l.start.ptr.toNat
  let s := s.writeHost (ptr + 128 + q.wrote) rec_
  let q := { q with at_ := q.at_ + 1, wrote := q.wrote + rec_.length }
  let l := { l with done := l.done + 1 }
  if l.done = l.total then
    let len := 128 + q.wrote
    let s := s.writeHost ptr (s.exportHeader g len hash)
    (s.setExport l none).endLong { l with word := len } .done
  else ((s.setExport l (some q)).putLong l).safePoint l

/-- One unit of a MAP_EXPORT (R214): a tile, read under its lock; a bad cell word ends it FAIL_POISON (R206). -/
def State.exportUnit (s : State) (l : LongOp) (hash : List Byte) (bad : Option BadCell) : State :=
  match s.exportOf? l, s.pad.geom with
  | some q, some g =>
    s.withLocks (.long l.ring l.tag) [q.at_] (fun s =>
      s.readCellsOr bad (fun s o => (s.setExport l none).endLongAt l o.1 o.2 .failPoison)
        (fun s => s.exportTile l q g hash))
  | _, _ => s

/-! ### Ticks and groom -/

/-- PAD_TICK: PAD_TICK_ABS follows the tick that has begun (R200); GROOM_LATE where the pass has left a tile that is two
periods old (R208). -/
def execPadTick (t : Nat) (s : State) : Out State :=
  let s := s.to t
  if !s.runs 7 blkGroom then ok s
  else
    let s := s.wr Reg.PAD_TICK_ABS s.tickAbs
    match s.pad.geom with
    | some g => ok (if s.rgnState 7 = rsRun ∧ s.mapValid then s.lateAt (s.oldestAge g) else s)
    | none => ok s

/-- The groom block may visit its next tile: a pass begins once a period (R207). -/
def State.groomDue (s : State) : Bool :=
  s.pad.groomNext != 0 || (match s.pad.groomFrom with
    | some f => decide (s.param P.GROOM_PERIOD ≤ idxDiff s.tickAbs f)
    | none => true)

/-- The groom block visits tile `k` (R207); its pass goes on with the next tile, and reports as it ends. -/
def State.groomVisit (s : State) (g : PadGeom) (k : Nat) (bad : Option BadCell) : State :=
  let age := s.tileAge k
  let s := if k = 0 then { s with pad := { s.pad with groomFrom := some s.tickAbs } } else s
  let s := match bad with | some b => s.repairCell b | none => s
  let s := s.groomTile k
  let high := max s.pad.groomMax age
  let next := if k + 1 < g.tiles then k + 1 else 0
  let s := { s with pad := { s.pad with groomNext := next, groomMax := if next = 0 then 0 else high } }
  let s := s.set B.PAD_GROOM_STS_NEXT_TILE next
  if next = 0 then s.set B.PAD_GROOM_STS_MAX_AGE (min high 0xFFFF) else s

/-- GROOM_TILE: the groom block visits the next tile, once it holds its lock (R207, R208); `bad` where a cell word it reads
fails. -/
def execGroomTile (t : Nat) (bad : Option BadCell) (s : State) : Out State :=
  let s := s.to t
  match s.pad.geom with
  | none => ok s
  | some g =>
    if s.rgnState 7 ≠ rsRun ∨ !s.runs 7 blkGroom ∨ !s.mapValid ∨ !s.groomDue then ok s
    else
      let k := s.pad.groomNext
      ok (s.withLocks .groom [k] (fun s => s.groomVisit g k bad))

end Sys2Proof.Machine
end

