-- ==== Sys2Proof/Machine/Byl.lean ====
section
/-!
DEFINITION. The redundant pair: hitch line, token, Biyth link, heartbeats, takeover, handover (file 21).
-/

namespace Sys2Proof.Machine

/-! ### Roles and events (R479, R494, R504) -/

/-- SOLO, COLD, HOT, ACTIVE (Table BYL-1). -/
abbrev roleSolo : Nat := 0
/-- COLD. -/
abbrev roleCold : Nat := 1
/-- HOT. -/
abbrev roleHot : Nat := 2
/-- ACTIVE. -/
abbrev roleActive : Nat := 3

/-- The role of the chip. -/
def State.role (s : State) : Nat := s.get B.BYL_PAIR_STS_ROLE

/-- Post a BYL event (R504): code, RESULT_1. -/
def State.bylEvent (s : State) (code r1 : Nat) : State := (s.fire 68).event .allot 15 code 0 r1 0

/-- Enter a role; a change posts ROLE. -/
def State.enterRole (s : State) (r : Nat) : State :=
  let old := s.role
  let s := s.set B.BYL_PAIR_STS_ROLE r
  let s := if r = roleHot ∨ r = roleActive then { s with byl := { s.byl with begun := true } } else s
  if old = r then s else s.bylEvent 1 (r + s.get B.BYL_PAIR_STS_COLD_REASON * 2 ^ 8)

/-- The link is UP. -/
def State.bylUp (s : State) : Bool := s.get B.BYL_LINK_STS_STATE == 3

/-- The straps of the pair differ. -/
def State.strapsDiffer (s : State) : Bool :=
  !s.flag B.BYL_PAIR_STS_STRAP_ERR &&
  (match s.byl.partner with
   | some h => h.senior != s.flag B.BYL_PAIR_STS_SENIOR
   | none => true)

/-- Two positions in 0.1 mm lie within 1 mm of each other; or neither chip has one. -/
def within1mm (a b : Option (Int × Int × Int)) : Bool :=
  match a, b with
  | some (x, y, z), some (u, v, w) => sq (x - u) + sq (y - v) + sq (z - w) ≤ 100
  | none, none => true
  | _, _ => false

/-- The reference position in force. -/
def State.ownRef (s : State) : Option (Int × Int × Int) :=
  if s.refValid then
    some (signed 64 (s.param64 P.REF_X_LO), signed 64 (s.param64 P.REF_Y_LO), signed 64 (s.param64 P.REF_Z_LO))
  else none

/-- The frame origin. -/
def State.ownOrigin (s : State) : Option (Int × Int × Int) :=
  s.frameOrigin.map (fun (x, y, z) => (signed 64 x, signed 64 y, signed 64 z))

/-- Condition 6 of R494: the reference position and O equal the active's within 1 mm. -/
def State.refsAgree (s : State) : Bool := within1mm s.byl.ref s.ownRef && within1mm s.byl.origin s.ownOrigin

/-- The conditions of R494 in order. A link that has left UP leaves a HOT standby HOT until that is settled (R497). -/
def State.hotConditions (s : State) : List Bool :=
  [(s.bylUp || (s.byl.linkLeft.isSome && s.role == roleHot))
     && (!s.byl.lost || (s.role == roleHot && !s.byl.lineIn.isHeld)),
   !s.flag B.BYL_PAIR_STS_PAIR_VERSION_MISMATCH,
   s.byl.resync.done,
   decide ((signed 32 (s.rd Reg.BYL_TIME_DEV)).natAbs ≤ s.param P.TIME_DEV_MAX),
   s.byl.keysOk && s.joinedCtx.all (fun n => match (s.airCtx n).key with | some k => s.keyLive k | none => false),
   s.refsAgree,
   s.strapsDiffer]

/-- A standby is HOT while every condition of R494 holds and it is not forced COLD (R494, Table BYL-11). -/
def State.bylEval (s : State) : State :=
  if s.role = roleCold ∨ s.role = roleHot then
    let why := match s.hotConditions.findIdx? (fun c => !c) with
      | some i => i + 1
      | none => 0
    let s := s.set B.BYL_PAIR_STS_COLD_REASON why
    s.enterRole (if why = 0 ∧ !s.flag B.BYL_PAIR_CFG_FORCE_COLD then roleHot else roleCold)
  else s

/-- The active declares the pair broken (R243, R497): commits that await an acknowledgement are done, RESULT_2[31] set. -/
def State.pairBroken (s : State) : State :=
  if s.role = roleActive then
    let l := s.pad.sync
    let s := { s with pad := { s.pad with broken := true, sync := [] } }
    (l.foldl (fun (s : State) (w : SyncWait) => s.commitDone w.item { w.res with r2 := w.res.r2 + 2 ^ 31 }) s).reportSweeps
  else s

/-! ### The hitch line and the token (R481 to R484) -/

/-- The pattern the chip drives while it holds or claims the token. -/
def State.ownHeld (s : State) : Hitch := if s.flag B.BYL_PAIR_STS_SENIOR then .heldSenior else .heldJunior

/-- HITCH_IN has shown no HELD pattern for `c` cycles. -/
def State.quietFor (s : State) (c : Nat) : Bool :=
  match s.byl.quietAt with
  | some q => decide (q + c ≤ s.cyc)
  | none => false

/-- HITCH_IN has shown ABSENT for `c` cycles. -/
def State.absentFor (s : State) (c : Nat) : Bool :=
  match s.byl.absentAt with
  | some q => decide (q + c ≤ s.cyc)
  | none => false

/-- HITCH_IN shows `pat` from now on; when it became quiet, absent or free is kept. -/
def State.takeLine (s : State) (pat : Hitch) : State :=
  let old := s.byl.lineIn
  let s : State := { s with byl := { s.byl with
    lineIn := pat
    quietAt := if pat.isHeld then none else if old.isHeld then some s.cyc else s.byl.quietAt
    absentAt := if pat == Hitch.absent then (if old == Hitch.absent then s.byl.absentAt else some s.cyc) else none
    freedAt := if old.isHeld ∧ !pat.isHeld then some s.cyc else s.byl.freedAt } }
  let s := s.set B.BYL_PAIR_STS_PARTNER_LINE (if pat.isHeld then 2 else if pat == Hitch.present then 1 else 0)
  s.setFlag B.BYL_PAIR_STS_PARTNER_SENIOR (pat == Hitch.heldSenior)

/-- HITCH_IN_CHANGE: what HITCH_IN has shown, where it is a pattern (R481). -/
def execHitchInChange (t : Nat) (seen : HitchIn) (s : State) : Out State :=
  let s := s.to t
  let old := s.byl.lineIn
  match seen.pattern with
  | some pat =>
    if !s.runs 15 blkHitch then ok s
    else
      let s := s.takeLine pat
      let s := if pat == Hitch.absent ∧ old != Hitch.absent ∧ s.bylUp ∧ s.role ≠ roleSolo then
        (s.setFlag B.BYL_PAIR_STS_HITCH_FAULT true).bylEvent 4 0 else s
      ok s.bylEval
  | none => ok s

/-- A claim begins (R482): HELD is driven. -/
def State.beginClaim (s : State) (w : ClaimFor) : State :=
  { s with byl := { s.byl with lineOut := s.ownHeld, claim := some (s.cyc, w) } }

/-- A claim may begin: the line has been quiet for 20 µs, none is in progress, and the straps are sound. -/
def State.mayClaim (s : State) : Bool :=
  s.byl.claim.isNone && !s.flag B.BYL_PAIR_STS_STRAP_ERR && s.quietFor (20 * cycUs) && s.runs 15 blkHitch

/-- CONFIG goes to every enabled head (R479, R299). -/
def State.sendConfig (s : State) (active : Bool) : State :=
  s.airSent (s.headsOn.map (s.headConfig active))

/-- Every context is FREE: the chip runs as a fresh base (R500). -/
def State.freshBase (s : State) : State :=
  let s := s.joinedCtx.foldl (fun (s : State) (n : Nat) =>
    let x := s.airCtx n
    let s := ((s.dropKey? x.key).dropKey? (x.nextKey.map Prod.fst)).dropKey? x.oldKey
    let s := s.setAirCtx n AirCtx.reset
    let s := (s.wr (Reg.AIR_CTX_STS n) 0).wr (Reg.AIR_CTX_SESS n) 0
    ((s.padLeave n).fixClear n).gaitLeave n) s
  (s.reportHeads).reportOverload

/-- Windows and bursts of the present and the next superframe are loaded (R498). -/
def State.loadBoth (s : State) : State :=
  if s.air.counting ∧ s.runs 9 blkSched then
    let a := s.air.sent
    let s := s.loadSuperframe s.sfn
    let b := s.air.sent
    let s := s.loadSuperframe ((s.sfn + 1) % 2 ^ 48)
    { s with air := { s.air with sent := a ++ b ++ s.air.sent } }
  else s

/-- A takeover is counted and posted. -/
def State.tookOver (s : State) (cold discs : Bool) : State :=
  let s := (s.count Reg.BYL_CNT_TAKEOVER).setFlag B.BYL_PAIR_STS_TAKEOVER true
  s.bylEvent 2 ((if cold then 1 else 0) + (if discs then 2 else 0))

/-- The chip holds the token: it is ACTIVE, and takes the heads (R482, R498 to R500). A new active starts each downlink
FCNT at the last mirrored value plus 1,024 (R492). -/
def State.gotToken (s : State) (w : ClaimFor) : State :=
  let s := (s.setFlag B.BYL_PAIR_STS_TOKEN true).set B.BYL_PAIR_STS_COLD_REASON 0
  let s := { s with byl := { s.byl with claim := none } }
  let s := s.enterRole roleActive
  match w with
  | .start => s.sendConfig true
  | .reclaim => s.sendConfig true
  | .cold => ((s.freshBase.sendConfig true).loadBoth).tookOver true false
  | .takeover discs =>
    let s := s.joinedCtx.foldl (fun (s : State) (n : Nat) =>
      let x := s.airCtx n
      s.setAirCtx n { x with key := x.key.map (fun (k : AirKey) => { k with down := k.down + 1024 }) }) s
    let s := (s.sendConfig true).loadBoth
    let s := { s with byl := { s.byl with linkLeft := none, resync := Resync.reset } }
    let s := if discs then
        (s.joinedCtx.filter (fun n => s.ctxState n == ctxAwake)).foldl (fun (s : State) (n : Nat) => s.discOpen n) s
      else s
    s.tookOver false discs

/-- TOKEN_CLAIM_CHECK: 20 µs after HELD was driven, HITCH_IN is read again (R482). -/
def execTokenClaimCheck (t : Nat) (s : State) : Out State :=
  let s := s.to t
  match s.byl.claim with
  | none => ok s
  | some (c, w) =>
    if s.cyc < c + 20 * cycUs ∨ !s.runs 15 blkHitch then ok s
    else if !s.byl.lineIn.isHeld then ok (s.gotToken w)
    else if s.byl.lineIn = s.ownHeld then
      ok (({ s with byl := { s.byl with lineOut := .present, claim := none } }.setFlag
        B.BYL_PAIR_STS_STRAP_ERR true).bylEvent 8 0)
    else if s.flag B.BYL_PAIR_STS_SENIOR then ok (s.gotToken w)
    else ok { s with byl := { s.byl with lineOut := .present, claim := none } }

/-- The partner's last heartbeat reported ACTIVE, over a link that is UP. -/
def State.partnerActive (s : State) : Bool := s.bylUp && (match s.byl.last with | some b => b.role == 3 | none => false)

/-- CLAIM_WAIT_EXPIRY: a chip in COLD at its start has waited without a holder (R484). -/
def execClaimWaitExpiry (t : Nat) (s : State) : Out State :=
  let s := s.to t
  let senior := s.flag B.BYL_PAIR_STS_SENIOR
  let waited := if senior then s.quietFor (s.param P.CLAIM_WAIT_S * cycMs) else s.absentFor (s.param P.CLAIM_WAIT_J * cycMs)
  if s.role = roleCold ∧ !s.byl.begun ∧ waited ∧ !s.partnerActive ∧ s.mayClaim then ok (s.beginClaim .start) else ok s

/-- The chip releases the token (R483): the line shows PRESENT, CONFIG carries ACTIVE 0, and it is COLD, or HOT after a
handover. -/
def State.releaseToken (s : State) (hot : Bool) : State :=
  let s := { s with byl := { s.byl with lineOut := .present, resync := { Resync.reset with done := hot } } }
  let s := (s.setFlag B.BYL_PAIR_STS_TOKEN false).sendConfig false
  (s.set B.BYL_PAIR_STS_COLD_REASON (if hot then 0 else 3)).enterRole (if hot then roleHot else roleCold)

/-- The partner's last heartbeat reported HOT. -/
def State.partnerHot (s : State) : Bool := match s.byl.last with | some b => b.role == 2 | none => false

/-- TOKEN_RELEASE: the active releases the token on a case of Table BYL-3 that its state shows: the next superframe's
beacon not loaded by 60 ms, the beacon key lost, or no head UP for 20 ms while the partner reports one (`partnerHeads`:
no frame of Table BYL-5 carries that report; log entry 142). -/
def execTokenRelease (t : Nat) (partnerHeads : Bool) (s : State) : Out State :=
  let s := s.to t
  let unloaded := s.air.counting && decide (s.air.sfStart + 60000000 ≤ s.devNs)
    && (s.headsUp.isEmpty || s.air.builtFor != some ((s.sfn + 1) % 2 ^ 48))
  let lost := s.flag B.AIR_STS_BEACON_NOKEY
  let noHead := partnerHeads && s.headsUp.isEmpty && decide (s.byl.headsAt + 20 * cycMs ≤ s.cyc)
  if s.role = roleActive ∧ s.runs 15 blkHitch ∧ s.partnerHot ∧ (unloaded ∨ lost ∨ noHead) then ok (s.releaseToken false)
  else ok s

/-- TX_REPORT: a head reports SENT, LATE, NOT_ACTIVE or NO_BUFFER in ARG[10:9] for a TX_BURST (R297, R299). NOT_ACTIVE
displaces an active chip (R483). -/
def execTxReport (t : Nat) (head : Fin 8) (pkt : List Byte) (s : State) : Out State :=
  let s := s.to t
  let h := head.val
  match s.takePacket h pkt 0x82 with
  | (s, some p) =>
    let o := bitsOf p.arg 10 9
    let s := s.setFlag (B.AIR_HEAD_STS_ACTIVE_HERE h) (o != 2)
    if o = 1 then ok (s.count (Reg.AIR_HEAD_CNT_TX_LATE h))
    else if o = 2 ∧ s.role = roleActive then
      let s := (s.setFlag B.BYL_PAIR_STS_DOUBLE_ACTIVE true).bylEvent 5 0
      if s.partnerHot then ok (s.releaseToken false) else ok s
    else ok s
  | (s, none) => ok s

/-! ### The link (R486 to R490) -/

/-- The pair secret: an HKDF secret with DERIVE bound to BYL (R488). -/
def State.pairSecret? (s : State) : Option KeySlot := s.keyFor? (s.get B.BYL_PAIR_CFG_KEY_SLOT) 4 2

/-- PAIR_EPOCH of the running firmware (R462). -/
def State.pairEpoch (s : State) : BitVec 8 := (s.chip.fw.map Image.pairEpoch).getD 0

/-- The interface epoch of an image as one word: major over minor. -/
def Image.epochWord (i : Image) : BitVec 32 := i.major ++ i.minor

/-- The HELLO of the chip with a nonce (R488, R462); a chip without the pair secret names KEY_ID 0 (DESIGN CHOICE, log
entry 142). -/
def State.ownHello (s : State) (nonce : BitVec 128) : Hello where
  uid := s.chip.part.otp.uid
  nonce := nonce
  senior := s.flag B.BYL_PAIR_STS_SENIOR
  epoch := s.pairEpoch
  fw := (s.chip.fw.map Image.epochWord).getD 0
  bundle := (s.chip.gb.map Image.epochWord).getD 0
  svc := (s.chip.fw.map Image.version).getD 0
  keyId := (s.pairSecret?.map (fun (x : KeySlot) => x.attr.id)).getD 0

/-- HELLO is sent with a NONCE that TACK draws: its blocks go out on the lanes. -/
def State.sendHello (s : State) : State :=
  let a := s.freeVal
  let s := s.tookFree
  let b := s.freeVal
  let h := s.ownHello (a ++ b)
  { s.tookFree with byl := { s.byl with
    nonce := (a ++ b).toNat, partner := none, authFail := none, sent := [.hello h]
    line := linkBlocks (s.get B.BYL_LINK_STS_WIDTH) h.frame } }

/-- The lanes of a mask deskew: none lags another of them by more than 20 ns. -/
def deskewed (lanes : List Nat) (skew : List Nat) : Bool :=
  lanes.all (fun i => lanes.all (fun j => skew.getD i 0 ≤ skew.getD j 0 + 20))

/-- BYL_LINK_TRAINED: what each lane has brought within the 1 ms of training, how much each lags in ns, and the one-way
delay in ns that training has measured. The link trains at the widest width whose lanes all lock and deskew (R486). -/
def execBylLinkTrained (t : Nat) (lanes : List (List (BitVec 130))) (skew : List Nat) (delay : Nat) (s : State) : Out State :=
  let s := s.to t
  let lock (k : Nat) : Bool := laneLocks 0 (lanes.getD k [])
  let fits (l : List Nat) : Bool := l.all lock && deskewed l skew
  let width := if fits [0, 1, 2, 3] then 3 else if fits [0, 1] then 2 else if fits [0] then 1 else 0
  if s.role = roleSolo ∨ !s.runs 15 blkLanes ∨ 2 ≤ s.get B.BYL_LINK_STS_STATE then ok s
  else
    let s := s.set B.BYL_LINK_STS_LANES_OK ((List.range 4).foldl (fun m k => if lock k then m + 2 ^ k else m) 0)
    if width = 0 then ok (s.set B.BYL_LINK_STS_STATE 1)
    else
      let s := { s with byl := { s.byl with rxScr := scrSeeds, rxChunks := [], delay := delay } }
      ok (((s.set B.BYL_LINK_STS_WIDTH width).set B.BYL_LINK_STS_STATE 2).sendHello)

/-- The pair secret is the one the partner's HELLO names. -/
def State.secretIs (s : State) (id : BitVec 32) : Bool := match s.pairSecret? with | some x => x.attr.id == id | none => false

/-- The partner's HELLO is taken: its UID is reported and the link key derived (R488). -/
def State.takeHello (s : State) (h : Hello) : State :=
  let s := (List.range 4).foldl (fun (s : State) i =>
    s.wr (Reg.BYL_PARTNER_UID + 4 * i) (h.uid.toNat / 2 ^ (32 * i) % 2 ^ 32)) s
  { s with byl := { s.byl with partner := some h, linkKey := s.secretIs h.keyId, sent := [.confirm] } }

/-- What a HELLO settles of the pair (R462, R503). -/
def State.judgeHello (s : State) (h : Hello) : State :=
  let differ := h.epoch != s.pairEpoch
  let s := s.setFlag B.BYL_PAIR_STS_PAIR_VERSION_MISMATCH differ
  let s := if differ then s.bylEvent 6 h.epoch.toNat else s
  let s := if h.senior = s.flag B.BYL_PAIR_STS_SENIOR ∧ !s.flag B.BYL_PAIR_STS_STRAP_ERR then
    (s.setFlag B.BYL_PAIR_STS_STRAP_ERR true).bylEvent 8 0 else s
  s.bylEval

/-- BYL_HELLO: the partner's identity and nonce; the link key is derived (R488, R462, R503). -/
def execBylHello (t : Nat) (rx : BylRx) (s : State) : Out State :=
  let u := ((s.to t).takeFrame rx 0x01).1
  match ((s.to t).takeFrame rx 0x01).2.bind BylFrame.hello with
  | some h => if u.get B.BYL_LINK_STS_STATE = 2 then ok ((u.takeHello h).judgeHello h) else ok u
  | none => ok u

/-- Post LINK with BYL_LINK_STS. -/
def State.linkEvent (s : State) : State := s.bylEvent 3 (s.rd Reg.BYL_LINK_STS)

/-- The active sends the whole state of Table BYL-7 to a standby that resynchronises (R495). -/
def State.sendAll (s : State) : State :=
  if s.mirrorUp then
    let s := (s.bylSend (.config 3)).sendMap
    s.joinedCtx.foldl (fun (s : State) (n : Nat) => (s.bylSend (.session n)).bylSend (.gait n)) s
  else s

/-- The first multiple of 10 ms of device time after the present. -/
def State.nextBeat (s : State) : Nat := (s.devNs / 10000000 + 1) * 10000000

/-- NONCE_senior, then NONCE_junior. -/
def State.bothNonces (s : State) (h : Hello) : List Byte :=
  let own := leBytes 16 s.byl.nonce
  let his := leBytes 16 h.nonce.toNat
  if s.flag B.BYL_PAIR_STS_SENIOR then own ++ his else his ++ own

/-- The link is UP (R488). A return to UP makes a standby COLD and starts a resynchronisation (R495, R497). -/
def State.linkUp (s : State) : State :=
  let s := s.set B.BYL_LINK_STS_STATE 3
  let s := { s with byl := { s.byl with
    tx := [], txNext := [], rxNext := [], ackAt := [], last := none, lastSeq := none, misses := 0, lost := false
    dueAt := s.nextBeat, linkLeft := none, resync := Resync.reset } }
  ((s.linkEvent).sendAll).bylEval

/-- A CONFIRM fails: the link is held in AUTH (R488). -/
def State.confirmFails (s : State) : State :=
  { s with byl := { s.byl with authFail := some s.cyc } }.setFlag B.BYL_PAIR_STS_AUTH_FAIL true

/-- BYL_CONFIRM: the partner's CONFIRM verifies under the link key and carries both nonces, or AUTH_FAIL is set (R488). -/
def execBylConfirm (t : Nat) (rx : BylRx) (s : State) : Out State :=
  let u := ((s.to t).takeFrame rx 0x02).1
  match ((s.to t).takeFrame rx 0x02).2, u.byl.partner with
  | some f, some h =>
    if u.get B.BYL_LINK_STS_STATE ≠ 2 ∨ u.byl.authFail.isSome then ok u
    else if u.byl.linkKey ∧ (rx.opens.map (fitBytes f.len)) = some (u.bothNonces h) then ok u.linkUp
    else ok u.confirmFails
  | _, _ => ok u

/-- HELLO_RETRY: 1 s after a CONFIRM failed, a new HELLO (R488). -/
def execHelloRetry (t : Nat) (s : State) : Out State :=
  let s := s.to t
  match s.byl.authFail with
  | some c => if c + cycS ≤ s.cyc ∧ s.get B.BYL_LINK_STS_STATE = 2 ∧ s.runs 15 blkLanes then ok s.sendHello else ok s
  | none => ok s

/-- The link leaves UP (R486, R490, R497): unacknowledged frames are discarded, BYL erases the link key, an active
declares the pair broken; what a standby becomes is settled later. A link that goes back to AUTH stays trained. -/
def State.linkDown (s : State) (st : Nat) : State :=
  let s := s.set B.BYL_LINK_STS_STATE st
  let s := if st = 2 then s else (s.set B.BYL_LINK_STS_WIDTH 0).set B.BYL_LINK_STS_LANES_OK 0
  let s := { s with byl := { s.byl with
    tx := [], txNext := [], rxNext := [], ackAt := [], linkKey := false, partner := s.byl.partner
    linkLeft := some s.cyc } }
  (s.pairBroken.linkEvent).bylEval

/-- BYL_LINK_LOSS: the latest blocks of a lane in use; sixteen sync-header errors among 1,024 take the link out of UP, and
it retrains (R486). -/
def execBylLinkLoss (t : Nat) (lane : Fin 4) (blocks : List (BitVec 130)) (s : State) : Out State :=
  let s := s.to t
  if s.bylUp ∧ s.runs 15 blkLanes ∧ lane.val < widthLanes (s.get B.BYL_LINK_STS_WIDTH) ∧ laneLost blocks then
    ok (s.linkDown 1)
  else ok s

/-- A zeroise erases the link key: the link leaves UP for AUTH, and AUTH_FAIL is set (R503). -/
def State.loseLinkKey (s : State) : State :=
  if s.bylUp then (s.linkDown 2).confirmFails else { s with byl := { s.byl with linkKey := false } }

/-- BYL_RESEND_TIMEOUT: ACK of a class (1 to 3) has not advanced for 50 µs; `ack` is what the partner's ACK_ONLY frames
have acknowledged (their header names class 0 alone, so which class each is for is the operand; log entry 142). At most 256 frames are unacknowledged (R490). -/
def execBylResendTimeout (t : Nat) (class_ : Fin 4) (ack : Option Nat) (s : State) : Out State :=
  let s := s.to t
  let c := class_.val
  let s := s.takeAck c ack
  let l := (Sp.at s.byl.tx [] c).take 256
  if l.isEmpty ∨ !s.bylUp ∨ !s.runs 15 blkLanes ∨ s.cyc < Sp.at s.byl.ackAt 0 c + 50 * cycUs then ok s
  else
    let s := s.countBy Reg.BYL_CNT_RESEND l.length
    ok { s with byl := { s.byl with sent := l.map Prod.snd, ackAt := Sp.store s.byl.ackAt 0 c s.cyc } }

/-! ### Heartbeats (R496, R497) -/

/-- The heartbeat the chip sends now (Table BYL-6). -/
def State.beat (s : State) (yield : Bool) : Beat :=
  { dev := BitVec.ofNat 64 s.devNs, sfn := BitVec.ofNat 48 s.sfn, role := BitVec.ofNat 2 s.role, yield := yield
    sync := s.param P.PAIR_SYNC_COMMIT == 1, stopped := s.stopped, quality := BitVec.ofNat 2 s.qualityNow
    schedId := BitVec.ofNat 16 (s.get B.AIR_SCHED_SCHED_ID), mseq := BitVec.ofNat 32 (s.rd Reg.BYL_MSEQ_APPLIED) }

/-- HEARTBEAT_SEND: at every whole multiple of 10 ms of device time. -/
def execHeartbeatSend (t : Nat) (s : State) : Out State :=
  let s := s.to t
  let k := s.devNs / 10000000
  if !s.bylUp ∨ !s.runs 15 blkLanes ∨ k = s.byl.beatSent then ok s
  else ok ({ s with byl := { s.byl with beatSent := k } }.bylSend (.heartbeat (s.beat false)))

/-- BYL_TIME_DEV: the partner's DEVICE_TIME plus the link delay minus the local receive time (R496). -/
def State.timeDev (s : State) (dev delay : Nat) : BitVec 32 :=
  BitVec.ofInt 32 (clampInt (-(2 ^ 31)) (2 ^ 31 - 1) ((dev : Int) + (delay : Int) - (s.devNs : Int)))

/-- A partner that reports ACTIVE ends a handover that has yielded (R501). -/
def State.handoverDone (s : State) : State :=
  match s.byl.handover with
  | some h => if h.yielded.isSome then
      ({ s with byl := { s.byl with handover := none } }).finish h.item 0 .done else s
  | none => s

/-- A standby takes the superframe number of its active partner (R272). -/
def State.takeSfn (s : State) (b : Beat) : State :=
  if s.standby ∧ b.role = 3 then
    { s.wr64 Reg.AIR_SF_NUM b.sfn.toNat with air := { s.air with
      counting := true
      sfStart := if s.air.counting then s.air.sfStart else s.devNs / 100000000 * 100000000 } }
  else s

/-- What the active learns of its partner's role: a COLD partner, or one of another version, breaks the pair. -/
def State.judgePartner (s : State) (b : Beat) : State :=
  if s.role = roleActive then
    (if b.role = 1 ∨ s.flag B.BYL_PAIR_STS_PAIR_VERSION_MISMATCH then s.pairBroken
     else if b.role = 2 then { s with pad := { s.pad with broken := false } } else s)
  else s

/-- A heartbeat that is taken (R496). -/
def State.takeBeat (s : State) (b : Beat) : State :=
  let s := s.setWord Reg.BYL_TIME_DEV (s.timeDev b.dev.toNat s.byl.delay)
  let s := { s with byl := { s.byl with
    last := some b, misses := 0, lost := false, dueAt := s.nextBeat
    begun := s.byl.begun || b.role == 3 } }
  let s := (s.takeSfn b).judgePartner b
  let s := if b.role = 3 then s.handoverDone else s
  s.bylEval

/-- HEARTBEAT_RECEIVED (R490, R491, R496). -/
def execHeartbeatReceived (t : Nat) (rx : BylRx) (s : State) : Out State :=
  ok ((s.to t).accept0 rx 0x03 (fun s p => s.takeBeat (Beat.ofBytes p)))

/-- HEARTBEAT_MISS: a heartbeat has not arrived within 2 ms after it was due; the third in a row declares heartbeat loss
(R497). -/
def execHeartbeatMiss (t : Nat) (s : State) : Out State :=
  let s := s.to t
  if (!s.bylUp ∧ s.byl.linkLeft.isNone) ∨ s.devNs < s.byl.dueAt + 2000000 ∨ s.role = roleSolo ∨ s.byl.lost ∨ !s.runs 15 blkLanes then ok s
  else
    let k := s.byl.misses + 1
    let s := (s.count Reg.BYL_CNT_HB_MISS)
    let s := { s with byl := { s.byl with misses := k, dueAt := s.byl.dueAt + 10000000 } }
    if k < 3 then ok s
    else ok ({ s with byl := { s.byl with lost := true } }.pairBroken).bylEval

/-! ### Takeover (R498 to R500) -/

/-- Whether a takeover opens the discs of AWAKE contexts (R499). -/
def State.takeoverDiscs (s : State) : Bool :=
  match s.byl.last with
  | some b => !b.yield && (!b.sync || (match s.byl.linkLeft, s.byl.freedAt with
      | some a, some f => decide (a + cycMs < f)
      | _, _ => false))
  | none => true

/-- The partner's last heartbeat carried YIELD. -/
def State.partnerYields (s : State) : Bool := match s.byl.last with | some b => b.yield | none => false

/-- TAKEOVER: a HOT standby claims the token on heartbeat loss with no holder on the line, or on YIELD (R497, R498,
R501). -/
def execTakeover (t : Nat) (s : State) : Out State :=
  let s := s.to t
  if s.role = roleHot ∧ (s.byl.lost ∨ s.partnerYields) ∧ !s.byl.lineIn.isHeld ∧ s.mayClaim then
    ok (s.beginClaim (.takeover s.takeoverDiscs))
  else ok s

/-- COLD_TAKEOVER: a COLD standby, its partner gone for CLAIM_WAIT_S, stops the fleet and claims the token (R500). -/
def execColdTakeover (t : Nat) (s : State) : Out State :=
  let s := s.to t
  if s.role = roleCold ∧ s.flag B.BYL_PAIR_CFG_COLD_TAKEOVER ∧ (s.byl.lost ∨ !s.bylUp)
      ∧ s.absentFor (s.param P.CLAIM_WAIT_S * cycMs) ∧ s.mayClaim then
    ok (s.requestStop.beginClaim .cold)
  else ok s

/-! ### Planned handover (R501) -/

/-- PAIR_HANDOVER: it acts when fetched; the active yields 55 ms after the next superframe start. -/
def execPairHandover (t : Nat) (it : Item) (s : State) : Out State :=
  let s := s.to t
  ok (s.runOp 0 it (fun i => .pairHandover t i)
    { Checks.pass with state := s.role == roleActive && s.partnerHot && s.byl.handover.isNone }
    (fun s it => { s with byl := { s.byl with handover := some ⟨it, s.nextStart, none⟩ } }))

/-- The token is yielded: the YIELD heartbeat goes out, the token is released to a partner that is ready, and the COMMITs
held back complete REJ_STATE. -/
def State.yieldToken (s : State) : State :=
  let s := s.bylSend (.heartbeat (s.beat true))
  let s := { s with byl := { s.byl with keysOk := true, ref := s.ownRef, origin := s.ownOrigin } }
  let held := s.pad.sweeps
  let s := s.releaseToken true
  held.foldl (fun (s : State) (w : Sweep) => s.failSweep w.item .rejState .failed Res.zero 0) s

/-- HANDOVER_YIELD: 55 ms into that superframe new COMMITs are held, the YIELD heartbeat goes out, and the token is
released; the former active is HOT, and the held COMMITs complete REJ_STATE (R480). -/
def execHandoverYield (t : Nat) (s : State) : Out State :=
  let s := s.to t
  match s.byl.handover with
  | some h =>
    if h.yielded.isSome ∨ s.devNs < h.at_ + 55000000 ∨ s.role ≠ roleActive then ok s
    else
      let s := { s with byl := { s.byl with handover := some { h with yielded := some s.cyc } } }
      ok s.yieldToken
  | none => ok s

/-- HANDOVER_TIMEOUT: the partner has not reported ACTIVE within 100 ms; the chip reclaims the token if it is free. -/
def execHandoverTimeout (t : Nat) (s : State) : Out State :=
  let s := s.to t
  match s.byl.handover with
  | some h =>
    (match h.yielded with
    | some c =>
      if c + 100 * cycMs ≤ s.cyc then
        let s := ({ s with byl := { s.byl with handover := none } }).finish h.item 0 .failTimeout
        ok (if s.mayClaim then s.beginClaim .reclaim else s)
      else ok s
    | none => ok s)
  | none => ok s

end Sys2Proof.Machine
end

