-- ==== Sys2Proof/Machine/Mirror.lean ====
section
/-!
DEFINITION. What a standby applies of the active's state, and how the active answers it (R242, R243, R489, R491, R495).
-/

namespace Sys2Proof.Machine

/-! ### Mirror records of PAD (R242, R495) -/

/-- Mirror record `seq` applies to tile `t`: its snapshot has arrived, and is older. -/
def State.mirrorTile (s : State) (seq t : Nat) : Bool :=
  match Sp.find s.byl.resync.tiles t with
  | some q => decide (q < seq)
  | none => s.byl.resync.done

/-- Keys of `new` of which `sel` holds, the others as in `old`. -/
def Sp.mix {α : Type} (sel : Nat → Bool) (new old : Sp α) : Sp α :=
  (old.filter (fun p => !sel p.1)).foldl (fun (m : Sp α) p => Sp.put m p.1 p.2) (new.filter (fun p => sel p.1))

/-- The slots and directory entries after a record has been applied, in the tiles it applies to; elsewhere as before. -/
def State.keepTiles (s old : State) (seq : Nat) : State :=
  let here (t : Nat) : Bool := old.mirrorTile seq t
  { s with pad := { s.pad with
      slots := Sp.mix (fun k => here (k / 4096)) s.pad.slots old.pad.slots
      dir := { s.pad.dir with list := Sp.mix here s.pad.dir.list old.pad.dir.list }
      dirDram := { s.pad.dirDram with list := Sp.mix here s.pad.dirDram.list old.pad.dirDram.list } } }

/-- Ask the active for tiles again. -/
def State.askTiles (s : State) (l : List Nat) : State := if l.isEmpty then s else s.bylSend (.tileReq l)

/-- The result of a record differs from the active's: MIRROR_DIVERGED, and the tiles concerned are asked for. -/
def State.diverged (s : State) (ctx : Nat) (tiles : List Nat) : State :=
  ((s.count Reg.PAD_CNT_MIRROR_DIV).padEvent 4 ctx 0).askTiles tiles

/-- CELLS and CRC of a record are compared with the keys written, where every tile of them had its snapshot before the
record. -/
def State.compare (s old : State) (r : MirrorRec) (keys : List Nat) : State :=
  let tiles := (keys.map (· / 4096)).eraseDups
  let same := keys.length == r.cells && s.cellsCrc keys == r.crc
  let kept := s.keepTiles old r.seq
  if tiles.all (fun t => old.mirrorTile r.seq t) ∧ !same then kept.diverged r.ctx tiles else kept

/-- The tiles of the grid that a request's samples lie in, and those that hold a plan of the context: those a commit whose
shape is unknown concerns (DEDUCED, log entry 47). -/
def State.requestTiles (s : State) (n : Nat) (q : SweepReq) : List Nat :=
  match s.pad.geom with
  | some g => (q.samples.filterMap (fun x =>
      let c := g.cellOf x.e.toInt x.n.toInt
      if g.has c then some (g.key c / 4096) else none) ++ s.plannedTiles n).eraseDups
  | none => []

/-- A standby rasterises a mirrored commit as the active did, with the carried NOW and PR, and compares CELLS and CRC. -/
def State.mirrorCommit (s : State) (r : MirrorRec) (q : SweepReq) : State :=
  match s.pad.geom, Sp.find s.pad.shapes r.ctx with
  | some g, some sh =>
    let f := relTick r.now q.first.toNat
    let x := s.raster g sh r.pr q.samples
    let e := s.evalSweep g r.ctx r.now r.pr f q.samples x
    let (s', keys) := s.writeCommit r.ctx r.now r.pr q e.writes
    (s'.compare s r keys).parkAt r.ctx r.now
  | _, _ => s.diverged r.ctx (s.requestTiles r.ctx q)

/-- What a mirror record does to the map of a standby. -/
def State.applyRecord (s : State) (r : MirrorRec) : State :=
  match r.body with
  | .commit q => s.mirrorCommit r q
  | .release => (s.padFree r.ctx).compare s r ((s.slotCells r.ctx (fun _ => true)).map Prod.fst)
  | .discOpen e n t0 r0 =>
    let d := s.mirroredDisc r.ctx e n t0 r0
    let s := if s.pad.ending.contains r.ctx then s.endDisc r.ctx else s
    (({ s with pad := { s.pad with discs := Sp.put s.pad.discs r.ctx d } }).reportPad r.ctx).compare s r []
  | .discEnd => (s.discOver r.ctx).compare s r []
  | .shape x => (s.setShape r.ctx x).compare s r []

/-- A standby applies a mirror record and acknowledges it. -/
def State.mirrorPad (s : State) (r : MirrorRec) : State :=
  let s := s.applyRecord r
  let s := ({ s with pad := { s.pad with mseq := r.seq } }).wr Reg.BYL_MSEQ_APPLIED r.seq
  s.bylSend (.ack r.seq)

/-- The payload of a MIRROR_PAD frame: a standby applies it. -/
def State.takeRecord (s : State) (p : List Byte) : State :=
  match MirrorRec.ofBytes p with
  | some r => if s.standby then s.mirrorPad r else s
  | none => s

/-- MIRROR_PAD_RECEIVED: a standby applies a mirror record without checks, and acknowledges it. -/
def execMirrorPadReceived (t : Nat) (rx : BylRx) (s : State) : Out State :=
  ok ((s.to t).accept rx 0x10 (fun s p => s.takeRecord p))

/-- The commits whose records are acknowledged up to `mseq` are done (R243). -/
def State.takeMirrorAck (s : State) (mseq : Nat) : State :=
  let due (w : SyncWait) : Bool := idxDiff mseq w.seq < 2 ^ 31
  let l := s.pad.sync.filter due
  let s := { s with pad := { s.pad with sync := s.pad.sync.filter (fun w => !due w) } }
  (l.foldl (fun (s : State) (w : SyncWait) => s.commitDone w.item w.res) s).reportSweeps

/-- MIRROR_ACK: the partner has applied the records up to `mseq`; commits that awaited it are done (R243). -/
def execMirrorAck (t : Nat) (rx : BylRx) (s : State) : Out State :=
  ok ((s.to t).accept rx 0x11 (fun s p => s.takeMirrorAck (leAt p 0 4)))

/-! ### MIRROR_GAIT, MIRROR_SESSION, MIRROR_CONFIG -/

/-- A standby takes the track, limits, target and plans of context `n`; AIR keeps the newest plan (R498). -/
def State.applyGait (s : State) (n : Nat) (m : GaitMirror) : State :=
  let x := s.gaitCtx n
  let seq := (m.plans.getLast?.map Plan.seq).getD x.seq
  let s := s.setGaitCtx n { x with track := m.track, limits := m.limits, target := m.target, plans := m.plans, seq := seq }
  match m.plans.getLast? with
  | some p => s.setAirCtx n { s.airCtx n with plans := [⟨p.bytes, s.devNs, false⟩] }
  | none => s

/-- MIRROR_GAIT; what its payload holds, whose layout the spec does not give, is an operand (log entry 142). -/
def execMirrorGait (t : Nat) (rx : BylRx) (ctx : BitVec 8) (m : GaitMirror) (s : State) : Out State :=
  ok ((s.to t).accept rx 0x12 (fun s _ => if !s.standby then s else s.applyGait ctx.toNat m))

/-- A standby derives the session key of KEY_SFN `f` with its own join key, unless it holds it (R491). -/
def State.mirrorKey (s : State) (n f : Nat) : State × Option AirKey :=
  let x := s.airCtx n
  let held := [x.key, x.joining.bind Joining.key, x.nextKey.map Prod.fst].filterMap id
  match held.find? (fun (k : AirKey) => k.keySfn == f) with
  | some k => (s, some k)
  | none =>
    match s.joinKey? n with
    | some jk => (match s.deriveKey jk.attr f with
      | some (s, k) => (s, some k)
      | none => (s, none))
    | none => (s, none)

/-- A standby derives the key of a rekey from the present K. -/
def State.mirrorRekey (s : State) (n f : Nat) : State :=
  let x := s.airCtx n
  match x.key, x.nextKey with
  | some k, none =>
    (match s.slotOf? k.slot with
    | some sl => (match s.deriveKey sl.attr f with
      | some (s, k') => s.setAirCtx n { s.airCtx n with nextKey := some (k', 0) }
      | none => s)
    | none => s)
  | _, _ => s

/-- The context has left: a standby clears what it holds of it. -/
def State.mirrorLeave (s : State) (n : Nat) : State :=
  let x := s.airCtx n
  let s := ((s.dropKey? x.key).dropKey? (x.nextKey.map Prod.fst)).dropKey? x.oldKey
  let s := (s.dropKey? (x.joining.bind Joining.key)).setAirCtx n AirCtx.reset
  let s := (s.wr (Reg.AIR_CTX_STS n) 0).wr (Reg.AIR_CTX_SESS n) 0
  (((s.padLeave n).fixClear n).gaitLeave n).reportRoutes

/-- A standby applies the mirrored state of a context (R489, R491). -/
def State.applySession (s : State) (n : Nat) (m : SessMirror) : State :=
  match m.keySfn with
  | none => if m.state.val = ctxFree then s.mirrorLeave n else s
  | some f =>
    let new := !s.joined n && m.state.val != ctxFree
    let (s, k) := s.mirrorKey n f
    let k := k.map (fun (k : AirKey) => { k with down := m.down.toNat })
    let x := s.airCtx n
    if m.state.val = ctxFree then
      s.setAirCtx n { x with joining := some ⟨none, k, 0, m.machineId.toNat, m.rate20, m.compat, none⟩ }
    else
      let s := s.setAirCtx n { x with
        rate20 := m.rate20, key := k, joining := none, joinReq := none, machineId := m.machineId.toNat
        nextKey := if (x.nextKey.map (fun p => p.1.keySfn)) = some f then none else x.nextKey }
      let s := (s.set (B.AIR_CTX_STS_STATE n) m.state.val).setFlag (B.AIR_CTX_SESS_COMPAT n) m.compat
      let s := (s.set (B.AIR_CTX_SESS_NEXT_HOP n) m.nextHop.toNat).reportRoutes
      let s := if new then s.fixClear n else s
      let s := match m.rekey with
        | some g => s.mirrorRekey n g
        | none => s
      s.reportOverload

/-- MIRROR_SESSION; its payload as for MIRROR_GAIT. -/
def execMirrorSession (t : Nat) (rx : BylRx) (ctx : BitVec 8) (m : SessMirror) (s : State) : Out State :=
  ok ((s.to t).accept rx 0x13 (fun s _ => if s.standby ∧ ctx ≠ 0 then (s.applySession ctx.toNat m).bylEval else s))

/-- The resynchronisation is complete once the geometry, every tile and the other state have arrived (R495). -/
def State.checkResync (s : State) : State :=
  let r := s.byl.resync
  let want := (s.pad.geom.map PadGeom.tiles).getD 0
  if !r.done ∧ r.geometry ∧ r.other ∧ want ≤ r.tiles.length then
    ({ s with byl := { s.byl with resync := { r with done := true } } }).bylEvent 7 0
  else s

/-- A standby takes the active's schedules, reference position, frame origin and parameters. -/
def State.applyConfig (s : State) (c : ConfigMirror) : State :=
  let s := match c.sched with
    | some x =>
      (({ s with air := { s.air with sched := some x } }).set B.AIR_SCHED_SCHED_ID x.id).setFlag
        B.AIR_STS_SCHED_VALID true |>.reportHeads
    | none => s
  let s := match c.next with
    | some (x, f) =>
      (({ s with air := { s.air with next := some (x, f, none) } }).set B.AIR_SCHED_NEXT_ID x.id).wr
        Reg.AIR_SCHED_NEXT_SFN (f % 2 ^ 32)
    | none => s
  let s := match c.ref with
    | some (x, y, z) =>
      let s := { s with byl := { s.byl with ref := some (x.toInt, y.toInt, z.toInt) } }
      if s.ownRef = some (x.toInt, y.toInt, z.toInt) then s else s.stageRef x.toInt y.toInt z.toInt
    | none => s
  let s := match c.origin with
    | some (x, y, z) => { s with
      fix := { s.fix with firstRef := some (x.toNat, y.toNat, z.toNat) }
      byl := { s.byl with origin := some (x.toInt, y.toInt, z.toInt) } }
    | none => s
  let s := c.params.foldl (fun (s : State) (p : BitVec 24 × Word) =>
    if (paramDef? p.1.toNat).isSome then (s.setLive p.1.toNat p.2).setWord p.1.toNat p.2 else s) s
  { s with byl := { s.byl with resync := { s.byl.resync with other := true } } }

/-- MIRROR_CONFIG: schedules, reference position, frame origin, parameters; its payload as for MIRROR_GAIT. -/
def execMirrorConfig (t : Nat) (rx : BylRx) (c : ConfigMirror) (s : State) : Out State :=
  ok ((s.to t).accept rx 0x14 (fun s _ => if !s.standby then s else (s.applyConfig c).checkResync.bylEval))

/-! ### Tiles and messages -/

/-- The active sends tiles of its map. -/
def State.sendTiles (s : State) (l : List Nat) : State :=
  let n := (s.pad.geom.map PadGeom.tiles).getD 0
  l.foldl (fun (s : State) (k : Nat) => if k < n then s.bylSend (.tileData (.tile (s.tileSnap k))) else s) s

/-- TILE_REQ: the active sends the tiles again, each with the MSEQ of its snapshot. -/
def execTileReq (t : Nat) (rx : BylRx) (s : State) : Out State :=
  ok ((s.to t).accept rx 0x20 (fun s p => if s.role ≠ roleActive then s else s.sendTiles (tileIndices p)))

/-- A standby takes the map geometry: the map is empty until its tiles arrive. -/
def State.takeGeometry (s : State) (m : MapSnap) : State :=
  let s := { s with pad := { s.pad with geom := m.geom, deflt := m.deflt, tiles := [], slots := [], cache := [] } }
  let s := (s.freshDir.clearLocks.setWord Reg.PAD_MAP_VER m.version).set B.PAD_GROOM_STS_NEXT_TILE 0
  let s := s.setFlag B.PAD_STS_MAP_VALID m.geom.isSome
  let s := match m.geom with
    | some g =>
      let s := ((s.set B.PAD_GEOM_W64 g.w64).set B.PAD_GEOM_H64 g.h64).set B.PAD_CELL_CELL_CM g.cm
      (s.setWord Reg.PAD_ORG_E (BitVec.ofInt 32 g.orgE)).setWord Reg.PAD_ORG_N (BitVec.ofInt 32 g.orgN)
    | none => s.wr Reg.PAD_GEOM 0
  { s with byl := { s.byl with resync := { s.byl.resync with geometry := true, tiles := [], done := false } } }

/-- A standby takes the snapshot of a tile. -/
def State.takeTile (s : State) (x : TileSnap) : State :=
  let s := s.setHalves x.tile x.runs
  let rest := s.pad.slots.filter (fun p => p.1 / 4096 != x.tile)
  let slots := x.slots.foldl (fun (m : Sp Slots) p =>
    if p.1 < 4096 then Sp.store m Slots.zero (x.tile * 4096 + p.1) p.2 else m) rest
  let s := ({ s with pad := { s.pad with slots := slots } }.useTile x.tile).noteWrite x.tile
  { s with byl := { s.byl with resync := { s.byl.resync with tiles := Sp.put s.byl.resync.tiles x.tile x.mseq } } }

/-- A standby takes what the active sends of the map. -/
def State.takeMap (s : State) (d : TileData) : State :=
  match d with
  | .geometry m => s.takeGeometry m
  | .tile x => if x.tile < (s.pad.geom.map PadGeom.tiles).getD 0 then s.takeTile x else s

/-- TILE_DATA: a standby applies the geometry, or a tile of the map; its payload as for MIRROR_GAIT. -/
def execTileData (t : Nat) (rx : BylRx) (d : TileData) (s : State) : Out State :=
  ok ((s.to t).accept rx 0x21 (fun s _ =>
    if !s.standby then s else (s.takeMap d).checkResync.bylEval))

/-- A message is kept for the service firmware, and what the exchange settles is noted. -/
def State.takeMsg (s : State) (bytes : List Byte) (keysOk : Option Bool) : State :=
  { s with byl := { s.byl with svcIn := s.byl.svcIn ++ [bytes], keysOk := keysOk.getD s.byl.keysOk } }

/-- SVC_MSG: a message for the service firmware, with what its exchange settles of condition 5 of R494: whether the keys
agree by their check values (the messages' layout is the firmware's; log entry 142). -/
def execSvcMsg (t : Nat) (rx : BylRx) (keysOk : Option Bool) (s : State) : Out State :=
  ok ((s.to t).accept rx 0x30 (fun s p => (s.takeMsg p keysOk).bylEval))

end Sys2Proof.Machine
end

