-- ==== Sys2Proof/Machine/Net.lean ====
section
/-!
DEFINITION. The wired ports (R375 to R393).
-/

namespace Sys2Proof.Machine

/-! ### Ports -/

/-- The enable field of a port. -/
def netEnable (p : Nat) : Bits := if p = 0 then B.NET_A_CFG_ENABLE else B.NET_B_CFG_ENABLE

/-- The LINK field of a port. -/
def netLink (p : Nat) : Bits := if p = 0 then B.NET_A_STS_LINK else B.NET_B_STS_LINK

/-- Counter `i` of port `p` (Table NET-6). -/
def netCnt (p i : Nat) : Nat := Reg.NET_A_CNT_RX_OK + 0x80 * p + 4 * i

/-- The longest frame of a port, FCS included. -/
def State.netMax (s : State) (p : Nat) : Nat := if p = 0 then s.get B.NET_A_MAX_LEN_MAX else 1522

/-- A DEST or option field of NET_p_CFG. -/
def netOpt (p : Nat) (a b : Bits) : Bits := if p = 0 then a else b

/-- The transmit queue of a port. -/
def State.txq (s : State) (p : Nat) : List TxItem := Sp.at s.net.txq [] p

/-- Replace the transmit queue of a port; the new head of each class has reached the head now. -/
def State.setTxq (s : State) (p : Nat) (q : List TxItem) : State :=
  { s with net := { s.net with txq := Sp.store s.net.txq [] p q } }

/-- The buffers posted on port `p` for destination `d`. -/
def State.bufs (s : State) (p d : Nat) : List Item := Sp.at s.net.bufs [] (2 * p + d)

/-- Replace the posted buffers. -/
def State.setBufs (s : State) (p d : Nat) (l : List Item) : State :=
  { s with net := { s.net with bufs := Sp.store s.net.bufs [] (2 * p + d) l } }

/-! ### Receiving (R376, R377, R379, R381) -/

/-- The PTP addresses of R377. -/
def ptpAddrs : List Nat := [0x011B19000000, 0x0180C200000E, 0x01005E000181, 0x01005E00006B]

/-- Address match of a frame: MATCH code (Table NET-4) and destination (R377); the lowest-numbered filter entry decides
among entries, ahead of the own, broadcast and PTP addresses by their codes. -/
def State.netMatch (s : State) (p da : Nat) : Option (Nat × Nat) :=
  let filt (k : Nat) : Nat := s.rd64 (if p = 0 then Reg.NET_A_FILT k else Reg.NET_B_FILT k)
  match (List.range 8).find? (fun k => filt k % 2 ^ 48 == da && (filt k).testBit 48) with
  | some k => some (k, if (filt k).testBit 49 then 1 else 0)
  | none =>
    if da = s.rd64 (if p = 0 then Reg.NET_A_MAC else Reg.NET_B_MAC) % 2 ^ 48 then
      some (8, s.get (netOpt p B.NET_A_CFG_OWN_DEST B.NET_B_CFG_OWN_DEST))
    else if da = 0xFFFFFFFFFFFF ∧ s.flag (netOpt p B.NET_A_CFG_BCAST_EN B.NET_B_CFG_BCAST_EN) then
      some (9, s.get (netOpt p B.NET_A_CFG_BCAST_DEST B.NET_B_CFG_BCAST_DEST))
    else if da ∈ ptpAddrs ∧ s.flag (netOpt p B.NET_A_CFG_PTP_EN B.NET_B_CFG_PTP_EN) then
      some (10, s.get (netOpt p B.NET_A_CFG_PTP_DEST B.NET_B_CFG_PTP_DEST))
    else none

/-- The receive stamp, on Port A corrected to the line by the RX delay (R381). -/
def State.rxStamp (s : State) (p : Nat) (raw : BitVec 64) : Nat :=
  if p = 0 then (raw - BitVec.ofNat 64 (s.get B.NET_A_PHY_DLY_RX)).toNat else raw.toNat

/-- RESULT_1 of a NET_RX completion: length, and the flags of a received frame (Table NET-4); `m` is the MATCH code. -/
def rxWord (bs : List Byte) (express long : Bool) (m : Nat) : Nat :=
  let x := bs.take (bs.length - 4)
  bs.length % 2 ^ 14 + ((if long then 2 ^ 14 else 0) + (if express then 2 ^ 15 else 0)
    + ipCsum x * 2 ^ 16 + l4Csum x * 2 ^ 18 + m * 2 ^ 20 + (if tagged x then 2 ^ 24 else 0))

/-- Deliver a frame into the oldest posted buffer (R379). -/
def State.netDeliver (s : State) (p m d : Nat) (bs : List Byte) (express : Bool) (stamp : BitVec 64) : State :=
  match s.bufs p d with
  | [] => s.count (netCnt p 6)
  | it :: rest =>
    let max := s.netMax p
    let long := max < bs.length
    let data := bs.take (bs.length - 4)
    let bytes := if long then data.take max else data
    let room := it.d.len.toNat
    let wrote := bytes.take room
    let s := ((s.setBufs p d rest).count (netCnt p 0)).writeHost it.d.ptr.toNat wrote
    s.finish it 10 (if room < bytes.length then .doneClamped else .done)
      ⟨s.rxStamp p stamp, rxWord bs express long m, wrote.length⟩

/-! ### PAUSE (R385 to R387) -/

/-- A pause quantum of 512 bit times, in tenths of a nanosecond. -/
def State.quantum (s : State) : Nat := if s.flag B.NET_A_STS_SPEED then 2048 else 5120

/-- The pause ends: the stop frame it held goes first (R385, R386). -/
def State.pauseOver (s : State) : State :=
  let s := ({ s with net := { s.net with paused := false } }).setFlag B.NET_A_STS_PAUSED false
  match s.net.stopHeld with
  | some (st, c) => s.stopOnA st c
  | none => s

/-- A valid PAUSE of `quanta` takes effect on Port A (R385): it is counted, the timer starts anew, and a preemptable frame
in progress ends at its next preemption point. -/
def State.takePause (s : State) (quanta : Nat) : State :=
  let s := s.count (netCnt 0 9)
  if quanta = 0 then s.pauseOver
  else
    let s := s.preempt
    ({ s with net := { s.net with paused := true, pauseEnd := s.tenths + quanta * s.quantum } }).setFlag
      B.NET_A_STS_PAUSED true

/-- NET_FRAME_RX: a frame with its FCS as a port receives it, through the express MAC or not, its fragments reassembled
without an error or not, stamped at the pins. The checks of Table NET-2 in order; `fill` bytes of the port's 32 KiB receive
buffer are in use (timing, an operand: log entry 137). -/
def execNetFrameRx (t : Nat) (port : Fin 2) (bs : List Byte) (express fragErr : Bool) (stamp : BitVec 64) (fill : Nat)
    (s : State) : Out State :=
  let p := port.val
  let s := s.to t
  let da := beAt bs 0 6
  if !s.runs 10 (blkPort p) ∨ !s.flag (netEnable p) then ok s
  else if bs.length ≤ 63 then ok (s.count (netCnt p 1))
  else if fragErr then ok (s.count (netCnt p 7))
  else if !fcsGood bs then ok (s.count (netCnt p 2))
  else if s.netMax p < bs.length ∧ !s.flag (netOpt p B.NET_A_CFG_KEEP_LONG B.NET_B_CFG_KEEP_LONG) then
    ok (s.count (netCnt p 3))
  else
  let s := s.seeWire p false (s.rxStamp p stamp) (etherType bs) bs
  if p = 0 ∧ da = 0x0180C2000001 then
    match pauseOf bs with
    | some q => ok (s.takePause q)
    | none => ok s
  else
    match s.netMatch p da with
    | none => ok (s.count (netCnt p 4))
    | some (m, d) =>
      if 32768 < fill + bs.length then ok (s.count (netCnt p 5)) else ok (s.netDeliver p m d bs express stamp)

/-! ### Sending (R378, R380 to R382) -/

/-- The transmit class decides the head: the first frame of the class in the queue. -/
def State.txHead (s : State) (p : Nat) (express : Bool) : Option TxItem :=
  (s.txq p).find? (fun x => x.express == express)

/-- Remove an item from a transmit queue; the next frame of its class reaches the head now. -/
def State.txDrop (s : State) (p : Nat) (x : TxItem) : State :=
  let q := (s.txq p).filter (fun y => y.item.id != x.item.id)
  let next := q.find? (fun y => y.express == x.express)
  s.setTxq p (q.map (fun y => if some y.item.id = next.map (fun n => n.item.id) then
    { y with headAt := s.cyc, headNs := s.devNs } else y))

/-- The transmit stamp of a frame, on Port A with the TX delay added (R381). -/
def State.txStamp (s : State) (p : Nat) (raw : BitVec 64) : Nat :=
  if p = 0 then (raw + BitVec.ofNat 64 (s.get B.NET_A_PHY_DLY_TX)).toNat else raw.toNat

/-- Whether port `p` may start a frame now: it runs, its link is up, and no pause is in force on Port A (R385). -/
def State.txOpen (s : State) (p : Nat) : Bool :=
  s.runs 10 (blkPort p) && s.flag (netEnable p) && s.flag (netLink p) && !(p == 0 && s.net.paused)

/-- The bytes of a frame as it goes (R380, R382): checksums, the correctionField of ONE_STEP, padding, FCS. -/
def TxItem.frame (x : TxItem) (stamp : Nat) : List Byte :=
  let a := x.item.d.arg0
  let bs := if argBit a 2 then putIpCsum x.data else x.data
  let bs := if argBit a 3 then putL4Csum bs else bs
  let corr := unsigned 64 ((stamp : Int) - (x.item.d.arg2.toNat : Int)) * 2 ^ 16 % 2 ^ 64
  let bs := if argBit a 4 then putCorrection bs (argBits a 29 16) corr else bs
  withFcs (padFrame bs)

/-- Send the head frame of a class (R380, R382). -/
def State.txSend (s : State) (p : Nat) (x : TxItem) (late : Bool) (raw : BitVec 64) : State :=
  let a := x.item.d.arg0
  let stamp := s.txStamp p raw
  let want := argBit a 5 || argBit a 4
  let bs := x.frame stamp
  let s := (s.txDrop p x).netSent (.frame p x.express x.item.id stamp bs)
  let s := if p = 0 then { s with net := { s.net with wire := some ⟨x.item.id, x.express, bs.length, 0, s.tenths⟩ } } else s
  (s.count (netCnt p 8)).finish (x.item.acting late) 10 .done
    ⟨if want then stamp else 0, if argBit a 3 ∧ !hasL4 x.data then 1 else 0, 0⟩

/-- A frame of a class finds the line of a port taken: on Port A by a frame in progress, which an express frame preempts
where it can (R383). -/
def State.lineTaken (s : State) (p : Nat) (express : Bool) : Bool :=
  p == 0 && (match s.wireNow with
    | some w => !express || (s.preemptAt w).isNone
    | none => false)

/-- The rest of a preempted frame goes on (R385). -/
def State.continueFrame (s : State) (w : Wire) : State :=
  { s with net := { s.net with
    wire := some { w with since := s.tenths }, held := none, sent := s.net.sent ++ [.continued w.id w.from_] } }

/-- The head frame of a class starts unless its WHEN lies ahead or it backs off (R66, R388); with NO_LATE a frame that came
to the head after its WHEN is rejected. -/
def State.startHead (s : State) (p : Nat) (x : TxItem) (stamp : BitVec 64) : State :=
  let w := x.item.d.when_.toNat
  if s.devNs < w ∨ s.cyc < x.backoff then s
  else
    let late := w != 0 && w ≤ x.headNs
    if late && x.item.d.noLate then (s.txDrop p x).finish x.item 10 .rejExpired
    else (s.preempt).txSend p x late stamp

/-- NET_TX_START: the frame at the head of a class starts; `stamp` is the raw transmit stamp. A WHEN is honoured at the
head of the queue (R380). Port A sends a preemptable frame only while no express frame waits, after the rest of one that
was preempted (R385). -/
def execNetTxStart (t : Nat) (port : Fin 2) (express : Bool) (stamp : BitVec 64) (s : State) : Out State :=
  let p := port.val
  let s := s.to t
  if !s.txOpen p ∨ s.lineTaken p express ∨ (p = 0 ∧ !express ∧ (s.txHead p true).isSome) then ok s
  else match s.net.held, s.txHead p express with
    | some w, h =>
      if p = 0 ∧ !express then ok (s.continueFrame w)
      else match h with
        | some x => ok (s.startHead p x stamp)
        | none => ok s
    | none, some x => ok (s.startHead p x stamp)
    | none, none => ok s

/-- NET_TX_TIMEOUT (R380): TX_TIMEOUT ms at the head without a start. -/
def execNetTxTimeout (t : Nat) (port : Fin 2) (express : Bool) (s : State) : Out State :=
  let p := port.val
  let s := s.to t
  match s.txHead p express with
  | none => ok s
  | some x =>
    if x.headAt + s.get B.NET_A_CFG_TX_TIMEOUT * cycMs ≤ s.cyc ∧ s.runs 10 (blkPort p) then
      ok ((s.txDrop p x).finish x.item 10 .failTimeout)
    else ok s

/-- The checks of NET_TX (R380, R382). -/
def State.netTxChecks (s : State) (it : Item) (frame : List Byte) : Checks :=
  let a := it.d.arg0
  let p := if argBit a 0 then 1 else 0
  let len := it.d.len.toNat
  let w := it.d.when_.toNat
  { range := it.d.context == 0 && 14 ≤ len && len + 4 ≤ s.netMax p
      && !(argBit a 1 && (p == 1 || 1522 < len + 4))
      && (!argBit a 4 || (p == 0 && ptpAt frame (argBits a 29 16) && argBit a 5))
      && !s.tooFar w
    version := true
    key := true
    state := s.flag (netLink p) && (w == 0 || !s.timeUnset) }

/-- NET_TX: the frame joins its port's transmit queue (R378). Its WHEN is honoured at the head of the queue, so the item
does not wait for it here. `raw` is what the host buffer holds. -/
def execNetTx (t : Nat) (it : Item) (raw : List Byte) (s : State) : Out State :=
  let s := s.to t
  let p := if argBit it.d.arg0 0 then 1 else 0
  let len := it.d.len.toNat
  let frame := (raw ++ leBytes (len - raw.length) 0).take len
  if 256 ≤ (s.txq p).length then ok s
  else
    ok (s.runOp 10 { it with d := { it.d with when_ := 0 } } (fun i => .netTx t { i with d := it.d } raw)
      (s.netTxChecks it frame) (fun s _ =>
        s.setTxq p (s.txq p ++ [⟨it, argBit it.d.arg0 1, frame, s.cyc, s.devNs, 0, 0⟩])))

/-- NET_RX: a receive buffer is posted (R378, R379): by port 73 for the service firmware, by a ring for the host. -/
def execNetRx (t : Nat) (it : Item) (s : State) : Out State :=
  let s := s.to t
  let p := if argBit it.d.arg0 0 then 1 else 0
  let d := if it.ring?.isSome then 1 else 0
  let len := it.d.len.toNat
  if 256 ≤ (s.bufs p d).length then ok s
  else
    ok (s.runOp 10 it (fun i => .netRx t i)
      { Checks.pass with
        range := it.d.context == 0 && 64 ≤ len && len ≤ 9216
        state := s.flag (netLink p) }
      (fun s it => s.setBufs p d (s.bufs p d ++ [it])))

/-- MDIO (R391): a clause 22 read that no PHY answers returns 0xFFFF; what a clause 45 read then returns the spec does
not state (free value). -/
def execMdio (t : Nat) (it : Item) (data : Option (BitVec 16)) (s : State) : Out State :=
  ok ((s.to t).runOp 10 it (fun i => .mdio t i data)
    { Checks.pass with range := it.d.context == 0 }
    (fun s it =>
      let a := it.d.arg0
      let s := s.netSent (.mdio (argBit a 1) a.toNat)
      if argBit a 1 then s.finish it 10 .done
      else match data with
        | some v => s.finish it 10 .done ⟨v.toNat, 0, 0⟩
        | none =>
          if argBit a 0 then (s.tookFree).finish it 10 .done ⟨(s.freeVal.truncate 16).toNat, 0, 0⟩
          else s.finish it 10 .done ⟨0xFFFF, 0, 0⟩))

/-- PAUSE_RX: a valid PAUSE of `quanta` on Port A (R385). -/
def execPauseRx (t : Nat) (quanta : BitVec 16) (s : State) : Out State :=
  let s := s.to t
  if !s.runs 10 (blkPort 0) ∨ !s.flag B.NET_A_CFG_ENABLE then ok s else ok (s.takePause quanta.toNat)

/-- PAUSE_EXPIRY: the timer has run out (R385). -/
def execPauseExpiry (t : Nat) (s : State) : Out State :=
  let s := s.to t
  if s.net.paused ∧ s.net.pauseEnd ≤ s.tenths then ok s.pauseOver else ok s

/-- PAUSE_TX: the receive buffer of Port A holds `fill` bytes (R387): a PAUSE past three quarters, a repeat each
TX_QUANTA / 2 above half, a PAUSE of 0 below half. -/
def execPauseTx (t : Nat) (fill : Nat) (s : State) : Out State :=
  let s := s.to t
  let q := s.get B.NET_A_PAUSE_TX_QUANTA
  let send (s : State) (n : Nat) (at_ : Option Nat) : State :=
    let s := s.netSent (.pause n)
    { s with net := { s.net with pauseSent := at_ } }
  if !s.flag B.NET_A_PAUSE_TX_EN ∨ !s.runs 10 (blkPort 0) ∨ !s.flag B.NET_A_CFG_ENABLE then ok s
  else match s.net.pauseSent with
    | none => if 24576 < fill then ok (send s q (some s.tenths)) else ok s
    | some t0 =>
      if fill < 16384 then ok (send s 0 none)
      else if 16384 < fill ∧ t0 + q * s.quantum / 2 ≤ s.tenths then ok (send s q (some s.tenths))
      else ok s

/-! ### Port B (R388, R389), preemption (R383), links (R393) -/

/-- PORT_B_COLLISION: the frame at the head of Port B collides; late after the first 512 bits (R388). After the n-th
collision it waits r slot times of 51.2 µs, r a free value from 0 to 2^min(n, 10) − 1. -/
def execPortBCollision (t : Nat) (late : Bool) (s : State) : Out State :=
  let s := s.to t
  match s.txHead 1 false with
  | none => ok s
  | some x =>
    if !s.txOpen 1 then ok s
    else if late then
      ok (((s.count (netCnt 1 12)).txDrop 1 x).finish x.item 10 .rejConflict ⟨0, 2, 0⟩)
    else
      let s := s.count (netCnt 1 10)
      if 15 ≤ x.tries then
        ok (((s.count (netCnt 1 11)).txDrop 1 x).finish x.item 10 .rejConflict ⟨0, 1, 0⟩)
      else
        let r := s.freeVal.toNat % 2 ^ min (x.tries + 1) 10
        ok (s.tookFree.setTxq 1 ((s.txq 1).map (fun y =>
          if y.item.id = x.item.id then { y with tries := y.tries + 1, backoff := s.cyc + r * 25600 } else y)))

/-- PLCA_BEACON_TIMEOUT: no BEACON for 130 ms (R389). -/
def execPlcaBeaconTimeout (t : Nat) (s : State) : Out State :=
  let s := s.to t
  if s.net.beaconAt + 130 * cycMs ≤ s.cyc then ok (s.setFlag B.NET_B_STS_PLCA_UP false) else ok s

/-- PLCA_BEACON_RECEIVED (R389). -/
def execPlcaBeaconReceived (t : Nat) (s : State) : Out State :=
  let s := s.to t
  if s.runs 10 (blkPort 1) ∧ s.flag B.NET_B_CFG_ENABLE then
    let s := { s with net := { s.net with beaconAt := s.cyc } }
    ok (s.setFlag B.NET_B_STS_PLCA_UP (s.flag B.NET_B_CFG_PLCA_EN))
  else ok s

/-- PREEMPTION_VERIFY: the verify process of clause 99 ends (R383). -/
def execPreemptionVerify (t : Nat) (passed : Bool) (s : State) : Out State :=
  let s := s.to t
  if s.runs 10 (blkPort 0) ∧ s.flag B.NET_A_CFG_ENABLE ∧ s.flag B.NET_A_CFG_PREEMPT then ok (s.setFlag B.NET_A_STS_VERIFIED passed)
  else ok (s.setFlag B.NET_A_STS_VERIFIED false)

/-- PORT_LINK_CHANGE (Table NET-9): LINK, its change bit and vector 70; on Port A the speed and a negotiation fault. -/
def execPortLinkChange (t : Nat) (port : Fin 2) (up fast anFault : Bool) (s : State) : Out State :=
  let p := port.val
  let s := s.to t
  if !s.runs 10 (blkPort p) ∨ !s.flag (netEnable p) then ok s
  else
    let s := if s.flag (netLink p) = up then s
      else ((s.setFlag (netLink p) up).setFlag
        (netOpt p B.NET_A_STS_LINK_CHANGED B.NET_B_STS_LINK_CHANGED) true).fire 70
    if p = 0 then
      let s := s.setFlag B.NET_A_STS_SPEED (up && fast)
      let s := if up then s else s.setFlag B.NET_A_STS_VERIFIED false
      ok (if anFault then s.setFlag B.NET_A_STS_AN_FAULT true else s)
    else ok (if up then s else s.setFlag B.NET_B_STS_PLCA_UP false)

/-- A NET region reset: the stop block is kept, the queues and buffers are emptied (R392); their items fail with the
other items of the region. What the preemptable MAC of Port A had begun is lost. -/
def State.netReset (s : State) : State :=
  { s with net := { s.net with txq := [], bufs := [], pauseSent := none, held := none
                               wire := match s.net.wire with | some w => if w.express then some w else none | none => none } }

/-- Items queued or posted in NET. -/
def State.netItems (s : State) : List Item :=
  ((s.net.txq.map Prod.snd).flatten.map TxItem.item) ++ (s.net.bufs.map Prod.snd).flatten

end Sys2Proof.Machine
end

