-- ==== Sys2Proof/Machine/Tamper.lean ====
section
/-!
DEFINITION. What zeroises (R411, R412): tamper conditions and ZEROISE, with what the Biyth link loses (R503).
-/

namespace Sys2Proof.Machine

/-- A zeroise with source bits `src`: TACK's steps, and BYL loses its link key (R412, R503). -/
def State.zeroised (s : State) (src : Nat) : State := (s.zeroise src).loseLinkKey

/-- TAMPER_DETECT: the always-on watch of one condition of Table TACK-9. Each new assertion of an enabled condition
zeroises; one that stays active does not repeat it (R411, R412). -/
def execTamperDetect (t : Nat) (seen : TamperSeen) (s : State) : Out State :=
  let s := s.to t
  let live := s.rd Reg.TACK_TAMPER_LIVE
  let bit := 2 ^ seen.source
  if seen.holds (s.get B.TACK_TAMPER_CFG_IN_MESH) then
    if s.tamperEnabled seen.source ∧ !live.testBit seen.source then
      ok ((s.wr Reg.TACK_TAMPER_LIVE (live ||| bit)).reportTack.zeroised bit)
    else ok s
  else ok ((s.wr Reg.TACK_TAMPER_LIVE (live - (live &&& bit))).reportTack)

/-- ZEROISE. -/
def execTackZeroise (t : Nat) (it : Item) (s : State) : Out State :=
  let s := s.to t
  ok (s.tackOp it (fun i => .tackZeroise t i) (s.tackChecks it true true true true)
    (fun s it => (s.zeroised 0x100).finish it 12 .done))

end Sys2Proof.Machine
end

