-- ==== Sys2Proof/Machine/Fail.lean ====
section
/-!
DEFINITION. The failing of items and the reset of what a region holds (R33, R35, R87, R92, R95, R459).
-/

namespace Sys2Proof.Machine

/-! ### Long operations that end from outside -/

/-- FIX keeps no REINIT of the handle of `l`. -/
def State.forgetReinit (s : State) (l : LongOp) : State :=
  match s.fix.reinit with
  | some x => if x.ring = l.ring ∧ x.tag = l.tag then
      ({ s with fix := { s.fix with reinit := none } }).setFlag B.FIX_STS_REINIT_ACTIVE false else s
  | none => s

/-- GNB keeps no survey of the handle of `l`. -/
def State.forgetSurvey (s : State) (l : LongOp) : State :=
  match s.gnb.survey with
  | some x => if x.ring = l.ring ∧ x.tag = l.tag then { s with gnb := { s.gnb with survey := none } } else s
  | none => s

/-- PAD keeps no import of the handle of `l`. -/
def State.forgetImport (s : State) (l : LongOp) : State :=
  match s.pad.importing with
  | some x => if x.ring = l.ring ∧ x.tag = l.tag then
      (({ s with pad := { s.pad with importing := none } }).setFlag B.PAD_STS_IMPORT_ACTIVE false).freeLocks
        (fun w => w == Locker.long l.ring l.tag) else s
  | none => s

/-- PAD keeps no export of the handle of `l`. -/
def State.forgetExport (s : State) (l : LongOp) : State :=
  if s.pad.exports.any (fun x => x.ring == l.ring && x.tag == l.tag) then
    { s with pad := { s.pad with
      exports := s.pad.exports.filter (fun x => !(x.ring == l.ring && x.tag == l.tag)) } }.freeLocks
      (fun w => w == Locker.long l.ring l.tag)
  else s

/-- REC keeps no readout of the handle of `l`. -/
def State.forgetReadout (s : State) (l : LongOp) : State :=
  match s.recd.reading with
  | some x => if x.ring = l.ring ∧ x.tag = l.tag then
      ({ s with recd := { s.recd with reading := none } }).setFlag B.REC_STS_READING false else s
  | none => s

/-- TACK keeps no re-wrap of the handle of `l`. -/
def State.forgetRewrap (s : State) (l : LongOp) : State :=
  match s.tack.rewrap with
  | some x => if x.ring = l.ring ∧ x.tag = l.tag then { s with tack := { s.tack with rewrap := none } } else s
  | none => s

/-- CHIP keeps no image write of the handle of `l`. -/
def State.forgetImage (s : State) (l : LongOp) : State :=
  match s.chip.writing with
  | some x => if x.ring = l.ring ∧ x.tag = l.tag then { s with chip := { s.chip with writing := none } } else s
  | none => s

/-- TIM keeps no cue of the handle of `l`. -/
def State.forgetCue (s : State) (l : LongOp) : State :=
  match s.tim.cues.find? (fun c => c.2.item.handle == (l.ring, l.tag)) with
  | some c => s.putCue c.1 none
  | none => s

/-- What a region keeps for a long operation beside its progress is forgotten: it runs no more, nor is it suspended. -/
def State.forgetLong (s : State) (l : LongOp) : State :=
  (((((((s.forgetReinit l).forgetSurvey l).forgetImport l).forgetExport l).forgetReadout l).forgetRewrap l).forgetImage
    l).forgetCue l

/-- A suspended long operation is discarded (R85, R87). -/
def State.dropSaved (s : State) (l : LongOp) : State := (s.forgetLong l).dropLong l.ring l.tag

/-- The suspended long operations of region `r` are discarded (R87). -/
def State.dropSavedIn (s : State) (r : Nat) : State :=
  (s.hif.longs.filter (fun l => l.region == r && l.state == .suspended)).foldl (fun (s : State) l => s.dropSaved l) s

/-! ### Items and their owners -/

/-- Identities of the items that some region beside HIF holds. -/
def State.placedIds (s : State) : List Nat :=
  (s.dsp.entries.map (fun e => e.item) ++ (s.dsp.ports.map Prod.snd).flatten ++ s.rgn.hs.filterMap HsPort.item
    ++ s.rgn.inbox.map Prod.snd
    ++ s.waiting.filterMap Instr.item? ++ s.hif.longs.map (fun l => l.carrier) ++ s.tim.setWaits.map (fun w => w.item)
    ++ s.tim.cues.map (fun c => c.2.item) ++ s.tack.waits.map (fun w => w.item)
    ++ (s.byl.handover.map Handover.item).toList).map Item.id

/-- Items that HIF holds: fetched, not passed on, not ended (R61, R83). -/
def State.hifItems (s : State) : List Item :=
  let placed := s.placedIds
  let fetched := (s.hif.rings.map (fun (p : Nat × RingRt) =>
    p.2.out.filter (fun o => !p.2.fin.any (fun f => f.item.id == o.id)))).flatten
  fetched.filter (fun it => !placed.contains it.id) ++ s.hif.longs.filterMap (fun l => l.ctl)

/-- Items a region holds in its own state. -/
def State.regionItems (s : State) (r : Nat) : List Item :=
  match r with
  | 1 => s.hifItems
  | 7 => s.pad.sweeps.map (fun w => w.item) ++ s.pad.waits.map (fun w => w.item) ++ s.pad.sync.map (fun w => w.item)
  | 9 => (s.air.ctx.map (fun (p : Nat × AirCtx) =>
      (p.2.joining.bind Joining.item).toList ++ (p.2.refusing.map Prod.fst).toList)).flatten
      ++ (s.air.next.bind (fun n => n.2.2)).toList
  | 10 => s.netItems
  | 11 => s.tim.setWaits.map (fun w => w.item) ++ s.tim.cues.map (fun c => c.2.item)
  | 12 => s.tack.waits.map (fun w => w.item)
  | 14 => s.recd.arm.toList
  | 15 => (s.byl.handover.map Handover.item).toList
  | _ => []

/-- Every item region `r` owns (R15). -/
def State.ownedBy (s : State) (r : Nat) : List Item := dedupItems (s.owned r ++ s.regionItems r)

/-- TAG_RGN_STATE.HELD as software reads it: computed, not stored (log entry 37). -/
def State.held (s : State) (r : Nat) : Nat := (s.ownedBy r).length

/-- The item of an identity, wherever it is. -/
def State.itemOf? (s : State) (id : Nat) : Option Item :=
  ((List.range 16).map (fun r => s.ownedBy r)).flatten.find? (fun it => it.id == id)

/-- An item fails: it holds no key any more, what its region kept for it is forgotten, and it completes once. A commit
that was applied and awaits its partner says so (R232). -/
def State.failOne (s : State) (it : Item) (region cell : Nat) (st : Status) : State :=
  let s := (s.releaseKeys it.id).leavePad it.id
  let s := { s with gait := { s.gait with asked := Sp.drop s.gait.asked it.id, drafts := Sp.drop s.gait.drafts it.id } }
  let s := match s.hif.longs.find? (fun l => l.carrier.id == it.id && l.state != .suspended) with
    | some l => s.forgetLong l
    | none => s
  if s.recd.arm.map Item.id = some it.id then (s.dropItem it.id).endCaptureAt region cell recIdle st
  else if !it.obs ∧ s.pad.sync.any (fun w => w.item.id == it.id) then (s.dropItem it.id).finishAt it region cell st ⟨1, 0, 0⟩
  else s.failItem it region cell st

/-- How a failure status ranks where causes meet (R37): FAIL_TAMPER first, then FAIL_POISON, FAIL_FAULT, FAIL_RESET. -/
def Status.failRank : Status → Nat
  | .failTamper => 4 | .failPoison => 3 | .failFault => 2 | .failReset => 1 | _ => 0

/-- A completion of this instant that failed for a lower cause than `st` takes `st` and its origin (R37). -/
def Completion.outranked (c : Completion) (now region cell : Nat) (st : Status) : Completion :=
  if c.time = now ∧ 0 < c.status.failRank ∧ c.status.failRank < st.failRank then
    { c with status := st, region := region, cell := cell }
  else c

/-- Item `id`, which has failed at this instant, has failed for the cause of `st` too: its one completion, if it is not
yet written, carries the first cause in the order of R37. -/
def State.alsoFails (s : State) (id region cell : Nat) (st : Status) : State :=
  let up (i : Item) (c : Completion) : Completion := if i.id = id then c.outranked s.devNs region cell st else c
  { s with
    dsp := { s.dsp with entries := s.dsp.entries.map (fun (e : Entry) => match e.place with
      | .ended c => { e with place := .ended (up e.item c) }
      | _ => e) }
    hif := { s.hif with
      rings := s.hif.rings.map (fun (p : Nat × RingRt) => (p.1, { p.2 with
        fin := p.2.fin.map (fun (f : Fin_) => { f with c := up f.item f.c }) }))
      evtWait := s.hif.evtWait.map (fun p => (p.1, p.2.1, up p.2.1 p.2.2)) }
    mqf := { s.mqf with staging := s.mqf.staging.map (fun (p : Nat × Packet) => (p.1, match p.2.ends with
      | some (i, c) => (up i c).packet i
      | none => p.2)) } }

/-- Items fail one after another. -/
def State.failList (s : State) (l : List Item) (region cell : Nat) (st : Status) : State :=
  l.foldl (fun (s : State) it => s.failOne it region cell st) s

/-! ### What a region reset leaves -/

/-- DSP (R95): every flow restarts empty; items that other regions own run on outside their flows, and completions that
waited in DSP for their turn are released. -/
def State.dspReset (s : State) : State :=
  let es := s.dsp.entries
  let s := { s with dsp := { DspRt.reset with
    entries := es.filterMap (fun e => match e.place with
      | .at_ _ => some { e with flow := orphanFlow, reserve := false }
      | _ => none)
    ports := s.dsp.ports.filter (fun p => 64 ≤ p.1) } }
  es.foldl (fun (s : State) e => match e.place with
    | .ended c => s.deliver e.item c
    | _ => s) s

/-- HIF: a SUSPEND or CANCEL that failed leaves its operation running. -/
def State.hifReset (s : State) : State :=
  { s with hif := { s.hif with longs := s.hif.longs.map (fun (l : LongOp) =>
      if l.ctl.isSome then { l with ctl := none, state := .running } else l) } }

/-- Solver lanes in the working count: 8, less the retired ones (cells 0 to 7), less two at thermal level HOT (R165,
R471). -/
def State.workLanes (s : State) : Nat :=
  8 - (s.rgn.retired.filter (fun p => p.1 == 6 && p.2 < 8)).length - (if 2 ≤ s.get B.CHIP_THERM_STS_LEVEL then 2 else 0)

/-- FIX (R168), and the integrity tests restart. -/
def State.fixAllReset (s : State) : State :=
  let s := s.fixReset
  let s := { s with fix := { s.fix with
    missing := none, late := [], removals := [], overRes := [], clean := [], cn0 := [], interfAt := 0 } }
  let s := s.set B.FIX_CAP_UNITS (fieldOf (resetWord Reg.FIX_CAP) B.FIX_CAP_UNITS.lo B.FIX_CAP_UNITS.width)
  (s.setLanes s.workLanes).reportOverload

/-- AIR (R279, R286, R315): context states, schedule, SFN, joins and announcements stay; their items have failed. -/
def State.airReset (s : State) : State :=
  { s with air := { s.air with
    ctx := s.air.ctx.map (fun (p : Nat × AirCtx) => (p.1, { p.2 with
      joining := p.2.joining.map (fun (j : Joining) => { j with item := none }), refusing := none }))
    next := s.air.next.map (fun n => (n.1, n.2.1, none)) } }

/-- PAD (R216, R232): the map, the directory, shapes, discs and reservations stay; the groom pass starts over (R10; log
entry 111). -/
def State.padReset (s : State) : State :=
  (({ s with pad := { s.pad with
    importing := none, exports := [], sweeps := [], sync := [], dir := ⟨0, []⟩, cache := []
    groomFrom := none, groomNext := 0, groomMax := 0 } }).clearLocks.setFlag
    B.PAD_STS_IMPORT_ACTIVE false).reportSweeps

/-- BYL: the line goes static and the token with it, the link is down, and the chip starts over as after boot (R479,
R483, R486). -/
def State.bylReset (s : State) : State :=
  let paired := s.role != roleSolo
  let senior := s.flag B.BYL_PAIR_STS_SENIOR
  let s := if s.role = roleActive then s.sendConfig false else s
  let s := if s.get B.BYL_LINK_STS_STATE = 0 then s else s.linkDown 0
  let s := { s with byl := BylRt.resetAt s.cyc }
  let s := (s.wr Reg.BYL_PAIR_STS 0).setFlag B.BYL_PAIR_STS_SENIOR senior
  s.set B.BYL_PAIR_STS_ROLE (if paired then roleCold else roleSolo)

/-- The runtime state of region `r` after its reset; its items have failed. -/
def State.regionReset (s : State) (r : Nat) : State :=
  let s := s.dropSavedIn r
  let s := { s with rgn := { s.rgn with
    retired := s.rgn.retired.filter (fun p => p.1 != r)
    cellErrs := s.rgn.cellErrs.filter (fun p => p.1 != r)
    restarting := s.rgn.restarting.filter (fun p => p.1 != r)
    infoLevel := Sp.drop s.rgn.infoLevel r } }
  let s := (s.resetRegs r).reportRetired r
  match r with
  | 1 => s.hifReset
  | 2 => s.dspReset
  | 5 =>
    ({ s with gnb := { s.gnb with disabled := [], runClass := 0, runLen := 0, shorts := 0, offAt := none } }).gnbReset
  | 6 => s.fixAllReset
  | 7 => s.padReset
  | 8 => s.gaitReset
  | 9 => s.airReset
  | 10 => s.netReset
  | 11 => s.timReset
  | 12 =>
    let ks := s.tack.holders.map Prod.fst
    let s := { s with tack := { s.tack with holders := [], waits := [], rewrap := none } }
    ks.foldl (fun (s : State) k => s.reportSlot k) s
  | 14 => s.recReset
  | 15 => s.bylReset
  | _ => s

/-! ### Halter mode (R36, R459, R537) -/

/-- The regions that run in halter mode (Table BOOT-12a). -/
def halterRegion (r : Nat) : Bool := r == 1 || r == 3 || r == 9 || r == 11 || r == 12 || r == 13

/-- Whether the regions in halter mode keep an item running: a cue, a SET_TIME, an IMG_WRITE, an item HIF has not passed
on. -/
def State.halterKeeps (s : State) (it : Item) : Bool :=
  let op := it.d.opcode.toNat
  op == 0xB001 && s.tim.cues.any (fun c => c.2.item.id == it.id)
    || s.hif.longs.any (fun l => l.carrier.id == it.id && (l.region == 11 || l.region == 0))
    || op == 0xB003 || op == 0x0020 || (s.hifItems.any (fun x => x.id == it.id))

/-- Every item accepted and not completed, in the order of its entry where it has one. -/
def State.everyItem (s : State) : List Item :=
  dedupItems (s.dsp.entries.filterMap (fun e => match e.place with | .ended _ => none | _ => some e.item)
    ++ ((List.range 16).map (fun r => s.ownedBy r)).flatten)

/-- TIM in halter mode: no source is available (R459); counter, outputs and cues go on. -/
def State.timHalter (s : State) : State :=
  let e := s.errorFs
  let hadSel := s.get B.TIM_STS_SELECTED != 0
  let s := { s with tim := { s.tim with
    sources := [], splitRun := 0, unityRun := 0, step := none
    e0 := if hadSel then e else s.tim.e0, growAt := if hadSel then s.cyc else s.tim.growAt } }
  let s := (s.wr Reg.TIM_SRC_STS 0).setFlag B.TIM_SRC_STS_EXCL_SPOOF (s.flag B.FIX_INTEG_STS_SPOOF_SUSPECT)
  let s := ((s.set B.TIM_STS_SELECTED 0).setFlag B.TIM_STS_DISAGREE false).setFlag B.TIM_STS_FROZEN false
  ((s.setFlag B.TIM_STS_SLEWING false).setFlag B.TIM_STS_STEP_PENDING false).reportTime

/-- The region states of halter mode: those of Table BOOT-12a in HALTER from ROM tables, every other OFF. -/
def State.halterStates (s : State) : State :=
  (List.range 15).foldl (fun (s : State) i =>
    let r := i + 1
    if halterRegion r then
      (((s.setRgnState r rsHalter).setFlag (B.RGN_STATE_GAIT_SRC r) true).wr (Reg.GAIT_VER r) 0).wr (Reg.GAIT_TSET r) 0
    else s.setRgnState r rsOff) s

/-- The chip enters halter mode with a halt cause (R36, R459): items that no halter region keeps running fail with
origin `region`; all of them where `all` (R537). -/
def State.enterHalter (s : State) (cause region : Nat) (all : Bool) : State :=
  let lost := s.everyItem.filter (fun it => all || !s.halterKeeps it)
  let s := s.failList lost region noCell .failReset
  let s := if all then { s with hif := { s.hif with longs := s.hif.longs.filter (fun l => l.state != .suspended) } } else s
  let s := (s.hif.longs.filter (fun (l : LongOp) => l.state == .suspended && l.region != 0 && l.region != 11)).foldl
    (fun (s : State) l => s.dropSaved l) s
  let s := { s.dspReset with rgn := { s.rgn with hs := [], inbox := [], restarting := [] } }
  let s := { s with dsp := { s.dsp with entries := [], ports := [] } }
  let s := s.bylReset
  let s := (s.set B.CHIP_BOOT_STS_PHASE 6).set B.CHIP_BOOT_STS_HALT_CAUSE cause
  let s := s.halterStates.timHalter
  s.setFlag B.AIR_STS_HALTER true

end Sys2Proof.Machine
end

