-- ==== Sys2Proof/Machine/Images.lean ====
section
/-!
DEFINITION. Images, their checks and pairings, and the boot record (R449 to R457).
-/

namespace Sys2Proof.Machine

/-- The debug policy (R464, Table BOOT-13): OPEN, LOCKED, UNLOCKED, DISABLED. -/
def State.policy (s : State) : Nat :=
  let o := s.chip.part.otp
  if o.disabled then 3 else if s.chip.unlocked then 2 else if o.locked then 1 else 0

/-- A failed image check: its order, halt cause and status (Table BOOT-7). -/
structure ImgFail where
  order  : Nat
  cause  : Nat
  status : Status
  deriving DecidableEq, Repr

/-- Check 1: layout, and the directories of a bundle (R26, R27), then FORMAT; `limit` is the room there is. -/
def State.checkLayout (s : State) (i : Image) (bundle : Bool) (limit : Nat) : Option ImgFail :=
  if !i.headOk bundle (s.get B.CHIP_REV_STEP) || limit < i.len || !i.offsetsOk bundle || (bundle && !i.dirsOk) then
    some ⟨1, 1, .rejRange⟩
  else if leAt i.header 0x06 2 != 1 then some ⟨1, 1, .rejVersion⟩
  else none

/-- The OTP entry of a signature block's key is programmed, not revoked, and matches the public keys (R450). -/
def Otp.keyOk (o : Otp) (g : SigBlock) : Bool :=
  g.formed && Sp.find o.keys g.key == some g.keyHash && !o.revoked.testBit g.key

/-- Checks 2 and 3: the signing key and the signatures. -/
def Otp.checkKey (o : Otp) (i : Image) : Option ImgFail :=
  if !o.keyOk i.sig then some ⟨2, 1, .rejKey⟩ else if !i.sig.verifies then some ⟨3, 1, .rejKey⟩ else none

/-- Check 4: the hash. -/
def Image.checkHash (i : Image) : Option ImgFail := if i.hashOk then none else some ⟨4, 1, .rejKey⟩

/-- Checks 5 and 6: rollback and debug build. -/
def State.checkRollback (s : State) (i : Image) (bundle : Bool) : Option ImgFail :=
  let o := s.chip.part.otp
  if i.rollback < (if bundle then o.rollGb else o.rollFw) || 64 < i.rollback then some ⟨5, 2, .rejVersion⟩
  else if i.debug && s.policy != 0 then some ⟨6, 9, .rejVersion⟩ else none

/-- The size of a slot of a kind (Table BOOT-3). -/
def slotSize (bundle : Bool) : Nat := if bundle then 16 * 2 ^ 20 else 32 * 2 ^ 20

/-- The checks of Table BOOT-7 in their order on an image that has `limit` bytes of room; check 4, the hash, where `whole`. A
bundle's hash is checked before its signature (R25). -/
def State.checkIn (s : State) (limit : Nat) (i : Image) (bundle whole : Bool) : Option ImgFail :=
  (s.checkLayout i bundle (min limit (slotSize bundle))).orElse (fun _ =>
    (if whole && bundle then i.checkHash else none).orElse (fun _ =>
      (s.chip.part.otp.checkKey i).orElse (fun _ =>
        (if whole then i.checkHash else none).orElse (fun _ => s.checkRollback i bundle))))

/-- The checks of Table BOOT-7 on an image of a slot. -/
def State.checkImage (s : State) (i : Image) (bundle whole : Bool) : Option ImgFail :=
  s.checkIn (slotSize bundle) i bundle whole

/-- The checks of a slot; an empty or partly written slot fails check 1 (R458). -/
def State.checkSlot (s : State) (i : Option Image) (bundle : Bool) : Option ImgFail :=
  match i with
  | some i => s.checkImage i bundle true
  | none => some ⟨1, 1, .rejRange⟩

/-- A compatibility entry matches a pairing (R454). -/
def CompatEntry.matches (e : CompatEntry) (fw gb : Image) : Bool :=
  e.fwMajor == fw.major && e.fwLo.toNat ≤ fw.minor.toNat && fw.minor.toNat ≤ e.fwHi.toNat
    && e.gbMajor == gb.major && e.gbLo.toNat ≤ gb.minor.toNat && gb.minor.toNat ≤ e.gbHi.toNat

/-- A pairing is tested (R454). -/
def Part.tested (p : Part) (fw gb : Image) : Bool :=
  fw.entries.any (fun e => e.matches fw gb) && gb.entries.any (fun e => e.matches fw gb)
    && (p.rom ++ p.otp.compat).any (fun e => e.matches fw gb)
    && !p.otp.compat.any (fun e => e.withdraw && e.matches fw gb)

/-! ### The boot record (R456, R457) -/

/-- The record that stands where no copy is valid: slot A for both kinds, no trial (R456). -/
def BootRec.none_ : BootRec := ⟨0, false, false, false, false, 0, 0⟩

/-- The standing record of a flash: the valid copy with the higher GEN, and whether it is copy 1. -/
def Flash.standing (f : Flash) : Option (BootRec × Bool) :=
  match BootRec.ofBytes f.rec0, BootRec.ofBytes f.rec1 with
  | some a, some b => if a.gen < b.gen then some (b, true) else some (a, false)
  | some a, none => some (a, false)
  | none, some b => some (b, true)
  | none, none => none

/-- The record in force. -/
def Flash.record (f : Flash) : BootRec := (f.standing.map Prod.fst).getD BootRec.none_

/-- Write a record: to the other copy, GEN one higher; copy 0 with GEN 1 where none was valid. -/
def Flash.writeRec (f : Flash) (r : BootRec) : Flash :=
  match f.standing with
  | some (o, false) => { f with rec1 := { r with gen := (o.gen + 1) % 2 ^ 32 }.bytes }
  | some (o, true) => { f with rec0 := { r with gen := (o.gen + 1) % 2 ^ 32 }.bytes }
  | none => { f with rec0 := { r with gen := 1 }.bytes }

/-- TRIAL as Table BOOT-9 codes it. -/
def BootRec.trial (r : BootRec) : Nat := (if r.trialFw then 1 else 0) + (if r.trialGb then 2 else 0)

/-- What a FLASH boot does to the record first (R457). -/
def BootRec.atBoot (r : BootRec) : BootRec :=
  if 0 < r.tries then { r with tries := r.tries - 1 }
  else { r with fwPref := r.fwPref != r.trialFw, gbPref := r.gbPref != r.trialGb, trialFw := false, trialGb := false }

/-- The flash as a boot leaves it before it chooses a pairing: an invalid record written (R456), a trial counted
(R457). -/
def Flash.atBoot (f : Flash) : Flash :=
  let f := if f.standing.isNone then f.writeRec BootRec.none_ else f
  if f.record.trial = 0 then f else f.writeRec f.record.atBoot

/-- The image of a slot: firmware or bundle, B where `b`. -/
def Flash.slot (f : Flash) (bundle b : Bool) : Option Image :=
  match bundle, b with
  | false, false => f.fwA
  | false, true => f.fwB
  | true, false => f.gbA
  | true, true => f.gbB

/-- Replace the content of a slot. -/
def Flash.setSlot (f : Flash) (bundle b : Bool) (i : Option Image) : Flash :=
  match bundle, b with
  | false, false => { f with fwA := i }
  | false, true => { f with fwB := i }
  | true, false => { f with gbA := i }
  | true, true => { f with gbB := i }

/-- The slots tried, in order (R455). -/
def BootRec.pairings (r : BootRec) : List (Bool × Bool) :=
  [(r.fwPref, r.gbPref), (r.fwPref, !r.gbPref), (!r.fwPref, r.gbPref), (!r.fwPref, !r.gbPref)]

/-- A pairing of slots: its images where it boots, else the halt cause of the check that failed (R455). -/
def State.tryPairing (s : State) (f : Flash) (p : Bool × Bool) : Except Nat (Image × Image) :=
  let fw := f.slot false p.1
  let gb := f.slot true p.2
  match s.checkSlot fw false, s.checkSlot gb true, fw, gb with
  | some e, _, _, _ => .error e.cause
  | none, some e, _, _ => .error e.cause
  | none, none, some fw, some gb => if s.chip.part.tested fw gb then .ok (fw, gb) else .error 3
  | _, _, _, _ => .error 1

/-- The first pairing that boots, or the halt cause of the last check that failed. -/
def State.pickPairing (s : State) (f : Flash) (last : Nat) (ps : List (Bool × Bool)) :
    Except Nat ((Bool × Bool) × Image × Image) :=
  match ps with
  | [] => .error last
  | p :: r =>
    match s.tryPairing f p with
    | .ok (fw, gb) => .ok (p, fw, gb)
    | .error c => s.pickPairing f c r

/-- Report the boot record's TRIAL and TRIES (Table BOOT-15). -/
def State.reportTrial (s : State) (f : Flash) : State :=
  (s.set B.CHIP_BOOT_STS_TRIAL f.record.trial).set B.CHIP_BOOT_STS_TRIES f.record.tries

/-- Replace the flash. -/
def State.setFlash (s : State) (f : Flash) : State :=
  ({ s with chip := { s.chip with part := { s.chip.part with flash := some f } } }).reportTrial f

end Sys2Proof.Machine
end

