-- ==== Sys2Proof/Machine/Boot.lean ====
section
/-!
DEFINITION. Power-on, boot and the full chip reset (R394, R434, R436, R444 to R448, R455, R457, R466, R467, R538). A boot
takes no time in the model: its outcome stands at the instant of the command that starts it (DESIGN CHOICE, log entry
40).
-/

namespace Sys2Proof.Machine

/-! ### DRAM (R434, R436) -/

/-- Usable DRAM in MiB by density code (Table MEM-1). -/
def usableMiB (d : Nat) : Nat := if d = 0 then 3584 else if d = 1 then 7168 else 14336

/-- Size of the map area in MiB. -/
def mapMiB (d : Nat) : Nat := if d = 0 then 512 else 1024

/-- Size of the recorder area in MiB. -/
def recMiB (d : Nat) : Nat := min 4096 (usableMiB d - 300 - mapMiB d - 256)

/-- The sizes of areas 1 to 10 in MiB (Table MEM-2). -/
def areaSizes (d : Nat) : List Nat :=
  [256, 16, 1, 16, 1, 8, 2, mapMiB d, recMiB d, usableMiB d - 300 - mapMiB d - recMiB d]

/-- Report areas `k` and up, from base `base` in MiB. -/
def State.layAreas (s : State) (k base : Nat) (sizes : List Nat) : State :=
  match sizes with
  | [] => s
  | n :: r => ((s.wr64 (Reg.MQF_AREA_BASE k) (base * 2 ^ 20)).wr (Reg.MQF_AREA_SIZE k) n).layAreas (k + 1) (base + n) r

/-- The density code that training finds: both channels fitted, of one supported density (R434, Table MEM-1). -/
def Part.density (p : Part) : Option (Fin 3) :=
  match p.dram with
  | [2, 2] => some 0
  | [4, 4] => some 1
  | [8, 8] => some 2
  | _ => none

/-- DRAM as training finds it: the areas laid out, and what other regions report of them. -/
def State.trainDram (s : State) : State :=
  match s.chip.part.density with
  | none => s.setFlag B.MQF_DRAM_STS_CFG_FAIL true
  | some d =>
    let s := (s.setFlag B.MQF_DRAM_STS_TRAINED true).set B.MQF_DRAM_STS_DENSITY d.val
    let s := s.layAreas 1 0 (areaSizes d.val)
    let s := (s.wr64 Reg.FIX_FST_DRAM (s.areaBase 3)).wr64 Reg.PAD_MAP_DRAM (s.areaBase 8)
    let s := s.set B.PAD_CAP_CELLS (mapMiB d.val * 2 ^ 20 / 32)
    (s.wr64 Reg.REC_AREA_BASE (s.areaBase 9)).set B.REC_AREA_SIZE_SIZE (recMiB d.val)

/-! ### What the boot ROM reports of the part -/

/-- Report POLICY. -/
def State.reportPolicy (s : State) : State := s.set B.CHIP_DEBUG_POLICY s.policy

/-- Report the anti-rollback counters. -/
def State.reportRollback (s : State) : State :=
  (s.set B.CHIP_ROLLBACK_FW s.chip.part.otp.rollFw).set B.CHIP_ROLLBACK_GB s.chip.part.otp.rollGb

/-- Write a 128-bit register, lowest word first. -/
def State.wr128 (s : State) (a v : Nat) : State := (s.wr64 a (v % 2 ^ 64)).wr64 (a + 8) (v / 2 ^ 64)

/-- CHIP_BOOT_NONCE is drawn anew (R464). -/
def State.drawNonce (s : State) : State :=
  let a := s.freeVal
  let s := s.tookFree
  let b := s.freeVal
  s.tookFree.wr128 Reg.CHIP_BOOT_NONCE (a.toNat * 2 ^ 64 + b.toNat)

/-- The root-derived keys (R394 to R396): none where the PUF fails; no KEK while TAMPERED or EXHAUSTED is set. -/
def State.deriveRoot (s : State) : State :=
  let p := s.chip.part
  let kek := p.pufOk && !p.otp.exhausted && p.otp.tampers ≤ p.otp.acks
  let s := ({ s with tack := { s.tack with kek := kek, identity := p.pufOk } }).setFlag B.TACK_STS_PUF_FAIL (!p.pufOk)
  s.reportTack

/-- What the OTP gives the registers at boot. -/
def State.reportPart (s : State) : State :=
  let p := s.chip.part
  let s := (s.set B.CHIP_REV_GRADE p.grade).wr128 Reg.TACK_UID p.otp.uid.toNat
  let s := s.setFlag B.CHIP_DEBUG_SERVICE_OK (s.flag B.WHOA_PLUG_STS_SERVICE_OK)
  s.reportPolicy.reportRollback

/-- The WHOA configuration word: the last slot programmed; unprogrammed, the reset values (R346, Table WHOA-9). -/
def State.whoaConfig (s : State) : State :=
  match s.chip.part.otp.whoa.getLast? with
  | some w =>
    let s := s.setWord Reg.WHOA_CFG (w &&& 0x07FFFFFF#32)
    if s.get B.WHOA_CFG_TP_PERIOD = 0 then s.set B.WHOA_CFG_TP_PERIOD 10 else s
  | none => s

/-! ### The outcome of a boot -/

/-- A boot that ends in halter mode (R447, R459). -/
def State.bootHalter (s : State) (cause : Nat) : State :=
  let s := (s.set B.CHIP_BOOT_STS_PHASE 6).set B.CHIP_BOOT_STS_HALT_CAUSE cause
  s.halterStates.setFlag B.AIR_STS_HALTER true

/-- The default contents of a parameter block from address `a` on: shadow and live (R22). -/
def State.loadParams (s : State) (a : Nat) (data : List Word) : State :=
  match data with
  | [] => s
  | w :: r => ((s.setWord a w).setLive a w).loadParams (a + 4) r

/-- A region loads its tables (R26): each by its CRC-32C; one that does not match is not loaded, and the region stays in
LOADING with a table CRC error (log entry 141). WHOA runs from ROM tables (R20). -/
def State.loadTables (s : State) (r : Nat) (gb : Image) : State :=
  let s := s.setFlag (B.RGN_STATE_GAIT_SRC r) (r == 13)
  if r = 13 then s.setRgnState r rsRun
  else
    let s := (s.wr (Reg.GAIT_VER r) (gb.minor.toNat + gb.major.toNat * 2 ^ 16)).wr (Reg.GAIT_TSET r) (gb.tableSet r)
    match gb.badTable r with
    | none => s.setRgnState r rsRun
    | some g => ((s.rgnInfo r 1 g.block 0xFFF .tableCrc).rgnErr (B.RGN_ERR_BLOCK_ERR r)).setRgnState r rsLoading

/-- Every region runs from the accepted images (R447, R448): tables loaded, parameters at the bundle's defaults (R22), the
queues of Table DSP-13 configured. -/
def State.startRun (s : State) (fw gb : Image) : State :=
  let s := { s with chip := { s.chip with fw := some fw, gb := some gb } }
  let s := (s.wr Reg.CHIP_FW_EPOCH (fw.minor.toNat + fw.major.toNat * 2 ^ 16)).setWord Reg.CHIP_FW_VERSION fw.version
  let s := (s.wr Reg.CHIP_GB_EPOCH (gb.minor.toNat + gb.major.toNat * 2 ^ 16)).setWord Reg.CHIP_GB_VERSION gb.version
  let s := (gb.params.filter (fun b => b.region != 0 && b.region != 13)).foldl (fun (s : State) b =>
    s.loadParams (b.region * 0x100000 + b.offset) b.data) s
  let s := gb.queues.foldl (fun (s : State) q =>
    (s.setWord (Reg.MQF_Q_CFG q.1.val) q.2.1).setWord (Reg.MQF_Q_LIM q.1.val) q.2.2) s
  let s := (List.range 15).foldl (fun (s : State) i => s.loadTables (i + 1) gb) s
  let s := s.reportTrack.setLanes s.workLanes
  (s.setFlag B.AIR_STS_HALTER false).set B.CHIP_BOOT_STS_PHASE 5

/-- A FLASH boot (R455, R457). -/
def State.bootFlash (s : State) : State :=
  match s.chip.part.flash with
  | none => s.bootHalter 1
  | some f0 =>
    let s := s.setFlash f0.atBoot
    let f := f0.atBoot
    let r := f.record
    match s.pickPairing f 1 r.pairings with
    | .error c => s.bootHalter c
    | .ok (p, fw, gb) =>
      let s := (s.setFlag B.CHIP_BOOT_STS_FW_SLOT p.1).setFlag B.CHIP_BOOT_STS_GB_SLOT p.2
      let s := s.setFlag B.CHIP_BOOT_STS_FALLBACK (p != (r.fwPref, r.gbPref))
      let trial := (r.trialFw && p.1 == r.fwPref) || (r.trialGb && p.2 == r.gbPref)
      let s := { s with chip := { s.chip with confirmAt := if trial then some (s.cyc + r.wait * cycS) else none } }
      s.startRun fw gb

/-- HOST_WAIT (R448): HIF runs from ROM tables, and the chip waits for GO. -/
def State.hostWait (s : State) : State :=
  let s := (s.setRgnState 1 rsRun).setFlag (B.RGN_STATE_GAIT_SRC 1) true
  (s.set B.CHIP_BOOT_STS_PHASE 7).set B.CHIP_BOOT_STS_SOURCE 1

/-- The boot ROM runs (R444, R447): the part's fuses, keys and DRAM, then the source the straps name. `tamper` are the
sources of a tamper found at start-up (Table TACK-10): the boot ends in halter mode without keys, under a halt cause
that the spec does not give. -/
def State.boot (s : State) (tamper : Nat) : State :=
  let s := { s with chip := { s.chip with pwrEn := true, headWake := true } }
  let s := s.drawNonce.reportPart
  let s := (s.setRgnState 13 rsRun).setFlag (B.RGN_STATE_GAIT_SRC 13) true
  let s := s.requestStop
  let s := if tamper = 0 then s else s.zeroiseFuses tamper
  let s := s.deriveRoot.trainDram
  let o := s.chip.part.otp
  if s.chip.straps = 3 then s.bootHalter 8
  else if tamper ≠ 0 then s.tookFree.bootHalter (s.freeVal.toNat % 256)
  else if o.exhausted then s.bootHalter 6
  else if !s.chip.part.pufOk then s.bootHalter 5
  else if s.chip.part.density.isNone then s.bootHalter 4
  else if s.chip.straps = 1 then s.hostWait
  else s.bootFlash

/-! ### Power -/

/-- The chip without power: what outlives it is the part's fuses and flash, a zeroise whose steps 3 to 5 have not run (R412),
and the model's own fields. -/
def State.unpowered (s : State) : State :=
  { State.reset with
    pending := s.pending, cyc := s.cyc, freeIdx := s.freeIdx, hostMem := s.hostMem
    tack := { TackRt.reset with zeroise := s.tack.zeroise }
    chip := { ChipRt.reset with powered := false, part := s.chip.part } }

/-- POWER_ON_RESET (R444, R516): power-on or the rise of POR_N samples the straps; `part` is the part fitted, the same as
before where none is given; `tamper` are tamper sources that the always-on latch or a condition at start-up shows;
`rails` whether the switched rails come good within 2 ms (R467). -/
def execPowerOnReset (t : Nat) (straps : BitVec 2) (senior : Bool) (part : Option Part) (tamper : BitVec 10) (rails : Bool)
    (s : State) : Out State :=
  let s := s.to t
  let s := { s.unpowered with chip := { ChipRt.reset with
    part := part.getD s.chip.part, straps := straps, senior := senior } }
  let s := (s.setFlag B.BYL_PAIR_STS_SENIOR senior).whoaConfig.whoaEval
  let src := s.tack.zeroise ||| tamper.toNat
  if rails then ok (({ s with tack := { s.tack with zeroise := 0 } }).boot src)
  else ok { s with chip := { s.chip with railWait := true }, tack := { s.tack with zeroise := src } }

/-- PWR_GOOD_TIMEOUT (R467): the rails are dropped and tried again after 10 ms; the third failure leaves the chip in the
always-on domain. `good` says whether the next attempt brings the rails up. -/
def execPwrGoodTimeout (t : Nat) (good : Bool) (s : State) : Out State :=
  let s := s.to t
  if !s.chip.powered ∨ (!s.chip.railWait ∧ s.chip.wakeAt.isNone) ∨ 3 ≤ s.chip.railTries then ok s
  else
    let s := { s with chip := { s.chip with railTries := s.chip.railTries + 1 } }
    if 3 ≤ s.chip.railTries then
      ok (({ s with chip := { s.chip with wakeAt := none } }).setFlag B.CHIP_PWR_STS_RAIL_FAIL true)
    else if good then
      let s := { s with chip := { s.chip with railTries := 0 } }
      if s.chip.railWait then
        ok (({ s with chip := { s.chip with railWait := false }, tack := { s.tack with zeroise := 0 } }).boot s.tack.zeroise)
      else ok s
    else ok s

/-- POWER_OFF (R466): the chip goes unpowered; the HEAD_n_STOP lines are left to the board pull-ups, high. -/
def execPowerOff (t : Nat) (s : State) : Out State := ok (s.to t).unpowered

/-! ### The full chip reset (R36, R78, R447, R538) -/

/-- Words that a full chip reset leaves: the always-on error record and counter, TACK_TAMPER_CFG and the conditions its domain
watches (Table TACK-14), WHOA, and EN of BYL_PAIR_CFG, which takes effect at that very reset (R535, R13, R343; log
entry 41). -/
def keptThrough (a : Nat) : Bool :=
  a == Reg.CHIP_ERR_INFO || a == Reg.CHIP_RST_CNT || a == Reg.TACK_TAMPER_CFG || a == Reg.TACK_TAMPER_LIVE || (a / 0x100000 == 13) || a == Reg.BYL_PAIR_CFG

/-- An item that stands in no fetch log: it did not come from a ring, or a cue of the ring released it (R368). -/
def Item.unlogged (it : Item) : Bool :=
  match it.src with
  | .ring _ _ => false
  | .internal => it.id != 0
  | _ => true

/-- The results of an epoch item that a full chip reset fails after it has ended: plan outcome FAILED (file 02). -/
def Res.asFailed (r : Res) : Res := ⟨r.r0, r.r1 - r.r1 / 2 ^ 16 % 8 * 2 ^ 16 + 4 * 2 ^ 16, 0⟩

/-- Completions of unlogged items that have ended and are not yet written. -/
def State.unwritten (s : State) : List (Item × Completion) :=
  s.dsp.entries.filterMap (fun e => match e.place with | .ended c => some (e.item, c) | _ => none)
    ++ (s.hif.rings.map (fun p => p.2.fin.map (fun f => (f.item, f.c)))).flatten
    ++ s.mqf.staging.filterMap (fun p => p.2.ends) ++ s.hif.evtWait.map Prod.snd

/-- The items in flight that no fetch log shows, with the results their failing carries: the device answers them itself
(R36; log entry 120). -/
def State.losses (s : State) : List (Item × Res) :=
  (s.everyItem.filter Item.unlogged).map (fun it => (it, if it.obs then s.epochRes it .failed 0 else Res.zero))
    ++ (s.unwritten.filter (fun p => p.1.unlogged)).map (fun p =>
      (p.1, if p.1.obs then p.2.res.asFailed else Res.zero))

/-- A full chip reset recorded as `cause`: WHOA stops the fleet first; every region starts over; the boot runs again;
the items in flight that no fetch log shows, epoch items among them, complete FAIL_RESET to the service firmware, which owns
every function after a reset (R36; file 02, halter mode and chip reset). -/
def State.fullReset (s : State) (cause : Bits) : State :=
  let s := s.requestStop
  let lost := s.losses
  let pair := s.flag B.BYL_PAIR_CFG_EN
  let new : State := { State.reset with
    pending := s.pending, cyc := s.cyc, freeIdx := s.freeIdx, hostMem := s.hostMem
    regs := s.regs.filter (fun p => keptThrough p.1)
    whoa := s.whoa
    net := { NetRt.reset with sent := s.net.sent, stopSeq := s.net.stopSeq }
    byl := BylRt.resetAt s.cyc
    chip := { ChipRt.reset with
      part := s.chip.part, straps := s.chip.straps, senior := s.chip.senior, errResets := s.chip.errResets } }
  let new := (new.set B.CHIP_RST_CAUSE_POWER_ON 0).set cause 1
  let new := (new.setWord Reg.BYL_PAIR_CFG (resetWord Reg.BYL_PAIR_CFG)).setFlag B.BYL_PAIR_CFG_EN pair
  let new := new.setFlag B.BYL_PAIR_STS_SENIOR s.chip.senior
  let new := new.set B.BYL_PAIR_STS_ROLE (if pair then roleCold else roleSolo)
  let new := new.boot 0
  lost.foldl (fun (s : State) p =>
    s.toQueue0 p.1 ⟨p.1.d.tag.toNat, .failReset, false, 0, noCell, s.devNs, p.2⟩) new

/-- CHIP_RST_CMD_FULL_RESET (R538); ignored while a chip error is being handled. -/
def execChipRstCmdFullReset (t : Nat) (rq : Requester) (val : Word) (s : State) : Out State :=
  ok ((s.to t).access rq Reg.CHIP_RST_CMD true (fun s =>
    if fieldOf val 0 16 ≠ 0x8400 then s.chipErr B.CHIP_ERR_STS_BAD_KEY
    else if val.getLsbD 16 ∧ !s.chip.heldReset then s.fullReset B.CHIP_RST_CAUSE_SOFTWARE
    else s))

/-- TRIAL_CONFIRM_TIMEOUT (R457). -/
def execTrialConfirmTimeout (t : Nat) (s : State) : Out State :=
  let s := s.to t
  match s.chip.confirmAt with
  | some c => if c ≤ s.cyc then ok (s.fullReset B.CHIP_RST_CAUSE_TRIAL_TIMEOUT) else ok s
  | none => ok s

/-- ACTIVATE_RESET (R458): 10 ms after IMG_ACTIVATE with RESET_NOW, its completion written. -/
def execActivateReset (t : Nat) (s : State) : Out State :=
  let s := s.to t
  match s.chip.resetAt with
  | some (c, id) => if c ≤ s.cyc ∧ !s.hif.rings.any (fun p => p.2.out.any (fun o => o.id == id)) then ok (s.fullReset B.CHIP_RST_CAUSE_ACTIVATE) else ok s
  | none => ok s

/-- A write of GO in HOST_WAIT: the images are checked and run, or the chip halts (R448). -/
def State.goBoot (s : State) (val : Word) (fw gb : Image) : State :=
  if !val.getLsbD 0 ∨ s.get B.CHIP_BOOT_STS_PHASE ≠ 7 then s
  else
    let kib (lo : Nat) : Nat := s.rd Reg.CHIP_BOOT_HOST_LEN / 2 ^ lo % 2 ^ 16 * 1024
    match s.checkIn (kib 0) fw false true, s.checkIn (kib 16) gb true true with
    | some e, _ => s.bootHalter e.cause
    | none, some e => s.bootHalter e.cause
    | none, none => if s.chip.part.tested fw gb then s.startRun fw gb else s.bootHalter 3

/-- CHIP_BOOT_GO (R448): in HOST_WAIT a write of GO makes the chip read both images, `fw` and `gb` as host memory holds
them, and run the checks. -/
def execChipBootGo (t : Nat) (rq : Requester) (val : Word) (fw gb : Image) (s : State) : Out State :=
  ok ((s.to t).access rq Reg.CHIP_BOOT_GO true (fun s => s.goBoot val fw gb))

end Sys2Proof.Machine
end

