-- ==== Sys2Proof/Machine/Errors.lean ====
section
/-!
DEFINITION. Errors and their escalation from cell to chip (R30 to R38, R100, R343, R535 to R537), crossings between
regions (R15 to R18), and the resets of the host interface (R80, R536).
-/

namespace Sys2Proof.Machine

/-! ### Chip errors (R36, R537) -/

/-- A chip error that asks for a full chip reset: made, or refused by the limit of R537. -/
def State.errorReset (s : State) (region : Nat) : State :=
  let recent := s.chip.errResets.filter (fun c => s.cyc ≤ c + 600 * cycS)
  let limit := s.get B.CHIP_ERR_CTL_RST_LIMIT
  if limit ≠ 0 ∧ limit ≤ recent.length then
    (s.setFlag B.CHIP_ERR_INFO_HALTED_BY_LIMIT true).enterHalter 7 region s.halter
  else
    let s := { s with chip := { s.chip with errResets := recent ++ [s.cyc], heldReset := false } }
    (s.count Reg.CHIP_RST_CNT).fullReset B.CHIP_RST_CAUSE_CHIP_ERROR

/-- A chip error of `cause` (Table MAP-6) in `region` (R36): stop, then halter mode or a full chip reset; in halter mode
always a reset (R537). A reset for a CRITICAL temperature is held until the level falls (Table PWR-5). -/
def State.chipError (s : State) (cause region : Nat) : State :=
  let s := s.requestStop.wr Reg.CHIP_ERR_INFO (region % 16 + cause % 16 * 16)
  if s.halter ∨ s.flag B.CHIP_ERR_CTL_ACTION then
    if cause = 6 then { s with chip := { s.chip with heldReset := true } } else s.errorReset region
  else s.enterHalter (if cause = 5 then 10 else 7) region false

/-- CHIP_ERROR: an error that is a chip error by itself: an uncorrectable interconnect error, a failed version check
after boot (R36, R461). -/
def execChipError (t : Nat) (cause : BitVec 4) (region : Fin 16) (s : State) : Out State :=
  let s := s.to t
  if !s.chip.powered ∨ s.chip.stabled then ok s else ok (s.chipError cause.toNat region.val)

/-- INTERCONNECT_CORRECTED_ERROR (R535, Table MAP-4). -/
def execInterconnectCorrectedError (t : Nat) (s : State) : Out State :=
  let s := s.to t
  if s.chip.powered then ok (s.chipErr B.CHIP_ERR_STS_IC_CORR) else ok s

/-- PLL_LOCK_LOSS: an island clock is lost (R469). -/
def execPllLockLoss (t : Nat) (region : Fin 16) (s : State) : Out State :=
  let s := s.to t
  if s.chip.powered ∧ !s.chip.stabled then ok (s.chipError 4 region.val) else ok s

/-- REF_CLOCK_CHECK (R469): the reference is lost beyond 1,000 ppm of the crystal (`ppb`, the measured error in 10^-9)
or with no edge for 10 µs (`silent`, in ns). -/
def execRefClockCheck (t : Nat) (ppb : Int) (silent : Nat) (s : State) : Out State :=
  let s := s.to t
  if s.chip.powered ∧ !s.chip.stabled ∧ (1000000 < ppb.natAbs ∨ 10000 ≤ silent) then ok (s.chipError 4 0) else ok s

/-! ### Region errors (R33 to R35, R38) -/

/-- A region is between DRAIN and RUN. -/
def State.resetting (s : State) (r : Nat) : Bool :=
  s.rgnState r == rsDrain || s.rgnState r == rsReset || s.rgnState r == rsLoading

/-- The sequence of R33: the region's items fail, its state and registers reset, and it loads its tables; REGION_ERR and
the error record are set as it leaves RESET (Table RGN-9). -/
def State.runReset (s : State) (r block cell : Nat) (cause : ErrCause) : State :=
  let s := s.setRgnState r rsDrain
  let s := s.failList (s.ownedBy r) r noCell .failReset
  let s := (s.setRgnState r rsReset).regionReset r
  let s := s.count (Reg.RGN_RST_CNT r)
  let s := s.setRgnState r rsLoading
  ((s.rgnInfo r 2 block cell cause).rgnErr (B.RGN_ERR_REGION_ERR r))

/-- A region error in region `r` (R33 to R35, R38); a link reset counts toward no limit (R80). -/
def State.regionError (s : State) (r block cell : Nat) (cause : ErrCause) : State :=
  if r = 0 ∨ s.rgnState r = rsOff then s
  else if r = 3 then s.chipError 2 3
  else if cause ≠ .linkReset ∧ 2 ≤ s.recentResets r then s.chipError 1 r
  else
    let s := if cause = .linkReset then s else s.noteReset r
    if s.resetting r then s
    else if r = 13 then
      let s := (s.resetRegs 13).whoaRestart 10
      ((s.count (Reg.RGN_RST_CNT 13)).rgnInfo 13 2 block cell cause).rgnErr (B.RGN_ERR_REGION_ERR 13)
    else s.runReset r block cell cause

/-- REGION_ERROR. -/
def execRegionError (t : Nat) (region : Fin 16) (cause : ErrCause) (s : State) : Out State :=
  ok ((s.to t).regionError region.val 0 0xFFFF cause)

/-! ### Arbitration among crossings (Table RGN-2) -/

/-- The level of an offered item: that of its flow in the dispatcher (DEDUCED, log entry 117). -/
def State.crossLevel (s : State) (h : HsPort) : Nat :=
  match h.item with
  | some it => s.get (B.DSP_FLOW_CFG_PRIO it.flow)
  | none => 0

/-- The key of a port among those of its receiver. -/
def HsPort.key (h : HsPort) : Nat := h.sender * 256 + h.block

/-- The request region `r` takes next: of the highest level, and within it the next port after the one served last
(Table RGN-2). -/
def State.crossNext (s : State) (r : Nat) : Option HsPort :=
  let l := sortBy (fun (a b : HsPort) => a.key ≤ b.key)
    (s.rgn.hs.filter (fun h => h.receiver == r && !h.taken && h.item.isSome && !s.rgn.restarting.contains (r, h.block)))
  let top := l.foldl (fun (m : Nat) h => max m (s.crossLevel h)) 0
  let l := l.filter (fun h => s.crossLevel h == top)
  match Sp.find s.rgn.turn (8 * r + top) with
  | some last => (l.find? (fun h => last < h.key)).or l.head?
  | none => l.head?

/-- The receiver takes the request it serves next: the item is the receiver's from here on (R15). -/
def State.takeCrossing (s : State) (r : Nat) : State :=
  match s.crossNext r with
  | none => s
  | some h =>
    { s with rgn := { s.rgn with
      hs := s.rgn.hs.map (fun (x : HsPort) =>
        if x.receiver = r ∧ x.key = h.key then { x with item := none, taken := true } else x)
      inbox := s.rgn.inbox ++ (h.item.map (fun it => (r, it))).toList
      turn := Sp.put s.rgn.turn (8 * r + s.crossLevel h) h.key } }

/-- The receiver takes up to `n` waiting requests, one after another. -/
def State.takeCrossings (s : State) (r n : Nat) : State :=
  match n with
  | 0 => s
  | n + 1 => (s.takeCrossing r).takeCrossings r n

/-- What a region takes up as it runs again: requests that waited at its ports, in their order (R17); in HIF the kept
doorbells. -/
def State.takeUp (s : State) (r : Nat) : State :=
  let s := s.takeCrossings r s.rgn.hs.length
  if r = 1 then
    (s.hif.rings.map Prod.fst).foldl (fun (s : State) n => if s.doorbellLive n then s.applyKept n else s) s
  else s

/-- RGN_CMD_RESET: a write of RESET to TAG_RGN_CMD; ignored in WHOA and MQF (R33, R35). -/
def execRgnCmdReset (t : Nat) (rq : Requester) (region : Fin 16) (val : Word) (s : State) : Out State :=
  let r := region.val
  let s := s.to t
  if r = 0 then ok s
  else ok (s.access rq (Reg.RGN_CMD r) true (fun s =>
    if val.getLsbD 0 ∧ r ≠ 3 ∧ r ≠ 13 then s.regionError r 0 0xFFFF .software else s))

/-! ### Block errors (R31, R32, R38) -/

/-- A block fails the items of identities `held`, one by one (R31); one that has failed at this instant takes the higher
cause (R37). -/
def State.failHeld (s : State) (r cell : Nat) (held : List Nat) : State :=
  let mine := (s.ownedBy r).filter (fun it => held.contains it.id)
  (held.filter (fun i => !mine.any (fun it => it.id == i))).foldl (fun (s : State) i => s.alsoFails i r cell .failFault)
    (s.failList mine r cell .failFault)

/-- A block error: `held` are the identities of the items the block holds, which the command names (DESIGN CHOICE, log
entry 115). -/
def State.blockError (s : State) (r block cell : Nat) (cause : ErrCause) (held : List Nat) : State :=
  if r = 0 ∨ s.rgnState r = rsOff then s
  else if s.resetting r then s.regionError r block cell cause
  else if s.get (B.RGN_CTL_BLK_LIMIT r) ≤ s.recentRestarts r block then s.regionError r block cell .escalation
  else
    let s := s.noteRestart r block
    if s.rgn.restarting.contains (r, block) then s
    else
      let s := (s.rgnInfo r 1 block cell cause).rgnErr (B.RGN_ERR_BLOCK_ERR r)
      let s := if r = 13 then s.whoaRestart 11 else s
      let s := s.failHeld r (cell % 0x1000) held
      { s with rgn := { s.rgn with restarting := s.rgn.restarting ++ [(r, block)] } }

/-- The areas that region `r` may write (R437, Table MEM-2a). -/
def mayWriteArea (r k : Nat) : Bool :=
  match r with
  | 1 | 4 => k == 1 || k == 2 || k == 10
  | 3 => true
  | 5 => k == 5
  | 6 => k == 3 || k == 4
  | 7 => k == 7 || k == 8
  | 8 => k == 6
  | _ => false

/-- The areas that region `r` may read (R437, Table MEM-2a); those with gait tables read area 2. -/
def mayReadArea (r k : Nat) : Bool :=
  match r with
  | 1 | 3 | 4 => true
  | 0 | 13 => false
  | 5 => k == 1 || k == 2
  | 6 => k == 1 || k == 2 || k == 4 || k == 5
  | 7 => k == 2 || k == 3 || k == 6 || k == 7 || k == 8
  | 8 => k == 2 || k == 3 || k == 6
  | 14 => k == 2 || k == 9
  | 15 => k == 2 || k == 3 || k == 6 || k == 8
  | _ => k == 2

/-- Table MEM-2a and the buffer rule allow the access: a buffer in area 10 that the item names in PTR, while the region holds
the item (R437). -/
def State.dramAllows (s : State) (r : Nat) (x : DramAccess) : Bool :=
  let k := s.areaOf x.addr
  k != 0 && ((if x.write then mayWriteArea r k else mayReadArea r k) ||
    (k == 10 && (s.ownedBy r).any (fun it => some it.id == x.item && decide (it.d.ptr.toNat ≤ x.addr)
      && decide (x.addr < it.d.ptr.toNat + it.d.len.toNat))))

/-- A refused DRAM access: BOUNDS is set, and what it reads is POISON of MQF (R29, R435, R437), which fails the item that
reads it. -/
def State.dramRefused (s : State) (x : DramAccess) : State :=
  let s := s.setFlag B.MQF_DRAM_STS_BOUNDS true
  match x.write, x.item.bind s.itemOf? with
  | false, some it => s.failOne it 3 0xFFF .failPoison
  | _, _ => s

/-- BLOCK_ERROR: a fault of the block, or where `access` is given an access to DRAM that it makes, a block error only where
R437 refuses it. -/
def execBlockError (t : Nat) (region : Fin 16) (block : BitVec 8) (cause : ErrCause) (held : List Nat)
    (access : Option DramAccess) (s : State) : Out State :=
  let s := s.to t
  let r := region.val
  match access with
  | none => ok (s.blockError r block.toNat 0xFFFF cause held)
  | some x =>
    if !s.up r ∨ s.dramAllows r x then ok s
    else ok ((s.dramRefused x).blockError r block.toNat 0xFFFF cause held)

/-- The block's tables load from the verified copy, each by its CRC-32C; in halter mode ROM tables do (R26, R31). -/
def State.blockLoads (s : State) (r block : Nat) : Bool :=
  s.halter || r == 13 ||
    (match s.chip.gb with
    | some g => (g.tables.filter (fun x => x.region == r && x.block == block)).all GaitTable.good
    | none => true)

/-- BLOCK_RESTART_DONE: the block has reloaded its tables, runs again at its ENTRY table and takes the requests that waited
(R31); a table whose CRC does not match is a block error again (R26). -/
def execBlockRestartDone (t : Nat) (region : Fin 16) (block : BitVec 8) (s : State) : Out State :=
  let r := region.val
  let s := s.to t
  if s.rgn.restarting.contains (r, block.toNat) then
    let s := { s with rgn := { s.rgn with
      restarting := s.rgn.restarting.filter (fun p => p != (r, block.toNat)) } }
    if s.blockLoads r block.toNat then ok ((s.takeCrossings r s.rgn.hs.length).count (Reg.RGN_BLK_RST_CNT r))
    else ok (s.blockError r block.toNat 0xFFFF .tableCrc [])
  else ok s

/-- The firmware that SVC enters after its region reset: the copy in DRAM, whose SHA-384 is `svcHash`, or the copy reloaded
from the slot it booted from (R461). -/
def State.svcCopyOk (s : State) (svcHash : Nat) : Bool :=
  match s.chip.fw with
  | some i => leAt i.header 0x20 48 == svcHash ||
      (!s.flag B.CHIP_BOOT_STS_SOURCE && s.chip.part.flash.any (fun f =>
        (f.slot false (s.flag B.CHIP_BOOT_STS_FW_SLOT)).any (fun x => x.header == i.header && x.hashOk)))
  | none => true

/-- REGION_RELOADED: a region in LOADING runs again, from the tables of the bundle, each by its CRC, or from ROM tables in
halter mode (R26, R33, R21); of SVC the copy of its firmware is checked first (R461). -/
def execRegionReloaded (t : Nat) (region : Fin 16) (svcHash : Nat) (s : State) : Out State :=
  let r := region.val
  let s := s.to t
  if r ≠ 0 ∧ s.rgnState r = rsLoading then
    match if s.halter then none else s.chip.gb.bind (fun g => g.badTable r) with
    | some g => ok (s.blockError r g.block 0xFFFF .tableCrc [])
    | none =>
      if r = 4 ∧ !s.halter ∧ !s.svcCopyOk svcHash then ok (s.chipError 5 4)
      else
        let s := if r = 7 then s.padLoad else if r = 6 then s.setLanes s.workLanes else s
        ok ((s.setRgnState r (if s.halter then rsHalter else rsRun)).takeUp r)
  else ok s

/-! ### Cell errors (R30) -/

/-- A pooled cell is retired: its region's capacity falls (R30). -/
def State.retireCell (s : State) (r cell : Nat) (kind : CellKind) : State :=
  let s := s.markRetired r cell
  match kind with
  | .solverLane => s.setLanes s.workLanes
  | .searchUnit => s.set B.FIX_CAP_UNITS (s.get B.FIX_CAP_UNITS - 1)
  | .plannerLane => s.set B.GAIT_STS_LANES (s.get B.GAIT_STS_LANES - 1)
  | .trackingChannel => s.retireChan cell
  | _ => s

/-- A cell error fails the item of identity `item`, if there is one, with FAIL_POISON for bad data or FAIL_FAULT for a
computation fault (Table RGN-2); one that has failed at this instant takes the higher cause (R37). -/
def State.cellFails (s : State) (r cell : Nat) (poison : Bool) (item : Option Nat) : State :=
  let st : Status := if poison then .failPoison else .failFault
  match item with
  | none => s
  | some i =>
    match s.itemOf? i with
    | some it => s.failOne it r (cell % 0x1000) st
    | none => s.alsoFails i r (cell % 0x1000) st

/-- What a cell error does to the cell itself: a tracking channel leaves its record out of the epoch (R128); a key slot is
erased. -/
def State.cellMarks (s : State) (kind : CellKind) (cell : Nat) : State :=
  match kind with
  | .trackingChannel => s.faultChan cell
  | .keySlot => s.putSlot cell none
  | _ => s

/-- The 16th error of a cell within 1 s retires a pooled cell, or is a block error of an identity-bearing one. -/
def State.cellEscalates (s : State) (r : Nat) (kind : CellKind) (cell block : Nat) (held : List Nat) : State :=
  if s.cellHits r cell < 16 then s
  else if kind.pooled then (s.clearHits r cell).retireCell r cell kind
  else (s.clearHits r cell).blockError r block cell .escalation held

/-- A cell error (R30). -/
def State.cellError (s : State) (r : Nat) (kind : CellKind) (cell block : Nat) (cause : ErrCause) (poison : Bool)
    (item : Option Nat) (held : List Nat) : State :=
  if r = 0 ∨ s.rgnState r = rsOff ∨ (r, cell) ∈ s.rgn.retired then s
  else (((s.noteCell r block cell cause).cellFails r cell poison item).cellMarks kind cell).cellEscalates r kind cell block held

/-- CELL_ERROR. -/
def execCellError (t : Nat) (region : Fin 16) (kind : CellKind) (cell : BitVec 16) (block : BitVec 8) (cause : ErrCause)
    (poison : Bool) (item : Option Nat) (held : List Nat) (s : State) : Out State :=
  ok ((s.to t).cellError region.val kind cell.toNat block.toNat cause poison item held)

/-! ### Crossings (R15 to R18) -/

/-- A handshake port is that of `sender`, `receiver` and `block`. -/
def HsPort.is (h : HsPort) (sender receiver block : Nat) : Bool :=
  h.sender == sender && h.receiver == receiver && h.block == block

/-- The source port of DSP that serves items of a region, and the source they then have (Table DSP-1); AIR's and TIM's own
items come by commands of their own, a ring's by DESCRIPTOR_FETCH. -/
def sourcePort (r : Nat) : Option (Nat × Source) :=
  match r with
  | 4 => some (73, .svc)
  | 10 => some (75, .net)
  | 14 => some (77, .rec_)
  | 15 => some (76, .byl)
  | _ => none

/-- A region outside the chain brings an item to its source port of DSP: it waits there for FLOW_ENTRY, and is the
source's until then (R91, R94). -/
def State.bring (s : State) (p : Nat × Source) (x : Item) : State :=
  s.tookId.toPort p.1 { x with id := s.hif.nextId, src := p.2, obs := false, wait := .fresh }

/-- HANDSHAKE_REQUEST: the sender offers an item, and where the receiver serves requests and takes one (`takes`), the item
of the port that is served next is the receiver's (R15, R17, Table RGN-2). A port carries one item at a time. The ports of
DSP are its source ports. -/
def execHandshakeRequest (t : Nat) (sender receiver : Fin 16) (block : BitVec 8) (x : Item) (takes : Bool) (s : State) :
    Out State :=
  let s := s.to t
  match receiver.val == 2, sourcePort sender.val with
  | true, some p => ok (s.bring p x)
  | _, _ =>
    let s := if s.rgn.hs.any (fun h => h.is sender.val receiver.val block.toNat) then s else
      { s with rgn := { s.rgn with
        hs := s.rgn.hs ++ [HsPort.mk sender.val receiver.val block.toNat (some x) false s.cyc]
        inbox := s.rgn.inbox.filter (fun p => p.2.id != x.id) } }
    ok (if takes ∧ s.up receiver.val then s.takeCrossing receiver.val else s)

/-- HANDSHAKE_ACK_SEEN: the acknowledge reaches the sender, whose port is free again (R15). -/
def execHandshakeAckSeen (t : Nat) (sender receiver : Fin 16) (block : BitVec 8) (s : State) : Out State :=
  let s := s.to t
  ok { s with rgn := { s.rgn with
    hs := s.rgn.hs.filter (fun h => !(h.is sender.val receiver.val block.toNat && h.taken)) } }

/-- HANDSHAKE_TIMEOUT (R18): a request unacknowledged for 10 ms while the receiver reports RUN. The 10 ms then start
again, so it repeats while the request stays unacknowledged (DESIGN CHOICE, log entry 117). -/
def execHandshakeTimeout (t : Nat) (sender receiver : Fin 16) (block : BitVec 8) (held : List Nat) (s : State) :
    Out State :=
  let s := s.to t
  match s.rgn.hs.find? (fun h => h.is sender.val receiver.val block.toNat) with
  | some h =>
    if !h.taken ∧ s.rgnState receiver.val = rsRun ∧ h.since + 10 * cycMs ≤ s.cyc then
      let s := { s with rgn := { s.rgn with hs := s.rgn.hs.map (fun (x : HsPort) =>
        if x.is sender.val receiver.val block.toNat then { x with since := s.cyc } else x) } }
      let s := if sender.val = 0 then s else s.rgnErr (B.RGN_ERR_HS_TIMEOUT sender.val)
      ok (s.blockError receiver.val block.toNat 0xFFFF .handshake held)
    else ok s
  | none => ok s

/-! ### Resets of the host interface (R80, R536) -/

/-- The PCIe link is up or down after a reset; where it goes down while the host owns or asks for a function, every
function reverts at the next superframe start, even if the link is back by then (R55; DEDUCED, log entry 108). -/
def State.linkIs (s : State) (up : Bool) : State :=
  let held := s.hif.own != 0 || s.rd Reg.SVC_POLICY_OWN % 32 != 0
  ({ s with hif := { s.hif with linkUp := up, revert := s.hif.revert || (!up && held) } }).reroute

/-- HIF resets as a region, not counted toward R34; every ring is disabled, and its completions are held; the PCIe function
is as after reset (PRESUMED, log entry 116). -/
def State.linkReset (s : State) (up : Bool) : State :=
  let s := s.regionError 1 0 0xFFFF .linkReset
  let s := { s with hif := { s.hif with pcie := PcieRt.reset } }
  let s := ((List.range 64).filter (fun n => s.ringOn n)).foldl (fun (s : State) n =>
    ((s.setFlag (B.HIF_RING_CTL_ENABLE n) false).setFlag (B.HIF_RING_STS_RECOVERING n) false).reportRing n) s
  s.linkIs up

/-- PCIE_LINK_RESET: Function Level Reset, hot reset or link down; `up` says whether the link is up after it (R80). -/
def execPcieLinkReset (t : Nat) (up : Bool) (s : State) : Out State :=
  let s := s.to t
  if s.rgnState 1 = rsOff then ok (s.linkIs up) else ok (s.linkReset up)

/-- PCIE_PERST: PCIE_PERST_N resets HIF only, as a hot reset does (R536). -/
def execPciePerst (t : Nat) (s : State) : Out State :=
  let s := s.to t
  if s.rgnState 1 = rsOff then ok s else ok (s.linkReset false)

end Sys2Proof.Machine
end

