-- ==== Sys2Proof/Machine/Power.lean ====
section
/-!
DEFINITION. Thermal monitoring, the Stabled state and the wake from it (R471 to R477), and the DRAM scrub (R435, R438,
R439).
-/

namespace Sys2Proof.Machine

/-! ### Thermal levels (R471) -/

/-- T_JMAX in °C by grade. -/
def State.tjMax (s : State) : Int := if s.get B.CHIP_REV_GRADE = 1 then 115 else 105

/-- The threshold of level `k` (Table PWR-5). -/
def State.thermThr (s : State) (k : Nat) : Int := s.tjMax + 10 * ((k : Int) - 2)

/-- The hottest of the readings, with the code of its sensor, the lowest where several are equal. -/
def hottest (l : List (Nat × Int)) : Nat × Int :=
  match l with
  | [] => (0, 0)
  | p :: r => r.foldl (fun (b p : Nat × Int) => if b.2 < p.2 then p else b) p

/-- The level after a sample: the highest whose threshold two readings in a row have met, else, once the present level
has stayed 5 °C below for 100 ms, the next one down that has not. -/
def State.nextLevel (s : State) (cur : Nat) : Nat :=
  match [3, 2, 1].find? (fun k => cur < k && 2 ≤ Sp.at s.chip.hotRun 0 k) with
  | some k => k
  | none =>
    let cool (k : Nat) : Bool := match Sp.at s.chip.coolFrom none k with
      | some c => c + 100 * cycMs ≤ s.cyc
      | none => false
    if cur = 0 ∨ !cool cur then cur
    else (([2, 1].filter (fun k => k < cur)).find? (fun k => !cool k)).getD 0

/-- The level changes: FIX gives up or takes back two lanes, CRITICAL is a chip error, a held reset is made once the
level is 1 or below. -/
def State.setLevel (s : State) (k : Nat) (temp : Int) : State :=
  let s := (s.set B.CHIP_THERM_STS_LEVEL k).event .allot 0 2 0 (k + unsigned 8 temp * 256) 0
  let s := s.setLanes s.workLanes
  if k = 3 then s.chipError 6 0
  else if s.chip.heldReset ∧ k ≤ 1 then s.errorReset 0 else s

/-- The hottest reading and its sensor are reported; for each level, the readings in a row that met its threshold and
how long the chip has been 5 °C below it. -/
def State.readTherm (s : State) (h : Nat × Int) : State :=
  let s := (s.set B.CHIP_THERM_STS_HOTTEST (unsigned 8 h.2)).set B.CHIP_THERM_STS_SENSOR h.1
  [1, 2, 3].foldl (fun (s : State) k =>
    let run := if s.thermThr k ≤ h.2 then Sp.at s.chip.hotRun 0 k + 1 else 0
    let from_ := if h.2 ≤ s.thermThr k - 5 then some ((Sp.at s.chip.coolFrom none k).getD s.cyc) else none
    { s with chip := { s.chip with
      hotRun := Sp.store s.chip.hotRun 0 k run, coolFrom := Sp.store s.chip.coolFrom none k from_ } }) s

/-- THERMAL_SAMPLE: every millisecond the sixteen sensors, CHIP's with code 0, are read in °C. -/
def execThermalSample (t : Nat) (readings : List (Fin 16 × BitVec 8)) (s : State) : Out State :=
  let s := s.to t
  if !s.chip.powered ∨ s.chip.stabled ∨ s.chip.railWait ∨ readings.isEmpty then ok s
  else
    let h := hottest (readings.map (fun p => (p.1.val, p.2.toInt)))
    let s := s.readTherm h
    let cur := s.get B.CHIP_THERM_STS_LEVEL
    let k := s.nextLevel cur
    if k = cur then ok s else ok (s.setLevel k h.2)

/-! ### Stabled (R472 to R477) -/

/-- A power event: ALLOT, region 0x0 (R477). -/
def State.powerEvent (s : State) (code r1 r2 : Nat) : State := s.event .allot 0 code 0 r1 r2

/-- What holds the entry into Stabled back (R474). -/
def State.mayStable (s : State) (it : Item) : Bool :=
  !s.halter && s.joinedCtx.isEmpty && s.get B.BYL_LINK_STS_STATE != 3
    && !s.hif.rings.any (fun p => p.2.out.any (fun o => o.id != it.id && o.d.opcode.toNat != 0xB001
      && !s.hif.longs.any (fun l => l.carrier.id == o.id && l.region == 11)))
    && !s.hif.longs.any (fun l => l.region != 11)
    && !((s.get B.CHIP_WAKE_EN_EN).testBit 2 && s.rd64 Reg.CHIP_WAKE_TIME ≤ s.devNs)

/-- Write the completions that wait on a ring while it has room, `k` at most. -/
def State.flushRing (s : State) (n k : Nat) : State :=
  match k with
  | 0 => s
  | k + 1 =>
    match (s.ringOf n).fin with
    | f :: rest => if s.cqRoom n then ((s.setRing n { s.ringOf n with fin := rest }).writeCompletion n f).flushRing n k else s
    | [] => s

/-- The regions that lose their power in Stabled: all but TIM and WHOA; AIR's mark generator, GNB's bursts and HIF's link
partition run on without their region (R472). -/
def offInStabled (r : Nat) : Bool := r != 0 && r != 11 && r != 13

/-- The chip goes to Stabled (R474): powered-down regions keep their RWS registers and parameters, DRAM and key slots;
every other array is lost. -/
def State.enterStabled (s : State) : State :=
  let old := s
  let s := ((List.range 16).filter offInStabled).foldl (fun (s : State) r => s.regionReset r) s
  let s := s.gnbToSleep old
  let s := s.wr Reg.NET_A_STS 0
  let s := ((List.range 16).filter offInStabled).foldl (fun (s : State) r => s.setRgnState r rsOff) s
  let s := { s with
    mqf := MqfRt.reset
    hif := { s.hif with evtWait := [] }
    rgn := { s.rgn with hs := [], inbox := [], restarting := [] }
    chip := { s.chip with stabled := true, headWake := false, pwrEn := false, railTries := 0 } }
  (s.count Reg.CHIP_CNT_STABLED).set B.CHIP_PWR_STS_PSTATE 1

/-- STABLE_ENTER acts: it completes, what its ring can take is written, and the chip goes to Stabled (R474). -/
def State.leaveRun (s : State) (it : Item) : State :=
  let s := s.disarm.finish it 0 .done ⟨s.devNs, 0, 0⟩
  let s := match it.ring? with
    | some n => s.flushRing n (s.ringOf n).fin.length
    | none => s
  s.enterStabled

/-- STABLE_ENTER (R474). Its completion is written before the power goes. -/
def execStableEnter (t : Nat) (it : Item) (s : State) : Out State :=
  let s := s.to t
  ok (s.runOp 0 it (fun i => .stableEnter t i) { Checks.pass with range := it.d.context == 0, state := s.mayStable it }
    (fun s it => s.leaveRun it))

/-- WAKE_SOURCE: source `src` of Table PWR-7 but tamper is confirmed; one that CHIP_WAKE_EN disables is ignored (R475). -/
def execWakeSource (t : Nat) (src : Fin 6) (s : State) : Out State :=
  let s := s.to t
  let early := src.val == 2 && decide (s.devNs < s.rd64 Reg.CHIP_WAKE_TIME)
  if s.chip.stabled ∧ (s.get B.CHIP_WAKE_EN_EN).testBit src.val ∧ !early then
    let s := s.beginWake (2 ^ src.val)
    ok { s with chip := { s.chip with pwrEn := true } }
  else ok s

/-- A region that was off in Stabled starts: it loads its tables from the bundle that runs, or runs from ROM. -/
def State.wakeRegion (s : State) (r : Nat) : State :=
  match s.chip.gb with
  | some g => s.loadTables r g
  | none => s.setRgnState r rsRun

/-- The chip serves again (R476): regions in RUN, the latched doorbells applied, a tamper's steps 2 to 5 run, cue actions
of the sleep taken, WOKEN posted with the device time at that moment. -/
def State.awake (s : State) : State :=
  let src := s.get B.CHIP_PWR_STS_WAKE_SRC
  let s := { s with
    chip := { s.chip with stabled := false, wakeAt := none, headWake := true, pwrEn := true, railTries := 0 } }
  let s := s.gnbWakes.padLoad
  let s := (s.set B.CHIP_PWR_STS_PSTATE 0).setFlag B.CHIP_PWR_STS_WOKEN true
  let s := ((List.range 16).filter offInStabled).foldl (fun (s : State) r => s.wakeRegion r) s
  let s := s.takeUp 1
  let s := if s.tack.zeroise = 0 then s
    else
      let bits := s.tack.zeroise
      ({ s with tack := { s.tack with zeroise := 0 } }).failHolders.zeroiseFuses bits
  s.wakeCues.powerEvent 1 src s.devNs

/-- WAKE_DONE: 8 ms after the wake began the chip serves again (R476). -/
def execWakeDone (t : Nat) (s : State) : Out State :=
  let s := s.to t
  match s.chip.wakeAt with
  | none => ok s
  | some c =>
    if s.cyc < c + 8 * cycMs then ok s else ok s.awake

/-! ### The scrub (R438) -/

/-- SCRUB_WORD: the next word of the scrub is read and found good (0), corrected (1) or uncorrectable (2). -/
def execScrubWord (t : Nat) (found : Fin 3) (s : State) : Out State :=
  let s := s.to t
  if !s.up 3 ∨ s.halter ∨ s.chip.stabled ∨ !s.flag B.MQF_DRAM_STS_TRAINED then ok s
  else
    let v := s.rd64 Reg.MQF_SCRUB_STS
    let a := v % 2 ^ 40
    let passes := v / 2 ^ 40 % 256
    let total := usableMiB (s.get B.MQF_DRAM_STS_DENSITY) * 2 ^ 20
    let s := if found.val = 1 then s.count Reg.MQF_ECC_CE_CNT else if found.val = 2 then s.dramUe a true else s
    let last := decide (total ≤ a + 8)
    ok (s.wr64 Reg.MQF_SCRUB_STS ((if last then 0 else a + 8) + (if last then (passes + 1) % 256 else passes) * 2 ^ 40))

end Sys2Proof.Machine
end

