-- ==== Sys2Proof/Machine/Update.lean ====
section
/-!
DEFINITION. The operations of CHIP on images, fuses and the debug policy (R458, R463, R464).
-/

namespace Sys2Proof.Machine

/-- Checks of an operation whose image or request checks give one first failure `f`, in its own order, and whose state
condition is `state`. -/
def imageChecks (context : Bool) (f : Option Status) (state : Bool) : Checks :=
  ⟨context && f != some .rejRange, f != some .rejVersion, f != some .rejKey, state⟩

/-! ### IMG_WRITE -/

/-- The slot of a kind that was not booted: B where the booted one is A. -/
def State.spareSlot (s : State) (bundle : Bool) : Bool :=
  !s.flag (if bundle then B.CHIP_BOOT_STS_GB_SLOT else B.CHIP_BOOT_STS_FW_SLOT)

/-- No trial runs and no IMG_WRITE runs or is suspended, and flash answers (Table BOOT-10). -/
def State.updatable (s : State) : Bool :=
  match s.chip.part.flash with
  | some f => f.record.trial == 0 && s.chip.writing.isNone
  | none => false

/-- IMG_WRITE (R458): checks 1 to 3, 5 and 6 on the image in host memory, then a long operation. -/
def execImgWrite (t : Nat) (it : Item) (img : Image) (s : State) : Out State :=
  let s := s.to t
  let bundle := argBit it.d.arg0 0
  ok (s.runOp 0 it (fun i => .imgWrite t i img)
    (imageChecks (it.d.context == 0) ((s.checkIn it.d.len.toNat img bundle false).map ImgFail.status) s.updatable)
    (fun s it =>
      let b := s.spareSlot bundle
      let s := { s with chip := { s.chip with writing := some ⟨it.handle.1, it.handle.2, bundle, b, img⟩ } }
      s.startLong it 0 ((it.d.len.toNat + 65535) / 65536 + 1) (if b then 1 else 0)))

/-- The content of a slot of the flash changes. -/
def State.putSlotImage (s : State) (bundle b : Bool) (i : Option Image) : State :=
  match s.chip.part.flash with
  | some f => s.setFlash (f.setSlot bundle b i)
  | none => s

/-- One unit of IMG_WRITE: a sector, or at last the readback of the slot, which then holds `back`. -/
def State.imgUnit (s : State) (l : LongOp) (back : Image) : State :=
  match s.chip.writing with
  | none => s
  | some w =>
    let l := { l with done := l.done + 1 }
    if l.done < l.total then ((s.putSlotImage w.bundle w.slotB none).putLong l).safePoint l
    else
      let s := (s.putSlotImage w.bundle w.slotB (some back))
      let s := { s with chip := { s.chip with writing := none } }
      match s.checkImage back w.bundle true with
      | some e => s.endLong { l with word := l.word + e.order * 256 } .failFault
      | none => s.endLong l .done

/-! ### IMG_ACTIVATE and IMG_CONFIRM -/

/-- The first failure of the slots IMG_ACTIVATE names: Table BOOT-7 on each, then R454. -/
def State.activateFail (s : State) (f : Flash) (fwB gbB : Bool) : Option Status :=
  match s.checkSlot (f.slot false fwB) false, s.checkSlot (f.slot true gbB) true, f.slot false fwB, f.slot true gbB with
  | some e, _, _, _ => some e.status
  | none, some e, _, _ => some e.status
  | none, none, some fw, some gb => if s.chip.part.tested fw gb then none else some .rejVersion
  | _, _, _, _ => some .rejRange

/-- The checks of IMG_ACTIVATE. -/
def State.activateChecks (s : State) (d : Desc) : Checks :=
  let wait := argBits d.arg0 31 16
  imageChecks (d.context == 0 && d.ptr == 0 && d.len == 0 && 60 ≤ wait && wait ≤ 3600)
    (s.chip.part.flash.bind (fun f => s.activateFail f (argBit d.arg0 0) (argBit d.arg0 1))) s.updatable

/-- The boot record after IMG_ACTIVATE: the preferred slots and WAIT are set; a slot that was not preferred runs as a
trial of three tries. -/
def BootRec.activated (r : BootRec) (fwB gbB : Bool) (wait : Nat) : BootRec :=
  let tf := r.fwPref != fwB
  let tg := r.gbPref != gbB
  { r with
    fwPref := fwB, gbPref := gbB, trialFw := tf, trialGb := tg, tries := if tf || tg then 3 else r.tries, wait := wait }

/-- IMG_ACTIVATE acts: the boot record is written; with RESET, the full reset follows 10 ms later. -/
def State.activateImages (s : State) (it : Item) : State :=
  match s.chip.part.flash with
  | none => s
  | some f =>
    let s := s.setFlash (f.writeRec (f.record.activated (argBit it.d.arg0 0) (argBit it.d.arg0 1)
      (argBits it.d.arg0 31 16)))
    let s := s.finish it 0 .done
    if argBit it.d.arg0 32 then { s with chip := { s.chip with resetAt := some (s.cyc + 10 * cycMs, it.id) } } else s

/-- IMG_ACTIVATE (R458). -/
def execImgActivate (t : Nat) (it : Item) (s : State) : Out State :=
  let s := s.to t
  ok (s.runOp 0 it (fun i => .imgActivate t i) (s.activateChecks it.d) (fun s it => s.activateImages it))

/-- IMG_CONFIRM acts: the anti-rollback counters rise to the running images', and a trial ends. -/
def State.confirmImages (s : State) (it : Item) : State :=
  let host := s.flag B.CHIP_BOOT_STS_SOURCE
  let o := s.chip.part.otp
  let o := { o with
    rollFw := max o.rollFw ((s.chip.fw.map Image.rollback).getD 0)
    rollGb := max o.rollGb ((s.chip.gb.map Image.rollback).getD 0) }
  let s := (s.setOtp o).reportRollback
  let s := { s with chip := { s.chip with confirmAt := none } }
  let s := match s.chip.part.flash with
    | some f => if host then s else s.setFlash (f.writeRec { f.record with trialFw := false, trialGb := false })
    | none => s
  s.finish it 0 .done ⟨o.rollFw + o.rollGb * 256, 0, 0⟩

/-- A trial runs (Table BOOT-9). -/
def State.trialRuns (s : State) : Bool := match s.chip.part.flash with | some f => f.record.trial != 0 | none => false

/-- IMG_CONFIRM (R458): each anti-rollback counter rises to the running image's value; the trial ends. -/
def execImgConfirm (t : Nat) (it : Item) (s : State) : Out State :=
  let s := s.to t
  let host := s.flag B.CHIP_BOOT_STS_SOURCE
  ok (s.runOp 0 it (fun i => .imgConfirm t i)
    { Checks.pass with range := it.d.context == 0 && it.d.ptr == 0 && it.d.len == 0, state := !s.halter && (host || s.trialRuns) }
    (fun s it => s.confirmImages it))

/-! ### OTP_PROGRAM (R463) -/

/-- The signature of a request fails (R450, R463); a key may not revoke itself. -/
def Otp.reqKeyFails (o : Otp) (r : OtpReq) : Bool :=
  !o.keyOk r.sig || !r.sig.verifies || (r.group == 3 && r.sig.key == r.index)

/-- The checks of an OTP request of `len` bytes but its state: header, group, UID, signature. -/
def State.otpFail (s : State) (r : OtpReq) (len : Nat) : Option Status :=
  let o := s.chip.part.otp
  if !r.magicOk || r.group = 0 || 4 < r.group || (r.uid != 0 && r.uid != o.uid) || (r.group == 3 && 7 < r.index)
      || len < r.size then some .rejRange
  else if r.format != 1 then some .rejVersion
  else if r.signed && o.reqKeyFails r then some .rejKey
  else none

/-- The state conditions of Table BOOT-12. -/
def State.otpState (s : State) (r : OtpReq) : Bool :=
  let o := s.chip.part.otp
  let maint := s.get B.WHOA_KEY_POS == 1
  match r.group with
  | 1 => maint && decide (o.whoa.length < 4)
  | 2 => decide (o.compat.length < 32)
  | 3 => (List.range 8).any (fun k => k != r.index && (Sp.find o.keys k).isSome && !o.revoked.testBit k)
  | 4 => maint && !(o.locked && !r.value.getLsbD 0) && !(o.disabled && !r.value.getLsbD 1)
  | _ => false

/-- The fuses after programming. -/
def Otp.program (o : Otp) (r : OtpReq) : Otp :=
  match r.group with
  | 1 => { o with whoa := o.whoa ++ [r.value.truncate 32] }
  | 2 => { o with compat := o.compat ++ [CompatEntry.ofBytes (leBytes 16 r.value.toNat)] }
  | 3 => { o with revoked := o.revoked ||| 2 ^ r.index }
  | _ => { o with locked := o.locked || r.value.getLsbD 0, disabled := o.disabled || r.value.getLsbD 1 }

/-- OTP_PROGRAM. A readback mismatch completes FAIL_FAULT and leaves the fuses as the model holds them (log entry 42). -/
def execOtpProgram (t : Nat) (it : Item) (r : OtpReq) (s : State) : Out State :=
  let s := s.to t
  ok (s.runOp 0 it (fun i => .otpProgram t i r) (imageChecks (it.d.context == 0) (s.otpFail r it.d.len.toNat) (s.otpState r))
    (fun s it =>
      if r.readback then ((s.setOtp (s.chip.part.otp.program r)).reportPolicy).finish it 0 .done
      else s.finish it 0 .failFault))

/-! ### DEBUG_UNLOCK (R464) -/

/-- The checks of an unlock request of `len` bytes but its state. -/
def State.unlockFail (s : State) (r : OtpReq) (len : Nat) : Option Status :=
  let o := s.chip.part.otp
  let nonce := s.rd64 Reg.CHIP_BOOT_NONCE + s.rd64 (Reg.CHIP_BOOT_NONCE + 8) * 2 ^ 64
  if !r.magicOk || r.group != 5 || r.uid != o.uid || r.nonce != nonce || len < r.size then some .rejRange
  else if r.format != 1 then some .rejVersion
  else if o.reqKeyFails r then some .rejKey
  else none

/-- The debug policy is UNLOCKED: TACK erases every slot and withholds its keys. -/
def State.unlockDebug (s : State) : State :=
  let s := { s with chip := { s.chip with unlocked := true } }
  let s := s.reportPolicy.eraseKeys
  let s := { s with tack := { s.tack with withheld := true } }
  (s.reportTack).setFlag B.AIR_STS_BEACON_NOKEY true

/-- DEBUG_UNLOCK: the policy is UNLOCKED until the next reset; TACK erases every slot and withholds its keys; AIR has no
beacon key. -/
def execDebugUnlock (t : Nat) (it : Item) (r : OtpReq) (s : State) : Out State :=
  let s := s.to t
  ok (s.runOp 0 it (fun i => .debugUnlock t i r) (imageChecks (it.d.context == 0) (s.unlockFail r it.d.len.toNat) (s.policy == 1))
    (fun s it => s.unlockDebug.finish it 0 .done))

end Sys2Proof.Machine
end

