-- ==== Sys2Proof/Machine/Dispatcher.lean ====
section
/-!
DEFINITION. The dispatcher (R91 to R102): entering a flow, dispatch to a stage, the release of completions, and the
observation registers.
-/

namespace Sys2Proof.Machine

/-- Operations that do not wait in their flow (R92): NET_TX and NET_RX, FIRE, DISARM and DISCARD of REC (R427). -/
def passesFlow (op : Nat) : Bool :=
  op == 0xA001 || op == 0xA002 || op == 0xE002 || op == 0xE003 || op == 0xE005

/-- The item whose descriptor names the work that an entry carries: of a RESUME, the start of its operation (R86). -/
def State.workOf (s : State) (it : Item) : Item :=
  match s.hif.longs.find? (fun l => l.carrier.id == it.id) with
  | some l => { it with d := l.start }
  | none => it

/-- The first stage of an item (Table DSP-2): epoch items begin with the FIX solve; an operation goes to its region. -/
def Item.firstStage (it : Item) : Stage :=
  if it.obs then .fix
  else match it.region with
    | 6 => .fix
    | 7 => .pad
    | 8 => .gait
    | r => .outside r

/-! ### The pool (R97) -/

/-- Shared entries of the pool, and OBS reserve entries of a flow. -/
abbrev sharedEntries : Nat := 14344
/-- OBS reserve entries of a flow. -/
abbrev reservePerFlow : Nat := 8
/-- Free shared entries that only OBS items take. -/
abbrev obsShare : Nat := 2048

/-- Free shared entries. -/
def State.freeShared (s : State) : Nat :=
  sharedEntries - (s.dsp.entries.filter (fun e => !e.reserve && e.flow != orphanFlow)).length

/-- Reserve entries of flow `f` in use. -/
def State.reserveUsed (s : State) (f : Nat) : Nat := ((s.flowEntries f).filter Entry.reserve).length

/-- Report FREE, OBS_RSV and curb (Table DSP-6). -/
def State.reportPool (s : State) : State :=
  ((s.set B.DSP_POOL_STS_FREE s.freeShared).set B.DSP_POOL_STS_OBS_RSV
    (s.dsp.entries.filter (fun e => e.reserve)).length).reportCurb

/-- What becomes of the item at the head of a source port (R94, R97, R99, R100). -/
inductive Admission where
  /-- Accepted; `true` with an entry of the OBS reserve. -/
  | take (reserve : Bool)
  /-- It stays at its port. -/
  | stay
  /-- An OBS item that finds no entry. -/
  | obsFails
  deriving DecidableEq, Repr

/-- Curb holds the items of source port `p` (Table DSP-3). -/
def portCurbed (p : Nat) : Bool := p < 64 || 73 ≤ p

/-- Whether the dispatcher accepts `it` from port `p` now. -/
def State.admits (s : State) (p : Nat) (it : Item) : Admission :=
  let f := (s.workOf it).flow
  if it.obs then
    if 1 ≤ f ∧ f ≤ 255 ∧ s.reserveUsed f < reservePerFlow then .take true
    else if 0 < s.freeShared then .take false
    else .obsFails
  else if s.get (B.DSP_FLOW_CFG_MAX_INFLIGHT f) ≤ s.inflight f then .stay
  else if s.freeShared ≤ obsShare then .stay
  else if s.flag B.DSP_POOL_STS_CURB ∧ portCurbed p then .stay
  else .take false

/-- The item of source port `p` that comes next: a RESUME, which takes no entry of the ring's input buffer and is not held
by it (R83), where its flow accepts it; else the first in order (R98). -/
def State.portNext (s : State) (p : Nat) : Option Item :=
  let l := Sp.at s.dsp.ports [] p
  (l.find? (fun x => actsAtFetch x.d.opcode.toNat && s.admits p x == .take false)).or
    (l.find? (fun x => !actsAtFetch x.d.opcode.toNat))

/-- A lower source port offers an item of the same flow that would be accepted: it enters first (R91). -/
def State.lowerFirst (s : State) (p f : Nat) : Bool :=
  s.dsp.ports.any (fun q => q.1 < p && (match s.portNext q.1 with
    | some x => (s.workOf x).flow == f && (match s.admits q.1 x with | .take _ => true | _ => false)
    | none => false))

/-- An item takes an entry at the end of flow `f`, bound for stage `st`. -/
def State.enterFlow (s : State) (it : Item) (f : Nat) (reserve : Bool) (st : Stage) : State :=
  let e : Entry := ⟨it, f, reserve, .waiting st s.cyc⟩
  (({ s with dsp := { s.dsp with entries := s.dsp.entries ++ [e] } }).reportPool).reportFlow f

/-- FLOW_ENTRY: the next item of source port `port` enters its flow (R91, R94, R97 to R100). An OBS item that finds no entry
is a block error of the admission block (R100; its index: log entry 115). -/
def execFlowEntry (t : Nat) (port : Fin 78) (s : State) : Out State :=
  let p := port.val
  let s := s.to t
  if !s.runs 2 blkReady then ok s
  else match s.portNext p with
    | none => ok s
    | some it =>
      let f := (s.workOf it).flow
      if s.lowerFirst p f then ok s
      else match s.admits p it with
        | .stay => ok s
        | .obsFails => ok (s.blockError 2 blkReady f .obsAdmission [])
        | .take reserve =>
          let rest := (Sp.at s.dsp.ports [] p).filter (fun x => x.id != it.id)
          let s := { s with dsp := { s.dsp with ports := Sp.store s.dsp.ports [] p rest } }
          let s := s.enterFlow it f reserve (s.workOf it).firstStage
          ok (if p < 64 then s.reportRingCurb p else s)

/-! ### Dispatch (R92, R96) -/

/-- An item at its stage holds its flow: it waits on its WHEN, or carries a running long operation (R92). -/
def State.holdsFlow (s : State) (it : Item) : Bool :=
  s.waiting.any (fun c => (c.item?.map Item.id) == some it.id)
    || s.hif.longs.any (fun l => l.carrier.id == it.id && l.state != .suspended)

/-- Whether an earlier entry of its flow lets an item go on to position `p`. -/
def State.letsPass (s : State) (e : Entry) (p : Nat) : Bool :=
  match e.place with
  | .ended _ => true
  | .at_ st => p < st.pos && !s.holdsFlow e.item
  | .waiting _ _ => false

/-- The entry of the ready lists of stage `st` that a flow has: its first entry that waits for the stage and that R92
lets go there; `before` are the entries in front of the list, latest first. -/
def State.readyFrom (s : State) (st : Stage) (before es : List Entry) : Option Entry :=
  match es with
  | [] => none
  | e :: r =>
    match e.place with
    | .waiting w _ =>
      if w = st ∧ (passesFlow e.item.d.opcode.toNat ∨ before.all (fun b => s.letsPass b st.pos)) then some e
      else s.readyFrom st (e :: before) r
    | _ => s.readyFrom st (e :: before) r

/-- The ready entry of flow `f` for stage `st`. -/
def State.readyOf (s : State) (st : Stage) (f : Nat) : Option Entry := s.readyFrom st [] (s.flowEntries f)

/-- Flows with an entry, in ascending order. -/
def State.flowsUsed (s : State) : List Nat :=
  (s.dsp.entries.foldl (fun (m : Sp Unit) e => if e.flow = orphanFlow then m else Sp.put m e.flow ()) []).map Prod.fst

/-- The number of a stage port. -/
def Stage.port : Stage → Nat
  | .fix => 0 | .gait => 1 | .pad => 2 | .pack => 3 | .air => 4 | .outside r => 5 + r

/-- The ready entries of a stage, one for each flow; an undefined operation that a fence holds is not yet ready: it would
complete at its dispatch (R65). -/
def State.ready (s : State) (st : Stage) : List Entry :=
  (s.flowsUsed.filterMap (fun f => s.readyOf st f)).filter (fun e =>
    knownOp e.item.d.opcode.toNat || e.item.obs || !s.fenced e.item)

/-- The level of an entry. -/
def State.levelOf (s : State) (e : Entry) : Nat := s.get (B.DSP_FLOW_CFG_PRIO e.flow)

/-- The entry a stage is offered: of the highest level, the next flow after the one served last (R96). -/
def State.offered (s : State) (st : Stage) : Option Entry :=
  let l := s.ready st
  let top := l.foldl (fun (m : Nat) e => max m (s.levelOf e)) 0
  let l := l.filter (fun e => s.levelOf e == top)
  match Sp.find s.dsp.turn (st.port * 8 + top) with
  | none => l.head?
  | some last => (l.find? (fun e => last < e.flow)).or l.head?

/-- The bin of a wait (R101). -/
def waitBin (ns : Nat) : Nat := if ns < 1000 then 0 else min 15 (Nat.log2 (ns / 1000) + 1)

/-- Count a wait of `ns` (R101). -/
def WaitStat.add (w : WaitStat) (ns : Nat) : WaitStat where
  min_  := min w.min_ ns
  max_  := sat32 (max w.max_ ns)
  count := sat32 (w.count + 1)
  sum   := min (w.sum + ns) (2 ^ 64 - 1)
  hist  := Sp.put w.hist (waitBin ns) (sat32 (Sp.at w.hist 0 (waitBin ns) + 1))

/-- Put an entry at stage `st`. -/
def State.atStage (s : State) (e : Entry) (st : Stage) : State :=
  { s with dsp := { s.dsp with entries := s.dsp.entries.map (fun x =>
      if x.item.id = e.item.id then { x with place := .at_ st } else x) } }

/-- A shadow epoch of a standby ends after its solve, without a completion (Table BYL-1). -/
def State.dropShadow (s : State) (e : Entry) : State :=
  let s := { s with dsp := { s.dsp with entries := s.dsp.entries.filter (fun x => x.item.id != e.item.id) } }
  let s := { s with fix := { s.fix with
    obs := Sp.drop s.fix.obs e.item.id, solved := Sp.drop s.fix.solved e.item.id } }
  s.reportPool.reportFlow e.flow

/-- The item of `e` reaches stage `st`. -/
def State.reach (s : State) (e : Entry) (st : Stage) : State :=
  let it := e.item
  if !it.obs ∧ !knownOp it.d.opcode.toNat then s.finish it it.region .rejOpcode
  else if it.obs ∧ st = .gait ∧ s.standby then s.dropShadow e
  else
    let s := s.atStage e st
    match st with
    | .gait => s.reportReplans
    | .pad => match Sp.find s.gait.drafts it.id with
      | some d => s.enqueueSweep it d.req none
      | none => s
    | .air => s.handOver it
    | _ => s

/-- The block of the region at stage `st` that the stage port belongs to: for a region outside the chain, the one that
executes the item (R31; log entry 115). -/
def Stage.block (st : Stage) (it : Item) : Nat :=
  match st with
  | .fix => blkSolver | .gait => blkPlanner | .pad => blkSweeper | .pack => blkPacker | .air => blkSched
  | .outside _ => blockOf it.d.opcode.toNat

/-- STAGE_DISPATCH: a stage port that can accept takes the item it is offered (R92, R96). -/
def execStageDispatch (t : Nat) (st : Stage) (s : State) : Out State :=
  let s := s.to t
  if !s.runs 2 blkReady ∨ !s.up st.region then ok s
  else match s.offered st with
    | none => ok s
    | some e =>
      if !s.runs st.region (st.block e.item) then ok s
      else
      let ns := match e.place with | .waiting _ since => (s.cyc - since) * 2 | _ => 0
      let s := { s with dsp := { s.dsp with
        turn := Sp.put s.dsp.turn (st.port * 8 + s.levelOf e) e.flow
        stats := Sp.put s.dsp.stats e.flow ((Sp.at s.dsp.stats WaitStat.zero e.flow).add ns) } }
      ok ((s.reach e st).reportFlow e.flow)

/-! ### Completions (R93) -/

/-- Deliver the entries of a list that have ended, up to the first that has not: the completions of a flow in the order
of its entries. -/
def State.releaseFront (s : State) (es : List Entry) : State :=
  match es with
  | [] => s
  | e :: r =>
    match e.place with
    | .ended c =>
      let s := { s with dsp := { s.dsp with entries := s.dsp.entries.filter (fun x => x.item.id != e.item.id) } }
      (s.deliver e.item c).releaseFront r
    | _ => s

/-- COMPLETION_RELEASE: DSP releases what has ended at the front of a flow. -/
def execCompletionRelease (t : Nat) (flow : Fin 1024) (s : State) : Out State :=
  let s := s.to t
  if !s.runs 2 blkRelease then ok s
  else ok ((s.releaseFront (s.flowEntries flow.val)).reportPool.reportFlow flow.val)

/-! ### Observation (R101, R102) -/

/-- Write the snapshot of a flow's waits (Table DSP-4). -/
def State.showWaits (s : State) (w : WaitStat) : State :=
  let s := ((s.wr Reg.DSP_OBS_MIN w.min_).wr Reg.DSP_OBS_MAX w.max_).wr Reg.DSP_OBS_COUNT w.count
  let s := s.wr64 Reg.DSP_OBS_SUM w.sum
  (List.range 16).foldl (fun (s : State) k => s.wr (Reg.DSP_OBS_HIST k) (Sp.at w.hist 0 k)) s

/-- DSP_OBS_SEL_WRITE. -/
def execDspObsSelWrite (t : Nat) (rq : Requester) (val : Word) (s : State) : Out State :=
  ok ((s.to t).access rq Reg.DSP_OBS_SEL true (fun s =>
    let f := fieldOf val 0 10
    let s := s.showWaits (Sp.at s.dsp.stats WaitStat.zero f)
    if val.getLsbD 16 then { s with dsp := { s.dsp with stats := Sp.drop s.dsp.stats f } } else s))

/-- DSP_LOAD_SEL_WRITE: `busy` and `win` are the cycles the cell reports. -/
def execDspLoadSelWrite (t : Nat) (rq : Requester) (val busy win : Word) (s : State) : Out State :=
  ok ((s.to t).access rq Reg.DSP_LOAD_SEL true (fun s =>
    let gone := s.rgn.retired.contains (fieldOf val 0 4, fieldOf val 4 16)
    (s.setWord Reg.DSP_LOAD_BUSY (if gone then 0 else busy)).setWord Reg.DSP_LOAD_WIN (if gone then 0 else win)))

end Sys2Proof.Machine
end

