-- ==== Sys2Proof/Machine/Queues.lean ====
section
/-!
DEFINITION. The commands of the ping-pong queues (R104 to R116).
-/

namespace Sys2Proof.Machine

/-- The queue accepts pushes and pops: MQF runs and ENABLE is set (Table DSP-15). -/
def State.queueOn (s : State) (q : Nat) : Bool := s.runs 3 blkQueues && s.flag (B.MQF_Q_CFG_ENABLE q)

/-- Queues 0 to 8 take packets through a merge port (R115). -/
def isMerge (q : Nat) : Bool := q < 9

/-- The regions that produce into queue `q` (Table DSP-13): any into 0 to 8; the service firmware assigns 96 to 127, and the
gait bundle 64 to 95, to any. -/
def producerOk (q r : Nat) : Bool :=
  if q < 9 then true
  else if q < 25 then r == 9
  else if q = 25 then r == 5
  else if q < 34 then r == 14
  else if q < 36 then r == 10
  else if q < 38 then r == 3
  else if q < 64 then 6 ≤ r && r ≤ 9
  else true

/-- The capture source that feeds queue `q` (Table DSP-13). -/
def captureOf (q : Nat) : Option Nat := if 26 ≤ q ∧ q ≤ 33 then some (q - 26) else none

/-- A producer of region `r` writes to its staging buffer of merge queue `q`; while that holds a closed packet it is
curbed (R115). -/
def State.stagePush (s : State) (q r : Nat) (p : QPush) : State :=
  let k := 16 * q + r
  if (Sp.find s.mqf.staging k).isSome then s
  else match p, Sp.find s.mqf.building k with
    | .openPkt, none => { s with mqf := { s.mqf with building := Sp.put s.mqf.building k ⟨0, 0, [], [], none⟩ } }
    | .word d o, some x =>
      let poison := match o with | some o => Sp.put x.poison x.data.length o | none => x.poison
      { s with mqf := { s.mqf with building := Sp.put s.mqf.building k { x with data := x.data ++ [d], poison := poison } } }
    | .closePkt flow w, some x =>
      { s with mqf := { s.mqf with
        building := Sp.drop s.mqf.building k, staging := Sp.put s.mqf.staging k { x with flow := flow, word := w } } }
    | _, _ => s

/-- A push and what it causes: an overrun is a cell error of the queue (R110), a refused push of a capture source ends
the capture (R423). -/
def State.pushFrom (s : State) (q r : Nat) (p : QPush) : State :=
  let (s, refused, overran) := s.pushOne q r p
  let s := if overran then s.cellError 3 .queue q 0 .illegalStep false none [] else s
  match captureOf q with
  | some n => if refused then s.recOverflow n else s
  | none => s

/-- A push of a producer: a capture source pushes the next word it has formed (R417); any other queue takes `p`. -/
def State.produce (s : State) (q r : Nat) (p : QPush) : State :=
  match captureOf q with
  | some n => (match s.nextFormed n with
    | some (s, w) => s.pushFrom q r (.word w none)
    | none => s)
  | none => s.pushFrom q r p

/-- QUEUE_PUSH: a producer of region `producer`, one that Table DSP-13 gives the queue, pushes alone in this cycle (R107 to
R110, R114). -/
def execQueuePush (t : Nat) (q : Fin 128) (producer : Fin 16) (p : QPush) (s : State) : Out State :=
  let s := s.to t
  if !producerOk q.val producer.val then ok s
  else if isMerge q.val then ok (if s.runs 3 blkQueues then s.stagePush q.val producer.val p else s)
  else if s.queueOn q.val then ok ((s.produce q.val producer.val p).swapBanks q.val)
  else ok s

/-- A pop and what it causes: a parity failure is a cell error of the queue (R105); the DRAM writer takes the word of a
capture source; an item into which the consumer takes a POISON word fails with the origin of its parity check (R29,
R105). -/
def State.popTo (s : State) (q : Nat) (hit : Bool) (into : Option Nat) : State :=
  let had := !(s.queueOf q).drain.isEmpty
  let (s, w, bad) := s.popOne q hit
  let s := if bad then s.cellError 3 .queue q 0 .parity false none [] else s
  match captureOf q with
  | some n => if had then s.recWord n w else s
  | none => match w.origin, into.bind s.itemOf? with
    | some o, some it => if w.tag = 7#3 then s.failOne it o.1 (o.2 % 0x1000) .failPoison else s
    | _, _ => s

/-- QUEUE_POP: a consumer that takes its words into item `into`, if into one, pops, with the push of the same cycle where
there is one; the pop acts on the drain bank as it stood (R113, Table DSP-11). A consumer that waits for BURST words does
not pop (R112). -/
def execQueuePop (t : Nat) (q : Fin 128) (push : Option QPush) (hit : Bool) (into : Option Nat) (s : State) :
    Out State :=
  let s := s.to t
  if s.queueOn q.val then
    let s := if s.mayRead q.val then s.popTo q.val hit into else s
    let s := match push with
      | some p => if isMerge q.val then s else s.produce q.val 0 p
      | none => s
    ok (s.swapBanks q.val)
  else ok s

/-- QUEUE_READ_TIMEOUT (R112); an MQF cycle is 1 ns. -/
def execQueueReadTimeout (t : Nat) (q : Fin 128) (s : State) : Out State :=
  let s := s.to t
  let n := q.val
  let x := s.queueOf n
  let qto := s.get (B.MQF_Q_LIM_QTO n)
  if s.queueOn n ∧ qto ≠ 0 ∧ !(x.drain.isEmpty && x.fill.isEmpty) ∧ !x.reading ∧ qto ≤ (s.cyc - x.lastRead) * 2 then
    let s := s.setQueue n { x with reading := !x.drain.isEmpty }
    ok ((s.count (Reg.MQF_Q_QTO_CNT n)).setFlag (B.MQF_Q_STS_QTO_FIRED n) true)
  else ok s

/-- Regions with a closed packet for merge queue `q`, in the order of their turns (R115). -/
def State.mergeTurn (s : State) (q : Nat) : List Nat :=
  let has := (List.range 16).filter (fun r => (Sp.find s.mqf.staging (16 * q + r)).isSome)
  match Sp.find s.mqf.served q with
  | none => has
  | some last => has.filter (fun r => last < r) ++ has.filter (fun r => r ≤ last)

/-- MERGE_PORT_TAKE: the merge port of queue `q` takes the next closed packet, or is curbed (R115). -/
def execMergePortTake (t : Nat) (q : Fin 9) (s : State) : Out State :=
  let s := s.to t
  let n := q.val
  if !s.queueOn n then ok s
  else match s.mergeTurn n with
    | [] => ok s
    | r :: _ =>
      match Sp.find s.mqf.staging (16 * n + r) with
      | none => ok s
      | some p =>
        let (s, refused) := s.pushPacket n r p
        if refused then ok s
        else
          let s := { s with mqf := { s.mqf with
            staging := Sp.drop s.mqf.staging (16 * n + r), served := Sp.put s.mqf.served n r } }
          let s := if s.get (B.MQF_Q_CFG_MAX_PKT n) < p.data.length then s.cellError 3 .queue n 0 .illegalStep false none []
            else s
          let s := match p.ends with
            | some (it, c) => if n = 0 ∧ it.src = .internal ∧ it.id = 0 then s.seeEvent c (c.bytes c.tag 0) else s
            | none => s
          ok (if n = 0 then s.nextEvent r else s)

/-! ### Enabling (R109, R114, R116) -/

/-- Words of the pool that the banks of enabled queues take. -/
def State.poolWords (s : State) : Nat :=
  ((List.range 128).filter (fun q => s.flag (B.MQF_Q_CFG_ENABLE q))).foldl (fun n q => n + 2 * s.bankSize q) 0

/-- Whether a configuration word may be enabled: a bank of 16 to 4,096 words that holds a packet of MAX_PKT and its LEN
word, and room in the pool. -/
def State.queueCfgOk (s : State) (v : Word) : Bool :=
  let b := fieldOf v 0 4
  let m := fieldOf v 8 13
  4 ≤ b && b ≤ 12 && (!v.getLsbD 4 || (1 ≤ m && m + 1 ≤ 2 ^ b)) && s.poolWords + 2 * 2 ^ b ≤ 262144

/-- A configuration write was refused (Table DSP-17). -/
def State.queueCfgErr (s : State) (q : Nat) : State := s.setFlag (B.MQF_Q_STS_CFG_ERR q) true

/-- A write to MQF_Q_n_CFG (R114, R116): one that would enable the queue and is refused leaves the whole register as it was
(DEDUCED, log entry 65). -/
def State.writeQueueCfg (s : State) (q : Nat) (val : Word) : State :=
  let a := Reg.MQF_Q_CFG q
  let x := s.queueOf q
  let on := val.getLsbD 31
  if q < 96 then (if s.flag (B.MQF_Q_CFG_ENABLE q) then s.queueCfgErr q else s)
  else if s.flag (B.MQF_Q_CFG_ENABLE q) then
    if on ∨ !(x.drain.isEmpty && x.fill.isEmpty) then s.queueCfgErr q
    else
      let s' := s.setFlag (B.MQF_Q_CFG_ENABLE q) false
      if s'.word a = (s.softWrite a val).word a then s' else s'.queueCfgErr q
  else
    let s' := s.softWrite a (val &&& 0x7FFFFFFF#32)
    if !on then s'
    else if s.queueCfgOk val then (s'.setFlag (B.MQF_Q_CFG_ENABLE q) true).setQueue q { QueueRt.reset with lastRead := s.cyc }
    else s.queueCfgErr q

/-- QUEUE_ENABLE_WRITE. -/
def execQueueEnableWrite (t : Nat) (rq : Requester) (q : Fin 128) (val : Word) (s : State) : Out State :=
  ok ((s.to t).access rq (Reg.MQF_Q_CFG q.val) true (fun s => s.writeQueueCfg q.val val))

end Sys2Proof.Machine
end

