-- ==== Sys2Proof/Machine/LongOps.lean ====
section
/-!
DEFINITION. The operations of HIF (R83 to R87, Table HIF-9) and the safe points of long operations.
-/

namespace Sys2Proof.Machine

/-- The handle an HIF operation names (R83): ring and TAG. -/
def handleArg (d : Desc) : Nat × Nat := (argBits d.arg0 21 16, argBits d.arg0 15 0)

/-- The long operation an item names. -/
def State.namedLong (s : State) (it : Item) : Option LongOp := s.longOf? (handleArg it.d).1 (handleArg it.d).2

/-- The named operation is in one of some states (Table HIF-9). -/
def State.longIs (s : State) (it : Item) (l : List LongState) : Bool :=
  match s.namedLong it with
  | some x => l.contains x.state
  | none => false

/-- NOP. -/
def execHifNop (t : Nat) (it : Item) (s : State) : Out State :=
  ok ((s.to t).runOp 1 it (fun i => .hifNop t i) Checks.pass (fun s it => s.finish it 1 .done))

/-- QUERY_OP. -/
def execQueryOp (t : Nat) (it : Item) (s : State) : Out State :=
  let s := s.to t
  ok (s.runOp 1 it (fun i => .queryOp t i) { Checks.pass with state := (s.namedLong it).isSome }
    (fun s it => match s.namedLong it with
      | some l => s.finish it 1 .done l.res
      | none => s))

/-- SUSPEND: the operation stops at its next safe point. -/
def execHifSuspend (t : Nat) (it : Item) (s : State) : Out State :=
  let s := s.to t
  ok (s.runOp 1 it (fun i => .hifSuspend t i) { Checks.pass with state := s.longIs it [.running] }
    (fun s it => match s.namedLong it with
      | some l => s.putLong { l with state := .stopPending, ctl := some it, asked := l.done }
      | none => s))

/-- CANCEL: the operation ends at its next safe point, a SUSPEND pending on it completes REJ_STATE; a suspended one is
discarded at once. -/
def execHifCancel (t : Nat) (it : Item) (s : State) : Out State :=
  let s := s.to t
  ok (s.runOp 1 it (fun i => .hifCancel t i) { Checks.pass with state := s.longIs it [.running, .stopPending, .suspended] }
    (fun s it => match s.namedLong it with
      | some l =>
        if l.state = .suspended then (s.dropSaved l).finish it 1 .done l.res
        else
          let s := match l.ctl with
            | some c => s.finish c 1 .rejState
            | none => s
          s.putLong { l with state := .cancelPending, ctl := some it, asked := l.done }
      | none => s))

/-- The flow a long operation runs in; none where it acts when fetched, and in halter mode. -/
def State.longFlow (s : State) (l : LongOp) : Option Nat :=
  if actsAtFetch l.start.opcode.toNat ∨ s.halter then none
  else some (if l.start.context = 0 then l.start.flow.toNat else l.start.context.toNat)

/-- The key slot a suspended READOUT names. -/
def State.readingSlot (s : State) (l : LongOp) : Option Nat :=
  match s.recd.reading with
  | some r => if r.ring = l.ring ∧ r.tag = l.tag then r.slot else none
  | none => none

/-- The key an operation loads again when it resumes may be loaded (R398). -/
def State.resumeKeyOk (s : State) (l : LongOp) : Bool :=
  match s.readingSlot l with
  | some k => (match s.keyFor? k 3 0 with | some x => x.attr.type == 1 | none => false)
  | none => true

/-- A suspended operation continues, carried by `it`; it waits at its source port to re-enter its flow, behind the items
that entered while it was suspended and under the limits of every entry (R86, R94, R97; DEDUCED, log entry 14). -/
def State.resumeLong (s : State) (l : LongOp) (it : Item) : State :=
  let s := s.putLong { l with state := .running, carrier := it }
  let s := match s.readingSlot l with
    | some k => s.holdKey k it.id
    | none => s
  let s := match s.gnb.survey with
    | some v => if v.ring = l.ring ∧ v.tag = l.tag then
        { s with gnb := { s.gnb with survey := some { v with last := s.cyc } } } else s
    | none => s
  if (s.longFlow l).isSome then s.toPort (match it.src with | .ring n _ => n | _ => 73) it else s

/-- RESUME. -/
def execHifResume (t : Nat) (it : Item) (s : State) : Out State :=
  let s := s.to t
  let key := match s.namedLong it with | some l => l.state != .suspended || s.resumeKeyOk l | none => true
  ok (s.runOp 1 it (fun i => .hifResume t i) { Checks.pass with key := key, state := s.longIs it [.suspended] }
    (fun s it => match s.namedLong it with
      | some l => s.resumeLong l it
      | none => s))

/-! ### Safe points (R85) -/

/-- One unit of work of a running long operation and the safe point that follows it. A cue's units are its instants: its
safe point is one that follows an instant after the control item was accepted (R366). -/
def State.longUnit (s : State) (l : LongOp) (u : LongUnit) : State :=
  match l.start.opcode.toNat, u with
  | 0x0020, .image img => s.imgUnit l img
  | 0x5002, .survey x y z => s.surveyUnit l (some (x, y, z))
  | 0x5002, .plain => s.surveyUnit l none
  | 0x6001, .plain => s.reinitUnit l
  | 0x7001, .plain => s.importUnit l none
  | 0x7001, .badCell b => s.importUnit l (some b)
  | 0x7002, .hash bytes => s.exportUnit l bytes none
  | 0x7002, .badCell b => s.exportUnit l [] (some b)
  | 0xB001, .plain => if l.asked < l.done then s.safePoint l else s
  | 0xC00E, .plain => s.rewrapUnit l
  | 0xE004, .cipher bytes poison => s.readoutUnit l bytes poison
  | _, _ => s

/-- What follows for the region where the operation has ended or been suspended: the engine keeps no key, and of an
operation that ended nothing is kept; a cancelled IMG_WRITE leaves its slot without an image. -/
def State.afterSafePoint (s : State) (l : LongOp) : State :=
  match s.longOf? l.ring l.tag with
  | some x => if x.state = .suspended then s.releaseKeys l.carrier.id else s
  | none =>
    let s := (match l.state, s.chip.writing with
      | .cancelPending, some w => if w.ring = l.ring ∧ w.tag = l.tag then s.putSlotImage w.bundle w.slotB none else s
      | _, _ => s)
    (s.releaseKeys l.carrier.id).forgetLong l

/-- LONG_OP_SAFE_POINT: the operation of a handle (ring 64 stands for the service firmware) reaches its next safe point,
or its end; `u` is what the unit found. It runs with the parameters it started with (R23). -/
def execLongOpSafePoint (t : Nat) (ring : Fin 65) (tag : BitVec 16) (u : LongUnit) (s : State) : Out State :=
  let s := s.to t
  match s.longOf? ring.val tag.toNat with
  | none => ok s
  | some l =>
    if l.state = .suspended ∨ !s.longAtStage l ∨ !s.runs l.region (blockOf l.start.opcode.toNat) then ok s
    else ok ((s.under l.live (fun s => s.longUnit l u)).afterSafePoint l)

end Sys2Proof.Machine
end

