-- ==== Sys2Proof/Machine/Rerun.lean ====
section
/-!
DEFINITION. An operation that waited for its WHEN, run again: the meaning of each operation that carries an item.
-/

namespace Sys2Proof.Machine

/-- Run an operation that carries an item; any other command waits for no WHEN. -/
def runItem (i : Instr) (s : State) : Out State :=
  match i with
  | .hifNop t it => execHifNop t it s
  | .hifSuspend t it => execHifSuspend t it s
  | .hifResume t it => execHifResume t it s
  | .hifCancel t it => execHifCancel t it s
  | .queryOp t it => execQueryOp t it s
  | .schedLoad t it raw => execSchedLoad t it raw s
  | .sessionAccept t it bnonce => execSessionAccept t it bnonce s
  | .sessionRefuse t it => execSessionRefuse t it s
  | .sessionLeave t it => execSessionLeave t it s
  | .sessionSleep t it => execSessionSleep t it s
  | .sessionWake t it => execSessionWake t it s
  | .setRoute t it => execSetRoute t it s
  | .setJoinKey t it => execSetJoinKey t it s
  | .compatInject t it raw os => execCompatInject t it raw os s
  | .setBeaconKey t it => execSetBeaconKey t it s
  | .reinit t it mask => execReinit t it mask s
  | .resetCtx t it => execResetCtx t it s
  | .readCtx t it => execReadCtx t it s
  | .setTrack t it raw => execSetTrack t it raw s
  | .setLimits t it => execSetLimits t it s
  | .gaitRetarget t it => execGaitRetarget t it s
  | .datumRun t it => execDatumRun t it s
  | .padCommit t it raw => execPadCommit t it raw s
  | .whatIf t it raw bad => execWhatIf t it raw bad s
  | .padRelease t it bad => execPadRelease t it bad s
  | .setShape t it raw => execSetShape t it raw s
  | .mapImport t it raw hashOk => execMapImport t it raw hashOk s
  | .mapExport t it => execMapExport t it s
  | .setHold t it bad => execSetHold t it bad s
  | .readCell t it bad => execReadCell t it bad s
  | .setRef t it => execSetRef t it s
  | .selfSurvey t it => execSelfSurvey t it s
  | .cueSet t it raw => execCueSet t it raw s
  | .setTime t it => execSetTime t it s
  | .ptpSample t it => execPtpSample t it s
  | .fleetStop t it => execFleetStop t it s
  | .fleetResume t it => execFleetResume t it s
  | .netTx t it raw => execNetTx t it raw s
  | .netRx t it => execNetRx t it s
  | .mdio t it data => execMdio t it data s
  | .tackLoad t it raw plain => execTackLoad t it raw plain s
  | .tackGenerate t it mat blob => execTackGenerate t it mat blob s
  | .tackDerive t it mat => execTackDerive t it mat s
  | .tackExport t it blob => execTackExport t it blob s
  | .tackUnload t it => execTackUnload t it s
  | .tackRevoke t it => execTackRevoke t it s
  | .tackImport t it plain => execTackImport t it plain s
  | .tackSign t it sig => execTackSign t it sig s
  | .tackMac t it mac => execTackMac t it mac s
  | .tackRandom t it bytes => execTackRandom t it bytes s
  | .tackPubkey t it pub => execTackPubkey t it pub s
  | .tackAttest t it digest sigs => execTackAttest t it digest sigs s
  | .epochAdvance t it => execEpochAdvance t it s
  | .tackRewrap t it raw opens => execTackRewrap t it raw opens s
  | .tackZeroise t it => execTackZeroise t it s
  | .tamperClear t it => execTamperClear t it s
  | .recArm t it => execRecArm t it s
  | .recFire t it => execRecFire t it s
  | .recDisarm t it => execRecDisarm t it s
  | .recReadout t it nonce => execRecReadout t it nonce s
  | .recDiscard t it => execRecDiscard t it s
  | .stableEnter t it => execStableEnter t it s
  | .imgWrite t it img => execImgWrite t it img s
  | .imgActivate t it => execImgActivate t it s
  | .imgConfirm t it => execImgConfirm t it s
  | .otpProgram t it r => execOtpProgram t it r s
  | .debugUnlock t it r => execDebugUnlock t it r s
  | .pairHandover t it => execPairHandover t it s
  | _ => ok s

end Sys2Proof.Machine
end

