-- ==== Sys2Proof/Machine/When.lean ====
section
/-!
DEFINITION. Items whose WHEN comes (R66), and the step of device time (R361 to R364).
-/

namespace Sys2Proof.Machine

/-- Run a waiting operation, its item standing to its WHEN as `w`. -/
def State.wakeItem (s : State) (c : Instr) (w : Wait) : State :=
  match c.item? with
  | none => s
  | some it =>
    match runItem (c.withItem { it with wait := w }) s with
    | .next s' => s'
    | _ => s

/-- WHEN_REACHED: device time reaches the WHEN of the waiting item `id` (R66). -/
def execWhenReached (t : Nat) (id : Nat) (s : State) : Out State :=
  let s := s.to t
  match s.waiting.find? (fun c => (c.item?.map Item.id) == some id) with
  | none => ok s
  | some c =>
    match c.item? with
    | none => ok s
    | some it => if it.d.when_.toNat ≤ s.devNs then ok (s.wakeItem c .due) else ok s

/-! ### TIME_STEP -/

/-- An instant of device time, moved with the counter by `S` ns. -/
def moveNs (S : Int) (n : Nat) : Nat := ((n : Int) + S).toNat

/-- Waiting items whose WHEN the step has passed act, or are rejected, at the step instant; `old` is device time before
the step (R66, R363). -/
def State.stepWaiting (s : State) (old : Nat) : State :=
  (s.waiting.filter (fun c => match c.item? with
    | some it => it.d.when_.toNat ≤ s.devNs
    | none => false)).foldl (fun (s : State) c => match c.item? with
      | some it => s.wakeItem c (if it.d.when_.toNat ≤ old then .due else .late)
      | none => s) s

/-- Frames at the head of a transmit queue whose WHEN the step has passed are late (R66, R380). -/
def State.stepNet (s : State) (old : Nat) : State :=
  { s with net := { s.net with txq := s.net.txq.map (fun p => (p.1, p.2.map (fun (x : TxItem) =>
      let w := x.item.d.when_.toNat
      if x.headNs < w ∧ old < w ∧ w ≤ s.devNs then { x with headNs := s.devNs } else x))) } }

/-- The superframe in progress runs its full 100 ms (R274): AIR's instants move with the counter. -/
def State.stepAir (s : State) (S : Int) : State :=
  if s.air.counting then
    { s with air := { s.air with
      sfStart := moveNs S s.air.sfStart
      ctx := s.air.ctx.map (fun (p : Nat × AirCtx) => (p.1, { p.2 with
        lastValid := moveNs S p.2.lastValid
        plans := p.2.plans.map (fun (q : AirPlan) => { q with readyAt := moveNs S q.readyAt }) })) } }
  else
    { s with air := { s.air with
      sfStart := s.devNs / 100000000 * 100000000
      startAt := s.air.startAt.map (fun _ => up100 s.devNs) } }

/-- Ticks neither jump nor repeat (R200): plans, datum runs and discs keep their place in ticks. -/
def State.stepTicks (s : State) (S : Int) : State :=
  let plan (p : Plan) : Plan := { p with t0 := moveNs S p.t0 }
  let datum (d : Datum) : Datum := { d with endsAt := moveNs S d.endsAt }
  { s with
    gait := { s.gait with
      ctx := s.gait.ctx.map (fun (p : Nat × GaitCtx) => (p.1, { p.2 with
        plans := p.2.plans.map plan, datum := p.2.datum.map datum }))
      drafts := s.gait.drafts.map (fun (p : Nat × Draft) => (p.1, { p.2 with
        plan := plan p.2.plan, datum := p.2.datum.map datum })) }
    pad := { s.pad with discs := s.pad.discs.map (fun (p : Nat × Disc) => (p.1, { p.2 with t0 := moveNs S p.2.t0 })) } }

/-- What else is due at an instant of device time: a staged reference, the next heartbeat, a handover at the next
superframe start. `start` is the next superframe start before the step. -/
def State.stepRest (s : State) (S : Int) (start : Nat) : State :=
  { s with
    gnb := { s.gnb with newRef := s.gnb.newRef.map (fun r => (r.1, r.2.1, r.2.2.1, moveNs S r.2.2.2)) }
    byl := { s.byl with
      dueAt := s.nextBeat
      handover := s.byl.handover.map (fun (h : Handover) =>
        { h with at_ := if h.at_ = start ∧ h.yielded.isNone then s.nextStart else moveNs S h.at_ }) } }

/-- Held cue slots in ascending order. -/
def State.cueSlots (s : State) : List Nat := s.tim.cues.map Prod.fst

/-- TIME_STEP: at a whole second a pending step adds S to the counter (R361, R363, R364). -/
def execTimeStep (t : Nat) (s : State) : Out State :=
  let s := s.to t
  let old := s.devNs
  let start := s.nextStart
  if !s.runs 11 0 then ok s
  else match s.dueStep with
    | (s, none) => ok s
    | (s, some S) =>
      let s := ((s.stepAir S).stepTicks S).stepRest S start
      let s := if 0 < S then (s.stepWaiting old).stepNet old else s
      ok (s.cueSlots.foldl (fun (s : State) k => s.cueStep k) s)

end Sys2Proof.Machine
end

