-- ==== Sys2Proof/Machine/RegWrite.lean ====
section
/-!
DEFINITION. Register writes and reads (R9, R22 to R24, R529 to R534): what a write does beyond its access type, 64-bit
commits, reads that clear, and the APPLY of a parameter block.
-/

namespace Sys2Proof.Machine

/-! ### Writes that some state forbids, and fields that keep their value -/

/-- `a` is word `k` of an instance of a family of `n` instances `stride` apart. -/
def inFamily (a base stride n : Nat) : Bool := base ≤ a && a < base + stride * n && (a - base) % stride == 0

/-- The instance of a word of a family. -/
def instOf (a base stride : Nat) : Nat := (a - base) / stride

/-- The offset of a ring word within its ring, where `a` is one (Table HIF-12). -/
def ringWord (a : Nat) : Option (Nat × Nat) :=
  if 0x101000 ≤ a ∧ a < 0x102000 then some ((a - 0x101000) / 0x40, (a - 0x101000) % 0x40) else none

/-- The ring whose configuration a write of `a` would change while it runs (R81): bases, CFG, CQ_PI, IRQ. -/
def State.ringLocked (s : State) (a : Nat) : Option Nat :=
  match ringWord a with
  | some (n, o) => if s.ringOn n ∧ (o < 0x1C ∨ o = 0x24 ∨ o = 0x28) then some n else none
  | none => none

/-- A word of REC's configuration (R427). -/
def recConfig (a : Nat) : Bool := (0xE00200 ≤ a && a < 0xE00380) || a == Reg.REC_SYNC_CFG

/-- A capture is prepared or running (R427). -/
def State.recBusy (s : State) : Bool := s.recState == recPrimed || s.capturing

/-- The queue a word of MQF_Q_n_LIM belongs to. -/
def limQueue (a : Nat) : Option Nat :=
  if inFamily a (Reg.MQF_Q_LIM 0) 0x20 128 then some (instOf a (Reg.MQF_Q_LIM 0) 0x20) else none

/-- What a write the present state forbids does instead: nothing, but for its error bit. None where it is allowed. -/
def State.forbids (s : State) (a : Nat) (v : Word) : Option State :=
  if a / 0x100000 = 13 then some s
  else match s.ringLocked a with
    | some n => some (s.ringEvent n (B.HIF_RING_STS_CFG_ERR n))
    | none => match limQueue a with
      | some q =>
        if s.flag (B.MQF_Q_CFG_ENABLE q) then some (s.queueCfgErr q)
        else if q < 96 then some s else none
      | none =>
        if recConfig a ∧ s.recBusy then some (s.setFlag B.REC_STS_CFG_ERR true)
        else if a = Reg.TACK_TAMPER_CFG ∧ s.flag B.TACK_TAMPER_CFG_LOCK then some s
        else if a = Reg.DSP_POOL_CFG ∧ fieldOf v 16 15 ≤ fieldOf v 0 15 then some s
        else if a = Reg.NET_A_MAX_LEN ∧ ¬ (1522 ≤ fieldOf v 0 14 ∧ fieldOf v 0 14 ≤ 9216) then some s
        else if inFamily a (Reg.TIM_PPS_OFFSET 0) 0x10 2 ∧ 1000000 < (signed 32 v.toNat).natAbs then some s
        else none

/-- The value `v` with field `b` as it stands, where `bad`. -/
def State.keepField (s : State) (b : Bits) (bad : Bool) (v : Word) : Word :=
  if bad then putField v b.lo b.width (s.get b) else v

/-- A write whose fields that may not take their new value keep the old one. -/
def State.adjust (s : State) (a : Nat) (v : Word) : Word :=
  if inFamily a (Reg.DSP_FLOW_CFG 0) 4 1024 then
    s.keepField (B.DSP_FLOW_CFG_MAX_INFLIGHT (instOf a (Reg.DSP_FLOW_CFG 0) 4)) (fieldOf v 4 7 == 0) v
  else if a = Reg.NET_A_CFG then s.keepField B.NET_A_CFG_MDC_DIV (8 < fieldOf v 12 4) v
  else if a = Reg.NET_B_CFG then s.keepField B.NET_B_CFG_NODE_ID (fieldOf v 8 8 == 0 || fieldOf v 8 8 == 255) v
  else if inFamily a (Reg.TIM_PPS_CTL 0) 0x10 2 then
    s.keepField (B.TIM_PPS_CTL_WIDTH (instOf a (Reg.TIM_PPS_CTL 0) 0x10)) (fieldOf v 4 20 == 0 || 500000 < fieldOf v 4 20) v
  else v

/-! ### What follows a write -/

/-- TAG_RGN_ERR of a region has been written or read (Tables RGN-9, RGN-10): where it reads 0 now, the error record may
take any level again. -/
def State.errCleared (s : State) (r : Nat) : State :=
  let s := if s.rd (Reg.RGN_ERR r) = 0 then
    { s with rgn := { s.rgn with infoLevel := Sp.drop s.rgn.infoLevel r } } else s
  s.sumErrors

/-- A cue output that no cue has driven rests at IDLE (R369). -/
def State.restCue (s : State) (k : Nat) : State :=
  if s.tim.driven.testBit k then s else s.setCueLevel k (s.flag (B.TIM_CUE_CFG_IDLE k))

/-- What the new value of the word at `a` changes at once. -/
def State.written (s : State) (a : Nat) (v : Word) : State :=
  let r := a / 0x100000
  let o := a % 0x100000
  if r ≠ 0 ∧ o = 0x08 then s.errCleared r
  else if (r ≠ 0 ∧ o = 0x1C) ∨ a = Reg.CHIP_ERR_STS then s.sumErrors
  else if a = Reg.DSP_POOL_CFG then s.reportCurb
  else if inFamily a (Reg.DSP_FLOW_CFG 0) 4 1024 then s.reportFlow (instOf a (Reg.DSP_FLOW_CFG 0) 4)
  else if a = Reg.BYL_PAIR_CFG then s.bylEval
  else if inFamily a (Reg.TIM_CUE_CFG 0) 4 8 then s.restCue (instOf a (Reg.TIM_CUE_CFG 0) 4)
  else if inFamily a (Reg.TIM_PPS_CTL 0) 0x10 2 then
    let n := instOf a (Reg.TIM_PPS_CTL 0) 0x10
    let s := s.resumePps n
    if v.getLsbD 2 then s.startPps n false else s
  else if inFamily a (Reg.GNB_PORT_CTL 0) 0x20 2 then
    let p := instOf a (Reg.GNB_PORT_CTL 0) 0x20
    if !v.getLsbD 0 ∧ s.flag (B.GNB_PORT_STS_SYNC p) then s.loseSync p else s
  else s

/-- A write of one whole word; `same` are the W1C bits that hardware sets in the same cycle (R9). -/
def State.writeWord (s : State) (a : Nat) (v same : Word) : State :=
  match s.forbids a v with
  | some s' => s'
  | none => (s.softWrite a (s.adjust a v) same).written a v

/-- A write of the low word of a 64-bit register waits in the shadow (R532). -/
def State.shadowWrite (s : State) (rq : Requester) (v : Word) : State := s.setBus rq { s.busOf rq with shadow := v }

/-- A write of the high word commits both halves (R532); `low` is the low half. -/
def State.commit64 (s : State) (a : Nat) (low v : Word) : State :=
  match s.forbids a v with
  | some s' => s'
  | none => ((s.softWrite (a - 4) low).softWrite a v).written a v

/-! ### REGISTER_WRITE and REG64_HIGH_WRITE -/

/-- Registers whose write has a row of its own that carries what the write finds outside the chip: RING_ENABLE's log,
the counts of DSP_LOAD_SEL, the images of CHIP_BOOT_GO. -/
def ownRow (a : Nat) : Bool :=
  inFamily a (Reg.HIF_RING_CTL 0) 0x40 64 || a == Reg.DSP_LOAD_SEL || a == Reg.CHIP_BOOT_GO

/-- Run a write's own row. -/
def State.then_ (s : State) (f : State → Out State) : State :=
  match f s with
  | .next s' => s'
  | _ => s

/-- The command of bit `i` of a written word acts where the bit is 1. -/
def State.ifBit (s : State) (v : Word) (i : Nat) (f : State → Out State) : State := if v.getLsbD i then s.then_ f else s

/-- TIM_VOTE_CMD (R355): each exclusion, inclusion and CLEAR_SUSPECT that the written word asks for. -/
def State.writeVote (s : State) (rq : Requester) (v : Word) : State :=
  let t := s.cyc
  let s := s.ifBit v 0 (execVoteExclGnss t rq)
  let s := s.ifBit v 1 (execVoteExclA t rq)
  let s := s.ifBit v 2 (execVoteExclB t rq)
  let s := s.ifBit v 4 (execVoteInclGnss t rq)
  let s := s.ifBit v 5 (execVoteInclA t rq)
  let s := s.ifBit v 6 (execVoteInclB t rq)
  s.ifBit v 8 (execClearSuspect t rq)

/-- A write whose register has a row of its own that needs nothing more than the value: as that row has it. -/
def State.rowWrite (s : State) (rq : Requester) (a : Nat) (v : Word) : Option State :=
  let t := s.cyc
  let r := a / 0x100000
  if a = Reg.DSP_OBS_SEL then some (s.then_ (execDspObsSelWrite t rq v))
  else if inFamily a (Reg.MQF_Q_CFG 0) 0x20 128 then
    some (s.access rq a true (fun s => s.writeQueueCfg (instOf a (Reg.MQF_Q_CFG 0) 0x20) v))
  else if r ≠ 0 ∧ a % 0x100000 = 0x20 then
    some (s.access rq a true (fun s =>
      if v.getLsbD 0 ∧ r ≠ 3 ∧ r ≠ 13 then s.regionError r 0 0xFFFF .software else s))
  else if a = Reg.GNB_ANT_CFG then some (s.then_ (execAntRearm t rq v))
  else if a = Reg.GNB_TRK_MASK_PRN then some (s.then_ (execTrkMaskPrnWrite t rq v))
  else if a = Reg.FIX_INTEG_CMD then
    some ((s.ifBit v 0 (execSpoofClear t rq)).ifBit v 1 (execSvClearAll t rq))
  else if inFamily a (Reg.AIR_HEAD_CTL 0) (Reg.AIR_HEAD_CTL 1 - Reg.AIR_HEAD_CTL 0) 8 then
    some (s.headCtl rq (instOf a (Reg.AIR_HEAD_CTL 0) (Reg.AIR_HEAD_CTL 1 - Reg.AIR_HEAD_CTL 0)) v)
  else if a = Reg.CHIP_RST_CMD then some (s.then_ (execChipRstCmdFullReset t rq v))
  else if a = Reg.TIM_VOTE_CMD then some (s.writeVote rq v)
  else none

/-! ### PARAM_APPLY (R23, R24) -/

/-- The addresses of the words of a block. -/
def ParamBlock.words (b : ParamBlock) : List Nat :=
  (List.range (b.len / 4)).map (fun i => b.region * 0x100000 + b.offset + 4 * i)

/-- The shadow copy of a word of a block lies in its range; CLASS_0 is 0 (R218). -/
def State.shadowOk (s : State) (a : Nat) : Bool :=
  match paramDef? a with
  | some d => d.check.ok (s.word a).toNat && (a != P.CLASS 0 || s.word a == 0#32)
  | none => true

/-- The block holds the frame origin (R160). -/
def ParamBlock.isEnu (b : ParamBlock) : Bool := b.words.contains P.ENU_VALID

/-- Whether APPLY of the block is accepted. -/
def State.mayApply (s : State) (b : ParamBlock) : Bool :=
  b.apply && b.words.all (fun a => s.shadowOk a) && !(b.isEnu && !s.joinedCtx.isEmpty)

/-- The whole block goes live. -/
def State.applyBlock (s : State) (b : ParamBlock) : State :=
  let s := b.words.foldl (fun (s : State) a => if (paramDef? a).isSome then s.setLive a (s.word a) else s) s
  let s := s.wr (Reg.RGN_PARAM_LIVE b.region) b.id.toNat
  let s := if b.isEnu then s.latchOrigin else s
  s.mirrorSend (.config 2)

/-- The block of a PARAM_ID that region `r` holds. -/
def State.blockOf? (s : State) (r : Nat) (id : BitVec 16) : Option ParamBlock :=
  match s.chip.gb with
  | some g => g.params.find? (fun b => b.id == id && b.region == r)
  | none => none

/-- A write of `id` to TAG_RGN_PARAM_APPLY of region `r`. -/
def State.applyParam (s : State) (r : Nat) (id : BitVec 16) : State :=
  match s.blockOf? r id with
  | some b => if s.mayApply b then s.applyBlock b else s.rgnErr (B.RGN_ERR_PARAM_REJ r)
  | none => s.rgnErr (B.RGN_ERR_PARAM_REJ r)

/-- PARAM_APPLY; the windows of CHIP and WHOA have no such register to write (R346, R528). -/
def execParamApply (t : Nat) (rq : Requester) (region : Fin 16) (id : BitVec 16) (s : State) : Out State :=
  let r := region.val
  let s := s.to t
  if r = 0 ∨ r = 13 then ok s
  else ok (s.access rq (Reg.RGN_PARAM_APPLY r) true (fun s => s.applyParam r id))

/-! ### Writes -/

/-- A write of `v` to the word at `a` by requester `rq`; `same` as for `writeWord`. -/
def State.busWrite (s : State) (rq : Requester) (a : Nat) (v : Word) (same : Word := 0) : State :=
  match s.rowWrite rq a v with
  | some s' => s'
  | none =>
    if isKind a .high then
      let low := s.lowHalf rq a
      if a = Reg.TIM_INCR + 4 then s.then_ (execTimIncrWrite s.cyc rq (v ++ low))
      else s.access rq a true (fun s => s.commit64 a low v)
    else
      s.access rq a true (fun s =>
        if isKind a .low then s.shadowWrite rq v
        else if a / 0x100000 ≠ 0 ∧ a / 0x100000 ≠ 13 ∧ a % 0x100000 = 0x24 then
          s.applyParam (a / 0x100000) (v.truncate 16)
        else if mapped a then s.writeWord a v same
        else s.chipErr B.CHIP_ERR_STS_UNMAPPED)

/-! ### Reads -/

/-- TIM_ERR_EST and TIM_HOLD_S at this moment (R358), where the quality is not UNSET and no source is selected. -/
def State.growing (s : State) (a : Nat) : Option Word :=
  if s.timeUnset ∨ s.get B.TIM_STS_SELECTED ≠ 0 then none
  else if a = Reg.TIM_ERR_EST then some (sat32 (s.grownE / 10 ^ 6))
  else if a = Reg.TIM_HOLD_S then some (sat32 ((s.cyc - s.tim.growAt) / cycS))
  else none

/-- The present state of the word at `a` (R9): the stored word, but for what follows the moment or is counted at the read.
These are TIM_TIME (R347, R348); QUALITY, TIM_ERR_EST and TIM_HOLD_S (R358; log entry 110); HELD of TAG_RGN_STATE (Table
RGN-8; log entry 37), LOCKED of PAD_SWEEP_STS and TILES of PAD_CTX_n_STS (Tables PAD-25, PAD-26). -/
def State.present (s : State) (a : Nat) : Word :=
  let v := s.word a
  if a = Reg.TIM_TIME then BitVec.ofNat 32 s.devNs
  else if a = Reg.TIM_TIME + 4 then BitVec.ofNat 32 (s.devNs / 2 ^ 32)
  else if a = Reg.TIM_STS then (v &&& ~~~3#32) ||| BitVec.ofNat 32 (s.qualityNow % 4)
  else if let some w := s.growing a then w
  else if a % 0x100000 = 4 ∧ a ≠ 4 then
    (v &&& 0xFFFF#32) ||| (BitVec.ofNat 32 (min (s.held (a / 0x100000)) 0xFFFF) <<< 16)
  else if a = Reg.PAD_SWEEP_STS then (v &&& ~~~0xFF0000#32) ||| BitVec.ofNat 32 (s.lockedTiles * 2 ^ 16)
  else if Reg.PAD_CTX_STS 1 ≤ a ∧ a ≤ Reg.PAD_CTX_STS 255 ∧ a % 4 = 0 then
    (v &&& ~~~0xFF00#32) ||| BitVec.ofNat 32 ((s.plannedTiles ((a - Reg.PAD_CTX_STS 0) / 4)).length % 256 * 2 ^ 8)
  else v

/-- The value a read of the word at `a` returns (R9). -/
def State.readValue (s : State) (a : Nat) : Word := s.shown a (s.present a)

/-- A read answers with the value of the word at `a`. -/
def State.answerWord (s : State) (rq : Requester) (a : Nat) : State := (s.answer rq (s.readValue a)).tookFree

/-- A read that clears: the value returned is the state before, RC fields are then zero but for events of the same
cycle (RC of Table SCOPE-3). -/
def State.rcRead (s : State) (rq : Requester) (a : Nat) (same : Word) : State :=
  match regDef? a with
  | some d =>
    let rc := fieldMask (fun c => c == .rc) d.fields
    (s.answerWord rq a).setWord a ((s.word a &&& ~~~rc) ||| (same &&& rc))
  | none => s

/-- What follows a read that clears: a latched fault of WHOA reads as set again (Table WHOA-7); WHOA_RGN_ERR clears as a
whole (R346). -/
def State.clearRead (s : State) (rq : Requester) (a : Nat) (same : Word) : State :=
  if a = Reg.WHOA_FAULT then (s.rcRead rq a same).wr a (s.whoa.latched ||| (same.toNat % 2 ^ 12))
  else if a = Reg.RGN_ERR 13 then ((s.answerWord rq a).setWord a (same &&& 0x3F#32)).errCleared 13
  else s.rcRead rq a same

/-- A read of the low word of a 64-bit register: the high word of the same instant is latched for the requester
(R531). -/
def State.lowRead (s : State) (rq : Requester) (a : Nat) : State :=
  let s' := s.answerWord rq a
  s'.setBus rq { s'.busOf rq with latch := s.present (a + 4) }

/-- TIM_TIME: seconds, nanoseconds and fraction of the same instant (R348). -/
def State.snapTime (s : State) : State :=
  let s := s.wr64 Reg.TIM_TIME_SEC (s.ctr / 2 ^ 40 / 10 ^ 9 % 2 ^ 48)
  let s := s.wr Reg.TIM_TIME_NSEC (s.ctr / 2 ^ 40 % 10 ^ 9)
  s.wr Reg.TIM_TIME_FRAC (s.ctr / 2 ^ 24 % 2 ^ 16)

/-- What a read of the low word at `a` does: of TIM_TIME, the snapshot too. -/
def State.readLow (s : State) (rq : Requester) (a : Nat) : State :=
  if a = Reg.TIM_TIME then s.snapTime.lowRead rq a else s.lowRead rq a

/-- REG64_LOW_READ (R531). -/
def execReg64LowRead (t : Nat) (rq : Requester) (addr : Nat) (s : State) : Out State :=
  let s := s.to t
  if isKind addr .low then ok (s.access rq addr false (fun s => s.readLow rq addr)) else ok s

/-- TIM_TIME_LOW_READ: the high word is latched, and seconds, nanoseconds and fraction of the same instant (R348). -/
def execTimTimeLowRead (t : Nat) (rq : Requester) (s : State) : Out State :=
  ok ((s.to t).access rq Reg.TIM_TIME false (fun s => s.snapTime.lowRead rq Reg.TIM_TIME))

/-- What a read of the high word of a 64-bit register returns: the latch where the requester's last access in the window
was the read of the low word, else the present high word (R531). -/
def State.highRead (s : State) (rq : Requester) (a : Nat) (latched : Bool) : State :=
  if latched then s.answer rq (s.busOf rq).latch else s.answerWord rq a

/-! ### The other BARs and the configuration space (R57, R58; log entry 116) -/

/-- Write the PCIe function. -/
def State.setPcie (s : State) (p : PcieRt) : State := { s with hif := { s.hif with pcie := p } }

/-- A write of word `w` of the MSI-X table: an entry unmasked while it is pending sends its message. -/
def State.writeMsix (s : State) (w : Nat) (v : Word) : State :=
  let p := s.hif.pcie
  s.setPcie { p with
    msix := Sp.store p.msix (msixInit w) w v
    pba := if w % 4 = 3 ∧ !v.getLsbD 0 then p.pba.filter (· != w / 4) else p.pba }

/-- A write to the configuration space: Device Control (max payload, relaxed ordering, max read request) and power
state (the offsets are the model's own, log entry 116). -/
def State.writeConfig (s : State) (o : Nat) (v : Word) : State :=
  let p := s.hif.pcie
  match o with
  | 0x78 => s.setPcie { p with
      mps := min 2 (fieldOf v 5 3), mrrs := min 5 (fieldOf v 12 3), relaxed := v.getLsbD 4 }
  | 0x84 => s.setPcie { p with d3hot := fieldOf v 0 2 == 3 }
  | _ => s

/-- A read of the configuration space: Device ID with the Vendor ID, the Class Code with a revision, Device Control, the
power state. -/
def State.readConfig (s : State) (o : Nat) : Word :=
  let p := s.hif.pcie
  match o with
  | 0x00 => 0x8400#16 ++ Config.vendorId
  | 0x08 => 0x118000#24 ++ Config.revisionId
  | 0x78 => BitVec.ofNat 32 (p.mps * 2 ^ 5 + p.mrrs * 2 ^ 12 + (if p.relaxed then 2 ^ 4 else 0))
  | 0x84 => if p.d3hot then 3 else 0
  | _ => 0

/-- The host writes outside BAR0: a doorbell (offsets 0 and 4 of a ring's page), a word of the MSI-X table, the
configuration space; anything else is ignored. -/
def State.barWrite (s : State) (b o : Nat) (v : Word) : State :=
  if b = 6 then s.writeConfig o v
  else if s.hif.pcie.d3hot then s
  else if b = 2 then
    if o % 0x1000 = 0 then s.ringDoorbell (o / 0x1000) true v
    else if o % 0x1000 = 4 then s.ringDoorbell (o / 0x1000) false v
    else s
  else if o < 0x480 then s.writeMsix (o / 4) v
  else s

/-- The host reads outside BAR0: a doorbell page reads 0 (R58), as do the reserved parts of BAR4/5. -/
def State.barRead (s : State) (b o : Nat) : Word :=
  let p := s.hif.pcie
  if b = 6 then s.readConfig o
  else if p.d3hot then BitVec.allOnes 32
  else if b = 2 then 0
  else if o < 0x480 then s.msixWord (o / 4)
  else if 0x8000 ≤ o ∧ o < 0x800C then
    BitVec.ofNat 32 ((List.range 32).foldl (fun n k => if p.pba.contains ((o - 0x8000) * 8 + k) then n + 2 ^ k else n) 0)
  else 0

/-- REGISTER_WRITE (R9, R530, R532); `same` are the W1C bits that hardware sets in the same cycle. A register whose row
carries more than the value is written by that row. -/
def execRegisterWrite (t : Nat) (rq : Requester) (addr : Nat) (val same : Word) (s : State) : Out State :=
  if addr < 0x1000000 then
    let s := s.to t
    if addr % 4 ≠ 0 then ok (s.chipErr B.CHIP_ERR_STS_ACCESS)
    else if ownRow addr then ok s
    else ok (s.busWrite rq addr val same)
  else
    match barOf addr with
    | some (b, o) =>
      let s := s.to t
      if addr % 4 ≠ 0 then ok (s.chipErr B.CHIP_ERR_STS_ACCESS)
      else ok (if rq = 0 ∧ s.chip.powered ∧ !s.chip.stabled then s.barWrite b o val else s)
    | none => .fault (.outsideBar addr)

/-- REG64_HIGH_WRITE (R532). -/
def execReg64HighWrite (t : Nat) (rq : Requester) (addr : Nat) (val : Word) (s : State) : Out State :=
  let s := s.to t
  if isKind addr .high then ok (s.busWrite rq addr val) else ok s

/-- RC_REGISTER_READ: a read that clears; `same` are the bits that events of the same cycle set. A read of any other
register returns its state and changes nothing; an undefined offset reads as 0 (R9, R530, R531). -/
def execRcRegisterRead (t : Nat) (rq : Requester) (addr : Nat) (same : Word) (s : State) : Out State :=
  if addr < 0x1000000 then
    let s := s.to t
    if addr % 4 ≠ 0 then ok ((s.chipErr B.CHIP_ERR_STS_ACCESS).answer rq (BitVec.allOnes 32))
    else
      let latched := Sp.find (s.busOf rq).last (addr / 0x100000) == some (addr - 4, false)
      ok (s.access rq addr false (fun s =>
        if !mapped addr then s.answer rq 0
        else if hasRc addr ∨ addr = Reg.RGN_ERR 13 then s.clearRead rq addr same
        else if isKind addr .low then s.readLow rq addr
        else if isKind addr .high then s.highRead rq addr latched
        else s.answerWord rq addr))
  else
    match barOf addr with
    | some (b, o) =>
      let s := s.to t
      if addr % 4 ≠ 0 then ok ((s.chipErr B.CHIP_ERR_STS_ACCESS).answer rq (BitVec.allOnes 32))
      else ok (if rq = 0 ∧ s.chip.powered ∧ !s.chip.stabled then s.answer rq (s.barRead b o) else s)
    | none => .fault (.outsideBar addr)

end Sys2Proof.Machine
end

