-- ==== Sys2Proof/Machine/Dispatch.lean ====
section
/-!
DEFINITION. One arm for each command: the direct call of its meaning.
-/

namespace Sys2Proof.Machine

/-- What a command does (file 95 lists the rules by chapter; each meaning cites its own). -/
def exec (i : Instr) (s : State) : Host.Outcome State Fault Refusal :=
  match i with
  | .powerOnReset t straps senior part tamper rails => Sys2Proof.Machine.execPowerOnReset t straps senior part tamper rails s
  | .chipBootGo t rq val fw gb => Sys2Proof.Machine.execChipBootGo t rq val fw gb s
  | .trialConfirmTimeout t => Sys2Proof.Machine.execTrialConfirmTimeout t s
  | .activateReset t => Sys2Proof.Machine.execActivateReset t s
  | .chipRstCmdFullReset t rq val => Sys2Proof.Machine.execChipRstCmdFullReset t rq val s
  | .pciePerst t => Sys2Proof.Machine.execPciePerst t s
  | .pcieLinkReset t up => Sys2Proof.Machine.execPcieLinkReset t up s
  | .badAccess t rq write addr bytes enables => Sys2Proof.Machine.execBadAccess t rq write addr bytes enables s
  | .registerWrite t rq addr val same => Sys2Proof.Machine.execRegisterWrite t rq addr val same s
  | .rcRegisterRead t rq addr same => Sys2Proof.Machine.execRcRegisterRead t rq addr same s
  | .reg64LowRead t rq addr => Sys2Proof.Machine.execReg64LowRead t rq addr s
  | .reg64HighWrite t rq addr val => Sys2Proof.Machine.execReg64HighWrite t rq addr val s
  | .timTimeLowRead t rq => Sys2Proof.Machine.execTimTimeLowRead t rq s
  | .paramApply t rq region id => Sys2Proof.Machine.execParamApply t rq region id s
  | .rgnCmdReset t rq region val => Sys2Proof.Machine.execRgnCmdReset t rq region val s
  | .sqTailWrite t ring val => Sys2Proof.Machine.execSqTailWrite t ring val s
  | .cqHeadWrite t ring val => Sys2Proof.Machine.execCqHeadWrite t ring val s
  | .ringEnable t rq ring val log => Sys2Proof.Machine.execRingEnable t rq ring val log s
  | .ringRecovered t ring => Sys2Proof.Machine.execRingRecovered t ring s
  | .staleCompletionWrite t ring => Sys2Proof.Machine.execStaleCompletionWrite t ring s
  | .descriptorFetch t ring raw => Sys2Proof.Machine.execDescriptorFetch t ring raw s
  | .completionWrite t ring => Sys2Proof.Machine.execCompletionWrite t ring s
  | .irqHoldoffExpiry t ring => Sys2Proof.Machine.execIrqHoldoffExpiry t ring s
  | .whenReached t id => Sys2Proof.Machine.execWhenReached t id s
  | .flowEntry t port => Sys2Proof.Machine.execFlowEntry t port s
  | .stageDispatch t st => Sys2Proof.Machine.execStageDispatch t st s
  | .completionRelease t flow => Sys2Proof.Machine.execCompletionRelease t flow s
  | .dspObsSelWrite t rq val => Sys2Proof.Machine.execDspObsSelWrite t rq val s
  | .dspLoadSelWrite t rq val busy win => Sys2Proof.Machine.execDspLoadSelWrite t rq val busy win s
  | .handshakeRequest t sender receiver block x takes => Sys2Proof.Machine.execHandshakeRequest t sender receiver block x takes s
  | .handshakeAckSeen t sender receiver block => Sys2Proof.Machine.execHandshakeAckSeen t sender receiver block s
  | .handshakeTimeout t sender receiver block held => Sys2Proof.Machine.execHandshakeTimeout t sender receiver block held s
  | .cellError t region kind cell block cause poison item held => Sys2Proof.Machine.execCellError t region kind cell block cause poison item held s
  | .blockError t region block cause held access => Sys2Proof.Machine.execBlockError t region block cause held access s
  | .blockRestartDone t region block => Sys2Proof.Machine.execBlockRestartDone t region block s
  | .regionError t region cause => Sys2Proof.Machine.execRegionError t region cause s
  | .regionReloaded t region svcHash => Sys2Proof.Machine.execRegionReloaded t region svcHash s
  | .chipError t cause region => Sys2Proof.Machine.execChipError t cause region s
  | .hifNop t it => Sys2Proof.Machine.execHifNop t it s
  | .hifSuspend t it => Sys2Proof.Machine.execHifSuspend t it s
  | .hifResume t it => Sys2Proof.Machine.execHifResume t it s
  | .hifCancel t it => Sys2Proof.Machine.execHifCancel t it s
  | .queryOp t it => Sys2Proof.Machine.execQueryOp t it s
  | .longOpSafePoint t ring tag u => Sys2Proof.Machine.execLongOpSafePoint t ring tag u s
  | .hostWdogExpiry t => Sys2Proof.Machine.execHostWdogExpiry t s
  | .superframeStart t => Sys2Proof.Machine.execSuperframeStart t s
  | .sfCountStart t rq head val => Sys2Proof.Machine.execSfCountStart t rq head val s
  | .superframeBuild t => Sys2Proof.Machine.execSuperframeBuild t s
  | .frameMark t => Sys2Proof.Machine.execFrameMark t s
  | .downlinkSpan t ctx => Sys2Proof.Machine.execDownlinkSpan t ctx s
  | .headLinkState t head chars => Sys2Proof.Machine.execHeadLinkState t head chars s
  | .rxFrame t head pkt opens => Sys2Proof.Machine.execRxFrame t head pkt opens s
  | .txReport t head pkt => Sys2Proof.Machine.execTxReport t head pkt s
  | .headStatus t head pkt => Sys2Proof.Machine.execHeadStatus t head pkt s
  | .pong t head pkt => Sys2Proof.Machine.execPong t head pkt s
  | .spanJudged t ctx => Sys2Proof.Machine.execSpanJudged t ctx s
  | .callPeriodExpiry t ctx => Sys2Proof.Machine.execCallPeriodExpiry t ctx s
  | .joinTimeoutExpiry t ctx => Sys2Proof.Machine.execJoinTimeoutExpiry t ctx s
  | .schedLoad t it raw => Sys2Proof.Machine.execSchedLoad t it raw s
  | .sessionAccept t it bnonce => Sys2Proof.Machine.execSessionAccept t it bnonce s
  | .sessionRefuse t it => Sys2Proof.Machine.execSessionRefuse t it s
  | .sessionLeave t it => Sys2Proof.Machine.execSessionLeave t it s
  | .sessionSleep t it => Sys2Proof.Machine.execSessionSleep t it s
  | .sessionWake t it => Sys2Proof.Machine.execSessionWake t it s
  | .setRoute t it => Sys2Proof.Machine.execSetRoute t it s
  | .setJoinKey t it => Sys2Proof.Machine.execSetJoinKey t it s
  | .compatInject t it raw opens => Sys2Proof.Machine.execCompatInject t it raw opens s
  | .setBeaconKey t it => Sys2Proof.Machine.execSetBeaconKey t it s
  | .baseObsEpoch t epoch sampled ms clk sats => Sys2Proof.Machine.execBaseObsEpoch t epoch sampled ms clk sats s
  | .baseEpochTimeout t epoch => Sys2Proof.Machine.execBaseEpochTimeout t epoch s
  | .svSuspectClear t sat => Sys2Proof.Machine.execSvSuspectClear t sat s
  | .interferenceChange t => Sys2Proof.Machine.execInterferenceChange t s
  | .fixSolve t id sol => Sys2Proof.Machine.execFixSolve t id sol s
  | .ambiguitySearch t ctx attempts => Sys2Proof.Machine.execAmbiguitySearch t ctx attempts s
  | .searchWaitExpiry t ctx => Sys2Proof.Machine.execSearchWaitExpiry t ctx s
  | .reinit t it mask => Sys2Proof.Machine.execReinit t it mask s
  | .resetCtx t it => Sys2Proof.Machine.execResetCtx t it s
  | .readCtx t it => Sys2Proof.Machine.execReadCtx t it s
  | .gaitReplan t id => Sys2Proof.Machine.execGaitReplan t id s
  | .sweepLocksHeld t id bad => Sys2Proof.Machine.execSweepLocksHeld t id bad s
  | .knotPack t id => Sys2Proof.Machine.execKnotPack t id s
  | .setTrack t it raw => Sys2Proof.Machine.execSetTrack t it raw s
  | .setLimits t it => Sys2Proof.Machine.execSetLimits t it s
  | .gaitRetarget t it => Sys2Proof.Machine.execGaitRetarget t it s
  | .datumRun t it => Sys2Proof.Machine.execDatumRun t it s
  | .limitTakeover t ctx => Sys2Proof.Machine.execLimitTakeover t ctx s
  | .padCommit t it raw => Sys2Proof.Machine.execPadCommit t it raw s
  | .whatIf t it raw bad => Sys2Proof.Machine.execWhatIf t it raw bad s
  | .padRelease t it bad => Sys2Proof.Machine.execPadRelease t it bad s
  | .setShape t it raw => Sys2Proof.Machine.execSetShape t it raw s
  | .mapImport t it raw hashOk => Sys2Proof.Machine.execMapImport t it raw hashOk s
  | .mapExport t it => Sys2Proof.Machine.execMapExport t it s
  | .setHold t it bad => Sys2Proof.Machine.execSetHold t it bad s
  | .readCell t it bad => Sys2Proof.Machine.execReadCell t it bad s
  | .padTick t => Sys2Proof.Machine.execPadTick t s
  | .groomTile t bad => Sys2Proof.Machine.execGroomTile t bad s
  | .parkRenewal t bad => Sys2Proof.Machine.execParkRenewal t bad s
  | .discWrite t ctx tile bad => Sys2Proof.Machine.execDiscWrite t ctx tile bad s
  | .discEnd t ctx => Sys2Proof.Machine.execDiscEnd t ctx s
  | .mirrorPadReceived t rx => Sys2Proof.Machine.execMirrorPadReceived t rx s
  | .setRef t it => Sys2Proof.Machine.execSetRef t it s
  | .selfSurvey t it => Sys2Proof.Machine.execSelfSurvey t it s
  | .surveyNetworkTimeout t => Sys2Proof.Machine.execSurveyNetworkTimeout t s
  | .sampleCountCheck t port => Sys2Proof.Machine.execSampleCountCheck t port s
  | .portSyncChange t port bits => Sys2Proof.Machine.execPortSyncChange t port bits s
  | .agcUpdate t port => Sys2Proof.Machine.execAgcUpdate t port s
  | .spectrumFft t port powers => Sys2Proof.Machine.execSpectrumFft t port powers s
  | .antennaSample t cur => Sys2Proof.Machine.execAntennaSample t cur s
  | .antennaBiasRetry t => Sys2Proof.Machine.execAntennaBiasRetry t s
  | .antRearm t rq val => Sys2Proof.Machine.execAntRearm t rq val s
  | .trkMaskPrnWrite t rq val => Sys2Proof.Machine.execTrkMaskPrnWrite t rq val s
  | .stabledBurst t clk found => Sys2Proof.Machine.execStabledBurst t clk found s
  | .secondBoundary t => Sys2Proof.Machine.execSecondBoundary t s
  | .timeStep t => Sys2Proof.Machine.execTimeStep t s
  | .ppsPulse t n => Sys2Proof.Machine.execPpsPulse t n s
  | .cueInstant t slot => Sys2Proof.Machine.execCueInstant t slot s
  | .cueSet t it raw => Sys2Proof.Machine.execCueSet t it raw s
  | .setTime t it => Sys2Proof.Machine.execSetTime t it s
  | .ptpSample t it => Sys2Proof.Machine.execPtpSample t it s
  | .timIncrWrite t rq val => Sys2Proof.Machine.execTimIncrWrite t rq val s
  | .voteExclGnss t rq => Sys2Proof.Machine.execVoteExclGnss t rq s
  | .voteExclA t rq => Sys2Proof.Machine.execVoteExclA t rq s
  | .voteExclB t rq => Sys2Proof.Machine.execVoteExclB t rq s
  | .voteInclGnss t rq => Sys2Proof.Machine.execVoteInclGnss t rq s
  | .voteInclA t rq => Sys2Proof.Machine.execVoteInclA t rq s
  | .voteInclB t rq => Sys2Proof.Machine.execVoteInclB t rq s
  | .clearSuspect t rq => Sys2Proof.Machine.execClearSuspect t rq s
  | .ppsForceStart t rq n => Sys2Proof.Machine.execPpsForceStart t rq n s
  | .spoofClear t rq => Sys2Proof.Machine.execSpoofClear t rq s
  | .svClearAll t rq => Sys2Proof.Machine.execSvClearAll t rq s
  | .stopChannelOpen t ch low => Sys2Proof.Machine.execStopChannelOpen t ch low s
  | .stopChannelClosed t ch high => Sys2Proof.Machine.execStopChannelClosed t ch high s
  | .testPulse t ch fell low other => Sys2Proof.Machine.execTestPulse t ch fell low other s
  | .disagreeFault t apart => Sys2Proof.Machine.execDisagreeFault t apart s
  | .keyPosition t pos steady => Sys2Proof.Machine.execKeyPosition t pos steady s
  | .touchMeasure t readings => Sys2Proof.Machine.execTouchMeasure t readings s
  | .resumeHoldComplete t => Sys2Proof.Machine.execResumeHoldComplete t s
  | .outputReadbackFault t outs steady => Sys2Proof.Machine.execOutputReadbackFault t outs steady s
  | .oscMonitor t main second => Sys2Proof.Machine.execOscMonitor t main second s
  | .plugDetect t hpd ant svc steady => Sys2Proof.Machine.execPlugDetect t hpd ant svc steady s
  | .whoaStatusEvent t => Sys2Proof.Machine.execWhoaStatusEvent t s
  | .fleetStop t it => Sys2Proof.Machine.execFleetStop t it s
  | .fleetResume t it => Sys2Proof.Machine.execFleetResume t it s
  | .stopFrameRepeat t => Sys2Proof.Machine.execStopFrameRepeat t s
  | .netFrameRx t port bs express fragErr stamp fill => Sys2Proof.Machine.execNetFrameRx t port bs express fragErr stamp fill s
  | .netTxStart t port express stamp => Sys2Proof.Machine.execNetTxStart t port express stamp s
  | .netTxTimeout t port express => Sys2Proof.Machine.execNetTxTimeout t port express s
  | .pauseRx t quanta => Sys2Proof.Machine.execPauseRx t quanta s
  | .pauseExpiry t => Sys2Proof.Machine.execPauseExpiry t s
  | .pauseTx t fill => Sys2Proof.Machine.execPauseTx t fill s
  | .portBCollision t late => Sys2Proof.Machine.execPortBCollision t late s
  | .plcaBeaconTimeout t => Sys2Proof.Machine.execPlcaBeaconTimeout t s
  | .portLinkChange t port up fast anFault => Sys2Proof.Machine.execPortLinkChange t port up fast anFault s
  | .netTx t it raw => Sys2Proof.Machine.execNetTx t it raw s
  | .netRx t it => Sys2Proof.Machine.execNetRx t it s
  | .mdio t it data => Sys2Proof.Machine.execMdio t it data s
  | .rtcmInputGap t frames => Sys2Proof.Machine.execRtcmInputGap t frames s
  | .refMonitor t base => Sys2Proof.Machine.execRefMonitor t base s
  | .tamperDetect t seen => Sys2Proof.Machine.execTamperDetect t seen s
  | .tackLoad t it raw plain => Sys2Proof.Machine.execTackLoad t it raw plain s
  | .tackGenerate t it mat blob => Sys2Proof.Machine.execTackGenerate t it mat blob s
  | .tackDerive t it mat => Sys2Proof.Machine.execTackDerive t it mat s
  | .tackExport t it blob => Sys2Proof.Machine.execTackExport t it blob s
  | .tackUnload t it => Sys2Proof.Machine.execTackUnload t it s
  | .tackRevoke t it => Sys2Proof.Machine.execTackRevoke t it s
  | .tackImport t it plain => Sys2Proof.Machine.execTackImport t it plain s
  | .tackSign t it sig => Sys2Proof.Machine.execTackSign t it sig s
  | .tackMac t it mac => Sys2Proof.Machine.execTackMac t it mac s
  | .tackRandom t it bytes => Sys2Proof.Machine.execTackRandom t it bytes s
  | .tackPubkey t it pub => Sys2Proof.Machine.execTackPubkey t it pub s
  | .tackAttest t it digest sigs => Sys2Proof.Machine.execTackAttest t it digest sigs s
  | .epochAdvance t it => Sys2Proof.Machine.execEpochAdvance t it s
  | .tackRewrap t it raw opens => Sys2Proof.Machine.execTackRewrap t it raw opens s
  | .tackZeroise t it => Sys2Proof.Machine.execTackZeroise t it s
  | .tamperClear t it => Sys2Proof.Machine.execTamperClear t it s
  | .recArm t it => Sys2Proof.Machine.execRecArm t it s
  | .recFire t it => Sys2Proof.Machine.execRecFire t it s
  | .recDisarm t it => Sys2Proof.Machine.execRecDisarm t it s
  | .recReadout t it nonce => Sys2Proof.Machine.execRecReadout t it nonce s
  | .recDiscard t it => Sys2Proof.Machine.execRecDiscard t it s
  | .recTrigger t => Sys2Proof.Machine.execRecTrigger t s
  | .captureFilled t => Sys2Proof.Machine.execCaptureFilled t s
  | .trigSyncPulse t width edge => Sys2Proof.Machine.execTrigSyncPulse t width edge s
  | .queuePush t q producer p => Sys2Proof.Machine.execQueuePush t q producer p s
  | .queuePop t q push hit into => Sys2Proof.Machine.execQueuePop t q push hit into s
  | .queueReadTimeout t q => Sys2Proof.Machine.execQueueReadTimeout t q s
  | .mergePortTake t q => Sys2Proof.Machine.execMergePortTake t q s
  | .queueEnableWrite t rq q val => Sys2Proof.Machine.execQueueEnableWrite t rq q val s
  | .scrubWord t found => Sys2Proof.Machine.execScrubWord t found s
  | .thermalSample t readings => Sys2Proof.Machine.execThermalSample t readings s
  | .refClockCheck t ppb silent => Sys2Proof.Machine.execRefClockCheck t ppb silent s
  | .pwrGoodTimeout t good => Sys2Proof.Machine.execPwrGoodTimeout t good s
  | .stableEnter t it => Sys2Proof.Machine.execStableEnter t it s
  | .wakeSource t src => Sys2Proof.Machine.execWakeSource t src s
  | .wakeDone t => Sys2Proof.Machine.execWakeDone t s
  | .imgWrite t it img => Sys2Proof.Machine.execImgWrite t it img s
  | .imgActivate t it => Sys2Proof.Machine.execImgActivate t it s
  | .imgConfirm t it => Sys2Proof.Machine.execImgConfirm t it s
  | .otpProgram t it r => Sys2Proof.Machine.execOtpProgram t it r s
  | .debugUnlock t it r => Sys2Proof.Machine.execDebugUnlock t it r s
  | .hitchInChange t seen => Sys2Proof.Machine.execHitchInChange t seen s
  | .tokenClaimCheck t => Sys2Proof.Machine.execTokenClaimCheck t s
  | .claimWaitExpiry t => Sys2Proof.Machine.execClaimWaitExpiry t s
  | .tokenRelease t partnerHeads => Sys2Proof.Machine.execTokenRelease t partnerHeads s
  | .bylLinkTrained t lanes skew delay => Sys2Proof.Machine.execBylLinkTrained t lanes skew delay s
  | .bylHello t rx => Sys2Proof.Machine.execBylHello t rx s
  | .bylConfirm t rx => Sys2Proof.Machine.execBylConfirm t rx s
  | .bylResendTimeout t class_ ack => Sys2Proof.Machine.execBylResendTimeout t class_ ack s
  | .heartbeatSend t => Sys2Proof.Machine.execHeartbeatSend t s
  | .heartbeatReceived t rx => Sys2Proof.Machine.execHeartbeatReceived t rx s
  | .heartbeatMiss t => Sys2Proof.Machine.execHeartbeatMiss t s
  | .takeover t => Sys2Proof.Machine.execTakeover t s
  | .coldTakeover t => Sys2Proof.Machine.execColdTakeover t s
  | .mirrorGait t rx ctx m => Sys2Proof.Machine.execMirrorGait t rx ctx m s
  | .mirrorSession t rx ctx m => Sys2Proof.Machine.execMirrorSession t rx ctx m s
  | .mirrorConfig t rx c => Sys2Proof.Machine.execMirrorConfig t rx c s
  | .mirrorAck t rx => Sys2Proof.Machine.execMirrorAck t rx s
  | .tileReq t rx => Sys2Proof.Machine.execTileReq t rx s
  | .tileData t rx d => Sys2Proof.Machine.execTileData t rx d s
  | .recArmMessage t rx => Sys2Proof.Machine.execRecArmMessage t rx s
  | .recFireMessage t rx => Sys2Proof.Machine.execRecFireMessage t rx s
  | .svcMsg t rx keysOk => Sys2Proof.Machine.execSvcMsg t rx keysOk s
  | .pairHandover t it => Sys2Proof.Machine.execPairHandover t it s
  | .handoverTimeout t => Sys2Proof.Machine.execHandoverTimeout t s
  | .powerOff t => Sys2Proof.Machine.execPowerOff t s
  | .pllLockLoss t region => Sys2Proof.Machine.execPllLockLoss t region s
  | .bylLinkLoss t lane blocks => Sys2Proof.Machine.execBylLinkLoss t lane blocks s
  | .helloRetry t => Sys2Proof.Machine.execHelloRetry t s
  | .plcaBeaconReceived t => Sys2Proof.Machine.execPlcaBeaconReceived t s
  | .preemptionVerify t passed => Sys2Proof.Machine.execPreemptionVerify t passed s
  | .acquisitionHandoff t engine prn sig known => Sys2Proof.Machine.execAcquisitionHandoff t engine prn sig known s
  | .signalLockLoss t ch carrier => Sys2Proof.Machine.execSignalLockLoss t ch carrier s
  | .downlinkBulkSpan t ctx => Sys2Proof.Machine.execDownlinkBulkSpan t ctx s
  | .pulseWidthEnd t out => Sys2Proof.Machine.execPulseWidthEnd t out s
  | .handoverYield t => Sys2Proof.Machine.execHandoverYield t s
  | .interconnectCorrectedError t => Sys2Proof.Machine.execInterconnectCorrectedError t s

end Sys2Proof.Machine
end

