-- ==== Sys2Proof/WellFormed.lean ====
section
/-!
DEFINITION. Well-formed commands: what the types of the operands do not already say.
-/

namespace Sys2Proof

open Sys2Proof.Machine

/-- The operation code of a command that carries an item (R63: OPCODE names the region and the operation; the operation
tables of each region's file). -/
def Instr.opcode? (i : Instr) : Option Nat :=
  match i with
  | .hifNop _ _ => some 0x1000
  | .hifSuspend _ _ => some 0x1001
  | .hifResume _ _ => some 0x1002
  | .hifCancel _ _ => some 0x1003
  | .queryOp _ _ => some 0x1004
  | .schedLoad _ _ _ => some 0x9001
  | .sessionAccept _ _ _ => some 0x9010
  | .sessionRefuse _ _ => some 0x9011
  | .sessionLeave _ _ => some 0x9012
  | .sessionSleep _ _ => some 0x9013
  | .sessionWake _ _ => some 0x9014
  | .setRoute _ _ => some 0x9015
  | .setJoinKey _ _ => some 0x9016
  | .compatInject _ _ _ _ => some 0x9017
  | .setBeaconKey _ _ => some 0x9018
  | .reinit _ _ _ => some 0x6001
  | .resetCtx _ _ => some 0x6002
  | .readCtx _ _ => some 0x6003
  | .setTrack _ _ _ => some 0x8001
  | .setLimits _ _ => some 0x8002
  | .gaitRetarget _ _ => some 0x8003
  | .datumRun _ _ => some 0x8004
  | .padCommit _ _ _ => some 0x7010
  | .whatIf _ _ _ _ => some 0x7011
  | .padRelease _ _ _ => some 0x7012
  | .setShape _ _ _ => some 0x7013
  | .mapImport _ _ _ _ => some 0x7001
  | .mapExport _ _ => some 0x7002
  | .setHold _ _ _ => some 0x7003
  | .readCell _ _ _ => some 0x7004
  | .setRef _ _ => some 0x5001
  | .selfSurvey _ _ => some 0x5002
  | .cueSet _ _ _ => some 0xB001
  | .setTime _ _ => some 0xB003
  | .ptpSample _ _ => some 0xB004
  | .fleetStop _ _ => some 0x0010
  | .fleetResume _ _ => some 0x0011
  | .netTx _ _ _ => some 0xA001
  | .netRx _ _ => some 0xA002
  | .mdio _ _ _ => some 0xA003
  | .tackLoad _ _ _ _ => some 0xC001
  | .tackGenerate _ _ _ _ => some 0xC002
  | .tackDerive _ _ _ => some 0xC003
  | .tackExport _ _ _ => some 0xC004
  | .tackUnload _ _ => some 0xC005
  | .tackRevoke _ _ => some 0xC006
  | .tackImport _ _ _ => some 0xC007
  | .tackSign _ _ _ => some 0xC008
  | .tackMac _ _ _ => some 0xC009
  | .tackRandom _ _ _ => some 0xC00A
  | .tackPubkey _ _ _ => some 0xC00B
  | .tackAttest _ _ _ _ => some 0xC00C
  | .epochAdvance _ _ => some 0xC00D
  | .tackRewrap _ _ _ _ => some 0xC00E
  | .tackZeroise _ _ => some 0xC00F
  | .tamperClear _ _ => some 0xC010
  | .recArm _ _ => some 0xE001
  | .recFire _ _ => some 0xE002
  | .recDisarm _ _ => some 0xE003
  | .recReadout _ _ _ => some 0xE004
  | .recDiscard _ _ => some 0xE005
  | .stableEnter _ _ => some 0x0030
  | .imgWrite _ _ _ => some 0x0020
  | .imgActivate _ _ => some 0x0021
  | .imgConfirm _ _ => some 0x0022
  | .otpProgram _ _ _ => some 0x0023
  | .debugUnlock _ _ _ => some 0x0024
  | .pairHandover _ _ => some 0xF001
  | _ => none

/-- The item of a command carries the operation code of the command. -/
def Instr.opcodeOk (i : Instr) : Bool :=
  match i.item?, i.opcode? with
  | some it, some op => it.d.opcode.toNat == op
  | _, _ => true

/-- Whether a command could be given: an item bears its operation's code (R63), addresses lie in a BAR (R57, R58),
and a fetch holds at most 16 descriptors (R77). -/
def Instr.wf (i : Instr) : Bool :=
  match i with
  | .badAccess _ _ _ a _ _ => inBars a
  | .registerWrite _ _ a _ _ => inBars a
  | .rcRegisterRead _ _ a _ => inBars a
  | .descriptorFetch _ _ ds => ds.length ≤ 16
  | i => i.opcodeOk

end Sys2Proof
end

