-- ==== Sys2Proof/Safety.lean ====
section
/-!
DEFINITION. What the statements speak of: when an operation acts, when a register access is served, and which commands
may touch which part of the state.
-/

namespace Sys2Proof.Machine

/-- An operation of region `r` acts now: nothing holds its item back, its block of the region steps, and its checks `k` and
those of Table HIF-4 let it act, late or in time (R66, R68). -/
def State.goes (s : State) (r : Nat) (it : Item) (k : Checks) (late : Bool) : Bool :=
  !s.barred it && s.runs r (blockOf it.d.opcode.toNat) && s.judge it k == .act late

/-- An operation of region `r` is rejected now with `st` (Table HIF-4). -/
def State.rejects (s : State) (r : Nat) (it : Item) (k : Checks) (st : Status) : Bool :=
  !s.barred it && s.runs r (blockOf it.d.opcode.toNat) && s.judge it k == .reject st

/-- An operation of region `r` passes its checks now and waits for its WHEN (R66, R68). -/
def State.waits (s : State) (r : Nat) (it : Item) (k : Checks) : Bool :=
  !s.barred it && s.runs r (blockOf it.d.opcode.toNat) && s.judge it k == .wait

/-- The machine as a requester's access to the word at `a` finds it: the access noted in its window, the link up where the
host made it. -/
def State.reached (s : State) (rq : Requester) (a : Nat) (write : Bool) : State :=
  (if rq = 0 then { s with hif := { s.hif with linkUp := true } } else s).noteAccess rq a write

/-- The word at `a` is served to the requester: the chip has power and is awake, the window is open to the requester (a
host's while the function is not in D3hot), and the region answers (R448, R464, R476, R534). -/
def State.reaches (s : State) (rq : Requester) (a : Nat) : Bool :=
  s.chip.powered && !s.chip.railWait && (rq != 9 || s.jtagOpen) && (rq != 0 || !s.hif.pcie.d3hot)
    && !s.chip.stabled && s.served a

/-- The chip has power and is awake and the window is open to the requester, but the region of the word at `a` does not
answer (R534). -/
def State.refuses (s : State) (rq : Requester) (a : Nat) : Bool :=
  s.chip.powered && !s.chip.railWait && (rq != 9 || s.jtagOpen) && (rq != 0 || !s.hif.pcie.d3hot)
    && !s.chip.stabled && !s.served a

/-- A sealed frame of TYPE `type` that `rx` brings is the one the chip awaits (R487, R490): its tag verifies over a link
that is UP, and its SEQ is the next of its class. -/
def State.awaits (s : State) (rx : BylRx) (type : Nat) : Bool :=
  match (s.takeSealed rx type).2 with
  | some (f, _) => f.seq == Sp.at (s.takeSealed rx type).1.byl.rxNext 0 (typeClass type)
  | none => false

/-- Header and payload of that frame. -/
def State.framed (s : State) (rx : BylRx) (type : Nat) : BylFrame × List Byte :=
  ((s.takeSealed rx type).2).getD (⟨[], [], []⟩, [])

/-- The machine once it has accepted such a frame: what it acknowledges is taken, and the next SEQ is awaited. -/
def State.accepted (s : State) (rx : BylRx) (type : Nat) : State :=
  let f := (s.framed rx type).1
  let c := typeClass type
  let s := (s.takeSealed rx type).1.takeAck c f.ack
  { s with byl := { s.byl with rxNext := Sp.store s.byl.rxNext 0 c (f.seq + 1) } }

end Sys2Proof.Machine

namespace Sys2Proof

/-! ### What commands may touch -/

/-- Commands that may reset a region or the chip, or bring an error that does, or that stand for the command whose
turn has come. -/
def Instr.mayReset (i : Instr) : Bool :=
  match i with
  | .powerOnReset .. | .trialConfirmTimeout .. | .activateReset .. | .chipRstCmdFullReset .. | .pciePerst ..
  | .pcieLinkReset .. | .registerWrite .. | .reg64HighWrite .. | .rgnCmdReset .. | .whenReached .. | .flowEntry ..
  | .handshakeTimeout .. | .cellError .. | .blockError .. | .blockRestartDone .. | .regionError ..
  | .regionReloaded .. | .chipError .. | .timeStep .. | .queuePush .. | .queuePop .. | .mergePortTake ..
  | .thermalSample .. | .refClockCheck .. | .powerOff .. | .pllLockLoss .. => true
  | _ => false

/-- Commands that may write host memory: completions and their log, results and output buffers, and operations that
run once their WHEN is reached. -/
def Instr.writesHost (i : Instr) : Bool :=
  match i with
  | .ringEnable .. | .staleCompletionWrite .. | .descriptorFetch .. | .completionWrite .. | .whenReached ..
  | .longOpSafePoint .. | .fixSolve .. | .ambiguitySearch .. | .searchWaitExpiry .. | .whatIf .. | .timeStep ..
  | .netFrameRx .. | .tamperDetect .. | .tackGenerate .. | .tackExport .. | .tackSign .. | .tackRandom ..
  | .tackPubkey .. | .tackAttest .. | .tackZeroise .. | .recReadout .. | .stableEnter .. | .wakeDone .. => true
  | _ => false

/-- Commands that may change live parameters: a write of PARAM_APPLY, a mirrored configuration, images that start
or go, and what resets. -/
def Instr.appliesParams (i : Instr) : Bool :=
  i.mayReset || match i with
  | .chipBootGo .. | .paramApply .. | .baseObsEpoch .. | .pwrGoodTimeout .. | .mirrorConfig .. => true
  | _ => false

/-- Commands that may change what WHOA holds beside its registers: its own inputs, requests to stop or resume, and
what resets. -/
def Instr.touchesWhoa (i : Instr) : Bool :=
  i.mayReset || match i with
  | .stopChannelOpen .. | .stopChannelClosed .. | .testPulse .. | .disagreeFault .. | .keyPosition ..
  | .touchMeasure .. | .resumeHoldComplete .. | .outputReadbackFault .. | .oscMonitor .. | .plugDetect ..
  | .whoaStatusEvent .. | .fleetStop .. | .fleetResume .. | .pwrGoodTimeout .. | .coldTakeover .. => true
  | _ => false

/-- Commands that may change what CHIP holds beside its registers. -/
def Instr.touchesChip (i : Instr) : Bool :=
  i.mayReset || match i with
  | .chipBootGo .. | .hifCancel .. | .longOpSafePoint .. | .tamperDetect .. | .epochAdvance .. | .tackZeroise ..
  | .tamperClear .. | .pwrGoodTimeout .. | .stableEnter .. | .wakeSource .. | .wakeDone .. | .imgWrite ..
  | .imgActivate .. | .imgConfirm .. | .otpProgram .. | .debugUnlock .. => true
  | _ => false

/-- Commands that may change the key store: TACK operations, session keys, tampers, and what resets. -/
def Instr.touchesTack (i : Instr) : Bool :=
  i.mayReset || match i with
  | .hifResume .. | .hifCancel .. | .longOpSafePoint .. | .superframeStart .. | .downlinkSpan .. | .rxFrame ..
  | .callPeriodExpiry .. | .joinTimeoutExpiry .. | .sessionAccept .. | .sessionLeave .. | .compatInject ..
  | .tamperDetect .. | .tackLoad .. | .tackGenerate .. | .tackDerive .. | .tackUnload .. | .tackRevoke ..
  | .tackImport .. | .epochAdvance .. | .tackRewrap .. | .tackZeroise .. | .tamperClear .. | .recReadout ..
  | .pwrGoodTimeout .. | .stableEnter .. | .wakeDone .. | .debugUnlock .. | .tokenClaimCheck .. | .mirrorSession ..
  | .downlinkBulkSpan .. => true
  | _ => false

/-- Commands that may change the recorder. -/
def Instr.touchesRec (i : Instr) : Bool :=
  i.mayReset || match i with
  | .staleCompletionWrite .. | .completionWrite .. | .hifCancel .. | .longOpSafePoint .. | .superframeStart ..
  | .sfCountStart .. | .superframeBuild .. | .frameMark .. | .downlinkSpan .. | .headLinkState .. | .rxFrame ..
  | .txReport .. | .baseObsEpoch .. | .portSyncChange .. | .secondBoundary .. | .ppsPulse .. | .cueInstant ..
  | .cueSet .. | .voteExclGnss .. | .voteExclA .. | .voteExclB .. | .clearSuspect .. | .stopChannelOpen ..
  | .stopChannelClosed .. | .testPulse .. | .disagreeFault .. | .keyPosition .. | .touchMeasure ..
  | .resumeHoldComplete .. | .outputReadbackFault .. | .oscMonitor .. | .plugDetect .. | .whoaStatusEvent ..
  | .fleetStop .. | .fleetResume .. | .stopFrameRepeat .. | .netFrameRx .. | .netTxStart .. | .pauseRx ..
  | .pauseExpiry .. | .pauseTx .. | .mdio .. | .recArm .. | .recFire .. | .recDisarm .. | .recReadout ..
  | .recDiscard .. | .recTrigger .. | .captureFilled .. | .trigSyncPulse .. | .pwrGoodTimeout .. | .stableEnter ..
  | .wakeDone .. | .tokenClaimCheck .. | .tokenRelease .. | .coldTakeover .. | .recArmMessage ..
  | .recFireMessage .. | .downlinkBulkSpan .. | .handoverYield .. => true
  | _ => false

/-- Commands that may change the wired ports; a stop request sends frames. -/
def Instr.touchesNet (i : Instr) : Bool :=
  i.mayReset || match i with
  | .stopChannelOpen .. | .stopChannelClosed .. | .testPulse .. | .disagreeFault .. | .keyPosition ..
  | .touchMeasure .. | .resumeHoldComplete .. | .outputReadbackFault .. | .oscMonitor .. | .plugDetect ..
  | .fleetStop .. | .fleetResume .. | .stopFrameRepeat .. | .netFrameRx .. | .netTxStart .. | .netTxTimeout ..
  | .pauseRx .. | .pauseExpiry .. | .pauseTx .. | .portBCollision .. | .netTx .. | .netRx .. | .mdio ..
  | .pwrGoodTimeout .. | .stableEnter .. | .coldTakeover .. | .plcaBeaconReceived .. => true
  | _ => false

/-- Commands that may change what TIM holds beside its registers and the counter. -/
def Instr.touchesTim (i : Instr) : Bool :=
  i.mayReset || match i with
  | .hifCancel .. | .longOpSafePoint .. | .baseObsEpoch .. | .stabledBurst .. | .secondBoundary .. | .ppsPulse ..
  | .cueInstant .. | .cueSet .. | .setTime .. | .ptpSample .. | .ppsForceStart .. | .stableEnter .. | .wakeDone ..
  | .pulseWidthEnd .. => true
  | _ => false

/-- Commands that may change the GNSS baseband. -/
def Instr.touchesGnb (i : Instr) : Bool :=
  i.mayReset || match i with
  | .hifResume .. | .hifCancel .. | .longOpSafePoint .. | .baseObsEpoch .. | .setRef .. | .selfSurvey ..
  | .surveyNetworkTimeout .. | .sampleCountCheck .. | .portSyncChange .. | .agcUpdate .. | .spectrumFft ..
  | .antennaSample .. | .antennaBiasRetry .. | .antRearm .. | .trkMaskPrnWrite .. | .stabledBurst ..
  | .stableEnter .. | .wakeDone .. | .mirrorConfig .. | .acquisitionHandoff .. | .signalLockLoss .. => true
  | _ => false

/-- Commands that may change the gait planner. -/
def Instr.touchesGait (i : Instr) : Bool :=
  i.mayReset || match i with
  | .stageDispatch .. | .superframeStart .. | .rxFrame .. | .spanJudged .. | .callPeriodExpiry ..
  | .sessionLeave .. | .compatInject .. | .gaitReplan .. | .sweepLocksHeld .. | .knotPack .. | .setTrack ..
  | .setLimits .. | .gaitRetarget .. | .datumRun .. | .limitTakeover .. | .padCommit .. | .tamperDetect ..
  | .tackZeroise .. | .stableEnter .. | .tokenClaimCheck .. | .heartbeatReceived .. | .heartbeatMiss ..
  | .mirrorGait .. | .mirrorSession .. | .mirrorAck .. | .bylLinkLoss .. | .handoverYield .. => true
  | _ => false

/-- Commands that may change the paddock map. -/
def Instr.touchesPad (i : Instr) : Bool :=
  i.mayReset || match i with
  | .stageDispatch .. | .hifCancel .. | .longOpSafePoint .. | .superframeStart .. | .rxFrame .. | .spanJudged ..
  | .callPeriodExpiry .. | .sessionLeave .. | .compatInject .. | .sweepLocksHeld .. | .padCommit .. | .whatIf ..
  | .padRelease .. | .setShape .. | .mapImport .. | .mapExport .. | .setHold .. | .readCell .. | .groomTile ..
  | .parkRenewal .. | .discWrite .. | .discEnd .. | .mirrorPadReceived .. | .tamperDetect .. | .tackZeroise ..
  | .stableEnter .. | .wakeDone .. | .tokenClaimCheck .. | .heartbeatReceived .. | .heartbeatMiss ..
  | .mirrorSession .. | .mirrorAck .. | .tileData .. | .bylLinkLoss .. | .handoverYield .. => true
  | _ => false

/-- Commands that may change the fleet fix solver. -/
def Instr.touchesFix (i : Instr) : Bool :=
  i.mayReset || match i with
  | .stageDispatch .. | .hifCancel .. | .longOpSafePoint .. | .rxFrame .. | .callPeriodExpiry .. | .sessionLeave ..
  | .compatInject .. | .baseObsEpoch .. | .baseEpochTimeout .. | .svSuspectClear .. | .interferenceChange ..
  | .fixSolve .. | .ambiguitySearch .. | .searchWaitExpiry .. | .reinit .. | .resetCtx .. | .gaitReplan ..
  | .sweepLocksHeld .. | .padCommit .. | .agcUpdate .. | .secondBoundary .. | .spoofClear .. | .svClearAll ..
  | .rtcmInputGap .. | .refMonitor .. | .stableEnter .. | .tokenClaimCheck .. | .mirrorSession ..
  | .mirrorConfig .. | .handoverYield .. => true
  | _ => false

/-- Commands that may change AIR. -/
def Instr.touchesAir (i : Instr) : Bool :=
  i.mayReset || match i with
  | .stageDispatch .. | .superframeStart .. | .sfCountStart .. | .superframeBuild .. | .frameMark ..
  | .downlinkSpan .. | .headLinkState .. | .rxFrame .. | .txReport .. | .headStatus .. | .pong .. | .spanJudged ..
  | .callPeriodExpiry .. | .joinTimeoutExpiry .. | .schedLoad .. | .sessionAccept .. | .sessionRefuse ..
  | .sessionLeave .. | .sessionSleep .. | .sessionWake .. | .setRoute .. | .compatInject .. | .tamperDetect ..
  | .tackZeroise .. | .stableEnter .. | .debugUnlock .. | .tokenClaimCheck .. | .tokenRelease ..
  | .heartbeatReceived .. | .mirrorGait .. | .mirrorSession .. | .mirrorConfig .. | .downlinkBulkSpan ..
  | .handoverYield .. => true
  | _ => false

/-- Commands that may change the redundant pair; what is mirrored goes through it. -/
def Instr.touchesByl (i : Instr) : Bool :=
  i.mayReset || match i with
  | .paramApply .. | .stageDispatch .. | .hifCancel .. | .longOpSafePoint .. | .superframeStart ..
  | .downlinkSpan .. | .headLinkState .. | .rxFrame .. | .txReport .. | .spanJudged .. | .callPeriodExpiry ..
  | .joinTimeoutExpiry .. | .schedLoad .. | .sessionAccept .. | .sessionLeave .. | .compatInject ..
  | .sweepLocksHeld .. | .setLimits .. | .padCommit .. | .padRelease .. | .setShape .. | .setHold ..
  | .groomTile .. | .parkRenewal .. | .discWrite .. | .discEnd .. | .mirrorPadReceived .. | .tamperDetect ..
  | .tackZeroise .. | .recArm .. | .recFire .. | .recTrigger .. | .trigSyncPulse .. | .stableEnter ..
  | .wakeDone .. | .hitchInChange .. | .tokenClaimCheck .. | .claimWaitExpiry .. | .tokenRelease ..
  | .bylLinkTrained .. | .bylHello .. | .bylConfirm .. | .bylResendTimeout .. | .heartbeatSend ..
  | .heartbeatReceived .. | .heartbeatMiss .. | .takeover .. | .coldTakeover .. | .mirrorGait ..
  | .mirrorSession .. | .mirrorConfig .. | .mirrorAck .. | .tileReq .. | .tileData .. | .recArmMessage ..
  | .recFireMessage .. | .svcMsg .. | .pairHandover .. | .handoverTimeout .. | .bylLinkLoss .. | .helloRetry ..
  | .downlinkBulkSpan .. | .handoverYield .. => true
  | _ => false

end Sys2Proof
end

