-- ==== Sys2Proof/Certificates/Slice0/Obligations.lean ====
section
/-!
DEFINITION. The statements for the provers. In each, `s.to t` is the machine as the clock has come to the instant of the
command.
-/

open Sys2Proof Sys2Proof.Machine

/-- POWER_ON_RESET with good rails samples the straps, evaluates WHOA and runs the boot ROM on the part fitted; with
bad rails the chip waits in the always-on domain. The third PWR_GOOD_TIMEOUT sets RAIL_FAIL; an earlier one whose
next attempt succeeds runs the boot. POWER_OFF leaves the chip unpowered. CHIP_BOOT_GO in HOST_WAIT, with images
that pass every check and a tested pair, starts every region. That a boot takes no time is the model's choice (log
entry 40). -/
def Obligations.PowerAndBootComplete : Prop :=
  /- POWER_ON_RESET -/
  (∀ (s : State) (t : Nat) (straps : BitVec 2) (senior : Bool) (part : Option Part) (tamper : BitVec 10),
    let on : State := { (State.unpowered (s.to t)) with
        chip := { ChipRt.reset with part := part.getD (s.to t).chip.part, straps := straps, senior := senior } }
    let v := (on.setFlag B.BYL_PAIR_STS_SENIOR senior).whoaConfig.whoaEval
    exec (.powerOnReset t straps senior part tamper true) s = .next (({ v with tack := { v.tack with zeroise := 0 } }
      : State).boot (v.tack.zeroise ||| tamper.toNat))) ∧
  /- POWER_ON_RESET with bad rails -/
  (∀ (s : State) (t : Nat) (straps : BitVec 2) (senior : Bool) (part : Option Part) (tamper : BitVec 10),
    let on : State := { (State.unpowered (s.to t)) with
        chip := { ChipRt.reset with part := part.getD (s.to t).chip.part, straps := straps, senior := senior } }
    let v := (on.setFlag B.BYL_PAIR_STS_SENIOR senior).whoaConfig.whoaEval
    exec (.powerOnReset t straps senior part tamper false) s = .next { v with
        chip := { v.chip with railWait := true }, tack := { v.tack with zeroise := v.tack.zeroise ||| tamper.toNat }
          }) ∧
  /- PWR_GOOD_TIMEOUT, the third failure -/
  (∀ (s : State) (t : Nat) (good : Bool),
    (s.to t).chip.powered = true →
    (s.to t).chip.railWait = true ∨ (s.to t).chip.wakeAt.isSome = true →
    (s.to t).chip.railTries = 2 →
    exec (.pwrGoodTimeout t good) s = .next (({ (s.to t) with
        chip := { (s.to t).chip with railTries := 3, wakeAt := none } } : State).setFlag B.CHIP_PWR_STS_RAIL_FAIL
      true)) ∧
  /- PWR_GOOD_TIMEOUT, the next attempt succeeds -/
  (∀ (s : State) (t : Nat),
    (s.to t).chip.powered = true →
    (s.to t).chip.railWait = true →
    (s.to t).chip.railTries < 2 →
    exec (.pwrGoodTimeout t true) s = .next (({ (s.to t) with
        chip := { (s.to t).chip with railTries := 0, railWait := false }, tack := { (s.to t).tack with zeroise := 0 }
          } : State).boot (s.to t).tack.zeroise)) ∧
  /- POWER_OFF -/
  (∀ (s : State) (t : Nat),
    exec (.powerOff t) s = .next (State.unpowered (s.to t))) ∧
  /- CHIP_BOOT_GO -/
  (∀ (s : State) (t : Nat) (rq : Requester) (val : Word) (fw gb : Image),
    (s.to t).reaches rq Reg.CHIP_BOOT_GO = true →
    val.getLsbD 0 = true →
    ((s.to t).reached rq Reg.CHIP_BOOT_GO true).get B.CHIP_BOOT_STS_PHASE = 7 →
    (((s.to t).reached rq Reg.CHIP_BOOT_GO true).checkIn (((s.to t).reached rq Reg.CHIP_BOOT_GO true).rd
      Reg.CHIP_BOOT_HOST_LEN % 2 ^ 16 * 1024) fw false true).isNone = true →
    (((s.to t).reached rq Reg.CHIP_BOOT_GO true).checkIn (((s.to t).reached rq Reg.CHIP_BOOT_GO true).rd
      Reg.CHIP_BOOT_HOST_LEN / 2 ^ 16 % 2 ^ 16 * 1024) gb true true).isNone = true →
    ((s.to t).reached rq Reg.CHIP_BOOT_GO true).chip.part.tested fw gb = true →
    exec (.chipBootGo t rq val fw gb) s = .next (((s.to t).reached rq Reg.CHIP_BOOT_GO true).startRun fw gb))

/-- TRIAL_CONFIRM_TIMEOUT at the end of CONFIRM_WAIT, ACTIVATE_RESET once its completion is written, and FULL_RESET
with KEY 0x8400 each make a full chip reset under their own cause; another KEY sets BAD_KEY. CHIP_ERROR requests
stop, records region and cause in CHIP_ERR_INFO and enters halter mode where CHIP_ERR_CTL asks for no reset. A lost
PLL or reference is chip error 4. A corrected interconnect error sets IC_CORR. -/
def Obligations.FullChipResetsComplete : Prop :=
  /- TRIAL_CONFIRM_TIMEOUT -/
  (∀ (s : State) (t : Nat) (at_ : Nat),
    (s.to t).chip.confirmAt = some at_ →
    at_ ≤ (s.to t).cyc →
    exec (.trialConfirmTimeout t) s = .next ((s.to t).fullReset B.CHIP_RST_CAUSE_TRIAL_TIMEOUT)) ∧
  /- ACTIVATE_RESET -/
  (∀ (s : State) (t : Nat) (at_ id : Nat),
    (s.to t).chip.resetAt = some (at_, id) →
    at_ ≤ (s.to t).cyc →
    (s.to t).hif.rings.any (fun p => p.2.out.any (fun o => o.id == id)) = false →
    exec (.activateReset t) s = .next ((s.to t).fullReset B.CHIP_RST_CAUSE_ACTIVATE)) ∧
  /- CHIP_RST_CMD_FULL_RESET -/
  (∀ (s : State) (t : Nat) (rq : Requester) (val : Word),
    (s.to t).reaches rq Reg.CHIP_RST_CMD = true →
    fieldOf val 0 16 = 0x8400 →
    val.getLsbD 16 = true →
    ((s.to t).reached rq Reg.CHIP_RST_CMD true).chip.heldReset = false →
    exec (.chipRstCmdFullReset t rq val) s = .next (((s.to t).reached rq Reg.CHIP_RST_CMD true).fullReset
      B.CHIP_RST_CAUSE_SOFTWARE)) ∧
  /- CHIP_RST_CMD_FULL_RESET, another KEY -/
  (∀ (s : State) (t : Nat) (rq : Requester) (val : Word),
    (s.to t).reaches rq Reg.CHIP_RST_CMD = true →
    fieldOf val 0 16 ≠ 0x8400 →
    exec (.chipRstCmdFullReset t rq val) s = .next (((s.to t).reached rq Reg.CHIP_RST_CMD true).chipErr
      B.CHIP_ERR_STS_BAD_KEY)) ∧
  /- CHIP_ERROR -/
  (∀ (s : State) (t : Nat) (cause : BitVec 4) (region : Fin 16),
    (s.to t).chip.powered = true →
    (s.to t).chip.stabled = false →
    ((s.to t).requestStop.wr Reg.CHIP_ERR_INFO (region.val % 16 + cause.toNat % 16 * 16)).halter = false →
    ((s.to t).requestStop.wr Reg.CHIP_ERR_INFO (region.val % 16 + cause.toNat % 16 * 16)).flag B.CHIP_ERR_CTL_ACTION =
      false →
    exec (.chipError t cause region) s = .next (((s.to t).requestStop.wr Reg.CHIP_ERR_INFO (region.val % 16 +
      cause.toNat % 16 * 16)).enterHalter (if cause.toNat = 5 then 10 else 7) region.val false)) ∧
  /- PLL_LOCK_LOSS -/
  (∀ (s : State) (t : Nat) (region : Fin 16),
    (s.to t).chip.powered = true →
    (s.to t).chip.stabled = false →
    exec (.pllLockLoss t region) s = .next ((s.to t).chipError 4 region.val)) ∧
  /- REF_CLOCK_CHECK, the reference lost -/
  (∀ (s : State) (t : Nat) (ppb : Int) (silent : Nat),
    (s.to t).chip.powered = true →
    (s.to t).chip.stabled = false →
    1000000 < ppb.natAbs ∨ 10000 ≤ silent →
    exec (.refClockCheck t ppb silent) s = .next ((s.to t).chipError 4 0)) ∧
  /- INTERCONNECT_CORRECTED_ERROR -/
  (∀ (s : State) (t : Nat),
    (s.to t).chip.powered = true →
    exec (.interconnectCorrectedError t) s = .next ((s.to t).chipErr B.CHIP_ERR_STS_IC_CORR))

/-- A region error of a running region other than MQF, WHOA and CHIP that escalates under no limit runs the sequence
of R33 and counts toward R34; a write of RESET to TAG_RGN_CMD is such an error with cause 9. A region in LOADING
that has reloaded runs, from ROM tables in halter mode, and takes up what waited. PERST and a link reset reset HIF
as a region without counting, disable the rings and set the link's state. -/
def Obligations.RegionAndLinkResetsComplete : Prop :=
  /- REGION_ERROR -/
  (∀ (s : State) (t : Nat) (region : Fin 16) (cause : ErrCause),
    (s.to t).rgnState region.val ≠ rsOff →
    region.val ≠ 0 →
    region.val ≠ 3 →
    region.val ≠ 13 →
    cause ≠ .linkReset →
    (s.to t).recentResets region.val < 2 →
    ((s.to t).noteReset region.val).resetting region.val = false →
    exec (.regionError t region cause) s = .next (((s.to t).noteReset region.val).runReset region.val 0 0xFFFF cause)) ∧
  /- REGION_ERROR of MQF is a chip error -/
  (∀ (s : State) (t : Nat) (cause : ErrCause),
    (s.to t).rgnState 3 ≠ rsOff →
    exec (.regionError t 3 cause) s = .next ((s.to t).chipError 2 3)) ∧
  /- REGION_ERROR, the third within 10 s is a chip error -/
  (∀ (s : State) (t : Nat) (region : Fin 16) (cause : ErrCause),
    (s.to t).rgnState region.val ≠ rsOff →
    region.val ≠ 0 →
    region.val ≠ 3 →
    cause ≠ .linkReset →
    2 ≤ (s.to t).recentResets region.val →
    exec (.regionError t region cause) s = .next ((s.to t).chipError 1 region.val)) ∧
  /- REGION_RELOADED -/
  (∀ (s : State) (t : Nat) (region : Fin 16) (svcHash : Nat),
    region.val ≠ 0 →
    (s.to t).rgnState region.val = rsLoading →
    (s.to t).chip.gb.all (fun g => (g.badTable region.val).isNone) = true →
    region.val = 4 → (s.to t).svcCopyOk svcHash = true →
    exec (.regionReloaded t region svcHash) s = .next (((if region.val = 7 then (s.to t).padLoad else if region.val =
      6 then (s.to t).setLanes (s.to t).workLanes else (s.to t)).setRgnState region.val (if (if region.val = 7 then
      (s.to t).padLoad else if region.val = 6 then (s.to t).setLanes (s.to t).workLanes else (s.to t)).halter then
      rsHalter else rsRun)).takeUp region.val)) ∧
  /- REGION_RELOADED, a table whose CRC is wrong -/
  (∀ (s : State) (t : Nat) (region : Fin 16) (svcHash : Nat) (gb : Image) (g : GaitTable),
    region.val ≠ 0 →
    (s.to t).rgnState region.val = rsLoading →
    (s.to t).halter = false →
    (s.to t).chip.gb = some gb →
    gb.badTable region.val = some g →
    exec (.regionReloaded t region svcHash) s = .next ((s.to t).blockError region.val g.block 0xFFFF .tableCrc [])) ∧
  /- RGN_CMD_RESET -/
  (∀ (s : State) (t : Nat) (rq : Requester) (region : Fin 16) (val : Word),
    (s.to t).reaches rq (Reg.RGN_CMD region.val) = true →
    val.getLsbD 0 = true →
    region.val ≠ 0 →
    region.val ≠ 3 →
    region.val ≠ 13 →
    ((s.to t).reached rq (Reg.RGN_CMD region.val) true).rgnState region.val ≠ rsOff →
    ((s.to t).reached rq (Reg.RGN_CMD region.val) true).recentResets region.val < 2 →
    (((s.to t).reached rq (Reg.RGN_CMD region.val) true).noteReset region.val).resetting region.val = false →
    exec (.rgnCmdReset t rq region val) s = .next ((((s.to t).reached rq (Reg.RGN_CMD region.val) true).noteReset
      region.val).runReset region.val 0 0xFFFF .software)) ∧
  /- PCIE_PERST -/
  (∀ (s : State) (t : Nat),
    (s.to t).rgnState 1 ≠ rsOff →
    let x := (s.to t).regionError 1 0 0xFFFF .linkReset
    let y : State := { x with hif := { x.hif with pcie := PcieRt.reset } }
    let v := ((List.range 64).filter (fun n => y.ringOn n)).foldl (fun (s : State) n => ((s.setFlag
      (B.HIF_RING_CTL_ENABLE n) false).setFlag (B.HIF_RING_STS_RECOVERING n) false).reportRing n) y
    exec (.pciePerst t) s = .next (({ v with
        hif := { v.hif with
            linkUp := false, revert := v.hif.revert || (!false && (v.hif.own != 0 || v.rd Reg.SVC_POLICY_OWN % 32 !=
              0)) } } : State).reroute)) ∧
  /- PCIE_LINK_RESET -/
  (∀ (s : State) (t : Nat) (up : Bool),
    (s.to t).rgnState 1 ≠ rsOff →
    let x := (s.to t).regionError 1 0 0xFFFF .linkReset
    let y : State := { x with hif := { x.hif with pcie := PcieRt.reset } }
    let v := ((List.range 64).filter (fun n => y.ringOn n)).foldl (fun (s : State) n => ((s.setFlag
      (B.HIF_RING_CTL_ENABLE n) false).setFlag (B.HIF_RING_STS_RECOVERING n) false).reportRing n) y
    exec (.pcieLinkReset t up) s = .next (({ v with
        hif := { v.hif with
            linkUp := up, revert := v.hif.revert || (!up && (v.hif.own != 0 || v.rd Reg.SVC_POLICY_OWN % 32 != 0)) } }
      : State).reroute))

/-- A block error below BLK_LIMIT counts toward R32, is recorded, fails the items the block holds FAIL_FAULT and
leaves the block restarting; its restart counts in TAG_RGN_BLK_RST_CNT and takes the requests that waited. A cell
error counts, is recorded and fails its item; below the 16th within 1 s nothing more happens. A handshake carries
one item, which passes to the receiver that takes it; an acknowledged port is free again; a request unacknowledged
for 10 ms sets HS_TIMEOUT and is a block error of cause 7 at the receiver. -/
def Obligations.BlockCellAndCrossingErrorsComplete : Prop :=
  /- BLOCK_ERROR -/
  (∀ (s : State) (t : Nat) (region : Fin 16) (block : BitVec 8) (cause : ErrCause) (held : List Nat),
    region.val ≠ 0 →
    region.val ≠ 13 →
    (s.to t).rgnState region.val ≠ rsOff →
    (s.to t).resetting region.val = false →
    (s.to t).recentRestarts region.val block.toNat < (s.to t).get (B.RGN_CTL_BLK_LIMIT region.val) →
    ((s.to t).noteRestart region.val block.toNat).rgn.restarting.contains (region.val, block.toNat) = false →
    exec (.blockError t region block cause held none) s = .next { (((((s.to t).noteRestart region.val
      block.toNat).rgnInfo region.val 1 block.toNat 0xFFFF cause).rgnErr (B.RGN_ERR_BLOCK_ERR region.val)).failHeld
      region.val 0xFFF held) with
        rgn := { (((((s.to t).noteRestart region.val block.toNat).rgnInfo region.val 1 block.toNat 0xFFFF
          cause).rgnErr (B.RGN_ERR_BLOCK_ERR region.val)).failHeld region.val 0xFFF held).rgn with
            restarting := (((((s.to t).noteRestart region.val block.toNat).rgnInfo region.val 1 block.toNat 0xFFFF
              cause).rgnErr (B.RGN_ERR_BLOCK_ERR region.val)).failHeld region.val 0xFFF held).rgn.restarting ++
              [(region.val, block.toNat)] } }) ∧
  /- BLOCK_ERROR, an access to DRAM outside the region's areas -/
  (∀ (s : State) (t : Nat) (region : Fin 16) (block : BitVec 8) (cause : ErrCause) (held : List Nat) (x : DramAccess),
    (s.to t).up region.val = true →
    (s.to t).dramAllows region.val x = false →
    x.write = true →
    exec (.blockError t region block cause held (some x)) s = .next (((s.to t).setFlag B.MQF_DRAM_STS_BOUNDS
      true).blockError region.val block.toNat 0xFFFF cause held)) ∧
  /- BLOCK_RESTART_DONE -/
  (∀ (s : State) (t : Nat) (region : Fin 16) (block : BitVec 8),
    (s.to t).rgn.restarting.contains (region.val, block.toNat) = true →
    (({ (s.to t) with
        rgn := { (s.to t).rgn with
            restarting := (s.to t).rgn.restarting.filter (fun p => p != (region.val, block.toNat)) } }) :
      State).blockLoads region.val block.toNat = true →
    exec (.blockRestartDone t region block) s = .next (((({ (s.to t) with
        rgn := { (s.to t).rgn with
            restarting := (s.to t).rgn.restarting.filter (fun p => p != (region.val, block.toNat)) } }) :
      State).takeCrossings region.val (s.to t).rgn.hs.length).count (Reg.RGN_BLK_RST_CNT region.val))) ∧
  /- CELL_ERROR, below the sixteenth -/
  (∀ (s : State) (t : Nat) (region : Fin 16) (kind : CellKind) (cell : BitVec 16) (block : BitVec 8) (cause :
    ErrCause) (poison : Bool) (it : Item) (held : List Nat),
    region.val ≠ 0 →
    (s.to t).rgnState region.val ≠ rsOff →
    (s.to t).rgn.retired.contains (region.val, cell.toNat) = false →
    ((s.to t).noteCell region.val block.toNat cell.toNat cause).itemOf? it.id = some it →
    ((((s.to t).noteCell region.val block.toNat cell.toNat cause).failOne it region.val (cell.toNat % 0x1000) (if
      poison then .failPoison else .failFault)).cellMarks kind cell.toNat).cellHits region.val cell.toNat < 16 →
    exec (.cellError t region kind cell block cause poison (some it.id) held) s = .next ((((s.to t).noteCell
      region.val block.toNat cell.toNat cause).failOne it region.val (cell.toNat % 0x1000) (if poison then .failPoison
      else .failFault)).cellMarks kind cell.toNat)) ∧
  /- CELL_ERROR, the sixteenth of a pooled cell -/
  (∀ (s : State) (t : Nat) (region : Fin 16) (kind : CellKind) (cell : BitVec 16) (block : BitVec 8) (cause :
    ErrCause) (poison : Bool) (held : List Nat),
    region.val ≠ 0 →
    (s.to t).rgnState region.val ≠ rsOff →
    (s.to t).rgn.retired.contains (region.val, cell.toNat) = false →
    kind.pooled = true →
    16 ≤ (((s.to t).noteCell region.val block.toNat cell.toNat cause).cellMarks kind cell.toNat).cellHits region.val
      cell.toNat →
    exec (.cellError t region kind cell block cause poison none held) s = .next (((((s.to t).noteCell region.val
      block.toNat cell.toNat cause).cellMarks kind cell.toNat).clearHits region.val cell.toNat).retireCell region.val
      cell.toNat kind)) ∧
  /- HANDSHAKE_REQUEST at a free port, the receiver taking none yet -/
  (∀ (s : State) (t : Nat) (sender receiver : Fin 16) (block : BitVec 8) (x : Item),
    receiver.val ≠ 2 →
    (s.to t).rgn.hs.any (fun h => h.is sender.val receiver.val block.toNat) = false →
    exec (.handshakeRequest t sender receiver block x false) s = .next { (s.to t) with
        rgn := { (s.to t).rgn with
            hs := (s.to t).rgn.hs ++ [⟨sender.val, receiver.val, block.toNat, some x, false, (s.to t).cyc⟩], inbox :=
              (s.to t).rgn.inbox.filter (fun p => p.2.id != x.id) } }) ∧
  /- HANDSHAKE_REQUEST, the receiver taking the request it serves next -/
  (∀ (s : State) (t : Nat) (sender receiver : Fin 16) (block : BitVec 8) (x : Item) (h : HsPort),
    receiver.val ≠ 2 →
    (s.to t).rgn.hs.any (fun h => h.is sender.val receiver.val block.toNat) = false →
    (({ (s.to t) with
        rgn := { (s.to t).rgn with
            hs := (s.to t).rgn.hs ++ [⟨sender.val, receiver.val, block.toNat, some x, false, (s.to t).cyc⟩], inbox :=
              (s.to t).rgn.inbox.filter (fun p => p.2.id != x.id) } }) : State).up receiver.val = true →
    (({ (s.to t) with
        rgn := { (s.to t).rgn with
            hs := (s.to t).rgn.hs ++ [⟨sender.val, receiver.val, block.toNat, some x, false, (s.to t).cyc⟩], inbox :=
              (s.to t).rgn.inbox.filter (fun p => p.2.id != x.id) } }) : State).crossNext receiver.val = some h →
    exec (.handshakeRequest t sender receiver block x true) s = .next { (({ (s.to t) with
        rgn := { (s.to t).rgn with
            hs := (s.to t).rgn.hs ++ [⟨sender.val, receiver.val, block.toNat, some x, false, (s.to t).cyc⟩], inbox :=
              (s.to t).rgn.inbox.filter (fun p => p.2.id != x.id) } }) : State) with
        rgn := { (({ (s.to t) with
            rgn := { (s.to t).rgn with
                hs := (s.to t).rgn.hs ++ [⟨sender.val, receiver.val, block.toNat, some x, false, (s.to t).cyc⟩], inbox
                  := (s.to t).rgn.inbox.filter (fun p => p.2.id != x.id) } }) : State).rgn with
            hs := (({ (s.to t) with
                rgn := { (s.to t).rgn with
                    hs := (s.to t).rgn.hs ++ [⟨sender.val, receiver.val, block.toNat, some x, false, (s.to t).cyc⟩],
                      inbox := (s.to t).rgn.inbox.filter (fun p => p.2.id != x.id) } }) : State).rgn.hs.map (fun (y :
              HsPort) => if y.receiver = receiver.val ∧ y.key = h.key then { y with item := none, taken := true } else
              y), inbox := (({ (s.to t) with
                rgn := { (s.to t).rgn with
                    hs := (s.to t).rgn.hs ++ [⟨sender.val, receiver.val, block.toNat, some x, false, (s.to t).cyc⟩],
                      inbox := (s.to t).rgn.inbox.filter (fun p => p.2.id != x.id) } }) : State).rgn.inbox ++
              (h.item.map (fun it => (receiver.val, it))).toList, turn := Sp.put (({ (s.to t) with
                rgn := { (s.to t).rgn with
                    hs := (s.to t).rgn.hs ++ [⟨sender.val, receiver.val, block.toNat, some x, false, (s.to t).cyc⟩],
                      inbox := (s.to t).rgn.inbox.filter (fun p => p.2.id != x.id) } }) : State).rgn.turn (8 *
              receiver.val + (({ (s.to t) with
                rgn := { (s.to t).rgn with
                    hs := (s.to t).rgn.hs ++ [⟨sender.val, receiver.val, block.toNat, some x, false, (s.to t).cyc⟩],
                      inbox := (s.to t).rgn.inbox.filter (fun p => p.2.id != x.id) } }) : State).crossLevel h) h.key }
          }) ∧
  /- HANDSHAKE_REQUEST at a source port of DSP -/
  (∀ (s : State) (t : Nat) (sender : Fin 16) (block : BitVec 8) (x : Item) (takes : Bool) (p : Nat × Source),
    sourcePort sender.val = some p →
    exec (.handshakeRequest t sender 2 block x takes) s = .next ((s.to t).tookId.toPort p.1 { x with
        id := (s.to t).hif.nextId, src := p.2, obs := false, wait := .fresh })) ∧
  /- HANDSHAKE_ACK_SEEN -/
  (∀ (s : State) (t : Nat) (sender receiver : Fin 16) (block : BitVec 8),
    exec (.handshakeAckSeen t sender receiver block) s = .next { (s.to t) with
        rgn := { (s.to t).rgn with
            hs := (s.to t).rgn.hs.filter (fun h => !(h.is sender.val receiver.val block.toNat && h.taken)) } }) ∧
  /- HANDSHAKE_TIMEOUT -/
  (∀ (s : State) (t : Nat) (sender receiver : Fin 16) (block : BitVec 8) (held : List Nat) (h : HsPort),
    (s.to t).rgn.hs.find? (fun h => h.is sender.val receiver.val block.toNat) = some h →
    h.taken = false →
    sender.val ≠ 0 →
    (s.to t).rgnState receiver.val = rsRun →
    h.since + 10 * cycMs ≤ (s.to t).cyc →
    exec (.handshakeTimeout t sender receiver block held) s = .next (((({ (s.to t) with
        rgn := { (s.to t).rgn with
            hs := (s.to t).rgn.hs.map (fun (x : HsPort) => if x.is sender.val receiver.val block.toNat then { x with
                since := (s.to t).cyc } else x) } }) : State).rgnErr (B.RGN_ERR_HS_TIMEOUT sender.val)).blockError
      receiver.val block.toNat 0xFFFF .handshake held))

/-- A bad access sets ACCESS and a bad read returns all ones. A write to a mapped word without a row of its own acts
under the access types of its fields; one to an offset no chapter defines sets UNMAPPED. A read of an RC word
returns its state and clears the RC fields but for the events of the same cycle. The low word of a 64-bit register
latches the high word for its requester, and a write of the high word commits both halves. A word that is not served
sets REGION_DOWN, and a read of it returns all ones. The doorbell pages beside BAR0 ring a doorbell as the doorbell
commands do, and read 0. An address in no BAR stops the model. Where the model puts the other BARs is its own choice
(log entry 116). -/
def Obligations.RegisterAccessesComplete : Prop :=
  /- BAD_ACCESS, a write -/
  (∀ (s : State) (t : Nat) (rq : Requester) (addr bytes : Nat) (enables : BitVec 4),
    inBars addr = true →
    ¬ (addr % 4 = 0 ∧ bytes = 4 ∧ enables = 15#4) →
    exec (.badAccess t rq true addr bytes enables) s = .next ((s.to t).chipErr B.CHIP_ERR_STS_ACCESS)) ∧
  /- BAD_ACCESS, a read -/
  (∀ (s : State) (t : Nat) (rq : Requester) (addr bytes : Nat) (enables : BitVec 4),
    inBars addr = true →
    ¬ (addr % 4 = 0 ∧ bytes = 4 ∧ enables = 15#4) →
    exec (.badAccess t rq false addr bytes enables) s = .next (((s.to t).chipErr B.CHIP_ERR_STS_ACCESS).answer rq
      (BitVec.allOnes 32))) ∧
  /- REGISTER_WRITE of a word without a row of its own -/
  (∀ (s : State) (t : Nat) (rq : Requester) (addr : Nat) (val same : Word),
    addr < 0x1000000 →
    addr % 4 = 0 →
    ownRow addr = false →
    ((s.to t).rowWrite rq addr val).isNone = true →
    isKind addr .high = false →
    isKind addr .low = false →
    ¬ (addr / 0x100000 ≠ 0 ∧ addr / 0x100000 ≠ 13 ∧ addr % 0x100000 = 0x24) →
    mapped addr = true →
    (s.to t).reaches rq addr = true →
    (((s.to t).reached rq addr true).forbids addr val).isNone = true →
    exec (.registerWrite t rq addr val same) s = .next ((((s.to t).reached rq addr true).softWrite addr
      (((s.to t).reached rq addr true).adjust addr val) same).written addr val)) ∧
  /- REGISTER_WRITE of an undefined offset -/
  (∀ (s : State) (t : Nat) (rq : Requester) (addr : Nat) (val same : Word),
    addr < 0x1000000 →
    addr % 4 = 0 →
    ownRow addr = false →
    ((s.to t).rowWrite rq addr val).isNone = true →
    isKind addr .high = false →
    isKind addr .low = false →
    ¬ (addr / 0x100000 ≠ 0 ∧ addr / 0x100000 ≠ 13 ∧ addr % 0x100000 = 0x24) →
    mapped addr = false →
    (s.to t).reaches rq addr = true →
    exec (.registerWrite t rq addr val same) s = .next (((s.to t).reached rq addr true).chipErr
      B.CHIP_ERR_STS_UNMAPPED)) ∧
  /- REGISTER_WRITE outside every BAR -/
  (∀ (s : State) (t : Nat) (rq : Requester) (addr : Nat) (val same : Word),
    0x1000000 ≤ addr →
    barOf addr = none →
    exec (.registerWrite t rq addr val same) s = .fault (.outsideBar addr)) ∧
  /- REGISTER_WRITE of a doorbell by the host -/
  (∀ (s : State) (t : Nat) (ring : Fin 64) (val same : Word),
    (s.to t).chip.powered = true →
    (s.to t).chip.stabled = false →
    (s.to t).hif.pcie.d3hot = false →
    exec (.registerWrite t 0 (0x1000000 + ring.val * 0x1000) val same) s = exec (.sqTailWrite t ring val) s ∧ exec
      (.registerWrite t 0 (0x1000000 + ring.val * 0x1000 + 4) val same) s = exec (.cqHeadWrite t ring val) s) ∧
  /- REGISTER_WRITE of a word that is not served -/
  (∀ (s : State) (t : Nat) (rq : Requester) (addr : Nat) (val same : Word),
    addr < 0x1000000 →
    addr % 4 = 0 →
    ownRow addr = false →
    ((s.to t).rowWrite rq addr val).isNone = true →
    isKind addr .high = false →
    (s.to t).refuses rq addr = true →
    exec (.registerWrite t rq addr val same) s = .next (((s.to t).reached rq addr true).chipErr
      B.CHIP_ERR_STS_REGION_DOWN)) ∧
  /- RC_REGISTER_READ of a word that is not served -/
  (∀ (s : State) (t : Nat) (rq : Requester) (addr : Nat) (same : Word),
    addr < 0x1000000 →
    addr % 4 = 0 →
    (s.to t).refuses rq addr = true →
    exec (.rcRegisterRead t rq addr same) s = .next ((((s.to t).reached rq addr false).chipErr
      B.CHIP_ERR_STS_REGION_DOWN).answer rq (BitVec.allOnes 32))) ∧
  /- RC_REGISTER_READ -/
  (∀ (s : State) (t : Nat) (rq : Requester) (addr : Nat) (same : Word) (d : RegDef),
    addr < 0x1000000 →
    addr % 4 = 0 →
    regDef? addr = some d →
    hasRc addr = true →
    addr ≠ Reg.WHOA_FAULT →
    (s.to t).reaches rq addr = true →
    exec (.rcRegisterRead t rq addr same) s = .next (((((s.to t).reached rq addr false).answer rq (((s.to t).reached
      rq addr false).readValue addr)).tookFree).setWord addr ((((s.to t).reached rq addr false).word addr &&&
      ~~~(fieldMask (fun c => c == .rc) d.fields)) ||| (same &&& (fieldMask (fun c => c == .rc) d.fields))))) ∧
  /- REG64_LOW_READ -/
  (∀ (s : State) (t : Nat) (rq : Requester) (addr : Nat),
    isKind addr .low = true →
    addr ≠ Reg.TIM_TIME →
    (s.to t).reaches rq addr = true →
    exec (.reg64LowRead t rq addr) s = .next (((((s.to t).reached rq addr false).answer rq (((s.to t).reached rq addr
      false).readValue addr)).tookFree).setBus rq { ((((s.to t).reached rq addr false).answer rq (((s.to t).reached rq
      addr false).readValue addr)).tookFree).busOf rq with
        latch := ((s.to t).reached rq addr false).present (addr + 4) })) ∧
  /- REG64_HIGH_WRITE -/
  (∀ (s : State) (t : Nat) (rq : Requester) (addr : Nat) (val : Word),
    isKind addr .high = true →
    ((s.to t).rowWrite rq addr val).isNone = true →
    addr ≠ Reg.TIM_INCR + 4 →
    (s.to t).reaches rq addr = true →
    (((s.to t).reached rq addr true).forbids addr val).isNone = true →
    exec (.reg64HighWrite t rq addr val) s = .next (((((s.to t).reached rq addr true).softWrite (addr - 4)
      ((s.to t).lowHalf rq addr)).softWrite addr val).written addr val)) ∧
  /- PARAM_APPLY of a block in range -/
  (∀ (s : State) (t : Nat) (rq : Requester) (region : Fin 16) (id : BitVec 16) (blk : ParamBlock),
    region.val ≠ 0 →
    region.val ≠ 13 →
    (s.to t).reaches rq (Reg.RGN_PARAM_APPLY region.val) = true →
    ((s.to t).reached rq (Reg.RGN_PARAM_APPLY region.val) true).blockOf? region.val id = some blk →
    ((s.to t).reached rq (Reg.RGN_PARAM_APPLY region.val) true).mayApply blk = true →
    exec (.paramApply t rq region id) s = .next (((s.to t).reached rq (Reg.RGN_PARAM_APPLY region.val)
      true).applyBlock blk)) ∧
  /- PARAM_APPLY of a block out of range -/
  (∀ (s : State) (t : Nat) (rq : Requester) (region : Fin 16) (id : BitVec 16) (blk : ParamBlock),
    region.val ≠ 0 →
    region.val ≠ 13 →
    (s.to t).reaches rq (Reg.RGN_PARAM_APPLY region.val) = true →
    ((s.to t).reached rq (Reg.RGN_PARAM_APPLY region.val) true).blockOf? region.val id = some blk →
    ((s.to t).reached rq (Reg.RGN_PARAM_APPLY region.val) true).mayApply blk = false →
    exec (.paramApply t rq region id) s = .next (((s.to t).reached rq (Reg.RGN_PARAM_APPLY region.val) true).rgnErr
      (B.RGN_ERR_PARAM_REJ region.val)))

/-- A doorbell that meets the two rules of R60 sets the ring's index, one that breaks them sets DB_ERR, and one to a
ring that is off or recovering is kept. A rising ENABLE starts a ring of legal configuration afresh or with the
recovery scan, and is refused with CFG_ERR otherwise. RING_RECOVERED sets RECOVERED, raises the vector and applies
the kept doorbells. -/
def Obligations.DoorbellsAndRingStartsComplete : Prop :=
  /- SQ_TAIL_WRITE, legal -/
  (∀ (s : State) (t : Nat) (ring : Fin 64) (val : Word),
    ((s.to t).feedWatchdog ring.val).doorbellLive ring.val = true →
    idxDiff val.toNat (((s.to t).feedWatchdog ring.val).rd (Reg.HIF_RING_SQ_HEAD ring.val)) ≤ 2 ^
      ((s.to t).feedWatchdog ring.val).sqLog ring.val →
    idxDiff (((s.to t).feedWatchdog ring.val).ringOf ring.val).tail (((s.to t).feedWatchdog ring.val).rd
      (Reg.HIF_RING_SQ_HEAD ring.val)) ≤ idxDiff val.toNat (((s.to t).feedWatchdog ring.val).rd (Reg.HIF_RING_SQ_HEAD
      ring.val)) →
    exec (.sqTailWrite t ring val) s = .next (((s.to t).feedWatchdog ring.val).setRing ring.val {
      ((s.to t).feedWatchdog ring.val).ringOf ring.val with tail := val.toNat })) ∧
  /- SQ_TAIL_WRITE, too far or backwards -/
  (∀ (s : State) (t : Nat) (ring : Fin 64) (val : Word),
    ((s.to t).feedWatchdog ring.val).doorbellLive ring.val = true →
    2 ^ ((s.to t).feedWatchdog ring.val).sqLog ring.val < idxDiff val.toNat (((s.to t).feedWatchdog ring.val).rd
      (Reg.HIF_RING_SQ_HEAD ring.val)) ∨ idxDiff val.toNat (((s.to t).feedWatchdog ring.val).rd (Reg.HIF_RING_SQ_HEAD
      ring.val)) < idxDiff (((s.to t).feedWatchdog ring.val).ringOf ring.val).tail (((s.to t).feedWatchdog
      ring.val).rd (Reg.HIF_RING_SQ_HEAD ring.val)) →
    exec (.sqTailWrite t ring val) s = .next (((s.to t).feedWatchdog ring.val).ringEvent ring.val
      (B.HIF_RING_STS_DB_ERR ring.val))) ∧
  /- SQ_TAIL_WRITE, kept -/
  (∀ (s : State) (t : Nat) (ring : Fin 64) (val : Word),
    ((s.to t).feedWatchdog ring.val).doorbellLive ring.val = false →
    exec (.sqTailWrite t ring val) s = .next (((s.to t).feedWatchdog ring.val).setRing ring.val {
      ((s.to t).feedWatchdog ring.val).ringOf ring.val with keptTail := some val.toNat })) ∧
  /- CQ_HEAD_WRITE, legal -/
  (∀ (s : State) (t : Nat) (ring : Fin 64) (val : Word),
    ((s.to t).feedWatchdog ring.val).doorbellLive ring.val = true →
    idxDiff (((s.to t).feedWatchdog ring.val).rd (Reg.HIF_RING_CQ_PI ring.val)) val.toNat ≤ 2 ^ ((s.to t).feedWatchdog
      ring.val).cqLog ring.val →
    idxDiff (((s.to t).feedWatchdog ring.val).rd (Reg.HIF_RING_CQ_PI ring.val)) val.toNat ≤ idxDiff
      (((s.to t).feedWatchdog ring.val).rd (Reg.HIF_RING_CQ_PI ring.val)) (((s.to t).feedWatchdog ring.val).ringOf
      ring.val).cqHead →
    exec (.cqHeadWrite t ring val) s = .next ((((s.to t).feedWatchdog ring.val).setRing ring.val {
      ((s.to t).feedWatchdog ring.val).ringOf ring.val with cqHead := val.toNat }).reportRing ring.val)) ∧
  /- CQ_HEAD_WRITE beyond CQ_PI -/
  (∀ (s : State) (t : Nat) (ring : Fin 64) (val : Word),
    ((s.to t).feedWatchdog ring.val).doorbellLive ring.val = true →
    2 ^ ((s.to t).feedWatchdog ring.val).cqLog ring.val < idxDiff (((s.to t).feedWatchdog ring.val).rd
      (Reg.HIF_RING_CQ_PI ring.val)) val.toNat ∨ idxDiff (((s.to t).feedWatchdog ring.val).rd (Reg.HIF_RING_CQ_PI
      ring.val)) (((s.to t).feedWatchdog ring.val).ringOf ring.val).cqHead < idxDiff (((s.to t).feedWatchdog
      ring.val).rd (Reg.HIF_RING_CQ_PI ring.val)) val.toNat →
    exec (.cqHeadWrite t ring val) s = .next (((s.to t).feedWatchdog ring.val).ringEvent ring.val
      (B.HIF_RING_STS_DB_ERR ring.val))) ∧
  /- RING_ENABLE afresh or with recovery -/
  (∀ (s : State) (t : Nat) (rq : Requester) (ring : Fin 64) (val : Word) (log : List LogRec),
    (s.to t).reaches rq (Reg.HIF_RING_CTL ring.val) = true →
    val.getLsbD 0 = true →
    ((s.to t).reached rq (Reg.HIF_RING_CTL ring.val) true).ringOn ring.val = false →
    (((s.to t).reached rq (Reg.HIF_RING_CTL ring.val) true).setFlag (B.HIF_RING_CTL_RECOVER ring.val) (val.getLsbD
      1)).ringCfgOk ring.val = true →
    exec (.ringEnable t rq ring val log) s = .next ((if val.getLsbD 1 then (((((s.to t).reached rq (Reg.HIF_RING_CTL
      ring.val) true).setFlag (B.HIF_RING_CTL_RECOVER ring.val) (val.getLsbD 1)).setFlag (B.HIF_RING_CTL_ENABLE
      ring.val) true).setFlag (B.HIF_RING_STS_RECOVERING ring.val) true).recoverRing ring.val log else
      (((((s.to t).reached rq (Reg.HIF_RING_CTL ring.val) true).setFlag (B.HIF_RING_CTL_RECOVER ring.val) (val.getLsbD
      1)).setFlag (B.HIF_RING_CTL_ENABLE ring.val) true).setFlag (B.HIF_RING_STS_RECOVERING ring.val) true).freshRing
      ring.val).reportRing ring.val)) ∧
  /- RING_ENABLE with an illegal configuration -/
  (∀ (s : State) (t : Nat) (rq : Requester) (ring : Fin 64) (val : Word) (log : List LogRec),
    (s.to t).reaches rq (Reg.HIF_RING_CTL ring.val) = true →
    val.getLsbD 0 = true →
    ((s.to t).reached rq (Reg.HIF_RING_CTL ring.val) true).ringOn ring.val = false →
    (((s.to t).reached rq (Reg.HIF_RING_CTL ring.val) true).setFlag (B.HIF_RING_CTL_RECOVER ring.val) (val.getLsbD
      1)).ringCfgOk ring.val = false →
    exec (.ringEnable t rq ring val log) s = .next ((((s.to t).reached rq (Reg.HIF_RING_CTL ring.val) true).setFlag
      (B.HIF_RING_CTL_RECOVER ring.val) (val.getLsbD 1)).ringEvent ring.val (B.HIF_RING_STS_CFG_ERR ring.val))) ∧
  /- RING_RECOVERED -/
  (∀ (s : State) (t : Nat) (ring : Fin 64),
    (s.to t).runs 1 blkWriter = true →
    (s.to t).ringOn ring.val = true →
    (s.to t).flag (B.HIF_RING_STS_RECOVERING ring.val) = true →
    (s.to t).ringClear ring.val = true →
    exec (.ringRecovered t ring) s = .next (((((if (s.to t).flag (B.HIF_RING_CTL_RECOVER ring.val) then (s.to t).set
      (B.HIF_RING_RECOV_CNT_FAILED ring.val) ((s.to t).ringOf ring.val).recFailed else (s.to t)).setFlag
      (B.HIF_RING_STS_RECOVERING ring.val) false).ringEvent ring.val (B.HIF_RING_STS_RECOVERED ring.val)).applyKept
      ring.val).reportRing ring.val))

/-- A permitted fetch logs the batch FETCHED, advances SQ_HEAD and passes the items on. A completion is written at
CQ_PI while the completion ring has room, between its COMPLETING and COMPLETE records, and CQ_PI advances; while it
has none nothing is written. A stale completion of a fresh enable is written without a log record and counted. At
the end of HOLDOFF the ring's vector fires. At its WHEN a waiting item acts. -/
def Obligations.FetchesAndCompletionsComplete : Prop :=
  /- DESCRIPTOR_FETCH -/
  (∀ (s : State) (t : Nat) (ring : Fin 64) (raw : List (List Byte)),
    (s.to t).mayFetch ring.val ((raw.map Desc.ofBytes)).length = true →
    exec (.descriptorFetch t ring raw) s = .next (((batchItems ring.val ((s.to t).hif.nextId) ((s.to t).rd
      (Reg.HIF_RING_SQ_HEAD ring.val)) ((raw.map Desc.ofBytes))).foldl (fun (s : State) (it : Item) => s.placeFetched
      ring.val it) ((({ ((s.to t).logFetched ring.val (batchItems ring.val ((s.to t).hif.nextId) ((s.to t).rd
      (Reg.HIF_RING_SQ_HEAD ring.val)) ((raw.map Desc.ofBytes)))) with
        hif := { ((s.to t).logFetched ring.val (batchItems ring.val ((s.to t).hif.nextId) ((s.to t).rd
          (Reg.HIF_RING_SQ_HEAD ring.val)) ((raw.map Desc.ofBytes)))).hif with
            nextId := ((s.to t).logFetched ring.val (batchItems ring.val ((s.to t).hif.nextId) ((s.to t).rd
              (Reg.HIF_RING_SQ_HEAD ring.val)) ((raw.map Desc.ofBytes)))).hif.nextId + ((raw.map Desc.ofBytes)).length
              } } : State).wr (Reg.HIF_RING_SQ_HEAD ring.val) ((((s.to t).rd (Reg.HIF_RING_SQ_HEAD ring.val)) +
      ((raw.map Desc.ofBytes)).length) % 2 ^ 32)).setRing ring.val { (({ ((s.to t).logFetched ring.val (batchItems
      ring.val ((s.to t).hif.nextId) ((s.to t).rd (Reg.HIF_RING_SQ_HEAD ring.val)) ((raw.map Desc.ofBytes)))) with
        hif := { ((s.to t).logFetched ring.val (batchItems ring.val ((s.to t).hif.nextId) ((s.to t).rd
          (Reg.HIF_RING_SQ_HEAD ring.val)) ((raw.map Desc.ofBytes)))).hif with
            nextId := ((s.to t).logFetched ring.val (batchItems ring.val ((s.to t).hif.nextId) ((s.to t).rd
              (Reg.HIF_RING_SQ_HEAD ring.val)) ((raw.map Desc.ofBytes)))).hif.nextId + ((raw.map Desc.ofBytes)).length
              } } : State).wr (Reg.HIF_RING_SQ_HEAD ring.val) ((((s.to t).rd (Reg.HIF_RING_SQ_HEAD ring.val)) +
      ((raw.map Desc.ofBytes)).length) % 2 ^ 32)).ringOf ring.val with
        out := ((({ ((s.to t).logFetched ring.val (batchItems ring.val ((s.to t).hif.nextId) ((s.to t).rd
          (Reg.HIF_RING_SQ_HEAD ring.val)) ((raw.map Desc.ofBytes)))) with
            hif := { ((s.to t).logFetched ring.val (batchItems ring.val ((s.to t).hif.nextId) ((s.to t).rd
              (Reg.HIF_RING_SQ_HEAD ring.val)) ((raw.map Desc.ofBytes)))).hif with
                nextId := ((s.to t).logFetched ring.val (batchItems ring.val ((s.to t).hif.nextId) ((s.to t).rd
                  (Reg.HIF_RING_SQ_HEAD ring.val)) ((raw.map Desc.ofBytes)))).hif.nextId + ((raw.map
                  Desc.ofBytes)).length } } : State).wr (Reg.HIF_RING_SQ_HEAD ring.val) ((((s.to t).rd
          (Reg.HIF_RING_SQ_HEAD ring.val)) + ((raw.map Desc.ofBytes)).length) % 2 ^ 32)).ringOf ring.val).out ++
          (batchItems ring.val ((s.to t).hif.nextId) ((s.to t).rd (Reg.HIF_RING_SQ_HEAD ring.val)) ((raw.map
          Desc.ofBytes))) })).reportRing ring.val)) ∧
  /- COMPLETION_WRITE -/
  (∀ (s : State) (t : Nat) (ring : Fin 64) (f : Fin_) (rest : List Fin_),
    ((s.to t).ringOf ring.val).fin = f :: rest →
    f.kind ≠ .stale →
    (s.to t).runs 1 blkWriter = true →
    (s.to t).hif.pcie.d3hot = false →
    (s.to t).ringOn ring.val = true →
    (s.to t).cqRoom ring.val = true →
    (s.to t).flag (B.HIF_RING_STS_RECOVERING ring.val) = false ∨ (s.to t).flag (B.HIF_RING_CTL_RECOVER ring.val) =
      true →
    exec (.completionWrite t ring) s = .next ((((if f.c.event ∧ f.item.src = .internal ∧ f.item.id = 0 then
      (((((s.to t).setRing ring.val { (s.to t).ringOf ring.val with fin := rest }).writeEntry ring.val f).wr
      (Reg.HIF_RING_CQ_PI ring.val) (((((s.to t).setRing ring.val { (s.to t).ringOf ring.val with fin := rest }).rd
      (Reg.HIF_RING_CQ_PI ring.val)) + 1) % 2 ^ 32)).setRing ring.val { (((s.to t).setRing ring.val { (s.to t).ringOf
      ring.val with fin := rest }).ringOf ring.val) with
        evSeq := if f.c.event then ((((s.to t).setRing ring.val { (s.to t).ringOf ring.val with fin := rest }).ringOf
          ring.val).evSeq + 1) % 2 ^ 16 else (((s.to t).setRing ring.val { (s.to t).ringOf ring.val with
            fin := rest }).ringOf ring.val).evSeq, out := if f.c.event then (((s.to t).setRing ring.val {
          (s.to t).ringOf ring.val with fin := rest }).ringOf ring.val).out else (((s.to t).setRing ring.val {
          (s.to t).ringOf ring.val with fin := rest }).ringOf ring.val).out.filter (fun o => o.id != f.item.id),
          recPend := (((s.to t).setRing ring.val { (s.to t).ringOf ring.val with fin := rest }).ringOf
          ring.val).recPend - 1, recFailed := if f.kind = .recovery then (((s.to t).setRing ring.val { (s.to t).ringOf
          ring.val with fin := rest }).ringOf ring.val).recFailed + 1 else (((s.to t).setRing ring.val {
          (s.to t).ringOf ring.val with fin := rest }).ringOf ring.val).recFailed }).seeEvent f.c (f.c.bytes
      (((s.to t).setRing ring.val { (s.to t).ringOf ring.val with fin := rest }).ringOf ring.val).evSeq (phaseOf
      ((((((s.to t).setRing ring.val { (s.to t).ringOf ring.val with fin := rest }).writeEntry ring.val f).wr
      (Reg.HIF_RING_CQ_PI ring.val) (((((s.to t).setRing ring.val { (s.to t).ringOf ring.val with fin := rest }).rd
      (Reg.HIF_RING_CQ_PI ring.val)) + 1) % 2 ^ 32)).setRing ring.val { (((s.to t).setRing ring.val { (s.to t).ringOf
      ring.val with fin := rest }).ringOf ring.val) with
        evSeq := if f.c.event then ((((s.to t).setRing ring.val { (s.to t).ringOf ring.val with fin := rest }).ringOf
          ring.val).evSeq + 1) % 2 ^ 16 else (((s.to t).setRing ring.val { (s.to t).ringOf ring.val with
            fin := rest }).ringOf ring.val).evSeq, out := if f.c.event then (((s.to t).setRing ring.val {
          (s.to t).ringOf ring.val with fin := rest }).ringOf ring.val).out else (((s.to t).setRing ring.val {
          (s.to t).ringOf ring.val with fin := rest }).ringOf ring.val).out.filter (fun o => o.id != f.item.id),
          recPend := (((s.to t).setRing ring.val { (s.to t).ringOf ring.val with fin := rest }).ringOf
          ring.val).recPend - 1, recFailed := if f.kind = .recovery then (((s.to t).setRing ring.val { (s.to t).ringOf
          ring.val with fin := rest }).ringOf ring.val).recFailed + 1 else (((s.to t).setRing ring.val {
          (s.to t).ringOf ring.val with fin := rest }).ringOf ring.val).recFailed }).cqLog ring.val)
      (((s.to t).setRing ring.val { (s.to t).ringOf ring.val with fin := rest }).rd (Reg.HIF_RING_CQ_PI ring.val))))
      else (((((s.to t).setRing ring.val { (s.to t).ringOf ring.val with fin := rest }).writeEntry ring.val f).wr
      (Reg.HIF_RING_CQ_PI ring.val) (((((s.to t).setRing ring.val { (s.to t).ringOf ring.val with fin := rest }).rd
      (Reg.HIF_RING_CQ_PI ring.val)) + 1) % 2 ^ 32)).setRing ring.val { (((s.to t).setRing ring.val { (s.to t).ringOf
      ring.val with fin := rest }).ringOf ring.val) with
        evSeq := if f.c.event then ((((s.to t).setRing ring.val { (s.to t).ringOf ring.val with fin := rest }).ringOf
          ring.val).evSeq + 1) % 2 ^ 16 else (((s.to t).setRing ring.val { (s.to t).ringOf ring.val with
            fin := rest }).ringOf ring.val).evSeq, out := if f.c.event then (((s.to t).setRing ring.val {
          (s.to t).ringOf ring.val with fin := rest }).ringOf ring.val).out else (((s.to t).setRing ring.val {
          (s.to t).ringOf ring.val with fin := rest }).ringOf ring.val).out.filter (fun o => o.id != f.item.id),
          recPend := (((s.to t).setRing ring.val { (s.to t).ringOf ring.val with fin := rest }).ringOf
          ring.val).recPend - 1, recFailed := if f.kind = .recovery then (((s.to t).setRing ring.val { (s.to t).ringOf
          ring.val with fin := rest }).ringOf ring.val).recFailed + 1 else (((s.to t).setRing ring.val {
          (s.to t).ringOf ring.val with fin := rest }).ringOf ring.val).recFailed })).ringIrq ring.val (f.item.d.irq
      && !f.c.event)).reportRing ring.val).passUnknown ring.val)) ∧
  /- COMPLETION_WRITE with a full completion ring -/
  (∀ (s : State) (t : Nat) (ring : Fin 64) (f : Fin_) (rest : List Fin_),
    ((s.to t).ringOf ring.val).fin = f :: rest →
    (s.to t).cqRoom ring.val = false →
    exec (.completionWrite t ring) s = .next ((s.to t).reportRing ring.val)) ∧
  /- STALE_COMPLETION_WRITE -/
  (∀ (s : State) (t : Nat) (ring : Fin 64) (f : Fin_),
    ((s.to t).ringOf ring.val).fin.find? (fun f => f.kind == .stale) = some f →
    (s.to t).runs 1 blkWriter = true →
    (s.to t).hif.pcie.d3hot = false →
    (s.to t).ringOn ring.val = true →
    (s.to t).cqRoom ring.val = true →
    (s.to t).flag (B.HIF_RING_STS_RECOVERING ring.val) = true →
    exec (.staleCompletionWrite t ring) s = .next ((((s.to t).setRing ring.val { (s.to t).ringOf ring.val with
        fin := ((s.to t).ringOf ring.val).fin.filter (fun g => g.item.id != f.item.id || g.kind != .stale)
          }).writeCompletion ring.val f).set (B.HIF_RING_RECOV_CNT_STALE ring.val) ((((s.to t).setRing ring.val {
      (s.to t).ringOf ring.val with
        fin := ((s.to t).ringOf ring.val).fin.filter (fun g => g.item.id != f.item.id || g.kind != .stale)
          }).writeCompletion ring.val f).get (B.HIF_RING_RECOV_CNT_STALE ring.val) + 1))) ∧
  /- IRQ_HOLDOFF_EXPIRY -/
  (∀ (s : State) (t : Nat) (ring : Fin 64) (t0 : Nat),
    ((s.to t).ringOf ring.val).irqFirst = some t0 →
    t0 + (s.to t).get (B.HIF_RING_IRQ_HOLDOFF ring.val) * cycUs ≤ (s.to t).cyc →
    exec (.irqHoldoffExpiry t ring) s = .next (((s.to t).setRing ring.val { (s.to t).ringOf ring.val with
        irqCount := 0, irqFirst := none }).fire ring.val)) ∧
  /- WHEN_REACHED -/
  (∀ (s : State) (t : Nat) (id : Nat) (cmd : Instr) (it : Item),
    (s.to t).waiting.find? (fun c => (c.item?.map Item.id) == some id) = some cmd →
    cmd.item? = some it →
    it.d.when_.toNat ≤ (s.to t).devNs →
    exec (.whenReached t id) s = .next ((s.to t).wakeItem cmd .due))

/-- NOP completes DONE with zero results. QUERY_OP returns the operation's progress. SUSPEND and CANCEL are accepted
and wait for the next safe point; CANCEL of a suspended operation discards it at once and a SUSPEND pending under it
completes REJ_STATE. RESUME carries the operation on and loads its keys again. At a safe point the operation does
one unit of work and a pending control takes effect. -/
def Obligations.HostInterfaceOperationsComplete : Prop :=
  /- NOP -/
  (∀ (s : State) (t : Nat) (it : Item) (late : Bool),
    (s.to t).goes 1 it Checks.pass late = true →
    exec (.hifNop t it) s = .next (((s.to t).unwait it.id).finish (it.acting late) 1 .done Res.zero)) ∧
  /- QUERY_OP -/
  (∀ (s : State) (t : Nat) (it : Item) (late : Bool) (l : LongOp),
    (s.to t).namedLong it = some l →
    (s.to t).goes 1 it Checks.pass late = true →
    exec (.queryOp t it) s = .next (((s.to t).unwait it.id).finish (it.acting late) 1 .done l.res)) ∧
  /- SUSPEND -/
  (∀ (s : State) (t : Nat) (it : Item) (late : Bool) (l : LongOp),
    (s.to t).namedLong it = some l →
    l.state = .running →
    (s.to t).goes 1 it Checks.pass late = true →
    exec (.hifSuspend t it) s = .next (((s.to t).unwait it.id).putLong { l with
        state := .stopPending, ctl := some (it.acting late), asked := l.done })) ∧
  /- CANCEL of a running operation -/
  (∀ (s : State) (t : Nat) (it : Item) (late : Bool) (l : LongOp),
    (s.to t).namedLong it = some l →
    l.state = .running →
    l.ctl = none →
    (s.to t).goes 1 it Checks.pass late = true →
    exec (.hifCancel t it) s = .next (((s.to t).unwait it.id).putLong { l with
        state := .cancelPending, ctl := some (it.acting late), asked := l.done })) ∧
  /- CANCEL of a suspended operation -/
  (∀ (s : State) (t : Nat) (it : Item) (late : Bool) (l : LongOp),
    (s.to t).namedLong it = some l →
    l.state = .suspended →
    (s.to t).goes 1 it Checks.pass late = true →
    exec (.hifCancel t it) s = .next ((((s.to t).unwait it.id).dropSaved l).finish (it.acting late) 1 .done l.res)) ∧
  /- RESUME -/
  (∀ (s : State) (t : Nat) (it : Item) (late : Bool) (l : LongOp),
    (s.to t).namedLong it = some l →
    l.state = .suspended →
    (s.to t).resumeKeyOk l = true →
    (s.to t).goes 1 it Checks.pass late = true →
    exec (.hifResume t it) s = .next (((s.to t).unwait it.id).resumeLong l (it.acting late))) ∧
  /- LONG_OP_SAFE_POINT -/
  (∀ (s : State) (t : Nat) (ring : Fin 65) (tag : BitVec 16) (x : LongUnit) (l : LongOp),
    (s.to t).longOf? ring.val tag.toNat = some l →
    l.state ≠ .suspended →
    (s.to t).longAtStage l = true →
    (s.to t).runs l.region (blockOf l.start.opcode.toNat) = true →
    exec (.longOpSafePoint t ring tag x) s = .next (((s.to t).under l.live (fun s => s.longUnit l x)).afterSafePoint
      l))

/-- An admitted item leaves its port and takes an entry at the end of its flow, bound for its first stage; an OBS item
that finds no entry raises a block error of cause 11 in DSP, at the block of the ready lists (log entry 115). A
stage that can accept takes the entry it is offered, whose wait is counted. DSP releases what has ended at the front
of a flow. DSP_OBS_SEL shows a flow's waits and clears them where asked; DSP_LOAD_SEL shows a cell's cycles, 0 for a
retired cell. -/
def Obligations.DispatcherCommandsComplete : Prop :=
  /- FLOW_ENTRY -/
  (∀ (s : State) (t : Nat) (port : Fin 78) (it : Item) (reserve : Bool),
    (s.to t).runs 2 blkReady = true →
    (s.to t).portNext port.val = some it →
    (s.to t).lowerFirst port.val ((s.to t).workOf it).flow = false →
    (s.to t).admits port.val it = .take reserve →
    exec (.flowEntry t port) s = .next (if port.val < 64 then (({ (s.to t) with
        dsp := { (s.to t).dsp with
            ports := Sp.store (s.to t).dsp.ports [] port.val ((Sp.at (s.to t).dsp.ports [] port.val).filter (fun x =>
              x.id != it.id)) } } : State).enterFlow it (((s.to t).workOf it).flow) reserve ((s.to t).workOf
      it).firstStage).reportRingCurb port.val else (({ (s.to t) with
        dsp := { (s.to t).dsp with
            ports := Sp.store (s.to t).dsp.ports [] port.val ((Sp.at (s.to t).dsp.ports [] port.val).filter (fun x =>
              x.id != it.id)) } } : State).enterFlow it (((s.to t).workOf it).flow) reserve ((s.to t).workOf
      it).firstStage))) ∧
  /- FLOW_ENTRY, an OBS item that finds no entry -/
  (∀ (s : State) (t : Nat) (port : Fin 78) (it : Item),
    (s.to t).runs 2 blkReady = true →
    (s.to t).portNext port.val = some it →
    (s.to t).lowerFirst port.val ((s.to t).workOf it).flow = false →
    (s.to t).admits port.val it = .obsFails →
    exec (.flowEntry t port) s = .next ((s.to t).blockError 2 blkReady ((s.to t).workOf it).flow .obsAdmission [])) ∧
  /- STAGE_DISPATCH -/
  (∀ (s : State) (t : Nat) (st : Stage) (e : Entry) (stage : Stage) (since : Nat),
    (s.to t).runs 2 blkReady = true →
    (s.to t).runs st.region (st.block e.item) = true →
    (s.to t).offered st = some e →
    e.place = .waiting stage since →
    exec (.stageDispatch t st) s = .next (((({ (s.to t) with
        dsp := { (s.to t).dsp with
            turn := Sp.put (s.to t).dsp.turn (st.port * 8 + (s.to t).levelOf e) e.flow, stats := Sp.put
              (s.to t).dsp.stats e.flow ((Sp.at (s.to t).dsp.stats WaitStat.zero e.flow).add (((s.to t).cyc - since) *
              2)) } }) : State).reach e st).reportFlow e.flow)) ∧
  /- COMPLETION_RELEASE -/
  (∀ (s : State) (t : Nat) (flow : Fin 1024),
    (s.to t).runs 2 blkRelease = true →
    exec (.completionRelease t flow) s = .next ((((s.to t).releaseFront ((s.to t).flowEntries
      flow.val)).reportPool).reportFlow flow.val)) ∧
  /- DSP_OBS_SEL_WRITE -/
  (∀ (s : State) (t : Nat) (rq : Requester) (val : Word),
    (s.to t).reaches rq Reg.DSP_OBS_SEL = true →
    exec (.dspObsSelWrite t rq val) s = .next (if val.getLsbD 16 then { (((s.to t).reached rq Reg.DSP_OBS_SEL
      true).showWaits (Sp.at ((s.to t).reached rq Reg.DSP_OBS_SEL true).dsp.stats WaitStat.zero (fieldOf val 0 10)))
      with
        dsp := { (((s.to t).reached rq Reg.DSP_OBS_SEL true).showWaits (Sp.at ((s.to t).reached rq Reg.DSP_OBS_SEL
          true).dsp.stats WaitStat.zero (fieldOf val 0 10))).dsp with
            stats := Sp.drop (((s.to t).reached rq Reg.DSP_OBS_SEL true).showWaits (Sp.at ((s.to t).reached rq
              Reg.DSP_OBS_SEL true).dsp.stats WaitStat.zero (fieldOf val 0 10))).dsp.stats (fieldOf val 0 10) } } else
      (((s.to t).reached rq Reg.DSP_OBS_SEL true).showWaits (Sp.at ((s.to t).reached rq Reg.DSP_OBS_SEL
      true).dsp.stats WaitStat.zero (fieldOf val 0 10))))) ∧
  /- DSP_LOAD_SEL_WRITE -/
  (∀ (s : State) (t : Nat) (rq : Requester) (val busy win : Word),
    (s.to t).reaches rq Reg.DSP_LOAD_SEL = true →
    exec (.dspLoadSelWrite t rq val busy win) s = .next ((((s.to t).reached rq Reg.DSP_LOAD_SEL true).setWord
      Reg.DSP_LOAD_BUSY (if (((s.to t).reached rq Reg.DSP_LOAD_SEL true).rgn.retired.contains (fieldOf val 0 4,
      fieldOf val 4 16)) then 0 else busy)).setWord Reg.DSP_LOAD_WIN (if (((s.to t).reached rq Reg.DSP_LOAD_SEL
      true).rgn.retired.contains (fieldOf val 0 4, fieldOf val 4 16)) then 0 else win)))

/-- A push into a word queue with room appends a word of even parity to the fill bank, and banks swap under R107; one
into a full bank is refused and curbs. A region's staging buffer of a merge queue takes its words. A pop takes the
next word of the drain bank, or the idle item. A queue unread for QTO makes its consumer drain. The merge port
writes the next closed packet. A legal configuration enables a queue with empty banks, another sets CFG_ERR. The
scrub advances one word, counts what it found, and wraps at the end of DRAM. -/
def Obligations.QueueCommandsComplete : Prop :=
  /- QUEUE_PUSH into a word queue with room -/
  (∀ (s : State) (t : Nat) (q : Fin 128) (producer : Fin 16) (d : BitVec 64) (o : Option (Nat × Nat)),
    producerOk q.val producer.val = true →
    isMerge q.val = false →
    captureOf q.val = none →
    (s.to t).queueOn q.val = true →
    (s.to t).packetMode q.val = false →
    (s.to t).queueFull q.val = false →
    exec (.queuePush t q producer (.word d o)) s = .next (((s.to t).setQueue q.val { (s.to t).queueOf q.val with
        fill := ((s.to t).queueOf q.val).fill ++ [QWord.mk' d (if o.isSome then 7#3 else 0#3) o] }).swapBanks q.val)) ∧
  /- QUEUE_PUSH into a full bank -/
  (∀ (s : State) (t : Nat) (q : Fin 128) (producer : Fin 16) (d : BitVec 64) (o : Option (Nat × Nat)),
    producerOk q.val producer.val = true →
    isMerge q.val = false →
    captureOf q.val = none →
    (s.to t).queueOn q.val = true →
    (s.to t).packetMode q.val = false →
    (s.to t).queueFull q.val = true →
    exec (.queuePush t q producer (.word d o)) s = .next (((s.to t).curbQueue q.val).swapBanks q.val)) ∧
  /- QUEUE_PUSH into a staging buffer -/
  (∀ (s : State) (t : Nat) (q : Fin 128) (producer : Fin 16) (p : QPush),
    producerOk q.val producer.val = true →
    isMerge q.val = true →
    (s.to t).runs 3 blkQueues = true →
    exec (.queuePush t q producer p) s = .next ((s.to t).stagePush q.val producer.val p)) ∧
  /- QUEUE_PUSH by a region that does not produce into the queue -/
  (∀ (s : State) (t : Nat) (q : Fin 128) (producer : Fin 16) (p : QPush),
    producerOk q.val producer.val = false →
    exec (.queuePush t q producer p) s = .next (s.to t)) ∧
  /- QUEUE_POP -/
  (∀ (s : State) (t : Nat) (q : Fin 128) (x : QWord) (rest : List QWord),
    captureOf q.val = none →
    (s.to t).queueOn q.val = true →
    (s.to t).mayRead q.val = true →
    ((s.to t).queueOf q.val).drain = x :: rest →
    exec (.queuePop t q none false none) s = .next (((s.to t).setQueue q.val { ((s.to t).queueOf q.val) with
        drain := rest, drainPk := stepPackets ((s.to t).queueOf q.val).drainPk, poison := ((s.to t).queueOf
          q.val).poison - 1, lastRead := (s.to t).cyc, popped := some (if 0 < ((s.to t).queueOf q.val).poison then
          x.poisoned (3, q.val) else x), reading := !rest.isEmpty }).swapBanks q.val)) ∧
  /- QUEUE_POP of a POISON word into an item -/
  (∀ (s : State) (t : Nat) (q : Fin 128) (x : QWord) (rest : List QWord) (it : Item) (r c : Nat),
    captureOf q.val = none →
    (s.to t).queueOn q.val = true →
    (s.to t).mayRead q.val = true →
    ((s.to t).queueOf q.val).drain = x :: rest →
    x.tag = 7#3 →
    x.origin = some (r, c) →
    ((s.to t).queueOf q.val).poison = 0 →
    ((s.to t).setQueue q.val { ((s.to t).queueOf q.val) with
        drain := rest, drainPk := stepPackets ((s.to t).queueOf q.val).drainPk, poison := ((s.to t).queueOf
          q.val).poison - 1, lastRead := (s.to t).cyc, popped := some x, reading := !rest.isEmpty }).itemOf? it.id =
      some it →
    exec (.queuePop t q none false (some it.id)) s = .next ((((s.to t).setQueue q.val { ((s.to t).queueOf q.val) with
        drain := rest, drainPk := stepPackets ((s.to t).queueOf q.val).drainPk, poison := ((s.to t).queueOf
          q.val).poison - 1, lastRead := (s.to t).cyc, popped := some x, reading := !rest.isEmpty }).failOne it r (c %
      0x1000) .failPoison).swapBanks q.val)) ∧
  /- QUEUE_POP while the consumer waits for BURST words -/
  (∀ (s : State) (t : Nat) (q : Fin 128) (hit : Bool) (into : Option Nat),
    (s.to t).queueOn q.val = true →
    (s.to t).mayRead q.val = false →
    exec (.queuePop t q none hit into) s = .next ((s.to t).swapBanks q.val)) ∧
  /- QUEUE_POP of an empty drain bank -/
  (∀ (s : State) (t : Nat) (q : Fin 128),
    captureOf q.val = none →
    (s.to t).queueOn q.val = true →
    (s.to t).mayRead q.val = true →
    ((s.to t).queueOf q.val).drain = [] →
    exec (.queuePop t q none false none) s = .next (((s.to t).setQueue q.val { (s.to t).queueOf q.val with
        popped := some QWord.idle }).swapBanks q.val)) ∧
  /- QUEUE_READ_TIMEOUT -/
  (∀ (s : State) (t : Nat) (q : Fin 128),
    (s.to t).queueOn q.val = true →
    (s.to t).get (B.MQF_Q_LIM_QTO q.val) ≠ 0 →
    (((s.to t).queueOf q.val).drain.isEmpty && ((s.to t).queueOf q.val).fill.isEmpty) = false →
    ((s.to t).queueOf q.val).reading = false →
    (s.to t).get (B.MQF_Q_LIM_QTO q.val) ≤ ((s.to t).cyc - ((s.to t).queueOf q.val).lastRead) * 2 →
    exec (.queueReadTimeout t q) s = .next ((((s.to t).setQueue q.val { ((s.to t).queueOf q.val) with
        reading := !((s.to t).queueOf q.val).drain.isEmpty }).count (Reg.MQF_Q_QTO_CNT q.val)).setFlag
      (B.MQF_Q_STS_QTO_FIRED q.val) true)) ∧
  /- MERGE_PORT_TAKE -/
  (∀ (s : State) (t : Nat) (q : Fin 9) (r : Nat) (rest : List Nat) (p : Packet),
    q.val ≠ 0 →
    (s.to t).queueOn q.val = true →
    (s.to t).mergeTurn q.val = r :: rest →
    Sp.find (s.to t).mqf.staging (16 * q.val + r) = some p →
    ((s.to t).pushPacket q.val r p).2 = false →
    p.data.length ≤ (({ (((s.to t).pushPacket q.val r p).1) with
        mqf := { (((s.to t).pushPacket q.val r p).1).mqf with
            staging := Sp.drop (((s.to t).pushPacket q.val r p).1).mqf.staging (16 * q.val + r), served := Sp.put
              (((s.to t).pushPacket q.val r p).1).mqf.served q.val r } }) : State).get (B.MQF_Q_CFG_MAX_PKT q.val) →
    p.ends = none →
    exec (.mergePortTake t q) s = .next ({ (((s.to t).pushPacket q.val r p).1) with
        mqf := { (((s.to t).pushPacket q.val r p).1).mqf with
            staging := Sp.drop (((s.to t).pushPacket q.val r p).1).mqf.staging (16 * q.val + r), served := Sp.put
              (((s.to t).pushPacket q.val r p).1).mqf.served q.val r } })) ∧
  /- QUEUE_ENABLE_WRITE -/
  (∀ (s : State) (t : Nat) (rq : Requester) (q : Fin 128) (val : Word),
    (s.to t).reaches rq (Reg.MQF_Q_CFG q.val) = true →
    96 ≤ q.val →
    ((s.to t).reached rq (Reg.MQF_Q_CFG q.val) true).flag (B.MQF_Q_CFG_ENABLE q.val) = false →
    val.getLsbD 31 = true →
    ((s.to t).reached rq (Reg.MQF_Q_CFG q.val) true).queueCfgOk val = true →
    exec (.queueEnableWrite t rq q val) s = .next (((((s.to t).reached rq (Reg.MQF_Q_CFG q.val) true).softWrite
      (Reg.MQF_Q_CFG q.val) (val &&& 0x7FFFFFFF#32)).setFlag (B.MQF_Q_CFG_ENABLE q.val) true).setQueue q.val {
      QueueRt.reset with lastRead := ((s.to t).reached rq (Reg.MQF_Q_CFG q.val) true).cyc })) ∧
  /- QUEUE_ENABLE_WRITE with an illegal configuration -/
  (∀ (s : State) (t : Nat) (rq : Requester) (q : Fin 128) (val : Word),
    (s.to t).reaches rq (Reg.MQF_Q_CFG q.val) = true →
    96 ≤ q.val →
    ((s.to t).reached rq (Reg.MQF_Q_CFG q.val) true).flag (B.MQF_Q_CFG_ENABLE q.val) = false →
    val.getLsbD 31 = true →
    ((s.to t).reached rq (Reg.MQF_Q_CFG q.val) true).queueCfgOk val = false →
    exec (.queueEnableWrite t rq q val) s = .next (((s.to t).reached rq (Reg.MQF_Q_CFG q.val) true).queueCfgErr
      q.val)) ∧
  /- QUEUE_ENABLE_WRITE to an enabled queue of the gait bundle -/
  (∀ (s : State) (t : Nat) (rq : Requester) (q : Fin 128) (val : Word),
    (s.to t).reaches rq (Reg.MQF_Q_CFG q.val) = true →
    q.val < 96 →
    ((s.to t).reached rq (Reg.MQF_Q_CFG q.val) true).flag (B.MQF_Q_CFG_ENABLE q.val) = true →
    exec (.queueEnableWrite t rq q val) s = .next (((s.to t).reached rq (Reg.MQF_Q_CFG q.val) true).queueCfgErr
      q.val)) ∧
  /- SCRUB_WORD -/
  (∀ (s : State) (t : Nat) (found : Fin 3),
    (s.to t).up 3 = true →
    (s.to t).halter = false →
    (s.to t).chip.stabled = false →
    (s.to t).flag B.MQF_DRAM_STS_TRAINED = true →
    exec (.scrubWord t found) s = .next ((if found.val = 1 then (s.to t).count Reg.MQF_ECC_CE_CNT else if found.val =
      2 then (s.to t).dramUe (((s.to t).rd64 Reg.MQF_SCRUB_STS) % 2 ^ 40) true else (s.to t)).wr64 Reg.MQF_SCRUB_STS
      ((if (usableMiB ((s.to t).get B.MQF_DRAM_STS_DENSITY) * 2 ^ 20) ≤ (((s.to t).rd64 Reg.MQF_SCRUB_STS) % 2 ^ 40) +
      8 then 0 else (((s.to t).rd64 Reg.MQF_SCRUB_STS) % 2 ^ 40) + 8) + (if (usableMiB ((s.to t).get
      B.MQF_DRAM_STS_DENSITY) * 2 ^ 20) ≤ (((s.to t).rd64 Reg.MQF_SCRUB_STS) % 2 ^ 40) + 8 then (((s.to t).rd64
      Reg.MQF_SCRUB_STS) / 2 ^ 40 % 256 + 1) % 256 else ((s.to t).rd64 Reg.MQF_SCRUB_STS) / 2 ^ 40 % 256) * 2 ^ 40)))

/-- A doorbell silence beyond SVC_HOST_WDOG while the host owns a function arms the reversion. At a whole 100 ms the
superframe number advances, owners change, an announced schedule takes effect and the contexts change; in Stabled
only the count goes on. The first ENABLE of a head fixes the start of the count. From 40 ms on AIR loads the next
superframe once, and the first of all from 60 ms before its start (log entry 112); a head that comes up in between
is met with what is built (log entry 113). Each head gets the mark of the frame about to begin, once. -/
def Obligations.FleetCycleCommandsComplete : Prop :=
  /- HOST_WDOG_EXPIRY -/
  (∀ (s : State) (t : Nat),
    (s.to t).hif.own ≠ 0 →
    (s.to t).hif.wdogMs ≠ 0 →
    (s.to t).hif.wdogLast + (s.to t).hif.wdogMs * cycMs < (s.to t).cyc →
    exec (.hostWdogExpiry t) s = .next { (s.to t) with hif := { (s.to t).hif with revert := true } }) ∧
  /- SUPERFRAME_START, awake -/
  (∀ (s : State) (t : Nat),
    (s.to t).nextStart ≤ (s.to t).devNs →
    (s.to t).air.counting = true →
    ((s.to t).beginFrame (s.to t).nextStart false).chip.stabled = false →
    ((s.to t).beginFrame (s.to t).nextStart false).takeOwners.air.counting = true →
    ((((s.to t).beginFrame (s.to t).nextStart false).takeOwners).switchSched).standby = false →
    exec (.superframeStart t) s = .next ((((s.to t).beginFrame (s.to t).nextStart
      false).takeOwners).switchSched).contextsStart) ∧
  /- SUPERFRAME_START in Stabled -/
  (∀ (s : State) (t : Nat),
    (s.to t).nextStart ≤ (s.to t).devNs →
    (s.to t).air.counting = true →
    ((s.to t).beginFrame (s.to t).nextStart false).chip.stabled = true →
    exec (.superframeStart t) s = .next ((s.to t).beginFrame (s.to t).nextStart false)) ∧
  /- SF_COUNT_START -/
  (∀ (s : State) (t : Nat) (rq : Requester) (head : Fin 8) (val : Word),
    (s.to t).reaches rq (Reg.AIR_HEAD_CTL head.val) = true →
    ((if ((s.to t).reached rq (Reg.AIR_HEAD_CTL head.val) true).headsUp.contains head.val then (((s.to t).reached rq
      (Reg.AIR_HEAD_CTL head.val) true).softWrite (Reg.AIR_HEAD_CTL head.val) val) else (((s.to t).reached rq
      (Reg.AIR_HEAD_CTL head.val) true).softWrite (Reg.AIR_HEAD_CTL head.val) val).meetHead head.val)).flag
      (B.AIR_HEAD_CTL_ENABLE head.val) = true →
    ((if ((s.to t).reached rq (Reg.AIR_HEAD_CTL head.val) true).headsUp.contains head.val then (((s.to t).reached rq
      (Reg.AIR_HEAD_CTL head.val) true).softWrite (Reg.AIR_HEAD_CTL head.val) val) else (((s.to t).reached rq
      (Reg.AIR_HEAD_CTL head.val) true).softWrite (Reg.AIR_HEAD_CTL head.val) val).meetHead head.val)).air.startAt =
      none →
    exec (.sfCountStart t rq head val) s = .next { ((if ((s.to t).reached rq (Reg.AIR_HEAD_CTL head.val)
      true).headsUp.contains head.val then (((s.to t).reached rq (Reg.AIR_HEAD_CTL head.val) true).softWrite
      (Reg.AIR_HEAD_CTL head.val) val) else (((s.to t).reached rq (Reg.AIR_HEAD_CTL head.val) true).softWrite
      (Reg.AIR_HEAD_CTL head.val) val).meetHead head.val)) with
        air := { ((if ((s.to t).reached rq (Reg.AIR_HEAD_CTL head.val) true).headsUp.contains head.val then
          (((s.to t).reached rq (Reg.AIR_HEAD_CTL head.val) true).softWrite (Reg.AIR_HEAD_CTL head.val) val) else
          (((s.to t).reached rq (Reg.AIR_HEAD_CTL head.val) true).softWrite (Reg.AIR_HEAD_CTL head.val) val).meetHead
          head.val)).air with
            startAt := some (up100 ((if ((s.to t).reached rq (Reg.AIR_HEAD_CTL head.val) true).headsUp.contains
              head.val then (((s.to t).reached rq (Reg.AIR_HEAD_CTL head.val) true).softWrite (Reg.AIR_HEAD_CTL
              head.val) val) else (((s.to t).reached rq (Reg.AIR_HEAD_CTL head.val) true).softWrite (Reg.AIR_HEAD_CTL
              head.val) val).meetHead head.val)).devNs) } }) ∧
  /- SUPERFRAME_BUILD -/
  (∀ (s : State) (t : Nat),
    (s.to t).air.counting = true →
    (s.to t).runs 9 blkSched = true →
    (s.to t).standby = false →
    (s.to t).air.sfStart + 40000000 ≤ (s.to t).devNs →
    (s.to t).air.builtFor ≠ some (((s.to t).sfn + 1) % 2 ^ 48) →
    exec (.superframeBuild t) s = .next ((s.to t).loadSuperframe (((s.to t).sfn + 1) % 2 ^ 48))) ∧
  /- SUPERFRAME_BUILD, the first superframe (log entry 112) -/
  (∀ (s : State) (t : Nat),
    (s.to t).air.counting = false →
    (s.to t).air.startAt.isSome = true →
    (s.to t).nextStart ≤ (s.to t).devNs + 60000000 →
    (s.to t).runs 9 blkSched = true →
    (s.to t).standby = false →
    (s.to t).air.builtFor ≠ some ((s.to t).rd64 Reg.AIR_SF_NUM_INIT % 2 ^ 48) →
    exec (.superframeBuild t) s = .next ((s.to t).loadSuperframe ((s.to t).rd64 Reg.AIR_SF_NUM_INIT % 2 ^ 48))) ∧
  /- FRAME_MARK -/
  (∀ (s : State) (t : Nat),
    (s.to t).air.counting = true →
    (s.to t).air.marked ≠ some ((s.to t).markDue.1, (s.to t).markDue.2.1) →
    exec (.frameMark t) s = .next (({ (s.to t) with
        air := { (s.to t).air with marked := some ((s.to t).markDue.1, (s.to t).markDue.2.1) } } : State).airSent (({
      (s.to t) with air := { (s.to t).air with marked := some ((s.to t).markDue.1, (s.to t).markDue.2.1) } } :
      State).frameMarks (s.to t).markDue.1 (s.to t).markDue.2.2)))

/-- A change of a head link is reported with LINK_CHANGED, vector 70 and an event. STATUS, PONG and TX_REPORT of a
head whose link is UP update its registers. A DOWNLINK span of a direct context with a live K sends the newest plan
that met the cutoff, or the NO_PLAN header; late plans are counted. A downlink BULK span sends the message that
waits and fits. -/
def Obligations.HeadsAndDownlinksComplete : Prop :=
  /- HEAD_LINK_STATE, no change -/
  (∀ (s : State) (t : Nat) (head : Fin 8) (chars : List LinkSym),
    (s.to t).flag (B.AIR_HEAD_CTL_ENABLE head.val) = true →
    ((((s.to t).linkRx head.val).run chars)).2 = [] →
    exec (.headLinkState t head chars) s = .next { (s.to t) with
        air := { (s.to t).air with
            links := Sp.put (s.to t).air.links head.val ((((s.to t).linkRx head.val).run chars)).1 } }) ∧
  /- HEAD_LINK_STATE, the receiver changes its state -/
  (∀ (s : State) (t : Nat) (head : Fin 8) (chars : List LinkSym) (st : Nat),
    (s.to t).flag (B.AIR_HEAD_CTL_ENABLE head.val) = true →
    ((((s.to t).linkRx head.val).run chars)).2 = [st] →
    exec (.headLinkState t head chars) s = .next ((((((if (({ (s.to t) with
        air := { (s.to t).air with
            links := Sp.put (s.to t).air.links head.val ((((s.to t).linkRx head.val).run chars)).1 } }) :
      State).headsUp.isEmpty then ({ (s.to t) with
        air := { (s.to t).air with
            links := Sp.put (s.to t).air.links head.val ((((s.to t).linkRx head.val).run chars)).1 } }) else { (({
      (s.to t) with
        air := { (s.to t).air with
            links := Sp.put (s.to t).air.links head.val ((((s.to t).linkRx head.val).run chars)).1 } }) : State) with
        byl := { (({ (s.to t) with
            air := { (s.to t).air with
                links := Sp.put (s.to t).air.links head.val ((((s.to t).linkRx head.val).run chars)).1 } }) :
          State).byl with headsAt := (s.to t).cyc } }) : State).set (B.AIR_HEAD_STS_LINK head.val) st).setFlag
      (B.AIR_HEAD_STS_LINK_CHANGED head.val) true).fire 70 |>.airEvent 6 0 (head.val + st * 256) 0).meetHead
      head.val)) ∧
  /- HEAD_STATUS -/
  (∀ (s : State) (t : Nat) (head : Fin 8) (pkt : List Byte) (p : Packet8b),
    ((s.to t).takePacket head.val pkt 0x83).2 = some p →
    exec (.headStatus t head pkt) s = .next ((((((s.to t).takePacket head.val pkt 0x83).1).setFlag
      (B.AIR_HEAD_STS_RF_FAULT head.val) ((leAt p.payload 0 1).testBit 0)).setFlag (B.AIR_HEAD_STS_TIMING_LOST
      head.val) ((leAt p.payload 0 1).testBit 1)).set (B.AIR_HEAD_STS_TEMP head.val) (leAt p.payload 1 1))) ∧
  /- HEAD_STATUS, no such packet -/
  (∀ (s : State) (t : Nat) (head : Fin 8) (pkt : List Byte),
    ((s.to t).takePacket head.val pkt 0x83).2 = none →
    exec (.headStatus t head pkt) s = .next ((s.to t).takePacket head.val pkt 0x83).1) ∧
  /- PONG -/
  (∀ (s : State) (t : Nat) (head : Fin 8) (pkt : List Byte) (p : Packet8b),
    ((s.to t).takePacket head.val pkt 0x84).2 = some p →
    exec (.pong t head pkt) s = .next { (((s.to t).takePacket head.val pkt 0x84).1) with
        air := { (((s.to t).takePacket head.val pkt 0x84).1).air with lastPong := some (head.val, p.arg, p.payload) }
          }) ∧
  /- TX_REPORT, sent or without a buffer -/
  (∀ (s : State) (t : Nat) (head : Fin 8) (pkt : List Byte) (p : Packet8b),
    ((s.to t).takePacket head.val pkt 0x82).2 = some p →
    bitsOf p.arg 10 9 ≠ 1 →
    bitsOf p.arg 10 9 ≠ 2 →
    exec (.txReport t head pkt) s = .next ((((s.to t).takePacket head.val pkt 0x82).1).setFlag
      (B.AIR_HEAD_STS_ACTIVE_HERE head.val) true)) ∧
  /- TX_REPORT, LATE -/
  (∀ (s : State) (t : Nat) (head : Fin 8) (pkt : List Byte) (p : Packet8b),
    ((s.to t).takePacket head.val pkt 0x82).2 = some p →
    bitsOf p.arg 10 9 = 1 →
    exec (.txReport t head pkt) s = .next (((((s.to t).takePacket head.val pkt 0x82).1).setFlag
      (B.AIR_HEAD_STS_ACTIVE_HERE head.val) true).count (Reg.AIR_HEAD_CNT_TX_LATE head.val))) ∧
  /- DOWNLINK_SPAN with a plan that fits -/
  (∀ (s : State) (t : Nat) (ctx : BitVec 8) (p : SpanOf) (k fc : Nat) (q : AirPlan),
    (s.to t).airServes = true →
    (s.to t).joined ctx.toNat = true →
    (s.to t).nextHop ctx.toNat = 0 →
    (s.to t).spanNow ((s.to t).spansType ctx.toNat .downlink) ((s.to t).airCtx ctx.toNat).downAt = some (p, k) →
    (((s.to t).setAirCtx ctx.toNat { (s.to t).airCtx ctx.toNat with downAt := k }).countLate ctx.toNat
      ((s.to t).air.sfStart + p.start)).nextFcnt ctx.toNat = some fc →
    ((((s.to t).setAirCtx ctx.toNat { (s.to t).airCtx ctx.toNat with downAt := k }).countLate ctx.toNat
      ((s.to t).air.sfStart + p.start)).airCtx ctx.toNat).planFor ((s.to t).air.sfStart + p.start) = some q →
    q.bytes.length + 20 ≤ p.capacity →
    exec (.downlinkSpan t ctx) s = .next ((((((s.to t).setAirCtx ctx.toNat { (s.to t).airCtx ctx.toNat with
        downAt := k }).countLate ctx.toNat ((s.to t).air.sfStart + p.start)).setAirCtx ctx.toNat
      (((((s.to t).setAirCtx ctx.toNat { (s.to t).airCtx ctx.toNat with downAt := k }).countLate ctx.toNat
      ((s.to t).air.sfStart + p.start)).airCtx ctx.toNat).dropPlan q)).airSent [((((s.to t).setAirCtx ctx.toNat {
      (s.to t).airCtx ctx.toNat with downAt := k }).countLate ctx.toNat ((s.to t).air.sfStart + p.start)).setAirCtx
      ctx.toNat (((((s.to t).setAirCtx ctx.toNat { (s.to t).airCtx ctx.toNat with downAt := k }).countLate ctx.toNat
      ((s.to t).air.sfStart + p.start)).airCtx ctx.toNat).dropPlan q)).planFrame p ctx.toNat fc (some
      q.bytes)]).sentUnder ctx.toNat)) ∧
  /- DOWNLINK_SPAN without a plan -/
  (∀ (s : State) (t : Nat) (ctx : BitVec 8) (p : SpanOf) (k fc : Nat),
    (s.to t).airServes = true →
    (s.to t).joined ctx.toNat = true →
    (s.to t).nextHop ctx.toNat = 0 →
    (s.to t).spanNow ((s.to t).spansType ctx.toNat .downlink) ((s.to t).airCtx ctx.toNat).downAt = some (p, k) →
    (((s.to t).setAirCtx ctx.toNat { (s.to t).airCtx ctx.toNat with downAt := k }).countLate ctx.toNat
      ((s.to t).air.sfStart + p.start)).nextFcnt ctx.toNat = some fc →
    ((((s.to t).setAirCtx ctx.toNat { (s.to t).airCtx ctx.toNat with downAt := k }).countLate ctx.toNat
      ((s.to t).air.sfStart + p.start)).airCtx ctx.toNat).planFor ((s.to t).air.sfStart + p.start) = none →
    exec (.downlinkSpan t ctx) s = .next (((((s.to t).setAirCtx ctx.toNat { (s.to t).airCtx ctx.toNat with
        downAt := k }).countLate ctx.toNat ((s.to t).air.sfStart + p.start)).airSent [(((s.to t).setAirCtx ctx.toNat {
      (s.to t).airCtx ctx.toNat with downAt := k }).countLate ctx.toNat ((s.to t).air.sfStart + p.start)).planFrame p
      ctx.toNat fc none]).sentUnder ctx.toNat)) ∧
  /- DOWNLINK_BULK_SPAN with a message that fits -/
  (∀ (s : State) (t : Nat) (ctx : BitVec 8) (p : SpanOf) (k : Nat) (g : AirMsg),
    (s.to t).airServes = true →
    ctx.toNat ≠ 0 →
    (s.to t).nextHop ctx.toNat = 0 →
    (s.to t).spanNow ((s.to t).bulkDown ctx.toNat ++ (((s.to t).relaySpans ctx.toNat).filterMap (fun p => if p.2 then
      some p.1 else none))) ((s.to t).airCtx ctx.toNat).bulkAt = some (p, k) →
    p.entry.type = .bulk →
    (((s.to t).setAirCtx ctx.toNat { (s.to t).airCtx ctx.toNat with bulkAt := k }).airSent []).nextMsg ctx.toNat =
      some g →
    g.total ≤ p.capacity →
    exec (.downlinkBulkSpan t ctx) s = .next (((((s.to t).setAirCtx ctx.toNat { (s.to t).airCtx ctx.toNat with
        bulkAt := k }).airSent []).airSent [(((s.to t).setAirCtx ctx.toNat { (s.to t).airCtx ctx.toNat with
        bulkAt := k }).airSent []).burst p ((((s.to t).setAirCtx ctx.toNat { (s.to t).airCtx ctx.toNat with
        bulkAt := k }).airSent []).msgFrame ctx.toNat g p.slot p.len)]).msgSent ctx.toNat g))

/-- A frame of a head whose link is UP is judged layer by layer; one shorter than 20 bytes counts as RUNT and one
longer than 1,300 as LONG. A span that heard a valid frame clears the misses, another counts one. A LOST_ASLEEP
context whose CALL_PERIOD has ended leaves with cause LOST. A join unconfirmed at its time fails FAIL_TIMEOUT, and a
pending request lapses. -/
def Obligations.ReceivedFramesAndTimersComplete : Prop :=
  /- RX_FRAME -/
  (∀ (s : State) (t : Nat) (head : Fin 8) (pkt : List Byte) (opens : List Opening) (p : Packet8b),
    (s.to t).rgnState 9 = rsRun →
    (s.to t).runs 9 blkHeads = true →
    ((s.to t).takePacket head.val pkt 0x81).2 = some p →
    20 ≤ p.payload.length →
    p.payload.length ≤ 1300 →
    exec (.rxFrame t head pkt opens) s = .next ((((s.to t).takePacket head.val pkt 0x81).1.seeReceived head.val p
      opens).judgeFrame head.val (((((s.to t).takePacket head.val pkt 0x81).1.seeReceived head.val p opens).airFrame
      p.arg p.payload opens)) true (((((s.to t).takePacket head.val pkt 0x81).1.seeReceived head.val p opens).airFrame
      p.arg p.payload opens)).layers)) ∧
  /- RX_FRAME, RUNT -/
  (∀ (s : State) (t : Nat) (head : Fin 8) (pkt : List Byte) (opens : List Opening) (p : Packet8b),
    (s.to t).rgnState 9 = rsRun →
    (s.to t).runs 9 blkHeads = true →
    ((s.to t).takePacket head.val pkt 0x81).2 = some p →
    p.payload.length ≤ 19 →
    exec (.rxFrame t head pkt opens) s = .next ((((s.to t).takePacket head.val pkt 0x81).1.seeReceived head.val p
      opens).count (Reg.AIR_HEAD_CNT_RUNT head.val))) ∧
  /- RX_FRAME, LONG -/
  (∀ (s : State) (t : Nat) (head : Fin 8) (pkt : List Byte) (opens : List Opening) (p : Packet8b),
    (s.to t).rgnState 9 = rsRun →
    (s.to t).runs 9 blkHeads = true →
    ((s.to t).takePacket head.val pkt 0x81).2 = some p →
    1301 ≤ p.payload.length →
    exec (.rxFrame t head pkt opens) s = .next ((((s.to t).takePacket head.val pkt 0x81).1.seeReceived head.val p
      opens).count (Reg.AIR_HEAD_CNT_LONG head.val))) ∧
  /- RX_FRAME, no such packet -/
  (∀ (s : State) (t : Nat) (head : Fin 8) (pkt : List Byte) (opens : List Opening),
    (s.to t).rgnState 9 = rsRun →
    (s.to t).runs 9 blkHeads = true →
    ((s.to t).takePacket head.val pkt 0x81).2 = none →
    exec (.rxFrame t head pkt opens) s = .next ((s.to t).takePacket head.val pkt 0x81).1) ∧
  /- SPAN_JUDGED, heard -/
  (∀ (s : State) (t : Nat) (ctx : BitVec 8) (e : Expect) (rest : List Expect),
    ((s.to t).airCtx ctx.toNat).expect = e :: rest →
    (s.to t).airServes = true →
    (s.to t).judgeDue ctx.toNat e = true →
    e.heard = true →
    exec (.spanJudged t ctx) s = .next (((s.to t).setAirCtx ctx.toNat { (s.to t).airCtx ctx.toNat with
        expect := rest }).set (B.AIR_CTX_STS_MISSES ctx.toNat) 0)) ∧
  /- SPAN_JUDGED, missed -/
  (∀ (s : State) (t : Nat) (ctx : BitVec 8) (e : Expect) (rest : List Expect),
    ((s.to t).airCtx ctx.toNat).expect = e :: rest →
    (s.to t).airServes = true →
    (s.to t).judgeDue ctx.toNat e = true →
    e.heard = false →
    exec (.spanJudged t ctx) s = .next (((s.to t).setAirCtx ctx.toNat { (s.to t).airCtx ctx.toNat with
        expect := rest }).missed ctx.toNat)) ∧
  /- CALL_PERIOD_EXPIRY -/
  (∀ (s : State) (t : Nat) (ctx : BitVec 8) (until_ : Nat),
    ((s.to t).airCtx ctx.toNat).callUntil = some until_ →
    (s.to t).ctxState ctx.toNat = ctxLost →
    until_ ≤ (s.to t).cyc →
    (s.to t).standby = false →
    exec (.callPeriodExpiry t ctx) s = .next ((s.to t).airLeave ctx.toNat 3 false)) ∧
  /- JOIN_TIMEOUT_EXPIRY of a join -/
  (∀ (s : State) (t : Nat) (ctx : BitVec 8) (j : Joining) (f : Nat),
    (s.to t).standby = false →
    ((s.to t).airCtx ctx.toNat).joining = some j →
    j.lapse = some f →
    f ≤ (s.to t).sfn →
    exec (.joinTimeoutExpiry t ctx) s = .next ((s.to t).joinFailed ctx.toNat j .failTimeout)) ∧
  /- JOIN_TIMEOUT_EXPIRY of a request -/
  (∀ (s : State) (t : Nat) (ctx : BitVec 8) (r : JoinReq),
    (s.to t).standby = false →
    ((s.to t).airCtx ctx.toNat).joining = none →
    ((s.to t).airCtx ctx.toNat).joinReq = some r →
    r.lapse ≤ (s.to t).sfn →
    exec (.joinTimeoutExpiry t ctx) s = .next ((s.to t).setAirCtx ctx.toNat { (s.to t).airCtx ctx.toNat with
        joinReq := none }))

/-- Where its checks of Table AIR-23 pass, SESSION_ACCEPT derives K and begins the join; SESSION_REFUSE clears the
request and waits for its JOIN_NAK; SESSION_LEAVE runs the leave with its cause and completes DONE; SESSION_SLEEP
and SESSION_WAKE leave their message and state change to do and complete; SET_ROUTE sets the hop that the next
superframe start applies. That SLEEP, WAKE and SET_ROUTE complete at once is the model's choice (log entry 62). -/
def Obligations.SessionOperationsComplete : Prop :=
  /- SESSION_ACCEPT -/
  (∀ (s : State) (t : Nat) (it : Item) (late : Bool) (bnonce : BitVec 128),
    (s.to t).goes 9 it (⟨it.d.context != 0 && (s.to t).rateFits (argBit it.d.arg0 0), true, ((s.to t).joinKey?
      it.ctx).isSome && (s.to t).beaconKey?.isSome && ((s.to t).targetSlot 0x1FF).isSome, ((s.to t).airCtx
      it.ctx).joinReq.isSome && !(s.to t).joined it.ctx && ((s.to t).spansType it.ctx .uplink).length == (if (argBit
      it.d.arg0 0) then 2 else 1) && ((s.to t).bulkDown it.ctx).any (fun p => decide (78 ≤ p.capacity))⟩) late = true
      →
    exec (.sessionAccept t it bnonce) s = .next (((s.to t).unwait it.id).acceptSession (it.acting late) bnonce)) ∧
  /- SESSION_REFUSE -/
  (∀ (s : State) (t : Nat) (it : Item) (late : Bool),
    (s.to t).goes 9 it (⟨it.d.context != 0 && true, true, ((s.to t).joinKey? it.ctx).isSome, ((s.to t).airCtx
      it.ctx).joinReq.isSome && !((s.to t).bulkDown it.ctx).isEmpty⟩) late = true →
    exec (.sessionRefuse t it) s = .next (((s.to t).unwait it.id).setAirCtx it.ctx { (s.to t).airCtx it.ctx with
        joinReq := none, refusing := some (it.acting late, argBits it.d.arg0 7 0) })) ∧
  /- SESSION_LEAVE -/
  (∀ (s : State) (t : Nat) (it : Item) (late : Bool),
    (s.to t).goes 9 it (⟨it.d.context != 0 && ((argBits it.d.arg0 7 0) == 2 || (argBits it.d.arg0 7 0) == 4), true,
      true, (s.to t).joined it.ctx⟩) late = true →
    exec (.sessionLeave t it) s = .next ((((s.to t).unwait it.id).airLeave it.ctx (argBits it.d.arg0 7 0)
      false).finish (it.acting late) 9 .done)) ∧
  /- SESSION_SLEEP -/
  (∀ (s : State) (t : Nat) (it : Item) (late : Bool),
    (s.to t).goes 9 it (⟨it.d.context != 0 && true, true, true, (s.to t).ctxState it.ctx == ctxAwake &&
      !((s.to t).spansType it.ctx .sleeper).isEmpty⟩) late = true →
    exec (.sessionSleep t it) s = .next ((((s.to t).unwait it.id).setAirCtx it.ctx { ((s.to t).unwait it.id).airCtx
      it.ctx with sleepNext := true, sendSleep := true }).finish (it.acting late) 9 .done)) ∧
  /- SESSION_WAKE -/
  (∀ (s : State) (t : Nat) (it : Item) (late : Bool),
    (s.to t).goes 9 it (⟨it.d.context != 0 && true, true, true, (s.to t).ctxState it.ctx == ctxSleeper⟩) late = true →
    exec (.sessionWake t it) s = .next ((((s.to t).unwait it.id).setAirCtx it.ctx { ((s.to t).unwait it.id).airCtx
      it.ctx with waking := true, sendWake := true }).finish (it.acting late) 9 .done)) ∧
  /- SET_ROUTE -/
  (∀ (s : State) (t : Nat) (it : Item) (late : Bool),
    (s.to t).goes 9 it (⟨it.d.context != 0 && true, true, true, (s.to t).routeAllowed it.ctx (argBits it.d.arg0 7 0)⟩)
      late = true →
    exec (.setRoute t it) s = .next ((((s.to t).unwait it.id).setAirCtx it.ctx { ((s.to t).unwait it.id).airCtx it.ctx
      with nextHop := some (argBits it.d.arg0 7 0) }).finish (it.acting late) 9 .done))

/-- SET_JOIN_KEY and SET_BEACON_KEY write the key register with VALID set and complete DONE. COMPAT_INJECT with DIR 1
queues the frame for the context's downlink and completes; with DIR 0 the frame is judged as received. SCHED_LOAD of
a well-formed schedule that keeps the joined contexts announces it, the item waiting for the switch. -/
def Obligations.KeyScheduleAndInjectOperationsComplete : Prop :=
  /- SET_JOIN_KEY -/
  (∀ (s : State) (t : Nat) (it : Item) (late : Bool),
    (s.to t).goes 9 it (⟨it.d.context != 0 && true, true, ((s.to t).airSlot? (argBits it.d.arg0 8 0)).isSome,
      !(s.to t).joined it.ctx⟩) late = true →
    exec (.setJoinKey t it) s = .next ((((s.to t).unwait it.id).wr (Reg.AIR_CTX_JOINKEY it.ctx) ((argBits it.d.arg0 8
      0) + 0x200)).finish (it.acting late) 9 .done)) ∧
  /- SET_BEACON_KEY -/
  (∀ (s : State) (t : Nat) (it : Item) (late : Bool),
    (s.to t).goes 9 it ⟨it.d.context == 0, true, ((s.to t).airSlot? (argBits it.d.arg0 8 0)).isSome,
      (s.to t).joinedCtx.isEmpty⟩ late = true →
    exec (.setBeaconKey t it) s = .next ((((s.to t).unwait it.id).wr Reg.AIR_BEACON_KEY ((argBits it.d.arg0 8 0) +
      0x200)).finish (it.acting late) 9 .done)) ∧
  /- COMPAT_INJECT of a downlink frame -/
  (∀ (s : State) (t : Nat) (it : Item) (late : Bool) (raw : List Byte) (opens : List Opening),
    (s.to t).goes 9 it (⟨it.d.context != 0 && decide (20 ≤ it.d.len.toNat ∧ it.d.len.toNat ≤ 1300), true, true,
      (s.to t).joined it.ctx && (s.to t).flag (B.AIR_CTX_SESS_COMPAT it.ctx)⟩) late = true →
    argBit it.d.arg0 0 = true →
    exec (.compatInject t it raw opens) s = .next ((((s.to t).unwait it.id).setAirCtx it.ctx { ((s.to t).unwait
      it.id).airCtx it.ctx with
        inject := (((s.to t).unwait it.id).airCtx it.ctx).inject ++ [(((raw ++ leBytes (it.d.len.toNat - raw.length)
          0).take it.d.len.toNat))] }).finish (it.acting late) 9 .done)) ∧
  /- COMPAT_INJECT of an uplink frame -/
  (∀ (s : State) (t : Nat) (it : Item) (late : Bool) (raw : List Byte) (opens : List Opening),
    (s.to t).goes 9 it (⟨it.d.context != 0 && decide (20 ≤ it.d.len.toNat ∧ it.d.len.toNat ≤ 1300), true, true,
      (s.to t).joined it.ctx && (s.to t).flag (B.AIR_CTX_SESS_COMPAT it.ctx)⟩) late = true →
    argBit it.d.arg0 0 = false →
    exec (.compatInject t it raw opens) s = .next ((((s.to t).unwait it.id).judgeFrame (((s.to t).unwait it.id).get
      (B.AIR_CTX_STS_HEAD it.ctx)) ⟨(((raw ++ leBytes (it.d.len.toNat - raw.length) 0).take it.d.len.toNat)), layersOf
      (((raw ++ leBytes (it.d.len.toNat - raw.length) 0).take it.d.len.toNat)) opens, false, ((s.to t).unwait
      it.id).devNs⟩ true (layersOf (((raw ++ leBytes (it.d.len.toNat - raw.length) 0).take it.d.len.toNat))
      opens)).finish (it.acting late) 9 .done)) ∧
  /- SCHED_LOAD -/
  (∀ (s : State) (t : Nat) (it : Item) (late : Bool) (raw : List Byte) (file : SchedFile),
    SchedFile.ofBytes (raw.take it.d.len.toNat) = file →
    (s.to t).goes 9 it ⟨it.d.context == 0 && file.headerOk && file.crcOk && file.sched.wellFormed, file.format == 1,
      true, (s.to t).air.next.isNone && (s.to t).keepsContexts file.sched⟩ late = true →
    exec (.schedLoad t it raw) s = .next ((((({ ((s.to t).unwait it.id) with
        air := { ((s.to t).unwait it.id).air with
            next := some (file.sched, (((s.to t).unwait it.id).switchSfn it.d.when_.toNat), some (it.acting late)) }
          }) : State).set B.AIR_SCHED_NEXT_ID file.sched.id).wr Reg.AIR_SCHED_NEXT_SFN ((((s.to t).unwait
      it.id).switchSfn it.d.when_.toNat) % 2 ^ 32)).mirrorSend (.config 0)))

/-- A port takes its bit-times one by one. The 256th correct sample in a row gains sync, which ends the coasting and
makes the clock tests skip the next epoch; the 8th wrong one within 256 loses it. A slip of two samples or more in a
millisecond in sync counts, sets SLIPPED, makes the band's signals slip and takes the sync away. The AGC moves DUTY
one step toward the target mean level of the samples in sync, and a new jump over AGC_JUMP within a second sets
AGC_JUMP and counts as interference. A spectrum without a line over the threshold drops the notches whose lines
stayed away for a second, an event for each. That a wrong sample in sync still counts as one and that the mean is
taken over both components are the model's choices (log entry 124). -/
def Obligations.BandPortsComplete : Prop :=
  /- PORT_SYNC_CHANGE -/
  (∀ (s : State) (t : Nat) (port : Fin 2) (bits : List PortBit),
    (s.to t).samples port.val = true →
    exec (.portSyncChange t port bits) s = .next (bits.foldl (fun (s : State) b => s.portBit port.val b) (s.to t))) ∧
  /- PORT_SYNC_CHANGE, the last bit-time of a sample -/
  (∀ (s : State) (t : Nat) (port : Fin 2) (b : PortBit) (x : BandPort),
    (s.to t).samples port.val = true →
    x = (s.to t).band port.val →
    x.rx.bits.length = 3 →
    b.frm = false →
    exec (.portSyncChange t port [b]) s = .next (((s.to t).setBand port.val { x with
        rx := { x.rx with lastFrm := b.frm, bits := x.rx.bits ++ [b] } }).portSample port.val (x.rx.bits ++ [b]))) ∧
  /- A sample that gains sync -/
  (∀ (s : State) (t : Nat) (p : Nat) (bits : List PortBit) (x : BandPort),
    x = (s.to t).band p →
    (s.to t).flag (B.GNB_PORT_STS_SYNC p) = false →
    frameOk bits = true →
    255 ≤ x.rx.good →
    (s.to t).portSample p bits = ((s.to t).setBand p { x with
        rx := { x.rx with bits := [], good := x.rx.good + 1, wrongs := [] } }).gainSync p) ∧
  /- A wrong sample in sync that is the eighth within 256 -/
  (∀ (s : State) (t : Nat) (p : Nat) (bits : List PortBit),
    (s.to t).flag (B.GNB_PORT_STS_SYNC p) = true →
    frameOk bits = false →
    8 ≤ ((0 :: (((s.to t).band p).rx.wrongs.map (· + 1)).filter (· < 256))).length →
    (s.to t).portSample p bits = (((s.to t).seeSample p ((s.to t).devNs / 10 ^ 6 * 10 ^ 6 + ((s.to t).band p).rx.count
      * 10 ^ 6 / 61380) (codeOf (bits.map PortBit.d0) + 16 * codeOf (bits.map PortBit.d1)) (levelOf (bits.map
      PortBit.d0)) (levelOf (bits.map PortBit.d1))).setBand p { ((s.to t).band p) with
        rx := ({ ((s.to t).band p).rx with
            bits := [], wrongs := (0 :: (((s.to t).band p).rx.wrongs.map (· + 1)).filter (· < 256)), count :=
              ((s.to t).band p).rx.count + 1, meas := ((s.to t).band p).rx.meas + 1, level := ((s.to t).band
              p).rx.level + ((levelOf (bits.map PortBit.d0))).natAbs + ((levelOf (bits.map PortBit.d1))).natAbs })
          }).loseSync p) ∧
  /- SAMPLE_COUNT_CHECK, a slip -/
  (∀ (s : State) (t : Nat) (port : Fin 2),
    ((s.to t).setBand port.val { ((s.to t).band port.val) with
        rx := { ((s.to t).band port.val).rx with count := 0, whole := (s.to t).flag (B.GNB_PORT_STS_SYNC port.val) }
          }).samples port.val = true →
    ((s.to t).band port.val).rx.whole = true →
    ((s.to t).band port.val).rx.count + 2 ≤ 61380 ∨ 61382 ≤ ((s.to t).band port.val).rx.count →
    exec (.sampleCountCheck t port) s = .next ((((((s.to t).setBand port.val { ((s.to t).band port.val) with
        rx := { ((s.to t).band port.val).rx with count := 0, whole := (s.to t).flag (B.GNB_PORT_STS_SYNC port.val) }
          }).count (Reg.GNB_PORT_SLIP_CNT port.val)).setFlag (B.GNB_PORT_STS_SLIPPED port.val) true).mapBand port.val
      (fun c => { c with slip := true })).loseSync port.val)) ∧
  /- SAMPLE_COUNT_CHECK, a full millisecond -/
  (∀ (s : State) (t : Nat) (port : Fin 2),
    61379 ≤ ((s.to t).band port.val).rx.count →
    ((s.to t).band port.val).rx.count ≤ 61381 →
    exec (.sampleCountCheck t port) s = .next ((s.to t).setBand port.val { ((s.to t).band port.val) with
        rx := { ((s.to t).band port.val).rx with count := 0, whole := (s.to t).flag (B.GNB_PORT_STS_SYNC port.val) }
          })) ∧
  /- AGC_UPDATE below the target, no jump -/
  (∀ (s : State) (t : Nat) (port : Fin 2) (x : BandPort),
    x = (s.to t).band port.val →
    ((s.to t).setBand port.val { x with rx := { x.rx with meas := 0, level := 0 } }).samples port.val = true →
    (s.to t).flag (B.GNB_PORT_STS_SYNC port.val) = true →
    (s.to t).flag (B.GNB_PORT_CTL_AGC_HOLD port.val) = false →
    (x.rx.meas == 0) = false →
    x.rx.level * 10 < ((s.to t).setBand port.val { x with rx := { x.rx with meas := 0, level := 0 } }).param
      P.AGC_TARGET * (2 * x.rx.meas) →
    (((s.to t).setBand port.val { x with rx := { x.rx with meas := 0, level := 0 } }).dutiesInForce x.duties
      (((s.to t).setBand port.val { x with rx := { x.rx with meas := 0, level := 0 } }).get (B.GNB_PORT_STS_AGC_DUTY
      port.val))).any (fun d => decide (((s.to t).setBand port.val { x with
        rx := { x.rx with meas := 0, level := 0 } }).param P.AGC_JUMP < (d.1 - (min 1023 ((((s.to t).setBand port.val
      { x with rx := { x.rx with meas := 0, level := 0 } }).get (B.GNB_PORT_STS_AGC_DUTY port.val)) + 1))) + ((min
      1023 ((((s.to t).setBand port.val { x with rx := { x.rx with meas := 0, level := 0 } }).get
      (B.GNB_PORT_STS_AGC_DUTY port.val)) + 1)) - d.1))) = false →
    exec (.agcUpdate t port) s = .next ((((s.to t).setBand port.val { x with
        rx := { x.rx with meas := 0, level := 0 } }).setBand port.val ({ ((s.to t).setBand port.val { x with
        rx := { x.rx with meas := 0, level := 0 } }).band port.val with
        duties := if (min 1023 ((((s.to t).setBand port.val { x with rx := { x.rx with meas := 0, level := 0 } }).get
          (B.GNB_PORT_STS_AGC_DUTY port.val)) + 1)) = (((s.to t).setBand port.val { x with
            rx := { x.rx with meas := 0, level := 0 } }).get (B.GNB_PORT_STS_AGC_DUTY port.val)) then
          (((s.to t).setBand port.val { x with rx := { x.rx with meas := 0, level := 0 } }).dutiesInForce x.duties
          (((s.to t).setBand port.val { x with rx := { x.rx with meas := 0, level := 0 } }).get
          (B.GNB_PORT_STS_AGC_DUTY port.val))) else (((s.to t).setBand port.val { x with
            rx := { x.rx with meas := 0, level := 0 } }).dutiesInForce x.duties (((s.to t).setBand port.val { x with
            rx := { x.rx with meas := 0, level := 0 } }).get (B.GNB_PORT_STS_AGC_DUTY port.val))) ++ [((min 1023
          ((((s.to t).setBand port.val { x with rx := { x.rx with meas := 0, level := 0 } }).get
          (B.GNB_PORT_STS_AGC_DUTY port.val)) + 1)), ((s.to t).setBand port.val { x with
            rx := { x.rx with meas := 0, level := 0 } }).cyc)], jumped := false })).set (B.GNB_PORT_STS_AGC_DUTY
      port.val) (min 1023 ((((s.to t).setBand port.val { x with rx := { x.rx with meas := 0, level := 0 } }).get
      (B.GNB_PORT_STS_AGC_DUTY port.val)) + 1)))) ∧
  /- AGC_UPDATE above the target, a new jump -/
  (∀ (s : State) (t : Nat) (port : Fin 2) (x : BandPort),
    x = (s.to t).band port.val →
    ((s.to t).setBand port.val { x with rx := { x.rx with meas := 0, level := 0 } }).samples port.val = true →
    (s.to t).flag (B.GNB_PORT_STS_SYNC port.val) = true →
    (s.to t).flag (B.GNB_PORT_CTL_AGC_HOLD port.val) = false →
    (x.rx.meas == 0) = false →
    ((s.to t).setBand port.val { x with rx := { x.rx with meas := 0, level := 0 } }).param P.AGC_TARGET * (2 *
      x.rx.meas) < x.rx.level * 10 →
    (((s.to t).setBand port.val { x with rx := { x.rx with meas := 0, level := 0 } }).dutiesInForce x.duties
      (((s.to t).setBand port.val { x with rx := { x.rx with meas := 0, level := 0 } }).get (B.GNB_PORT_STS_AGC_DUTY
      port.val))).any (fun d => decide (((s.to t).setBand port.val { x with
        rx := { x.rx with meas := 0, level := 0 } }).param P.AGC_JUMP < (d.1 - ((((s.to t).setBand port.val { x with
        rx := { x.rx with meas := 0, level := 0 } }).get (B.GNB_PORT_STS_AGC_DUTY port.val)) - 1)) +
      (((((s.to t).setBand port.val { x with rx := { x.rx with meas := 0, level := 0 } }).get (B.GNB_PORT_STS_AGC_DUTY
      port.val)) - 1) - d.1))) = true →
    x.jumped = false →
    exec (.agcUpdate t port) s = .next ((((((s.to t).setBand port.val { x with
        rx := { x.rx with meas := 0, level := 0 } }).setBand port.val ({ ((s.to t).setBand port.val { x with
        rx := { x.rx with meas := 0, level := 0 } }).band port.val with
        duties := if ((((s.to t).setBand port.val { x with rx := { x.rx with meas := 0, level := 0 } }).get
          (B.GNB_PORT_STS_AGC_DUTY port.val)) - 1) = (((s.to t).setBand port.val { x with
            rx := { x.rx with meas := 0, level := 0 } }).get (B.GNB_PORT_STS_AGC_DUTY port.val)) then
          (((s.to t).setBand port.val { x with rx := { x.rx with meas := 0, level := 0 } }).dutiesInForce x.duties
          (((s.to t).setBand port.val { x with rx := { x.rx with meas := 0, level := 0 } }).get
          (B.GNB_PORT_STS_AGC_DUTY port.val))) else (((s.to t).setBand port.val { x with
            rx := { x.rx with meas := 0, level := 0 } }).dutiesInForce x.duties (((s.to t).setBand port.val { x with
            rx := { x.rx with meas := 0, level := 0 } }).get (B.GNB_PORT_STS_AGC_DUTY port.val))) ++
          [(((((s.to t).setBand port.val { x with rx := { x.rx with meas := 0, level := 0 } }).get
          (B.GNB_PORT_STS_AGC_DUTY port.val)) - 1), ((s.to t).setBand port.val { x with
            rx := { x.rx with meas := 0, level := 0 } }).cyc)], jumped := true })).set (B.GNB_PORT_STS_AGC_DUTY
      port.val) ((((s.to t).setBand port.val { x with rx := { x.rx with meas := 0, level := 0 } }).get
      (B.GNB_PORT_STS_AGC_DUTY port.val)) - 1)).setFlag (B.GNB_PORT_STS_AGC_JUMP port.val) true).gnbEvent.interfere)) ∧
  /- SPECTRUM_FFT without a line over the threshold -/
  (∀ (s : State) (t : Nat) (port : Fin 2) (powers : List Nat),
    (s.to t).samples port.val = true →
    (s.to t).flag (B.GNB_PORT_STS_SYNC port.val) = true →
    ((List.range powers.length).zip powers).filter (fun l => decide ((median2 powers + 20 * (s.to t).param
      P.NOTCH_THRESH) ≤ 2 * l.2)) = [] →
    exec (.spectrumFft t port powers) s = .next ((((s.to t).setBand port.val { ((s.to t).band port.val) with
        notches := ((((s.to t).band port.val).notches.map (fun (n : Notch) => if [].contains n.bin then { n with
            last := (s.to t).cyc } else n)).filter (fun n => decide ((s.to t).cyc < n.last + cycS))), prev := [],
          overran := false }).set (B.GNB_PORT_STS_NOTCHES port.val) ((((s.to t).band port.val).notches.map (fun (n :
      Notch) => if [].contains n.bin then { n with last := (s.to t).cyc } else n)).filter (fun n => decide
      ((s.to t).cyc < n.last + cycS))).length).gnbEvents ((((s.to t).band port.val).notches.filter (fun n =>
      !((((s.to t).band port.val).notches.map (fun (n : Notch) => if [].contains n.bin then { n with
        last := (s.to t).cyc } else n)).filter (fun n => decide ((s.to t).cyc < n.last + cycS))).any (fun m => m.bin
      == n.bin))).length)))

/-- With the bias on a current is classed, and a class that holds for its tenth sample takes effect; with the bias off
the current reads 0. Five seconds after a SHORT the bias returns unless latched; a write of REARM returns it and
clears LATCHED where LATCHED stands. A found signal that is among the candidates takes the lowest free channel (the
model's choice, log entry 29), a channel that has coasted 100 ms or lost its carrier is freed, and disabling a
satellite frees its channels. -/
def Obligations.AntennaAndChannelsComplete : Prop :=
  /- ANTENNA_SAMPLE with the bias off -/
  (∀ (s : State) (t : Nat) (cur : BitVec 16),
    (s.to t).runs 5 (blkFront 0) = true →
    (s.to t).antBias = false →
    exec (.antennaSample t cur) s = .next (({ (s.to t) with gnb := { (s.to t).gnb with runLen := 0 } } : State).wr
      Reg.GNB_ANT_CUR 0)) ∧
  /- ANTENNA_SAMPLE, the tenth of a class -/
  (∀ (s : State) (t : Nat) (cur : BitVec 16),
    (s.to t).runs 5 (blkFront 0) = true →
    (s.to t).antBias = true →
    ((s.to t).wr Reg.GNB_ANT_CUR cur.toNat).gnb.runClass = (((s.to t).wr Reg.GNB_ANT_CUR cur.toNat).antClass
      cur.toNat) →
    ((s.to t).wr Reg.GNB_ANT_CUR cur.toNat).gnb.runLen = 9 →
    exec (.antennaSample t cur) s = .next (({ ((s.to t).wr Reg.GNB_ANT_CUR cur.toNat) with
        gnb := { ((s.to t).wr Reg.GNB_ANT_CUR cur.toNat).gnb with
            runClass := (((s.to t).wr Reg.GNB_ANT_CUR cur.toNat).antClass cur.toNat), runLen := 10 } } :
      State).antEffect (((s.to t).wr Reg.GNB_ANT_CUR cur.toNat).antClass cur.toNat))) ∧
  /- ANTENNA_SAMPLE, another sample of a class -/
  (∀ (s : State) (t : Nat) (cur : BitVec 16),
    (s.to t).runs 5 (blkFront 0) = true →
    (s.to t).antBias = true →
    ((s.to t).wr Reg.GNB_ANT_CUR cur.toNat).gnb.runClass = (((s.to t).wr Reg.GNB_ANT_CUR cur.toNat).antClass
      cur.toNat) →
    ((s.to t).wr Reg.GNB_ANT_CUR cur.toNat).gnb.runLen ≠ 9 →
    exec (.antennaSample t cur) s = .next { ((s.to t).wr Reg.GNB_ANT_CUR cur.toNat) with
        gnb := { ((s.to t).wr Reg.GNB_ANT_CUR cur.toNat).gnb with
            runClass := (((s.to t).wr Reg.GNB_ANT_CUR cur.toNat).antClass cur.toNat), runLen := ((s.to t).wr
              Reg.GNB_ANT_CUR cur.toNat).gnb.runLen + 1 } }) ∧
  /- ANTENNA_SAMPLE, the first of a class -/
  (∀ (s : State) (t : Nat) (cur : BitVec 16),
    (s.to t).runs 5 (blkFront 0) = true →
    (s.to t).antBias = true →
    ((s.to t).wr Reg.GNB_ANT_CUR cur.toNat).gnb.runClass ≠ (((s.to t).wr Reg.GNB_ANT_CUR cur.toNat).antClass
      cur.toNat) →
    exec (.antennaSample t cur) s = .next { ((s.to t).wr Reg.GNB_ANT_CUR cur.toNat) with
        gnb := { ((s.to t).wr Reg.GNB_ANT_CUR cur.toNat).gnb with
            runClass := (((s.to t).wr Reg.GNB_ANT_CUR cur.toNat).antClass cur.toNat), runLen := 1 } }) ∧
  /- ANTENNA_BIAS_RETRY -/
  (∀ (s : State) (t : Nat) (t0 : Nat),
    (s.to t).gnb.offAt = some t0 →
    t0 + 5 * cycS ≤ (s.to t).cyc →
    (s.to t).flag B.GNB_ANT_STS_LATCHED = false →
    exec (.antennaBiasRetry t) s = .next { (s.to t) with gnb := { (s.to t).gnb with offAt := none, runLen := 0 } }) ∧
  /- ANT_REARM while LATCHED -/
  (∀ (s : State) (t : Nat) (rq : Requester) (val : Word),
    (s.to t).reaches rq Reg.GNB_ANT_CFG = true →
    val.getLsbD 1 = true →
    (((s.to t).reached rq Reg.GNB_ANT_CFG true).softWrite Reg.GNB_ANT_CFG val).flag B.GNB_ANT_STS_LATCHED = true →
    exec (.antRearm t rq val) s = .next (({ (((s.to t).reached rq Reg.GNB_ANT_CFG true).softWrite Reg.GNB_ANT_CFG val)
      with
        gnb := { (((s.to t).reached rq Reg.GNB_ANT_CFG true).softWrite Reg.GNB_ANT_CFG val).gnb with
            offAt := none, runLen := 0, shorts := 0 } } : State).setFlag B.GNB_ANT_STS_LATCHED false)) ∧
  /- ANT_REARM without LATCHED -/
  (∀ (s : State) (t : Nat) (rq : Requester) (val : Word),
    (s.to t).reaches rq Reg.GNB_ANT_CFG = true →
    (((s.to t).reached rq Reg.GNB_ANT_CFG true).softWrite Reg.GNB_ANT_CFG val).flag B.GNB_ANT_STS_LATCHED = false →
    exec (.antRearm t rq val) s = .next (((s.to t).reached rq Reg.GNB_ANT_CFG true).softWrite Reg.GNB_ANT_CFG val)) ∧
  /- TRK_MASK_PRN_WRITE that disables a satellite -/
  (∀ (s : State) (t : Nat) (rq : Requester) (val : Word),
    (s.to t).reaches rq Reg.GNB_TRK_MASK_PRN = true →
    fieldOf val 0 6 ≠ 0 →
    fieldOf val 6 2 ≠ 3 →
    val.getLsbD 8 = true →
    exec (.trkMaskPrnWrite t rq val) s = .next (((({ (((s.to t).reached rq Reg.GNB_TRK_MASK_PRN true).softWrite
      Reg.GNB_TRK_MASK_PRN val) with
        gnb := { (((s.to t).reached rq Reg.GNB_TRK_MASK_PRN true).softWrite Reg.GNB_TRK_MASK_PRN val).gnb with
            disabled := ((((s.to t).reached rq Reg.GNB_TRK_MASK_PRN true).softWrite Reg.GNB_TRK_MASK_PRN
              val).gnb.disabled.filter (fun x => x != (satId (fieldOf val 6 2) (fieldOf val 0 6))) ++ [(satId (fieldOf
              val 6 2) (fieldOf val 0 6))]), chans := (((s.to t).reached rq Reg.GNB_TRK_MASK_PRN true).softWrite
              Reg.GNB_TRK_MASK_PRN val).gnb.chans.filter (fun c => !(((((s.to t).reached rq Reg.GNB_TRK_MASK_PRN
              true).softWrite Reg.GNB_TRK_MASK_PRN val).gnb.disabled.filter (fun x => x != (satId (fieldOf val 6 2)
              (fieldOf val 0 6))) ++ [(satId (fieldOf val 6 2) (fieldOf val 0 6))]).contains (satId c.2.sys c.2.prn)))
              } }) : State).set B.GNB_TRK_DIS_CNT_COUNT ((((s.to t).reached rq Reg.GNB_TRK_MASK_PRN true).softWrite
      Reg.GNB_TRK_MASK_PRN val).gnb.disabled.filter (fun x => x != (satId (fieldOf val 6 2) (fieldOf val 0 6))) ++
      [(satId (fieldOf val 6 2) (fieldOf val 0 6))]).length).reportTrack)) ∧
  /- ACQUISITION_HANDOFF to a free channel -/
  (∀ (s : State) (t : Nat) (engine : Fin 2) (prn : BitVec 6) (sig : Fin 6) (known l : List SigCand) (free : List Nat)
    (k : Nat) (x : SigCand),
    (s.to t).runs 5 blkAcquire = true →
    (s.to t).runs 5 blkTrack = true →
    (s.to t).retiredGnb.contains (192 + engine.val) = false →
    l = sortBy (s.to t).goesBefore ((s.to t).untracked known) →
    free = (s.to t).freeChans →
    free.head? = some k →
    (l.take free.length).find? (fun y => y.prn == prn && y.sig == sig) = some x →
    (s.to t).flag (B.GNB_PORT_STS_SYNC (bandOf sig.val)) = true →
    exec (.acquisitionHandoff t engine prn sig known) s = .next (((({ (s.to t) with
        gnb := { (s.to t).gnb with
            chans := Sp.put (s.to t).gnb.chans k ⟨sig.val / 2, prn.toNat, sig.val, true, none, (s.to t).cyc, 0,
              x.elev, false⟩ } }) : State).set B.GNB_TRK_STS_UNTRACKED (min 255 (((({ (s.to t) with
        gnb := { (s.to t).gnb with
            chans := Sp.put (s.to t).gnb.chans k ⟨sig.val / 2, prn.toNat, sig.val, true, none, (s.to t).cyc, 0,
              x.elev, false⟩ } }) : State).untracked known).length - (({ (s.to t) with
        gnb := { (s.to t).gnb with
            chans := Sp.put (s.to t).gnb.chans k ⟨sig.val / 2, prn.toNat, sig.val, true, none, (s.to t).cyc, 0,
              x.elev, false⟩ } }) : State).freeChans.length))).reportTrack)) ∧
  /- SIGNAL_LOCK_LOSS of carrier lock -/
  (∀ (s : State) (t : Nat) (ch : Fin 192) (c : Chan),
    (s.to t).runs 5 blkTrack = true →
    Sp.find (s.to t).gnb.chans ch.val = some c →
    exec (.signalLockLoss t ch true) s = .next ((s.to t).dropChan ch.val)) ∧
  /- SIGNAL_LOCK_LOSS after 100 ms of coasting -/
  (∀ (s : State) (t : Nat) (ch : Fin 192) (c : Chan) (t0 : Nat),
    (s.to t).runs 5 blkTrack = true →
    Sp.find (s.to t).gnb.chans ch.val = some c →
    c.coast = some t0 →
    t0 + 100 * cycMs ≤ (s.to t).cyc →
    exec (.signalLockLoss t ch false) s = .next ((s.to t).dropChan ch.val))

/-- SET_REF of a position in range, no survey running and the step allowed or forced, stages the reference and
completes DONE. SELF_SURVEY of 60 to 604,800 s begins its long operation; one that counts no second for 600 s of
running ends FAIL_TIMEOUT. A burst in Stabled corrects the servo where it yields a clock solution and is counted
where it does not. A base epoch missing 2 ms after its instant is a base outage. That SET_REF completes as soon as
the reference is staged is the model's choice (log entry 63). -/
def Obligations.ReferenceAndSurveyComplete : Prop :=
  /- SET_REF -/
  (∀ (s : State) (t : Nat) (it : Item) (late : Bool),
    (s.to t).goes 5 it { Checks.pass with
        range := it.d.context == 0 && refInRange (signed 40 (argBits it.d.arg0 39 0)) (signed 40 (argBits it.d.arg1 39
          0)) (signed 40 (argBits it.d.arg2 39 0)), state := (s.to t).gnb.survey.isNone && (s.to t).refAllowed (signed
          40 (argBits it.d.arg0 39 0)) (signed 40 (argBits it.d.arg1 39 0)) (signed 40 (argBits it.d.arg2 39 0))
          (argBit it.d.arg0 63) } late = true →
    exec (.setRef t it) s = .next ((((s.to t).unwait it.id).stageRef (signed 40 (argBits it.d.arg0 39 0)) (signed 40
      (argBits it.d.arg1 39 0)) (signed 40 (argBits it.d.arg2 39 0))).finish (it.acting late) 5 .done)) ∧
  /- SELF_SURVEY -/
  (∀ (s : State) (t : Nat) (it : Item) (late : Bool),
    (s.to t).goes 5 it { Checks.pass with
        range := it.d.context == 0 && 60 ≤ surveyDuration it.d && surveyDuration it.d ≤ 604800, state :=
          (s.to t).gnb.survey.isNone } late = true →
    exec (.selfSurvey t it) s = .next { (((s.to t).unwait it.id).startLong (it.acting late) 5 (surveyDuration it.d) 0)
      with
        gnb := { (((s.to t).unwait it.id).startLong (it.acting late) 5 (surveyDuration it.d) 0).gnb with
            survey := some ⟨it.handle.1, it.handle.2, (((s.to t).unwait it.id).startLong (it.acting late) 5
              (surveyDuration it.d) 0).cyc, (((s.to t).unwait it.id).startLong (it.acting late) 5 (surveyDuration
              it.d) 0).devSec, (0, 0, 0), (0, 0, 0)⟩ } }) ∧
  /- SURVEY_NETWORK_TIMEOUT -/
  (∀ (s : State) (t : Nat) (v : Survey) (l : LongOp),
    (s.to t).runs 5 blkTrack = true →
    (s.to t).gnb.survey = some v →
    (s.to t).longOf? v.ring v.tag = some l →
    argBit l.start.arg1 0 = true →
    l.state ≠ .suspended →
    v.last + 600 * cycS ≤ (s.to t).cyc →
    exec (.surveyNetworkTimeout t) s = .next ((s.to t).endSurvey l .failTimeout)) ∧
  /- STABLED_BURST with a clock solution -/
  (∀ (s : State) (t : Nat) (bias : Int) (found : List (Nat × BitVec 8)) (g : GnbRt),
    (s.to t).chip.stabled = true →
    (s.to t).param P.BURST_EN = 1 →
    (s.to t).gnb.emptyBursts < 60 →
    (s.to t).devNs % 10 ^ 9 ≤ 40 * 10 ^ 6 →
    ((s.to t).devNs / 10 ^ 9) ≠ (s.to t).gnb.burstSec →
    g = { (s.to t).gnb with
        chans := ((s.to t).gnb.chans.map (fun (x : Nat × Chan) => if (s.to t).burstChans.contains x.1 then (x.1, { x.2
          with cn0 := match found.find? (fun f => f.1 == x.1) with | some f => f.2.toNat | none => 0 }) else x)),
          burst := (s.to t).burstChans, burstSec := ((s.to t).devNs / 10 ^ 9), emptyBursts := 0 } →
    exec (.stabledBurst t (some bias) found) s = .next (({ (s.to t) with gnb := g } : State).sample 1 (bias * 2 ^ 16 /
      1000 - ({ (s.to t) with gnb := g } : State).param P.GNSS_DELAY * 2 ^ 16))) ∧
  /- STABLED_BURST without one -/
  (∀ (s : State) (t : Nat) (found : List (Nat × BitVec 8)),
    (s.to t).chip.stabled = true →
    (s.to t).param P.BURST_EN = 1 →
    (s.to t).gnb.emptyBursts < 60 →
    (s.to t).devNs % 10 ^ 9 ≤ 40 * 10 ^ 6 →
    ((s.to t).devNs / 10 ^ 9) ≠ (s.to t).gnb.burstSec →
    exec (.stabledBurst t none found) s = .next { (s.to t) with
        gnb := { (s.to t).gnb with
            chans := ((s.to t).gnb.chans.map (fun (x : Nat × Chan) => if (s.to t).burstChans.contains x.1 then (x.1, {
              x.2 with cn0 := match found.find? (fun f => f.1 == x.1) with | some f => f.2.toNat | none => 0 }) else
              x)), burst := (s.to t).burstChans, burstSec := ((s.to t).devNs / 10 ^ 9), emptyBursts :=
              (s.to t).gnb.emptyBursts + 1 } }) ∧
  /- BASE_EPOCH_TIMEOUT -/
  (∀ (s : State) (t : Nat) (epoch : BitVec 64),
    devOfGps epoch.toNat + 2000000 ≤ (s.to t).devNs →
    epoch.toNat % 50000000 = 0 →
    ((s.to t).baseItem? epoch.toNat).isNone = true →
    (s.to t).fix.missing.all (fun m => decide (m < epoch.toNat)) = true →
    exec (.baseEpochTimeout t epoch) s = .next { (s.to t) with
        fix := { (s.to t).fix with missing := some epoch.toNat } })

/-- At a 50 ms epoch newer than those delivered a due reference is applied and every tracked channel measured, the
records of channels at fault left out. Where a clock solution is found and a valid reference and one signal, or
enough satellites, are there, the servo is sampled, the base observation item is delivered, FIX runs its tests of
the base epoch and the corrections go out. Without one no item is made and the slips stay owed to the next. Which
measurements a channel makes is the command's operand; where the operand names none for a channel they are free
values. -/
def Obligations.BaseEpochCompletes : Prop :=
  /- BASE_OBS_EPOCH -/
  (∀ (s : State) (t : Nat) (epoch sampled : BitVec 64) (ms : List Meas) (bias drift : Int) (sats : List SvRange) (v w
    : State) (l : List (Nat × Chan × Meas)) (recs : List BaseSig) (b : BaseItem),
    (s.to t).runs 5 blkTrack = true →
    (s.to t).chip.stabled = false →
    epoch.toNat % 50000000 = 0 →
    (s.to t).gnb.history.all (fun b => decide (b.epoch < epoch.toNat)) = true →
    ((s.to t).applyRef sampled.toNat).measure ms ((s.to t).applyRef sampled.toNat).gnb.chans = (v, l) →
    recs = (l.filter (fun p => !p.2.1.fault)).map (fun p => v.recordOf p.1 p.2.1 p.2.2) →
    v.clockPossible recs = true →
    b = v.baseItem epoch.toNat sampled.toNat recs bias drift →
    w = { v with gnb := { v.gnb with chans := l.map (fun p => (p.1, p.2.1.after p.2.2 true v.cyc)) } } →
    exec (.baseObsEpoch t epoch sampled ms (some (bias, drift)) sats) s = .next ((if ((w.sample 1 (bias * 2 ^ 16 /
      1000 - w.param P.GNSS_DELAY * 2 ^ 16)).deliverBase b).up 6 then ((w.sample 1 (bias * 2 ^ 16 / 1000 - w.param
      P.GNSS_DELAY * 2 ^ 16)).deliverBase b).fixBaseEpoch b sats else ((w.sample 1 (bias * 2 ^ 16 / 1000 - w.param
      P.GNSS_DELAY * 2 ^ 16)).deliverBase b)).corrections b)) ∧
  /- BASE_OBS_EPOCH without a clock solution -/
  (∀ (s : State) (t : Nat) (epoch sampled : BitVec 64) (ms : List Meas) (sats : List SvRange) (v : State) (l : List
    (Nat × Chan × Meas)),
    (s.to t).runs 5 blkTrack = true →
    (s.to t).chip.stabled = false →
    epoch.toNat % 50000000 = 0 →
    (s.to t).gnb.history.all (fun b => decide (b.epoch < epoch.toNat)) = true →
    ((s.to t).applyRef sampled.toNat).measure ms ((s.to t).applyRef sampled.toNat).gnb.chans = (v, l) →
    exec (.baseObsEpoch t epoch sampled ms none sats) s = .next { v with
        gnb := { v.gnb with chans := l.map (fun p => (p.1, p.2.1.after p.2.2 false v.cyc)) } })

/-- An epoch item at FIX with a later one behind it is counted stale and ends STALE; one that fails a check of Table
FIX-4 ends FAILED with that status; one whose base epoch has been delivered is solved with it, and one whose base
epoch came late or is out is solved without. A search started within SEARCH_WAIT of its update that accepts a set
fixes its ambiguities and finishes with its ratio; one that accepts none finishes with the last ratio, counted where
the node limit ended it; one not started in SEARCH_WAIT is skipped. A search runs with the parameters its epoch
started with. -/
def Obligations.FixEpochsComplete : Prop :=
  /- FIX_SOLVE, stale -/
  (∀ (s : State) (t : Nat) (id : Nat) (sol : FixSol) (e : Entry) (ws : List (BitVec 64)),
    (s.to t).entryOf? id = some e →
    Sp.find (s.to t).fix.obs id = some ws →
    e.place = .at_ .fix →
    (s.to t).runs 6 blkSolver = true →
    (s.to t).fix.searches.any (fun v => v.item.id == id) = false →
    (s.to t).laterObs e.item = true →
    exec (.fixSolve t id sol) s = .next ((((s.to t).count Reg.FIX_CNT_STALE).setFlag B.FIX_STS_STALE true).endEpoch
      e.item 6 noCell .done .stale 0)) ∧
  /- FIX_SOLVE, a failed check -/
  (∀ (s : State) (t : Nat) (id : Nat) (sol : FixSol) (e : Entry) (ws : List (BitVec 64)) (st : Status),
    (s.to t).entryOf? id = some e →
    Sp.find (s.to t).fix.obs id = some ws →
    e.place = .at_ .fix →
    (s.to t).runs 6 blkSolver = true →
    (s.to t).fix.searches.any (fun v => v.item.id == id) = false →
    (s.to t).laterObs e.item = false →
    (s.to t).obsCheck e.item.ctx (obsSlotEnd ws) (obsReport ws) = some st →
    exec (.fixSolve t id sol) s = .next ((s.to t).endEpoch e.item 6 noCell st .failed 0)) ∧
  /- FIX_SOLVE with the base epoch -/
  (∀ (s : State) (t : Nat) (id : Nat) (sol : FixSol) (e : Entry) (ws : List (BitVec 64)) (b : BaseItem),
    (s.to t).entryOf? id = some e →
    Sp.find (s.to t).fix.obs id = some ws →
    e.place = .at_ .fix →
    (s.to t).runs 6 blkSolver = true →
    (s.to t).fix.searches.any (fun v => v.item.id == id) = false →
    (s.to t).laterObs e.item = false →
    (s.to t).obsCheck e.item.ctx (obsSlotEnd ws) (obsReport ws) = none →
    (s.to t).baseItem? (obsReport ws).epoch.toNat = some b →
    exec (.fixSolve t id sol) s = .next ((s.to t).solve e.item (obsReport ws) (some b) sol)) ∧
  /- FIX_SOLVE under a base outage -/
  (∀ (s : State) (t : Nat) (id : Nat) (sol : FixSol) (e : Entry) (ws : List (BitVec 64)),
    (s.to t).entryOf? id = some e →
    Sp.find (s.to t).fix.obs id = some ws →
    e.place = .at_ .fix →
    (s.to t).runs 6 blkSolver = true →
    (s.to t).fix.searches.any (fun v => v.item.id == id) = false →
    (s.to t).laterObs e.item = false →
    (s.to t).obsCheck e.item.ctx (obsSlotEnd ws) (obsReport ws) = none →
    (s.to t).baseItem? (obsReport ws).epoch.toNat = none →
    ((s.to t).fix.late.contains (obsReport ws).epoch.toNat || (s.to t).fix.missing.any (fun m => decide ((obsReport
      ws).epoch.toNat ≤ m))) = true →
    exec (.fixSolve t id sol) s = .next ((s.to t).solve e.item (obsReport ws) none sol)) ∧
  /- AMBIGUITY_SEARCH on a free unit -/
  (∀ (s : State) (t : Nat) (ctx : BitVec 8) (attempts : List Attempt) (v : Solving),
    ((s.to t).liveSearches.take ((s.to t).get B.FIX_CAP_UNITS)).find? (fun v => v.item.ctx == ctx.toNat) = some v →
    (s.to t).runs 6 blkSearch = true →
    exec (.ambiguitySearch t ctx attempts) s = .next ((s.to t).under v.live (fun s => s.search v attempts))) ∧
  /- AMBIGUITY_SEARCH that accepts a set -/
  (∀ (s : State) (t : Nat) (ctx : BitVec 8) (attempts : List Attempt) (v : Solving) (l : List (Nat × Int)) (q : Found)
    (x : FixCtx) (w : State),
    w = (s.to t).withLive v.live →
    x = w.fixCtx v.item.ctx →
    ((s.to t).liveSearches.take ((s.to t).get B.FIX_CAP_UNITS)).find? (fun v => v.item.ctx == ctx.toNat) = some v →
    (s.to t).runs 6 blkSearch = true →
    w.mayStart v = true →
    w.searchSet x.work.g x.work.floats (w.param P.PAR_DROP) (w.param P.MIN_FIX - x.work.nfix) (w.param P.SEARCH_NODES)
      attempts = some q →
    q.set = some l →
    exec (.ambiguitySearch t ctx attempts) s = .next (((w.setFixCtx v.item.ctx (x.setWork (x.work.fix l))).finishSolve
      { v with flags := withFlag v.flags 8 (l.length != x.work.floats.length), ratio := q.ratio }).withLive
      (s.to t).live)) ∧
  /- AMBIGUITY_SEARCH that accepts none -/
  (∀ (s : State) (t : Nat) (ctx : BitVec 8) (attempts : List Attempt) (v : Solving) (q : Found) (x : FixCtx) (w :
    State),
    w = (s.to t).withLive v.live →
    x = w.fixCtx v.item.ctx →
    ((s.to t).liveSearches.take ((s.to t).get B.FIX_CAP_UNITS)).find? (fun v => v.item.ctx == ctx.toNat) = some v →
    (s.to t).runs 6 blkSearch = true →
    w.mayStart v = true →
    w.searchSet x.work.g x.work.floats (w.param P.PAR_DROP) (w.param P.MIN_FIX - x.work.nfix) (w.param P.SEARCH_NODES)
      attempts = some q →
    q.set = none →
    exec (.ambiguitySearch t ctx attempts) s = .next (((if q.cap then w.count Reg.FIX_CNT_NODECAP else w).finishSolve
      { v with flags := withFlag v.flags 10 q.cap, ratio := q.ratio }).withLive (s.to t).live)) ∧
  /- SEARCH_WAIT_EXPIRY -/
  (∀ (s : State) (t : Nat) (ctx : BitVec 8) (v : Solving),
    (s.to t).liveSearches.find? (fun v => v.item.ctx == ctx.toNat) = some v →
    ((s.to t).withLive v.live).mayStart v = false →
    ((s.to t).withLive v.live).runs 6 blkSolver = true →
    exec (.searchWaitExpiry t ctx) s = .next (((((s.to t).withLive v.live).count Reg.FIX_CNT_SKIP).finishSolve { v
      with flags := withFlag v.flags 7 true }).withLive (s.to t).live))

/-- Where their checks pass: RESET_CTX takes a context's filter to NONE and returns the state it had; READ_CTX returns
words 1, 4 and 7 of its last record; REINIT with no context selected completes DONE, and with some begins a long
operation of as many units. -/
def Obligations.FixOperationsComplete : Prop :=
  /- RESET_CTX -/
  (∀ (s : State) (t : Nat) (it : Item) (late : Bool),
    (s.to t).goes 6 it { Checks.pass with range := it.ctx != 0, state := (s.to t).joined it.ctx } late = true →
    exec (.resetCtx t it) s = .next ((((s.to t).unwait it.id).resetFilter it.ctx).finish (it.acting late) 6 .done
      ⟨((s.to t).unwait it.id).lastState it.ctx, 0, 0⟩)) ∧
  /- READ_CTX -/
  (∀ (s : State) (t : Nat) (it : Item) (late : Bool),
    (s.to t).goes 6 it { Checks.pass with range := it.ctx != 0, state := (s.to t).joined it.ctx } late = true →
    exec (.readCtx t it) s = .next (((s.to t).unwait it.id).finish (it.acting late) 6 .done ⟨((((((s.to t).unwait
      it.id).fixCtx it.ctx).last.getD (noneRec it.ctx)).words)[1]?.getD 0).toNat, ((((((s.to t).unwait it.id).fixCtx
      it.ctx).last.getD (noneRec it.ctx)).words)[4]?.getD 0).toNat, ((((((s.to t).unwait it.id).fixCtx
      it.ctx).last.getD (noneRec it.ctx)).words)[7]?.getD 0).toNat⟩)) ∧
  /- REINIT that selects no context -/
  (∀ (s : State) (t : Nat) (it : Item) (mask : List Byte) (late : Bool),
    (s.to t).goes 6 it { Checks.pass with
        range := it.d.context == 0 && ((it.d.ptr == 0 && it.d.len == 0) || it.d.len == 32), state :=
          (s.to t).fix.reinit.isNone } late = true →
    (((s.to t).unwait it.id).joinedCtx.filter (reinitMask it.d mask)).isEmpty = true →
    exec (.reinit t it mask) s = .next (((s.to t).unwait it.id).finish (it.acting late) 6 .done)) ∧
  /- REINIT that selects some -/
  (∀ (s : State) (t : Nat) (it : Item) (mask : List Byte) (late : Bool),
    (s.to t).goes 6 it { Checks.pass with
        range := it.d.context == 0 && ((it.d.ptr == 0 && it.d.len == 0) || it.d.len == 32), state :=
          (s.to t).fix.reinit.isNone } late = true →
    (((s.to t).unwait it.id).joinedCtx.filter (reinitMask it.d mask)).isEmpty = false →
    exec (.reinit t it mask) s = .next (({ (((s.to t).unwait it.id).startLong (it.acting late) 6 (((s.to t).unwait
      it.id).joinedCtx.filter (reinitMask it.d mask)).length 0) with
        fix := { (((s.to t).unwait it.id).startLong (it.acting late) 6 (((s.to t).unwait it.id).joinedCtx.filter
          (reinitMask it.d mask)).length 0).fix with
            reinit := some ⟨it.handle.1, it.handle.2, argBit it.d.arg0 0, (((s.to t).unwait it.id).joinedCtx.filter
              (reinitMask it.d mask)), [], 0, 0⟩ } } : State).setFlag B.FIX_STS_REINIT_ACTIVE true))

/-- A SUSPECT satellite clean for SV_CLEAR_S of base epochs returns; a write of the command register returns them all.
The C/N0 drop of the base and of FLEET_N contexts on a band sets INTERFERENCE, and INTERF_HOLD without a condition
ends it with an event. SPOOF_SUSPECT is cleared where no test failed for SPOOF_CLEAN_S, else CLEAR_REJ is set. An
input gap posts an event when it begins and when it ends, and the sixtieth second in succession over REF_MON_MAX
posts the reference monitor's event. -/
def Obligations.IntegrityCommandsComplete : Prop :=
  /- SV_SUSPECT_CLEAR -/
  (∀ (s : State) (t : Nat) (sat : Fin 192) (p : Nat × Nat) (q : BaseItem),
    (s.to t).gnb.history.getLast? = some q →
    (s.to t).fix.clean.find? (fun p => p.1 == sat.val) = some p →
    (s.to t).suspect sat.val = true →
    p.2 + (s.to t).param P.SV_CLEAR_S * 10 ^ 9 ≤ q.epoch →
    exec (.svSuspectClear t sat) s = .next ((s.to t).clearSuspect sat.val)) ∧
  /- INTERFERENCE_CHANGE, a drop of the fleet -/
  (∀ (s : State) (t : Nat),
    (s.to t).runs 6 blkSolver = true →
    (s.to t).cn0Falls = true →
    exec (.interferenceChange t) s = .next (s.to t).interfere) ∧
  /- INTERFERENCE_CHANGE, the end of the hold -/
  (∀ (s : State) (t : Nat),
    (s.to t).runs 6 blkSolver = true →
    (s.to t).cn0Falls = false →
    (s.to t).flag B.FIX_INTEG_STS_INTERFERENCE = true →
    (s.to t).fix.interfAt + (s.to t).param P.INTERF_HOLD * cycS ≤ (s.to t).cyc →
    exec (.interferenceChange t) s = .next (((s.to t).setFlag B.FIX_INTEG_STS_INTERFERENCE false).integEvent 3 0 0)) ∧
  /- SPOOF_CLEAR that is granted -/
  (∀ (s : State) (t : Nat) (rq : Requester) (c : Nat),
    (s.to t).reaches rq Reg.FIX_INTEG_CMD = true →
    ((s.to t).reached rq Reg.FIX_INTEG_CMD true).flag B.FIX_INTEG_STS_SPOOF_SUSPECT = true →
    ((s.to t).reached rq Reg.FIX_INTEG_CMD true).fix.failedAt = some c →
    c + ((s.to t).reached rq Reg.FIX_INTEG_CMD true).param P.SPOOF_CLEAN_S * 10 ^ 9 ≤ ((s.to t).reached rq
      Reg.FIX_INTEG_CMD true).devNs →
    exec (.spoofClear t rq) s = .next (({ (((((s.to t).reached rq Reg.FIX_INTEG_CMD true).setFlag
      B.FIX_INTEG_STS_SPOOF_SUSPECT false).set B.FIX_INTEG_STS_SPOOF_CAUSE 0).setFlag B.TIM_SRC_STS_EXCL_SPOOF false)
      with
        fix := { (((((s.to t).reached rq Reg.FIX_INTEG_CMD true).setFlag B.FIX_INTEG_STS_SPOOF_SUSPECT false).set
          B.FIX_INTEG_STS_SPOOF_CAUSE 0).setFlag B.TIM_SRC_STS_EXCL_SPOOF false).fix with anchors := [] } } :
      State).integEvent 5 0 0)) ∧
  /- SPOOF_CLEAR that is refused -/
  (∀ (s : State) (t : Nat) (rq : Requester) (c : Nat),
    (s.to t).reaches rq Reg.FIX_INTEG_CMD = true →
    ((s.to t).reached rq Reg.FIX_INTEG_CMD true).flag B.FIX_INTEG_STS_SPOOF_SUSPECT = true →
    ((s.to t).reached rq Reg.FIX_INTEG_CMD true).fix.failedAt = some c →
    ((s.to t).reached rq Reg.FIX_INTEG_CMD true).devNs < c + ((s.to t).reached rq Reg.FIX_INTEG_CMD true).param
      P.SPOOF_CLEAN_S * 10 ^ 9 →
    exec (.spoofClear t rq) s = .next (((s.to t).reached rq Reg.FIX_INTEG_CMD true).setFlag B.FIX_INTEG_STS_CLEAR_REJ
      true)) ∧
  /- SV_CLEAR_ALL -/
  (∀ (s : State) (t : Nat) (rq : Requester),
    (s.to t).reaches rq Reg.FIX_INTEG_CMD = true →
    exec (.svClearAll t rq) s = .next (((s.to t).reached rq Reg.FIX_INTEG_CMD true).suspects.foldl (fun s sat =>
      s.clearSuspect sat) ((s.to t).reached rq Reg.FIX_INTEG_CMD true))) ∧
  /- RTCM_INPUT_GAP, the gap begins -/
  (∀ (s : State) (t : Nat) (frames : List (List Byte)) (v : State),
    (s.to t).param P.IN_UDP_PORT ≠ 0 →
    (s.to t).rtcmIns frames = (v, false) →
    v.fix.inGap = false →
    v.fix.inputAt + v.param P.INPUT_GAP * cycS ≤ v.cyc →
    exec (.rtcmInputGap t frames) s = .next (({ v with
        fix := { v.fix with inGap := true, inputOn := false, station := none, stationPos := none } } :
      State).freeEvent (some .rtcm) 6)) ∧
  /- RTCM_INPUT_GAP, the gap ends -/
  (∀ (s : State) (t : Nat) (frames : List (List Byte)) (v : State),
    (s.to t).param P.IN_UDP_PORT ≠ 0 →
    (s.to t).rtcmIns frames = (v, true) →
    v.fix.inGap = true →
    exec (.rtcmInputGap t frames) s = .next (({ v with
        fix := { v.fix with inputAt := v.cyc, inGap := false, inputOn := true } } : State).freeEvent (some .rtcm) 6)) ∧
  /- REF_MONITOR, the sixtieth second over the limit -/
  (∀ (s : State) (t : Nat) (base : Int × Int × Int),
    ((s.to t).devNs / 10 ^ 9) = (s.to t).fix.monSec + 1 →
    (s.to t).param P.REF_STS % 2 = 1 →
    (s.to t).fix.inputOn = true →
    (s.to t).param P.IN_UDP_PORT ≠ 0 →
    (s.to t).refAway base = true →
    (s.to t).fix.monRun = 59 →
    exec (.refMonitor t base) s = .next (({ (s.to t) with
        fix := { (s.to t).fix with monRun := 60, monSec := ((s.to t).devNs / 10 ^ 9) } } : State).integEvent 6 0 0)) ∧
  /- REF_MONITOR, a second within the limit -/
  (∀ (s : State) (t : Nat) (base : Int × Int × Int),
    ((s.to t).devNs / 10 ^ 9) ≠ (s.to t).fix.monSec →
    (s.to t).refAway base = false →
    exec (.refMonitor t base) s = .next { (s.to t) with
        fix := { (s.to t).fix with monRun := 0, monSec := ((s.to t).devNs / 10 ^ 9) } })

/-- An epoch item at GAIT without a position ends NO_FIX; one whose launch and goal the rules allow goes on to PAD
with the profile that GAIT builds. The knot packer packs the committed plan's bytes and passes the item on to AIR,
where its plan is numbered, queued for the next downlink slot and the item ends NEW_PLAN. A clamped limit applies at
its tick. -/
def Obligations.ReplansAndPackingComplete : Prop :=
  /- REPLAN without a position -/
  (∀ (s : State) (t : Nat) (id : Nat) (e : Entry),
    (s.to t).entryOf? id = some e →
    e.place = .at_ .gait →
    (s.to t).runs 8 blkPlanner = true →
    e.item.obs = true →
    (s.to t).targetOpen e.item e.flow = false →
    (s.to t).get B.GAIT_STS_LANES ≠ 0 →
    (s.to t).fixPoint e.item.ctx = none →
    exec (.gaitReplan t id) s = .next ((s.to t).endReplan e.item .noFix)) ∧
  /- REPLAN that goes on to PAD -/
  (∀ (s : State) (t : Nat) (id : Nat) (e : Entry) (r : FixRec) (a : Aim) (l : Limits) (tick : Int) (w : Launch) (qs :
    List Knot) (short : Bool) (v : State) (x : GaitCtx) (g : Goal),
    (s.to t).entryOf? id = some e →
    e.place = .at_ .gait →
    (s.to t).runs 8 blkPlanner = true →
    e.item.obs = true →
    (s.to t).targetOpen e.item e.flow = false →
    (s.to t).get B.GAIT_STS_LANES ≠ 0 →
    (s.to t).fixPoint e.item.ctx = some r →
    v = (s.to t).ackPlan e.item.ctx r →
    x = v.gaitCtx e.item.ctx →
    g = goalOf true a l w.kin →
    x.aim (Sp.find v.gait.asked e.item.id) = some a →
    x.limits = some l →
    v.switchTick e.item.ctx = some tick →
    v.launch x a.tr r a.near (v.tickStart tick).toNat = some w →
    x.datumOver r = false →
    w.cross ≤ v.param P.XTRACK_MAX →
    g.refuse = false →
    g.behind = false →
    w.dev = false →
    v.profile e.item.ctx a l w.kin g.goal (w.kin.stopMm l.dMax l.jMax) g.turn = (qs, short) →
    exec (.gaitReplan t id) s = .next (v.toSweep e.item x a w.kin (v.tickStart tick).toNat tick g.goal g.hold qs
      short)) ∧
  /- KNOT_PACK -/
  (∀ (s : State) (t : Nat) (id : Nat) (e : Entry) (d : Draft) (f : Draft),
    (s.to t).entryOf? id = some e →
    Sp.find (s.to t).gait.drafts id = some d →
    e.place = .at_ .pack →
    (s.to t).runs 8 blkPacker = true →
    f = { d with packed := d.plan.bytes } →
    exec (.knotPack t id) s = .next (({ (s.to t) with
        gait := { (s.to t).gait with drafts := Sp.put (s.to t).gait.drafts id f } } : State).passOn e.item .air)) ∧
  /- The plan of an epoch item is handed over -/
  (∀ (s : State) (t : Nat) (it : Item) (d : Draft) (p : Plan) (v w : State),
    Sp.find (s.to t).gait.drafts it.id = some d →
    it.obs = true →
    p = { d.plan with seq := (((s.to t).gaitCtx it.ctx).seq + 1) % 2 ^ 16 } →
    v = (s.to t).gaitHanded it.ctx p →
    w = v.setAirCtx it.ctx ((v.airCtx it.ctx).takePlan ⟨leBytes 2 p.seq ++ d.packed.drop 2, v.devNs, false⟩) →
    (s.to t).handOver it = (({ w with gait := { w.gait with drafts := Sp.drop w.gait.drafts it.id } } :
      State).mirrorSend (.gait it.ctx)).endEpoch it 9 noCell .done .newPlan 0) ∧
  /- LIMIT_TAKEOVER -/
  (∀ (s : State) (t : Nat) (ctx : BitVec 8) (d j tick : Nat) (l : Limits),
    ((s.to t).gaitCtx ctx.toNat).lowered = some (d, j, tick) →
    ((s.to t).gaitCtx ctx.toNat).limits = some l →
    idxDiff (s.to t).tickAbs tick < 2 ^ 31 →
    exec (.limitTakeover t ctx) s = .next ((s.to t).setGaitCtx ctx.toNat { ((s.to t).gaitCtx ctx.toNat) with
        limits := some { l with dMax := d, jMax := j }, lowered := none }))

/-- Where their checks pass, SET_TRACK, RETARGET and DATUM_RUN hand their request to the planner, which their item
then waits for. SET_LIMITS takes effect at once where nothing is followed or the new deceleration is not weaker; a
lowered one that would leave the track applies at the end of the ramp, DONE_CLAMPED. -/
def Obligations.GaitOperationsComplete : Prop :=
  /- SET_TRACK -/
  (∀ (s : State) (t : Nat) (it : Item) (raw : List Byte) (rec_ : TrackRec) (late : Bool),
    TrackRec.ofBytes raw = rec_ →
    (s.to t).goes 8 it { Checks.pass with
        range := it.d.context != 0 && rec_.legal it.d.len.toNat && (s.to t).trackInGrid rec_.track && (argBits
          it.d.arg0 31 0) ≤ rec_.track.lenMm && (argBits it.d.arg1 31 0) ≤ rec_.track.lenMm, state := (s.to t).joined
          it.ctx && ((s.to t).gaitCtx it.ctx).datum.isNone && (s.to t).joinsTrack it.ctx rec_.track (argBits it.d.arg0
          31 0) } late = true →
    exec (.setTrack t it raw) s = .next (((s.to t).unwait it.id).ask (it.acting late) (.track rec_.track (argBits
      it.d.arg0 31 0) (argBits it.d.arg1 31 0)))) ∧
  /- RETARGET -/
  (∀ (s : State) (t : Nat) (it : Item) (late : Bool),
    (s.to t).goes 8 it { Checks.pass with
        range := it.d.context != 0 && ((argBit it.d.arg0 32) || (s.to t).onTrack it.ctx (signed 32 (argBits it.d.arg0
          31 0))), state := (s.to t).joined it.ctx && ((s.to t).gaitCtx it.ctx).datum.isNone } late = true →
    exec (.gaitRetarget t it) s = .next (((s.to t).unwait it.id).ask (it.acting late) (if (argBit it.d.arg0 32) then
      .stop else .target (signed 32 (argBits it.d.arg0 31 0))))) ∧
  /- DATUM_RUN -/
  (∀ (s : State) (t : Nat) (it : Item) (late : Bool) (stopAt sFix v : Int) (l : Limits),
    (s.to t).goes 8 it { Checks.pass with
        range := it.d.context != 0 && (s.to t).datumRange it.d, state := (s.to t).joined it.ctx && ((s.to t).gaitCtx
          it.ctx).datum.isNone && ((s.to t).gaitCtx it.ctx).limits.isSome && (s.to t).datumSlow it.d } late = true →
    ((s.to t).unwait it.id).datumEnd it.d = some (stopAt, sFix, v) →
    (((s.to t).unwait it.id).gaitCtx it.ctx).limits = some l →
    exec (.datumRun t it) s = .next (((s.to t).unwait it.id).ask (it.acting late) (.datum stopAt (if (argBits
      it.d.arg1 15 0) = 0 then l.creep else (argBits it.d.arg1 15 0))))) ∧
  /- SET_LIMITS of a context that follows no plan -/
  (∀ (s : State) (t : Nat) (it : Item) (late : Bool),
    (s.to t).goes 8 it { Checks.pass with
        range := it.d.context != 0 && (limitsOf it.d).legal, state := (s.to t).joined it.ctx } late = true →
    (((s.to t).unwait it.id).gaitCtx it.ctx).limits = none →
    exec (.setLimits t it) s = .next (((((s.to t).unwait it.id).setGaitCtx it.ctx { (((s.to t).unwait it.id).gaitCtx
      it.ctx) with limits := some (limitsOf it.d), lowered := none }).mirrorSend (.gait it.ctx)).finish (it.acting
      late) 8 .done)) ∧
  /- SET_LIMITS that is clamped -/
  (∀ (s : State) (t : Nat) (it : Item) (late : Bool) (old : Limits) (tr : Track) (r : FixRec) (p : Plan),
    (s.to t).goes 8 it { Checks.pass with
        range := it.d.context != 0 && (limitsOf it.d).legal, state := (s.to t).joined it.ctx } late = true →
    (((s.to t).unwait it.id).gaitCtx it.ctx).limits = some old →
    (((s.to t).unwait it.id).gaitCtx it.ctx).track = some tr →
    ((s.to t).unwait it.id).fixPoint it.ctx = some r →
    (((s.to t).unwait it.id).gaitCtx it.ctx).followed r = some p →
    ¬ ((old.dMax ≤ (limitsOf it.d).dMax ∧ old.jMax ≤ (limitsOf it.d).jMax) ∨ stopsOnTrack tr (p.at_ ((s.to t).unwait
      it.id).devNs) (limitsOf it.d).dMax (limitsOf it.d).jMax = true) →
    exec (.setLimits t it) s = .next ((((((s.to t).unwait it.id).setGaitCtx it.ctx ({ (((s.to t).unwait it.id).gaitCtx
      it.ctx) with
        limits := some { (limitsOf it.d) with
            dMax := (max old.dMax (limitsOf it.d).dMax), jMax := (max old.jMax (limitsOf it.d).jMax) }, lowered :=
          some ((limitsOf it.d).dMax, (limitsOf it.d).jMax, ((((s.to t).unwait it.id).tickFrom ((rampEnd (Kin.ofMm
          p.s0 p.v0 p.a0) p.knots p.t0 ((s.to t).unwait it.id).devNs none).getD ((s.to t).unwait it.id).devNs) % 2 ^
          32).toNat)) })).mirrorSend (.gait it.ctx)).count Reg.GAIT_CNT_CLAMP).finish (it.acting late) 8 .doneClamped
      ⟨(limitsOf it.d).dMax + (limitsOf it.d).jMax * 2 ^ 16, (max old.dMax (limitsOf it.d).dMax) + (max old.jMax
      (limitsOf it.d).jMax) * 2 ^ 16, ((((s.to t).unwait it.id).tickFrom ((rampEnd (Kin.ofMm p.s0 p.v0 p.a0) p.knots
      p.t0 ((s.to t).unwait it.id).devNs none).getD ((s.to t).unwait it.id).devNs) % 2 ^ 32).toNat) % 16384⟩))

/-- Where their checks pass: COMMIT takes its turn for a sweep place; WHAT_IF evaluates its candidates, writes their
records and completes with the best; SET_SHAPE sets the shape. RELEASE and SET_HOLD ask for the locks of their tiles
and, once they hold them, RELEASE frees the context's slots and returns how many it held, SET_HOLD writes HOLD of
every cell of its rectangle. RELEASE and SET_SHAPE go to the mirror. MAP_IMPORT and MAP_EXPORT begin their long
operations; READ_CELL returns the cell word. A cell word that fails is repaired and the operation ends FAIL_POISON.
-/
def Obligations.PadOperationsComplete : Prop :=
  /- COMMIT -/
  (∀ (s : State) (t : Nat) (it : Item) (raw : List Byte) (req : SweepReq) (late : Bool),
    SweepReq.ofBytes raw = req →
    (s.to t).causeBefore req (some it.d.len.toNat) = 0 →
    (s.to t).goes 7 it { Checks.pass with range := it.d.context != 0, state := (s.to t).sweepState it.ctx true } late
      = true →
    ((s.to t).unwait it.id).causeBefore req (some it.d.len.toNat) = 0 →
    ((s.to t).unwait it.id).sweepState it.ctx true = true →
    exec (.padCommit t it raw) s = .next ({ ((s.to t).unwait it.id) with
        pad := { ((s.to t).unwait it.id).pad with
            sweeps := ((s.to t).unwait it.id).pad.sweeps ++ [Sweep.mk (it.acting late) req ((s.to t).unwait
              it.id).live] } } : State).seatSweeps) ∧
  /- WHAT_IF -/
  (∀ (s : State) (t : Nat) (it : Item) (raw : List Byte) (cands : List SweepReq) (late : Bool) (g : PadGeom) (sh :
    Shape),
    candsOf (leAt raw 0 1) (raw.drop 16) = cands →
    (s.to t).goes 7 it { Checks.pass with
        range := it.d.context != 0 && 1 ≤ leAt raw 0 1 && leAt raw 0 1 ≤ 16 && (16 + (cands.map (fun q => 16 + 12 *
          q.nsamp.toNat)).sum) ≤ it.d.len.toNat, state := (s.to t).sweepState it.ctx true } late = true →
    ((s.to t).unwait it.id).pad.geom = some g →
    Sp.find ((s.to t).unwait it.id).pad.shapes it.ctx = some sh →
    exec (.whatIf t it raw none) s = .next (((s.to t).unwait it.id).answerGuesses (it.acting late) g sh cands)) ∧
  /- WHAT_IF, a cell word that fails -/
  (∀ (s : State) (t : Nat) (it : Item) (raw : List Byte) (cands : List SweepReq) (bad : BadCell) (o : Nat × Nat) (late
    : Bool) (g : PadGeom) (sh : Shape),
    candsOf (leAt raw 0 1) (raw.drop 16) = cands →
    (s.to t).goes 7 it { Checks.pass with
        range := it.d.context != 0 && 1 ≤ leAt raw 0 1 && leAt raw 0 1 ≤ 16 && (16 + (cands.map (fun q => 16 + 12 *
          q.nsamp.toNat)).sum) ≤ it.d.len.toNat, state := (s.to t).sweepState it.ctx true } late = true →
    ((s.to t).unwait it.id).pad.geom = some g →
    Sp.find ((s.to t).unwait it.id).pad.shapes it.ctx = some sh →
    ((s.to t).unwait it.id).badSeen bad = some o →
    exec (.whatIf t it raw (some bad)) s = .next ((((s.to t).unwait it.id).repairCell bad).finishAt (it.acting late)
      o.1 o.2 .failPoison Res.zero)) ∧
  /- RELEASE with its locks -/
  (∀ (s : State) (t : Nat) (it : Item) (late : Bool) (v w : State),
    (s.to t).goes 7 it { Checks.pass with range := it.d.context != 0, state := (s.to t).sweepState it.ctx false } late
      = true →
    v = (s.to t).unwait it.id →
    v.pad.waits = [] →
    w = { v.askLocks (.item it.id) (v.waitTiles (it.acting late)) with
        pad := { (v.askLocks (.item it.id) (v.waitTiles (it.acting late))).pad with
            waits := [PadWait.mk (it.acting late) none] } } →
    (v.askLocks (.item it.id) (v.waitTiles (it.acting late))).pad.waits = [] →
    w.holdsLocks (.item it.id) = true →
    exec (.padRelease t it none) s = .next (w.actWait ⟨(it.acting late), none⟩)) ∧
  /- SET_HOLD with its locks -/
  (∀ (s : State) (t : Nat) (it : Item) (late : Bool) (v w : State),
    (s.to t).goes 7 it { Checks.pass with
        range := it.d.context == 0 && (s.to t).holdRange it.d, state := (s.to t).mapValid && !(s.to t).fullImport }
      late = true →
    v = (s.to t).unwait it.id →
    v.pad.waits = [] →
    w = { v.askLocks (.item it.id) (v.waitTiles (it.acting late)) with
        pad := { (v.askLocks (.item it.id) (v.waitTiles (it.acting late))).pad with
            waits := [PadWait.mk (it.acting late) none] } } →
    (v.askLocks (.item it.id) (v.waitTiles (it.acting late))).pad.waits = [] →
    w.holdsLocks (.item it.id) = true →
    exec (.setHold t it none) s = .next (w.actWait ⟨(it.acting late), none⟩)) ∧
  /- A RELEASE acts -/
  (∀ (s : State) (t : Nat) (it : Item) (x : State),
    it.d.opcode ≠ 0x7003 →
    x = { (s.to t) with
        pad := { (s.to t).pad with waits := (s.to t).pad.waits.filter (fun y => y.item.id != it.id) } } →
    (s.to t).actWait ⟨it, none⟩ = (((x.waitTiles it).foldl (fun (s : State) t => s.useTile t) x).releaseCells
      it).leaveLocks (fun l => l == .item it.id)) ∧
  /- The slots of a RELEASE are freed -/
  (∀ (s : State) (t : Nat) (it : Item) (w : State),
    w = (s.to t).padFree it.ctx →
    (s.to t).releaseCells it = (w.mirror it.ctx w.tickNow 0 ((((s.to t).slotCells it.ctx (fun _ => true)).map
      Prod.fst)).length (w.cellsCrc (((s.to t).slotCells it.ctx (fun _ => true)).map Prod.fst)) 0 .release).finish it
      7 .done ⟨(s.to t).heldSlots it.ctx, 0, 0⟩) ∧
  /- A SET_HOLD acts -/
  (∀ (s : State) (t : Nat) (it : Item) (x : State),
    it.d.opcode = 0x7003 →
    x = { (s.to t) with
        pad := { (s.to t).pad with waits := (s.to t).pad.waits.filter (fun y => y.item.id != it.id) } } →
    (s.to t).actWait ⟨it, none⟩ = (((x.waitTiles it).foldl (fun (s : State) t => s.useTile t) x).holdCells
      it).leaveLocks (fun l => l == .item it.id)) ∧
  /- The cells of a SET_HOLD are written -/
  (∀ (s : State) (t : Nat) (it : Item),
    (s.to t).holdCells it = (((s.to t).holdKeys it.d).foldl (fun (s : State) (k : Nat) => s.setHalves (k / 4096)
      (mapRuns (fun h => withHold h (argBit it.d.arg1 0)) (k % 4096) 1 (s.halvesOf (k / 4096)))) (s.to t)).finish it 7
      .done ⟨((((s.to t).holdKeys it.d).filter (fun k => halfHold ((s.to t).halfAt k) != (argBit it.d.arg1
      0))).length), ((((s.to t).holdKeys it.d).filter (fun k => ((s.to t).slotsOf k).list.any ((s.to t).liveIn (k /
      4096)))).length), 0⟩) ∧
  /- SET_SHAPE -/
  (∀ (s : State) (t : Nat) (it : Item) (raw : List Byte) (x : ShapeRec) (late : Bool),
    ShapeRec.ofBytes raw = x →
    (s.to t).goes 7 it { Checks.pass with
        range := it.d.context != 0 && it.d.len == 40 && x.legal, state := (s.to t).sweepState it.ctx false } late =
      true →
    exec (.setShape t it raw) s = .next (((((s.to t).unwait it.id).setShape it.ctx x).mirror it.ctx (((s.to t).unwait
      it.id).setShape it.ctx x).tickNow 0 0 0 0 (.shape x)).finish (it.acting late) 7 .done)) ∧
  /- MAP_IMPORT -/
  (∀ (s : State) (t : Nat) (it : Item) (raw : List Byte) (hashOk : Bool) (file : PadFile) (late : Bool),
    PadFile.ofBytes raw hashOk = file →
    (s.to t).goes 7 it ((s.to t).importChecks it.d file) late = true →
    exec (.mapImport t it raw hashOk) s = .next (({ (((s.to t).unwait it.id).startLong (it.acting late) 7 (if (argBit
      it.d.arg0 0) then 2 * file.recs.length else file.recs.length + 1) 0) with
        pad := { (((s.to t).unwait it.id).startLong (it.acting late) 7 (if (argBit it.d.arg0 0) then 2 *
          file.recs.length else file.recs.length + 1) 0).pad with
            importing := some ⟨it.handle.1, it.handle.2, (argBit it.d.arg0 0), file, 0⟩ } } : State).setFlag
      B.PAD_STS_IMPORT_ACTIVE true)) ∧
  /- MAP_EXPORT -/
  (∀ (s : State) (t : Nat) (it : Item) (late : Bool) (g : PadGeom),
    (s.to t).goes 7 it { Checks.pass with
        range := it.d.context == 0 && (s.to t).exportFits it.d, state := (s.to t).mapValid } late = true →
    ((s.to t).unwait it.id).pad.geom = some g →
    exec (.mapExport t it) s = .next { (((s.to t).unwait it.id).startLong (it.acting late) 7 g.tiles 0) with
        pad := { (((s.to t).unwait it.id).startLong (it.acting late) 7 g.tiles 0).pad with
            exports := (((s.to t).unwait it.id).startLong (it.acting late) 7 g.tiles 0).pad.exports ++ [⟨it.handle.1,
              it.handle.2, (argBit it.d.arg0 0), 0, 0⟩] } }) ∧
  /- READ_CELL -/
  (∀ (s : State) (t : Nat) (it : Item) (late : Bool) (g : PadGeom),
    (s.to t).goes 7 it { Checks.pass with
        range := it.d.context == 0 && (s.to t).cellNamed it.d, state := (s.to t).mapValid } late = true →
    ((s.to t).unwait it.id).pad.geom = some g →
    exec (.readCell t it false) s = .next ((((s.to t).unwait it.id).groomAged ((g.key (((argBits it.d.arg0 15 0 : Nat)
      : Int), ((argBits it.d.arg0 31 16 : Nat) : Int))) / 4096)).finish (it.acting late) 7 .done ⟨(((s.to t).unwait
      it.id).groomAged ((g.key (((argBits it.d.arg0 15 0 : Nat) : Int), ((argBits it.d.arg0 31 16 : Nat) : Int))) /
      4096)).cellWord (g.key (((argBits it.d.arg0 15 0 : Nat) : Int), ((argBits it.d.arg0 31 16 : Nat) : Int))) % 2 ^
      64, (((s.to t).unwait it.id).groomAged ((g.key (((argBits it.d.arg0 15 0 : Nat) : Int), ((argBits it.d.arg0 31
      16 : Nat) : Int))) / 4096)).cellWord (g.key (((argBits it.d.arg0 15 0 : Nat) : Int), ((argBits it.d.arg0 31 16 :
      Nat) : Int))) / 2 ^ 64, 0⟩))

/-- A sweep with its locks runs on the tiles it has locked: where it finds no cause and no conflict it writes its
cells between the opening and the closing of its journal entry, mirrors them and commits; one that finds a conflict
ends REJ_CONFLICT with it; one whose cell word fails ends FAIL_POISON with the cell repaired. PAD_TICK_ABS follows
the tick; once a period the groom block begins a pass and visits the next tile under its lock; parked ground is
renewed every 100 ticks; the disc writer writes the cells of a tile under its lock; a disc's end frees its slots. -/
def Obligations.SweepsAndMapUpkeepComplete : Prop :=
  /- SWEEP_LOCKS_HELD -/
  (∀ (s : State) (t : Nat) (id : Nat) (w : Sweep) (g : PadGeom) (sh : Shape),
    (s.to t).places.find? (fun w => w.item.id == id) = some w →
    (s.to t).runs 7 blkSweeper = true →
    (s.to t).holdsLocks (.item id) = true →
    (s.to t).sweepState w.item.ctx true = true →
    (s.to t).pad.geom = some g →
    Sp.find (s.to t).pad.shapes w.item.ctx = some sh →
    exec (.sweepLocksHeld t id none) s = .next ((s.to t).under w.live (fun s => s.latchSweep g sh w))) ∧
  /- A sweep whose locks cover its tiles -/
  (∀ (s : State) (t : Nat) (g : PadGeom) (sh : Shape) (w : Sweep) (a : LockReq),
    (s.to t).pad.asks.find? (fun a => a.who == .item w.item.id) = some a →
    ((s.to t).sweepTiles w).all (fun t => a.tiles.contains t) = true →
    (s.to t).latchSweep g sh w = (s.to t).runSweep g sh w ((s.to t).sweepTiles w)) ∧
  /- A sweep without a cause or a conflict -/
  (∀ (s : State) (t : Nat) (g : PadGeom) (sh : Shape) (w : Sweep) (locks : List Nat) (r : Raster) (gr x y : State)
    (keys : List Nat) (e : Eval) (f : Int),
    f = relTick (s.to t).tickNow w.req.first.toNat →
    r = (s.to t).raster g sh ((s.to t).latestPr w.item.ctx) w.req.samples →
    (s.to t).sweepCause w.req w.item.ctx f locks.length = 0 →
    gr = locks.foldl (fun (s : State) t => s.groomAged t) (s.to t) →
    e = gr.evalSweep g w.item.ctx (s.to t).tickNow ((s.to t).latestPr w.item.ctx) f w.req.samples r →
    firstConflict e.conflicts = none →
    (gr.count Reg.PAD_CNT_SWEEP).writeCommit w.item.ctx (s.to t).tickNow ((s.to t).latestPr w.item.ctx) w.req e.writes
      = (x, keys) →
    y = x.mirror w.item.ctx (s.to t).tickNow ((s.to t).latestPr w.item.ctx) keys.length (x.cellsCrc keys)
      w.req.seq.toNat (.commit w.req) →
    (s.to t).runSweep g sh w locks = (y.parkAt w.item.ctx (s.to t).tickNow).committed w.item y.pad.mseq (y.commitRes
      (s.to t).tickNow keys.length locks.length w.req)) ∧
  /- A sweep with a conflict -/
  (∀ (s : State) (t : Nat) (g : PadGeom) (sh : Shape) (w : Sweep) (locks : List Nat) (r : Raster) (gr : State) (e :
    Eval) (f : Int) (k : Conflict),
    f = relTick (s.to t).tickNow w.req.first.toNat →
    r = (s.to t).raster g sh ((s.to t).latestPr w.item.ctx) w.req.samples →
    (s.to t).sweepCause w.req w.item.ctx f locks.length = 0 →
    gr = locks.foldl (fun (s : State) t => s.groomAged t) (s.to t) →
    e = gr.evalSweep g w.item.ctx (s.to t).tickNow ((s.to t).latestPr w.item.ctx) f w.req.samples r →
    firstConflict e.conflicts = some k →
    (s.to t).runSweep g sh w locks = ((gr.count Reg.PAD_CNT_SWEEP).count Reg.PAD_CNT_CONFLICT).failSweep w.item
      .rejConflict .conflict (k.res (s.to t).tickNow) (k.word (s.to t).tickNow)) ∧
  /- SWEEP_LOCKS_HELD, a cell word that fails -/
  (∀ (s : State) (t : Nat) (id : Nat) (w : Sweep) (bad : BadCell) (o : Nat × Nat) (g : PadGeom) (sh : Shape),
    (s.to t).places.find? (fun w => w.item.id == id) = some w →
    (s.to t).runs 7 blkSweeper = true →
    (s.to t).holdsLocks (.item id) = true →
    (s.to t).sweepState w.item.ctx true = true →
    (s.to t).pad.geom = some g →
    Sp.find (s.to t).pad.shapes w.item.ctx = some sh →
    (s.to t).badSeen bad = some o →
    w.item.obs = false →
    exec (.sweepLocksHeld t id (some bad)) s = .next (({ (((s.to t).repairCell bad).dropSweep w.item.id) with
        gait := { (((s.to t).repairCell bad).dropSweep w.item.id).gait with
            drafts := Sp.drop (((s.to t).repairCell bad).dropSweep w.item.id).gait.drafts w.item.id } } :
      State).finishAt w.item o.1 o.2 .failPoison Res.zero)) ∧
  /- PAD_TICK -/
  (∀ (s : State) (t : Nat) (g : PadGeom) (v : State),
    (s.to t).runs 7 blkGroom = true →
    v = (s.to t).wr Reg.PAD_TICK_ABS (s.to t).tickAbs →
    v.pad.geom = some g →
    exec (.padTick t) s = .next (if v.rgnState 7 = rsRun ∧ v.mapValid then v.lateAt (v.oldestAge g) else v)) ∧
  /- PAD_TICK without a map -/
  (∀ (s : State) (t : Nat) (v : State),
    (s.to t).runs 7 blkGroom = true →
    v = (s.to t).wr Reg.PAD_TICK_ABS (s.to t).tickAbs →
    v.pad.geom = none →
    exec (.padTick t) s = .next v) ∧
  /- GROOM_TILE under its lock -/
  (∀ (s : State) (t : Nat) (g : PadGeom) (v : State),
    (s.to t).pad.geom = some g →
    (s.to t).rgnState 7 = rsRun →
    (s.to t).runs 7 blkGroom = true →
    (s.to t).mapValid = true →
    (s.to t).groomDue = true →
    v = (s.to t).askLocks .groom [(s.to t).pad.groomNext] →
    v.holdsLocks .groom = true →
    exec (.groomTile t none) s = .next ((v.groomVisit g (s.to t).pad.groomNext none).freeLocks (fun l => l ==
      .groom))) ∧
  /- PARK_RENEWAL -/
  (∀ (s : State) (t : Nat),
    (s.to t).runs 7 blkGroom = true →
    (s.to t).mapValid = true →
    (s.to t).renewDue = true →
    exec (.parkRenewal t none) s = .next ((s.to t).askRenewals.renewing.foldl (fun (s : State) n => s.runRenewal n)
      (s.to t).askRenewals)) ∧
  /- DISC_WRITE under its lock -/
  (∀ (s : State) (t : Nat) (ctx : BitVec 8) (tile : BitVec 13) (g : PadGeom) (d : Disc) (v : State),
    (s.to t).pad.geom = some g →
    Sp.find (s.to t).pad.discs ctx.toNat = some d →
    (s.to t).runs 7 blkSweeper = true →
    ((g.discCells d).filter (fun c => g.key c / 4096 == tile.toNat)).isEmpty = false →
    v = (s.to t).askLocks (.disc ctx.toNat tile.toNat) [tile.toNat] →
    v.holdsLocks (.disc ctx.toNat tile.toNat) = true →
    exec (.discWrite t ctx tile none) s = .next ((((((g.discCells d).filter (fun c => g.key c / 4096 ==
      tile.toNat)).foldl (fun (s : State) c => s.discCell g ctx.toNat d c) (v.groomAged tile.toNat)).noteWrite
      tile.toNat)).freeLocks (fun l => l == (.disc ctx.toNat tile.toNat)))) ∧
  /- DISC_END under its locks -/
  (∀ (s : State) (t : Nat) (ctx : BitVec 8) (v w : State),
    (s.to t).pad.ending.contains ctx.toNat = true →
    (s.to t).runs 7 blkSweeper = true →
    v = (s.to t).freeLocks (fun l => l.ofDisc ctx.toNat && (Sp.find (s.to t).pad.discs ctx.toNat).isNone) →
    w = v.askLocks (.discEnd ctx.toNat) (tilesOf (v.slotCells ctx.toNat Slot.kind)) →
    w.holdsLocks (.discEnd ctx.toNat) = true →
    exec (.discEnd t ctx) s = .next ((w.endDisc ctx.toNat).freeLocks (fun l => l == .discEnd ctx.toNat)))

/-- A read of TIM_TIME latches one instant in all its registers. TIM_INCR is written in MANUAL mode within 100 ppm of
nominal, else INCR_REJ is set. A new device second is taken with its comparisons. PTP_SAMPLE of a domain that is a
slave on the port gives a sample less the asymmetry. SET_TIME waits for the next whole second. At its second a
waiting SET_TIME, else TIM's own step, is added to the counter and what keeps its place in device time moves with
it. -/
def Obligations.TimeKeepingCompletes : Prop :=
  /- TIM_TIME_LOW_READ -/
  (∀ (s : State) (t : Nat) (rq : Requester),
    (s.to t).reaches rq Reg.TIM_TIME = true →
    exec (.timTimeLowRead t rq) s = .next (((s.to t).reached rq Reg.TIM_TIME false).snapTime.lowRead rq Reg.TIM_TIME)) ∧
  /- The snapshot -/
  (∀ (s : State) (t : Nat) (x y : State),
    x = (s.to t).wr64 Reg.TIM_TIME_SEC ((s.to t).ctr / 2 ^ 40 / 10 ^ 9 % 2 ^ 48) →
    y = x.wr Reg.TIM_TIME_NSEC ((s.to t).ctr / 2 ^ 40 % 10 ^ 9) →
    (s.to t).snapTime = y.wr Reg.TIM_TIME_FRAC ((s.to t).ctr / 2 ^ 24 % 2 ^ 16)) ∧
  /- TIM_INCR_WRITE -/
  (∀ (s : State) (t : Nat) (rq : Requester) (val : BitVec 64),
    (s.to t).reaches rq (Reg.TIM_INCR + 4) = true →
    ((s.to t).reached rq (Reg.TIM_INCR + 4) true).flag B.TIM_SERVO_CTL_MANUAL = true →
    incrLegal (val.toNat % 2 ^ 48) = true →
    exec (.timIncrWrite t rq val) s = .next (((s.to t).reached rq (Reg.TIM_INCR + 4) true).wr64 Reg.TIM_INCR
      (val.toNat % 2 ^ 48))) ∧
  /- TIM_INCR_WRITE, refused -/
  (∀ (s : State) (t : Nat) (rq : Requester) (val : BitVec 64),
    (s.to t).reaches rq (Reg.TIM_INCR + 4) = true →
    ((s.to t).reached rq (Reg.TIM_INCR + 4) true).flag B.TIM_SERVO_CTL_MANUAL = false ∨ incrLegal (val.toNat % 2 ^ 48)
      = false →
    exec (.timIncrWrite t rq val) s = .next (((s.to t).reached rq (Reg.TIM_INCR + 4) true).setFlag B.TIM_STS_INCR_REJ
      true)) ∧
  /- SECOND_BOUNDARY -/
  (∀ (s : State) (t : Nat),
    (s.to t).devSec ≠ (s.to t).tim.second →
    (s.to t).runs 11 blkServo = true →
    exec (.secondBoundary t) s = .next ((s.to t).newSecond (s.to t).devSec)) ∧
  /- PTP_SAMPLE -/
  (∀ (s : State) (t : Nat) (it : Item) (late : Bool),
    (s.to t).goes 11 it { Checks.pass with
        range := it.d.context == 0 && (s.to t).devNs ≤ it.d.arg2.toNat + 2 * 10 ^ 9, state := (s.to t).domCfg (if
          argBit it.d.arg0 0 then 1 else 0) == (1, (if argBit it.d.arg0 1 then 1 else 0)) } late = true →
    exec (.ptpSample t it) s = .next ((((s.to t).unwait it.id).sample (2 + (if argBit it.d.arg0 0 then 1 else 0))
      (signed 64 it.d.arg1.toNat - ((s.to t).unwait it.id).asym (if argBit it.d.arg0 1 then 1 else 0) (if argBit
      it.d.arg0 0 then 1 else 0) * 2 ^ 16)).finish (it.acting late) 11 .done)) ∧
  /- SET_TIME -/
  (∀ (s : State) (t : Nat) (it : Item) (late : Bool),
    (s.to t).goes 11 it { Checks.pass with
        range := it.d.context == 0 && it.d.arg0.toNat % 10 ^ 9 == 0, state := (s.to t).get B.TIM_STS_SELECTED == 0 ||
          (s.to t).flag B.TIM_SERVO_CTL_MANUAL } late = true →
    exec (.setTime t it) s = .next (({ ((s.to t).unwait it.id) with
        tim := { ((s.to t).unwait it.id).tim with
            setWaits := ((s.to t).unwait it.id).tim.setWaits ++ [SetTimeWait.mk (it.acting late) (((s.to t).unwait
              it.id).devNs / 10 ^ 9 + 1)] } } : State).setFlag B.TIM_STS_STEP_PENDING true)) ∧
  /- TIME_STEP of TIM's own -/
  (∀ (s : State) (t : Nat) (S : Int) (sec : Nat),
    (s.to t).runs 11 0 = true →
    (s.to t).tim.setWaits = [] →
    (s.to t).tim.step = some (S, sec) →
    sec ≤ (s.to t).devNs / 10 ^ 9 →
    let w := (((((s.to t).ownStep S).stepAir S).stepTicks S).stepRest S (s.to t).nextStart)
    let x := if 0 < S then (w.stepWaiting (s.to t).devNs).stepNet (s.to t).devNs else w
    exec (.timeStep t) s = .next (x.cueSlots.foldl (fun (s : State) k => s.cueStep k) x)) ∧
  /- TIME_STEP of a SET_TIME -/
  (∀ (s : State) (t : Nat) (q : SetTimeWait) (l : List SetTimeWait),
    (s.to t).runs 11 0 = true →
    (s.to t).tim.setWaits = q :: l →
    q.sec ≤ (s.to t).devNs / 10 ^ 9 →
    let w := (((((s.to t).setTimeStep q).stepAir ((q.item.d.arg0.toNat : Int) - (q.sec * 10 ^ 9 : Nat))).stepTicks
      ((q.item.d.arg0.toNat : Int) - (q.sec * 10 ^ 9 : Nat))).stepRest ((q.item.d.arg0.toNat : Int) - (q.sec * 10 ^ 9
      : Nat)) (s.to t).nextStart)
    let x := if 0 < ((q.item.d.arg0.toNat : Int) - (q.sec * 10 ^ 9 : Nat)) then (w.stepWaiting (s.to t).devNs).stepNet
      (s.to t).devNs else w
    exec (.timeStep t) s = .next (x.cueSlots.foldl (fun (s : State) k => s.cueStep k) x))

/-- FORCE_START starts an output at once; a started output passes the mark that device time has reached, with a pulse
where it is enabled and not quiet. The end of a width ends the pulse, and a cue output returns to its level. CUE_SET
takes the lowest free slot and, where its instant has come, acts at once; with no free slot it is rejected
REJ_STATE. A due instant of a cue acts, or is skipped while the cue is suspended. -/
def Obligations.PulsesAndCuesComplete : Prop :=
  /- PPS_FORCE_START -/
  (∀ (s : State) (t : Nat) (rq : Requester) (n : Fin 2),
    (s.to t).reaches rq (Reg.TIM_PPS_CTL n.val) = true →
    exec (.ppsForceStart t rq n) s = .next ((((s.to t).reached rq (Reg.TIM_PPS_CTL n.val) true).setFlag
      (B.TIM_PPS_CTL_FORCE_START n.val) true).startPps n.val false)) ∧
  /- PPS_PULSE with a pulse -/
  (∀ (s : State) (t : Nat) (n : Fin 2),
    ((s.to t).ppsOf n.val).started = true →
    ((s.to t).ppsOf n.val).mark < (s.to t).markOf n.val →
    ((s.to t).setPps n.val { ((s.to t).ppsOf n.val) with mark := (s.to t).markOf n.val }).flag (B.TIM_PPS_CTL_ENABLE
      n.val) = true →
    ((s.to t).ppsOf n.val).quietTo ≤ ((s.to t).setPps n.val { ((s.to t).ppsOf n.val) with
        mark := (s.to t).markOf n.val }).cyc →
    exec (.ppsPulse t n) s = .next (((s.to t).setPps n.val { ((s.to t).ppsOf n.val) with
        mark := (s.to t).markOf n.val }).pulsePps n.val)) ∧
  /- PPS_PULSE of an output that is not enabled -/
  (∀ (s : State) (t : Nat) (n : Fin 2),
    ((s.to t).ppsOf n.val).started = true →
    ((s.to t).ppsOf n.val).mark < (s.to t).markOf n.val →
    ((s.to t).setPps n.val { ((s.to t).ppsOf n.val) with mark := (s.to t).markOf n.val }).flag (B.TIM_PPS_CTL_ENABLE
      n.val) = false →
    exec (.ppsPulse t n) s = .next ((s.to t).setPps n.val { ((s.to t).ppsOf n.val) with
        mark := (s.to t).markOf n.val })) ∧
  /- PULSE_WIDTH_END of a PPS output -/
  (∀ (s : State) (t : Nat) (out : Fin 10) (e : Nat),
    out.val < 2 →
    ((s.to t).ppsOf out.val).pulseEnd = some e →
    e ≤ (s.to t).cyc →
    exec (.pulseWidthEnd t out) s = .next ((s.to t).setPps out.val { ((s.to t).ppsOf out.val) with
        pulseEnd := none })) ∧
  /- PULSE_WIDTH_END of a cue output -/
  (∀ (s : State) (t : Nat) (out : Fin 10) (e : Nat) (v : Bool),
    2 ≤ out.val →
    Sp.find (s.to t).tim.cuePulse (out.val - 2) = some (e, v) →
    e ≤ (s.to t).cyc →
    exec (.pulseWidthEnd t out) s = .next (({ (s.to t) with
        tim := { (s.to t).tim with cuePulse := Sp.drop (s.to t).tim.cuePulse (out.val - 2) } } : State).setCueLevel
      (out.val - 2) v)) ∧
  /- CUE_SET ahead of its instant -/
  (∀ (s : State) (t : Nat) (it : Item) (raw : List Byte) (stored : Option Desc) (slot : Nat),
    (if argBit it.d.arg0 6 then some (Desc.ofBytes raw) else none) = stored →
    (s.to t).freeCue = some slot →
    (s.to t).waits 11 it { Checks.pass with range := cueRange it.d stored } = true →
    exec (.cueSet t it raw) s = .next ((s.to t).takeCue it stored slot)) ∧
  /- CUE_SET at or after its instant -/
  (∀ (s : State) (t : Nat) (it : Item) (raw : List Byte) (stored : Option Desc) (slot : Nat) (late : Bool),
    (if argBit it.d.arg0 6 then some (Desc.ofBytes raw) else none) = stored →
    (s.to t).freeCue = some slot →
    (s.to t).goes 11 it { Checks.pass with range := cueRange it.d stored } late = true →
    exec (.cueSet t it raw) s = .next (((s.to t).unwait it.id).cueNow (it.acting late) stored slot)) ∧
  /- CUE_SET without a free slot -/
  (∀ (s : State) (t : Nat) (it : Item) (raw : List Byte) (stored : Option Desc),
    (if argBit it.d.arg0 6 then some (Desc.ofBytes raw) else none) = stored →
    (s.to t).freeCue = none →
    (s.to t).rejects 11 it { Checks.pass with range := cueRange it.d stored, state := false } .rejState = true →
    exec (.cueSet t it raw) s = .next ((s.to t).finish it 11 .rejState)) ∧
  /- CUE_INSTANT that acts -/
  (∀ (s : State) (t : Nat) (slot : Fin 64) (c : CueSlot),
    (s.to t).cueOf? slot.val = some c →
    c.due ≤ (s.to t).devNs →
    (s.to t).runs 11 blkCues = true →
    (s.to t).cueBehind slot.val = false →
    c.repeats = true ∨ c.next ≠ 1 →
    (s.to t).cueHeld c = false →
    exec (.cueInstant t slot) s = .next ((s.to t).cueFire slot.val c false 0)) ∧
  /- CUE_INSTANT of a suspended cue -/
  (∀ (s : State) (t : Nat) (slot : Fin 64) (c : CueSlot),
    (s.to t).cueOf? slot.val = some c →
    c.due ≤ (s.to t).devNs →
    (s.to t).runs 11 blkCues = true →
    (s.to t).cueBehind slot.val = false →
    c.repeats = true →
    (s.to t).cueHeld c = true →
    exec (.cueInstant t slot) s = .next ((s.to t).cueSkip slot.val c 1))

/-- An exclusion sets the source's EXCL bit, and DISAGREE clears where fewer than two sources then vote; an inclusion
clears the bit; CLEAR_SUSPECT clears SUSPECT of every source that has it, each with its event. -/
def Obligations.VoteCommandsComplete : Prop :=
  /- VOTE_EXCL_GNSS -/
  (∀ (s : State) (t : Nat) (rq : Requester),
    (s.to t).reaches rq Reg.TIM_VOTE_CMD = true →
    exec (.voteExclGnss t rq) s = .next ((((s.to t).reached rq Reg.TIM_VOTE_CMD true).setFlag B.TIM_SRC_STS_GNSS_EXCL
      true).afterExcl)) ∧
  /- VOTE_EXCL_A -/
  (∀ (s : State) (t : Nat) (rq : Requester),
    (s.to t).reaches rq Reg.TIM_VOTE_CMD = true →
    exec (.voteExclA t rq) s = .next ((((s.to t).reached rq Reg.TIM_VOTE_CMD true).setFlag B.TIM_SRC_STS_A_EXCL
      true).afterExcl)) ∧
  /- VOTE_EXCL_B -/
  (∀ (s : State) (t : Nat) (rq : Requester),
    (s.to t).reaches rq Reg.TIM_VOTE_CMD = true →
    exec (.voteExclB t rq) s = .next ((((s.to t).reached rq Reg.TIM_VOTE_CMD true).setFlag B.TIM_SRC_STS_B_EXCL
      true).afterExcl)) ∧
  /- VOTE_INCL_GNSS -/
  (∀ (s : State) (t : Nat) (rq : Requester),
    (s.to t).reaches rq Reg.TIM_VOTE_CMD = true →
    exec (.voteInclGnss t rq) s = .next (((s.to t).reached rq Reg.TIM_VOTE_CMD true).setFlag B.TIM_SRC_STS_GNSS_EXCL
      false)) ∧
  /- VOTE_INCL_A -/
  (∀ (s : State) (t : Nat) (rq : Requester),
    (s.to t).reaches rq Reg.TIM_VOTE_CMD = true →
    exec (.voteInclA t rq) s = .next (((s.to t).reached rq Reg.TIM_VOTE_CMD true).setFlag B.TIM_SRC_STS_A_EXCL false)) ∧
  /- VOTE_INCL_B -/
  (∀ (s : State) (t : Nat) (rq : Requester),
    (s.to t).reaches rq Reg.TIM_VOTE_CMD = true →
    exec (.voteInclB t rq) s = .next (((s.to t).reached rq Reg.TIM_VOTE_CMD true).setFlag B.TIM_SRC_STS_B_EXCL false)) ∧
  /- CLEAR_SUSPECT -/
  (∀ (s : State) (t : Nat) (rq : Requester),
    (s.to t).reaches rq Reg.TIM_VOTE_CMD = true →
    exec (.clearSuspect t rq) s = .next ([1, 2, 3].foldl (fun s c => if s.flag (srcSuspect c) then (s.setFlag
      (srcSuspect c) false).suspectEvent c false else s) ((s.to t).reached rq Reg.TIM_VOTE_CMD true)))

/-- A channel low for 0.19 ms is open and one high as long is closed, and the causes are taken again; a failed test
pulse latches its fault and is counted; channels apart for more than 50 ms latch DISAGREE; a key position steady for
20 ms is read, both contacts closed for 50 ms latch KEY_FAULT, and a turn from RUN to MAINT and back with good loops
clears the faults whose condition stayed away for a second. -/
def Obligations.StopInputsComplete : Prop :=
  /- STOP_CHANNEL_OPEN -/
  (∀ (s : State) (t : Nat) (ch : Fin 2) (low : Nat),
    19000 ≤ low →
    exec (.stopChannelOpen t ch low) s = .next (((s.to t).setFlag (chanBit ch.val) false).whoaEval)) ∧
  /- STOP_CHANNEL_CLOSED of a channel that was open -/
  (∀ (s : State) (t : Nat) (ch : Fin 2) (high : Nat),
    19000 ≤ high →
    (s.to t).flag (chanBit ch.val) = false →
    exec (.stopChannelClosed t ch high) s = .next (((({ (s.to t) with
        whoa := { (s.to t).whoa with
            closedAt := if ch.val = 0 then ((s.to t).cyc, (s.to t).whoa.closedAt.2) else ((s.to t).whoa.closedAt.1,
              (s.to t).cyc) } }) : State).setFlag (chanBit ch.val) true).whoaEval)) ∧
  /- STOP_CHANNEL_CLOSED of a closed channel -/
  (∀ (s : State) (t : Nat) (ch : Fin 2) (high : Nat),
    19000 ≤ high →
    (s.to t).flag (chanBit ch.val) = true →
    exec (.stopChannelClosed t ch high) s = .next (((s.to t).setFlag (chanBit ch.val) true).whoaEval)) ∧
  /- TEST_PULSE, its own loop fails -/
  (∀ (s : State) (t : Nat) (ch : Fin 2) (fell low other : Nat) (v w : State),
    (s.to t).whoaDue (if ch.val = 0 then (s.to t).whoa.pulseAt.1 else (s.to t).whoa.pulseAt.2) ((s.to t).get
      B.WHOA_CFG_TP_PERIOD * 10) = true →
    low = 0 ∨ 2000 < fell ∨ (7000 < fell + low ∧ low < 19000) →
    other = 0 ∨ 19000 ≤ other →
    v = { (s.to t) with
        whoa := { (s.to t).whoa with
            pulseAt := (if ch.val = 0 then (some (s.to t).cyc, (s.to t).whoa.pulseAt.2) else ((s.to t).whoa.pulseAt.1,
              some (s.to t).cyc)) } } →
    w = v.latchFault (1 + ch.val) →
    exec (.testPulse t ch fell low other) s = .next ((({ w with whoa := { w.whoa with failAt := w.cyc } } :
      State).count Reg.WHOA_CNT_TP_FAIL).whoaEval)) ∧
  /- TEST_PULSE, a cross fault -/
  (∀ (s : State) (t : Nat) (ch : Fin 2) (fell low other : Nat) (v w : State),
    (s.to t).whoaDue (if ch.val = 0 then (s.to t).whoa.pulseAt.1 else (s.to t).whoa.pulseAt.2) ((s.to t).get
      B.WHOA_CFG_TP_PERIOD * 10) = true →
    0 < low →
    fell ≤ 2000 →
    fell + low ≤ 7000 ∨ 19000 ≤ low →
    0 < other →
    other < 19000 →
    v = { (s.to t) with
        whoa := { (s.to t).whoa with
            pulseAt := (if ch.val = 0 then (some (s.to t).cyc, (s.to t).whoa.pulseAt.2) else ((s.to t).whoa.pulseAt.1,
              some (s.to t).cyc)) } } →
    w = v.latchFault 3 →
    exec (.testPulse t ch fell low other) s = .next ((({ w with whoa := { w.whoa with failAt := w.cyc } } :
      State).count Reg.WHOA_CNT_TP_FAIL).whoaEval)) ∧
  /- TEST_PULSE that passes -/
  (∀ (s : State) (t : Nat) (ch : Fin 2) (fell low other : Nat),
    (s.to t).whoaDue (if ch.val = 0 then (s.to t).whoa.pulseAt.1 else (s.to t).whoa.pulseAt.2) ((s.to t).get
      B.WHOA_CFG_TP_PERIOD * 10) = true →
    0 < low →
    fell ≤ 2000 →
    fell + low ≤ 7000 ∨ 19000 ≤ low →
    other = 0 ∨ 19000 ≤ other →
    exec (.testPulse t ch fell low other) s = .next { (s.to t) with
        whoa := { (s.to t).whoa with
            pulseAt := (if ch.val = 0 then (some (s.to t).cyc, (s.to t).whoa.pulseAt.2) else ((s.to t).whoa.pulseAt.1,
              some (s.to t).cyc)) } }) ∧
  /- DISAGREE_FAULT -/
  (∀ (s : State) (t : Nat) (apart : Nat),
    (s.to t).flag B.WHOA_STS_CHAN_A ≠ (s.to t).flag B.WHOA_STS_CHAN_B →
    5000000 < apart →
    exec (.disagreeFault t apart) s = .next (((s.to t).latchFault 0).whoaEval)) ∧
  /- KEY_POSITION from RUN to another single position -/
  (∀ (s : State) (t : Nat) (pos : Fin 4) (steady : Nat),
    20 * whoaMs ≤ steady →
    (s.to t).keyPos = 0 →
    pos.val ≠ 0 →
    pos.val ≠ 3 →
    exec (.keyPosition t pos steady) s = .next (({ (((((s.to t).wr Reg.WHOA_KEY pos.val).whoaChange 4 0
      pos.val).setFlag B.WHOA_PLUG_STS_SERVICE_OK (((((s.to t).wr Reg.WHOA_KEY pos.val).whoaChange 4 0 pos.val).flag
      B.WHOA_PLUG_STS_SVC_DET && pos.val == 1))).setFlag B.CHIP_DEBUG_SERVICE_OK (((((s.to t).wr Reg.WHOA_KEY
      pos.val).whoaChange 4 0 pos.val).flag B.WHOA_PLUG_STS_SVC_DET && pos.val == 1))) with
        whoa := { (((((s.to t).wr Reg.WHOA_KEY pos.val).whoaChange 4 0 pos.val).setFlag B.WHOA_PLUG_STS_SERVICE_OK
          (((((s.to t).wr Reg.WHOA_KEY pos.val).whoaChange 4 0 pos.val).flag B.WHOA_PLUG_STS_SVC_DET && pos.val ==
          1))).setFlag B.CHIP_DEBUG_SERVICE_OK (((((s.to t).wr Reg.WHOA_KEY pos.val).whoaChange 4 0 pos.val).flag
          B.WHOA_PLUG_STS_SVC_DET && pos.val == 1))).whoa with turning := pos.val == 1 } } : State).whoaEval)) ∧
  /- KEY_POSITION that clears faults -/
  (∀ (s : State) (t : Nat) (steady : Nat),
    20 * whoaMs ≤ steady →
    (s.to t).keyPos = 1 →
    (((s.to t).wr Reg.WHOA_KEY 0).whoaChange 4 0 0).whoa.turning = true →
    (((s.to t).wr Reg.WHOA_KEY 0).whoaChange 4 0 0).loopsGood = true →
    let x : State := ({ (((s.to t).wr Reg.WHOA_KEY 0).whoaChange 4 0 0) with
        whoa := { (((s.to t).wr Reg.WHOA_KEY 0).whoaChange 4 0 0).whoa with
            latched := (((s.to t).wr Reg.WHOA_KEY 0).whoaChange 4 0 0).whoa.latched - (((s.to t).wr Reg.WHOA_KEY
              0).whoaChange 4 0 0).clearable } })
    let y := (x.setFlag B.WHOA_PLUG_STS_SERVICE_OK false).setFlag B.CHIP_DEBUG_SERVICE_OK false
    exec (.keyPosition t 0 steady) s = .next (({ y with whoa := { y.whoa with turning := false } } : State).whoaEval))

/-- A touch measurement moves the electrodes, the suppression, the reports, the causes and the hold. A RESUME hold of
2 s in STOPPED with conditions 1 to 3 releases where condition 5 holds, else counts as nothing. An output that reads
back wrong for more than 1 ms and an oscillator more than 10 % apart latch their faults. Plug detects steady for 10
ms are taken. -/
def Obligations.PanelAndMonitorsComplete : Prop :=
  /- TOUCH_MEASURE -/
  (∀ (s : State) (t : Nat) (readings : List (BitVec 16)),
    (s.to t).whoaDue (s.to t).whoa.touchAt 5 = true →
    exec (.touchMeasure t readings) s = .next ((((({ ((s.to t).measureAll 0 (readings.take 13)) with
        whoa := { ((s.to t).measureAll 0 (readings.take 13)).whoa with
            measured := true, touchAt := some ((s.to t).measureAll 0 (readings.take 13)).cyc } }) :
      State).suppression.reportTouches ((s.to t).get B.WHOA_TOUCH_STS_TOUCHED)).whoaEval.countHold).reportWhoa)) ∧
  /- RESUME_HOLD_COMPLETE that releases -/
  (∀ (s : State) (t : Nat),
    (s.to t).flag B.WHOA_TOUCH_STS_HOLD = true →
    2000 ≤ (s.to t).get B.WHOA_TOUCH_STS_HOLD_MS →
    (s.to t).stopped = true →
    (s.to t).releaseReady = true →
    (s.to t).releasePermitted = true →
    exec (.resumeHoldComplete t) s = .next (s.to t).release) ∧
  /- RESUME_HOLD_COMPLETE without condition 5 -/
  (∀ (s : State) (t : Nat),
    (s.to t).flag B.WHOA_TOUCH_STS_HOLD = true →
    2000 ≤ (s.to t).get B.WHOA_TOUCH_STS_HOLD_MS →
    (s.to t).stopped = true →
    (s.to t).releaseReady = true →
    (s.to t).releasePermitted = false →
    exec (.resumeHoldComplete t) s = .next ((((({ (s.to t) with whoa := { (s.to t).whoa with holdSpent := true } }) :
      State).setFlag B.WHOA_TOUCH_STS_HOLD false).set B.WHOA_TOUCH_STS_HOLD_MS 0).reportWhoa)) ∧
  /- OUTPUT_READBACK_FAULT -/
  (∀ (s : State) (t : Nat) (outs : BitVec 4) (steady : Nat),
    whoaMs < steady →
    ((s.to t).get B.WHOA_STS_OUT ^^^ outs.toNat) ≠ 0 →
    exec (.outputReadbackFault t outs steady) s = .next (((List.range 4).foldl (fun (v : State) k => if (((s.to t).get
      B.WHOA_STS_OUT ^^^ outs.toNat)).testBit k then v.latchFault (6 + k) else v) (s.to t)).whoaEval)) ∧
  /- OSC_MONITOR -/
  (∀ (s : State) (t : Nat) (main second : Nat),
    main < ((main - second) + (second - main)) * 10 →
    exec (.oscMonitor t main second) s = .next (((s.to t).latchFault 5).whoaEval)) ∧
  /- PLUG_DETECT that changes -/
  (∀ (s : State) (t : Nat) (hpd : BitVec 8) (ant svc : Bool) (steady : Nat),
    10 * whoaMs ≤ steady →
    (s.to t).rd Reg.WHOA_PLUG_STS ≠ (hpd.toNat + (if ant then 2 ^ 8 else 0) + (if svc then 2 ^ 9 else 0) + (if ((svc
      && (s.to t).keyPos == 1)) then 2 ^ 10 else 0)) →
    exec (.plugDetect t hpd ant svc steady) s = .next (((((s.to t).wr Reg.WHOA_PLUG_STS (hpd.toNat + (if ant then 2 ^
      8 else 0) + (if svc then 2 ^ 9 else 0) + (if ((svc && (s.to t).keyPos == 1)) then 2 ^ 10 else 0))).setFlag
      B.CHIP_DEBUG_SERVICE_OK ((svc && (s.to t).keyPos == 1))).whoaChange 6 0 (hpd.toNat + (if ant then 2 ^ 8 else 0)
      + (if svc then 2 ^ 9 else 0) + (if ((svc && (s.to t).keyPos == 1)) then 2 ^ 10 else 0))).whoaEval))

/-- CHIP sees the oldest change of the status outputs: vector 65 and an event, after the status change the recorder
sees. FLEET_STOP asserts STOP_REQ and completes DONE with the reported cause; FLEET_RESUME in STOPPED deasserts it,
sets PERMIT and completes DONE, and in GO it is rejected REJ_STATE. While STOPPED the stop frame is repeated. -/
def Obligations.StopRequestsComplete : Prop :=
  /- WHOA_STATUS_EVENT -/
  (∀ (s : State) (t : Nat) (x : WhoaChange) (l : List WhoaChange) (v : State) (r2 : Nat),
    (s.to t).whoa.changes = x :: l →
    v = { (s.to t) with whoa := { (s.to t).whoa with changes := l } } →
    r2 = (if v.timeUnset then 0 else v.devNs) →
    exec (.whoaStatusEvent t) s = .next (((if x.code = 1 ∨ x.code = 2 then v.seeStatus 1 [x.code + x.arg * 256, x.r1,
      r2] else v).fire 65).event .allot 13 x.code x.arg x.r1 r2)) ∧
  /- FLEET_STOP -/
  (∀ (s : State) (t : Nat) (it : Item) (late : Bool),
    (s.to t).goes 0 it Checks.pass late = true →
    exec (.fleetStop t it) s = .next ((((s.to t).unwait it.id).requestStop).finish (it.acting late) 0 .done
      ⟨(((s.to t).unwait it.id).requestStop).get B.WHOA_STS_FIRST_CAUSE, 0, 0⟩)) ∧
  /- FLEET_RESUME -/
  (∀ (s : State) (t : Nat) (it : Item) (late : Bool),
    (s.to t).goes 0 it { Checks.pass with state := (s.to t).stopped && !(s.to t).halter } late = true →
    exec (.fleetResume t it) s = .next (((((((s.to t).unwait it.id).setFlag B.WHOA_STS_STOP_REQ
      false).whoaEval).setFlag B.WHOA_STS_PERMIT true).reportWhoa).finish (it.acting late) 0 .done)) ∧
  /- FLEET_RESUME in GO -/
  (∀ (s : State) (t : Nat) (it : Item),
    (s.to t).rejects 0 it { Checks.pass with state := (s.to t).stopped && !(s.to t).halter } .rejState = true →
    exec (.fleetResume t it) s = .next ((s.to t).finish it 0 .rejState)) ∧
  /- STOP_FRAME_REPEAT -/
  (∀ (s : State) (t : Nat),
    (s.to t).stopped = true →
    (s.to t).net.stopAt + 10 * cycMs ≤ (s.to t).cyc →
    exec (.stopFrameRepeat t) s = .next ((s.to t).sendStop 1 ((s.to t).get B.WHOA_STS_FIRST_CAUSE)))

/-- A received frame that fails a check of Table NET-2 is counted and dropped, and one that passes goes into the
oldest buffer of its destination, clamped where it is too long; a PAUSE is taken. NET_TX joins its queue and NET_RX
posts its buffer; the frame at a head starts when its WHEN has come and the port is open, or is rejected REJ_EXPIRED
where it is late with NO_LATE; one that waits TX_TIMEOUT at the head fails FAIL_TIMEOUT. MDIO returns what was read.
-/
def Obligations.FramesAndMediaComplete : Prop :=
  /- NET_FRAME_RX, an undersize frame -/
  (∀ (s : State) (t : Nat) (port : Fin 2) (bs : List Byte) (express fragErr : Bool) (stamp : BitVec 64) (fill : Nat),
    (s.to t).runs 10 (blkPort port.val) = true →
    (s.to t).flag (netEnable port.val) = true →
    bs.length ≤ 63 →
    exec (.netFrameRx t port bs express fragErr stamp fill) s = .next ((s.to t).count (netCnt port.val 1))) ∧
  /- NET_FRAME_RX, a bad FCS -/
  (∀ (s : State) (t : Nat) (port : Fin 2) (bs : List Byte) (express : Bool) (stamp : BitVec 64) (fill : Nat),
    (s.to t).runs 10 (blkPort port.val) = true →
    (s.to t).flag (netEnable port.val) = true →
    64 ≤ bs.length →
    fcsGood bs = false →
    exec (.netFrameRx t port bs express false stamp fill) s = .next ((s.to t).count (netCnt port.val 2))) ∧
  /- NET_FRAME_RX, a frame that matches no address -/
  (∀ (s : State) (t : Nat) (port : Fin 2) (bs : List Byte) (express : Bool) (stamp : BitVec 64) (fill : Nat) (v :
    State),
    (s.to t).runs 10 (blkPort port.val) = true →
    (s.to t).flag (netEnable port.val) = true →
    64 ≤ bs.length →
    fcsGood bs = true →
    bs.length ≤ (s.to t).netMax port.val →
    v = (s.to t).seeWire port.val false ((s.to t).rxStamp port.val stamp) (etherType bs) bs →
    ¬ (port.val = 0 ∧ beAt bs 0 6 = 0x0180C2000001) →
    v.netMatch port.val (beAt bs 0 6) = none →
    exec (.netFrameRx t port bs express false stamp fill) s = .next (v.count (netCnt port.val 4))) ∧
  /- NET_FRAME_RX into a buffer -/
  (∀ (s : State) (t : Nat) (port : Fin 2) (bs : List Byte) (express : Bool) (stamp : BitVec 64) (fill m d : Nat) (it :
    Item) (rest : List Item) (v w : State) (wrote : List Byte),
    (s.to t).runs 10 (blkPort port.val) = true →
    (s.to t).flag (netEnable port.val) = true →
    64 ≤ bs.length →
    fcsGood bs = true →
    bs.length ≤ (s.to t).netMax port.val →
    v = (s.to t).seeWire port.val false ((s.to t).rxStamp port.val stamp) (etherType bs) bs →
    ¬ (port.val = 0 ∧ beAt bs 0 6 = 0x0180C2000001) →
    v.netMatch port.val (beAt bs 0 6) = some (m, d) →
    fill + bs.length ≤ 32768 →
    v.bufs port.val d = it :: rest →
    bs.length ≤ v.netMax port.val →
    wrote = (bs.take (bs.length - 4)).take it.d.len.toNat →
    w = ((v.setBufs port.val d rest).count (netCnt port.val 0)).writeHost it.d.ptr.toNat wrote →
    exec (.netFrameRx t port bs express false stamp fill) s = .next (w.finish it 10 (if it.d.len.toNat < (bs.take
      (bs.length - 4)).length then .doneClamped else .done) ⟨w.rxStamp port.val stamp, rxWord bs express false m,
      wrote.length⟩)) ∧
  /- NET_FRAME_RX of a PAUSE on Port A -/
  (∀ (s : State) (t : Nat) (bs : List Byte) (express : Bool) (stamp : BitVec 64) (fill q : Nat),
    (s.to t).runs 10 (blkPort 0) = true →
    (s.to t).flag (netEnable 0) = true →
    64 ≤ bs.length →
    fcsGood bs = true →
    bs.length ≤ (s.to t).netMax 0 →
    pauseOf bs = some q →
    beAt bs 0 6 = 0x0180C2000001 →
    exec (.netFrameRx t 0 bs express false stamp fill) s = .next (((s.to t).seeWire 0 false ((s.to t).rxStamp 0 stamp)
      (etherType bs) bs).takePause q)) ∧
  /- NET_TX -/
  (∀ (s : State) (t : Nat) (it : Item) (raw frame : List Byte) (late : Bool),
    ((s.to t).txq (if argBit it.d.arg0 0 then 1 else 0)).length < 256 →
    frame = (raw ++ leBytes (it.d.len.toNat - raw.length) 0).take it.d.len.toNat →
    (s.to t).goes 10 { it with d := { it.d with when_ := 0 } } ((s.to t).netTxChecks it frame) late = true →
    exec (.netTx t it raw) s = .next (((s.to t).unwait it.id).setTxq (if argBit it.d.arg0 0 then 1 else 0)
      (((s.to t).unwait it.id).txq (if argBit it.d.arg0 0 then 1 else 0) ++ [⟨it, argBit it.d.arg0 1, frame,
      ((s.to t).unwait it.id).cyc, ((s.to t).unwait it.id).devNs, 0, 0⟩]))) ∧
  /- NET_RX -/
  (∀ (s : State) (t : Nat) (it : Item) (late : Bool),
    ((s.to t).bufs (if argBit it.d.arg0 0 then 1 else 0) (if it.ring?.isSome then 1 else 0)).length < 256 →
    (s.to t).goes 10 it { Checks.pass with
        range := it.d.context == 0 && 64 ≤ it.d.len.toNat && it.d.len.toNat ≤ 9216, state := (s.to t).flag (netLink
          (if argBit it.d.arg0 0 then 1 else 0)) } late = true →
    exec (.netRx t it) s = .next (((s.to t).unwait it.id).setBufs (if argBit it.d.arg0 0 then 1 else 0) (if
      it.ring?.isSome then 1 else 0) (((s.to t).unwait it.id).bufs (if argBit it.d.arg0 0 then 1 else 0) (if
      it.ring?.isSome then 1 else 0) ++ [it.acting late]))) ∧
  /- NET_TX_START that sends -/
  (∀ (s : State) (t : Nat) (port : Fin 2) (express : Bool) (stamp : BitVec 64) (x : TxItem),
    (s.to t).txOpen port.val = true →
    (s.to t).lineTaken port.val express = false →
    ¬ (port.val = 0 ∧ express = false ∧ ((s.to t).txHead port.val true).isSome = true) →
    (s.to t).net.held = none →
    (s.to t).txHead port.val express = some x →
    ¬ ((s.to t).devNs < x.item.d.when_.toNat ∨ (s.to t).cyc < x.backoff) →
    x.item.d.noLate = false ∨ ((x.item.d.when_.toNat != 0 && decide (x.item.d.when_.toNat ≤ x.headNs))) = false →
    exec (.netTxStart t port express stamp) s = .next ((s.to t).preempt.txSend port.val x ((x.item.d.when_.toNat != 0
      && decide (x.item.d.when_.toNat ≤ x.headNs))) stamp)) ∧
  /- NET_TX_START, late with NO_LATE -/
  (∀ (s : State) (t : Nat) (port : Fin 2) (express : Bool) (stamp : BitVec 64) (x : TxItem),
    (s.to t).txOpen port.val = true →
    (s.to t).lineTaken port.val express = false →
    ¬ (port.val = 0 ∧ express = false ∧ ((s.to t).txHead port.val true).isSome = true) →
    (s.to t).net.held = none →
    (s.to t).txHead port.val express = some x →
    ¬ ((s.to t).devNs < x.item.d.when_.toNat ∨ (s.to t).cyc < x.backoff) →
    x.item.d.noLate = true →
    x.item.d.when_.toNat ≠ 0 →
    x.item.d.when_.toNat ≤ x.headNs →
    exec (.netTxStart t port express stamp) s = .next (((s.to t).txDrop port.val x).finish x.item 10 .rejExpired)) ∧
  /- NET_TX_START that continues a preempted frame -/
  (∀ (s : State) (t : Nat) (stamp : BitVec 64) (w : Wire),
    (s.to t).txOpen 0 = true →
    (s.to t).lineTaken 0 false = false →
    ((s.to t).txHead 0 true).isSome = false →
    (s.to t).net.held = some w →
    exec (.netTxStart t 0 false stamp) s = .next ((s.to t).continueFrame w)) ∧
  /- What a frame's start sends -/
  (∀ (s : State) (t : Nat) (p : Nat) (x : TxItem) (late : Bool) (raw : BitVec 64) (v w : State) (n : Nat),
    n = (s.to t).txStamp p raw →
    v = ((s.to t).txDrop p x).netSent (.frame p x.express x.item.id n (x.frame n)) →
    w = (if p = 0 then { v with
        net := { v.net with wire := some ⟨x.item.id, x.express, (x.frame n).length, 0, v.tenths⟩ } } else v) →
    (s.to t).txSend p x late raw = (w.count (netCnt p 8)).finish (x.item.acting late) 10 .done ⟨if (argBit
      x.item.d.arg0 5 || argBit x.item.d.arg0 4) = true then n else 0, if argBit x.item.d.arg0 3 = true ∧ (!hasL4
      x.data) = true then 1 else 0, 0⟩) ∧
  /- NET_TX_TIMEOUT -/
  (∀ (s : State) (t : Nat) (port : Fin 2) (express : Bool) (x : TxItem),
    (s.to t).txHead port.val express = some x →
    x.headAt + (s.to t).get B.NET_A_CFG_TX_TIMEOUT * cycMs ≤ (s.to t).cyc →
    (s.to t).runs 10 (blkPort port.val) = true →
    exec (.netTxTimeout t port express) s = .next (((s.to t).txDrop port.val x).finish x.item 10 .failTimeout)) ∧
  /- MDIO, a read that a PHY answers -/
  (∀ (s : State) (t : Nat) (it : Item) (late : Bool) (x : BitVec 16),
    (s.to t).goes 10 it { Checks.pass with range := it.d.context == 0 } late = true →
    argBit it.d.arg0 1 = false →
    exec (.mdio t it (some x)) s = .next ((((s.to t).unwait it.id).netSent (.mdio false it.d.arg0.toNat)).finish
      (it.acting late) 10 .done ⟨x.toNat, 0, 0⟩)) ∧
  /- MDIO, a write -/
  (∀ (s : State) (t : Nat) (it : Item) (late : Bool),
    (s.to t).goes 10 it { Checks.pass with range := it.d.context == 0 } late = true →
    argBit it.d.arg0 1 = true →
    exec (.mdio t it none) s = .next ((((s.to t).unwait it.id).netSent (.mdio true it.d.arg0.toNat)).finish (it.acting
      late) 10 .done)) ∧
  /- MDIO, a clause 22 read that no PHY answers -/
  (∀ (s : State) (t : Nat) (it : Item) (late : Bool),
    (s.to t).goes 10 it { Checks.pass with range := it.d.context == 0 } late = true →
    argBit it.d.arg0 1 = false →
    argBit it.d.arg0 0 = false →
    exec (.mdio t it none) s = .next ((((s.to t).unwait it.id).netSent (.mdio false it.d.arg0.toNat)).finish
      (it.acting late) 10 .done ⟨0xFFFF, 0, 0⟩))

/-- A received PAUSE of nonzero quanta pauses Port A for that long, one of zero or the timer's end ends the pause;
past three quarters of its buffer Port A sends PAUSE, and 0 below half. A collision on Port B retries the frame, the
sixteenth or a late one rejects it REJ_CONFLICT. A BEACON brings PLCA up and 130 ms without takes it down;
verification sets VERIFIED; a link change is reported. -/
def Obligations.PortEventsComplete : Prop :=
  /- PAUSE_RX -/
  (∀ (s : State) (t : Nat) (quanta : BitVec 16),
    (s.to t).runs 10 (blkPort 0) = true →
    (s.to t).flag B.NET_A_CFG_ENABLE = true →
    exec (.pauseRx t quanta) s = .next ((s.to t).takePause quanta.toNat)) ∧
  /- A PAUSE of nonzero quanta -/
  (∀ (s : State) (t : Nat) (quanta : Nat) (v : State),
    quanta ≠ 0 →
    v = ((s.to t).count (netCnt 0 9)).preempt →
    (s.to t).takePause quanta = ({ v with
        net := { v.net with paused := true, pauseEnd := v.tenths + quanta * v.quantum } } : State).setFlag
      B.NET_A_STS_PAUSED true) ∧
  /- A PAUSE of zero -/
  (∀ (s : State) (t : Nat),
    (s.to t).takePause 0 = ((s.to t).count (netCnt 0 9)).pauseOver) ∧
  /- PAUSE_EXPIRY -/
  (∀ (s : State) (t : Nat),
    (s.to t).net.paused = true →
    (s.to t).net.pauseEnd ≤ (s.to t).tenths →
    exec (.pauseExpiry t) s = .next (s.to t).pauseOver) ∧
  /- PAUSE_TX past three quarters -/
  (∀ (s : State) (t : Nat) (fill : Nat),
    (s.to t).flag B.NET_A_PAUSE_TX_EN = true →
    (s.to t).runs 10 (blkPort 0) = true →
    (s.to t).flag B.NET_A_CFG_ENABLE = true →
    (s.to t).net.pauseSent = none →
    24576 < fill →
    exec (.pauseTx t fill) s = .next { ((s.to t).netSent (.pause ((s.to t).get B.NET_A_PAUSE_TX_QUANTA))) with
        net := { ((s.to t).netSent (.pause ((s.to t).get B.NET_A_PAUSE_TX_QUANTA))).net with
            pauseSent := some (s.to t).tenths } }) ∧
  /- PAUSE_TX below half -/
  (∀ (s : State) (t : Nat) (fill t0 : Nat),
    (s.to t).flag B.NET_A_PAUSE_TX_EN = true →
    (s.to t).runs 10 (blkPort 0) = true →
    (s.to t).flag B.NET_A_CFG_ENABLE = true →
    (s.to t).net.pauseSent = some t0 →
    fill < 16384 →
    exec (.pauseTx t fill) s = .next { ((s.to t).netSent (.pause 0)) with
        net := { ((s.to t).netSent (.pause 0)).net with pauseSent := none } }) ∧
  /- PORT_B_COLLISION, a retry -/
  (∀ (s : State) (t : Nat) (x : TxItem) (r : Nat) (v : State),
    (s.to t).txHead 1 false = some x →
    (s.to t).txOpen 1 = true →
    x.tries < 15 →
    v = (s.to t).count (netCnt 1 10) →
    r = v.freeVal.toNat % 2 ^ min (x.tries + 1) 10 →
    exec (.portBCollision t false) s = .next (v.tookFree.setTxq 1 ((v.txq 1).map (fun y => if y.item.id = x.item.id
      then { y with tries := y.tries + 1, backoff := v.cyc + r * 25600 } else y)))) ∧
  /- PORT_B_COLLISION, the sixteenth -/
  (∀ (s : State) (t : Nat) (x : TxItem),
    (s.to t).txHead 1 false = some x →
    (s.to t).txOpen 1 = true →
    15 ≤ x.tries →
    exec (.portBCollision t false) s = .next (((((s.to t).count (netCnt 1 10)).count (netCnt 1 11)).txDrop 1 x).finish
      x.item 10 .rejConflict ⟨0, 1, 0⟩)) ∧
  /- PORT_B_COLLISION, late -/
  (∀ (s : State) (t : Nat) (x : TxItem),
    (s.to t).txHead 1 false = some x →
    (s.to t).txOpen 1 = true →
    exec (.portBCollision t true) s = .next ((((s.to t).count (netCnt 1 12)).txDrop 1 x).finish x.item 10 .rejConflict
      ⟨0, 2, 0⟩)) ∧
  /- PLCA_BEACON_TIMEOUT -/
  (∀ (s : State) (t : Nat),
    (s.to t).net.beaconAt + 130 * cycMs ≤ (s.to t).cyc →
    exec (.plcaBeaconTimeout t) s = .next ((s.to t).setFlag B.NET_B_STS_PLCA_UP false)) ∧
  /- PLCA_BEACON_RECEIVED -/
  (∀ (s : State) (t : Nat),
    (s.to t).runs 10 (blkPort 1) = true →
    (s.to t).flag B.NET_B_CFG_ENABLE = true →
    exec (.plcaBeaconReceived t) s = .next ((({ (s.to t) with
        net := { (s.to t).net with beaconAt := (s.to t).cyc } }) : State).setFlag B.NET_B_STS_PLCA_UP ((s.to t).flag
      B.NET_B_CFG_PLCA_EN))) ∧
  /- PREEMPTION_VERIFY -/
  (∀ (s : State) (t : Nat) (passed : Bool),
    (s.to t).runs 10 (blkPort 0) = true →
    (s.to t).flag B.NET_A_CFG_ENABLE = true →
    (s.to t).flag B.NET_A_CFG_PREEMPT = true →
    exec (.preemptionVerify t passed) s = .next ((s.to t).setFlag B.NET_A_STS_VERIFIED passed)) ∧
  /- PORT_LINK_CHANGE, Port A comes up -/
  (∀ (s : State) (t : Nat) (fast : Bool),
    (s.to t).runs 10 (blkPort 0) = true →
    (s.to t).flag B.NET_A_CFG_ENABLE = true →
    (s.to t).flag B.NET_A_STS_LINK = false →
    exec (.portLinkChange t 0 true fast false) s = .next (((((s.to t).setFlag B.NET_A_STS_LINK true).setFlag
      B.NET_A_STS_LINK_CHANGED true).fire 70).setFlag B.NET_A_STS_SPEED fast)) ∧
  /- PORT_LINK_CHANGE, Port B goes down -/
  (∀ (s : State) (t : Nat),
    (s.to t).runs 10 (blkPort 1) = true →
    (s.to t).flag B.NET_B_CFG_ENABLE = true →
    (s.to t).flag B.NET_B_STS_LINK = true →
    exec (.portLinkChange t 1 false false false) s = .next (((((s.to t).setFlag B.NET_B_STS_LINK false).setFlag
      B.NET_B_STS_LINK_CHANGED true).fire 70).setFlag B.NET_B_STS_PLCA_UP false))

/-- Where its checks pass, LOAD, GENERATE, DERIVE and IMPORT put the key in its slot and complete with slot and
KEY_ID, GENERATE and EXPORT writing the saddlebag to host memory. UNLOAD and REVOKE erase the key; their items wait
for its users. EPOCH_ADVANCE programs the next epoch and opens the window; REWRAP begins its long operation. -/
def Obligations.KeySlotsComplete : Prop :=
  /- LOAD -/
  (∀ (s : State) (t : Nat) (it : Item) (raw : List Byte) (plain : Option (List Byte)) (late : Bool) (k : Nat),
    (s.to t).goes 12 it ((s.to t).loadChecks it (loadBag it raw plain)) late = true →
    (s.to t).targetSlot (argBits it.d.arg0 8 0) = some k →
    exec (.tackLoad t it raw plain) s = .next ((((s.to t).unwait it.id).putSlot k (some (loadBag it raw
      plain).key)).finish (it.acting late) 12 .done (slotRes k (loadBag it raw plain).attr.id.toNat))) ∧
  /- GENERATE -/
  (∀ (s : State) (t : Nat) (it : Item) (mat : BitVec 512) (blob : List Byte) (late : Bool) (k : Nat),
    (s.to t).goes 12 it ((s.to t).generateChecks it) late = true →
    (s.to t).targetSlot (argBits it.d.arg1 8 0) = some k →
    exec (.tackGenerate t it mat blob) s = .next ((((((s.to t).unwait it.id).tookFree).putSlot k (some
      ⟨((s.to t).generateAttr it), ((s.to t).generateAttr it).trim mat, false, false⟩)).writeHost it.d.ptr.toNat
      (bagBytes ((s.to t).generateAttr it) ((s.to t).generateAttr it).anc0.toNat blob)).finish (it.acting late) 12
      .done (slotRes k (argBits it.d.arg1 63 32)))) ∧
  /- DERIVE -/
  (∀ (s : State) (t : Nat) (it : Item) (mat : BitVec 512) (late : Bool) (k : Nat),
    (s.to t).goes 12 it ((s.to t).deriveChecks it) late = true →
    (s.to t).targetSlot (argBits it.d.arg0 17 9) = some k →
    exec (.tackDerive t it mat) s = .next (((((s.to t).unwait it.id).tookFree).putSlot k (some ⟨(s.to t).deriveAttr
      it, ((s.to t).deriveAttr it).trim mat, false, false⟩)).finish (it.acting late) 12 .done (slotRes k (argBits
      it.d.arg0 63 32)))) ∧
  /- EXPORT -/
  (∀ (s : State) (t : Nat) (it : Item) (blob : List Byte) (late : Bool) (x : KeySlot) (w : Option KeyAttr),
    (s.to t).goes 12 it ((s.to t).exportChecks it) late = true →
    (s.to t).loaded? (argBits it.d.arg0 8 0) = some x →
    (s.to t).wrapKey? it (argBits it.d.arg0 24 16) = some w →
    exec (.tackExport t it blob) s = .next ((((s.to t).unwait it.id).writeHost it.d.ptr.toNat (bagBytes ({ x.attr with
        epoch := BitVec.ofNat 8 ((s.to t).unwait it.id).epoch }) ((w.map (fun y => y.id.toNat)).getD 0) blob)).finish
      (it.acting late) 12 .done (slotRes (argBits it.d.arg0 8 0) 0))) ∧
  /- IMPORT -/
  (∀ (s : State) (t : Nat) (it : Item) (plain : List Byte) (late : Bool) (k : Nat),
    (s.to t).goes 12 it ((s.to t).keyImportChecks it (some plain)) late = true →
    (s.to t).targetSlot (argBits it.d.arg0 17 9) = some k →
    exec (.tackImport t it (some plain)) s = .next ((((s.to t).unwait it.id).putSlot k (some ⟨(importAttr plain),
      materialOf (importAttr plain) plain, false, false⟩)).finish (it.acting late) 12 .done (slotRes k (importAttr
      plain).id.toNat))) ∧
  /- UNLOAD -/
  (∀ (s : State) (t : Nat) (it : Item) (late : Bool) (x : KeySlot),
    (s.to t).goes 12 it ((s.to t).tackChecks it true true ((s.to t).loaded? (argBits it.d.arg0 8 0)).isSome true) late
      = true →
    ((s.to t).unwait it.id).slotOf? (argBits it.d.arg0 8 0) = some x →
    exec (.tackUnload t it) s = .next ({ (((s.to t).unwait it.id).putSlot (argBits it.d.arg0 8 0) (some { x with
        mat := 0, leaving := true })) with
        tack := { (((s.to t).unwait it.id).putSlot (argBits it.d.arg0 8 0) (some { x with
            mat := 0, leaving := true })).tack with
            waits := (((s.to t).unwait it.id).putSlot (argBits it.d.arg0 8 0) (some { x with
                mat := 0, leaving := true })).tack.waits ++ [KeyWait.mk (it.acting late) [(argBits it.d.arg0 8 0)]
              ((((s.to t).unwait it.id).putSlot (argBits it.d.arg0 8 0) (some { x with
                mat := 0, leaving := true })).usersOf [(argBits it.d.arg0 8 0)]) ⟨(argBits it.d.arg0 8 0), 0, 0⟩] } }
      : State).settleKeys) ∧
  /- REVOKE -/
  (∀ (s : State) (t : Nat) (it : Item) (late : Bool),
    (s.to t).goes 12 it ((s.to t).tackChecks it ((argBits it.d.arg0 31 0) != 0) true true
      ((s.to t).tack.revoked.contains (argBits it.d.arg0 31 0) || (s.to t).tack.revoked.length < 1024)) late = true →
    (s.to t).tack.revoked.contains (argBits it.d.arg0 31 0) = false →
    exec (.tackRevoke t it) s = .next (((s.to t).unwait it.id).revokeKey (it.acting late) (argBits it.d.arg0 31 0))) ∧
  /- EPOCH_ADVANCE with no window open -/
  (∀ (s : State) (t : Nat) (it : Item) (late : Bool),
    (s.to t).goes 12 it ((s.to t).tackChecks it true true true ((s.to t).epoch < 62 && !(s.to t).tampered &&
      (s.to t).tack.rewrap.isNone)) late = true →
    ((s.to t).unwait it.id).tack.kekPrev = false →
    exec (.epochAdvance t it) s = .next (((({ (((s.to t).unwait it.id).setOtp { ((s.to t).unwait it.id).chip.part.otp
      with epochs := ((s.to t).unwait it.id).chip.part.otp.epochs + 1 }) with
        tack := { (((s.to t).unwait it.id).setOtp { ((s.to t).unwait it.id).chip.part.otp with
            epochs := ((s.to t).unwait it.id).chip.part.otp.epochs + 1 }).tack with
            kekPrev := (((s.to t).unwait it.id).setOtp { ((s.to t).unwait it.id).chip.part.otp with
                epochs := ((s.to t).unwait it.id).chip.part.otp.epochs + 1 }).tack.kek, kek := true } } :
      State)).reportTack.tackEvent 3 0 (({ (((s.to t).unwait it.id).setOtp { ((s.to t).unwait it.id).chip.part.otp
      with epochs := ((s.to t).unwait it.id).chip.part.otp.epochs + 1 }) with
        tack := { (((s.to t).unwait it.id).setOtp { ((s.to t).unwait it.id).chip.part.otp with
            epochs := ((s.to t).unwait it.id).chip.part.otp.epochs + 1 }).tack with
            kekPrev := (((s.to t).unwait it.id).setOtp { ((s.to t).unwait it.id).chip.part.otp with
                epochs := ((s.to t).unwait it.id).chip.part.otp.epochs + 1 }).tack.kek, kek := true } } :
      State)).epoch).finish (it.acting late) 12 .done ⟨(({ (((s.to t).unwait it.id).setOtp { ((s.to t).unwait
      it.id).chip.part.otp with epochs := ((s.to t).unwait it.id).chip.part.otp.epochs + 1 }) with
        tack := { (((s.to t).unwait it.id).setOtp { ((s.to t).unwait it.id).chip.part.otp with
            epochs := ((s.to t).unwait it.id).chip.part.otp.epochs + 1 }).tack with
            kekPrev := (((s.to t).unwait it.id).setOtp { ((s.to t).unwait it.id).chip.part.otp with
                epochs := ((s.to t).unwait it.id).chip.part.otp.epochs + 1 }).tack.kek, kek := true } } :
      State)).epoch, 0, 0⟩)) ∧
  /- REWRAP -/
  (∀ (s : State) (t : Nat) (it : Item) (raw : List Byte) (opens : List (Option (List Byte) × List Byte)) (late : Bool)
    (bags : List (Saddlebag × List Byte)),
    bags = bagsIn ((raw.take it.d.len.toNat).length / 64 + 1) (raw.take it.d.len.toNat) opens →
    (s.to t).goes 12 it ((s.to t).tackChecks it (it.d.len.toNat ≤ argBits it.d.arg1 31 0) true true
      (((s.to t).tack.kekPrev || (s.to t).anyWrap) && !(s.to t).tampered && (s.to t).tack.rewrap.isNone)) late = true
      →
    exec (.tackRewrap t it raw opens) s = .next (({ ((s.to t).unwait it.id) with
        tack := { ((s.to t).unwait it.id).tack with rewrap := some ⟨it.handle.1, it.handle.2, bags, 0, 0⟩ } } :
      State).startLong (it.acting late) 12 bags.length 0))

/-- Where its checks pass, SIGN, RANDOM, PUBKEY and ATTEST write their output to host memory and complete DONE, and
MAC completes with the tag. ZEROISE erases the keys with source bit 8 and completes DONE; each new assertion of an
enabled tamper source zeroises with its bit, and its end clears its live bit. TAMPER_CLEAR acknowledges the tamper
log and restores the KEK. -/
def Obligations.KeyUseAndZeroiseComplete : Prop :=
  /- SIGN -/
  (∀ (s : State) (t : Nat) (it : Item) (sig : List Byte) (late : Bool) (n : Nat),
    (s.to t).goes 12 it ((s.to t).tackChecks it (it.d.len.toNat ≤ 65536) true ((s.to t).useSlot? (argBits it.d.arg0 8
      0) 3).isSome true) late = true →
    (((s.to t).unwait it.id).loaded? (argBits it.d.arg0 8 0)).map (fun x => sigLen x.attr.type.toNat) = some n →
    exec (.tackSign t it sig) s = .next ((((s.to t).unwait it.id).writeHost it.d.arg1.toNat (fitBytes n sig)).finish
      (it.acting late) 12 .done)) ∧
  /- MAC -/
  (∀ (s : State) (t : Nat) (it : Item) (mac : BitVec 192) (late : Bool),
    (s.to t).goes 12 it ((s.to t).tackChecks it (it.d.len.toNat ≤ 65536) true ((s.to t).useSlot? (argBits it.d.arg0 8
      0) 4).isSome true) late = true →
    exec (.tackMac t it mac) s = .next (((s.to t).unwait it.id).finish (it.acting late) 12 .done ⟨mac.toNat % 2 ^ 64,
      mac.toNat / 2 ^ 64 % 2 ^ 64, mac.toNat / 2 ^ 128⟩)) ∧
  /- RANDOM -/
  (∀ (s : State) (t : Nat) (it : Item) (bytes : List Byte) (late : Bool),
    (s.to t).goes 12 it ((s.to t).tackChecks it (1 ≤ it.d.len.toNat && it.d.len.toNat ≤ 4096) true true true) late =
      true →
    exec (.tackRandom t it bytes) s = .next ((((s.to t).unwait it.id).writeHost it.d.ptr.toNat (fitBytes
      it.d.len.toNat bytes)).finish (it.acting late) 12 .done)) ∧
  /- PUBKEY -/
  (∀ (s : State) (t : Nat) (it : Item) (pub : List Byte) (late : Bool),
    (s.to t).goes 12 it ((s.to t).pubkeyChecks it) late = true →
    exec (.tackPubkey t it pub) s = .next ((((s.to t).unwait it.id).writeHost it.d.ptr.toNat (fitBytes (pubLen
      ((s.to t).pubType it)) pub)).finish (it.acting late) 12 .done)) ∧
  /- ATTEST -/
  (∀ (s : State) (t : Nat) (it : Item) (digest : BitVec 384) (sigs : List Byte) (late : Bool),
    (s.to t).goes 12 it ((s.to t).tackChecks it (3565 ≤ it.d.len.toNat) true ((s.to t).tack.identity && (argBit
      it.d.arg0 10 || (s.to t).plainSlot it)) true) late = true →
    exec (.tackAttest t it digest sigs) s = .next ((((s.to t).unwait it.id).writeHost it.d.ptr.toNat (((s.to t).unwait
      it.id).statement (if argBit it.d.arg0 10 then none else ((s.to t).loaded? (argBits it.d.arg0 8 0)).map
      KeySlot.attr) digest it.d.arg1 it.d.arg2 ++ fitBytes 3405 sigs)).finish (it.acting late) 12 .done)) ∧
  /- ZEROISE -/
  (∀ (s : State) (t : Nat) (it : Item) (late : Bool),
    (s.to t).goes 12 it ((s.to t).tackChecks it true true true true) late = true →
    exec (.tackZeroise t it) s = .next ((((s.to t).unwait it.id).zeroised 0x100).finish (it.acting late) 12 .done)) ∧
  /- TAMPER_CLEAR -/
  (∀ (s : State) (t : Nat) (it : Item) (late : Bool),
    (s.to t).goes 12 it ((s.to t).tackChecks it true true true (!(s.to t).halter && (s.to t).get B.WHOA_KEY_POS == 1
      && (s.to t).rd Reg.TACK_TAMPER_LIVE == 0 && !(s.to t).chip.part.otp.exhausted && (s.to t).tampered)) late = true
      →
    exec (.tamperClear t it) s = .next (((({ (((s.to t).unwait it.id).setOtp { ((s.to t).unwait it.id).chip.part.otp
      with acks := ((s.to t).unwait it.id).chip.part.otp.tampers }) with
        tack := { (((s.to t).unwait it.id).setOtp { ((s.to t).unwait it.id).chip.part.otp with
            acks := ((s.to t).unwait it.id).chip.part.otp.tampers }).tack with kek := true } } :
      State).reportTack).tackEvent 2 0 0).finish (it.acting late) 12 .done ⟨(({ (((s.to t).unwait it.id).setOtp {
      ((s.to t).unwait it.id).chip.part.otp with acks := ((s.to t).unwait it.id).chip.part.otp.tampers }) with
        tack := { (((s.to t).unwait it.id).setOtp { ((s.to t).unwait it.id).chip.part.otp with
            acks := ((s.to t).unwait it.id).chip.part.otp.tampers }).tack with kek := true } } :
      State).reportTack).epoch, 0, 0⟩)) ∧
  /- TAMPER_DETECT, a new assertion -/
  (∀ (s : State) (t : Nat) (seen : TamperSeen),
    seen.holds ((s.to t).get B.TACK_TAMPER_CFG_IN_MESH) = true →
    (s.to t).tamperEnabled seen.source = true →
    (((s.to t).rd Reg.TACK_TAMPER_LIVE)).testBit seen.source = false →
    exec (.tamperDetect t seen) s = .next (((s.to t).wr Reg.TACK_TAMPER_LIVE (((s.to t).rd Reg.TACK_TAMPER_LIVE) ||| 2
      ^ seen.source)).reportTack.zeroised (2 ^ seen.source))) ∧
  /- TAMPER_DETECT, an end -/
  (∀ (s : State) (t : Nat) (seen : TamperSeen),
    seen.holds ((s.to t).get B.TACK_TAMPER_CFG_IN_MESH) = false →
    exec (.tamperDetect t seen) s = .next (((s.to t).wr Reg.TACK_TAMPER_LIVE (((s.to t).rd Reg.TACK_TAMPER_LIVE) -
      (((s.to t).rd Reg.TACK_TAMPER_LIVE) &&& 2 ^ seen.source))).reportTack))

/-- Where its checks pass, ARM takes the sources as their registers stand and starts the capture, or primes it; FIRE
triggers an armed capture and completes DONE; DISARM stops the capture and completes DONE; DISCARD drops a held one
and completes DONE; READOUT writes the header and begins its units. -/
def Obligations.RecorderOperationsComplete : Prop :=
  /- ARM that primes -/
  (∀ (s : State) (t : Nat) (it : Item) (late : Bool) (v w x : State),
    (s.to t).goes 14 it ⟨(s.to t).armRange it.d, true, true, (s.to t).recState == recIdle || ((s.to t).recState ==
      recHeld && !(s.to t).flag B.REC_STS_READING)⟩ late = true →
    argBit it.d.arg0 1 = true →
    v = ((s.to t).unwait it.id).wr Reg.REC_CAP_ID ((((s.to t).unwait it.id).rd Reg.REC_CAP_ID + 1) % 2 ^ 32) →
    w = { v with
        recd := { v.recd with
            srcs := (List.range 8).map (fun n => v.recSource n), arm := some (it.acting late), trig := none, poisoned
              := false, overran := false } } →
    x = ((w.set B.REC_STS_TRIG_WORD 0).set B.REC_STS_FIRST_SOURCE 0).wr64 Reg.REC_TRIG_TIME 0 →
    exec (.recArm t it) s = .next (x.setRecState recPrimed)) ∧
  /- ARM that starts -/
  (∀ (s : State) (t : Nat) (it : Item) (late : Bool) (v w x : State),
    (s.to t).goes 14 it ⟨(s.to t).armRange it.d, true, true, (s.to t).recState == recIdle || ((s.to t).recState ==
      recHeld && !(s.to t).flag B.REC_STS_READING)⟩ late = true →
    argBit it.d.arg0 1 = false →
    argBit it.d.arg0 0 = false →
    v = ((s.to t).unwait it.id).wr Reg.REC_CAP_ID ((((s.to t).unwait it.id).rd Reg.REC_CAP_ID + 1) % 2 ^ 32) →
    w = { v with
        recd := { v.recd with
            srcs := (List.range 8).map (fun n => v.recSource n), arm := some (it.acting late), trig := none, poisoned
              := false, overran := false } } →
    x = ((w.set B.REC_STS_TRIG_WORD 0).set B.REC_STS_FIRST_SOURCE 0).wr64 Reg.REC_TRIG_TIME 0 →
    exec (.recArm t it) s = .next x.armed) ∧
  /- ARM of the master -/
  (∀ (s : State) (t : Nat) (it : Item) (late : Bool) (v w x y : State),
    (s.to t).goes 14 it ⟨(s.to t).armRange it.d, true, true, (s.to t).recState == recIdle || ((s.to t).recState ==
      recHeld && !(s.to t).flag B.REC_STS_READING)⟩ late = true →
    argBit it.d.arg0 1 = false →
    argBit it.d.arg0 0 = true →
    v = ((s.to t).unwait it.id).wr Reg.REC_CAP_ID ((((s.to t).unwait it.id).rd Reg.REC_CAP_ID + 1) % 2 ^ 32) →
    w = { v with
        recd := { v.recd with
            srcs := (List.range 8).map (fun n => v.recSource n), arm := some (it.acting late), trig := none, poisoned
              := false, overran := false } } →
    x = ((w.set B.REC_STS_TRIG_WORD 0).set B.REC_STS_FIRST_SOURCE 0).wr64 Reg.REC_TRIG_TIME 0 →
    y = x.armed →
    y.flag B.REC_SYNC_CFG_DRIVE_EN = true →
    (y.recSend (.syncLow false)).flag B.REC_SYNC_CFG_BYL_EN = true →
    exec (.recArm t it) s = .next ((y.recSend (.syncLow false)).bylSend (.recArm ((y.recSend (.syncLow false)).rd
      Reg.REC_CAP_ID)))) ∧
  /- FIRE -/
  (∀ (s : State) (t : Nat) (it : Item) (late : Bool),
    (s.to t).goes 14 it ⟨it.d.context == 0, true, true, (s.to t).recState == recArmed⟩ late = true →
    exec (.recFire t it) s = .next ((((s.to t).unwait it.id).trigger 1 ((s.to t).unwait it.id).devNs).finish
      (it.acting late) 14 .done)) ∧
  /- DISARM -/
  (∀ (s : State) (t : Nat) (it : Item) (late : Bool),
    (s.to t).goes 14 it ⟨it.d.context == 0, true, true, (s.to t).recState == recPrimed || (s.to t).recState ==
      recArmed || (s.to t).recState == recTriggered⟩ late = true →
    exec (.recDisarm t it) s = .next (((s.to t).unwait it.id).disarm.finish (it.acting late) 14 .done)) ∧
  /- DISCARD -/
  (∀ (s : State) (t : Nat) (it : Item) (late : Bool),
    (s.to t).goes 14 it ⟨it.d.context == 0, true, true, (s.to t).recState == recHeld && !(s.to t).flag
      B.REC_STS_READING⟩ late = true →
    exec (.recDiscard t it) s = .next ((({ ((s.to t).unwait it.id) with
        recd := { ((s.to t).unwait it.id).recd with srcs := [], trig := none } } : State).setRecState recIdle).finish
      (it.acting late) 14 .done)) ∧
  /- READOUT -/
  (∀ (s : State) (t : Nat) (it : Item) (nonce : BitVec 64) (late : Bool),
    (s.to t).goes 14 it ((s.to t).readoutChecks it.d) late = true →
    exec (.recReadout t it nonce) s = .next (((s.to t).unwait it.id).beginReadout (it.acting late) nonce.toNat))

/-- The enabled trigger sources that fire trigger an armed capture; a triggered capture whose sources have their POST
is held and its ARM completes DONE. A TRIG_SYNC low of 500 to 3,000 ns triggers at its edge less the delay, one of
8,000 to 12,000 ns arms a primed capture, another is counted as an error. The partner's arm and fire messages arm
and trigger. -/
def Obligations.RecorderEventsComplete : Prop :=
  /- REC_TRIGGER -/
  (∀ (s : State) (t : Nat),
    (s.to t).runs 14 blkTrigger = true →
    exec (.recTrigger t) s = .next ((s.to t).trigger 0 0)) ∧
  /- A trigger of an armed capture -/
  (∀ (s : State) (t : Nat) (word at_ f i : Nat) (v y z : State),
    (s.to t).recState = recArmed →
    (s.to t).firedBy word at_ = some (f, i) →
    v = (((({ (s.to t) with recd := { (s.to t).recd with trig := some i, fired := none } } : State).setRecState
      recTriggered).wr64 Reg.REC_TRIG_TIME i).set B.REC_STS_TRIG_WORD f).set B.REC_STS_FIRST_SOURCE (lowestBit f) →
    y = v.recEvent 1 (f + lowestBit f * 2 ^ 8) i →
    z = (if y.flag B.REC_SYNC_CFG_DRIVE_EN = true then y.recSend (.syncLow true) else y) →
    (s.to t).trigger word at_ = (if z.flag B.REC_SYNC_CFG_BYL_EN = true then z.bylSend (.recFire i) else z)) ∧
  /- CAPTURE_FILLED -/
  (∀ (s : State) (t : Nat),
    (s.to t).recState = recTriggered →
    (s.to t).recSrcs.all (fun x => !x.2.en || x.2.gotPost x.1 (s.to t).recd.trig == x.2.post) = true →
    exec (.captureFilled t) s = .next ((s.to t).endCapture recHeld .done)) ∧
  /- TRIG_SYNC_PULSE that triggers -/
  (∀ (s : State) (t : Nat) (width edge : Nat),
    (s.to t).flag B.REC_SYNC_CFG_SYNC_EN = true →
    (s.to t).runs 14 blkTrigger = true →
    500 ≤ width ∧ width ≤ 3000 →
    exec (.trigSyncPulse t width edge) s = .next ((s.to t).trigger 2 (edge - (s.to t).get B.REC_SYNC_CFG_DELAY))) ∧
  /- TRIG_SYNC_PULSE that arms -/
  (∀ (s : State) (t : Nat) (width edge : Nat),
    (s.to t).flag B.REC_SYNC_CFG_SYNC_EN = true →
    (s.to t).runs 14 blkTrigger = true →
    8000 ≤ width ∧ width ≤ 12000 →
    (s.to t).recState = recPrimed →
    exec (.trigSyncPulse t width edge) s = .next (s.to t).armed) ∧
  /- TRIG_SYNC_PULSE of neither width -/
  (∀ (s : State) (t : Nat) (width edge : Nat),
    (s.to t).flag B.REC_SYNC_CFG_SYNC_EN = true →
    (s.to t).runs 14 blkTrigger = true →
    ¬ (500 ≤ width ∧ width ≤ 3000) →
    ¬ (8000 ≤ width ∧ width ≤ 12000) →
    exec (.trigSyncPulse t width edge) s = .next ((((s.to t).count Reg.REC_CNT_SYNC_ERR).setFlag B.REC_STS_SYNC_ERR
      true).recEvent 3 0 0)) ∧
  /- REC_ARM_MESSAGE -/
  (∀ (s : State) (t : Nat) (rx : BylRx) (f : BylFrame) (p : List Byte) (v : State),
    ((s.to t).takeSealed rx 0x05).2 = some (f, p) →
    (((s.to t).takeSealed rx 0x05).1).byl.lastSeq.all (fun q => decide (q < f.seq)) = true →
    v = { (((s.to t).takeSealed rx 0x05).1) with
        byl := { (((s.to t).takeSealed rx 0x05).1).byl with lastSeq := some f.seq } } →
    v.runs 14 blkTrigger = true →
    v.flag B.REC_SYNC_CFG_BYL_EN = true →
    v.recState = recPrimed →
    exec (.recArmMessage t rx) s = .next (v.armed)) ∧
  /- REC_FIRE_MESSAGE -/
  (∀ (s : State) (t : Nat) (rx : BylRx) (f : BylFrame) (p : List Byte) (v : State),
    ((s.to t).takeSealed rx 0x06).2 = some (f, p) →
    (((s.to t).takeSealed rx 0x06).1).byl.lastSeq.all (fun q => decide (q < f.seq)) = true →
    v = { (((s.to t).takeSealed rx 0x06).1) with
        byl := { (((s.to t).takeSealed rx 0x06).1).byl with lastSeq := some f.seq } } →
    v.runs 14 blkTrigger = true →
    v.flag B.REC_SYNC_CFG_BYL_EN = true →
    exec (.recFireMessage t rx) s = .next (v.trigger 2 (leAt p 0 8)))

/-- A thermal sample reports the hottest sensor and moves the level where Table PWR-5 does. STABLE_ENTER in the state
R474 asks for completes and takes the chip to Stabled. A wake source that CHIP_WAKE_EN enables begins the wake with
its bit in WAKE_SRC; one that it disables is ignored; 8 ms later the chip serves again. -/
def Obligations.ThermalLevelsAndWakeComplete : Prop :=
  /- THERMAL_SAMPLE that keeps the level -/
  (∀ (s : State) (t : Nat) (l : List (Fin 16 × BitVec 8)),
    ((s.to t).chip.powered && !(s.to t).chip.stabled && !(s.to t).chip.railWait && !l.isEmpty) = true →
    ((s.to t).readTherm (hottest (l.map (fun p => (p.1.val, p.2.toInt))))).nextLevel (((s.to t).readTherm (hottest
      (l.map (fun p => (p.1.val, p.2.toInt))))).get B.CHIP_THERM_STS_LEVEL) = ((s.to t).readTherm (hottest (l.map (fun
      p => (p.1.val, p.2.toInt))))).get B.CHIP_THERM_STS_LEVEL →
    exec (.thermalSample t l) s = .next ((s.to t).readTherm (hottest (l.map (fun p => (p.1.val, p.2.toInt)))))) ∧
  /- THERMAL_SAMPLE that moves the level -/
  (∀ (s : State) (t : Nat) (l : List (Fin 16 × BitVec 8)),
    ((s.to t).chip.powered && !(s.to t).chip.stabled && !(s.to t).chip.railWait && !l.isEmpty) = true →
    ¬ (((s.to t).readTherm (hottest (l.map (fun p => (p.1.val, p.2.toInt))))).nextLevel (((s.to t).readTherm (hottest
      (l.map (fun p => (p.1.val, p.2.toInt))))).get B.CHIP_THERM_STS_LEVEL) = ((s.to t).readTherm (hottest (l.map (fun
      p => (p.1.val, p.2.toInt))))).get B.CHIP_THERM_STS_LEVEL) →
    let v := ((s.to t).readTherm (hottest (l.map (fun p => (p.1.val, p.2.toInt)))))
    exec (.thermalSample t l) s = .next (v.setLevel (v.nextLevel (v.get B.CHIP_THERM_STS_LEVEL)) (hottest (l.map (fun
      p => (p.1.val, p.2.toInt)))).2)) ∧
  /- STABLE_ENTER -/
  (∀ (s : State) (t : Nat) (it : Item) (late : Bool),
    (s.to t).goes 0 it { Checks.pass with range := it.d.context == 0, state := (s.to t).mayStable it } late = true →
    exec (.stableEnter t it) s = .next (((s.to t).unwait it.id).leaveRun (it.acting late))) ∧
  /- WAKE_SOURCE -/
  (∀ (s : State) (t : Nat) (src : Fin 6),
    (s.to t).chip.stabled = true →
    ((s.to t).get B.CHIP_WAKE_EN_EN).testBit src.val = true →
    (src.val == 2 && decide ((s.to t).devNs < (s.to t).rd64 Reg.CHIP_WAKE_TIME)) = false →
    let w := ((s.to t).beginWake (2 ^ src.val))
    exec (.wakeSource t src) s = .next { w with chip := { w.chip with pwrEn := true } }) ∧
  /- WAKE_SOURCE, disabled -/
  (∀ (s : State) (t : Nat) (src : Fin 6),
    ((s.to t).get B.CHIP_WAKE_EN_EN).testBit src.val = false →
    exec (.wakeSource t src) s = .next (s.to t)) ∧
  /- WAKE_DONE -/
  (∀ (s : State) (t : Nat) (c : Nat),
    (s.to t).chip.wakeAt = some c →
    c + 8 * cycMs ≤ (s.to t).cyc →
    exec (.wakeDone t) s = .next (s.to t).awake)

/-- Where its checks pass, IMG_WRITE starts its long operation on the slot that was not booted; IMG_ACTIVATE writes
the boot record; IMG_CONFIRM raises the anti-rollback counters and ends the trial; OTP_PROGRAM programs the fuses
and completes DONE, or FAIL_FAULT where the readback differs; DEBUG_UNLOCK unlocks the policy and completes DONE.
That a readback mismatch leaves the fuses is the model's choice (log entry 42). -/
def Obligations.ImagesAndFusesComplete : Prop :=
  /- IMG_WRITE -/
  (∀ (s : State) (t : Nat) (it : Item) (img : Image) (late : Bool) (v w : State) (b : Bool),
    (s.to t).goes 0 it (imageChecks (it.d.context == 0) (((s.to t).checkIn it.d.len.toNat img (argBit it.d.arg0 0)
      false).map ImgFail.status) (s.to t).updatable) late = true →
    v = (s.to t).unwait it.id →
    b = v.spareSlot (argBit it.d.arg0 0) →
    w = { v with chip := { v.chip with writing := some ⟨it.handle.1, it.handle.2, argBit it.d.arg0 0, b, img⟩ } } →
    exec (.imgWrite t it img) s = .next (w.startLong (it.acting late) 0 ((it.d.len.toNat + 65535) / 65536 + 1) (if b
      then 1 else 0))) ∧
  /- IMG_ACTIVATE -/
  (∀ (s : State) (t : Nat) (it : Item) (late : Bool),
    (s.to t).goes 0 it ((s.to t).activateChecks it.d) late = true →
    exec (.imgActivate t it) s = .next (((s.to t).unwait it.id).activateImages (it.acting late))) ∧
  /- IMG_CONFIRM -/
  (∀ (s : State) (t : Nat) (it : Item) (late : Bool),
    (s.to t).goes 0 it { Checks.pass with
        range := it.d.context == 0 && it.d.ptr == 0 && it.d.len == 0, state := !(s.to t).halter && ((s.to t).flag
          B.CHIP_BOOT_STS_SOURCE || (s.to t).trialRuns) } late = true →
    exec (.imgConfirm t it) s = .next (((s.to t).unwait it.id).confirmImages (it.acting late))) ∧
  /- OTP_PROGRAM that reads back -/
  (∀ (s : State) (t : Nat) (it : Item) (r : OtpReq) (late : Bool),
    (s.to t).goes 0 it (imageChecks (it.d.context == 0) ((s.to t).otpFail r it.d.len.toNat) ((s.to t).otpState r))
      late = true →
    r.readback = true →
    exec (.otpProgram t it r) s = .next (((((s.to t).unwait it.id).setOtp (((s.to t).unwait
      it.id).chip.part.otp.program r)).reportPolicy).finish (it.acting late) 0 .done)) ∧
  /- OTP_PROGRAM that does not -/
  (∀ (s : State) (t : Nat) (it : Item) (r : OtpReq) (late : Bool),
    (s.to t).goes 0 it (imageChecks (it.d.context == 0) ((s.to t).otpFail r it.d.len.toNat) ((s.to t).otpState r))
      late = true →
    r.readback = false →
    exec (.otpProgram t it r) s = .next (((s.to t).unwait it.id).finish (it.acting late) 0 .failFault)) ∧
  /- DEBUG_UNLOCK -/
  (∀ (s : State) (t : Nat) (it : Item) (r : OtpReq) (late : Bool),
    (s.to t).goes 0 it (imageChecks (it.d.context == 0) ((s.to t).unlockFail r it.d.len.toNat) ((s.to t).policy == 1))
      late = true →
    exec (.debugUnlock t it r) s = .next (((s.to t).unwait it.id).unlockDebug.finish (it.acting late) 0 .done))

/-- A change of HITCH_IN is taken and reported; one to ABSENT while the link is UP and the chip is no SOLO is a hitch
fault. A claim whose 20 µs have passed wins the token on a quiet line, yields to the senior's claim, and finds equal
straps. A chip in COLD claims at its start, a HOT standby on heartbeat loss or YIELD, a COLD standby after
CLAIM_WAIT_S with its stop requested. A TOKEN_RELEASE case gives the token back to a HOT partner. -/
def Obligations.HitchLineAndTokenComplete : Prop :=
  /- HITCH_IN_CHANGE -/
  (∀ (s : State) (t : Nat) (seen : HitchIn) (pat : Hitch),
    seen.pattern = some pat →
    (s.to t).runs 15 blkHitch = true →
    (pat == .absent && (s.to t).byl.lineIn != .absent && (s.to t).bylUp && (s.to t).role != roleSolo) = false →
    exec (.hitchInChange t seen) s = .next ((s.to t).takeLine pat).bylEval) ∧
  /- HITCH_IN_CHANGE that is a fault -/
  (∀ (s : State) (t : Nat) (seen : HitchIn),
    seen.pattern = some .absent →
    (s.to t).runs 15 blkHitch = true →
    (s.to t).byl.lineIn ≠ .absent →
    (s.to t).bylUp = true →
    (s.to t).role ≠ roleSolo →
    exec (.hitchInChange t seen) s = .next (((((s.to t).takeLine .absent).setFlag B.BYL_PAIR_STS_HITCH_FAULT
      true).bylEvent 4 0).bylEval)) ∧
  /- TOKEN_CLAIM_CHECK on a line without a holder -/
  (∀ (s : State) (t : Nat) (c : Nat) (w : ClaimFor),
    (s.to t).byl.claim = some (c, w) →
    c + 20 * cycUs ≤ (s.to t).cyc →
    (s.to t).runs 15 blkHitch = true →
    (s.to t).byl.lineIn.isHeld = false →
    exec (.tokenClaimCheck t) s = .next ((s.to t).gotToken w)) ∧
  /- TOKEN_CLAIM_CHECK with equal straps -/
  (∀ (s : State) (t : Nat) (c : Nat) (w : ClaimFor),
    (s.to t).byl.claim = some (c, w) →
    c + 20 * cycUs ≤ (s.to t).cyc →
    (s.to t).runs 15 blkHitch = true →
    (s.to t).byl.lineIn.isHeld = true →
    (s.to t).byl.lineIn = (s.to t).ownHeld →
    exec (.tokenClaimCheck t) s = .next (((({ (s.to t) with
        byl := { (s.to t).byl with lineOut := .present, claim := none } } : State).setFlag B.BYL_PAIR_STS_STRAP_ERR
      true).bylEvent 8 0))) ∧
  /- TOKEN_CLAIM_CHECK of the senior -/
  (∀ (s : State) (t : Nat) (c : Nat) (w : ClaimFor),
    (s.to t).byl.claim = some (c, w) →
    c + 20 * cycUs ≤ (s.to t).cyc →
    (s.to t).runs 15 blkHitch = true →
    (s.to t).byl.lineIn.isHeld = true →
    (s.to t).byl.lineIn ≠ (s.to t).ownHeld →
    (s.to t).flag B.BYL_PAIR_STS_SENIOR = true →
    exec (.tokenClaimCheck t) s = .next ((s.to t).gotToken w)) ∧
  /- TOKEN_CLAIM_CHECK of the junior -/
  (∀ (s : State) (t : Nat) (c : Nat) (w : ClaimFor),
    (s.to t).byl.claim = some (c, w) →
    c + 20 * cycUs ≤ (s.to t).cyc →
    (s.to t).runs 15 blkHitch = true →
    (s.to t).byl.lineIn.isHeld = true →
    (s.to t).byl.lineIn ≠ (s.to t).ownHeld →
    (s.to t).flag B.BYL_PAIR_STS_SENIOR = false →
    exec (.tokenClaimCheck t) s = .next { (s.to t) with
        byl := { (s.to t).byl with lineOut := .present, claim := none } }) ∧
  /- CLAIM_WAIT_EXPIRY -/
  (∀ (s : State) (t : Nat),
    (s.to t).role = roleCold →
    (s.to t).byl.begun = false →
    (if (s.to t).flag B.BYL_PAIR_STS_SENIOR then (s.to t).quietFor ((s.to t).param P.CLAIM_WAIT_S * cycMs) else
      (s.to t).absentFor ((s.to t).param P.CLAIM_WAIT_J * cycMs)) = true →
    (s.to t).partnerActive = false →
    (s.to t).mayClaim = true →
    exec (.claimWaitExpiry t) s = .next ((s.to t).beginClaim .start)) ∧
  /- TAKEOVER -/
  (∀ (s : State) (t : Nat),
    (s.to t).role = roleHot →
    ((s.to t).byl.lost || (s.to t).partnerYields) = true →
    (s.to t).byl.lineIn.isHeld = false →
    (s.to t).mayClaim = true →
    exec (.takeover t) s = .next ((s.to t).beginClaim (.takeover (s.to t).takeoverDiscs))) ∧
  /- COLD_TAKEOVER -/
  (∀ (s : State) (t : Nat),
    (s.to t).role = roleCold →
    (s.to t).flag B.BYL_PAIR_CFG_COLD_TAKEOVER = true →
    ((s.to t).byl.lost || !(s.to t).bylUp) = true →
    (s.to t).absentFor ((s.to t).param P.CLAIM_WAIT_S * cycMs) = true →
    (s.to t).mayClaim = true →
    exec (.coldTakeover t) s = .next ((s.to t).requestStop.beginClaim .cold)) ∧
  /- TOKEN_RELEASE -/
  (∀ (s : State) (t : Nat) (partnerHeads : Bool),
    (s.to t).role = roleActive →
    (s.to t).runs 15 blkHitch = true →
    (s.to t).partnerHot = true →
    (((s.to t).air.counting && decide ((s.to t).air.sfStart + 60000000 ≤ (s.to t).devNs) && ((s.to t).headsUp.isEmpty
      || (s.to t).air.builtFor != some (((s.to t).sfn + 1) % 2 ^ 48))) || (s.to t).flag B.AIR_STS_BEACON_NOKEY ||
      (partnerHeads && (s.to t).headsUp.isEmpty && decide ((s.to t).byl.headsAt + 20 * cycMs ≤ (s.to t).cyc))) = true
      →
    exec (.tokenRelease t partnerHeads) s = .next ((s.to t).releaseToken false))

/-- A training trains the link at the widest width its lanes allow and sends HELLO; the partner's HELLO is taken; a
CONFIRM whose tag is right under the link key brings the link UP, another sets AUTH_FAIL, and a second later HELLO
goes out again. Frames that no ACK confirms for 50 µs are sent again. A lost link retrains. Heartbeats are sent on
each 10 ms and taken when newer; the third miss in a row is heartbeat loss. -/
def Obligations.PairLinkCommandsComplete : Prop :=
  /- BYL_LINK_TRAINED on four lanes -/
  (∀ (s : State) (t : Nat) (lanes : List (List (BitVec 130))) (skew : List Nat) (delay : Nat) (v w : State),
    (s.to t).role ≠ roleSolo →
    (s.to t).runs 15 blkLanes = true →
    (s.to t).get B.BYL_LINK_STS_STATE < 2 →
    (([0, 1, 2, 3].all fun k => laneLocks 0 (lanes.getD k [])) && deskewed [0, 1, 2, 3] skew) = true →
    v = (s.to t).set B.BYL_LINK_STS_LANES_OK ((List.range 4).foldl (fun m k => if laneLocks 0 (lanes.getD k []) then m
      + 2 ^ k else m) 0) →
    w = { v with byl := { v.byl with rxScr := scrSeeds, rxChunks := [], delay := delay } } →
    exec (.bylLinkTrained t lanes skew delay) s = .next (((w.set B.BYL_LINK_STS_WIDTH 3).set B.BYL_LINK_STS_STATE
      2).sendHello)) ∧
  /- BYL_LINK_TRAINED on lanes 0 and 1 -/
  (∀ (s : State) (t : Nat) (lanes : List (List (BitVec 130))) (skew : List Nat) (delay : Nat) (v w : State),
    (s.to t).role ≠ roleSolo →
    (s.to t).runs 15 blkLanes = true →
    (s.to t).get B.BYL_LINK_STS_STATE < 2 →
    (([0, 1, 2, 3].all fun k => laneLocks 0 (lanes.getD k [])) && deskewed [0, 1, 2, 3] skew) = false →
    (([0, 1].all fun k => laneLocks 0 (lanes.getD k [])) && deskewed [0, 1] skew) = true →
    v = (s.to t).set B.BYL_LINK_STS_LANES_OK ((List.range 4).foldl (fun m k => if laneLocks 0 (lanes.getD k []) then m
      + 2 ^ k else m) 0) →
    w = { v with byl := { v.byl with rxScr := scrSeeds, rxChunks := [], delay := delay } } →
    exec (.bylLinkTrained t lanes skew delay) s = .next (((w.set B.BYL_LINK_STS_WIDTH 2).set B.BYL_LINK_STS_STATE
      2).sendHello)) ∧
  /- BYL_LINK_TRAINED on lane 0 -/
  (∀ (s : State) (t : Nat) (lanes : List (List (BitVec 130))) (skew : List Nat) (delay : Nat) (v w : State),
    (s.to t).role ≠ roleSolo →
    (s.to t).runs 15 blkLanes = true →
    (s.to t).get B.BYL_LINK_STS_STATE < 2 →
    (([0, 1, 2, 3].all fun k => laneLocks 0 (lanes.getD k [])) && deskewed [0, 1, 2, 3] skew) = false →
    (([0, 1].all fun k => laneLocks 0 (lanes.getD k [])) && deskewed [0, 1] skew) = false →
    (([0].all fun k => laneLocks 0 (lanes.getD k [])) && deskewed [0] skew) = true →
    v = (s.to t).set B.BYL_LINK_STS_LANES_OK ((List.range 4).foldl (fun m k => if laneLocks 0 (lanes.getD k []) then m
      + 2 ^ k else m) 0) →
    w = { v with byl := { v.byl with rxScr := scrSeeds, rxChunks := [], delay := delay } } →
    exec (.bylLinkTrained t lanes skew delay) s = .next (((w.set B.BYL_LINK_STS_WIDTH 1).set B.BYL_LINK_STS_STATE
      2).sendHello)) ∧
  /- BYL_LINK_TRAINED without lane 0 -/
  (∀ (s : State) (t : Nat) (lanes : List (List (BitVec 130))) (skew : List Nat) (delay : Nat) (v : State),
    (s.to t).role ≠ roleSolo →
    (s.to t).runs 15 blkLanes = true →
    (s.to t).get B.BYL_LINK_STS_STATE < 2 →
    (([0, 1, 2, 3].all fun k => laneLocks 0 (lanes.getD k [])) && deskewed [0, 1, 2, 3] skew) = false →
    (([0, 1].all fun k => laneLocks 0 (lanes.getD k [])) && deskewed [0, 1] skew) = false →
    (([0].all fun k => laneLocks 0 (lanes.getD k [])) && deskewed [0] skew) = false →
    v = (s.to t).set B.BYL_LINK_STS_LANES_OK ((List.range 4).foldl (fun m k => if laneLocks 0 (lanes.getD k []) then m
      + 2 ^ k else m) 0) →
    exec (.bylLinkTrained t lanes skew delay) s = .next (v.set B.BYL_LINK_STS_STATE 1)) ∧
  /- BYL_HELLO -/
  (∀ (s : State) (t : Nat) (rx : BylRx) (x : Hello) (v : State),
    v = ((s.to t).takeFrame rx 0x01).1 →
    (((s.to t).takeFrame rx 0x01).2).bind BylFrame.hello = some x →
    v.get B.BYL_LINK_STS_STATE = 2 →
    exec (.bylHello t rx) s = .next ((v.takeHello x).judgeHello x)) ∧
  /- What a HELLO of the same version and the other strap settles -/
  (∀ (s : State) (t : Nat) (x : Hello),
    x.epoch = (s.to t).pairEpoch →
    ((s.to t).setFlag B.BYL_PAIR_STS_PAIR_VERSION_MISMATCH false).flag B.BYL_PAIR_STS_SENIOR ≠ x.senior →
    (s.to t).judgeHello x = ((s.to t).setFlag B.BYL_PAIR_STS_PAIR_VERSION_MISMATCH false).bylEval) ∧
  /- BYL_CONFIRM that is right -/
  (∀ (s : State) (t : Nat) (rx : BylRx) (f : BylFrame) (x : Hello) (v : State),
    v = ((s.to t).takeFrame rx 0x02).1 →
    ((s.to t).takeFrame rx 0x02).2 = some f →
    v.byl.partner = some x →
    v.get B.BYL_LINK_STS_STATE = 2 →
    v.byl.authFail = none →
    v.byl.linkKey = true →
    rx.opens.map (fitBytes f.len) = some (v.bothNonces x) →
    exec (.bylConfirm t rx) s = .next v.linkUp) ∧
  /- The link is UP -/
  (∀ (s : State) (t : Nat) (w : State),
    w = { ((s.to t).set B.BYL_LINK_STS_STATE 3) with
        byl := { (((s.to t).set B.BYL_LINK_STS_STATE 3)).byl with
            tx := [], txNext := [], rxNext := [], ackAt := [], last := none, lastSeq := none, misses := 0, lost :=
              false, dueAt := (((s.to t).set B.BYL_LINK_STS_STATE 3)).nextBeat, linkLeft := none, resync :=
              Resync.reset } } →
    (s.to t).linkUp = ((w.linkEvent).sendAll).bylEval) ∧
  /- BYL_CONFIRM that fails -/
  (∀ (s : State) (t : Nat) (rx : BylRx) (f : BylFrame) (x : Hello) (v : State),
    v = ((s.to t).takeFrame rx 0x02).1 →
    ((s.to t).takeFrame rx 0x02).2 = some f →
    v.byl.partner = some x →
    v.get B.BYL_LINK_STS_STATE = 2 →
    v.byl.authFail = none →
    ¬ (v.byl.linkKey = true ∧ rx.opens.map (fitBytes f.len) = some (v.bothNonces x)) →
    exec (.bylConfirm t rx) s = .next v.confirmFails) ∧
  /- A CONFIRM that fails holds the link in AUTH -/
  (∀ (s : State) (t : Nat),
    (s.to t).confirmFails = ({ (s.to t) with byl := { (s.to t).byl with authFail := some (s.to t).cyc } } :
      State).setFlag B.BYL_PAIR_STS_AUTH_FAIL true) ∧
  /- HELLO_RETRY -/
  (∀ (s : State) (t : Nat) (c : Nat),
    (s.to t).byl.authFail = some c →
    c + cycS ≤ (s.to t).cyc →
    (s.to t).get B.BYL_LINK_STS_STATE = 2 →
    (s.to t).runs 15 blkLanes = true →
    exec (.helloRetry t) s = .next (s.to t).sendHello) ∧
  /- BYL_RESEND_TIMEOUT -/
  (∀ (s : State) (t : Nat) (c : Fin 4) (a : Option Nat),
    ((Sp.at ((s.to t).takeAck c.val a).byl.tx [] c.val).take 256) ≠ [] →
    ((s.to t).takeAck c.val a).bylUp = true →
    ((s.to t).takeAck c.val a).runs 15 blkLanes = true →
    Sp.at ((s.to t).takeAck c.val a).byl.ackAt 0 c.val + 50 * cycUs ≤ ((s.to t).takeAck c.val a).cyc →
    let v := ((s.to t).takeAck c.val a)
    let l := (Sp.at v.byl.tx [] c.val).take 256
    let w := v.countBy Reg.BYL_CNT_RESEND l.length
    exec (.bylResendTimeout t c a) s = .next { w with
        byl := { w.byl with sent := l.map Prod.snd, ackAt := Sp.store w.byl.ackAt 0 c.val w.cyc } }) ∧
  /- BYL_LINK_LOSS -/
  (∀ (s : State) (t : Nat) (lane : Fin 4) (blocks : List (BitVec 130)),
    (s.to t).bylUp = true →
    (s.to t).runs 15 blkLanes = true →
    lane.val < widthLanes ((s.to t).get B.BYL_LINK_STS_WIDTH) →
    laneLost blocks = true →
    exec (.bylLinkLoss t lane blocks) s = .next ((s.to t).linkDown 1)) ∧
  /- HEARTBEAT_SEND -/
  (∀ (s : State) (t : Nat),
    (s.to t).bylUp = true →
    (s.to t).runs 15 blkLanes = true →
    (s.to t).devNs / 10000000 ≠ (s.to t).byl.beatSent →
    let w : State := { (s.to t) with byl := { (s.to t).byl with beatSent := (s.to t).devNs / 10000000 } }
    exec (.heartbeatSend t) s = .next (w.bylSend (.heartbeat ((s.to t).beat false)))) ∧
  /- HEARTBEAT_RECEIVED -/
  (∀ (s : State) (t : Nat) (rx : BylRx) (f : BylFrame) (p : List Byte) (v : State),
    ((s.to t).takeSealed rx 0x03).2 = some (f, p) →
    (((s.to t).takeSealed rx 0x03).1).byl.lastSeq.all (fun q => decide (q < f.seq)) = true →
    v = { (((s.to t).takeSealed rx 0x03).1) with
        byl := { (((s.to t).takeSealed rx 0x03).1).byl with lastSeq := some f.seq } } →
    exec (.heartbeatReceived t rx) s = .next (v.takeBeat (Beat.ofBytes p))) ∧
  /- HEARTBEAT_MISS, the first two -/
  (∀ (s : State) (t : Nat),
    ((s.to t).bylUp || (s.to t).byl.linkLeft.isSome) = true →
    (s.to t).byl.dueAt + 2000000 ≤ (s.to t).devNs →
    (s.to t).role ≠ roleSolo →
    (s.to t).byl.lost = false →
    (s.to t).runs 15 blkLanes = true →
    (s.to t).byl.misses < 2 →
    let v := (s.to t).count Reg.BYL_CNT_HB_MISS
    exec (.heartbeatMiss t) s = .next { v with
        byl := { v.byl with misses := (s.to t).byl.misses + 1, dueAt := v.byl.dueAt + 10000000 } }) ∧
  /- HEARTBEAT_MISS, the third -/
  (∀ (s : State) (t : Nat),
    ((s.to t).bylUp || (s.to t).byl.linkLeft.isSome) = true →
    (s.to t).byl.dueAt + 2000000 ≤ (s.to t).devNs →
    (s.to t).role ≠ roleSolo →
    (s.to t).byl.lost = false →
    (s.to t).runs 15 blkLanes = true →
    2 ≤ (s.to t).byl.misses →
    let v := (s.to t).count Reg.BYL_CNT_HB_MISS
    exec (.heartbeatMiss t) s = .next (({ v with
        byl := { v.byl with misses := (s.to t).byl.misses + 1, dueAt := v.byl.dueAt + 10000000, lost := true } } :
      State).pairBroken).bylEval)

/-- A frame that the link awaits, its SEQ the next of its class, is accepted: a standby applies a mirror record and
acknowledges it, takes a context's plans and session, the configuration and the map's tiles; the active sends the
tiles asked for again and completes the commits that are acknowledged; a message is kept for the service firmware. A
mirror record with another SEQ has no effect but what it acknowledges. -/
def Obligations.MirroredStateIsTaken : Prop :=
  /- MIRROR_PAD_RECEIVED -/
  (∀ (s : State) (t : Nat) (rx : BylRx) (r : MirrorRec),
    (s.to t).awaits rx 0x10 = true →
    MirrorRec.ofBytes (((s.to t).framed rx 0x10).2) = some r →
    ((s.to t).accepted rx 0x10).standby = true →
    exec (.mirrorPadReceived t rx) s = .next ((((s.to t).accepted rx 0x10).mirrorPad r).ackOnly 1 ((s.to t).framed rx
      0x10).1.seq)) ∧
  /- MIRROR_PAD_RECEIVED with another SEQ -/
  (∀ (s : State) (t : Nat) (rx : BylRx) (f : BylFrame) (p : List Byte),
    ((s.to t).takeSealed rx 0x10).2 = some (f, p) →
    f.seq ≠ Sp.at (((s.to t).takeSealed rx 0x10).1).byl.rxNext 0 1 →
    exec (.mirrorPadReceived t rx) s = .next ((((s.to t).takeSealed rx 0x10).1).takeAck 1 f.ack)) ∧
  /- MIRROR_ACK -/
  (∀ (s : State) (t : Nat) (rx : BylRx),
    (s.to t).awaits rx 0x11 = true →
    exec (.mirrorAck t rx) s = .next ((((s.to t).accepted rx 0x11).takeMirrorAck (leAt (((s.to t).framed rx 0x11).2) 0
      4)).ackOnly 1 ((s.to t).framed rx 0x11).1.seq)) ∧
  /- MIRROR_GAIT -/
  (∀ (s : State) (t : Nat) (rx : BylRx) (ctx : BitVec 8) (x : GaitMirror),
    (s.to t).awaits rx 0x12 = true →
    ((s.to t).accepted rx 0x12).standby = true →
    exec (.mirrorGait t rx ctx x) s = .next ((((s.to t).accepted rx 0x12).applyGait ctx.toNat x).ackOnly 1
      ((s.to t).framed rx 0x12).1.seq)) ∧
  /- MIRROR_SESSION -/
  (∀ (s : State) (t : Nat) (rx : BylRx) (ctx : BitVec 8) (x : SessMirror),
    (s.to t).awaits rx 0x13 = true →
    ((s.to t).accepted rx 0x13).standby = true →
    ctx ≠ 0 →
    exec (.mirrorSession t rx ctx x) s = .next (((((s.to t).accepted rx 0x13).applySession ctx.toNat
      x).bylEval).ackOnly 1 ((s.to t).framed rx 0x13).1.seq)) ∧
  /- MIRROR_CONFIG -/
  (∀ (s : State) (t : Nat) (rx : BylRx) (x : ConfigMirror),
    (s.to t).awaits rx 0x14 = true →
    ((s.to t).accepted rx 0x14).standby = true →
    exec (.mirrorConfig t rx x) s = .next ((((((s.to t).accepted rx 0x14).applyConfig x).checkResync).bylEval).ackOnly
      1 ((s.to t).framed rx 0x14).1.seq)) ∧
  /- TILE_REQ -/
  (∀ (s : State) (t : Nat) (rx : BylRx),
    (s.to t).awaits rx 0x20 = true →
    ((s.to t).accepted rx 0x20).role = roleActive →
    exec (.tileReq t rx) s = .next ((((s.to t).accepted rx 0x20).sendTiles (tileIndices (((s.to t).framed rx
      0x20).2))).ackOnly 2 ((s.to t).framed rx 0x20).1.seq)) ∧
  /- TILE_DATA -/
  (∀ (s : State) (t : Nat) (rx : BylRx) (d : TileData),
    (s.to t).awaits rx 0x21 = true →
    ((s.to t).accepted rx 0x21).standby = true →
    exec (.tileData t rx d) s = .next ((((((s.to t).accepted rx 0x21).takeMap d).checkResync).bylEval).ackOnly 2
      ((s.to t).framed rx 0x21).1.seq)) ∧
  /- SVC_MSG -/
  (∀ (s : State) (t : Nat) (rx : BylRx) (k : Option Bool),
    (s.to t).awaits rx 0x30 = true →
    exec (.svcMsg t rx k) s = .next (((((s.to t).accepted rx 0x30).takeMsg (((s.to t).framed rx 0x30).2)
      k).bylEval).ackOnly 3 ((s.to t).framed rx 0x30).1.seq))

/-- Where its checks pass, PAIR_HANDOVER waits for the next superframe start. 55 ms after it the active yields the
token; where 100 ms pass with no active partner, the operation completes FAIL_TIMEOUT and the chip reclaims the
token if it may. -/
def Obligations.PlannedHandoverCompletes : Prop :=
  /- PAIR_HANDOVER -/
  (∀ (s : State) (t : Nat) (it : Item) (late : Bool),
    (s.to t).goes 0 it { Checks.pass with
        state := (s.to t).role == roleActive && (s.to t).partnerHot && (s.to t).byl.handover.isNone } late = true →
    exec (.pairHandover t it) s = .next { ((s.to t).unwait it.id) with
        byl := { ((s.to t).unwait it.id).byl with
            handover := some ⟨it.acting late, ((s.to t).unwait it.id).nextStart, none⟩ } }) ∧
  /- HANDOVER_YIELD -/
  (∀ (s : State) (t : Nat) (x : Handover),
    (s.to t).byl.handover = some x →
    x.yielded = none →
    x.at_ + 55000000 ≤ (s.to t).devNs →
    (s.to t).role = roleActive →
    exec (.handoverYield t) s = .next ({ (s.to t) with
        byl := { (s.to t).byl with handover := some { x with yielded := some (s.to t).cyc } } } : State).yieldToken) ∧
  /- HANDOVER_TIMEOUT -/
  (∀ (s : State) (t : Nat) (x : Handover) (c : Nat),
    (s.to t).byl.handover = some x →
    x.yielded = some c →
    c + 100 * cycMs ≤ (s.to t).cyc →
    let v := ({ (s.to t) with byl := { (s.to t).byl with handover := none } } : State).finish x.item 0 .failTimeout
    exec (.handoverTimeout t) s = .next (if v.mayClaim then v.beginClaim .reclaim else v))

/-- A pop from an enabled queue whose drain bank is empty, by a consumer that may read (R112's BURST), answers the
idle item: DATA 0xFFFF_FFFF_FFFF_FFFF, TAG IDLE (6), PARITY 0, which is right over its 66 ones; the instant of the
queue's last read stays as it was. -/
def Obligations.EmptyPopReturnsTheIdleItem : Prop :=
  ∀ (s : State) (t : Nat) (q : Fin 128) (hit : Bool) (into : Option Nat), (s.to t).queueOn q.val = true →
    (s.to t).mayRead q.val = true → ((s.to t).queueOf q.val).drain = [] →
    ∃ s', exec (.queuePop t q none hit into) s = .next s' ∧
      (s'.queueOf q.val).popped = some ⟨0xFFFFFFFFFFFFFFFF#64, 6#3, false, none⟩ ∧
      (s'.queueOf q.val).lastRead = ((s.to t).queueOf q.val).lastRead

/-- A served write of the low word of a 64-bit register places it in the requester's shadow and changes nothing else
but what notes the access. A served write of the high word that nothing forbids commits both halves: the low half
from the shadow where the requester's previous access in the window wrote the low word, else the present low half.
-/
def Obligations.SixtyFourBitRegistersCommitAtTheHighWord : Prop :=
  /- REGISTER_WRITE of the low word -/
  (∀ (s : State) (t : Nat) (rq : Requester) (addr : Nat) (val same : Word),
    addr < 0x1000000 →
    addr % 4 = 0 →
    ownRow addr = false →
    ((s.to t).rowWrite rq addr val).isNone = true →
    isKind addr .low = true →
    (s.to t).reaches rq addr = true →
    let v := (s.to t).reached rq addr true
    exec (.registerWrite t rq addr val same) s = .next (v.setBus rq { v.busOf rq with shadow := val })) ∧
  /- REG64_HIGH_WRITE after the low word -/
  (∀ (s : State) (t : Nat) (rq : Requester) (addr : Nat) (val : Word),
    isKind addr .high = true →
    ((s.to t).rowWrite rq addr val).isNone = true →
    addr ≠ Reg.TIM_INCR + 4 →
    (s.to t).reaches rq addr = true →
    (((s.to t).reached rq addr true).forbids addr val).isNone = true →
    Sp.find ((s.to t).busOf rq).last (addr / 0x100000) = some (addr - 4, true) →
    exec (.reg64HighWrite t rq addr val) s = .next (((((s.to t).reached rq addr true).softWrite (addr - 4)
      ((s.to t).busOf rq).shadow).softWrite addr val).written addr val)) ∧
  /- REG64_HIGH_WRITE otherwise -/
  (∀ (s : State) (t : Nat) (rq : Requester) (addr : Nat) (val : Word),
    isKind addr .high = true →
    ((s.to t).rowWrite rq addr val).isNone = true →
    addr ≠ Reg.TIM_INCR + 4 →
    (s.to t).reaches rq addr = true →
    (((s.to t).reached rq addr true).forbids addr val).isNone = true →
    Sp.find ((s.to t).busOf rq).last (addr / 0x100000) ≠ some (addr - 4, true) →
    exec (.reg64HighWrite t rq addr val) s = .next (((((s.to t).reached rq addr true).softWrite (addr - 4)
      ((s.to t).word (addr - 4))).softWrite addr val).written addr val))

/-- COMPLETION_WRITE, where the ring may write its oldest completion and the item's log record lies elsewhere, answers
a state in which bit 7 of byte 2 of the entry at CQ_PI is 1 exactly where the lap CQ_PI >> C is even. -/
def Obligations.PhaseFollowsTheLapOfTheRing : Prop :=
  ∀ (s : State) (t : Nat) (ring : Fin 64) (f : Fin_) (rest : List Fin_), ((s.to t).ringOf ring.val).fin = f :: rest →
    (s.to t).runs 1 blkWriter = true → (s.to t).hif.pcie.d3hot = false → (s.to t).ringOn ring.val = true →
    (s.to t).cqRoom ring.val = true → f.kind ≠ .stale →
    ((s.to t).flag (B.HIF_RING_STS_RECOVERING ring.val) = false ∨ (s.to t).flag (B.HIF_RING_CTL_RECOVER ring.val) = true) →
    (∀ m i, f.item.src = .ring m i → (s.to t).logAt ring.val i + 16 ≤ (s.to t).cqEntry ring.val ∨
      (s.to t).cqEntry ring.val + 32 ≤ (s.to t).logAt ring.val i) →
    ∃ s' b, exec (.completionWrite t ring) s = .next s' ∧ s'.hostByte ((s.to t).cqEntry ring.val + 2) = some b ∧
      (b.getLsbD 7 = true ↔ (s.to t).rd (Reg.HIF_RING_CQ_PI ring.val) / 2 ^ (s.to t).cqLog ring.val % 2 = 0)

/-- For every command c and state s with c at the front of its queue, a step of s is exec of c on s with the queue's
rest. -/
def Obligations.StepRunsFrontCommand : Prop :=
  ∀ (c : Instr) (rest : List Instr) (s : State), s.pending = c :: rest → step s = exec c { s with pending := rest }

/-- With no command waiting, a step lets one 2 ns cycle of TIM pass: the clock counts 1 and nothing but the clock and
the device-time counter changes. That an idle step is one cycle is the model's choice (log entry 2). -/
def Obligations.EmptyQueueTicks : Prop :=
  ∀ s : State, s.pending = [] →
    ∃ c, step s = .next { s with cyc := s.cyc + 1, ctr := c }

/-- Whatever a step does, the queue it leaves is the queue it found without its front, and the TIM cycle count does
not decrease. -/
def Obligations.StepTakesOneCommandAndTheClockNeverTurnsBack : Prop :=
  ∀ s s' : State, step s = .next s' → s'.pending = s.pending.tail ∧ s.cyc ≤ s'.cyc

/-- From every state whose host memory is in canonical form (addresses strictly rising), every command that answers a
next state leaves it in canonical form. -/
def Obligations.StepKeepsHostMemoryCanonical : Prop :=
  ∀ s s' : State, Memory.wf s.hostMem = true → step s = .next s' → Memory.wf s'.hostMem = true

/-- In the reset state the queue is empty and host memory is canonical; CHIP_ID reads 0x0D28_4000, CHIP_REV.STEP 0x10,
and BLK_LIMIT of every region but CHIP and WHOA reads 3. -/
def Obligations.ResetStateIsEmptyAndCanonical : Prop :=
  State.reset.pending = [] ∧ Memory.wf State.reset.hostMem = true ∧ State.reset.rd Reg.CHIP_ID = 0x0D284000 ∧
    State.reset.get B.CHIP_REV_STEP = 0x10 ∧
    (∀ r : Fin 16, r ≠ 0 → r ≠ 13 → State.reset.get (B.RGN_CTL_BLK_LIMIT r.val) = 3)

/-- A command that Instr.writesHost does not name and that answers a next state leaves every byte of host memory as
the device last wrote it. -/
def Obligations.OnlyListedCommandsWriteHostMemory : Prop :=
  ∀ (c : Instr) (s s' : State), c.writesHost = false → exec c s = .next s' → ∀ a, s'.hostByte a = s.hostByte a

/-- A command that answers a next state leaves what WHOA, TACK, REC and CHIP hold beside their registers, and the live
parameters, as they were, each unless Safety.lean lists the command for it. -/
def Obligations.ProtectedStateStaysWithItsCommands : Prop :=
  ∀ (c : Instr) (s s' : State), exec c s = .next s' →
    (c.touchesWhoa = false → s'.whoa = s.whoa) ∧ (c.touchesTack = false → s'.tack = s.tack) ∧
    (c.touchesRec = false → s'.recd = s.recd) ∧ (c.touchesChip = false → s'.chip = s.chip) ∧
    (c.appliesParams = false → s'.live = s.live)

/-- A command that answers a next state leaves what AIR, GNB, FIX, GAIT, PAD, NET, TIM and BYL hold beside their
registers as it was, each unless Safety.lean lists the command for it. -/
def Obligations.FleetStateStaysWithItsCommands : Prop :=
  ∀ (c : Instr) (s s' : State), exec c s = .next s' →
    (c.touchesAir = false → s'.air = s.air) ∧ (c.touchesGnb = false → s'.gnb = s.gnb) ∧
    (c.touchesFix = false → s'.fix = s.fix) ∧ (c.touchesGait = false → s'.gait = s.gait) ∧
    (c.touchesPad = false → s'.pad = s.pad) ∧ (c.touchesNet = false → s'.net = s.net) ∧
    (c.touchesTim = false → s'.tim = s.tim) ∧ (c.touchesByl = false → s'.byl = s.byl)

/-- In every state every well-formed command answers a next state. No command is refused, and a command that faults
names an address in no BAR. Where the model puts the BARs beside BAR0 is its own choice (log entry 116). -/
def Obligations.WellFormedCommandsAnswerNext : Prop :=
  (∀ (c : Instr) (s : State), c.wf = true → ∃ s', exec c s = .next s') ∧
    (∀ (c : Instr) (s : State) (r : Refusal), exec c s ≠ .refused r) ∧
    (∀ (c : Instr) (s : State) (f : Fault), exec c s = .fault f → ∃ a, inBars a = false ∧ f = .outsideBar a)

/-- Where COMPLETION_WRITE answers a next state, every byte of host memory outside the 32 bytes of the completion
entry at CQ_PI and the 16 bytes of the item's fetch-log record reads as before. -/
def Obligations.CompletionWritesStayInTheRing : Prop :=
  ∀ (s s' : State) (t : Nat) (ring : Fin 64) (f : Fin_) (rest : List Fin_),
    ((s.to t).ringOf ring.val).fin = f :: rest → exec (.completionWrite t ring) s = .next s' →
    ∀ a, (a < (s.to t).cqEntry ring.val ∨ (s.to t).cqEntry ring.val + 32 ≤ a) →
      (∀ m i, f.item.src = .ring m i → a < (s.to t).logAt ring.val i ∨ (s.to t).logAt ring.val i + 16 ≤ a) →
      s'.hostByte a = s.hostByte a

/-- Where SIGN, RANDOM, PUBKEY or ATTEST answers a next state, every byte outside the output buffer reads as before:
the bytes of a signature of the key's TYPE at ARG_1, LEN bytes at PTR, the public key's bytes at PTR, 3,565 bytes at
PTR. -/
def Obligations.KeyOutputsStayInTheirBuffers : Prop :=
  ∀ (s s' : State) (t : Nat) (it : Item) (bytes : List Byte) (digest : BitVec 384),
    (exec (.tackSign t it bytes) s = .next s' →
      ∀ a, (a < it.d.arg1.toNat ∨ it.d.arg1.toNat + (((s.to t).loaded? (argBits it.d.arg0 8 0)).map (fun x => sigLen x.attr.type.toNat)).getD 0 ≤ a) → s'.hostByte a = s.hostByte a) ∧
    (exec (.tackRandom t it bytes) s = .next s' →
      ∀ a, (a < it.d.ptr.toNat ∨ it.d.ptr.toNat + it.d.len.toNat ≤ a) → s'.hostByte a = s.hostByte a) ∧
    (exec (.tackPubkey t it bytes) s = .next s' →
      ∀ a, (a < it.d.ptr.toNat ∨ it.d.ptr.toNat + pubLen ((s.to t).pubType it) ≤ a) → s'.hostByte a = s.hostByte a) ∧
    (exec (.tackAttest t it digest bytes) s = .next s' →
      ∀ a, (a < it.d.ptr.toNat ∨ it.d.ptr.toNat + 3565 ≤ a) → s'.hostByte a = s.hostByte a)

/-- Where a doorbell answers a next state, every register word but HIF_RING_n_STS of its ring, every other ring, host
memory, live parameters, waiting operations and every region's state but HIF's are as before. -/
def Obligations.DoorbellsTouchOnlyTheirRing : Prop :=
  ∀ (s s' : State) (t : Nat) (ring : Fin 64) (val : Word),
    (exec (.sqTailWrite t ring val) s = .next s' ∨ exec (.cqHeadWrite t ring val) s = .next s') →
    (∀ a, a ≠ Reg.HIF_RING_STS ring.val → s'.word a = s.word a) ∧
    (∀ m, m ≠ ring.val → s'.ringOf m = s.ringOf m) ∧
    s'.hostMem = s.hostMem ∧ s'.live = s.live ∧ s'.waiting = s.waiting ∧ s'.bus = s.bus ∧ s'.rgn = s.rgn ∧
    s'.dsp = s.dsp ∧ s'.mqf = s.mqf ∧ s'.whoa = s.whoa ∧ s'.net = s.net ∧ s'.tim = s.tim ∧ s'.chip = s.chip ∧
    s'.tack = s.tack ∧ s'.recd = s.recd ∧ s'.air = s.air ∧ s'.gnb = s.gnb ∧ s'.fix = s.fix ∧ s'.pad = s.pad ∧
    s'.gait = s.gait ∧ s'.byl = s.byl

/-- Reading a record's bytes gives the record, with every field at every value its width admits: descriptors, schedule
entries, attribute blocks and heartbeats without condition; a header with no reserved bit set; a sweep request of
NSAMP samples; a shape record of eight vertices; a boot record whose GEN, TRIES and wait fit their fields. It says
that no bit of these layouts is dropped. -/
def Obligations.RecordLayoutsReadBack : Prop :=
  (∀ d : Desc, Desc.ofBytes d.bytes = d ∧ d.bytes.length = 64) ∧
    (∀ h : AirHdr, h.reserved = false → AirHdr.ofBytes h.bytes = h ∧ h.bytes.length = 12) ∧
    (∀ e : SchedEntry, SchedEntry.ofBytes e.bytes = e ∧ e.bytes.length = 8) ∧
    (∀ q : SweepReq, q.samples.length = q.nsamp.toNat → SweepReq.ofBytes q.bytes = q) ∧
    (∀ x : ShapeRec, x.verts.length = 8 → ShapeRec.ofBytes x.bytes = x) ∧
    (∀ a : KeyAttr, KeyAttr.ofBytes a.bytes = a ∧ a.bytes.length = 40) ∧
    (∀ b : Beat, Beat.ofBytes b.bytes = b) ∧
    (∀ r : BootRec, r.gen < 2 ^ 32 → r.tries < 256 → r.wait < 65536 → BootRec.ofBytes r.bytes = some r ∧ r.bytes.length = 64)
end

