-- ==== Sys2Proof/Laws/Sparse.lean ====
section
/-!
SUPPORT. The laws of sparse data: what is found after a write, and that every operation keeps the canonical form.
-/

namespace Sys2Proof.Machine

@[simp] theorem Sp.find_nil {α : Type} (k : Nat) : Sp.find ([] : Sp α) k = none := rfl

theorem Sp.find_cons {α : Type} (k' : Nat) (v : α) (r : Sp α) (k : Nat) :
    Sp.find ((k', v) :: r) k = if k = k' then some v else Sp.find r k := rfl

@[simp] theorem Sp.find_put_same {α : Type} (m : Sp α) (k : Nat) (v : α) : Sp.find (Sp.put m k v) k = some v := by
  induction m with
  | nil => simp [Sp.put, Sp.find]
  | cons p r ih =>
    obtain ⟨k', v'⟩ := p
    simp only [Sp.put]
    split
    · simp [Sp.find]
    · split
      · simp [Sp.find]
      · rename_i h1 h2; simp [Sp.find, h2, ih]

theorem Sp.find_put_other {α : Type} (m : Sp α) (k j : Nat) (v : α) (h : j ≠ k) :
    Sp.find (Sp.put m k v) j = Sp.find m j := by
  induction m with
  | nil => simp [Sp.put, Sp.find, h]
  | cons p r ih =>
    obtain ⟨k', v'⟩ := p
    simp only [Sp.put]
    split
    · simp [Sp.find, h]
    · split
      · rename_i h2; subst h2; simp [Sp.find, h]
      · simp [Sp.find, ih]

@[simp] theorem Sp.find_drop_same {α : Type} (m : Sp α) (k : Nat) : Sp.find (Sp.drop m k) k = none := by
  induction m with
  | nil => rfl
  | cons p r ih =>
    obtain ⟨k', v'⟩ := p
    simp only [Sp.drop]
    split
    · exact ih
    · rename_i h; simp [Sp.find, h, ih]

theorem Sp.find_drop_other {α : Type} (m : Sp α) (k j : Nat) (h : j ≠ k) : Sp.find (Sp.drop m k) j = Sp.find m j := by
  induction m with
  | nil => rfl
  | cons p r ih =>
    obtain ⟨k', v'⟩ := p
    simp only [Sp.drop]
    split
    · rename_i h2; subst h2; simp [Sp.find, h, ih]
    · simp [Sp.find, ih]

@[simp] theorem Sp.at_put_same {α : Type} (m : Sp α) (d : α) (k : Nat) (v : α) : Sp.at (Sp.put m k v) d k = v := by
  simp [Sp.at]

theorem Sp.at_put_other {α : Type} (m : Sp α) (d : α) (k j : Nat) (v : α) (h : j ≠ k) :
    Sp.at (Sp.put m k v) d j = Sp.at m d j := by
  simp [Sp.at, Sp.find_put_other m k j v h]

/-- Where an unlisted key reads as `d`, a key reads as what was stored at it. -/
@[simp] theorem Sp.at_store_same {α : Type} [DecidableEq α] (m : Sp α) (d : α) (k : Nat) (v : α) :
    Sp.at (Sp.store m d k v) d k = v := by
  unfold Sp.store
  split
  · rename_i h; simp [Sp.at, h]
  · simp

theorem Sp.at_store_other {α : Type} [DecidableEq α] (m : Sp α) (d e : α) (k j : Nat) (v : α) (h : j ≠ k) :
    Sp.at (Sp.store m d k v) e j = Sp.at m e j := by
  unfold Sp.store
  split
  · simp [Sp.at, Sp.find_drop_other m k j h]
  · exact Sp.at_put_other m e k j v h

theorem Sp.find_store_other {α : Type} [DecidableEq α] (m : Sp α) (d : α) (k j : Nat) (v : α) (h : j ≠ k) :
    Sp.find (Sp.store m d k v) j = Sp.find m j := by
  unfold Sp.store
  split
  · exact Sp.find_drop_other m k j h
  · exact Sp.find_put_other m k j v h

/-! ### The canonical form -/

theorem Sp.above_weaken {α : Type} (b c : Nat) (m : Sp α) (h : c ≤ b) (hm : Sp.above b m = true) : Sp.above c m = true := by
  cases m with
  | nil => rfl
  | cons p r =>
    simp only [Sp.above, Bool.and_eq_true, decide_eq_true_eq] at hm ⊢
    exact ⟨by omega, hm.2⟩

theorem Sp.above_put {α : Type} (b k : Nat) (m : Sp α) (v : α) (hk : b < k) (hm : Sp.above b m = true) :
    Sp.above b (Sp.put m k v) = true := by
  induction m generalizing b with
  | nil => simp [Sp.put, Sp.above, hk]
  | cons p r ih =>
    obtain ⟨k', v'⟩ := p
    simp only [Sp.above, Bool.and_eq_true, decide_eq_true_eq] at hm
    simp only [Sp.put]
    split
    · rename_i h; simp [Sp.above, hk, h, hm.2]
    · split
      · rename_i h; subst h; simp [Sp.above, hk, hm.2]
      · rename_i h1 h2
        simp only [Sp.above, Bool.and_eq_true, decide_eq_true_eq]
        exact ⟨hm.1, ih k' (by omega) hm.2⟩

theorem Sp.above_drop {α : Type} (b k : Nat) (m : Sp α) (hm : Sp.above b m = true) : Sp.above b (Sp.drop m k) = true := by
  induction m generalizing b with
  | nil => rfl
  | cons p r ih =>
    obtain ⟨k', v'⟩ := p
    simp only [Sp.above, Bool.and_eq_true, decide_eq_true_eq] at hm
    simp only [Sp.drop]
    split
    · exact ih b (Sp.above_weaken k' b r (by omega) hm.2)
    · simp only [Sp.above, Bool.and_eq_true, decide_eq_true_eq]
      exact ⟨hm.1, ih k' hm.2⟩

/-- A listed key keeps the canonical form. -/
theorem Sp.wf_put {α : Type} (m : Sp α) (k : Nat) (v : α) (h : Sp.wf m = true) : Sp.wf (Sp.put m k v) = true := by
  cases m with
  | nil => rfl
  | cons p r =>
    obtain ⟨k', v'⟩ := p
    simp only [Sp.wf] at h
    simp only [Sp.put]
    split
    · rename_i hk; simp [Sp.wf, Sp.above, hk, h]
    · split
      · rename_i hk; subst hk; simp [Sp.wf, h]
      · rename_i h1 h2
        simp only [Sp.wf]
        exact Sp.above_put k' k r v (by omega) h

/-- A key no longer listed keeps the canonical form. -/
theorem Sp.wf_drop {α : Type} (m : Sp α) (k : Nat) (h : Sp.wf m = true) : Sp.wf (Sp.drop m k) = true := by
  induction m with
  | nil => rfl
  | cons p r ih =>
    obtain ⟨k', v'⟩ := p
    simp only [Sp.wf] at h
    simp only [Sp.drop]
    split
    · cases r with
      | nil => rfl
      | cons q t =>
        obtain ⟨k2, v2⟩ := q
        simp only [Sp.above, Bool.and_eq_true, decide_eq_true_eq] at h
        exact ih (by simp [Sp.wf, h.2])
    · simp only [Sp.wf]
      exact Sp.above_drop k' k r h

/-- A write keeps the canonical form. -/
theorem Sp.wf_store {α : Type} [DecidableEq α] (m : Sp α) (d : α) (k : Nat) (v : α) (h : Sp.wf m = true) :
    Sp.wf (Sp.store m d k v) = true := by
  unfold Sp.store
  split
  · exact Sp.wf_drop m k h
  · exact Sp.wf_put m k v h

end Sys2Proof.Machine
end

