-- ==== Sys2Proof/Laws/HostBytes.lean ====
section
/-!
SUPPORT. Bytes of host memory: what a write leaves, and how long the device's byte strings are.
-/

namespace Sys2Proof.Machine

/-- A byte outside what is written reads as before. -/
theorem find_writeBytes (bs : List Byte) : ∀ (m : Sp Byte) (p a : Nat), (a < p ∨ p + bs.length ≤ a) →
    Sp.find (writeBytes m p bs) a = Sp.find m a := by
  induction bs with
  | nil => intros; rfl
  | cons b r ih =>
    intro m p a h
    simp only [List.length_cons] at h
    rw [writeBytes, ih _ _ _ (by omega), Sp.find_put_other _ _ _ _ (by omega)]

/-- A written byte reads as written. -/
theorem find_writeBytes_at (bs : List Byte) : ∀ (m : Sp Byte) (p i : Nat) (h : i < bs.length),
    Sp.find (writeBytes m p bs) (p + i) = some bs[i] := by
  induction bs with
  | nil => intro m p i h; exact absurd h (by simp)
  | cons b r ih =>
    intro m p i h
    cases i with
    | zero => rw [writeBytes, find_writeBytes _ _ _ _ (by omega)]; simp
    | succ i =>
      have e : p + (i + 1) = p + 1 + i := by omega
      rw [writeBytes, e, ih _ _ _ (by simpa using h)]
      rfl

theorem State.hostByte_writeHost (s : State) (p : Nat) (bs : List Byte) (a : Nat) (h : a < p ∨ p + bs.length ≤ a) :
    (s.writeHost p bs).hostByte a = s.hostByte a := find_writeBytes bs _ _ _ h

theorem State.hostByte_writeHost_at (s : State) (p : Nat) (bs : List Byte) (i : Nat) (h : i < bs.length) :
    (s.writeHost p bs).hostByte (p + i) = some bs[i] := find_writeBytes_at bs _ _ _ h

/-- A function that keeps host memory keeps every byte. -/
theorem State.hostByte_keep {s s' : State} (h : s'.hostMem = s.hostMem) (a : Nat) : s'.hostByte a = s.hostByte a := by
  simp [State.hostByte, h]

@[simp] theorem leBytes_length (n v : Nat) : (leBytes n v).length = n := by
  induction n generalizing v with
  | zero => rfl
  | succ n ih => simp [leBytes, ih]

/-- A fetch-log record is 16 bytes long (Table HIF-7). -/
theorem logBytes_length (st : LogState) (ring tag index cqIndex flow opcode : Nat) :
    (logBytes st ring tag index cqIndex flow opcode).length = 16 := by simp [logBytes]

/-- A completion is 32 bytes long (Table HIF-5). -/
theorem Completion.bytes_length (c : Completion) (tag phase : Nat) : (c.bytes tag phase).length = 32 := by
  simp [Completion.bytes]

/-- An attestation statement is 0xA0 bytes long (Table TACK-7). -/
theorem State.statement_length (s : State) (x : Option KeyAttr) (d : BitVec 384) (a b : BitVec 64) :
    (s.statement x d a b).length = 160 := by
  cases x <;> simp [State.statement, KeyAttr.bytes]

end Sys2Proof.Machine
end

