-- ==== Sys2Proof/Laws/Bytes.lean ====
section
/-!
SUPPORT. Fields of byte strings: what was laid out at an offset reads back from it (R5).
-/

namespace Sys2Proof.Machine

/-- The first bytes of a field spell its value modulo their range. -/
theorem leNat_take_leBytes (n : Nat) : ∀ m v : Nat, m ≤ n → leNat ((leBytes n v).take m) = v % 256 ^ m := by
  induction n with
  | zero => intro m v h; obtain rfl := Nat.le_zero.mp h; simp [leBytes, leNat, Nat.mod_one]
  | succ n ih =>
    intro m v h
    cases m with
    | zero => simp [leNat, Nat.mod_one]
    | succ m =>
      simp only [leBytes, List.take_succ_cons, leNat, ih m _ (by omega), BitVec.toNat_ofNat]
      rw [Nat.pow_succ 256 m, Nat.mul_comm (256 ^ m) 256, Nat.mod_mul]

/-- A field reads back from where it was laid out. -/
theorem leAt_here (k m v : Nat) (b : List Byte) (h : m ≤ k) : leAt (leBytes k v ++ b) 0 m = v % 256 ^ m := by
  rw [leAt, List.drop_zero, List.take_append_of_le_length (by simpa using h), leNat_take_leBytes k m v h]

/-- Bytes before the offset do not matter. -/
theorem leAt_skip (a b : List Byte) (o n : Nat) (h : a.length ≤ o) : leAt (a ++ b) o n = leAt b (o - a.length) n := by
  rw [leAt, leAt, List.drop_append, List.drop_eq_nil_of_le h, List.nil_append]

/-- A field that was laid out earlier does not matter. -/
theorem leAt_past (k v : Nat) (b : List Byte) (o n : Nat) (h : k ≤ o) : leAt (leBytes k v ++ b) o n = leAt b (o - k) n := by
  rw [leAt_skip _ _ _ _ (by simpa using h), leBytes_length]

end Sys2Proof.Machine
end

