-- ==== Sys2Proof/Laws/State.lean ====
section
/-!
SUPPORT. One lemma for each field of State and each basic update: what the update leaves as it was. Then the laws of
register words and their fields.
-/

namespace Sys2Proof.Machine

/-! ### setWord -/

@[simp] theorem State.setWord_pending (s : State) (a : Nat) (v : Word) : (s.setWord a v).pending = s.pending := by
  unfold State.setWord; rfl
@[simp] theorem State.setWord_cyc (s : State) (a : Nat) (v : Word) : (s.setWord a v).cyc = s.cyc := by
  unfold State.setWord; rfl
@[simp] theorem State.setWord_ctr (s : State) (a : Nat) (v : Word) : (s.setWord a v).ctr = s.ctr := by
  unfold State.setWord; rfl
@[simp] theorem State.setWord_freeIdx (s : State) (a : Nat) (v : Word) : (s.setWord a v).freeIdx = s.freeIdx := by
  unfold State.setWord; rfl
@[simp] theorem State.setWord_live (s : State) (a : Nat) (v : Word) : (s.setWord a v).live = s.live := by
  unfold State.setWord; rfl
@[simp] theorem State.setWord_hostMem (s : State) (a : Nat) (v : Word) : (s.setWord a v).hostMem = s.hostMem := by
  unfold State.setWord; rfl
@[simp] theorem State.setWord_waiting (s : State) (a : Nat) (v : Word) : (s.setWord a v).waiting = s.waiting := by
  unfold State.setWord; rfl
@[simp] theorem State.setWord_bus (s : State) (a : Nat) (v : Word) : (s.setWord a v).bus = s.bus := by
  unfold State.setWord; rfl
@[simp] theorem State.setWord_rgn (s : State) (a : Nat) (v : Word) : (s.setWord a v).rgn = s.rgn := by
  unfold State.setWord; rfl
@[simp] theorem State.setWord_hif (s : State) (a : Nat) (v : Word) : (s.setWord a v).hif = s.hif := by
  unfold State.setWord; rfl
@[simp] theorem State.setWord_dsp (s : State) (a : Nat) (v : Word) : (s.setWord a v).dsp = s.dsp := by
  unfold State.setWord; rfl
@[simp] theorem State.setWord_mqf (s : State) (a : Nat) (v : Word) : (s.setWord a v).mqf = s.mqf := by
  unfold State.setWord; rfl
@[simp] theorem State.setWord_whoa (s : State) (a : Nat) (v : Word) : (s.setWord a v).whoa = s.whoa := by
  unfold State.setWord; rfl
@[simp] theorem State.setWord_net (s : State) (a : Nat) (v : Word) : (s.setWord a v).net = s.net := by
  unfold State.setWord; rfl
@[simp] theorem State.setWord_tim (s : State) (a : Nat) (v : Word) : (s.setWord a v).tim = s.tim := by
  unfold State.setWord; rfl
@[simp] theorem State.setWord_chip (s : State) (a : Nat) (v : Word) : (s.setWord a v).chip = s.chip := by
  unfold State.setWord; rfl
@[simp] theorem State.setWord_tack (s : State) (a : Nat) (v : Word) : (s.setWord a v).tack = s.tack := by
  unfold State.setWord; rfl
@[simp] theorem State.setWord_recd (s : State) (a : Nat) (v : Word) : (s.setWord a v).recd = s.recd := by
  unfold State.setWord; rfl
@[simp] theorem State.setWord_air (s : State) (a : Nat) (v : Word) : (s.setWord a v).air = s.air := by
  unfold State.setWord; rfl
@[simp] theorem State.setWord_gnb (s : State) (a : Nat) (v : Word) : (s.setWord a v).gnb = s.gnb := by
  unfold State.setWord; rfl
@[simp] theorem State.setWord_fix (s : State) (a : Nat) (v : Word) : (s.setWord a v).fix = s.fix := by
  unfold State.setWord; rfl
@[simp] theorem State.setWord_pad (s : State) (a : Nat) (v : Word) : (s.setWord a v).pad = s.pad := by
  unfold State.setWord; rfl
@[simp] theorem State.setWord_gait (s : State) (a : Nat) (v : Word) : (s.setWord a v).gait = s.gait := by
  unfold State.setWord; rfl
@[simp] theorem State.setWord_byl (s : State) (a : Nat) (v : Word) : (s.setWord a v).byl = s.byl := by
  unfold State.setWord; rfl

/-! ### set -/

@[simp] theorem State.set_pending (s : State) (b : Bits) (v : Nat) : (s.set b v).pending = s.pending := by
  unfold State.set; rfl
@[simp] theorem State.set_cyc (s : State) (b : Bits) (v : Nat) : (s.set b v).cyc = s.cyc := by
  unfold State.set; rfl
@[simp] theorem State.set_ctr (s : State) (b : Bits) (v : Nat) : (s.set b v).ctr = s.ctr := by
  unfold State.set; rfl
@[simp] theorem State.set_freeIdx (s : State) (b : Bits) (v : Nat) : (s.set b v).freeIdx = s.freeIdx := by
  unfold State.set; rfl
@[simp] theorem State.set_live (s : State) (b : Bits) (v : Nat) : (s.set b v).live = s.live := by
  unfold State.set; rfl
@[simp] theorem State.set_hostMem (s : State) (b : Bits) (v : Nat) : (s.set b v).hostMem = s.hostMem := by
  unfold State.set; rfl
@[simp] theorem State.set_waiting (s : State) (b : Bits) (v : Nat) : (s.set b v).waiting = s.waiting := by
  unfold State.set; rfl
@[simp] theorem State.set_bus (s : State) (b : Bits) (v : Nat) : (s.set b v).bus = s.bus := by
  unfold State.set; rfl
@[simp] theorem State.set_rgn (s : State) (b : Bits) (v : Nat) : (s.set b v).rgn = s.rgn := by
  unfold State.set; rfl
@[simp] theorem State.set_hif (s : State) (b : Bits) (v : Nat) : (s.set b v).hif = s.hif := by
  unfold State.set; rfl
@[simp] theorem State.set_dsp (s : State) (b : Bits) (v : Nat) : (s.set b v).dsp = s.dsp := by
  unfold State.set; rfl
@[simp] theorem State.set_mqf (s : State) (b : Bits) (v : Nat) : (s.set b v).mqf = s.mqf := by
  unfold State.set; rfl
@[simp] theorem State.set_whoa (s : State) (b : Bits) (v : Nat) : (s.set b v).whoa = s.whoa := by
  unfold State.set; rfl
@[simp] theorem State.set_net (s : State) (b : Bits) (v : Nat) : (s.set b v).net = s.net := by
  unfold State.set; rfl
@[simp] theorem State.set_tim (s : State) (b : Bits) (v : Nat) : (s.set b v).tim = s.tim := by
  unfold State.set; rfl
@[simp] theorem State.set_chip (s : State) (b : Bits) (v : Nat) : (s.set b v).chip = s.chip := by
  unfold State.set; rfl
@[simp] theorem State.set_tack (s : State) (b : Bits) (v : Nat) : (s.set b v).tack = s.tack := by
  unfold State.set; rfl
@[simp] theorem State.set_recd (s : State) (b : Bits) (v : Nat) : (s.set b v).recd = s.recd := by
  unfold State.set; rfl
@[simp] theorem State.set_air (s : State) (b : Bits) (v : Nat) : (s.set b v).air = s.air := by
  unfold State.set; rfl
@[simp] theorem State.set_gnb (s : State) (b : Bits) (v : Nat) : (s.set b v).gnb = s.gnb := by
  unfold State.set; rfl
@[simp] theorem State.set_fix (s : State) (b : Bits) (v : Nat) : (s.set b v).fix = s.fix := by
  unfold State.set; rfl
@[simp] theorem State.set_pad (s : State) (b : Bits) (v : Nat) : (s.set b v).pad = s.pad := by
  unfold State.set; rfl
@[simp] theorem State.set_gait (s : State) (b : Bits) (v : Nat) : (s.set b v).gait = s.gait := by
  unfold State.set; rfl
@[simp] theorem State.set_byl (s : State) (b : Bits) (v : Nat) : (s.set b v).byl = s.byl := by
  unfold State.set; rfl

/-! ### setFlag -/

@[simp] theorem State.setFlag_pending (s : State) (b : Bits) (v : Bool) : (s.setFlag b v).pending = s.pending := by
  unfold State.setFlag; rfl
@[simp] theorem State.setFlag_cyc (s : State) (b : Bits) (v : Bool) : (s.setFlag b v).cyc = s.cyc := by
  unfold State.setFlag; rfl
@[simp] theorem State.setFlag_ctr (s : State) (b : Bits) (v : Bool) : (s.setFlag b v).ctr = s.ctr := by
  unfold State.setFlag; rfl
@[simp] theorem State.setFlag_freeIdx (s : State) (b : Bits) (v : Bool) : (s.setFlag b v).freeIdx = s.freeIdx := by
  unfold State.setFlag; rfl
@[simp] theorem State.setFlag_live (s : State) (b : Bits) (v : Bool) : (s.setFlag b v).live = s.live := by
  unfold State.setFlag; rfl
@[simp] theorem State.setFlag_hostMem (s : State) (b : Bits) (v : Bool) : (s.setFlag b v).hostMem = s.hostMem := by
  unfold State.setFlag; rfl
@[simp] theorem State.setFlag_waiting (s : State) (b : Bits) (v : Bool) : (s.setFlag b v).waiting = s.waiting := by
  unfold State.setFlag; rfl
@[simp] theorem State.setFlag_bus (s : State) (b : Bits) (v : Bool) : (s.setFlag b v).bus = s.bus := by
  unfold State.setFlag; rfl
@[simp] theorem State.setFlag_rgn (s : State) (b : Bits) (v : Bool) : (s.setFlag b v).rgn = s.rgn := by
  unfold State.setFlag; rfl
@[simp] theorem State.setFlag_hif (s : State) (b : Bits) (v : Bool) : (s.setFlag b v).hif = s.hif := by
  unfold State.setFlag; rfl
@[simp] theorem State.setFlag_dsp (s : State) (b : Bits) (v : Bool) : (s.setFlag b v).dsp = s.dsp := by
  unfold State.setFlag; rfl
@[simp] theorem State.setFlag_mqf (s : State) (b : Bits) (v : Bool) : (s.setFlag b v).mqf = s.mqf := by
  unfold State.setFlag; rfl
@[simp] theorem State.setFlag_whoa (s : State) (b : Bits) (v : Bool) : (s.setFlag b v).whoa = s.whoa := by
  unfold State.setFlag; rfl
@[simp] theorem State.setFlag_net (s : State) (b : Bits) (v : Bool) : (s.setFlag b v).net = s.net := by
  unfold State.setFlag; rfl
@[simp] theorem State.setFlag_tim (s : State) (b : Bits) (v : Bool) : (s.setFlag b v).tim = s.tim := by
  unfold State.setFlag; rfl
@[simp] theorem State.setFlag_chip (s : State) (b : Bits) (v : Bool) : (s.setFlag b v).chip = s.chip := by
  unfold State.setFlag; rfl
@[simp] theorem State.setFlag_tack (s : State) (b : Bits) (v : Bool) : (s.setFlag b v).tack = s.tack := by
  unfold State.setFlag; rfl
@[simp] theorem State.setFlag_recd (s : State) (b : Bits) (v : Bool) : (s.setFlag b v).recd = s.recd := by
  unfold State.setFlag; rfl
@[simp] theorem State.setFlag_air (s : State) (b : Bits) (v : Bool) : (s.setFlag b v).air = s.air := by
  unfold State.setFlag; rfl
@[simp] theorem State.setFlag_gnb (s : State) (b : Bits) (v : Bool) : (s.setFlag b v).gnb = s.gnb := by
  unfold State.setFlag; rfl
@[simp] theorem State.setFlag_fix (s : State) (b : Bits) (v : Bool) : (s.setFlag b v).fix = s.fix := by
  unfold State.setFlag; rfl
@[simp] theorem State.setFlag_pad (s : State) (b : Bits) (v : Bool) : (s.setFlag b v).pad = s.pad := by
  unfold State.setFlag; rfl
@[simp] theorem State.setFlag_gait (s : State) (b : Bits) (v : Bool) : (s.setFlag b v).gait = s.gait := by
  unfold State.setFlag; rfl
@[simp] theorem State.setFlag_byl (s : State) (b : Bits) (v : Bool) : (s.setFlag b v).byl = s.byl := by
  unfold State.setFlag; rfl

/-! ### wr -/

@[simp] theorem State.wr_pending (s : State) (a v : Nat) : (s.wr a v).pending = s.pending := by
  unfold State.wr; rfl
@[simp] theorem State.wr_cyc (s : State) (a v : Nat) : (s.wr a v).cyc = s.cyc := by
  unfold State.wr; rfl
@[simp] theorem State.wr_ctr (s : State) (a v : Nat) : (s.wr a v).ctr = s.ctr := by
  unfold State.wr; rfl
@[simp] theorem State.wr_freeIdx (s : State) (a v : Nat) : (s.wr a v).freeIdx = s.freeIdx := by
  unfold State.wr; rfl
@[simp] theorem State.wr_live (s : State) (a v : Nat) : (s.wr a v).live = s.live := by
  unfold State.wr; rfl
@[simp] theorem State.wr_hostMem (s : State) (a v : Nat) : (s.wr a v).hostMem = s.hostMem := by
  unfold State.wr; rfl
@[simp] theorem State.wr_waiting (s : State) (a v : Nat) : (s.wr a v).waiting = s.waiting := by
  unfold State.wr; rfl
@[simp] theorem State.wr_bus (s : State) (a v : Nat) : (s.wr a v).bus = s.bus := by
  unfold State.wr; rfl
@[simp] theorem State.wr_rgn (s : State) (a v : Nat) : (s.wr a v).rgn = s.rgn := by
  unfold State.wr; rfl
@[simp] theorem State.wr_hif (s : State) (a v : Nat) : (s.wr a v).hif = s.hif := by
  unfold State.wr; rfl
@[simp] theorem State.wr_dsp (s : State) (a v : Nat) : (s.wr a v).dsp = s.dsp := by
  unfold State.wr; rfl
@[simp] theorem State.wr_mqf (s : State) (a v : Nat) : (s.wr a v).mqf = s.mqf := by
  unfold State.wr; rfl
@[simp] theorem State.wr_whoa (s : State) (a v : Nat) : (s.wr a v).whoa = s.whoa := by
  unfold State.wr; rfl
@[simp] theorem State.wr_net (s : State) (a v : Nat) : (s.wr a v).net = s.net := by
  unfold State.wr; rfl
@[simp] theorem State.wr_tim (s : State) (a v : Nat) : (s.wr a v).tim = s.tim := by
  unfold State.wr; rfl
@[simp] theorem State.wr_chip (s : State) (a v : Nat) : (s.wr a v).chip = s.chip := by
  unfold State.wr; rfl
@[simp] theorem State.wr_tack (s : State) (a v : Nat) : (s.wr a v).tack = s.tack := by
  unfold State.wr; rfl
@[simp] theorem State.wr_recd (s : State) (a v : Nat) : (s.wr a v).recd = s.recd := by
  unfold State.wr; rfl
@[simp] theorem State.wr_air (s : State) (a v : Nat) : (s.wr a v).air = s.air := by
  unfold State.wr; rfl
@[simp] theorem State.wr_gnb (s : State) (a v : Nat) : (s.wr a v).gnb = s.gnb := by
  unfold State.wr; rfl
@[simp] theorem State.wr_fix (s : State) (a v : Nat) : (s.wr a v).fix = s.fix := by
  unfold State.wr; rfl
@[simp] theorem State.wr_pad (s : State) (a v : Nat) : (s.wr a v).pad = s.pad := by
  unfold State.wr; rfl
@[simp] theorem State.wr_gait (s : State) (a v : Nat) : (s.wr a v).gait = s.gait := by
  unfold State.wr; rfl
@[simp] theorem State.wr_byl (s : State) (a v : Nat) : (s.wr a v).byl = s.byl := by
  unfold State.wr; rfl

/-! ### wr64 -/

@[simp] theorem State.wr64_pending (s : State) (a v : Nat) : (s.wr64 a v).pending = s.pending := by
  unfold State.wr64; rfl
@[simp] theorem State.wr64_cyc (s : State) (a v : Nat) : (s.wr64 a v).cyc = s.cyc := by
  unfold State.wr64; rfl
@[simp] theorem State.wr64_ctr (s : State) (a v : Nat) : (s.wr64 a v).ctr = s.ctr := by
  unfold State.wr64; rfl
@[simp] theorem State.wr64_freeIdx (s : State) (a v : Nat) : (s.wr64 a v).freeIdx = s.freeIdx := by
  unfold State.wr64; rfl
@[simp] theorem State.wr64_live (s : State) (a v : Nat) : (s.wr64 a v).live = s.live := by
  unfold State.wr64; rfl
@[simp] theorem State.wr64_hostMem (s : State) (a v : Nat) : (s.wr64 a v).hostMem = s.hostMem := by
  unfold State.wr64; rfl
@[simp] theorem State.wr64_waiting (s : State) (a v : Nat) : (s.wr64 a v).waiting = s.waiting := by
  unfold State.wr64; rfl
@[simp] theorem State.wr64_bus (s : State) (a v : Nat) : (s.wr64 a v).bus = s.bus := by
  unfold State.wr64; rfl
@[simp] theorem State.wr64_rgn (s : State) (a v : Nat) : (s.wr64 a v).rgn = s.rgn := by
  unfold State.wr64; rfl
@[simp] theorem State.wr64_hif (s : State) (a v : Nat) : (s.wr64 a v).hif = s.hif := by
  unfold State.wr64; rfl
@[simp] theorem State.wr64_dsp (s : State) (a v : Nat) : (s.wr64 a v).dsp = s.dsp := by
  unfold State.wr64; rfl
@[simp] theorem State.wr64_mqf (s : State) (a v : Nat) : (s.wr64 a v).mqf = s.mqf := by
  unfold State.wr64; rfl
@[simp] theorem State.wr64_whoa (s : State) (a v : Nat) : (s.wr64 a v).whoa = s.whoa := by
  unfold State.wr64; rfl
@[simp] theorem State.wr64_net (s : State) (a v : Nat) : (s.wr64 a v).net = s.net := by
  unfold State.wr64; rfl
@[simp] theorem State.wr64_tim (s : State) (a v : Nat) : (s.wr64 a v).tim = s.tim := by
  unfold State.wr64; rfl
@[simp] theorem State.wr64_chip (s : State) (a v : Nat) : (s.wr64 a v).chip = s.chip := by
  unfold State.wr64; rfl
@[simp] theorem State.wr64_tack (s : State) (a v : Nat) : (s.wr64 a v).tack = s.tack := by
  unfold State.wr64; rfl
@[simp] theorem State.wr64_recd (s : State) (a v : Nat) : (s.wr64 a v).recd = s.recd := by
  unfold State.wr64; rfl
@[simp] theorem State.wr64_air (s : State) (a v : Nat) : (s.wr64 a v).air = s.air := by
  unfold State.wr64; rfl
@[simp] theorem State.wr64_gnb (s : State) (a v : Nat) : (s.wr64 a v).gnb = s.gnb := by
  unfold State.wr64; rfl
@[simp] theorem State.wr64_fix (s : State) (a v : Nat) : (s.wr64 a v).fix = s.fix := by
  unfold State.wr64; rfl
@[simp] theorem State.wr64_pad (s : State) (a v : Nat) : (s.wr64 a v).pad = s.pad := by
  unfold State.wr64; rfl
@[simp] theorem State.wr64_gait (s : State) (a v : Nat) : (s.wr64 a v).gait = s.gait := by
  unfold State.wr64; rfl
@[simp] theorem State.wr64_byl (s : State) (a v : Nat) : (s.wr64 a v).byl = s.byl := by
  unfold State.wr64; rfl

/-! ### count -/

@[simp] theorem State.count_pending (s : State) (a : Nat) : (s.count a).pending = s.pending := by
  unfold State.count; rfl
@[simp] theorem State.count_cyc (s : State) (a : Nat) : (s.count a).cyc = s.cyc := by
  unfold State.count; rfl
@[simp] theorem State.count_ctr (s : State) (a : Nat) : (s.count a).ctr = s.ctr := by
  unfold State.count; rfl
@[simp] theorem State.count_freeIdx (s : State) (a : Nat) : (s.count a).freeIdx = s.freeIdx := by
  unfold State.count; rfl
@[simp] theorem State.count_live (s : State) (a : Nat) : (s.count a).live = s.live := by
  unfold State.count; rfl
@[simp] theorem State.count_hostMem (s : State) (a : Nat) : (s.count a).hostMem = s.hostMem := by
  unfold State.count; rfl
@[simp] theorem State.count_waiting (s : State) (a : Nat) : (s.count a).waiting = s.waiting := by
  unfold State.count; rfl
@[simp] theorem State.count_bus (s : State) (a : Nat) : (s.count a).bus = s.bus := by
  unfold State.count; rfl
@[simp] theorem State.count_rgn (s : State) (a : Nat) : (s.count a).rgn = s.rgn := by
  unfold State.count; rfl
@[simp] theorem State.count_hif (s : State) (a : Nat) : (s.count a).hif = s.hif := by
  unfold State.count; rfl
@[simp] theorem State.count_dsp (s : State) (a : Nat) : (s.count a).dsp = s.dsp := by
  unfold State.count; rfl
@[simp] theorem State.count_mqf (s : State) (a : Nat) : (s.count a).mqf = s.mqf := by
  unfold State.count; rfl
@[simp] theorem State.count_whoa (s : State) (a : Nat) : (s.count a).whoa = s.whoa := by
  unfold State.count; rfl
@[simp] theorem State.count_net (s : State) (a : Nat) : (s.count a).net = s.net := by
  unfold State.count; rfl
@[simp] theorem State.count_tim (s : State) (a : Nat) : (s.count a).tim = s.tim := by
  unfold State.count; rfl
@[simp] theorem State.count_chip (s : State) (a : Nat) : (s.count a).chip = s.chip := by
  unfold State.count; rfl
@[simp] theorem State.count_tack (s : State) (a : Nat) : (s.count a).tack = s.tack := by
  unfold State.count; rfl
@[simp] theorem State.count_recd (s : State) (a : Nat) : (s.count a).recd = s.recd := by
  unfold State.count; rfl
@[simp] theorem State.count_air (s : State) (a : Nat) : (s.count a).air = s.air := by
  unfold State.count; rfl
@[simp] theorem State.count_gnb (s : State) (a : Nat) : (s.count a).gnb = s.gnb := by
  unfold State.count; rfl
@[simp] theorem State.count_fix (s : State) (a : Nat) : (s.count a).fix = s.fix := by
  unfold State.count; rfl
@[simp] theorem State.count_pad (s : State) (a : Nat) : (s.count a).pad = s.pad := by
  unfold State.count; rfl
@[simp] theorem State.count_gait (s : State) (a : Nat) : (s.count a).gait = s.gait := by
  unfold State.count; rfl
@[simp] theorem State.count_byl (s : State) (a : Nat) : (s.count a).byl = s.byl := by
  unfold State.count; rfl

/-! ### countBy -/

@[simp] theorem State.countBy_pending (s : State) (a n : Nat) : (s.countBy a n).pending = s.pending := by
  unfold State.countBy; rfl
@[simp] theorem State.countBy_cyc (s : State) (a n : Nat) : (s.countBy a n).cyc = s.cyc := by
  unfold State.countBy; rfl
@[simp] theorem State.countBy_ctr (s : State) (a n : Nat) : (s.countBy a n).ctr = s.ctr := by
  unfold State.countBy; rfl
@[simp] theorem State.countBy_freeIdx (s : State) (a n : Nat) : (s.countBy a n).freeIdx = s.freeIdx := by
  unfold State.countBy; rfl
@[simp] theorem State.countBy_live (s : State) (a n : Nat) : (s.countBy a n).live = s.live := by
  unfold State.countBy; rfl
@[simp] theorem State.countBy_hostMem (s : State) (a n : Nat) : (s.countBy a n).hostMem = s.hostMem := by
  unfold State.countBy; rfl
@[simp] theorem State.countBy_waiting (s : State) (a n : Nat) : (s.countBy a n).waiting = s.waiting := by
  unfold State.countBy; rfl
@[simp] theorem State.countBy_bus (s : State) (a n : Nat) : (s.countBy a n).bus = s.bus := by
  unfold State.countBy; rfl
@[simp] theorem State.countBy_rgn (s : State) (a n : Nat) : (s.countBy a n).rgn = s.rgn := by
  unfold State.countBy; rfl
@[simp] theorem State.countBy_hif (s : State) (a n : Nat) : (s.countBy a n).hif = s.hif := by
  unfold State.countBy; rfl
@[simp] theorem State.countBy_dsp (s : State) (a n : Nat) : (s.countBy a n).dsp = s.dsp := by
  unfold State.countBy; rfl
@[simp] theorem State.countBy_mqf (s : State) (a n : Nat) : (s.countBy a n).mqf = s.mqf := by
  unfold State.countBy; rfl
@[simp] theorem State.countBy_whoa (s : State) (a n : Nat) : (s.countBy a n).whoa = s.whoa := by
  unfold State.countBy; rfl
@[simp] theorem State.countBy_net (s : State) (a n : Nat) : (s.countBy a n).net = s.net := by
  unfold State.countBy; rfl
@[simp] theorem State.countBy_tim (s : State) (a n : Nat) : (s.countBy a n).tim = s.tim := by
  unfold State.countBy; rfl
@[simp] theorem State.countBy_chip (s : State) (a n : Nat) : (s.countBy a n).chip = s.chip := by
  unfold State.countBy; rfl
@[simp] theorem State.countBy_tack (s : State) (a n : Nat) : (s.countBy a n).tack = s.tack := by
  unfold State.countBy; rfl
@[simp] theorem State.countBy_recd (s : State) (a n : Nat) : (s.countBy a n).recd = s.recd := by
  unfold State.countBy; rfl
@[simp] theorem State.countBy_air (s : State) (a n : Nat) : (s.countBy a n).air = s.air := by
  unfold State.countBy; rfl
@[simp] theorem State.countBy_gnb (s : State) (a n : Nat) : (s.countBy a n).gnb = s.gnb := by
  unfold State.countBy; rfl
@[simp] theorem State.countBy_fix (s : State) (a n : Nat) : (s.countBy a n).fix = s.fix := by
  unfold State.countBy; rfl
@[simp] theorem State.countBy_pad (s : State) (a n : Nat) : (s.countBy a n).pad = s.pad := by
  unfold State.countBy; rfl
@[simp] theorem State.countBy_gait (s : State) (a n : Nat) : (s.countBy a n).gait = s.gait := by
  unfold State.countBy; rfl
@[simp] theorem State.countBy_byl (s : State) (a n : Nat) : (s.countBy a n).byl = s.byl := by
  unfold State.countBy; rfl

/-! ### setLive -/

@[simp] theorem State.setLive_pending (s : State) (a : Nat) (v : Word) : (s.setLive a v).pending = s.pending := by
  unfold State.setLive; rfl
@[simp] theorem State.setLive_cyc (s : State) (a : Nat) (v : Word) : (s.setLive a v).cyc = s.cyc := by
  unfold State.setLive; rfl
@[simp] theorem State.setLive_ctr (s : State) (a : Nat) (v : Word) : (s.setLive a v).ctr = s.ctr := by
  unfold State.setLive; rfl
@[simp] theorem State.setLive_freeIdx (s : State) (a : Nat) (v : Word) : (s.setLive a v).freeIdx = s.freeIdx := by
  unfold State.setLive; rfl
@[simp] theorem State.setLive_regs (s : State) (a : Nat) (v : Word) : (s.setLive a v).regs = s.regs := by
  unfold State.setLive; rfl
@[simp] theorem State.setLive_hostMem (s : State) (a : Nat) (v : Word) : (s.setLive a v).hostMem = s.hostMem := by
  unfold State.setLive; rfl
@[simp] theorem State.setLive_waiting (s : State) (a : Nat) (v : Word) : (s.setLive a v).waiting = s.waiting := by
  unfold State.setLive; rfl
@[simp] theorem State.setLive_bus (s : State) (a : Nat) (v : Word) : (s.setLive a v).bus = s.bus := by
  unfold State.setLive; rfl
@[simp] theorem State.setLive_rgn (s : State) (a : Nat) (v : Word) : (s.setLive a v).rgn = s.rgn := by
  unfold State.setLive; rfl
@[simp] theorem State.setLive_hif (s : State) (a : Nat) (v : Word) : (s.setLive a v).hif = s.hif := by
  unfold State.setLive; rfl
@[simp] theorem State.setLive_dsp (s : State) (a : Nat) (v : Word) : (s.setLive a v).dsp = s.dsp := by
  unfold State.setLive; rfl
@[simp] theorem State.setLive_mqf (s : State) (a : Nat) (v : Word) : (s.setLive a v).mqf = s.mqf := by
  unfold State.setLive; rfl
@[simp] theorem State.setLive_whoa (s : State) (a : Nat) (v : Word) : (s.setLive a v).whoa = s.whoa := by
  unfold State.setLive; rfl
@[simp] theorem State.setLive_net (s : State) (a : Nat) (v : Word) : (s.setLive a v).net = s.net := by
  unfold State.setLive; rfl
@[simp] theorem State.setLive_tim (s : State) (a : Nat) (v : Word) : (s.setLive a v).tim = s.tim := by
  unfold State.setLive; rfl
@[simp] theorem State.setLive_chip (s : State) (a : Nat) (v : Word) : (s.setLive a v).chip = s.chip := by
  unfold State.setLive; rfl
@[simp] theorem State.setLive_tack (s : State) (a : Nat) (v : Word) : (s.setLive a v).tack = s.tack := by
  unfold State.setLive; rfl
@[simp] theorem State.setLive_recd (s : State) (a : Nat) (v : Word) : (s.setLive a v).recd = s.recd := by
  unfold State.setLive; rfl
@[simp] theorem State.setLive_air (s : State) (a : Nat) (v : Word) : (s.setLive a v).air = s.air := by
  unfold State.setLive; rfl
@[simp] theorem State.setLive_gnb (s : State) (a : Nat) (v : Word) : (s.setLive a v).gnb = s.gnb := by
  unfold State.setLive; rfl
@[simp] theorem State.setLive_fix (s : State) (a : Nat) (v : Word) : (s.setLive a v).fix = s.fix := by
  unfold State.setLive; rfl
@[simp] theorem State.setLive_pad (s : State) (a : Nat) (v : Word) : (s.setLive a v).pad = s.pad := by
  unfold State.setLive; rfl
@[simp] theorem State.setLive_gait (s : State) (a : Nat) (v : Word) : (s.setLive a v).gait = s.gait := by
  unfold State.setLive; rfl
@[simp] theorem State.setLive_byl (s : State) (a : Nat) (v : Word) : (s.setLive a v).byl = s.byl := by
  unfold State.setLive; rfl

/-! ### advance -/

@[simp] theorem State.advance_pending (s : State) (n : Nat) : (s.advance n).pending = s.pending := by
  unfold State.advance; rfl
@[simp] theorem State.advance_freeIdx (s : State) (n : Nat) : (s.advance n).freeIdx = s.freeIdx := by
  unfold State.advance; rfl
@[simp] theorem State.advance_regs (s : State) (n : Nat) : (s.advance n).regs = s.regs := by
  unfold State.advance; rfl
@[simp] theorem State.advance_live (s : State) (n : Nat) : (s.advance n).live = s.live := by
  unfold State.advance; rfl
@[simp] theorem State.advance_hostMem (s : State) (n : Nat) : (s.advance n).hostMem = s.hostMem := by
  unfold State.advance; rfl
@[simp] theorem State.advance_waiting (s : State) (n : Nat) : (s.advance n).waiting = s.waiting := by
  unfold State.advance; rfl
@[simp] theorem State.advance_bus (s : State) (n : Nat) : (s.advance n).bus = s.bus := by
  unfold State.advance; rfl
@[simp] theorem State.advance_rgn (s : State) (n : Nat) : (s.advance n).rgn = s.rgn := by
  unfold State.advance; rfl
@[simp] theorem State.advance_hif (s : State) (n : Nat) : (s.advance n).hif = s.hif := by
  unfold State.advance; rfl
@[simp] theorem State.advance_dsp (s : State) (n : Nat) : (s.advance n).dsp = s.dsp := by
  unfold State.advance; rfl
@[simp] theorem State.advance_mqf (s : State) (n : Nat) : (s.advance n).mqf = s.mqf := by
  unfold State.advance; rfl
@[simp] theorem State.advance_whoa (s : State) (n : Nat) : (s.advance n).whoa = s.whoa := by
  unfold State.advance; rfl
@[simp] theorem State.advance_net (s : State) (n : Nat) : (s.advance n).net = s.net := by
  unfold State.advance; rfl
@[simp] theorem State.advance_tim (s : State) (n : Nat) : (s.advance n).tim = s.tim := by
  unfold State.advance; rfl
@[simp] theorem State.advance_chip (s : State) (n : Nat) : (s.advance n).chip = s.chip := by
  unfold State.advance; rfl
@[simp] theorem State.advance_tack (s : State) (n : Nat) : (s.advance n).tack = s.tack := by
  unfold State.advance; rfl
@[simp] theorem State.advance_recd (s : State) (n : Nat) : (s.advance n).recd = s.recd := by
  unfold State.advance; rfl
@[simp] theorem State.advance_air (s : State) (n : Nat) : (s.advance n).air = s.air := by
  unfold State.advance; rfl
@[simp] theorem State.advance_gnb (s : State) (n : Nat) : (s.advance n).gnb = s.gnb := by
  unfold State.advance; rfl
@[simp] theorem State.advance_fix (s : State) (n : Nat) : (s.advance n).fix = s.fix := by
  unfold State.advance; rfl
@[simp] theorem State.advance_pad (s : State) (n : Nat) : (s.advance n).pad = s.pad := by
  unfold State.advance; rfl
@[simp] theorem State.advance_gait (s : State) (n : Nat) : (s.advance n).gait = s.gait := by
  unfold State.advance; rfl
@[simp] theorem State.advance_byl (s : State) (n : Nat) : (s.advance n).byl = s.byl := by
  unfold State.advance; rfl

/-! ### to -/

@[simp] theorem State.to_pending (s : State) (t : Nat) : (s.to t).pending = s.pending := by
  unfold State.to; rfl
@[simp] theorem State.to_freeIdx (s : State) (t : Nat) : (s.to t).freeIdx = s.freeIdx := by
  unfold State.to; rfl
@[simp] theorem State.to_regs (s : State) (t : Nat) : (s.to t).regs = s.regs := by
  unfold State.to; rfl
@[simp] theorem State.to_live (s : State) (t : Nat) : (s.to t).live = s.live := by
  unfold State.to; rfl
@[simp] theorem State.to_hostMem (s : State) (t : Nat) : (s.to t).hostMem = s.hostMem := by
  unfold State.to; rfl
@[simp] theorem State.to_waiting (s : State) (t : Nat) : (s.to t).waiting = s.waiting := by
  unfold State.to; rfl
@[simp] theorem State.to_bus (s : State) (t : Nat) : (s.to t).bus = s.bus := by
  unfold State.to; rfl
@[simp] theorem State.to_rgn (s : State) (t : Nat) : (s.to t).rgn = s.rgn := by
  unfold State.to; rfl
@[simp] theorem State.to_hif (s : State) (t : Nat) : (s.to t).hif = s.hif := by
  unfold State.to; rfl
@[simp] theorem State.to_dsp (s : State) (t : Nat) : (s.to t).dsp = s.dsp := by
  unfold State.to; rfl
@[simp] theorem State.to_mqf (s : State) (t : Nat) : (s.to t).mqf = s.mqf := by
  unfold State.to; rfl
@[simp] theorem State.to_whoa (s : State) (t : Nat) : (s.to t).whoa = s.whoa := by
  unfold State.to; rfl
@[simp] theorem State.to_net (s : State) (t : Nat) : (s.to t).net = s.net := by
  unfold State.to; rfl
@[simp] theorem State.to_tim (s : State) (t : Nat) : (s.to t).tim = s.tim := by
  unfold State.to; rfl
@[simp] theorem State.to_chip (s : State) (t : Nat) : (s.to t).chip = s.chip := by
  unfold State.to; rfl
@[simp] theorem State.to_tack (s : State) (t : Nat) : (s.to t).tack = s.tack := by
  unfold State.to; rfl
@[simp] theorem State.to_recd (s : State) (t : Nat) : (s.to t).recd = s.recd := by
  unfold State.to; rfl
@[simp] theorem State.to_air (s : State) (t : Nat) : (s.to t).air = s.air := by
  unfold State.to; rfl
@[simp] theorem State.to_gnb (s : State) (t : Nat) : (s.to t).gnb = s.gnb := by
  unfold State.to; rfl
@[simp] theorem State.to_fix (s : State) (t : Nat) : (s.to t).fix = s.fix := by
  unfold State.to; rfl
@[simp] theorem State.to_pad (s : State) (t : Nat) : (s.to t).pad = s.pad := by
  unfold State.to; rfl
@[simp] theorem State.to_gait (s : State) (t : Nat) : (s.to t).gait = s.gait := by
  unfold State.to; rfl
@[simp] theorem State.to_byl (s : State) (t : Nat) : (s.to t).byl = s.byl := by
  unfold State.to; rfl

/-! ### tookFree -/

@[simp] theorem State.tookFree_pending (s : State) : (s.tookFree).pending = s.pending := by
  unfold State.tookFree; rfl
@[simp] theorem State.tookFree_cyc (s : State) : (s.tookFree).cyc = s.cyc := by
  unfold State.tookFree; rfl
@[simp] theorem State.tookFree_ctr (s : State) : (s.tookFree).ctr = s.ctr := by
  unfold State.tookFree; rfl
@[simp] theorem State.tookFree_regs (s : State) : (s.tookFree).regs = s.regs := by
  unfold State.tookFree; rfl
@[simp] theorem State.tookFree_live (s : State) : (s.tookFree).live = s.live := by
  unfold State.tookFree; rfl
@[simp] theorem State.tookFree_hostMem (s : State) : (s.tookFree).hostMem = s.hostMem := by
  unfold State.tookFree; rfl
@[simp] theorem State.tookFree_waiting (s : State) : (s.tookFree).waiting = s.waiting := by
  unfold State.tookFree; rfl
@[simp] theorem State.tookFree_bus (s : State) : (s.tookFree).bus = s.bus := by
  unfold State.tookFree; rfl
@[simp] theorem State.tookFree_rgn (s : State) : (s.tookFree).rgn = s.rgn := by
  unfold State.tookFree; rfl
@[simp] theorem State.tookFree_hif (s : State) : (s.tookFree).hif = s.hif := by
  unfold State.tookFree; rfl
@[simp] theorem State.tookFree_dsp (s : State) : (s.tookFree).dsp = s.dsp := by
  unfold State.tookFree; rfl
@[simp] theorem State.tookFree_mqf (s : State) : (s.tookFree).mqf = s.mqf := by
  unfold State.tookFree; rfl
@[simp] theorem State.tookFree_whoa (s : State) : (s.tookFree).whoa = s.whoa := by
  unfold State.tookFree; rfl
@[simp] theorem State.tookFree_net (s : State) : (s.tookFree).net = s.net := by
  unfold State.tookFree; rfl
@[simp] theorem State.tookFree_tim (s : State) : (s.tookFree).tim = s.tim := by
  unfold State.tookFree; rfl
@[simp] theorem State.tookFree_chip (s : State) : (s.tookFree).chip = s.chip := by
  unfold State.tookFree; rfl
@[simp] theorem State.tookFree_tack (s : State) : (s.tookFree).tack = s.tack := by
  unfold State.tookFree; rfl
@[simp] theorem State.tookFree_recd (s : State) : (s.tookFree).recd = s.recd := by
  unfold State.tookFree; rfl
@[simp] theorem State.tookFree_air (s : State) : (s.tookFree).air = s.air := by
  unfold State.tookFree; rfl
@[simp] theorem State.tookFree_gnb (s : State) : (s.tookFree).gnb = s.gnb := by
  unfold State.tookFree; rfl
@[simp] theorem State.tookFree_fix (s : State) : (s.tookFree).fix = s.fix := by
  unfold State.tookFree; rfl
@[simp] theorem State.tookFree_pad (s : State) : (s.tookFree).pad = s.pad := by
  unfold State.tookFree; rfl
@[simp] theorem State.tookFree_gait (s : State) : (s.tookFree).gait = s.gait := by
  unfold State.tookFree; rfl
@[simp] theorem State.tookFree_byl (s : State) : (s.tookFree).byl = s.byl := by
  unfold State.tookFree; rfl

/-! ### fire -/

@[simp] theorem State.fire_pending (s : State) (v : Nat) : (s.fire v).pending = s.pending := by
  unfold State.fire; rfl
@[simp] theorem State.fire_cyc (s : State) (v : Nat) : (s.fire v).cyc = s.cyc := by
  unfold State.fire; rfl
@[simp] theorem State.fire_ctr (s : State) (v : Nat) : (s.fire v).ctr = s.ctr := by
  unfold State.fire; rfl
@[simp] theorem State.fire_freeIdx (s : State) (v : Nat) : (s.fire v).freeIdx = s.freeIdx := by
  unfold State.fire; rfl
@[simp] theorem State.fire_regs (s : State) (v : Nat) : (s.fire v).regs = s.regs := by
  unfold State.fire; rfl
@[simp] theorem State.fire_live (s : State) (v : Nat) : (s.fire v).live = s.live := by
  unfold State.fire; rfl
@[simp] theorem State.fire_hostMem (s : State) (v : Nat) : (s.fire v).hostMem = s.hostMem := by
  unfold State.fire; rfl
@[simp] theorem State.fire_waiting (s : State) (v : Nat) : (s.fire v).waiting = s.waiting := by
  unfold State.fire; rfl
@[simp] theorem State.fire_bus (s : State) (v : Nat) : (s.fire v).bus = s.bus := by
  unfold State.fire; rfl
@[simp] theorem State.fire_rgn (s : State) (v : Nat) : (s.fire v).rgn = s.rgn := by
  unfold State.fire; rfl
@[simp] theorem State.fire_dsp (s : State) (v : Nat) : (s.fire v).dsp = s.dsp := by
  unfold State.fire; rfl
@[simp] theorem State.fire_mqf (s : State) (v : Nat) : (s.fire v).mqf = s.mqf := by
  unfold State.fire; rfl
@[simp] theorem State.fire_whoa (s : State) (v : Nat) : (s.fire v).whoa = s.whoa := by
  unfold State.fire; rfl
@[simp] theorem State.fire_net (s : State) (v : Nat) : (s.fire v).net = s.net := by
  unfold State.fire; rfl
@[simp] theorem State.fire_tim (s : State) (v : Nat) : (s.fire v).tim = s.tim := by
  unfold State.fire; rfl
@[simp] theorem State.fire_chip (s : State) (v : Nat) : (s.fire v).chip = s.chip := by
  unfold State.fire; rfl
@[simp] theorem State.fire_tack (s : State) (v : Nat) : (s.fire v).tack = s.tack := by
  unfold State.fire; rfl
@[simp] theorem State.fire_recd (s : State) (v : Nat) : (s.fire v).recd = s.recd := by
  unfold State.fire; rfl
@[simp] theorem State.fire_air (s : State) (v : Nat) : (s.fire v).air = s.air := by
  unfold State.fire; rfl
@[simp] theorem State.fire_gnb (s : State) (v : Nat) : (s.fire v).gnb = s.gnb := by
  unfold State.fire; rfl
@[simp] theorem State.fire_fix (s : State) (v : Nat) : (s.fire v).fix = s.fix := by
  unfold State.fire; rfl
@[simp] theorem State.fire_pad (s : State) (v : Nat) : (s.fire v).pad = s.pad := by
  unfold State.fire; rfl
@[simp] theorem State.fire_gait (s : State) (v : Nat) : (s.fire v).gait = s.gait := by
  unfold State.fire; rfl
@[simp] theorem State.fire_byl (s : State) (v : Nat) : (s.fire v).byl = s.byl := by
  unfold State.fire; rfl

/-! ### writeHost -/

@[simp] theorem State.writeHost_pending (s : State) (a : Nat) (bs : List Byte) : (s.writeHost a bs).pending = s.pending := by
  unfold State.writeHost; rfl
@[simp] theorem State.writeHost_cyc (s : State) (a : Nat) (bs : List Byte) : (s.writeHost a bs).cyc = s.cyc := by
  unfold State.writeHost; rfl
@[simp] theorem State.writeHost_ctr (s : State) (a : Nat) (bs : List Byte) : (s.writeHost a bs).ctr = s.ctr := by
  unfold State.writeHost; rfl
@[simp] theorem State.writeHost_freeIdx (s : State) (a : Nat) (bs : List Byte) : (s.writeHost a bs).freeIdx = s.freeIdx := by
  unfold State.writeHost; rfl
@[simp] theorem State.writeHost_regs (s : State) (a : Nat) (bs : List Byte) : (s.writeHost a bs).regs = s.regs := by
  unfold State.writeHost; rfl
@[simp] theorem State.writeHost_live (s : State) (a : Nat) (bs : List Byte) : (s.writeHost a bs).live = s.live := by
  unfold State.writeHost; rfl
@[simp] theorem State.writeHost_waiting (s : State) (a : Nat) (bs : List Byte) : (s.writeHost a bs).waiting = s.waiting := by
  unfold State.writeHost; rfl
@[simp] theorem State.writeHost_bus (s : State) (a : Nat) (bs : List Byte) : (s.writeHost a bs).bus = s.bus := by
  unfold State.writeHost; rfl
@[simp] theorem State.writeHost_rgn (s : State) (a : Nat) (bs : List Byte) : (s.writeHost a bs).rgn = s.rgn := by
  unfold State.writeHost; rfl
@[simp] theorem State.writeHost_hif (s : State) (a : Nat) (bs : List Byte) : (s.writeHost a bs).hif = s.hif := by
  unfold State.writeHost; rfl
@[simp] theorem State.writeHost_dsp (s : State) (a : Nat) (bs : List Byte) : (s.writeHost a bs).dsp = s.dsp := by
  unfold State.writeHost; rfl
@[simp] theorem State.writeHost_mqf (s : State) (a : Nat) (bs : List Byte) : (s.writeHost a bs).mqf = s.mqf := by
  unfold State.writeHost; rfl
@[simp] theorem State.writeHost_whoa (s : State) (a : Nat) (bs : List Byte) : (s.writeHost a bs).whoa = s.whoa := by
  unfold State.writeHost; rfl
@[simp] theorem State.writeHost_net (s : State) (a : Nat) (bs : List Byte) : (s.writeHost a bs).net = s.net := by
  unfold State.writeHost; rfl
@[simp] theorem State.writeHost_tim (s : State) (a : Nat) (bs : List Byte) : (s.writeHost a bs).tim = s.tim := by
  unfold State.writeHost; rfl
@[simp] theorem State.writeHost_chip (s : State) (a : Nat) (bs : List Byte) : (s.writeHost a bs).chip = s.chip := by
  unfold State.writeHost; rfl
@[simp] theorem State.writeHost_tack (s : State) (a : Nat) (bs : List Byte) : (s.writeHost a bs).tack = s.tack := by
  unfold State.writeHost; rfl
@[simp] theorem State.writeHost_recd (s : State) (a : Nat) (bs : List Byte) : (s.writeHost a bs).recd = s.recd := by
  unfold State.writeHost; rfl
@[simp] theorem State.writeHost_air (s : State) (a : Nat) (bs : List Byte) : (s.writeHost a bs).air = s.air := by
  unfold State.writeHost; rfl
@[simp] theorem State.writeHost_gnb (s : State) (a : Nat) (bs : List Byte) : (s.writeHost a bs).gnb = s.gnb := by
  unfold State.writeHost; rfl
@[simp] theorem State.writeHost_fix (s : State) (a : Nat) (bs : List Byte) : (s.writeHost a bs).fix = s.fix := by
  unfold State.writeHost; rfl
@[simp] theorem State.writeHost_pad (s : State) (a : Nat) (bs : List Byte) : (s.writeHost a bs).pad = s.pad := by
  unfold State.writeHost; rfl
@[simp] theorem State.writeHost_gait (s : State) (a : Nat) (bs : List Byte) : (s.writeHost a bs).gait = s.gait := by
  unfold State.writeHost; rfl
@[simp] theorem State.writeHost_byl (s : State) (a : Nat) (bs : List Byte) : (s.writeHost a bs).byl = s.byl := by
  unfold State.writeHost; rfl

/-! ### setRing -/

@[simp] theorem State.setRing_pending (s : State) (n : Nat) (r : RingRt) : (s.setRing n r).pending = s.pending := by
  unfold State.setRing; rfl
@[simp] theorem State.setRing_cyc (s : State) (n : Nat) (r : RingRt) : (s.setRing n r).cyc = s.cyc := by
  unfold State.setRing; rfl
@[simp] theorem State.setRing_ctr (s : State) (n : Nat) (r : RingRt) : (s.setRing n r).ctr = s.ctr := by
  unfold State.setRing; rfl
@[simp] theorem State.setRing_freeIdx (s : State) (n : Nat) (r : RingRt) : (s.setRing n r).freeIdx = s.freeIdx := by
  unfold State.setRing; rfl
@[simp] theorem State.setRing_regs (s : State) (n : Nat) (r : RingRt) : (s.setRing n r).regs = s.regs := by
  unfold State.setRing; rfl
@[simp] theorem State.setRing_live (s : State) (n : Nat) (r : RingRt) : (s.setRing n r).live = s.live := by
  unfold State.setRing; rfl
@[simp] theorem State.setRing_hostMem (s : State) (n : Nat) (r : RingRt) : (s.setRing n r).hostMem = s.hostMem := by
  unfold State.setRing; rfl
@[simp] theorem State.setRing_waiting (s : State) (n : Nat) (r : RingRt) : (s.setRing n r).waiting = s.waiting := by
  unfold State.setRing; rfl
@[simp] theorem State.setRing_bus (s : State) (n : Nat) (r : RingRt) : (s.setRing n r).bus = s.bus := by
  unfold State.setRing; rfl
@[simp] theorem State.setRing_rgn (s : State) (n : Nat) (r : RingRt) : (s.setRing n r).rgn = s.rgn := by
  unfold State.setRing; rfl
@[simp] theorem State.setRing_dsp (s : State) (n : Nat) (r : RingRt) : (s.setRing n r).dsp = s.dsp := by
  unfold State.setRing; rfl
@[simp] theorem State.setRing_mqf (s : State) (n : Nat) (r : RingRt) : (s.setRing n r).mqf = s.mqf := by
  unfold State.setRing; rfl
@[simp] theorem State.setRing_whoa (s : State) (n : Nat) (r : RingRt) : (s.setRing n r).whoa = s.whoa := by
  unfold State.setRing; rfl
@[simp] theorem State.setRing_net (s : State) (n : Nat) (r : RingRt) : (s.setRing n r).net = s.net := by
  unfold State.setRing; rfl
@[simp] theorem State.setRing_tim (s : State) (n : Nat) (r : RingRt) : (s.setRing n r).tim = s.tim := by
  unfold State.setRing; rfl
@[simp] theorem State.setRing_chip (s : State) (n : Nat) (r : RingRt) : (s.setRing n r).chip = s.chip := by
  unfold State.setRing; rfl
@[simp] theorem State.setRing_tack (s : State) (n : Nat) (r : RingRt) : (s.setRing n r).tack = s.tack := by
  unfold State.setRing; rfl
@[simp] theorem State.setRing_recd (s : State) (n : Nat) (r : RingRt) : (s.setRing n r).recd = s.recd := by
  unfold State.setRing; rfl
@[simp] theorem State.setRing_air (s : State) (n : Nat) (r : RingRt) : (s.setRing n r).air = s.air := by
  unfold State.setRing; rfl
@[simp] theorem State.setRing_gnb (s : State) (n : Nat) (r : RingRt) : (s.setRing n r).gnb = s.gnb := by
  unfold State.setRing; rfl
@[simp] theorem State.setRing_fix (s : State) (n : Nat) (r : RingRt) : (s.setRing n r).fix = s.fix := by
  unfold State.setRing; rfl
@[simp] theorem State.setRing_pad (s : State) (n : Nat) (r : RingRt) : (s.setRing n r).pad = s.pad := by
  unfold State.setRing; rfl
@[simp] theorem State.setRing_gait (s : State) (n : Nat) (r : RingRt) : (s.setRing n r).gait = s.gait := by
  unfold State.setRing; rfl
@[simp] theorem State.setRing_byl (s : State) (n : Nat) (r : RingRt) : (s.setRing n r).byl = s.byl := by
  unfold State.setRing; rfl

/-! ### tookId -/

@[simp] theorem State.tookId_pending (s : State) : (s.tookId).pending = s.pending := by
  unfold State.tookId; rfl
@[simp] theorem State.tookId_cyc (s : State) : (s.tookId).cyc = s.cyc := by
  unfold State.tookId; rfl
@[simp] theorem State.tookId_ctr (s : State) : (s.tookId).ctr = s.ctr := by
  unfold State.tookId; rfl
@[simp] theorem State.tookId_freeIdx (s : State) : (s.tookId).freeIdx = s.freeIdx := by
  unfold State.tookId; rfl
@[simp] theorem State.tookId_regs (s : State) : (s.tookId).regs = s.regs := by
  unfold State.tookId; rfl
@[simp] theorem State.tookId_live (s : State) : (s.tookId).live = s.live := by
  unfold State.tookId; rfl
@[simp] theorem State.tookId_hostMem (s : State) : (s.tookId).hostMem = s.hostMem := by
  unfold State.tookId; rfl
@[simp] theorem State.tookId_waiting (s : State) : (s.tookId).waiting = s.waiting := by
  unfold State.tookId; rfl
@[simp] theorem State.tookId_bus (s : State) : (s.tookId).bus = s.bus := by
  unfold State.tookId; rfl
@[simp] theorem State.tookId_rgn (s : State) : (s.tookId).rgn = s.rgn := by
  unfold State.tookId; rfl
@[simp] theorem State.tookId_dsp (s : State) : (s.tookId).dsp = s.dsp := by
  unfold State.tookId; rfl
@[simp] theorem State.tookId_mqf (s : State) : (s.tookId).mqf = s.mqf := by
  unfold State.tookId; rfl
@[simp] theorem State.tookId_whoa (s : State) : (s.tookId).whoa = s.whoa := by
  unfold State.tookId; rfl
@[simp] theorem State.tookId_net (s : State) : (s.tookId).net = s.net := by
  unfold State.tookId; rfl
@[simp] theorem State.tookId_tim (s : State) : (s.tookId).tim = s.tim := by
  unfold State.tookId; rfl
@[simp] theorem State.tookId_chip (s : State) : (s.tookId).chip = s.chip := by
  unfold State.tookId; rfl
@[simp] theorem State.tookId_tack (s : State) : (s.tookId).tack = s.tack := by
  unfold State.tookId; rfl
@[simp] theorem State.tookId_recd (s : State) : (s.tookId).recd = s.recd := by
  unfold State.tookId; rfl
@[simp] theorem State.tookId_air (s : State) : (s.tookId).air = s.air := by
  unfold State.tookId; rfl
@[simp] theorem State.tookId_gnb (s : State) : (s.tookId).gnb = s.gnb := by
  unfold State.tookId; rfl
@[simp] theorem State.tookId_fix (s : State) : (s.tookId).fix = s.fix := by
  unfold State.tookId; rfl
@[simp] theorem State.tookId_pad (s : State) : (s.tookId).pad = s.pad := by
  unfold State.tookId; rfl
@[simp] theorem State.tookId_gait (s : State) : (s.tookId).gait = s.gait := by
  unfold State.tookId; rfl
@[simp] theorem State.tookId_byl (s : State) : (s.tookId).byl = s.byl := by
  unfold State.tookId; rfl

/-! ### toPort -/

@[simp] theorem State.toPort_pending (s : State) (p : Nat) (it : Item) : (s.toPort p it).pending = s.pending := by
  unfold State.toPort; rfl
@[simp] theorem State.toPort_cyc (s : State) (p : Nat) (it : Item) : (s.toPort p it).cyc = s.cyc := by
  unfold State.toPort; rfl
@[simp] theorem State.toPort_ctr (s : State) (p : Nat) (it : Item) : (s.toPort p it).ctr = s.ctr := by
  unfold State.toPort; rfl
@[simp] theorem State.toPort_freeIdx (s : State) (p : Nat) (it : Item) : (s.toPort p it).freeIdx = s.freeIdx := by
  unfold State.toPort; rfl
@[simp] theorem State.toPort_regs (s : State) (p : Nat) (it : Item) : (s.toPort p it).regs = s.regs := by
  unfold State.toPort; rfl
@[simp] theorem State.toPort_live (s : State) (p : Nat) (it : Item) : (s.toPort p it).live = s.live := by
  unfold State.toPort; rfl
@[simp] theorem State.toPort_hostMem (s : State) (p : Nat) (it : Item) : (s.toPort p it).hostMem = s.hostMem := by
  unfold State.toPort; rfl
@[simp] theorem State.toPort_waiting (s : State) (p : Nat) (it : Item) : (s.toPort p it).waiting = s.waiting := by
  unfold State.toPort; rfl
@[simp] theorem State.toPort_bus (s : State) (p : Nat) (it : Item) : (s.toPort p it).bus = s.bus := by
  unfold State.toPort; rfl
@[simp] theorem State.toPort_rgn (s : State) (p : Nat) (it : Item) : (s.toPort p it).rgn = s.rgn := by
  unfold State.toPort; rfl
@[simp] theorem State.toPort_hif (s : State) (p : Nat) (it : Item) : (s.toPort p it).hif = s.hif := by
  unfold State.toPort; rfl
@[simp] theorem State.toPort_mqf (s : State) (p : Nat) (it : Item) : (s.toPort p it).mqf = s.mqf := by
  unfold State.toPort; rfl
@[simp] theorem State.toPort_whoa (s : State) (p : Nat) (it : Item) : (s.toPort p it).whoa = s.whoa := by
  unfold State.toPort; rfl
@[simp] theorem State.toPort_net (s : State) (p : Nat) (it : Item) : (s.toPort p it).net = s.net := by
  unfold State.toPort; rfl
@[simp] theorem State.toPort_tim (s : State) (p : Nat) (it : Item) : (s.toPort p it).tim = s.tim := by
  unfold State.toPort; rfl
@[simp] theorem State.toPort_chip (s : State) (p : Nat) (it : Item) : (s.toPort p it).chip = s.chip := by
  unfold State.toPort; rfl
@[simp] theorem State.toPort_tack (s : State) (p : Nat) (it : Item) : (s.toPort p it).tack = s.tack := by
  unfold State.toPort; rfl
@[simp] theorem State.toPort_recd (s : State) (p : Nat) (it : Item) : (s.toPort p it).recd = s.recd := by
  unfold State.toPort; rfl
@[simp] theorem State.toPort_air (s : State) (p : Nat) (it : Item) : (s.toPort p it).air = s.air := by
  unfold State.toPort; rfl
@[simp] theorem State.toPort_gnb (s : State) (p : Nat) (it : Item) : (s.toPort p it).gnb = s.gnb := by
  unfold State.toPort; rfl
@[simp] theorem State.toPort_fix (s : State) (p : Nat) (it : Item) : (s.toPort p it).fix = s.fix := by
  unfold State.toPort; rfl
@[simp] theorem State.toPort_pad (s : State) (p : Nat) (it : Item) : (s.toPort p it).pad = s.pad := by
  unfold State.toPort; rfl
@[simp] theorem State.toPort_gait (s : State) (p : Nat) (it : Item) : (s.toPort p it).gait = s.gait := by
  unfold State.toPort; rfl
@[simp] theorem State.toPort_byl (s : State) (p : Nat) (it : Item) : (s.toPort p it).byl = s.byl := by
  unfold State.toPort; rfl

/-! ### unwait -/

@[simp] theorem State.unwait_pending (s : State) (id : Nat) : (s.unwait id).pending = s.pending := by
  unfold State.unwait; rfl
@[simp] theorem State.unwait_cyc (s : State) (id : Nat) : (s.unwait id).cyc = s.cyc := by
  unfold State.unwait; rfl
@[simp] theorem State.unwait_ctr (s : State) (id : Nat) : (s.unwait id).ctr = s.ctr := by
  unfold State.unwait; rfl
@[simp] theorem State.unwait_freeIdx (s : State) (id : Nat) : (s.unwait id).freeIdx = s.freeIdx := by
  unfold State.unwait; rfl
@[simp] theorem State.unwait_regs (s : State) (id : Nat) : (s.unwait id).regs = s.regs := by
  unfold State.unwait; rfl
@[simp] theorem State.unwait_live (s : State) (id : Nat) : (s.unwait id).live = s.live := by
  unfold State.unwait; rfl
@[simp] theorem State.unwait_hostMem (s : State) (id : Nat) : (s.unwait id).hostMem = s.hostMem := by
  unfold State.unwait; rfl
@[simp] theorem State.unwait_bus (s : State) (id : Nat) : (s.unwait id).bus = s.bus := by
  unfold State.unwait; rfl
@[simp] theorem State.unwait_rgn (s : State) (id : Nat) : (s.unwait id).rgn = s.rgn := by
  unfold State.unwait; rfl
@[simp] theorem State.unwait_hif (s : State) (id : Nat) : (s.unwait id).hif = s.hif := by
  unfold State.unwait; rfl
@[simp] theorem State.unwait_dsp (s : State) (id : Nat) : (s.unwait id).dsp = s.dsp := by
  unfold State.unwait; rfl
@[simp] theorem State.unwait_mqf (s : State) (id : Nat) : (s.unwait id).mqf = s.mqf := by
  unfold State.unwait; rfl
@[simp] theorem State.unwait_whoa (s : State) (id : Nat) : (s.unwait id).whoa = s.whoa := by
  unfold State.unwait; rfl
@[simp] theorem State.unwait_net (s : State) (id : Nat) : (s.unwait id).net = s.net := by
  unfold State.unwait; rfl
@[simp] theorem State.unwait_tim (s : State) (id : Nat) : (s.unwait id).tim = s.tim := by
  unfold State.unwait; rfl
@[simp] theorem State.unwait_chip (s : State) (id : Nat) : (s.unwait id).chip = s.chip := by
  unfold State.unwait; rfl
@[simp] theorem State.unwait_tack (s : State) (id : Nat) : (s.unwait id).tack = s.tack := by
  unfold State.unwait; rfl
@[simp] theorem State.unwait_recd (s : State) (id : Nat) : (s.unwait id).recd = s.recd := by
  unfold State.unwait; rfl
@[simp] theorem State.unwait_air (s : State) (id : Nat) : (s.unwait id).air = s.air := by
  unfold State.unwait; rfl
@[simp] theorem State.unwait_gnb (s : State) (id : Nat) : (s.unwait id).gnb = s.gnb := by
  unfold State.unwait; rfl
@[simp] theorem State.unwait_fix (s : State) (id : Nat) : (s.unwait id).fix = s.fix := by
  unfold State.unwait; rfl
@[simp] theorem State.unwait_pad (s : State) (id : Nat) : (s.unwait id).pad = s.pad := by
  unfold State.unwait; rfl
@[simp] theorem State.unwait_gait (s : State) (id : Nat) : (s.unwait id).gait = s.gait := by
  unfold State.unwait; rfl
@[simp] theorem State.unwait_byl (s : State) (id : Nat) : (s.unwait id).byl = s.byl := by
  unfold State.unwait; rfl

/-! ### setBus -/

@[simp] theorem State.setBus_pending (s : State) (rq : Requester) (b : BusRt) : (s.setBus rq b).pending = s.pending := by
  unfold State.setBus; rfl
@[simp] theorem State.setBus_cyc (s : State) (rq : Requester) (b : BusRt) : (s.setBus rq b).cyc = s.cyc := by
  unfold State.setBus; rfl
@[simp] theorem State.setBus_ctr (s : State) (rq : Requester) (b : BusRt) : (s.setBus rq b).ctr = s.ctr := by
  unfold State.setBus; rfl
@[simp] theorem State.setBus_freeIdx (s : State) (rq : Requester) (b : BusRt) : (s.setBus rq b).freeIdx = s.freeIdx := by
  unfold State.setBus; rfl
@[simp] theorem State.setBus_regs (s : State) (rq : Requester) (b : BusRt) : (s.setBus rq b).regs = s.regs := by
  unfold State.setBus; rfl
@[simp] theorem State.setBus_live (s : State) (rq : Requester) (b : BusRt) : (s.setBus rq b).live = s.live := by
  unfold State.setBus; rfl
@[simp] theorem State.setBus_hostMem (s : State) (rq : Requester) (b : BusRt) : (s.setBus rq b).hostMem = s.hostMem := by
  unfold State.setBus; rfl
@[simp] theorem State.setBus_waiting (s : State) (rq : Requester) (b : BusRt) : (s.setBus rq b).waiting = s.waiting := by
  unfold State.setBus; rfl
@[simp] theorem State.setBus_rgn (s : State) (rq : Requester) (b : BusRt) : (s.setBus rq b).rgn = s.rgn := by
  unfold State.setBus; rfl
@[simp] theorem State.setBus_hif (s : State) (rq : Requester) (b : BusRt) : (s.setBus rq b).hif = s.hif := by
  unfold State.setBus; rfl
@[simp] theorem State.setBus_dsp (s : State) (rq : Requester) (b : BusRt) : (s.setBus rq b).dsp = s.dsp := by
  unfold State.setBus; rfl
@[simp] theorem State.setBus_mqf (s : State) (rq : Requester) (b : BusRt) : (s.setBus rq b).mqf = s.mqf := by
  unfold State.setBus; rfl
@[simp] theorem State.setBus_whoa (s : State) (rq : Requester) (b : BusRt) : (s.setBus rq b).whoa = s.whoa := by
  unfold State.setBus; rfl
@[simp] theorem State.setBus_net (s : State) (rq : Requester) (b : BusRt) : (s.setBus rq b).net = s.net := by
  unfold State.setBus; rfl
@[simp] theorem State.setBus_tim (s : State) (rq : Requester) (b : BusRt) : (s.setBus rq b).tim = s.tim := by
  unfold State.setBus; rfl
@[simp] theorem State.setBus_chip (s : State) (rq : Requester) (b : BusRt) : (s.setBus rq b).chip = s.chip := by
  unfold State.setBus; rfl
@[simp] theorem State.setBus_tack (s : State) (rq : Requester) (b : BusRt) : (s.setBus rq b).tack = s.tack := by
  unfold State.setBus; rfl
@[simp] theorem State.setBus_recd (s : State) (rq : Requester) (b : BusRt) : (s.setBus rq b).recd = s.recd := by
  unfold State.setBus; rfl
@[simp] theorem State.setBus_air (s : State) (rq : Requester) (b : BusRt) : (s.setBus rq b).air = s.air := by
  unfold State.setBus; rfl
@[simp] theorem State.setBus_gnb (s : State) (rq : Requester) (b : BusRt) : (s.setBus rq b).gnb = s.gnb := by
  unfold State.setBus; rfl
@[simp] theorem State.setBus_fix (s : State) (rq : Requester) (b : BusRt) : (s.setBus rq b).fix = s.fix := by
  unfold State.setBus; rfl
@[simp] theorem State.setBus_pad (s : State) (rq : Requester) (b : BusRt) : (s.setBus rq b).pad = s.pad := by
  unfold State.setBus; rfl
@[simp] theorem State.setBus_gait (s : State) (rq : Requester) (b : BusRt) : (s.setBus rq b).gait = s.gait := by
  unfold State.setBus; rfl
@[simp] theorem State.setBus_byl (s : State) (rq : Requester) (b : BusRt) : (s.setBus rq b).byl = s.byl := by
  unfold State.setBus; rfl

/-! ### What the updates do -/

@[simp] theorem State.advance_cyc (s : State) (n : Nat) : (s.advance n).cyc = s.cyc + n := rfl
@[simp] theorem State.to_cyc (s : State) (t : Nat) : (s.to t).cyc = s.cyc + (t - s.cyc) := rfl
@[simp] theorem State.tookFree_freeIdx (s : State) : s.tookFree.freeIdx = s.freeIdx + 1 := rfl
@[simp] theorem State.tookId_nextId (s : State) : s.tookId.hif.nextId = s.hif.nextId + 1 := rfl

/-- The clock that stands at or past an instant does not move. -/
theorem State.to_past (s : State) (t : Nat) (h : t ≤ s.cyc) : s.to t = s := by
  simp [State.to, State.advance, Nat.sub_eq_zero_of_le h]

/-! ### Words -/

/-- A word depends on nothing but the register words. -/
theorem State.word_congr {s r : State} (h : r.regs = s.regs) (a : Nat) : r.word a = s.word a := by
  simp [State.word, h]

@[simp] theorem State.setLive_word (s : State) (a : Nat) (v : Word) (x : Nat) : (s.setLive a v).word x = s.word x := by
  unfold State.setLive; rfl
@[simp] theorem State.advance_word (s : State) (n : Nat) (x : Nat) : (s.advance n).word x = s.word x := by
  unfold State.advance; rfl
@[simp] theorem State.to_word (s : State) (t : Nat) (x : Nat) : (s.to t).word x = s.word x := by
  unfold State.to; rfl
@[simp] theorem State.tookFree_word (s : State) (x : Nat) : (s.tookFree).word x = s.word x := by
  unfold State.tookFree; rfl
@[simp] theorem State.fire_word (s : State) (v : Nat) (x : Nat) : (s.fire v).word x = s.word x := by
  unfold State.fire; rfl
@[simp] theorem State.writeHost_word (s : State) (a : Nat) (bs : List Byte) (x : Nat) : (s.writeHost a bs).word x = s.word x := by
  unfold State.writeHost; rfl
@[simp] theorem State.setRing_word (s : State) (n : Nat) (r : RingRt) (x : Nat) : (s.setRing n r).word x = s.word x := by
  unfold State.setRing; rfl
@[simp] theorem State.tookId_word (s : State) (x : Nat) : (s.tookId).word x = s.word x := by
  unfold State.tookId; rfl
@[simp] theorem State.toPort_word (s : State) (p : Nat) (it : Item) (x : Nat) : (s.toPort p it).word x = s.word x := by
  unfold State.toPort; rfl
@[simp] theorem State.unwait_word (s : State) (id : Nat) (x : Nat) : (s.unwait id).word x = s.word x := by
  unfold State.unwait; rfl
@[simp] theorem State.setBus_word (s : State) (rq : Requester) (b : BusRt) (x : Nat) : (s.setBus rq b).word x = s.word x := by
  unfold State.setBus; rfl

/-- The word that was set reads as set. -/
@[simp] theorem State.word_setWord_same (s : State) (a : Nat) (v : Word) : (s.setWord a v).word a = v := by
  have h := Sp.at_store_same s.regs (initWord a) a v
  simpa [State.word, State.setWord, Sp.at] using h

/-- Any other word is as before. -/
theorem State.word_setWord_other (s : State) (a b : Nat) (v : Word) (h : b ≠ a) : (s.setWord a v).word b = s.word b := by
  simp [State.word, State.setWord, Sp.find_store_other _ _ a b v h]

@[simp] theorem State.rd_wr_same (s : State) (a v : Nat) : (s.wr a v).rd a = v % 2 ^ 32 := by
  simp [State.rd, State.wr]

theorem State.rd_wr_other (s : State) (a b v : Nat) (h : b ≠ a) : (s.wr a v).rd b = s.rd b := by
  simp [State.rd, State.wr, State.word_setWord_other _ _ _ _ h]

theorem State.get_set_word (s : State) (b c : Bits) (v : Nat) (h : c.addr ≠ b.addr) : (s.set b v).get c = s.get c := by
  simp [State.get, State.set, State.word_setWord_other _ _ _ _ h]

/-! ### Fields of a word -/

theorem fieldOf_eq (w : Word) (lo n : Nat) (h : n ≤ 32) : fieldOf w lo n = w.toNat / 2 ^ lo % 2 ^ n := by
  have hb : (BitVec.ofNat 32 (2 ^ n - 1)).toNat = 2 ^ n - 1 := by
    have : 2 ^ n ≤ 2 ^ 32 := Nat.pow_le_pow_right (by omega) h
    have := Nat.two_pow_pos n
    simp only [BitVec.toNat_ofNat]
    exact Nat.mod_eq_of_lt (by omega)
  simp [fieldOf, hb, BitVec.toNat_and, BitVec.toNat_ushiftRight, Nat.shiftRight_eq_div_pow, Nat.and_two_pow_sub_one_eq_mod]

theorem maskAt_bit (lo n i : Nat) (h : lo + n ≤ 32) : (maskAt lo n).getLsbD i = (decide (lo ≤ i) && decide (i < lo + n)) := by
  have hn : n ≤ 32 := by omega
  have h2 : ∀ j, (BitVec.ofNat 32 (2 ^ n - 1)).getLsbD j = decide (j < n) := by
    intro j
    rw [BitVec.getLsbD_ofNat, Nat.testBit_two_pow_sub_one]
    by_cases hj : j < n
    · simp [hj]; omega
    · simp [hj]
  rw [maskAt, BitVec.getLsbD_shiftLeft, h2]
  by_cases a : lo ≤ i <;> by_cases b : i < lo + n <;> by_cases c : i < 32 <;>
    simp [a, b, c] <;> omega

/-- A field that was set reads as set. -/
theorem fieldOf_putField_same (w : Word) (lo n v : Nat) (h : lo + n ≤ 32) (hv : v < 2 ^ n) :
    fieldOf (putField w lo n v) lo n = v := by
  rw [fieldOf_eq _ _ _ (by omega)]
  apply Nat.eq_of_testBit_eq
  intro i
  rw [Nat.testBit_mod_two_pow, Nat.testBit_div_two_pow]
  by_cases hi : i < n
  · have e : (putField w lo n v).toNat.testBit (i + lo) = (putField w lo n v).getLsbD (i + lo) := rfl
    rw [e]
    have hv32 : v < 2 ^ 32 := Nat.lt_of_lt_of_le hv (Nat.pow_le_pow_right (by omega) (by omega))
    simp only [putField, BitVec.getLsbD_or, BitVec.getLsbD_and, BitVec.getLsbD_not, maskAt_bit lo n _ h,
      BitVec.getLsbD_shiftLeft, BitVec.getLsbD_ofNat]
    have a1 : lo ≤ i + lo := by omega
    have a2 : i + lo < lo + n := by omega
    have a3 : i + lo < 32 := by omega
    have a4 : i < 32 := by omega
    simp [a1, a2, a3, a4, hi]
  · have : v.testBit i = false := Nat.testBit_lt_two_pow (Nat.lt_of_lt_of_le hv (Nat.pow_le_pow_right (by omega) (by omega)))
    simp [hi, this]

/-- A field that lies apart from the one set is as before. -/
theorem fieldOf_putField_apart (w : Word) (lo n v lo' n' : Nat) (h : lo + n ≤ 32) (h' : lo' + n' ≤ 32)
    (ap : lo' + n' ≤ lo ∨ lo + n ≤ lo') : fieldOf (putField w lo n v) lo' n' = fieldOf w lo' n' := by
  rw [fieldOf_eq _ _ _ (by omega), fieldOf_eq _ _ _ (by omega)]
  apply Nat.eq_of_testBit_eq
  intro i
  rw [Nat.testBit_mod_two_pow, Nat.testBit_div_two_pow, Nat.testBit_mod_two_pow, Nat.testBit_div_two_pow]
  by_cases hi : i < n'
  · have e : ∀ x : Word, x.toNat.testBit (i + lo') = x.getLsbD (i + lo') := fun _ => rfl
    rw [e, e]
    simp only [putField, BitVec.getLsbD_or, BitVec.getLsbD_and, BitVec.getLsbD_not, maskAt_bit lo n _ h]
    have a : (decide (lo ≤ i + lo') && decide (i + lo' < lo + n)) = false := by
      simp only [Bool.and_eq_false_iff, decide_eq_false_iff_not]
      omega
    have b : i + lo' < 32 := by omega
    simp [a, b]
  · simp [hi]

@[simp] theorem State.get_set_same (s : State) (b : Bits) (v : Nat) (h : b.lo + b.width ≤ 32) (hv : v < 2 ^ b.width) :
    (s.set b v).get b = v := by
  simp [State.get, State.set, fieldOf_putField_same _ _ _ _ h hv]

theorem State.get_set_apart (s : State) (b c : Bits) (v : Nat) (h : b.lo + b.width ≤ 32) (h' : c.lo + c.width ≤ 32)
    (ap : c.lo + c.width ≤ b.lo ∨ b.lo + b.width ≤ c.lo) : (s.set b v).get c = s.get c := by
  by_cases e : c.addr = b.addr
  · simp [State.get, State.set, e, fieldOf_putField_apart _ _ _ _ _ _ h h' ap]
  · exact State.get_set_word s b c v e

/-! ### Rings, host memory -/

@[simp] theorem State.ringOf_setRing_same (s : State) (n : Nat) (r : RingRt) : (s.setRing n r).ringOf n = r := by
  simp [State.ringOf, State.setRing]

theorem State.ringOf_setRing_other (s : State) (n m : Nat) (r : RingRt) (h : m ≠ n) :
    (s.setRing n r).ringOf m = s.ringOf m := by
  simp [State.ringOf, State.setRing, Sp.at_store_other _ _ _ _ _ _ h]

@[simp] theorem State.busOf_setBus_same (s : State) (rq : Requester) (b : BusRt) : (s.setBus rq b).busOf rq = b := by
  simp [State.busOf, State.setBus]

/-- Writing bytes changes no byte outside them. -/
theorem writeBytes_other (m : Sp Byte) (a : Nat) (bs : List Byte) (x : Nat) (h : x < a ∨ a + bs.length ≤ x) :
    Sp.find (writeBytes m a bs) x = Sp.find m x := by
  induction bs generalizing m a with
  | nil => rfl
  | cons b r ih =>
    simp only [List.length_cons] at h
    rw [writeBytes, ih _ _ (by omega), Sp.find_put_other _ _ _ _ (by omega)]

/-- Writing bytes keeps the canonical form. -/
theorem writeBytes_wf (m : Sp Byte) (a : Nat) (bs : List Byte) (h : Sp.wf m = true) : Sp.wf (writeBytes m a bs) = true := by
  induction bs generalizing m a with
  | nil => exact h
  | cons b r ih => exact ih _ _ (Sp.wf_put m a b h)

theorem State.writeHost_other (s : State) (a : Nat) (bs : List Byte) (x : Nat) (h : x < a ∨ a + bs.length ≤ x) :
    (s.writeHost a bs).hostByte x = s.hostByte x := writeBytes_other s.hostMem a bs x h

theorem State.writeHost_wf (s : State) (a : Nat) (bs : List Byte) (h : Sp.wf s.hostMem = true) :
    Sp.wf (s.writeHost a bs).hostMem = true := writeBytes_wf s.hostMem a bs h

end Sys2Proof.Machine
end

