-- ==== Sys2Proof/Laws/Frames.lean ====
section
/-!
SUPPORT. What each function of State leaves as it was, of: the queue, the clock, host memory, live parameters, and what
every region but HIF, DSP and MQF holds beside its registers.
-/

namespace Sys2Proof.Machine

@[simp] theorem ite_pending (c : Prop) [Decidable c] (a b : State) :
    (if c then a else b).pending = if c then a.pending else b.pending := by split <;> rfl

@[simp] theorem ite_cyc (c : Prop) [Decidable c] (a b : State) :
    (if c then a else b).cyc = if c then a.cyc else b.cyc := by split <;> rfl

@[simp] theorem ite_hostMem (c : Prop) [Decidable c] (a b : State) :
    (if c then a else b).hostMem = if c then a.hostMem else b.hostMem := by split <;> rfl

@[simp] theorem ite_live (c : Prop) [Decidable c] (a b : State) :
    (if c then a else b).live = if c then a.live else b.live := by split <;> rfl

@[simp] theorem ite_whoa (c : Prop) [Decidable c] (a b : State) :
    (if c then a else b).whoa = if c then a.whoa else b.whoa := by split <;> rfl

@[simp] theorem ite_chip (c : Prop) [Decidable c] (a b : State) :
    (if c then a else b).chip = if c then a.chip else b.chip := by split <;> rfl

@[simp] theorem ite_tack (c : Prop) [Decidable c] (a b : State) :
    (if c then a else b).tack = if c then a.tack else b.tack := by split <;> rfl

@[simp] theorem ite_recd (c : Prop) [Decidable c] (a b : State) :
    (if c then a else b).recd = if c then a.recd else b.recd := by split <;> rfl

@[simp] theorem ite_net (c : Prop) [Decidable c] (a b : State) :
    (if c then a else b).net = if c then a.net else b.net := by split <;> rfl

@[simp] theorem ite_tim (c : Prop) [Decidable c] (a b : State) :
    (if c then a else b).tim = if c then a.tim else b.tim := by split <;> rfl

@[simp] theorem ite_gnb (c : Prop) [Decidable c] (a b : State) :
    (if c then a else b).gnb = if c then a.gnb else b.gnb := by split <;> rfl

@[simp] theorem ite_gait (c : Prop) [Decidable c] (a b : State) :
    (if c then a else b).gait = if c then a.gait else b.gait := by split <;> rfl

@[simp] theorem ite_pad (c : Prop) [Decidable c] (a b : State) :
    (if c then a else b).pad = if c then a.pad else b.pad := by split <;> rfl

@[simp] theorem ite_fix (c : Prop) [Decidable c] (a b : State) :
    (if c then a else b).fix = if c then a.fix else b.fix := by split <;> rfl

@[simp] theorem ite_air (c : Prop) [Decidable c] (a b : State) :
    (if c then a else b).air = if c then a.air else b.air := by split <;> rfl

@[simp] theorem ite_byl (c : Prop) [Decidable c] (a b : State) :
    (if c then a else b).byl = if c then a.byl else b.byl := by split <;> rfl


theorem foldl_keep {α β γ : Type} (p : β → γ) (g : β → α → β) (l : List α) (b : β) (h : ∀ b x, p (g b x) = p b) : p (l.foldl g b) = p b := by
  induction l generalizing b with
  | nil => rfl
  | cons x r ih => simp [List.foldl, ih, h]


@[simp] theorem foldl_pending {α : Type} (g : State → α → State) (l : List α) (s : State)
    (h : ∀ s x r, g s x = r → r.pending = s.pending) : (l.foldl g s).pending = s.pending :=
  foldl_keep State.pending g l s (fun s x => h s x _ rfl)

@[simp] theorem foldl1_pending {α β : Type} (g : State × β → α → State × β) (l : List α) (s : State × β)
    (h : ∀ s x r, g s x = r → r.1.pending = s.1.pending) : (l.foldl g s).1.pending = s.1.pending :=
  foldl_keep (fun q : State × β => q.1.pending) g l s (fun s x => h s x _ rfl)

@[simp] theorem foldl_cyc {α : Type} (g : State → α → State) (l : List α) (s : State)
    (h : ∀ s x r, g s x = r → r.cyc = s.cyc) : (l.foldl g s).cyc = s.cyc :=
  foldl_keep State.cyc g l s (fun s x => h s x _ rfl)

@[simp] theorem foldl1_cyc {α β : Type} (g : State × β → α → State × β) (l : List α) (s : State × β)
    (h : ∀ s x r, g s x = r → r.1.cyc = s.1.cyc) : (l.foldl g s).1.cyc = s.1.cyc :=
  foldl_keep (fun q : State × β => q.1.cyc) g l s (fun s x => h s x _ rfl)

@[simp] theorem foldl_hostMem {α : Type} (g : State → α → State) (l : List α) (s : State)
    (h : ∀ s x r, g s x = r → r.hostMem = s.hostMem) : (l.foldl g s).hostMem = s.hostMem :=
  foldl_keep State.hostMem g l s (fun s x => h s x _ rfl)

@[simp] theorem foldl1_hostMem {α β : Type} (g : State × β → α → State × β) (l : List α) (s : State × β)
    (h : ∀ s x r, g s x = r → r.1.hostMem = s.1.hostMem) : (l.foldl g s).1.hostMem = s.1.hostMem :=
  foldl_keep (fun q : State × β => q.1.hostMem) g l s (fun s x => h s x _ rfl)

@[simp] theorem foldl_live {α : Type} (g : State → α → State) (l : List α) (s : State)
    (h : ∀ s x r, g s x = r → r.live = s.live) : (l.foldl g s).live = s.live :=
  foldl_keep State.live g l s (fun s x => h s x _ rfl)

@[simp] theorem foldl1_live {α β : Type} (g : State × β → α → State × β) (l : List α) (s : State × β)
    (h : ∀ s x r, g s x = r → r.1.live = s.1.live) : (l.foldl g s).1.live = s.1.live :=
  foldl_keep (fun q : State × β => q.1.live) g l s (fun s x => h s x _ rfl)

@[simp] theorem foldl_whoa {α : Type} (g : State → α → State) (l : List α) (s : State)
    (h : ∀ s x r, g s x = r → r.whoa = s.whoa) : (l.foldl g s).whoa = s.whoa :=
  foldl_keep State.whoa g l s (fun s x => h s x _ rfl)

@[simp] theorem foldl1_whoa {α β : Type} (g : State × β → α → State × β) (l : List α) (s : State × β)
    (h : ∀ s x r, g s x = r → r.1.whoa = s.1.whoa) : (l.foldl g s).1.whoa = s.1.whoa :=
  foldl_keep (fun q : State × β => q.1.whoa) g l s (fun s x => h s x _ rfl)

@[simp] theorem foldl_chip {α : Type} (g : State → α → State) (l : List α) (s : State)
    (h : ∀ s x r, g s x = r → r.chip = s.chip) : (l.foldl g s).chip = s.chip :=
  foldl_keep State.chip g l s (fun s x => h s x _ rfl)

@[simp] theorem foldl1_chip {α β : Type} (g : State × β → α → State × β) (l : List α) (s : State × β)
    (h : ∀ s x r, g s x = r → r.1.chip = s.1.chip) : (l.foldl g s).1.chip = s.1.chip :=
  foldl_keep (fun q : State × β => q.1.chip) g l s (fun s x => h s x _ rfl)

@[simp] theorem foldl_tack {α : Type} (g : State → α → State) (l : List α) (s : State)
    (h : ∀ s x r, g s x = r → r.tack = s.tack) : (l.foldl g s).tack = s.tack :=
  foldl_keep State.tack g l s (fun s x => h s x _ rfl)

@[simp] theorem foldl1_tack {α β : Type} (g : State × β → α → State × β) (l : List α) (s : State × β)
    (h : ∀ s x r, g s x = r → r.1.tack = s.1.tack) : (l.foldl g s).1.tack = s.1.tack :=
  foldl_keep (fun q : State × β => q.1.tack) g l s (fun s x => h s x _ rfl)

@[simp] theorem foldl_recd {α : Type} (g : State → α → State) (l : List α) (s : State)
    (h : ∀ s x r, g s x = r → r.recd = s.recd) : (l.foldl g s).recd = s.recd :=
  foldl_keep State.recd g l s (fun s x => h s x _ rfl)

@[simp] theorem foldl1_recd {α β : Type} (g : State × β → α → State × β) (l : List α) (s : State × β)
    (h : ∀ s x r, g s x = r → r.1.recd = s.1.recd) : (l.foldl g s).1.recd = s.1.recd :=
  foldl_keep (fun q : State × β => q.1.recd) g l s (fun s x => h s x _ rfl)

@[simp] theorem foldl_net {α : Type} (g : State → α → State) (l : List α) (s : State)
    (h : ∀ s x r, g s x = r → r.net = s.net) : (l.foldl g s).net = s.net :=
  foldl_keep State.net g l s (fun s x => h s x _ rfl)

@[simp] theorem foldl1_net {α β : Type} (g : State × β → α → State × β) (l : List α) (s : State × β)
    (h : ∀ s x r, g s x = r → r.1.net = s.1.net) : (l.foldl g s).1.net = s.1.net :=
  foldl_keep (fun q : State × β => q.1.net) g l s (fun s x => h s x _ rfl)

@[simp] theorem foldl_tim {α : Type} (g : State → α → State) (l : List α) (s : State)
    (h : ∀ s x r, g s x = r → r.tim = s.tim) : (l.foldl g s).tim = s.tim :=
  foldl_keep State.tim g l s (fun s x => h s x _ rfl)

@[simp] theorem foldl1_tim {α β : Type} (g : State × β → α → State × β) (l : List α) (s : State × β)
    (h : ∀ s x r, g s x = r → r.1.tim = s.1.tim) : (l.foldl g s).1.tim = s.1.tim :=
  foldl_keep (fun q : State × β => q.1.tim) g l s (fun s x => h s x _ rfl)

@[simp] theorem foldl_gnb {α : Type} (g : State → α → State) (l : List α) (s : State)
    (h : ∀ s x r, g s x = r → r.gnb = s.gnb) : (l.foldl g s).gnb = s.gnb :=
  foldl_keep State.gnb g l s (fun s x => h s x _ rfl)

@[simp] theorem foldl1_gnb {α β : Type} (g : State × β → α → State × β) (l : List α) (s : State × β)
    (h : ∀ s x r, g s x = r → r.1.gnb = s.1.gnb) : (l.foldl g s).1.gnb = s.1.gnb :=
  foldl_keep (fun q : State × β => q.1.gnb) g l s (fun s x => h s x _ rfl)

@[simp] theorem foldl_gait {α : Type} (g : State → α → State) (l : List α) (s : State)
    (h : ∀ s x r, g s x = r → r.gait = s.gait) : (l.foldl g s).gait = s.gait :=
  foldl_keep State.gait g l s (fun s x => h s x _ rfl)

@[simp] theorem foldl1_gait {α β : Type} (g : State × β → α → State × β) (l : List α) (s : State × β)
    (h : ∀ s x r, g s x = r → r.1.gait = s.1.gait) : (l.foldl g s).1.gait = s.1.gait :=
  foldl_keep (fun q : State × β => q.1.gait) g l s (fun s x => h s x _ rfl)

@[simp] theorem foldl_pad {α : Type} (g : State → α → State) (l : List α) (s : State)
    (h : ∀ s x r, g s x = r → r.pad = s.pad) : (l.foldl g s).pad = s.pad :=
  foldl_keep State.pad g l s (fun s x => h s x _ rfl)

@[simp] theorem foldl1_pad {α β : Type} (g : State × β → α → State × β) (l : List α) (s : State × β)
    (h : ∀ s x r, g s x = r → r.1.pad = s.1.pad) : (l.foldl g s).1.pad = s.1.pad :=
  foldl_keep (fun q : State × β => q.1.pad) g l s (fun s x => h s x _ rfl)

@[simp] theorem foldl_fix {α : Type} (g : State → α → State) (l : List α) (s : State)
    (h : ∀ s x r, g s x = r → r.fix = s.fix) : (l.foldl g s).fix = s.fix :=
  foldl_keep State.fix g l s (fun s x => h s x _ rfl)

@[simp] theorem foldl1_fix {α β : Type} (g : State × β → α → State × β) (l : List α) (s : State × β)
    (h : ∀ s x r, g s x = r → r.1.fix = s.1.fix) : (l.foldl g s).1.fix = s.1.fix :=
  foldl_keep (fun q : State × β => q.1.fix) g l s (fun s x => h s x _ rfl)

@[simp] theorem foldl_air {α : Type} (g : State → α → State) (l : List α) (s : State)
    (h : ∀ s x r, g s x = r → r.air = s.air) : (l.foldl g s).air = s.air :=
  foldl_keep State.air g l s (fun s x => h s x _ rfl)

@[simp] theorem foldl1_air {α β : Type} (g : State × β → α → State × β) (l : List α) (s : State × β)
    (h : ∀ s x r, g s x = r → r.1.air = s.1.air) : (l.foldl g s).1.air = s.1.air :=
  foldl_keep (fun q : State × β => q.1.air) g l s (fun s x => h s x _ rfl)

@[simp] theorem foldl_byl {α : Type} (g : State → α → State) (l : List α) (s : State)
    (h : ∀ s x r, g s x = r → r.byl = s.byl) : (l.foldl g s).byl = s.byl :=
  foldl_keep State.byl g l s (fun s x => h s x _ rfl)

@[simp] theorem foldl1_byl {α β : Type} (g : State × β → α → State × β) (l : List α) (s : State × β)
    (h : ∀ s x r, g s x = r → r.1.byl = s.1.byl) : (l.foldl g s).1.byl = s.1.byl :=
  foldl_keep (fun q : State × β => q.1.byl) g l s (fun s x => h s x _ rfl)

@[simp] theorem State.advance_frame (s : State) (n : Nat) : (s.advance n).cyc = s.cyc + n ∧ (s.advance n).pending = s.pending ∧ (s.advance n).hostMem = s.hostMem ∧ (s.advance n).live = s.live ∧ (s.advance n).whoa = s.whoa ∧ (s.advance n).chip = s.chip ∧ (s.advance n).tack = s.tack ∧ (s.advance n).recd = s.recd ∧ (s.advance n).net = s.net ∧ (s.advance n).tim = s.tim ∧ (s.advance n).gnb = s.gnb ∧ (s.advance n).gait = s.gait ∧ (s.advance n).pad = s.pad ∧ (s.advance n).fix = s.fix ∧ (s.advance n).air = s.air ∧ (s.advance n).byl = s.byl := by simp [State.advance]

@[simp] theorem State.to_frame (s : State) (n : Nat) : (s.to n).cyc = s.cyc + (n - s.cyc) ∧ (s.to n).pending = s.pending ∧ (s.to n).hostMem = s.hostMem ∧ (s.to n).live = s.live ∧ (s.to n).whoa = s.whoa ∧ (s.to n).chip = s.chip ∧ (s.to n).tack = s.tack ∧ (s.to n).recd = s.recd ∧ (s.to n).net = s.net ∧ (s.to n).tim = s.tim ∧ (s.to n).gnb = s.gnb ∧ (s.to n).gait = s.gait ∧ (s.to n).pad = s.pad ∧ (s.to n).fix = s.fix ∧ (s.to n).air = s.air ∧ (s.to n).byl = s.byl := by simp [State.to]

/-- The queue and host memory are as before, and the clock does not go back. -/
def Kept (s r : State) : Prop := s.cyc ≤ r.cyc ∧ r.pending = s.pending ∧ r.hostMem = s.hostMem
theorem Kept.refl (s : State) : Kept s s := ⟨Nat.le_refl _, rfl, rfl⟩
theorem Kept.trans {s r t : State} (h : Kept s r) (k : Kept r t) : Kept s t :=
  ⟨Nat.le_trans h.1 k.1, k.2.1.trans h.2.1, k.2.2.trans h.2.2⟩
theorem Kept.mk {s r : State} (c : s.cyc ≤ r.cyc) (p : r.pending = s.pending) (m : r.hostMem = s.hostMem) : Kept s r := ⟨c, p, m⟩
theorem State.then__kept (s : State) (f : State → Out State) (h : ∀ r, f s = .next r → Kept s r) : Kept s (s.then_ f) := by
  unfold State.then_
  cases e : f s with
  | next r => exact h r e
  | _ => exact Kept.refl s
theorem State.ifBit_kept (s : State) (v : Word) (i : Nat) (f : State → Out State) (h : ∀ r, f s = .next r → Kept s r) :
    Kept s (s.ifBit v i f) := by
  unfold State.ifBit
  split
  · exact State.then__kept s f h
  · exact Kept.refl s

theorem State.to_mono (s : State) (n : Nat) : s.cyc ≤ (s.to n).cyc := by simp

@[simp] theorem State.feed_frame (s : State) (x1 : BylRx) :
    (s.feed x1).pending = s.pending ∧ (s.feed x1).cyc = s.cyc ∧ (s.feed x1).hostMem = s.hostMem ∧ (s.feed x1).live =
      s.live ∧ (s.feed x1).whoa = s.whoa ∧ (s.feed x1).chip = s.chip ∧ (s.feed x1).tack = s.tack ∧ (s.feed x1).recd
      = s.recd ∧ (s.feed x1).net = s.net ∧ (s.feed x1).tim = s.tim ∧ (s.feed x1).gnb = s.gnb ∧ (s.feed x1).gait =
      s.gait ∧ (s.feed x1).pad = s.pad ∧ (s.feed x1).fix = s.fix ∧ (s.feed x1).air = s.air := by
  unfold State.feed
  try simp
  all_goals (repeat' split) <;> simp_all

@[simp] theorem State.takeFrame_frame (s : State) (x1 : BylRx) (x2 : Nat) :
    (s.takeFrame x1 x2).1.pending = s.pending ∧ (s.takeFrame x1 x2).1.cyc = s.cyc ∧ (s.takeFrame x1 x2).1.hostMem =
      s.hostMem ∧ (s.takeFrame x1 x2).1.live = s.live ∧ (s.takeFrame x1 x2).1.whoa = s.whoa ∧ (s.takeFrame x1
      x2).1.chip = s.chip ∧ (s.takeFrame x1 x2).1.tack = s.tack ∧ (s.takeFrame x1 x2).1.recd = s.recd ∧ (s.takeFrame
      x1 x2).1.net = s.net ∧ (s.takeFrame x1 x2).1.tim = s.tim ∧ (s.takeFrame x1 x2).1.gnb = s.gnb ∧ (s.takeFrame x1
      x2).1.gait = s.gait ∧ (s.takeFrame x1 x2).1.pad = s.pad ∧ (s.takeFrame x1 x2).1.fix = s.fix ∧ (s.takeFrame x1
      x2).1.air = s.air := by
  unfold State.takeFrame
  try simp
  all_goals (repeat' split) <;> simp_all

@[simp] theorem State.takeSealed_frame (s : State) (x1 : BylRx) (x2 : Nat) :
    (s.takeSealed x1 x2).1.pending = s.pending ∧ (s.takeSealed x1 x2).1.cyc = s.cyc ∧ (s.takeSealed x1 x2).1.hostMem
      = s.hostMem ∧ (s.takeSealed x1 x2).1.live = s.live ∧ (s.takeSealed x1 x2).1.whoa = s.whoa ∧ (s.takeSealed x1
      x2).1.chip = s.chip ∧ (s.takeSealed x1 x2).1.tack = s.tack ∧ (s.takeSealed x1 x2).1.recd = s.recd ∧
      (s.takeSealed x1 x2).1.net = s.net ∧ (s.takeSealed x1 x2).1.tim = s.tim ∧ (s.takeSealed x1 x2).1.gnb = s.gnb ∧
      (s.takeSealed x1 x2).1.gait = s.gait ∧ (s.takeSealed x1 x2).1.pad = s.pad ∧ (s.takeSealed x1 x2).1.fix = s.fix
      ∧ (s.takeSealed x1 x2).1.air = s.air := by
  unfold State.takeSealed
  try simp
  all_goals (repeat' split) <;> simp_all

@[simp] theorem State.takeAck_frame (s : State) (x1 : Nat) (x2 : Option Nat) :
    (s.takeAck x1 x2).pending = s.pending ∧ (s.takeAck x1 x2).cyc = s.cyc ∧ (s.takeAck x1 x2).hostMem = s.hostMem ∧
      (s.takeAck x1 x2).live = s.live ∧ (s.takeAck x1 x2).whoa = s.whoa ∧ (s.takeAck x1 x2).chip = s.chip ∧
      (s.takeAck x1 x2).tack = s.tack ∧ (s.takeAck x1 x2).recd = s.recd ∧ (s.takeAck x1 x2).net = s.net ∧ (s.takeAck
      x1 x2).tim = s.tim ∧ (s.takeAck x1 x2).gnb = s.gnb ∧ (s.takeAck x1 x2).gait = s.gait ∧ (s.takeAck x1 x2).pad =
      s.pad ∧ (s.takeAck x1 x2).fix = s.fix ∧ (s.takeAck x1 x2).air = s.air := by
  unfold State.takeAck
  try simp
  all_goals (repeat' split) <;> simp_all

@[simp] theorem State.ackOnly_frame (s : State) (x1 : Nat) (x2 : Nat) :
    (s.ackOnly x1 x2).pending = s.pending ∧ (s.ackOnly x1 x2).cyc = s.cyc ∧ (s.ackOnly x1 x2).hostMem = s.hostMem ∧
      (s.ackOnly x1 x2).live = s.live ∧ (s.ackOnly x1 x2).whoa = s.whoa ∧ (s.ackOnly x1 x2).chip = s.chip ∧
      (s.ackOnly x1 x2).tack = s.tack ∧ (s.ackOnly x1 x2).recd = s.recd ∧ (s.ackOnly x1 x2).net = s.net ∧ (s.ackOnly
      x1 x2).tim = s.tim ∧ (s.ackOnly x1 x2).gnb = s.gnb ∧ (s.ackOnly x1 x2).gait = s.gait ∧ (s.ackOnly x1 x2).pad =
      s.pad ∧ (s.ackOnly x1 x2).fix = s.fix ∧ (s.ackOnly x1 x2).air = s.air := by
  unfold State.ackOnly
  try simp
  all_goals (repeat' split) <;> simp_all

@[simp] theorem State.accept_pending (s : State) (x1 : BylRx) (x2 : Nat) (x3 : State → List Sys2Proof.Byte → State)
    (h3 : ∀ y0 y1 r, x3 y0 y1 = r → r.pending = y0.pending) :
    (s.accept x1 x2 x3).pending = s.pending := by
  unfold State.accept
  (repeat' split) <;> (try simp_all)

@[simp] theorem State.accept_cyc (s : State) (x1 : BylRx) (x2 : Nat) (x3 : State → List Sys2Proof.Byte → State) (h3
    : ∀ y0 y1 r, x3 y0 y1 = r → r.cyc = y0.cyc) :
    (s.accept x1 x2 x3).cyc = s.cyc := by
  unfold State.accept
  (repeat' split) <;> (try simp_all)

@[simp] theorem State.accept_hostMem (s : State) (x1 : BylRx) (x2 : Nat) (x3 : State → List Sys2Proof.Byte → State)
    (h3 : ∀ y0 y1 r, x3 y0 y1 = r → r.hostMem = y0.hostMem) :
    (s.accept x1 x2 x3).hostMem = s.hostMem := by
  unfold State.accept
  (repeat' split) <;> (try simp_all)

@[simp] theorem State.accept_live (s : State) (x1 : BylRx) (x2 : Nat) (x3 : State → List Sys2Proof.Byte → State) (h3
    : ∀ y0 y1 r, x3 y0 y1 = r → r.live = y0.live) :
    (s.accept x1 x2 x3).live = s.live := by
  unfold State.accept
  (repeat' split) <;> (try simp_all)

@[simp] theorem State.accept_whoa (s : State) (x1 : BylRx) (x2 : Nat) (x3 : State → List Sys2Proof.Byte → State) (h3
    : ∀ y0 y1 r, x3 y0 y1 = r → r.whoa = y0.whoa) :
    (s.accept x1 x2 x3).whoa = s.whoa := by
  unfold State.accept
  (repeat' split) <;> (try simp_all)

@[simp] theorem State.accept_chip (s : State) (x1 : BylRx) (x2 : Nat) (x3 : State → List Sys2Proof.Byte → State) (h3
    : ∀ y0 y1 r, x3 y0 y1 = r → r.chip = y0.chip) :
    (s.accept x1 x2 x3).chip = s.chip := by
  unfold State.accept
  (repeat' split) <;> (try simp_all)

@[simp] theorem State.accept_tack (s : State) (x1 : BylRx) (x2 : Nat) (x3 : State → List Sys2Proof.Byte → State) (h3
    : ∀ y0 y1 r, x3 y0 y1 = r → r.tack = y0.tack) :
    (s.accept x1 x2 x3).tack = s.tack := by
  unfold State.accept
  (repeat' split) <;> (try simp_all)

@[simp] theorem State.accept_recd (s : State) (x1 : BylRx) (x2 : Nat) (x3 : State → List Sys2Proof.Byte → State) (h3
    : ∀ y0 y1 r, x3 y0 y1 = r → r.recd = y0.recd) :
    (s.accept x1 x2 x3).recd = s.recd := by
  unfold State.accept
  (repeat' split) <;> (try simp_all)

@[simp] theorem State.accept_net (s : State) (x1 : BylRx) (x2 : Nat) (x3 : State → List Sys2Proof.Byte → State) (h3
    : ∀ y0 y1 r, x3 y0 y1 = r → r.net = y0.net) :
    (s.accept x1 x2 x3).net = s.net := by
  unfold State.accept
  (repeat' split) <;> (try simp_all)

@[simp] theorem State.accept_tim (s : State) (x1 : BylRx) (x2 : Nat) (x3 : State → List Sys2Proof.Byte → State) (h3
    : ∀ y0 y1 r, x3 y0 y1 = r → r.tim = y0.tim) :
    (s.accept x1 x2 x3).tim = s.tim := by
  unfold State.accept
  (repeat' split) <;> (try simp_all)

@[simp] theorem State.accept_gnb (s : State) (x1 : BylRx) (x2 : Nat) (x3 : State → List Sys2Proof.Byte → State) (h3
    : ∀ y0 y1 r, x3 y0 y1 = r → r.gnb = y0.gnb) :
    (s.accept x1 x2 x3).gnb = s.gnb := by
  unfold State.accept
  (repeat' split) <;> (try simp_all)

@[simp] theorem State.accept_gait (s : State) (x1 : BylRx) (x2 : Nat) (x3 : State → List Sys2Proof.Byte → State) (h3
    : ∀ y0 y1 r, x3 y0 y1 = r → r.gait = y0.gait) :
    (s.accept x1 x2 x3).gait = s.gait := by
  unfold State.accept
  (repeat' split) <;> (try simp_all)

@[simp] theorem State.accept_pad (s : State) (x1 : BylRx) (x2 : Nat) (x3 : State → List Sys2Proof.Byte → State) (h3
    : ∀ y0 y1 r, x3 y0 y1 = r → r.pad = y0.pad) :
    (s.accept x1 x2 x3).pad = s.pad := by
  unfold State.accept
  (repeat' split) <;> (try simp_all)

@[simp] theorem State.accept_fix (s : State) (x1 : BylRx) (x2 : Nat) (x3 : State → List Sys2Proof.Byte → State) (h3
    : ∀ y0 y1 r, x3 y0 y1 = r → r.fix = y0.fix) :
    (s.accept x1 x2 x3).fix = s.fix := by
  unfold State.accept
  (repeat' split) <;> (try simp_all)

@[simp] theorem State.accept_air (s : State) (x1 : BylRx) (x2 : Nat) (x3 : State → List Sys2Proof.Byte → State) (h3
    : ∀ y0 y1 r, x3 y0 y1 = r → r.air = y0.air) :
    (s.accept x1 x2 x3).air = s.air := by
  unfold State.accept
  (repeat' split) <;> (try simp_all)

@[simp] theorem State.accept0_pending (s : State) (x1 : BylRx) (x2 : Nat) (x3 : State → List Sys2Proof.Byte → State)
    (h3 : ∀ y0 y1 r, x3 y0 y1 = r → r.pending = y0.pending) :
    (s.accept0 x1 x2 x3).pending = s.pending := by
  unfold State.accept0
  (repeat' split) <;> (try simp_all)

@[simp] theorem State.accept0_cyc (s : State) (x1 : BylRx) (x2 : Nat) (x3 : State → List Sys2Proof.Byte → State) (h3
    : ∀ y0 y1 r, x3 y0 y1 = r → r.cyc = y0.cyc) :
    (s.accept0 x1 x2 x3).cyc = s.cyc := by
  unfold State.accept0
  (repeat' split) <;> (try simp_all)

@[simp] theorem State.accept0_hostMem (s : State) (x1 : BylRx) (x2 : Nat) (x3 : State → List Sys2Proof.Byte → State)
    (h3 : ∀ y0 y1 r, x3 y0 y1 = r → r.hostMem = y0.hostMem) :
    (s.accept0 x1 x2 x3).hostMem = s.hostMem := by
  unfold State.accept0
  (repeat' split) <;> (try simp_all)

@[simp] theorem State.accept0_live (s : State) (x1 : BylRx) (x2 : Nat) (x3 : State → List Sys2Proof.Byte → State)
    (h3 : ∀ y0 y1 r, x3 y0 y1 = r → r.live = y0.live) :
    (s.accept0 x1 x2 x3).live = s.live := by
  unfold State.accept0
  (repeat' split) <;> (try simp_all)

@[simp] theorem State.accept0_whoa (s : State) (x1 : BylRx) (x2 : Nat) (x3 : State → List Sys2Proof.Byte → State)
    (h3 : ∀ y0 y1 r, x3 y0 y1 = r → r.whoa = y0.whoa) :
    (s.accept0 x1 x2 x3).whoa = s.whoa := by
  unfold State.accept0
  (repeat' split) <;> (try simp_all)

@[simp] theorem State.accept0_chip (s : State) (x1 : BylRx) (x2 : Nat) (x3 : State → List Sys2Proof.Byte → State)
    (h3 : ∀ y0 y1 r, x3 y0 y1 = r → r.chip = y0.chip) :
    (s.accept0 x1 x2 x3).chip = s.chip := by
  unfold State.accept0
  (repeat' split) <;> (try simp_all)

@[simp] theorem State.accept0_tack (s : State) (x1 : BylRx) (x2 : Nat) (x3 : State → List Sys2Proof.Byte → State)
    (h3 : ∀ y0 y1 r, x3 y0 y1 = r → r.tack = y0.tack) :
    (s.accept0 x1 x2 x3).tack = s.tack := by
  unfold State.accept0
  (repeat' split) <;> (try simp_all)

@[simp] theorem State.accept0_recd (s : State) (x1 : BylRx) (x2 : Nat) (x3 : State → List Sys2Proof.Byte → State)
    (h3 : ∀ y0 y1 r, x3 y0 y1 = r → r.recd = y0.recd) :
    (s.accept0 x1 x2 x3).recd = s.recd := by
  unfold State.accept0
  (repeat' split) <;> (try simp_all)

@[simp] theorem State.accept0_net (s : State) (x1 : BylRx) (x2 : Nat) (x3 : State → List Sys2Proof.Byte → State) (h3
    : ∀ y0 y1 r, x3 y0 y1 = r → r.net = y0.net) :
    (s.accept0 x1 x2 x3).net = s.net := by
  unfold State.accept0
  (repeat' split) <;> (try simp_all)

@[simp] theorem State.accept0_tim (s : State) (x1 : BylRx) (x2 : Nat) (x3 : State → List Sys2Proof.Byte → State) (h3
    : ∀ y0 y1 r, x3 y0 y1 = r → r.tim = y0.tim) :
    (s.accept0 x1 x2 x3).tim = s.tim := by
  unfold State.accept0
  (repeat' split) <;> (try simp_all)

@[simp] theorem State.accept0_gnb (s : State) (x1 : BylRx) (x2 : Nat) (x3 : State → List Sys2Proof.Byte → State) (h3
    : ∀ y0 y1 r, x3 y0 y1 = r → r.gnb = y0.gnb) :
    (s.accept0 x1 x2 x3).gnb = s.gnb := by
  unfold State.accept0
  (repeat' split) <;> (try simp_all)

@[simp] theorem State.accept0_gait (s : State) (x1 : BylRx) (x2 : Nat) (x3 : State → List Sys2Proof.Byte → State)
    (h3 : ∀ y0 y1 r, x3 y0 y1 = r → r.gait = y0.gait) :
    (s.accept0 x1 x2 x3).gait = s.gait := by
  unfold State.accept0
  (repeat' split) <;> (try simp_all)

@[simp] theorem State.accept0_pad (s : State) (x1 : BylRx) (x2 : Nat) (x3 : State → List Sys2Proof.Byte → State) (h3
    : ∀ y0 y1 r, x3 y0 y1 = r → r.pad = y0.pad) :
    (s.accept0 x1 x2 x3).pad = s.pad := by
  unfold State.accept0
  (repeat' split) <;> (try simp_all)

@[simp] theorem State.accept0_fix (s : State) (x1 : BylRx) (x2 : Nat) (x3 : State → List Sys2Proof.Byte → State) (h3
    : ∀ y0 y1 r, x3 y0 y1 = r → r.fix = y0.fix) :
    (s.accept0 x1 x2 x3).fix = s.fix := by
  unfold State.accept0
  (repeat' split) <;> (try simp_all)

@[simp] theorem State.accept0_air (s : State) (x1 : BylRx) (x2 : Nat) (x3 : State → List Sys2Proof.Byte → State) (h3
    : ∀ y0 y1 r, x3 y0 y1 = r → r.air = y0.air) :
    (s.accept0 x1 x2 x3).air = s.air := by
  unfold State.accept0
  (repeat' split) <;> (try simp_all)

@[simp] theorem State.setWord_frame (s : State) (x1 : Nat) (x2 : Sys2Proof.Word) :
    (s.setWord x1 x2).pending = s.pending ∧ (s.setWord x1 x2).cyc = s.cyc ∧ (s.setWord x1 x2).hostMem = s.hostMem ∧
      (s.setWord x1 x2).live = s.live ∧ (s.setWord x1 x2).whoa = s.whoa ∧ (s.setWord x1 x2).chip = s.chip ∧
      (s.setWord x1 x2).tack = s.tack ∧ (s.setWord x1 x2).recd = s.recd ∧ (s.setWord x1 x2).net = s.net ∧ (s.setWord
      x1 x2).tim = s.tim ∧ (s.setWord x1 x2).gnb = s.gnb ∧ (s.setWord x1 x2).gait = s.gait ∧ (s.setWord x1 x2).pad =
      s.pad ∧ (s.setWord x1 x2).fix = s.fix ∧ (s.setWord x1 x2).air = s.air ∧ (s.setWord x1 x2).byl = s.byl := by
  unfold State.setWord
  try simp
  all_goals (repeat' split) <;> simp_all

@[simp] theorem State.wr_frame (s : State) (x1 : Nat) (x2 : Nat) :
    (s.wr x1 x2).pending = s.pending ∧ (s.wr x1 x2).cyc = s.cyc ∧ (s.wr x1 x2).hostMem = s.hostMem ∧ (s.wr x1
      x2).live = s.live ∧ (s.wr x1 x2).whoa = s.whoa ∧ (s.wr x1 x2).chip = s.chip ∧ (s.wr x1 x2).tack = s.tack ∧
      (s.wr x1 x2).recd = s.recd ∧ (s.wr x1 x2).net = s.net ∧ (s.wr x1 x2).tim = s.tim ∧ (s.wr x1 x2).gnb = s.gnb ∧
      (s.wr x1 x2).gait = s.gait ∧ (s.wr x1 x2).pad = s.pad ∧ (s.wr x1 x2).fix = s.fix ∧ (s.wr x1 x2).air = s.air ∧
      (s.wr x1 x2).byl = s.byl := by
  unfold State.wr
  try simp
  all_goals (repeat' split) <;> simp_all

@[simp] theorem State.reportSlot_frame (s : State) (x1 : Nat) :
    (s.reportSlot x1).pending = s.pending ∧ (s.reportSlot x1).cyc = s.cyc ∧ (s.reportSlot x1).hostMem = s.hostMem ∧
      (s.reportSlot x1).live = s.live ∧ (s.reportSlot x1).whoa = s.whoa ∧ (s.reportSlot x1).chip = s.chip ∧
      (s.reportSlot x1).tack = s.tack ∧ (s.reportSlot x1).recd = s.recd ∧ (s.reportSlot x1).net = s.net ∧
      (s.reportSlot x1).tim = s.tim ∧ (s.reportSlot x1).gnb = s.gnb ∧ (s.reportSlot x1).gait = s.gait ∧
      (s.reportSlot x1).pad = s.pad ∧ (s.reportSlot x1).fix = s.fix ∧ (s.reportSlot x1).air = s.air ∧ (s.reportSlot
      x1).byl = s.byl := by
  unfold State.reportSlot
  try simp
  all_goals (repeat' split) <;> simp_all

@[simp] theorem State.putSlot_frame (s : State) (x1 : Nat) (x2 : Option KeySlot) :
    (s.putSlot x1 x2).pending = s.pending ∧ (s.putSlot x1 x2).cyc = s.cyc ∧ (s.putSlot x1 x2).hostMem = s.hostMem ∧
      (s.putSlot x1 x2).live = s.live ∧ (s.putSlot x1 x2).whoa = s.whoa ∧ (s.putSlot x1 x2).chip = s.chip ∧
      (s.putSlot x1 x2).recd = s.recd ∧ (s.putSlot x1 x2).net = s.net ∧ (s.putSlot x1 x2).tim = s.tim ∧ (s.putSlot
      x1 x2).gnb = s.gnb ∧ (s.putSlot x1 x2).gait = s.gait ∧ (s.putSlot x1 x2).pad = s.pad ∧ (s.putSlot x1 x2).fix =
      s.fix ∧ (s.putSlot x1 x2).air = s.air ∧ (s.putSlot x1 x2).byl = s.byl := by
  unfold State.putSlot
  try simp
  all_goals (repeat' split) <;> simp_all

theorem State.deriveKey_frame (s : State) (x1 : KeyAttr) (x2 : Nat) {r : _} : s.deriveKey x1 x2 = some r →
    r.1.pending = s.pending ∧ r.1.cyc = s.cyc ∧ r.1.hostMem = s.hostMem ∧ r.1.live = s.live ∧ r.1.whoa = s.whoa ∧
      r.1.chip = s.chip ∧ r.1.recd = s.recd ∧ r.1.net = s.net ∧ r.1.tim = s.tim ∧ r.1.gnb = s.gnb ∧ r.1.gait =
      s.gait ∧ r.1.pad = s.pad ∧ r.1.fix = s.fix ∧ r.1.air = s.air ∧ r.1.byl = s.byl := by
  unfold State.deriveKey
  intro h
  split at h
  · have h := (Option.some.inj h).symm; subst h; simp
  · simp at h

@[simp] theorem State.set_frame (s : State) (x1 : Bits) (x2 : Nat) :
    (s.set x1 x2).pending = s.pending ∧ (s.set x1 x2).cyc = s.cyc ∧ (s.set x1 x2).hostMem = s.hostMem ∧ (s.set x1
      x2).live = s.live ∧ (s.set x1 x2).whoa = s.whoa ∧ (s.set x1 x2).chip = s.chip ∧ (s.set x1 x2).tack = s.tack ∧
      (s.set x1 x2).recd = s.recd ∧ (s.set x1 x2).net = s.net ∧ (s.set x1 x2).tim = s.tim ∧ (s.set x1 x2).gnb =
      s.gnb ∧ (s.set x1 x2).gait = s.gait ∧ (s.set x1 x2).pad = s.pad ∧ (s.set x1 x2).fix = s.fix ∧ (s.set x1
      x2).air = s.air ∧ (s.set x1 x2).byl = s.byl := by
  unfold State.set
  try simp
  all_goals (repeat' split) <;> simp_all

@[simp] theorem State.setFlag_frame (s : State) (x1 : Bits) (x2 : Bool) :
    (s.setFlag x1 x2).pending = s.pending ∧ (s.setFlag x1 x2).cyc = s.cyc ∧ (s.setFlag x1 x2).hostMem = s.hostMem ∧
      (s.setFlag x1 x2).live = s.live ∧ (s.setFlag x1 x2).whoa = s.whoa ∧ (s.setFlag x1 x2).chip = s.chip ∧
      (s.setFlag x1 x2).tack = s.tack ∧ (s.setFlag x1 x2).recd = s.recd ∧ (s.setFlag x1 x2).net = s.net ∧ (s.setFlag
      x1 x2).tim = s.tim ∧ (s.setFlag x1 x2).gnb = s.gnb ∧ (s.setFlag x1 x2).gait = s.gait ∧ (s.setFlag x1 x2).pad =
      s.pad ∧ (s.setFlag x1 x2).fix = s.fix ∧ (s.setFlag x1 x2).air = s.air ∧ (s.setFlag x1 x2).byl = s.byl := by
  unfold State.setFlag
  try simp
  all_goals (repeat' split) <;> simp_all

@[simp] theorem State.setAirCtx_frame (s : State) (x1 : Nat) (x2 : AirCtx) :
    (s.setAirCtx x1 x2).pending = s.pending ∧ (s.setAirCtx x1 x2).cyc = s.cyc ∧ (s.setAirCtx x1 x2).hostMem =
      s.hostMem ∧ (s.setAirCtx x1 x2).live = s.live ∧ (s.setAirCtx x1 x2).whoa = s.whoa ∧ (s.setAirCtx x1 x2).chip =
      s.chip ∧ (s.setAirCtx x1 x2).tack = s.tack ∧ (s.setAirCtx x1 x2).recd = s.recd ∧ (s.setAirCtx x1 x2).net =
      s.net ∧ (s.setAirCtx x1 x2).tim = s.tim ∧ (s.setAirCtx x1 x2).gnb = s.gnb ∧ (s.setAirCtx x1 x2).gait = s.gait
      ∧ (s.setAirCtx x1 x2).pad = s.pad ∧ (s.setAirCtx x1 x2).fix = s.fix ∧ (s.setAirCtx x1 x2).byl = s.byl := by
  unfold State.setAirCtx
  try simp
  all_goals (repeat' split) <;> simp_all

@[simp] theorem State.bylSend_frame (s : State) (x1 : BylOut) :
    (s.bylSend x1).pending = s.pending ∧ (s.bylSend x1).cyc = s.cyc ∧ (s.bylSend x1).hostMem = s.hostMem ∧
      (s.bylSend x1).live = s.live ∧ (s.bylSend x1).whoa = s.whoa ∧ (s.bylSend x1).chip = s.chip ∧ (s.bylSend
      x1).tack = s.tack ∧ (s.bylSend x1).recd = s.recd ∧ (s.bylSend x1).net = s.net ∧ (s.bylSend x1).tim = s.tim ∧
      (s.bylSend x1).gnb = s.gnb ∧ (s.bylSend x1).gait = s.gait ∧ (s.bylSend x1).pad = s.pad ∧ (s.bylSend x1).fix =
      s.fix ∧ (s.bylSend x1).air = s.air := by
  unfold State.bylSend
  try simp
  all_goals (repeat' split) <;> simp_all

@[simp] theorem State.mirrorSend_frame (s : State) (x1 : BylOut) :
    (s.mirrorSend x1).pending = s.pending ∧ (s.mirrorSend x1).cyc = s.cyc ∧ (s.mirrorSend x1).hostMem = s.hostMem ∧
      (s.mirrorSend x1).live = s.live ∧ (s.mirrorSend x1).whoa = s.whoa ∧ (s.mirrorSend x1).chip = s.chip ∧
      (s.mirrorSend x1).tack = s.tack ∧ (s.mirrorSend x1).recd = s.recd ∧ (s.mirrorSend x1).net = s.net ∧
      (s.mirrorSend x1).tim = s.tim ∧ (s.mirrorSend x1).gnb = s.gnb ∧ (s.mirrorSend x1).gait = s.gait ∧
      (s.mirrorSend x1).pad = s.pad ∧ (s.mirrorSend x1).fix = s.fix ∧ (s.mirrorSend x1).air = s.air := by
  unfold State.mirrorSend
  try simp
  all_goals (repeat' split) <;> simp_all

@[simp] theorem State.tookFree_frame (s : State) :
    (s.tookFree).pending = s.pending ∧ (s.tookFree).cyc = s.cyc ∧ (s.tookFree).hostMem = s.hostMem ∧
      (s.tookFree).live = s.live ∧ (s.tookFree).whoa = s.whoa ∧ (s.tookFree).chip = s.chip ∧ (s.tookFree).tack =
      s.tack ∧ (s.tookFree).recd = s.recd ∧ (s.tookFree).net = s.net ∧ (s.tookFree).tim = s.tim ∧ (s.tookFree).gnb =
      s.gnb ∧ (s.tookFree).gait = s.gait ∧ (s.tookFree).pad = s.pad ∧ (s.tookFree).fix = s.fix ∧ (s.tookFree).air =
      s.air ∧ (s.tookFree).byl = s.byl := by
  unfold State.tookFree
  try simp
  all_goals (repeat' split) <;> simp_all

@[simp] theorem State.checkRekey_frame (s : State) (x1 : Nat) :
    (s.checkRekey x1).pending = s.pending ∧ (s.checkRekey x1).cyc = s.cyc ∧ (s.checkRekey x1).hostMem = s.hostMem ∧
      (s.checkRekey x1).live = s.live ∧ (s.checkRekey x1).whoa = s.whoa ∧ (s.checkRekey x1).chip = s.chip ∧
      (s.checkRekey x1).recd = s.recd ∧ (s.checkRekey x1).net = s.net ∧ (s.checkRekey x1).tim = s.tim ∧
      (s.checkRekey x1).gnb = s.gnb ∧ (s.checkRekey x1).gait = s.gait ∧ (s.checkRekey x1).pad = s.pad ∧
      (s.checkRekey x1).fix = s.fix := by
  unfold State.checkRekey
  dsimp only
  (repeat' split) <;> first | (simp; done) | (rename_i hk; have hk := State.deriveKey_frame _ _ _ hk; simp_all)

@[simp] theorem State.acceptLayer_frame (s : State) (x1 : AirLayer) (x2 : AirVerdict) :
    (s.acceptLayer x1 x2).pending = s.pending ∧ (s.acceptLayer x1 x2).cyc = s.cyc ∧ (s.acceptLayer x1 x2).hostMem =
      s.hostMem ∧ (s.acceptLayer x1 x2).live = s.live ∧ (s.acceptLayer x1 x2).whoa = s.whoa ∧ (s.acceptLayer x1
      x2).chip = s.chip ∧ (s.acceptLayer x1 x2).recd = s.recd ∧ (s.acceptLayer x1 x2).net = s.net ∧ (s.acceptLayer
      x1 x2).tim = s.tim ∧ (s.acceptLayer x1 x2).gnb = s.gnb ∧ (s.acceptLayer x1 x2).gait = s.gait ∧ (s.acceptLayer
      x1 x2).pad = s.pad ∧ (s.acceptLayer x1 x2).fix = s.fix := by
  unfold State.acceptLayer
  try simp
  all_goals (repeat' split) <;> simp_all

@[simp] theorem State.unwait_frame (s : State) (x1 : Nat) :
    (s.unwait x1).pending = s.pending ∧ (s.unwait x1).cyc = s.cyc ∧ (s.unwait x1).hostMem = s.hostMem ∧ (s.unwait
      x1).live = s.live ∧ (s.unwait x1).whoa = s.whoa ∧ (s.unwait x1).chip = s.chip ∧ (s.unwait x1).tack = s.tack ∧
      (s.unwait x1).recd = s.recd ∧ (s.unwait x1).net = s.net ∧ (s.unwait x1).tim = s.tim ∧ (s.unwait x1).gnb =
      s.gnb ∧ (s.unwait x1).gait = s.gait ∧ (s.unwait x1).pad = s.pad ∧ (s.unwait x1).fix = s.fix ∧ (s.unwait
      x1).air = s.air ∧ (s.unwait x1).byl = s.byl := by
  unfold State.unwait
  try simp
  all_goals (repeat' split) <;> simp_all

@[simp] theorem State.setRing_frame (s : State) (x1 : Nat) (x2 : RingRt) :
    (s.setRing x1 x2).pending = s.pending ∧ (s.setRing x1 x2).cyc = s.cyc ∧ (s.setRing x1 x2).hostMem = s.hostMem ∧
      (s.setRing x1 x2).live = s.live ∧ (s.setRing x1 x2).whoa = s.whoa ∧ (s.setRing x1 x2).chip = s.chip ∧
      (s.setRing x1 x2).tack = s.tack ∧ (s.setRing x1 x2).recd = s.recd ∧ (s.setRing x1 x2).net = s.net ∧ (s.setRing
      x1 x2).tim = s.tim ∧ (s.setRing x1 x2).gnb = s.gnb ∧ (s.setRing x1 x2).gait = s.gait ∧ (s.setRing x1 x2).pad =
      s.pad ∧ (s.setRing x1 x2).fix = s.fix ∧ (s.setRing x1 x2).air = s.air ∧ (s.setRing x1 x2).byl = s.byl := by
  unfold State.setRing
  try simp
  all_goals (repeat' split) <;> simp_all

@[simp] theorem State.toRing_frame (s : State) (x1 : Nat) (x2 : FinKind) (x3 : Item) (x4 : Completion) :
    (s.toRing x1 x2 x3 x4).pending = s.pending ∧ (s.toRing x1 x2 x3 x4).cyc = s.cyc ∧ (s.toRing x1 x2 x3 x4).hostMem
      = s.hostMem ∧ (s.toRing x1 x2 x3 x4).live = s.live ∧ (s.toRing x1 x2 x3 x4).whoa = s.whoa ∧ (s.toRing x1 x2 x3
      x4).chip = s.chip ∧ (s.toRing x1 x2 x3 x4).tack = s.tack ∧ (s.toRing x1 x2 x3 x4).recd = s.recd ∧ (s.toRing x1
      x2 x3 x4).net = s.net ∧ (s.toRing x1 x2 x3 x4).tim = s.tim ∧ (s.toRing x1 x2 x3 x4).gnb = s.gnb ∧ (s.toRing x1
      x2 x3 x4).gait = s.gait ∧ (s.toRing x1 x2 x3 x4).pad = s.pad ∧ (s.toRing x1 x2 x3 x4).fix = s.fix ∧ (s.toRing
      x1 x2 x3 x4).air = s.air ∧ (s.toRing x1 x2 x3 x4).byl = s.byl := by
  unfold State.toRing
  try simp
  all_goals (repeat' split) <;> simp_all

@[simp] theorem State.passUnknown_frame (s : State) (x1 : Nat) :
    (s.passUnknown x1).pending = s.pending ∧ (s.passUnknown x1).cyc = s.cyc ∧ (s.passUnknown x1).hostMem = s.hostMem
      ∧ (s.passUnknown x1).live = s.live ∧ (s.passUnknown x1).whoa = s.whoa ∧ (s.passUnknown x1).chip = s.chip ∧
      (s.passUnknown x1).tack = s.tack ∧ (s.passUnknown x1).recd = s.recd ∧ (s.passUnknown x1).net = s.net ∧
      (s.passUnknown x1).tim = s.tim ∧ (s.passUnknown x1).gnb = s.gnb ∧ (s.passUnknown x1).gait = s.gait ∧
      (s.passUnknown x1).pad = s.pad ∧ (s.passUnknown x1).fix = s.fix ∧ (s.passUnknown x1).air = s.air ∧
      (s.passUnknown x1).byl = s.byl := by
  unfold State.passUnknown
  split
  · refine ⟨?_, ?_, ?_, ?_, ?_, ?_, ?_, ?_, ?_, ?_, ?_, ?_, ?_, ?_, ?_, ?_⟩
    · refine (foldl1_pending _ _ _ (fun b x r h => ?_)).trans ?_ <;> (try subst h) <;> ((repeat' split) <;> simp)
    · refine (foldl1_cyc _ _ _ (fun b x r h => ?_)).trans ?_ <;> (try subst h) <;> ((repeat' split) <;> simp)
    · refine (foldl1_hostMem _ _ _ (fun b x r h => ?_)).trans ?_ <;> (try subst h) <;> ((repeat' split) <;> simp)
    · refine (foldl1_live _ _ _ (fun b x r h => ?_)).trans ?_ <;> (try subst h) <;> ((repeat' split) <;> simp)
    · refine (foldl1_whoa _ _ _ (fun b x r h => ?_)).trans ?_ <;> (try subst h) <;> ((repeat' split) <;> simp)
    · refine (foldl1_chip _ _ _ (fun b x r h => ?_)).trans ?_ <;> (try subst h) <;> ((repeat' split) <;> simp)
    · refine (foldl1_tack _ _ _ (fun b x r h => ?_)).trans ?_ <;> (try subst h) <;> ((repeat' split) <;> simp)
    · refine (foldl1_recd _ _ _ (fun b x r h => ?_)).trans ?_ <;> (try subst h) <;> ((repeat' split) <;> simp)
    · refine (foldl1_net _ _ _ (fun b x r h => ?_)).trans ?_ <;> (try subst h) <;> ((repeat' split) <;> simp)
    · refine (foldl1_tim _ _ _ (fun b x r h => ?_)).trans ?_ <;> (try subst h) <;> ((repeat' split) <;> simp)
    · refine (foldl1_gnb _ _ _ (fun b x r h => ?_)).trans ?_ <;> (try subst h) <;> ((repeat' split) <;> simp)
    · refine (foldl1_gait _ _ _ (fun b x r h => ?_)).trans ?_ <;> (try subst h) <;> ((repeat' split) <;> simp)
    · refine (foldl1_pad _ _ _ (fun b x r h => ?_)).trans ?_ <;> (try subst h) <;> ((repeat' split) <;> simp)
    · refine (foldl1_fix _ _ _ (fun b x r h => ?_)).trans ?_ <;> (try subst h) <;> ((repeat' split) <;> simp)
    · refine (foldl1_air _ _ _ (fun b x r h => ?_)).trans ?_ <;> (try subst h) <;> ((repeat' split) <;> simp)
    · refine (foldl1_byl _ _ _ (fun b x r h => ?_)).trans ?_ <;> (try subst h) <;> ((repeat' split) <;> simp)
  · simp

@[simp] theorem State.toQueue0_frame (s : State) (x1 : Item) (x2 : Completion) :
    (s.toQueue0 x1 x2).pending = s.pending ∧ (s.toQueue0 x1 x2).cyc = s.cyc ∧ (s.toQueue0 x1 x2).hostMem = s.hostMem
      ∧ (s.toQueue0 x1 x2).live = s.live ∧ (s.toQueue0 x1 x2).whoa = s.whoa ∧ (s.toQueue0 x1 x2).chip = s.chip ∧
      (s.toQueue0 x1 x2).tack = s.tack ∧ (s.toQueue0 x1 x2).recd = s.recd ∧ (s.toQueue0 x1 x2).net = s.net ∧
      (s.toQueue0 x1 x2).tim = s.tim ∧ (s.toQueue0 x1 x2).gnb = s.gnb ∧ (s.toQueue0 x1 x2).gait = s.gait ∧
      (s.toQueue0 x1 x2).pad = s.pad ∧ (s.toQueue0 x1 x2).fix = s.fix ∧ (s.toQueue0 x1 x2).air = s.air ∧ (s.toQueue0
      x1 x2).byl = s.byl := by
  unfold State.toQueue0
  try simp
  all_goals (repeat' split) <;> simp_all

@[simp] theorem State.toOwner_frame (s : State) (x1 : Item) (x2 : Completion) :
    (s.toOwner x1 x2).pending = s.pending ∧ (s.toOwner x1 x2).cyc = s.cyc ∧ (s.toOwner x1 x2).hostMem = s.hostMem ∧
      (s.toOwner x1 x2).live = s.live ∧ (s.toOwner x1 x2).whoa = s.whoa ∧ (s.toOwner x1 x2).chip = s.chip ∧
      (s.toOwner x1 x2).tack = s.tack ∧ (s.toOwner x1 x2).recd = s.recd ∧ (s.toOwner x1 x2).net = s.net ∧ (s.toOwner
      x1 x2).tim = s.tim ∧ (s.toOwner x1 x2).gnb = s.gnb ∧ (s.toOwner x1 x2).gait = s.gait ∧ (s.toOwner x1 x2).pad =
      s.pad ∧ (s.toOwner x1 x2).fix = s.fix ∧ (s.toOwner x1 x2).air = s.air ∧ (s.toOwner x1 x2).byl = s.byl := by
  unfold State.toOwner
  try simp
  all_goals (repeat' split) <;> simp_all

@[simp] theorem State.deliver_frame (s : State) (x1 : Item) (x2 : Completion) :
    (s.deliver x1 x2).pending = s.pending ∧ (s.deliver x1 x2).cyc = s.cyc ∧ (s.deliver x1 x2).hostMem = s.hostMem ∧
      (s.deliver x1 x2).live = s.live ∧ (s.deliver x1 x2).whoa = s.whoa ∧ (s.deliver x1 x2).chip = s.chip ∧
      (s.deliver x1 x2).tack = s.tack ∧ (s.deliver x1 x2).recd = s.recd ∧ (s.deliver x1 x2).net = s.net ∧ (s.deliver
      x1 x2).tim = s.tim ∧ (s.deliver x1 x2).gnb = s.gnb ∧ (s.deliver x1 x2).gait = s.gait ∧ (s.deliver x1 x2).pad =
      s.pad ∧ (s.deliver x1 x2).fix = s.fix ∧ (s.deliver x1 x2).air = s.air ∧ (s.deliver x1 x2).byl = s.byl := by
  unfold State.deliver
  try simp
  all_goals (repeat' split) <;> simp_all

@[simp] theorem State.reportHeld_frame (s : State) (x1 : Nat) :
    (s.reportHeld x1).pending = s.pending ∧ (s.reportHeld x1).cyc = s.cyc ∧ (s.reportHeld x1).hostMem = s.hostMem ∧
      (s.reportHeld x1).live = s.live ∧ (s.reportHeld x1).whoa = s.whoa ∧ (s.reportHeld x1).chip = s.chip ∧
      (s.reportHeld x1).tack = s.tack ∧ (s.reportHeld x1).recd = s.recd ∧ (s.reportHeld x1).net = s.net ∧
      (s.reportHeld x1).tim = s.tim ∧ (s.reportHeld x1).gnb = s.gnb ∧ (s.reportHeld x1).gait = s.gait ∧
      (s.reportHeld x1).pad = s.pad ∧ (s.reportHeld x1).fix = s.fix ∧ (s.reportHeld x1).air = s.air ∧ (s.reportHeld
      x1).byl = s.byl := by
  unfold State.reportHeld
  try simp
  all_goals (repeat' split) <;> simp_all

@[simp] theorem State.finishAt_frame (s : State) (x1 : Item) (x2 : Nat) (x3 : Nat) (x4 : Status) (x5 : Res) :
    (s.finishAt x1 x2 x3 x4 x5).pending = s.pending ∧ (s.finishAt x1 x2 x3 x4 x5).cyc = s.cyc ∧ (s.finishAt x1 x2 x3
      x4 x5).hostMem = s.hostMem ∧ (s.finishAt x1 x2 x3 x4 x5).live = s.live ∧ (s.finishAt x1 x2 x3 x4 x5).whoa =
      s.whoa ∧ (s.finishAt x1 x2 x3 x4 x5).chip = s.chip ∧ (s.finishAt x1 x2 x3 x4 x5).tack = s.tack ∧ (s.finishAt
      x1 x2 x3 x4 x5).recd = s.recd ∧ (s.finishAt x1 x2 x3 x4 x5).net = s.net ∧ (s.finishAt x1 x2 x3 x4 x5).tim =
      s.tim ∧ (s.finishAt x1 x2 x3 x4 x5).gnb = s.gnb ∧ (s.finishAt x1 x2 x3 x4 x5).gait = s.gait ∧ (s.finishAt x1
      x2 x3 x4 x5).pad = s.pad ∧ (s.finishAt x1 x2 x3 x4 x5).fix = s.fix ∧ (s.finishAt x1 x2 x3 x4 x5).air = s.air ∧
      (s.finishAt x1 x2 x3 x4 x5).byl = s.byl := by
  unfold State.finishAt
  try simp
  all_goals (repeat' split) <;> simp_all

@[simp] theorem State.finish_frame (s : State) (x1 : Item) (x2 : Nat) (x3 : Status) (x4 : optParam Res Res.zero) :
    (s.finish x1 x2 x3 x4).pending = s.pending ∧ (s.finish x1 x2 x3 x4).cyc = s.cyc ∧ (s.finish x1 x2 x3 x4).hostMem
      = s.hostMem ∧ (s.finish x1 x2 x3 x4).live = s.live ∧ (s.finish x1 x2 x3 x4).whoa = s.whoa ∧ (s.finish x1 x2 x3
      x4).chip = s.chip ∧ (s.finish x1 x2 x3 x4).tack = s.tack ∧ (s.finish x1 x2 x3 x4).recd = s.recd ∧ (s.finish x1
      x2 x3 x4).net = s.net ∧ (s.finish x1 x2 x3 x4).tim = s.tim ∧ (s.finish x1 x2 x3 x4).gnb = s.gnb ∧ (s.finish x1
      x2 x3 x4).gait = s.gait ∧ (s.finish x1 x2 x3 x4).pad = s.pad ∧ (s.finish x1 x2 x3 x4).fix = s.fix ∧ (s.finish
      x1 x2 x3 x4).air = s.air ∧ (s.finish x1 x2 x3 x4).byl = s.byl := by
  unfold State.finish
  try simp
  all_goals (repeat' split) <;> simp_all

@[simp] theorem State.acceptSession_frame (s : State) (x1 : Item) (x2 : BitVec 128) :
    (s.acceptSession x1 x2).pending = s.pending ∧ (s.acceptSession x1 x2).cyc = s.cyc ∧ (s.acceptSession x1
      x2).hostMem = s.hostMem ∧ (s.acceptSession x1 x2).live = s.live ∧ (s.acceptSession x1 x2).whoa = s.whoa ∧
      (s.acceptSession x1 x2).chip = s.chip ∧ (s.acceptSession x1 x2).recd = s.recd ∧ (s.acceptSession x1 x2).net =
      s.net ∧ (s.acceptSession x1 x2).tim = s.tim ∧ (s.acceptSession x1 x2).gnb = s.gnb ∧ (s.acceptSession x1
      x2).gait = s.gait ∧ (s.acceptSession x1 x2).pad = s.pad ∧ (s.acceptSession x1 x2).fix = s.fix := by
  unfold State.acceptSession
  dsimp only
  (repeat' split) <;> first | (simp; done) | (rename_i hk; have hk := State.deriveKey_frame _ _ _ hk; simp_all)

@[simp] theorem State.setBus_frame (s : State) (x1 : Requester) (x2 : BusRt) :
    (s.setBus x1 x2).pending = s.pending ∧ (s.setBus x1 x2).cyc = s.cyc ∧ (s.setBus x1 x2).hostMem = s.hostMem ∧
      (s.setBus x1 x2).live = s.live ∧ (s.setBus x1 x2).whoa = s.whoa ∧ (s.setBus x1 x2).chip = s.chip ∧ (s.setBus
      x1 x2).tack = s.tack ∧ (s.setBus x1 x2).recd = s.recd ∧ (s.setBus x1 x2).net = s.net ∧ (s.setBus x1 x2).tim =
      s.tim ∧ (s.setBus x1 x2).gnb = s.gnb ∧ (s.setBus x1 x2).gait = s.gait ∧ (s.setBus x1 x2).pad = s.pad ∧
      (s.setBus x1 x2).fix = s.fix ∧ (s.setBus x1 x2).air = s.air ∧ (s.setBus x1 x2).byl = s.byl := by
  unfold State.setBus
  try simp
  all_goals (repeat' split) <;> simp_all

@[simp] theorem State.answer_frame (s : State) (x1 : Requester) (x2 : Sys2Proof.Word) :
    (s.answer x1 x2).pending = s.pending ∧ (s.answer x1 x2).cyc = s.cyc ∧ (s.answer x1 x2).hostMem = s.hostMem ∧
      (s.answer x1 x2).live = s.live ∧ (s.answer x1 x2).whoa = s.whoa ∧ (s.answer x1 x2).chip = s.chip ∧ (s.answer
      x1 x2).tack = s.tack ∧ (s.answer x1 x2).recd = s.recd ∧ (s.answer x1 x2).net = s.net ∧ (s.answer x1 x2).tim =
      s.tim ∧ (s.answer x1 x2).gnb = s.gnb ∧ (s.answer x1 x2).gait = s.gait ∧ (s.answer x1 x2).pad = s.pad ∧
      (s.answer x1 x2).fix = s.fix ∧ (s.answer x1 x2).air = s.air ∧ (s.answer x1 x2).byl = s.byl := by
  unfold State.answer
  try simp
  all_goals (repeat' split) <;> simp_all

@[simp] theorem State.noteAccess_frame (s : State) (x1 : Requester) (x2 : Nat) (x3 : Bool) :
    (s.noteAccess x1 x2 x3).pending = s.pending ∧ (s.noteAccess x1 x2 x3).cyc = s.cyc ∧ (s.noteAccess x1 x2
      x3).hostMem = s.hostMem ∧ (s.noteAccess x1 x2 x3).live = s.live ∧ (s.noteAccess x1 x2 x3).whoa = s.whoa ∧
      (s.noteAccess x1 x2 x3).chip = s.chip ∧ (s.noteAccess x1 x2 x3).tack = s.tack ∧ (s.noteAccess x1 x2 x3).recd =
      s.recd ∧ (s.noteAccess x1 x2 x3).net = s.net ∧ (s.noteAccess x1 x2 x3).tim = s.tim ∧ (s.noteAccess x1 x2
      x3).gnb = s.gnb ∧ (s.noteAccess x1 x2 x3).gait = s.gait ∧ (s.noteAccess x1 x2 x3).pad = s.pad ∧ (s.noteAccess
      x1 x2 x3).fix = s.fix ∧ (s.noteAccess x1 x2 x3).air = s.air ∧ (s.noteAccess x1 x2 x3).byl = s.byl := by
  unfold State.noteAccess
  try simp
  all_goals (repeat' split) <;> simp_all

@[simp] theorem State.fire_frame (s : State) (x1 : Nat) :
    (s.fire x1).pending = s.pending ∧ (s.fire x1).cyc = s.cyc ∧ (s.fire x1).hostMem = s.hostMem ∧ (s.fire x1).live =
      s.live ∧ (s.fire x1).whoa = s.whoa ∧ (s.fire x1).chip = s.chip ∧ (s.fire x1).tack = s.tack ∧ (s.fire x1).recd
      = s.recd ∧ (s.fire x1).net = s.net ∧ (s.fire x1).tim = s.tim ∧ (s.fire x1).gnb = s.gnb ∧ (s.fire x1).gait =
      s.gait ∧ (s.fire x1).pad = s.pad ∧ (s.fire x1).fix = s.fix ∧ (s.fire x1).air = s.air ∧ (s.fire x1).byl = s.byl := by
  unfold State.fire
  try simp
  all_goals (repeat' split) <;> simp_all

@[simp] theorem State.sumErrors_frame (s : State) :
    (s.sumErrors).pending = s.pending ∧ (s.sumErrors).cyc = s.cyc ∧ (s.sumErrors).hostMem = s.hostMem ∧
      (s.sumErrors).live = s.live ∧ (s.sumErrors).whoa = s.whoa ∧ (s.sumErrors).chip = s.chip ∧ (s.sumErrors).tack =
      s.tack ∧ (s.sumErrors).recd = s.recd ∧ (s.sumErrors).net = s.net ∧ (s.sumErrors).tim = s.tim ∧
      (s.sumErrors).gnb = s.gnb ∧ (s.sumErrors).gait = s.gait ∧ (s.sumErrors).pad = s.pad ∧ (s.sumErrors).fix =
      s.fix ∧ (s.sumErrors).air = s.air ∧ (s.sumErrors).byl = s.byl := by
  unfold State.sumErrors
  try simp
  all_goals (repeat' split) <;> simp_all

@[simp] theorem State.chipErr_frame (s : State) (x1 : Bits) :
    (s.chipErr x1).pending = s.pending ∧ (s.chipErr x1).cyc = s.cyc ∧ (s.chipErr x1).hostMem = s.hostMem ∧
      (s.chipErr x1).live = s.live ∧ (s.chipErr x1).whoa = s.whoa ∧ (s.chipErr x1).chip = s.chip ∧ (s.chipErr
      x1).tack = s.tack ∧ (s.chipErr x1).recd = s.recd ∧ (s.chipErr x1).net = s.net ∧ (s.chipErr x1).tim = s.tim ∧
      (s.chipErr x1).gnb = s.gnb ∧ (s.chipErr x1).gait = s.gait ∧ (s.chipErr x1).pad = s.pad ∧ (s.chipErr x1).fix =
      s.fix ∧ (s.chipErr x1).air = s.air ∧ (s.chipErr x1).byl = s.byl := by
  unfold State.chipErr
  try simp
  all_goals (repeat' split) <;> simp_all

@[simp] theorem State.access_pending (s : State) (x1 : Requester) (x2 : Nat) (x3 : Bool) (x4 : State → State) (h4 :
    ∀ y0 r, x4 y0 = r → r.pending = y0.pending) :
    (s.access x1 x2 x3 x4).pending = s.pending := by
  unfold State.access
  (repeat' split) <;> (try simp_all)

@[simp] theorem State.access_cyc (s : State) (x1 : Requester) (x2 : Nat) (x3 : Bool) (x4 : State → State) (h4 : ∀ y0
    r, x4 y0 = r → r.cyc = y0.cyc) :
    (s.access x1 x2 x3 x4).cyc = s.cyc := by
  unfold State.access
  (repeat' split) <;> (try simp_all)

@[simp] theorem State.access_hostMem (s : State) (x1 : Requester) (x2 : Nat) (x3 : Bool) (x4 : State → State) (h4 :
    ∀ y0 r, x4 y0 = r → r.hostMem = y0.hostMem) :
    (s.access x1 x2 x3 x4).hostMem = s.hostMem := by
  unfold State.access
  (repeat' split) <;> (try simp_all)

@[simp] theorem State.access_live (s : State) (x1 : Requester) (x2 : Nat) (x3 : Bool) (x4 : State → State) (h4 : ∀
    y0 r, x4 y0 = r → r.live = y0.live) :
    (s.access x1 x2 x3 x4).live = s.live := by
  unfold State.access
  (repeat' split) <;> (try simp_all)

@[simp] theorem State.access_whoa (s : State) (x1 : Requester) (x2 : Nat) (x3 : Bool) (x4 : State → State) (h4 : ∀
    y0 r, x4 y0 = r → r.whoa = y0.whoa) :
    (s.access x1 x2 x3 x4).whoa = s.whoa := by
  unfold State.access
  (repeat' split) <;> (try simp_all)

@[simp] theorem State.access_chip (s : State) (x1 : Requester) (x2 : Nat) (x3 : Bool) (x4 : State → State) (h4 : ∀
    y0 r, x4 y0 = r → r.chip = y0.chip) :
    (s.access x1 x2 x3 x4).chip = s.chip := by
  unfold State.access
  (repeat' split) <;> (try simp_all)

@[simp] theorem State.access_tack (s : State) (x1 : Requester) (x2 : Nat) (x3 : Bool) (x4 : State → State) (h4 : ∀
    y0 r, x4 y0 = r → r.tack = y0.tack) :
    (s.access x1 x2 x3 x4).tack = s.tack := by
  unfold State.access
  (repeat' split) <;> (try simp_all)

@[simp] theorem State.access_recd (s : State) (x1 : Requester) (x2 : Nat) (x3 : Bool) (x4 : State → State) (h4 : ∀
    y0 r, x4 y0 = r → r.recd = y0.recd) :
    (s.access x1 x2 x3 x4).recd = s.recd := by
  unfold State.access
  (repeat' split) <;> (try simp_all)

@[simp] theorem State.access_net (s : State) (x1 : Requester) (x2 : Nat) (x3 : Bool) (x4 : State → State) (h4 : ∀ y0
    r, x4 y0 = r → r.net = y0.net) :
    (s.access x1 x2 x3 x4).net = s.net := by
  unfold State.access
  (repeat' split) <;> (try simp_all)

@[simp] theorem State.access_tim (s : State) (x1 : Requester) (x2 : Nat) (x3 : Bool) (x4 : State → State) (h4 : ∀ y0
    r, x4 y0 = r → r.tim = y0.tim) :
    (s.access x1 x2 x3 x4).tim = s.tim := by
  unfold State.access
  (repeat' split) <;> (try simp_all)

@[simp] theorem State.access_gnb (s : State) (x1 : Requester) (x2 : Nat) (x3 : Bool) (x4 : State → State) (h4 : ∀ y0
    r, x4 y0 = r → r.gnb = y0.gnb) :
    (s.access x1 x2 x3 x4).gnb = s.gnb := by
  unfold State.access
  (repeat' split) <;> (try simp_all)

@[simp] theorem State.access_gait (s : State) (x1 : Requester) (x2 : Nat) (x3 : Bool) (x4 : State → State) (h4 : ∀
    y0 r, x4 y0 = r → r.gait = y0.gait) :
    (s.access x1 x2 x3 x4).gait = s.gait := by
  unfold State.access
  (repeat' split) <;> (try simp_all)

@[simp] theorem State.access_pad (s : State) (x1 : Requester) (x2 : Nat) (x3 : Bool) (x4 : State → State) (h4 : ∀ y0
    r, x4 y0 = r → r.pad = y0.pad) :
    (s.access x1 x2 x3 x4).pad = s.pad := by
  unfold State.access
  (repeat' split) <;> (try simp_all)

@[simp] theorem State.access_fix (s : State) (x1 : Requester) (x2 : Nat) (x3 : Bool) (x4 : State → State) (h4 : ∀ y0
    r, x4 y0 = r → r.fix = y0.fix) :
    (s.access x1 x2 x3 x4).fix = s.fix := by
  unfold State.access
  (repeat' split) <;> (try simp_all)

@[simp] theorem State.access_air (s : State) (x1 : Requester) (x2 : Nat) (x3 : Bool) (x4 : State → State) (h4 : ∀ y0
    r, x4 y0 = r → r.air = y0.air) :
    (s.access x1 x2 x3 x4).air = s.air := by
  unfold State.access
  (repeat' split) <;> (try simp_all)

@[simp] theorem State.access_byl (s : State) (x1 : Requester) (x2 : Nat) (x3 : Bool) (x4 : State → State) (h4 : ∀ y0
    r, x4 y0 = r → r.byl = y0.byl) :
    (s.access x1 x2 x3 x4).byl = s.byl := by
  unfold State.access
  (repeat' split) <;> (try simp_all)

@[simp] theorem State.count_frame (s : State) (x1 : Nat) :
    (s.count x1).pending = s.pending ∧ (s.count x1).cyc = s.cyc ∧ (s.count x1).hostMem = s.hostMem ∧ (s.count
      x1).live = s.live ∧ (s.count x1).whoa = s.whoa ∧ (s.count x1).chip = s.chip ∧ (s.count x1).tack = s.tack ∧
      (s.count x1).recd = s.recd ∧ (s.count x1).net = s.net ∧ (s.count x1).tim = s.tim ∧ (s.count x1).gnb = s.gnb ∧
      (s.count x1).gait = s.gait ∧ (s.count x1).pad = s.pad ∧ (s.count x1).fix = s.fix ∧ (s.count x1).air = s.air ∧
      (s.count x1).byl = s.byl := by
  unfold State.count
  try simp
  all_goals (repeat' split) <;> simp_all

@[simp] theorem State.ackPlan_frame (s : State) (x1 : Nat) (x2 : FixRec) :
    (s.ackPlan x1 x2).pending = s.pending ∧ (s.ackPlan x1 x2).cyc = s.cyc ∧ (s.ackPlan x1 x2).hostMem = s.hostMem ∧
      (s.ackPlan x1 x2).live = s.live ∧ (s.ackPlan x1 x2).whoa = s.whoa ∧ (s.ackPlan x1 x2).chip = s.chip ∧
      (s.ackPlan x1 x2).tack = s.tack ∧ (s.ackPlan x1 x2).recd = s.recd ∧ (s.ackPlan x1 x2).net = s.net ∧ (s.ackPlan
      x1 x2).tim = s.tim ∧ (s.ackPlan x1 x2).gnb = s.gnb ∧ (s.ackPlan x1 x2).gait = s.gait ∧ (s.ackPlan x1 x2).pad =
      s.pad ∧ (s.ackPlan x1 x2).fix = s.fix ∧ (s.ackPlan x1 x2).air = s.air ∧ (s.ackPlan x1 x2).byl = s.byl := by
  unfold State.ackPlan
  try simp
  all_goals (repeat' split) <;> simp_all

@[simp] theorem State.setHalves_frame (s : State) (x1 : Nat) (x2 : Halves) :
    (s.setHalves x1 x2).pending = s.pending ∧ (s.setHalves x1 x2).cyc = s.cyc ∧ (s.setHalves x1 x2).hostMem =
      s.hostMem ∧ (s.setHalves x1 x2).live = s.live ∧ (s.setHalves x1 x2).whoa = s.whoa ∧ (s.setHalves x1 x2).chip =
      s.chip ∧ (s.setHalves x1 x2).tack = s.tack ∧ (s.setHalves x1 x2).recd = s.recd ∧ (s.setHalves x1 x2).net =
      s.net ∧ (s.setHalves x1 x2).tim = s.tim ∧ (s.setHalves x1 x2).gnb = s.gnb ∧ (s.setHalves x1 x2).gait = s.gait
      ∧ (s.setHalves x1 x2).fix = s.fix ∧ (s.setHalves x1 x2).air = s.air ∧ (s.setHalves x1 x2).byl = s.byl := by
  unfold State.setHalves
  try simp
  all_goals (repeat' split) <;> simp_all

@[simp] theorem State.setDir_frame (s : State) (x1 : Nat) (x2 : PadDir) :
    (s.setDir x1 x2).pending = s.pending ∧ (s.setDir x1 x2).cyc = s.cyc ∧ (s.setDir x1 x2).hostMem = s.hostMem ∧
      (s.setDir x1 x2).live = s.live ∧ (s.setDir x1 x2).whoa = s.whoa ∧ (s.setDir x1 x2).chip = s.chip ∧ (s.setDir
      x1 x2).tack = s.tack ∧ (s.setDir x1 x2).recd = s.recd ∧ (s.setDir x1 x2).net = s.net ∧ (s.setDir x1 x2).tim =
      s.tim ∧ (s.setDir x1 x2).gnb = s.gnb ∧ (s.setDir x1 x2).gait = s.gait ∧ (s.setDir x1 x2).fix = s.fix ∧
      (s.setDir x1 x2).air = s.air ∧ (s.setDir x1 x2).byl = s.byl := by
  unfold State.setDir
  try simp
  all_goals (repeat' split) <;> simp_all

@[simp] theorem State.noteWrite_frame (s : State) (x1 : Nat) :
    (s.noteWrite x1).pending = s.pending ∧ (s.noteWrite x1).cyc = s.cyc ∧ (s.noteWrite x1).hostMem = s.hostMem ∧
      (s.noteWrite x1).live = s.live ∧ (s.noteWrite x1).whoa = s.whoa ∧ (s.noteWrite x1).chip = s.chip ∧
      (s.noteWrite x1).tack = s.tack ∧ (s.noteWrite x1).recd = s.recd ∧ (s.noteWrite x1).net = s.net ∧ (s.noteWrite
      x1).tim = s.tim ∧ (s.noteWrite x1).gnb = s.gnb ∧ (s.noteWrite x1).gait = s.gait ∧ (s.noteWrite x1).fix = s.fix
      ∧ (s.noteWrite x1).air = s.air ∧ (s.noteWrite x1).byl = s.byl := by
  unfold State.noteWrite
  try simp
  all_goals (repeat' split) <;> simp_all

@[simp] theorem State.setSlots_frame (s : State) (x1 : Nat) (x2 : Slots) :
    (s.setSlots x1 x2).pending = s.pending ∧ (s.setSlots x1 x2).cyc = s.cyc ∧ (s.setSlots x1 x2).hostMem = s.hostMem
      ∧ (s.setSlots x1 x2).live = s.live ∧ (s.setSlots x1 x2).whoa = s.whoa ∧ (s.setSlots x1 x2).chip = s.chip ∧
      (s.setSlots x1 x2).tack = s.tack ∧ (s.setSlots x1 x2).recd = s.recd ∧ (s.setSlots x1 x2).net = s.net ∧
      (s.setSlots x1 x2).tim = s.tim ∧ (s.setSlots x1 x2).gnb = s.gnb ∧ (s.setSlots x1 x2).gait = s.gait ∧
      (s.setSlots x1 x2).fix = s.fix ∧ (s.setSlots x1 x2).air = s.air ∧ (s.setSlots x1 x2).byl = s.byl := by
  unfold State.setSlots
  try simp
  all_goals (repeat' split) <;> simp_all

@[simp] theorem State.useTile_frame (s : State) (x1 : Nat) :
    (s.useTile x1).pending = s.pending ∧ (s.useTile x1).cyc = s.cyc ∧ (s.useTile x1).hostMem = s.hostMem ∧
      (s.useTile x1).live = s.live ∧ (s.useTile x1).whoa = s.whoa ∧ (s.useTile x1).chip = s.chip ∧ (s.useTile
      x1).tack = s.tack ∧ (s.useTile x1).recd = s.recd ∧ (s.useTile x1).net = s.net ∧ (s.useTile x1).tim = s.tim ∧
      (s.useTile x1).gnb = s.gnb ∧ (s.useTile x1).gait = s.gait ∧ (s.useTile x1).fix = s.fix ∧ (s.useTile x1).air =
      s.air ∧ (s.useTile x1).byl = s.byl := by
  unfold State.useTile
  try simp
  all_goals (repeat' split) <;> simp_all

@[simp] theorem State.wipeCell_frame (s : State) (x1 : Nat) :
    (s.wipeCell x1).pending = s.pending ∧ (s.wipeCell x1).cyc = s.cyc ∧ (s.wipeCell x1).hostMem = s.hostMem ∧
      (s.wipeCell x1).live = s.live ∧ (s.wipeCell x1).whoa = s.whoa ∧ (s.wipeCell x1).chip = s.chip ∧ (s.wipeCell
      x1).tack = s.tack ∧ (s.wipeCell x1).recd = s.recd ∧ (s.wipeCell x1).net = s.net ∧ (s.wipeCell x1).tim = s.tim
      ∧ (s.wipeCell x1).gnb = s.gnb ∧ (s.wipeCell x1).gait = s.gait ∧ (s.wipeCell x1).fix = s.fix ∧ (s.wipeCell
      x1).air = s.air ∧ (s.wipeCell x1).byl = s.byl := by
  unfold State.wipeCell
  try simp
  all_goals (repeat' split) <;> simp_all

@[simp] theorem State.rgnErr_frame (s : State) (x1 : Bits) :
    (s.rgnErr x1).pending = s.pending ∧ (s.rgnErr x1).cyc = s.cyc ∧ (s.rgnErr x1).hostMem = s.hostMem ∧ (s.rgnErr
      x1).live = s.live ∧ (s.rgnErr x1).whoa = s.whoa ∧ (s.rgnErr x1).chip = s.chip ∧ (s.rgnErr x1).tack = s.tack ∧
      (s.rgnErr x1).recd = s.recd ∧ (s.rgnErr x1).net = s.net ∧ (s.rgnErr x1).tim = s.tim ∧ (s.rgnErr x1).gnb =
      s.gnb ∧ (s.rgnErr x1).gait = s.gait ∧ (s.rgnErr x1).pad = s.pad ∧ (s.rgnErr x1).fix = s.fix ∧ (s.rgnErr
      x1).air = s.air ∧ (s.rgnErr x1).byl = s.byl := by
  unfold State.rgnErr
  try simp
  all_goals (repeat' split) <;> simp_all

@[simp] theorem State.rgnInfo_frame (s : State) (x1 : Nat) (x2 : Nat) (x3 : Nat) (x4 : Nat) (x5 : ErrCause) :
    (s.rgnInfo x1 x2 x3 x4 x5).pending = s.pending ∧ (s.rgnInfo x1 x2 x3 x4 x5).cyc = s.cyc ∧ (s.rgnInfo x1 x2 x3 x4
      x5).hostMem = s.hostMem ∧ (s.rgnInfo x1 x2 x3 x4 x5).live = s.live ∧ (s.rgnInfo x1 x2 x3 x4 x5).whoa = s.whoa
      ∧ (s.rgnInfo x1 x2 x3 x4 x5).chip = s.chip ∧ (s.rgnInfo x1 x2 x3 x4 x5).tack = s.tack ∧ (s.rgnInfo x1 x2 x3 x4
      x5).recd = s.recd ∧ (s.rgnInfo x1 x2 x3 x4 x5).net = s.net ∧ (s.rgnInfo x1 x2 x3 x4 x5).tim = s.tim ∧
      (s.rgnInfo x1 x2 x3 x4 x5).gnb = s.gnb ∧ (s.rgnInfo x1 x2 x3 x4 x5).gait = s.gait ∧ (s.rgnInfo x1 x2 x3 x4
      x5).pad = s.pad ∧ (s.rgnInfo x1 x2 x3 x4 x5).fix = s.fix ∧ (s.rgnInfo x1 x2 x3 x4 x5).air = s.air ∧ (s.rgnInfo
      x1 x2 x3 x4 x5).byl = s.byl := by
  unfold State.rgnInfo
  try simp
  all_goals (repeat' split) <;> simp_all

@[simp] theorem State.noteCell_frame (s : State) (x1 : Nat) (x2 : Nat) (x3 : Nat) (x4 : ErrCause) :
    (s.noteCell x1 x2 x3 x4).pending = s.pending ∧ (s.noteCell x1 x2 x3 x4).cyc = s.cyc ∧ (s.noteCell x1 x2 x3
      x4).hostMem = s.hostMem ∧ (s.noteCell x1 x2 x3 x4).live = s.live ∧ (s.noteCell x1 x2 x3 x4).whoa = s.whoa ∧
      (s.noteCell x1 x2 x3 x4).chip = s.chip ∧ (s.noteCell x1 x2 x3 x4).tack = s.tack ∧ (s.noteCell x1 x2 x3
      x4).recd = s.recd ∧ (s.noteCell x1 x2 x3 x4).net = s.net ∧ (s.noteCell x1 x2 x3 x4).tim = s.tim ∧ (s.noteCell
      x1 x2 x3 x4).gnb = s.gnb ∧ (s.noteCell x1 x2 x3 x4).gait = s.gait ∧ (s.noteCell x1 x2 x3 x4).pad = s.pad ∧
      (s.noteCell x1 x2 x3 x4).fix = s.fix ∧ (s.noteCell x1 x2 x3 x4).air = s.air ∧ (s.noteCell x1 x2 x3 x4).byl =
      s.byl := by
  unfold State.noteCell
  try simp
  all_goals (repeat' split) <;> simp_all

@[simp] theorem State.reportRetired_frame (s : State) (x1 : Nat) :
    (s.reportRetired x1).pending = s.pending ∧ (s.reportRetired x1).cyc = s.cyc ∧ (s.reportRetired x1).hostMem =
      s.hostMem ∧ (s.reportRetired x1).live = s.live ∧ (s.reportRetired x1).whoa = s.whoa ∧ (s.reportRetired
      x1).chip = s.chip ∧ (s.reportRetired x1).tack = s.tack ∧ (s.reportRetired x1).recd = s.recd ∧ (s.reportRetired
      x1).net = s.net ∧ (s.reportRetired x1).tim = s.tim ∧ (s.reportRetired x1).gnb = s.gnb ∧ (s.reportRetired
      x1).gait = s.gait ∧ (s.reportRetired x1).pad = s.pad ∧ (s.reportRetired x1).fix = s.fix ∧ (s.reportRetired
      x1).air = s.air ∧ (s.reportRetired x1).byl = s.byl := by
  unfold State.reportRetired
  try simp
  all_goals (repeat' split) <;> simp_all

@[simp] theorem State.markRetired_frame (s : State) (x1 : Nat) (x2 : Nat) :
    (s.markRetired x1 x2).pending = s.pending ∧ (s.markRetired x1 x2).cyc = s.cyc ∧ (s.markRetired x1 x2).hostMem =
      s.hostMem ∧ (s.markRetired x1 x2).live = s.live ∧ (s.markRetired x1 x2).whoa = s.whoa ∧ (s.markRetired x1
      x2).chip = s.chip ∧ (s.markRetired x1 x2).tack = s.tack ∧ (s.markRetired x1 x2).recd = s.recd ∧ (s.markRetired
      x1 x2).net = s.net ∧ (s.markRetired x1 x2).tim = s.tim ∧ (s.markRetired x1 x2).gnb = s.gnb ∧ (s.markRetired x1
      x2).gait = s.gait ∧ (s.markRetired x1 x2).pad = s.pad ∧ (s.markRetired x1 x2).fix = s.fix ∧ (s.markRetired x1
      x2).air = s.air ∧ (s.markRetired x1 x2).byl = s.byl := by
  unfold State.markRetired
  try simp
  all_goals (repeat' split) <;> simp_all

@[simp] theorem State.clearHits_frame (s : State) (x1 : Nat) (x2 : Nat) :
    (s.clearHits x1 x2).pending = s.pending ∧ (s.clearHits x1 x2).cyc = s.cyc ∧ (s.clearHits x1 x2).hostMem =
      s.hostMem ∧ (s.clearHits x1 x2).live = s.live ∧ (s.clearHits x1 x2).whoa = s.whoa ∧ (s.clearHits x1 x2).chip =
      s.chip ∧ (s.clearHits x1 x2).tack = s.tack ∧ (s.clearHits x1 x2).recd = s.recd ∧ (s.clearHits x1 x2).net =
      s.net ∧ (s.clearHits x1 x2).tim = s.tim ∧ (s.clearHits x1 x2).gnb = s.gnb ∧ (s.clearHits x1 x2).gait = s.gait
      ∧ (s.clearHits x1 x2).pad = s.pad ∧ (s.clearHits x1 x2).fix = s.fix ∧ (s.clearHits x1 x2).air = s.air ∧
      (s.clearHits x1 x2).byl = s.byl := by
  unfold State.clearHits
  try simp
  all_goals (repeat' split) <;> simp_all

@[simp] theorem State.laneError_frame (s : State) (x1 : Nat) :
    (s.laneError x1).pending = s.pending ∧ (s.laneError x1).cyc = s.cyc ∧ (s.laneError x1).hostMem = s.hostMem ∧
      (s.laneError x1).live = s.live ∧ (s.laneError x1).whoa = s.whoa ∧ (s.laneError x1).chip = s.chip ∧
      (s.laneError x1).tack = s.tack ∧ (s.laneError x1).recd = s.recd ∧ (s.laneError x1).net = s.net ∧ (s.laneError
      x1).tim = s.tim ∧ (s.laneError x1).gnb = s.gnb ∧ (s.laneError x1).gait = s.gait ∧ (s.laneError x1).pad = s.pad
      ∧ (s.laneError x1).fix = s.fix ∧ (s.laneError x1).air = s.air ∧ (s.laneError x1).byl = s.byl := by
  unfold State.laneError
  try simp
  all_goals (repeat' split) <;> simp_all

@[simp] theorem State.wr64_frame (s : State) (x1 : Nat) (x2 : Nat) :
    (s.wr64 x1 x2).pending = s.pending ∧ (s.wr64 x1 x2).cyc = s.cyc ∧ (s.wr64 x1 x2).hostMem = s.hostMem ∧ (s.wr64
      x1 x2).live = s.live ∧ (s.wr64 x1 x2).whoa = s.whoa ∧ (s.wr64 x1 x2).chip = s.chip ∧ (s.wr64 x1 x2).tack =
      s.tack ∧ (s.wr64 x1 x2).recd = s.recd ∧ (s.wr64 x1 x2).net = s.net ∧ (s.wr64 x1 x2).tim = s.tim ∧ (s.wr64 x1
      x2).gnb = s.gnb ∧ (s.wr64 x1 x2).gait = s.gait ∧ (s.wr64 x1 x2).pad = s.pad ∧ (s.wr64 x1 x2).fix = s.fix ∧
      (s.wr64 x1 x2).air = s.air ∧ (s.wr64 x1 x2).byl = s.byl := by
  unfold State.wr64
  try simp
  all_goals (repeat' split) <;> simp_all

@[simp] theorem State.event_frame (s : State) (x1 : PolicyFn) (x2 : Nat) (x3 : Nat) (x4 : Nat) (x5 : Nat) (x6 : Nat) :
    (s.event x1 x2 x3 x4 x5 x6).pending = s.pending ∧ (s.event x1 x2 x3 x4 x5 x6).cyc = s.cyc ∧ (s.event x1 x2 x3 x4
      x5 x6).hostMem = s.hostMem ∧ (s.event x1 x2 x3 x4 x5 x6).live = s.live ∧ (s.event x1 x2 x3 x4 x5 x6).whoa =
      s.whoa ∧ (s.event x1 x2 x3 x4 x5 x6).chip = s.chip ∧ (s.event x1 x2 x3 x4 x5 x6).tack = s.tack ∧ (s.event x1
      x2 x3 x4 x5 x6).recd = s.recd ∧ (s.event x1 x2 x3 x4 x5 x6).net = s.net ∧ (s.event x1 x2 x3 x4 x5 x6).tim =
      s.tim ∧ (s.event x1 x2 x3 x4 x5 x6).gnb = s.gnb ∧ (s.event x1 x2 x3 x4 x5 x6).gait = s.gait ∧ (s.event x1 x2
      x3 x4 x5 x6).pad = s.pad ∧ (s.event x1 x2 x3 x4 x5 x6).fix = s.fix ∧ (s.event x1 x2 x3 x4 x5 x6).air = s.air ∧
      (s.event x1 x2 x3 x4 x5 x6).byl = s.byl := by
  unfold State.event
  try simp
  all_goals (repeat' split) <;> simp_all

@[simp] theorem State.dramUe_frame (s : State) (x1 : Nat) (x2 : Bool) :
    (s.dramUe x1 x2).pending = s.pending ∧ (s.dramUe x1 x2).cyc = s.cyc ∧ (s.dramUe x1 x2).hostMem = s.hostMem ∧
      (s.dramUe x1 x2).live = s.live ∧ (s.dramUe x1 x2).whoa = s.whoa ∧ (s.dramUe x1 x2).chip = s.chip ∧ (s.dramUe
      x1 x2).tack = s.tack ∧ (s.dramUe x1 x2).recd = s.recd ∧ (s.dramUe x1 x2).net = s.net ∧ (s.dramUe x1 x2).tim =
      s.tim ∧ (s.dramUe x1 x2).gnb = s.gnb ∧ (s.dramUe x1 x2).gait = s.gait ∧ (s.dramUe x1 x2).pad = s.pad ∧
      (s.dramUe x1 x2).fix = s.fix ∧ (s.dramUe x1 x2).air = s.air ∧ (s.dramUe x1 x2).byl = s.byl := by
  unfold State.dramUe
  try simp
  all_goals (repeat' split) <;> simp_all

@[simp] theorem State.badWord_frame (s : State) (x1 : PadGeom) (x2 : BadCell) :
    (s.badWord x1 x2).pending = s.pending ∧ (s.badWord x1 x2).cyc = s.cyc ∧ (s.badWord x1 x2).hostMem = s.hostMem ∧
      (s.badWord x1 x2).live = s.live ∧ (s.badWord x1 x2).whoa = s.whoa ∧ (s.badWord x1 x2).chip = s.chip ∧
      (s.badWord x1 x2).tack = s.tack ∧ (s.badWord x1 x2).recd = s.recd ∧ (s.badWord x1 x2).net = s.net ∧ (s.badWord
      x1 x2).tim = s.tim ∧ (s.badWord x1 x2).gnb = s.gnb ∧ (s.badWord x1 x2).gait = s.gait ∧ (s.badWord x1 x2).pad =
      s.pad ∧ (s.badWord x1 x2).fix = s.fix ∧ (s.badWord x1 x2).air = s.air ∧ (s.badWord x1 x2).byl = s.byl := by
  unfold State.badWord
  try simp
  all_goals (repeat' split) <;> simp_all

@[simp] theorem State.padEvent_frame (s : State) (x1 : Nat) (x2 : Nat) (x3 : Nat) :
    (s.padEvent x1 x2 x3).pending = s.pending ∧ (s.padEvent x1 x2 x3).cyc = s.cyc ∧ (s.padEvent x1 x2 x3).hostMem =
      s.hostMem ∧ (s.padEvent x1 x2 x3).live = s.live ∧ (s.padEvent x1 x2 x3).whoa = s.whoa ∧ (s.padEvent x1 x2
      x3).chip = s.chip ∧ (s.padEvent x1 x2 x3).tack = s.tack ∧ (s.padEvent x1 x2 x3).recd = s.recd ∧ (s.padEvent x1
      x2 x3).net = s.net ∧ (s.padEvent x1 x2 x3).tim = s.tim ∧ (s.padEvent x1 x2 x3).gnb = s.gnb ∧ (s.padEvent x1 x2
      x3).gait = s.gait ∧ (s.padEvent x1 x2 x3).pad = s.pad ∧ (s.padEvent x1 x2 x3).fix = s.fix ∧ (s.padEvent x1 x2
      x3).air = s.air ∧ (s.padEvent x1 x2 x3).byl = s.byl := by
  unfold State.padEvent
  try simp
  all_goals (repeat' split) <;> simp_all

@[simp] theorem State.repairCell_frame (s : State) (x1 : BadCell) :
    (s.repairCell x1).pending = s.pending ∧ (s.repairCell x1).cyc = s.cyc ∧ (s.repairCell x1).hostMem = s.hostMem ∧
      (s.repairCell x1).live = s.live ∧ (s.repairCell x1).whoa = s.whoa ∧ (s.repairCell x1).chip = s.chip ∧
      (s.repairCell x1).tack = s.tack ∧ (s.repairCell x1).recd = s.recd ∧ (s.repairCell x1).net = s.net ∧
      (s.repairCell x1).tim = s.tim ∧ (s.repairCell x1).gnb = s.gnb ∧ (s.repairCell x1).gait = s.gait ∧
      (s.repairCell x1).fix = s.fix ∧ (s.repairCell x1).air = s.air ∧ (s.repairCell x1).byl = s.byl := by
  unfold State.repairCell
  try simp
  all_goals (repeat' split) <;> simp_all

@[simp] theorem State.readCellsOr_pending (s : State) (x1 : Option BadCell) (x2 : State → Nat × Nat → State) (x3 :
    State → State) (h2 : ∀ y0 y1 r, x2 y0 y1 = r → r.pending = y0.pending) (h3 : ∀ y0 r, x3 y0 = r → r.pending =
    y0.pending) :
    (s.readCellsOr x1 x2 x3).pending = s.pending := by
  unfold State.readCellsOr
  (repeat' split) <;> (try simp_all)

@[simp] theorem State.readCellsOr_cyc (s : State) (x1 : Option BadCell) (x2 : State → Nat × Nat → State) (x3 : State
    → State) (h2 : ∀ y0 y1 r, x2 y0 y1 = r → r.cyc = y0.cyc) (h3 : ∀ y0 r, x3 y0 = r → r.cyc = y0.cyc) :
    (s.readCellsOr x1 x2 x3).cyc = s.cyc := by
  unfold State.readCellsOr
  (repeat' split) <;> (try simp_all)

@[simp] theorem State.readCellsOr_hostMem (s : State) (x1 : Option BadCell) (x2 : State → Nat × Nat → State) (x3 :
    State → State) (h2 : ∀ y0 y1 r, x2 y0 y1 = r → r.hostMem = y0.hostMem) (h3 : ∀ y0 r, x3 y0 = r → r.hostMem =
    y0.hostMem) :
    (s.readCellsOr x1 x2 x3).hostMem = s.hostMem := by
  unfold State.readCellsOr
  (repeat' split) <;> (try simp_all)

@[simp] theorem State.readCellsOr_live (s : State) (x1 : Option BadCell) (x2 : State → Nat × Nat → State) (x3 :
    State → State) (h2 : ∀ y0 y1 r, x2 y0 y1 = r → r.live = y0.live) (h3 : ∀ y0 r, x3 y0 = r → r.live = y0.live) :
    (s.readCellsOr x1 x2 x3).live = s.live := by
  unfold State.readCellsOr
  (repeat' split) <;> (try simp_all)

@[simp] theorem State.readCellsOr_whoa (s : State) (x1 : Option BadCell) (x2 : State → Nat × Nat → State) (x3 :
    State → State) (h2 : ∀ y0 y1 r, x2 y0 y1 = r → r.whoa = y0.whoa) (h3 : ∀ y0 r, x3 y0 = r → r.whoa = y0.whoa) :
    (s.readCellsOr x1 x2 x3).whoa = s.whoa := by
  unfold State.readCellsOr
  (repeat' split) <;> (try simp_all)

@[simp] theorem State.readCellsOr_chip (s : State) (x1 : Option BadCell) (x2 : State → Nat × Nat → State) (x3 :
    State → State) (h2 : ∀ y0 y1 r, x2 y0 y1 = r → r.chip = y0.chip) (h3 : ∀ y0 r, x3 y0 = r → r.chip = y0.chip) :
    (s.readCellsOr x1 x2 x3).chip = s.chip := by
  unfold State.readCellsOr
  (repeat' split) <;> (try simp_all)

@[simp] theorem State.readCellsOr_tack (s : State) (x1 : Option BadCell) (x2 : State → Nat × Nat → State) (x3 :
    State → State) (h2 : ∀ y0 y1 r, x2 y0 y1 = r → r.tack = y0.tack) (h3 : ∀ y0 r, x3 y0 = r → r.tack = y0.tack) :
    (s.readCellsOr x1 x2 x3).tack = s.tack := by
  unfold State.readCellsOr
  (repeat' split) <;> (try simp_all)

@[simp] theorem State.readCellsOr_recd (s : State) (x1 : Option BadCell) (x2 : State → Nat × Nat → State) (x3 :
    State → State) (h2 : ∀ y0 y1 r, x2 y0 y1 = r → r.recd = y0.recd) (h3 : ∀ y0 r, x3 y0 = r → r.recd = y0.recd) :
    (s.readCellsOr x1 x2 x3).recd = s.recd := by
  unfold State.readCellsOr
  (repeat' split) <;> (try simp_all)

@[simp] theorem State.readCellsOr_net (s : State) (x1 : Option BadCell) (x2 : State → Nat × Nat → State) (x3 : State
    → State) (h2 : ∀ y0 y1 r, x2 y0 y1 = r → r.net = y0.net) (h3 : ∀ y0 r, x3 y0 = r → r.net = y0.net) :
    (s.readCellsOr x1 x2 x3).net = s.net := by
  unfold State.readCellsOr
  (repeat' split) <;> (try simp_all)

@[simp] theorem State.readCellsOr_tim (s : State) (x1 : Option BadCell) (x2 : State → Nat × Nat → State) (x3 : State
    → State) (h2 : ∀ y0 y1 r, x2 y0 y1 = r → r.tim = y0.tim) (h3 : ∀ y0 r, x3 y0 = r → r.tim = y0.tim) :
    (s.readCellsOr x1 x2 x3).tim = s.tim := by
  unfold State.readCellsOr
  (repeat' split) <;> (try simp_all)

@[simp] theorem State.readCellsOr_gnb (s : State) (x1 : Option BadCell) (x2 : State → Nat × Nat → State) (x3 : State
    → State) (h2 : ∀ y0 y1 r, x2 y0 y1 = r → r.gnb = y0.gnb) (h3 : ∀ y0 r, x3 y0 = r → r.gnb = y0.gnb) :
    (s.readCellsOr x1 x2 x3).gnb = s.gnb := by
  unfold State.readCellsOr
  (repeat' split) <;> (try simp_all)

@[simp] theorem State.readCellsOr_gait (s : State) (x1 : Option BadCell) (x2 : State → Nat × Nat → State) (x3 :
    State → State) (h2 : ∀ y0 y1 r, x2 y0 y1 = r → r.gait = y0.gait) (h3 : ∀ y0 r, x3 y0 = r → r.gait = y0.gait) :
    (s.readCellsOr x1 x2 x3).gait = s.gait := by
  unfold State.readCellsOr
  (repeat' split) <;> (try simp_all)

@[simp] theorem State.readCellsOr_fix (s : State) (x1 : Option BadCell) (x2 : State → Nat × Nat → State) (x3 : State
    → State) (h2 : ∀ y0 y1 r, x2 y0 y1 = r → r.fix = y0.fix) (h3 : ∀ y0 r, x3 y0 = r → r.fix = y0.fix) :
    (s.readCellsOr x1 x2 x3).fix = s.fix := by
  unfold State.readCellsOr
  (repeat' split) <;> (try simp_all)

@[simp] theorem State.readCellsOr_air (s : State) (x1 : Option BadCell) (x2 : State → Nat × Nat → State) (x3 : State
    → State) (h2 : ∀ y0 y1 r, x2 y0 y1 = r → r.air = y0.air) (h3 : ∀ y0 r, x3 y0 = r → r.air = y0.air) :
    (s.readCellsOr x1 x2 x3).air = s.air := by
  unfold State.readCellsOr
  (repeat' split) <;> (try simp_all)

@[simp] theorem State.readCellsOr_byl (s : State) (x1 : Option BadCell) (x2 : State → Nat × Nat → State) (x3 : State
    → State) (h2 : ∀ y0 y1 r, x2 y0 y1 = r → r.byl = y0.byl) (h3 : ∀ y0 r, x3 y0 = r → r.byl = y0.byl) :
    (s.readCellsOr x1 x2 x3).byl = s.byl := by
  unfold State.readCellsOr
  (repeat' split) <;> (try simp_all)

@[simp] theorem State.readCells_pending (s : State) (x1 : Item) (x2 : Option BadCell) (x3 : State → State) (h3 : ∀
    y0 r, x3 y0 = r → r.pending = y0.pending) :
    (s.readCells x1 x2 x3).pending = s.pending := by
  unfold State.readCells
  (repeat' split) <;> (try simp_all)

@[simp] theorem State.readCells_cyc (s : State) (x1 : Item) (x2 : Option BadCell) (x3 : State → State) (h3 : ∀ y0 r,
    x3 y0 = r → r.cyc = y0.cyc) :
    (s.readCells x1 x2 x3).cyc = s.cyc := by
  unfold State.readCells
  (repeat' split) <;> (try simp_all)

@[simp] theorem State.readCells_hostMem (s : State) (x1 : Item) (x2 : Option BadCell) (x3 : State → State) (h3 : ∀
    y0 r, x3 y0 = r → r.hostMem = y0.hostMem) :
    (s.readCells x1 x2 x3).hostMem = s.hostMem := by
  unfold State.readCells
  (repeat' split) <;> (try simp_all)

@[simp] theorem State.readCells_live (s : State) (x1 : Item) (x2 : Option BadCell) (x3 : State → State) (h3 : ∀ y0
    r, x3 y0 = r → r.live = y0.live) :
    (s.readCells x1 x2 x3).live = s.live := by
  unfold State.readCells
  (repeat' split) <;> (try simp_all)

@[simp] theorem State.readCells_whoa (s : State) (x1 : Item) (x2 : Option BadCell) (x3 : State → State) (h3 : ∀ y0
    r, x3 y0 = r → r.whoa = y0.whoa) :
    (s.readCells x1 x2 x3).whoa = s.whoa := by
  unfold State.readCells
  (repeat' split) <;> (try simp_all)

@[simp] theorem State.readCells_chip (s : State) (x1 : Item) (x2 : Option BadCell) (x3 : State → State) (h3 : ∀ y0
    r, x3 y0 = r → r.chip = y0.chip) :
    (s.readCells x1 x2 x3).chip = s.chip := by
  unfold State.readCells
  (repeat' split) <;> (try simp_all)

@[simp] theorem State.readCells_tack (s : State) (x1 : Item) (x2 : Option BadCell) (x3 : State → State) (h3 : ∀ y0
    r, x3 y0 = r → r.tack = y0.tack) :
    (s.readCells x1 x2 x3).tack = s.tack := by
  unfold State.readCells
  (repeat' split) <;> (try simp_all)

@[simp] theorem State.readCells_recd (s : State) (x1 : Item) (x2 : Option BadCell) (x3 : State → State) (h3 : ∀ y0
    r, x3 y0 = r → r.recd = y0.recd) :
    (s.readCells x1 x2 x3).recd = s.recd := by
  unfold State.readCells
  (repeat' split) <;> (try simp_all)

@[simp] theorem State.readCells_net (s : State) (x1 : Item) (x2 : Option BadCell) (x3 : State → State) (h3 : ∀ y0 r,
    x3 y0 = r → r.net = y0.net) :
    (s.readCells x1 x2 x3).net = s.net := by
  unfold State.readCells
  (repeat' split) <;> (try simp_all)

@[simp] theorem State.readCells_tim (s : State) (x1 : Item) (x2 : Option BadCell) (x3 : State → State) (h3 : ∀ y0 r,
    x3 y0 = r → r.tim = y0.tim) :
    (s.readCells x1 x2 x3).tim = s.tim := by
  unfold State.readCells
  (repeat' split) <;> (try simp_all)

@[simp] theorem State.readCells_gnb (s : State) (x1 : Item) (x2 : Option BadCell) (x3 : State → State) (h3 : ∀ y0 r,
    x3 y0 = r → r.gnb = y0.gnb) :
    (s.readCells x1 x2 x3).gnb = s.gnb := by
  unfold State.readCells
  (repeat' split) <;> (try simp_all)

@[simp] theorem State.readCells_gait (s : State) (x1 : Item) (x2 : Option BadCell) (x3 : State → State) (h3 : ∀ y0
    r, x3 y0 = r → r.gait = y0.gait) :
    (s.readCells x1 x2 x3).gait = s.gait := by
  unfold State.readCells
  (repeat' split) <;> (try simp_all)

@[simp] theorem State.readCells_fix (s : State) (x1 : Item) (x2 : Option BadCell) (x3 : State → State) (h3 : ∀ y0 r,
    x3 y0 = r → r.fix = y0.fix) :
    (s.readCells x1 x2 x3).fix = s.fix := by
  unfold State.readCells
  (repeat' split) <;> (try simp_all)

@[simp] theorem State.readCells_air (s : State) (x1 : Item) (x2 : Option BadCell) (x3 : State → State) (h3 : ∀ y0 r,
    x3 y0 = r → r.air = y0.air) :
    (s.readCells x1 x2 x3).air = s.air := by
  unfold State.readCells
  (repeat' split) <;> (try simp_all)

@[simp] theorem State.readCells_byl (s : State) (x1 : Item) (x2 : Option BadCell) (x3 : State → State) (h3 : ∀ y0 r,
    x3 y0 = r → r.byl = y0.byl) :
    (s.readCells x1 x2 x3).byl = s.byl := by
  unfold State.readCells
  (repeat' split) <;> (try simp_all)

@[simp] theorem State.holdCells_frame (s : State) (x1 : Item) :
    (s.holdCells x1).pending = s.pending ∧ (s.holdCells x1).cyc = s.cyc ∧ (s.holdCells x1).hostMem = s.hostMem ∧
      (s.holdCells x1).live = s.live ∧ (s.holdCells x1).whoa = s.whoa ∧ (s.holdCells x1).chip = s.chip ∧
      (s.holdCells x1).tack = s.tack ∧ (s.holdCells x1).recd = s.recd ∧ (s.holdCells x1).net = s.net ∧ (s.holdCells
      x1).tim = s.tim ∧ (s.holdCells x1).gnb = s.gnb ∧ (s.holdCells x1).gait = s.gait ∧ (s.holdCells x1).fix = s.fix
      ∧ (s.holdCells x1).air = s.air ∧ (s.holdCells x1).byl = s.byl := by
  unfold State.holdCells
  try simp
  all_goals (repeat' split) <;> simp_all

@[simp] theorem State.freeSlots_frame (s : State) (x1 : Nat) (x2 : Slot → Bool) :
    (s.freeSlots x1 x2).pending = s.pending ∧ (s.freeSlots x1 x2).cyc = s.cyc ∧ (s.freeSlots x1 x2).hostMem =
      s.hostMem ∧ (s.freeSlots x1 x2).live = s.live ∧ (s.freeSlots x1 x2).whoa = s.whoa ∧ (s.freeSlots x1 x2).chip =
      s.chip ∧ (s.freeSlots x1 x2).tack = s.tack ∧ (s.freeSlots x1 x2).recd = s.recd ∧ (s.freeSlots x1 x2).net =
      s.net ∧ (s.freeSlots x1 x2).tim = s.tim ∧ (s.freeSlots x1 x2).gnb = s.gnb ∧ (s.freeSlots x1 x2).gait = s.gait
      ∧ (s.freeSlots x1 x2).fix = s.fix ∧ (s.freeSlots x1 x2).air = s.air ∧ (s.freeSlots x1 x2).byl = s.byl := by
  unfold State.freeSlots
  try simp
  all_goals (repeat' split) <;> simp_all

@[simp] theorem State.reportPad_frame (s : State) (x1 : Nat) :
    (s.reportPad x1).pending = s.pending ∧ (s.reportPad x1).cyc = s.cyc ∧ (s.reportPad x1).hostMem = s.hostMem ∧
      (s.reportPad x1).live = s.live ∧ (s.reportPad x1).whoa = s.whoa ∧ (s.reportPad x1).chip = s.chip ∧
      (s.reportPad x1).tack = s.tack ∧ (s.reportPad x1).recd = s.recd ∧ (s.reportPad x1).net = s.net ∧ (s.reportPad
      x1).tim = s.tim ∧ (s.reportPad x1).gnb = s.gnb ∧ (s.reportPad x1).gait = s.gait ∧ (s.reportPad x1).pad = s.pad
      ∧ (s.reportPad x1).fix = s.fix ∧ (s.reportPad x1).air = s.air ∧ (s.reportPad x1).byl = s.byl := by
  unfold State.reportPad
  try simp
  all_goals (repeat' split) <;> simp_all

@[simp] theorem State.mirror_frame (s : State) (x1 : Nat) (x2 : Nat) (x3 : Nat) (x4 : Nat) (x5 : BitVec 32) (x6 :
    Nat) (x7 : MirrorBody) :
    (s.mirror x1 x2 x3 x4 x5 x6 x7).pending = s.pending ∧ (s.mirror x1 x2 x3 x4 x5 x6 x7).cyc = s.cyc ∧ (s.mirror x1
      x2 x3 x4 x5 x6 x7).hostMem = s.hostMem ∧ (s.mirror x1 x2 x3 x4 x5 x6 x7).live = s.live ∧ (s.mirror x1 x2 x3 x4
      x5 x6 x7).whoa = s.whoa ∧ (s.mirror x1 x2 x3 x4 x5 x6 x7).chip = s.chip ∧ (s.mirror x1 x2 x3 x4 x5 x6 x7).tack
      = s.tack ∧ (s.mirror x1 x2 x3 x4 x5 x6 x7).recd = s.recd ∧ (s.mirror x1 x2 x3 x4 x5 x6 x7).net = s.net ∧
      (s.mirror x1 x2 x3 x4 x5 x6 x7).tim = s.tim ∧ (s.mirror x1 x2 x3 x4 x5 x6 x7).gnb = s.gnb ∧ (s.mirror x1 x2 x3
      x4 x5 x6 x7).gait = s.gait ∧ (s.mirror x1 x2 x3 x4 x5 x6 x7).fix = s.fix ∧ (s.mirror x1 x2 x3 x4 x5 x6 x7).air
      = s.air := by
  unfold State.mirror
  try simp
  all_goals (repeat' split) <;> simp_all

@[simp] theorem State.discOver_frame (s : State) (x1 : Nat) :
    (s.discOver x1).pending = s.pending ∧ (s.discOver x1).cyc = s.cyc ∧ (s.discOver x1).hostMem = s.hostMem ∧
      (s.discOver x1).live = s.live ∧ (s.discOver x1).whoa = s.whoa ∧ (s.discOver x1).chip = s.chip ∧ (s.discOver
      x1).tack = s.tack ∧ (s.discOver x1).recd = s.recd ∧ (s.discOver x1).net = s.net ∧ (s.discOver x1).tim = s.tim
      ∧ (s.discOver x1).gnb = s.gnb ∧ (s.discOver x1).gait = s.gait ∧ (s.discOver x1).fix = s.fix ∧ (s.discOver
      x1).air = s.air := by
  unfold State.discOver
  try simp
  all_goals (repeat' split) <;> simp_all

@[simp] theorem State.padFree_frame (s : State) (x1 : Nat) :
    (s.padFree x1).pending = s.pending ∧ (s.padFree x1).cyc = s.cyc ∧ (s.padFree x1).hostMem = s.hostMem ∧
      (s.padFree x1).live = s.live ∧ (s.padFree x1).whoa = s.whoa ∧ (s.padFree x1).chip = s.chip ∧ (s.padFree
      x1).tack = s.tack ∧ (s.padFree x1).recd = s.recd ∧ (s.padFree x1).net = s.net ∧ (s.padFree x1).tim = s.tim ∧
      (s.padFree x1).gnb = s.gnb ∧ (s.padFree x1).gait = s.gait ∧ (s.padFree x1).fix = s.fix ∧ (s.padFree x1).air =
      s.air := by
  unfold State.padFree
  try simp
  all_goals (repeat' split) <;> simp_all

@[simp] theorem State.releaseCells_frame (s : State) (x1 : Item) :
    (s.releaseCells x1).pending = s.pending ∧ (s.releaseCells x1).cyc = s.cyc ∧ (s.releaseCells x1).hostMem =
      s.hostMem ∧ (s.releaseCells x1).live = s.live ∧ (s.releaseCells x1).whoa = s.whoa ∧ (s.releaseCells x1).chip =
      s.chip ∧ (s.releaseCells x1).tack = s.tack ∧ (s.releaseCells x1).recd = s.recd ∧ (s.releaseCells x1).net =
      s.net ∧ (s.releaseCells x1).tim = s.tim ∧ (s.releaseCells x1).gnb = s.gnb ∧ (s.releaseCells x1).gait = s.gait
      ∧ (s.releaseCells x1).fix = s.fix ∧ (s.releaseCells x1).air = s.air := by
  unfold State.releaseCells
  try simp
  all_goals (repeat' split) <;> simp_all

@[simp] theorem State.grantLocks_frame (s : State) :
    (s.grantLocks).pending = s.pending ∧ (s.grantLocks).cyc = s.cyc ∧ (s.grantLocks).hostMem = s.hostMem ∧
      (s.grantLocks).live = s.live ∧ (s.grantLocks).whoa = s.whoa ∧ (s.grantLocks).chip = s.chip ∧
      (s.grantLocks).tack = s.tack ∧ (s.grantLocks).recd = s.recd ∧ (s.grantLocks).net = s.net ∧ (s.grantLocks).tim
      = s.tim ∧ (s.grantLocks).gnb = s.gnb ∧ (s.grantLocks).gait = s.gait ∧ (s.grantLocks).fix = s.fix ∧
      (s.grantLocks).air = s.air ∧ (s.grantLocks).byl = s.byl := by
  unfold State.grantLocks
  try simp
  all_goals (repeat' split) <;> simp_all

@[simp] theorem State.leaveLocks_frame (s : State) (x1 : Locker → Bool) :
    (s.leaveLocks x1).pending = s.pending ∧ (s.leaveLocks x1).cyc = s.cyc ∧ (s.leaveLocks x1).hostMem = s.hostMem ∧
      (s.leaveLocks x1).live = s.live ∧ (s.leaveLocks x1).whoa = s.whoa ∧ (s.leaveLocks x1).chip = s.chip ∧
      (s.leaveLocks x1).tack = s.tack ∧ (s.leaveLocks x1).recd = s.recd ∧ (s.leaveLocks x1).net = s.net ∧
      (s.leaveLocks x1).tim = s.tim ∧ (s.leaveLocks x1).gnb = s.gnb ∧ (s.leaveLocks x1).gait = s.gait ∧
      (s.leaveLocks x1).fix = s.fix ∧ (s.leaveLocks x1).air = s.air ∧ (s.leaveLocks x1).byl = s.byl := by
  unfold State.leaveLocks
  try simp
  all_goals (repeat' split) <;> simp_all

@[simp] theorem State.actWait_frame (s : State) (x1 : PadWait) :
    (s.actWait x1).pending = s.pending ∧ (s.actWait x1).cyc = s.cyc ∧ (s.actWait x1).hostMem = s.hostMem ∧
      (s.actWait x1).live = s.live ∧ (s.actWait x1).whoa = s.whoa ∧ (s.actWait x1).chip = s.chip ∧ (s.actWait
      x1).tack = s.tack ∧ (s.actWait x1).recd = s.recd ∧ (s.actWait x1).net = s.net ∧ (s.actWait x1).tim = s.tim ∧
      (s.actWait x1).gnb = s.gnb ∧ (s.actWait x1).gait = s.gait ∧ (s.actWait x1).fix = s.fix ∧ (s.actWait x1).air =
      s.air := by
  unfold State.actWait
  try simp
  all_goals (repeat' split) <;> simp_all

@[simp] theorem State.reportTrial_frame (s : State) (x1 : Flash) :
    (s.reportTrial x1).pending = s.pending ∧ (s.reportTrial x1).cyc = s.cyc ∧ (s.reportTrial x1).hostMem = s.hostMem
      ∧ (s.reportTrial x1).live = s.live ∧ (s.reportTrial x1).whoa = s.whoa ∧ (s.reportTrial x1).chip = s.chip ∧
      (s.reportTrial x1).tack = s.tack ∧ (s.reportTrial x1).recd = s.recd ∧ (s.reportTrial x1).net = s.net ∧
      (s.reportTrial x1).tim = s.tim ∧ (s.reportTrial x1).gnb = s.gnb ∧ (s.reportTrial x1).gait = s.gait ∧
      (s.reportTrial x1).pad = s.pad ∧ (s.reportTrial x1).fix = s.fix ∧ (s.reportTrial x1).air = s.air ∧
      (s.reportTrial x1).byl = s.byl := by
  unfold State.reportTrial
  try simp
  all_goals (repeat' split) <;> simp_all

@[simp] theorem State.setFlash_frame (s : State) (x1 : Flash) :
    (s.setFlash x1).pending = s.pending ∧ (s.setFlash x1).cyc = s.cyc ∧ (s.setFlash x1).hostMem = s.hostMem ∧
      (s.setFlash x1).live = s.live ∧ (s.setFlash x1).whoa = s.whoa ∧ (s.setFlash x1).tack = s.tack ∧ (s.setFlash
      x1).recd = s.recd ∧ (s.setFlash x1).net = s.net ∧ (s.setFlash x1).tim = s.tim ∧ (s.setFlash x1).gnb = s.gnb ∧
      (s.setFlash x1).gait = s.gait ∧ (s.setFlash x1).pad = s.pad ∧ (s.setFlash x1).fix = s.fix ∧ (s.setFlash
      x1).air = s.air ∧ (s.setFlash x1).byl = s.byl := by
  unfold State.setFlash
  try simp
  all_goals (repeat' split) <;> simp_all

@[simp] theorem State.activateImages_frame (s : State) (x1 : Item) :
    (s.activateImages x1).pending = s.pending ∧ (s.activateImages x1).cyc = s.cyc ∧ (s.activateImages x1).hostMem =
      s.hostMem ∧ (s.activateImages x1).live = s.live ∧ (s.activateImages x1).whoa = s.whoa ∧ (s.activateImages
      x1).tack = s.tack ∧ (s.activateImages x1).recd = s.recd ∧ (s.activateImages x1).net = s.net ∧
      (s.activateImages x1).tim = s.tim ∧ (s.activateImages x1).gnb = s.gnb ∧ (s.activateImages x1).gait = s.gait ∧
      (s.activateImages x1).pad = s.pad ∧ (s.activateImages x1).fix = s.fix ∧ (s.activateImages x1).air = s.air ∧
      (s.activateImages x1).byl = s.byl := by
  unfold State.activateImages
  try simp
  all_goals (repeat' split) <;> simp_all

@[simp] theorem State.setCapture_frame (s : State) (x1 : Nat) (x2 : RecSrc) :
    (s.setCapture x1 x2).pending = s.pending ∧ (s.setCapture x1 x2).cyc = s.cyc ∧ (s.setCapture x1 x2).hostMem =
      s.hostMem ∧ (s.setCapture x1 x2).live = s.live ∧ (s.setCapture x1 x2).whoa = s.whoa ∧ (s.setCapture x1
      x2).chip = s.chip ∧ (s.setCapture x1 x2).tack = s.tack ∧ (s.setCapture x1 x2).net = s.net ∧ (s.setCapture x1
      x2).tim = s.tim ∧ (s.setCapture x1 x2).gnb = s.gnb ∧ (s.setCapture x1 x2).gait = s.gait ∧ (s.setCapture x1
      x2).pad = s.pad ∧ (s.setCapture x1 x2).fix = s.fix ∧ (s.setCapture x1 x2).air = s.air ∧ (s.setCapture x1
      x2).byl = s.byl := by
  unfold State.setCapture
  try simp
  all_goals (repeat' split) <;> simp_all

@[simp] theorem State.stream_frame (s : State) (x1 : Nat) (x2 : Nat) (x3 : Nat) (x4 : Nat) (x5 : List
    Sys2Proof.Byte) :
    (s.stream x1 x2 x3 x4 x5).pending = s.pending ∧ (s.stream x1 x2 x3 x4 x5).cyc = s.cyc ∧ (s.stream x1 x2 x3 x4
      x5).hostMem = s.hostMem ∧ (s.stream x1 x2 x3 x4 x5).live = s.live ∧ (s.stream x1 x2 x3 x4 x5).whoa = s.whoa ∧
      (s.stream x1 x2 x3 x4 x5).chip = s.chip ∧ (s.stream x1 x2 x3 x4 x5).tack = s.tack ∧ (s.stream x1 x2 x3 x4
      x5).net = s.net ∧ (s.stream x1 x2 x3 x4 x5).tim = s.tim ∧ (s.stream x1 x2 x3 x4 x5).gnb = s.gnb ∧ (s.stream x1
      x2 x3 x4 x5).gait = s.gait ∧ (s.stream x1 x2 x3 x4 x5).pad = s.pad ∧ (s.stream x1 x2 x3 x4 x5).fix = s.fix ∧
      (s.stream x1 x2 x3 x4 x5).air = s.air ∧ (s.stream x1 x2 x3 x4 x5).byl = s.byl := by
  unfold State.stream
  try simp
  all_goals (repeat' split) <;> simp_all

@[simp] theorem State.seeStatus_frame (s : State) (x1 : Nat) (x2 : List Nat) :
    (s.seeStatus x1 x2).pending = s.pending ∧ (s.seeStatus x1 x2).cyc = s.cyc ∧ (s.seeStatus x1 x2).hostMem =
      s.hostMem ∧ (s.seeStatus x1 x2).live = s.live ∧ (s.seeStatus x1 x2).whoa = s.whoa ∧ (s.seeStatus x1 x2).chip =
      s.chip ∧ (s.seeStatus x1 x2).tack = s.tack ∧ (s.seeStatus x1 x2).net = s.net ∧ (s.seeStatus x1 x2).tim = s.tim
      ∧ (s.seeStatus x1 x2).gnb = s.gnb ∧ (s.seeStatus x1 x2).gait = s.gait ∧ (s.seeStatus x1 x2).pad = s.pad ∧
      (s.seeStatus x1 x2).fix = s.fix ∧ (s.seeStatus x1 x2).air = s.air ∧ (s.seeStatus x1 x2).byl = s.byl := by
  unfold State.seeStatus
  try simp
  all_goals (repeat' split) <;> simp_all

@[simp] theorem State.timEvent_frame (s : State) (x1 : Nat) (x2 : Nat) (x3 : Nat) :
    (s.timEvent x1 x2 x3).pending = s.pending ∧ (s.timEvent x1 x2 x3).cyc = s.cyc ∧ (s.timEvent x1 x2 x3).hostMem =
      s.hostMem ∧ (s.timEvent x1 x2 x3).live = s.live ∧ (s.timEvent x1 x2 x3).whoa = s.whoa ∧ (s.timEvent x1 x2
      x3).chip = s.chip ∧ (s.timEvent x1 x2 x3).tack = s.tack ∧ (s.timEvent x1 x2 x3).net = s.net ∧ (s.timEvent x1
      x2 x3).tim = s.tim ∧ (s.timEvent x1 x2 x3).gnb = s.gnb ∧ (s.timEvent x1 x2 x3).gait = s.gait ∧ (s.timEvent x1
      x2 x3).pad = s.pad ∧ (s.timEvent x1 x2 x3).fix = s.fix ∧ (s.timEvent x1 x2 x3).air = s.air ∧ (s.timEvent x1 x2
      x3).byl = s.byl := by
  unfold State.timEvent
  try simp
  all_goals (repeat' split) <;> simp_all

@[simp] theorem State.setDisagree_frame (s : State) (x1 : Bool) :
    (s.setDisagree x1).pending = s.pending ∧ (s.setDisagree x1).cyc = s.cyc ∧ (s.setDisagree x1).hostMem = s.hostMem
      ∧ (s.setDisagree x1).live = s.live ∧ (s.setDisagree x1).whoa = s.whoa ∧ (s.setDisagree x1).chip = s.chip ∧
      (s.setDisagree x1).tack = s.tack ∧ (s.setDisagree x1).net = s.net ∧ (s.setDisagree x1).tim = s.tim ∧
      (s.setDisagree x1).gnb = s.gnb ∧ (s.setDisagree x1).gait = s.gait ∧ (s.setDisagree x1).pad = s.pad ∧
      (s.setDisagree x1).fix = s.fix ∧ (s.setDisagree x1).air = s.air ∧ (s.setDisagree x1).byl = s.byl := by
  unfold State.setDisagree
  try simp
  all_goals (repeat' split) <;> simp_all

@[simp] theorem State.afterExcl_frame (s : State) :
    (s.afterExcl).pending = s.pending ∧ (s.afterExcl).cyc = s.cyc ∧ (s.afterExcl).hostMem = s.hostMem ∧
      (s.afterExcl).live = s.live ∧ (s.afterExcl).whoa = s.whoa ∧ (s.afterExcl).chip = s.chip ∧ (s.afterExcl).tack =
      s.tack ∧ (s.afterExcl).net = s.net ∧ (s.afterExcl).tim = s.tim ∧ (s.afterExcl).gnb = s.gnb ∧
      (s.afterExcl).gait = s.gait ∧ (s.afterExcl).pad = s.pad ∧ (s.afterExcl).fix = s.fix ∧ (s.afterExcl).air =
      s.air ∧ (s.afterExcl).byl = s.byl := by
  unfold State.afterExcl
  try simp
  all_goals (repeat' split) <;> simp_all

@[simp] theorem State.settleKeys_frame (s : State) :
    (s.settleKeys).pending = s.pending ∧ (s.settleKeys).cyc = s.cyc ∧ (s.settleKeys).hostMem = s.hostMem ∧
      (s.settleKeys).live = s.live ∧ (s.settleKeys).whoa = s.whoa ∧ (s.settleKeys).chip = s.chip ∧
      (s.settleKeys).recd = s.recd ∧ (s.settleKeys).net = s.net ∧ (s.settleKeys).tim = s.tim ∧ (s.settleKeys).gnb =
      s.gnb ∧ (s.settleKeys).gait = s.gait ∧ (s.settleKeys).pad = s.pad ∧ (s.settleKeys).fix = s.fix ∧
      (s.settleKeys).air = s.air ∧ (s.settleKeys).byl = s.byl := by
  unfold State.settleKeys
  try simp
  all_goals (repeat' split) <;> simp_all

@[simp] theorem State.releaseKeys_frame (s : State) (x1 : Nat) :
    (s.releaseKeys x1).pending = s.pending ∧ (s.releaseKeys x1).cyc = s.cyc ∧ (s.releaseKeys x1).hostMem = s.hostMem
      ∧ (s.releaseKeys x1).live = s.live ∧ (s.releaseKeys x1).whoa = s.whoa ∧ (s.releaseKeys x1).chip = s.chip ∧
      (s.releaseKeys x1).recd = s.recd ∧ (s.releaseKeys x1).net = s.net ∧ (s.releaseKeys x1).tim = s.tim ∧
      (s.releaseKeys x1).gnb = s.gnb ∧ (s.releaseKeys x1).gait = s.gait ∧ (s.releaseKeys x1).pad = s.pad ∧
      (s.releaseKeys x1).fix = s.fix ∧ (s.releaseKeys x1).air = s.air ∧ (s.releaseKeys x1).byl = s.byl := by
  unfold State.releaseKeys
  try simp
  all_goals (repeat' split) <;> simp_all

@[simp] theorem State.putSlotImage_frame (s : State) (x1 : Bool) (x2 : Bool) (x3 : Option Image) :
    (s.putSlotImage x1 x2 x3).pending = s.pending ∧ (s.putSlotImage x1 x2 x3).cyc = s.cyc ∧ (s.putSlotImage x1 x2
      x3).hostMem = s.hostMem ∧ (s.putSlotImage x1 x2 x3).live = s.live ∧ (s.putSlotImage x1 x2 x3).whoa = s.whoa ∧
      (s.putSlotImage x1 x2 x3).tack = s.tack ∧ (s.putSlotImage x1 x2 x3).recd = s.recd ∧ (s.putSlotImage x1 x2
      x3).net = s.net ∧ (s.putSlotImage x1 x2 x3).tim = s.tim ∧ (s.putSlotImage x1 x2 x3).gnb = s.gnb ∧
      (s.putSlotImage x1 x2 x3).gait = s.gait ∧ (s.putSlotImage x1 x2 x3).pad = s.pad ∧ (s.putSlotImage x1 x2
      x3).fix = s.fix ∧ (s.putSlotImage x1 x2 x3).air = s.air ∧ (s.putSlotImage x1 x2 x3).byl = s.byl := by
  unfold State.putSlotImage
  try simp
  all_goals (repeat' split) <;> simp_all

@[simp] theorem State.putCue_frame (s : State) (x1 : Nat) (x2 : Option CueSlot) :
    (s.putCue x1 x2).pending = s.pending ∧ (s.putCue x1 x2).cyc = s.cyc ∧ (s.putCue x1 x2).hostMem = s.hostMem ∧
      (s.putCue x1 x2).live = s.live ∧ (s.putCue x1 x2).whoa = s.whoa ∧ (s.putCue x1 x2).chip = s.chip ∧ (s.putCue
      x1 x2).tack = s.tack ∧ (s.putCue x1 x2).recd = s.recd ∧ (s.putCue x1 x2).net = s.net ∧ (s.putCue x1 x2).gnb =
      s.gnb ∧ (s.putCue x1 x2).gait = s.gait ∧ (s.putCue x1 x2).pad = s.pad ∧ (s.putCue x1 x2).fix = s.fix ∧
      (s.putCue x1 x2).air = s.air ∧ (s.putCue x1 x2).byl = s.byl := by
  unfold State.putCue
  try simp
  all_goals (repeat' split) <;> simp_all

@[simp] theorem State.forgetCue_frame (s : State) (x1 : LongOp) :
    (s.forgetCue x1).pending = s.pending ∧ (s.forgetCue x1).cyc = s.cyc ∧ (s.forgetCue x1).hostMem = s.hostMem ∧
      (s.forgetCue x1).live = s.live ∧ (s.forgetCue x1).whoa = s.whoa ∧ (s.forgetCue x1).chip = s.chip ∧
      (s.forgetCue x1).tack = s.tack ∧ (s.forgetCue x1).recd = s.recd ∧ (s.forgetCue x1).net = s.net ∧ (s.forgetCue
      x1).gnb = s.gnb ∧ (s.forgetCue x1).gait = s.gait ∧ (s.forgetCue x1).pad = s.pad ∧ (s.forgetCue x1).fix = s.fix
      ∧ (s.forgetCue x1).air = s.air ∧ (s.forgetCue x1).byl = s.byl := by
  unfold State.forgetCue
  try simp
  all_goals (repeat' split) <;> simp_all

@[simp] theorem State.forgetImage_frame (s : State) (x1 : LongOp) :
    (s.forgetImage x1).pending = s.pending ∧ (s.forgetImage x1).cyc = s.cyc ∧ (s.forgetImage x1).hostMem = s.hostMem
      ∧ (s.forgetImage x1).live = s.live ∧ (s.forgetImage x1).whoa = s.whoa ∧ (s.forgetImage x1).tack = s.tack ∧
      (s.forgetImage x1).recd = s.recd ∧ (s.forgetImage x1).net = s.net ∧ (s.forgetImage x1).tim = s.tim ∧
      (s.forgetImage x1).gnb = s.gnb ∧ (s.forgetImage x1).gait = s.gait ∧ (s.forgetImage x1).pad = s.pad ∧
      (s.forgetImage x1).fix = s.fix ∧ (s.forgetImage x1).air = s.air ∧ (s.forgetImage x1).byl = s.byl := by
  unfold State.forgetImage
  try simp
  all_goals (repeat' split) <;> simp_all

@[simp] theorem State.forgetRewrap_frame (s : State) (x1 : LongOp) :
    (s.forgetRewrap x1).pending = s.pending ∧ (s.forgetRewrap x1).cyc = s.cyc ∧ (s.forgetRewrap x1).hostMem =
      s.hostMem ∧ (s.forgetRewrap x1).live = s.live ∧ (s.forgetRewrap x1).whoa = s.whoa ∧ (s.forgetRewrap x1).chip =
      s.chip ∧ (s.forgetRewrap x1).recd = s.recd ∧ (s.forgetRewrap x1).net = s.net ∧ (s.forgetRewrap x1).tim = s.tim
      ∧ (s.forgetRewrap x1).gnb = s.gnb ∧ (s.forgetRewrap x1).gait = s.gait ∧ (s.forgetRewrap x1).pad = s.pad ∧
      (s.forgetRewrap x1).fix = s.fix ∧ (s.forgetRewrap x1).air = s.air ∧ (s.forgetRewrap x1).byl = s.byl := by
  unfold State.forgetRewrap
  try simp
  all_goals (repeat' split) <;> simp_all

@[simp] theorem State.forgetReadout_frame (s : State) (x1 : LongOp) :
    (s.forgetReadout x1).pending = s.pending ∧ (s.forgetReadout x1).cyc = s.cyc ∧ (s.forgetReadout x1).hostMem =
      s.hostMem ∧ (s.forgetReadout x1).live = s.live ∧ (s.forgetReadout x1).whoa = s.whoa ∧ (s.forgetReadout
      x1).chip = s.chip ∧ (s.forgetReadout x1).tack = s.tack ∧ (s.forgetReadout x1).net = s.net ∧ (s.forgetReadout
      x1).tim = s.tim ∧ (s.forgetReadout x1).gnb = s.gnb ∧ (s.forgetReadout x1).gait = s.gait ∧ (s.forgetReadout
      x1).pad = s.pad ∧ (s.forgetReadout x1).fix = s.fix ∧ (s.forgetReadout x1).air = s.air ∧ (s.forgetReadout
      x1).byl = s.byl := by
  unfold State.forgetReadout
  try simp
  all_goals (repeat' split) <;> simp_all

@[simp] theorem State.runWaits_frame (s : State) (x1 : Nat) :
    (s.runWaits x1).pending = s.pending ∧ (s.runWaits x1).cyc = s.cyc ∧ (s.runWaits x1).hostMem = s.hostMem ∧
      (s.runWaits x1).live = s.live ∧ (s.runWaits x1).whoa = s.whoa ∧ (s.runWaits x1).chip = s.chip ∧ (s.runWaits
      x1).tack = s.tack ∧ (s.runWaits x1).recd = s.recd ∧ (s.runWaits x1).net = s.net ∧ (s.runWaits x1).tim = s.tim
      ∧ (s.runWaits x1).gnb = s.gnb ∧ (s.runWaits x1).gait = s.gait ∧ (s.runWaits x1).fix = s.fix ∧ (s.runWaits
      x1).air = s.air := by
  induction x1 generalizing s with
  | zero => simp [State.runWaits]
  | succ k ih => unfold State.runWaits; (repeat' split) <;> simp_all

@[simp] theorem State.freeLocks_frame (s : State) (x1 : Locker → Bool) :
    (s.freeLocks x1).pending = s.pending ∧ (s.freeLocks x1).cyc = s.cyc ∧ (s.freeLocks x1).hostMem = s.hostMem ∧
      (s.freeLocks x1).live = s.live ∧ (s.freeLocks x1).whoa = s.whoa ∧ (s.freeLocks x1).chip = s.chip ∧
      (s.freeLocks x1).tack = s.tack ∧ (s.freeLocks x1).recd = s.recd ∧ (s.freeLocks x1).net = s.net ∧ (s.freeLocks
      x1).tim = s.tim ∧ (s.freeLocks x1).gnb = s.gnb ∧ (s.freeLocks x1).gait = s.gait ∧ (s.freeLocks x1).fix = s.fix
      ∧ (s.freeLocks x1).air = s.air := by
  unfold State.freeLocks
  try simp
  all_goals (repeat' split) <;> simp_all

@[simp] theorem State.forgetExport_frame (s : State) (x1 : LongOp) :
    (s.forgetExport x1).pending = s.pending ∧ (s.forgetExport x1).cyc = s.cyc ∧ (s.forgetExport x1).hostMem =
      s.hostMem ∧ (s.forgetExport x1).live = s.live ∧ (s.forgetExport x1).whoa = s.whoa ∧ (s.forgetExport x1).chip =
      s.chip ∧ (s.forgetExport x1).tack = s.tack ∧ (s.forgetExport x1).recd = s.recd ∧ (s.forgetExport x1).net =
      s.net ∧ (s.forgetExport x1).tim = s.tim ∧ (s.forgetExport x1).gnb = s.gnb ∧ (s.forgetExport x1).gait = s.gait
      ∧ (s.forgetExport x1).fix = s.fix ∧ (s.forgetExport x1).air = s.air := by
  unfold State.forgetExport
  try simp
  all_goals (repeat' split) <;> simp_all

@[simp] theorem State.forgetImport_frame (s : State) (x1 : LongOp) :
    (s.forgetImport x1).pending = s.pending ∧ (s.forgetImport x1).cyc = s.cyc ∧ (s.forgetImport x1).hostMem =
      s.hostMem ∧ (s.forgetImport x1).live = s.live ∧ (s.forgetImport x1).whoa = s.whoa ∧ (s.forgetImport x1).chip =
      s.chip ∧ (s.forgetImport x1).tack = s.tack ∧ (s.forgetImport x1).recd = s.recd ∧ (s.forgetImport x1).net =
      s.net ∧ (s.forgetImport x1).tim = s.tim ∧ (s.forgetImport x1).gnb = s.gnb ∧ (s.forgetImport x1).gait = s.gait
      ∧ (s.forgetImport x1).fix = s.fix ∧ (s.forgetImport x1).air = s.air := by
  unfold State.forgetImport
  try simp
  all_goals (repeat' split) <;> simp_all

@[simp] theorem State.forgetSurvey_frame (s : State) (x1 : LongOp) :
    (s.forgetSurvey x1).pending = s.pending ∧ (s.forgetSurvey x1).cyc = s.cyc ∧ (s.forgetSurvey x1).hostMem =
      s.hostMem ∧ (s.forgetSurvey x1).live = s.live ∧ (s.forgetSurvey x1).whoa = s.whoa ∧ (s.forgetSurvey x1).chip =
      s.chip ∧ (s.forgetSurvey x1).tack = s.tack ∧ (s.forgetSurvey x1).recd = s.recd ∧ (s.forgetSurvey x1).net =
      s.net ∧ (s.forgetSurvey x1).tim = s.tim ∧ (s.forgetSurvey x1).gait = s.gait ∧ (s.forgetSurvey x1).pad = s.pad
      ∧ (s.forgetSurvey x1).fix = s.fix ∧ (s.forgetSurvey x1).air = s.air ∧ (s.forgetSurvey x1).byl = s.byl := by
  unfold State.forgetSurvey
  try simp
  all_goals (repeat' split) <;> simp_all

@[simp] theorem State.forgetReinit_frame (s : State) (x1 : LongOp) :
    (s.forgetReinit x1).pending = s.pending ∧ (s.forgetReinit x1).cyc = s.cyc ∧ (s.forgetReinit x1).hostMem =
      s.hostMem ∧ (s.forgetReinit x1).live = s.live ∧ (s.forgetReinit x1).whoa = s.whoa ∧ (s.forgetReinit x1).chip =
      s.chip ∧ (s.forgetReinit x1).tack = s.tack ∧ (s.forgetReinit x1).recd = s.recd ∧ (s.forgetReinit x1).net =
      s.net ∧ (s.forgetReinit x1).tim = s.tim ∧ (s.forgetReinit x1).gnb = s.gnb ∧ (s.forgetReinit x1).gait = s.gait
      ∧ (s.forgetReinit x1).pad = s.pad ∧ (s.forgetReinit x1).air = s.air ∧ (s.forgetReinit x1).byl = s.byl := by
  unfold State.forgetReinit
  try simp
  all_goals (repeat' split) <;> simp_all

@[simp] theorem State.forgetLong_frame (s : State) (x1 : LongOp) :
    (s.forgetLong x1).pending = s.pending ∧ (s.forgetLong x1).cyc = s.cyc ∧ (s.forgetLong x1).hostMem = s.hostMem ∧
      (s.forgetLong x1).live = s.live ∧ (s.forgetLong x1).whoa = s.whoa ∧ (s.forgetLong x1).net = s.net ∧
      (s.forgetLong x1).gait = s.gait ∧ (s.forgetLong x1).air = s.air := by
  unfold State.forgetLong
  try simp
  all_goals (repeat' split) <;> simp_all

@[simp] theorem State.afterSafePoint_frame (s : State) (x1 : LongOp) :
    (s.afterSafePoint x1).pending = s.pending ∧ (s.afterSafePoint x1).cyc = s.cyc ∧ (s.afterSafePoint x1).hostMem =
      s.hostMem ∧ (s.afterSafePoint x1).live = s.live ∧ (s.afterSafePoint x1).whoa = s.whoa ∧ (s.afterSafePoint
      x1).net = s.net ∧ (s.afterSafePoint x1).gait = s.gait ∧ (s.afterSafePoint x1).air = s.air := by
  unfold State.afterSafePoint
  try simp
  all_goals (repeat' split) <;> simp_all

@[simp] theorem State.setFixCtx_frame (s : State) (x1 : Nat) (x2 : FixCtx) :
    (s.setFixCtx x1 x2).pending = s.pending ∧ (s.setFixCtx x1 x2).cyc = s.cyc ∧ (s.setFixCtx x1 x2).hostMem =
      s.hostMem ∧ (s.setFixCtx x1 x2).live = s.live ∧ (s.setFixCtx x1 x2).whoa = s.whoa ∧ (s.setFixCtx x1 x2).chip =
      s.chip ∧ (s.setFixCtx x1 x2).tack = s.tack ∧ (s.setFixCtx x1 x2).recd = s.recd ∧ (s.setFixCtx x1 x2).net =
      s.net ∧ (s.setFixCtx x1 x2).tim = s.tim ∧ (s.setFixCtx x1 x2).gnb = s.gnb ∧ (s.setFixCtx x1 x2).gait = s.gait
      ∧ (s.setFixCtx x1 x2).pad = s.pad ∧ (s.setFixCtx x1 x2).air = s.air ∧ (s.setFixCtx x1 x2).byl = s.byl := by
  unfold State.setFixCtx
  try simp
  all_goals (repeat' split) <;> simp_all

@[simp] theorem State.writeHost_frame (s : State) (x1 : Nat) (x2 : List Sys2Proof.Byte) :
    (s.writeHost x1 x2).pending = s.pending ∧ (s.writeHost x1 x2).cyc = s.cyc ∧ (s.writeHost x1 x2).live = s.live ∧
      (s.writeHost x1 x2).whoa = s.whoa ∧ (s.writeHost x1 x2).chip = s.chip ∧ (s.writeHost x1 x2).tack = s.tack ∧
      (s.writeHost x1 x2).recd = s.recd ∧ (s.writeHost x1 x2).net = s.net ∧ (s.writeHost x1 x2).tim = s.tim ∧
      (s.writeHost x1 x2).gnb = s.gnb ∧ (s.writeHost x1 x2).gait = s.gait ∧ (s.writeHost x1 x2).pad = s.pad ∧
      (s.writeHost x1 x2).fix = s.fix ∧ (s.writeHost x1 x2).air = s.air ∧ (s.writeHost x1 x2).byl = s.byl := by
  unfold State.writeHost
  try simp
  all_goals (repeat' split) <;> simp_all

@[simp] theorem State.writeFix_frame (s : State) (x1 : FixRec) :
    (s.writeFix x1).pending = s.pending ∧ (s.writeFix x1).cyc = s.cyc ∧ (s.writeFix x1).live = s.live ∧ (s.writeFix
      x1).whoa = s.whoa ∧ (s.writeFix x1).chip = s.chip ∧ (s.writeFix x1).tack = s.tack ∧ (s.writeFix x1).recd =
      s.recd ∧ (s.writeFix x1).net = s.net ∧ (s.writeFix x1).tim = s.tim ∧ (s.writeFix x1).gnb = s.gnb ∧ (s.writeFix
      x1).gait = s.gait ∧ (s.writeFix x1).pad = s.pad ∧ (s.writeFix x1).air = s.air ∧ (s.writeFix x1).byl = s.byl := by
  unfold State.writeFix
  try simp
  all_goals (repeat' split) <;> simp_all

@[simp] theorem State.settleFixed_frame (s : State) (x1 : Nat) :
    (s.settleFixed x1).pending = s.pending ∧ (s.settleFixed x1).cyc = s.cyc ∧ (s.settleFixed x1).hostMem = s.hostMem
      ∧ (s.settleFixed x1).live = s.live ∧ (s.settleFixed x1).whoa = s.whoa ∧ (s.settleFixed x1).chip = s.chip ∧
      (s.settleFixed x1).tack = s.tack ∧ (s.settleFixed x1).recd = s.recd ∧ (s.settleFixed x1).net = s.net ∧
      (s.settleFixed x1).tim = s.tim ∧ (s.settleFixed x1).gnb = s.gnb ∧ (s.settleFixed x1).gait = s.gait ∧
      (s.settleFixed x1).pad = s.pad ∧ (s.settleFixed x1).air = s.air ∧ (s.settleFixed x1).byl = s.byl := by
  unfold State.settleFixed
  try simp
  all_goals (repeat' split) <;> simp_all

@[simp] theorem State.passOn_frame (s : State) (x1 : Item) (x2 : Stage) :
    (s.passOn x1 x2).pending = s.pending ∧ (s.passOn x1 x2).cyc = s.cyc ∧ (s.passOn x1 x2).hostMem = s.hostMem ∧
      (s.passOn x1 x2).live = s.live ∧ (s.passOn x1 x2).whoa = s.whoa ∧ (s.passOn x1 x2).chip = s.chip ∧ (s.passOn
      x1 x2).tack = s.tack ∧ (s.passOn x1 x2).recd = s.recd ∧ (s.passOn x1 x2).net = s.net ∧ (s.passOn x1 x2).tim =
      s.tim ∧ (s.passOn x1 x2).gnb = s.gnb ∧ (s.passOn x1 x2).gait = s.gait ∧ (s.passOn x1 x2).pad = s.pad ∧
      (s.passOn x1 x2).fix = s.fix ∧ (s.passOn x1 x2).air = s.air ∧ (s.passOn x1 x2).byl = s.byl := by
  unfold State.passOn
  try simp
  all_goals (repeat' split) <;> simp_all

@[simp] theorem State.finishSolve_frame (s : State) (x1 : Solving) :
    (s.finishSolve x1).pending = s.pending ∧ (s.finishSolve x1).cyc = s.cyc ∧ (s.finishSolve x1).live = s.live ∧
      (s.finishSolve x1).whoa = s.whoa ∧ (s.finishSolve x1).chip = s.chip ∧ (s.finishSolve x1).tack = s.tack ∧
      (s.finishSolve x1).recd = s.recd ∧ (s.finishSolve x1).net = s.net ∧ (s.finishSolve x1).tim = s.tim ∧
      (s.finishSolve x1).gnb = s.gnb ∧ (s.finishSolve x1).gait = s.gait ∧ (s.finishSolve x1).pad = s.pad ∧
      (s.finishSolve x1).air = s.air ∧ (s.finishSolve x1).byl = s.byl := by
  unfold State.finishSolve
  try simp
  all_goals (repeat' split) <;> simp_all

@[simp] theorem State.afterUpdate_frame (s : State) (x1 : Solving) (x2 : Bool) :
    (s.afterUpdate x1 x2).pending = s.pending ∧ (s.afterUpdate x1 x2).cyc = s.cyc ∧ (s.afterUpdate x1 x2).live =
      s.live ∧ (s.afterUpdate x1 x2).whoa = s.whoa ∧ (s.afterUpdate x1 x2).chip = s.chip ∧ (s.afterUpdate x1
      x2).tack = s.tack ∧ (s.afterUpdate x1 x2).recd = s.recd ∧ (s.afterUpdate x1 x2).net = s.net ∧ (s.afterUpdate
      x1 x2).tim = s.tim ∧ (s.afterUpdate x1 x2).gnb = s.gnb ∧ (s.afterUpdate x1 x2).gait = s.gait ∧ (s.afterUpdate
      x1 x2).pad = s.pad ∧ (s.afterUpdate x1 x2).air = s.air ∧ (s.afterUpdate x1 x2).byl = s.byl := by
  unfold State.afterUpdate
  try simp
  all_goals (repeat' split) <;> simp_all

@[simp] theorem State.airEvent_frame (s : State) (x1 : Nat) (x2 : Nat) (x3 : Nat) (x4 : Nat) :
    (s.airEvent x1 x2 x3 x4).pending = s.pending ∧ (s.airEvent x1 x2 x3 x4).cyc = s.cyc ∧ (s.airEvent x1 x2 x3
      x4).hostMem = s.hostMem ∧ (s.airEvent x1 x2 x3 x4).live = s.live ∧ (s.airEvent x1 x2 x3 x4).whoa = s.whoa ∧
      (s.airEvent x1 x2 x3 x4).chip = s.chip ∧ (s.airEvent x1 x2 x3 x4).tack = s.tack ∧ (s.airEvent x1 x2 x3
      x4).recd = s.recd ∧ (s.airEvent x1 x2 x3 x4).net = s.net ∧ (s.airEvent x1 x2 x3 x4).tim = s.tim ∧ (s.airEvent
      x1 x2 x3 x4).gnb = s.gnb ∧ (s.airEvent x1 x2 x3 x4).gait = s.gait ∧ (s.airEvent x1 x2 x3 x4).pad = s.pad ∧
      (s.airEvent x1 x2 x3 x4).fix = s.fix ∧ (s.airEvent x1 x2 x3 x4).air = s.air ∧ (s.airEvent x1 x2 x3 x4).byl =
      s.byl := by
  unfold State.airEvent
  try simp
  all_goals (repeat' split) <;> simp_all

@[simp] theorem State.airKeysLost_frame (s : State) :
    (s.airKeysLost).pending = s.pending ∧ (s.airKeysLost).cyc = s.cyc ∧ (s.airKeysLost).hostMem = s.hostMem ∧
      (s.airKeysLost).live = s.live ∧ (s.airKeysLost).whoa = s.whoa ∧ (s.airKeysLost).chip = s.chip ∧
      (s.airKeysLost).tack = s.tack ∧ (s.airKeysLost).recd = s.recd ∧ (s.airKeysLost).net = s.net ∧
      (s.airKeysLost).tim = s.tim ∧ (s.airKeysLost).gnb = s.gnb ∧ (s.airKeysLost).gait = s.gait ∧
      (s.airKeysLost).pad = s.pad ∧ (s.airKeysLost).fix = s.fix ∧ (s.airKeysLost).byl = s.byl := by
  unfold State.airKeysLost
  try simp
  all_goals (repeat' split) <;> simp_all

@[simp] theorem State.dropKey_frame (s : State) (x1 : AirKey) :
    (s.dropKey x1).pending = s.pending ∧ (s.dropKey x1).cyc = s.cyc ∧ (s.dropKey x1).hostMem = s.hostMem ∧
      (s.dropKey x1).live = s.live ∧ (s.dropKey x1).whoa = s.whoa ∧ (s.dropKey x1).chip = s.chip ∧ (s.dropKey
      x1).recd = s.recd ∧ (s.dropKey x1).net = s.net ∧ (s.dropKey x1).tim = s.tim ∧ (s.dropKey x1).gnb = s.gnb ∧
      (s.dropKey x1).gait = s.gait ∧ (s.dropKey x1).pad = s.pad ∧ (s.dropKey x1).fix = s.fix ∧ (s.dropKey x1).air =
      s.air ∧ (s.dropKey x1).byl = s.byl := by
  unfold State.dropKey
  try simp
  all_goals (repeat' split) <;> simp_all

@[simp] theorem State.dropKey?_frame (s : State) (x1 : Option AirKey) :
    (s.dropKey? x1).pending = s.pending ∧ (s.dropKey? x1).cyc = s.cyc ∧ (s.dropKey? x1).hostMem = s.hostMem ∧
      (s.dropKey? x1).live = s.live ∧ (s.dropKey? x1).whoa = s.whoa ∧ (s.dropKey? x1).chip = s.chip ∧ (s.dropKey?
      x1).recd = s.recd ∧ (s.dropKey? x1).net = s.net ∧ (s.dropKey? x1).tim = s.tim ∧ (s.dropKey? x1).gnb = s.gnb ∧
      (s.dropKey? x1).gait = s.gait ∧ (s.dropKey? x1).pad = s.pad ∧ (s.dropKey? x1).fix = s.fix ∧ (s.dropKey?
      x1).air = s.air ∧ (s.dropKey? x1).byl = s.byl := by
  unfold State.dropKey?
  try simp
  all_goals (repeat' split) <;> simp_all

@[simp] theorem State.owesRelay_frame (s : State) (x1 : Nat) :
    (s.owesRelay x1).pending = s.pending ∧ (s.owesRelay x1).cyc = s.cyc ∧ (s.owesRelay x1).hostMem = s.hostMem ∧
      (s.owesRelay x1).live = s.live ∧ (s.owesRelay x1).whoa = s.whoa ∧ (s.owesRelay x1).chip = s.chip ∧
      (s.owesRelay x1).tack = s.tack ∧ (s.owesRelay x1).recd = s.recd ∧ (s.owesRelay x1).net = s.net ∧ (s.owesRelay
      x1).tim = s.tim ∧ (s.owesRelay x1).gnb = s.gnb ∧ (s.owesRelay x1).gait = s.gait ∧ (s.owesRelay x1).pad = s.pad
      ∧ (s.owesRelay x1).fix = s.fix ∧ (s.owesRelay x1).byl = s.byl := by
  unfold State.owesRelay
  try simp
  all_goals (repeat' split) <;> simp_all

@[simp] theorem State.route_frame (s : State) (x1 : Nat) (x2 : Nat) :
    (s.route x1 x2).pending = s.pending ∧ (s.route x1 x2).cyc = s.cyc ∧ (s.route x1 x2).hostMem = s.hostMem ∧
      (s.route x1 x2).live = s.live ∧ (s.route x1 x2).whoa = s.whoa ∧ (s.route x1 x2).chip = s.chip ∧ (s.route x1
      x2).tack = s.tack ∧ (s.route x1 x2).recd = s.recd ∧ (s.route x1 x2).net = s.net ∧ (s.route x1 x2).tim = s.tim
      ∧ (s.route x1 x2).gnb = s.gnb ∧ (s.route x1 x2).gait = s.gait ∧ (s.route x1 x2).pad = s.pad ∧ (s.route x1
      x2).fix = s.fix ∧ (s.route x1 x2).byl = s.byl := by
  unfold State.route
  try simp
  all_goals (repeat' split) <;> simp_all

@[simp] theorem State.reportRoutes_frame (s : State) :
    (s.reportRoutes).pending = s.pending ∧ (s.reportRoutes).cyc = s.cyc ∧ (s.reportRoutes).hostMem = s.hostMem ∧
      (s.reportRoutes).live = s.live ∧ (s.reportRoutes).whoa = s.whoa ∧ (s.reportRoutes).chip = s.chip ∧
      (s.reportRoutes).tack = s.tack ∧ (s.reportRoutes).recd = s.recd ∧ (s.reportRoutes).net = s.net ∧
      (s.reportRoutes).tim = s.tim ∧ (s.reportRoutes).gnb = s.gnb ∧ (s.reportRoutes).gait = s.gait ∧
      (s.reportRoutes).pad = s.pad ∧ (s.reportRoutes).fix = s.fix ∧ (s.reportRoutes).air = s.air ∧
      (s.reportRoutes).byl = s.byl := by
  unfold State.reportRoutes
  try simp
  all_goals (repeat' split) <;> simp_all

@[simp] theorem State.setCtxState_frame (s : State) (x1 : Nat) (x2 : Nat) :
    (s.setCtxState x1 x2).pending = s.pending ∧ (s.setCtxState x1 x2).cyc = s.cyc ∧ (s.setCtxState x1 x2).hostMem =
      s.hostMem ∧ (s.setCtxState x1 x2).live = s.live ∧ (s.setCtxState x1 x2).whoa = s.whoa ∧ (s.setCtxState x1
      x2).chip = s.chip ∧ (s.setCtxState x1 x2).tack = s.tack ∧ (s.setCtxState x1 x2).recd = s.recd ∧ (s.setCtxState
      x1 x2).net = s.net ∧ (s.setCtxState x1 x2).tim = s.tim ∧ (s.setCtxState x1 x2).gnb = s.gnb ∧ (s.setCtxState x1
      x2).gait = s.gait ∧ (s.setCtxState x1 x2).pad = s.pad ∧ (s.setCtxState x1 x2).fix = s.fix ∧ (s.setCtxState x1
      x2).air = s.air := by
  unfold State.setCtxState
  try simp
  all_goals (repeat' split) <;> simp_all

@[simp] theorem State.padLeave_frame (s : State) (x1 : Nat) :
    (s.padLeave x1).pending = s.pending ∧ (s.padLeave x1).cyc = s.cyc ∧ (s.padLeave x1).hostMem = s.hostMem ∧
      (s.padLeave x1).live = s.live ∧ (s.padLeave x1).whoa = s.whoa ∧ (s.padLeave x1).chip = s.chip ∧ (s.padLeave
      x1).tack = s.tack ∧ (s.padLeave x1).recd = s.recd ∧ (s.padLeave x1).net = s.net ∧ (s.padLeave x1).tim = s.tim
      ∧ (s.padLeave x1).gnb = s.gnb ∧ (s.padLeave x1).gait = s.gait ∧ (s.padLeave x1).fix = s.fix ∧ (s.padLeave
      x1).air = s.air := by
  unfold State.padLeave
  try simp
  all_goals (repeat' split) <;> simp_all

@[simp] theorem State.setGaitCtx_frame (s : State) (x1 : Nat) (x2 : GaitCtx) :
    (s.setGaitCtx x1 x2).pending = s.pending ∧ (s.setGaitCtx x1 x2).cyc = s.cyc ∧ (s.setGaitCtx x1 x2).hostMem =
      s.hostMem ∧ (s.setGaitCtx x1 x2).live = s.live ∧ (s.setGaitCtx x1 x2).whoa = s.whoa ∧ (s.setGaitCtx x1
      x2).chip = s.chip ∧ (s.setGaitCtx x1 x2).tack = s.tack ∧ (s.setGaitCtx x1 x2).recd = s.recd ∧ (s.setGaitCtx x1
      x2).net = s.net ∧ (s.setGaitCtx x1 x2).tim = s.tim ∧ (s.setGaitCtx x1 x2).gnb = s.gnb ∧ (s.setGaitCtx x1
      x2).pad = s.pad ∧ (s.setGaitCtx x1 x2).fix = s.fix ∧ (s.setGaitCtx x1 x2).air = s.air ∧ (s.setGaitCtx x1
      x2).byl = s.byl := by
  unfold State.setGaitCtx
  try simp
  all_goals (repeat' split) <;> simp_all

@[simp] theorem State.endDatum_frame (s : State) (x1 : Nat) (x2 : Status) (x3 : Nat) (x4 : Nat) :
    (s.endDatum x1 x2 x3 x4).pending = s.pending ∧ (s.endDatum x1 x2 x3 x4).cyc = s.cyc ∧ (s.endDatum x1 x2 x3
      x4).hostMem = s.hostMem ∧ (s.endDatum x1 x2 x3 x4).live = s.live ∧ (s.endDatum x1 x2 x3 x4).whoa = s.whoa ∧
      (s.endDatum x1 x2 x3 x4).chip = s.chip ∧ (s.endDatum x1 x2 x3 x4).tack = s.tack ∧ (s.endDatum x1 x2 x3
      x4).recd = s.recd ∧ (s.endDatum x1 x2 x3 x4).net = s.net ∧ (s.endDatum x1 x2 x3 x4).tim = s.tim ∧ (s.endDatum
      x1 x2 x3 x4).gnb = s.gnb ∧ (s.endDatum x1 x2 x3 x4).pad = s.pad ∧ (s.endDatum x1 x2 x3 x4).fix = s.fix ∧
      (s.endDatum x1 x2 x3 x4).air = s.air ∧ (s.endDatum x1 x2 x3 x4).byl = s.byl := by
  unfold State.endDatum
  try simp
  all_goals (repeat' split) <;> simp_all

@[simp] theorem State.gaitLeave_frame (s : State) (x1 : Nat) :
    (s.gaitLeave x1).pending = s.pending ∧ (s.gaitLeave x1).cyc = s.cyc ∧ (s.gaitLeave x1).hostMem = s.hostMem ∧
      (s.gaitLeave x1).live = s.live ∧ (s.gaitLeave x1).whoa = s.whoa ∧ (s.gaitLeave x1).chip = s.chip ∧
      (s.gaitLeave x1).tack = s.tack ∧ (s.gaitLeave x1).recd = s.recd ∧ (s.gaitLeave x1).net = s.net ∧ (s.gaitLeave
      x1).tim = s.tim ∧ (s.gaitLeave x1).gnb = s.gnb ∧ (s.gaitLeave x1).pad = s.pad ∧ (s.gaitLeave x1).fix = s.fix ∧
      (s.gaitLeave x1).air = s.air ∧ (s.gaitLeave x1).byl = s.byl := by
  unfold State.gaitLeave
  try simp
  all_goals (repeat' split) <;> simp_all

@[simp] theorem State.fixClear_frame (s : State) (x1 : Nat) :
    (s.fixClear x1).pending = s.pending ∧ (s.fixClear x1).cyc = s.cyc ∧ (s.fixClear x1).hostMem = s.hostMem ∧
      (s.fixClear x1).live = s.live ∧ (s.fixClear x1).whoa = s.whoa ∧ (s.fixClear x1).chip = s.chip ∧ (s.fixClear
      x1).tack = s.tack ∧ (s.fixClear x1).recd = s.recd ∧ (s.fixClear x1).net = s.net ∧ (s.fixClear x1).tim = s.tim
      ∧ (s.fixClear x1).gnb = s.gnb ∧ (s.fixClear x1).gait = s.gait ∧ (s.fixClear x1).pad = s.pad ∧ (s.fixClear
      x1).air = s.air ∧ (s.fixClear x1).byl = s.byl := by
  unfold State.fixClear
  try simp
  all_goals (repeat' split) <;> simp_all

@[simp] theorem State.reportOverload_frame (s : State) :
    (s.reportOverload).pending = s.pending ∧ (s.reportOverload).cyc = s.cyc ∧ (s.reportOverload).hostMem = s.hostMem
      ∧ (s.reportOverload).live = s.live ∧ (s.reportOverload).whoa = s.whoa ∧ (s.reportOverload).chip = s.chip ∧
      (s.reportOverload).tack = s.tack ∧ (s.reportOverload).recd = s.recd ∧ (s.reportOverload).net = s.net ∧
      (s.reportOverload).tim = s.tim ∧ (s.reportOverload).gnb = s.gnb ∧ (s.reportOverload).gait = s.gait ∧
      (s.reportOverload).pad = s.pad ∧ (s.reportOverload).fix = s.fix ∧ (s.reportOverload).air = s.air ∧
      (s.reportOverload).byl = s.byl := by
  unfold State.reportOverload
  try simp
  all_goals (repeat' split) <;> simp_all

@[simp] theorem State.airLeave_frame (s : State) (x1 : Nat) (x2 : Nat) (x3 : Bool) :
    (s.airLeave x1 x2 x3).pending = s.pending ∧ (s.airLeave x1 x2 x3).cyc = s.cyc ∧ (s.airLeave x1 x2 x3).hostMem =
      s.hostMem ∧ (s.airLeave x1 x2 x3).live = s.live ∧ (s.airLeave x1 x2 x3).whoa = s.whoa ∧ (s.airLeave x1 x2
      x3).chip = s.chip ∧ (s.airLeave x1 x2 x3).recd = s.recd ∧ (s.airLeave x1 x2 x3).net = s.net ∧ (s.airLeave x1
      x2 x3).tim = s.tim ∧ (s.airLeave x1 x2 x3).gnb = s.gnb := by
  unfold State.airLeave
  try simp
  all_goals (repeat' split) <;> simp_all

@[simp] theorem State.airReset_frame (s : State) :
    (s.airReset).pending = s.pending ∧ (s.airReset).cyc = s.cyc ∧ (s.airReset).hostMem = s.hostMem ∧
      (s.airReset).live = s.live ∧ (s.airReset).whoa = s.whoa ∧ (s.airReset).chip = s.chip ∧ (s.airReset).tack =
      s.tack ∧ (s.airReset).recd = s.recd ∧ (s.airReset).net = s.net ∧ (s.airReset).tim = s.tim ∧ (s.airReset).gnb =
      s.gnb ∧ (s.airReset).gait = s.gait ∧ (s.airReset).pad = s.pad ∧ (s.airReset).fix = s.fix ∧ (s.airReset).byl =
      s.byl := by
  unfold State.airReset
  try simp
  all_goals (repeat' split) <;> simp_all

@[simp] theorem State.seeSent_frame (s : State) (x1 : AirOut) :
    (s.seeSent x1).pending = s.pending ∧ (s.seeSent x1).cyc = s.cyc ∧ (s.seeSent x1).hostMem = s.hostMem ∧
      (s.seeSent x1).live = s.live ∧ (s.seeSent x1).whoa = s.whoa ∧ (s.seeSent x1).chip = s.chip ∧ (s.seeSent
      x1).tack = s.tack ∧ (s.seeSent x1).net = s.net ∧ (s.seeSent x1).tim = s.tim ∧ (s.seeSent x1).gnb = s.gnb ∧
      (s.seeSent x1).gait = s.gait ∧ (s.seeSent x1).pad = s.pad ∧ (s.seeSent x1).fix = s.fix ∧ (s.seeSent x1).air =
      s.air ∧ (s.seeSent x1).byl = s.byl := by
  unfold State.seeSent
  try simp
  all_goals (repeat' split) <;> simp_all

@[simp] theorem State.airSent_frame (s : State) (x1 : List AirOut) :
    (s.airSent x1).pending = s.pending ∧ (s.airSent x1).cyc = s.cyc ∧ (s.airSent x1).hostMem = s.hostMem ∧
      (s.airSent x1).live = s.live ∧ (s.airSent x1).whoa = s.whoa ∧ (s.airSent x1).chip = s.chip ∧ (s.airSent
      x1).tack = s.tack ∧ (s.airSent x1).net = s.net ∧ (s.airSent x1).tim = s.tim ∧ (s.airSent x1).gnb = s.gnb ∧
      (s.airSent x1).gait = s.gait ∧ (s.airSent x1).pad = s.pad ∧ (s.airSent x1).fix = s.fix ∧ (s.airSent x1).byl =
      s.byl := by
  unfold State.airSent
  try simp
  all_goals (repeat' split) <;> simp_all

@[simp] theorem State.alsoFails_frame (s : State) (x1 : Nat) (x2 : Nat) (x3 : Nat) (x4 : Status) :
    (s.alsoFails x1 x2 x3 x4).pending = s.pending ∧ (s.alsoFails x1 x2 x3 x4).cyc = s.cyc ∧ (s.alsoFails x1 x2 x3
      x4).hostMem = s.hostMem ∧ (s.alsoFails x1 x2 x3 x4).live = s.live ∧ (s.alsoFails x1 x2 x3 x4).whoa = s.whoa ∧
      (s.alsoFails x1 x2 x3 x4).chip = s.chip ∧ (s.alsoFails x1 x2 x3 x4).tack = s.tack ∧ (s.alsoFails x1 x2 x3
      x4).recd = s.recd ∧ (s.alsoFails x1 x2 x3 x4).net = s.net ∧ (s.alsoFails x1 x2 x3 x4).tim = s.tim ∧
      (s.alsoFails x1 x2 x3 x4).gnb = s.gnb ∧ (s.alsoFails x1 x2 x3 x4).gait = s.gait ∧ (s.alsoFails x1 x2 x3
      x4).pad = s.pad ∧ (s.alsoFails x1 x2 x3 x4).fix = s.fix ∧ (s.alsoFails x1 x2 x3 x4).air = s.air ∧ (s.alsoFails
      x1 x2 x3 x4).byl = s.byl := by
  unfold State.alsoFails
  try simp
  all_goals (repeat' split) <;> simp_all

@[simp] theorem State.announce_frame (s : State) (x1 : Item) (x2 : Schedule) :
    (s.announce x1 x2).pending = s.pending ∧ (s.announce x1 x2).cyc = s.cyc ∧ (s.announce x1 x2).hostMem = s.hostMem
      ∧ (s.announce x1 x2).live = s.live ∧ (s.announce x1 x2).whoa = s.whoa ∧ (s.announce x1 x2).chip = s.chip ∧
      (s.announce x1 x2).tack = s.tack ∧ (s.announce x1 x2).recd = s.recd ∧ (s.announce x1 x2).net = s.net ∧
      (s.announce x1 x2).tim = s.tim ∧ (s.announce x1 x2).gnb = s.gnb ∧ (s.announce x1 x2).gait = s.gait ∧
      (s.announce x1 x2).pad = s.pad ∧ (s.announce x1 x2).fix = s.fix := by
  simp only [State.announce]
  (repeat' split) <;> simp

@[simp] theorem State.lateAt_frame (s : State) (x1 : Nat) :
    (s.lateAt x1).pending = s.pending ∧ (s.lateAt x1).cyc = s.cyc ∧ (s.lateAt x1).hostMem = s.hostMem ∧ (s.lateAt
      x1).live = s.live ∧ (s.lateAt x1).whoa = s.whoa ∧ (s.lateAt x1).chip = s.chip ∧ (s.lateAt x1).tack = s.tack ∧
      (s.lateAt x1).recd = s.recd ∧ (s.lateAt x1).net = s.net ∧ (s.lateAt x1).tim = s.tim ∧ (s.lateAt x1).gnb =
      s.gnb ∧ (s.lateAt x1).gait = s.gait ∧ (s.lateAt x1).pad = s.pad ∧ (s.lateAt x1).fix = s.fix ∧ (s.lateAt
      x1).air = s.air ∧ (s.lateAt x1).byl = s.byl := by
  unfold State.lateAt
  try simp
  all_goals (repeat' split) <;> simp_all

@[simp] theorem State.countBy_frame (s : State) (x1 : Nat) (x2 : Nat) :
    (s.countBy x1 x2).pending = s.pending ∧ (s.countBy x1 x2).cyc = s.cyc ∧ (s.countBy x1 x2).hostMem = s.hostMem ∧
      (s.countBy x1 x2).live = s.live ∧ (s.countBy x1 x2).whoa = s.whoa ∧ (s.countBy x1 x2).chip = s.chip ∧
      (s.countBy x1 x2).tack = s.tack ∧ (s.countBy x1 x2).recd = s.recd ∧ (s.countBy x1 x2).net = s.net ∧ (s.countBy
      x1 x2).tim = s.tim ∧ (s.countBy x1 x2).gnb = s.gnb ∧ (s.countBy x1 x2).gait = s.gait ∧ (s.countBy x1 x2).pad =
      s.pad ∧ (s.countBy x1 x2).fix = s.fix ∧ (s.countBy x1 x2).air = s.air ∧ (s.countBy x1 x2).byl = s.byl := by
  unfold State.countBy
  try simp
  all_goals (repeat' split) <;> simp_all

@[simp] theorem State.groomTile_frame (s : State) (x1 : Nat) :
    (s.groomTile x1).pending = s.pending ∧ (s.groomTile x1).cyc = s.cyc ∧ (s.groomTile x1).hostMem = s.hostMem ∧
      (s.groomTile x1).live = s.live ∧ (s.groomTile x1).whoa = s.whoa ∧ (s.groomTile x1).chip = s.chip ∧
      (s.groomTile x1).tack = s.tack ∧ (s.groomTile x1).recd = s.recd ∧ (s.groomTile x1).net = s.net ∧ (s.groomTile
      x1).tim = s.tim ∧ (s.groomTile x1).gnb = s.gnb ∧ (s.groomTile x1).gait = s.gait ∧ (s.groomTile x1).fix = s.fix
      ∧ (s.groomTile x1).air = s.air ∧ (s.groomTile x1).byl = s.byl := by
  unfold State.groomTile
  try simp
  all_goals (repeat' split) <;> simp_all

@[simp] theorem State.groomAged_frame (s : State) (x1 : Nat) :
    (s.groomAged x1).pending = s.pending ∧ (s.groomAged x1).cyc = s.cyc ∧ (s.groomAged x1).hostMem = s.hostMem ∧
      (s.groomAged x1).live = s.live ∧ (s.groomAged x1).whoa = s.whoa ∧ (s.groomAged x1).chip = s.chip ∧
      (s.groomAged x1).tack = s.tack ∧ (s.groomAged x1).recd = s.recd ∧ (s.groomAged x1).net = s.net ∧ (s.groomAged
      x1).tim = s.tim ∧ (s.groomAged x1).gnb = s.gnb ∧ (s.groomAged x1).gait = s.gait ∧ (s.groomAged x1).fix = s.fix
      ∧ (s.groomAged x1).air = s.air ∧ (s.groomAged x1).byl = s.byl := by
  unfold State.groomAged
  try simp
  all_goals (repeat' split) <;> simp_all

@[simp] theorem State.guesses_frame (s : State) (x1 : PadGeom) (x2 : Shape) (x3 : Nat) (x4 : List SweepReq) :
    (s.guesses x1 x2 x3 x4).1.pending = s.pending ∧ (s.guesses x1 x2 x3 x4).1.cyc = s.cyc ∧ (s.guesses x1 x2 x3
      x4).1.hostMem = s.hostMem ∧ (s.guesses x1 x2 x3 x4).1.live = s.live ∧ (s.guesses x1 x2 x3 x4).1.whoa = s.whoa
      ∧ (s.guesses x1 x2 x3 x4).1.chip = s.chip ∧ (s.guesses x1 x2 x3 x4).1.tack = s.tack ∧ (s.guesses x1 x2 x3
      x4).1.recd = s.recd ∧ (s.guesses x1 x2 x3 x4).1.net = s.net ∧ (s.guesses x1 x2 x3 x4).1.tim = s.tim ∧
      (s.guesses x1 x2 x3 x4).1.gnb = s.gnb ∧ (s.guesses x1 x2 x3 x4).1.gait = s.gait ∧ (s.guesses x1 x2 x3
      x4).1.fix = s.fix ∧ (s.guesses x1 x2 x3 x4).1.air = s.air ∧ (s.guesses x1 x2 x3 x4).1.byl = s.byl := by
  induction x4 generalizing s with
  | nil => simp [State.guesses]
  | cons a r ih => simp [State.guesses, ih]

@[simp] theorem State.answerGuesses_frame (s : State) (x1 : Item) (x2 : PadGeom) (x3 : Shape) (x4 : List SweepReq) :
    (s.answerGuesses x1 x2 x3 x4).pending = s.pending ∧ (s.answerGuesses x1 x2 x3 x4).cyc = s.cyc ∧ (s.answerGuesses
      x1 x2 x3 x4).live = s.live ∧ (s.answerGuesses x1 x2 x3 x4).whoa = s.whoa ∧ (s.answerGuesses x1 x2 x3 x4).chip
      = s.chip ∧ (s.answerGuesses x1 x2 x3 x4).tack = s.tack ∧ (s.answerGuesses x1 x2 x3 x4).recd = s.recd ∧
      (s.answerGuesses x1 x2 x3 x4).net = s.net ∧ (s.answerGuesses x1 x2 x3 x4).tim = s.tim ∧ (s.answerGuesses x1 x2
      x3 x4).gnb = s.gnb ∧ (s.answerGuesses x1 x2 x3 x4).gait = s.gait ∧ (s.answerGuesses x1 x2 x3 x4).fix = s.fix ∧
      (s.answerGuesses x1 x2 x3 x4).air = s.air ∧ (s.answerGuesses x1 x2 x3 x4).byl = s.byl := by
  unfold State.answerGuesses
  try simp
  all_goals (repeat' split) <;> simp_all

@[simp] theorem State.answerWord_frame (s : State) (x1 : Requester) (x2 : Nat) :
    (s.answerWord x1 x2).pending = s.pending ∧ (s.answerWord x1 x2).cyc = s.cyc ∧ (s.answerWord x1 x2).hostMem =
      s.hostMem ∧ (s.answerWord x1 x2).live = s.live ∧ (s.answerWord x1 x2).whoa = s.whoa ∧ (s.answerWord x1
      x2).chip = s.chip ∧ (s.answerWord x1 x2).tack = s.tack ∧ (s.answerWord x1 x2).recd = s.recd ∧ (s.answerWord x1
      x2).net = s.net ∧ (s.answerWord x1 x2).tim = s.tim ∧ (s.answerWord x1 x2).gnb = s.gnb ∧ (s.answerWord x1
      x2).gait = s.gait ∧ (s.answerWord x1 x2).pad = s.pad ∧ (s.answerWord x1 x2).fix = s.fix ∧ (s.answerWord x1
      x2).air = s.air ∧ (s.answerWord x1 x2).byl = s.byl := by
  unfold State.answerWord
  try simp
  all_goals (repeat' split) <;> simp_all

@[simp] theorem State.freeEvent_frame (s : State) (x1 : Option PolicyFn) (x2 : Nat) :
    (s.freeEvent x1 x2).pending = s.pending ∧ (s.freeEvent x1 x2).cyc = s.cyc ∧ (s.freeEvent x1 x2).hostMem =
      s.hostMem ∧ (s.freeEvent x1 x2).live = s.live ∧ (s.freeEvent x1 x2).whoa = s.whoa ∧ (s.freeEvent x1 x2).chip =
      s.chip ∧ (s.freeEvent x1 x2).tack = s.tack ∧ (s.freeEvent x1 x2).recd = s.recd ∧ (s.freeEvent x1 x2).net =
      s.net ∧ (s.freeEvent x1 x2).tim = s.tim ∧ (s.freeEvent x1 x2).gnb = s.gnb ∧ (s.freeEvent x1 x2).gait = s.gait
      ∧ (s.freeEvent x1 x2).pad = s.pad ∧ (s.freeEvent x1 x2).fix = s.fix ∧ (s.freeEvent x1 x2).air = s.air ∧
      (s.freeEvent x1 x2).byl = s.byl := by
  unfold State.freeEvent
  try simp
  all_goals (repeat' split) <;> simp_all

@[simp] theorem State.gnbEvent_frame (s : State) :
    (s.gnbEvent).pending = s.pending ∧ (s.gnbEvent).cyc = s.cyc ∧ (s.gnbEvent).hostMem = s.hostMem ∧
      (s.gnbEvent).live = s.live ∧ (s.gnbEvent).whoa = s.whoa ∧ (s.gnbEvent).chip = s.chip ∧ (s.gnbEvent).tack =
      s.tack ∧ (s.gnbEvent).recd = s.recd ∧ (s.gnbEvent).net = s.net ∧ (s.gnbEvent).tim = s.tim ∧ (s.gnbEvent).gnb =
      s.gnb ∧ (s.gnbEvent).gait = s.gait ∧ (s.gnbEvent).pad = s.pad ∧ (s.gnbEvent).fix = s.fix ∧ (s.gnbEvent).air =
      s.air ∧ (s.gnbEvent).byl = s.byl := by
  unfold State.gnbEvent
  try simp
  all_goals (repeat' split) <;> simp_all

@[simp] theorem State.antEffect_frame (s : State) (x1 : Nat) :
    (s.antEffect x1).pending = s.pending ∧ (s.antEffect x1).cyc = s.cyc ∧ (s.antEffect x1).hostMem = s.hostMem ∧
      (s.antEffect x1).live = s.live ∧ (s.antEffect x1).whoa = s.whoa ∧ (s.antEffect x1).chip = s.chip ∧
      (s.antEffect x1).tack = s.tack ∧ (s.antEffect x1).recd = s.recd ∧ (s.antEffect x1).net = s.net ∧ (s.antEffect
      x1).tim = s.tim ∧ (s.antEffect x1).gait = s.gait ∧ (s.antEffect x1).pad = s.pad ∧ (s.antEffect x1).fix = s.fix
      ∧ (s.antEffect x1).air = s.air ∧ (s.antEffect x1).byl = s.byl := by
  unfold State.antEffect
  try simp
  all_goals (repeat' split) <;> simp_all

@[simp] theorem State.setLive_frame (s : State) (x1 : Nat) (x2 : Sys2Proof.Word) :
    (s.setLive x1 x2).pending = s.pending ∧ (s.setLive x1 x2).cyc = s.cyc ∧ (s.setLive x1 x2).hostMem = s.hostMem ∧
      (s.setLive x1 x2).whoa = s.whoa ∧ (s.setLive x1 x2).chip = s.chip ∧ (s.setLive x1 x2).tack = s.tack ∧
      (s.setLive x1 x2).recd = s.recd ∧ (s.setLive x1 x2).net = s.net ∧ (s.setLive x1 x2).tim = s.tim ∧ (s.setLive
      x1 x2).gnb = s.gnb ∧ (s.setLive x1 x2).gait = s.gait ∧ (s.setLive x1 x2).pad = s.pad ∧ (s.setLive x1 x2).fix =
      s.fix ∧ (s.setLive x1 x2).air = s.air ∧ (s.setLive x1 x2).byl = s.byl := by
  unfold State.setLive
  try simp
  all_goals (repeat' split) <;> simp_all

@[simp] theorem State.latchOrigin_frame (s : State) :
    (s.latchOrigin).pending = s.pending ∧ (s.latchOrigin).cyc = s.cyc ∧ (s.latchOrigin).hostMem = s.hostMem ∧
      (s.latchOrigin).live = s.live ∧ (s.latchOrigin).whoa = s.whoa ∧ (s.latchOrigin).chip = s.chip ∧
      (s.latchOrigin).tack = s.tack ∧ (s.latchOrigin).recd = s.recd ∧ (s.latchOrigin).net = s.net ∧
      (s.latchOrigin).tim = s.tim ∧ (s.latchOrigin).gnb = s.gnb ∧ (s.latchOrigin).gait = s.gait ∧
      (s.latchOrigin).pad = s.pad ∧ (s.latchOrigin).fix = s.fix ∧ (s.latchOrigin).air = s.air ∧ (s.latchOrigin).byl
      = s.byl := by
  unfold State.latchOrigin
  try simp
  all_goals (repeat' split) <;> simp_all

@[simp] theorem State.applyBlock_frame (s : State) (x1 : ParamBlock) :
    (s.applyBlock x1).pending = s.pending ∧ (s.applyBlock x1).cyc = s.cyc ∧ (s.applyBlock x1).hostMem = s.hostMem ∧
      (s.applyBlock x1).whoa = s.whoa ∧ (s.applyBlock x1).chip = s.chip ∧ (s.applyBlock x1).tack = s.tack ∧
      (s.applyBlock x1).recd = s.recd ∧ (s.applyBlock x1).net = s.net ∧ (s.applyBlock x1).tim = s.tim ∧
      (s.applyBlock x1).gnb = s.gnb ∧ (s.applyBlock x1).gait = s.gait ∧ (s.applyBlock x1).pad = s.pad ∧
      (s.applyBlock x1).fix = s.fix ∧ (s.applyBlock x1).air = s.air := by
  unfold State.applyBlock
  try simp
  all_goals (repeat' split) <;> simp_all

@[simp] theorem State.reportHeads_frame (s : State) :
    (s.reportHeads).pending = s.pending ∧ (s.reportHeads).cyc = s.cyc ∧ (s.reportHeads).hostMem = s.hostMem ∧
      (s.reportHeads).live = s.live ∧ (s.reportHeads).whoa = s.whoa ∧ (s.reportHeads).chip = s.chip ∧
      (s.reportHeads).tack = s.tack ∧ (s.reportHeads).recd = s.recd ∧ (s.reportHeads).net = s.net ∧
      (s.reportHeads).tim = s.tim ∧ (s.reportHeads).gnb = s.gnb ∧ (s.reportHeads).gait = s.gait ∧
      (s.reportHeads).pad = s.pad ∧ (s.reportHeads).fix = s.fix ∧ (s.reportHeads).air = s.air ∧ (s.reportHeads).byl
      = s.byl := by
  unfold State.reportHeads
  refine ⟨?_, ?_, ?_, ?_, ?_, ?_, ?_, ?_, ?_, ?_, ?_, ?_, ?_, ?_, ?_, ?_⟩
  · refine (foldl_pending _ _ _ (fun b x r h => ?_)).trans ?_ <;> (try subst h) <;> ((repeat' split) <;> simp)
  · refine (foldl_cyc _ _ _ (fun b x r h => ?_)).trans ?_ <;> (try subst h) <;> ((repeat' split) <;> simp)
  · refine (foldl_hostMem _ _ _ (fun b x r h => ?_)).trans ?_ <;> (try subst h) <;> ((repeat' split) <;> simp)
  · refine (foldl_live _ _ _ (fun b x r h => ?_)).trans ?_ <;> (try subst h) <;> ((repeat' split) <;> simp)
  · refine (foldl_whoa _ _ _ (fun b x r h => ?_)).trans ?_ <;> (try subst h) <;> ((repeat' split) <;> simp)
  · refine (foldl_chip _ _ _ (fun b x r h => ?_)).trans ?_ <;> (try subst h) <;> ((repeat' split) <;> simp)
  · refine (foldl_tack _ _ _ (fun b x r h => ?_)).trans ?_ <;> (try subst h) <;> ((repeat' split) <;> simp)
  · refine (foldl_recd _ _ _ (fun b x r h => ?_)).trans ?_ <;> (try subst h) <;> ((repeat' split) <;> simp)
  · refine (foldl_net _ _ _ (fun b x r h => ?_)).trans ?_ <;> (try subst h) <;> ((repeat' split) <;> simp)
  · refine (foldl_tim _ _ _ (fun b x r h => ?_)).trans ?_ <;> (try subst h) <;> ((repeat' split) <;> simp)
  · refine (foldl_gnb _ _ _ (fun b x r h => ?_)).trans ?_ <;> (try subst h) <;> ((repeat' split) <;> simp)
  · refine (foldl_gait _ _ _ (fun b x r h => ?_)).trans ?_ <;> (try subst h) <;> ((repeat' split) <;> simp)
  · refine (foldl_pad _ _ _ (fun b x r h => ?_)).trans ?_ <;> (try subst h) <;> ((repeat' split) <;> simp)
  · refine (foldl_fix _ _ _ (fun b x r h => ?_)).trans ?_ <;> (try subst h) <;> ((repeat' split) <;> simp)
  · refine (foldl_air _ _ _ (fun b x r h => ?_)).trans ?_ <;> (try subst h) <;> ((repeat' split) <;> simp)
  · refine (foldl_byl _ _ _ (fun b x r h => ?_)).trans ?_ <;> (try subst h) <;> ((repeat' split) <;> simp)

@[simp] theorem State.stageRef_frame (s : State) (x1 : Int) (x2 : Int) (x3 : Int) :
    (s.stageRef x1 x2 x3).pending = s.pending ∧ (s.stageRef x1 x2 x3).cyc = s.cyc ∧ (s.stageRef x1 x2 x3).hostMem =
      s.hostMem ∧ (s.stageRef x1 x2 x3).live = s.live ∧ (s.stageRef x1 x2 x3).whoa = s.whoa ∧ (s.stageRef x1 x2
      x3).chip = s.chip ∧ (s.stageRef x1 x2 x3).tack = s.tack ∧ (s.stageRef x1 x2 x3).recd = s.recd ∧ (s.stageRef x1
      x2 x3).net = s.net ∧ (s.stageRef x1 x2 x3).tim = s.tim ∧ (s.stageRef x1 x2 x3).gait = s.gait ∧ (s.stageRef x1
      x2 x3).pad = s.pad ∧ (s.stageRef x1 x2 x3).fix = s.fix ∧ (s.stageRef x1 x2 x3).air = s.air ∧ (s.stageRef x1 x2
      x3).byl = s.byl := by
  unfold State.stageRef
  try simp
  all_goals (repeat' split) <;> simp_all

@[simp] theorem State.applyConfig_frame (s : State) (x1 : ConfigMirror) :
    (s.applyConfig x1).pending = s.pending ∧ (s.applyConfig x1).cyc = s.cyc ∧ (s.applyConfig x1).hostMem = s.hostMem
      ∧ (s.applyConfig x1).whoa = s.whoa ∧ (s.applyConfig x1).chip = s.chip ∧ (s.applyConfig x1).tack = s.tack ∧
      (s.applyConfig x1).recd = s.recd ∧ (s.applyConfig x1).net = s.net ∧ (s.applyConfig x1).tim = s.tim ∧
      (s.applyConfig x1).gait = s.gait ∧ (s.applyConfig x1).pad = s.pad := by
  unfold State.applyConfig
  try simp
  all_goals (repeat' split) <;> simp_all

@[simp] theorem State.applyGait_frame (s : State) (x1 : Nat) (x2 : GaitMirror) :
    (s.applyGait x1 x2).pending = s.pending ∧ (s.applyGait x1 x2).cyc = s.cyc ∧ (s.applyGait x1 x2).hostMem =
      s.hostMem ∧ (s.applyGait x1 x2).live = s.live ∧ (s.applyGait x1 x2).whoa = s.whoa ∧ (s.applyGait x1 x2).chip =
      s.chip ∧ (s.applyGait x1 x2).tack = s.tack ∧ (s.applyGait x1 x2).recd = s.recd ∧ (s.applyGait x1 x2).net =
      s.net ∧ (s.applyGait x1 x2).tim = s.tim ∧ (s.applyGait x1 x2).gnb = s.gnb ∧ (s.applyGait x1 x2).pad = s.pad ∧
      (s.applyGait x1 x2).fix = s.fix ∧ (s.applyGait x1 x2).byl = s.byl := by
  unfold State.applyGait
  try simp
  all_goals (repeat' split) <;> simp_all

@[simp] theorem State.ringEvent_frame (s : State) (x1 : Nat) (x2 : Bits) :
    (s.ringEvent x1 x2).pending = s.pending ∧ (s.ringEvent x1 x2).cyc = s.cyc ∧ (s.ringEvent x1 x2).hostMem =
      s.hostMem ∧ (s.ringEvent x1 x2).live = s.live ∧ (s.ringEvent x1 x2).whoa = s.whoa ∧ (s.ringEvent x1 x2).chip =
      s.chip ∧ (s.ringEvent x1 x2).tack = s.tack ∧ (s.ringEvent x1 x2).recd = s.recd ∧ (s.ringEvent x1 x2).net =
      s.net ∧ (s.ringEvent x1 x2).tim = s.tim ∧ (s.ringEvent x1 x2).gnb = s.gnb ∧ (s.ringEvent x1 x2).gait = s.gait
      ∧ (s.ringEvent x1 x2).pad = s.pad ∧ (s.ringEvent x1 x2).fix = s.fix ∧ (s.ringEvent x1 x2).air = s.air ∧
      (s.ringEvent x1 x2).byl = s.byl := by
  unfold State.ringEvent
  try simp
  all_goals (repeat' split) <;> simp_all

@[simp] theorem State.reportRing_frame (s : State) (x1 : Nat) :
    (s.reportRing x1).pending = s.pending ∧ (s.reportRing x1).cyc = s.cyc ∧ (s.reportRing x1).hostMem = s.hostMem ∧
      (s.reportRing x1).live = s.live ∧ (s.reportRing x1).whoa = s.whoa ∧ (s.reportRing x1).chip = s.chip ∧
      (s.reportRing x1).tack = s.tack ∧ (s.reportRing x1).recd = s.recd ∧ (s.reportRing x1).net = s.net ∧
      (s.reportRing x1).tim = s.tim ∧ (s.reportRing x1).gnb = s.gnb ∧ (s.reportRing x1).gait = s.gait ∧
      (s.reportRing x1).pad = s.pad ∧ (s.reportRing x1).fix = s.fix ∧ (s.reportRing x1).air = s.air ∧ (s.reportRing
      x1).byl = s.byl := by
  unfold State.reportRing
  try simp
  all_goals (repeat' split) <;> simp_all

@[simp] theorem State.applyHead_frame (s : State) (x1 : Nat) (x2 : Nat) :
    (s.applyHead x1 x2).pending = s.pending ∧ (s.applyHead x1 x2).cyc = s.cyc ∧ (s.applyHead x1 x2).hostMem =
      s.hostMem ∧ (s.applyHead x1 x2).live = s.live ∧ (s.applyHead x1 x2).whoa = s.whoa ∧ (s.applyHead x1 x2).chip =
      s.chip ∧ (s.applyHead x1 x2).tack = s.tack ∧ (s.applyHead x1 x2).recd = s.recd ∧ (s.applyHead x1 x2).net =
      s.net ∧ (s.applyHead x1 x2).tim = s.tim ∧ (s.applyHead x1 x2).gnb = s.gnb ∧ (s.applyHead x1 x2).gait = s.gait
      ∧ (s.applyHead x1 x2).pad = s.pad ∧ (s.applyHead x1 x2).fix = s.fix ∧ (s.applyHead x1 x2).air = s.air ∧
      (s.applyHead x1 x2).byl = s.byl := by
  simp only [State.applyHead]
  (repeat' split) <;> simp

@[simp] theorem State.applyTail_frame (s : State) (x1 : Nat) (x2 : Nat) :
    (s.applyTail x1 x2).pending = s.pending ∧ (s.applyTail x1 x2).cyc = s.cyc ∧ (s.applyTail x1 x2).hostMem =
      s.hostMem ∧ (s.applyTail x1 x2).live = s.live ∧ (s.applyTail x1 x2).whoa = s.whoa ∧ (s.applyTail x1 x2).chip =
      s.chip ∧ (s.applyTail x1 x2).tack = s.tack ∧ (s.applyTail x1 x2).recd = s.recd ∧ (s.applyTail x1 x2).net =
      s.net ∧ (s.applyTail x1 x2).tim = s.tim ∧ (s.applyTail x1 x2).gnb = s.gnb ∧ (s.applyTail x1 x2).gait = s.gait
      ∧ (s.applyTail x1 x2).pad = s.pad ∧ (s.applyTail x1 x2).fix = s.fix ∧ (s.applyTail x1 x2).air = s.air ∧
      (s.applyTail x1 x2).byl = s.byl := by
  simp only [State.applyTail]
  (repeat' split) <;> simp

@[simp] theorem State.applyKept_frame (s : State) (x1 : Nat) :
    (s.applyKept x1).pending = s.pending ∧ (s.applyKept x1).cyc = s.cyc ∧ (s.applyKept x1).hostMem = s.hostMem ∧
      (s.applyKept x1).live = s.live ∧ (s.applyKept x1).whoa = s.whoa ∧ (s.applyKept x1).chip = s.chip ∧
      (s.applyKept x1).tack = s.tack ∧ (s.applyKept x1).recd = s.recd ∧ (s.applyKept x1).net = s.net ∧ (s.applyKept
      x1).tim = s.tim ∧ (s.applyKept x1).gnb = s.gnb ∧ (s.applyKept x1).gait = s.gait ∧ (s.applyKept x1).pad = s.pad
      ∧ (s.applyKept x1).fix = s.fix ∧ (s.applyKept x1).air = s.air ∧ (s.applyKept x1).byl = s.byl := by
  unfold State.applyKept
  try simp
  all_goals (repeat' split) <;> simp_all

@[simp] theorem State.applyParam_frame (s : State) (x1 : Nat) (x2 : BitVec 16) :
    (s.applyParam x1 x2).pending = s.pending ∧ (s.applyParam x1 x2).cyc = s.cyc ∧ (s.applyParam x1 x2).hostMem =
      s.hostMem ∧ (s.applyParam x1 x2).whoa = s.whoa ∧ (s.applyParam x1 x2).chip = s.chip ∧ (s.applyParam x1
      x2).tack = s.tack ∧ (s.applyParam x1 x2).recd = s.recd ∧ (s.applyParam x1 x2).net = s.net ∧ (s.applyParam x1
      x2).tim = s.tim ∧ (s.applyParam x1 x2).gnb = s.gnb ∧ (s.applyParam x1 x2).gait = s.gait ∧ (s.applyParam x1
      x2).pad = s.pad ∧ (s.applyParam x1 x2).fix = s.fix ∧ (s.applyParam x1 x2).air = s.air := by
  unfold State.applyParam
  try simp
  all_goals (repeat' split) <;> simp_all

@[simp] theorem State.writeSweep_frame (s : State) (x1 : Nat) (x2 : Nat) (x3 : List CellWrite) :
    (s.writeSweep x1 x2 x3).1.pending = s.pending ∧ (s.writeSweep x1 x2 x3).1.cyc = s.cyc ∧ (s.writeSweep x1 x2
      x3).1.hostMem = s.hostMem ∧ (s.writeSweep x1 x2 x3).1.live = s.live ∧ (s.writeSweep x1 x2 x3).1.whoa = s.whoa
      ∧ (s.writeSweep x1 x2 x3).1.chip = s.chip ∧ (s.writeSweep x1 x2 x3).1.tack = s.tack ∧ (s.writeSweep x1 x2
      x3).1.recd = s.recd ∧ (s.writeSweep x1 x2 x3).1.net = s.net ∧ (s.writeSweep x1 x2 x3).1.tim = s.tim ∧
      (s.writeSweep x1 x2 x3).1.gnb = s.gnb ∧ (s.writeSweep x1 x2 x3).1.gait = s.gait ∧ (s.writeSweep x1 x2
      x3).1.fix = s.fix ∧ (s.writeSweep x1 x2 x3).1.air = s.air ∧ (s.writeSweep x1 x2 x3).1.byl = s.byl := by
  unfold State.writeSweep
  try simp
  all_goals (repeat' split) <;> simp_all

@[simp] theorem State.openJournal_frame (s : State) (x1 : Nat) (x2 : Nat) (x3 : Nat) (x4 : SweepReq) :
    (s.openJournal x1 x2 x3 x4).pending = s.pending ∧ (s.openJournal x1 x2 x3 x4).cyc = s.cyc ∧ (s.openJournal x1 x2
      x3 x4).hostMem = s.hostMem ∧ (s.openJournal x1 x2 x3 x4).live = s.live ∧ (s.openJournal x1 x2 x3 x4).whoa =
      s.whoa ∧ (s.openJournal x1 x2 x3 x4).chip = s.chip ∧ (s.openJournal x1 x2 x3 x4).tack = s.tack ∧
      (s.openJournal x1 x2 x3 x4).recd = s.recd ∧ (s.openJournal x1 x2 x3 x4).net = s.net ∧ (s.openJournal x1 x2 x3
      x4).tim = s.tim ∧ (s.openJournal x1 x2 x3 x4).gnb = s.gnb ∧ (s.openJournal x1 x2 x3 x4).gait = s.gait ∧
      (s.openJournal x1 x2 x3 x4).fix = s.fix ∧ (s.openJournal x1 x2 x3 x4).air = s.air ∧ (s.openJournal x1 x2 x3
      x4).byl = s.byl := by
  unfold State.openJournal
  try simp
  all_goals (repeat' split) <;> simp_all

@[simp] theorem State.closeJournal_frame (s : State) :
    (s.closeJournal).pending = s.pending ∧ (s.closeJournal).cyc = s.cyc ∧ (s.closeJournal).hostMem = s.hostMem ∧
      (s.closeJournal).live = s.live ∧ (s.closeJournal).whoa = s.whoa ∧ (s.closeJournal).chip = s.chip ∧
      (s.closeJournal).tack = s.tack ∧ (s.closeJournal).recd = s.recd ∧ (s.closeJournal).net = s.net ∧
      (s.closeJournal).tim = s.tim ∧ (s.closeJournal).gnb = s.gnb ∧ (s.closeJournal).gait = s.gait ∧
      (s.closeJournal).fix = s.fix ∧ (s.closeJournal).air = s.air ∧ (s.closeJournal).byl = s.byl := by
  unfold State.closeJournal
  try simp
  all_goals (repeat' split) <;> simp_all

@[simp] theorem State.writeCommit_frame (s : State) (x1 : Nat) (x2 : Nat) (x3 : Nat) (x4 : SweepReq) (x5 : List
    CellWrite) :
    (s.writeCommit x1 x2 x3 x4 x5).1.pending = s.pending ∧ (s.writeCommit x1 x2 x3 x4 x5).1.cyc = s.cyc ∧
      (s.writeCommit x1 x2 x3 x4 x5).1.hostMem = s.hostMem ∧ (s.writeCommit x1 x2 x3 x4 x5).1.live = s.live ∧
      (s.writeCommit x1 x2 x3 x4 x5).1.whoa = s.whoa ∧ (s.writeCommit x1 x2 x3 x4 x5).1.chip = s.chip ∧
      (s.writeCommit x1 x2 x3 x4 x5).1.tack = s.tack ∧ (s.writeCommit x1 x2 x3 x4 x5).1.recd = s.recd ∧
      (s.writeCommit x1 x2 x3 x4 x5).1.net = s.net ∧ (s.writeCommit x1 x2 x3 x4 x5).1.tim = s.tim ∧ (s.writeCommit
      x1 x2 x3 x4 x5).1.gnb = s.gnb ∧ (s.writeCommit x1 x2 x3 x4 x5).1.gait = s.gait ∧ (s.writeCommit x1 x2 x3 x4
      x5).1.fix = s.fix ∧ (s.writeCommit x1 x2 x3 x4 x5).1.air = s.air ∧ (s.writeCommit x1 x2 x3 x4 x5).1.byl =
      s.byl := by
  unfold State.writeCommit
  try simp
  all_goals (repeat' split) <;> simp_all

@[simp] theorem State.parkAt_frame (s : State) (x1 : Nat) (x2 : Nat) :
    (s.parkAt x1 x2).pending = s.pending ∧ (s.parkAt x1 x2).cyc = s.cyc ∧ (s.parkAt x1 x2).hostMem = s.hostMem ∧
      (s.parkAt x1 x2).live = s.live ∧ (s.parkAt x1 x2).whoa = s.whoa ∧ (s.parkAt x1 x2).chip = s.chip ∧ (s.parkAt
      x1 x2).tack = s.tack ∧ (s.parkAt x1 x2).recd = s.recd ∧ (s.parkAt x1 x2).net = s.net ∧ (s.parkAt x1 x2).tim =
      s.tim ∧ (s.parkAt x1 x2).gnb = s.gnb ∧ (s.parkAt x1 x2).gait = s.gait ∧ (s.parkAt x1 x2).fix = s.fix ∧
      (s.parkAt x1 x2).air = s.air := by
  unfold State.parkAt
  try simp
  all_goals (repeat' split) <;> simp_all

@[simp] theorem State.keepTiles_frame (s : State) (x1 : State) (x2 : Nat) :
    (s.keepTiles x1 x2).pending = s.pending ∧ (s.keepTiles x1 x2).cyc = s.cyc ∧ (s.keepTiles x1 x2).hostMem =
      s.hostMem ∧ (s.keepTiles x1 x2).live = s.live ∧ (s.keepTiles x1 x2).whoa = s.whoa ∧ (s.keepTiles x1 x2).chip =
      s.chip ∧ (s.keepTiles x1 x2).tack = s.tack ∧ (s.keepTiles x1 x2).recd = s.recd ∧ (s.keepTiles x1 x2).net =
      s.net ∧ (s.keepTiles x1 x2).tim = s.tim ∧ (s.keepTiles x1 x2).gnb = s.gnb ∧ (s.keepTiles x1 x2).gait = s.gait
      ∧ (s.keepTiles x1 x2).fix = s.fix ∧ (s.keepTiles x1 x2).air = s.air ∧ (s.keepTiles x1 x2).byl = s.byl := by
  unfold State.keepTiles
  try simp
  all_goals (repeat' split) <;> simp_all

@[simp] theorem State.askTiles_frame (s : State) (x1 : List Nat) :
    (s.askTiles x1).pending = s.pending ∧ (s.askTiles x1).cyc = s.cyc ∧ (s.askTiles x1).hostMem = s.hostMem ∧
      (s.askTiles x1).live = s.live ∧ (s.askTiles x1).whoa = s.whoa ∧ (s.askTiles x1).chip = s.chip ∧ (s.askTiles
      x1).tack = s.tack ∧ (s.askTiles x1).recd = s.recd ∧ (s.askTiles x1).net = s.net ∧ (s.askTiles x1).tim = s.tim
      ∧ (s.askTiles x1).gnb = s.gnb ∧ (s.askTiles x1).gait = s.gait ∧ (s.askTiles x1).pad = s.pad ∧ (s.askTiles
      x1).fix = s.fix ∧ (s.askTiles x1).air = s.air := by
  unfold State.askTiles
  try simp
  all_goals (repeat' split) <;> simp_all

@[simp] theorem State.diverged_frame (s : State) (x1 : Nat) (x2 : List Nat) :
    (s.diverged x1 x2).pending = s.pending ∧ (s.diverged x1 x2).cyc = s.cyc ∧ (s.diverged x1 x2).hostMem = s.hostMem
      ∧ (s.diverged x1 x2).live = s.live ∧ (s.diverged x1 x2).whoa = s.whoa ∧ (s.diverged x1 x2).chip = s.chip ∧
      (s.diverged x1 x2).tack = s.tack ∧ (s.diverged x1 x2).recd = s.recd ∧ (s.diverged x1 x2).net = s.net ∧
      (s.diverged x1 x2).tim = s.tim ∧ (s.diverged x1 x2).gnb = s.gnb ∧ (s.diverged x1 x2).gait = s.gait ∧
      (s.diverged x1 x2).pad = s.pad ∧ (s.diverged x1 x2).fix = s.fix ∧ (s.diverged x1 x2).air = s.air := by
  unfold State.diverged
  try simp
  all_goals (repeat' split) <;> simp_all

@[simp] theorem State.compare_frame (s : State) (x1 : State) (x2 : MirrorRec) (x3 : List Nat) :
    (s.compare x1 x2 x3).pending = s.pending ∧ (s.compare x1 x2 x3).cyc = s.cyc ∧ (s.compare x1 x2 x3).hostMem =
      s.hostMem ∧ (s.compare x1 x2 x3).live = s.live ∧ (s.compare x1 x2 x3).whoa = s.whoa ∧ (s.compare x1 x2
      x3).chip = s.chip ∧ (s.compare x1 x2 x3).tack = s.tack ∧ (s.compare x1 x2 x3).recd = s.recd ∧ (s.compare x1 x2
      x3).net = s.net ∧ (s.compare x1 x2 x3).tim = s.tim ∧ (s.compare x1 x2 x3).gnb = s.gnb ∧ (s.compare x1 x2
      x3).gait = s.gait ∧ (s.compare x1 x2 x3).fix = s.fix ∧ (s.compare x1 x2 x3).air = s.air := by
  unfold State.compare
  try simp
  all_goals (repeat' split) <;> simp_all

@[simp] theorem State.mirrorCommit_frame (s : State) (x1 : MirrorRec) (x2 : SweepReq) :
    (s.mirrorCommit x1 x2).pending = s.pending ∧ (s.mirrorCommit x1 x2).cyc = s.cyc ∧ (s.mirrorCommit x1 x2).hostMem
      = s.hostMem ∧ (s.mirrorCommit x1 x2).live = s.live ∧ (s.mirrorCommit x1 x2).whoa = s.whoa ∧ (s.mirrorCommit x1
      x2).chip = s.chip ∧ (s.mirrorCommit x1 x2).tack = s.tack ∧ (s.mirrorCommit x1 x2).recd = s.recd ∧
      (s.mirrorCommit x1 x2).net = s.net ∧ (s.mirrorCommit x1 x2).tim = s.tim ∧ (s.mirrorCommit x1 x2).gnb = s.gnb ∧
      (s.mirrorCommit x1 x2).gait = s.gait ∧ (s.mirrorCommit x1 x2).fix = s.fix ∧ (s.mirrorCommit x1 x2).air = s.air := by
  unfold State.mirrorCommit
  try simp
  all_goals (repeat' split) <;> simp_all

@[simp] theorem State.endDisc_frame (s : State) (x1 : Nat) :
    (s.endDisc x1).pending = s.pending ∧ (s.endDisc x1).cyc = s.cyc ∧ (s.endDisc x1).hostMem = s.hostMem ∧
      (s.endDisc x1).live = s.live ∧ (s.endDisc x1).whoa = s.whoa ∧ (s.endDisc x1).chip = s.chip ∧ (s.endDisc
      x1).tack = s.tack ∧ (s.endDisc x1).recd = s.recd ∧ (s.endDisc x1).net = s.net ∧ (s.endDisc x1).tim = s.tim ∧
      (s.endDisc x1).gnb = s.gnb ∧ (s.endDisc x1).gait = s.gait ∧ (s.endDisc x1).fix = s.fix ∧ (s.endDisc x1).air =
      s.air ∧ (s.endDisc x1).byl = s.byl := by
  unfold State.endDisc
  try simp
  all_goals (repeat' split) <;> simp_all

@[simp] theorem State.setShape_frame (s : State) (x1 : Nat) (x2 : ShapeRec) :
    (s.setShape x1 x2).pending = s.pending ∧ (s.setShape x1 x2).cyc = s.cyc ∧ (s.setShape x1 x2).hostMem = s.hostMem
      ∧ (s.setShape x1 x2).live = s.live ∧ (s.setShape x1 x2).whoa = s.whoa ∧ (s.setShape x1 x2).chip = s.chip ∧
      (s.setShape x1 x2).tack = s.tack ∧ (s.setShape x1 x2).recd = s.recd ∧ (s.setShape x1 x2).net = s.net ∧
      (s.setShape x1 x2).tim = s.tim ∧ (s.setShape x1 x2).gnb = s.gnb ∧ (s.setShape x1 x2).gait = s.gait ∧
      (s.setShape x1 x2).fix = s.fix ∧ (s.setShape x1 x2).air = s.air ∧ (s.setShape x1 x2).byl = s.byl := by
  unfold State.setShape
  try simp
  all_goals (repeat' split) <;> simp_all

@[simp] theorem State.applyRecord_frame (s : State) (x1 : MirrorRec) :
    (s.applyRecord x1).pending = s.pending ∧ (s.applyRecord x1).cyc = s.cyc ∧ (s.applyRecord x1).hostMem = s.hostMem
      ∧ (s.applyRecord x1).live = s.live ∧ (s.applyRecord x1).whoa = s.whoa ∧ (s.applyRecord x1).chip = s.chip ∧
      (s.applyRecord x1).tack = s.tack ∧ (s.applyRecord x1).recd = s.recd ∧ (s.applyRecord x1).net = s.net ∧
      (s.applyRecord x1).tim = s.tim ∧ (s.applyRecord x1).gnb = s.gnb ∧ (s.applyRecord x1).gait = s.gait ∧
      (s.applyRecord x1).fix = s.fix ∧ (s.applyRecord x1).air = s.air := by
  unfold State.applyRecord
  try simp
  all_goals (repeat' split) <;> simp_all

@[simp] theorem State.setRefWord_frame (s : State) (x1 : Nat) (x2 : Nat) :
    (s.setRefWord x1 x2).pending = s.pending ∧ (s.setRefWord x1 x2).cyc = s.cyc ∧ (s.setRefWord x1 x2).hostMem =
      s.hostMem ∧ (s.setRefWord x1 x2).whoa = s.whoa ∧ (s.setRefWord x1 x2).chip = s.chip ∧ (s.setRefWord x1
      x2).tack = s.tack ∧ (s.setRefWord x1 x2).recd = s.recd ∧ (s.setRefWord x1 x2).net = s.net ∧ (s.setRefWord x1
      x2).tim = s.tim ∧ (s.setRefWord x1 x2).gnb = s.gnb ∧ (s.setRefWord x1 x2).gait = s.gait ∧ (s.setRefWord x1
      x2).pad = s.pad ∧ (s.setRefWord x1 x2).fix = s.fix ∧ (s.setRefWord x1 x2).air = s.air ∧ (s.setRefWord x1
      x2).byl = s.byl := by
  unfold State.setRefWord
  try simp
  all_goals (repeat' split) <;> simp_all

@[simp] theorem State.setRef64_frame (s : State) (x1 : Nat) (x2 : Nat) :
    (s.setRef64 x1 x2).pending = s.pending ∧ (s.setRef64 x1 x2).cyc = s.cyc ∧ (s.setRef64 x1 x2).hostMem = s.hostMem
      ∧ (s.setRef64 x1 x2).whoa = s.whoa ∧ (s.setRef64 x1 x2).chip = s.chip ∧ (s.setRef64 x1 x2).tack = s.tack ∧
      (s.setRef64 x1 x2).recd = s.recd ∧ (s.setRef64 x1 x2).net = s.net ∧ (s.setRef64 x1 x2).tim = s.tim ∧
      (s.setRef64 x1 x2).gnb = s.gnb ∧ (s.setRef64 x1 x2).gait = s.gait ∧ (s.setRef64 x1 x2).pad = s.pad ∧
      (s.setRef64 x1 x2).fix = s.fix ∧ (s.setRef64 x1 x2).air = s.air ∧ (s.setRef64 x1 x2).byl = s.byl := by
  unfold State.setRef64
  try simp
  all_goals (repeat' split) <;> simp_all

@[simp] theorem State.applyRef_frame (s : State) (x1 : Nat) :
    (s.applyRef x1).pending = s.pending ∧ (s.applyRef x1).cyc = s.cyc ∧ (s.applyRef x1).hostMem = s.hostMem ∧
      (s.applyRef x1).whoa = s.whoa ∧ (s.applyRef x1).chip = s.chip ∧ (s.applyRef x1).tack = s.tack ∧ (s.applyRef
      x1).recd = s.recd ∧ (s.applyRef x1).net = s.net ∧ (s.applyRef x1).tim = s.tim ∧ (s.applyRef x1).gait = s.gait
      ∧ (s.applyRef x1).pad = s.pad ∧ (s.applyRef x1).air = s.air ∧ (s.applyRef x1).byl = s.byl := by
  unfold State.applyRef
  try simp
  all_goals (repeat' split) <;> simp_all

@[simp] theorem State.applySearch_frame (s : State) (x1 : Solving) (x2 : Found) :
    (s.applySearch x1 x2).pending = s.pending ∧ (s.applySearch x1 x2).cyc = s.cyc ∧ (s.applySearch x1 x2).live =
      s.live ∧ (s.applySearch x1 x2).whoa = s.whoa ∧ (s.applySearch x1 x2).chip = s.chip ∧ (s.applySearch x1
      x2).tack = s.tack ∧ (s.applySearch x1 x2).recd = s.recd ∧ (s.applySearch x1 x2).net = s.net ∧ (s.applySearch
      x1 x2).tim = s.tim ∧ (s.applySearch x1 x2).gnb = s.gnb ∧ (s.applySearch x1 x2).gait = s.gait ∧ (s.applySearch
      x1 x2).pad = s.pad ∧ (s.applySearch x1 x2).air = s.air ∧ (s.applySearch x1 x2).byl = s.byl := by
  unfold State.applySearch
  try simp
  all_goals (repeat' split) <;> simp_all

@[simp] theorem State.mirrorLeave_frame (s : State) (x1 : Nat) :
    (s.mirrorLeave x1).pending = s.pending ∧ (s.mirrorLeave x1).cyc = s.cyc ∧ (s.mirrorLeave x1).hostMem = s.hostMem
      ∧ (s.mirrorLeave x1).live = s.live ∧ (s.mirrorLeave x1).whoa = s.whoa ∧ (s.mirrorLeave x1).chip = s.chip ∧
      (s.mirrorLeave x1).recd = s.recd ∧ (s.mirrorLeave x1).net = s.net ∧ (s.mirrorLeave x1).tim = s.tim ∧
      (s.mirrorLeave x1).gnb = s.gnb := by
  unfold State.mirrorLeave
  try simp
  all_goals (repeat' split) <;> simp_all

@[simp] theorem State.mirrorKey_frame (s : State) (x1 : Nat) (x2 : Nat) :
    (s.mirrorKey x1 x2).1.pending = s.pending ∧ (s.mirrorKey x1 x2).1.cyc = s.cyc ∧ (s.mirrorKey x1 x2).1.hostMem =
      s.hostMem ∧ (s.mirrorKey x1 x2).1.live = s.live ∧ (s.mirrorKey x1 x2).1.whoa = s.whoa ∧ (s.mirrorKey x1
      x2).1.chip = s.chip ∧ (s.mirrorKey x1 x2).1.recd = s.recd ∧ (s.mirrorKey x1 x2).1.net = s.net ∧ (s.mirrorKey
      x1 x2).1.tim = s.tim ∧ (s.mirrorKey x1 x2).1.gnb = s.gnb ∧ (s.mirrorKey x1 x2).1.gait = s.gait ∧ (s.mirrorKey
      x1 x2).1.pad = s.pad ∧ (s.mirrorKey x1 x2).1.fix = s.fix ∧ (s.mirrorKey x1 x2).1.air = s.air ∧ (s.mirrorKey x1
      x2).1.byl = s.byl := by
  unfold State.mirrorKey
  dsimp only
  (repeat' split) <;> first | (simp; done) | (rename_i hk; have hk := State.deriveKey_frame _ _ _ hk; simp_all)

@[simp] theorem State.mirrorRekey_frame (s : State) (x1 : Nat) (x2 : Nat) :
    (s.mirrorRekey x1 x2).pending = s.pending ∧ (s.mirrorRekey x1 x2).cyc = s.cyc ∧ (s.mirrorRekey x1 x2).hostMem =
      s.hostMem ∧ (s.mirrorRekey x1 x2).live = s.live ∧ (s.mirrorRekey x1 x2).whoa = s.whoa ∧ (s.mirrorRekey x1
      x2).chip = s.chip ∧ (s.mirrorRekey x1 x2).recd = s.recd ∧ (s.mirrorRekey x1 x2).net = s.net ∧ (s.mirrorRekey
      x1 x2).tim = s.tim ∧ (s.mirrorRekey x1 x2).gnb = s.gnb ∧ (s.mirrorRekey x1 x2).gait = s.gait ∧ (s.mirrorRekey
      x1 x2).pad = s.pad ∧ (s.mirrorRekey x1 x2).fix = s.fix ∧ (s.mirrorRekey x1 x2).byl = s.byl := by
  unfold State.mirrorRekey
  dsimp only
  (repeat' split) <;> first | (simp; done) | (rename_i hk; have hk := State.deriveKey_frame _ _ _ hk; simp_all)

@[simp] theorem State.applySession_frame (s : State) (x1 : Nat) (x2 : SessMirror) :
    (s.applySession x1 x2).pending = s.pending ∧ (s.applySession x1 x2).cyc = s.cyc ∧ (s.applySession x1 x2).hostMem
      = s.hostMem ∧ (s.applySession x1 x2).live = s.live ∧ (s.applySession x1 x2).whoa = s.whoa ∧ (s.applySession x1
      x2).chip = s.chip ∧ (s.applySession x1 x2).recd = s.recd ∧ (s.applySession x1 x2).net = s.net ∧
      (s.applySession x1 x2).tim = s.tim ∧ (s.applySession x1 x2).gnb = s.gnb := by
  unfold State.applySession
  try simp
  all_goals (repeat' split) <;> simp_all

@[simp] theorem State.setRecState_frame (s : State) (x1 : Nat) :
    (s.setRecState x1).pending = s.pending ∧ (s.setRecState x1).cyc = s.cyc ∧ (s.setRecState x1).hostMem = s.hostMem
      ∧ (s.setRecState x1).live = s.live ∧ (s.setRecState x1).whoa = s.whoa ∧ (s.setRecState x1).chip = s.chip ∧
      (s.setRecState x1).tack = s.tack ∧ (s.setRecState x1).recd = s.recd ∧ (s.setRecState x1).net = s.net ∧
      (s.setRecState x1).tim = s.tim ∧ (s.setRecState x1).gnb = s.gnb ∧ (s.setRecState x1).gait = s.gait ∧
      (s.setRecState x1).pad = s.pad ∧ (s.setRecState x1).fix = s.fix ∧ (s.setRecState x1).air = s.air ∧
      (s.setRecState x1).byl = s.byl := by
  unfold State.setRecState
  try simp
  all_goals (repeat' split) <;> simp_all

@[simp] theorem State.armed_frame (s : State) :
    (s.armed).pending = s.pending ∧ (s.armed).cyc = s.cyc ∧ (s.armed).hostMem = s.hostMem ∧ (s.armed).live = s.live
      ∧ (s.armed).whoa = s.whoa ∧ (s.armed).chip = s.chip ∧ (s.armed).tack = s.tack ∧ (s.armed).net = s.net ∧
      (s.armed).tim = s.tim ∧ (s.armed).gnb = s.gnb ∧ (s.armed).gait = s.gait ∧ (s.armed).pad = s.pad ∧
      (s.armed).fix = s.fix ∧ (s.armed).air = s.air ∧ (s.armed).byl = s.byl := by
  unfold State.armed
  try simp
  all_goals (repeat' split) <;> simp_all

@[simp] theorem State.reportReplans_frame (s : State) :
    (s.reportReplans).pending = s.pending ∧ (s.reportReplans).cyc = s.cyc ∧ (s.reportReplans).hostMem = s.hostMem ∧
      (s.reportReplans).live = s.live ∧ (s.reportReplans).whoa = s.whoa ∧ (s.reportReplans).chip = s.chip ∧
      (s.reportReplans).tack = s.tack ∧ (s.reportReplans).recd = s.recd ∧ (s.reportReplans).net = s.net ∧
      (s.reportReplans).tim = s.tim ∧ (s.reportReplans).gnb = s.gnb ∧ (s.reportReplans).gait = s.gait ∧
      (s.reportReplans).pad = s.pad ∧ (s.reportReplans).fix = s.fix ∧ (s.reportReplans).air = s.air ∧
      (s.reportReplans).byl = s.byl := by
  unfold State.reportReplans
  try simp
  all_goals (repeat' split) <;> simp_all

@[simp] theorem State.ask_frame (s : State) (x1 : Item) (x2 : Ask) :
    (s.ask x1 x2).pending = s.pending ∧ (s.ask x1 x2).cyc = s.cyc ∧ (s.ask x1 x2).hostMem = s.hostMem ∧ (s.ask x1
      x2).live = s.live ∧ (s.ask x1 x2).whoa = s.whoa ∧ (s.ask x1 x2).chip = s.chip ∧ (s.ask x1 x2).tack = s.tack ∧
      (s.ask x1 x2).recd = s.recd ∧ (s.ask x1 x2).net = s.net ∧ (s.ask x1 x2).tim = s.tim ∧ (s.ask x1 x2).gnb =
      s.gnb ∧ (s.ask x1 x2).pad = s.pad ∧ (s.ask x1 x2).fix = s.fix ∧ (s.ask x1 x2).air = s.air ∧ (s.ask x1 x2).byl
      = s.byl := by
  unfold State.ask
  try simp
  all_goals (repeat' split) <;> simp_all

@[simp] theorem State.askLocks_frame (s : State) (x1 : Locker) (x2 : List Nat) :
    (s.askLocks x1 x2).pending = s.pending ∧ (s.askLocks x1 x2).cyc = s.cyc ∧ (s.askLocks x1 x2).hostMem = s.hostMem
      ∧ (s.askLocks x1 x2).live = s.live ∧ (s.askLocks x1 x2).whoa = s.whoa ∧ (s.askLocks x1 x2).chip = s.chip ∧
      (s.askLocks x1 x2).tack = s.tack ∧ (s.askLocks x1 x2).recd = s.recd ∧ (s.askLocks x1 x2).net = s.net ∧
      (s.askLocks x1 x2).tim = s.tim ∧ (s.askLocks x1 x2).gnb = s.gnb ∧ (s.askLocks x1 x2).gait = s.gait ∧
      (s.askLocks x1 x2).fix = s.fix ∧ (s.askLocks x1 x2).air = s.air ∧ (s.askLocks x1 x2).byl = s.byl := by
  unfold State.askLocks
  try simp
  all_goals (repeat' split) <;> simp_all

@[simp] theorem State.askRenewals_frame (s : State) :
    (s.askRenewals).pending = s.pending ∧ (s.askRenewals).cyc = s.cyc ∧ (s.askRenewals).hostMem = s.hostMem ∧
      (s.askRenewals).live = s.live ∧ (s.askRenewals).whoa = s.whoa ∧ (s.askRenewals).chip = s.chip ∧
      (s.askRenewals).tack = s.tack ∧ (s.askRenewals).recd = s.recd ∧ (s.askRenewals).net = s.net ∧
      (s.askRenewals).tim = s.tim ∧ (s.askRenewals).gnb = s.gnb ∧ (s.askRenewals).gait = s.gait ∧
      (s.askRenewals).fix = s.fix ∧ (s.askRenewals).air = s.air ∧ (s.askRenewals).byl = s.byl := by
  unfold State.askRenewals
  refine ⟨?_, ?_, ?_, ?_, ?_, ?_, ?_, ?_, ?_, ?_, ?_, ?_, ?_, ?_, ?_⟩
  · refine (foldl_pending _ _ _ (fun b x r h => ?_)).trans ?_ <;> (try subst h) <;> ((repeat' split) <;> simp)
  · refine (foldl_cyc _ _ _ (fun b x r h => ?_)).trans ?_ <;> (try subst h) <;> ((repeat' split) <;> simp)
  · refine (foldl_hostMem _ _ _ (fun b x r h => ?_)).trans ?_ <;> (try subst h) <;> ((repeat' split) <;> simp)
  · refine (foldl_live _ _ _ (fun b x r h => ?_)).trans ?_ <;> (try subst h) <;> ((repeat' split) <;> simp)
  · refine (foldl_whoa _ _ _ (fun b x r h => ?_)).trans ?_ <;> (try subst h) <;> ((repeat' split) <;> simp)
  · refine (foldl_chip _ _ _ (fun b x r h => ?_)).trans ?_ <;> (try subst h) <;> ((repeat' split) <;> simp)
  · refine (foldl_tack _ _ _ (fun b x r h => ?_)).trans ?_ <;> (try subst h) <;> ((repeat' split) <;> simp)
  · refine (foldl_recd _ _ _ (fun b x r h => ?_)).trans ?_ <;> (try subst h) <;> ((repeat' split) <;> simp)
  · refine (foldl_net _ _ _ (fun b x r h => ?_)).trans ?_ <;> (try subst h) <;> ((repeat' split) <;> simp)
  · refine (foldl_tim _ _ _ (fun b x r h => ?_)).trans ?_ <;> (try subst h) <;> ((repeat' split) <;> simp)
  · refine (foldl_gnb _ _ _ (fun b x r h => ?_)).trans ?_ <;> (try subst h) <;> ((repeat' split) <;> simp)
  · refine (foldl_gait _ _ _ (fun b x r h => ?_)).trans ?_ <;> (try subst h) <;> ((repeat' split) <;> simp)
  · refine (foldl_fix _ _ _ (fun b x r h => ?_)).trans ?_ <;> (try subst h) <;> ((repeat' split) <;> simp)
  · refine (foldl_air _ _ _ (fun b x r h => ?_)).trans ?_ <;> (try subst h) <;> ((repeat' split) <;> simp)
  · refine (foldl_byl _ _ _ (fun b x r h => ?_)).trans ?_ <;> (try subst h) <;> ((repeat' split) <;> simp)

@[simp] theorem State.atStage_frame (s : State) (x1 : Entry) (x2 : Stage) :
    (s.atStage x1 x2).pending = s.pending ∧ (s.atStage x1 x2).cyc = s.cyc ∧ (s.atStage x1 x2).hostMem = s.hostMem ∧
      (s.atStage x1 x2).live = s.live ∧ (s.atStage x1 x2).whoa = s.whoa ∧ (s.atStage x1 x2).chip = s.chip ∧
      (s.atStage x1 x2).tack = s.tack ∧ (s.atStage x1 x2).recd = s.recd ∧ (s.atStage x1 x2).net = s.net ∧ (s.atStage
      x1 x2).tim = s.tim ∧ (s.atStage x1 x2).gnb = s.gnb ∧ (s.atStage x1 x2).gait = s.gait ∧ (s.atStage x1 x2).pad =
      s.pad ∧ (s.atStage x1 x2).fix = s.fix ∧ (s.atStage x1 x2).air = s.air ∧ (s.atStage x1 x2).byl = s.byl := by
  unfold State.atStage
  try simp
  all_goals (repeat' split) <;> simp_all

@[simp] theorem State.replay_frame (s : State) :
    (s.replay).pending = s.pending ∧ (s.replay).cyc = s.cyc ∧ (s.replay).hostMem = s.hostMem ∧ (s.replay).live =
      s.live ∧ (s.replay).whoa = s.whoa ∧ (s.replay).chip = s.chip ∧ (s.replay).tack = s.tack ∧ (s.replay).recd =
      s.recd ∧ (s.replay).net = s.net ∧ (s.replay).tim = s.tim ∧ (s.replay).gnb = s.gnb ∧ (s.replay).gait = s.gait ∧
      (s.replay).fix = s.fix ∧ (s.replay).air = s.air := by
  unfold State.replay
  try simp
  all_goals (repeat' split) <;> simp_all

@[simp] theorem State.padLoad_frame (s : State) :
    (s.padLoad).pending = s.pending ∧ (s.padLoad).cyc = s.cyc ∧ (s.padLoad).hostMem = s.hostMem ∧ (s.padLoad).live =
      s.live ∧ (s.padLoad).whoa = s.whoa ∧ (s.padLoad).chip = s.chip ∧ (s.padLoad).tack = s.tack ∧ (s.padLoad).recd
      = s.recd ∧ (s.padLoad).net = s.net ∧ (s.padLoad).tim = s.tim ∧ (s.padLoad).gnb = s.gnb ∧ (s.padLoad).gait =
      s.gait ∧ (s.padLoad).fix = s.fix ∧ (s.padLoad).air = s.air := by
  unfold State.padLoad
  try simp
  all_goals (repeat' split) <;> simp_all

@[simp] theorem State.reportTrack_frame (s : State) :
    (s.reportTrack).pending = s.pending ∧ (s.reportTrack).cyc = s.cyc ∧ (s.reportTrack).hostMem = s.hostMem ∧
      (s.reportTrack).live = s.live ∧ (s.reportTrack).whoa = s.whoa ∧ (s.reportTrack).chip = s.chip ∧
      (s.reportTrack).tack = s.tack ∧ (s.reportTrack).recd = s.recd ∧ (s.reportTrack).net = s.net ∧
      (s.reportTrack).tim = s.tim ∧ (s.reportTrack).gnb = s.gnb ∧ (s.reportTrack).gait = s.gait ∧
      (s.reportTrack).pad = s.pad ∧ (s.reportTrack).fix = s.fix ∧ (s.reportTrack).air = s.air ∧ (s.reportTrack).byl
      = s.byl := by
  unfold State.reportTrack
  try simp
  all_goals (repeat' split) <;> simp_all

@[simp] theorem State.gnbWakes_frame (s : State) :
    (s.gnbWakes).pending = s.pending ∧ (s.gnbWakes).cyc = s.cyc ∧ (s.gnbWakes).hostMem = s.hostMem ∧
      (s.gnbWakes).live = s.live ∧ (s.gnbWakes).whoa = s.whoa ∧ (s.gnbWakes).chip = s.chip ∧ (s.gnbWakes).tack =
      s.tack ∧ (s.gnbWakes).recd = s.recd ∧ (s.gnbWakes).net = s.net ∧ (s.gnbWakes).tim = s.tim ∧ (s.gnbWakes).gait
      = s.gait ∧ (s.gnbWakes).pad = s.pad ∧ (s.gnbWakes).fix = s.fix ∧ (s.gnbWakes).air = s.air ∧ (s.gnbWakes).byl =
      s.byl := by
  unfold State.gnbWakes
  try simp
  all_goals (repeat' split) <;> simp_all

@[simp] theorem State.setRgnState_frame (s : State) (x1 : Nat) (x2 : Nat) :
    (s.setRgnState x1 x2).pending = s.pending ∧ (s.setRgnState x1 x2).cyc = s.cyc ∧ (s.setRgnState x1 x2).hostMem =
      s.hostMem ∧ (s.setRgnState x1 x2).live = s.live ∧ (s.setRgnState x1 x2).whoa = s.whoa ∧ (s.setRgnState x1
      x2).chip = s.chip ∧ (s.setRgnState x1 x2).tack = s.tack ∧ (s.setRgnState x1 x2).recd = s.recd ∧ (s.setRgnState
      x1 x2).net = s.net ∧ (s.setRgnState x1 x2).tim = s.tim ∧ (s.setRgnState x1 x2).gnb = s.gnb ∧ (s.setRgnState x1
      x2).gait = s.gait ∧ (s.setRgnState x1 x2).pad = s.pad ∧ (s.setRgnState x1 x2).fix = s.fix ∧ (s.setRgnState x1
      x2).air = s.air ∧ (s.setRgnState x1 x2).byl = s.byl := by
  unfold State.setRgnState
  try simp
  all_goals (repeat' split) <;> simp_all

@[simp] theorem State.loadTables_frame (s : State) (x1 : Nat) (x2 : Image) :
    (s.loadTables x1 x2).pending = s.pending ∧ (s.loadTables x1 x2).cyc = s.cyc ∧ (s.loadTables x1 x2).hostMem =
      s.hostMem ∧ (s.loadTables x1 x2).live = s.live ∧ (s.loadTables x1 x2).whoa = s.whoa ∧ (s.loadTables x1
      x2).chip = s.chip ∧ (s.loadTables x1 x2).tack = s.tack ∧ (s.loadTables x1 x2).recd = s.recd ∧ (s.loadTables x1
      x2).net = s.net ∧ (s.loadTables x1 x2).tim = s.tim ∧ (s.loadTables x1 x2).gnb = s.gnb ∧ (s.loadTables x1
      x2).gait = s.gait ∧ (s.loadTables x1 x2).pad = s.pad ∧ (s.loadTables x1 x2).fix = s.fix ∧ (s.loadTables x1
      x2).air = s.air ∧ (s.loadTables x1 x2).byl = s.byl := by
  unfold State.loadTables
  try simp
  all_goals (repeat' split) <;> simp_all

@[simp] theorem State.wakeRegion_frame (s : State) (x1 : Nat) :
    (s.wakeRegion x1).pending = s.pending ∧ (s.wakeRegion x1).cyc = s.cyc ∧ (s.wakeRegion x1).hostMem = s.hostMem ∧
      (s.wakeRegion x1).live = s.live ∧ (s.wakeRegion x1).whoa = s.whoa ∧ (s.wakeRegion x1).chip = s.chip ∧
      (s.wakeRegion x1).tack = s.tack ∧ (s.wakeRegion x1).recd = s.recd ∧ (s.wakeRegion x1).net = s.net ∧
      (s.wakeRegion x1).tim = s.tim ∧ (s.wakeRegion x1).gnb = s.gnb ∧ (s.wakeRegion x1).gait = s.gait ∧
      (s.wakeRegion x1).pad = s.pad ∧ (s.wakeRegion x1).fix = s.fix ∧ (s.wakeRegion x1).air = s.air ∧ (s.wakeRegion
      x1).byl = s.byl := by
  unfold State.wakeRegion
  try simp
  all_goals (repeat' split) <;> simp_all

@[simp] theorem State.takeCrossing_frame (s : State) (x1 : Nat) :
    (s.takeCrossing x1).pending = s.pending ∧ (s.takeCrossing x1).cyc = s.cyc ∧ (s.takeCrossing x1).hostMem =
      s.hostMem ∧ (s.takeCrossing x1).live = s.live ∧ (s.takeCrossing x1).whoa = s.whoa ∧ (s.takeCrossing x1).chip =
      s.chip ∧ (s.takeCrossing x1).tack = s.tack ∧ (s.takeCrossing x1).recd = s.recd ∧ (s.takeCrossing x1).net =
      s.net ∧ (s.takeCrossing x1).tim = s.tim ∧ (s.takeCrossing x1).gnb = s.gnb ∧ (s.takeCrossing x1).gait = s.gait
      ∧ (s.takeCrossing x1).pad = s.pad ∧ (s.takeCrossing x1).fix = s.fix ∧ (s.takeCrossing x1).air = s.air ∧
      (s.takeCrossing x1).byl = s.byl := by
  unfold State.takeCrossing
  try simp
  all_goals (repeat' split) <;> simp_all

@[simp] theorem State.takeCrossings_frame (s : State) (x1 : Nat) (x2 : Nat) :
    (s.takeCrossings x1 x2).pending = s.pending ∧ (s.takeCrossings x1 x2).cyc = s.cyc ∧ (s.takeCrossings x1
      x2).hostMem = s.hostMem ∧ (s.takeCrossings x1 x2).live = s.live ∧ (s.takeCrossings x1 x2).whoa = s.whoa ∧
      (s.takeCrossings x1 x2).chip = s.chip ∧ (s.takeCrossings x1 x2).tack = s.tack ∧ (s.takeCrossings x1 x2).recd =
      s.recd ∧ (s.takeCrossings x1 x2).net = s.net ∧ (s.takeCrossings x1 x2).tim = s.tim ∧ (s.takeCrossings x1
      x2).gnb = s.gnb ∧ (s.takeCrossings x1 x2).gait = s.gait ∧ (s.takeCrossings x1 x2).pad = s.pad ∧
      (s.takeCrossings x1 x2).fix = s.fix ∧ (s.takeCrossings x1 x2).air = s.air ∧ (s.takeCrossings x1 x2).byl =
      s.byl := by
  induction x2 generalizing s with
  | zero => simp [State.takeCrossings]
  | succ k ih => unfold State.takeCrossings; (repeat' split) <;> simp_all

@[simp] theorem State.takeUp_frame (s : State) (x1 : Nat) :
    (s.takeUp x1).pending = s.pending ∧ (s.takeUp x1).cyc = s.cyc ∧ (s.takeUp x1).hostMem = s.hostMem ∧ (s.takeUp
      x1).live = s.live ∧ (s.takeUp x1).whoa = s.whoa ∧ (s.takeUp x1).chip = s.chip ∧ (s.takeUp x1).tack = s.tack ∧
      (s.takeUp x1).recd = s.recd ∧ (s.takeUp x1).net = s.net ∧ (s.takeUp x1).tim = s.tim ∧ (s.takeUp x1).gnb =
      s.gnb ∧ (s.takeUp x1).gait = s.gait ∧ (s.takeUp x1).pad = s.pad ∧ (s.takeUp x1).fix = s.fix ∧ (s.takeUp
      x1).air = s.air ∧ (s.takeUp x1).byl = s.byl := by
  unfold State.takeUp
  try simp
  all_goals (repeat' split) <;> simp_all

@[simp] theorem State.setOtp_frame (s : State) (x1 : Otp) :
    (s.setOtp x1).pending = s.pending ∧ (s.setOtp x1).cyc = s.cyc ∧ (s.setOtp x1).hostMem = s.hostMem ∧ (s.setOtp
      x1).live = s.live ∧ (s.setOtp x1).whoa = s.whoa ∧ (s.setOtp x1).tack = s.tack ∧ (s.setOtp x1).recd = s.recd ∧
      (s.setOtp x1).net = s.net ∧ (s.setOtp x1).tim = s.tim ∧ (s.setOtp x1).gnb = s.gnb ∧ (s.setOtp x1).gait =
      s.gait ∧ (s.setOtp x1).pad = s.pad ∧ (s.setOtp x1).fix = s.fix ∧ (s.setOtp x1).air = s.air ∧ (s.setOtp x1).byl
      = s.byl := by
  unfold State.setOtp
  try simp
  all_goals (repeat' split) <;> simp_all

@[simp] theorem State.reportTack_frame (s : State) :
    (s.reportTack).pending = s.pending ∧ (s.reportTack).cyc = s.cyc ∧ (s.reportTack).hostMem = s.hostMem ∧
      (s.reportTack).live = s.live ∧ (s.reportTack).whoa = s.whoa ∧ (s.reportTack).chip = s.chip ∧
      (s.reportTack).tack = s.tack ∧ (s.reportTack).recd = s.recd ∧ (s.reportTack).net = s.net ∧ (s.reportTack).tim
      = s.tim ∧ (s.reportTack).gnb = s.gnb ∧ (s.reportTack).gait = s.gait ∧ (s.reportTack).pad = s.pad ∧
      (s.reportTack).fix = s.fix ∧ (s.reportTack).air = s.air ∧ (s.reportTack).byl = s.byl := by
  unfold State.reportTack
  try simp
  all_goals (repeat' split) <;> simp_all

@[simp] theorem State.tackEvent_frame (s : State) (x1 : Nat) (x2 : Nat) (x3 : Nat) :
    (s.tackEvent x1 x2 x3).pending = s.pending ∧ (s.tackEvent x1 x2 x3).cyc = s.cyc ∧ (s.tackEvent x1 x2 x3).hostMem
      = s.hostMem ∧ (s.tackEvent x1 x2 x3).live = s.live ∧ (s.tackEvent x1 x2 x3).whoa = s.whoa ∧ (s.tackEvent x1 x2
      x3).chip = s.chip ∧ (s.tackEvent x1 x2 x3).tack = s.tack ∧ (s.tackEvent x1 x2 x3).recd = s.recd ∧ (s.tackEvent
      x1 x2 x3).net = s.net ∧ (s.tackEvent x1 x2 x3).tim = s.tim ∧ (s.tackEvent x1 x2 x3).gnb = s.gnb ∧ (s.tackEvent
      x1 x2 x3).gait = s.gait ∧ (s.tackEvent x1 x2 x3).pad = s.pad ∧ (s.tackEvent x1 x2 x3).fix = s.fix ∧
      (s.tackEvent x1 x2 x3).air = s.air ∧ (s.tackEvent x1 x2 x3).byl = s.byl := by
  unfold State.tackEvent
  try simp
  all_goals (repeat' split) <;> simp_all

@[simp] theorem State.zeroiseFuses_frame (s : State) (x1 : Nat) :
    (s.zeroiseFuses x1).pending = s.pending ∧ (s.zeroiseFuses x1).cyc = s.cyc ∧ (s.zeroiseFuses x1).hostMem =
      s.hostMem ∧ (s.zeroiseFuses x1).live = s.live ∧ (s.zeroiseFuses x1).whoa = s.whoa ∧ (s.zeroiseFuses x1).tack =
      s.tack ∧ (s.zeroiseFuses x1).recd = s.recd ∧ (s.zeroiseFuses x1).net = s.net ∧ (s.zeroiseFuses x1).tim = s.tim
      ∧ (s.zeroiseFuses x1).gnb = s.gnb ∧ (s.zeroiseFuses x1).gait = s.gait ∧ (s.zeroiseFuses x1).pad = s.pad ∧
      (s.zeroiseFuses x1).fix = s.fix ∧ (s.zeroiseFuses x1).air = s.air ∧ (s.zeroiseFuses x1).byl = s.byl := by
  unfold State.zeroiseFuses
  try simp
  all_goals (repeat' split) <;> simp_all

@[simp] theorem State.dropLong_frame (s : State) (x1 : Nat) (x2 : Nat) :
    (s.dropLong x1 x2).pending = s.pending ∧ (s.dropLong x1 x2).cyc = s.cyc ∧ (s.dropLong x1 x2).hostMem = s.hostMem
      ∧ (s.dropLong x1 x2).live = s.live ∧ (s.dropLong x1 x2).whoa = s.whoa ∧ (s.dropLong x1 x2).chip = s.chip ∧
      (s.dropLong x1 x2).tack = s.tack ∧ (s.dropLong x1 x2).recd = s.recd ∧ (s.dropLong x1 x2).net = s.net ∧
      (s.dropLong x1 x2).tim = s.tim ∧ (s.dropLong x1 x2).gnb = s.gnb ∧ (s.dropLong x1 x2).gait = s.gait ∧
      (s.dropLong x1 x2).pad = s.pad ∧ (s.dropLong x1 x2).fix = s.fix ∧ (s.dropLong x1 x2).air = s.air ∧ (s.dropLong
      x1 x2).byl = s.byl := by
  unfold State.dropLong
  try simp
  all_goals (repeat' split) <;> simp_all

@[simp] theorem State.endLongAt_frame (s : State) (x1 : LongOp) (x2 : Nat) (x3 : Nat) (x4 : Status) :
    (s.endLongAt x1 x2 x3 x4).pending = s.pending ∧ (s.endLongAt x1 x2 x3 x4).cyc = s.cyc ∧ (s.endLongAt x1 x2 x3
      x4).hostMem = s.hostMem ∧ (s.endLongAt x1 x2 x3 x4).live = s.live ∧ (s.endLongAt x1 x2 x3 x4).whoa = s.whoa ∧
      (s.endLongAt x1 x2 x3 x4).chip = s.chip ∧ (s.endLongAt x1 x2 x3 x4).tack = s.tack ∧ (s.endLongAt x1 x2 x3
      x4).recd = s.recd ∧ (s.endLongAt x1 x2 x3 x4).net = s.net ∧ (s.endLongAt x1 x2 x3 x4).tim = s.tim ∧
      (s.endLongAt x1 x2 x3 x4).gnb = s.gnb ∧ (s.endLongAt x1 x2 x3 x4).gait = s.gait ∧ (s.endLongAt x1 x2 x3
      x4).pad = s.pad ∧ (s.endLongAt x1 x2 x3 x4).fix = s.fix ∧ (s.endLongAt x1 x2 x3 x4).air = s.air ∧ (s.endLongAt
      x1 x2 x3 x4).byl = s.byl := by
  unfold State.endLongAt
  try simp
  all_goals (repeat' split) <;> simp_all

@[simp] theorem State.endLong_frame (s : State) (x1 : LongOp) (x2 : Status) :
    (s.endLong x1 x2).pending = s.pending ∧ (s.endLong x1 x2).cyc = s.cyc ∧ (s.endLong x1 x2).hostMem = s.hostMem ∧
      (s.endLong x1 x2).live = s.live ∧ (s.endLong x1 x2).whoa = s.whoa ∧ (s.endLong x1 x2).chip = s.chip ∧
      (s.endLong x1 x2).tack = s.tack ∧ (s.endLong x1 x2).recd = s.recd ∧ (s.endLong x1 x2).net = s.net ∧ (s.endLong
      x1 x2).tim = s.tim ∧ (s.endLong x1 x2).gnb = s.gnb ∧ (s.endLong x1 x2).gait = s.gait ∧ (s.endLong x1 x2).pad =
      s.pad ∧ (s.endLong x1 x2).fix = s.fix ∧ (s.endLong x1 x2).air = s.air ∧ (s.endLong x1 x2).byl = s.byl := by
  unfold State.endLong
  try simp
  all_goals (repeat' split) <;> simp_all

@[simp] theorem State.zeroHost_frame (s : State) (x1 : Nat) (x2 : Nat) :
    (s.zeroHost x1 x2).pending = s.pending ∧ (s.zeroHost x1 x2).cyc = s.cyc ∧ (s.zeroHost x1 x2).live = s.live ∧
      (s.zeroHost x1 x2).whoa = s.whoa ∧ (s.zeroHost x1 x2).chip = s.chip ∧ (s.zeroHost x1 x2).tack = s.tack ∧
      (s.zeroHost x1 x2).recd = s.recd ∧ (s.zeroHost x1 x2).net = s.net ∧ (s.zeroHost x1 x2).tim = s.tim ∧
      (s.zeroHost x1 x2).gnb = s.gnb ∧ (s.zeroHost x1 x2).gait = s.gait ∧ (s.zeroHost x1 x2).pad = s.pad ∧
      (s.zeroHost x1 x2).fix = s.fix ∧ (s.zeroHost x1 x2).air = s.air ∧ (s.zeroHost x1 x2).byl = s.byl := by
  unfold State.zeroHost
  try simp
  all_goals (repeat' split) <;> simp_all

@[simp] theorem State.failRewrap_frame (s : State) :
    (s.failRewrap).pending = s.pending ∧ (s.failRewrap).cyc = s.cyc ∧ (s.failRewrap).live = s.live ∧
      (s.failRewrap).whoa = s.whoa ∧ (s.failRewrap).chip = s.chip ∧ (s.failRewrap).recd = s.recd ∧
      (s.failRewrap).net = s.net ∧ (s.failRewrap).tim = s.tim ∧ (s.failRewrap).gnb = s.gnb ∧ (s.failRewrap).gait =
      s.gait ∧ (s.failRewrap).pad = s.pad ∧ (s.failRewrap).fix = s.fix ∧ (s.failRewrap).air = s.air ∧
      (s.failRewrap).byl = s.byl := by
  unfold State.failRewrap
  try simp
  all_goals (repeat' split) <;> simp_all

@[simp] theorem State.failHolder_frame (s : State) (x1 : Nat) :
    (s.failHolder x1).pending = s.pending ∧ (s.failHolder x1).cyc = s.cyc ∧ (s.failHolder x1).live = s.live ∧
      (s.failHolder x1).whoa = s.whoa ∧ (s.failHolder x1).chip = s.chip ∧ (s.failHolder x1).recd = s.recd ∧
      (s.failHolder x1).net = s.net ∧ (s.failHolder x1).tim = s.tim ∧ (s.failHolder x1).gnb = s.gnb ∧ (s.failHolder
      x1).gait = s.gait ∧ (s.failHolder x1).pad = s.pad ∧ (s.failHolder x1).fix = s.fix ∧ (s.failHolder x1).air =
      s.air ∧ (s.failHolder x1).byl = s.byl := by
  unfold State.failHolder
  try simp
  all_goals (repeat' split) <;> simp_all

@[simp] theorem State.failHolders_frame (s : State) :
    (s.failHolders).pending = s.pending ∧ (s.failHolders).cyc = s.cyc ∧ (s.failHolders).live = s.live ∧
      (s.failHolders).whoa = s.whoa ∧ (s.failHolders).chip = s.chip ∧ (s.failHolders).recd = s.recd ∧
      (s.failHolders).net = s.net ∧ (s.failHolders).tim = s.tim ∧ (s.failHolders).gnb = s.gnb ∧ (s.failHolders).gait
      = s.gait ∧ (s.failHolders).pad = s.pad ∧ (s.failHolders).fix = s.fix ∧ (s.failHolders).air = s.air ∧
      (s.failHolders).byl = s.byl := by
  unfold State.failHolders
  try simp
  all_goals (repeat' split) <;> simp_all

@[simp] theorem State.powerEvent_frame (s : State) (x1 : Nat) (x2 : Nat) (x3 : Nat) :
    (s.powerEvent x1 x2 x3).pending = s.pending ∧ (s.powerEvent x1 x2 x3).cyc = s.cyc ∧ (s.powerEvent x1 x2
      x3).hostMem = s.hostMem ∧ (s.powerEvent x1 x2 x3).live = s.live ∧ (s.powerEvent x1 x2 x3).whoa = s.whoa ∧
      (s.powerEvent x1 x2 x3).chip = s.chip ∧ (s.powerEvent x1 x2 x3).tack = s.tack ∧ (s.powerEvent x1 x2 x3).recd =
      s.recd ∧ (s.powerEvent x1 x2 x3).net = s.net ∧ (s.powerEvent x1 x2 x3).tim = s.tim ∧ (s.powerEvent x1 x2
      x3).gnb = s.gnb ∧ (s.powerEvent x1 x2 x3).gait = s.gait ∧ (s.powerEvent x1 x2 x3).pad = s.pad ∧ (s.powerEvent
      x1 x2 x3).fix = s.fix ∧ (s.powerEvent x1 x2 x3).air = s.air ∧ (s.powerEvent x1 x2 x3).byl = s.byl := by
  unfold State.powerEvent
  try simp
  all_goals (repeat' split) <;> simp_all

@[simp] theorem State.tookId_frame (s : State) :
    (s.tookId).pending = s.pending ∧ (s.tookId).cyc = s.cyc ∧ (s.tookId).hostMem = s.hostMem ∧ (s.tookId).live =
      s.live ∧ (s.tookId).whoa = s.whoa ∧ (s.tookId).chip = s.chip ∧ (s.tookId).tack = s.tack ∧ (s.tookId).recd =
      s.recd ∧ (s.tookId).net = s.net ∧ (s.tookId).tim = s.tim ∧ (s.tookId).gnb = s.gnb ∧ (s.tookId).gait = s.gait ∧
      (s.tookId).pad = s.pad ∧ (s.tookId).fix = s.fix ∧ (s.tookId).air = s.air ∧ (s.tookId).byl = s.byl := by
  unfold State.tookId
  try simp
  all_goals (repeat' split) <;> simp_all

@[simp] theorem State.toPort_frame (s : State) (x1 : Nat) (x2 : Item) :
    (s.toPort x1 x2).pending = s.pending ∧ (s.toPort x1 x2).cyc = s.cyc ∧ (s.toPort x1 x2).hostMem = s.hostMem ∧
      (s.toPort x1 x2).live = s.live ∧ (s.toPort x1 x2).whoa = s.whoa ∧ (s.toPort x1 x2).chip = s.chip ∧ (s.toPort
      x1 x2).tack = s.tack ∧ (s.toPort x1 x2).recd = s.recd ∧ (s.toPort x1 x2).net = s.net ∧ (s.toPort x1 x2).tim =
      s.tim ∧ (s.toPort x1 x2).gnb = s.gnb ∧ (s.toPort x1 x2).gait = s.gait ∧ (s.toPort x1 x2).pad = s.pad ∧
      (s.toPort x1 x2).fix = s.fix ∧ (s.toPort x1 x2).air = s.air ∧ (s.toPort x1 x2).byl = s.byl := by
  unfold State.toPort
  try simp
  all_goals (repeat' split) <;> simp_all

@[simp] theorem State.cueRelease_frame (s : State) (x1 : Nat) (x2 : CueSlot) :
    (s.cueRelease x1 x2).pending = s.pending ∧ (s.cueRelease x1 x2).cyc = s.cyc ∧ (s.cueRelease x1 x2).hostMem =
      s.hostMem ∧ (s.cueRelease x1 x2).live = s.live ∧ (s.cueRelease x1 x2).whoa = s.whoa ∧ (s.cueRelease x1
      x2).chip = s.chip ∧ (s.cueRelease x1 x2).tack = s.tack ∧ (s.cueRelease x1 x2).recd = s.recd ∧ (s.cueRelease x1
      x2).net = s.net ∧ (s.cueRelease x1 x2).tim = s.tim ∧ (s.cueRelease x1 x2).gnb = s.gnb ∧ (s.cueRelease x1
      x2).gait = s.gait ∧ (s.cueRelease x1 x2).pad = s.pad ∧ (s.cueRelease x1 x2).fix = s.fix ∧ (s.cueRelease x1
      x2).air = s.air ∧ (s.cueRelease x1 x2).byl = s.byl := by
  unfold State.cueRelease
  try simp
  all_goals (repeat' split) <;> simp_all

@[simp] theorem State.cuePost_frame (s : State) (x1 : Nat) (x2 : CueSlot) (x3 : Nat) :
    (s.cuePost x1 x2 x3).pending = s.pending ∧ (s.cuePost x1 x2 x3).cyc = s.cyc ∧ (s.cuePost x1 x2 x3).hostMem =
      s.hostMem ∧ (s.cuePost x1 x2 x3).live = s.live ∧ (s.cuePost x1 x2 x3).whoa = s.whoa ∧ (s.cuePost x1 x2
      x3).chip = s.chip ∧ (s.cuePost x1 x2 x3).tack = s.tack ∧ (s.cuePost x1 x2 x3).net = s.net ∧ (s.cuePost x1 x2
      x3).tim = s.tim ∧ (s.cuePost x1 x2 x3).gnb = s.gnb ∧ (s.cuePost x1 x2 x3).gait = s.gait ∧ (s.cuePost x1 x2
      x3).pad = s.pad ∧ (s.cuePost x1 x2 x3).fix = s.fix ∧ (s.cuePost x1 x2 x3).air = s.air ∧ (s.cuePost x1 x2
      x3).byl = s.byl := by
  unfold State.cuePost
  try simp
  all_goals (repeat' split) <;> simp_all

@[simp] theorem State.wakeCues_frame (s : State) :
    (s.wakeCues).pending = s.pending ∧ (s.wakeCues).cyc = s.cyc ∧ (s.wakeCues).hostMem = s.hostMem ∧
      (s.wakeCues).live = s.live ∧ (s.wakeCues).whoa = s.whoa ∧ (s.wakeCues).chip = s.chip ∧ (s.wakeCues).tack =
      s.tack ∧ (s.wakeCues).net = s.net ∧ (s.wakeCues).gnb = s.gnb ∧ (s.wakeCues).gait = s.gait ∧ (s.wakeCues).pad =
      s.pad ∧ (s.wakeCues).fix = s.fix ∧ (s.wakeCues).air = s.air ∧ (s.wakeCues).byl = s.byl := by
  unfold State.wakeCues
  refine ⟨?_, ?_, ?_, ?_, ?_, ?_, ?_, ?_, ?_, ?_, ?_, ?_, ?_, ?_⟩
  · refine (foldl_pending _ _ _ (fun b x r h => ?_)).trans ?_ <;> (try subst h) <;> ((repeat' split) <;> simp)
  · refine (foldl_cyc _ _ _ (fun b x r h => ?_)).trans ?_ <;> (try subst h) <;> ((repeat' split) <;> simp)
  · refine (foldl_hostMem _ _ _ (fun b x r h => ?_)).trans ?_ <;> (try subst h) <;> ((repeat' split) <;> simp)
  · refine (foldl_live _ _ _ (fun b x r h => ?_)).trans ?_ <;> (try subst h) <;> ((repeat' split) <;> simp)
  · refine (foldl_whoa _ _ _ (fun b x r h => ?_)).trans ?_ <;> (try subst h) <;> ((repeat' split) <;> simp)
  · refine (foldl_chip _ _ _ (fun b x r h => ?_)).trans ?_ <;> (try subst h) <;> ((repeat' split) <;> simp)
  · refine (foldl_tack _ _ _ (fun b x r h => ?_)).trans ?_ <;> (try subst h) <;> ((repeat' split) <;> simp)
  · refine (foldl_net _ _ _ (fun b x r h => ?_)).trans ?_ <;> (try subst h) <;> ((repeat' split) <;> simp)
  · refine (foldl_gnb _ _ _ (fun b x r h => ?_)).trans ?_ <;> (try subst h) <;> ((repeat' split) <;> simp)
  · refine (foldl_gait _ _ _ (fun b x r h => ?_)).trans ?_ <;> (try subst h) <;> ((repeat' split) <;> simp)
  · refine (foldl_pad _ _ _ (fun b x r h => ?_)).trans ?_ <;> (try subst h) <;> ((repeat' split) <;> simp)
  · refine (foldl_fix _ _ _ (fun b x r h => ?_)).trans ?_ <;> (try subst h) <;> ((repeat' split) <;> simp)
  · refine (foldl_air _ _ _ (fun b x r h => ?_)).trans ?_ <;> (try subst h) <;> ((repeat' split) <;> simp)
  · refine (foldl_byl _ _ _ (fun b x r h => ?_)).trans ?_ <;> (try subst h) <;> ((repeat' split) <;> simp)

@[simp] theorem State.awake_frame (s : State) :
    (s.awake).pending = s.pending ∧ (s.awake).cyc = s.cyc ∧ (s.awake).live = s.live ∧ (s.awake).whoa = s.whoa ∧
      (s.awake).net = s.net ∧ (s.awake).gait = s.gait ∧ (s.awake).fix = s.fix ∧ (s.awake).air = s.air := by
  unfold State.awake
  try simp
  all_goals (repeat' split) <;> simp_all

@[simp] theorem State.badFrame_frame (s : State) (x1 : Nat) :
    (s.badFrame x1).pending = s.pending ∧ (s.badFrame x1).cyc = s.cyc ∧ (s.badFrame x1).hostMem = s.hostMem ∧
      (s.badFrame x1).live = s.live ∧ (s.badFrame x1).whoa = s.whoa ∧ (s.badFrame x1).chip = s.chip ∧ (s.badFrame
      x1).tack = s.tack ∧ (s.badFrame x1).recd = s.recd ∧ (s.badFrame x1).net = s.net ∧ (s.badFrame x1).tim = s.tim
      ∧ (s.badFrame x1).gnb = s.gnb ∧ (s.badFrame x1).gait = s.gait ∧ (s.badFrame x1).pad = s.pad ∧ (s.badFrame
      x1).fix = s.fix ∧ (s.badFrame x1).air = s.air ∧ (s.badFrame x1).byl = s.byl := by
  unfold State.badFrame
  try simp
  all_goals (repeat' split) <;> simp_all

@[simp] theorem State.setPcie_frame (s : State) (x1 : PcieRt) :
    (s.setPcie x1).pending = s.pending ∧ (s.setPcie x1).cyc = s.cyc ∧ (s.setPcie x1).hostMem = s.hostMem ∧
      (s.setPcie x1).live = s.live ∧ (s.setPcie x1).whoa = s.whoa ∧ (s.setPcie x1).chip = s.chip ∧ (s.setPcie
      x1).tack = s.tack ∧ (s.setPcie x1).recd = s.recd ∧ (s.setPcie x1).net = s.net ∧ (s.setPcie x1).tim = s.tim ∧
      (s.setPcie x1).gnb = s.gnb ∧ (s.setPcie x1).gait = s.gait ∧ (s.setPcie x1).pad = s.pad ∧ (s.setPcie x1).fix =
      s.fix ∧ (s.setPcie x1).air = s.air ∧ (s.setPcie x1).byl = s.byl := by
  unfold State.setPcie
  try simp
  all_goals (repeat' split) <;> simp_all

@[simp] theorem State.writeConfig_frame (s : State) (x1 : Nat) (x2 : Sys2Proof.Word) :
    (s.writeConfig x1 x2).pending = s.pending ∧ (s.writeConfig x1 x2).cyc = s.cyc ∧ (s.writeConfig x1 x2).hostMem =
      s.hostMem ∧ (s.writeConfig x1 x2).live = s.live ∧ (s.writeConfig x1 x2).whoa = s.whoa ∧ (s.writeConfig x1
      x2).chip = s.chip ∧ (s.writeConfig x1 x2).tack = s.tack ∧ (s.writeConfig x1 x2).recd = s.recd ∧ (s.writeConfig
      x1 x2).net = s.net ∧ (s.writeConfig x1 x2).tim = s.tim ∧ (s.writeConfig x1 x2).gnb = s.gnb ∧ (s.writeConfig x1
      x2).gait = s.gait ∧ (s.writeConfig x1 x2).pad = s.pad ∧ (s.writeConfig x1 x2).fix = s.fix ∧ (s.writeConfig x1
      x2).air = s.air ∧ (s.writeConfig x1 x2).byl = s.byl := by
  unfold State.writeConfig
  try simp
  all_goals (repeat' split) <;> simp_all

@[simp] theorem State.feedWatchdog_frame (s : State) (x1 : Nat) :
    (s.feedWatchdog x1).pending = s.pending ∧ (s.feedWatchdog x1).cyc = s.cyc ∧ (s.feedWatchdog x1).hostMem =
      s.hostMem ∧ (s.feedWatchdog x1).live = s.live ∧ (s.feedWatchdog x1).whoa = s.whoa ∧ (s.feedWatchdog x1).chip =
      s.chip ∧ (s.feedWatchdog x1).tack = s.tack ∧ (s.feedWatchdog x1).recd = s.recd ∧ (s.feedWatchdog x1).net =
      s.net ∧ (s.feedWatchdog x1).tim = s.tim ∧ (s.feedWatchdog x1).gnb = s.gnb ∧ (s.feedWatchdog x1).gait = s.gait
      ∧ (s.feedWatchdog x1).pad = s.pad ∧ (s.feedWatchdog x1).fix = s.fix ∧ (s.feedWatchdog x1).air = s.air ∧
      (s.feedWatchdog x1).byl = s.byl := by
  unfold State.feedWatchdog
  try simp
  all_goals (repeat' split) <;> simp_all

@[simp] theorem State.ringDoorbell_frame (s : State) (x1 : Nat) (x2 : Bool) (x3 : Sys2Proof.Word) :
    (s.ringDoorbell x1 x2 x3).pending = s.pending ∧ (s.ringDoorbell x1 x2 x3).cyc = s.cyc ∧ (s.ringDoorbell x1 x2
      x3).hostMem = s.hostMem ∧ (s.ringDoorbell x1 x2 x3).live = s.live ∧ (s.ringDoorbell x1 x2 x3).whoa = s.whoa ∧
      (s.ringDoorbell x1 x2 x3).chip = s.chip ∧ (s.ringDoorbell x1 x2 x3).tack = s.tack ∧ (s.ringDoorbell x1 x2
      x3).recd = s.recd ∧ (s.ringDoorbell x1 x2 x3).net = s.net ∧ (s.ringDoorbell x1 x2 x3).tim = s.tim ∧
      (s.ringDoorbell x1 x2 x3).gnb = s.gnb ∧ (s.ringDoorbell x1 x2 x3).gait = s.gait ∧ (s.ringDoorbell x1 x2
      x3).pad = s.pad ∧ (s.ringDoorbell x1 x2 x3).fix = s.fix ∧ (s.ringDoorbell x1 x2 x3).air = s.air ∧
      (s.ringDoorbell x1 x2 x3).byl = s.byl := by
  unfold State.ringDoorbell
  try simp
  all_goals (repeat' split) <;> simp_all

@[simp] theorem State.writeMsix_frame (s : State) (x1 : Nat) (x2 : Sys2Proof.Word) :
    (s.writeMsix x1 x2).pending = s.pending ∧ (s.writeMsix x1 x2).cyc = s.cyc ∧ (s.writeMsix x1 x2).hostMem =
      s.hostMem ∧ (s.writeMsix x1 x2).live = s.live ∧ (s.writeMsix x1 x2).whoa = s.whoa ∧ (s.writeMsix x1 x2).chip =
      s.chip ∧ (s.writeMsix x1 x2).tack = s.tack ∧ (s.writeMsix x1 x2).recd = s.recd ∧ (s.writeMsix x1 x2).net =
      s.net ∧ (s.writeMsix x1 x2).tim = s.tim ∧ (s.writeMsix x1 x2).gnb = s.gnb ∧ (s.writeMsix x1 x2).gait = s.gait
      ∧ (s.writeMsix x1 x2).pad = s.pad ∧ (s.writeMsix x1 x2).fix = s.fix ∧ (s.writeMsix x1 x2).air = s.air ∧
      (s.writeMsix x1 x2).byl = s.byl := by
  unfold State.writeMsix
  try simp
  all_goals (repeat' split) <;> simp_all

@[simp] theorem State.barWrite_frame (s : State) (x1 : Nat) (x2 : Nat) (x3 : Sys2Proof.Word) :
    (s.barWrite x1 x2 x3).pending = s.pending ∧ (s.barWrite x1 x2 x3).cyc = s.cyc ∧ (s.barWrite x1 x2 x3).hostMem =
      s.hostMem ∧ (s.barWrite x1 x2 x3).live = s.live ∧ (s.barWrite x1 x2 x3).whoa = s.whoa ∧ (s.barWrite x1 x2
      x3).chip = s.chip ∧ (s.barWrite x1 x2 x3).tack = s.tack ∧ (s.barWrite x1 x2 x3).recd = s.recd ∧ (s.barWrite x1
      x2 x3).net = s.net ∧ (s.barWrite x1 x2 x3).tim = s.tim ∧ (s.barWrite x1 x2 x3).gnb = s.gnb ∧ (s.barWrite x1 x2
      x3).gait = s.gait ∧ (s.barWrite x1 x2 x3).pad = s.pad ∧ (s.barWrite x1 x2 x3).fix = s.fix ∧ (s.barWrite x1 x2
      x3).air = s.air ∧ (s.barWrite x1 x2 x3).byl = s.byl := by
  unfold State.barWrite
  try simp
  all_goals (repeat' split) <;> simp_all

@[simp] theorem State.baseSlipTest_frame (s : State) (x1 : BaseItem) :
    (s.baseSlipTest x1).pending = s.pending ∧ (s.baseSlipTest x1).cyc = s.cyc ∧ (s.baseSlipTest x1).hostMem =
      s.hostMem ∧ (s.baseSlipTest x1).live = s.live ∧ (s.baseSlipTest x1).whoa = s.whoa ∧ (s.baseSlipTest x1).chip =
      s.chip ∧ (s.baseSlipTest x1).tack = s.tack ∧ (s.baseSlipTest x1).recd = s.recd ∧ (s.baseSlipTest x1).net =
      s.net ∧ (s.baseSlipTest x1).tim = s.tim ∧ (s.baseSlipTest x1).gnb = s.gnb ∧ (s.baseSlipTest x1).gait = s.gait
      ∧ (s.baseSlipTest x1).pad = s.pad ∧ (s.baseSlipTest x1).air = s.air ∧ (s.baseSlipTest x1).byl = s.byl := by
  unfold State.baseSlipTest
  try simp
  all_goals (repeat' split) <;> simp_all

@[simp] theorem State.beginClaim_frame (s : State) (x1 : ClaimFor) :
    (s.beginClaim x1).pending = s.pending ∧ (s.beginClaim x1).cyc = s.cyc ∧ (s.beginClaim x1).hostMem = s.hostMem ∧
      (s.beginClaim x1).live = s.live ∧ (s.beginClaim x1).whoa = s.whoa ∧ (s.beginClaim x1).chip = s.chip ∧
      (s.beginClaim x1).tack = s.tack ∧ (s.beginClaim x1).recd = s.recd ∧ (s.beginClaim x1).net = s.net ∧
      (s.beginClaim x1).tim = s.tim ∧ (s.beginClaim x1).gnb = s.gnb ∧ (s.beginClaim x1).gait = s.gait ∧
      (s.beginClaim x1).pad = s.pad ∧ (s.beginClaim x1).fix = s.fix ∧ (s.beginClaim x1).air = s.air := by
  unfold State.beginClaim
  try simp
  all_goals (repeat' split) <;> simp_all

@[simp] theorem State.nextSfn_frame (s : State) (x1 : Bool) :
    (s.nextSfn x1).pending = s.pending ∧ (s.nextSfn x1).cyc = s.cyc ∧ (s.nextSfn x1).hostMem = s.hostMem ∧
      (s.nextSfn x1).live = s.live ∧ (s.nextSfn x1).whoa = s.whoa ∧ (s.nextSfn x1).chip = s.chip ∧ (s.nextSfn
      x1).tack = s.tack ∧ (s.nextSfn x1).recd = s.recd ∧ (s.nextSfn x1).net = s.net ∧ (s.nextSfn x1).tim = s.tim ∧
      (s.nextSfn x1).gnb = s.gnb ∧ (s.nextSfn x1).gait = s.gait ∧ (s.nextSfn x1).pad = s.pad ∧ (s.nextSfn x1).fix =
      s.fix ∧ (s.nextSfn x1).air = s.air ∧ (s.nextSfn x1).byl = s.byl := by
  unfold State.nextSfn
  try simp
  all_goals (repeat' split) <;> simp_all

@[simp] theorem State.beginFrame_frame (s : State) (x1 : Nat) (x2 : Bool) :
    (s.beginFrame x1 x2).pending = s.pending ∧ (s.beginFrame x1 x2).cyc = s.cyc ∧ (s.beginFrame x1 x2).hostMem =
      s.hostMem ∧ (s.beginFrame x1 x2).live = s.live ∧ (s.beginFrame x1 x2).whoa = s.whoa ∧ (s.beginFrame x1
      x2).chip = s.chip ∧ (s.beginFrame x1 x2).tack = s.tack ∧ (s.beginFrame x1 x2).recd = s.recd ∧ (s.beginFrame x1
      x2).net = s.net ∧ (s.beginFrame x1 x2).tim = s.tim ∧ (s.beginFrame x1 x2).gnb = s.gnb ∧ (s.beginFrame x1
      x2).gait = s.gait ∧ (s.beginFrame x1 x2).pad = s.pad ∧ (s.beginFrame x1 x2).fix = s.fix ∧ (s.beginFrame x1
      x2).byl = s.byl := by
  unfold State.beginFrame
  try simp
  all_goals (repeat' split) <;> simp_all

@[simp] theorem State.holdKey_frame (s : State) (x1 : Nat) (x2 : Nat) :
    (s.holdKey x1 x2).pending = s.pending ∧ (s.holdKey x1 x2).cyc = s.cyc ∧ (s.holdKey x1 x2).hostMem = s.hostMem ∧
      (s.holdKey x1 x2).live = s.live ∧ (s.holdKey x1 x2).whoa = s.whoa ∧ (s.holdKey x1 x2).chip = s.chip ∧
      (s.holdKey x1 x2).recd = s.recd ∧ (s.holdKey x1 x2).net = s.net ∧ (s.holdKey x1 x2).tim = s.tim ∧ (s.holdKey
      x1 x2).gnb = s.gnb ∧ (s.holdKey x1 x2).gait = s.gait ∧ (s.holdKey x1 x2).pad = s.pad ∧ (s.holdKey x1 x2).fix =
      s.fix ∧ (s.holdKey x1 x2).air = s.air ∧ (s.holdKey x1 x2).byl = s.byl := by
  unfold State.holdKey
  try simp
  all_goals (repeat' split) <;> simp_all

@[simp] theorem State.startLong_frame (s : State) (x1 : Item) (x2 : Nat) (x3 : Nat) (x4 : Nat) :
    (s.startLong x1 x2 x3 x4).pending = s.pending ∧ (s.startLong x1 x2 x3 x4).cyc = s.cyc ∧ (s.startLong x1 x2 x3
      x4).hostMem = s.hostMem ∧ (s.startLong x1 x2 x3 x4).live = s.live ∧ (s.startLong x1 x2 x3 x4).whoa = s.whoa ∧
      (s.startLong x1 x2 x3 x4).chip = s.chip ∧ (s.startLong x1 x2 x3 x4).tack = s.tack ∧ (s.startLong x1 x2 x3
      x4).recd = s.recd ∧ (s.startLong x1 x2 x3 x4).net = s.net ∧ (s.startLong x1 x2 x3 x4).tim = s.tim ∧
      (s.startLong x1 x2 x3 x4).gnb = s.gnb ∧ (s.startLong x1 x2 x3 x4).gait = s.gait ∧ (s.startLong x1 x2 x3
      x4).pad = s.pad ∧ (s.startLong x1 x2 x3 x4).fix = s.fix ∧ (s.startLong x1 x2 x3 x4).air = s.air ∧ (s.startLong
      x1 x2 x3 x4).byl = s.byl := by
  unfold State.startLong
  try simp
  all_goals (repeat' split) <;> simp_all

@[simp] theorem State.endReading_frame (s : State) (x1 : LongOp) (x2 : Status) :
    (s.endReading x1 x2).pending = s.pending ∧ (s.endReading x1 x2).cyc = s.cyc ∧ (s.endReading x1 x2).hostMem =
      s.hostMem ∧ (s.endReading x1 x2).live = s.live ∧ (s.endReading x1 x2).whoa = s.whoa ∧ (s.endReading x1
      x2).chip = s.chip ∧ (s.endReading x1 x2).net = s.net ∧ (s.endReading x1 x2).tim = s.tim ∧ (s.endReading x1
      x2).gnb = s.gnb ∧ (s.endReading x1 x2).gait = s.gait ∧ (s.endReading x1 x2).pad = s.pad ∧ (s.endReading x1
      x2).fix = s.fix ∧ (s.endReading x1 x2).air = s.air ∧ (s.endReading x1 x2).byl = s.byl := by
  unfold State.endReading
  try simp
  all_goals (repeat' split) <;> simp_all

@[simp] theorem State.beginReadout_frame (s : State) (x1 : Item) (x2 : Nat) :
    (s.beginReadout x1 x2).pending = s.pending ∧ (s.beginReadout x1 x2).cyc = s.cyc ∧ (s.beginReadout x1 x2).live =
      s.live ∧ (s.beginReadout x1 x2).whoa = s.whoa ∧ (s.beginReadout x1 x2).chip = s.chip ∧ (s.beginReadout x1
      x2).net = s.net ∧ (s.beginReadout x1 x2).tim = s.tim ∧ (s.beginReadout x1 x2).gnb = s.gnb ∧ (s.beginReadout x1
      x2).gait = s.gait ∧ (s.beginReadout x1 x2).pad = s.pad ∧ (s.beginReadout x1 x2).fix = s.fix ∧ (s.beginReadout
      x1 x2).air = s.air ∧ (s.beginReadout x1 x2).byl = s.byl := by
  unfold State.beginReadout
  try simp
  all_goals (repeat' split) <;> simp_all

@[simp] theorem State.beginWake_frame (s : State) (x1 : Nat) :
    (s.beginWake x1).pending = s.pending ∧ (s.beginWake x1).cyc = s.cyc ∧ (s.beginWake x1).hostMem = s.hostMem ∧
      (s.beginWake x1).live = s.live ∧ (s.beginWake x1).whoa = s.whoa ∧ (s.beginWake x1).tack = s.tack ∧
      (s.beginWake x1).recd = s.recd ∧ (s.beginWake x1).net = s.net ∧ (s.beginWake x1).tim = s.tim ∧ (s.beginWake
      x1).gnb = s.gnb ∧ (s.beginWake x1).gait = s.gait ∧ (s.beginWake x1).pad = s.pad ∧ (s.beginWake x1).fix = s.fix
      ∧ (s.beginWake x1).air = s.air ∧ (s.beginWake x1).byl = s.byl := by
  unfold State.beginWake
  try simp
  all_goals (repeat' split) <;> simp_all

@[simp] theorem State.preempt_frame (s : State) :
    (s.preempt).pending = s.pending ∧ (s.preempt).cyc = s.cyc ∧ (s.preempt).hostMem = s.hostMem ∧ (s.preempt).live =
      s.live ∧ (s.preempt).whoa = s.whoa ∧ (s.preempt).chip = s.chip ∧ (s.preempt).tack = s.tack ∧ (s.preempt).recd
      = s.recd ∧ (s.preempt).tim = s.tim ∧ (s.preempt).gnb = s.gnb ∧ (s.preempt).gait = s.gait ∧ (s.preempt).pad =
      s.pad ∧ (s.preempt).fix = s.fix ∧ (s.preempt).air = s.air ∧ (s.preempt).byl = s.byl := by
  unfold State.preempt
  try simp
  all_goals (repeat' split) <;> simp_all

@[simp] theorem State.noteFire_frame (s : State) (x1 : Nat) (x2 : Nat) :
    (s.noteFire x1 x2).pending = s.pending ∧ (s.noteFire x1 x2).cyc = s.cyc ∧ (s.noteFire x1 x2).hostMem = s.hostMem
      ∧ (s.noteFire x1 x2).live = s.live ∧ (s.noteFire x1 x2).whoa = s.whoa ∧ (s.noteFire x1 x2).chip = s.chip ∧
      (s.noteFire x1 x2).tack = s.tack ∧ (s.noteFire x1 x2).net = s.net ∧ (s.noteFire x1 x2).tim = s.tim ∧
      (s.noteFire x1 x2).gnb = s.gnb ∧ (s.noteFire x1 x2).gait = s.gait ∧ (s.noteFire x1 x2).pad = s.pad ∧
      (s.noteFire x1 x2).fix = s.fix ∧ (s.noteFire x1 x2).air = s.air ∧ (s.noteFire x1 x2).byl = s.byl := by
  unfold State.noteFire
  try simp
  all_goals (repeat' split) <;> simp_all

@[simp] theorem State.seeWire_frame (s : State) (x1 : Nat) (x2 : Bool) (x3 : Nat) (x4 : Nat) (x5 : List
    Sys2Proof.Byte) :
    (s.seeWire x1 x2 x3 x4 x5).pending = s.pending ∧ (s.seeWire x1 x2 x3 x4 x5).cyc = s.cyc ∧ (s.seeWire x1 x2 x3 x4
      x5).hostMem = s.hostMem ∧ (s.seeWire x1 x2 x3 x4 x5).live = s.live ∧ (s.seeWire x1 x2 x3 x4 x5).whoa = s.whoa
      ∧ (s.seeWire x1 x2 x3 x4 x5).chip = s.chip ∧ (s.seeWire x1 x2 x3 x4 x5).tack = s.tack ∧ (s.seeWire x1 x2 x3 x4
      x5).net = s.net ∧ (s.seeWire x1 x2 x3 x4 x5).tim = s.tim ∧ (s.seeWire x1 x2 x3 x4 x5).gnb = s.gnb ∧ (s.seeWire
      x1 x2 x3 x4 x5).gait = s.gait ∧ (s.seeWire x1 x2 x3 x4 x5).pad = s.pad ∧ (s.seeWire x1 x2 x3 x4 x5).fix =
      s.fix ∧ (s.seeWire x1 x2 x3 x4 x5).air = s.air ∧ (s.seeWire x1 x2 x3 x4 x5).byl = s.byl := by
  unfold State.seeWire
  try simp
  all_goals (repeat' split) <;> simp_all

@[simp] theorem State.netSent_frame (s : State) (x1 : NetOut) :
    (s.netSent x1).pending = s.pending ∧ (s.netSent x1).cyc = s.cyc ∧ (s.netSent x1).hostMem = s.hostMem ∧
      (s.netSent x1).live = s.live ∧ (s.netSent x1).whoa = s.whoa ∧ (s.netSent x1).chip = s.chip ∧ (s.netSent
      x1).tack = s.tack ∧ (s.netSent x1).tim = s.tim ∧ (s.netSent x1).gnb = s.gnb ∧ (s.netSent x1).gait = s.gait ∧
      (s.netSent x1).pad = s.pad ∧ (s.netSent x1).fix = s.fix ∧ (s.netSent x1).air = s.air ∧ (s.netSent x1).byl =
      s.byl := by
  unfold State.netSent
  try simp
  all_goals (repeat' split) <;> simp_all

@[simp] theorem State.stopOnA_frame (s : State) (x1 : Nat) (x2 : Nat) :
    (s.stopOnA x1 x2).pending = s.pending ∧ (s.stopOnA x1 x2).cyc = s.cyc ∧ (s.stopOnA x1 x2).hostMem = s.hostMem ∧
      (s.stopOnA x1 x2).live = s.live ∧ (s.stopOnA x1 x2).whoa = s.whoa ∧ (s.stopOnA x1 x2).chip = s.chip ∧
      (s.stopOnA x1 x2).tack = s.tack ∧ (s.stopOnA x1 x2).tim = s.tim ∧ (s.stopOnA x1 x2).gnb = s.gnb ∧ (s.stopOnA
      x1 x2).gait = s.gait ∧ (s.stopOnA x1 x2).pad = s.pad ∧ (s.stopOnA x1 x2).fix = s.fix ∧ (s.stopOnA x1 x2).air =
      s.air ∧ (s.stopOnA x1 x2).byl = s.byl := by
  unfold State.stopOnA
  try simp
  all_goals (repeat' split) <;> simp_all

@[simp] theorem State.stopOnB_frame (s : State) (x1 : Nat) (x2 : Nat) :
    (s.stopOnB x1 x2).pending = s.pending ∧ (s.stopOnB x1 x2).cyc = s.cyc ∧ (s.stopOnB x1 x2).hostMem = s.hostMem ∧
      (s.stopOnB x1 x2).live = s.live ∧ (s.stopOnB x1 x2).whoa = s.whoa ∧ (s.stopOnB x1 x2).chip = s.chip ∧
      (s.stopOnB x1 x2).tack = s.tack ∧ (s.stopOnB x1 x2).tim = s.tim ∧ (s.stopOnB x1 x2).gnb = s.gnb ∧ (s.stopOnB
      x1 x2).gait = s.gait ∧ (s.stopOnB x1 x2).pad = s.pad ∧ (s.stopOnB x1 x2).fix = s.fix ∧ (s.stopOnB x1 x2).air =
      s.air ∧ (s.stopOnB x1 x2).byl = s.byl := by
  unfold State.stopOnB
  try simp
  all_goals (repeat' split) <;> simp_all

@[simp] theorem State.sendStop_frame (s : State) (x1 : Nat) (x2 : Nat) :
    (s.sendStop x1 x2).pending = s.pending ∧ (s.sendStop x1 x2).cyc = s.cyc ∧ (s.sendStop x1 x2).hostMem = s.hostMem
      ∧ (s.sendStop x1 x2).live = s.live ∧ (s.sendStop x1 x2).whoa = s.whoa ∧ (s.sendStop x1 x2).chip = s.chip ∧
      (s.sendStop x1 x2).tack = s.tack ∧ (s.sendStop x1 x2).tim = s.tim ∧ (s.sendStop x1 x2).gnb = s.gnb ∧
      (s.sendStop x1 x2).gait = s.gait ∧ (s.sendStop x1 x2).pad = s.pad ∧ (s.sendStop x1 x2).fix = s.fix ∧
      (s.sendStop x1 x2).air = s.air ∧ (s.sendStop x1 x2).byl = s.byl := by
  unfold State.sendStop
  try simp
  all_goals (repeat' split) <;> simp_all

@[simp] theorem State.whoaChange_frame (s : State) (x1 : Nat) (x2 : Nat) (x3 : Nat) :
    (s.whoaChange x1 x2 x3).pending = s.pending ∧ (s.whoaChange x1 x2 x3).cyc = s.cyc ∧ (s.whoaChange x1 x2
      x3).hostMem = s.hostMem ∧ (s.whoaChange x1 x2 x3).live = s.live ∧ (s.whoaChange x1 x2 x3).chip = s.chip ∧
      (s.whoaChange x1 x2 x3).tack = s.tack ∧ (s.whoaChange x1 x2 x3).recd = s.recd ∧ (s.whoaChange x1 x2 x3).net =
      s.net ∧ (s.whoaChange x1 x2 x3).tim = s.tim ∧ (s.whoaChange x1 x2 x3).gnb = s.gnb ∧ (s.whoaChange x1 x2
      x3).gait = s.gait ∧ (s.whoaChange x1 x2 x3).pad = s.pad ∧ (s.whoaChange x1 x2 x3).fix = s.fix ∧ (s.whoaChange
      x1 x2 x3).air = s.air ∧ (s.whoaChange x1 x2 x3).byl = s.byl := by
  unfold State.whoaChange
  try simp
  all_goals (repeat' split) <;> simp_all

@[simp] theorem State.enterStopped_frame (s : State) (x1 : Nat) :
    (s.enterStopped x1).pending = s.pending ∧ (s.enterStopped x1).cyc = s.cyc ∧ (s.enterStopped x1).hostMem =
      s.hostMem ∧ (s.enterStopped x1).live = s.live ∧ (s.enterStopped x1).chip = s.chip ∧ (s.enterStopped x1).tack =
      s.tack ∧ (s.enterStopped x1).tim = s.tim ∧ (s.enterStopped x1).gnb = s.gnb ∧ (s.enterStopped x1).gait = s.gait
      ∧ (s.enterStopped x1).pad = s.pad ∧ (s.enterStopped x1).fix = s.fix ∧ (s.enterStopped x1).air = s.air ∧
      (s.enterStopped x1).byl = s.byl := by
  unfold State.enterStopped
  try simp
  all_goals (repeat' split) <;> simp_all

@[simp] theorem State.checkHold_frame (s : State) :
    (s.checkHold).pending = s.pending ∧ (s.checkHold).cyc = s.cyc ∧ (s.checkHold).hostMem = s.hostMem ∧
      (s.checkHold).live = s.live ∧ (s.checkHold).whoa = s.whoa ∧ (s.checkHold).chip = s.chip ∧ (s.checkHold).tack =
      s.tack ∧ (s.checkHold).recd = s.recd ∧ (s.checkHold).net = s.net ∧ (s.checkHold).tim = s.tim ∧
      (s.checkHold).gnb = s.gnb ∧ (s.checkHold).gait = s.gait ∧ (s.checkHold).pad = s.pad ∧ (s.checkHold).fix =
      s.fix ∧ (s.checkHold).air = s.air ∧ (s.checkHold).byl = s.byl := by
  unfold State.checkHold
  try simp
  all_goals (repeat' split) <;> simp_all

@[simp] theorem State.reportWhoa_frame (s : State) :
    (s.reportWhoa).pending = s.pending ∧ (s.reportWhoa).cyc = s.cyc ∧ (s.reportWhoa).hostMem = s.hostMem ∧
      (s.reportWhoa).live = s.live ∧ (s.reportWhoa).whoa = s.whoa ∧ (s.reportWhoa).chip = s.chip ∧
      (s.reportWhoa).tack = s.tack ∧ (s.reportWhoa).recd = s.recd ∧ (s.reportWhoa).net = s.net ∧ (s.reportWhoa).tim
      = s.tim ∧ (s.reportWhoa).gnb = s.gnb ∧ (s.reportWhoa).gait = s.gait ∧ (s.reportWhoa).pad = s.pad ∧
      (s.reportWhoa).fix = s.fix ∧ (s.reportWhoa).air = s.air ∧ (s.reportWhoa).byl = s.byl := by
  unfold State.reportWhoa
  try simp
  all_goals (repeat' split) <;> simp_all

@[simp] theorem State.whoaEval_frame (s : State) :
    (s.whoaEval).pending = s.pending ∧ (s.whoaEval).cyc = s.cyc ∧ (s.whoaEval).hostMem = s.hostMem ∧
      (s.whoaEval).live = s.live ∧ (s.whoaEval).chip = s.chip ∧ (s.whoaEval).tack = s.tack ∧ (s.whoaEval).tim =
      s.tim ∧ (s.whoaEval).gnb = s.gnb ∧ (s.whoaEval).gait = s.gait ∧ (s.whoaEval).pad = s.pad ∧ (s.whoaEval).fix =
      s.fix ∧ (s.whoaEval).air = s.air ∧ (s.whoaEval).byl = s.byl := by
  unfold State.whoaEval
  try simp
  all_goals (repeat' split) <;> simp_all

@[simp] theorem State.requestStop_frame (s : State) :
    (s.requestStop).pending = s.pending ∧ (s.requestStop).cyc = s.cyc ∧ (s.requestStop).hostMem = s.hostMem ∧
      (s.requestStop).live = s.live ∧ (s.requestStop).chip = s.chip ∧ (s.requestStop).tack = s.tack ∧
      (s.requestStop).tim = s.tim ∧ (s.requestStop).gnb = s.gnb ∧ (s.requestStop).gait = s.gait ∧
      (s.requestStop).pad = s.pad ∧ (s.requestStop).fix = s.fix ∧ (s.requestStop).air = s.air ∧ (s.requestStop).byl
      = s.byl := by
  unfold State.requestStop
  try simp
  all_goals (repeat' split) <;> simp_all

@[simp] theorem State.reportSweeps_frame (s : State) :
    (s.reportSweeps).pending = s.pending ∧ (s.reportSweeps).cyc = s.cyc ∧ (s.reportSweeps).hostMem = s.hostMem ∧
      (s.reportSweeps).live = s.live ∧ (s.reportSweeps).whoa = s.whoa ∧ (s.reportSweeps).chip = s.chip ∧
      (s.reportSweeps).tack = s.tack ∧ (s.reportSweeps).recd = s.recd ∧ (s.reportSweeps).net = s.net ∧
      (s.reportSweeps).tim = s.tim ∧ (s.reportSweeps).gnb = s.gnb ∧ (s.reportSweeps).gait = s.gait ∧
      (s.reportSweeps).pad = s.pad ∧ (s.reportSweeps).fix = s.fix ∧ (s.reportSweeps).air = s.air ∧
      (s.reportSweeps).byl = s.byl := by
  unfold State.reportSweeps
  try simp
  all_goals (repeat' split) <;> simp_all

@[simp] theorem State.seatSweeps_frame (s : State) :
    (s.seatSweeps).pending = s.pending ∧ (s.seatSweeps).cyc = s.cyc ∧ (s.seatSweeps).hostMem = s.hostMem ∧
      (s.seatSweeps).live = s.live ∧ (s.seatSweeps).whoa = s.whoa ∧ (s.seatSweeps).chip = s.chip ∧
      (s.seatSweeps).tack = s.tack ∧ (s.seatSweeps).recd = s.recd ∧ (s.seatSweeps).net = s.net ∧ (s.seatSweeps).tim
      = s.tim ∧ (s.seatSweeps).gnb = s.gnb ∧ (s.seatSweeps).gait = s.gait ∧ (s.seatSweeps).fix = s.fix ∧
      (s.seatSweeps).air = s.air ∧ (s.seatSweeps).byl = s.byl := by
  unfold State.seatSweeps
  try simp
  all_goals (repeat' split) <;> simp_all

@[simp] theorem State.dropSweep_frame (s : State) (x1 : Nat) :
    (s.dropSweep x1).pending = s.pending ∧ (s.dropSweep x1).cyc = s.cyc ∧ (s.dropSweep x1).hostMem = s.hostMem ∧
      (s.dropSweep x1).live = s.live ∧ (s.dropSweep x1).whoa = s.whoa ∧ (s.dropSweep x1).chip = s.chip ∧
      (s.dropSweep x1).tack = s.tack ∧ (s.dropSweep x1).recd = s.recd ∧ (s.dropSweep x1).net = s.net ∧ (s.dropSweep
      x1).tim = s.tim ∧ (s.dropSweep x1).gnb = s.gnb ∧ (s.dropSweep x1).gait = s.gait ∧ (s.dropSweep x1).fix = s.fix
      ∧ (s.dropSweep x1).air = s.air := by
  unfold State.dropSweep
  try simp
  all_goals (repeat' split) <;> simp_all

@[simp] theorem State.leavePad_frame (s : State) (x1 : Nat) :
    (s.leavePad x1).pending = s.pending ∧ (s.leavePad x1).cyc = s.cyc ∧ (s.leavePad x1).hostMem = s.hostMem ∧
      (s.leavePad x1).live = s.live ∧ (s.leavePad x1).whoa = s.whoa ∧ (s.leavePad x1).chip = s.chip ∧ (s.leavePad
      x1).tack = s.tack ∧ (s.leavePad x1).recd = s.recd ∧ (s.leavePad x1).net = s.net ∧ (s.leavePad x1).tim = s.tim
      ∧ (s.leavePad x1).gnb = s.gnb ∧ (s.leavePad x1).gait = s.gait ∧ (s.leavePad x1).fix = s.fix ∧ (s.leavePad
      x1).air = s.air := by
  unfold State.leavePad
  try simp
  all_goals (repeat' split) <;> simp_all

@[simp] theorem State.endCaptureAt_frame (s : State) (x1 : Nat) (x2 : Nat) (x3 : Nat) (x4 : Status) :
    (s.endCaptureAt x1 x2 x3 x4).pending = s.pending ∧ (s.endCaptureAt x1 x2 x3 x4).cyc = s.cyc ∧ (s.endCaptureAt x1
      x2 x3 x4).hostMem = s.hostMem ∧ (s.endCaptureAt x1 x2 x3 x4).live = s.live ∧ (s.endCaptureAt x1 x2 x3 x4).whoa
      = s.whoa ∧ (s.endCaptureAt x1 x2 x3 x4).chip = s.chip ∧ (s.endCaptureAt x1 x2 x3 x4).tack = s.tack ∧
      (s.endCaptureAt x1 x2 x3 x4).net = s.net ∧ (s.endCaptureAt x1 x2 x3 x4).tim = s.tim ∧ (s.endCaptureAt x1 x2 x3
      x4).gnb = s.gnb ∧ (s.endCaptureAt x1 x2 x3 x4).gait = s.gait ∧ (s.endCaptureAt x1 x2 x3 x4).pad = s.pad ∧
      (s.endCaptureAt x1 x2 x3 x4).fix = s.fix ∧ (s.endCaptureAt x1 x2 x3 x4).air = s.air ∧ (s.endCaptureAt x1 x2 x3
      x4).byl = s.byl := by
  unfold State.endCaptureAt
  try simp
  all_goals (repeat' split) <;> simp_all

@[simp] theorem State.dropItem_frame (s : State) (x1 : Nat) :
    (s.dropItem x1).pending = s.pending ∧ (s.dropItem x1).cyc = s.cyc ∧ (s.dropItem x1).hostMem = s.hostMem ∧
      (s.dropItem x1).live = s.live ∧ (s.dropItem x1).whoa = s.whoa ∧ (s.dropItem x1).chip = s.chip ∧ (s.dropItem
      x1).tack = s.tack ∧ (s.dropItem x1).recd = s.recd ∧ (s.dropItem x1).net = s.net ∧ (s.dropItem x1).tim = s.tim
      ∧ (s.dropItem x1).gnb = s.gnb ∧ (s.dropItem x1).gait = s.gait ∧ (s.dropItem x1).pad = s.pad ∧ (s.dropItem
      x1).fix = s.fix ∧ (s.dropItem x1).air = s.air ∧ (s.dropItem x1).byl = s.byl := by
  unfold State.dropItem
  try simp
  all_goals (repeat' split) <;> simp_all

@[simp] theorem State.endEpoch_frame (s : State) (x1 : Item) (x2 : Nat) (x3 : Nat) (x4 : Status) (x5 : PlanOutcome)
    (x6 : Nat) :
    (s.endEpoch x1 x2 x3 x4 x5 x6).pending = s.pending ∧ (s.endEpoch x1 x2 x3 x4 x5 x6).cyc = s.cyc ∧ (s.endEpoch x1
      x2 x3 x4 x5 x6).hostMem = s.hostMem ∧ (s.endEpoch x1 x2 x3 x4 x5 x6).live = s.live ∧ (s.endEpoch x1 x2 x3 x4
      x5 x6).whoa = s.whoa ∧ (s.endEpoch x1 x2 x3 x4 x5 x6).chip = s.chip ∧ (s.endEpoch x1 x2 x3 x4 x5 x6).tack =
      s.tack ∧ (s.endEpoch x1 x2 x3 x4 x5 x6).recd = s.recd ∧ (s.endEpoch x1 x2 x3 x4 x5 x6).net = s.net ∧
      (s.endEpoch x1 x2 x3 x4 x5 x6).tim = s.tim ∧ (s.endEpoch x1 x2 x3 x4 x5 x6).gnb = s.gnb ∧ (s.endEpoch x1 x2 x3
      x4 x5 x6).gait = s.gait ∧ (s.endEpoch x1 x2 x3 x4 x5 x6).pad = s.pad ∧ (s.endEpoch x1 x2 x3 x4 x5 x6).air =
      s.air ∧ (s.endEpoch x1 x2 x3 x4 x5 x6).byl = s.byl := by
  unfold State.endEpoch
  try simp
  all_goals (repeat' split) <;> simp_all

@[simp] theorem State.failItem_frame (s : State) (x1 : Item) (x2 : Nat) (x3 : Nat) (x4 : Status) :
    (s.failItem x1 x2 x3 x4).pending = s.pending ∧ (s.failItem x1 x2 x3 x4).cyc = s.cyc ∧ (s.failItem x1 x2 x3
      x4).hostMem = s.hostMem ∧ (s.failItem x1 x2 x3 x4).live = s.live ∧ (s.failItem x1 x2 x3 x4).whoa = s.whoa ∧
      (s.failItem x1 x2 x3 x4).chip = s.chip ∧ (s.failItem x1 x2 x3 x4).tack = s.tack ∧ (s.failItem x1 x2 x3
      x4).recd = s.recd ∧ (s.failItem x1 x2 x3 x4).net = s.net ∧ (s.failItem x1 x2 x3 x4).tim = s.tim ∧ (s.failItem
      x1 x2 x3 x4).gnb = s.gnb ∧ (s.failItem x1 x2 x3 x4).gait = s.gait ∧ (s.failItem x1 x2 x3 x4).pad = s.pad ∧
      (s.failItem x1 x2 x3 x4).air = s.air ∧ (s.failItem x1 x2 x3 x4).byl = s.byl := by
  unfold State.failItem
  try simp
  all_goals (repeat' split) <;> simp_all

@[simp] theorem State.failOne_frame (s : State) (x1 : Item) (x2 : Nat) (x3 : Nat) (x4 : Status) :
    (s.failOne x1 x2 x3 x4).pending = s.pending ∧ (s.failOne x1 x2 x3 x4).cyc = s.cyc ∧ (s.failOne x1 x2 x3
      x4).hostMem = s.hostMem ∧ (s.failOne x1 x2 x3 x4).live = s.live ∧ (s.failOne x1 x2 x3 x4).whoa = s.whoa ∧
      (s.failOne x1 x2 x3 x4).net = s.net ∧ (s.failOne x1 x2 x3 x4).air = s.air := by
  unfold State.failOne
  try simp
  all_goals (repeat' split) <;> simp_all

@[simp] theorem State.failList_frame (s : State) (x1 : List Item) (x2 : Nat) (x3 : Nat) (x4 : Status) :
    (s.failList x1 x2 x3 x4).pending = s.pending ∧ (s.failList x1 x2 x3 x4).cyc = s.cyc ∧ (s.failList x1 x2 x3
      x4).hostMem = s.hostMem ∧ (s.failList x1 x2 x3 x4).live = s.live ∧ (s.failList x1 x2 x3 x4).whoa = s.whoa ∧
      (s.failList x1 x2 x3 x4).net = s.net ∧ (s.failList x1 x2 x3 x4).air = s.air := by
  unfold State.failList
  try simp
  all_goals (repeat' split) <;> simp_all

@[simp] theorem State.dropSaved_frame (s : State) (x1 : LongOp) :
    (s.dropSaved x1).pending = s.pending ∧ (s.dropSaved x1).cyc = s.cyc ∧ (s.dropSaved x1).hostMem = s.hostMem ∧
      (s.dropSaved x1).live = s.live ∧ (s.dropSaved x1).whoa = s.whoa ∧ (s.dropSaved x1).net = s.net ∧ (s.dropSaved
      x1).gait = s.gait ∧ (s.dropSaved x1).air = s.air := by
  unfold State.dropSaved
  try simp
  all_goals (repeat' split) <;> simp_all

@[simp] theorem State.dspReset_frame (s : State) :
    (s.dspReset).pending = s.pending ∧ (s.dspReset).cyc = s.cyc ∧ (s.dspReset).hostMem = s.hostMem ∧
      (s.dspReset).live = s.live ∧ (s.dspReset).whoa = s.whoa ∧ (s.dspReset).chip = s.chip ∧ (s.dspReset).tack =
      s.tack ∧ (s.dspReset).recd = s.recd ∧ (s.dspReset).net = s.net ∧ (s.dspReset).tim = s.tim ∧ (s.dspReset).gnb =
      s.gnb ∧ (s.dspReset).gait = s.gait ∧ (s.dspReset).pad = s.pad ∧ (s.dspReset).fix = s.fix ∧ (s.dspReset).air =
      s.air ∧ (s.dspReset).byl = s.byl := by
  unfold State.dspReset
  refine ⟨?_, ?_, ?_, ?_, ?_, ?_, ?_, ?_, ?_, ?_, ?_, ?_, ?_, ?_, ?_, ?_⟩
  · refine (foldl_pending _ _ _ (fun b x r h => ?_)).trans ?_ <;> (try subst h) <;> ((repeat' split) <;> simp)
  · refine (foldl_cyc _ _ _ (fun b x r h => ?_)).trans ?_ <;> (try subst h) <;> ((repeat' split) <;> simp)
  · refine (foldl_hostMem _ _ _ (fun b x r h => ?_)).trans ?_ <;> (try subst h) <;> ((repeat' split) <;> simp)
  · refine (foldl_live _ _ _ (fun b x r h => ?_)).trans ?_ <;> (try subst h) <;> ((repeat' split) <;> simp)
  · refine (foldl_whoa _ _ _ (fun b x r h => ?_)).trans ?_ <;> (try subst h) <;> ((repeat' split) <;> simp)
  · refine (foldl_chip _ _ _ (fun b x r h => ?_)).trans ?_ <;> (try subst h) <;> ((repeat' split) <;> simp)
  · refine (foldl_tack _ _ _ (fun b x r h => ?_)).trans ?_ <;> (try subst h) <;> ((repeat' split) <;> simp)
  · refine (foldl_recd _ _ _ (fun b x r h => ?_)).trans ?_ <;> (try subst h) <;> ((repeat' split) <;> simp)
  · refine (foldl_net _ _ _ (fun b x r h => ?_)).trans ?_ <;> (try subst h) <;> ((repeat' split) <;> simp)
  · refine (foldl_tim _ _ _ (fun b x r h => ?_)).trans ?_ <;> (try subst h) <;> ((repeat' split) <;> simp)
  · refine (foldl_gnb _ _ _ (fun b x r h => ?_)).trans ?_ <;> (try subst h) <;> ((repeat' split) <;> simp)
  · refine (foldl_gait _ _ _ (fun b x r h => ?_)).trans ?_ <;> (try subst h) <;> ((repeat' split) <;> simp)
  · refine (foldl_pad _ _ _ (fun b x r h => ?_)).trans ?_ <;> (try subst h) <;> ((repeat' split) <;> simp)
  · refine (foldl_fix _ _ _ (fun b x r h => ?_)).trans ?_ <;> (try subst h) <;> ((repeat' split) <;> simp)
  · refine (foldl_air _ _ _ (fun b x r h => ?_)).trans ?_ <;> (try subst h) <;> ((repeat' split) <;> simp)
  · refine (foldl_byl _ _ _ (fun b x r h => ?_)).trans ?_ <;> (try subst h) <;> ((repeat' split) <;> simp)

@[simp] theorem State.sendConfig_frame (s : State) (x1 : Bool) :
    (s.sendConfig x1).pending = s.pending ∧ (s.sendConfig x1).cyc = s.cyc ∧ (s.sendConfig x1).hostMem = s.hostMem ∧
      (s.sendConfig x1).live = s.live ∧ (s.sendConfig x1).whoa = s.whoa ∧ (s.sendConfig x1).chip = s.chip ∧
      (s.sendConfig x1).tack = s.tack ∧ (s.sendConfig x1).net = s.net ∧ (s.sendConfig x1).tim = s.tim ∧
      (s.sendConfig x1).gnb = s.gnb ∧ (s.sendConfig x1).gait = s.gait ∧ (s.sendConfig x1).pad = s.pad ∧
      (s.sendConfig x1).fix = s.fix ∧ (s.sendConfig x1).byl = s.byl := by
  unfold State.sendConfig
  try simp
  all_goals (repeat' split) <;> simp_all

@[simp] theorem State.bylEvent_frame (s : State) (x1 : Nat) (x2 : Nat) :
    (s.bylEvent x1 x2).pending = s.pending ∧ (s.bylEvent x1 x2).cyc = s.cyc ∧ (s.bylEvent x1 x2).hostMem = s.hostMem
      ∧ (s.bylEvent x1 x2).live = s.live ∧ (s.bylEvent x1 x2).whoa = s.whoa ∧ (s.bylEvent x1 x2).chip = s.chip ∧
      (s.bylEvent x1 x2).tack = s.tack ∧ (s.bylEvent x1 x2).recd = s.recd ∧ (s.bylEvent x1 x2).net = s.net ∧
      (s.bylEvent x1 x2).tim = s.tim ∧ (s.bylEvent x1 x2).gnb = s.gnb ∧ (s.bylEvent x1 x2).gait = s.gait ∧
      (s.bylEvent x1 x2).pad = s.pad ∧ (s.bylEvent x1 x2).fix = s.fix ∧ (s.bylEvent x1 x2).air = s.air ∧ (s.bylEvent
      x1 x2).byl = s.byl := by
  unfold State.bylEvent
  try simp
  all_goals (repeat' split) <;> simp_all

@[simp] theorem State.enterRole_frame (s : State) (x1 : Nat) :
    (s.enterRole x1).pending = s.pending ∧ (s.enterRole x1).cyc = s.cyc ∧ (s.enterRole x1).hostMem = s.hostMem ∧
      (s.enterRole x1).live = s.live ∧ (s.enterRole x1).whoa = s.whoa ∧ (s.enterRole x1).chip = s.chip ∧
      (s.enterRole x1).tack = s.tack ∧ (s.enterRole x1).recd = s.recd ∧ (s.enterRole x1).net = s.net ∧ (s.enterRole
      x1).tim = s.tim ∧ (s.enterRole x1).gnb = s.gnb ∧ (s.enterRole x1).gait = s.gait ∧ (s.enterRole x1).pad = s.pad
      ∧ (s.enterRole x1).fix = s.fix ∧ (s.enterRole x1).air = s.air := by
  unfold State.enterRole
  try simp
  all_goals (repeat' split) <;> simp_all

@[simp] theorem State.bylEval_frame (s : State) :
    (s.bylEval).pending = s.pending ∧ (s.bylEval).cyc = s.cyc ∧ (s.bylEval).hostMem = s.hostMem ∧ (s.bylEval).live =
      s.live ∧ (s.bylEval).whoa = s.whoa ∧ (s.bylEval).chip = s.chip ∧ (s.bylEval).tack = s.tack ∧ (s.bylEval).recd
      = s.recd ∧ (s.bylEval).net = s.net ∧ (s.bylEval).tim = s.tim ∧ (s.bylEval).gnb = s.gnb ∧ (s.bylEval).gait =
      s.gait ∧ (s.bylEval).pad = s.pad ∧ (s.bylEval).fix = s.fix ∧ (s.bylEval).air = s.air := by
  unfold State.bylEval
  try simp
  all_goals (repeat' split) <;> simp_all

@[simp] theorem State.linkEvent_frame (s : State) :
    (s.linkEvent).pending = s.pending ∧ (s.linkEvent).cyc = s.cyc ∧ (s.linkEvent).hostMem = s.hostMem ∧
      (s.linkEvent).live = s.live ∧ (s.linkEvent).whoa = s.whoa ∧ (s.linkEvent).chip = s.chip ∧ (s.linkEvent).tack =
      s.tack ∧ (s.linkEvent).recd = s.recd ∧ (s.linkEvent).net = s.net ∧ (s.linkEvent).tim = s.tim ∧
      (s.linkEvent).gnb = s.gnb ∧ (s.linkEvent).gait = s.gait ∧ (s.linkEvent).pad = s.pad ∧ (s.linkEvent).fix =
      s.fix ∧ (s.linkEvent).air = s.air ∧ (s.linkEvent).byl = s.byl := by
  unfold State.linkEvent
  try simp
  all_goals (repeat' split) <;> simp_all

@[simp] theorem State.gaitCommitted_frame (s : State) (x1 : Item) (x2 : Res) :
    (s.gaitCommitted x1 x2).pending = s.pending ∧ (s.gaitCommitted x1 x2).cyc = s.cyc ∧ (s.gaitCommitted x1
      x2).hostMem = s.hostMem ∧ (s.gaitCommitted x1 x2).live = s.live ∧ (s.gaitCommitted x1 x2).whoa = s.whoa ∧
      (s.gaitCommitted x1 x2).chip = s.chip ∧ (s.gaitCommitted x1 x2).tack = s.tack ∧ (s.gaitCommitted x1 x2).recd =
      s.recd ∧ (s.gaitCommitted x1 x2).net = s.net ∧ (s.gaitCommitted x1 x2).tim = s.tim ∧ (s.gaitCommitted x1
      x2).gnb = s.gnb ∧ (s.gaitCommitted x1 x2).pad = s.pad ∧ (s.gaitCommitted x1 x2).fix = s.fix ∧ (s.gaitCommitted
      x1 x2).air = s.air ∧ (s.gaitCommitted x1 x2).byl = s.byl := by
  unfold State.gaitCommitted
  try simp
  all_goals (repeat' split) <;> simp_all

@[simp] theorem State.commitDone_frame (s : State) (x1 : Item) (x2 : Res) :
    (s.commitDone x1 x2).pending = s.pending ∧ (s.commitDone x1 x2).cyc = s.cyc ∧ (s.commitDone x1 x2).hostMem =
      s.hostMem ∧ (s.commitDone x1 x2).live = s.live ∧ (s.commitDone x1 x2).whoa = s.whoa ∧ (s.commitDone x1
      x2).chip = s.chip ∧ (s.commitDone x1 x2).tack = s.tack ∧ (s.commitDone x1 x2).recd = s.recd ∧ (s.commitDone x1
      x2).net = s.net ∧ (s.commitDone x1 x2).tim = s.tim ∧ (s.commitDone x1 x2).gnb = s.gnb ∧ (s.commitDone x1
      x2).pad = s.pad ∧ (s.commitDone x1 x2).fix = s.fix ∧ (s.commitDone x1 x2).air = s.air ∧ (s.commitDone x1
      x2).byl = s.byl := by
  unfold State.commitDone
  try simp
  all_goals (repeat' split) <;> simp_all

@[simp] theorem State.pairBroken_frame (s : State) :
    (s.pairBroken).pending = s.pending ∧ (s.pairBroken).cyc = s.cyc ∧ (s.pairBroken).hostMem = s.hostMem ∧
      (s.pairBroken).live = s.live ∧ (s.pairBroken).whoa = s.whoa ∧ (s.pairBroken).chip = s.chip ∧
      (s.pairBroken).tack = s.tack ∧ (s.pairBroken).recd = s.recd ∧ (s.pairBroken).net = s.net ∧ (s.pairBroken).tim
      = s.tim ∧ (s.pairBroken).gnb = s.gnb ∧ (s.pairBroken).fix = s.fix ∧ (s.pairBroken).air = s.air ∧
      (s.pairBroken).byl = s.byl := by
  unfold State.pairBroken
  try simp
  all_goals (repeat' split) <;> simp_all

@[simp] theorem State.linkDown_frame (s : State) (x1 : Nat) :
    (s.linkDown x1).pending = s.pending ∧ (s.linkDown x1).cyc = s.cyc ∧ (s.linkDown x1).hostMem = s.hostMem ∧
      (s.linkDown x1).live = s.live ∧ (s.linkDown x1).whoa = s.whoa ∧ (s.linkDown x1).chip = s.chip ∧ (s.linkDown
      x1).tack = s.tack ∧ (s.linkDown x1).recd = s.recd ∧ (s.linkDown x1).net = s.net ∧ (s.linkDown x1).tim = s.tim
      ∧ (s.linkDown x1).gnb = s.gnb ∧ (s.linkDown x1).fix = s.fix ∧ (s.linkDown x1).air = s.air := by
  unfold State.linkDown
  try simp
  all_goals (repeat' split) <;> simp_all

@[simp] theorem State.bylReset_frame (s : State) :
    (s.bylReset).pending = s.pending ∧ (s.bylReset).cyc = s.cyc ∧ (s.bylReset).hostMem = s.hostMem ∧
      (s.bylReset).live = s.live ∧ (s.bylReset).whoa = s.whoa ∧ (s.bylReset).chip = s.chip ∧ (s.bylReset).tack =
      s.tack ∧ (s.bylReset).net = s.net ∧ (s.bylReset).tim = s.tim ∧ (s.bylReset).gnb = s.gnb ∧ (s.bylReset).fix =
      s.fix := by
  unfold State.bylReset
  try simp
  all_goals (repeat' split) <;> simp_all

@[simp] theorem State.reportTime_frame (s : State) :
    (s.reportTime).pending = s.pending ∧ (s.reportTime).cyc = s.cyc ∧ (s.reportTime).hostMem = s.hostMem ∧
      (s.reportTime).live = s.live ∧ (s.reportTime).whoa = s.whoa ∧ (s.reportTime).chip = s.chip ∧
      (s.reportTime).tack = s.tack ∧ (s.reportTime).net = s.net ∧ (s.reportTime).gnb = s.gnb ∧ (s.reportTime).gait =
      s.gait ∧ (s.reportTime).pad = s.pad ∧ (s.reportTime).air = s.air ∧ (s.reportTime).byl = s.byl := by
  unfold State.reportTime
  try simp
  all_goals (repeat' split) <;> simp_all

@[simp] theorem State.timHalter_frame (s : State) :
    (s.timHalter).pending = s.pending ∧ (s.timHalter).cyc = s.cyc ∧ (s.timHalter).hostMem = s.hostMem ∧
      (s.timHalter).live = s.live ∧ (s.timHalter).whoa = s.whoa ∧ (s.timHalter).chip = s.chip ∧ (s.timHalter).tack =
      s.tack ∧ (s.timHalter).net = s.net ∧ (s.timHalter).gnb = s.gnb ∧ (s.timHalter).gait = s.gait ∧
      (s.timHalter).pad = s.pad ∧ (s.timHalter).air = s.air ∧ (s.timHalter).byl = s.byl := by
  unfold State.timHalter
  try simp
  all_goals (repeat' split) <;> simp_all

@[simp] theorem State.halterStates_frame (s : State) :
    (s.halterStates).pending = s.pending ∧ (s.halterStates).cyc = s.cyc ∧ (s.halterStates).hostMem = s.hostMem ∧
      (s.halterStates).live = s.live ∧ (s.halterStates).whoa = s.whoa ∧ (s.halterStates).chip = s.chip ∧
      (s.halterStates).tack = s.tack ∧ (s.halterStates).recd = s.recd ∧ (s.halterStates).net = s.net ∧
      (s.halterStates).tim = s.tim ∧ (s.halterStates).gnb = s.gnb ∧ (s.halterStates).gait = s.gait ∧
      (s.halterStates).pad = s.pad ∧ (s.halterStates).fix = s.fix ∧ (s.halterStates).air = s.air ∧
      (s.halterStates).byl = s.byl := by
  unfold State.halterStates
  try simp
  all_goals (repeat' split) <;> simp_all

@[simp] theorem State.enterHalter_frame (s : State) (x1 : Nat) (x2 : Nat) (x3 : Bool) :
    (s.enterHalter x1 x2 x3).pending = s.pending ∧ (s.enterHalter x1 x2 x3).cyc = s.cyc ∧ (s.enterHalter x1 x2
      x3).hostMem = s.hostMem ∧ (s.enterHalter x1 x2 x3).live = s.live ∧ (s.enterHalter x1 x2 x3).whoa = s.whoa ∧
      (s.enterHalter x1 x2 x3).net = s.net := by
  unfold State.enterHalter
  try simp
  all_goals (repeat' split) <;> simp_all

@[simp] theorem State.wr128_frame (s : State) (x1 : Nat) (x2 : Nat) :
    (s.wr128 x1 x2).pending = s.pending ∧ (s.wr128 x1 x2).cyc = s.cyc ∧ (s.wr128 x1 x2).hostMem = s.hostMem ∧
      (s.wr128 x1 x2).live = s.live ∧ (s.wr128 x1 x2).whoa = s.whoa ∧ (s.wr128 x1 x2).chip = s.chip ∧ (s.wr128 x1
      x2).tack = s.tack ∧ (s.wr128 x1 x2).recd = s.recd ∧ (s.wr128 x1 x2).net = s.net ∧ (s.wr128 x1 x2).tim = s.tim
      ∧ (s.wr128 x1 x2).gnb = s.gnb ∧ (s.wr128 x1 x2).gait = s.gait ∧ (s.wr128 x1 x2).pad = s.pad ∧ (s.wr128 x1
      x2).fix = s.fix ∧ (s.wr128 x1 x2).air = s.air ∧ (s.wr128 x1 x2).byl = s.byl := by
  unfold State.wr128
  try simp
  all_goals (repeat' split) <;> simp_all

@[simp] theorem State.reportRollback_frame (s : State) :
    (s.reportRollback).pending = s.pending ∧ (s.reportRollback).cyc = s.cyc ∧ (s.reportRollback).hostMem = s.hostMem
      ∧ (s.reportRollback).live = s.live ∧ (s.reportRollback).whoa = s.whoa ∧ (s.reportRollback).chip = s.chip ∧
      (s.reportRollback).tack = s.tack ∧ (s.reportRollback).recd = s.recd ∧ (s.reportRollback).net = s.net ∧
      (s.reportRollback).tim = s.tim ∧ (s.reportRollback).gnb = s.gnb ∧ (s.reportRollback).gait = s.gait ∧
      (s.reportRollback).pad = s.pad ∧ (s.reportRollback).fix = s.fix ∧ (s.reportRollback).air = s.air ∧
      (s.reportRollback).byl = s.byl := by
  unfold State.reportRollback
  try simp
  all_goals (repeat' split) <;> simp_all

@[simp] theorem State.reportPolicy_frame (s : State) :
    (s.reportPolicy).pending = s.pending ∧ (s.reportPolicy).cyc = s.cyc ∧ (s.reportPolicy).hostMem = s.hostMem ∧
      (s.reportPolicy).live = s.live ∧ (s.reportPolicy).whoa = s.whoa ∧ (s.reportPolicy).chip = s.chip ∧
      (s.reportPolicy).tack = s.tack ∧ (s.reportPolicy).recd = s.recd ∧ (s.reportPolicy).net = s.net ∧
      (s.reportPolicy).tim = s.tim ∧ (s.reportPolicy).gnb = s.gnb ∧ (s.reportPolicy).gait = s.gait ∧
      (s.reportPolicy).pad = s.pad ∧ (s.reportPolicy).fix = s.fix ∧ (s.reportPolicy).air = s.air ∧
      (s.reportPolicy).byl = s.byl := by
  unfold State.reportPolicy
  try simp
  all_goals (repeat' split) <;> simp_all

@[simp] theorem State.reportPart_frame (s : State) :
    (s.reportPart).pending = s.pending ∧ (s.reportPart).cyc = s.cyc ∧ (s.reportPart).hostMem = s.hostMem ∧
      (s.reportPart).live = s.live ∧ (s.reportPart).whoa = s.whoa ∧ (s.reportPart).chip = s.chip ∧
      (s.reportPart).tack = s.tack ∧ (s.reportPart).recd = s.recd ∧ (s.reportPart).net = s.net ∧ (s.reportPart).tim
      = s.tim ∧ (s.reportPart).gnb = s.gnb ∧ (s.reportPart).gait = s.gait ∧ (s.reportPart).pad = s.pad ∧
      (s.reportPart).fix = s.fix ∧ (s.reportPart).air = s.air ∧ (s.reportPart).byl = s.byl := by
  unfold State.reportPart
  try simp
  all_goals (repeat' split) <;> simp_all

@[simp] theorem State.drawNonce_frame (s : State) :
    (s.drawNonce).pending = s.pending ∧ (s.drawNonce).cyc = s.cyc ∧ (s.drawNonce).hostMem = s.hostMem ∧
      (s.drawNonce).live = s.live ∧ (s.drawNonce).whoa = s.whoa ∧ (s.drawNonce).chip = s.chip ∧ (s.drawNonce).tack =
      s.tack ∧ (s.drawNonce).recd = s.recd ∧ (s.drawNonce).net = s.net ∧ (s.drawNonce).tim = s.tim ∧
      (s.drawNonce).gnb = s.gnb ∧ (s.drawNonce).gait = s.gait ∧ (s.drawNonce).pad = s.pad ∧ (s.drawNonce).fix =
      s.fix ∧ (s.drawNonce).air = s.air ∧ (s.drawNonce).byl = s.byl := by
  unfold State.drawNonce
  try simp
  all_goals (repeat' split) <;> simp_all

@[simp] theorem State.layAreas_frame (s : State) (x1 : Nat) (x2 : Nat) (x3 : List Nat) :
    (s.layAreas x1 x2 x3).pending = s.pending ∧ (s.layAreas x1 x2 x3).cyc = s.cyc ∧ (s.layAreas x1 x2 x3).hostMem =
      s.hostMem ∧ (s.layAreas x1 x2 x3).live = s.live ∧ (s.layAreas x1 x2 x3).whoa = s.whoa ∧ (s.layAreas x1 x2
      x3).chip = s.chip ∧ (s.layAreas x1 x2 x3).tack = s.tack ∧ (s.layAreas x1 x2 x3).recd = s.recd ∧ (s.layAreas x1
      x2 x3).net = s.net ∧ (s.layAreas x1 x2 x3).tim = s.tim ∧ (s.layAreas x1 x2 x3).gnb = s.gnb ∧ (s.layAreas x1 x2
      x3).gait = s.gait ∧ (s.layAreas x1 x2 x3).pad = s.pad ∧ (s.layAreas x1 x2 x3).fix = s.fix ∧ (s.layAreas x1 x2
      x3).air = s.air ∧ (s.layAreas x1 x2 x3).byl = s.byl := by
  induction x3 generalizing s x1 x2 with
  | nil => simp [State.layAreas]
  | cons a r ih => unfold State.layAreas; (repeat' split) <;> simp_all

@[simp] theorem State.trainDram_frame (s : State) :
    (s.trainDram).pending = s.pending ∧ (s.trainDram).cyc = s.cyc ∧ (s.trainDram).hostMem = s.hostMem ∧
      (s.trainDram).live = s.live ∧ (s.trainDram).whoa = s.whoa ∧ (s.trainDram).chip = s.chip ∧ (s.trainDram).tack =
      s.tack ∧ (s.trainDram).recd = s.recd ∧ (s.trainDram).net = s.net ∧ (s.trainDram).tim = s.tim ∧
      (s.trainDram).gnb = s.gnb ∧ (s.trainDram).gait = s.gait ∧ (s.trainDram).pad = s.pad ∧ (s.trainDram).fix =
      s.fix ∧ (s.trainDram).air = s.air ∧ (s.trainDram).byl = s.byl := by
  unfold State.trainDram
  try simp
  all_goals (repeat' split) <;> simp_all

@[simp] theorem State.deriveRoot_frame (s : State) :
    (s.deriveRoot).pending = s.pending ∧ (s.deriveRoot).cyc = s.cyc ∧ (s.deriveRoot).hostMem = s.hostMem ∧
      (s.deriveRoot).live = s.live ∧ (s.deriveRoot).whoa = s.whoa ∧ (s.deriveRoot).chip = s.chip ∧
      (s.deriveRoot).recd = s.recd ∧ (s.deriveRoot).net = s.net ∧ (s.deriveRoot).tim = s.tim ∧ (s.deriveRoot).gnb =
      s.gnb ∧ (s.deriveRoot).gait = s.gait ∧ (s.deriveRoot).pad = s.pad ∧ (s.deriveRoot).fix = s.fix ∧
      (s.deriveRoot).air = s.air ∧ (s.deriveRoot).byl = s.byl := by
  unfold State.deriveRoot
  try simp
  all_goals (repeat' split) <;> simp_all

@[simp] theorem State.bootHalter_frame (s : State) (x1 : Nat) :
    (s.bootHalter x1).pending = s.pending ∧ (s.bootHalter x1).cyc = s.cyc ∧ (s.bootHalter x1).hostMem = s.hostMem ∧
      (s.bootHalter x1).live = s.live ∧ (s.bootHalter x1).whoa = s.whoa ∧ (s.bootHalter x1).chip = s.chip ∧
      (s.bootHalter x1).tack = s.tack ∧ (s.bootHalter x1).recd = s.recd ∧ (s.bootHalter x1).net = s.net ∧
      (s.bootHalter x1).tim = s.tim ∧ (s.bootHalter x1).gnb = s.gnb ∧ (s.bootHalter x1).gait = s.gait ∧
      (s.bootHalter x1).pad = s.pad ∧ (s.bootHalter x1).fix = s.fix ∧ (s.bootHalter x1).air = s.air ∧ (s.bootHalter
      x1).byl = s.byl := by
  unfold State.bootHalter
  try simp
  all_goals (repeat' split) <;> simp_all

@[simp] theorem State.hostWait_frame (s : State) :
    (s.hostWait).pending = s.pending ∧ (s.hostWait).cyc = s.cyc ∧ (s.hostWait).hostMem = s.hostMem ∧
      (s.hostWait).live = s.live ∧ (s.hostWait).whoa = s.whoa ∧ (s.hostWait).chip = s.chip ∧ (s.hostWait).tack =
      s.tack ∧ (s.hostWait).recd = s.recd ∧ (s.hostWait).net = s.net ∧ (s.hostWait).tim = s.tim ∧ (s.hostWait).gnb =
      s.gnb ∧ (s.hostWait).gait = s.gait ∧ (s.hostWait).pad = s.pad ∧ (s.hostWait).fix = s.fix ∧ (s.hostWait).air =
      s.air ∧ (s.hostWait).byl = s.byl := by
  unfold State.hostWait
  try simp
  all_goals (repeat' split) <;> simp_all

@[simp] theorem State.loadParams_frame (s : State) (x1 : Nat) (x2 : List Sys2Proof.Word) :
    (s.loadParams x1 x2).pending = s.pending ∧ (s.loadParams x1 x2).cyc = s.cyc ∧ (s.loadParams x1 x2).hostMem =
      s.hostMem ∧ (s.loadParams x1 x2).whoa = s.whoa ∧ (s.loadParams x1 x2).chip = s.chip ∧ (s.loadParams x1
      x2).tack = s.tack ∧ (s.loadParams x1 x2).recd = s.recd ∧ (s.loadParams x1 x2).net = s.net ∧ (s.loadParams x1
      x2).tim = s.tim ∧ (s.loadParams x1 x2).gnb = s.gnb ∧ (s.loadParams x1 x2).gait = s.gait ∧ (s.loadParams x1
      x2).pad = s.pad ∧ (s.loadParams x1 x2).fix = s.fix ∧ (s.loadParams x1 x2).air = s.air ∧ (s.loadParams x1
      x2).byl = s.byl := by
  induction x2 generalizing s x1 with
  | nil => simp [State.loadParams]
  | cons a r ih => unfold State.loadParams; (repeat' split) <;> simp_all

@[simp] theorem State.setLanes_frame (s : State) (x1 : Nat) :
    (s.setLanes x1).pending = s.pending ∧ (s.setLanes x1).cyc = s.cyc ∧ (s.setLanes x1).hostMem = s.hostMem ∧
      (s.setLanes x1).live = s.live ∧ (s.setLanes x1).whoa = s.whoa ∧ (s.setLanes x1).chip = s.chip ∧ (s.setLanes
      x1).tack = s.tack ∧ (s.setLanes x1).recd = s.recd ∧ (s.setLanes x1).net = s.net ∧ (s.setLanes x1).tim = s.tim
      ∧ (s.setLanes x1).gnb = s.gnb ∧ (s.setLanes x1).gait = s.gait ∧ (s.setLanes x1).pad = s.pad ∧ (s.setLanes
      x1).fix = s.fix ∧ (s.setLanes x1).air = s.air ∧ (s.setLanes x1).byl = s.byl := by
  unfold State.setLanes
  try simp
  all_goals (repeat' split) <;> simp_all

@[simp] theorem State.startRun_frame (s : State) (x1 : Image) (x2 : Image) :
    (s.startRun x1 x2).pending = s.pending ∧ (s.startRun x1 x2).cyc = s.cyc ∧ (s.startRun x1 x2).hostMem = s.hostMem
      ∧ (s.startRun x1 x2).whoa = s.whoa ∧ (s.startRun x1 x2).tack = s.tack ∧ (s.startRun x1 x2).recd = s.recd ∧
      (s.startRun x1 x2).net = s.net ∧ (s.startRun x1 x2).tim = s.tim ∧ (s.startRun x1 x2).gnb = s.gnb ∧ (s.startRun
      x1 x2).gait = s.gait ∧ (s.startRun x1 x2).pad = s.pad ∧ (s.startRun x1 x2).fix = s.fix ∧ (s.startRun x1
      x2).air = s.air ∧ (s.startRun x1 x2).byl = s.byl := by
  unfold State.startRun
  try simp
  all_goals (repeat' split) <;> simp_all

@[simp] theorem State.bootFlash_frame (s : State) :
    (s.bootFlash).pending = s.pending ∧ (s.bootFlash).cyc = s.cyc ∧ (s.bootFlash).hostMem = s.hostMem ∧
      (s.bootFlash).whoa = s.whoa ∧ (s.bootFlash).tack = s.tack ∧ (s.bootFlash).recd = s.recd ∧ (s.bootFlash).net =
      s.net ∧ (s.bootFlash).tim = s.tim ∧ (s.bootFlash).gnb = s.gnb ∧ (s.bootFlash).gait = s.gait ∧
      (s.bootFlash).pad = s.pad ∧ (s.bootFlash).fix = s.fix ∧ (s.bootFlash).air = s.air ∧ (s.bootFlash).byl = s.byl := by
  unfold State.bootFlash
  try simp
  all_goals (repeat' split) <;> simp_all

@[simp] theorem State.boot_frame (s : State) (x1 : Nat) :
    (s.boot x1).pending = s.pending ∧ (s.boot x1).cyc = s.cyc ∧ (s.boot x1).hostMem = s.hostMem ∧ (s.boot x1).tim =
      s.tim ∧ (s.boot x1).gnb = s.gnb ∧ (s.boot x1).gait = s.gait ∧ (s.boot x1).pad = s.pad ∧ (s.boot x1).fix =
      s.fix ∧ (s.boot x1).air = s.air ∧ (s.boot x1).byl = s.byl := by
  unfold State.boot
  try simp
  all_goals (repeat' split) <;> simp_all

@[simp] theorem State.fullReset_frame (s : State) (x1 : Bits) :
    (s.fullReset x1).pending = s.pending ∧ (s.fullReset x1).cyc = s.cyc ∧ (s.fullReset x1).hostMem = s.hostMem := by
  simp only [State.fullReset]
  simp

@[simp] theorem State.errorReset_frame (s : State) (x1 : Nat) :
    (s.errorReset x1).pending = s.pending ∧ (s.errorReset x1).cyc = s.cyc ∧ (s.errorReset x1).hostMem = s.hostMem := by
  unfold State.errorReset
  try simp
  all_goals (repeat' split) <;> simp_all

@[simp] theorem State.chipError_frame (s : State) (x1 : Nat) (x2 : Nat) :
    (s.chipError x1 x2).pending = s.pending ∧ (s.chipError x1 x2).cyc = s.cyc ∧ (s.chipError x1 x2).hostMem =
      s.hostMem := by
  unfold State.chipError
  try simp
  all_goals (repeat' split) <;> simp_all

@[simp] theorem State.noteReset_frame (s : State) (x1 : Nat) :
    (s.noteReset x1).pending = s.pending ∧ (s.noteReset x1).cyc = s.cyc ∧ (s.noteReset x1).hostMem = s.hostMem ∧
      (s.noteReset x1).live = s.live ∧ (s.noteReset x1).whoa = s.whoa ∧ (s.noteReset x1).chip = s.chip ∧
      (s.noteReset x1).tack = s.tack ∧ (s.noteReset x1).recd = s.recd ∧ (s.noteReset x1).net = s.net ∧ (s.noteReset
      x1).tim = s.tim ∧ (s.noteReset x1).gnb = s.gnb ∧ (s.noteReset x1).gait = s.gait ∧ (s.noteReset x1).pad = s.pad
      ∧ (s.noteReset x1).fix = s.fix ∧ (s.noteReset x1).air = s.air ∧ (s.noteReset x1).byl = s.byl := by
  unfold State.noteReset
  try simp
  all_goals (repeat' split) <;> simp_all

@[simp] theorem State.latchFault_frame (s : State) (x1 : Nat) :
    (s.latchFault x1).pending = s.pending ∧ (s.latchFault x1).cyc = s.cyc ∧ (s.latchFault x1).hostMem = s.hostMem ∧
      (s.latchFault x1).live = s.live ∧ (s.latchFault x1).chip = s.chip ∧ (s.latchFault x1).tack = s.tack ∧
      (s.latchFault x1).recd = s.recd ∧ (s.latchFault x1).net = s.net ∧ (s.latchFault x1).tim = s.tim ∧
      (s.latchFault x1).gnb = s.gnb ∧ (s.latchFault x1).gait = s.gait ∧ (s.latchFault x1).pad = s.pad ∧
      (s.latchFault x1).fix = s.fix ∧ (s.latchFault x1).air = s.air ∧ (s.latchFault x1).byl = s.byl := by
  unfold State.latchFault
  try simp
  all_goals (repeat' split) <;> simp_all

@[simp] theorem State.whoaRestart_frame (s : State) (x1 : Nat) :
    (s.whoaRestart x1).pending = s.pending ∧ (s.whoaRestart x1).cyc = s.cyc ∧ (s.whoaRestart x1).hostMem = s.hostMem
      ∧ (s.whoaRestart x1).live = s.live ∧ (s.whoaRestart x1).chip = s.chip ∧ (s.whoaRestart x1).tack = s.tack ∧
      (s.whoaRestart x1).tim = s.tim ∧ (s.whoaRestart x1).gnb = s.gnb ∧ (s.whoaRestart x1).gait = s.gait ∧
      (s.whoaRestart x1).pad = s.pad ∧ (s.whoaRestart x1).fix = s.fix ∧ (s.whoaRestart x1).air = s.air ∧
      (s.whoaRestart x1).byl = s.byl := by
  unfold State.whoaRestart
  try simp
  all_goals (repeat' split) <;> simp_all

@[simp] theorem State.resetRegs_frame (s : State) (x1 : Nat) :
    (s.resetRegs x1).pending = s.pending ∧ (s.resetRegs x1).cyc = s.cyc ∧ (s.resetRegs x1).hostMem = s.hostMem ∧
      (s.resetRegs x1).live = s.live ∧ (s.resetRegs x1).whoa = s.whoa ∧ (s.resetRegs x1).chip = s.chip ∧
      (s.resetRegs x1).tack = s.tack ∧ (s.resetRegs x1).recd = s.recd ∧ (s.resetRegs x1).net = s.net ∧ (s.resetRegs
      x1).tim = s.tim ∧ (s.resetRegs x1).gnb = s.gnb ∧ (s.resetRegs x1).gait = s.gait ∧ (s.resetRegs x1).pad = s.pad
      ∧ (s.resetRegs x1).fix = s.fix ∧ (s.resetRegs x1).air = s.air ∧ (s.resetRegs x1).byl = s.byl := by
  unfold State.resetRegs
  refine ⟨?_, ?_, ?_, ?_, ?_, ?_, ?_, ?_, ?_, ?_, ?_, ?_, ?_, ?_, ?_, ?_⟩
  · refine (foldl_pending _ _ _ (fun b x r h => ?_)).trans ?_ <;> (try subst h) <;> ((repeat' split) <;> simp)
  · refine (foldl_cyc _ _ _ (fun b x r h => ?_)).trans ?_ <;> (try subst h) <;> ((repeat' split) <;> simp)
  · refine (foldl_hostMem _ _ _ (fun b x r h => ?_)).trans ?_ <;> (try subst h) <;> ((repeat' split) <;> simp)
  · refine (foldl_live _ _ _ (fun b x r h => ?_)).trans ?_ <;> (try subst h) <;> ((repeat' split) <;> simp)
  · refine (foldl_whoa _ _ _ (fun b x r h => ?_)).trans ?_ <;> (try subst h) <;> ((repeat' split) <;> simp)
  · refine (foldl_chip _ _ _ (fun b x r h => ?_)).trans ?_ <;> (try subst h) <;> ((repeat' split) <;> simp)
  · refine (foldl_tack _ _ _ (fun b x r h => ?_)).trans ?_ <;> (try subst h) <;> ((repeat' split) <;> simp)
  · refine (foldl_recd _ _ _ (fun b x r h => ?_)).trans ?_ <;> (try subst h) <;> ((repeat' split) <;> simp)
  · refine (foldl_net _ _ _ (fun b x r h => ?_)).trans ?_ <;> (try subst h) <;> ((repeat' split) <;> simp)
  · refine (foldl_tim _ _ _ (fun b x r h => ?_)).trans ?_ <;> (try subst h) <;> ((repeat' split) <;> simp)
  · refine (foldl_gnb _ _ _ (fun b x r h => ?_)).trans ?_ <;> (try subst h) <;> ((repeat' split) <;> simp)
  · refine (foldl_gait _ _ _ (fun b x r h => ?_)).trans ?_ <;> (try subst h) <;> ((repeat' split) <;> simp)
  · refine (foldl_pad _ _ _ (fun b x r h => ?_)).trans ?_ <;> (try subst h) <;> ((repeat' split) <;> simp)
  · refine (foldl_fix _ _ _ (fun b x r h => ?_)).trans ?_ <;> (try subst h) <;> ((repeat' split) <;> simp)
  · refine (foldl_air _ _ _ (fun b x r h => ?_)).trans ?_ <;> (try subst h) <;> ((repeat' split) <;> simp)
  · refine (foldl_byl _ _ _ (fun b x r h => ?_)).trans ?_ <;> (try subst h) <;> ((repeat' split) <;> simp)

@[simp] theorem State.dropSavedIn_frame (s : State) (x1 : Nat) :
    (s.dropSavedIn x1).pending = s.pending ∧ (s.dropSavedIn x1).cyc = s.cyc ∧ (s.dropSavedIn x1).hostMem = s.hostMem
      ∧ (s.dropSavedIn x1).live = s.live ∧ (s.dropSavedIn x1).whoa = s.whoa ∧ (s.dropSavedIn x1).net = s.net ∧
      (s.dropSavedIn x1).gait = s.gait ∧ (s.dropSavedIn x1).air = s.air := by
  unfold State.dropSavedIn
  try simp
  all_goals (repeat' split) <;> simp_all

@[simp] theorem State.hifReset_frame (s : State) :
    (s.hifReset).pending = s.pending ∧ (s.hifReset).cyc = s.cyc ∧ (s.hifReset).hostMem = s.hostMem ∧
      (s.hifReset).live = s.live ∧ (s.hifReset).whoa = s.whoa ∧ (s.hifReset).chip = s.chip ∧ (s.hifReset).tack =
      s.tack ∧ (s.hifReset).recd = s.recd ∧ (s.hifReset).net = s.net ∧ (s.hifReset).tim = s.tim ∧ (s.hifReset).gnb =
      s.gnb ∧ (s.hifReset).gait = s.gait ∧ (s.hifReset).pad = s.pad ∧ (s.hifReset).fix = s.fix ∧ (s.hifReset).air =
      s.air ∧ (s.hifReset).byl = s.byl := by
  unfold State.hifReset
  try simp
  all_goals (repeat' split) <;> simp_all

@[simp] theorem State.gnbReset_frame (s : State) :
    (s.gnbReset).pending = s.pending ∧ (s.gnbReset).cyc = s.cyc ∧ (s.gnbReset).hostMem = s.hostMem ∧
      (s.gnbReset).live = s.live ∧ (s.gnbReset).whoa = s.whoa ∧ (s.gnbReset).chip = s.chip ∧ (s.gnbReset).tack =
      s.tack ∧ (s.gnbReset).recd = s.recd ∧ (s.gnbReset).net = s.net ∧ (s.gnbReset).tim = s.tim ∧ (s.gnbReset).gait
      = s.gait ∧ (s.gnbReset).pad = s.pad ∧ (s.gnbReset).fix = s.fix ∧ (s.gnbReset).air = s.air ∧ (s.gnbReset).byl =
      s.byl := by
  unfold State.gnbReset
  try simp
  all_goals (repeat' split) <;> simp_all

@[simp] theorem State.fixReset_frame (s : State) :
    (s.fixReset).pending = s.pending ∧ (s.fixReset).cyc = s.cyc ∧ (s.fixReset).hostMem = s.hostMem ∧
      (s.fixReset).live = s.live ∧ (s.fixReset).whoa = s.whoa ∧ (s.fixReset).chip = s.chip ∧ (s.fixReset).tack =
      s.tack ∧ (s.fixReset).recd = s.recd ∧ (s.fixReset).net = s.net ∧ (s.fixReset).tim = s.tim ∧ (s.fixReset).gnb =
      s.gnb ∧ (s.fixReset).gait = s.gait ∧ (s.fixReset).pad = s.pad ∧ (s.fixReset).air = s.air ∧ (s.fixReset).byl =
      s.byl := by
  unfold State.fixReset
  try simp
  all_goals (repeat' split) <;> simp_all

@[simp] theorem State.fixAllReset_frame (s : State) :
    (s.fixAllReset).pending = s.pending ∧ (s.fixAllReset).cyc = s.cyc ∧ (s.fixAllReset).hostMem = s.hostMem ∧
      (s.fixAllReset).live = s.live ∧ (s.fixAllReset).whoa = s.whoa ∧ (s.fixAllReset).chip = s.chip ∧
      (s.fixAllReset).tack = s.tack ∧ (s.fixAllReset).recd = s.recd ∧ (s.fixAllReset).net = s.net ∧
      (s.fixAllReset).tim = s.tim ∧ (s.fixAllReset).gnb = s.gnb ∧ (s.fixAllReset).gait = s.gait ∧
      (s.fixAllReset).pad = s.pad ∧ (s.fixAllReset).air = s.air ∧ (s.fixAllReset).byl = s.byl := by
  unfold State.fixAllReset
  try simp
  all_goals (repeat' split) <;> simp_all

@[simp] theorem State.clearLocks_frame (s : State) :
    (s.clearLocks).pending = s.pending ∧ (s.clearLocks).cyc = s.cyc ∧ (s.clearLocks).hostMem = s.hostMem ∧
      (s.clearLocks).live = s.live ∧ (s.clearLocks).whoa = s.whoa ∧ (s.clearLocks).chip = s.chip ∧
      (s.clearLocks).tack = s.tack ∧ (s.clearLocks).recd = s.recd ∧ (s.clearLocks).net = s.net ∧ (s.clearLocks).tim
      = s.tim ∧ (s.clearLocks).gnb = s.gnb ∧ (s.clearLocks).gait = s.gait ∧ (s.clearLocks).fix = s.fix ∧
      (s.clearLocks).air = s.air ∧ (s.clearLocks).byl = s.byl := by
  unfold State.clearLocks
  try simp
  all_goals (repeat' split) <;> simp_all

@[simp] theorem State.padReset_frame (s : State) :
    (s.padReset).pending = s.pending ∧ (s.padReset).cyc = s.cyc ∧ (s.padReset).hostMem = s.hostMem ∧
      (s.padReset).live = s.live ∧ (s.padReset).whoa = s.whoa ∧ (s.padReset).chip = s.chip ∧ (s.padReset).tack =
      s.tack ∧ (s.padReset).recd = s.recd ∧ (s.padReset).net = s.net ∧ (s.padReset).tim = s.tim ∧ (s.padReset).gnb =
      s.gnb ∧ (s.padReset).gait = s.gait ∧ (s.padReset).fix = s.fix ∧ (s.padReset).air = s.air ∧ (s.padReset).byl =
      s.byl := by
  unfold State.padReset
  try simp
  all_goals (repeat' split) <;> simp_all

@[simp] theorem State.gaitReset_frame (s : State) :
    (s.gaitReset).pending = s.pending ∧ (s.gaitReset).cyc = s.cyc ∧ (s.gaitReset).hostMem = s.hostMem ∧
      (s.gaitReset).live = s.live ∧ (s.gaitReset).whoa = s.whoa ∧ (s.gaitReset).chip = s.chip ∧ (s.gaitReset).tack =
      s.tack ∧ (s.gaitReset).recd = s.recd ∧ (s.gaitReset).net = s.net ∧ (s.gaitReset).tim = s.tim ∧
      (s.gaitReset).gnb = s.gnb ∧ (s.gaitReset).pad = s.pad ∧ (s.gaitReset).fix = s.fix ∧ (s.gaitReset).air = s.air
      ∧ (s.gaitReset).byl = s.byl := by
  unfold State.gaitReset
  try simp
  all_goals (repeat' split) <;> simp_all

@[simp] theorem State.netReset_frame (s : State) :
    (s.netReset).pending = s.pending ∧ (s.netReset).cyc = s.cyc ∧ (s.netReset).hostMem = s.hostMem ∧
      (s.netReset).live = s.live ∧ (s.netReset).whoa = s.whoa ∧ (s.netReset).chip = s.chip ∧ (s.netReset).tack =
      s.tack ∧ (s.netReset).recd = s.recd ∧ (s.netReset).tim = s.tim ∧ (s.netReset).gnb = s.gnb ∧ (s.netReset).gait
      = s.gait ∧ (s.netReset).pad = s.pad ∧ (s.netReset).fix = s.fix ∧ (s.netReset).air = s.air ∧ (s.netReset).byl =
      s.byl := by
  unfold State.netReset
  try simp
  all_goals (repeat' split) <;> simp_all

@[simp] theorem State.setCueLevel_frame (s : State) (x1 : Nat) (x2 : Bool) :
    (s.setCueLevel x1 x2).pending = s.pending ∧ (s.setCueLevel x1 x2).cyc = s.cyc ∧ (s.setCueLevel x1 x2).hostMem =
      s.hostMem ∧ (s.setCueLevel x1 x2).live = s.live ∧ (s.setCueLevel x1 x2).whoa = s.whoa ∧ (s.setCueLevel x1
      x2).chip = s.chip ∧ (s.setCueLevel x1 x2).tack = s.tack ∧ (s.setCueLevel x1 x2).recd = s.recd ∧ (s.setCueLevel
      x1 x2).net = s.net ∧ (s.setCueLevel x1 x2).tim = s.tim ∧ (s.setCueLevel x1 x2).gnb = s.gnb ∧ (s.setCueLevel x1
      x2).gait = s.gait ∧ (s.setCueLevel x1 x2).pad = s.pad ∧ (s.setCueLevel x1 x2).fix = s.fix ∧ (s.setCueLevel x1
      x2).air = s.air ∧ (s.setCueLevel x1 x2).byl = s.byl := by
  unfold State.setCueLevel
  try simp
  all_goals (repeat' split) <;> simp_all

@[simp] theorem State.timReset_frame (s : State) :
    (s.timReset).pending = s.pending ∧ (s.timReset).cyc = s.cyc ∧ (s.timReset).hostMem = s.hostMem ∧
      (s.timReset).live = s.live ∧ (s.timReset).whoa = s.whoa ∧ (s.timReset).chip = s.chip ∧ (s.timReset).tack =
      s.tack ∧ (s.timReset).net = s.net ∧ (s.timReset).gnb = s.gnb ∧ (s.timReset).gait = s.gait ∧ (s.timReset).pad =
      s.pad ∧ (s.timReset).air = s.air ∧ (s.timReset).byl = s.byl := by
  unfold State.timReset
  try simp
  all_goals (repeat' split) <;> simp_all

@[simp] theorem State.recReset_frame (s : State) :
    (s.recReset).pending = s.pending ∧ (s.recReset).cyc = s.cyc ∧ (s.recReset).hostMem = s.hostMem ∧
      (s.recReset).live = s.live ∧ (s.recReset).whoa = s.whoa ∧ (s.recReset).chip = s.chip ∧ (s.recReset).tack =
      s.tack ∧ (s.recReset).net = s.net ∧ (s.recReset).tim = s.tim ∧ (s.recReset).gnb = s.gnb ∧ (s.recReset).gait =
      s.gait ∧ (s.recReset).pad = s.pad ∧ (s.recReset).fix = s.fix ∧ (s.recReset).air = s.air ∧ (s.recReset).byl =
      s.byl := by
  unfold State.recReset
  try simp
  all_goals (repeat' split) <;> simp_all

@[simp] theorem State.regionReset_frame (s : State) (x1 : Nat) :
    (s.regionReset x1).pending = s.pending ∧ (s.regionReset x1).cyc = s.cyc ∧ (s.regionReset x1).hostMem = s.hostMem
      ∧ (s.regionReset x1).live = s.live ∧ (s.regionReset x1).whoa = s.whoa := by
  simp only [State.regionReset]
  (repeat' split) <;> simp

@[simp] theorem State.runReset_frame (s : State) (x1 : Nat) (x2 : Nat) (x3 : Nat) (x4 : ErrCause) :
    (s.runReset x1 x2 x3 x4).pending = s.pending ∧ (s.runReset x1 x2 x3 x4).cyc = s.cyc ∧ (s.runReset x1 x2 x3
      x4).hostMem = s.hostMem ∧ (s.runReset x1 x2 x3 x4).live = s.live ∧ (s.runReset x1 x2 x3 x4).whoa = s.whoa := by
  unfold State.runReset
  try simp
  all_goals (repeat' split) <;> simp_all

@[simp] theorem State.regionError_frame (s : State) (x1 : Nat) (x2 : Nat) (x3 : Nat) (x4 : ErrCause) :
    (s.regionError x1 x2 x3 x4).pending = s.pending ∧ (s.regionError x1 x2 x3 x4).cyc = s.cyc ∧ (s.regionError x1 x2
      x3 x4).hostMem = s.hostMem := by
  unfold State.regionError
  try simp
  all_goals (repeat' split) <;> simp_all

@[simp] theorem State.noteRestart_frame (s : State) (x1 : Nat) (x2 : Nat) :
    (s.noteRestart x1 x2).pending = s.pending ∧ (s.noteRestart x1 x2).cyc = s.cyc ∧ (s.noteRestart x1 x2).hostMem =
      s.hostMem ∧ (s.noteRestart x1 x2).live = s.live ∧ (s.noteRestart x1 x2).whoa = s.whoa ∧ (s.noteRestart x1
      x2).chip = s.chip ∧ (s.noteRestart x1 x2).tack = s.tack ∧ (s.noteRestart x1 x2).recd = s.recd ∧ (s.noteRestart
      x1 x2).net = s.net ∧ (s.noteRestart x1 x2).tim = s.tim ∧ (s.noteRestart x1 x2).gnb = s.gnb ∧ (s.noteRestart x1
      x2).gait = s.gait ∧ (s.noteRestart x1 x2).pad = s.pad ∧ (s.noteRestart x1 x2).fix = s.fix ∧ (s.noteRestart x1
      x2).air = s.air ∧ (s.noteRestart x1 x2).byl = s.byl := by
  unfold State.noteRestart
  try simp
  all_goals (repeat' split) <;> simp_all

@[simp] theorem State.failHeld_frame (s : State) (x1 : Nat) (x2 : Nat) (x3 : List Nat) :
    (s.failHeld x1 x2 x3).pending = s.pending ∧ (s.failHeld x1 x2 x3).cyc = s.cyc ∧ (s.failHeld x1 x2 x3).hostMem =
      s.hostMem ∧ (s.failHeld x1 x2 x3).live = s.live ∧ (s.failHeld x1 x2 x3).whoa = s.whoa ∧ (s.failHeld x1 x2
      x3).net = s.net ∧ (s.failHeld x1 x2 x3).air = s.air := by
  unfold State.failHeld
  try simp
  all_goals (repeat' split) <;> simp_all

@[simp] theorem State.blockError_frame (s : State) (x1 : Nat) (x2 : Nat) (x3 : Nat) (x4 : ErrCause) (x5 : List Nat) :
    (s.blockError x1 x2 x3 x4 x5).pending = s.pending ∧ (s.blockError x1 x2 x3 x4 x5).cyc = s.cyc ∧ (s.blockError x1
      x2 x3 x4 x5).hostMem = s.hostMem := by
  unfold State.blockError
  try simp
  all_goals (repeat' split) <;> simp_all

@[simp] theorem State.bring_frame (s : State) (x1 : Nat × Source) (x2 : Item) :
    (s.bring x1 x2).pending = s.pending ∧ (s.bring x1 x2).cyc = s.cyc ∧ (s.bring x1 x2).hostMem = s.hostMem ∧
      (s.bring x1 x2).live = s.live ∧ (s.bring x1 x2).whoa = s.whoa ∧ (s.bring x1 x2).chip = s.chip ∧ (s.bring x1
      x2).tack = s.tack ∧ (s.bring x1 x2).recd = s.recd ∧ (s.bring x1 x2).net = s.net ∧ (s.bring x1 x2).tim = s.tim
      ∧ (s.bring x1 x2).gnb = s.gnb ∧ (s.bring x1 x2).gait = s.gait ∧ (s.bring x1 x2).pad = s.pad ∧ (s.bring x1
      x2).fix = s.fix ∧ (s.bring x1 x2).air = s.air ∧ (s.bring x1 x2).byl = s.byl := by
  unfold State.bring
  try simp
  all_goals (repeat' split) <;> simp_all

@[simp] theorem State.showWaits_frame (s : State) (x1 : WaitStat) :
    (s.showWaits x1).pending = s.pending ∧ (s.showWaits x1).cyc = s.cyc ∧ (s.showWaits x1).hostMem = s.hostMem ∧
      (s.showWaits x1).live = s.live ∧ (s.showWaits x1).whoa = s.whoa ∧ (s.showWaits x1).chip = s.chip ∧
      (s.showWaits x1).tack = s.tack ∧ (s.showWaits x1).recd = s.recd ∧ (s.showWaits x1).net = s.net ∧ (s.showWaits
      x1).tim = s.tim ∧ (s.showWaits x1).gnb = s.gnb ∧ (s.showWaits x1).gait = s.gait ∧ (s.showWaits x1).pad = s.pad
      ∧ (s.showWaits x1).fix = s.fix ∧ (s.showWaits x1).air = s.air ∧ (s.showWaits x1).byl = s.byl := by
  unfold State.showWaits
  try simp
  all_goals (repeat' split) <;> simp_all

@[simp] theorem State.queueCfgErr_frame (s : State) (x1 : Nat) :
    (s.queueCfgErr x1).pending = s.pending ∧ (s.queueCfgErr x1).cyc = s.cyc ∧ (s.queueCfgErr x1).hostMem = s.hostMem
      ∧ (s.queueCfgErr x1).live = s.live ∧ (s.queueCfgErr x1).whoa = s.whoa ∧ (s.queueCfgErr x1).chip = s.chip ∧
      (s.queueCfgErr x1).tack = s.tack ∧ (s.queueCfgErr x1).recd = s.recd ∧ (s.queueCfgErr x1).net = s.net ∧
      (s.queueCfgErr x1).tim = s.tim ∧ (s.queueCfgErr x1).gnb = s.gnb ∧ (s.queueCfgErr x1).gait = s.gait ∧
      (s.queueCfgErr x1).pad = s.pad ∧ (s.queueCfgErr x1).fix = s.fix ∧ (s.queueCfgErr x1).air = s.air ∧
      (s.queueCfgErr x1).byl = s.byl := by
  unfold State.queueCfgErr
  try simp
  all_goals (repeat' split) <;> simp_all

@[simp] theorem State.softWrite_frame (s : State) (x1 : Nat) (x2 : Sys2Proof.Word) (x3 : optParam Sys2Proof.Word 0) :
    (s.softWrite x1 x2 x3).pending = s.pending ∧ (s.softWrite x1 x2 x3).cyc = s.cyc ∧ (s.softWrite x1 x2 x3).hostMem
      = s.hostMem ∧ (s.softWrite x1 x2 x3).live = s.live ∧ (s.softWrite x1 x2 x3).whoa = s.whoa ∧ (s.softWrite x1 x2
      x3).chip = s.chip ∧ (s.softWrite x1 x2 x3).tack = s.tack ∧ (s.softWrite x1 x2 x3).recd = s.recd ∧ (s.softWrite
      x1 x2 x3).net = s.net ∧ (s.softWrite x1 x2 x3).tim = s.tim ∧ (s.softWrite x1 x2 x3).gnb = s.gnb ∧ (s.softWrite
      x1 x2 x3).gait = s.gait ∧ (s.softWrite x1 x2 x3).pad = s.pad ∧ (s.softWrite x1 x2 x3).fix = s.fix ∧
      (s.softWrite x1 x2 x3).air = s.air ∧ (s.softWrite x1 x2 x3).byl = s.byl := by
  unfold State.softWrite
  try simp
  all_goals (repeat' split) <;> simp_all

@[simp] theorem State.setQueue_frame (s : State) (x1 : Nat) (x2 : QueueRt) :
    (s.setQueue x1 x2).pending = s.pending ∧ (s.setQueue x1 x2).cyc = s.cyc ∧ (s.setQueue x1 x2).hostMem = s.hostMem
      ∧ (s.setQueue x1 x2).live = s.live ∧ (s.setQueue x1 x2).whoa = s.whoa ∧ (s.setQueue x1 x2).chip = s.chip ∧
      (s.setQueue x1 x2).tack = s.tack ∧ (s.setQueue x1 x2).recd = s.recd ∧ (s.setQueue x1 x2).net = s.net ∧
      (s.setQueue x1 x2).tim = s.tim ∧ (s.setQueue x1 x2).gnb = s.gnb ∧ (s.setQueue x1 x2).gait = s.gait ∧
      (s.setQueue x1 x2).pad = s.pad ∧ (s.setQueue x1 x2).fix = s.fix ∧ (s.setQueue x1 x2).air = s.air ∧ (s.setQueue
      x1 x2).byl = s.byl := by
  unfold State.setQueue
  try simp
  all_goals (repeat' split) <;> simp_all

@[simp] theorem State.writeQueueCfg_frame (s : State) (x1 : Nat) (x2 : Sys2Proof.Word) :
    (s.writeQueueCfg x1 x2).pending = s.pending ∧ (s.writeQueueCfg x1 x2).cyc = s.cyc ∧ (s.writeQueueCfg x1
      x2).hostMem = s.hostMem ∧ (s.writeQueueCfg x1 x2).live = s.live ∧ (s.writeQueueCfg x1 x2).whoa = s.whoa ∧
      (s.writeQueueCfg x1 x2).chip = s.chip ∧ (s.writeQueueCfg x1 x2).tack = s.tack ∧ (s.writeQueueCfg x1 x2).recd =
      s.recd ∧ (s.writeQueueCfg x1 x2).net = s.net ∧ (s.writeQueueCfg x1 x2).tim = s.tim ∧ (s.writeQueueCfg x1
      x2).gnb = s.gnb ∧ (s.writeQueueCfg x1 x2).gait = s.gait ∧ (s.writeQueueCfg x1 x2).pad = s.pad ∧
      (s.writeQueueCfg x1 x2).fix = s.fix ∧ (s.writeQueueCfg x1 x2).air = s.air ∧ (s.writeQueueCfg x1 x2).byl =
      s.byl := by
  unfold State.writeQueueCfg
  try simp
  all_goals (repeat' split) <;> simp_all

@[simp] theorem State.integEvent_frame (s : State) (x1 : Nat) (x2 : Nat) (x3 : Nat) :
    (s.integEvent x1 x2 x3).pending = s.pending ∧ (s.integEvent x1 x2 x3).cyc = s.cyc ∧ (s.integEvent x1 x2
      x3).hostMem = s.hostMem ∧ (s.integEvent x1 x2 x3).live = s.live ∧ (s.integEvent x1 x2 x3).whoa = s.whoa ∧
      (s.integEvent x1 x2 x3).chip = s.chip ∧ (s.integEvent x1 x2 x3).tack = s.tack ∧ (s.integEvent x1 x2 x3).recd =
      s.recd ∧ (s.integEvent x1 x2 x3).net = s.net ∧ (s.integEvent x1 x2 x3).tim = s.tim ∧ (s.integEvent x1 x2
      x3).gnb = s.gnb ∧ (s.integEvent x1 x2 x3).gait = s.gait ∧ (s.integEvent x1 x2 x3).pad = s.pad ∧ (s.integEvent
      x1 x2 x3).fix = s.fix ∧ (s.integEvent x1 x2 x3).air = s.air ∧ (s.integEvent x1 x2 x3).byl = s.byl := by
  unfold State.integEvent
  try simp
  all_goals (repeat' split) <;> simp_all

@[simp] theorem State.svChanged_frame (s : State) (x1 : Nat) :
    (s.svChanged x1).pending = s.pending ∧ (s.svChanged x1).cyc = s.cyc ∧ (s.svChanged x1).hostMem = s.hostMem ∧
      (s.svChanged x1).live = s.live ∧ (s.svChanged x1).whoa = s.whoa ∧ (s.svChanged x1).chip = s.chip ∧
      (s.svChanged x1).tack = s.tack ∧ (s.svChanged x1).recd = s.recd ∧ (s.svChanged x1).net = s.net ∧ (s.svChanged
      x1).tim = s.tim ∧ (s.svChanged x1).gnb = s.gnb ∧ (s.svChanged x1).gait = s.gait ∧ (s.svChanged x1).pad = s.pad
      ∧ (s.svChanged x1).fix = s.fix ∧ (s.svChanged x1).air = s.air ∧ (s.svChanged x1).byl = s.byl := by
  unfold State.svChanged
  try simp
  all_goals (repeat' split) <;> simp_all

@[simp] theorem State.clearSuspect_frame (s : State) (x1 : Nat) :
    (s.clearSuspect x1).pending = s.pending ∧ (s.clearSuspect x1).cyc = s.cyc ∧ (s.clearSuspect x1).hostMem =
      s.hostMem ∧ (s.clearSuspect x1).live = s.live ∧ (s.clearSuspect x1).whoa = s.whoa ∧ (s.clearSuspect x1).chip =
      s.chip ∧ (s.clearSuspect x1).tack = s.tack ∧ (s.clearSuspect x1).recd = s.recd ∧ (s.clearSuspect x1).net =
      s.net ∧ (s.clearSuspect x1).tim = s.tim ∧ (s.clearSuspect x1).gnb = s.gnb ∧ (s.clearSuspect x1).gait = s.gait
      ∧ (s.clearSuspect x1).pad = s.pad ∧ (s.clearSuspect x1).air = s.air ∧ (s.clearSuspect x1).byl = s.byl := by
  unfold State.clearSuspect
  try simp
  all_goals (repeat' split) <;> simp_all

@[simp] theorem State.meetHead_frame (s : State) (x1 : Nat) :
    (s.meetHead x1).pending = s.pending ∧ (s.meetHead x1).cyc = s.cyc ∧ (s.meetHead x1).hostMem = s.hostMem ∧
      (s.meetHead x1).live = s.live ∧ (s.meetHead x1).whoa = s.whoa ∧ (s.meetHead x1).chip = s.chip ∧ (s.meetHead
      x1).tack = s.tack ∧ (s.meetHead x1).net = s.net ∧ (s.meetHead x1).tim = s.tim ∧ (s.meetHead x1).gnb = s.gnb ∧
      (s.meetHead x1).gait = s.gait ∧ (s.meetHead x1).pad = s.pad ∧ (s.meetHead x1).fix = s.fix ∧ (s.meetHead
      x1).byl = s.byl := by
  unfold State.meetHead
  try simp
  all_goals (repeat' split) <;> simp_all

@[simp] theorem State.headCtl_frame (s : State) (x1 : Requester) (x2 : Nat) (x3 : Sys2Proof.Word) :
    (s.headCtl x1 x2 x3).pending = s.pending ∧ (s.headCtl x1 x2 x3).cyc = s.cyc ∧ (s.headCtl x1 x2 x3).hostMem =
      s.hostMem ∧ (s.headCtl x1 x2 x3).live = s.live ∧ (s.headCtl x1 x2 x3).whoa = s.whoa ∧ (s.headCtl x1 x2
      x3).chip = s.chip ∧ (s.headCtl x1 x2 x3).tack = s.tack ∧ (s.headCtl x1 x2 x3).net = s.net ∧ (s.headCtl x1 x2
      x3).tim = s.tim ∧ (s.headCtl x1 x2 x3).gnb = s.gnb ∧ (s.headCtl x1 x2 x3).gait = s.gait ∧ (s.headCtl x1 x2
      x3).pad = s.pad ∧ (s.headCtl x1 x2 x3).fix = s.fix ∧ (s.headCtl x1 x2 x3).byl = s.byl := by
  unfold State.headCtl
  try simp
  all_goals (repeat' split) <;> simp_all

@[simp] theorem State.voteCmd_pending (s : State) (x1 : Requester) (x2 : State → State) (h2 : ∀ y0 r, x2 y0 = r →
    r.pending = y0.pending) :
    (s.voteCmd x1 x2).pending = s.pending := by
  unfold State.voteCmd
  (repeat' split) <;> (try simp_all)

@[simp] theorem State.voteCmd_cyc (s : State) (x1 : Requester) (x2 : State → State) (h2 : ∀ y0 r, x2 y0 = r → r.cyc
    = y0.cyc) :
    (s.voteCmd x1 x2).cyc = s.cyc := by
  unfold State.voteCmd
  (repeat' split) <;> (try simp_all)

@[simp] theorem State.voteCmd_hostMem (s : State) (x1 : Requester) (x2 : State → State) (h2 : ∀ y0 r, x2 y0 = r →
    r.hostMem = y0.hostMem) :
    (s.voteCmd x1 x2).hostMem = s.hostMem := by
  unfold State.voteCmd
  (repeat' split) <;> (try simp_all)

@[simp] theorem State.voteCmd_live (s : State) (x1 : Requester) (x2 : State → State) (h2 : ∀ y0 r, x2 y0 = r →
    r.live = y0.live) :
    (s.voteCmd x1 x2).live = s.live := by
  unfold State.voteCmd
  (repeat' split) <;> (try simp_all)

@[simp] theorem State.voteCmd_whoa (s : State) (x1 : Requester) (x2 : State → State) (h2 : ∀ y0 r, x2 y0 = r →
    r.whoa = y0.whoa) :
    (s.voteCmd x1 x2).whoa = s.whoa := by
  unfold State.voteCmd
  (repeat' split) <;> (try simp_all)

@[simp] theorem State.voteCmd_chip (s : State) (x1 : Requester) (x2 : State → State) (h2 : ∀ y0 r, x2 y0 = r →
    r.chip = y0.chip) :
    (s.voteCmd x1 x2).chip = s.chip := by
  unfold State.voteCmd
  (repeat' split) <;> (try simp_all)

@[simp] theorem State.voteCmd_tack (s : State) (x1 : Requester) (x2 : State → State) (h2 : ∀ y0 r, x2 y0 = r →
    r.tack = y0.tack) :
    (s.voteCmd x1 x2).tack = s.tack := by
  unfold State.voteCmd
  (repeat' split) <;> (try simp_all)

@[simp] theorem State.voteCmd_recd (s : State) (x1 : Requester) (x2 : State → State) (h2 : ∀ y0 r, x2 y0 = r →
    r.recd = y0.recd) :
    (s.voteCmd x1 x2).recd = s.recd := by
  unfold State.voteCmd
  (repeat' split) <;> (try simp_all)

@[simp] theorem State.voteCmd_net (s : State) (x1 : Requester) (x2 : State → State) (h2 : ∀ y0 r, x2 y0 = r → r.net
    = y0.net) :
    (s.voteCmd x1 x2).net = s.net := by
  unfold State.voteCmd
  (repeat' split) <;> (try simp_all)

@[simp] theorem State.voteCmd_tim (s : State) (x1 : Requester) (x2 : State → State) (h2 : ∀ y0 r, x2 y0 = r → r.tim
    = y0.tim) :
    (s.voteCmd x1 x2).tim = s.tim := by
  unfold State.voteCmd
  (repeat' split) <;> (try simp_all)

@[simp] theorem State.voteCmd_gnb (s : State) (x1 : Requester) (x2 : State → State) (h2 : ∀ y0 r, x2 y0 = r → r.gnb
    = y0.gnb) :
    (s.voteCmd x1 x2).gnb = s.gnb := by
  unfold State.voteCmd
  (repeat' split) <;> (try simp_all)

@[simp] theorem State.voteCmd_gait (s : State) (x1 : Requester) (x2 : State → State) (h2 : ∀ y0 r, x2 y0 = r →
    r.gait = y0.gait) :
    (s.voteCmd x1 x2).gait = s.gait := by
  unfold State.voteCmd
  (repeat' split) <;> (try simp_all)

@[simp] theorem State.voteCmd_pad (s : State) (x1 : Requester) (x2 : State → State) (h2 : ∀ y0 r, x2 y0 = r → r.pad
    = y0.pad) :
    (s.voteCmd x1 x2).pad = s.pad := by
  unfold State.voteCmd
  (repeat' split) <;> (try simp_all)

@[simp] theorem State.voteCmd_fix (s : State) (x1 : Requester) (x2 : State → State) (h2 : ∀ y0 r, x2 y0 = r → r.fix
    = y0.fix) :
    (s.voteCmd x1 x2).fix = s.fix := by
  unfold State.voteCmd
  (repeat' split) <;> (try simp_all)

@[simp] theorem State.voteCmd_air (s : State) (x1 : Requester) (x2 : State → State) (h2 : ∀ y0 r, x2 y0 = r → r.air
    = y0.air) :
    (s.voteCmd x1 x2).air = s.air := by
  unfold State.voteCmd
  (repeat' split) <;> (try simp_all)

@[simp] theorem State.voteCmd_byl (s : State) (x1 : Requester) (x2 : State → State) (h2 : ∀ y0 r, x2 y0 = r → r.byl
    = y0.byl) :
    (s.voteCmd x1 x2).byl = s.byl := by
  unfold State.voteCmd
  (repeat' split) <;> (try simp_all)

@[simp] theorem State.suspectEvent_frame (s : State) (x1 : Nat) (x2 : Bool) :
    (s.suspectEvent x1 x2).pending = s.pending ∧ (s.suspectEvent x1 x2).cyc = s.cyc ∧ (s.suspectEvent x1 x2).hostMem
      = s.hostMem ∧ (s.suspectEvent x1 x2).live = s.live ∧ (s.suspectEvent x1 x2).whoa = s.whoa ∧ (s.suspectEvent x1
      x2).chip = s.chip ∧ (s.suspectEvent x1 x2).tack = s.tack ∧ (s.suspectEvent x1 x2).net = s.net ∧
      (s.suspectEvent x1 x2).tim = s.tim ∧ (s.suspectEvent x1 x2).gnb = s.gnb ∧ (s.suspectEvent x1 x2).gait = s.gait
      ∧ (s.suspectEvent x1 x2).pad = s.pad ∧ (s.suspectEvent x1 x2).fix = s.fix ∧ (s.suspectEvent x1 x2).air = s.air
      ∧ (s.suspectEvent x1 x2).byl = s.byl := by
  unfold State.suspectEvent
  try simp
  all_goals (repeat' split) <;> simp_all

theorem State.forbids_frame (s : State) (x1 : Nat) (x2 : Sys2Proof.Word) {s' : State} : s.forbids x1 x2 = some s' →
    s'.pending = s.pending ∧ s'.cyc = s.cyc ∧ s'.hostMem = s.hostMem ∧ s'.live = s.live ∧ s'.whoa = s.whoa ∧ s'.chip
      = s.chip ∧ s'.tack = s.tack ∧ s'.recd = s.recd ∧ s'.net = s.net ∧ s'.tim = s.tim ∧ s'.gnb = s.gnb ∧ s'.gait =
      s.gait ∧ s'.pad = s.pad ∧ s'.fix = s.fix ∧ s'.air = s.air ∧ s'.byl = s.byl := by
  intro h
  simp only [State.forbids] at h
  (repeat' split at h) <;> first | (have h := Host.Outcome.next.inj h; subst h; simp; done) | (have h := Option.some.inj h; subst h; simp; done) | (simp at h; done)

@[simp] theorem State.errCleared_frame (s : State) (x1 : Nat) :
    (s.errCleared x1).pending = s.pending ∧ (s.errCleared x1).cyc = s.cyc ∧ (s.errCleared x1).hostMem = s.hostMem ∧
      (s.errCleared x1).live = s.live ∧ (s.errCleared x1).whoa = s.whoa ∧ (s.errCleared x1).chip = s.chip ∧
      (s.errCleared x1).tack = s.tack ∧ (s.errCleared x1).recd = s.recd ∧ (s.errCleared x1).net = s.net ∧
      (s.errCleared x1).tim = s.tim ∧ (s.errCleared x1).gnb = s.gnb ∧ (s.errCleared x1).gait = s.gait ∧
      (s.errCleared x1).pad = s.pad ∧ (s.errCleared x1).fix = s.fix ∧ (s.errCleared x1).air = s.air ∧ (s.errCleared
      x1).byl = s.byl := by
  unfold State.errCleared
  try simp
  all_goals (repeat' split) <;> simp_all

@[simp] theorem State.reportCurb_frame (s : State) :
    (s.reportCurb).pending = s.pending ∧ (s.reportCurb).cyc = s.cyc ∧ (s.reportCurb).hostMem = s.hostMem ∧
      (s.reportCurb).live = s.live ∧ (s.reportCurb).whoa = s.whoa ∧ (s.reportCurb).chip = s.chip ∧
      (s.reportCurb).tack = s.tack ∧ (s.reportCurb).recd = s.recd ∧ (s.reportCurb).net = s.net ∧ (s.reportCurb).tim
      = s.tim ∧ (s.reportCurb).gnb = s.gnb ∧ (s.reportCurb).gait = s.gait ∧ (s.reportCurb).pad = s.pad ∧
      (s.reportCurb).fix = s.fix ∧ (s.reportCurb).air = s.air ∧ (s.reportCurb).byl = s.byl := by
  unfold State.reportCurb
  try simp
  all_goals (repeat' split) <;> simp_all

@[simp] theorem State.reportFlow_frame (s : State) (x1 : Nat) :
    (s.reportFlow x1).pending = s.pending ∧ (s.reportFlow x1).cyc = s.cyc ∧ (s.reportFlow x1).hostMem = s.hostMem ∧
      (s.reportFlow x1).live = s.live ∧ (s.reportFlow x1).whoa = s.whoa ∧ (s.reportFlow x1).chip = s.chip ∧
      (s.reportFlow x1).tack = s.tack ∧ (s.reportFlow x1).recd = s.recd ∧ (s.reportFlow x1).net = s.net ∧
      (s.reportFlow x1).tim = s.tim ∧ (s.reportFlow x1).gnb = s.gnb ∧ (s.reportFlow x1).gait = s.gait ∧
      (s.reportFlow x1).pad = s.pad ∧ (s.reportFlow x1).fix = s.fix ∧ (s.reportFlow x1).air = s.air ∧ (s.reportFlow
      x1).byl = s.byl := by
  unfold State.reportFlow
  try simp
  all_goals (repeat' split) <;> simp_all

@[simp] theorem State.restCue_frame (s : State) (x1 : Nat) :
    (s.restCue x1).pending = s.pending ∧ (s.restCue x1).cyc = s.cyc ∧ (s.restCue x1).hostMem = s.hostMem ∧
      (s.restCue x1).live = s.live ∧ (s.restCue x1).whoa = s.whoa ∧ (s.restCue x1).chip = s.chip ∧ (s.restCue
      x1).tack = s.tack ∧ (s.restCue x1).recd = s.recd ∧ (s.restCue x1).net = s.net ∧ (s.restCue x1).tim = s.tim ∧
      (s.restCue x1).gnb = s.gnb ∧ (s.restCue x1).gait = s.gait ∧ (s.restCue x1).pad = s.pad ∧ (s.restCue x1).fix =
      s.fix ∧ (s.restCue x1).air = s.air ∧ (s.restCue x1).byl = s.byl := by
  unfold State.restCue
  try simp
  all_goals (repeat' split) <;> simp_all

@[simp] theorem State.setPps_frame (s : State) (x1 : Nat) (x2 : PpsOut) :
    (s.setPps x1 x2).pending = s.pending ∧ (s.setPps x1 x2).cyc = s.cyc ∧ (s.setPps x1 x2).hostMem = s.hostMem ∧
      (s.setPps x1 x2).live = s.live ∧ (s.setPps x1 x2).whoa = s.whoa ∧ (s.setPps x1 x2).chip = s.chip ∧ (s.setPps
      x1 x2).tack = s.tack ∧ (s.setPps x1 x2).recd = s.recd ∧ (s.setPps x1 x2).net = s.net ∧ (s.setPps x1 x2).gnb =
      s.gnb ∧ (s.setPps x1 x2).gait = s.gait ∧ (s.setPps x1 x2).pad = s.pad ∧ (s.setPps x1 x2).fix = s.fix ∧
      (s.setPps x1 x2).air = s.air ∧ (s.setPps x1 x2).byl = s.byl := by
  unfold State.setPps
  try simp
  all_goals (repeat' split) <;> simp_all

@[simp] theorem State.resumePps_frame (s : State) (x1 : Nat) :
    (s.resumePps x1).pending = s.pending ∧ (s.resumePps x1).cyc = s.cyc ∧ (s.resumePps x1).hostMem = s.hostMem ∧
      (s.resumePps x1).live = s.live ∧ (s.resumePps x1).whoa = s.whoa ∧ (s.resumePps x1).chip = s.chip ∧
      (s.resumePps x1).tack = s.tack ∧ (s.resumePps x1).recd = s.recd ∧ (s.resumePps x1).net = s.net ∧ (s.resumePps
      x1).gnb = s.gnb ∧ (s.resumePps x1).gait = s.gait ∧ (s.resumePps x1).pad = s.pad ∧ (s.resumePps x1).fix = s.fix
      ∧ (s.resumePps x1).air = s.air ∧ (s.resumePps x1).byl = s.byl := by
  unfold State.resumePps
  try simp
  all_goals (repeat' split) <;> simp_all

@[simp] theorem State.startPps_frame (s : State) (x1 : Nat) (x2 : Bool) :
    (s.startPps x1 x2).pending = s.pending ∧ (s.startPps x1 x2).cyc = s.cyc ∧ (s.startPps x1 x2).hostMem = s.hostMem
      ∧ (s.startPps x1 x2).live = s.live ∧ (s.startPps x1 x2).whoa = s.whoa ∧ (s.startPps x1 x2).chip = s.chip ∧
      (s.startPps x1 x2).tack = s.tack ∧ (s.startPps x1 x2).recd = s.recd ∧ (s.startPps x1 x2).net = s.net ∧
      (s.startPps x1 x2).gnb = s.gnb ∧ (s.startPps x1 x2).gait = s.gait ∧ (s.startPps x1 x2).pad = s.pad ∧
      (s.startPps x1 x2).fix = s.fix ∧ (s.startPps x1 x2).air = s.air ∧ (s.startPps x1 x2).byl = s.byl := by
  unfold State.startPps
  try simp
  all_goals (repeat' split) <;> simp_all

@[simp] theorem State.setBand_frame (s : State) (x1 : Nat) (x2 : BandPort) :
    (s.setBand x1 x2).pending = s.pending ∧ (s.setBand x1 x2).cyc = s.cyc ∧ (s.setBand x1 x2).hostMem = s.hostMem ∧
      (s.setBand x1 x2).live = s.live ∧ (s.setBand x1 x2).whoa = s.whoa ∧ (s.setBand x1 x2).chip = s.chip ∧
      (s.setBand x1 x2).tack = s.tack ∧ (s.setBand x1 x2).recd = s.recd ∧ (s.setBand x1 x2).net = s.net ∧ (s.setBand
      x1 x2).tim = s.tim ∧ (s.setBand x1 x2).gait = s.gait ∧ (s.setBand x1 x2).pad = s.pad ∧ (s.setBand x1 x2).fix =
      s.fix ∧ (s.setBand x1 x2).air = s.air ∧ (s.setBand x1 x2).byl = s.byl := by
  unfold State.setBand
  try simp
  all_goals (repeat' split) <;> simp_all

@[simp] theorem State.mapBand_frame (s : State) (x1 : Nat) (x2 : Chan → Chan) :
    (s.mapBand x1 x2).pending = s.pending ∧ (s.mapBand x1 x2).cyc = s.cyc ∧ (s.mapBand x1 x2).hostMem = s.hostMem ∧
      (s.mapBand x1 x2).live = s.live ∧ (s.mapBand x1 x2).whoa = s.whoa ∧ (s.mapBand x1 x2).chip = s.chip ∧
      (s.mapBand x1 x2).tack = s.tack ∧ (s.mapBand x1 x2).recd = s.recd ∧ (s.mapBand x1 x2).net = s.net ∧ (s.mapBand
      x1 x2).tim = s.tim ∧ (s.mapBand x1 x2).gait = s.gait ∧ (s.mapBand x1 x2).pad = s.pad ∧ (s.mapBand x1 x2).fix =
      s.fix ∧ (s.mapBand x1 x2).air = s.air ∧ (s.mapBand x1 x2).byl = s.byl := by
  unfold State.mapBand
  try simp
  all_goals (repeat' split) <;> simp_all

@[simp] theorem State.coastBand_frame (s : State) (x1 : Nat) :
    (s.coastBand x1).pending = s.pending ∧ (s.coastBand x1).cyc = s.cyc ∧ (s.coastBand x1).hostMem = s.hostMem ∧
      (s.coastBand x1).live = s.live ∧ (s.coastBand x1).whoa = s.whoa ∧ (s.coastBand x1).chip = s.chip ∧
      (s.coastBand x1).tack = s.tack ∧ (s.coastBand x1).recd = s.recd ∧ (s.coastBand x1).net = s.net ∧ (s.coastBand
      x1).tim = s.tim ∧ (s.coastBand x1).gait = s.gait ∧ (s.coastBand x1).pad = s.pad ∧ (s.coastBand x1).fix = s.fix
      ∧ (s.coastBand x1).air = s.air ∧ (s.coastBand x1).byl = s.byl := by
  unfold State.coastBand
  try simp
  all_goals (repeat' split) <;> simp_all

@[simp] theorem State.loseSync_frame (s : State) (x1 : Nat) :
    (s.loseSync x1).pending = s.pending ∧ (s.loseSync x1).cyc = s.cyc ∧ (s.loseSync x1).hostMem = s.hostMem ∧
      (s.loseSync x1).live = s.live ∧ (s.loseSync x1).whoa = s.whoa ∧ (s.loseSync x1).chip = s.chip ∧ (s.loseSync
      x1).tack = s.tack ∧ (s.loseSync x1).recd = s.recd ∧ (s.loseSync x1).net = s.net ∧ (s.loseSync x1).tim = s.tim
      ∧ (s.loseSync x1).gait = s.gait ∧ (s.loseSync x1).pad = s.pad ∧ (s.loseSync x1).fix = s.fix ∧ (s.loseSync
      x1).air = s.air ∧ (s.loseSync x1).byl = s.byl := by
  unfold State.loseSync
  try simp
  all_goals (repeat' split) <;> simp_all

@[simp] theorem State.written_frame (s : State) (x1 : Nat) (x2 : Sys2Proof.Word) :
    (s.written x1 x2).pending = s.pending ∧ (s.written x1 x2).cyc = s.cyc ∧ (s.written x1 x2).hostMem = s.hostMem ∧
      (s.written x1 x2).live = s.live ∧ (s.written x1 x2).whoa = s.whoa ∧ (s.written x1 x2).chip = s.chip ∧
      (s.written x1 x2).tack = s.tack ∧ (s.written x1 x2).recd = s.recd ∧ (s.written x1 x2).net = s.net ∧ (s.written
      x1 x2).gait = s.gait ∧ (s.written x1 x2).pad = s.pad ∧ (s.written x1 x2).fix = s.fix ∧ (s.written x1 x2).air =
      s.air := by
  unfold State.written
  try simp
  all_goals (repeat' split) <;> simp_all

@[simp] theorem State.commit64_frame (s : State) (x1 : Nat) (x2 : Sys2Proof.Word) (x3 : Sys2Proof.Word) :
    (s.commit64 x1 x2 x3).pending = s.pending ∧ (s.commit64 x1 x2 x3).cyc = s.cyc ∧ (s.commit64 x1 x2 x3).hostMem =
      s.hostMem ∧ (s.commit64 x1 x2 x3).live = s.live ∧ (s.commit64 x1 x2 x3).whoa = s.whoa ∧ (s.commit64 x1 x2
      x3).chip = s.chip ∧ (s.commit64 x1 x2 x3).tack = s.tack ∧ (s.commit64 x1 x2 x3).recd = s.recd ∧ (s.commit64 x1
      x2 x3).net = s.net ∧ (s.commit64 x1 x2 x3).gait = s.gait ∧ (s.commit64 x1 x2 x3).pad = s.pad ∧ (s.commit64 x1
      x2 x3).fix = s.fix ∧ (s.commit64 x1 x2 x3).air = s.air := by
  unfold State.commit64
  split
  · rename_i h
    have := State.forbids_frame _ _ _ h
    simp_all
  · simp

@[simp] theorem State.shadowWrite_frame (s : State) (x1 : Requester) (x2 : Sys2Proof.Word) :
    (s.shadowWrite x1 x2).pending = s.pending ∧ (s.shadowWrite x1 x2).cyc = s.cyc ∧ (s.shadowWrite x1 x2).hostMem =
      s.hostMem ∧ (s.shadowWrite x1 x2).live = s.live ∧ (s.shadowWrite x1 x2).whoa = s.whoa ∧ (s.shadowWrite x1
      x2).chip = s.chip ∧ (s.shadowWrite x1 x2).tack = s.tack ∧ (s.shadowWrite x1 x2).recd = s.recd ∧ (s.shadowWrite
      x1 x2).net = s.net ∧ (s.shadowWrite x1 x2).tim = s.tim ∧ (s.shadowWrite x1 x2).gnb = s.gnb ∧ (s.shadowWrite x1
      x2).gait = s.gait ∧ (s.shadowWrite x1 x2).pad = s.pad ∧ (s.shadowWrite x1 x2).fix = s.fix ∧ (s.shadowWrite x1
      x2).air = s.air ∧ (s.shadowWrite x1 x2).byl = s.byl := by
  unfold State.shadowWrite
  try simp
  all_goals (repeat' split) <;> simp_all

@[simp] theorem State.writeWord_frame (s : State) (x1 : Nat) (x2 : Sys2Proof.Word) (x3 : Sys2Proof.Word) :
    (s.writeWord x1 x2 x3).pending = s.pending ∧ (s.writeWord x1 x2 x3).cyc = s.cyc ∧ (s.writeWord x1 x2 x3).hostMem
      = s.hostMem ∧ (s.writeWord x1 x2 x3).live = s.live ∧ (s.writeWord x1 x2 x3).whoa = s.whoa ∧ (s.writeWord x1 x2
      x3).chip = s.chip ∧ (s.writeWord x1 x2 x3).tack = s.tack ∧ (s.writeWord x1 x2 x3).recd = s.recd ∧ (s.writeWord
      x1 x2 x3).net = s.net ∧ (s.writeWord x1 x2 x3).gait = s.gait ∧ (s.writeWord x1 x2 x3).pad = s.pad ∧
      (s.writeWord x1 x2 x3).fix = s.fix ∧ (s.writeWord x1 x2 x3).air = s.air := by
  unfold State.writeWord
  split
  · rename_i h
    have := State.forbids_frame _ _ _ h
    simp_all
  · simp

@[simp] theorem State.dropChan_frame (s : State) (x1 : Nat) :
    (s.dropChan x1).pending = s.pending ∧ (s.dropChan x1).cyc = s.cyc ∧ (s.dropChan x1).hostMem = s.hostMem ∧
      (s.dropChan x1).live = s.live ∧ (s.dropChan x1).whoa = s.whoa ∧ (s.dropChan x1).chip = s.chip ∧ (s.dropChan
      x1).tack = s.tack ∧ (s.dropChan x1).recd = s.recd ∧ (s.dropChan x1).net = s.net ∧ (s.dropChan x1).tim = s.tim
      ∧ (s.dropChan x1).gait = s.gait ∧ (s.dropChan x1).pad = s.pad ∧ (s.dropChan x1).fix = s.fix ∧ (s.dropChan
      x1).air = s.air ∧ (s.dropChan x1).byl = s.byl := by
  unfold State.dropChan
  try simp
  all_goals (repeat' split) <;> simp_all

@[simp] theorem State.retireChan_frame (s : State) (x1 : Nat) :
    (s.retireChan x1).pending = s.pending ∧ (s.retireChan x1).cyc = s.cyc ∧ (s.retireChan x1).hostMem = s.hostMem ∧
      (s.retireChan x1).live = s.live ∧ (s.retireChan x1).whoa = s.whoa ∧ (s.retireChan x1).chip = s.chip ∧
      (s.retireChan x1).tack = s.tack ∧ (s.retireChan x1).recd = s.recd ∧ (s.retireChan x1).net = s.net ∧
      (s.retireChan x1).tim = s.tim ∧ (s.retireChan x1).gait = s.gait ∧ (s.retireChan x1).pad = s.pad ∧
      (s.retireChan x1).fix = s.fix ∧ (s.retireChan x1).air = s.air ∧ (s.retireChan x1).byl = s.byl := by
  unfold State.retireChan
  try simp
  all_goals (repeat' split) <;> simp_all

@[simp] theorem State.retireCell_frame (s : State) (x1 : Nat) (x2 : Nat) (x3 : CellKind) :
    (s.retireCell x1 x2 x3).pending = s.pending ∧ (s.retireCell x1 x2 x3).cyc = s.cyc ∧ (s.retireCell x1 x2
      x3).hostMem = s.hostMem ∧ (s.retireCell x1 x2 x3).live = s.live ∧ (s.retireCell x1 x2 x3).whoa = s.whoa ∧
      (s.retireCell x1 x2 x3).chip = s.chip ∧ (s.retireCell x1 x2 x3).tack = s.tack ∧ (s.retireCell x1 x2 x3).recd =
      s.recd ∧ (s.retireCell x1 x2 x3).net = s.net ∧ (s.retireCell x1 x2 x3).tim = s.tim ∧ (s.retireCell x1 x2
      x3).gait = s.gait ∧ (s.retireCell x1 x2 x3).pad = s.pad ∧ (s.retireCell x1 x2 x3).fix = s.fix ∧ (s.retireCell
      x1 x2 x3).air = s.air ∧ (s.retireCell x1 x2 x3).byl = s.byl := by
  unfold State.retireCell
  try simp
  all_goals (repeat' split) <;> simp_all

@[simp] theorem State.cellEscalates_frame (s : State) (x1 : Nat) (x2 : CellKind) (x3 : Nat) (x4 : Nat) (x5 : List
    Nat) :
    (s.cellEscalates x1 x2 x3 x4 x5).pending = s.pending ∧ (s.cellEscalates x1 x2 x3 x4 x5).cyc = s.cyc ∧
      (s.cellEscalates x1 x2 x3 x4 x5).hostMem = s.hostMem := by
  unfold State.cellEscalates
  try simp
  all_goals (repeat' split) <;> simp_all

@[simp] theorem State.faultChan_frame (s : State) (x1 : Nat) :
    (s.faultChan x1).pending = s.pending ∧ (s.faultChan x1).cyc = s.cyc ∧ (s.faultChan x1).hostMem = s.hostMem ∧
      (s.faultChan x1).live = s.live ∧ (s.faultChan x1).whoa = s.whoa ∧ (s.faultChan x1).chip = s.chip ∧
      (s.faultChan x1).tack = s.tack ∧ (s.faultChan x1).recd = s.recd ∧ (s.faultChan x1).net = s.net ∧ (s.faultChan
      x1).tim = s.tim ∧ (s.faultChan x1).gait = s.gait ∧ (s.faultChan x1).pad = s.pad ∧ (s.faultChan x1).fix = s.fix
      ∧ (s.faultChan x1).air = s.air ∧ (s.faultChan x1).byl = s.byl := by
  unfold State.faultChan
  try simp
  all_goals (repeat' split) <;> simp_all

@[simp] theorem State.cellMarks_frame (s : State) (x1 : CellKind) (x2 : Nat) :
    (s.cellMarks x1 x2).pending = s.pending ∧ (s.cellMarks x1 x2).cyc = s.cyc ∧ (s.cellMarks x1 x2).hostMem =
      s.hostMem ∧ (s.cellMarks x1 x2).live = s.live ∧ (s.cellMarks x1 x2).whoa = s.whoa ∧ (s.cellMarks x1 x2).chip =
      s.chip ∧ (s.cellMarks x1 x2).recd = s.recd ∧ (s.cellMarks x1 x2).net = s.net ∧ (s.cellMarks x1 x2).tim = s.tim
      ∧ (s.cellMarks x1 x2).gait = s.gait ∧ (s.cellMarks x1 x2).pad = s.pad ∧ (s.cellMarks x1 x2).fix = s.fix ∧
      (s.cellMarks x1 x2).air = s.air ∧ (s.cellMarks x1 x2).byl = s.byl := by
  unfold State.cellMarks
  try simp
  all_goals (repeat' split) <;> simp_all

@[simp] theorem State.cellFails_frame (s : State) (x1 : Nat) (x2 : Nat) (x3 : Bool) (x4 : Option Nat) :
    (s.cellFails x1 x2 x3 x4).pending = s.pending ∧ (s.cellFails x1 x2 x3 x4).cyc = s.cyc ∧ (s.cellFails x1 x2 x3
      x4).hostMem = s.hostMem ∧ (s.cellFails x1 x2 x3 x4).live = s.live ∧ (s.cellFails x1 x2 x3 x4).whoa = s.whoa ∧
      (s.cellFails x1 x2 x3 x4).net = s.net ∧ (s.cellFails x1 x2 x3 x4).air = s.air := by
  unfold State.cellFails
  try simp
  all_goals (repeat' split) <;> simp_all

@[simp] theorem State.cellError_frame (s : State) (x1 : Nat) (x2 : CellKind) (x3 : Nat) (x4 : Nat) (x5 : ErrCause)
    (x6 : Bool) (x7 : Option Nat) (x8 : List Nat) :
    (s.cellError x1 x2 x3 x4 x5 x6 x7 x8).pending = s.pending ∧ (s.cellError x1 x2 x3 x4 x5 x6 x7 x8).cyc = s.cyc ∧
      (s.cellError x1 x2 x3 x4 x5 x6 x7 x8).hostMem = s.hostMem := by
  unfold State.cellError
  try simp
  all_goals (repeat' split) <;> simp_all

@[simp] theorem State.checkResync_frame (s : State) :
    (s.checkResync).pending = s.pending ∧ (s.checkResync).cyc = s.cyc ∧ (s.checkResync).hostMem = s.hostMem ∧
      (s.checkResync).live = s.live ∧ (s.checkResync).whoa = s.whoa ∧ (s.checkResync).chip = s.chip ∧
      (s.checkResync).tack = s.tack ∧ (s.checkResync).recd = s.recd ∧ (s.checkResync).net = s.net ∧
      (s.checkResync).tim = s.tim ∧ (s.checkResync).gnb = s.gnb ∧ (s.checkResync).gait = s.gait ∧
      (s.checkResync).pad = s.pad ∧ (s.checkResync).fix = s.fix ∧ (s.checkResync).air = s.air := by
  unfold State.checkResync
  try simp
  all_goals (repeat' split) <;> simp_all

@[simp] theorem State.rcRead_frame (s : State) (x1 : Requester) (x2 : Nat) (x3 : Sys2Proof.Word) :
    (s.rcRead x1 x2 x3).pending = s.pending ∧ (s.rcRead x1 x2 x3).cyc = s.cyc ∧ (s.rcRead x1 x2 x3).hostMem =
      s.hostMem ∧ (s.rcRead x1 x2 x3).live = s.live ∧ (s.rcRead x1 x2 x3).whoa = s.whoa ∧ (s.rcRead x1 x2 x3).chip =
      s.chip ∧ (s.rcRead x1 x2 x3).tack = s.tack ∧ (s.rcRead x1 x2 x3).recd = s.recd ∧ (s.rcRead x1 x2 x3).net =
      s.net ∧ (s.rcRead x1 x2 x3).tim = s.tim ∧ (s.rcRead x1 x2 x3).gnb = s.gnb ∧ (s.rcRead x1 x2 x3).gait = s.gait
      ∧ (s.rcRead x1 x2 x3).pad = s.pad ∧ (s.rcRead x1 x2 x3).fix = s.fix ∧ (s.rcRead x1 x2 x3).air = s.air ∧
      (s.rcRead x1 x2 x3).byl = s.byl := by
  unfold State.rcRead
  try simp
  all_goals (repeat' split) <;> simp_all

@[simp] theorem State.clearRead_frame (s : State) (x1 : Requester) (x2 : Nat) (x3 : Sys2Proof.Word) :
    (s.clearRead x1 x2 x3).pending = s.pending ∧ (s.clearRead x1 x2 x3).cyc = s.cyc ∧ (s.clearRead x1 x2 x3).hostMem
      = s.hostMem ∧ (s.clearRead x1 x2 x3).live = s.live ∧ (s.clearRead x1 x2 x3).whoa = s.whoa ∧ (s.clearRead x1 x2
      x3).chip = s.chip ∧ (s.clearRead x1 x2 x3).tack = s.tack ∧ (s.clearRead x1 x2 x3).recd = s.recd ∧ (s.clearRead
      x1 x2 x3).net = s.net ∧ (s.clearRead x1 x2 x3).tim = s.tim ∧ (s.clearRead x1 x2 x3).gnb = s.gnb ∧ (s.clearRead
      x1 x2 x3).gait = s.gait ∧ (s.clearRead x1 x2 x3).pad = s.pad ∧ (s.clearRead x1 x2 x3).fix = s.fix ∧
      (s.clearRead x1 x2 x3).air = s.air ∧ (s.clearRead x1 x2 x3).byl = s.byl := by
  unfold State.clearRead
  try simp
  all_goals (repeat' split) <;> simp_all

@[simp] theorem State.spoofed_frame (s : State) (x1 : Nat) :
    (s.spoofed x1).pending = s.pending ∧ (s.spoofed x1).cyc = s.cyc ∧ (s.spoofed x1).hostMem = s.hostMem ∧
      (s.spoofed x1).live = s.live ∧ (s.spoofed x1).whoa = s.whoa ∧ (s.spoofed x1).chip = s.chip ∧ (s.spoofed
      x1).tack = s.tack ∧ (s.spoofed x1).net = s.net ∧ (s.spoofed x1).tim = s.tim ∧ (s.spoofed x1).gnb = s.gnb ∧
      (s.spoofed x1).gait = s.gait ∧ (s.spoofed x1).pad = s.pad ∧ (s.spoofed x1).fix = s.fix ∧ (s.spoofed x1).air =
      s.air ∧ (s.spoofed x1).byl = s.byl := by
  unfold State.spoofed
  try simp
  all_goals (repeat' split) <;> simp_all

@[simp] theorem State.clockTests_frame (s : State) (x1 : BaseItem) :
    (s.clockTests x1).pending = s.pending ∧ (s.clockTests x1).cyc = s.cyc ∧ (s.clockTests x1).hostMem = s.hostMem ∧
      (s.clockTests x1).live = s.live ∧ (s.clockTests x1).whoa = s.whoa ∧ (s.clockTests x1).chip = s.chip ∧
      (s.clockTests x1).tack = s.tack ∧ (s.clockTests x1).net = s.net ∧ (s.clockTests x1).tim = s.tim ∧
      (s.clockTests x1).gnb = s.gnb ∧ (s.clockTests x1).gait = s.gait ∧ (s.clockTests x1).pad = s.pad ∧
      (s.clockTests x1).air = s.air ∧ (s.clockTests x1).byl = s.byl := by
  unfold State.clockTests
  try simp
  all_goals (repeat' split) <;> simp_all

@[simp] theorem State.committed_frame (s : State) (x1 : Item) (x2 : Nat) (x3 : Res) :
    (s.committed x1 x2 x3).pending = s.pending ∧ (s.committed x1 x2 x3).cyc = s.cyc ∧ (s.committed x1 x2 x3).hostMem
      = s.hostMem ∧ (s.committed x1 x2 x3).live = s.live ∧ (s.committed x1 x2 x3).whoa = s.whoa ∧ (s.committed x1 x2
      x3).chip = s.chip ∧ (s.committed x1 x2 x3).tack = s.tack ∧ (s.committed x1 x2 x3).recd = s.recd ∧ (s.committed
      x1 x2 x3).net = s.net ∧ (s.committed x1 x2 x3).tim = s.tim ∧ (s.committed x1 x2 x3).gnb = s.gnb ∧ (s.committed
      x1 x2 x3).fix = s.fix ∧ (s.committed x1 x2 x3).air = s.air := by
  unfold State.committed
  try simp
  all_goals (repeat' split) <;> simp_all

@[simp] theorem State.setSource_frame (s : State) (x1 : Nat) (x2 : TimeSource) :
    (s.setSource x1 x2).pending = s.pending ∧ (s.setSource x1 x2).cyc = s.cyc ∧ (s.setSource x1 x2).hostMem =
      s.hostMem ∧ (s.setSource x1 x2).live = s.live ∧ (s.setSource x1 x2).whoa = s.whoa ∧ (s.setSource x1 x2).chip =
      s.chip ∧ (s.setSource x1 x2).tack = s.tack ∧ (s.setSource x1 x2).recd = s.recd ∧ (s.setSource x1 x2).net =
      s.net ∧ (s.setSource x1 x2).gnb = s.gnb ∧ (s.setSource x1 x2).gait = s.gait ∧ (s.setSource x1 x2).pad = s.pad
      ∧ (s.setSource x1 x2).fix = s.fix ∧ (s.setSource x1 x2).air = s.air ∧ (s.setSource x1 x2).byl = s.byl := by
  unfold State.setSource
  try simp
  all_goals (repeat' split) <;> simp_all

@[simp] theorem State.endSource_frame (s : State) (x1 : Nat) :
    (s.endSource x1).pending = s.pending ∧ (s.endSource x1).cyc = s.cyc ∧ (s.endSource x1).hostMem = s.hostMem ∧
      (s.endSource x1).live = s.live ∧ (s.endSource x1).whoa = s.whoa ∧ (s.endSource x1).chip = s.chip ∧
      (s.endSource x1).tack = s.tack ∧ (s.endSource x1).recd = s.recd ∧ (s.endSource x1).net = s.net ∧ (s.endSource
      x1).gnb = s.gnb ∧ (s.endSource x1).gait = s.gait ∧ (s.endSource x1).pad = s.pad ∧ (s.endSource x1).fix = s.fix
      ∧ (s.endSource x1).air = s.air ∧ (s.endSource x1).byl = s.byl := by
  unfold State.endSource
  try simp
  all_goals (repeat' split) <;> simp_all

@[simp] theorem State.judgeSource_frame (s : State) (x1 : State) (x2 : Nat) :
    (s.judgeSource x1 x2).pending = s.pending ∧ (s.judgeSource x1 x2).cyc = s.cyc ∧ (s.judgeSource x1 x2).hostMem =
      s.hostMem ∧ (s.judgeSource x1 x2).live = s.live ∧ (s.judgeSource x1 x2).whoa = s.whoa ∧ (s.judgeSource x1
      x2).chip = s.chip ∧ (s.judgeSource x1 x2).tack = s.tack ∧ (s.judgeSource x1 x2).net = s.net ∧ (s.judgeSource
      x1 x2).gnb = s.gnb ∧ (s.judgeSource x1 x2).gait = s.gait ∧ (s.judgeSource x1 x2).pad = s.pad ∧ (s.judgeSource
      x1 x2).fix = s.fix ∧ (s.judgeSource x1 x2).air = s.air ∧ (s.judgeSource x1 x2).byl = s.byl := by
  unfold State.judgeSource
  try simp
  all_goals (repeat' split) <;> simp_all

@[simp] theorem State.select_frame (s : State) :
    (s.select).pending = s.pending ∧ (s.select).cyc = s.cyc ∧ (s.select).hostMem = s.hostMem ∧ (s.select).live =
      s.live ∧ (s.select).whoa = s.whoa ∧ (s.select).chip = s.chip ∧ (s.select).tack = s.tack ∧ (s.select).net =
      s.net ∧ (s.select).gnb = s.gnb ∧ (s.select).gait = s.gait ∧ (s.select).pad = s.pad ∧ (s.select).fix = s.fix ∧
      (s.select).air = s.air ∧ (s.select).byl = s.byl := by
  unfold State.select
  try simp
  all_goals (repeat' split) <;> simp_all

@[simp] theorem State.judgeSplit_frame (s : State) (x1 : State) :
    (s.judgeSplit x1).pending = s.pending ∧ (s.judgeSplit x1).cyc = s.cyc ∧ (s.judgeSplit x1).hostMem = s.hostMem ∧
      (s.judgeSplit x1).live = s.live ∧ (s.judgeSplit x1).whoa = s.whoa ∧ (s.judgeSplit x1).chip = s.chip ∧
      (s.judgeSplit x1).tack = s.tack ∧ (s.judgeSplit x1).net = s.net ∧ (s.judgeSplit x1).gnb = s.gnb ∧
      (s.judgeSplit x1).gait = s.gait ∧ (s.judgeSplit x1).pad = s.pad ∧ (s.judgeSplit x1).fix = s.fix ∧
      (s.judgeSplit x1).air = s.air ∧ (s.judgeSplit x1).byl = s.byl := by
  unfold State.judgeSplit
  try simp
  all_goals (repeat' split) <;> simp_all

@[simp] theorem State.compareSources_frame (s : State) :
    (s.compareSources).pending = s.pending ∧ (s.compareSources).cyc = s.cyc ∧ (s.compareSources).hostMem = s.hostMem
      ∧ (s.compareSources).live = s.live ∧ (s.compareSources).whoa = s.whoa ∧ (s.compareSources).chip = s.chip ∧
      (s.compareSources).tack = s.tack ∧ (s.compareSources).net = s.net ∧ (s.compareSources).gnb = s.gnb ∧
      (s.compareSources).gait = s.gait ∧ (s.compareSources).pad = s.pad ∧ (s.compareSources).fix = s.fix ∧
      (s.compareSources).air = s.air ∧ (s.compareSources).byl = s.byl := by
  unfold State.compareSources
  try simp
  all_goals (repeat' split) <;> simp_all

@[simp] theorem State.frameEvents_frame (s : State) (x1 : Nat) (x2 : Nat) (x3 : List (BitVec 64)) :
    (s.frameEvents x1 x2 x3).pending = s.pending ∧ (s.frameEvents x1 x2 x3).cyc = s.cyc ∧ (s.frameEvents x1 x2
      x3).hostMem = s.hostMem ∧ (s.frameEvents x1 x2 x3).live = s.live ∧ (s.frameEvents x1 x2 x3).whoa = s.whoa ∧
      (s.frameEvents x1 x2 x3).chip = s.chip ∧ (s.frameEvents x1 x2 x3).tack = s.tack ∧ (s.frameEvents x1 x2
      x3).recd = s.recd ∧ (s.frameEvents x1 x2 x3).net = s.net ∧ (s.frameEvents x1 x2 x3).tim = s.tim ∧
      (s.frameEvents x1 x2 x3).gnb = s.gnb ∧ (s.frameEvents x1 x2 x3).gait = s.gait ∧ (s.frameEvents x1 x2 x3).pad =
      s.pad ∧ (s.frameEvents x1 x2 x3).fix = s.fix ∧ (s.frameEvents x1 x2 x3).air = s.air ∧ (s.frameEvents x1 x2
      x3).byl = s.byl := by
  fun_induction State.frameEvents <;> simp_all

@[simp] theorem State.compatRelay_frame (s : State) (x1 : Nat) (x2 : AirFrame) :
    (s.compatRelay x1 x2).pending = s.pending ∧ (s.compatRelay x1 x2).cyc = s.cyc ∧ (s.compatRelay x1 x2).hostMem =
      s.hostMem ∧ (s.compatRelay x1 x2).live = s.live ∧ (s.compatRelay x1 x2).whoa = s.whoa ∧ (s.compatRelay x1
      x2).chip = s.chip ∧ (s.compatRelay x1 x2).tack = s.tack ∧ (s.compatRelay x1 x2).recd = s.recd ∧ (s.compatRelay
      x1 x2).net = s.net ∧ (s.compatRelay x1 x2).tim = s.tim ∧ (s.compatRelay x1 x2).gnb = s.gnb ∧ (s.compatRelay x1
      x2).gait = s.gait ∧ (s.compatRelay x1 x2).pad = s.pad ∧ (s.compatRelay x1 x2).fix = s.fix ∧ (s.compatRelay x1
      x2).air = s.air ∧ (s.compatRelay x1 x2).byl = s.byl := by
  unfold State.compatRelay
  try simp
  all_goals (repeat' split) <;> simp_all

@[simp] theorem State.confirmFails_frame (s : State) :
    (s.confirmFails).pending = s.pending ∧ (s.confirmFails).cyc = s.cyc ∧ (s.confirmFails).hostMem = s.hostMem ∧
      (s.confirmFails).live = s.live ∧ (s.confirmFails).whoa = s.whoa ∧ (s.confirmFails).chip = s.chip ∧
      (s.confirmFails).tack = s.tack ∧ (s.confirmFails).recd = s.recd ∧ (s.confirmFails).net = s.net ∧
      (s.confirmFails).tim = s.tim ∧ (s.confirmFails).gnb = s.gnb ∧ (s.confirmFails).gait = s.gait ∧
      (s.confirmFails).pad = s.pad ∧ (s.confirmFails).fix = s.fix ∧ (s.confirmFails).air = s.air := by
  unfold State.confirmFails
  try simp
  all_goals (repeat' split) <;> simp_all

@[simp] theorem State.confirmImages_frame (s : State) (x1 : Item) :
    (s.confirmImages x1).pending = s.pending ∧ (s.confirmImages x1).cyc = s.cyc ∧ (s.confirmImages x1).hostMem =
      s.hostMem ∧ (s.confirmImages x1).live = s.live ∧ (s.confirmImages x1).whoa = s.whoa ∧ (s.confirmImages
      x1).tack = s.tack ∧ (s.confirmImages x1).recd = s.recd ∧ (s.confirmImages x1).net = s.net ∧ (s.confirmImages
      x1).tim = s.tim ∧ (s.confirmImages x1).gnb = s.gnb ∧ (s.confirmImages x1).gait = s.gait ∧ (s.confirmImages
      x1).pad = s.pad ∧ (s.confirmImages x1).fix = s.fix ∧ (s.confirmImages x1).air = s.air ∧ (s.confirmImages
      x1).byl = s.byl := by
  unfold State.confirmImages
  try simp
  all_goals (repeat' split) <;> simp_all

@[simp] theorem State.startNewKey_frame (s : State) (x1 : Nat) :
    (s.startNewKey x1).pending = s.pending ∧ (s.startNewKey x1).cyc = s.cyc ∧ (s.startNewKey x1).hostMem = s.hostMem
      ∧ (s.startNewKey x1).live = s.live ∧ (s.startNewKey x1).whoa = s.whoa ∧ (s.startNewKey x1).chip = s.chip ∧
      (s.startNewKey x1).recd = s.recd ∧ (s.startNewKey x1).net = s.net ∧ (s.startNewKey x1).tim = s.tim ∧
      (s.startNewKey x1).gnb = s.gnb ∧ (s.startNewKey x1).gait = s.gait ∧ (s.startNewKey x1).pad = s.pad ∧
      (s.startNewKey x1).fix = s.fix ∧ (s.startNewKey x1).byl = s.byl := by
  unfold State.startNewKey
  try simp
  all_goals (repeat' split) <;> simp_all

@[simp] theorem State.startOldKey_frame (s : State) (x1 : Nat) :
    (s.startOldKey x1).pending = s.pending ∧ (s.startOldKey x1).cyc = s.cyc ∧ (s.startOldKey x1).hostMem = s.hostMem
      ∧ (s.startOldKey x1).live = s.live ∧ (s.startOldKey x1).whoa = s.whoa ∧ (s.startOldKey x1).chip = s.chip ∧
      (s.startOldKey x1).recd = s.recd ∧ (s.startOldKey x1).net = s.net ∧ (s.startOldKey x1).tim = s.tim ∧
      (s.startOldKey x1).gnb = s.gnb ∧ (s.startOldKey x1).gait = s.gait ∧ (s.startOldKey x1).pad = s.pad ∧
      (s.startOldKey x1).fix = s.fix ∧ (s.startOldKey x1).byl = s.byl := by
  unfold State.startOldKey
  try simp
  all_goals (repeat' split) <;> simp_all

@[simp] theorem State.startSleep_frame (s : State) (x1 : Nat) :
    (s.startSleep x1).pending = s.pending ∧ (s.startSleep x1).cyc = s.cyc ∧ (s.startSleep x1).hostMem = s.hostMem ∧
      (s.startSleep x1).live = s.live ∧ (s.startSleep x1).whoa = s.whoa ∧ (s.startSleep x1).chip = s.chip ∧
      (s.startSleep x1).tack = s.tack ∧ (s.startSleep x1).recd = s.recd ∧ (s.startSleep x1).net = s.net ∧
      (s.startSleep x1).tim = s.tim ∧ (s.startSleep x1).gnb = s.gnb ∧ (s.startSleep x1).gait = s.gait ∧
      (s.startSleep x1).pad = s.pad ∧ (s.startSleep x1).fix = s.fix := by
  unfold State.startSleep
  try simp
  all_goals (repeat' split) <;> simp_all

@[simp] theorem State.startRoute_frame (s : State) (x1 : Nat) :
    (s.startRoute x1).pending = s.pending ∧ (s.startRoute x1).cyc = s.cyc ∧ (s.startRoute x1).hostMem = s.hostMem ∧
      (s.startRoute x1).live = s.live ∧ (s.startRoute x1).whoa = s.whoa ∧ (s.startRoute x1).chip = s.chip ∧
      (s.startRoute x1).tack = s.tack ∧ (s.startRoute x1).recd = s.recd ∧ (s.startRoute x1).net = s.net ∧
      (s.startRoute x1).tim = s.tim ∧ (s.startRoute x1).gnb = s.gnb ∧ (s.startRoute x1).gait = s.gait ∧
      (s.startRoute x1).pad = s.pad ∧ (s.startRoute x1).fix = s.fix ∧ (s.startRoute x1).byl = s.byl := by
  unfold State.startRoute
  try simp
  all_goals (repeat' split) <;> simp_all

@[simp] theorem State.ctxStart_frame (s : State) (x1 : Nat) :
    (s.ctxStart x1).pending = s.pending ∧ (s.ctxStart x1).cyc = s.cyc ∧ (s.ctxStart x1).hostMem = s.hostMem ∧
      (s.ctxStart x1).live = s.live ∧ (s.ctxStart x1).whoa = s.whoa ∧ (s.ctxStart x1).chip = s.chip ∧ (s.ctxStart
      x1).recd = s.recd ∧ (s.ctxStart x1).net = s.net ∧ (s.ctxStart x1).tim = s.tim ∧ (s.ctxStart x1).gnb = s.gnb ∧
      (s.ctxStart x1).gait = s.gait ∧ (s.ctxStart x1).pad = s.pad ∧ (s.ctxStart x1).fix = s.fix := by
  unfold State.ctxStart
  try simp
  all_goals (repeat' split) <;> simp_all

@[simp] theorem State.noteExpected_frame (s : State) (x1 : Nat) :
    (s.noteExpected x1).pending = s.pending ∧ (s.noteExpected x1).cyc = s.cyc ∧ (s.noteExpected x1).hostMem =
      s.hostMem ∧ (s.noteExpected x1).live = s.live ∧ (s.noteExpected x1).whoa = s.whoa ∧ (s.noteExpected x1).chip =
      s.chip ∧ (s.noteExpected x1).tack = s.tack ∧ (s.noteExpected x1).recd = s.recd ∧ (s.noteExpected x1).net =
      s.net ∧ (s.noteExpected x1).tim = s.tim ∧ (s.noteExpected x1).gnb = s.gnb ∧ (s.noteExpected x1).gait = s.gait
      ∧ (s.noteExpected x1).pad = s.pad ∧ (s.noteExpected x1).fix = s.fix ∧ (s.noteExpected x1).byl = s.byl := by
  unfold State.noteExpected
  try simp
  all_goals (repeat' split) <;> simp_all

@[simp] theorem State.discOverlap_frame (s : State) (x1 : Nat) :
    (s.discOverlap x1).pending = s.pending ∧ (s.discOverlap x1).cyc = s.cyc ∧ (s.discOverlap x1).hostMem = s.hostMem
      ∧ (s.discOverlap x1).live = s.live ∧ (s.discOverlap x1).whoa = s.whoa ∧ (s.discOverlap x1).chip = s.chip ∧
      (s.discOverlap x1).tack = s.tack ∧ (s.discOverlap x1).recd = s.recd ∧ (s.discOverlap x1).net = s.net ∧
      (s.discOverlap x1).tim = s.tim ∧ (s.discOverlap x1).gnb = s.gnb ∧ (s.discOverlap x1).gait = s.gait ∧
      (s.discOverlap x1).pad = s.pad ∧ (s.discOverlap x1).fix = s.fix ∧ (s.discOverlap x1).air = s.air ∧
      (s.discOverlap x1).byl = s.byl := by
  unfold State.discOverlap
  try simp
  all_goals (repeat' split) <;> simp_all

@[simp] theorem State.discOpen_frame (s : State) (x1 : Nat) :
    (s.discOpen x1).pending = s.pending ∧ (s.discOpen x1).cyc = s.cyc ∧ (s.discOpen x1).hostMem = s.hostMem ∧
      (s.discOpen x1).live = s.live ∧ (s.discOpen x1).whoa = s.whoa ∧ (s.discOpen x1).chip = s.chip ∧ (s.discOpen
      x1).tack = s.tack ∧ (s.discOpen x1).recd = s.recd ∧ (s.discOpen x1).net = s.net ∧ (s.discOpen x1).tim = s.tim
      ∧ (s.discOpen x1).gnb = s.gnb ∧ (s.discOpen x1).gait = s.gait ∧ (s.discOpen x1).fix = s.fix ∧ (s.discOpen
      x1).air = s.air := by
  unfold State.discOpen
  try simp
  all_goals (repeat' split) <;> simp_all

@[simp] theorem State.gone_frame (s : State) (x1 : Nat) :
    (s.gone x1).pending = s.pending ∧ (s.gone x1).cyc = s.cyc ∧ (s.gone x1).hostMem = s.hostMem ∧ (s.gone x1).live =
      s.live ∧ (s.gone x1).whoa = s.whoa ∧ (s.gone x1).chip = s.chip ∧ (s.gone x1).tack = s.tack ∧ (s.gone x1).recd
      = s.recd ∧ (s.gone x1).net = s.net ∧ (s.gone x1).tim = s.tim ∧ (s.gone x1).gnb = s.gnb ∧ (s.gone x1).fix =
      s.fix ∧ (s.gone x1).air = s.air := by
  unfold State.gone
  try simp
  all_goals (repeat' split) <;> simp_all

@[simp] theorem State.goLost_frame (s : State) (x1 : Nat) :
    (s.goLost x1).pending = s.pending ∧ (s.goLost x1).cyc = s.cyc ∧ (s.goLost x1).hostMem = s.hostMem ∧ (s.goLost
      x1).live = s.live ∧ (s.goLost x1).whoa = s.whoa ∧ (s.goLost x1).chip = s.chip ∧ (s.goLost x1).tack = s.tack ∧
      (s.goLost x1).recd = s.recd ∧ (s.goLost x1).net = s.net ∧ (s.goLost x1).tim = s.tim ∧ (s.goLost x1).gnb =
      s.gnb ∧ (s.goLost x1).fix = s.fix := by
  unfold State.goLost
  try simp
  all_goals (repeat' split) <;> simp_all

@[simp] theorem State.sleeperStart_frame (s : State) (x1 : Nat) :
    (s.sleeperStart x1).pending = s.pending ∧ (s.sleeperStart x1).cyc = s.cyc ∧ (s.sleeperStart x1).hostMem =
      s.hostMem ∧ (s.sleeperStart x1).live = s.live ∧ (s.sleeperStart x1).whoa = s.whoa ∧ (s.sleeperStart x1).chip =
      s.chip ∧ (s.sleeperStart x1).tack = s.tack ∧ (s.sleeperStart x1).recd = s.recd ∧ (s.sleeperStart x1).net =
      s.net ∧ (s.sleeperStart x1).tim = s.tim ∧ (s.sleeperStart x1).gnb = s.gnb ∧ (s.sleeperStart x1).fix = s.fix := by
  unfold State.sleeperStart
  try simp
  all_goals (repeat' split) <;> simp_all

@[simp] theorem State.contextsStart_frame (s : State) :
    (s.contextsStart).pending = s.pending ∧ (s.contextsStart).cyc = s.cyc ∧ (s.contextsStart).hostMem = s.hostMem ∧
      (s.contextsStart).live = s.live ∧ (s.contextsStart).whoa = s.whoa ∧ (s.contextsStart).chip = s.chip ∧
      (s.contextsStart).recd = s.recd ∧ (s.contextsStart).net = s.net ∧ (s.contextsStart).tim = s.tim ∧
      (s.contextsStart).gnb = s.gnb ∧ (s.contextsStart).fix = s.fix := by
  unfold State.contextsStart
  try simp
  all_goals (repeat' split) <;> simp_all

@[simp] theorem State.continueFrame_frame (s : State) (x1 : Wire) :
    (s.continueFrame x1).pending = s.pending ∧ (s.continueFrame x1).cyc = s.cyc ∧ (s.continueFrame x1).hostMem =
      s.hostMem ∧ (s.continueFrame x1).live = s.live ∧ (s.continueFrame x1).whoa = s.whoa ∧ (s.continueFrame
      x1).chip = s.chip ∧ (s.continueFrame x1).tack = s.tack ∧ (s.continueFrame x1).recd = s.recd ∧ (s.continueFrame
      x1).tim = s.tim ∧ (s.continueFrame x1).gnb = s.gnb ∧ (s.continueFrame x1).gait = s.gait ∧ (s.continueFrame
      x1).pad = s.pad ∧ (s.continueFrame x1).fix = s.fix ∧ (s.continueFrame x1).air = s.air ∧ (s.continueFrame
      x1).byl = s.byl := by
  unfold State.continueFrame
  try simp
  all_goals (repeat' split) <;> simp_all

@[simp] theorem State.sendRtcm_frame (s : State) (x1 : RtcmOut) :
    (s.sendRtcm x1).pending = s.pending ∧ (s.sendRtcm x1).cyc = s.cyc ∧ (s.sendRtcm x1).hostMem = s.hostMem ∧
      (s.sendRtcm x1).live = s.live ∧ (s.sendRtcm x1).whoa = s.whoa ∧ (s.sendRtcm x1).chip = s.chip ∧ (s.sendRtcm
      x1).tack = s.tack ∧ (s.sendRtcm x1).recd = s.recd ∧ (s.sendRtcm x1).net = s.net ∧ (s.sendRtcm x1).tim = s.tim
      ∧ (s.sendRtcm x1).gait = s.gait ∧ (s.sendRtcm x1).pad = s.pad ∧ (s.sendRtcm x1).fix = s.fix ∧ (s.sendRtcm
      x1).air = s.air ∧ (s.sendRtcm x1).byl = s.byl := by
  unfold State.sendRtcm
  try simp
  all_goals (repeat' split) <;> simp_all

@[simp] theorem State.sendMsm_frame (s : State) (x1 : Nat) (x2 : Bool) (x3 : BaseItem) :
    (s.sendMsm x1 x2 x3).pending = s.pending ∧ (s.sendMsm x1 x2 x3).cyc = s.cyc ∧ (s.sendMsm x1 x2 x3).hostMem =
      s.hostMem ∧ (s.sendMsm x1 x2 x3).live = s.live ∧ (s.sendMsm x1 x2 x3).whoa = s.whoa ∧ (s.sendMsm x1 x2
      x3).chip = s.chip ∧ (s.sendMsm x1 x2 x3).tack = s.tack ∧ (s.sendMsm x1 x2 x3).recd = s.recd ∧ (s.sendMsm x1 x2
      x3).net = s.net ∧ (s.sendMsm x1 x2 x3).tim = s.tim ∧ (s.sendMsm x1 x2 x3).gait = s.gait ∧ (s.sendMsm x1 x2
      x3).pad = s.pad ∧ (s.sendMsm x1 x2 x3).fix = s.fix ∧ (s.sendMsm x1 x2 x3).air = s.air ∧ (s.sendMsm x1 x2
      x3).byl = s.byl := by
  unfold State.sendMsm
  try simp
  all_goals (repeat' split) <;> simp_all

@[simp] theorem State.corrections_frame (s : State) (x1 : BaseItem) :
    (s.corrections x1).pending = s.pending ∧ (s.corrections x1).cyc = s.cyc ∧ (s.corrections x1).hostMem = s.hostMem
      ∧ (s.corrections x1).live = s.live ∧ (s.corrections x1).whoa = s.whoa ∧ (s.corrections x1).chip = s.chip ∧
      (s.corrections x1).tack = s.tack ∧ (s.corrections x1).recd = s.recd ∧ (s.corrections x1).net = s.net ∧
      (s.corrections x1).tim = s.tim ∧ (s.corrections x1).gait = s.gait ∧ (s.corrections x1).pad = s.pad ∧
      (s.corrections x1).fix = s.fix ∧ (s.corrections x1).air = s.air ∧ (s.corrections x1).byl = s.byl := by
  unfold State.corrections
  try simp
  all_goals (repeat' split) <;> simp_all

@[simp] theorem State.countHold_frame (s : State) :
    (s.countHold).pending = s.pending ∧ (s.countHold).cyc = s.cyc ∧ (s.countHold).hostMem = s.hostMem ∧
      (s.countHold).live = s.live ∧ (s.countHold).chip = s.chip ∧ (s.countHold).tack = s.tack ∧ (s.countHold).recd =
      s.recd ∧ (s.countHold).net = s.net ∧ (s.countHold).tim = s.tim ∧ (s.countHold).gnb = s.gnb ∧
      (s.countHold).gait = s.gait ∧ (s.countHold).pad = s.pad ∧ (s.countHold).fix = s.fix ∧ (s.countHold).air =
      s.air ∧ (s.countHold).byl = s.byl := by
  unfold State.countHold
  try simp
  all_goals (repeat' split) <;> simp_all

@[simp] theorem State.countLate_frame (s : State) (x1 : Nat) (x2 : Nat) :
    (s.countLate x1 x2).pending = s.pending ∧ (s.countLate x1 x2).cyc = s.cyc ∧ (s.countLate x1 x2).hostMem =
      s.hostMem ∧ (s.countLate x1 x2).live = s.live ∧ (s.countLate x1 x2).whoa = s.whoa ∧ (s.countLate x1 x2).chip =
      s.chip ∧ (s.countLate x1 x2).tack = s.tack ∧ (s.countLate x1 x2).recd = s.recd ∧ (s.countLate x1 x2).net =
      s.net ∧ (s.countLate x1 x2).tim = s.tim ∧ (s.countLate x1 x2).gnb = s.gnb ∧ (s.countLate x1 x2).gait = s.gait
      ∧ (s.countLate x1 x2).pad = s.pad ∧ (s.countLate x1 x2).fix = s.fix ∧ (s.countLate x1 x2).byl = s.byl := by
  unfold State.countLate
  try simp
  all_goals (repeat' split) <;> simp_all

@[simp] theorem State.cueDrive_frame (s : State) (x1 : Nat) (x2 : Bool) :
    (s.cueDrive x1 x2).pending = s.pending ∧ (s.cueDrive x1 x2).cyc = s.cyc ∧ (s.cueDrive x1 x2).hostMem = s.hostMem
      ∧ (s.cueDrive x1 x2).live = s.live ∧ (s.cueDrive x1 x2).whoa = s.whoa ∧ (s.cueDrive x1 x2).chip = s.chip ∧
      (s.cueDrive x1 x2).tack = s.tack ∧ (s.cueDrive x1 x2).recd = s.recd ∧ (s.cueDrive x1 x2).net = s.net ∧
      (s.cueDrive x1 x2).gnb = s.gnb ∧ (s.cueDrive x1 x2).gait = s.gait ∧ (s.cueDrive x1 x2).pad = s.pad ∧
      (s.cueDrive x1 x2).fix = s.fix ∧ (s.cueDrive x1 x2).air = s.air ∧ (s.cueDrive x1 x2).byl = s.byl := by
  unfold State.cueDrive
  try simp
  all_goals (repeat' split) <;> simp_all

@[simp] theorem State.cueAct_frame (s : State) (x1 : Desc) :
    (s.cueAct x1).pending = s.pending ∧ (s.cueAct x1).cyc = s.cyc ∧ (s.cueAct x1).hostMem = s.hostMem ∧ (s.cueAct
      x1).live = s.live ∧ (s.cueAct x1).whoa = s.whoa ∧ (s.cueAct x1).chip = s.chip ∧ (s.cueAct x1).tack = s.tack ∧
      (s.cueAct x1).recd = s.recd ∧ (s.cueAct x1).net = s.net ∧ (s.cueAct x1).gnb = s.gnb ∧ (s.cueAct x1).gait =
      s.gait ∧ (s.cueAct x1).pad = s.pad ∧ (s.cueAct x1).fix = s.fix ∧ (s.cueAct x1).air = s.air ∧ (s.cueAct x1).byl
      = s.byl := by
  unfold State.cueAct
  try simp
  all_goals (repeat' split) <;> simp_all

@[simp] theorem State.cueActions_frame (s : State) (x1 : Nat) (x2 : CueSlot) (x3 : Nat) :
    (s.cueActions x1 x2 x3).pending = s.pending ∧ (s.cueActions x1 x2 x3).cyc = s.cyc ∧ (s.cueActions x1 x2
      x3).hostMem = s.hostMem ∧ (s.cueActions x1 x2 x3).live = s.live ∧ (s.cueActions x1 x2 x3).whoa = s.whoa ∧
      (s.cueActions x1 x2 x3).chip = s.chip ∧ (s.cueActions x1 x2 x3).tack = s.tack ∧ (s.cueActions x1 x2 x3).net =
      s.net ∧ (s.cueActions x1 x2 x3).gnb = s.gnb ∧ (s.cueActions x1 x2 x3).gait = s.gait ∧ (s.cueActions x1 x2
      x3).pad = s.pad ∧ (s.cueActions x1 x2 x3).fix = s.fix ∧ (s.cueActions x1 x2 x3).air = s.air ∧ (s.cueActions x1
      x2 x3).byl = s.byl := by
  unfold State.cueActions
  try simp
  all_goals (repeat' split) <;> simp_all

@[simp] theorem State.putLong_frame (s : State) (x1 : LongOp) :
    (s.putLong x1).pending = s.pending ∧ (s.putLong x1).cyc = s.cyc ∧ (s.putLong x1).hostMem = s.hostMem ∧
      (s.putLong x1).live = s.live ∧ (s.putLong x1).whoa = s.whoa ∧ (s.putLong x1).chip = s.chip ∧ (s.putLong
      x1).tack = s.tack ∧ (s.putLong x1).recd = s.recd ∧ (s.putLong x1).net = s.net ∧ (s.putLong x1).tim = s.tim ∧
      (s.putLong x1).gnb = s.gnb ∧ (s.putLong x1).gait = s.gait ∧ (s.putLong x1).pad = s.pad ∧ (s.putLong x1).fix =
      s.fix ∧ (s.putLong x1).air = s.air ∧ (s.putLong x1).byl = s.byl := by
  unfold State.putLong
  try simp
  all_goals (repeat' split) <;> simp_all

@[simp] theorem State.cueProgress_frame (s : State) (x1 : CueSlot) :
    (s.cueProgress x1).pending = s.pending ∧ (s.cueProgress x1).cyc = s.cyc ∧ (s.cueProgress x1).hostMem = s.hostMem
      ∧ (s.cueProgress x1).live = s.live ∧ (s.cueProgress x1).whoa = s.whoa ∧ (s.cueProgress x1).chip = s.chip ∧
      (s.cueProgress x1).tack = s.tack ∧ (s.cueProgress x1).recd = s.recd ∧ (s.cueProgress x1).net = s.net ∧
      (s.cueProgress x1).tim = s.tim ∧ (s.cueProgress x1).gnb = s.gnb ∧ (s.cueProgress x1).gait = s.gait ∧
      (s.cueProgress x1).pad = s.pad ∧ (s.cueProgress x1).fix = s.fix ∧ (s.cueProgress x1).air = s.air ∧
      (s.cueProgress x1).byl = s.byl := by
  unfold State.cueProgress
  try simp
  all_goals (repeat' split) <;> simp_all

@[simp] theorem State.cueNext_frame (s : State) (x1 : Nat) (x2 : CueSlot) :
    (s.cueNext x1 x2).pending = s.pending ∧ (s.cueNext x1 x2).cyc = s.cyc ∧ (s.cueNext x1 x2).hostMem = s.hostMem ∧
      (s.cueNext x1 x2).live = s.live ∧ (s.cueNext x1 x2).whoa = s.whoa ∧ (s.cueNext x1 x2).chip = s.chip ∧
      (s.cueNext x1 x2).tack = s.tack ∧ (s.cueNext x1 x2).recd = s.recd ∧ (s.cueNext x1 x2).net = s.net ∧ (s.cueNext
      x1 x2).gnb = s.gnb ∧ (s.cueNext x1 x2).gait = s.gait ∧ (s.cueNext x1 x2).pad = s.pad ∧ (s.cueNext x1 x2).fix =
      s.fix ∧ (s.cueNext x1 x2).air = s.air ∧ (s.cueNext x1 x2).byl = s.byl := by
  unfold State.cueNext
  try simp
  all_goals (repeat' split) <;> simp_all

@[simp] theorem State.cueFire_frame (s : State) (x1 : Nat) (x2 : CueSlot) (x3 : Bool) (x4 : Nat) :
    (s.cueFire x1 x2 x3 x4).pending = s.pending ∧ (s.cueFire x1 x2 x3 x4).cyc = s.cyc ∧ (s.cueFire x1 x2 x3
      x4).hostMem = s.hostMem ∧ (s.cueFire x1 x2 x3 x4).live = s.live ∧ (s.cueFire x1 x2 x3 x4).whoa = s.whoa ∧
      (s.cueFire x1 x2 x3 x4).chip = s.chip ∧ (s.cueFire x1 x2 x3 x4).tack = s.tack ∧ (s.cueFire x1 x2 x3 x4).net =
      s.net ∧ (s.cueFire x1 x2 x3 x4).gnb = s.gnb ∧ (s.cueFire x1 x2 x3 x4).gait = s.gait ∧ (s.cueFire x1 x2 x3
      x4).pad = s.pad ∧ (s.cueFire x1 x2 x3 x4).fix = s.fix ∧ (s.cueFire x1 x2 x3 x4).air = s.air ∧ (s.cueFire x1 x2
      x3 x4).byl = s.byl := by
  unfold State.cueFire
  try simp
  all_goals (repeat' split) <;> simp_all

@[simp] theorem State.takeCue_frame (s : State) (x1 : Item) (x2 : Option Desc) (x3 : Nat) :
    (s.takeCue x1 x2 x3).pending = s.pending ∧ (s.takeCue x1 x2 x3).cyc = s.cyc ∧ (s.takeCue x1 x2 x3).hostMem =
      s.hostMem ∧ (s.takeCue x1 x2 x3).live = s.live ∧ (s.takeCue x1 x2 x3).whoa = s.whoa ∧ (s.takeCue x1 x2
      x3).chip = s.chip ∧ (s.takeCue x1 x2 x3).tack = s.tack ∧ (s.takeCue x1 x2 x3).recd = s.recd ∧ (s.takeCue x1 x2
      x3).net = s.net ∧ (s.takeCue x1 x2 x3).gnb = s.gnb ∧ (s.takeCue x1 x2 x3).gait = s.gait ∧ (s.takeCue x1 x2
      x3).pad = s.pad ∧ (s.takeCue x1 x2 x3).fix = s.fix ∧ (s.takeCue x1 x2 x3).air = s.air ∧ (s.takeCue x1 x2
      x3).byl = s.byl := by
  unfold State.takeCue
  try simp
  all_goals (repeat' split) <;> simp_all

@[simp] theorem State.cueNow_frame (s : State) (x1 : Item) (x2 : Option Desc) (x3 : Nat) :
    (s.cueNow x1 x2 x3).pending = s.pending ∧ (s.cueNow x1 x2 x3).cyc = s.cyc ∧ (s.cueNow x1 x2 x3).hostMem =
      s.hostMem ∧ (s.cueNow x1 x2 x3).live = s.live ∧ (s.cueNow x1 x2 x3).whoa = s.whoa ∧ (s.cueNow x1 x2 x3).chip =
      s.chip ∧ (s.cueNow x1 x2 x3).tack = s.tack ∧ (s.cueNow x1 x2 x3).net = s.net ∧ (s.cueNow x1 x2 x3).gnb = s.gnb
      ∧ (s.cueNow x1 x2 x3).gait = s.gait ∧ (s.cueNow x1 x2 x3).pad = s.pad ∧ (s.cueNow x1 x2 x3).fix = s.fix ∧
      (s.cueNow x1 x2 x3).air = s.air ∧ (s.cueNow x1 x2 x3).byl = s.byl := by
  unfold State.cueNow
  try simp
  all_goals (repeat' split) <;> simp_all

@[simp] theorem State.cueSkip_frame (s : State) (x1 : Nat) (x2 : CueSlot) (x3 : Nat) :
    (s.cueSkip x1 x2 x3).pending = s.pending ∧ (s.cueSkip x1 x2 x3).cyc = s.cyc ∧ (s.cueSkip x1 x2 x3).hostMem =
      s.hostMem ∧ (s.cueSkip x1 x2 x3).live = s.live ∧ (s.cueSkip x1 x2 x3).whoa = s.whoa ∧ (s.cueSkip x1 x2
      x3).chip = s.chip ∧ (s.cueSkip x1 x2 x3).tack = s.tack ∧ (s.cueSkip x1 x2 x3).recd = s.recd ∧ (s.cueSkip x1 x2
      x3).net = s.net ∧ (s.cueSkip x1 x2 x3).gnb = s.gnb ∧ (s.cueSkip x1 x2 x3).gait = s.gait ∧ (s.cueSkip x1 x2
      x3).pad = s.pad ∧ (s.cueSkip x1 x2 x3).fix = s.fix ∧ (s.cueSkip x1 x2 x3).air = s.air ∧ (s.cueSkip x1 x2
      x3).byl = s.byl := by
  unfold State.cueSkip
  try simp
  all_goals (repeat' split) <;> simp_all

@[simp] theorem State.cueStep_frame (s : State) (x1 : Nat) :
    (s.cueStep x1).pending = s.pending ∧ (s.cueStep x1).cyc = s.cyc ∧ (s.cueStep x1).hostMem = s.hostMem ∧
      (s.cueStep x1).live = s.live ∧ (s.cueStep x1).whoa = s.whoa ∧ (s.cueStep x1).chip = s.chip ∧ (s.cueStep
      x1).tack = s.tack ∧ (s.cueStep x1).net = s.net ∧ (s.cueStep x1).gnb = s.gnb ∧ (s.cueStep x1).gait = s.gait ∧
      (s.cueStep x1).pad = s.pad ∧ (s.cueStep x1).fix = s.fix ∧ (s.cueStep x1).air = s.air ∧ (s.cueStep x1).byl =
      s.byl := by
  unfold State.cueStep
  try simp
  all_goals (repeat' split) <;> simp_all

@[simp] theorem State.curbQueue_frame (s : State) (x1 : Nat) :
    (s.curbQueue x1).pending = s.pending ∧ (s.curbQueue x1).cyc = s.cyc ∧ (s.curbQueue x1).hostMem = s.hostMem ∧
      (s.curbQueue x1).live = s.live ∧ (s.curbQueue x1).whoa = s.whoa ∧ (s.curbQueue x1).chip = s.chip ∧
      (s.curbQueue x1).tack = s.tack ∧ (s.curbQueue x1).recd = s.recd ∧ (s.curbQueue x1).net = s.net ∧ (s.curbQueue
      x1).tim = s.tim ∧ (s.curbQueue x1).gnb = s.gnb ∧ (s.curbQueue x1).gait = s.gait ∧ (s.curbQueue x1).pad = s.pad
      ∧ (s.curbQueue x1).fix = s.fix ∧ (s.curbQueue x1).air = s.air ∧ (s.curbQueue x1).byl = s.byl := by
  unfold State.curbQueue
  try simp
  all_goals (repeat' split) <;> simp_all

@[simp] theorem State.datumEpoch_frame (s : State) (x1 : Nat) (x2 : FixRec) (x3 : Int) :
    (s.datumEpoch x1 x2 x3).1.pending = s.pending ∧ (s.datumEpoch x1 x2 x3).1.cyc = s.cyc ∧ (s.datumEpoch x1 x2
      x3).1.hostMem = s.hostMem ∧ (s.datumEpoch x1 x2 x3).1.live = s.live ∧ (s.datumEpoch x1 x2 x3).1.whoa = s.whoa
      ∧ (s.datumEpoch x1 x2 x3).1.chip = s.chip ∧ (s.datumEpoch x1 x2 x3).1.tack = s.tack ∧ (s.datumEpoch x1 x2
      x3).1.recd = s.recd ∧ (s.datumEpoch x1 x2 x3).1.net = s.net ∧ (s.datumEpoch x1 x2 x3).1.tim = s.tim ∧
      (s.datumEpoch x1 x2 x3).1.gnb = s.gnb ∧ (s.datumEpoch x1 x2 x3).1.pad = s.pad ∧ (s.datumEpoch x1 x2 x3).1.fix
      = s.fix ∧ (s.datumEpoch x1 x2 x3).1.air = s.air ∧ (s.datumEpoch x1 x2 x3).1.byl = s.byl := by
  unfold State.datumEpoch
  try simp
  all_goals (repeat' split) <;> simp_all

@[simp] theorem State.pushOne_frame (s : State) (x1 : Nat) (x2 : Nat) (x3 : QPush) :
    (s.pushOne x1 x2 x3).1.pending = s.pending ∧ (s.pushOne x1 x2 x3).1.cyc = s.cyc ∧ (s.pushOne x1 x2 x3).1.hostMem
      = s.hostMem ∧ (s.pushOne x1 x2 x3).1.live = s.live ∧ (s.pushOne x1 x2 x3).1.whoa = s.whoa ∧ (s.pushOne x1 x2
      x3).1.chip = s.chip ∧ (s.pushOne x1 x2 x3).1.tack = s.tack ∧ (s.pushOne x1 x2 x3).1.recd = s.recd ∧ (s.pushOne
      x1 x2 x3).1.net = s.net ∧ (s.pushOne x1 x2 x3).1.tim = s.tim ∧ (s.pushOne x1 x2 x3).1.gnb = s.gnb ∧ (s.pushOne
      x1 x2 x3).1.gait = s.gait ∧ (s.pushOne x1 x2 x3).1.pad = s.pad ∧ (s.pushOne x1 x2 x3).1.fix = s.fix ∧
      (s.pushOne x1 x2 x3).1.air = s.air ∧ (s.pushOne x1 x2 x3).1.byl = s.byl := by
  unfold State.pushOne
  try simp
  all_goals (repeat' split) <;> simp_all

@[simp] theorem State.swapBanks_frame (s : State) (x1 : Nat) :
    (s.swapBanks x1).pending = s.pending ∧ (s.swapBanks x1).cyc = s.cyc ∧ (s.swapBanks x1).hostMem = s.hostMem ∧
      (s.swapBanks x1).live = s.live ∧ (s.swapBanks x1).whoa = s.whoa ∧ (s.swapBanks x1).chip = s.chip ∧
      (s.swapBanks x1).tack = s.tack ∧ (s.swapBanks x1).recd = s.recd ∧ (s.swapBanks x1).net = s.net ∧ (s.swapBanks
      x1).tim = s.tim ∧ (s.swapBanks x1).gnb = s.gnb ∧ (s.swapBanks x1).gait = s.gait ∧ (s.swapBanks x1).pad = s.pad
      ∧ (s.swapBanks x1).fix = s.fix ∧ (s.swapBanks x1).air = s.air ∧ (s.swapBanks x1).byl = s.byl := by
  unfold State.swapBanks
  try simp
  all_goals (repeat' split) <;> simp_all

@[simp] theorem State.pushPacket_frame (s : State) (x1 : Nat) (x2 : Nat) (x3 : Packet) :
    (s.pushPacket x1 x2 x3).1.pending = s.pending ∧ (s.pushPacket x1 x2 x3).1.cyc = s.cyc ∧ (s.pushPacket x1 x2
      x3).1.hostMem = s.hostMem ∧ (s.pushPacket x1 x2 x3).1.live = s.live ∧ (s.pushPacket x1 x2 x3).1.whoa = s.whoa
      ∧ (s.pushPacket x1 x2 x3).1.chip = s.chip ∧ (s.pushPacket x1 x2 x3).1.tack = s.tack ∧ (s.pushPacket x1 x2
      x3).1.recd = s.recd ∧ (s.pushPacket x1 x2 x3).1.net = s.net ∧ (s.pushPacket x1 x2 x3).1.tim = s.tim ∧
      (s.pushPacket x1 x2 x3).1.gnb = s.gnb ∧ (s.pushPacket x1 x2 x3).1.gait = s.gait ∧ (s.pushPacket x1 x2
      x3).1.pad = s.pad ∧ (s.pushPacket x1 x2 x3).1.fix = s.fix ∧ (s.pushPacket x1 x2 x3).1.air = s.air ∧
      (s.pushPacket x1 x2 x3).1.byl = s.byl := by
  unfold State.pushPacket
  try simp
  all_goals (repeat' split) <;> simp_all

@[simp] theorem State.flushBase_frame (s : State) (x1 : List Packet) :
    (s.flushBase x1).pending = s.pending ∧ (s.flushBase x1).cyc = s.cyc ∧ (s.flushBase x1).hostMem = s.hostMem ∧
      (s.flushBase x1).live = s.live ∧ (s.flushBase x1).whoa = s.whoa ∧ (s.flushBase x1).chip = s.chip ∧
      (s.flushBase x1).tack = s.tack ∧ (s.flushBase x1).recd = s.recd ∧ (s.flushBase x1).net = s.net ∧ (s.flushBase
      x1).tim = s.tim ∧ (s.flushBase x1).gait = s.gait ∧ (s.flushBase x1).pad = s.pad ∧ (s.flushBase x1).fix = s.fix
      ∧ (s.flushBase x1).air = s.air ∧ (s.flushBase x1).byl = s.byl := by
  induction x1 generalizing s with
  | nil => simp [State.flushBase]
  | cons a r ih => unfold State.flushBase; dsimp only; split <;> simp_all

@[simp] theorem State.deliverBase_frame (s : State) (x1 : BaseItem) :
    (s.deliverBase x1).pending = s.pending ∧ (s.deliverBase x1).cyc = s.cyc ∧ (s.deliverBase x1).hostMem = s.hostMem
      ∧ (s.deliverBase x1).live = s.live ∧ (s.deliverBase x1).whoa = s.whoa ∧ (s.deliverBase x1).chip = s.chip ∧
      (s.deliverBase x1).tack = s.tack ∧ (s.deliverBase x1).recd = s.recd ∧ (s.deliverBase x1).net = s.net ∧
      (s.deliverBase x1).tim = s.tim ∧ (s.deliverBase x1).gait = s.gait ∧ (s.deliverBase x1).pad = s.pad ∧
      (s.deliverBase x1).fix = s.fix ∧ (s.deliverBase x1).air = s.air ∧ (s.deliverBase x1).byl = s.byl := by
  unfold State.deliverBase
  try simp
  all_goals (repeat' split) <;> simp_all

@[simp] theorem State.endCapture_frame (s : State) (x1 : Nat) (x2 : Status) :
    (s.endCapture x1 x2).pending = s.pending ∧ (s.endCapture x1 x2).cyc = s.cyc ∧ (s.endCapture x1 x2).hostMem =
      s.hostMem ∧ (s.endCapture x1 x2).live = s.live ∧ (s.endCapture x1 x2).whoa = s.whoa ∧ (s.endCapture x1
      x2).chip = s.chip ∧ (s.endCapture x1 x2).tack = s.tack ∧ (s.endCapture x1 x2).net = s.net ∧ (s.endCapture x1
      x2).tim = s.tim ∧ (s.endCapture x1 x2).gnb = s.gnb ∧ (s.endCapture x1 x2).gait = s.gait ∧ (s.endCapture x1
      x2).pad = s.pad ∧ (s.endCapture x1 x2).fix = s.fix ∧ (s.endCapture x1 x2).air = s.air ∧ (s.endCapture x1
      x2).byl = s.byl := by
  unfold State.endCapture
  try simp
  all_goals (repeat' split) <;> simp_all

@[simp] theorem State.disarm_frame (s : State) :
    (s.disarm).pending = s.pending ∧ (s.disarm).cyc = s.cyc ∧ (s.disarm).hostMem = s.hostMem ∧ (s.disarm).live =
      s.live ∧ (s.disarm).whoa = s.whoa ∧ (s.disarm).chip = s.chip ∧ (s.disarm).tack = s.tack ∧ (s.disarm).net =
      s.net ∧ (s.disarm).tim = s.tim ∧ (s.disarm).gnb = s.gnb ∧ (s.disarm).gait = s.gait ∧ (s.disarm).pad = s.pad ∧
      (s.disarm).fix = s.fix ∧ (s.disarm).air = s.air ∧ (s.disarm).byl = s.byl := by
  unfold State.disarm
  try simp
  all_goals (repeat' split) <;> simp_all

@[simp] theorem State.discCell_frame (s : State) (x1 : PadGeom) (x2 : Nat) (x3 : Disc) (x4 : Cell) :
    (s.discCell x1 x2 x3 x4).pending = s.pending ∧ (s.discCell x1 x2 x3 x4).cyc = s.cyc ∧ (s.discCell x1 x2 x3
      x4).hostMem = s.hostMem ∧ (s.discCell x1 x2 x3 x4).live = s.live ∧ (s.discCell x1 x2 x3 x4).whoa = s.whoa ∧
      (s.discCell x1 x2 x3 x4).chip = s.chip ∧ (s.discCell x1 x2 x3 x4).tack = s.tack ∧ (s.discCell x1 x2 x3
      x4).recd = s.recd ∧ (s.discCell x1 x2 x3 x4).net = s.net ∧ (s.discCell x1 x2 x3 x4).tim = s.tim ∧ (s.discCell
      x1 x2 x3 x4).gnb = s.gnb ∧ (s.discCell x1 x2 x3 x4).gait = s.gait ∧ (s.discCell x1 x2 x3 x4).fix = s.fix ∧
      (s.discCell x1 x2 x3 x4).air = s.air ∧ (s.discCell x1 x2 x3 x4).byl = s.byl := by
  unfold State.discCell
  try simp
  all_goals (repeat' split) <;> simp_all

@[simp] theorem State.discardSaved_frame (s : State) (x1 : Nat) :
    (s.discardSaved x1).pending = s.pending ∧ (s.discardSaved x1).cyc = s.cyc ∧ (s.discardSaved x1).hostMem =
      s.hostMem ∧ (s.discardSaved x1).live = s.live ∧ (s.discardSaved x1).whoa = s.whoa ∧ (s.discardSaved x1).chip =
      s.chip ∧ (s.discardSaved x1).tack = s.tack ∧ (s.discardSaved x1).recd = s.recd ∧ (s.discardSaved x1).net =
      s.net ∧ (s.discardSaved x1).tim = s.tim ∧ (s.discardSaved x1).gnb = s.gnb ∧ (s.discardSaved x1).gait = s.gait
      ∧ (s.discardSaved x1).pad = s.pad ∧ (s.discardSaved x1).fix = s.fix ∧ (s.discardSaved x1).air = s.air ∧
      (s.discardSaved x1).byl = s.byl := by
  unfold State.discardSaved
  try simp
  all_goals (repeat' split) <;> simp_all

@[simp] theorem State.dramRefused_frame (s : State) (x1 : DramAccess) :
    (s.dramRefused x1).pending = s.pending ∧ (s.dramRefused x1).cyc = s.cyc ∧ (s.dramRefused x1).hostMem = s.hostMem
      ∧ (s.dramRefused x1).live = s.live ∧ (s.dramRefused x1).whoa = s.whoa ∧ (s.dramRefused x1).net = s.net ∧
      (s.dramRefused x1).air = s.air := by
  unfold State.dramRefused
  try simp
  all_goals (repeat' split) <;> simp_all

@[simp] theorem State.reportPool_frame (s : State) :
    (s.reportPool).pending = s.pending ∧ (s.reportPool).cyc = s.cyc ∧ (s.reportPool).hostMem = s.hostMem ∧
      (s.reportPool).live = s.live ∧ (s.reportPool).whoa = s.whoa ∧ (s.reportPool).chip = s.chip ∧
      (s.reportPool).tack = s.tack ∧ (s.reportPool).recd = s.recd ∧ (s.reportPool).net = s.net ∧ (s.reportPool).tim
      = s.tim ∧ (s.reportPool).gnb = s.gnb ∧ (s.reportPool).gait = s.gait ∧ (s.reportPool).pad = s.pad ∧
      (s.reportPool).fix = s.fix ∧ (s.reportPool).air = s.air ∧ (s.reportPool).byl = s.byl := by
  unfold State.reportPool
  try simp
  all_goals (repeat' split) <;> simp_all

@[simp] theorem State.dropShadow_frame (s : State) (x1 : Entry) :
    (s.dropShadow x1).pending = s.pending ∧ (s.dropShadow x1).cyc = s.cyc ∧ (s.dropShadow x1).hostMem = s.hostMem ∧
      (s.dropShadow x1).live = s.live ∧ (s.dropShadow x1).whoa = s.whoa ∧ (s.dropShadow x1).chip = s.chip ∧
      (s.dropShadow x1).tack = s.tack ∧ (s.dropShadow x1).recd = s.recd ∧ (s.dropShadow x1).net = s.net ∧
      (s.dropShadow x1).tim = s.tim ∧ (s.dropShadow x1).gnb = s.gnb ∧ (s.dropShadow x1).gait = s.gait ∧
      (s.dropShadow x1).pad = s.pad ∧ (s.dropShadow x1).air = s.air ∧ (s.dropShadow x1).byl = s.byl := by
  unfold State.dropShadow
  try simp
  all_goals (repeat' split) <;> simp_all

@[simp] theorem State.dropped_frame (s : State) (x1 : Nat) (x2 : AirVerdict) :
    (s.dropped x1 x2).pending = s.pending ∧ (s.dropped x1 x2).cyc = s.cyc ∧ (s.dropped x1 x2).hostMem = s.hostMem ∧
      (s.dropped x1 x2).live = s.live ∧ (s.dropped x1 x2).whoa = s.whoa ∧ (s.dropped x1 x2).chip = s.chip ∧
      (s.dropped x1 x2).tack = s.tack ∧ (s.dropped x1 x2).recd = s.recd ∧ (s.dropped x1 x2).net = s.net ∧ (s.dropped
      x1 x2).tim = s.tim ∧ (s.dropped x1 x2).gnb = s.gnb ∧ (s.dropped x1 x2).gait = s.gait ∧ (s.dropped x1 x2).pad =
      s.pad ∧ (s.dropped x1 x2).fix = s.fix ∧ (s.dropped x1 x2).air = s.air ∧ (s.dropped x1 x2).byl = s.byl := by
  unfold State.dropped
  try simp
  all_goals (repeat' split) <;> simp_all

@[simp] theorem State.pulsePps_frame (s : State) (x1 : Nat) :
    (s.pulsePps x1).pending = s.pending ∧ (s.pulsePps x1).cyc = s.cyc ∧ (s.pulsePps x1).hostMem = s.hostMem ∧
      (s.pulsePps x1).live = s.live ∧ (s.pulsePps x1).whoa = s.whoa ∧ (s.pulsePps x1).chip = s.chip ∧ (s.pulsePps
      x1).tack = s.tack ∧ (s.pulsePps x1).net = s.net ∧ (s.pulsePps x1).gnb = s.gnb ∧ (s.pulsePps x1).gait = s.gait
      ∧ (s.pulsePps x1).pad = s.pad ∧ (s.pulsePps x1).fix = s.fix ∧ (s.pulsePps x1).air = s.air ∧ (s.pulsePps
      x1).byl = s.byl := by
  unfold State.pulsePps
  try simp
  all_goals (repeat' split) <;> simp_all

@[simp] theorem State.passMark_frame (s : State) (x1 : Nat) :
    (s.passMark x1).pending = s.pending ∧ (s.passMark x1).cyc = s.cyc ∧ (s.passMark x1).hostMem = s.hostMem ∧
      (s.passMark x1).live = s.live ∧ (s.passMark x1).whoa = s.whoa ∧ (s.passMark x1).chip = s.chip ∧ (s.passMark
      x1).tack = s.tack ∧ (s.passMark x1).net = s.net ∧ (s.passMark x1).gnb = s.gnb ∧ (s.passMark x1).gait = s.gait
      ∧ (s.passMark x1).pad = s.pad ∧ (s.passMark x1).fix = s.fix ∧ (s.passMark x1).air = s.air ∧ (s.passMark
      x1).byl = s.byl := by
  unfold State.passMark
  try simp
  all_goals (repeat' split) <;> simp_all

@[simp] theorem State.stepPps_frame (s : State) (x1 : Nat) (x2 : Int) (x3 : Bool) :
    (s.stepPps x1 x2 x3).pending = s.pending ∧ (s.stepPps x1 x2 x3).cyc = s.cyc ∧ (s.stepPps x1 x2 x3).hostMem =
      s.hostMem ∧ (s.stepPps x1 x2 x3).live = s.live ∧ (s.stepPps x1 x2 x3).whoa = s.whoa ∧ (s.stepPps x1 x2
      x3).chip = s.chip ∧ (s.stepPps x1 x2 x3).tack = s.tack ∧ (s.stepPps x1 x2 x3).net = s.net ∧ (s.stepPps x1 x2
      x3).gnb = s.gnb ∧ (s.stepPps x1 x2 x3).gait = s.gait ∧ (s.stepPps x1 x2 x3).pad = s.pad ∧ (s.stepPps x1 x2
      x3).fix = s.fix ∧ (s.stepPps x1 x2 x3).air = s.air ∧ (s.stepPps x1 x2 x3).byl = s.byl := by
  unfold State.stepPps
  try simp
  all_goals (repeat' split) <;> simp_all

@[simp] theorem State.stepCounter_frame (s : State) (x1 : Int) :
    (s.stepCounter x1).pending = s.pending ∧ (s.stepCounter x1).cyc = s.cyc ∧ (s.stepCounter x1).hostMem = s.hostMem
      ∧ (s.stepCounter x1).live = s.live ∧ (s.stepCounter x1).whoa = s.whoa ∧ (s.stepCounter x1).chip = s.chip ∧
      (s.stepCounter x1).tack = s.tack ∧ (s.stepCounter x1).net = s.net ∧ (s.stepCounter x1).gnb = s.gnb ∧
      (s.stepCounter x1).gait = s.gait ∧ (s.stepCounter x1).pad = s.pad ∧ (s.stepCounter x1).fix = s.fix ∧
      (s.stepCounter x1).air = s.air ∧ (s.stepCounter x1).byl = s.byl := by
  unfold State.stepCounter
  try simp
  all_goals (repeat' split) <;> simp_all

@[simp] theorem State.setTimeStep_frame (s : State) (x1 : SetTimeWait) :
    (s.setTimeStep x1).pending = s.pending ∧ (s.setTimeStep x1).cyc = s.cyc ∧ (s.setTimeStep x1).hostMem = s.hostMem
      ∧ (s.setTimeStep x1).live = s.live ∧ (s.setTimeStep x1).whoa = s.whoa ∧ (s.setTimeStep x1).chip = s.chip ∧
      (s.setTimeStep x1).tack = s.tack ∧ (s.setTimeStep x1).net = s.net ∧ (s.setTimeStep x1).gnb = s.gnb ∧
      (s.setTimeStep x1).gait = s.gait ∧ (s.setTimeStep x1).pad = s.pad ∧ (s.setTimeStep x1).air = s.air ∧
      (s.setTimeStep x1).byl = s.byl := by
  unfold State.setTimeStep
  try simp
  all_goals (repeat' split) <;> simp_all

@[simp] theorem State.ownStep_frame (s : State) (x1 : Int) :
    (s.ownStep x1).pending = s.pending ∧ (s.ownStep x1).cyc = s.cyc ∧ (s.ownStep x1).hostMem = s.hostMem ∧
      (s.ownStep x1).live = s.live ∧ (s.ownStep x1).whoa = s.whoa ∧ (s.ownStep x1).chip = s.chip ∧ (s.ownStep
      x1).tack = s.tack ∧ (s.ownStep x1).net = s.net ∧ (s.ownStep x1).gnb = s.gnb ∧ (s.ownStep x1).gait = s.gait ∧
      (s.ownStep x1).pad = s.pad ∧ (s.ownStep x1).air = s.air ∧ (s.ownStep x1).byl = s.byl := by
  unfold State.ownStep
  try simp
  all_goals (repeat' split) <;> simp_all

@[simp] theorem State.dueStep_frame (s : State) :
    (s.dueStep).1.pending = s.pending ∧ (s.dueStep).1.cyc = s.cyc ∧ (s.dueStep).1.hostMem = s.hostMem ∧
      (s.dueStep).1.live = s.live ∧ (s.dueStep).1.whoa = s.whoa ∧ (s.dueStep).1.chip = s.chip ∧ (s.dueStep).1.tack =
      s.tack ∧ (s.dueStep).1.net = s.net ∧ (s.dueStep).1.gnb = s.gnb ∧ (s.dueStep).1.gait = s.gait ∧
      (s.dueStep).1.pad = s.pad ∧ (s.dueStep).1.air = s.air ∧ (s.dueStep).1.byl = s.byl := by
  unfold State.dueStep
  try simp
  all_goals (repeat' split) <;> simp_all

@[simp] theorem State.endImport_frame (s : State) (x1 : LongOp) (x2 : Status) :
    (s.endImport x1 x2).pending = s.pending ∧ (s.endImport x1 x2).cyc = s.cyc ∧ (s.endImport x1 x2).hostMem =
      s.hostMem ∧ (s.endImport x1 x2).live = s.live ∧ (s.endImport x1 x2).whoa = s.whoa ∧ (s.endImport x1 x2).chip =
      s.chip ∧ (s.endImport x1 x2).tack = s.tack ∧ (s.endImport x1 x2).recd = s.recd ∧ (s.endImport x1 x2).net =
      s.net ∧ (s.endImport x1 x2).tim = s.tim ∧ (s.endImport x1 x2).gnb = s.gnb ∧ (s.endImport x1 x2).gait = s.gait
      ∧ (s.endImport x1 x2).fix = s.fix ∧ (s.endImport x1 x2).air = s.air ∧ (s.endImport x1 x2).byl = s.byl := by
  unfold State.endImport
  try simp
  all_goals (repeat' split) <;> simp_all

@[simp] theorem State.endReinit_frame (s : State) (x1 : LongOp) (x2 : Status) :
    (s.endReinit x1 x2).pending = s.pending ∧ (s.endReinit x1 x2).cyc = s.cyc ∧ (s.endReinit x1 x2).hostMem =
      s.hostMem ∧ (s.endReinit x1 x2).live = s.live ∧ (s.endReinit x1 x2).whoa = s.whoa ∧ (s.endReinit x1 x2).chip =
      s.chip ∧ (s.endReinit x1 x2).tack = s.tack ∧ (s.endReinit x1 x2).recd = s.recd ∧ (s.endReinit x1 x2).net =
      s.net ∧ (s.endReinit x1 x2).tim = s.tim ∧ (s.endReinit x1 x2).gnb = s.gnb ∧ (s.endReinit x1 x2).gait = s.gait
      ∧ (s.endReinit x1 x2).pad = s.pad ∧ (s.endReinit x1 x2).air = s.air ∧ (s.endReinit x1 x2).byl = s.byl := by
  unfold State.endReinit
  try simp
  all_goals (repeat' split) <;> simp_all

@[simp] theorem State.endReplan_frame (s : State) (x1 : Item) (x2 : PlanOutcome) :
    (s.endReplan x1 x2).pending = s.pending ∧ (s.endReplan x1 x2).cyc = s.cyc ∧ (s.endReplan x1 x2).hostMem =
      s.hostMem ∧ (s.endReplan x1 x2).live = s.live ∧ (s.endReplan x1 x2).whoa = s.whoa ∧ (s.endReplan x1 x2).chip =
      s.chip ∧ (s.endReplan x1 x2).tack = s.tack ∧ (s.endReplan x1 x2).recd = s.recd ∧ (s.endReplan x1 x2).net =
      s.net ∧ (s.endReplan x1 x2).tim = s.tim ∧ (s.endReplan x1 x2).gnb = s.gnb ∧ (s.endReplan x1 x2).pad = s.pad ∧
      (s.endReplan x1 x2).air = s.air ∧ (s.endReplan x1 x2).byl = s.byl := by
  unfold State.endReplan
  try simp
  all_goals (repeat' split) <;> simp_all

@[simp] theorem State.endSurvey_frame (s : State) (x1 : LongOp) (x2 : Status) :
    (s.endSurvey x1 x2).pending = s.pending ∧ (s.endSurvey x1 x2).cyc = s.cyc ∧ (s.endSurvey x1 x2).hostMem =
      s.hostMem ∧ (s.endSurvey x1 x2).live = s.live ∧ (s.endSurvey x1 x2).whoa = s.whoa ∧ (s.endSurvey x1 x2).chip =
      s.chip ∧ (s.endSurvey x1 x2).tack = s.tack ∧ (s.endSurvey x1 x2).recd = s.recd ∧ (s.endSurvey x1 x2).net =
      s.net ∧ (s.endSurvey x1 x2).tim = s.tim ∧ (s.endSurvey x1 x2).gait = s.gait ∧ (s.endSurvey x1 x2).pad = s.pad
      ∧ (s.endSurvey x1 x2).fix = s.fix ∧ (s.endSurvey x1 x2).air = s.air ∧ (s.endSurvey x1 x2).byl = s.byl := by
  unfold State.endSurvey
  try simp
  all_goals (repeat' split) <;> simp_all

@[simp] theorem State.failSweep_frame (s : State) (x1 : Item) (x2 : Status) (x3 : PlanOutcome) (x4 : Res) (x5 : Nat) :
    (s.failSweep x1 x2 x3 x4 x5).pending = s.pending ∧ (s.failSweep x1 x2 x3 x4 x5).cyc = s.cyc ∧ (s.failSweep x1 x2
      x3 x4 x5).hostMem = s.hostMem ∧ (s.failSweep x1 x2 x3 x4 x5).live = s.live ∧ (s.failSweep x1 x2 x3 x4 x5).whoa
      = s.whoa ∧ (s.failSweep x1 x2 x3 x4 x5).chip = s.chip ∧ (s.failSweep x1 x2 x3 x4 x5).tack = s.tack ∧
      (s.failSweep x1 x2 x3 x4 x5).recd = s.recd ∧ (s.failSweep x1 x2 x3 x4 x5).net = s.net ∧ (s.failSweep x1 x2 x3
      x4 x5).tim = s.tim ∧ (s.failSweep x1 x2 x3 x4 x5).gnb = s.gnb ∧ (s.failSweep x1 x2 x3 x4 x5).air = s.air := by
  unfold State.failSweep
  try simp
  all_goals (repeat' split) <;> simp_all

@[simp] theorem State.enqueueSweep_frame (s : State) (x1 : Item) (x2 : SweepReq) (x3 : Option Nat) :
    (s.enqueueSweep x1 x2 x3).pending = s.pending ∧ (s.enqueueSweep x1 x2 x3).cyc = s.cyc ∧ (s.enqueueSweep x1 x2
      x3).hostMem = s.hostMem ∧ (s.enqueueSweep x1 x2 x3).live = s.live ∧ (s.enqueueSweep x1 x2 x3).whoa = s.whoa ∧
      (s.enqueueSweep x1 x2 x3).chip = s.chip ∧ (s.enqueueSweep x1 x2 x3).tack = s.tack ∧ (s.enqueueSweep x1 x2
      x3).recd = s.recd ∧ (s.enqueueSweep x1 x2 x3).net = s.net ∧ (s.enqueueSweep x1 x2 x3).tim = s.tim ∧
      (s.enqueueSweep x1 x2 x3).gnb = s.gnb ∧ (s.enqueueSweep x1 x2 x3).air = s.air := by
  unfold State.enqueueSweep
  try simp
  all_goals (repeat' split) <;> simp_all

@[simp] theorem State.enterFlow_frame (s : State) (x1 : Item) (x2 : Nat) (x3 : Bool) (x4 : Stage) :
    (s.enterFlow x1 x2 x3 x4).pending = s.pending ∧ (s.enterFlow x1 x2 x3 x4).cyc = s.cyc ∧ (s.enterFlow x1 x2 x3
      x4).hostMem = s.hostMem ∧ (s.enterFlow x1 x2 x3 x4).live = s.live ∧ (s.enterFlow x1 x2 x3 x4).whoa = s.whoa ∧
      (s.enterFlow x1 x2 x3 x4).chip = s.chip ∧ (s.enterFlow x1 x2 x3 x4).tack = s.tack ∧ (s.enterFlow x1 x2 x3
      x4).recd = s.recd ∧ (s.enterFlow x1 x2 x3 x4).net = s.net ∧ (s.enterFlow x1 x2 x3 x4).tim = s.tim ∧
      (s.enterFlow x1 x2 x3 x4).gnb = s.gnb ∧ (s.enterFlow x1 x2 x3 x4).gait = s.gait ∧ (s.enterFlow x1 x2 x3
      x4).pad = s.pad ∧ (s.enterFlow x1 x2 x3 x4).fix = s.fix ∧ (s.enterFlow x1 x2 x3 x4).air = s.air ∧ (s.enterFlow
      x1 x2 x3 x4).byl = s.byl := by
  unfold State.enterFlow
  try simp
  all_goals (repeat' split) <;> simp_all

@[simp] theorem State.gnbToSleep_frame (s : State) (x1 : State) :
    (s.gnbToSleep x1).pending = s.pending ∧ (s.gnbToSleep x1).cyc = s.cyc ∧ (s.gnbToSleep x1).hostMem = s.hostMem ∧
      (s.gnbToSleep x1).live = s.live ∧ (s.gnbToSleep x1).whoa = s.whoa ∧ (s.gnbToSleep x1).chip = s.chip ∧
      (s.gnbToSleep x1).tack = s.tack ∧ (s.gnbToSleep x1).recd = s.recd ∧ (s.gnbToSleep x1).net = s.net ∧
      (s.gnbToSleep x1).tim = s.tim ∧ (s.gnbToSleep x1).gait = s.gait ∧ (s.gnbToSleep x1).pad = s.pad ∧
      (s.gnbToSleep x1).fix = s.fix ∧ (s.gnbToSleep x1).air = s.air ∧ (s.gnbToSleep x1).byl = s.byl := by
  unfold State.gnbToSleep
  try simp
  all_goals (repeat' split) <;> simp_all

@[simp] theorem State.enterStabled_frame (s : State) :
    (s.enterStabled).pending = s.pending ∧ (s.enterStabled).cyc = s.cyc ∧ (s.enterStabled).hostMem = s.hostMem ∧
      (s.enterStabled).live = s.live ∧ (s.enterStabled).whoa = s.whoa := by
  unfold State.enterStabled
  try simp
  all_goals (repeat' split) <;> simp_all

@[simp] theorem State.eraseKeys_frame (s : State) :
    (s.eraseKeys).pending = s.pending ∧ (s.eraseKeys).cyc = s.cyc ∧ (s.eraseKeys).hostMem = s.hostMem ∧
      (s.eraseKeys).live = s.live ∧ (s.eraseKeys).whoa = s.whoa ∧ (s.eraseKeys).chip = s.chip ∧ (s.eraseKeys).recd =
      s.recd ∧ (s.eraseKeys).net = s.net ∧ (s.eraseKeys).tim = s.tim ∧ (s.eraseKeys).gnb = s.gnb ∧
      (s.eraseKeys).gait = s.gait ∧ (s.eraseKeys).pad = s.pad ∧ (s.eraseKeys).fix = s.fix ∧ (s.eraseKeys).byl =
      s.byl := by
  unfold State.eraseKeys
  try simp
  all_goals (repeat' split) <;> simp_all

@[simp] theorem State.setExport_frame (s : State) (x1 : LongOp) (x2 : Option Exporting) :
    (s.setExport x1 x2).pending = s.pending ∧ (s.setExport x1 x2).cyc = s.cyc ∧ (s.setExport x1 x2).hostMem =
      s.hostMem ∧ (s.setExport x1 x2).live = s.live ∧ (s.setExport x1 x2).whoa = s.whoa ∧ (s.setExport x1 x2).chip =
      s.chip ∧ (s.setExport x1 x2).tack = s.tack ∧ (s.setExport x1 x2).recd = s.recd ∧ (s.setExport x1 x2).net =
      s.net ∧ (s.setExport x1 x2).tim = s.tim ∧ (s.setExport x1 x2).gnb = s.gnb ∧ (s.setExport x1 x2).gait = s.gait
      ∧ (s.setExport x1 x2).fix = s.fix ∧ (s.setExport x1 x2).air = s.air ∧ (s.setExport x1 x2).byl = s.byl := by
  unfold State.setExport
  try simp
  all_goals (repeat' split) <;> simp_all

@[simp] theorem State.safePoint_frame (s : State) (x1 : LongOp) :
    (s.safePoint x1).pending = s.pending ∧ (s.safePoint x1).cyc = s.cyc ∧ (s.safePoint x1).hostMem = s.hostMem ∧
      (s.safePoint x1).live = s.live ∧ (s.safePoint x1).whoa = s.whoa ∧ (s.safePoint x1).chip = s.chip ∧
      (s.safePoint x1).tack = s.tack ∧ (s.safePoint x1).recd = s.recd ∧ (s.safePoint x1).net = s.net ∧ (s.safePoint
      x1).tim = s.tim ∧ (s.safePoint x1).gnb = s.gnb ∧ (s.safePoint x1).gait = s.gait ∧ (s.safePoint x1).pad = s.pad
      ∧ (s.safePoint x1).fix = s.fix ∧ (s.safePoint x1).air = s.air ∧ (s.safePoint x1).byl = s.byl := by
  unfold State.safePoint
  try simp
  all_goals (repeat' split) <;> simp_all

@[simp] theorem State.exportTile_frame (s : State) (x1 : LongOp) (x2 : Exporting) (x3 : PadGeom) (x4 : List
    Sys2Proof.Byte) :
    (s.exportTile x1 x2 x3 x4).pending = s.pending ∧ (s.exportTile x1 x2 x3 x4).cyc = s.cyc ∧ (s.exportTile x1 x2 x3
      x4).live = s.live ∧ (s.exportTile x1 x2 x3 x4).whoa = s.whoa ∧ (s.exportTile x1 x2 x3 x4).chip = s.chip ∧
      (s.exportTile x1 x2 x3 x4).tack = s.tack ∧ (s.exportTile x1 x2 x3 x4).recd = s.recd ∧ (s.exportTile x1 x2 x3
      x4).net = s.net ∧ (s.exportTile x1 x2 x3 x4).tim = s.tim ∧ (s.exportTile x1 x2 x3 x4).gnb = s.gnb ∧
      (s.exportTile x1 x2 x3 x4).gait = s.gait ∧ (s.exportTile x1 x2 x3 x4).fix = s.fix ∧ (s.exportTile x1 x2 x3
      x4).air = s.air ∧ (s.exportTile x1 x2 x3 x4).byl = s.byl := by
  unfold State.exportTile
  try simp
  all_goals (repeat' split) <;> simp_all

@[simp] theorem State.withLocks_pending (s : State) (x1 : Locker) (x2 : List Nat) (x3 : State → State) (h3 : ∀ y0 r,
    x3 y0 = r → r.pending = y0.pending) :
    (s.withLocks x1 x2 x3).pending = s.pending := by
  unfold State.withLocks
  (repeat' split) <;> (try simp_all)

@[simp] theorem State.withLocks_cyc (s : State) (x1 : Locker) (x2 : List Nat) (x3 : State → State) (h3 : ∀ y0 r, x3
    y0 = r → r.cyc = y0.cyc) :
    (s.withLocks x1 x2 x3).cyc = s.cyc := by
  unfold State.withLocks
  (repeat' split) <;> (try simp_all)

@[simp] theorem State.withLocks_hostMem (s : State) (x1 : Locker) (x2 : List Nat) (x3 : State → State) (h3 : ∀ y0 r,
    x3 y0 = r → r.hostMem = y0.hostMem) :
    (s.withLocks x1 x2 x3).hostMem = s.hostMem := by
  unfold State.withLocks
  (repeat' split) <;> (try simp_all)

@[simp] theorem State.withLocks_live (s : State) (x1 : Locker) (x2 : List Nat) (x3 : State → State) (h3 : ∀ y0 r, x3
    y0 = r → r.live = y0.live) :
    (s.withLocks x1 x2 x3).live = s.live := by
  unfold State.withLocks
  (repeat' split) <;> (try simp_all)

@[simp] theorem State.withLocks_whoa (s : State) (x1 : Locker) (x2 : List Nat) (x3 : State → State) (h3 : ∀ y0 r, x3
    y0 = r → r.whoa = y0.whoa) :
    (s.withLocks x1 x2 x3).whoa = s.whoa := by
  unfold State.withLocks
  (repeat' split) <;> (try simp_all)

@[simp] theorem State.withLocks_chip (s : State) (x1 : Locker) (x2 : List Nat) (x3 : State → State) (h3 : ∀ y0 r, x3
    y0 = r → r.chip = y0.chip) :
    (s.withLocks x1 x2 x3).chip = s.chip := by
  unfold State.withLocks
  (repeat' split) <;> (try simp_all)

@[simp] theorem State.withLocks_tack (s : State) (x1 : Locker) (x2 : List Nat) (x3 : State → State) (h3 : ∀ y0 r, x3
    y0 = r → r.tack = y0.tack) :
    (s.withLocks x1 x2 x3).tack = s.tack := by
  unfold State.withLocks
  (repeat' split) <;> (try simp_all)

@[simp] theorem State.withLocks_recd (s : State) (x1 : Locker) (x2 : List Nat) (x3 : State → State) (h3 : ∀ y0 r, x3
    y0 = r → r.recd = y0.recd) :
    (s.withLocks x1 x2 x3).recd = s.recd := by
  unfold State.withLocks
  (repeat' split) <;> (try simp_all)

@[simp] theorem State.withLocks_net (s : State) (x1 : Locker) (x2 : List Nat) (x3 : State → State) (h3 : ∀ y0 r, x3
    y0 = r → r.net = y0.net) :
    (s.withLocks x1 x2 x3).net = s.net := by
  unfold State.withLocks
  (repeat' split) <;> (try simp_all)

@[simp] theorem State.withLocks_tim (s : State) (x1 : Locker) (x2 : List Nat) (x3 : State → State) (h3 : ∀ y0 r, x3
    y0 = r → r.tim = y0.tim) :
    (s.withLocks x1 x2 x3).tim = s.tim := by
  unfold State.withLocks
  (repeat' split) <;> (try simp_all)

@[simp] theorem State.withLocks_gnb (s : State) (x1 : Locker) (x2 : List Nat) (x3 : State → State) (h3 : ∀ y0 r, x3
    y0 = r → r.gnb = y0.gnb) :
    (s.withLocks x1 x2 x3).gnb = s.gnb := by
  unfold State.withLocks
  (repeat' split) <;> (try simp_all)

@[simp] theorem State.withLocks_gait (s : State) (x1 : Locker) (x2 : List Nat) (x3 : State → State) (h3 : ∀ y0 r, x3
    y0 = r → r.gait = y0.gait) :
    (s.withLocks x1 x2 x3).gait = s.gait := by
  unfold State.withLocks
  (repeat' split) <;> (try simp_all)

@[simp] theorem State.withLocks_fix (s : State) (x1 : Locker) (x2 : List Nat) (x3 : State → State) (h3 : ∀ y0 r, x3
    y0 = r → r.fix = y0.fix) :
    (s.withLocks x1 x2 x3).fix = s.fix := by
  unfold State.withLocks
  (repeat' split) <;> (try simp_all)

@[simp] theorem State.withLocks_air (s : State) (x1 : Locker) (x2 : List Nat) (x3 : State → State) (h3 : ∀ y0 r, x3
    y0 = r → r.air = y0.air) :
    (s.withLocks x1 x2 x3).air = s.air := by
  unfold State.withLocks
  (repeat' split) <;> (try simp_all)

@[simp] theorem State.exportUnit_frame (s : State) (x1 : LongOp) (x2 : List Sys2Proof.Byte) (x3 : Option BadCell) :
    (s.exportUnit x1 x2 x3).pending = s.pending ∧ (s.exportUnit x1 x2 x3).cyc = s.cyc ∧ (s.exportUnit x1 x2 x3).live
      = s.live ∧ (s.exportUnit x1 x2 x3).whoa = s.whoa ∧ (s.exportUnit x1 x2 x3).chip = s.chip ∧ (s.exportUnit x1 x2
      x3).tack = s.tack ∧ (s.exportUnit x1 x2 x3).recd = s.recd ∧ (s.exportUnit x1 x2 x3).net = s.net ∧
      (s.exportUnit x1 x2 x3).tim = s.tim ∧ (s.exportUnit x1 x2 x3).gnb = s.gnb ∧ (s.exportUnit x1 x2 x3).gait =
      s.gait ∧ (s.exportUnit x1 x2 x3).fix = s.fix ∧ (s.exportUnit x1 x2 x3).air = s.air := by
  unfold State.exportUnit
  try simp
  all_goals (repeat' split) <;> simp_all

@[simp] theorem State.failAll_frame (s : State) (x1 : List Item) (x2 : Nat) (x3 : Nat) (x4 : Status) :
    (s.failAll x1 x2 x3 x4).pending = s.pending ∧ (s.failAll x1 x2 x3 x4).cyc = s.cyc ∧ (s.failAll x1 x2 x3
      x4).hostMem = s.hostMem ∧ (s.failAll x1 x2 x3 x4).live = s.live ∧ (s.failAll x1 x2 x3 x4).whoa = s.whoa ∧
      (s.failAll x1 x2 x3 x4).chip = s.chip ∧ (s.failAll x1 x2 x3 x4).tack = s.tack ∧ (s.failAll x1 x2 x3 x4).recd =
      s.recd ∧ (s.failAll x1 x2 x3 x4).net = s.net ∧ (s.failAll x1 x2 x3 x4).tim = s.tim ∧ (s.failAll x1 x2 x3
      x4).gnb = s.gnb ∧ (s.failAll x1 x2 x3 x4).gait = s.gait ∧ (s.failAll x1 x2 x3 x4).pad = s.pad ∧ (s.failAll x1
      x2 x3 x4).air = s.air ∧ (s.failAll x1 x2 x3 x4).byl = s.byl := by
  unfold State.failAll
  try simp
  all_goals (repeat' split) <;> simp_all

@[simp] theorem State.failImport_frame (s : State) (x1 : LongOp) (x2 : Nat × Nat) :
    (s.failImport x1 x2).pending = s.pending ∧ (s.failImport x1 x2).cyc = s.cyc ∧ (s.failImport x1 x2).hostMem =
      s.hostMem ∧ (s.failImport x1 x2).live = s.live ∧ (s.failImport x1 x2).whoa = s.whoa ∧ (s.failImport x1
      x2).chip = s.chip ∧ (s.failImport x1 x2).tack = s.tack ∧ (s.failImport x1 x2).recd = s.recd ∧ (s.failImport x1
      x2).net = s.net ∧ (s.failImport x1 x2).tim = s.tim ∧ (s.failImport x1 x2).gnb = s.gnb ∧ (s.failImport x1
      x2).gait = s.gait ∧ (s.failImport x1 x2).fix = s.fix ∧ (s.failImport x1 x2).air = s.air ∧ (s.failImport x1
      x2).byl = s.byl := by
  unfold State.failImport
  try simp
  all_goals (repeat' split) <;> simp_all

@[simp] theorem State.writeLog_frame (s : State) (x1 : Nat) (x2 : LogState) (x3 : Item) (x4 : Nat) (x5 : Nat) :
    (s.writeLog x1 x2 x3 x4 x5).pending = s.pending ∧ (s.writeLog x1 x2 x3 x4 x5).cyc = s.cyc ∧ (s.writeLog x1 x2 x3
      x4 x5).live = s.live ∧ (s.writeLog x1 x2 x3 x4 x5).whoa = s.whoa ∧ (s.writeLog x1 x2 x3 x4 x5).chip = s.chip ∧
      (s.writeLog x1 x2 x3 x4 x5).tack = s.tack ∧ (s.writeLog x1 x2 x3 x4 x5).recd = s.recd ∧ (s.writeLog x1 x2 x3
      x4 x5).net = s.net ∧ (s.writeLog x1 x2 x3 x4 x5).tim = s.tim ∧ (s.writeLog x1 x2 x3 x4 x5).gnb = s.gnb ∧
      (s.writeLog x1 x2 x3 x4 x5).gait = s.gait ∧ (s.writeLog x1 x2 x3 x4 x5).pad = s.pad ∧ (s.writeLog x1 x2 x3 x4
      x5).fix = s.fix ∧ (s.writeLog x1 x2 x3 x4 x5).air = s.air ∧ (s.writeLog x1 x2 x3 x4 x5).byl = s.byl := by
  unfold State.writeLog
  try simp
  all_goals (repeat' split) <;> simp_all

@[simp] theorem State.logFetched_frame (s : State) (x1 : Nat) (x2 : List Item) :
    (s.logFetched x1 x2).pending = s.pending ∧ (s.logFetched x1 x2).cyc = s.cyc ∧ (s.logFetched x1 x2).live = s.live
      ∧ (s.logFetched x1 x2).whoa = s.whoa ∧ (s.logFetched x1 x2).chip = s.chip ∧ (s.logFetched x1 x2).tack = s.tack
      ∧ (s.logFetched x1 x2).recd = s.recd ∧ (s.logFetched x1 x2).net = s.net ∧ (s.logFetched x1 x2).tim = s.tim ∧
      (s.logFetched x1 x2).gnb = s.gnb ∧ (s.logFetched x1 x2).gait = s.gait ∧ (s.logFetched x1 x2).pad = s.pad ∧
      (s.logFetched x1 x2).fix = s.fix ∧ (s.logFetched x1 x2).air = s.air ∧ (s.logFetched x1 x2).byl = s.byl := by
  unfold State.logFetched
  refine ⟨?_, ?_, ?_, ?_, ?_, ?_, ?_, ?_, ?_, ?_, ?_, ?_, ?_, ?_, ?_⟩
  · refine (foldl_pending _ _ _ (fun b x r h => ?_)).trans ?_ <;> (try subst h) <;> ((repeat' split) <;> simp)
  · refine (foldl_cyc _ _ _ (fun b x r h => ?_)).trans ?_ <;> (try subst h) <;> ((repeat' split) <;> simp)
  · refine (foldl_live _ _ _ (fun b x r h => ?_)).trans ?_ <;> (try subst h) <;> ((repeat' split) <;> simp)
  · refine (foldl_whoa _ _ _ (fun b x r h => ?_)).trans ?_ <;> (try subst h) <;> ((repeat' split) <;> simp)
  · refine (foldl_chip _ _ _ (fun b x r h => ?_)).trans ?_ <;> (try subst h) <;> ((repeat' split) <;> simp)
  · refine (foldl_tack _ _ _ (fun b x r h => ?_)).trans ?_ <;> (try subst h) <;> ((repeat' split) <;> simp)
  · refine (foldl_recd _ _ _ (fun b x r h => ?_)).trans ?_ <;> (try subst h) <;> ((repeat' split) <;> simp)
  · refine (foldl_net _ _ _ (fun b x r h => ?_)).trans ?_ <;> (try subst h) <;> ((repeat' split) <;> simp)
  · refine (foldl_tim _ _ _ (fun b x r h => ?_)).trans ?_ <;> (try subst h) <;> ((repeat' split) <;> simp)
  · refine (foldl_gnb _ _ _ (fun b x r h => ?_)).trans ?_ <;> (try subst h) <;> ((repeat' split) <;> simp)
  · refine (foldl_gait _ _ _ (fun b x r h => ?_)).trans ?_ <;> (try subst h) <;> ((repeat' split) <;> simp)
  · refine (foldl_pad _ _ _ (fun b x r h => ?_)).trans ?_ <;> (try subst h) <;> ((repeat' split) <;> simp)
  · refine (foldl_fix _ _ _ (fun b x r h => ?_)).trans ?_ <;> (try subst h) <;> ((repeat' split) <;> simp)
  · refine (foldl_air _ _ _ (fun b x r h => ?_)).trans ?_ <;> (try subst h) <;> ((repeat' split) <;> simp)
  · refine (foldl_byl _ _ _ (fun b x r h => ?_)).trans ?_ <;> (try subst h) <;> ((repeat' split) <;> simp)

@[simp] theorem State.reportRingCurb_frame (s : State) (x1 : Nat) :
    (s.reportRingCurb x1).pending = s.pending ∧ (s.reportRingCurb x1).cyc = s.cyc ∧ (s.reportRingCurb x1).hostMem =
      s.hostMem ∧ (s.reportRingCurb x1).live = s.live ∧ (s.reportRingCurb x1).whoa = s.whoa ∧ (s.reportRingCurb
      x1).chip = s.chip ∧ (s.reportRingCurb x1).tack = s.tack ∧ (s.reportRingCurb x1).recd = s.recd ∧
      (s.reportRingCurb x1).net = s.net ∧ (s.reportRingCurb x1).tim = s.tim ∧ (s.reportRingCurb x1).gnb = s.gnb ∧
      (s.reportRingCurb x1).gait = s.gait ∧ (s.reportRingCurb x1).pad = s.pad ∧ (s.reportRingCurb x1).fix = s.fix ∧
      (s.reportRingCurb x1).air = s.air ∧ (s.reportRingCurb x1).byl = s.byl := by
  unfold State.reportRingCurb
  try simp
  all_goals (repeat' split) <;> simp_all

@[simp] theorem State.placeFetched_frame (s : State) (x1 : Nat) (x2 : Item) :
    (s.placeFetched x1 x2).pending = s.pending ∧ (s.placeFetched x1 x2).cyc = s.cyc ∧ (s.placeFetched x1 x2).hostMem
      = s.hostMem ∧ (s.placeFetched x1 x2).live = s.live ∧ (s.placeFetched x1 x2).whoa = s.whoa ∧ (s.placeFetched x1
      x2).chip = s.chip ∧ (s.placeFetched x1 x2).tack = s.tack ∧ (s.placeFetched x1 x2).recd = s.recd ∧
      (s.placeFetched x1 x2).net = s.net ∧ (s.placeFetched x1 x2).tim = s.tim ∧ (s.placeFetched x1 x2).gnb = s.gnb ∧
      (s.placeFetched x1 x2).gait = s.gait ∧ (s.placeFetched x1 x2).pad = s.pad ∧ (s.placeFetched x1 x2).fix = s.fix
      ∧ (s.placeFetched x1 x2).air = s.air ∧ (s.placeFetched x1 x2).byl = s.byl := by
  unfold State.placeFetched
  try simp
  all_goals (repeat' split) <;> simp_all

@[simp] theorem State.fetchBatch_frame (s : State) (x1 : Nat) (x2 : List Desc) :
    (s.fetchBatch x1 x2).pending = s.pending ∧ (s.fetchBatch x1 x2).cyc = s.cyc ∧ (s.fetchBatch x1 x2).live = s.live
      ∧ (s.fetchBatch x1 x2).whoa = s.whoa ∧ (s.fetchBatch x1 x2).chip = s.chip ∧ (s.fetchBatch x1 x2).tack = s.tack
      ∧ (s.fetchBatch x1 x2).recd = s.recd ∧ (s.fetchBatch x1 x2).net = s.net ∧ (s.fetchBatch x1 x2).tim = s.tim ∧
      (s.fetchBatch x1 x2).gnb = s.gnb ∧ (s.fetchBatch x1 x2).gait = s.gait ∧ (s.fetchBatch x1 x2).pad = s.pad ∧
      (s.fetchBatch x1 x2).fix = s.fix ∧ (s.fetchBatch x1 x2).air = s.air ∧ (s.fetchBatch x1 x2).byl = s.byl := by
  unfold State.fetchBatch
  try simp
  all_goals (repeat' split) <;> simp_all

@[simp] theorem State.markSuspect_frame (s : State) (x1 : Nat) :
    (s.markSuspect x1).pending = s.pending ∧ (s.markSuspect x1).cyc = s.cyc ∧ (s.markSuspect x1).hostMem = s.hostMem
      ∧ (s.markSuspect x1).live = s.live ∧ (s.markSuspect x1).whoa = s.whoa ∧ (s.markSuspect x1).chip = s.chip ∧
      (s.markSuspect x1).tack = s.tack ∧ (s.markSuspect x1).recd = s.recd ∧ (s.markSuspect x1).net = s.net ∧
      (s.markSuspect x1).tim = s.tim ∧ (s.markSuspect x1).gnb = s.gnb ∧ (s.markSuspect x1).gait = s.gait ∧
      (s.markSuspect x1).pad = s.pad ∧ (s.markSuspect x1).fix = s.fix ∧ (s.markSuspect x1).air = s.air ∧
      (s.markSuspect x1).byl = s.byl := by
  unfold State.markSuspect
  try simp
  all_goals (repeat' split) <;> simp_all

@[simp] theorem State.markFleet_frame (s : State) (x1 : Nat) :
    (s.markFleet x1).pending = s.pending ∧ (s.markFleet x1).cyc = s.cyc ∧ (s.markFleet x1).hostMem = s.hostMem ∧
      (s.markFleet x1).live = s.live ∧ (s.markFleet x1).whoa = s.whoa ∧ (s.markFleet x1).chip = s.chip ∧
      (s.markFleet x1).tack = s.tack ∧ (s.markFleet x1).recd = s.recd ∧ (s.markFleet x1).net = s.net ∧ (s.markFleet
      x1).tim = s.tim ∧ (s.markFleet x1).gnb = s.gnb ∧ (s.markFleet x1).gait = s.gait ∧ (s.markFleet x1).pad = s.pad
      ∧ (s.markFleet x1).fix = s.fix ∧ (s.markFleet x1).air = s.air ∧ (s.markFleet x1).byl = s.byl := by
  simp only [State.markFleet]
  split <;> simp

@[simp] theorem State.noteClean_frame (s : State) (x1 : Nat) (x2 : List (Nat × Fx)) (x3 : Nat) :
    (s.noteClean x1 x2 x3).pending = s.pending ∧ (s.noteClean x1 x2 x3).cyc = s.cyc ∧ (s.noteClean x1 x2 x3).hostMem
      = s.hostMem ∧ (s.noteClean x1 x2 x3).live = s.live ∧ (s.noteClean x1 x2 x3).whoa = s.whoa ∧ (s.noteClean x1 x2
      x3).chip = s.chip ∧ (s.noteClean x1 x2 x3).tack = s.tack ∧ (s.noteClean x1 x2 x3).recd = s.recd ∧ (s.noteClean
      x1 x2 x3).net = s.net ∧ (s.noteClean x1 x2 x3).tim = s.tim ∧ (s.noteClean x1 x2 x3).gnb = s.gnb ∧ (s.noteClean
      x1 x2 x3).gait = s.gait ∧ (s.noteClean x1 x2 x3).pad = s.pad ∧ (s.noteClean x1 x2 x3).air = s.air ∧
      (s.noteClean x1 x2 x3).byl = s.byl := by
  unfold State.noteClean
  try simp
  all_goals (repeat' split) <;> simp_all

@[simp] theorem State.fleetTest_frame (s : State) (x1 : BaseItem) (x2 : List SvRange) :
    (s.fleetTest x1 x2).pending = s.pending ∧ (s.fleetTest x1 x2).cyc = s.cyc ∧ (s.fleetTest x1 x2).hostMem =
      s.hostMem ∧ (s.fleetTest x1 x2).live = s.live ∧ (s.fleetTest x1 x2).whoa = s.whoa ∧ (s.fleetTest x1 x2).chip =
      s.chip ∧ (s.fleetTest x1 x2).tack = s.tack ∧ (s.fleetTest x1 x2).recd = s.recd ∧ (s.fleetTest x1 x2).net =
      s.net ∧ (s.fleetTest x1 x2).tim = s.tim ∧ (s.fleetTest x1 x2).gnb = s.gnb ∧ (s.fleetTest x1 x2).gait = s.gait
      ∧ (s.fleetTest x1 x2).pad = s.pad ∧ (s.fleetTest x1 x2).air = s.air ∧ (s.fleetTest x1 x2).byl = s.byl := by
  simp only [State.fleetTest]
  (repeat' split) <;> simp

@[simp] theorem State.noteCn0_frame (s : State) (x1 : Nat) (x2 : Nat) (x3 : List (Nat × Nat)) :
    (s.noteCn0 x1 x2 x3).pending = s.pending ∧ (s.noteCn0 x1 x2 x3).cyc = s.cyc ∧ (s.noteCn0 x1 x2 x3).hostMem =
      s.hostMem ∧ (s.noteCn0 x1 x2 x3).live = s.live ∧ (s.noteCn0 x1 x2 x3).whoa = s.whoa ∧ (s.noteCn0 x1 x2
      x3).chip = s.chip ∧ (s.noteCn0 x1 x2 x3).tack = s.tack ∧ (s.noteCn0 x1 x2 x3).recd = s.recd ∧ (s.noteCn0 x1 x2
      x3).net = s.net ∧ (s.noteCn0 x1 x2 x3).tim = s.tim ∧ (s.noteCn0 x1 x2 x3).gnb = s.gnb ∧ (s.noteCn0 x1 x2
      x3).gait = s.gait ∧ (s.noteCn0 x1 x2 x3).pad = s.pad ∧ (s.noteCn0 x1 x2 x3).air = s.air ∧ (s.noteCn0 x1 x2
      x3).byl = s.byl := by
  unfold State.noteCn0
  try simp
  all_goals (repeat' split) <;> simp_all

@[simp] theorem State.fixBaseEpoch_frame (s : State) (x1 : BaseItem) (x2 : List SvRange) :
    (s.fixBaseEpoch x1 x2).pending = s.pending ∧ (s.fixBaseEpoch x1 x2).cyc = s.cyc ∧ (s.fixBaseEpoch x1 x2).hostMem
      = s.hostMem ∧ (s.fixBaseEpoch x1 x2).live = s.live ∧ (s.fixBaseEpoch x1 x2).whoa = s.whoa ∧ (s.fixBaseEpoch x1
      x2).chip = s.chip ∧ (s.fixBaseEpoch x1 x2).tack = s.tack ∧ (s.fixBaseEpoch x1 x2).net = s.net ∧
      (s.fixBaseEpoch x1 x2).tim = s.tim ∧ (s.fixBaseEpoch x1 x2).gait = s.gait ∧ (s.fixBaseEpoch x1 x2).pad = s.pad
      ∧ (s.fixBaseEpoch x1 x2).air = s.air ∧ (s.fixBaseEpoch x1 x2).byl = s.byl := by
  unfold State.fixBaseEpoch
  try simp
  all_goals (repeat' split) <;> simp_all

@[simp] theorem State.writeEntry_frame (s : State) (x1 : Nat) (x2 : Fin_) :
    (s.writeEntry x1 x2).pending = s.pending ∧ (s.writeEntry x1 x2).cyc = s.cyc ∧ (s.writeEntry x1 x2).live = s.live
      ∧ (s.writeEntry x1 x2).whoa = s.whoa ∧ (s.writeEntry x1 x2).chip = s.chip ∧ (s.writeEntry x1 x2).tack = s.tack
      ∧ (s.writeEntry x1 x2).recd = s.recd ∧ (s.writeEntry x1 x2).net = s.net ∧ (s.writeEntry x1 x2).tim = s.tim ∧
      (s.writeEntry x1 x2).gnb = s.gnb ∧ (s.writeEntry x1 x2).gait = s.gait ∧ (s.writeEntry x1 x2).pad = s.pad ∧
      (s.writeEntry x1 x2).fix = s.fix ∧ (s.writeEntry x1 x2).air = s.air ∧ (s.writeEntry x1 x2).byl = s.byl := by
  unfold State.writeEntry
  try simp
  all_goals (repeat' split) <;> simp_all

@[simp] theorem State.seeEvent_frame (s : State) (x1 : Completion) (x2 : List Sys2Proof.Byte) :
    (s.seeEvent x1 x2).pending = s.pending ∧ (s.seeEvent x1 x2).cyc = s.cyc ∧ (s.seeEvent x1 x2).hostMem = s.hostMem
      ∧ (s.seeEvent x1 x2).live = s.live ∧ (s.seeEvent x1 x2).whoa = s.whoa ∧ (s.seeEvent x1 x2).chip = s.chip ∧
      (s.seeEvent x1 x2).tack = s.tack ∧ (s.seeEvent x1 x2).net = s.net ∧ (s.seeEvent x1 x2).tim = s.tim ∧
      (s.seeEvent x1 x2).gnb = s.gnb ∧ (s.seeEvent x1 x2).gait = s.gait ∧ (s.seeEvent x1 x2).pad = s.pad ∧
      (s.seeEvent x1 x2).fix = s.fix ∧ (s.seeEvent x1 x2).air = s.air ∧ (s.seeEvent x1 x2).byl = s.byl := by
  simp only [State.seeEvent]
  split <;> simp

@[simp] theorem State.ringIrq_frame (s : State) (x1 : Nat) (x2 : Bool) :
    (s.ringIrq x1 x2).pending = s.pending ∧ (s.ringIrq x1 x2).cyc = s.cyc ∧ (s.ringIrq x1 x2).hostMem = s.hostMem ∧
      (s.ringIrq x1 x2).live = s.live ∧ (s.ringIrq x1 x2).whoa = s.whoa ∧ (s.ringIrq x1 x2).chip = s.chip ∧
      (s.ringIrq x1 x2).tack = s.tack ∧ (s.ringIrq x1 x2).recd = s.recd ∧ (s.ringIrq x1 x2).net = s.net ∧ (s.ringIrq
      x1 x2).tim = s.tim ∧ (s.ringIrq x1 x2).gnb = s.gnb ∧ (s.ringIrq x1 x2).gait = s.gait ∧ (s.ringIrq x1 x2).pad =
      s.pad ∧ (s.ringIrq x1 x2).fix = s.fix ∧ (s.ringIrq x1 x2).air = s.air ∧ (s.ringIrq x1 x2).byl = s.byl := by
  unfold State.ringIrq
  try simp
  all_goals (repeat' split) <;> simp_all

@[simp] theorem State.writeCompletion_frame (s : State) (x1 : Nat) (x2 : Fin_) :
    (s.writeCompletion x1 x2).pending = s.pending ∧ (s.writeCompletion x1 x2).cyc = s.cyc ∧ (s.writeCompletion x1
      x2).live = s.live ∧ (s.writeCompletion x1 x2).whoa = s.whoa ∧ (s.writeCompletion x1 x2).chip = s.chip ∧
      (s.writeCompletion x1 x2).tack = s.tack ∧ (s.writeCompletion x1 x2).net = s.net ∧ (s.writeCompletion x1
      x2).tim = s.tim ∧ (s.writeCompletion x1 x2).gnb = s.gnb ∧ (s.writeCompletion x1 x2).gait = s.gait ∧
      (s.writeCompletion x1 x2).pad = s.pad ∧ (s.writeCompletion x1 x2).fix = s.fix ∧ (s.writeCompletion x1 x2).air
      = s.air ∧ (s.writeCompletion x1 x2).byl = s.byl := by
  unfold State.writeCompletion
  try simp
  all_goals (repeat' split) <;> simp_all

@[simp] theorem State.flushRing_frame (s : State) (x1 : Nat) (x2 : Nat) :
    (s.flushRing x1 x2).pending = s.pending ∧ (s.flushRing x1 x2).cyc = s.cyc ∧ (s.flushRing x1 x2).live = s.live ∧
      (s.flushRing x1 x2).whoa = s.whoa ∧ (s.flushRing x1 x2).chip = s.chip ∧ (s.flushRing x1 x2).tack = s.tack ∧
      (s.flushRing x1 x2).net = s.net ∧ (s.flushRing x1 x2).tim = s.tim ∧ (s.flushRing x1 x2).gnb = s.gnb ∧
      (s.flushRing x1 x2).gait = s.gait ∧ (s.flushRing x1 x2).pad = s.pad ∧ (s.flushRing x1 x2).fix = s.fix ∧
      (s.flushRing x1 x2).air = s.air ∧ (s.flushRing x1 x2).byl = s.byl := by
  induction x2 generalizing s with
  | zero => simp [State.flushRing]
  | succ k ih => unfold State.flushRing; (repeat' split) <;> simp_all

@[simp] theorem State.freeMeas_frame (s : State) (x1 : Nat) :
    (s.freeMeas x1).1.pending = s.pending ∧ (s.freeMeas x1).1.cyc = s.cyc ∧ (s.freeMeas x1).1.hostMem = s.hostMem ∧
      (s.freeMeas x1).1.live = s.live ∧ (s.freeMeas x1).1.whoa = s.whoa ∧ (s.freeMeas x1).1.chip = s.chip ∧
      (s.freeMeas x1).1.tack = s.tack ∧ (s.freeMeas x1).1.recd = s.recd ∧ (s.freeMeas x1).1.net = s.net ∧
      (s.freeMeas x1).1.tim = s.tim ∧ (s.freeMeas x1).1.gnb = s.gnb ∧ (s.freeMeas x1).1.gait = s.gait ∧ (s.freeMeas
      x1).1.pad = s.pad ∧ (s.freeMeas x1).1.fix = s.fix ∧ (s.freeMeas x1).1.air = s.air ∧ (s.freeMeas x1).1.byl =
      s.byl := by
  unfold State.freeMeas
  try simp
  all_goals (repeat' split) <;> simp_all

@[simp] theorem State.freshBase_frame (s : State) :
    (s.freshBase).pending = s.pending ∧ (s.freshBase).cyc = s.cyc ∧ (s.freshBase).hostMem = s.hostMem ∧
      (s.freshBase).live = s.live ∧ (s.freshBase).whoa = s.whoa ∧ (s.freshBase).chip = s.chip ∧ (s.freshBase).recd =
      s.recd ∧ (s.freshBase).net = s.net ∧ (s.freshBase).tim = s.tim ∧ (s.freshBase).gnb = s.gnb := by
  unfold State.freshBase
  try simp
  all_goals (repeat' split) <;> simp_all

@[simp] theorem State.freshDir_frame (s : State) :
    (s.freshDir).pending = s.pending ∧ (s.freshDir).cyc = s.cyc ∧ (s.freshDir).hostMem = s.hostMem ∧
      (s.freshDir).live = s.live ∧ (s.freshDir).whoa = s.whoa ∧ (s.freshDir).chip = s.chip ∧ (s.freshDir).tack =
      s.tack ∧ (s.freshDir).recd = s.recd ∧ (s.freshDir).net = s.net ∧ (s.freshDir).tim = s.tim ∧ (s.freshDir).gnb =
      s.gnb ∧ (s.freshDir).gait = s.gait ∧ (s.freshDir).fix = s.fix ∧ (s.freshDir).air = s.air ∧ (s.freshDir).byl =
      s.byl := by
  unfold State.freshDir
  try simp
  all_goals (repeat' split) <;> simp_all

@[simp] theorem State.freshRing_frame (s : State) (x1 : Nat) :
    (s.freshRing x1).pending = s.pending ∧ (s.freshRing x1).cyc = s.cyc ∧ (s.freshRing x1).hostMem = s.hostMem ∧
      (s.freshRing x1).live = s.live ∧ (s.freshRing x1).whoa = s.whoa ∧ (s.freshRing x1).chip = s.chip ∧
      (s.freshRing x1).tack = s.tack ∧ (s.freshRing x1).recd = s.recd ∧ (s.freshRing x1).net = s.net ∧ (s.freshRing
      x1).tim = s.tim ∧ (s.freshRing x1).gnb = s.gnb ∧ (s.freshRing x1).gait = s.gait ∧ (s.freshRing x1).pad = s.pad
      ∧ (s.freshRing x1).fix = s.fix ∧ (s.freshRing x1).air = s.air ∧ (s.freshRing x1).byl = s.byl := by
  unfold State.freshRing
  try simp
  all_goals (repeat' split) <;> simp_all

@[simp] theorem State.gainSync_frame (s : State) (x1 : Nat) :
    (s.gainSync x1).pending = s.pending ∧ (s.gainSync x1).cyc = s.cyc ∧ (s.gainSync x1).hostMem = s.hostMem ∧
      (s.gainSync x1).live = s.live ∧ (s.gainSync x1).whoa = s.whoa ∧ (s.gainSync x1).chip = s.chip ∧ (s.gainSync
      x1).tack = s.tack ∧ (s.gainSync x1).recd = s.recd ∧ (s.gainSync x1).net = s.net ∧ (s.gainSync x1).tim = s.tim
      ∧ (s.gainSync x1).gait = s.gait ∧ (s.gainSync x1).pad = s.pad ∧ (s.gainSync x1).fix = s.fix ∧ (s.gainSync
      x1).air = s.air ∧ (s.gainSync x1).byl = s.byl := by
  unfold State.gainSync
  try simp
  all_goals (repeat' split) <;> simp_all

@[simp] theorem State.gaitEvent_frame (s : State) (x1 : Nat) (x2 : Nat) (x3 : Nat) (x4 : Nat) :
    (s.gaitEvent x1 x2 x3 x4).pending = s.pending ∧ (s.gaitEvent x1 x2 x3 x4).cyc = s.cyc ∧ (s.gaitEvent x1 x2 x3
      x4).hostMem = s.hostMem ∧ (s.gaitEvent x1 x2 x3 x4).live = s.live ∧ (s.gaitEvent x1 x2 x3 x4).whoa = s.whoa ∧
      (s.gaitEvent x1 x2 x3 x4).chip = s.chip ∧ (s.gaitEvent x1 x2 x3 x4).tack = s.tack ∧ (s.gaitEvent x1 x2 x3
      x4).recd = s.recd ∧ (s.gaitEvent x1 x2 x3 x4).net = s.net ∧ (s.gaitEvent x1 x2 x3 x4).tim = s.tim ∧
      (s.gaitEvent x1 x2 x3 x4).gnb = s.gnb ∧ (s.gaitEvent x1 x2 x3 x4).gait = s.gait ∧ (s.gaitEvent x1 x2 x3
      x4).pad = s.pad ∧ (s.gaitEvent x1 x2 x3 x4).fix = s.fix ∧ (s.gaitEvent x1 x2 x3 x4).air = s.air ∧ (s.gaitEvent
      x1 x2 x3 x4).byl = s.byl := by
  unfold State.gaitEvent
  try simp
  all_goals (repeat' split) <;> simp_all

@[simp] theorem State.gaitHanded_frame (s : State) (x1 : Nat) (x2 : Plan) :
    (s.gaitHanded x1 x2).pending = s.pending ∧ (s.gaitHanded x1 x2).cyc = s.cyc ∧ (s.gaitHanded x1 x2).hostMem =
      s.hostMem ∧ (s.gaitHanded x1 x2).live = s.live ∧ (s.gaitHanded x1 x2).whoa = s.whoa ∧ (s.gaitHanded x1
      x2).chip = s.chip ∧ (s.gaitHanded x1 x2).tack = s.tack ∧ (s.gaitHanded x1 x2).recd = s.recd ∧ (s.gaitHanded x1
      x2).net = s.net ∧ (s.gaitHanded x1 x2).tim = s.tim ∧ (s.gaitHanded x1 x2).gnb = s.gnb ∧ (s.gaitHanded x1
      x2).pad = s.pad ∧ (s.gaitHanded x1 x2).fix = s.fix ∧ (s.gaitHanded x1 x2).air = s.air ∧ (s.gaitHanded x1
      x2).byl = s.byl := by
  unfold State.gaitHanded
  try simp
  all_goals (repeat' split) <;> simp_all

@[simp] theorem State.gnbEvents_frame (s : State) (x1 : Nat) :
    (s.gnbEvents x1).pending = s.pending ∧ (s.gnbEvents x1).cyc = s.cyc ∧ (s.gnbEvents x1).hostMem = s.hostMem ∧
      (s.gnbEvents x1).live = s.live ∧ (s.gnbEvents x1).whoa = s.whoa ∧ (s.gnbEvents x1).chip = s.chip ∧
      (s.gnbEvents x1).tack = s.tack ∧ (s.gnbEvents x1).recd = s.recd ∧ (s.gnbEvents x1).net = s.net ∧ (s.gnbEvents
      x1).tim = s.tim ∧ (s.gnbEvents x1).gnb = s.gnb ∧ (s.gnbEvents x1).gait = s.gait ∧ (s.gnbEvents x1).pad = s.pad
      ∧ (s.gnbEvents x1).fix = s.fix ∧ (s.gnbEvents x1).air = s.air ∧ (s.gnbEvents x1).byl = s.byl := by
  induction x1 generalizing s with
  | zero => simp [State.gnbEvents]
  | succ k ih => unfold State.gnbEvents; (repeat' split) <;> simp_all

@[simp] theorem State.goBoot_frame (s : State) (x1 : Sys2Proof.Word) (x2 : Image) (x3 : Image) :
    (s.goBoot x1 x2 x3).pending = s.pending ∧ (s.goBoot x1 x2 x3).cyc = s.cyc ∧ (s.goBoot x1 x2 x3).hostMem =
      s.hostMem ∧ (s.goBoot x1 x2 x3).whoa = s.whoa ∧ (s.goBoot x1 x2 x3).tack = s.tack ∧ (s.goBoot x1 x2 x3).recd =
      s.recd ∧ (s.goBoot x1 x2 x3).net = s.net ∧ (s.goBoot x1 x2 x3).tim = s.tim ∧ (s.goBoot x1 x2 x3).gnb = s.gnb ∧
      (s.goBoot x1 x2 x3).gait = s.gait ∧ (s.goBoot x1 x2 x3).pad = s.pad ∧ (s.goBoot x1 x2 x3).fix = s.fix ∧
      (s.goBoot x1 x2 x3).air = s.air ∧ (s.goBoot x1 x2 x3).byl = s.byl := by
  unfold State.goBoot
  try simp
  all_goals (repeat' split) <;> simp_all

@[simp] theorem State.goDark_frame (s : State) (x1 : Nat) :
    (s.goDark x1).pending = s.pending ∧ (s.goDark x1).cyc = s.cyc ∧ (s.goDark x1).hostMem = s.hostMem ∧ (s.goDark
      x1).live = s.live ∧ (s.goDark x1).whoa = s.whoa ∧ (s.goDark x1).chip = s.chip ∧ (s.goDark x1).tack = s.tack ∧
      (s.goDark x1).recd = s.recd ∧ (s.goDark x1).net = s.net ∧ (s.goDark x1).tim = s.tim ∧ (s.goDark x1).gnb =
      s.gnb ∧ (s.goDark x1).fix = s.fix ∧ (s.goDark x1).air = s.air := by
  unfold State.goDark
  try simp
  all_goals (repeat' split) <;> simp_all

@[simp] theorem State.tookOver_frame (s : State) (x1 : Bool) (x2 : Bool) :
    (s.tookOver x1 x2).pending = s.pending ∧ (s.tookOver x1 x2).cyc = s.cyc ∧ (s.tookOver x1 x2).hostMem = s.hostMem
      ∧ (s.tookOver x1 x2).live = s.live ∧ (s.tookOver x1 x2).whoa = s.whoa ∧ (s.tookOver x1 x2).chip = s.chip ∧
      (s.tookOver x1 x2).tack = s.tack ∧ (s.tookOver x1 x2).recd = s.recd ∧ (s.tookOver x1 x2).net = s.net ∧
      (s.tookOver x1 x2).tim = s.tim ∧ (s.tookOver x1 x2).gnb = s.gnb ∧ (s.tookOver x1 x2).gait = s.gait ∧
      (s.tookOver x1 x2).pad = s.pad ∧ (s.tookOver x1 x2).fix = s.fix ∧ (s.tookOver x1 x2).air = s.air ∧ (s.tookOver
      x1 x2).byl = s.byl := by
  unfold State.tookOver
  try simp
  all_goals (repeat' split) <;> simp_all

@[simp] theorem State.loadSuperframe_frame (s : State) (x1 : Nat) :
    (s.loadSuperframe x1).pending = s.pending ∧ (s.loadSuperframe x1).cyc = s.cyc ∧ (s.loadSuperframe x1).hostMem =
      s.hostMem ∧ (s.loadSuperframe x1).live = s.live ∧ (s.loadSuperframe x1).whoa = s.whoa ∧ (s.loadSuperframe
      x1).chip = s.chip ∧ (s.loadSuperframe x1).tack = s.tack ∧ (s.loadSuperframe x1).net = s.net ∧
      (s.loadSuperframe x1).tim = s.tim ∧ (s.loadSuperframe x1).gnb = s.gnb ∧ (s.loadSuperframe x1).gait = s.gait ∧
      (s.loadSuperframe x1).pad = s.pad ∧ (s.loadSuperframe x1).fix = s.fix ∧ (s.loadSuperframe x1).byl = s.byl := by
  unfold State.loadSuperframe
  try simp
  all_goals (repeat' split) <;> simp_all

@[simp] theorem State.loadBoth_frame (s : State) :
    (s.loadBoth).pending = s.pending ∧ (s.loadBoth).cyc = s.cyc ∧ (s.loadBoth).hostMem = s.hostMem ∧
      (s.loadBoth).live = s.live ∧ (s.loadBoth).whoa = s.whoa ∧ (s.loadBoth).chip = s.chip ∧ (s.loadBoth).tack =
      s.tack ∧ (s.loadBoth).net = s.net ∧ (s.loadBoth).tim = s.tim ∧ (s.loadBoth).gnb = s.gnb ∧ (s.loadBoth).gait =
      s.gait ∧ (s.loadBoth).pad = s.pad ∧ (s.loadBoth).fix = s.fix ∧ (s.loadBoth).byl = s.byl := by
  unfold State.loadBoth
  try simp
  all_goals (repeat' split) <;> simp_all

@[simp] theorem State.gotToken_frame (s : State) (x1 : ClaimFor) :
    (s.gotToken x1).pending = s.pending ∧ (s.gotToken x1).cyc = s.cyc ∧ (s.gotToken x1).hostMem = s.hostMem ∧
      (s.gotToken x1).live = s.live ∧ (s.gotToken x1).whoa = s.whoa ∧ (s.gotToken x1).chip = s.chip ∧ (s.gotToken
      x1).net = s.net ∧ (s.gotToken x1).tim = s.tim ∧ (s.gotToken x1).gnb = s.gnb := by
  unfold State.gotToken
  try simp
  all_goals (repeat' split) <;> simp_all

@[simp] theorem State.groomVisit_frame (s : State) (x1 : PadGeom) (x2 : Nat) (x3 : Option BadCell) :
    (s.groomVisit x1 x2 x3).pending = s.pending ∧ (s.groomVisit x1 x2 x3).cyc = s.cyc ∧ (s.groomVisit x1 x2
      x3).hostMem = s.hostMem ∧ (s.groomVisit x1 x2 x3).live = s.live ∧ (s.groomVisit x1 x2 x3).whoa = s.whoa ∧
      (s.groomVisit x1 x2 x3).chip = s.chip ∧ (s.groomVisit x1 x2 x3).tack = s.tack ∧ (s.groomVisit x1 x2 x3).recd =
      s.recd ∧ (s.groomVisit x1 x2 x3).net = s.net ∧ (s.groomVisit x1 x2 x3).tim = s.tim ∧ (s.groomVisit x1 x2
      x3).gnb = s.gnb ∧ (s.groomVisit x1 x2 x3).gait = s.gait ∧ (s.groomVisit x1 x2 x3).fix = s.fix ∧ (s.groomVisit
      x1 x2 x3).air = s.air ∧ (s.groomVisit x1 x2 x3).byl = s.byl := by
  unfold State.groomVisit
  try simp
  all_goals (repeat' split) <;> simp_all

@[simp] theorem State.handOver_frame (s : State) (x1 : Item) :
    (s.handOver x1).pending = s.pending ∧ (s.handOver x1).cyc = s.cyc ∧ (s.handOver x1).hostMem = s.hostMem ∧
      (s.handOver x1).live = s.live ∧ (s.handOver x1).whoa = s.whoa ∧ (s.handOver x1).chip = s.chip ∧ (s.handOver
      x1).tack = s.tack ∧ (s.handOver x1).recd = s.recd ∧ (s.handOver x1).net = s.net ∧ (s.handOver x1).tim = s.tim
      ∧ (s.handOver x1).gnb = s.gnb ∧ (s.handOver x1).pad = s.pad := by
  unfold State.handOver
  try simp
  all_goals (repeat' split) <;> simp_all

@[simp] theorem State.handoverDone_frame (s : State) :
    (s.handoverDone).pending = s.pending ∧ (s.handoverDone).cyc = s.cyc ∧ (s.handoverDone).hostMem = s.hostMem ∧
      (s.handoverDone).live = s.live ∧ (s.handoverDone).whoa = s.whoa ∧ (s.handoverDone).chip = s.chip ∧
      (s.handoverDone).tack = s.tack ∧ (s.handoverDone).recd = s.recd ∧ (s.handoverDone).net = s.net ∧
      (s.handoverDone).tim = s.tim ∧ (s.handoverDone).gnb = s.gnb ∧ (s.handoverDone).gait = s.gait ∧
      (s.handoverDone).pad = s.pad ∧ (s.handoverDone).fix = s.fix ∧ (s.handoverDone).air = s.air := by
  unfold State.handoverDone
  try simp
  all_goals (repeat' split) <;> simp_all

@[simp] theorem State.noteRest_frame (s : State) (x1 : Nat) :
    (s.noteRest x1).pending = s.pending ∧ (s.noteRest x1).cyc = s.cyc ∧ (s.noteRest x1).hostMem = s.hostMem ∧
      (s.noteRest x1).live = s.live ∧ (s.noteRest x1).whoa = s.whoa ∧ (s.noteRest x1).chip = s.chip ∧ (s.noteRest
      x1).tack = s.tack ∧ (s.noteRest x1).recd = s.recd ∧ (s.noteRest x1).net = s.net ∧ (s.noteRest x1).tim = s.tim
      ∧ (s.noteRest x1).gnb = s.gnb ∧ (s.noteRest x1).gait = s.gait ∧ (s.noteRest x1).pad = s.pad ∧ (s.noteRest
      x1).fix = s.fix ∧ (s.noteRest x1).byl = s.byl := by
  unfold State.noteRest
  try simp
  all_goals (repeat' split) <;> simp_all

@[simp] theorem State.heardFrom_frame (s : State) (x1 : Nat) (x2 : Bool) (x3 : Nat) :
    (s.heardFrom x1 x2 x3).pending = s.pending ∧ (s.heardFrom x1 x2 x3).cyc = s.cyc ∧ (s.heardFrom x1 x2 x3).hostMem
      = s.hostMem ∧ (s.heardFrom x1 x2 x3).live = s.live ∧ (s.heardFrom x1 x2 x3).whoa = s.whoa ∧ (s.heardFrom x1 x2
      x3).chip = s.chip ∧ (s.heardFrom x1 x2 x3).tack = s.tack ∧ (s.heardFrom x1 x2 x3).recd = s.recd ∧ (s.heardFrom
      x1 x2 x3).net = s.net ∧ (s.heardFrom x1 x2 x3).tim = s.tim ∧ (s.heardFrom x1 x2 x3).gnb = s.gnb ∧ (s.heardFrom
      x1 x2 x3).gait = s.gait ∧ (s.heardFrom x1 x2 x3).pad = s.pad ∧ (s.heardFrom x1 x2 x3).fix = s.fix := by
  unfold State.heardFrom
  try simp
  all_goals (repeat' split) <;> simp_all

@[simp] theorem State.highRead_frame (s : State) (x1 : Requester) (x2 : Nat) (x3 : Bool) :
    (s.highRead x1 x2 x3).pending = s.pending ∧ (s.highRead x1 x2 x3).cyc = s.cyc ∧ (s.highRead x1 x2 x3).hostMem =
      s.hostMem ∧ (s.highRead x1 x2 x3).live = s.live ∧ (s.highRead x1 x2 x3).whoa = s.whoa ∧ (s.highRead x1 x2
      x3).chip = s.chip ∧ (s.highRead x1 x2 x3).tack = s.tack ∧ (s.highRead x1 x2 x3).recd = s.recd ∧ (s.highRead x1
      x2 x3).net = s.net ∧ (s.highRead x1 x2 x3).tim = s.tim ∧ (s.highRead x1 x2 x3).gnb = s.gnb ∧ (s.highRead x1 x2
      x3).gait = s.gait ∧ (s.highRead x1 x2 x3).pad = s.pad ∧ (s.highRead x1 x2 x3).fix = s.fix ∧ (s.highRead x1 x2
      x3).air = s.air ∧ (s.highRead x1 x2 x3).byl = s.byl := by
  unfold State.highRead
  try simp
  all_goals (repeat' split) <;> simp_all

@[simp] theorem State.holdWhen_frame (s : State) (x1 : Item) (x2 : Item → Sys2Proof.Instr) :
    (s.holdWhen x1 x2).pending = s.pending ∧ (s.holdWhen x1 x2).cyc = s.cyc ∧ (s.holdWhen x1 x2).hostMem = s.hostMem
      ∧ (s.holdWhen x1 x2).live = s.live ∧ (s.holdWhen x1 x2).whoa = s.whoa ∧ (s.holdWhen x1 x2).chip = s.chip ∧
      (s.holdWhen x1 x2).tack = s.tack ∧ (s.holdWhen x1 x2).recd = s.recd ∧ (s.holdWhen x1 x2).net = s.net ∧
      (s.holdWhen x1 x2).tim = s.tim ∧ (s.holdWhen x1 x2).gnb = s.gnb ∧ (s.holdWhen x1 x2).gait = s.gait ∧
      (s.holdWhen x1 x2).pad = s.pad ∧ (s.holdWhen x1 x2).fix = s.fix ∧ (s.holdWhen x1 x2).air = s.air ∧ (s.holdWhen
      x1 x2).byl = s.byl := by
  unfold State.holdWhen
  try simp
  all_goals (repeat' split) <;> simp_all

@[simp] theorem State.imgUnit_frame (s : State) (x1 : LongOp) (x2 : Image) :
    (s.imgUnit x1 x2).pending = s.pending ∧ (s.imgUnit x1 x2).cyc = s.cyc ∧ (s.imgUnit x1 x2).hostMem = s.hostMem ∧
      (s.imgUnit x1 x2).live = s.live ∧ (s.imgUnit x1 x2).whoa = s.whoa ∧ (s.imgUnit x1 x2).tack = s.tack ∧
      (s.imgUnit x1 x2).recd = s.recd ∧ (s.imgUnit x1 x2).net = s.net ∧ (s.imgUnit x1 x2).tim = s.tim ∧ (s.imgUnit
      x1 x2).gnb = s.gnb ∧ (s.imgUnit x1 x2).gait = s.gait ∧ (s.imgUnit x1 x2).pad = s.pad ∧ (s.imgUnit x1 x2).fix =
      s.fix ∧ (s.imgUnit x1 x2).air = s.air ∧ (s.imgUnit x1 x2).byl = s.byl := by
  unfold State.imgUnit
  try simp
  all_goals (repeat' split) <;> simp_all

@[simp] theorem State.patchTile_frame (s : State) (x1 : Nat) (x2 : Halves) :
    (s.patchTile x1 x2).1.pending = s.pending ∧ (s.patchTile x1 x2).1.cyc = s.cyc ∧ (s.patchTile x1 x2).1.hostMem =
      s.hostMem ∧ (s.patchTile x1 x2).1.live = s.live ∧ (s.patchTile x1 x2).1.whoa = s.whoa ∧ (s.patchTile x1
      x2).1.chip = s.chip ∧ (s.patchTile x1 x2).1.tack = s.tack ∧ (s.patchTile x1 x2).1.recd = s.recd ∧ (s.patchTile
      x1 x2).1.net = s.net ∧ (s.patchTile x1 x2).1.tim = s.tim ∧ (s.patchTile x1 x2).1.gnb = s.gnb ∧ (s.patchTile x1
      x2).1.gait = s.gait ∧ (s.patchTile x1 x2).1.fix = s.fix ∧ (s.patchTile x1 x2).1.air = s.air ∧ (s.patchTile x1
      x2).1.byl = s.byl := by
  unfold State.patchTile
  try simp
  all_goals (repeat' split) <;> simp_all

@[simp] theorem State.sendMap_frame (s : State) :
    (s.sendMap).pending = s.pending ∧ (s.sendMap).cyc = s.cyc ∧ (s.sendMap).hostMem = s.hostMem ∧ (s.sendMap).live =
      s.live ∧ (s.sendMap).whoa = s.whoa ∧ (s.sendMap).chip = s.chip ∧ (s.sendMap).tack = s.tack ∧ (s.sendMap).recd
      = s.recd ∧ (s.sendMap).net = s.net ∧ (s.sendMap).tim = s.tim ∧ (s.sendMap).gnb = s.gnb ∧ (s.sendMap).gait =
      s.gait ∧ (s.sendMap).pad = s.pad ∧ (s.sendMap).fix = s.fix ∧ (s.sendMap).air = s.air := by
  unfold State.sendMap
  try simp
  all_goals (repeat' split) <;> simp_all

@[simp] theorem State.switchMap_frame (s : State) (x1 : PadFile) :
    (s.switchMap x1).pending = s.pending ∧ (s.switchMap x1).cyc = s.cyc ∧ (s.switchMap x1).hostMem = s.hostMem ∧
      (s.switchMap x1).live = s.live ∧ (s.switchMap x1).whoa = s.whoa ∧ (s.switchMap x1).chip = s.chip ∧
      (s.switchMap x1).tack = s.tack ∧ (s.switchMap x1).recd = s.recd ∧ (s.switchMap x1).net = s.net ∧ (s.switchMap
      x1).tim = s.tim ∧ (s.switchMap x1).gnb = s.gnb ∧ (s.switchMap x1).gait = s.gait ∧ (s.switchMap x1).fix = s.fix
      ∧ (s.switchMap x1).air = s.air ∧ (s.switchMap x1).byl = s.byl := by
  unfold State.switchMap
  try simp
  all_goals (repeat' split) <;> simp_all

@[simp] theorem State.importUnit_frame (s : State) (x1 : LongOp) (x2 : Option BadCell) :
    (s.importUnit x1 x2).pending = s.pending ∧ (s.importUnit x1 x2).cyc = s.cyc ∧ (s.importUnit x1 x2).hostMem =
      s.hostMem ∧ (s.importUnit x1 x2).live = s.live ∧ (s.importUnit x1 x2).whoa = s.whoa ∧ (s.importUnit x1
      x2).chip = s.chip ∧ (s.importUnit x1 x2).tack = s.tack ∧ (s.importUnit x1 x2).recd = s.recd ∧ (s.importUnit x1
      x2).net = s.net ∧ (s.importUnit x1 x2).tim = s.tim ∧ (s.importUnit x1 x2).gnb = s.gnb ∧ (s.importUnit x1
      x2).gait = s.gait ∧ (s.importUnit x1 x2).fix = s.fix ∧ (s.importUnit x1 x2).air = s.air := by
  unfold State.importUnit
  try simp
  all_goals (repeat' split) <;> simp_all

@[simp] theorem State.interfere_frame (s : State) :
    (s.interfere).pending = s.pending ∧ (s.interfere).cyc = s.cyc ∧ (s.interfere).hostMem = s.hostMem ∧
      (s.interfere).live = s.live ∧ (s.interfere).whoa = s.whoa ∧ (s.interfere).chip = s.chip ∧ (s.interfere).tack =
      s.tack ∧ (s.interfere).recd = s.recd ∧ (s.interfere).net = s.net ∧ (s.interfere).tim = s.tim ∧
      (s.interfere).gnb = s.gnb ∧ (s.interfere).gait = s.gait ∧ (s.interfere).pad = s.pad ∧ (s.interfere).air =
      s.air ∧ (s.interfere).byl = s.byl := by
  unfold State.interfere
  try simp
  all_goals (repeat' split) <;> simp_all

@[simp] theorem State.joinFailed_frame (s : State) (x1 : Nat) (x2 : Joining) (x3 : Status) :
    (s.joinFailed x1 x2 x3).pending = s.pending ∧ (s.joinFailed x1 x2 x3).cyc = s.cyc ∧ (s.joinFailed x1 x2
      x3).hostMem = s.hostMem ∧ (s.joinFailed x1 x2 x3).live = s.live ∧ (s.joinFailed x1 x2 x3).whoa = s.whoa ∧
      (s.joinFailed x1 x2 x3).chip = s.chip ∧ (s.joinFailed x1 x2 x3).recd = s.recd ∧ (s.joinFailed x1 x2 x3).net =
      s.net ∧ (s.joinFailed x1 x2 x3).tim = s.tim ∧ (s.joinFailed x1 x2 x3).gnb = s.gnb ∧ (s.joinFailed x1 x2
      x3).gait = s.gait ∧ (s.joinFailed x1 x2 x3).pad = s.pad ∧ (s.joinFailed x1 x2 x3).fix = s.fix := by
  unfold State.joinFailed
  try simp
  all_goals (repeat' split) <;> simp_all

@[simp] theorem State.joinDone_frame (s : State) (x1 : Nat) (x2 : Joining) (x3 : AirKey) :
    (s.joinDone x1 x2 x3).pending = s.pending ∧ (s.joinDone x1 x2 x3).cyc = s.cyc ∧ (s.joinDone x1 x2 x3).hostMem =
      s.hostMem ∧ (s.joinDone x1 x2 x3).live = s.live ∧ (s.joinDone x1 x2 x3).whoa = s.whoa ∧ (s.joinDone x1 x2
      x3).chip = s.chip ∧ (s.joinDone x1 x2 x3).recd = s.recd ∧ (s.joinDone x1 x2 x3).net = s.net ∧ (s.joinDone x1
      x2 x3).tim = s.tim ∧ (s.joinDone x1 x2 x3).gnb = s.gnb ∧ (s.joinDone x1 x2 x3).gait = s.gait ∧ (s.joinDone x1
      x2 x3).pad = s.pad := by
  unfold State.joinDone
  try simp
  all_goals (repeat' split) <;> simp_all

@[simp] theorem State.joinReq_frame (s : State) (x1 : Nat) (x2 : Bool) (x3 : Bool) (x4 : Nat) (x5 : Nat) :
    (s.joinReq x1 x2 x3 x4 x5).pending = s.pending ∧ (s.joinReq x1 x2 x3 x4 x5).cyc = s.cyc ∧ (s.joinReq x1 x2 x3 x4
      x5).hostMem = s.hostMem ∧ (s.joinReq x1 x2 x3 x4 x5).live = s.live ∧ (s.joinReq x1 x2 x3 x4 x5).whoa = s.whoa
      ∧ (s.joinReq x1 x2 x3 x4 x5).chip = s.chip ∧ (s.joinReq x1 x2 x3 x4 x5).tack = s.tack ∧ (s.joinReq x1 x2 x3 x4
      x5).recd = s.recd ∧ (s.joinReq x1 x2 x3 x4 x5).net = s.net ∧ (s.joinReq x1 x2 x3 x4 x5).tim = s.tim ∧
      (s.joinReq x1 x2 x3 x4 x5).gnb = s.gnb ∧ (s.joinReq x1 x2 x3 x4 x5).gait = s.gait ∧ (s.joinReq x1 x2 x3 x4
      x5).pad = s.pad ∧ (s.joinReq x1 x2 x3 x4 x5).fix = s.fix ∧ (s.joinReq x1 x2 x3 x4 x5).byl = s.byl := by
  unfold State.joinReq
  try simp
  all_goals (repeat' split) <;> simp_all

@[simp] theorem State.obsItem_frame (s : State) (x1 : Nat) (x2 : Nat) (x3 : Nat) (x4 : List Sys2Proof.Byte) :
    (s.obsItem x1 x2 x3 x4).pending = s.pending ∧ (s.obsItem x1 x2 x3 x4).cyc = s.cyc ∧ (s.obsItem x1 x2 x3
      x4).hostMem = s.hostMem ∧ (s.obsItem x1 x2 x3 x4).live = s.live ∧ (s.obsItem x1 x2 x3 x4).whoa = s.whoa ∧
      (s.obsItem x1 x2 x3 x4).chip = s.chip ∧ (s.obsItem x1 x2 x3 x4).tack = s.tack ∧ (s.obsItem x1 x2 x3 x4).recd =
      s.recd ∧ (s.obsItem x1 x2 x3 x4).net = s.net ∧ (s.obsItem x1 x2 x3 x4).tim = s.tim ∧ (s.obsItem x1 x2 x3
      x4).gnb = s.gnb ∧ (s.obsItem x1 x2 x3 x4).gait = s.gait ∧ (s.obsItem x1 x2 x3 x4).pad = s.pad ∧ (s.obsItem x1
      x2 x3 x4).air = s.air ∧ (s.obsItem x1 x2 x3 x4).byl = s.byl := by
  unfold State.obsItem
  try simp
  all_goals (repeat' split) <;> simp_all

@[simp] theorem State.validFrame_frame (s : State) (x1 : Nat) (x2 : Nat) (x3 : AirVerdict) (x4 : AirLayer) (x5 :
    AirFrame) :
    (s.validFrame x1 x2 x3 x4 x5).pending = s.pending ∧ (s.validFrame x1 x2 x3 x4 x5).cyc = s.cyc ∧ (s.validFrame x1
      x2 x3 x4 x5).hostMem = s.hostMem ∧ (s.validFrame x1 x2 x3 x4 x5).live = s.live ∧ (s.validFrame x1 x2 x3 x4
      x5).whoa = s.whoa ∧ (s.validFrame x1 x2 x3 x4 x5).chip = s.chip ∧ (s.validFrame x1 x2 x3 x4 x5).recd = s.recd
      ∧ (s.validFrame x1 x2 x3 x4 x5).net = s.net ∧ (s.validFrame x1 x2 x3 x4 x5).tim = s.tim ∧ (s.validFrame x1 x2
      x3 x4 x5).gnb = s.gnb := by
  unfold State.validFrame
  try simp
  all_goals (repeat' split) <;> simp_all

@[simp] theorem State.judgeFrame_frame (s : State) (x1 : Nat) (x2 : AirFrame) (x3 : Bool) (x4 : List AirLayer) :
    (s.judgeFrame x1 x2 x3 x4).pending = s.pending ∧ (s.judgeFrame x1 x2 x3 x4).cyc = s.cyc ∧ (s.judgeFrame x1 x2 x3
      x4).hostMem = s.hostMem ∧ (s.judgeFrame x1 x2 x3 x4).live = s.live ∧ (s.judgeFrame x1 x2 x3 x4).whoa = s.whoa
      ∧ (s.judgeFrame x1 x2 x3 x4).chip = s.chip ∧ (s.judgeFrame x1 x2 x3 x4).recd = s.recd ∧ (s.judgeFrame x1 x2 x3
      x4).net = s.net ∧ (s.judgeFrame x1 x2 x3 x4).tim = s.tim ∧ (s.judgeFrame x1 x2 x3 x4).gnb = s.gnb := by
  induction x4 generalizing s x3 with
  | nil => simp [State.judgeFrame]
  | cons l r ih => unfold State.judgeFrame; (repeat' split) <;> simp [ih]

@[simp] theorem State.judgeHello_frame (s : State) (x1 : Hello) :
    (s.judgeHello x1).pending = s.pending ∧ (s.judgeHello x1).cyc = s.cyc ∧ (s.judgeHello x1).hostMem = s.hostMem ∧
      (s.judgeHello x1).live = s.live ∧ (s.judgeHello x1).whoa = s.whoa ∧ (s.judgeHello x1).chip = s.chip ∧
      (s.judgeHello x1).tack = s.tack ∧ (s.judgeHello x1).recd = s.recd ∧ (s.judgeHello x1).net = s.net ∧
      (s.judgeHello x1).tim = s.tim ∧ (s.judgeHello x1).gnb = s.gnb ∧ (s.judgeHello x1).gait = s.gait ∧
      (s.judgeHello x1).pad = s.pad ∧ (s.judgeHello x1).fix = s.fix ∧ (s.judgeHello x1).air = s.air := by
  unfold State.judgeHello
  try simp
  all_goals (repeat' split) <;> simp_all

@[simp] theorem State.judgePartner_frame (s : State) (x1 : Beat) :
    (s.judgePartner x1).pending = s.pending ∧ (s.judgePartner x1).cyc = s.cyc ∧ (s.judgePartner x1).hostMem =
      s.hostMem ∧ (s.judgePartner x1).live = s.live ∧ (s.judgePartner x1).whoa = s.whoa ∧ (s.judgePartner x1).chip =
      s.chip ∧ (s.judgePartner x1).tack = s.tack ∧ (s.judgePartner x1).recd = s.recd ∧ (s.judgePartner x1).net =
      s.net ∧ (s.judgePartner x1).tim = s.tim ∧ (s.judgePartner x1).gnb = s.gnb ∧ (s.judgePartner x1).fix = s.fix ∧
      (s.judgePartner x1).air = s.air ∧ (s.judgePartner x1).byl = s.byl := by
  unfold State.judgePartner
  try simp
  all_goals (repeat' split) <;> simp_all

@[simp] theorem State.runSweep_frame (s : State) (x1 : PadGeom) (x2 : Shape) (x3 : Sweep) (x4 : List Nat) :
    (s.runSweep x1 x2 x3 x4).pending = s.pending ∧ (s.runSweep x1 x2 x3 x4).cyc = s.cyc ∧ (s.runSweep x1 x2 x3
      x4).hostMem = s.hostMem ∧ (s.runSweep x1 x2 x3 x4).live = s.live ∧ (s.runSweep x1 x2 x3 x4).whoa = s.whoa ∧
      (s.runSweep x1 x2 x3 x4).chip = s.chip ∧ (s.runSweep x1 x2 x3 x4).tack = s.tack ∧ (s.runSweep x1 x2 x3
      x4).recd = s.recd ∧ (s.runSweep x1 x2 x3 x4).net = s.net ∧ (s.runSweep x1 x2 x3 x4).tim = s.tim ∧ (s.runSweep
      x1 x2 x3 x4).gnb = s.gnb ∧ (s.runSweep x1 x2 x3 x4).air = s.air := by
  simp only [State.runSweep]
  generalize State.sweepCause _ _ _ _ _ = c
  split
  · simp
  · split <;> simp

@[simp] theorem State.latchSweep_frame (s : State) (x1 : PadGeom) (x2 : Shape) (x3 : Sweep) :
    (s.latchSweep x1 x2 x3).pending = s.pending ∧ (s.latchSweep x1 x2 x3).cyc = s.cyc ∧ (s.latchSweep x1 x2
      x3).hostMem = s.hostMem ∧ (s.latchSweep x1 x2 x3).live = s.live ∧ (s.latchSweep x1 x2 x3).whoa = s.whoa ∧
      (s.latchSweep x1 x2 x3).chip = s.chip ∧ (s.latchSweep x1 x2 x3).tack = s.tack ∧ (s.latchSweep x1 x2 x3).recd =
      s.recd ∧ (s.latchSweep x1 x2 x3).net = s.net ∧ (s.latchSweep x1 x2 x3).tim = s.tim ∧ (s.latchSweep x1 x2
      x3).gnb = s.gnb ∧ (s.latchSweep x1 x2 x3).air = s.air := by
  unfold State.latchSweep
  try simp
  all_goals (repeat' split) <;> simp_all

@[simp] theorem State.learn_frame (s : State) (x1 : Nat) :
    (s.learn x1).pending = s.pending ∧ (s.learn x1).cyc = s.cyc ∧ (s.learn x1).hostMem = s.hostMem ∧ (s.learn
      x1).live = s.live ∧ (s.learn x1).whoa = s.whoa ∧ (s.learn x1).chip = s.chip ∧ (s.learn x1).tack = s.tack ∧
      (s.learn x1).recd = s.recd ∧ (s.learn x1).net = s.net ∧ (s.learn x1).gnb = s.gnb ∧ (s.learn x1).gait = s.gait
      ∧ (s.learn x1).pad = s.pad ∧ (s.learn x1).fix = s.fix ∧ (s.learn x1).air = s.air ∧ (s.learn x1).byl = s.byl := by
  unfold State.learn
  try simp
  all_goals (repeat' split) <;> simp_all

@[simp] theorem State.leaveRun_frame (s : State) (x1 : Item) :
    (s.leaveRun x1).pending = s.pending ∧ (s.leaveRun x1).cyc = s.cyc ∧ (s.leaveRun x1).live = s.live ∧ (s.leaveRun
      x1).whoa = s.whoa := by
  unfold State.leaveRun
  try simp
  all_goals (repeat' split) <;> simp_all

@[simp] theorem State.nextEvent_frame (s : State) (x1 : Nat) :
    (s.nextEvent x1).pending = s.pending ∧ (s.nextEvent x1).cyc = s.cyc ∧ (s.nextEvent x1).hostMem = s.hostMem ∧
      (s.nextEvent x1).live = s.live ∧ (s.nextEvent x1).whoa = s.whoa ∧ (s.nextEvent x1).chip = s.chip ∧
      (s.nextEvent x1).tack = s.tack ∧ (s.nextEvent x1).recd = s.recd ∧ (s.nextEvent x1).net = s.net ∧ (s.nextEvent
      x1).tim = s.tim ∧ (s.nextEvent x1).gnb = s.gnb ∧ (s.nextEvent x1).gait = s.gait ∧ (s.nextEvent x1).pad = s.pad
      ∧ (s.nextEvent x1).fix = s.fix ∧ (s.nextEvent x1).air = s.air ∧ (s.nextEvent x1).byl = s.byl := by
  unfold State.nextEvent
  try simp
  all_goals (repeat' split) <;> simp_all

@[simp] theorem State.reroute_frame (s : State) :
    (s.reroute).pending = s.pending ∧ (s.reroute).cyc = s.cyc ∧ (s.reroute).hostMem = s.hostMem ∧ (s.reroute).live =
      s.live ∧ (s.reroute).whoa = s.whoa ∧ (s.reroute).chip = s.chip ∧ (s.reroute).tack = s.tack ∧ (s.reroute).recd
      = s.recd ∧ (s.reroute).net = s.net ∧ (s.reroute).tim = s.tim ∧ (s.reroute).gnb = s.gnb ∧ (s.reroute).gait =
      s.gait ∧ (s.reroute).pad = s.pad ∧ (s.reroute).fix = s.fix ∧ (s.reroute).air = s.air ∧ (s.reroute).byl = s.byl := by
  unfold State.reroute
  try simp
  all_goals (repeat' split) <;> simp_all

@[simp] theorem State.linkIs_frame (s : State) (x1 : Bool) :
    (s.linkIs x1).pending = s.pending ∧ (s.linkIs x1).cyc = s.cyc ∧ (s.linkIs x1).hostMem = s.hostMem ∧ (s.linkIs
      x1).live = s.live ∧ (s.linkIs x1).whoa = s.whoa ∧ (s.linkIs x1).chip = s.chip ∧ (s.linkIs x1).tack = s.tack ∧
      (s.linkIs x1).recd = s.recd ∧ (s.linkIs x1).net = s.net ∧ (s.linkIs x1).tim = s.tim ∧ (s.linkIs x1).gnb =
      s.gnb ∧ (s.linkIs x1).gait = s.gait ∧ (s.linkIs x1).pad = s.pad ∧ (s.linkIs x1).fix = s.fix ∧ (s.linkIs
      x1).air = s.air ∧ (s.linkIs x1).byl = s.byl := by
  unfold State.linkIs
  try simp
  all_goals (repeat' split) <;> simp_all

@[simp] theorem State.linkReset_frame (s : State) (x1 : Bool) :
    (s.linkReset x1).pending = s.pending ∧ (s.linkReset x1).cyc = s.cyc ∧ (s.linkReset x1).hostMem = s.hostMem := by
  unfold State.linkReset
  try simp
  all_goals (repeat' split) <;> simp_all

@[simp] theorem State.linkTo_frame (s : State) (x1 : Nat) (x2 : Nat) :
    (s.linkTo x1 x2).pending = s.pending ∧ (s.linkTo x1 x2).cyc = s.cyc ∧ (s.linkTo x1 x2).hostMem = s.hostMem ∧
      (s.linkTo x1 x2).live = s.live ∧ (s.linkTo x1 x2).whoa = s.whoa ∧ (s.linkTo x1 x2).chip = s.chip ∧ (s.linkTo
      x1 x2).tack = s.tack ∧ (s.linkTo x1 x2).net = s.net ∧ (s.linkTo x1 x2).tim = s.tim ∧ (s.linkTo x1 x2).gnb =
      s.gnb ∧ (s.linkTo x1 x2).gait = s.gait ∧ (s.linkTo x1 x2).pad = s.pad ∧ (s.linkTo x1 x2).fix = s.fix := by
  unfold State.linkTo
  try simp
  all_goals (repeat' split) <;> simp_all

@[simp] theorem State.sendAll_frame (s : State) :
    (s.sendAll).pending = s.pending ∧ (s.sendAll).cyc = s.cyc ∧ (s.sendAll).hostMem = s.hostMem ∧ (s.sendAll).live =
      s.live ∧ (s.sendAll).whoa = s.whoa ∧ (s.sendAll).chip = s.chip ∧ (s.sendAll).tack = s.tack ∧ (s.sendAll).recd
      = s.recd ∧ (s.sendAll).net = s.net ∧ (s.sendAll).tim = s.tim ∧ (s.sendAll).gnb = s.gnb ∧ (s.sendAll).gait =
      s.gait ∧ (s.sendAll).pad = s.pad ∧ (s.sendAll).fix = s.fix ∧ (s.sendAll).air = s.air := by
  unfold State.sendAll
  try simp
  all_goals (repeat' split) <;> simp_all

@[simp] theorem State.linkUp_frame (s : State) :
    (s.linkUp).pending = s.pending ∧ (s.linkUp).cyc = s.cyc ∧ (s.linkUp).hostMem = s.hostMem ∧ (s.linkUp).live =
      s.live ∧ (s.linkUp).whoa = s.whoa ∧ (s.linkUp).chip = s.chip ∧ (s.linkUp).tack = s.tack ∧ (s.linkUp).recd =
      s.recd ∧ (s.linkUp).net = s.net ∧ (s.linkUp).tim = s.tim ∧ (s.linkUp).gnb = s.gnb ∧ (s.linkUp).gait = s.gait ∧
      (s.linkUp).pad = s.pad ∧ (s.linkUp).fix = s.fix ∧ (s.linkUp).air = s.air := by
  unfold State.linkUp
  try simp
  all_goals (repeat' split) <;> simp_all

@[simp] theorem State.surveyCount_frame (s : State) (x1 : LongOp) (x2 : Survey) (x3 : Int) (x4 : Int) (x5 : Int) :
    (s.surveyCount x1 x2 x3 x4 x5).pending = s.pending ∧ (s.surveyCount x1 x2 x3 x4 x5).cyc = s.cyc ∧ (s.surveyCount
      x1 x2 x3 x4 x5).hostMem = s.hostMem ∧ (s.surveyCount x1 x2 x3 x4 x5).live = s.live ∧ (s.surveyCount x1 x2 x3
      x4 x5).whoa = s.whoa ∧ (s.surveyCount x1 x2 x3 x4 x5).chip = s.chip ∧ (s.surveyCount x1 x2 x3 x4 x5).tack =
      s.tack ∧ (s.surveyCount x1 x2 x3 x4 x5).recd = s.recd ∧ (s.surveyCount x1 x2 x3 x4 x5).net = s.net ∧
      (s.surveyCount x1 x2 x3 x4 x5).tim = s.tim ∧ (s.surveyCount x1 x2 x3 x4 x5).gait = s.gait ∧ (s.surveyCount x1
      x2 x3 x4 x5).pad = s.pad ∧ (s.surveyCount x1 x2 x3 x4 x5).fix = s.fix ∧ (s.surveyCount x1 x2 x3 x4 x5).air =
      s.air ∧ (s.surveyCount x1 x2 x3 x4 x5).byl = s.byl := by
  unfold State.surveyCount
  try simp
  all_goals (repeat' split) <;> simp_all

@[simp] theorem State.surveyUnit_frame (s : State) (x1 : LongOp) (x2 : Option (Int × Int × Int)) :
    (s.surveyUnit x1 x2).pending = s.pending ∧ (s.surveyUnit x1 x2).cyc = s.cyc ∧ (s.surveyUnit x1 x2).hostMem =
      s.hostMem ∧ (s.surveyUnit x1 x2).live = s.live ∧ (s.surveyUnit x1 x2).whoa = s.whoa ∧ (s.surveyUnit x1
      x2).chip = s.chip ∧ (s.surveyUnit x1 x2).tack = s.tack ∧ (s.surveyUnit x1 x2).recd = s.recd ∧ (s.surveyUnit x1
      x2).net = s.net ∧ (s.surveyUnit x1 x2).tim = s.tim ∧ (s.surveyUnit x1 x2).gait = s.gait ∧ (s.surveyUnit x1
      x2).pad = s.pad ∧ (s.surveyUnit x1 x2).fix = s.fix ∧ (s.surveyUnit x1 x2).air = s.air ∧ (s.surveyUnit x1
      x2).byl = s.byl := by
  unfold State.surveyUnit
  try simp
  all_goals (repeat' split) <;> simp_all

@[simp] theorem State.resetFilter_frame (s : State) (x1 : Nat) :
    (s.resetFilter x1).pending = s.pending ∧ (s.resetFilter x1).cyc = s.cyc ∧ (s.resetFilter x1).hostMem = s.hostMem
      ∧ (s.resetFilter x1).live = s.live ∧ (s.resetFilter x1).whoa = s.whoa ∧ (s.resetFilter x1).chip = s.chip ∧
      (s.resetFilter x1).tack = s.tack ∧ (s.resetFilter x1).recd = s.recd ∧ (s.resetFilter x1).net = s.net ∧
      (s.resetFilter x1).tim = s.tim ∧ (s.resetFilter x1).gnb = s.gnb ∧ (s.resetFilter x1).gait = s.gait ∧
      (s.resetFilter x1).pad = s.pad ∧ (s.resetFilter x1).air = s.air ∧ (s.resetFilter x1).byl = s.byl := by
  unfold State.resetFilter
  try simp
  all_goals (repeat' split) <;> simp_all

@[simp] theorem State.reinitUnit_frame (s : State) (x1 : LongOp) :
    (s.reinitUnit x1).pending = s.pending ∧ (s.reinitUnit x1).cyc = s.cyc ∧ (s.reinitUnit x1).hostMem = s.hostMem ∧
      (s.reinitUnit x1).live = s.live ∧ (s.reinitUnit x1).whoa = s.whoa ∧ (s.reinitUnit x1).chip = s.chip ∧
      (s.reinitUnit x1).tack = s.tack ∧ (s.reinitUnit x1).recd = s.recd ∧ (s.reinitUnit x1).net = s.net ∧
      (s.reinitUnit x1).tim = s.tim ∧ (s.reinitUnit x1).gnb = s.gnb ∧ (s.reinitUnit x1).gait = s.gait ∧
      (s.reinitUnit x1).pad = s.pad ∧ (s.reinitUnit x1).air = s.air ∧ (s.reinitUnit x1).byl = s.byl := by
  unfold State.reinitUnit
  try simp
  all_goals (repeat' split) <;> simp_all

@[simp] theorem State.rewrapUnit_frame (s : State) (x1 : LongOp) :
    (s.rewrapUnit x1).pending = s.pending ∧ (s.rewrapUnit x1).cyc = s.cyc ∧ (s.rewrapUnit x1).live = s.live ∧
      (s.rewrapUnit x1).whoa = s.whoa ∧ (s.rewrapUnit x1).chip = s.chip ∧ (s.rewrapUnit x1).recd = s.recd ∧
      (s.rewrapUnit x1).net = s.net ∧ (s.rewrapUnit x1).tim = s.tim ∧ (s.rewrapUnit x1).gnb = s.gnb ∧ (s.rewrapUnit
      x1).gait = s.gait ∧ (s.rewrapUnit x1).pad = s.pad ∧ (s.rewrapUnit x1).fix = s.fix ∧ (s.rewrapUnit x1).air =
      s.air ∧ (s.rewrapUnit x1).byl = s.byl := by
  unfold State.rewrapUnit
  try simp
  all_goals (repeat' split) <;> simp_all

@[simp] theorem State.readoutUnit_frame (s : State) (x1 : LongOp) (x2 : List Sys2Proof.Byte) (x3 : Bool) :
    (s.readoutUnit x1 x2 x3).pending = s.pending ∧ (s.readoutUnit x1 x2 x3).cyc = s.cyc ∧ (s.readoutUnit x1 x2
      x3).live = s.live ∧ (s.readoutUnit x1 x2 x3).whoa = s.whoa ∧ (s.readoutUnit x1 x2 x3).chip = s.chip ∧
      (s.readoutUnit x1 x2 x3).net = s.net ∧ (s.readoutUnit x1 x2 x3).tim = s.tim ∧ (s.readoutUnit x1 x2 x3).gnb =
      s.gnb ∧ (s.readoutUnit x1 x2 x3).gait = s.gait ∧ (s.readoutUnit x1 x2 x3).pad = s.pad ∧ (s.readoutUnit x1 x2
      x3).fix = s.fix ∧ (s.readoutUnit x1 x2 x3).air = s.air ∧ (s.readoutUnit x1 x2 x3).byl = s.byl := by
  unfold State.readoutUnit
  try simp
  all_goals (repeat' split) <;> simp_all

@[simp] theorem State.longUnit_frame (s : State) (x1 : LongOp) (x2 : LongUnit) :
    (s.longUnit x1 x2).pending = s.pending ∧ (s.longUnit x1 x2).cyc = s.cyc ∧ (s.longUnit x1 x2).live = s.live ∧
      (s.longUnit x1 x2).whoa = s.whoa ∧ (s.longUnit x1 x2).net = s.net ∧ (s.longUnit x1 x2).tim = s.tim ∧
      (s.longUnit x1 x2).gait = s.gait ∧ (s.longUnit x1 x2).air = s.air := by
  unfold State.longUnit
  try simp
  all_goals (repeat' split) <;> simp_all

@[simp] theorem State.loseLinkKey_frame (s : State) :
    (s.loseLinkKey).pending = s.pending ∧ (s.loseLinkKey).cyc = s.cyc ∧ (s.loseLinkKey).hostMem = s.hostMem ∧
      (s.loseLinkKey).live = s.live ∧ (s.loseLinkKey).whoa = s.whoa ∧ (s.loseLinkKey).chip = s.chip ∧
      (s.loseLinkKey).tack = s.tack ∧ (s.loseLinkKey).recd = s.recd ∧ (s.loseLinkKey).net = s.net ∧
      (s.loseLinkKey).tim = s.tim ∧ (s.loseLinkKey).gnb = s.gnb ∧ (s.loseLinkKey).fix = s.fix ∧ (s.loseLinkKey).air
      = s.air := by
  unfold State.loseLinkKey
  try simp
  all_goals (repeat' split) <;> simp_all

@[simp] theorem State.lowRead_frame (s : State) (x1 : Requester) (x2 : Nat) :
    (s.lowRead x1 x2).pending = s.pending ∧ (s.lowRead x1 x2).cyc = s.cyc ∧ (s.lowRead x1 x2).hostMem = s.hostMem ∧
      (s.lowRead x1 x2).live = s.live ∧ (s.lowRead x1 x2).whoa = s.whoa ∧ (s.lowRead x1 x2).chip = s.chip ∧
      (s.lowRead x1 x2).tack = s.tack ∧ (s.lowRead x1 x2).recd = s.recd ∧ (s.lowRead x1 x2).net = s.net ∧ (s.lowRead
      x1 x2).tim = s.tim ∧ (s.lowRead x1 x2).gnb = s.gnb ∧ (s.lowRead x1 x2).gait = s.gait ∧ (s.lowRead x1 x2).pad =
      s.pad ∧ (s.lowRead x1 x2).fix = s.fix ∧ (s.lowRead x1 x2).air = s.air ∧ (s.lowRead x1 x2).byl = s.byl := by
  unfold State.lowRead
  try simp
  all_goals (repeat' split) <;> simp_all

@[simp] theorem State.measure_frame (s : State) (x1 : List Meas) (x2 : Sp Chan) :
    (s.measure x1 x2).1.pending = s.pending ∧ (s.measure x1 x2).1.cyc = s.cyc ∧ (s.measure x1 x2).1.hostMem =
      s.hostMem ∧ (s.measure x1 x2).1.live = s.live ∧ (s.measure x1 x2).1.whoa = s.whoa ∧ (s.measure x1 x2).1.chip =
      s.chip ∧ (s.measure x1 x2).1.tack = s.tack ∧ (s.measure x1 x2).1.recd = s.recd ∧ (s.measure x1 x2).1.net =
      s.net ∧ (s.measure x1 x2).1.tim = s.tim ∧ (s.measure x1 x2).1.gnb = s.gnb ∧ (s.measure x1 x2).1.gait = s.gait
      ∧ (s.measure x1 x2).1.pad = s.pad ∧ (s.measure x1 x2).1.fix = s.fix ∧ (s.measure x1 x2).1.air = s.air ∧
      (s.measure x1 x2).1.byl = s.byl := by
  induction x2 generalizing s with
  | nil => simp [State.measure]
  | cons a r ih => simp only [State.measure]; split <;> simp [ih]

@[simp] theorem State.measureOne_frame (s : State) (x1 : Nat) (x2 : Nat) :
    (s.measureOne x1 x2).pending = s.pending ∧ (s.measureOne x1 x2).cyc = s.cyc ∧ (s.measureOne x1 x2).hostMem =
      s.hostMem ∧ (s.measureOne x1 x2).live = s.live ∧ (s.measureOne x1 x2).chip = s.chip ∧ (s.measureOne x1
      x2).tack = s.tack ∧ (s.measureOne x1 x2).recd = s.recd ∧ (s.measureOne x1 x2).net = s.net ∧ (s.measureOne x1
      x2).tim = s.tim ∧ (s.measureOne x1 x2).gnb = s.gnb ∧ (s.measureOne x1 x2).gait = s.gait ∧ (s.measureOne x1
      x2).pad = s.pad ∧ (s.measureOne x1 x2).fix = s.fix ∧ (s.measureOne x1 x2).air = s.air ∧ (s.measureOne x1
      x2).byl = s.byl := by
  unfold State.measureOne
  try simp
  all_goals (repeat' split) <;> simp_all

@[simp] theorem State.measureAll_frame (s : State) (x1 : Nat) (x2 : List (BitVec 16)) :
    (s.measureAll x1 x2).pending = s.pending ∧ (s.measureAll x1 x2).cyc = s.cyc ∧ (s.measureAll x1 x2).hostMem =
      s.hostMem ∧ (s.measureAll x1 x2).live = s.live ∧ (s.measureAll x1 x2).chip = s.chip ∧ (s.measureAll x1
      x2).tack = s.tack ∧ (s.measureAll x1 x2).recd = s.recd ∧ (s.measureAll x1 x2).net = s.net ∧ (s.measureAll x1
      x2).tim = s.tim ∧ (s.measureAll x1 x2).gnb = s.gnb ∧ (s.measureAll x1 x2).gait = s.gait ∧ (s.measureAll x1
      x2).pad = s.pad ∧ (s.measureAll x1 x2).fix = s.fix ∧ (s.measureAll x1 x2).air = s.air ∧ (s.measureAll x1
      x2).byl = s.byl := by
  induction x2 generalizing s x1 with
  | nil => simp [State.measureAll]
  | cons a r ih => unfold State.measureAll; (repeat' split) <;> simp_all

@[simp] theorem State.mirrorPad_frame (s : State) (x1 : MirrorRec) :
    (s.mirrorPad x1).pending = s.pending ∧ (s.mirrorPad x1).cyc = s.cyc ∧ (s.mirrorPad x1).hostMem = s.hostMem ∧
      (s.mirrorPad x1).live = s.live ∧ (s.mirrorPad x1).whoa = s.whoa ∧ (s.mirrorPad x1).chip = s.chip ∧
      (s.mirrorPad x1).tack = s.tack ∧ (s.mirrorPad x1).recd = s.recd ∧ (s.mirrorPad x1).net = s.net ∧ (s.mirrorPad
      x1).tim = s.tim ∧ (s.mirrorPad x1).gnb = s.gnb ∧ (s.mirrorPad x1).gait = s.gait ∧ (s.mirrorPad x1).fix = s.fix
      ∧ (s.mirrorPad x1).air = s.air := by
  unfold State.mirrorPad
  try simp
  all_goals (repeat' split) <;> simp_all

@[simp] theorem State.missed_frame (s : State) (x1 : Nat) :
    (s.missed x1).pending = s.pending ∧ (s.missed x1).cyc = s.cyc ∧ (s.missed x1).hostMem = s.hostMem ∧ (s.missed
      x1).live = s.live ∧ (s.missed x1).whoa = s.whoa ∧ (s.missed x1).chip = s.chip ∧ (s.missed x1).tack = s.tack ∧
      (s.missed x1).recd = s.recd ∧ (s.missed x1).net = s.net ∧ (s.missed x1).tim = s.tim ∧ (s.missed x1).gnb =
      s.gnb ∧ (s.missed x1).fix = s.fix := by
  unfold State.missed
  try simp
  all_goals (repeat' split) <;> simp_all

@[simp] theorem State.sentUnder_frame (s : State) (x1 : Nat) :
    (s.sentUnder x1).pending = s.pending ∧ (s.sentUnder x1).cyc = s.cyc ∧ (s.sentUnder x1).hostMem = s.hostMem ∧
      (s.sentUnder x1).live = s.live ∧ (s.sentUnder x1).whoa = s.whoa ∧ (s.sentUnder x1).chip = s.chip ∧
      (s.sentUnder x1).recd = s.recd ∧ (s.sentUnder x1).net = s.net ∧ (s.sentUnder x1).tim = s.tim ∧ (s.sentUnder
      x1).gnb = s.gnb ∧ (s.sentUnder x1).gait = s.gait ∧ (s.sentUnder x1).pad = s.pad ∧ (s.sentUnder x1).fix = s.fix := by
  unfold State.sentUnder
  try simp
  all_goals (repeat' split) <;> simp_all

@[simp] theorem State.msgSent_frame (s : State) (x1 : Nat) (x2 : AirMsg) :
    (s.msgSent x1 x2).pending = s.pending ∧ (s.msgSent x1 x2).cyc = s.cyc ∧ (s.msgSent x1 x2).hostMem = s.hostMem ∧
      (s.msgSent x1 x2).live = s.live ∧ (s.msgSent x1 x2).whoa = s.whoa ∧ (s.msgSent x1 x2).chip = s.chip ∧
      (s.msgSent x1 x2).recd = s.recd ∧ (s.msgSent x1 x2).net = s.net ∧ (s.msgSent x1 x2).tim = s.tim ∧ (s.msgSent
      x1 x2).gnb = s.gnb ∧ (s.msgSent x1 x2).gait = s.gait ∧ (s.msgSent x1 x2).pad = s.pad ∧ (s.msgSent x1 x2).fix =
      s.fix := by
  unfold State.msgSent
  try simp
  all_goals (repeat' split) <;> simp_all

@[simp] theorem State.setBufs_frame (s : State) (x1 : Nat) (x2 : Nat) (x3 : List Item) :
    (s.setBufs x1 x2 x3).pending = s.pending ∧ (s.setBufs x1 x2 x3).cyc = s.cyc ∧ (s.setBufs x1 x2 x3).hostMem =
      s.hostMem ∧ (s.setBufs x1 x2 x3).live = s.live ∧ (s.setBufs x1 x2 x3).whoa = s.whoa ∧ (s.setBufs x1 x2
      x3).chip = s.chip ∧ (s.setBufs x1 x2 x3).tack = s.tack ∧ (s.setBufs x1 x2 x3).recd = s.recd ∧ (s.setBufs x1 x2
      x3).tim = s.tim ∧ (s.setBufs x1 x2 x3).gnb = s.gnb ∧ (s.setBufs x1 x2 x3).gait = s.gait ∧ (s.setBufs x1 x2
      x3).pad = s.pad ∧ (s.setBufs x1 x2 x3).fix = s.fix ∧ (s.setBufs x1 x2 x3).air = s.air ∧ (s.setBufs x1 x2
      x3).byl = s.byl := by
  unfold State.setBufs
  try simp
  all_goals (repeat' split) <;> simp_all

@[simp] theorem State.netDeliver_frame (s : State) (x1 : Nat) (x2 : Nat) (x3 : Nat) (x4 : List Sys2Proof.Byte) (x5 :
    Bool) (x6 : BitVec 64) :
    (s.netDeliver x1 x2 x3 x4 x5 x6).pending = s.pending ∧ (s.netDeliver x1 x2 x3 x4 x5 x6).cyc = s.cyc ∧
      (s.netDeliver x1 x2 x3 x4 x5 x6).live = s.live ∧ (s.netDeliver x1 x2 x3 x4 x5 x6).whoa = s.whoa ∧
      (s.netDeliver x1 x2 x3 x4 x5 x6).chip = s.chip ∧ (s.netDeliver x1 x2 x3 x4 x5 x6).tack = s.tack ∧
      (s.netDeliver x1 x2 x3 x4 x5 x6).recd = s.recd ∧ (s.netDeliver x1 x2 x3 x4 x5 x6).tim = s.tim ∧ (s.netDeliver
      x1 x2 x3 x4 x5 x6).gnb = s.gnb ∧ (s.netDeliver x1 x2 x3 x4 x5 x6).gait = s.gait ∧ (s.netDeliver x1 x2 x3 x4 x5
      x6).pad = s.pad ∧ (s.netDeliver x1 x2 x3 x4 x5 x6).fix = s.fix ∧ (s.netDeliver x1 x2 x3 x4 x5 x6).air = s.air
      ∧ (s.netDeliver x1 x2 x3 x4 x5 x6).byl = s.byl := by
  simp only [State.netDeliver]
  split
  · simp
  · generalize Res.mk _ _ _ = r
    simp

@[simp] theorem State.servo_frame (s : State) :
    (s.servo).pending = s.pending ∧ (s.servo).cyc = s.cyc ∧ (s.servo).hostMem = s.hostMem ∧ (s.servo).live = s.live
      ∧ (s.servo).whoa = s.whoa ∧ (s.servo).chip = s.chip ∧ (s.servo).tack = s.tack ∧ (s.servo).recd = s.recd ∧
      (s.servo).net = s.net ∧ (s.servo).gnb = s.gnb ∧ (s.servo).gait = s.gait ∧ (s.servo).pad = s.pad ∧
      (s.servo).fix = s.fix ∧ (s.servo).air = s.air ∧ (s.servo).byl = s.byl := by
  unfold State.servo
  try simp
  all_goals (repeat' split) <;> simp_all

@[simp] theorem State.planStep_frame (s : State) :
    (s.planStep).pending = s.pending ∧ (s.planStep).cyc = s.cyc ∧ (s.planStep).hostMem = s.hostMem ∧
      (s.planStep).live = s.live ∧ (s.planStep).whoa = s.whoa ∧ (s.planStep).chip = s.chip ∧ (s.planStep).tack =
      s.tack ∧ (s.planStep).recd = s.recd ∧ (s.planStep).net = s.net ∧ (s.planStep).gnb = s.gnb ∧ (s.planStep).gait
      = s.gait ∧ (s.planStep).pad = s.pad ∧ (s.planStep).fix = s.fix ∧ (s.planStep).air = s.air ∧ (s.planStep).byl =
      s.byl := by
  unfold State.planStep
  try simp
  all_goals (repeat' split) <;> simp_all

@[simp] theorem State.newSecond_frame (s : State) (x1 : Nat) :
    (s.newSecond x1).pending = s.pending ∧ (s.newSecond x1).cyc = s.cyc ∧ (s.newSecond x1).hostMem = s.hostMem ∧
      (s.newSecond x1).live = s.live ∧ (s.newSecond x1).whoa = s.whoa ∧ (s.newSecond x1).chip = s.chip ∧
      (s.newSecond x1).tack = s.tack ∧ (s.newSecond x1).net = s.net ∧ (s.newSecond x1).gnb = s.gnb ∧ (s.newSecond
      x1).gait = s.gait ∧ (s.newSecond x1).pad = s.pad ∧ (s.newSecond x1).air = s.air ∧ (s.newSecond x1).byl = s.byl := by
  unfold State.newSecond
  try simp
  all_goals (repeat' split) <;> simp_all

theorem State.nextFormed_frame (s : State) (x1 : Nat) {r : _} : s.nextFormed x1 = some r →
    r.1.pending = s.pending ∧ r.1.cyc = s.cyc ∧ r.1.hostMem = s.hostMem ∧ r.1.live = s.live ∧ r.1.whoa = s.whoa ∧
      r.1.chip = s.chip ∧ r.1.tack = s.tack ∧ r.1.net = s.net ∧ r.1.tim = s.tim ∧ r.1.gnb = s.gnb ∧ r.1.gait =
      s.gait ∧ r.1.pad = s.pad ∧ r.1.fix = s.fix ∧ r.1.air = s.air ∧ r.1.byl = s.byl := by
  intro h
  simp only [State.nextFormed] at h
  (repeat' split at h) <;> first | (have h := Host.Outcome.next.inj h; subst h; simp; done) | (have h := Option.some.inj h; subst h; simp; done) | (simp at h; done)

@[simp] theorem State.noLaunch_frame (s : State) (x1 : Item) :
    (s.noLaunch x1).pending = s.pending ∧ (s.noLaunch x1).cyc = s.cyc ∧ (s.noLaunch x1).hostMem = s.hostMem ∧
      (s.noLaunch x1).live = s.live ∧ (s.noLaunch x1).whoa = s.whoa ∧ (s.noLaunch x1).chip = s.chip ∧ (s.noLaunch
      x1).tack = s.tack ∧ (s.noLaunch x1).recd = s.recd ∧ (s.noLaunch x1).net = s.net ∧ (s.noLaunch x1).tim = s.tim
      ∧ (s.noLaunch x1).gnb = s.gnb ∧ (s.noLaunch x1).pad = s.pad ∧ (s.noLaunch x1).air = s.air ∧ (s.noLaunch
      x1).byl = s.byl := by
  unfold State.noLaunch
  try simp
  all_goals (repeat' split) <;> simp_all

@[simp] theorem State.released_frame (s : State) (x1 : Nat) :
    (s.released x1).pending = s.pending ∧ (s.released x1).cyc = s.cyc ∧ (s.released x1).hostMem = s.hostMem ∧
      (s.released x1).live = s.live ∧ (s.released x1).whoa = s.whoa ∧ (s.released x1).chip = s.chip ∧ (s.released
      x1).tack = s.tack ∧ (s.released x1).recd = s.recd ∧ (s.released x1).net = s.net ∧ (s.released x1).tim = s.tim
      ∧ (s.released x1).gnb = s.gnb ∧ (s.released x1).gait = s.gait ∧ (s.released x1).pad = s.pad ∧ (s.released
      x1).fix = s.fix ∧ (s.released x1).air = s.air ∧ (s.released x1).byl = s.byl := by
  unfold State.released
  try simp
  all_goals (repeat' split) <;> simp_all

@[simp] theorem State.noteUpdate_frame (s : State) (x1 : Nat) (x2 : Nat) (x3 : Updated) :
    (s.noteUpdate x1 x2 x3).pending = s.pending ∧ (s.noteUpdate x1 x2 x3).cyc = s.cyc ∧ (s.noteUpdate x1 x2
      x3).hostMem = s.hostMem ∧ (s.noteUpdate x1 x2 x3).live = s.live ∧ (s.noteUpdate x1 x2 x3).whoa = s.whoa ∧
      (s.noteUpdate x1 x2 x3).chip = s.chip ∧ (s.noteUpdate x1 x2 x3).tack = s.tack ∧ (s.noteUpdate x1 x2 x3).recd =
      s.recd ∧ (s.noteUpdate x1 x2 x3).net = s.net ∧ (s.noteUpdate x1 x2 x3).tim = s.tim ∧ (s.noteUpdate x1 x2
      x3).gnb = s.gnb ∧ (s.noteUpdate x1 x2 x3).gait = s.gait ∧ (s.noteUpdate x1 x2 x3).pad = s.pad ∧ (s.noteUpdate
      x1 x2 x3).air = s.air ∧ (s.noteUpdate x1 x2 x3).byl = s.byl := by
  unfold State.noteUpdate
  try simp
  all_goals (repeat' split) <;> simp_all

@[simp] theorem State.pauseOver_frame (s : State) :
    (s.pauseOver).pending = s.pending ∧ (s.pauseOver).cyc = s.cyc ∧ (s.pauseOver).hostMem = s.hostMem ∧
      (s.pauseOver).live = s.live ∧ (s.pauseOver).whoa = s.whoa ∧ (s.pauseOver).chip = s.chip ∧ (s.pauseOver).tack =
      s.tack ∧ (s.pauseOver).tim = s.tim ∧ (s.pauseOver).gnb = s.gnb ∧ (s.pauseOver).gait = s.gait ∧
      (s.pauseOver).pad = s.pad ∧ (s.pauseOver).fix = s.fix ∧ (s.pauseOver).air = s.air ∧ (s.pauseOver).byl = s.byl := by
  unfold State.pauseOver
  try simp
  all_goals (repeat' split) <;> simp_all

@[simp] theorem State.poisonSweep_frame (s : State) (x1 : Item) (x2 : Nat × Nat) :
    (s.poisonSweep x1 x2).pending = s.pending ∧ (s.poisonSweep x1 x2).cyc = s.cyc ∧ (s.poisonSweep x1 x2).hostMem =
      s.hostMem ∧ (s.poisonSweep x1 x2).live = s.live ∧ (s.poisonSweep x1 x2).whoa = s.whoa ∧ (s.poisonSweep x1
      x2).chip = s.chip ∧ (s.poisonSweep x1 x2).tack = s.tack ∧ (s.poisonSweep x1 x2).recd = s.recd ∧ (s.poisonSweep
      x1 x2).net = s.net ∧ (s.poisonSweep x1 x2).tim = s.tim ∧ (s.poisonSweep x1 x2).gnb = s.gnb ∧ (s.poisonSweep x1
      x2).air = s.air := by
  unfold State.poisonSweep
  try simp
  all_goals (repeat' split) <;> simp_all

@[simp] theorem State.popOne_frame (s : State) (x1 : Nat) (x2 : Bool) :
    (s.popOne x1 x2).1.pending = s.pending ∧ (s.popOne x1 x2).1.cyc = s.cyc ∧ (s.popOne x1 x2).1.hostMem = s.hostMem
      ∧ (s.popOne x1 x2).1.live = s.live ∧ (s.popOne x1 x2).1.whoa = s.whoa ∧ (s.popOne x1 x2).1.chip = s.chip ∧
      (s.popOne x1 x2).1.tack = s.tack ∧ (s.popOne x1 x2).1.recd = s.recd ∧ (s.popOne x1 x2).1.net = s.net ∧
      (s.popOne x1 x2).1.tim = s.tim ∧ (s.popOne x1 x2).1.gnb = s.gnb ∧ (s.popOne x1 x2).1.gait = s.gait ∧ (s.popOne
      x1 x2).1.pad = s.pad ∧ (s.popOne x1 x2).1.fix = s.fix ∧ (s.popOne x1 x2).1.air = s.air ∧ (s.popOne x1
      x2).1.byl = s.byl := by
  unfold State.popOne
  try simp
  all_goals (repeat' split) <;> simp_all

@[simp] theorem State.recWord_frame (s : State) (x1 : Nat) (x2 : QWord) :
    (s.recWord x1 x2).pending = s.pending ∧ (s.recWord x1 x2).cyc = s.cyc ∧ (s.recWord x1 x2).hostMem = s.hostMem ∧
      (s.recWord x1 x2).live = s.live ∧ (s.recWord x1 x2).whoa = s.whoa ∧ (s.recWord x1 x2).chip = s.chip ∧
      (s.recWord x1 x2).tack = s.tack ∧ (s.recWord x1 x2).net = s.net ∧ (s.recWord x1 x2).tim = s.tim ∧ (s.recWord
      x1 x2).gnb = s.gnb ∧ (s.recWord x1 x2).gait = s.gait ∧ (s.recWord x1 x2).pad = s.pad ∧ (s.recWord x1 x2).fix =
      s.fix ∧ (s.recWord x1 x2).air = s.air ∧ (s.recWord x1 x2).byl = s.byl := by
  unfold State.recWord
  try simp
  all_goals (repeat' split) <;> simp_all

@[simp] theorem State.popTo_frame (s : State) (x1 : Nat) (x2 : Bool) (x3 : Option Nat) :
    (s.popTo x1 x2 x3).pending = s.pending ∧ (s.popTo x1 x2 x3).cyc = s.cyc ∧ (s.popTo x1 x2 x3).hostMem = s.hostMem := by
  simp only [State.popTo]
  (repeat' split) <;> simp

@[simp] theorem State.watchLevel_frame (s : State) (x1 : Nat) (x2 : Nat) (x3 : Int) (x4 : Int) :
    (s.watchLevel x1 x2 x3 x4).pending = s.pending ∧ (s.watchLevel x1 x2 x3 x4).cyc = s.cyc ∧ (s.watchLevel x1 x2 x3
      x4).hostMem = s.hostMem ∧ (s.watchLevel x1 x2 x3 x4).live = s.live ∧ (s.watchLevel x1 x2 x3 x4).whoa = s.whoa
      ∧ (s.watchLevel x1 x2 x3 x4).chip = s.chip ∧ (s.watchLevel x1 x2 x3 x4).tack = s.tack ∧ (s.watchLevel x1 x2 x3
      x4).net = s.net ∧ (s.watchLevel x1 x2 x3 x4).tim = s.tim ∧ (s.watchLevel x1 x2 x3 x4).gnb = s.gnb ∧
      (s.watchLevel x1 x2 x3 x4).gait = s.gait ∧ (s.watchLevel x1 x2 x3 x4).pad = s.pad ∧ (s.watchLevel x1 x2 x3
      x4).fix = s.fix ∧ (s.watchLevel x1 x2 x3 x4).air = s.air ∧ (s.watchLevel x1 x2 x3 x4).byl = s.byl := by
  unfold State.watchLevel
  try simp
  all_goals (repeat' split) <;> simp_all

@[simp] theorem State.seeSample_frame (s : State) (x1 : Nat) (x2 : Nat) (x3 : Nat) (x4 : Int) (x5 : Int) :
    (s.seeSample x1 x2 x3 x4 x5).pending = s.pending ∧ (s.seeSample x1 x2 x3 x4 x5).cyc = s.cyc ∧ (s.seeSample x1 x2
      x3 x4 x5).hostMem = s.hostMem ∧ (s.seeSample x1 x2 x3 x4 x5).live = s.live ∧ (s.seeSample x1 x2 x3 x4 x5).whoa
      = s.whoa ∧ (s.seeSample x1 x2 x3 x4 x5).chip = s.chip ∧ (s.seeSample x1 x2 x3 x4 x5).tack = s.tack ∧
      (s.seeSample x1 x2 x3 x4 x5).net = s.net ∧ (s.seeSample x1 x2 x3 x4 x5).tim = s.tim ∧ (s.seeSample x1 x2 x3 x4
      x5).gnb = s.gnb ∧ (s.seeSample x1 x2 x3 x4 x5).gait = s.gait ∧ (s.seeSample x1 x2 x3 x4 x5).pad = s.pad ∧
      (s.seeSample x1 x2 x3 x4 x5).fix = s.fix ∧ (s.seeSample x1 x2 x3 x4 x5).air = s.air ∧ (s.seeSample x1 x2 x3 x4
      x5).byl = s.byl := by
  unfold State.seeSample
  try simp
  all_goals (repeat' split) <;> simp_all

@[simp] theorem State.portSample_frame (s : State) (x1 : Nat) (x2 : List PortBit) :
    (s.portSample x1 x2).pending = s.pending ∧ (s.portSample x1 x2).cyc = s.cyc ∧ (s.portSample x1 x2).hostMem =
      s.hostMem ∧ (s.portSample x1 x2).live = s.live ∧ (s.portSample x1 x2).whoa = s.whoa ∧ (s.portSample x1
      x2).chip = s.chip ∧ (s.portSample x1 x2).tack = s.tack ∧ (s.portSample x1 x2).net = s.net ∧ (s.portSample x1
      x2).tim = s.tim ∧ (s.portSample x1 x2).gait = s.gait ∧ (s.portSample x1 x2).pad = s.pad ∧ (s.portSample x1
      x2).fix = s.fix ∧ (s.portSample x1 x2).air = s.air ∧ (s.portSample x1 x2).byl = s.byl := by
  unfold State.portSample
  try simp
  all_goals (repeat' split) <;> simp_all

@[simp] theorem State.portBit_frame (s : State) (x1 : Nat) (x2 : PortBit) :
    (s.portBit x1 x2).pending = s.pending ∧ (s.portBit x1 x2).cyc = s.cyc ∧ (s.portBit x1 x2).hostMem = s.hostMem ∧
      (s.portBit x1 x2).live = s.live ∧ (s.portBit x1 x2).whoa = s.whoa ∧ (s.portBit x1 x2).chip = s.chip ∧
      (s.portBit x1 x2).tack = s.tack ∧ (s.portBit x1 x2).net = s.net ∧ (s.portBit x1 x2).tim = s.tim ∧ (s.portBit
      x1 x2).gait = s.gait ∧ (s.portBit x1 x2).pad = s.pad ∧ (s.portBit x1 x2).fix = s.fix ∧ (s.portBit x1 x2).air =
      s.air ∧ (s.portBit x1 x2).byl = s.byl := by
  unfold State.portBit
  try simp
  all_goals (repeat' split) <;> simp_all

@[simp] theorem State.recEvent_frame (s : State) (x1 : Nat) (x2 : Nat) (x3 : Nat) :
    (s.recEvent x1 x2 x3).pending = s.pending ∧ (s.recEvent x1 x2 x3).cyc = s.cyc ∧ (s.recEvent x1 x2 x3).hostMem =
      s.hostMem ∧ (s.recEvent x1 x2 x3).live = s.live ∧ (s.recEvent x1 x2 x3).whoa = s.whoa ∧ (s.recEvent x1 x2
      x3).chip = s.chip ∧ (s.recEvent x1 x2 x3).tack = s.tack ∧ (s.recEvent x1 x2 x3).recd = s.recd ∧ (s.recEvent x1
      x2 x3).net = s.net ∧ (s.recEvent x1 x2 x3).tim = s.tim ∧ (s.recEvent x1 x2 x3).gnb = s.gnb ∧ (s.recEvent x1 x2
      x3).gait = s.gait ∧ (s.recEvent x1 x2 x3).pad = s.pad ∧ (s.recEvent x1 x2 x3).fix = s.fix ∧ (s.recEvent x1 x2
      x3).air = s.air ∧ (s.recEvent x1 x2 x3).byl = s.byl := by
  unfold State.recEvent
  try simp
  all_goals (repeat' split) <;> simp_all

@[simp] theorem State.recOverflow_frame (s : State) (x1 : Nat) :
    (s.recOverflow x1).pending = s.pending ∧ (s.recOverflow x1).cyc = s.cyc ∧ (s.recOverflow x1).hostMem = s.hostMem
      ∧ (s.recOverflow x1).live = s.live ∧ (s.recOverflow x1).whoa = s.whoa ∧ (s.recOverflow x1).chip = s.chip ∧
      (s.recOverflow x1).tack = s.tack ∧ (s.recOverflow x1).net = s.net ∧ (s.recOverflow x1).tim = s.tim ∧
      (s.recOverflow x1).gnb = s.gnb ∧ (s.recOverflow x1).gait = s.gait ∧ (s.recOverflow x1).pad = s.pad ∧
      (s.recOverflow x1).fix = s.fix ∧ (s.recOverflow x1).air = s.air ∧ (s.recOverflow x1).byl = s.byl := by
  unfold State.recOverflow
  try simp
  all_goals (repeat' split) <;> simp_all

@[simp] theorem State.pushFrom_frame (s : State) (x1 : Nat) (x2 : Nat) (x3 : QPush) :
    (s.pushFrom x1 x2 x3).pending = s.pending ∧ (s.pushFrom x1 x2 x3).cyc = s.cyc ∧ (s.pushFrom x1 x2 x3).hostMem =
      s.hostMem := by
  simp only [State.pushFrom]
  (repeat' split) <;> simp

@[simp] theorem State.produce_frame (s : State) (x1 : Nat) (x2 : Nat) (x3 : QPush) :
    (s.produce x1 x2 x3).pending = s.pending ∧ (s.produce x1 x2 x3).cyc = s.cyc ∧ (s.produce x1 x2 x3).hostMem =
      s.hostMem := by
  unfold State.produce
  (repeat' split) <;> first | (simp; done) | (have h := State.nextFormed_frame _ _ ‹_›; simp_all)

@[simp] theorem State.reach_frame (s : State) (x1 : Entry) (x2 : Stage) :
    (s.reach x1 x2).pending = s.pending ∧ (s.reach x1 x2).cyc = s.cyc ∧ (s.reach x1 x2).hostMem = s.hostMem ∧
      (s.reach x1 x2).live = s.live ∧ (s.reach x1 x2).whoa = s.whoa ∧ (s.reach x1 x2).chip = s.chip ∧ (s.reach x1
      x2).tack = s.tack ∧ (s.reach x1 x2).recd = s.recd ∧ (s.reach x1 x2).net = s.net ∧ (s.reach x1 x2).tim = s.tim
      ∧ (s.reach x1 x2).gnb = s.gnb := by
  unfold State.reach
  try simp
  all_goals (repeat' split) <;> simp_all

@[simp] theorem State.snapTime_frame (s : State) :
    (s.snapTime).pending = s.pending ∧ (s.snapTime).cyc = s.cyc ∧ (s.snapTime).hostMem = s.hostMem ∧
      (s.snapTime).live = s.live ∧ (s.snapTime).whoa = s.whoa ∧ (s.snapTime).chip = s.chip ∧ (s.snapTime).tack =
      s.tack ∧ (s.snapTime).recd = s.recd ∧ (s.snapTime).net = s.net ∧ (s.snapTime).tim = s.tim ∧ (s.snapTime).gnb =
      s.gnb ∧ (s.snapTime).gait = s.gait ∧ (s.snapTime).pad = s.pad ∧ (s.snapTime).fix = s.fix ∧ (s.snapTime).air =
      s.air ∧ (s.snapTime).byl = s.byl := by
  unfold State.snapTime
  try simp
  all_goals (repeat' split) <;> simp_all

@[simp] theorem State.readLow_frame (s : State) (x1 : Requester) (x2 : Nat) :
    (s.readLow x1 x2).pending = s.pending ∧ (s.readLow x1 x2).cyc = s.cyc ∧ (s.readLow x1 x2).hostMem = s.hostMem ∧
      (s.readLow x1 x2).live = s.live ∧ (s.readLow x1 x2).whoa = s.whoa ∧ (s.readLow x1 x2).chip = s.chip ∧
      (s.readLow x1 x2).tack = s.tack ∧ (s.readLow x1 x2).recd = s.recd ∧ (s.readLow x1 x2).net = s.net ∧ (s.readLow
      x1 x2).tim = s.tim ∧ (s.readLow x1 x2).gnb = s.gnb ∧ (s.readLow x1 x2).gait = s.gait ∧ (s.readLow x1 x2).pad =
      s.pad ∧ (s.readLow x1 x2).fix = s.fix ∧ (s.readLow x1 x2).air = s.air ∧ (s.readLow x1 x2).byl = s.byl := by
  unfold State.readLow
  try simp
  all_goals (repeat' split) <;> simp_all

@[simp] theorem State.readTherm_frame (s : State) (x1 : Nat × Int) :
    (s.readTherm x1).pending = s.pending ∧ (s.readTherm x1).cyc = s.cyc ∧ (s.readTherm x1).hostMem = s.hostMem ∧
      (s.readTherm x1).live = s.live ∧ (s.readTherm x1).whoa = s.whoa ∧ (s.readTherm x1).tack = s.tack ∧
      (s.readTherm x1).recd = s.recd ∧ (s.readTherm x1).net = s.net ∧ (s.readTherm x1).tim = s.tim ∧ (s.readTherm
      x1).gnb = s.gnb ∧ (s.readTherm x1).gait = s.gait ∧ (s.readTherm x1).pad = s.pad ∧ (s.readTherm x1).fix = s.fix
      ∧ (s.readTherm x1).air = s.air ∧ (s.readTherm x1).byl = s.byl := by
  unfold State.readTherm
  try simp
  all_goals (repeat' split) <;> simp_all

@[simp] theorem State.recSend_frame (s : State) (x1 : RecOut) :
    (s.recSend x1).pending = s.pending ∧ (s.recSend x1).cyc = s.cyc ∧ (s.recSend x1).hostMem = s.hostMem ∧
      (s.recSend x1).live = s.live ∧ (s.recSend x1).whoa = s.whoa ∧ (s.recSend x1).chip = s.chip ∧ (s.recSend
      x1).tack = s.tack ∧ (s.recSend x1).net = s.net ∧ (s.recSend x1).tim = s.tim ∧ (s.recSend x1).gnb = s.gnb ∧
      (s.recSend x1).gait = s.gait ∧ (s.recSend x1).pad = s.pad ∧ (s.recSend x1).fix = s.fix ∧ (s.recSend x1).air =
      s.air ∧ (s.recSend x1).byl = s.byl := by
  unfold State.recSend
  try simp
  all_goals (repeat' split) <;> simp_all

@[simp] theorem State.scanRecord_frame (s : State) (x1 : Nat) (x2 : LogRec) :
    (s.scanRecord x1 x2).pending = s.pending ∧ (s.scanRecord x1 x2).cyc = s.cyc ∧ (s.scanRecord x1 x2).live = s.live
      ∧ (s.scanRecord x1 x2).whoa = s.whoa ∧ (s.scanRecord x1 x2).chip = s.chip ∧ (s.scanRecord x1 x2).tack = s.tack
      ∧ (s.scanRecord x1 x2).recd = s.recd ∧ (s.scanRecord x1 x2).net = s.net ∧ (s.scanRecord x1 x2).tim = s.tim ∧
      (s.scanRecord x1 x2).gnb = s.gnb ∧ (s.scanRecord x1 x2).gait = s.gait ∧ (s.scanRecord x1 x2).pad = s.pad ∧
      (s.scanRecord x1 x2).fix = s.fix ∧ (s.scanRecord x1 x2).air = s.air ∧ (s.scanRecord x1 x2).byl = s.byl := by
  unfold State.scanRecord
  try simp
  all_goals (repeat' split) <;> simp_all

@[simp] theorem State.recoverRing_frame (s : State) (x1 : Nat) (x2 : List LogRec) :
    (s.recoverRing x1 x2).pending = s.pending ∧ (s.recoverRing x1 x2).cyc = s.cyc ∧ (s.recoverRing x1 x2).live =
      s.live ∧ (s.recoverRing x1 x2).whoa = s.whoa ∧ (s.recoverRing x1 x2).chip = s.chip ∧ (s.recoverRing x1
      x2).tack = s.tack ∧ (s.recoverRing x1 x2).recd = s.recd ∧ (s.recoverRing x1 x2).net = s.net ∧ (s.recoverRing
      x1 x2).tim = s.tim ∧ (s.recoverRing x1 x2).gnb = s.gnb ∧ (s.recoverRing x1 x2).gait = s.gait ∧ (s.recoverRing
      x1 x2).pad = s.pad ∧ (s.recoverRing x1 x2).fix = s.fix ∧ (s.recoverRing x1 x2).air = s.air ∧ (s.recoverRing x1
      x2).byl = s.byl := by
  unfold State.recoverRing
  try simp
  all_goals (repeat' split) <;> simp_all

@[simp] theorem State.release_frame (s : State) :
    (s.release).pending = s.pending ∧ (s.release).cyc = s.cyc ∧ (s.release).hostMem = s.hostMem ∧ (s.release).live =
      s.live ∧ (s.release).chip = s.chip ∧ (s.release).tack = s.tack ∧ (s.release).tim = s.tim ∧ (s.release).gnb =
      s.gnb ∧ (s.release).gait = s.gait ∧ (s.release).pad = s.pad ∧ (s.release).fix = s.fix ∧ (s.release).air =
      s.air ∧ (s.release).byl = s.byl := by
  unfold State.release
  try simp
  all_goals (repeat' split) <;> simp_all

@[simp] theorem State.releaseFront_frame (s : State) (x1 : List Entry) :
    (s.releaseFront x1).pending = s.pending ∧ (s.releaseFront x1).cyc = s.cyc ∧ (s.releaseFront x1).hostMem =
      s.hostMem ∧ (s.releaseFront x1).live = s.live ∧ (s.releaseFront x1).whoa = s.whoa ∧ (s.releaseFront x1).chip =
      s.chip ∧ (s.releaseFront x1).tack = s.tack ∧ (s.releaseFront x1).recd = s.recd ∧ (s.releaseFront x1).net =
      s.net ∧ (s.releaseFront x1).tim = s.tim ∧ (s.releaseFront x1).gnb = s.gnb ∧ (s.releaseFront x1).gait = s.gait
      ∧ (s.releaseFront x1).pad = s.pad ∧ (s.releaseFront x1).fix = s.fix ∧ (s.releaseFront x1).air = s.air ∧
      (s.releaseFront x1).byl = s.byl := by
  induction x1 generalizing s with
  | nil => simp [State.releaseFront]
  | cons a r ih => unfold State.releaseFront; (repeat' split) <;> simp_all

@[simp] theorem State.releaseToken_frame (s : State) (x1 : Bool) :
    (s.releaseToken x1).pending = s.pending ∧ (s.releaseToken x1).cyc = s.cyc ∧ (s.releaseToken x1).hostMem =
      s.hostMem ∧ (s.releaseToken x1).live = s.live ∧ (s.releaseToken x1).whoa = s.whoa ∧ (s.releaseToken x1).chip =
      s.chip ∧ (s.releaseToken x1).tack = s.tack ∧ (s.releaseToken x1).net = s.net ∧ (s.releaseToken x1).tim = s.tim
      ∧ (s.releaseToken x1).gnb = s.gnb ∧ (s.releaseToken x1).gait = s.gait ∧ (s.releaseToken x1).pad = s.pad ∧
      (s.releaseToken x1).fix = s.fix := by
  unfold State.releaseToken
  try simp
  all_goals (repeat' split) <;> simp_all

@[simp] theorem State.renewSlots_frame (s : State) (x1 : Nat) (x2 : Slot → Bool) :
    (s.renewSlots x1 x2).pending = s.pending ∧ (s.renewSlots x1 x2).cyc = s.cyc ∧ (s.renewSlots x1 x2).hostMem =
      s.hostMem ∧ (s.renewSlots x1 x2).live = s.live ∧ (s.renewSlots x1 x2).whoa = s.whoa ∧ (s.renewSlots x1
      x2).chip = s.chip ∧ (s.renewSlots x1 x2).tack = s.tack ∧ (s.renewSlots x1 x2).recd = s.recd ∧ (s.renewSlots x1
      x2).net = s.net ∧ (s.renewSlots x1 x2).tim = s.tim ∧ (s.renewSlots x1 x2).gnb = s.gnb ∧ (s.renewSlots x1
      x2).gait = s.gait ∧ (s.renewSlots x1 x2).fix = s.fix ∧ (s.renewSlots x1 x2).air = s.air ∧ (s.renewSlots x1
      x2).byl = s.byl := by
  unfold State.renewSlots
  try simp
  all_goals (repeat' split) <;> simp_all

@[simp] theorem State.renewDisc_frame (s : State) (x1 : Nat) :
    (s.renewDisc x1).pending = s.pending ∧ (s.renewDisc x1).cyc = s.cyc ∧ (s.renewDisc x1).hostMem = s.hostMem ∧
      (s.renewDisc x1).live = s.live ∧ (s.renewDisc x1).whoa = s.whoa ∧ (s.renewDisc x1).chip = s.chip ∧
      (s.renewDisc x1).tack = s.tack ∧ (s.renewDisc x1).recd = s.recd ∧ (s.renewDisc x1).net = s.net ∧ (s.renewDisc
      x1).tim = s.tim ∧ (s.renewDisc x1).gnb = s.gnb ∧ (s.renewDisc x1).gait = s.gait ∧ (s.renewDisc x1).fix = s.fix
      ∧ (s.renewDisc x1).air = s.air ∧ (s.renewDisc x1).byl = s.byl := by
  unfold State.renewDisc
  try simp
  all_goals (repeat' split) <;> simp_all

@[simp] theorem State.renewPark_frame (s : State) (x1 : Nat) :
    (s.renewPark x1).pending = s.pending ∧ (s.renewPark x1).cyc = s.cyc ∧ (s.renewPark x1).hostMem = s.hostMem ∧
      (s.renewPark x1).live = s.live ∧ (s.renewPark x1).whoa = s.whoa ∧ (s.renewPark x1).chip = s.chip ∧
      (s.renewPark x1).tack = s.tack ∧ (s.renewPark x1).recd = s.recd ∧ (s.renewPark x1).net = s.net ∧ (s.renewPark
      x1).tim = s.tim ∧ (s.renewPark x1).gnb = s.gnb ∧ (s.renewPark x1).gait = s.gait ∧ (s.renewPark x1).fix = s.fix
      ∧ (s.renewPark x1).air = s.air ∧ (s.renewPark x1).byl = s.byl := by
  unfold State.renewPark
  try simp
  all_goals (repeat' split) <;> simp_all

@[simp] theorem State.toSweep_frame (s : State) (x1 : Item) (x2 : GaitCtx) (x3 : Aim) (x4 : Kin) (x5 : Nat) (x6 :
    Int) (x7 : Int) (x8 : Int) (x9 : List Knot) (x10 : Bool) :
    (s.toSweep x1 x2 x3 x4 x5 x6 x7 x8 x9 x10).pending = s.pending ∧ (s.toSweep x1 x2 x3 x4 x5 x6 x7 x8 x9 x10).cyc
      = s.cyc ∧ (s.toSweep x1 x2 x3 x4 x5 x6 x7 x8 x9 x10).hostMem = s.hostMem ∧ (s.toSweep x1 x2 x3 x4 x5 x6 x7 x8
      x9 x10).live = s.live ∧ (s.toSweep x1 x2 x3 x4 x5 x6 x7 x8 x9 x10).whoa = s.whoa ∧ (s.toSweep x1 x2 x3 x4 x5
      x6 x7 x8 x9 x10).chip = s.chip ∧ (s.toSweep x1 x2 x3 x4 x5 x6 x7 x8 x9 x10).tack = s.tack ∧ (s.toSweep x1 x2
      x3 x4 x5 x6 x7 x8 x9 x10).recd = s.recd ∧ (s.toSweep x1 x2 x3 x4 x5 x6 x7 x8 x9 x10).net = s.net ∧ (s.toSweep
      x1 x2 x3 x4 x5 x6 x7 x8 x9 x10).tim = s.tim ∧ (s.toSweep x1 x2 x3 x4 x5 x6 x7 x8 x9 x10).gnb = s.gnb ∧
      (s.toSweep x1 x2 x3 x4 x5 x6 x7 x8 x9 x10).pad = s.pad ∧ (s.toSweep x1 x2 x3 x4 x5 x6 x7 x8 x9 x10).fix =
      s.fix ∧ (s.toSweep x1 x2 x3 x4 x5 x6 x7 x8 x9 x10).air = s.air ∧ (s.toSweep x1 x2 x3 x4 x5 x6 x7 x8 x9
      x10).byl = s.byl := by
  unfold State.toSweep
  try simp
  all_goals (repeat' split) <;> simp_all

@[simp] theorem State.replan_frame (s : State) (x1 : Item) (x2 : GaitCtx) (x3 : Aim) (x4 : Limits) (x5 : Int) (x6 :
    Launch) :
    (s.replan x1 x2 x3 x4 x5 x6).pending = s.pending ∧ (s.replan x1 x2 x3 x4 x5 x6).cyc = s.cyc ∧ (s.replan x1 x2 x3
      x4 x5 x6).hostMem = s.hostMem ∧ (s.replan x1 x2 x3 x4 x5 x6).live = s.live ∧ (s.replan x1 x2 x3 x4 x5 x6).whoa
      = s.whoa ∧ (s.replan x1 x2 x3 x4 x5 x6).chip = s.chip ∧ (s.replan x1 x2 x3 x4 x5 x6).tack = s.tack ∧ (s.replan
      x1 x2 x3 x4 x5 x6).recd = s.recd ∧ (s.replan x1 x2 x3 x4 x5 x6).net = s.net ∧ (s.replan x1 x2 x3 x4 x5 x6).tim
      = s.tim ∧ (s.replan x1 x2 x3 x4 x5 x6).gnb = s.gnb ∧ (s.replan x1 x2 x3 x4 x5 x6).pad = s.pad ∧ (s.replan x1
      x2 x3 x4 x5 x6).air = s.air ∧ (s.replan x1 x2 x3 x4 x5 x6).byl = s.byl := by
  unfold State.replan
  try simp
  all_goals (repeat' split) <;> simp_all

@[simp] theorem State.replanDatum_frame (s : State) (x1 : Item) (x2 : FixRec) (x3 : Aim) (x4 : Limits) (x5 : Int)
    (x6 : Launch) :
    (s.replanDatum x1 x2 x3 x4 x5 x6).pending = s.pending ∧ (s.replanDatum x1 x2 x3 x4 x5 x6).cyc = s.cyc ∧
      (s.replanDatum x1 x2 x3 x4 x5 x6).hostMem = s.hostMem ∧ (s.replanDatum x1 x2 x3 x4 x5 x6).live = s.live ∧
      (s.replanDatum x1 x2 x3 x4 x5 x6).whoa = s.whoa ∧ (s.replanDatum x1 x2 x3 x4 x5 x6).chip = s.chip ∧
      (s.replanDatum x1 x2 x3 x4 x5 x6).tack = s.tack ∧ (s.replanDatum x1 x2 x3 x4 x5 x6).recd = s.recd ∧
      (s.replanDatum x1 x2 x3 x4 x5 x6).net = s.net ∧ (s.replanDatum x1 x2 x3 x4 x5 x6).tim = s.tim ∧ (s.replanDatum
      x1 x2 x3 x4 x5 x6).gnb = s.gnb ∧ (s.replanDatum x1 x2 x3 x4 x5 x6).pad = s.pad ∧ (s.replanDatum x1 x2 x3 x4 x5
      x6).air = s.air ∧ (s.replanDatum x1 x2 x3 x4 x5 x6).byl = s.byl := by
  simp only [State.replanDatum]
  split <;> simp

@[simp] theorem State.replanFrom_frame (s : State) (x1 : Item) (x2 : FixRec) :
    (s.replanFrom x1 x2).pending = s.pending ∧ (s.replanFrom x1 x2).cyc = s.cyc ∧ (s.replanFrom x1 x2).hostMem =
      s.hostMem ∧ (s.replanFrom x1 x2).live = s.live ∧ (s.replanFrom x1 x2).whoa = s.whoa ∧ (s.replanFrom x1
      x2).chip = s.chip ∧ (s.replanFrom x1 x2).tack = s.tack ∧ (s.replanFrom x1 x2).recd = s.recd ∧ (s.replanFrom x1
      x2).net = s.net ∧ (s.replanFrom x1 x2).tim = s.tim ∧ (s.replanFrom x1 x2).gnb = s.gnb ∧ (s.replanFrom x1
      x2).pad = s.pad ∧ (s.replanFrom x1 x2).air = s.air ∧ (s.replanFrom x1 x2).byl = s.byl := by
  simp only [State.replanFrom]
  (repeat' split) <;> simp

@[simp] theorem State.reportTouches_frame (s : State) (x1 : Nat) :
    (s.reportTouches x1).pending = s.pending ∧ (s.reportTouches x1).cyc = s.cyc ∧ (s.reportTouches x1).hostMem =
      s.hostMem ∧ (s.reportTouches x1).live = s.live ∧ (s.reportTouches x1).chip = s.chip ∧ (s.reportTouches
      x1).tack = s.tack ∧ (s.reportTouches x1).recd = s.recd ∧ (s.reportTouches x1).net = s.net ∧ (s.reportTouches
      x1).tim = s.tim ∧ (s.reportTouches x1).gnb = s.gnb ∧ (s.reportTouches x1).gait = s.gait ∧ (s.reportTouches
      x1).pad = s.pad ∧ (s.reportTouches x1).fix = s.fix ∧ (s.reportTouches x1).air = s.air ∧ (s.reportTouches
      x1).byl = s.byl := by
  unfold State.reportTouches
  try simp
  all_goals (repeat' split) <;> simp_all

@[simp] theorem State.resumeLong_frame (s : State) (x1 : LongOp) (x2 : Item) :
    (s.resumeLong x1 x2).pending = s.pending ∧ (s.resumeLong x1 x2).cyc = s.cyc ∧ (s.resumeLong x1 x2).hostMem =
      s.hostMem ∧ (s.resumeLong x1 x2).live = s.live ∧ (s.resumeLong x1 x2).whoa = s.whoa ∧ (s.resumeLong x1
      x2).chip = s.chip ∧ (s.resumeLong x1 x2).recd = s.recd ∧ (s.resumeLong x1 x2).net = s.net ∧ (s.resumeLong x1
      x2).tim = s.tim ∧ (s.resumeLong x1 x2).gait = s.gait ∧ (s.resumeLong x1 x2).pad = s.pad ∧ (s.resumeLong x1
      x2).fix = s.fix ∧ (s.resumeLong x1 x2).air = s.air ∧ (s.resumeLong x1 x2).byl = s.byl := by
  unfold State.resumeLong
  try simp
  all_goals (repeat' split) <;> simp_all

@[simp] theorem State.revokeSlot_frame (s : State) (x1 : Nat) :
    (s.revokeSlot x1).pending = s.pending ∧ (s.revokeSlot x1).cyc = s.cyc ∧ (s.revokeSlot x1).hostMem = s.hostMem ∧
      (s.revokeSlot x1).live = s.live ∧ (s.revokeSlot x1).whoa = s.whoa ∧ (s.revokeSlot x1).chip = s.chip ∧
      (s.revokeSlot x1).recd = s.recd ∧ (s.revokeSlot x1).net = s.net ∧ (s.revokeSlot x1).tim = s.tim ∧
      (s.revokeSlot x1).gnb = s.gnb ∧ (s.revokeSlot x1).gait = s.gait ∧ (s.revokeSlot x1).pad = s.pad ∧
      (s.revokeSlot x1).fix = s.fix ∧ (s.revokeSlot x1).air = s.air ∧ (s.revokeSlot x1).byl = s.byl := by
  unfold State.revokeSlot
  try simp
  all_goals (repeat' split) <;> simp_all

@[simp] theorem State.revokeKey_frame (s : State) (x1 : Item) (x2 : Nat) :
    (s.revokeKey x1 x2).pending = s.pending ∧ (s.revokeKey x1 x2).cyc = s.cyc ∧ (s.revokeKey x1 x2).hostMem =
      s.hostMem ∧ (s.revokeKey x1 x2).live = s.live ∧ (s.revokeKey x1 x2).whoa = s.whoa ∧ (s.revokeKey x1 x2).chip =
      s.chip ∧ (s.revokeKey x1 x2).recd = s.recd ∧ (s.revokeKey x1 x2).net = s.net ∧ (s.revokeKey x1 x2).tim = s.tim
      ∧ (s.revokeKey x1 x2).gnb = s.gnb ∧ (s.revokeKey x1 x2).gait = s.gait ∧ (s.revokeKey x1 x2).pad = s.pad ∧
      (s.revokeKey x1 x2).fix = s.fix ∧ (s.revokeKey x1 x2).air = s.air ∧ (s.revokeKey x1 x2).byl = s.byl := by
  unfold State.revokeKey
  try simp
  all_goals (repeat' split) <;> simp_all

@[simp] theorem State.rtcmIn_frame (s : State) (x1 : List Sys2Proof.Byte) :
    (s.rtcmIn x1).1.pending = s.pending ∧ (s.rtcmIn x1).1.cyc = s.cyc ∧ (s.rtcmIn x1).1.hostMem = s.hostMem ∧
      (s.rtcmIn x1).1.live = s.live ∧ (s.rtcmIn x1).1.whoa = s.whoa ∧ (s.rtcmIn x1).1.chip = s.chip ∧ (s.rtcmIn
      x1).1.tack = s.tack ∧ (s.rtcmIn x1).1.recd = s.recd ∧ (s.rtcmIn x1).1.net = s.net ∧ (s.rtcmIn x1).1.tim =
      s.tim ∧ (s.rtcmIn x1).1.gnb = s.gnb ∧ (s.rtcmIn x1).1.gait = s.gait ∧ (s.rtcmIn x1).1.pad = s.pad ∧ (s.rtcmIn
      x1).1.air = s.air ∧ (s.rtcmIn x1).1.byl = s.byl := by
  unfold State.rtcmIn
  try simp
  all_goals (repeat' split) <;> simp_all

@[simp] theorem State.rtcmIns_frame (s : State) (x1 : List (List Sys2Proof.Byte)) :
    (s.rtcmIns x1).1.pending = s.pending ∧ (s.rtcmIns x1).1.cyc = s.cyc ∧ (s.rtcmIns x1).1.hostMem = s.hostMem ∧
      (s.rtcmIns x1).1.live = s.live ∧ (s.rtcmIns x1).1.whoa = s.whoa ∧ (s.rtcmIns x1).1.chip = s.chip ∧ (s.rtcmIns
      x1).1.tack = s.tack ∧ (s.rtcmIns x1).1.recd = s.recd ∧ (s.rtcmIns x1).1.net = s.net ∧ (s.rtcmIns x1).1.tim =
      s.tim ∧ (s.rtcmIns x1).1.gnb = s.gnb ∧ (s.rtcmIns x1).1.gait = s.gait ∧ (s.rtcmIns x1).1.pad = s.pad ∧
      (s.rtcmIns x1).1.air = s.air ∧ (s.rtcmIns x1).1.byl = s.byl := by
  unfold State.rtcmIns
  try simp
  all_goals (repeat' split) <;> simp_all

@[simp] theorem State.runOpWith_pending (s : State) (x1 : Nat) (x2 : Item) (x3 : Checks) (x4 : State → Item → State)
    (x5 : State → Item → State) (h4 : ∀ y0 y1 r, x4 y0 y1 = r → r.pending = y0.pending) (h5 : ∀ y0 y1 r, x5 y0 y1 =
    r → r.pending = y0.pending) :
    (s.runOpWith x1 x2 x3 x4 x5).pending = s.pending := by
  unfold State.runOpWith
  (repeat' split) <;> (try simp_all)

@[simp] theorem State.runOpWith_cyc (s : State) (x1 : Nat) (x2 : Item) (x3 : Checks) (x4 : State → Item → State) (x5
    : State → Item → State) (h4 : ∀ y0 y1 r, x4 y0 y1 = r → r.cyc = y0.cyc) (h5 : ∀ y0 y1 r, x5 y0 y1 = r → r.cyc =
    y0.cyc) :
    (s.runOpWith x1 x2 x3 x4 x5).cyc = s.cyc := by
  unfold State.runOpWith
  (repeat' split) <;> (try simp_all)

@[simp] theorem State.runOpWith_hostMem (s : State) (x1 : Nat) (x2 : Item) (x3 : Checks) (x4 : State → Item → State)
    (x5 : State → Item → State) (h4 : ∀ y0 y1 r, x4 y0 y1 = r → r.hostMem = y0.hostMem) (h5 : ∀ y0 y1 r, x5 y0 y1 =
    r → r.hostMem = y0.hostMem) :
    (s.runOpWith x1 x2 x3 x4 x5).hostMem = s.hostMem := by
  unfold State.runOpWith
  (repeat' split) <;> (try simp_all)

@[simp] theorem State.runOpWith_live (s : State) (x1 : Nat) (x2 : Item) (x3 : Checks) (x4 : State → Item → State)
    (x5 : State → Item → State) (h4 : ∀ y0 y1 r, x4 y0 y1 = r → r.live = y0.live) (h5 : ∀ y0 y1 r, x5 y0 y1 = r →
    r.live = y0.live) :
    (s.runOpWith x1 x2 x3 x4 x5).live = s.live := by
  unfold State.runOpWith
  (repeat' split) <;> (try simp_all)

@[simp] theorem State.runOpWith_whoa (s : State) (x1 : Nat) (x2 : Item) (x3 : Checks) (x4 : State → Item → State)
    (x5 : State → Item → State) (h4 : ∀ y0 y1 r, x4 y0 y1 = r → r.whoa = y0.whoa) (h5 : ∀ y0 y1 r, x5 y0 y1 = r →
    r.whoa = y0.whoa) :
    (s.runOpWith x1 x2 x3 x4 x5).whoa = s.whoa := by
  unfold State.runOpWith
  (repeat' split) <;> (try simp_all)

@[simp] theorem State.runOpWith_chip (s : State) (x1 : Nat) (x2 : Item) (x3 : Checks) (x4 : State → Item → State)
    (x5 : State → Item → State) (h4 : ∀ y0 y1 r, x4 y0 y1 = r → r.chip = y0.chip) (h5 : ∀ y0 y1 r, x5 y0 y1 = r →
    r.chip = y0.chip) :
    (s.runOpWith x1 x2 x3 x4 x5).chip = s.chip := by
  unfold State.runOpWith
  (repeat' split) <;> (try simp_all)

@[simp] theorem State.runOpWith_tack (s : State) (x1 : Nat) (x2 : Item) (x3 : Checks) (x4 : State → Item → State)
    (x5 : State → Item → State) (h4 : ∀ y0 y1 r, x4 y0 y1 = r → r.tack = y0.tack) (h5 : ∀ y0 y1 r, x5 y0 y1 = r →
    r.tack = y0.tack) :
    (s.runOpWith x1 x2 x3 x4 x5).tack = s.tack := by
  unfold State.runOpWith
  (repeat' split) <;> (try simp_all)

@[simp] theorem State.runOpWith_recd (s : State) (x1 : Nat) (x2 : Item) (x3 : Checks) (x4 : State → Item → State)
    (x5 : State → Item → State) (h4 : ∀ y0 y1 r, x4 y0 y1 = r → r.recd = y0.recd) (h5 : ∀ y0 y1 r, x5 y0 y1 = r →
    r.recd = y0.recd) :
    (s.runOpWith x1 x2 x3 x4 x5).recd = s.recd := by
  unfold State.runOpWith
  (repeat' split) <;> (try simp_all)

@[simp] theorem State.runOpWith_net (s : State) (x1 : Nat) (x2 : Item) (x3 : Checks) (x4 : State → Item → State) (x5
    : State → Item → State) (h4 : ∀ y0 y1 r, x4 y0 y1 = r → r.net = y0.net) (h5 : ∀ y0 y1 r, x5 y0 y1 = r → r.net =
    y0.net) :
    (s.runOpWith x1 x2 x3 x4 x5).net = s.net := by
  unfold State.runOpWith
  (repeat' split) <;> (try simp_all)

@[simp] theorem State.runOpWith_tim (s : State) (x1 : Nat) (x2 : Item) (x3 : Checks) (x4 : State → Item → State) (x5
    : State → Item → State) (h4 : ∀ y0 y1 r, x4 y0 y1 = r → r.tim = y0.tim) (h5 : ∀ y0 y1 r, x5 y0 y1 = r → r.tim =
    y0.tim) :
    (s.runOpWith x1 x2 x3 x4 x5).tim = s.tim := by
  unfold State.runOpWith
  (repeat' split) <;> (try simp_all)

@[simp] theorem State.runOpWith_gnb (s : State) (x1 : Nat) (x2 : Item) (x3 : Checks) (x4 : State → Item → State) (x5
    : State → Item → State) (h4 : ∀ y0 y1 r, x4 y0 y1 = r → r.gnb = y0.gnb) (h5 : ∀ y0 y1 r, x5 y0 y1 = r → r.gnb =
    y0.gnb) :
    (s.runOpWith x1 x2 x3 x4 x5).gnb = s.gnb := by
  unfold State.runOpWith
  (repeat' split) <;> (try simp_all)

@[simp] theorem State.runOpWith_gait (s : State) (x1 : Nat) (x2 : Item) (x3 : Checks) (x4 : State → Item → State)
    (x5 : State → Item → State) (h4 : ∀ y0 y1 r, x4 y0 y1 = r → r.gait = y0.gait) (h5 : ∀ y0 y1 r, x5 y0 y1 = r →
    r.gait = y0.gait) :
    (s.runOpWith x1 x2 x3 x4 x5).gait = s.gait := by
  unfold State.runOpWith
  (repeat' split) <;> (try simp_all)

@[simp] theorem State.runOpWith_pad (s : State) (x1 : Nat) (x2 : Item) (x3 : Checks) (x4 : State → Item → State) (x5
    : State → Item → State) (h4 : ∀ y0 y1 r, x4 y0 y1 = r → r.pad = y0.pad) (h5 : ∀ y0 y1 r, x5 y0 y1 = r → r.pad =
    y0.pad) :
    (s.runOpWith x1 x2 x3 x4 x5).pad = s.pad := by
  unfold State.runOpWith
  (repeat' split) <;> (try simp_all)

@[simp] theorem State.runOpWith_fix (s : State) (x1 : Nat) (x2 : Item) (x3 : Checks) (x4 : State → Item → State) (x5
    : State → Item → State) (h4 : ∀ y0 y1 r, x4 y0 y1 = r → r.fix = y0.fix) (h5 : ∀ y0 y1 r, x5 y0 y1 = r → r.fix =
    y0.fix) :
    (s.runOpWith x1 x2 x3 x4 x5).fix = s.fix := by
  unfold State.runOpWith
  (repeat' split) <;> (try simp_all)

@[simp] theorem State.runOpWith_air (s : State) (x1 : Nat) (x2 : Item) (x3 : Checks) (x4 : State → Item → State) (x5
    : State → Item → State) (h4 : ∀ y0 y1 r, x4 y0 y1 = r → r.air = y0.air) (h5 : ∀ y0 y1 r, x5 y0 y1 = r → r.air =
    y0.air) :
    (s.runOpWith x1 x2 x3 x4 x5).air = s.air := by
  unfold State.runOpWith
  (repeat' split) <;> (try simp_all)

@[simp] theorem State.runOpWith_byl (s : State) (x1 : Nat) (x2 : Item) (x3 : Checks) (x4 : State → Item → State) (x5
    : State → Item → State) (h4 : ∀ y0 y1 r, x4 y0 y1 = r → r.byl = y0.byl) (h5 : ∀ y0 y1 r, x5 y0 y1 = r → r.byl =
    y0.byl) :
    (s.runOpWith x1 x2 x3 x4 x5).byl = s.byl := by
  unfold State.runOpWith
  (repeat' split) <;> (try simp_all)

@[simp] theorem State.runOp_pending (s : State) (x1 : Nat) (x2 : Item) (x3 : Item → Sys2Proof.Instr) (x4 : Checks)
    (x5 : State → Item → State) (h5 : ∀ y0 y1 r, x5 y0 y1 = r → r.pending = y0.pending) :
    (s.runOp x1 x2 x3 x4 x5).pending = s.pending := by
  unfold State.runOp
  (repeat' split) <;> (try simp_all)

@[simp] theorem State.runOp_cyc (s : State) (x1 : Nat) (x2 : Item) (x3 : Item → Sys2Proof.Instr) (x4 : Checks) (x5 :
    State → Item → State) (h5 : ∀ y0 y1 r, x5 y0 y1 = r → r.cyc = y0.cyc) :
    (s.runOp x1 x2 x3 x4 x5).cyc = s.cyc := by
  unfold State.runOp
  (repeat' split) <;> (try simp_all)

@[simp] theorem State.runOp_hostMem (s : State) (x1 : Nat) (x2 : Item) (x3 : Item → Sys2Proof.Instr) (x4 : Checks)
    (x5 : State → Item → State) (h5 : ∀ y0 y1 r, x5 y0 y1 = r → r.hostMem = y0.hostMem) :
    (s.runOp x1 x2 x3 x4 x5).hostMem = s.hostMem := by
  unfold State.runOp
  (repeat' split) <;> (try simp_all)

@[simp] theorem State.runOp_live (s : State) (x1 : Nat) (x2 : Item) (x3 : Item → Sys2Proof.Instr) (x4 : Checks) (x5
    : State → Item → State) (h5 : ∀ y0 y1 r, x5 y0 y1 = r → r.live = y0.live) :
    (s.runOp x1 x2 x3 x4 x5).live = s.live := by
  unfold State.runOp
  (repeat' split) <;> (try simp_all)

@[simp] theorem State.runOp_whoa (s : State) (x1 : Nat) (x2 : Item) (x3 : Item → Sys2Proof.Instr) (x4 : Checks) (x5
    : State → Item → State) (h5 : ∀ y0 y1 r, x5 y0 y1 = r → r.whoa = y0.whoa) :
    (s.runOp x1 x2 x3 x4 x5).whoa = s.whoa := by
  unfold State.runOp
  (repeat' split) <;> (try simp_all)

@[simp] theorem State.runOp_chip (s : State) (x1 : Nat) (x2 : Item) (x3 : Item → Sys2Proof.Instr) (x4 : Checks) (x5
    : State → Item → State) (h5 : ∀ y0 y1 r, x5 y0 y1 = r → r.chip = y0.chip) :
    (s.runOp x1 x2 x3 x4 x5).chip = s.chip := by
  unfold State.runOp
  (repeat' split) <;> (try simp_all)

@[simp] theorem State.runOp_tack (s : State) (x1 : Nat) (x2 : Item) (x3 : Item → Sys2Proof.Instr) (x4 : Checks) (x5
    : State → Item → State) (h5 : ∀ y0 y1 r, x5 y0 y1 = r → r.tack = y0.tack) :
    (s.runOp x1 x2 x3 x4 x5).tack = s.tack := by
  unfold State.runOp
  (repeat' split) <;> (try simp_all)

@[simp] theorem State.runOp_recd (s : State) (x1 : Nat) (x2 : Item) (x3 : Item → Sys2Proof.Instr) (x4 : Checks) (x5
    : State → Item → State) (h5 : ∀ y0 y1 r, x5 y0 y1 = r → r.recd = y0.recd) :
    (s.runOp x1 x2 x3 x4 x5).recd = s.recd := by
  unfold State.runOp
  (repeat' split) <;> (try simp_all)

@[simp] theorem State.runOp_net (s : State) (x1 : Nat) (x2 : Item) (x3 : Item → Sys2Proof.Instr) (x4 : Checks) (x5 :
    State → Item → State) (h5 : ∀ y0 y1 r, x5 y0 y1 = r → r.net = y0.net) :
    (s.runOp x1 x2 x3 x4 x5).net = s.net := by
  unfold State.runOp
  (repeat' split) <;> (try simp_all)

@[simp] theorem State.runOp_tim (s : State) (x1 : Nat) (x2 : Item) (x3 : Item → Sys2Proof.Instr) (x4 : Checks) (x5 :
    State → Item → State) (h5 : ∀ y0 y1 r, x5 y0 y1 = r → r.tim = y0.tim) :
    (s.runOp x1 x2 x3 x4 x5).tim = s.tim := by
  unfold State.runOp
  (repeat' split) <;> (try simp_all)

@[simp] theorem State.runOp_gnb (s : State) (x1 : Nat) (x2 : Item) (x3 : Item → Sys2Proof.Instr) (x4 : Checks) (x5 :
    State → Item → State) (h5 : ∀ y0 y1 r, x5 y0 y1 = r → r.gnb = y0.gnb) :
    (s.runOp x1 x2 x3 x4 x5).gnb = s.gnb := by
  unfold State.runOp
  (repeat' split) <;> (try simp_all)

@[simp] theorem State.runOp_gait (s : State) (x1 : Nat) (x2 : Item) (x3 : Item → Sys2Proof.Instr) (x4 : Checks) (x5
    : State → Item → State) (h5 : ∀ y0 y1 r, x5 y0 y1 = r → r.gait = y0.gait) :
    (s.runOp x1 x2 x3 x4 x5).gait = s.gait := by
  unfold State.runOp
  (repeat' split) <;> (try simp_all)

@[simp] theorem State.runOp_pad (s : State) (x1 : Nat) (x2 : Item) (x3 : Item → Sys2Proof.Instr) (x4 : Checks) (x5 :
    State → Item → State) (h5 : ∀ y0 y1 r, x5 y0 y1 = r → r.pad = y0.pad) :
    (s.runOp x1 x2 x3 x4 x5).pad = s.pad := by
  unfold State.runOp
  (repeat' split) <;> (try simp_all)

@[simp] theorem State.runOp_fix (s : State) (x1 : Nat) (x2 : Item) (x3 : Item → Sys2Proof.Instr) (x4 : Checks) (x5 :
    State → Item → State) (h5 : ∀ y0 y1 r, x5 y0 y1 = r → r.fix = y0.fix) :
    (s.runOp x1 x2 x3 x4 x5).fix = s.fix := by
  unfold State.runOp
  (repeat' split) <;> (try simp_all)

@[simp] theorem State.runOp_air (s : State) (x1 : Nat) (x2 : Item) (x3 : Item → Sys2Proof.Instr) (x4 : Checks) (x5 :
    State → Item → State) (h5 : ∀ y0 y1 r, x5 y0 y1 = r → r.air = y0.air) :
    (s.runOp x1 x2 x3 x4 x5).air = s.air := by
  unfold State.runOp
  (repeat' split) <;> (try simp_all)

@[simp] theorem State.runOp_byl (s : State) (x1 : Nat) (x2 : Item) (x3 : Item → Sys2Proof.Instr) (x4 : Checks) (x5 :
    State → Item → State) (h5 : ∀ y0 y1 r, x5 y0 y1 = r → r.byl = y0.byl) :
    (s.runOp x1 x2 x3 x4 x5).byl = s.byl := by
  unfold State.runOp
  (repeat' split) <;> (try simp_all)

@[simp] theorem State.runRenewal_frame (s : State) (x1 : Nat) :
    (s.runRenewal x1).pending = s.pending ∧ (s.runRenewal x1).cyc = s.cyc ∧ (s.runRenewal x1).hostMem = s.hostMem ∧
      (s.runRenewal x1).live = s.live ∧ (s.runRenewal x1).whoa = s.whoa ∧ (s.runRenewal x1).chip = s.chip ∧
      (s.runRenewal x1).tack = s.tack ∧ (s.runRenewal x1).recd = s.recd ∧ (s.runRenewal x1).net = s.net ∧
      (s.runRenewal x1).tim = s.tim ∧ (s.runRenewal x1).gnb = s.gnb ∧ (s.runRenewal x1).gait = s.gait ∧
      (s.runRenewal x1).fix = s.fix ∧ (s.runRenewal x1).air = s.air := by
  unfold State.runRenewal
  try simp
  all_goals (repeat' split) <;> simp_all

@[simp] theorem State.sample_frame (s : State) (x1 : Nat) (x2 : Int) :
    (s.sample x1 x2).pending = s.pending ∧ (s.sample x1 x2).cyc = s.cyc ∧ (s.sample x1 x2).hostMem = s.hostMem ∧
      (s.sample x1 x2).live = s.live ∧ (s.sample x1 x2).whoa = s.whoa ∧ (s.sample x1 x2).chip = s.chip ∧ (s.sample
      x1 x2).tack = s.tack ∧ (s.sample x1 x2).recd = s.recd ∧ (s.sample x1 x2).net = s.net ∧ (s.sample x1 x2).gnb =
      s.gnb ∧ (s.sample x1 x2).gait = s.gait ∧ (s.sample x1 x2).pad = s.pad ∧ (s.sample x1 x2).fix = s.fix ∧
      (s.sample x1 x2).air = s.air ∧ (s.sample x1 x2).byl = s.byl := by
  unfold State.sample
  try simp
  all_goals (repeat' split) <;> simp_all

@[simp] theorem State.search_frame (s : State) (x1 : Solving) (x2 : List Attempt) :
    (s.search x1 x2).pending = s.pending ∧ (s.search x1 x2).cyc = s.cyc ∧ (s.search x1 x2).live = s.live ∧ (s.search
      x1 x2).whoa = s.whoa ∧ (s.search x1 x2).chip = s.chip ∧ (s.search x1 x2).tack = s.tack ∧ (s.search x1 x2).recd
      = s.recd ∧ (s.search x1 x2).net = s.net ∧ (s.search x1 x2).tim = s.tim ∧ (s.search x1 x2).gnb = s.gnb ∧
      (s.search x1 x2).gait = s.gait ∧ (s.search x1 x2).pad = s.pad ∧ (s.search x1 x2).air = s.air ∧ (s.search x1
      x2).byl = s.byl := by
  unfold State.search
  try simp
  all_goals (repeat' split) <;> simp_all

@[simp] theorem State.seeFrame_frame (s : State) (x1 : Nat) (x2 : Nat) (x3 : Nat) (x4 : Bool) :
    (s.seeFrame x1 x2 x3 x4).pending = s.pending ∧ (s.seeFrame x1 x2 x3 x4).cyc = s.cyc ∧ (s.seeFrame x1 x2 x3
      x4).hostMem = s.hostMem ∧ (s.seeFrame x1 x2 x3 x4).live = s.live ∧ (s.seeFrame x1 x2 x3 x4).whoa = s.whoa ∧
      (s.seeFrame x1 x2 x3 x4).chip = s.chip ∧ (s.seeFrame x1 x2 x3 x4).tack = s.tack ∧ (s.seeFrame x1 x2 x3 x4).net
      = s.net ∧ (s.seeFrame x1 x2 x3 x4).tim = s.tim ∧ (s.seeFrame x1 x2 x3 x4).gnb = s.gnb ∧ (s.seeFrame x1 x2 x3
      x4).gait = s.gait ∧ (s.seeFrame x1 x2 x3 x4).pad = s.pad ∧ (s.seeFrame x1 x2 x3 x4).fix = s.fix ∧ (s.seeFrame
      x1 x2 x3 x4).air = s.air ∧ (s.seeFrame x1 x2 x3 x4).byl = s.byl := by
  unfold State.seeFrame
  try simp
  all_goals (repeat' split) <;> simp_all

@[simp] theorem State.seeReceived_frame (s : State) (x1 : Nat) (x2 : Packet8b) (x3 : List Opening) :
    (s.seeReceived x1 x2 x3).pending = s.pending ∧ (s.seeReceived x1 x2 x3).cyc = s.cyc ∧ (s.seeReceived x1 x2
      x3).hostMem = s.hostMem ∧ (s.seeReceived x1 x2 x3).live = s.live ∧ (s.seeReceived x1 x2 x3).whoa = s.whoa ∧
      (s.seeReceived x1 x2 x3).chip = s.chip ∧ (s.seeReceived x1 x2 x3).tack = s.tack ∧ (s.seeReceived x1 x2 x3).net
      = s.net ∧ (s.seeReceived x1 x2 x3).tim = s.tim ∧ (s.seeReceived x1 x2 x3).gnb = s.gnb ∧ (s.seeReceived x1 x2
      x3).gait = s.gait ∧ (s.seeReceived x1 x2 x3).pad = s.pad ∧ (s.seeReceived x1 x2 x3).fix = s.fix ∧
      (s.seeReceived x1 x2 x3).air = s.air ∧ (s.seeReceived x1 x2 x3).byl = s.byl := by
  simp only [State.seeReceived, State.seeFrame_frame, State.stream_frame, and_self]

@[simp] theorem State.sendHello_frame (s : State) :
    (s.sendHello).pending = s.pending ∧ (s.sendHello).cyc = s.cyc ∧ (s.sendHello).hostMem = s.hostMem ∧
      (s.sendHello).live = s.live ∧ (s.sendHello).whoa = s.whoa ∧ (s.sendHello).chip = s.chip ∧ (s.sendHello).tack =
      s.tack ∧ (s.sendHello).recd = s.recd ∧ (s.sendHello).net = s.net ∧ (s.sendHello).tim = s.tim ∧
      (s.sendHello).gnb = s.gnb ∧ (s.sendHello).gait = s.gait ∧ (s.sendHello).pad = s.pad ∧ (s.sendHello).fix =
      s.fix ∧ (s.sendHello).air = s.air := by
  unfold State.sendHello
  try simp
  all_goals (repeat' split) <;> simp_all

@[simp] theorem State.sendMarks_frame (s : State) (x1 : Nat) (x2 : Nat) (x3 : Nat) :
    (s.sendMarks x1 x2 x3).pending = s.pending ∧ (s.sendMarks x1 x2 x3).cyc = s.cyc ∧ (s.sendMarks x1 x2 x3).hostMem
      = s.hostMem ∧ (s.sendMarks x1 x2 x3).live = s.live ∧ (s.sendMarks x1 x2 x3).whoa = s.whoa ∧ (s.sendMarks x1 x2
      x3).chip = s.chip ∧ (s.sendMarks x1 x2 x3).tack = s.tack ∧ (s.sendMarks x1 x2 x3).net = s.net ∧ (s.sendMarks
      x1 x2 x3).tim = s.tim ∧ (s.sendMarks x1 x2 x3).gnb = s.gnb ∧ (s.sendMarks x1 x2 x3).gait = s.gait ∧
      (s.sendMarks x1 x2 x3).pad = s.pad ∧ (s.sendMarks x1 x2 x3).fix = s.fix ∧ (s.sendMarks x1 x2 x3).byl = s.byl := by
  unfold State.sendMarks
  try simp
  all_goals (repeat' split) <;> simp_all

@[simp] theorem State.sendTiles_frame (s : State) (x1 : List Nat) :
    (s.sendTiles x1).pending = s.pending ∧ (s.sendTiles x1).cyc = s.cyc ∧ (s.sendTiles x1).hostMem = s.hostMem ∧
      (s.sendTiles x1).live = s.live ∧ (s.sendTiles x1).whoa = s.whoa ∧ (s.sendTiles x1).chip = s.chip ∧
      (s.sendTiles x1).tack = s.tack ∧ (s.sendTiles x1).recd = s.recd ∧ (s.sendTiles x1).net = s.net ∧ (s.sendTiles
      x1).tim = s.tim ∧ (s.sendTiles x1).gnb = s.gnb ∧ (s.sendTiles x1).gait = s.gait ∧ (s.sendTiles x1).pad = s.pad
      ∧ (s.sendTiles x1).fix = s.fix ∧ (s.sendTiles x1).air = s.air := by
  unfold State.sendTiles
  try simp
  all_goals (repeat' split) <;> simp_all

@[simp] theorem State.sendWrapped_frame (s : State) (x1 : SpanOf) (x2 : Nat) (x3 : Nat) :
    (s.sendWrapped x1 x2 x3).pending = s.pending ∧ (s.sendWrapped x1 x2 x3).cyc = s.cyc ∧ (s.sendWrapped x1 x2
      x3).hostMem = s.hostMem ∧ (s.sendWrapped x1 x2 x3).live = s.live ∧ (s.sendWrapped x1 x2 x3).whoa = s.whoa ∧
      (s.sendWrapped x1 x2 x3).chip = s.chip ∧ (s.sendWrapped x1 x2 x3).net = s.net ∧ (s.sendWrapped x1 x2 x3).tim =
      s.tim ∧ (s.sendWrapped x1 x2 x3).gnb = s.gnb ∧ (s.sendWrapped x1 x2 x3).gait = s.gait ∧ (s.sendWrapped x1 x2
      x3).pad = s.pad ∧ (s.sendWrapped x1 x2 x3).fix = s.fix := by
  unfold State.sendWrapped
  try simp
  all_goals (repeat' split) <;> simp_all

@[simp] theorem State.sessOp_pending (s : State) (x1 : Item) (x2 : Item → Sys2Proof.Instr) (x3 : Bool) (x4 : Bool)
    (x5 : Bool) (x6 : State → Item → State) (h6 : ∀ y0 y1 r, x6 y0 y1 = r → r.pending = y0.pending) :
    (s.sessOp x1 x2 x3 x4 x5 x6).pending = s.pending := by
  unfold State.sessOp
  (repeat' split) <;> (try simp_all)

@[simp] theorem State.sessOp_cyc (s : State) (x1 : Item) (x2 : Item → Sys2Proof.Instr) (x3 : Bool) (x4 : Bool) (x5 :
    Bool) (x6 : State → Item → State) (h6 : ∀ y0 y1 r, x6 y0 y1 = r → r.cyc = y0.cyc) :
    (s.sessOp x1 x2 x3 x4 x5 x6).cyc = s.cyc := by
  unfold State.sessOp
  (repeat' split) <;> (try simp_all)

@[simp] theorem State.sessOp_hostMem (s : State) (x1 : Item) (x2 : Item → Sys2Proof.Instr) (x3 : Bool) (x4 : Bool)
    (x5 : Bool) (x6 : State → Item → State) (h6 : ∀ y0 y1 r, x6 y0 y1 = r → r.hostMem = y0.hostMem) :
    (s.sessOp x1 x2 x3 x4 x5 x6).hostMem = s.hostMem := by
  unfold State.sessOp
  (repeat' split) <;> (try simp_all)

@[simp] theorem State.sessOp_live (s : State) (x1 : Item) (x2 : Item → Sys2Proof.Instr) (x3 : Bool) (x4 : Bool) (x5
    : Bool) (x6 : State → Item → State) (h6 : ∀ y0 y1 r, x6 y0 y1 = r → r.live = y0.live) :
    (s.sessOp x1 x2 x3 x4 x5 x6).live = s.live := by
  unfold State.sessOp
  (repeat' split) <;> (try simp_all)

@[simp] theorem State.sessOp_whoa (s : State) (x1 : Item) (x2 : Item → Sys2Proof.Instr) (x3 : Bool) (x4 : Bool) (x5
    : Bool) (x6 : State → Item → State) (h6 : ∀ y0 y1 r, x6 y0 y1 = r → r.whoa = y0.whoa) :
    (s.sessOp x1 x2 x3 x4 x5 x6).whoa = s.whoa := by
  unfold State.sessOp
  (repeat' split) <;> (try simp_all)

@[simp] theorem State.sessOp_chip (s : State) (x1 : Item) (x2 : Item → Sys2Proof.Instr) (x3 : Bool) (x4 : Bool) (x5
    : Bool) (x6 : State → Item → State) (h6 : ∀ y0 y1 r, x6 y0 y1 = r → r.chip = y0.chip) :
    (s.sessOp x1 x2 x3 x4 x5 x6).chip = s.chip := by
  unfold State.sessOp
  (repeat' split) <;> (try simp_all)

@[simp] theorem State.sessOp_tack (s : State) (x1 : Item) (x2 : Item → Sys2Proof.Instr) (x3 : Bool) (x4 : Bool) (x5
    : Bool) (x6 : State → Item → State) (h6 : ∀ y0 y1 r, x6 y0 y1 = r → r.tack = y0.tack) :
    (s.sessOp x1 x2 x3 x4 x5 x6).tack = s.tack := by
  unfold State.sessOp
  (repeat' split) <;> (try simp_all)

@[simp] theorem State.sessOp_recd (s : State) (x1 : Item) (x2 : Item → Sys2Proof.Instr) (x3 : Bool) (x4 : Bool) (x5
    : Bool) (x6 : State → Item → State) (h6 : ∀ y0 y1 r, x6 y0 y1 = r → r.recd = y0.recd) :
    (s.sessOp x1 x2 x3 x4 x5 x6).recd = s.recd := by
  unfold State.sessOp
  (repeat' split) <;> (try simp_all)

@[simp] theorem State.sessOp_net (s : State) (x1 : Item) (x2 : Item → Sys2Proof.Instr) (x3 : Bool) (x4 : Bool) (x5 :
    Bool) (x6 : State → Item → State) (h6 : ∀ y0 y1 r, x6 y0 y1 = r → r.net = y0.net) :
    (s.sessOp x1 x2 x3 x4 x5 x6).net = s.net := by
  unfold State.sessOp
  (repeat' split) <;> (try simp_all)

@[simp] theorem State.sessOp_tim (s : State) (x1 : Item) (x2 : Item → Sys2Proof.Instr) (x3 : Bool) (x4 : Bool) (x5 :
    Bool) (x6 : State → Item → State) (h6 : ∀ y0 y1 r, x6 y0 y1 = r → r.tim = y0.tim) :
    (s.sessOp x1 x2 x3 x4 x5 x6).tim = s.tim := by
  unfold State.sessOp
  (repeat' split) <;> (try simp_all)

@[simp] theorem State.sessOp_gnb (s : State) (x1 : Item) (x2 : Item → Sys2Proof.Instr) (x3 : Bool) (x4 : Bool) (x5 :
    Bool) (x6 : State → Item → State) (h6 : ∀ y0 y1 r, x6 y0 y1 = r → r.gnb = y0.gnb) :
    (s.sessOp x1 x2 x3 x4 x5 x6).gnb = s.gnb := by
  unfold State.sessOp
  (repeat' split) <;> (try simp_all)

@[simp] theorem State.sessOp_gait (s : State) (x1 : Item) (x2 : Item → Sys2Proof.Instr) (x3 : Bool) (x4 : Bool) (x5
    : Bool) (x6 : State → Item → State) (h6 : ∀ y0 y1 r, x6 y0 y1 = r → r.gait = y0.gait) :
    (s.sessOp x1 x2 x3 x4 x5 x6).gait = s.gait := by
  unfold State.sessOp
  (repeat' split) <;> (try simp_all)

@[simp] theorem State.sessOp_pad (s : State) (x1 : Item) (x2 : Item → Sys2Proof.Instr) (x3 : Bool) (x4 : Bool) (x5 :
    Bool) (x6 : State → Item → State) (h6 : ∀ y0 y1 r, x6 y0 y1 = r → r.pad = y0.pad) :
    (s.sessOp x1 x2 x3 x4 x5 x6).pad = s.pad := by
  unfold State.sessOp
  (repeat' split) <;> (try simp_all)

@[simp] theorem State.sessOp_fix (s : State) (x1 : Item) (x2 : Item → Sys2Proof.Instr) (x3 : Bool) (x4 : Bool) (x5 :
    Bool) (x6 : State → Item → State) (h6 : ∀ y0 y1 r, x6 y0 y1 = r → r.fix = y0.fix) :
    (s.sessOp x1 x2 x3 x4 x5 x6).fix = s.fix := by
  unfold State.sessOp
  (repeat' split) <;> (try simp_all)

@[simp] theorem State.sessOp_air (s : State) (x1 : Item) (x2 : Item → Sys2Proof.Instr) (x3 : Bool) (x4 : Bool) (x5 :
    Bool) (x6 : State → Item → State) (h6 : ∀ y0 y1 r, x6 y0 y1 = r → r.air = y0.air) :
    (s.sessOp x1 x2 x3 x4 x5 x6).air = s.air := by
  unfold State.sessOp
  (repeat' split) <;> (try simp_all)

@[simp] theorem State.sessOp_byl (s : State) (x1 : Item) (x2 : Item → Sys2Proof.Instr) (x3 : Bool) (x4 : Bool) (x5 :
    Bool) (x6 : State → Item → State) (h6 : ∀ y0 y1 r, x6 y0 y1 = r → r.byl = y0.byl) :
    (s.sessOp x1 x2 x3 x4 x5 x6).byl = s.byl := by
  unfold State.sessOp
  (repeat' split) <;> (try simp_all)

@[simp] theorem State.setLevel_frame (s : State) (x1 : Nat) (x2 : Int) :
    (s.setLevel x1 x2).pending = s.pending ∧ (s.setLevel x1 x2).cyc = s.cyc ∧ (s.setLevel x1 x2).hostMem = s.hostMem := by
  unfold State.setLevel
  try simp
  all_goals (repeat' split) <;> simp_all

@[simp] theorem State.setTxq_frame (s : State) (x1 : Nat) (x2 : List TxItem) :
    (s.setTxq x1 x2).pending = s.pending ∧ (s.setTxq x1 x2).cyc = s.cyc ∧ (s.setTxq x1 x2).hostMem = s.hostMem ∧
      (s.setTxq x1 x2).live = s.live ∧ (s.setTxq x1 x2).whoa = s.whoa ∧ (s.setTxq x1 x2).chip = s.chip ∧ (s.setTxq
      x1 x2).tack = s.tack ∧ (s.setTxq x1 x2).recd = s.recd ∧ (s.setTxq x1 x2).tim = s.tim ∧ (s.setTxq x1 x2).gnb =
      s.gnb ∧ (s.setTxq x1 x2).gait = s.gait ∧ (s.setTxq x1 x2).pad = s.pad ∧ (s.setTxq x1 x2).fix = s.fix ∧
      (s.setTxq x1 x2).air = s.air ∧ (s.setTxq x1 x2).byl = s.byl := by
  unfold State.setTxq
  try simp
  all_goals (repeat' split) <;> simp_all

@[simp] theorem State.solve_frame (s : State) (x1 : Item) (x2 : ObsReport) (x3 : Option BaseItem) (x4 : FixSol) :
    (s.solve x1 x2 x3 x4).pending = s.pending ∧ (s.solve x1 x2 x3 x4).cyc = s.cyc ∧ (s.solve x1 x2 x3 x4).live =
      s.live ∧ (s.solve x1 x2 x3 x4).whoa = s.whoa ∧ (s.solve x1 x2 x3 x4).chip = s.chip ∧ (s.solve x1 x2 x3
      x4).tack = s.tack ∧ (s.solve x1 x2 x3 x4).recd = s.recd ∧ (s.solve x1 x2 x3 x4).net = s.net ∧ (s.solve x1 x2
      x3 x4).tim = s.tim ∧ (s.solve x1 x2 x3 x4).gnb = s.gnb ∧ (s.solve x1 x2 x3 x4).gait = s.gait ∧ (s.solve x1 x2
      x3 x4).pad = s.pad ∧ (s.solve x1 x2 x3 x4).air = s.air ∧ (s.solve x1 x2 x3 x4).byl = s.byl := by
  unfold State.solve
  try simp
  all_goals (repeat' split) <;> simp_all

@[simp] theorem State.stagePush_frame (s : State) (x1 : Nat) (x2 : Nat) (x3 : QPush) :
    (s.stagePush x1 x2 x3).pending = s.pending ∧ (s.stagePush x1 x2 x3).cyc = s.cyc ∧ (s.stagePush x1 x2 x3).hostMem
      = s.hostMem ∧ (s.stagePush x1 x2 x3).live = s.live ∧ (s.stagePush x1 x2 x3).whoa = s.whoa ∧ (s.stagePush x1 x2
      x3).chip = s.chip ∧ (s.stagePush x1 x2 x3).tack = s.tack ∧ (s.stagePush x1 x2 x3).recd = s.recd ∧ (s.stagePush
      x1 x2 x3).net = s.net ∧ (s.stagePush x1 x2 x3).tim = s.tim ∧ (s.stagePush x1 x2 x3).gnb = s.gnb ∧ (s.stagePush
      x1 x2 x3).gait = s.gait ∧ (s.stagePush x1 x2 x3).pad = s.pad ∧ (s.stagePush x1 x2 x3).fix = s.fix ∧
      (s.stagePush x1 x2 x3).air = s.air ∧ (s.stagePush x1 x2 x3).byl = s.byl := by
  unfold State.stagePush
  try simp
  all_goals (repeat' split) <;> simp_all

@[simp] theorem State.txDrop_frame (s : State) (x1 : Nat) (x2 : TxItem) :
    (s.txDrop x1 x2).pending = s.pending ∧ (s.txDrop x1 x2).cyc = s.cyc ∧ (s.txDrop x1 x2).hostMem = s.hostMem ∧
      (s.txDrop x1 x2).live = s.live ∧ (s.txDrop x1 x2).whoa = s.whoa ∧ (s.txDrop x1 x2).chip = s.chip ∧ (s.txDrop
      x1 x2).tack = s.tack ∧ (s.txDrop x1 x2).recd = s.recd ∧ (s.txDrop x1 x2).tim = s.tim ∧ (s.txDrop x1 x2).gnb =
      s.gnb ∧ (s.txDrop x1 x2).gait = s.gait ∧ (s.txDrop x1 x2).pad = s.pad ∧ (s.txDrop x1 x2).fix = s.fix ∧
      (s.txDrop x1 x2).air = s.air ∧ (s.txDrop x1 x2).byl = s.byl := by
  unfold State.txDrop
  try simp
  all_goals (repeat' split) <;> simp_all

@[simp] theorem State.txSend_frame (s : State) (x1 : Nat) (x2 : TxItem) (x3 : Bool) (x4 : BitVec 64) :
    (s.txSend x1 x2 x3 x4).pending = s.pending ∧ (s.txSend x1 x2 x3 x4).cyc = s.cyc ∧ (s.txSend x1 x2 x3 x4).hostMem
      = s.hostMem ∧ (s.txSend x1 x2 x3 x4).live = s.live ∧ (s.txSend x1 x2 x3 x4).whoa = s.whoa ∧ (s.txSend x1 x2 x3
      x4).chip = s.chip ∧ (s.txSend x1 x2 x3 x4).tack = s.tack ∧ (s.txSend x1 x2 x3 x4).tim = s.tim ∧ (s.txSend x1
      x2 x3 x4).gnb = s.gnb ∧ (s.txSend x1 x2 x3 x4).gait = s.gait ∧ (s.txSend x1 x2 x3 x4).pad = s.pad ∧ (s.txSend
      x1 x2 x3 x4).fix = s.fix ∧ (s.txSend x1 x2 x3 x4).air = s.air ∧ (s.txSend x1 x2 x3 x4).byl = s.byl := by
  unfold State.txSend
  try simp
  all_goals (repeat' split) <;> simp_all

@[simp] theorem State.startHead_frame (s : State) (x1 : Nat) (x2 : TxItem) (x3 : BitVec 64) :
    (s.startHead x1 x2 x3).pending = s.pending ∧ (s.startHead x1 x2 x3).cyc = s.cyc ∧ (s.startHead x1 x2 x3).hostMem
      = s.hostMem ∧ (s.startHead x1 x2 x3).live = s.live ∧ (s.startHead x1 x2 x3).whoa = s.whoa ∧ (s.startHead x1 x2
      x3).chip = s.chip ∧ (s.startHead x1 x2 x3).tack = s.tack ∧ (s.startHead x1 x2 x3).tim = s.tim ∧ (s.startHead
      x1 x2 x3).gnb = s.gnb ∧ (s.startHead x1 x2 x3).gait = s.gait ∧ (s.startHead x1 x2 x3).pad = s.pad ∧
      (s.startHead x1 x2 x3).fix = s.fix ∧ (s.startHead x1 x2 x3).air = s.air ∧ (s.startHead x1 x2 x3).byl = s.byl := by
  unfold State.startHead
  try simp
  all_goals (repeat' split) <;> simp_all

@[simp] theorem State.stepAir_frame (s : State) (x1 : Int) :
    (s.stepAir x1).pending = s.pending ∧ (s.stepAir x1).cyc = s.cyc ∧ (s.stepAir x1).hostMem = s.hostMem ∧
      (s.stepAir x1).live = s.live ∧ (s.stepAir x1).whoa = s.whoa ∧ (s.stepAir x1).chip = s.chip ∧ (s.stepAir
      x1).tack = s.tack ∧ (s.stepAir x1).recd = s.recd ∧ (s.stepAir x1).net = s.net ∧ (s.stepAir x1).tim = s.tim ∧
      (s.stepAir x1).gnb = s.gnb ∧ (s.stepAir x1).gait = s.gait ∧ (s.stepAir x1).pad = s.pad ∧ (s.stepAir x1).fix =
      s.fix ∧ (s.stepAir x1).byl = s.byl := by
  unfold State.stepAir
  try simp
  all_goals (repeat' split) <;> simp_all

@[simp] theorem State.stepNet_frame (s : State) (x1 : Nat) :
    (s.stepNet x1).pending = s.pending ∧ (s.stepNet x1).cyc = s.cyc ∧ (s.stepNet x1).hostMem = s.hostMem ∧
      (s.stepNet x1).live = s.live ∧ (s.stepNet x1).whoa = s.whoa ∧ (s.stepNet x1).chip = s.chip ∧ (s.stepNet
      x1).tack = s.tack ∧ (s.stepNet x1).recd = s.recd ∧ (s.stepNet x1).tim = s.tim ∧ (s.stepNet x1).gnb = s.gnb ∧
      (s.stepNet x1).gait = s.gait ∧ (s.stepNet x1).pad = s.pad ∧ (s.stepNet x1).fix = s.fix ∧ (s.stepNet x1).air =
      s.air ∧ (s.stepNet x1).byl = s.byl := by
  unfold State.stepNet
  try simp
  all_goals (repeat' split) <;> simp_all

@[simp] theorem State.stepRest_frame (s : State) (x1 : Int) (x2 : Nat) :
    (s.stepRest x1 x2).pending = s.pending ∧ (s.stepRest x1 x2).cyc = s.cyc ∧ (s.stepRest x1 x2).hostMem = s.hostMem
      ∧ (s.stepRest x1 x2).live = s.live ∧ (s.stepRest x1 x2).whoa = s.whoa ∧ (s.stepRest x1 x2).chip = s.chip ∧
      (s.stepRest x1 x2).tack = s.tack ∧ (s.stepRest x1 x2).recd = s.recd ∧ (s.stepRest x1 x2).net = s.net ∧
      (s.stepRest x1 x2).tim = s.tim ∧ (s.stepRest x1 x2).gait = s.gait ∧ (s.stepRest x1 x2).pad = s.pad ∧
      (s.stepRest x1 x2).fix = s.fix ∧ (s.stepRest x1 x2).air = s.air := by
  unfold State.stepRest
  try simp
  all_goals (repeat' split) <;> simp_all

@[simp] theorem State.stepTicks_frame (s : State) (x1 : Int) :
    (s.stepTicks x1).pending = s.pending ∧ (s.stepTicks x1).cyc = s.cyc ∧ (s.stepTicks x1).hostMem = s.hostMem ∧
      (s.stepTicks x1).live = s.live ∧ (s.stepTicks x1).whoa = s.whoa ∧ (s.stepTicks x1).chip = s.chip ∧
      (s.stepTicks x1).tack = s.tack ∧ (s.stepTicks x1).recd = s.recd ∧ (s.stepTicks x1).net = s.net ∧ (s.stepTicks
      x1).tim = s.tim ∧ (s.stepTicks x1).gnb = s.gnb ∧ (s.stepTicks x1).fix = s.fix ∧ (s.stepTicks x1).air = s.air ∧
      (s.stepTicks x1).byl = s.byl := by
  unfold State.stepTicks
  try simp
  all_goals (repeat' split) <;> simp_all

@[simp] theorem State.waitLocks_frame (s : State) (x1 : Item) (x2 : Option BadCell) :
    (s.waitLocks x1 x2).pending = s.pending ∧ (s.waitLocks x1 x2).cyc = s.cyc ∧ (s.waitLocks x1 x2).hostMem =
      s.hostMem ∧ (s.waitLocks x1 x2).live = s.live ∧ (s.waitLocks x1 x2).whoa = s.whoa ∧ (s.waitLocks x1 x2).chip =
      s.chip ∧ (s.waitLocks x1 x2).tack = s.tack ∧ (s.waitLocks x1 x2).recd = s.recd ∧ (s.waitLocks x1 x2).net =
      s.net ∧ (s.waitLocks x1 x2).tim = s.tim ∧ (s.waitLocks x1 x2).gnb = s.gnb ∧ (s.waitLocks x1 x2).gait = s.gait
      ∧ (s.waitLocks x1 x2).fix = s.fix ∧ (s.waitLocks x1 x2).air = s.air := by
  unfold State.waitLocks
  try simp
  all_goals (repeat' split) <;> simp_all

@[simp] theorem State.tackOp_pending (s : State) (x1 : Item) (x2 : Item → Sys2Proof.Instr) (x3 : Checks) (x4 : State
    → Item → State) (h4 : ∀ y0 y1 r, x4 y0 y1 = r → r.pending = y0.pending) :
    (s.tackOp x1 x2 x3 x4).pending = s.pending := by
  unfold State.tackOp
  (repeat' split) <;> (try simp_all)

@[simp] theorem State.tackOp_cyc (s : State) (x1 : Item) (x2 : Item → Sys2Proof.Instr) (x3 : Checks) (x4 : State →
    Item → State) (h4 : ∀ y0 y1 r, x4 y0 y1 = r → r.cyc = y0.cyc) :
    (s.tackOp x1 x2 x3 x4).cyc = s.cyc := by
  unfold State.tackOp
  (repeat' split) <;> (try simp_all)

@[simp] theorem State.tackOp_hostMem (s : State) (x1 : Item) (x2 : Item → Sys2Proof.Instr) (x3 : Checks) (x4 : State
    → Item → State) (h4 : ∀ y0 y1 r, x4 y0 y1 = r → r.hostMem = y0.hostMem) :
    (s.tackOp x1 x2 x3 x4).hostMem = s.hostMem := by
  unfold State.tackOp
  (repeat' split) <;> (try simp_all)

@[simp] theorem State.tackOp_live (s : State) (x1 : Item) (x2 : Item → Sys2Proof.Instr) (x3 : Checks) (x4 : State →
    Item → State) (h4 : ∀ y0 y1 r, x4 y0 y1 = r → r.live = y0.live) :
    (s.tackOp x1 x2 x3 x4).live = s.live := by
  unfold State.tackOp
  (repeat' split) <;> (try simp_all)

@[simp] theorem State.tackOp_whoa (s : State) (x1 : Item) (x2 : Item → Sys2Proof.Instr) (x3 : Checks) (x4 : State →
    Item → State) (h4 : ∀ y0 y1 r, x4 y0 y1 = r → r.whoa = y0.whoa) :
    (s.tackOp x1 x2 x3 x4).whoa = s.whoa := by
  unfold State.tackOp
  (repeat' split) <;> (try simp_all)

@[simp] theorem State.tackOp_chip (s : State) (x1 : Item) (x2 : Item → Sys2Proof.Instr) (x3 : Checks) (x4 : State →
    Item → State) (h4 : ∀ y0 y1 r, x4 y0 y1 = r → r.chip = y0.chip) :
    (s.tackOp x1 x2 x3 x4).chip = s.chip := by
  unfold State.tackOp
  (repeat' split) <;> (try simp_all)

@[simp] theorem State.tackOp_tack (s : State) (x1 : Item) (x2 : Item → Sys2Proof.Instr) (x3 : Checks) (x4 : State →
    Item → State) (h4 : ∀ y0 y1 r, x4 y0 y1 = r → r.tack = y0.tack) :
    (s.tackOp x1 x2 x3 x4).tack = s.tack := by
  unfold State.tackOp
  (repeat' split) <;> (try simp_all)

@[simp] theorem State.tackOp_recd (s : State) (x1 : Item) (x2 : Item → Sys2Proof.Instr) (x3 : Checks) (x4 : State →
    Item → State) (h4 : ∀ y0 y1 r, x4 y0 y1 = r → r.recd = y0.recd) :
    (s.tackOp x1 x2 x3 x4).recd = s.recd := by
  unfold State.tackOp
  (repeat' split) <;> (try simp_all)

@[simp] theorem State.tackOp_net (s : State) (x1 : Item) (x2 : Item → Sys2Proof.Instr) (x3 : Checks) (x4 : State →
    Item → State) (h4 : ∀ y0 y1 r, x4 y0 y1 = r → r.net = y0.net) :
    (s.tackOp x1 x2 x3 x4).net = s.net := by
  unfold State.tackOp
  (repeat' split) <;> (try simp_all)

@[simp] theorem State.tackOp_tim (s : State) (x1 : Item) (x2 : Item → Sys2Proof.Instr) (x3 : Checks) (x4 : State →
    Item → State) (h4 : ∀ y0 y1 r, x4 y0 y1 = r → r.tim = y0.tim) :
    (s.tackOp x1 x2 x3 x4).tim = s.tim := by
  unfold State.tackOp
  (repeat' split) <;> (try simp_all)

@[simp] theorem State.tackOp_gnb (s : State) (x1 : Item) (x2 : Item → Sys2Proof.Instr) (x3 : Checks) (x4 : State →
    Item → State) (h4 : ∀ y0 y1 r, x4 y0 y1 = r → r.gnb = y0.gnb) :
    (s.tackOp x1 x2 x3 x4).gnb = s.gnb := by
  unfold State.tackOp
  (repeat' split) <;> (try simp_all)

@[simp] theorem State.tackOp_gait (s : State) (x1 : Item) (x2 : Item → Sys2Proof.Instr) (x3 : Checks) (x4 : State →
    Item → State) (h4 : ∀ y0 y1 r, x4 y0 y1 = r → r.gait = y0.gait) :
    (s.tackOp x1 x2 x3 x4).gait = s.gait := by
  unfold State.tackOp
  (repeat' split) <;> (try simp_all)

@[simp] theorem State.tackOp_pad (s : State) (x1 : Item) (x2 : Item → Sys2Proof.Instr) (x3 : Checks) (x4 : State →
    Item → State) (h4 : ∀ y0 y1 r, x4 y0 y1 = r → r.pad = y0.pad) :
    (s.tackOp x1 x2 x3 x4).pad = s.pad := by
  unfold State.tackOp
  (repeat' split) <;> (try simp_all)

@[simp] theorem State.tackOp_fix (s : State) (x1 : Item) (x2 : Item → Sys2Proof.Instr) (x3 : Checks) (x4 : State →
    Item → State) (h4 : ∀ y0 y1 r, x4 y0 y1 = r → r.fix = y0.fix) :
    (s.tackOp x1 x2 x3 x4).fix = s.fix := by
  unfold State.tackOp
  (repeat' split) <;> (try simp_all)

@[simp] theorem State.tackOp_air (s : State) (x1 : Item) (x2 : Item → Sys2Proof.Instr) (x3 : Checks) (x4 : State →
    Item → State) (h4 : ∀ y0 y1 r, x4 y0 y1 = r → r.air = y0.air) :
    (s.tackOp x1 x2 x3 x4).air = s.air := by
  unfold State.tackOp
  (repeat' split) <;> (try simp_all)

@[simp] theorem State.tackOp_byl (s : State) (x1 : Item) (x2 : Item → Sys2Proof.Instr) (x3 : Checks) (x4 : State →
    Item → State) (h4 : ∀ y0 y1 r, x4 y0 y1 = r → r.byl = y0.byl) :
    (s.tackOp x1 x2 x3 x4).byl = s.byl := by
  unfold State.tackOp
  (repeat' split) <;> (try simp_all)

@[simp] theorem State.zeroise_frame (s : State) (x1 : Nat) :
    (s.zeroise x1).pending = s.pending ∧ (s.zeroise x1).cyc = s.cyc ∧ (s.zeroise x1).live = s.live ∧ (s.zeroise
      x1).whoa = s.whoa ∧ (s.zeroise x1).recd = s.recd ∧ (s.zeroise x1).net = s.net ∧ (s.zeroise x1).tim = s.tim ∧
      (s.zeroise x1).gnb = s.gnb ∧ (s.zeroise x1).gait = s.gait ∧ (s.zeroise x1).pad = s.pad ∧ (s.zeroise x1).fix =
      s.fix ∧ (s.zeroise x1).byl = s.byl := by
  unfold State.zeroise
  try simp
  all_goals (repeat' split) <;> simp_all

@[simp] theorem State.zeroised_frame (s : State) (x1 : Nat) :
    (s.zeroised x1).pending = s.pending ∧ (s.zeroised x1).cyc = s.cyc ∧ (s.zeroised x1).live = s.live ∧ (s.zeroised
      x1).whoa = s.whoa ∧ (s.zeroised x1).recd = s.recd ∧ (s.zeroised x1).net = s.net ∧ (s.zeroised x1).tim = s.tim
      ∧ (s.zeroised x1).gnb = s.gnb ∧ (s.zeroised x1).fix = s.fix := by
  unfold State.zeroised
  try simp
  all_goals (repeat' split) <;> simp_all

@[simp] theorem State.trigger_frame (s : State) (x1 : Nat) (x2 : Nat) :
    (s.trigger x1 x2).pending = s.pending ∧ (s.trigger x1 x2).cyc = s.cyc ∧ (s.trigger x1 x2).hostMem = s.hostMem ∧
      (s.trigger x1 x2).live = s.live ∧ (s.trigger x1 x2).whoa = s.whoa ∧ (s.trigger x1 x2).chip = s.chip ∧
      (s.trigger x1 x2).tack = s.tack ∧ (s.trigger x1 x2).net = s.net ∧ (s.trigger x1 x2).tim = s.tim ∧ (s.trigger
      x1 x2).gnb = s.gnb ∧ (s.trigger x1 x2).gait = s.gait ∧ (s.trigger x1 x2).pad = s.pad ∧ (s.trigger x1 x2).fix =
      s.fix ∧ (s.trigger x1 x2).air = s.air := by
  simp only [State.trigger]
  (repeat' split) <;> simp

@[simp] theorem State.unlockDebug_frame (s : State) :
    (s.unlockDebug).pending = s.pending ∧ (s.unlockDebug).cyc = s.cyc ∧ (s.unlockDebug).hostMem = s.hostMem ∧
      (s.unlockDebug).live = s.live ∧ (s.unlockDebug).whoa = s.whoa ∧ (s.unlockDebug).recd = s.recd ∧
      (s.unlockDebug).net = s.net ∧ (s.unlockDebug).tim = s.tim ∧ (s.unlockDebug).gnb = s.gnb ∧ (s.unlockDebug).gait
      = s.gait ∧ (s.unlockDebug).pad = s.pad ∧ (s.unlockDebug).fix = s.fix ∧ (s.unlockDebug).byl = s.byl := by
  unfold State.unlockDebug
  try simp
  all_goals (repeat' split) <;> simp_all

@[simp] theorem State.suppression_frame (s : State) :
    (s.suppression).pending = s.pending ∧ (s.suppression).cyc = s.cyc ∧ (s.suppression).hostMem = s.hostMem ∧
      (s.suppression).live = s.live ∧ (s.suppression).chip = s.chip ∧ (s.suppression).tack = s.tack ∧
      (s.suppression).recd = s.recd ∧ (s.suppression).net = s.net ∧ (s.suppression).tim = s.tim ∧
      (s.suppression).gnb = s.gnb ∧ (s.suppression).gait = s.gait ∧ (s.suppression).pad = s.pad ∧
      (s.suppression).fix = s.fix ∧ (s.suppression).air = s.air ∧ (s.suppression).byl = s.byl := by
  unfold State.suppression
  try simp
  all_goals (repeat' split) <;> simp_all

@[simp] theorem State.switchSched_frame (s : State) :
    (s.switchSched).pending = s.pending ∧ (s.switchSched).cyc = s.cyc ∧ (s.switchSched).hostMem = s.hostMem ∧
      (s.switchSched).live = s.live ∧ (s.switchSched).whoa = s.whoa ∧ (s.switchSched).chip = s.chip ∧
      (s.switchSched).tack = s.tack ∧ (s.switchSched).net = s.net ∧ (s.switchSched).tim = s.tim ∧
      (s.switchSched).gnb = s.gnb ∧ (s.switchSched).gait = s.gait ∧ (s.switchSched).pad = s.pad ∧
      (s.switchSched).fix = s.fix ∧ (s.switchSched).byl = s.byl := by
  unfold State.switchSched
  try simp
  all_goals (repeat' split) <;> simp_all

@[simp] theorem State.takeSfn_frame (s : State) (x1 : Beat) :
    (s.takeSfn x1).pending = s.pending ∧ (s.takeSfn x1).cyc = s.cyc ∧ (s.takeSfn x1).hostMem = s.hostMem ∧
      (s.takeSfn x1).live = s.live ∧ (s.takeSfn x1).whoa = s.whoa ∧ (s.takeSfn x1).chip = s.chip ∧ (s.takeSfn
      x1).tack = s.tack ∧ (s.takeSfn x1).recd = s.recd ∧ (s.takeSfn x1).net = s.net ∧ (s.takeSfn x1).tim = s.tim ∧
      (s.takeSfn x1).gnb = s.gnb ∧ (s.takeSfn x1).gait = s.gait ∧ (s.takeSfn x1).pad = s.pad ∧ (s.takeSfn x1).fix =
      s.fix ∧ (s.takeSfn x1).byl = s.byl := by
  unfold State.takeSfn
  try simp
  all_goals (repeat' split) <;> simp_all

@[simp] theorem State.takeBeat_frame (s : State) (x1 : Beat) :
    (s.takeBeat x1).pending = s.pending ∧ (s.takeBeat x1).cyc = s.cyc ∧ (s.takeBeat x1).hostMem = s.hostMem ∧
      (s.takeBeat x1).live = s.live ∧ (s.takeBeat x1).whoa = s.whoa ∧ (s.takeBeat x1).chip = s.chip ∧ (s.takeBeat
      x1).tack = s.tack ∧ (s.takeBeat x1).recd = s.recd ∧ (s.takeBeat x1).net = s.net ∧ (s.takeBeat x1).tim = s.tim
      ∧ (s.takeBeat x1).gnb = s.gnb ∧ (s.takeBeat x1).fix = s.fix := by
  unfold State.takeBeat
  try simp
  all_goals (repeat' split) <;> simp_all

@[simp] theorem State.takeGeometry_frame (s : State) (x1 : MapSnap) :
    (s.takeGeometry x1).pending = s.pending ∧ (s.takeGeometry x1).cyc = s.cyc ∧ (s.takeGeometry x1).hostMem =
      s.hostMem ∧ (s.takeGeometry x1).live = s.live ∧ (s.takeGeometry x1).whoa = s.whoa ∧ (s.takeGeometry x1).chip =
      s.chip ∧ (s.takeGeometry x1).tack = s.tack ∧ (s.takeGeometry x1).recd = s.recd ∧ (s.takeGeometry x1).net =
      s.net ∧ (s.takeGeometry x1).tim = s.tim ∧ (s.takeGeometry x1).gnb = s.gnb ∧ (s.takeGeometry x1).gait = s.gait
      ∧ (s.takeGeometry x1).fix = s.fix ∧ (s.takeGeometry x1).air = s.air := by
  unfold State.takeGeometry
  try simp
  all_goals (repeat' split) <;> simp_all

@[simp] theorem State.takeHello_frame (s : State) (x1 : Hello) :
    (s.takeHello x1).pending = s.pending ∧ (s.takeHello x1).cyc = s.cyc ∧ (s.takeHello x1).hostMem = s.hostMem ∧
      (s.takeHello x1).live = s.live ∧ (s.takeHello x1).whoa = s.whoa ∧ (s.takeHello x1).chip = s.chip ∧
      (s.takeHello x1).tack = s.tack ∧ (s.takeHello x1).recd = s.recd ∧ (s.takeHello x1).net = s.net ∧ (s.takeHello
      x1).tim = s.tim ∧ (s.takeHello x1).gnb = s.gnb ∧ (s.takeHello x1).gait = s.gait ∧ (s.takeHello x1).pad = s.pad
      ∧ (s.takeHello x1).fix = s.fix ∧ (s.takeHello x1).air = s.air := by
  unfold State.takeHello
  try simp
  all_goals (repeat' split) <;> simp_all

@[simp] theorem State.takeLine_frame (s : State) (x1 : Hitch) :
    (s.takeLine x1).pending = s.pending ∧ (s.takeLine x1).cyc = s.cyc ∧ (s.takeLine x1).hostMem = s.hostMem ∧
      (s.takeLine x1).live = s.live ∧ (s.takeLine x1).whoa = s.whoa ∧ (s.takeLine x1).chip = s.chip ∧ (s.takeLine
      x1).tack = s.tack ∧ (s.takeLine x1).recd = s.recd ∧ (s.takeLine x1).net = s.net ∧ (s.takeLine x1).tim = s.tim
      ∧ (s.takeLine x1).gnb = s.gnb ∧ (s.takeLine x1).gait = s.gait ∧ (s.takeLine x1).pad = s.pad ∧ (s.takeLine
      x1).fix = s.fix ∧ (s.takeLine x1).air = s.air := by
  unfold State.takeLine
  try simp
  all_goals (repeat' split) <;> simp_all

@[simp] theorem State.takeTile_frame (s : State) (x1 : TileSnap) :
    (s.takeTile x1).pending = s.pending ∧ (s.takeTile x1).cyc = s.cyc ∧ (s.takeTile x1).hostMem = s.hostMem ∧
      (s.takeTile x1).live = s.live ∧ (s.takeTile x1).whoa = s.whoa ∧ (s.takeTile x1).chip = s.chip ∧ (s.takeTile
      x1).tack = s.tack ∧ (s.takeTile x1).recd = s.recd ∧ (s.takeTile x1).net = s.net ∧ (s.takeTile x1).tim = s.tim
      ∧ (s.takeTile x1).gnb = s.gnb ∧ (s.takeTile x1).gait = s.gait ∧ (s.takeTile x1).fix = s.fix ∧ (s.takeTile
      x1).air = s.air := by
  unfold State.takeTile
  try simp
  all_goals (repeat' split) <;> simp_all

@[simp] theorem State.takeMap_frame (s : State) (x1 : TileData) :
    (s.takeMap x1).pending = s.pending ∧ (s.takeMap x1).cyc = s.cyc ∧ (s.takeMap x1).hostMem = s.hostMem ∧
      (s.takeMap x1).live = s.live ∧ (s.takeMap x1).whoa = s.whoa ∧ (s.takeMap x1).chip = s.chip ∧ (s.takeMap
      x1).tack = s.tack ∧ (s.takeMap x1).recd = s.recd ∧ (s.takeMap x1).net = s.net ∧ (s.takeMap x1).tim = s.tim ∧
      (s.takeMap x1).gnb = s.gnb ∧ (s.takeMap x1).gait = s.gait ∧ (s.takeMap x1).fix = s.fix ∧ (s.takeMap x1).air =
      s.air := by
  unfold State.takeMap
  try simp
  all_goals (repeat' split) <;> simp_all

@[simp] theorem State.takeMirrorAck_frame (s : State) (x1 : Nat) :
    (s.takeMirrorAck x1).pending = s.pending ∧ (s.takeMirrorAck x1).cyc = s.cyc ∧ (s.takeMirrorAck x1).hostMem =
      s.hostMem ∧ (s.takeMirrorAck x1).live = s.live ∧ (s.takeMirrorAck x1).whoa = s.whoa ∧ (s.takeMirrorAck
      x1).chip = s.chip ∧ (s.takeMirrorAck x1).tack = s.tack ∧ (s.takeMirrorAck x1).recd = s.recd ∧ (s.takeMirrorAck
      x1).net = s.net ∧ (s.takeMirrorAck x1).tim = s.tim ∧ (s.takeMirrorAck x1).gnb = s.gnb ∧ (s.takeMirrorAck
      x1).fix = s.fix ∧ (s.takeMirrorAck x1).air = s.air ∧ (s.takeMirrorAck x1).byl = s.byl := by
  unfold State.takeMirrorAck
  try simp
  all_goals (repeat' split) <;> simp_all

@[simp] theorem State.takeMsg_frame (s : State) (x1 : List Sys2Proof.Byte) (x2 : Option Bool) :
    (s.takeMsg x1 x2).pending = s.pending ∧ (s.takeMsg x1 x2).cyc = s.cyc ∧ (s.takeMsg x1 x2).hostMem = s.hostMem ∧
      (s.takeMsg x1 x2).live = s.live ∧ (s.takeMsg x1 x2).whoa = s.whoa ∧ (s.takeMsg x1 x2).chip = s.chip ∧
      (s.takeMsg x1 x2).tack = s.tack ∧ (s.takeMsg x1 x2).recd = s.recd ∧ (s.takeMsg x1 x2).net = s.net ∧ (s.takeMsg
      x1 x2).tim = s.tim ∧ (s.takeMsg x1 x2).gnb = s.gnb ∧ (s.takeMsg x1 x2).gait = s.gait ∧ (s.takeMsg x1 x2).pad =
      s.pad ∧ (s.takeMsg x1 x2).fix = s.fix ∧ (s.takeMsg x1 x2).air = s.air := by
  unfold State.takeMsg
  try simp
  all_goals (repeat' split) <;> simp_all

@[simp] theorem State.takeOwners_frame (s : State) :
    (s.takeOwners).pending = s.pending ∧ (s.takeOwners).cyc = s.cyc ∧ (s.takeOwners).hostMem = s.hostMem ∧
      (s.takeOwners).live = s.live ∧ (s.takeOwners).whoa = s.whoa ∧ (s.takeOwners).chip = s.chip ∧
      (s.takeOwners).tack = s.tack ∧ (s.takeOwners).recd = s.recd ∧ (s.takeOwners).net = s.net ∧ (s.takeOwners).tim
      = s.tim ∧ (s.takeOwners).gnb = s.gnb ∧ (s.takeOwners).gait = s.gait ∧ (s.takeOwners).pad = s.pad ∧
      (s.takeOwners).fix = s.fix ∧ (s.takeOwners).air = s.air ∧ (s.takeOwners).byl = s.byl := by
  unfold State.takeOwners
  try simp
  all_goals (repeat' split) <;> simp_all

@[simp] theorem State.takePacket_frame (s : State) (x1 : Nat) (x2 : List Sys2Proof.Byte) (x3 : Nat) :
    (s.takePacket x1 x2 x3).1.pending = s.pending ∧ (s.takePacket x1 x2 x3).1.cyc = s.cyc ∧ (s.takePacket x1 x2
      x3).1.hostMem = s.hostMem ∧ (s.takePacket x1 x2 x3).1.live = s.live ∧ (s.takePacket x1 x2 x3).1.whoa = s.whoa
      ∧ (s.takePacket x1 x2 x3).1.chip = s.chip ∧ (s.takePacket x1 x2 x3).1.tack = s.tack ∧ (s.takePacket x1 x2
      x3).1.recd = s.recd ∧ (s.takePacket x1 x2 x3).1.net = s.net ∧ (s.takePacket x1 x2 x3).1.tim = s.tim ∧
      (s.takePacket x1 x2 x3).1.gnb = s.gnb ∧ (s.takePacket x1 x2 x3).1.gait = s.gait ∧ (s.takePacket x1 x2
      x3).1.pad = s.pad ∧ (s.takePacket x1 x2 x3).1.fix = s.fix ∧ (s.takePacket x1 x2 x3).1.byl = s.byl := by
  unfold State.takePacket
  try simp
  all_goals (repeat' split) <;> simp_all

@[simp] theorem State.takePause_frame (s : State) (x1 : Nat) :
    (s.takePause x1).pending = s.pending ∧ (s.takePause x1).cyc = s.cyc ∧ (s.takePause x1).hostMem = s.hostMem ∧
      (s.takePause x1).live = s.live ∧ (s.takePause x1).whoa = s.whoa ∧ (s.takePause x1).chip = s.chip ∧
      (s.takePause x1).tack = s.tack ∧ (s.takePause x1).tim = s.tim ∧ (s.takePause x1).gnb = s.gnb ∧ (s.takePause
      x1).gait = s.gait ∧ (s.takePause x1).pad = s.pad ∧ (s.takePause x1).fix = s.fix ∧ (s.takePause x1).air = s.air
      ∧ (s.takePause x1).byl = s.byl := by
  unfold State.takePause
  try simp
  all_goals (repeat' split) <;> simp_all

@[simp] theorem State.takeRecord_frame (s : State) (x1 : List Sys2Proof.Byte) :
    (s.takeRecord x1).pending = s.pending ∧ (s.takeRecord x1).cyc = s.cyc ∧ (s.takeRecord x1).hostMem = s.hostMem ∧
      (s.takeRecord x1).live = s.live ∧ (s.takeRecord x1).whoa = s.whoa ∧ (s.takeRecord x1).chip = s.chip ∧
      (s.takeRecord x1).tack = s.tack ∧ (s.takeRecord x1).recd = s.recd ∧ (s.takeRecord x1).net = s.net ∧
      (s.takeRecord x1).tim = s.tim ∧ (s.takeRecord x1).gnb = s.gnb ∧ (s.takeRecord x1).gait = s.gait ∧
      (s.takeRecord x1).fix = s.fix ∧ (s.takeRecord x1).air = s.air := by
  unfold State.takeRecord
  try simp
  all_goals (repeat' split) <;> simp_all

@[simp] theorem State.withLive_frame (s : State) (x1 : Sp Sys2Proof.Word) :
    (s.withLive x1).pending = s.pending ∧ (s.withLive x1).cyc = s.cyc ∧ (s.withLive x1).hostMem = s.hostMem ∧
      (s.withLive x1).whoa = s.whoa ∧ (s.withLive x1).chip = s.chip ∧ (s.withLive x1).tack = s.tack ∧ (s.withLive
      x1).recd = s.recd ∧ (s.withLive x1).net = s.net ∧ (s.withLive x1).tim = s.tim ∧ (s.withLive x1).gnb = s.gnb ∧
      (s.withLive x1).gait = s.gait ∧ (s.withLive x1).pad = s.pad ∧ (s.withLive x1).fix = s.fix ∧ (s.withLive
      x1).air = s.air ∧ (s.withLive x1).byl = s.byl := by
  unfold State.withLive
  try simp
  all_goals (repeat' split) <;> simp_all

@[simp] theorem State.under_pending (s : State) (x1 : Sp Sys2Proof.Word) (x2 : State → State) (h2 : ∀ y0 r, x2 y0 =
    r → r.pending = y0.pending) :
    (s.under x1 x2).pending = s.pending := by
  unfold State.under
  (repeat' split) <;> (try simp_all)

@[simp] theorem State.under_cyc (s : State) (x1 : Sp Sys2Proof.Word) (x2 : State → State) (h2 : ∀ y0 r, x2 y0 = r →
    r.cyc = y0.cyc) :
    (s.under x1 x2).cyc = s.cyc := by
  unfold State.under
  (repeat' split) <;> (try simp_all)

@[simp] theorem State.under_hostMem (s : State) (x1 : Sp Sys2Proof.Word) (x2 : State → State) (h2 : ∀ y0 r, x2 y0 =
    r → r.hostMem = y0.hostMem) :
    (s.under x1 x2).hostMem = s.hostMem := by
  unfold State.under
  (repeat' split) <;> (try simp_all)

@[simp] theorem State.under_live (s : State) (x1 : Sp Sys2Proof.Word) (x2 : State → State)  :
    (s.under x1 x2).live = s.live := rfl

@[simp] theorem State.under_whoa (s : State) (x1 : Sp Sys2Proof.Word) (x2 : State → State) (h2 : ∀ y0 r, x2 y0 = r →
    r.whoa = y0.whoa) :
    (s.under x1 x2).whoa = s.whoa := by
  unfold State.under
  (repeat' split) <;> (try simp_all)

@[simp] theorem State.under_chip (s : State) (x1 : Sp Sys2Proof.Word) (x2 : State → State) (h2 : ∀ y0 r, x2 y0 = r →
    r.chip = y0.chip) :
    (s.under x1 x2).chip = s.chip := by
  unfold State.under
  (repeat' split) <;> (try simp_all)

@[simp] theorem State.under_tack (s : State) (x1 : Sp Sys2Proof.Word) (x2 : State → State) (h2 : ∀ y0 r, x2 y0 = r →
    r.tack = y0.tack) :
    (s.under x1 x2).tack = s.tack := by
  unfold State.under
  (repeat' split) <;> (try simp_all)

@[simp] theorem State.under_recd (s : State) (x1 : Sp Sys2Proof.Word) (x2 : State → State) (h2 : ∀ y0 r, x2 y0 = r →
    r.recd = y0.recd) :
    (s.under x1 x2).recd = s.recd := by
  unfold State.under
  (repeat' split) <;> (try simp_all)

@[simp] theorem State.under_net (s : State) (x1 : Sp Sys2Proof.Word) (x2 : State → State) (h2 : ∀ y0 r, x2 y0 = r →
    r.net = y0.net) :
    (s.under x1 x2).net = s.net := by
  unfold State.under
  (repeat' split) <;> (try simp_all)

@[simp] theorem State.under_tim (s : State) (x1 : Sp Sys2Proof.Word) (x2 : State → State) (h2 : ∀ y0 r, x2 y0 = r →
    r.tim = y0.tim) :
    (s.under x1 x2).tim = s.tim := by
  unfold State.under
  (repeat' split) <;> (try simp_all)

@[simp] theorem State.under_gnb (s : State) (x1 : Sp Sys2Proof.Word) (x2 : State → State) (h2 : ∀ y0 r, x2 y0 = r →
    r.gnb = y0.gnb) :
    (s.under x1 x2).gnb = s.gnb := by
  unfold State.under
  (repeat' split) <;> (try simp_all)

@[simp] theorem State.under_gait (s : State) (x1 : Sp Sys2Proof.Word) (x2 : State → State) (h2 : ∀ y0 r, x2 y0 = r →
    r.gait = y0.gait) :
    (s.under x1 x2).gait = s.gait := by
  unfold State.under
  (repeat' split) <;> (try simp_all)

@[simp] theorem State.under_pad (s : State) (x1 : Sp Sys2Proof.Word) (x2 : State → State) (h2 : ∀ y0 r, x2 y0 = r →
    r.pad = y0.pad) :
    (s.under x1 x2).pad = s.pad := by
  unfold State.under
  (repeat' split) <;> (try simp_all)

@[simp] theorem State.under_fix (s : State) (x1 : Sp Sys2Proof.Word) (x2 : State → State) (h2 : ∀ y0 r, x2 y0 = r →
    r.fix = y0.fix) :
    (s.under x1 x2).fix = s.fix := by
  unfold State.under
  (repeat' split) <;> (try simp_all)

@[simp] theorem State.under_air (s : State) (x1 : Sp Sys2Proof.Word) (x2 : State → State) (h2 : ∀ y0 r, x2 y0 = r →
    r.air = y0.air) :
    (s.under x1 x2).air = s.air := by
  unfold State.under
  (repeat' split) <;> (try simp_all)

@[simp] theorem State.under_byl (s : State) (x1 : Sp Sys2Proof.Word) (x2 : State → State) (h2 : ∀ y0 r, x2 y0 = r →
    r.byl = y0.byl) :
    (s.under x1 x2).byl = s.byl := by
  unfold State.under
  (repeat' split) <;> (try simp_all)

@[simp] theorem State.unpowered_frame (s : State) :
    (s.unpowered).pending = s.pending ∧ (s.unpowered).cyc = s.cyc ∧ (s.unpowered).hostMem = s.hostMem := by
  unfold State.unpowered
  try simp
  all_goals (repeat' split) <;> simp_all

@[simp] theorem State.whoaConfig_frame (s : State) :
    (s.whoaConfig).pending = s.pending ∧ (s.whoaConfig).cyc = s.cyc ∧ (s.whoaConfig).hostMem = s.hostMem ∧
      (s.whoaConfig).live = s.live ∧ (s.whoaConfig).whoa = s.whoa ∧ (s.whoaConfig).chip = s.chip ∧
      (s.whoaConfig).tack = s.tack ∧ (s.whoaConfig).recd = s.recd ∧ (s.whoaConfig).net = s.net ∧ (s.whoaConfig).tim
      = s.tim ∧ (s.whoaConfig).gnb = s.gnb ∧ (s.whoaConfig).gait = s.gait ∧ (s.whoaConfig).pad = s.pad ∧
      (s.whoaConfig).fix = s.fix ∧ (s.whoaConfig).air = s.air ∧ (s.whoaConfig).byl = s.byl := by
  unfold State.whoaConfig
  try simp
  all_goals (repeat' split) <;> simp_all

@[simp] theorem State.withFetchWord_frame (s : State) (x1 : Nat) (x2 : Nat) :
    (s.withFetchWord x1 x2).cyc = s.cyc ∧ (s.withFetchWord x1 x2).hostMem = s.hostMem ∧ (s.withFetchWord x1 x2).live
      = s.live ∧ (s.withFetchWord x1 x2).whoa = s.whoa ∧ (s.withFetchWord x1 x2).chip = s.chip ∧ (s.withFetchWord x1
      x2).tack = s.tack ∧ (s.withFetchWord x1 x2).recd = s.recd ∧ (s.withFetchWord x1 x2).net = s.net ∧
      (s.withFetchWord x1 x2).tim = s.tim ∧ (s.withFetchWord x1 x2).gnb = s.gnb ∧ (s.withFetchWord x1 x2).gait =
      s.gait ∧ (s.withFetchWord x1 x2).pad = s.pad ∧ (s.withFetchWord x1 x2).fix = s.fix ∧ (s.withFetchWord x1
      x2).air = s.air ∧ (s.withFetchWord x1 x2).byl = s.byl := by
  unfold State.withFetchWord
  try simp
  all_goals (repeat' split) <;> simp_all

@[simp] theorem State.writeDisc_frame (s : State) (x1 : PadGeom) (x2 : Nat) (x3 : Disc) (x4 : Nat) (x5 : List Cell)
    (x6 : Option BadCell) :
    (s.writeDisc x1 x2 x3 x4 x5 x6).pending = s.pending ∧ (s.writeDisc x1 x2 x3 x4 x5 x6).cyc = s.cyc ∧ (s.writeDisc
      x1 x2 x3 x4 x5 x6).hostMem = s.hostMem ∧ (s.writeDisc x1 x2 x3 x4 x5 x6).live = s.live ∧ (s.writeDisc x1 x2 x3
      x4 x5 x6).whoa = s.whoa ∧ (s.writeDisc x1 x2 x3 x4 x5 x6).chip = s.chip ∧ (s.writeDisc x1 x2 x3 x4 x5 x6).tack
      = s.tack ∧ (s.writeDisc x1 x2 x3 x4 x5 x6).recd = s.recd ∧ (s.writeDisc x1 x2 x3 x4 x5 x6).net = s.net ∧
      (s.writeDisc x1 x2 x3 x4 x5 x6).tim = s.tim ∧ (s.writeDisc x1 x2 x3 x4 x5 x6).gnb = s.gnb ∧ (s.writeDisc x1 x2
      x3 x4 x5 x6).gait = s.gait ∧ (s.writeDisc x1 x2 x3 x4 x5 x6).fix = s.fix ∧ (s.writeDisc x1 x2 x3 x4 x5 x6).air
      = s.air ∧ (s.writeDisc x1 x2 x3 x4 x5 x6).byl = s.byl := by
  unfold State.writeDisc
  try simp
  all_goals (repeat' split) <;> simp_all

@[simp] theorem State.writeRingCtl_frame (s : State) (x1 : Nat) (x2 : Sys2Proof.Word) (x3 : List LogRec) :
    (s.writeRingCtl x1 x2 x3).pending = s.pending ∧ (s.writeRingCtl x1 x2 x3).cyc = s.cyc ∧ (s.writeRingCtl x1 x2
      x3).live = s.live ∧ (s.writeRingCtl x1 x2 x3).whoa = s.whoa ∧ (s.writeRingCtl x1 x2 x3).chip = s.chip ∧
      (s.writeRingCtl x1 x2 x3).tack = s.tack ∧ (s.writeRingCtl x1 x2 x3).recd = s.recd ∧ (s.writeRingCtl x1 x2
      x3).net = s.net ∧ (s.writeRingCtl x1 x2 x3).tim = s.tim ∧ (s.writeRingCtl x1 x2 x3).gnb = s.gnb ∧
      (s.writeRingCtl x1 x2 x3).gait = s.gait ∧ (s.writeRingCtl x1 x2 x3).pad = s.pad ∧ (s.writeRingCtl x1 x2
      x3).fix = s.fix ∧ (s.writeRingCtl x1 x2 x3).air = s.air ∧ (s.writeRingCtl x1 x2 x3).byl = s.byl := by
  unfold State.writeRingCtl
  try simp
  all_goals (repeat' split) <;> simp_all

@[simp] theorem State.yieldToken_frame (s : State) :
    (s.yieldToken).pending = s.pending ∧ (s.yieldToken).cyc = s.cyc ∧ (s.yieldToken).hostMem = s.hostMem ∧
      (s.yieldToken).live = s.live ∧ (s.yieldToken).whoa = s.whoa ∧ (s.yieldToken).chip = s.chip ∧
      (s.yieldToken).tack = s.tack ∧ (s.yieldToken).net = s.net ∧ (s.yieldToken).tim = s.tim ∧ (s.yieldToken).gnb =
      s.gnb := by
  unfold State.yieldToken
  try simp
  all_goals (repeat' split) <;> simp_all

end Sys2Proof.Machine
end

