-- ==== Sys2Proof/Laws/ExecFrames.lean ====
section
/-!
SUPPORT. What each command's meaning leaves as it was, of the parts Frames.lean names; the clock goes to the command's
instant, and never back.
-/

namespace Sys2Proof.Machine

@[simp] theorem State.then__pending (s : State) (x1 : State → Out State) (h1 : ∀  r, x1 s = .next r → r.pending =
    s.pending) :
    (s.then_ x1).pending = s.pending := by
  unfold State.then_
  cases h : x1 s with
  | next r => exact h1 r h
  | _ => rfl

@[simp] theorem State.then__cyc (s : State) (x1 : State → Out State) (h1 : ∀  r, x1 s = .next r → r.cyc = s.cyc) :
    (s.then_ x1).cyc = s.cyc := by
  unfold State.then_
  cases h : x1 s with
  | next r => exact h1 r h
  | _ => rfl

@[simp] theorem State.then__hostMem (s : State) (x1 : State → Out State) (h1 : ∀  r, x1 s = .next r → r.hostMem =
    s.hostMem) :
    (s.then_ x1).hostMem = s.hostMem := by
  unfold State.then_
  cases h : x1 s with
  | next r => exact h1 r h
  | _ => rfl

@[simp] theorem State.then__live (s : State) (x1 : State → Out State) (h1 : ∀  r, x1 s = .next r → r.live = s.live) :
    (s.then_ x1).live = s.live := by
  unfold State.then_
  cases h : x1 s with
  | next r => exact h1 r h
  | _ => rfl

@[simp] theorem State.then__whoa (s : State) (x1 : State → Out State) (h1 : ∀  r, x1 s = .next r → r.whoa = s.whoa) :
    (s.then_ x1).whoa = s.whoa := by
  unfold State.then_
  cases h : x1 s with
  | next r => exact h1 r h
  | _ => rfl

@[simp] theorem State.then__chip (s : State) (x1 : State → Out State) (h1 : ∀  r, x1 s = .next r → r.chip = s.chip) :
    (s.then_ x1).chip = s.chip := by
  unfold State.then_
  cases h : x1 s with
  | next r => exact h1 r h
  | _ => rfl

@[simp] theorem State.then__tack (s : State) (x1 : State → Out State) (h1 : ∀  r, x1 s = .next r → r.tack = s.tack) :
    (s.then_ x1).tack = s.tack := by
  unfold State.then_
  cases h : x1 s with
  | next r => exact h1 r h
  | _ => rfl

@[simp] theorem State.then__recd (s : State) (x1 : State → Out State) (h1 : ∀  r, x1 s = .next r → r.recd = s.recd) :
    (s.then_ x1).recd = s.recd := by
  unfold State.then_
  cases h : x1 s with
  | next r => exact h1 r h
  | _ => rfl

@[simp] theorem State.then__net (s : State) (x1 : State → Out State) (h1 : ∀  r, x1 s = .next r → r.net = s.net) :
    (s.then_ x1).net = s.net := by
  unfold State.then_
  cases h : x1 s with
  | next r => exact h1 r h
  | _ => rfl

@[simp] theorem State.then__tim (s : State) (x1 : State → Out State) (h1 : ∀  r, x1 s = .next r → r.tim = s.tim) :
    (s.then_ x1).tim = s.tim := by
  unfold State.then_
  cases h : x1 s with
  | next r => exact h1 r h
  | _ => rfl

@[simp] theorem State.then__gnb (s : State) (x1 : State → Out State) (h1 : ∀  r, x1 s = .next r → r.gnb = s.gnb) :
    (s.then_ x1).gnb = s.gnb := by
  unfold State.then_
  cases h : x1 s with
  | next r => exact h1 r h
  | _ => rfl

@[simp] theorem State.then__gait (s : State) (x1 : State → Out State) (h1 : ∀  r, x1 s = .next r → r.gait = s.gait) :
    (s.then_ x1).gait = s.gait := by
  unfold State.then_
  cases h : x1 s with
  | next r => exact h1 r h
  | _ => rfl

@[simp] theorem State.then__pad (s : State) (x1 : State → Out State) (h1 : ∀  r, x1 s = .next r → r.pad = s.pad) :
    (s.then_ x1).pad = s.pad := by
  unfold State.then_
  cases h : x1 s with
  | next r => exact h1 r h
  | _ => rfl

@[simp] theorem State.then__fix (s : State) (x1 : State → Out State) (h1 : ∀  r, x1 s = .next r → r.fix = s.fix) :
    (s.then_ x1).fix = s.fix := by
  unfold State.then_
  cases h : x1 s with
  | next r => exact h1 r h
  | _ => rfl

@[simp] theorem State.then__air (s : State) (x1 : State → Out State) (h1 : ∀  r, x1 s = .next r → r.air = s.air) :
    (s.then_ x1).air = s.air := by
  unfold State.then_
  cases h : x1 s with
  | next r => exact h1 r h
  | _ => rfl

@[simp] theorem State.then__byl (s : State) (x1 : State → Out State) (h1 : ∀  r, x1 s = .next r → r.byl = s.byl) :
    (s.then_ x1).byl = s.byl := by
  unfold State.then_
  cases h : x1 s with
  | next r => exact h1 r h
  | _ => rfl

theorem execDspObsSelWrite_frame (x0 : Nat) (x1 : Requester) (x2 : Sys2Proof.Word) (s : State) {s' : State} :
    execDspObsSelWrite x0 x1 x2 s = .next s' →
    s'.cyc = s.cyc + (x0 - s.cyc) ∧ s'.pending = s.pending ∧ s'.hostMem = s.hostMem ∧ s'.live = s.live ∧ s'.whoa =
      s.whoa ∧ s'.chip = s.chip ∧ s'.tack = s.tack ∧ s'.recd = s.recd ∧ s'.net = s.net ∧ s'.tim = s.tim ∧ s'.gnb =
      s.gnb ∧ s'.gait = s.gait ∧ s'.pad = s.pad ∧ s'.fix = s.fix ∧ s'.air = s.air ∧ s'.byl = s.byl := by
  intro h
  simp only [execDspObsSelWrite] at h
  (repeat' split at h) <;> first | (have h := Host.Outcome.next.inj h; subst h; simp; done) | (have h := Option.some.inj h; subst h; simp; done) | (simp at h; done)

theorem execAntRearm_frame (x0 : Nat) (x1 : Requester) (x2 : Sys2Proof.Word) (s : State) {s' : State} : execAntRearm
    x0 x1 x2 s = .next s' →
    s'.cyc = s.cyc + (x0 - s.cyc) ∧ s'.pending = s.pending ∧ s'.hostMem = s.hostMem ∧ s'.live = s.live ∧ s'.whoa =
      s.whoa ∧ s'.chip = s.chip ∧ s'.tack = s.tack ∧ s'.recd = s.recd ∧ s'.net = s.net ∧ s'.tim = s.tim ∧ s'.gait =
      s.gait ∧ s'.pad = s.pad ∧ s'.fix = s.fix ∧ s'.air = s.air ∧ s'.byl = s.byl := by
  intro h
  simp only [execAntRearm] at h
  (repeat' split at h) <;> first | (have h := Host.Outcome.next.inj h; subst h; simp; done) | (have h := Option.some.inj h; subst h; simp; done) | (simp at h; done)

theorem execTrkMaskPrnWrite_frame (x0 : Nat) (x1 : Requester) (x2 : Sys2Proof.Word) (s : State) {s' : State} :
    execTrkMaskPrnWrite x0 x1 x2 s = .next s' →
    s'.cyc = s.cyc + (x0 - s.cyc) ∧ s'.pending = s.pending ∧ s'.hostMem = s.hostMem ∧ s'.live = s.live ∧ s'.whoa =
      s.whoa ∧ s'.chip = s.chip ∧ s'.tack = s.tack ∧ s'.recd = s.recd ∧ s'.net = s.net ∧ s'.tim = s.tim ∧ s'.gait =
      s.gait ∧ s'.pad = s.pad ∧ s'.fix = s.fix ∧ s'.air = s.air ∧ s'.byl = s.byl := by
  intro h
  simp only [execTrkMaskPrnWrite] at h
  (repeat' split at h) <;> first | (have h := Host.Outcome.next.inj h; subst h; simp; done) | (have h := Option.some.inj h; subst h; simp; done) | (simp at h; done)

@[simp] theorem State.ifBit_pending (s : State) (x1 : Sys2Proof.Word) (x2 : Nat) (x3 : State → Out State) (h3 : ∀ 
    r, x3 s = .next r → r.pending = s.pending) :
    (s.ifBit x1 x2 x3).pending = s.pending := by
  unfold State.ifBit
  split
  · cases h : x3 s with
    | next r => simpa [State.then_, h] using h3 r h
    | _ => simp [State.then_, h]
  · rfl

@[simp] theorem State.ifBit_cyc (s : State) (x1 : Sys2Proof.Word) (x2 : Nat) (x3 : State → Out State) (h3 : ∀  r, x3
    s = .next r → r.cyc = s.cyc) :
    (s.ifBit x1 x2 x3).cyc = s.cyc := by
  unfold State.ifBit
  split
  · cases h : x3 s with
    | next r => simpa [State.then_, h] using h3 r h
    | _ => simp [State.then_, h]
  · rfl

@[simp] theorem State.ifBit_hostMem (s : State) (x1 : Sys2Proof.Word) (x2 : Nat) (x3 : State → Out State) (h3 : ∀ 
    r, x3 s = .next r → r.hostMem = s.hostMem) :
    (s.ifBit x1 x2 x3).hostMem = s.hostMem := by
  unfold State.ifBit
  split
  · cases h : x3 s with
    | next r => simpa [State.then_, h] using h3 r h
    | _ => simp [State.then_, h]
  · rfl

@[simp] theorem State.ifBit_live (s : State) (x1 : Sys2Proof.Word) (x2 : Nat) (x3 : State → Out State) (h3 : ∀  r,
    x3 s = .next r → r.live = s.live) :
    (s.ifBit x1 x2 x3).live = s.live := by
  unfold State.ifBit
  split
  · cases h : x3 s with
    | next r => simpa [State.then_, h] using h3 r h
    | _ => simp [State.then_, h]
  · rfl

@[simp] theorem State.ifBit_whoa (s : State) (x1 : Sys2Proof.Word) (x2 : Nat) (x3 : State → Out State) (h3 : ∀  r,
    x3 s = .next r → r.whoa = s.whoa) :
    (s.ifBit x1 x2 x3).whoa = s.whoa := by
  unfold State.ifBit
  split
  · cases h : x3 s with
    | next r => simpa [State.then_, h] using h3 r h
    | _ => simp [State.then_, h]
  · rfl

@[simp] theorem State.ifBit_chip (s : State) (x1 : Sys2Proof.Word) (x2 : Nat) (x3 : State → Out State) (h3 : ∀  r,
    x3 s = .next r → r.chip = s.chip) :
    (s.ifBit x1 x2 x3).chip = s.chip := by
  unfold State.ifBit
  split
  · cases h : x3 s with
    | next r => simpa [State.then_, h] using h3 r h
    | _ => simp [State.then_, h]
  · rfl

@[simp] theorem State.ifBit_tack (s : State) (x1 : Sys2Proof.Word) (x2 : Nat) (x3 : State → Out State) (h3 : ∀  r,
    x3 s = .next r → r.tack = s.tack) :
    (s.ifBit x1 x2 x3).tack = s.tack := by
  unfold State.ifBit
  split
  · cases h : x3 s with
    | next r => simpa [State.then_, h] using h3 r h
    | _ => simp [State.then_, h]
  · rfl

@[simp] theorem State.ifBit_recd (s : State) (x1 : Sys2Proof.Word) (x2 : Nat) (x3 : State → Out State) (h3 : ∀  r,
    x3 s = .next r → r.recd = s.recd) :
    (s.ifBit x1 x2 x3).recd = s.recd := by
  unfold State.ifBit
  split
  · cases h : x3 s with
    | next r => simpa [State.then_, h] using h3 r h
    | _ => simp [State.then_, h]
  · rfl

@[simp] theorem State.ifBit_net (s : State) (x1 : Sys2Proof.Word) (x2 : Nat) (x3 : State → Out State) (h3 : ∀  r, x3
    s = .next r → r.net = s.net) :
    (s.ifBit x1 x2 x3).net = s.net := by
  unfold State.ifBit
  split
  · cases h : x3 s with
    | next r => simpa [State.then_, h] using h3 r h
    | _ => simp [State.then_, h]
  · rfl

@[simp] theorem State.ifBit_tim (s : State) (x1 : Sys2Proof.Word) (x2 : Nat) (x3 : State → Out State) (h3 : ∀  r, x3
    s = .next r → r.tim = s.tim) :
    (s.ifBit x1 x2 x3).tim = s.tim := by
  unfold State.ifBit
  split
  · cases h : x3 s with
    | next r => simpa [State.then_, h] using h3 r h
    | _ => simp [State.then_, h]
  · rfl

@[simp] theorem State.ifBit_gnb (s : State) (x1 : Sys2Proof.Word) (x2 : Nat) (x3 : State → Out State) (h3 : ∀  r, x3
    s = .next r → r.gnb = s.gnb) :
    (s.ifBit x1 x2 x3).gnb = s.gnb := by
  unfold State.ifBit
  split
  · cases h : x3 s with
    | next r => simpa [State.then_, h] using h3 r h
    | _ => simp [State.then_, h]
  · rfl

@[simp] theorem State.ifBit_gait (s : State) (x1 : Sys2Proof.Word) (x2 : Nat) (x3 : State → Out State) (h3 : ∀  r,
    x3 s = .next r → r.gait = s.gait) :
    (s.ifBit x1 x2 x3).gait = s.gait := by
  unfold State.ifBit
  split
  · cases h : x3 s with
    | next r => simpa [State.then_, h] using h3 r h
    | _ => simp [State.then_, h]
  · rfl

@[simp] theorem State.ifBit_pad (s : State) (x1 : Sys2Proof.Word) (x2 : Nat) (x3 : State → Out State) (h3 : ∀  r, x3
    s = .next r → r.pad = s.pad) :
    (s.ifBit x1 x2 x3).pad = s.pad := by
  unfold State.ifBit
  split
  · cases h : x3 s with
    | next r => simpa [State.then_, h] using h3 r h
    | _ => simp [State.then_, h]
  · rfl

@[simp] theorem State.ifBit_fix (s : State) (x1 : Sys2Proof.Word) (x2 : Nat) (x3 : State → Out State) (h3 : ∀  r, x3
    s = .next r → r.fix = s.fix) :
    (s.ifBit x1 x2 x3).fix = s.fix := by
  unfold State.ifBit
  split
  · cases h : x3 s with
    | next r => simpa [State.then_, h] using h3 r h
    | _ => simp [State.then_, h]
  · rfl

@[simp] theorem State.ifBit_air (s : State) (x1 : Sys2Proof.Word) (x2 : Nat) (x3 : State → Out State) (h3 : ∀  r, x3
    s = .next r → r.air = s.air) :
    (s.ifBit x1 x2 x3).air = s.air := by
  unfold State.ifBit
  split
  · cases h : x3 s with
    | next r => simpa [State.then_, h] using h3 r h
    | _ => simp [State.then_, h]
  · rfl

@[simp] theorem State.ifBit_byl (s : State) (x1 : Sys2Proof.Word) (x2 : Nat) (x3 : State → Out State) (h3 : ∀  r, x3
    s = .next r → r.byl = s.byl) :
    (s.ifBit x1 x2 x3).byl = s.byl := by
  unfold State.ifBit
  split
  · cases h : x3 s with
    | next r => simpa [State.then_, h] using h3 r h
    | _ => simp [State.then_, h]
  · rfl

theorem execSpoofClear_frame (x0 : Nat) (x1 : Requester) (s : State) {s' : State} : execSpoofClear x0 x1 s = .next
    s' →
    s'.cyc = s.cyc + (x0 - s.cyc) ∧ s'.pending = s.pending ∧ s'.hostMem = s.hostMem ∧ s'.live = s.live ∧ s'.whoa =
      s.whoa ∧ s'.chip = s.chip ∧ s'.tack = s.tack ∧ s'.recd = s.recd ∧ s'.net = s.net ∧ s'.tim = s.tim ∧ s'.gnb =
      s.gnb ∧ s'.gait = s.gait ∧ s'.pad = s.pad ∧ s'.air = s.air ∧ s'.byl = s.byl := by
  intro h
  simp only [execSpoofClear] at h
  (repeat' split at h) <;> first | (have h := Host.Outcome.next.inj h; subst h; simp; done) | (have h := Option.some.inj h; subst h; simp; done) | (simp at h; done)

theorem execSvClearAll_frame (x0 : Nat) (x1 : Requester) (s : State) {s' : State} : execSvClearAll x0 x1 s = .next
    s' →
    s'.cyc = s.cyc + (x0 - s.cyc) ∧ s'.pending = s.pending ∧ s'.hostMem = s.hostMem ∧ s'.live = s.live ∧ s'.whoa =
      s.whoa ∧ s'.chip = s.chip ∧ s'.tack = s.tack ∧ s'.recd = s.recd ∧ s'.net = s.net ∧ s'.tim = s.tim ∧ s'.gnb =
      s.gnb ∧ s'.gait = s.gait ∧ s'.pad = s.pad ∧ s'.air = s.air ∧ s'.byl = s.byl := by
  intro h
  simp only [execSvClearAll] at h
  (repeat' split at h) <;> first | (have h := Host.Outcome.next.inj h; subst h; simp; done) | (have h := Option.some.inj h; subst h; simp; done) | (simp at h; done)

theorem execChipRstCmdFullReset_frame (x0 : Nat) (x1 : Requester) (x2 : Sys2Proof.Word) (s : State) {s' : State} :
    execChipRstCmdFullReset x0 x1 x2 s = .next s' →
    s'.cyc = s.cyc + (x0 - s.cyc) ∧ s'.pending = s.pending ∧ s'.hostMem = s.hostMem := by
  intro h
  simp only [execChipRstCmdFullReset] at h
  (repeat' split at h) <;> first | (have h := Host.Outcome.next.inj h; subst h; simp; done) | (have h := Option.some.inj h; subst h; simp; done) | (simp at h; done)

theorem execVoteExclGnss_frame (x0 : Nat) (x1 : Requester) (s : State) {s' : State} : execVoteExclGnss x0 x1 s =
    .next s' →
    s'.cyc = s.cyc + (x0 - s.cyc) ∧ s'.pending = s.pending ∧ s'.hostMem = s.hostMem ∧ s'.live = s.live ∧ s'.whoa =
      s.whoa ∧ s'.chip = s.chip ∧ s'.tack = s.tack ∧ s'.net = s.net ∧ s'.tim = s.tim ∧ s'.gnb = s.gnb ∧ s'.gait =
      s.gait ∧ s'.pad = s.pad ∧ s'.fix = s.fix ∧ s'.air = s.air ∧ s'.byl = s.byl := by
  intro h
  simp only [execVoteExclGnss] at h
  (repeat' split at h) <;> first | (have h := Host.Outcome.next.inj h; subst h; simp; done) | (have h := Option.some.inj h; subst h; simp; done) | (simp at h; done)

theorem execVoteExclA_frame (x0 : Nat) (x1 : Requester) (s : State) {s' : State} : execVoteExclA x0 x1 s = .next s' →
    s'.cyc = s.cyc + (x0 - s.cyc) ∧ s'.pending = s.pending ∧ s'.hostMem = s.hostMem ∧ s'.live = s.live ∧ s'.whoa =
      s.whoa ∧ s'.chip = s.chip ∧ s'.tack = s.tack ∧ s'.net = s.net ∧ s'.tim = s.tim ∧ s'.gnb = s.gnb ∧ s'.gait =
      s.gait ∧ s'.pad = s.pad ∧ s'.fix = s.fix ∧ s'.air = s.air ∧ s'.byl = s.byl := by
  intro h
  simp only [execVoteExclA] at h
  (repeat' split at h) <;> first | (have h := Host.Outcome.next.inj h; subst h; simp; done) | (have h := Option.some.inj h; subst h; simp; done) | (simp at h; done)

theorem execVoteExclB_frame (x0 : Nat) (x1 : Requester) (s : State) {s' : State} : execVoteExclB x0 x1 s = .next s' →
    s'.cyc = s.cyc + (x0 - s.cyc) ∧ s'.pending = s.pending ∧ s'.hostMem = s.hostMem ∧ s'.live = s.live ∧ s'.whoa =
      s.whoa ∧ s'.chip = s.chip ∧ s'.tack = s.tack ∧ s'.net = s.net ∧ s'.tim = s.tim ∧ s'.gnb = s.gnb ∧ s'.gait =
      s.gait ∧ s'.pad = s.pad ∧ s'.fix = s.fix ∧ s'.air = s.air ∧ s'.byl = s.byl := by
  intro h
  simp only [execVoteExclB] at h
  (repeat' split at h) <;> first | (have h := Host.Outcome.next.inj h; subst h; simp; done) | (have h := Option.some.inj h; subst h; simp; done) | (simp at h; done)

theorem execVoteInclGnss_frame (x0 : Nat) (x1 : Requester) (s : State) {s' : State} : execVoteInclGnss x0 x1 s =
    .next s' →
    s'.cyc = s.cyc + (x0 - s.cyc) ∧ s'.pending = s.pending ∧ s'.hostMem = s.hostMem ∧ s'.live = s.live ∧ s'.whoa =
      s.whoa ∧ s'.chip = s.chip ∧ s'.tack = s.tack ∧ s'.recd = s.recd ∧ s'.net = s.net ∧ s'.tim = s.tim ∧ s'.gnb =
      s.gnb ∧ s'.gait = s.gait ∧ s'.pad = s.pad ∧ s'.fix = s.fix ∧ s'.air = s.air ∧ s'.byl = s.byl := by
  intro h
  simp only [execVoteInclGnss] at h
  (repeat' split at h) <;> first | (have h := Host.Outcome.next.inj h; subst h; simp; done) | (have h := Option.some.inj h; subst h; simp; done) | (simp at h; done)

theorem execVoteInclA_frame (x0 : Nat) (x1 : Requester) (s : State) {s' : State} : execVoteInclA x0 x1 s = .next s' →
    s'.cyc = s.cyc + (x0 - s.cyc) ∧ s'.pending = s.pending ∧ s'.hostMem = s.hostMem ∧ s'.live = s.live ∧ s'.whoa =
      s.whoa ∧ s'.chip = s.chip ∧ s'.tack = s.tack ∧ s'.recd = s.recd ∧ s'.net = s.net ∧ s'.tim = s.tim ∧ s'.gnb =
      s.gnb ∧ s'.gait = s.gait ∧ s'.pad = s.pad ∧ s'.fix = s.fix ∧ s'.air = s.air ∧ s'.byl = s.byl := by
  intro h
  simp only [execVoteInclA] at h
  (repeat' split at h) <;> first | (have h := Host.Outcome.next.inj h; subst h; simp; done) | (have h := Option.some.inj h; subst h; simp; done) | (simp at h; done)

theorem execVoteInclB_frame (x0 : Nat) (x1 : Requester) (s : State) {s' : State} : execVoteInclB x0 x1 s = .next s' →
    s'.cyc = s.cyc + (x0 - s.cyc) ∧ s'.pending = s.pending ∧ s'.hostMem = s.hostMem ∧ s'.live = s.live ∧ s'.whoa =
      s.whoa ∧ s'.chip = s.chip ∧ s'.tack = s.tack ∧ s'.recd = s.recd ∧ s'.net = s.net ∧ s'.tim = s.tim ∧ s'.gnb =
      s.gnb ∧ s'.gait = s.gait ∧ s'.pad = s.pad ∧ s'.fix = s.fix ∧ s'.air = s.air ∧ s'.byl = s.byl := by
  intro h
  simp only [execVoteInclB] at h
  (repeat' split at h) <;> first | (have h := Host.Outcome.next.inj h; subst h; simp; done) | (have h := Option.some.inj h; subst h; simp; done) | (simp at h; done)

theorem execClearSuspect_frame (x0 : Nat) (x1 : Requester) (s : State) {s' : State} : execClearSuspect x0 x1 s =
    .next s' →
    s'.cyc = s.cyc + (x0 - s.cyc) ∧ s'.pending = s.pending ∧ s'.hostMem = s.hostMem ∧ s'.live = s.live ∧ s'.whoa =
      s.whoa ∧ s'.chip = s.chip ∧ s'.tack = s.tack ∧ s'.net = s.net ∧ s'.tim = s.tim ∧ s'.gnb = s.gnb ∧ s'.gait =
      s.gait ∧ s'.pad = s.pad ∧ s'.fix = s.fix ∧ s'.air = s.air ∧ s'.byl = s.byl := by
  intro h
  simp only [execClearSuspect] at h
  (repeat' split at h) <;> first | (have h := Host.Outcome.next.inj h; subst h; simp; done) | (have h := Option.some.inj h; subst h; simp; done) | (simp at h; done)

theorem State.writeVote_frame (s : State) (rq : Requester) (v : Word) : Kept s (s.writeVote rq v) := by
  unfold State.writeVote
  exact (((((((State.ifBit_kept _ _ _ _ (fun r h => by have h := execVoteExclGnss_frame _ _ _ h; simp_all [Kept])).trans (State.ifBit_kept _ _ _ _ (fun r h => by have h := execVoteExclA_frame _ _ _ h; simp_all [Kept]))).trans (State.ifBit_kept _ _ _ _ (fun r h => by have h := execVoteExclB_frame _ _ _ h; simp_all [Kept]))).trans (State.ifBit_kept _ _ _ _ (fun r h => by have h := execVoteInclGnss_frame _ _ _ h; simp_all [Kept]))).trans (State.ifBit_kept _ _ _ _ (fun r h => by have h := execVoteInclA_frame _ _ _ h; simp_all [Kept]))).trans (State.ifBit_kept _ _ _ _ (fun r h => by have h := execVoteInclB_frame _ _ _ h; simp_all [Kept]))).trans (State.ifBit_kept _ _ _ _ (fun r h => by have h := execClearSuspect_frame _ _ _ h; simp_all [Kept])))

theorem State.rowWrite_frame (s : State) (rq : Requester) (a : Nat) (v : Word) {s' : State} : State.rowWrite s rq a v = some s' →
    Kept s s' := by
  intro h
  simp only [State.rowWrite] at h
  (repeat' split at h) <;> first | (have h := Option.some.inj h; subst h) | (simp at h; done)
  all_goals first
    | exact State.writeVote_frame _ _ _
    | (simp [Kept]; done)
    | exact State.then__kept _ _ (fun r h => by have h := execDspObsSelWrite_frame _ _ _ _ h; simp_all [Kept])
    | exact State.then__kept _ _ (fun r h => by have h := execAntRearm_frame _ _ _ _ h; simp_all [Kept])
    | exact State.then__kept _ _ (fun r h => by have h := execTrkMaskPrnWrite_frame _ _ _ _ h; simp_all [Kept])
    | exact State.then__kept _ _ (fun r h => by have h := execChipRstCmdFullReset_frame _ _ _ _ h; simp_all [Kept])
    | exact (State.ifBit_kept _ _ _ _ (fun r h => by have h := execSpoofClear_frame _ _ _ h; simp_all [Kept])).trans (State.ifBit_kept _ _ _ _ (fun r h => by have h := execSvClearAll_frame _ _ _ h; simp_all [Kept]))

theorem execTimIncrWrite_frame (x0 : Nat) (x1 : Requester) (x2 : BitVec 64) (s : State) {s' : State} :
    execTimIncrWrite x0 x1 x2 s = .next s' →
    s'.cyc = s.cyc + (x0 - s.cyc) ∧ s'.pending = s.pending ∧ s'.hostMem = s.hostMem ∧ s'.live = s.live ∧ s'.whoa =
      s.whoa ∧ s'.chip = s.chip ∧ s'.tack = s.tack ∧ s'.recd = s.recd ∧ s'.net = s.net ∧ s'.tim = s.tim ∧ s'.gnb =
      s.gnb ∧ s'.gait = s.gait ∧ s'.pad = s.pad ∧ s'.fix = s.fix ∧ s'.air = s.air ∧ s'.byl = s.byl := by
  intro h
  simp only [execTimIncrWrite] at h
  (repeat' split at h) <;> first | (have h := Host.Outcome.next.inj h; subst h; simp; done) | (have h := Option.some.inj h; subst h; simp; done) | (simp at h; done)

theorem State.busWrite_frame (s : State) (rq : Requester) (a : Nat) (v x : Word) : Kept s (s.busWrite rq a v x) := by
  simp only [State.busWrite]
  split
  · rename_i h
    exact State.rowWrite_frame _ _ _ _ h
  · split
    · split
      · exact State.then__kept _ _ (fun r h => by have h := execTimIncrWrite_frame _ _ _ _ h; simp_all [Kept])
      · simp [Kept]
    · (repeat' split) <;> simp [Kept]

theorem execHifNop_frame (x0 : Nat) (x1 : Item) (s : State) {s' : State} : execHifNop x0 x1 s = .next s' →
    s'.cyc = s.cyc + (x0 - s.cyc) ∧ s'.pending = s.pending ∧ s'.hostMem = s.hostMem ∧ s'.live = s.live ∧ s'.whoa =
      s.whoa ∧ s'.chip = s.chip ∧ s'.tack = s.tack ∧ s'.recd = s.recd ∧ s'.net = s.net ∧ s'.tim = s.tim ∧ s'.gnb =
      s.gnb ∧ s'.gait = s.gait ∧ s'.pad = s.pad ∧ s'.fix = s.fix ∧ s'.air = s.air ∧ s'.byl = s.byl := by
  intro h
  simp only [execHifNop] at h
  (repeat' split at h) <;> first | (have h := Host.Outcome.next.inj h; subst h; simp; done) | (have h := Option.some.inj h; subst h; simp; done) | (simp at h; done)

theorem execHifSuspend_frame (x0 : Nat) (x1 : Item) (s : State) {s' : State} : execHifSuspend x0 x1 s = .next s' →
    s'.cyc = s.cyc + (x0 - s.cyc) ∧ s'.pending = s.pending ∧ s'.hostMem = s.hostMem ∧ s'.live = s.live ∧ s'.whoa =
      s.whoa ∧ s'.chip = s.chip ∧ s'.tack = s.tack ∧ s'.recd = s.recd ∧ s'.net = s.net ∧ s'.tim = s.tim ∧ s'.gnb =
      s.gnb ∧ s'.gait = s.gait ∧ s'.pad = s.pad ∧ s'.fix = s.fix ∧ s'.air = s.air ∧ s'.byl = s.byl := by
  intro h
  simp only [execHifSuspend] at h
  have h := Host.Outcome.next.inj h
  subst h
  refine ⟨?_, ?_, ?_, ?_, ?_, ?_, ?_, ?_, ?_, ?_, ?_, ?_, ?_, ?_, ?_, ?_⟩
  · first | refine (State.runOp_cyc _ _ _ _ _ _ ?_).trans (by simp) | refine (State.sessOp_cyc _ _ _ _ _ _ _ ?_).trans (by simp) | refine (State.tackOp_cyc _ _ _ _ _ ?_).trans (by simp)
    intro b x r h; subst h; (repeat' split) <;> simp
  · first | refine (State.runOp_pending _ _ _ _ _ _ ?_).trans (by simp) | refine (State.sessOp_pending _ _ _ _ _ _ _ ?_).trans (by simp) | refine (State.tackOp_pending _ _ _ _ _ ?_).trans (by simp)
    intro b x r h; subst h; (repeat' split) <;> simp
  · first | refine (State.runOp_hostMem _ _ _ _ _ _ ?_).trans (by simp) | refine (State.sessOp_hostMem _ _ _ _ _ _ _ ?_).trans (by simp) | refine (State.tackOp_hostMem _ _ _ _ _ ?_).trans (by simp)
    intro b x r h; subst h; (repeat' split) <;> simp
  · first | refine (State.runOp_live _ _ _ _ _ _ ?_).trans (by simp) | refine (State.sessOp_live _ _ _ _ _ _ _ ?_).trans (by simp) | refine (State.tackOp_live _ _ _ _ _ ?_).trans (by simp)
    intro b x r h; subst h; (repeat' split) <;> simp
  · first | refine (State.runOp_whoa _ _ _ _ _ _ ?_).trans (by simp) | refine (State.sessOp_whoa _ _ _ _ _ _ _ ?_).trans (by simp) | refine (State.tackOp_whoa _ _ _ _ _ ?_).trans (by simp)
    intro b x r h; subst h; (repeat' split) <;> simp
  · first | refine (State.runOp_chip _ _ _ _ _ _ ?_).trans (by simp) | refine (State.sessOp_chip _ _ _ _ _ _ _ ?_).trans (by simp) | refine (State.tackOp_chip _ _ _ _ _ ?_).trans (by simp)
    intro b x r h; subst h; (repeat' split) <;> simp
  · first | refine (State.runOp_tack _ _ _ _ _ _ ?_).trans (by simp) | refine (State.sessOp_tack _ _ _ _ _ _ _ ?_).trans (by simp) | refine (State.tackOp_tack _ _ _ _ _ ?_).trans (by simp)
    intro b x r h; subst h; (repeat' split) <;> simp
  · first | refine (State.runOp_recd _ _ _ _ _ _ ?_).trans (by simp) | refine (State.sessOp_recd _ _ _ _ _ _ _ ?_).trans (by simp) | refine (State.tackOp_recd _ _ _ _ _ ?_).trans (by simp)
    intro b x r h; subst h; (repeat' split) <;> simp
  · first | refine (State.runOp_net _ _ _ _ _ _ ?_).trans (by simp) | refine (State.sessOp_net _ _ _ _ _ _ _ ?_).trans (by simp) | refine (State.tackOp_net _ _ _ _ _ ?_).trans (by simp)
    intro b x r h; subst h; (repeat' split) <;> simp
  · first | refine (State.runOp_tim _ _ _ _ _ _ ?_).trans (by simp) | refine (State.sessOp_tim _ _ _ _ _ _ _ ?_).trans (by simp) | refine (State.tackOp_tim _ _ _ _ _ ?_).trans (by simp)
    intro b x r h; subst h; (repeat' split) <;> simp
  · first | refine (State.runOp_gnb _ _ _ _ _ _ ?_).trans (by simp) | refine (State.sessOp_gnb _ _ _ _ _ _ _ ?_).trans (by simp) | refine (State.tackOp_gnb _ _ _ _ _ ?_).trans (by simp)
    intro b x r h; subst h; (repeat' split) <;> simp
  · first | refine (State.runOp_gait _ _ _ _ _ _ ?_).trans (by simp) | refine (State.sessOp_gait _ _ _ _ _ _ _ ?_).trans (by simp) | refine (State.tackOp_gait _ _ _ _ _ ?_).trans (by simp)
    intro b x r h; subst h; (repeat' split) <;> simp
  · first | refine (State.runOp_pad _ _ _ _ _ _ ?_).trans (by simp) | refine (State.sessOp_pad _ _ _ _ _ _ _ ?_).trans (by simp) | refine (State.tackOp_pad _ _ _ _ _ ?_).trans (by simp)
    intro b x r h; subst h; (repeat' split) <;> simp
  · first | refine (State.runOp_fix _ _ _ _ _ _ ?_).trans (by simp) | refine (State.sessOp_fix _ _ _ _ _ _ _ ?_).trans (by simp) | refine (State.tackOp_fix _ _ _ _ _ ?_).trans (by simp)
    intro b x r h; subst h; (repeat' split) <;> simp
  · first | refine (State.runOp_air _ _ _ _ _ _ ?_).trans (by simp) | refine (State.sessOp_air _ _ _ _ _ _ _ ?_).trans (by simp) | refine (State.tackOp_air _ _ _ _ _ ?_).trans (by simp)
    intro b x r h; subst h; (repeat' split) <;> simp
  · first | refine (State.runOp_byl _ _ _ _ _ _ ?_).trans (by simp) | refine (State.sessOp_byl _ _ _ _ _ _ _ ?_).trans (by simp) | refine (State.tackOp_byl _ _ _ _ _ ?_).trans (by simp)
    intro b x r h; subst h; (repeat' split) <;> simp

theorem execHifResume_frame (x0 : Nat) (x1 : Item) (s : State) {s' : State} : execHifResume x0 x1 s = .next s' →
    s'.cyc = s.cyc + (x0 - s.cyc) ∧ s'.pending = s.pending ∧ s'.hostMem = s.hostMem ∧ s'.live = s.live ∧ s'.whoa =
      s.whoa ∧ s'.chip = s.chip ∧ s'.recd = s.recd ∧ s'.net = s.net ∧ s'.tim = s.tim ∧ s'.gait = s.gait ∧ s'.pad =
      s.pad ∧ s'.fix = s.fix ∧ s'.air = s.air ∧ s'.byl = s.byl := by
  intro h
  simp only [execHifResume] at h
  have h := Host.Outcome.next.inj h
  subst h
  refine ⟨?_, ?_, ?_, ?_, ?_, ?_, ?_, ?_, ?_, ?_, ?_, ?_, ?_, ?_⟩
  · first | refine (State.runOp_cyc _ _ _ _ _ _ ?_).trans (by simp) | refine (State.sessOp_cyc _ _ _ _ _ _ _ ?_).trans (by simp) | refine (State.tackOp_cyc _ _ _ _ _ ?_).trans (by simp)
    intro b x r h; subst h; (repeat' split) <;> simp
  · first | refine (State.runOp_pending _ _ _ _ _ _ ?_).trans (by simp) | refine (State.sessOp_pending _ _ _ _ _ _ _ ?_).trans (by simp) | refine (State.tackOp_pending _ _ _ _ _ ?_).trans (by simp)
    intro b x r h; subst h; (repeat' split) <;> simp
  · first | refine (State.runOp_hostMem _ _ _ _ _ _ ?_).trans (by simp) | refine (State.sessOp_hostMem _ _ _ _ _ _ _ ?_).trans (by simp) | refine (State.tackOp_hostMem _ _ _ _ _ ?_).trans (by simp)
    intro b x r h; subst h; (repeat' split) <;> simp
  · first | refine (State.runOp_live _ _ _ _ _ _ ?_).trans (by simp) | refine (State.sessOp_live _ _ _ _ _ _ _ ?_).trans (by simp) | refine (State.tackOp_live _ _ _ _ _ ?_).trans (by simp)
    intro b x r h; subst h; (repeat' split) <;> simp
  · first | refine (State.runOp_whoa _ _ _ _ _ _ ?_).trans (by simp) | refine (State.sessOp_whoa _ _ _ _ _ _ _ ?_).trans (by simp) | refine (State.tackOp_whoa _ _ _ _ _ ?_).trans (by simp)
    intro b x r h; subst h; (repeat' split) <;> simp
  · first | refine (State.runOp_chip _ _ _ _ _ _ ?_).trans (by simp) | refine (State.sessOp_chip _ _ _ _ _ _ _ ?_).trans (by simp) | refine (State.tackOp_chip _ _ _ _ _ ?_).trans (by simp)
    intro b x r h; subst h; (repeat' split) <;> simp
  · first | refine (State.runOp_recd _ _ _ _ _ _ ?_).trans (by simp) | refine (State.sessOp_recd _ _ _ _ _ _ _ ?_).trans (by simp) | refine (State.tackOp_recd _ _ _ _ _ ?_).trans (by simp)
    intro b x r h; subst h; (repeat' split) <;> simp
  · first | refine (State.runOp_net _ _ _ _ _ _ ?_).trans (by simp) | refine (State.sessOp_net _ _ _ _ _ _ _ ?_).trans (by simp) | refine (State.tackOp_net _ _ _ _ _ ?_).trans (by simp)
    intro b x r h; subst h; (repeat' split) <;> simp
  · first | refine (State.runOp_tim _ _ _ _ _ _ ?_).trans (by simp) | refine (State.sessOp_tim _ _ _ _ _ _ _ ?_).trans (by simp) | refine (State.tackOp_tim _ _ _ _ _ ?_).trans (by simp)
    intro b x r h; subst h; (repeat' split) <;> simp
  · first | refine (State.runOp_gait _ _ _ _ _ _ ?_).trans (by simp) | refine (State.sessOp_gait _ _ _ _ _ _ _ ?_).trans (by simp) | refine (State.tackOp_gait _ _ _ _ _ ?_).trans (by simp)
    intro b x r h; subst h; (repeat' split) <;> simp
  · first | refine (State.runOp_pad _ _ _ _ _ _ ?_).trans (by simp) | refine (State.sessOp_pad _ _ _ _ _ _ _ ?_).trans (by simp) | refine (State.tackOp_pad _ _ _ _ _ ?_).trans (by simp)
    intro b x r h; subst h; (repeat' split) <;> simp
  · first | refine (State.runOp_fix _ _ _ _ _ _ ?_).trans (by simp) | refine (State.sessOp_fix _ _ _ _ _ _ _ ?_).trans (by simp) | refine (State.tackOp_fix _ _ _ _ _ ?_).trans (by simp)
    intro b x r h; subst h; (repeat' split) <;> simp
  · first | refine (State.runOp_air _ _ _ _ _ _ ?_).trans (by simp) | refine (State.sessOp_air _ _ _ _ _ _ _ ?_).trans (by simp) | refine (State.tackOp_air _ _ _ _ _ ?_).trans (by simp)
    intro b x r h; subst h; (repeat' split) <;> simp
  · first | refine (State.runOp_byl _ _ _ _ _ _ ?_).trans (by simp) | refine (State.sessOp_byl _ _ _ _ _ _ _ ?_).trans (by simp) | refine (State.tackOp_byl _ _ _ _ _ ?_).trans (by simp)
    intro b x r h; subst h; (repeat' split) <;> simp

theorem execHifCancel_frame (x0 : Nat) (x1 : Item) (s : State) {s' : State} : execHifCancel x0 x1 s = .next s' →
    s'.cyc = s.cyc + (x0 - s.cyc) ∧ s'.pending = s.pending ∧ s'.hostMem = s.hostMem ∧ s'.live = s.live ∧ s'.whoa =
      s.whoa ∧ s'.net = s.net ∧ s'.gait = s.gait ∧ s'.air = s.air := by
  intro h
  simp only [execHifCancel] at h
  have h := Host.Outcome.next.inj h
  subst h
  refine ⟨?_, ?_, ?_, ?_, ?_, ?_, ?_, ?_⟩
  · first | refine (State.runOp_cyc _ _ _ _ _ _ ?_).trans (by simp) | refine (State.sessOp_cyc _ _ _ _ _ _ _ ?_).trans (by simp) | refine (State.tackOp_cyc _ _ _ _ _ ?_).trans (by simp)
    intro b x r h; subst h; (repeat' split) <;> simp
  · first | refine (State.runOp_pending _ _ _ _ _ _ ?_).trans (by simp) | refine (State.sessOp_pending _ _ _ _ _ _ _ ?_).trans (by simp) | refine (State.tackOp_pending _ _ _ _ _ ?_).trans (by simp)
    intro b x r h; subst h; (repeat' split) <;> simp
  · first | refine (State.runOp_hostMem _ _ _ _ _ _ ?_).trans (by simp) | refine (State.sessOp_hostMem _ _ _ _ _ _ _ ?_).trans (by simp) | refine (State.tackOp_hostMem _ _ _ _ _ ?_).trans (by simp)
    intro b x r h; subst h; (repeat' split) <;> simp
  · first | refine (State.runOp_live _ _ _ _ _ _ ?_).trans (by simp) | refine (State.sessOp_live _ _ _ _ _ _ _ ?_).trans (by simp) | refine (State.tackOp_live _ _ _ _ _ ?_).trans (by simp)
    intro b x r h; subst h; (repeat' split) <;> simp
  · first | refine (State.runOp_whoa _ _ _ _ _ _ ?_).trans (by simp) | refine (State.sessOp_whoa _ _ _ _ _ _ _ ?_).trans (by simp) | refine (State.tackOp_whoa _ _ _ _ _ ?_).trans (by simp)
    intro b x r h; subst h; (repeat' split) <;> simp
  · first | refine (State.runOp_net _ _ _ _ _ _ ?_).trans (by simp) | refine (State.sessOp_net _ _ _ _ _ _ _ ?_).trans (by simp) | refine (State.tackOp_net _ _ _ _ _ ?_).trans (by simp)
    intro b x r h; subst h; (repeat' split) <;> simp
  · first | refine (State.runOp_gait _ _ _ _ _ _ ?_).trans (by simp) | refine (State.sessOp_gait _ _ _ _ _ _ _ ?_).trans (by simp) | refine (State.tackOp_gait _ _ _ _ _ ?_).trans (by simp)
    intro b x r h; subst h; (repeat' split) <;> simp
  · first | refine (State.runOp_air _ _ _ _ _ _ ?_).trans (by simp) | refine (State.sessOp_air _ _ _ _ _ _ _ ?_).trans (by simp) | refine (State.tackOp_air _ _ _ _ _ ?_).trans (by simp)
    intro b x r h; subst h; (repeat' split) <;> simp

theorem execQueryOp_frame (x0 : Nat) (x1 : Item) (s : State) {s' : State} : execQueryOp x0 x1 s = .next s' →
    s'.cyc = s.cyc + (x0 - s.cyc) ∧ s'.pending = s.pending ∧ s'.hostMem = s.hostMem ∧ s'.live = s.live ∧ s'.whoa =
      s.whoa ∧ s'.chip = s.chip ∧ s'.tack = s.tack ∧ s'.recd = s.recd ∧ s'.net = s.net ∧ s'.tim = s.tim ∧ s'.gnb =
      s.gnb ∧ s'.gait = s.gait ∧ s'.pad = s.pad ∧ s'.fix = s.fix ∧ s'.air = s.air ∧ s'.byl = s.byl := by
  intro h
  simp only [execQueryOp] at h
  have h := Host.Outcome.next.inj h
  subst h
  refine ⟨?_, ?_, ?_, ?_, ?_, ?_, ?_, ?_, ?_, ?_, ?_, ?_, ?_, ?_, ?_, ?_⟩
  · first | refine (State.runOp_cyc _ _ _ _ _ _ ?_).trans (by simp) | refine (State.sessOp_cyc _ _ _ _ _ _ _ ?_).trans (by simp) | refine (State.tackOp_cyc _ _ _ _ _ ?_).trans (by simp)
    intro b x r h; subst h; (repeat' split) <;> simp
  · first | refine (State.runOp_pending _ _ _ _ _ _ ?_).trans (by simp) | refine (State.sessOp_pending _ _ _ _ _ _ _ ?_).trans (by simp) | refine (State.tackOp_pending _ _ _ _ _ ?_).trans (by simp)
    intro b x r h; subst h; (repeat' split) <;> simp
  · first | refine (State.runOp_hostMem _ _ _ _ _ _ ?_).trans (by simp) | refine (State.sessOp_hostMem _ _ _ _ _ _ _ ?_).trans (by simp) | refine (State.tackOp_hostMem _ _ _ _ _ ?_).trans (by simp)
    intro b x r h; subst h; (repeat' split) <;> simp
  · first | refine (State.runOp_live _ _ _ _ _ _ ?_).trans (by simp) | refine (State.sessOp_live _ _ _ _ _ _ _ ?_).trans (by simp) | refine (State.tackOp_live _ _ _ _ _ ?_).trans (by simp)
    intro b x r h; subst h; (repeat' split) <;> simp
  · first | refine (State.runOp_whoa _ _ _ _ _ _ ?_).trans (by simp) | refine (State.sessOp_whoa _ _ _ _ _ _ _ ?_).trans (by simp) | refine (State.tackOp_whoa _ _ _ _ _ ?_).trans (by simp)
    intro b x r h; subst h; (repeat' split) <;> simp
  · first | refine (State.runOp_chip _ _ _ _ _ _ ?_).trans (by simp) | refine (State.sessOp_chip _ _ _ _ _ _ _ ?_).trans (by simp) | refine (State.tackOp_chip _ _ _ _ _ ?_).trans (by simp)
    intro b x r h; subst h; (repeat' split) <;> simp
  · first | refine (State.runOp_tack _ _ _ _ _ _ ?_).trans (by simp) | refine (State.sessOp_tack _ _ _ _ _ _ _ ?_).trans (by simp) | refine (State.tackOp_tack _ _ _ _ _ ?_).trans (by simp)
    intro b x r h; subst h; (repeat' split) <;> simp
  · first | refine (State.runOp_recd _ _ _ _ _ _ ?_).trans (by simp) | refine (State.sessOp_recd _ _ _ _ _ _ _ ?_).trans (by simp) | refine (State.tackOp_recd _ _ _ _ _ ?_).trans (by simp)
    intro b x r h; subst h; (repeat' split) <;> simp
  · first | refine (State.runOp_net _ _ _ _ _ _ ?_).trans (by simp) | refine (State.sessOp_net _ _ _ _ _ _ _ ?_).trans (by simp) | refine (State.tackOp_net _ _ _ _ _ ?_).trans (by simp)
    intro b x r h; subst h; (repeat' split) <;> simp
  · first | refine (State.runOp_tim _ _ _ _ _ _ ?_).trans (by simp) | refine (State.sessOp_tim _ _ _ _ _ _ _ ?_).trans (by simp) | refine (State.tackOp_tim _ _ _ _ _ ?_).trans (by simp)
    intro b x r h; subst h; (repeat' split) <;> simp
  · first | refine (State.runOp_gnb _ _ _ _ _ _ ?_).trans (by simp) | refine (State.sessOp_gnb _ _ _ _ _ _ _ ?_).trans (by simp) | refine (State.tackOp_gnb _ _ _ _ _ ?_).trans (by simp)
    intro b x r h; subst h; (repeat' split) <;> simp
  · first | refine (State.runOp_gait _ _ _ _ _ _ ?_).trans (by simp) | refine (State.sessOp_gait _ _ _ _ _ _ _ ?_).trans (by simp) | refine (State.tackOp_gait _ _ _ _ _ ?_).trans (by simp)
    intro b x r h; subst h; (repeat' split) <;> simp
  · first | refine (State.runOp_pad _ _ _ _ _ _ ?_).trans (by simp) | refine (State.sessOp_pad _ _ _ _ _ _ _ ?_).trans (by simp) | refine (State.tackOp_pad _ _ _ _ _ ?_).trans (by simp)
    intro b x r h; subst h; (repeat' split) <;> simp
  · first | refine (State.runOp_fix _ _ _ _ _ _ ?_).trans (by simp) | refine (State.sessOp_fix _ _ _ _ _ _ _ ?_).trans (by simp) | refine (State.tackOp_fix _ _ _ _ _ ?_).trans (by simp)
    intro b x r h; subst h; (repeat' split) <;> simp
  · first | refine (State.runOp_air _ _ _ _ _ _ ?_).trans (by simp) | refine (State.sessOp_air _ _ _ _ _ _ _ ?_).trans (by simp) | refine (State.tackOp_air _ _ _ _ _ ?_).trans (by simp)
    intro b x r h; subst h; (repeat' split) <;> simp
  · first | refine (State.runOp_byl _ _ _ _ _ _ ?_).trans (by simp) | refine (State.sessOp_byl _ _ _ _ _ _ _ ?_).trans (by simp) | refine (State.tackOp_byl _ _ _ _ _ ?_).trans (by simp)
    intro b x r h; subst h; (repeat' split) <;> simp

theorem execSchedLoad_frame (x0 : Nat) (x1 : Item) (x2 : List Sys2Proof.Byte) (s : State) {s' : State} :
    execSchedLoad x0 x1 x2 s = .next s' →
    s'.cyc = s.cyc + (x0 - s.cyc) ∧ s'.pending = s.pending ∧ s'.hostMem = s.hostMem ∧ s'.live = s.live ∧ s'.whoa =
      s.whoa ∧ s'.chip = s.chip ∧ s'.tack = s.tack ∧ s'.recd = s.recd ∧ s'.net = s.net ∧ s'.tim = s.tim ∧ s'.gnb =
      s.gnb ∧ s'.gait = s.gait ∧ s'.pad = s.pad ∧ s'.fix = s.fix := by
  intro h
  simp only [execSchedLoad] at h
  (repeat' split at h) <;> first | (have h := Host.Outcome.next.inj h; subst h; simp; done) | (have h := Option.some.inj h; subst h; simp; done) | (simp at h; done)

theorem execSessionAccept_frame (x0 : Nat) (x1 : Item) (x2 : BitVec 128) (s : State) {s' : State} :
    execSessionAccept x0 x1 x2 s = .next s' →
    s'.cyc = s.cyc + (x0 - s.cyc) ∧ s'.pending = s.pending ∧ s'.hostMem = s.hostMem ∧ s'.live = s.live ∧ s'.whoa =
      s.whoa ∧ s'.chip = s.chip ∧ s'.recd = s.recd ∧ s'.net = s.net ∧ s'.tim = s.tim ∧ s'.gnb = s.gnb ∧ s'.gait =
      s.gait ∧ s'.pad = s.pad ∧ s'.fix = s.fix := by
  intro h
  simp only [execSessionAccept] at h
  (repeat' split at h) <;> first | (have h := Host.Outcome.next.inj h; subst h; simp; done) | (have h := Option.some.inj h; subst h; simp; done) | (simp at h; done)

theorem execSessionRefuse_frame (x0 : Nat) (x1 : Item) (s : State) {s' : State} : execSessionRefuse x0 x1 s = .next
    s' →
    s'.cyc = s.cyc + (x0 - s.cyc) ∧ s'.pending = s.pending ∧ s'.hostMem = s.hostMem ∧ s'.live = s.live ∧ s'.whoa =
      s.whoa ∧ s'.chip = s.chip ∧ s'.tack = s.tack ∧ s'.recd = s.recd ∧ s'.net = s.net ∧ s'.tim = s.tim ∧ s'.gnb =
      s.gnb ∧ s'.gait = s.gait ∧ s'.pad = s.pad ∧ s'.fix = s.fix ∧ s'.byl = s.byl := by
  intro h
  simp only [execSessionRefuse] at h
  (repeat' split at h) <;> first | (have h := Host.Outcome.next.inj h; subst h; simp; done) | (have h := Option.some.inj h; subst h; simp; done) | (simp at h; done)

theorem execSessionLeave_frame (x0 : Nat) (x1 : Item) (s : State) {s' : State} : execSessionLeave x0 x1 s = .next s' →
    s'.cyc = s.cyc + (x0 - s.cyc) ∧ s'.pending = s.pending ∧ s'.hostMem = s.hostMem ∧ s'.live = s.live ∧ s'.whoa =
      s.whoa ∧ s'.chip = s.chip ∧ s'.recd = s.recd ∧ s'.net = s.net ∧ s'.tim = s.tim ∧ s'.gnb = s.gnb := by
  intro h
  simp only [execSessionLeave] at h
  (repeat' split at h) <;> first | (have h := Host.Outcome.next.inj h; subst h; simp; done) | (have h := Option.some.inj h; subst h; simp; done) | (simp at h; done)

theorem execSessionSleep_frame (x0 : Nat) (x1 : Item) (s : State) {s' : State} : execSessionSleep x0 x1 s = .next s' →
    s'.cyc = s.cyc + (x0 - s.cyc) ∧ s'.pending = s.pending ∧ s'.hostMem = s.hostMem ∧ s'.live = s.live ∧ s'.whoa =
      s.whoa ∧ s'.chip = s.chip ∧ s'.tack = s.tack ∧ s'.recd = s.recd ∧ s'.net = s.net ∧ s'.tim = s.tim ∧ s'.gnb =
      s.gnb ∧ s'.gait = s.gait ∧ s'.pad = s.pad ∧ s'.fix = s.fix ∧ s'.byl = s.byl := by
  intro h
  simp only [execSessionSleep] at h
  (repeat' split at h) <;> first | (have h := Host.Outcome.next.inj h; subst h; simp; done) | (have h := Option.some.inj h; subst h; simp; done) | (simp at h; done)

theorem execSessionWake_frame (x0 : Nat) (x1 : Item) (s : State) {s' : State} : execSessionWake x0 x1 s = .next s' →
    s'.cyc = s.cyc + (x0 - s.cyc) ∧ s'.pending = s.pending ∧ s'.hostMem = s.hostMem ∧ s'.live = s.live ∧ s'.whoa =
      s.whoa ∧ s'.chip = s.chip ∧ s'.tack = s.tack ∧ s'.recd = s.recd ∧ s'.net = s.net ∧ s'.tim = s.tim ∧ s'.gnb =
      s.gnb ∧ s'.gait = s.gait ∧ s'.pad = s.pad ∧ s'.fix = s.fix ∧ s'.byl = s.byl := by
  intro h
  simp only [execSessionWake] at h
  (repeat' split at h) <;> first | (have h := Host.Outcome.next.inj h; subst h; simp; done) | (have h := Option.some.inj h; subst h; simp; done) | (simp at h; done)

theorem execSetRoute_frame (x0 : Nat) (x1 : Item) (s : State) {s' : State} : execSetRoute x0 x1 s = .next s' →
    s'.cyc = s.cyc + (x0 - s.cyc) ∧ s'.pending = s.pending ∧ s'.hostMem = s.hostMem ∧ s'.live = s.live ∧ s'.whoa =
      s.whoa ∧ s'.chip = s.chip ∧ s'.tack = s.tack ∧ s'.recd = s.recd ∧ s'.net = s.net ∧ s'.tim = s.tim ∧ s'.gnb =
      s.gnb ∧ s'.gait = s.gait ∧ s'.pad = s.pad ∧ s'.fix = s.fix ∧ s'.byl = s.byl := by
  intro h
  simp only [execSetRoute] at h
  (repeat' split at h) <;> first | (have h := Host.Outcome.next.inj h; subst h; simp; done) | (have h := Option.some.inj h; subst h; simp; done) | (simp at h; done)

theorem execSetJoinKey_frame (x0 : Nat) (x1 : Item) (s : State) {s' : State} : execSetJoinKey x0 x1 s = .next s' →
    s'.cyc = s.cyc + (x0 - s.cyc) ∧ s'.pending = s.pending ∧ s'.hostMem = s.hostMem ∧ s'.live = s.live ∧ s'.whoa =
      s.whoa ∧ s'.chip = s.chip ∧ s'.tack = s.tack ∧ s'.recd = s.recd ∧ s'.net = s.net ∧ s'.tim = s.tim ∧ s'.gnb =
      s.gnb ∧ s'.gait = s.gait ∧ s'.pad = s.pad ∧ s'.fix = s.fix ∧ s'.air = s.air ∧ s'.byl = s.byl := by
  intro h
  simp only [execSetJoinKey] at h
  (repeat' split at h) <;> first | (have h := Host.Outcome.next.inj h; subst h; simp; done) | (have h := Option.some.inj h; subst h; simp; done) | (simp at h; done)

theorem execCompatInject_frame (x0 : Nat) (x1 : Item) (x2 : List Sys2Proof.Byte) (x3 : List Opening) (s : State) {s'
    : State} : execCompatInject x0 x1 x2 x3 s = .next s' →
    s'.cyc = s.cyc + (x0 - s.cyc) ∧ s'.pending = s.pending ∧ s'.hostMem = s.hostMem ∧ s'.live = s.live ∧ s'.whoa =
      s.whoa ∧ s'.chip = s.chip ∧ s'.recd = s.recd ∧ s'.net = s.net ∧ s'.tim = s.tim ∧ s'.gnb = s.gnb := by
  intro h
  simp only [execCompatInject] at h
  (repeat' split at h) <;> first | (have h := Host.Outcome.next.inj h; subst h; simp; done) | (have h := Option.some.inj h; subst h; simp; done) | (simp at h; done)

theorem execSetBeaconKey_frame (x0 : Nat) (x1 : Item) (s : State) {s' : State} : execSetBeaconKey x0 x1 s = .next s' →
    s'.cyc = s.cyc + (x0 - s.cyc) ∧ s'.pending = s.pending ∧ s'.hostMem = s.hostMem ∧ s'.live = s.live ∧ s'.whoa =
      s.whoa ∧ s'.chip = s.chip ∧ s'.tack = s.tack ∧ s'.recd = s.recd ∧ s'.net = s.net ∧ s'.tim = s.tim ∧ s'.gnb =
      s.gnb ∧ s'.gait = s.gait ∧ s'.pad = s.pad ∧ s'.fix = s.fix ∧ s'.air = s.air ∧ s'.byl = s.byl := by
  intro h
  simp only [execSetBeaconKey] at h
  (repeat' split at h) <;> first | (have h := Host.Outcome.next.inj h; subst h; simp; done) | (have h := Option.some.inj h; subst h; simp; done) | (simp at h; done)

theorem execReinit_frame (x0 : Nat) (x1 : Item) (x2 : List Sys2Proof.Byte) (s : State) {s' : State} : execReinit x0
    x1 x2 s = .next s' →
    s'.cyc = s.cyc + (x0 - s.cyc) ∧ s'.pending = s.pending ∧ s'.hostMem = s.hostMem ∧ s'.live = s.live ∧ s'.whoa =
      s.whoa ∧ s'.chip = s.chip ∧ s'.tack = s.tack ∧ s'.recd = s.recd ∧ s'.net = s.net ∧ s'.tim = s.tim ∧ s'.gnb =
      s.gnb ∧ s'.gait = s.gait ∧ s'.pad = s.pad ∧ s'.air = s.air ∧ s'.byl = s.byl := by
  intro h
  simp only [execReinit] at h
  (repeat' split at h) <;> first | (have h := Host.Outcome.next.inj h; subst h; simp; done) | (have h := Option.some.inj h; subst h; simp; done) | (simp at h; done)

theorem execResetCtx_frame (x0 : Nat) (x1 : Item) (s : State) {s' : State} : execResetCtx x0 x1 s = .next s' →
    s'.cyc = s.cyc + (x0 - s.cyc) ∧ s'.pending = s.pending ∧ s'.hostMem = s.hostMem ∧ s'.live = s.live ∧ s'.whoa =
      s.whoa ∧ s'.chip = s.chip ∧ s'.tack = s.tack ∧ s'.recd = s.recd ∧ s'.net = s.net ∧ s'.tim = s.tim ∧ s'.gnb =
      s.gnb ∧ s'.gait = s.gait ∧ s'.pad = s.pad ∧ s'.air = s.air ∧ s'.byl = s.byl := by
  intro h
  simp only [execResetCtx] at h
  (repeat' split at h) <;> first | (have h := Host.Outcome.next.inj h; subst h; simp; done) | (have h := Option.some.inj h; subst h; simp; done) | (simp at h; done)

theorem execReadCtx_frame (x0 : Nat) (x1 : Item) (s : State) {s' : State} : execReadCtx x0 x1 s = .next s' →
    s'.cyc = s.cyc + (x0 - s.cyc) ∧ s'.pending = s.pending ∧ s'.hostMem = s.hostMem ∧ s'.live = s.live ∧ s'.whoa =
      s.whoa ∧ s'.chip = s.chip ∧ s'.tack = s.tack ∧ s'.recd = s.recd ∧ s'.net = s.net ∧ s'.tim = s.tim ∧ s'.gnb =
      s.gnb ∧ s'.gait = s.gait ∧ s'.pad = s.pad ∧ s'.fix = s.fix ∧ s'.air = s.air ∧ s'.byl = s.byl := by
  intro h
  simp only [execReadCtx] at h
  (repeat' split at h) <;> first | (have h := Host.Outcome.next.inj h; subst h; simp; done) | (have h := Option.some.inj h; subst h; simp; done) | (simp at h; done)

theorem execSetTrack_frame (x0 : Nat) (x1 : Item) (x2 : List Sys2Proof.Byte) (s : State) {s' : State} : execSetTrack
    x0 x1 x2 s = .next s' →
    s'.cyc = s.cyc + (x0 - s.cyc) ∧ s'.pending = s.pending ∧ s'.hostMem = s.hostMem ∧ s'.live = s.live ∧ s'.whoa =
      s.whoa ∧ s'.chip = s.chip ∧ s'.tack = s.tack ∧ s'.recd = s.recd ∧ s'.net = s.net ∧ s'.tim = s.tim ∧ s'.gnb =
      s.gnb ∧ s'.pad = s.pad ∧ s'.fix = s.fix ∧ s'.air = s.air ∧ s'.byl = s.byl := by
  intro h
  simp only [execSetTrack] at h
  (repeat' split at h) <;> first | (have h := Host.Outcome.next.inj h; subst h; simp; done) | (have h := Option.some.inj h; subst h; simp; done) | (simp at h; done)

theorem execSetLimits_frame (x0 : Nat) (x1 : Item) (s : State) {s' : State} : execSetLimits x0 x1 s = .next s' →
    s'.cyc = s.cyc + (x0 - s.cyc) ∧ s'.pending = s.pending ∧ s'.hostMem = s.hostMem ∧ s'.live = s.live ∧ s'.whoa =
      s.whoa ∧ s'.chip = s.chip ∧ s'.tack = s.tack ∧ s'.recd = s.recd ∧ s'.net = s.net ∧ s'.tim = s.tim ∧ s'.gnb =
      s.gnb ∧ s'.pad = s.pad ∧ s'.fix = s.fix ∧ s'.air = s.air := by
  intro h
  simp only [execSetLimits] at h
  have h := Host.Outcome.next.inj h
  subst h
  refine ⟨?_, ?_, ?_, ?_, ?_, ?_, ?_, ?_, ?_, ?_, ?_, ?_, ?_, ?_⟩
  · first | refine (State.runOp_cyc _ _ _ _ _ _ ?_).trans (by simp) | refine (State.sessOp_cyc _ _ _ _ _ _ _ ?_).trans (by simp) | refine (State.tackOp_cyc _ _ _ _ _ ?_).trans (by simp)
    intro b x r h; subst h; (repeat' split) <;> simp
  · first | refine (State.runOp_pending _ _ _ _ _ _ ?_).trans (by simp) | refine (State.sessOp_pending _ _ _ _ _ _ _ ?_).trans (by simp) | refine (State.tackOp_pending _ _ _ _ _ ?_).trans (by simp)
    intro b x r h; subst h; (repeat' split) <;> simp
  · first | refine (State.runOp_hostMem _ _ _ _ _ _ ?_).trans (by simp) | refine (State.sessOp_hostMem _ _ _ _ _ _ _ ?_).trans (by simp) | refine (State.tackOp_hostMem _ _ _ _ _ ?_).trans (by simp)
    intro b x r h; subst h; (repeat' split) <;> simp
  · first | refine (State.runOp_live _ _ _ _ _ _ ?_).trans (by simp) | refine (State.sessOp_live _ _ _ _ _ _ _ ?_).trans (by simp) | refine (State.tackOp_live _ _ _ _ _ ?_).trans (by simp)
    intro b x r h; subst h; (repeat' split) <;> simp
  · first | refine (State.runOp_whoa _ _ _ _ _ _ ?_).trans (by simp) | refine (State.sessOp_whoa _ _ _ _ _ _ _ ?_).trans (by simp) | refine (State.tackOp_whoa _ _ _ _ _ ?_).trans (by simp)
    intro b x r h; subst h; (repeat' split) <;> simp
  · first | refine (State.runOp_chip _ _ _ _ _ _ ?_).trans (by simp) | refine (State.sessOp_chip _ _ _ _ _ _ _ ?_).trans (by simp) | refine (State.tackOp_chip _ _ _ _ _ ?_).trans (by simp)
    intro b x r h; subst h; (repeat' split) <;> simp
  · first | refine (State.runOp_tack _ _ _ _ _ _ ?_).trans (by simp) | refine (State.sessOp_tack _ _ _ _ _ _ _ ?_).trans (by simp) | refine (State.tackOp_tack _ _ _ _ _ ?_).trans (by simp)
    intro b x r h; subst h; (repeat' split) <;> simp
  · first | refine (State.runOp_recd _ _ _ _ _ _ ?_).trans (by simp) | refine (State.sessOp_recd _ _ _ _ _ _ _ ?_).trans (by simp) | refine (State.tackOp_recd _ _ _ _ _ ?_).trans (by simp)
    intro b x r h; subst h; (repeat' split) <;> simp
  · first | refine (State.runOp_net _ _ _ _ _ _ ?_).trans (by simp) | refine (State.sessOp_net _ _ _ _ _ _ _ ?_).trans (by simp) | refine (State.tackOp_net _ _ _ _ _ ?_).trans (by simp)
    intro b x r h; subst h; (repeat' split) <;> simp
  · first | refine (State.runOp_tim _ _ _ _ _ _ ?_).trans (by simp) | refine (State.sessOp_tim _ _ _ _ _ _ _ ?_).trans (by simp) | refine (State.tackOp_tim _ _ _ _ _ ?_).trans (by simp)
    intro b x r h; subst h; (repeat' split) <;> simp
  · first | refine (State.runOp_gnb _ _ _ _ _ _ ?_).trans (by simp) | refine (State.sessOp_gnb _ _ _ _ _ _ _ ?_).trans (by simp) | refine (State.tackOp_gnb _ _ _ _ _ ?_).trans (by simp)
    intro b x r h; subst h; (repeat' split) <;> simp
  · first | refine (State.runOp_pad _ _ _ _ _ _ ?_).trans (by simp) | refine (State.sessOp_pad _ _ _ _ _ _ _ ?_).trans (by simp) | refine (State.tackOp_pad _ _ _ _ _ ?_).trans (by simp)
    intro b x r h; subst h; (repeat' split) <;> simp
  · first | refine (State.runOp_fix _ _ _ _ _ _ ?_).trans (by simp) | refine (State.sessOp_fix _ _ _ _ _ _ _ ?_).trans (by simp) | refine (State.tackOp_fix _ _ _ _ _ ?_).trans (by simp)
    intro b x r h; subst h; (repeat' split) <;> simp
  · first | refine (State.runOp_air _ _ _ _ _ _ ?_).trans (by simp) | refine (State.sessOp_air _ _ _ _ _ _ _ ?_).trans (by simp) | refine (State.tackOp_air _ _ _ _ _ ?_).trans (by simp)
    intro b x r h; subst h; (repeat' split) <;> simp

theorem execGaitRetarget_frame (x0 : Nat) (x1 : Item) (s : State) {s' : State} : execGaitRetarget x0 x1 s = .next s' →
    s'.cyc = s.cyc + (x0 - s.cyc) ∧ s'.pending = s.pending ∧ s'.hostMem = s.hostMem ∧ s'.live = s.live ∧ s'.whoa =
      s.whoa ∧ s'.chip = s.chip ∧ s'.tack = s.tack ∧ s'.recd = s.recd ∧ s'.net = s.net ∧ s'.tim = s.tim ∧ s'.gnb =
      s.gnb ∧ s'.pad = s.pad ∧ s'.fix = s.fix ∧ s'.air = s.air ∧ s'.byl = s.byl := by
  intro h
  simp only [execGaitRetarget] at h
  (repeat' split at h) <;> first | (have h := Host.Outcome.next.inj h; subst h; simp; done) | (have h := Option.some.inj h; subst h; simp; done) | (simp at h; done)

theorem execDatumRun_frame (x0 : Nat) (x1 : Item) (s : State) {s' : State} : execDatumRun x0 x1 s = .next s' →
    s'.cyc = s.cyc + (x0 - s.cyc) ∧ s'.pending = s.pending ∧ s'.hostMem = s.hostMem ∧ s'.live = s.live ∧ s'.whoa =
      s.whoa ∧ s'.chip = s.chip ∧ s'.tack = s.tack ∧ s'.recd = s.recd ∧ s'.net = s.net ∧ s'.tim = s.tim ∧ s'.gnb =
      s.gnb ∧ s'.pad = s.pad ∧ s'.fix = s.fix ∧ s'.air = s.air ∧ s'.byl = s.byl := by
  intro h
  simp only [execDatumRun] at h
  have h := Host.Outcome.next.inj h
  subst h
  refine ⟨?_, ?_, ?_, ?_, ?_, ?_, ?_, ?_, ?_, ?_, ?_, ?_, ?_, ?_, ?_⟩
  · first | refine (State.runOp_cyc _ _ _ _ _ _ ?_).trans (by simp) | refine (State.sessOp_cyc _ _ _ _ _ _ _ ?_).trans (by simp) | refine (State.tackOp_cyc _ _ _ _ _ ?_).trans (by simp)
    intro b x r h; subst h; (repeat' split) <;> simp
  · first | refine (State.runOp_pending _ _ _ _ _ _ ?_).trans (by simp) | refine (State.sessOp_pending _ _ _ _ _ _ _ ?_).trans (by simp) | refine (State.tackOp_pending _ _ _ _ _ ?_).trans (by simp)
    intro b x r h; subst h; (repeat' split) <;> simp
  · first | refine (State.runOp_hostMem _ _ _ _ _ _ ?_).trans (by simp) | refine (State.sessOp_hostMem _ _ _ _ _ _ _ ?_).trans (by simp) | refine (State.tackOp_hostMem _ _ _ _ _ ?_).trans (by simp)
    intro b x r h; subst h; (repeat' split) <;> simp
  · first | refine (State.runOp_live _ _ _ _ _ _ ?_).trans (by simp) | refine (State.sessOp_live _ _ _ _ _ _ _ ?_).trans (by simp) | refine (State.tackOp_live _ _ _ _ _ ?_).trans (by simp)
    intro b x r h; subst h; (repeat' split) <;> simp
  · first | refine (State.runOp_whoa _ _ _ _ _ _ ?_).trans (by simp) | refine (State.sessOp_whoa _ _ _ _ _ _ _ ?_).trans (by simp) | refine (State.tackOp_whoa _ _ _ _ _ ?_).trans (by simp)
    intro b x r h; subst h; (repeat' split) <;> simp
  · first | refine (State.runOp_chip _ _ _ _ _ _ ?_).trans (by simp) | refine (State.sessOp_chip _ _ _ _ _ _ _ ?_).trans (by simp) | refine (State.tackOp_chip _ _ _ _ _ ?_).trans (by simp)
    intro b x r h; subst h; (repeat' split) <;> simp
  · first | refine (State.runOp_tack _ _ _ _ _ _ ?_).trans (by simp) | refine (State.sessOp_tack _ _ _ _ _ _ _ ?_).trans (by simp) | refine (State.tackOp_tack _ _ _ _ _ ?_).trans (by simp)
    intro b x r h; subst h; (repeat' split) <;> simp
  · first | refine (State.runOp_recd _ _ _ _ _ _ ?_).trans (by simp) | refine (State.sessOp_recd _ _ _ _ _ _ _ ?_).trans (by simp) | refine (State.tackOp_recd _ _ _ _ _ ?_).trans (by simp)
    intro b x r h; subst h; (repeat' split) <;> simp
  · first | refine (State.runOp_net _ _ _ _ _ _ ?_).trans (by simp) | refine (State.sessOp_net _ _ _ _ _ _ _ ?_).trans (by simp) | refine (State.tackOp_net _ _ _ _ _ ?_).trans (by simp)
    intro b x r h; subst h; (repeat' split) <;> simp
  · first | refine (State.runOp_tim _ _ _ _ _ _ ?_).trans (by simp) | refine (State.sessOp_tim _ _ _ _ _ _ _ ?_).trans (by simp) | refine (State.tackOp_tim _ _ _ _ _ ?_).trans (by simp)
    intro b x r h; subst h; (repeat' split) <;> simp
  · first | refine (State.runOp_gnb _ _ _ _ _ _ ?_).trans (by simp) | refine (State.sessOp_gnb _ _ _ _ _ _ _ ?_).trans (by simp) | refine (State.tackOp_gnb _ _ _ _ _ ?_).trans (by simp)
    intro b x r h; subst h; (repeat' split) <;> simp
  · first | refine (State.runOp_pad _ _ _ _ _ _ ?_).trans (by simp) | refine (State.sessOp_pad _ _ _ _ _ _ _ ?_).trans (by simp) | refine (State.tackOp_pad _ _ _ _ _ ?_).trans (by simp)
    intro b x r h; subst h; (repeat' split) <;> simp
  · first | refine (State.runOp_fix _ _ _ _ _ _ ?_).trans (by simp) | refine (State.sessOp_fix _ _ _ _ _ _ _ ?_).trans (by simp) | refine (State.tackOp_fix _ _ _ _ _ ?_).trans (by simp)
    intro b x r h; subst h; (repeat' split) <;> simp
  · first | refine (State.runOp_air _ _ _ _ _ _ ?_).trans (by simp) | refine (State.sessOp_air _ _ _ _ _ _ _ ?_).trans (by simp) | refine (State.tackOp_air _ _ _ _ _ ?_).trans (by simp)
    intro b x r h; subst h; (repeat' split) <;> simp
  · first | refine (State.runOp_byl _ _ _ _ _ _ ?_).trans (by simp) | refine (State.sessOp_byl _ _ _ _ _ _ _ ?_).trans (by simp) | refine (State.tackOp_byl _ _ _ _ _ ?_).trans (by simp)
    intro b x r h; subst h; (repeat' split) <;> simp

theorem execPadCommit_frame (x0 : Nat) (x1 : Item) (x2 : List Sys2Proof.Byte) (s : State) {s' : State} :
    execPadCommit x0 x1 x2 s = .next s' →
    s'.cyc = s.cyc + (x0 - s.cyc) ∧ s'.pending = s.pending ∧ s'.hostMem = s.hostMem ∧ s'.live = s.live ∧ s'.whoa =
      s.whoa ∧ s'.chip = s.chip ∧ s'.tack = s.tack ∧ s'.recd = s.recd ∧ s'.net = s.net ∧ s'.tim = s.tim ∧ s'.gnb =
      s.gnb ∧ s'.air = s.air := by
  intro h
  simp only [execPadCommit] at h
  (repeat' split at h) <;> first | (have h := Host.Outcome.next.inj h; subst h; simp; done) | (have h := Option.some.inj h; subst h; simp; done) | (simp at h; done)

theorem execWhatIf_frame (x0 : Nat) (x1 : Item) (x2 : List Sys2Proof.Byte) (x3 : Option BadCell) (s : State) {s' :
    State} : execWhatIf x0 x1 x2 x3 s = .next s' →
    s'.cyc = s.cyc + (x0 - s.cyc) ∧ s'.pending = s.pending ∧ s'.live = s.live ∧ s'.whoa = s.whoa ∧ s'.chip = s.chip
      ∧ s'.tack = s.tack ∧ s'.recd = s.recd ∧ s'.net = s.net ∧ s'.tim = s.tim ∧ s'.gnb = s.gnb ∧ s'.gait = s.gait ∧
      s'.fix = s.fix ∧ s'.air = s.air ∧ s'.byl = s.byl := by
  intro h
  simp only [execWhatIf] at h
  have h := Host.Outcome.next.inj h
  subst h
  refine ⟨?_, ?_, ?_, ?_, ?_, ?_, ?_, ?_, ?_, ?_, ?_, ?_, ?_, ?_⟩
  · first | refine (State.runOp_cyc _ _ _ _ _ _ ?_).trans (by simp) | refine (State.sessOp_cyc _ _ _ _ _ _ _ ?_).trans (by simp) | refine (State.tackOp_cyc _ _ _ _ _ ?_).trans (by simp)
    intro b x r h; subst h; (repeat' split) <;> simp
  · first | refine (State.runOp_pending _ _ _ _ _ _ ?_).trans (by simp) | refine (State.sessOp_pending _ _ _ _ _ _ _ ?_).trans (by simp) | refine (State.tackOp_pending _ _ _ _ _ ?_).trans (by simp)
    intro b x r h; subst h; (repeat' split) <;> simp
  · first | refine (State.runOp_live _ _ _ _ _ _ ?_).trans (by simp) | refine (State.sessOp_live _ _ _ _ _ _ _ ?_).trans (by simp) | refine (State.tackOp_live _ _ _ _ _ ?_).trans (by simp)
    intro b x r h; subst h; (repeat' split) <;> simp
  · first | refine (State.runOp_whoa _ _ _ _ _ _ ?_).trans (by simp) | refine (State.sessOp_whoa _ _ _ _ _ _ _ ?_).trans (by simp) | refine (State.tackOp_whoa _ _ _ _ _ ?_).trans (by simp)
    intro b x r h; subst h; (repeat' split) <;> simp
  · first | refine (State.runOp_chip _ _ _ _ _ _ ?_).trans (by simp) | refine (State.sessOp_chip _ _ _ _ _ _ _ ?_).trans (by simp) | refine (State.tackOp_chip _ _ _ _ _ ?_).trans (by simp)
    intro b x r h; subst h; (repeat' split) <;> simp
  · first | refine (State.runOp_tack _ _ _ _ _ _ ?_).trans (by simp) | refine (State.sessOp_tack _ _ _ _ _ _ _ ?_).trans (by simp) | refine (State.tackOp_tack _ _ _ _ _ ?_).trans (by simp)
    intro b x r h; subst h; (repeat' split) <;> simp
  · first | refine (State.runOp_recd _ _ _ _ _ _ ?_).trans (by simp) | refine (State.sessOp_recd _ _ _ _ _ _ _ ?_).trans (by simp) | refine (State.tackOp_recd _ _ _ _ _ ?_).trans (by simp)
    intro b x r h; subst h; (repeat' split) <;> simp
  · first | refine (State.runOp_net _ _ _ _ _ _ ?_).trans (by simp) | refine (State.sessOp_net _ _ _ _ _ _ _ ?_).trans (by simp) | refine (State.tackOp_net _ _ _ _ _ ?_).trans (by simp)
    intro b x r h; subst h; (repeat' split) <;> simp
  · first | refine (State.runOp_tim _ _ _ _ _ _ ?_).trans (by simp) | refine (State.sessOp_tim _ _ _ _ _ _ _ ?_).trans (by simp) | refine (State.tackOp_tim _ _ _ _ _ ?_).trans (by simp)
    intro b x r h; subst h; (repeat' split) <;> simp
  · first | refine (State.runOp_gnb _ _ _ _ _ _ ?_).trans (by simp) | refine (State.sessOp_gnb _ _ _ _ _ _ _ ?_).trans (by simp) | refine (State.tackOp_gnb _ _ _ _ _ ?_).trans (by simp)
    intro b x r h; subst h; (repeat' split) <;> simp
  · first | refine (State.runOp_gait _ _ _ _ _ _ ?_).trans (by simp) | refine (State.sessOp_gait _ _ _ _ _ _ _ ?_).trans (by simp) | refine (State.tackOp_gait _ _ _ _ _ ?_).trans (by simp)
    intro b x r h; subst h; (repeat' split) <;> simp
  · first | refine (State.runOp_fix _ _ _ _ _ _ ?_).trans (by simp) | refine (State.sessOp_fix _ _ _ _ _ _ _ ?_).trans (by simp) | refine (State.tackOp_fix _ _ _ _ _ ?_).trans (by simp)
    intro b x r h; subst h; (repeat' split) <;> simp
  · first | refine (State.runOp_air _ _ _ _ _ _ ?_).trans (by simp) | refine (State.sessOp_air _ _ _ _ _ _ _ ?_).trans (by simp) | refine (State.tackOp_air _ _ _ _ _ ?_).trans (by simp)
    intro b x r h; subst h; (repeat' split) <;> simp
  · first | refine (State.runOp_byl _ _ _ _ _ _ ?_).trans (by simp) | refine (State.sessOp_byl _ _ _ _ _ _ _ ?_).trans (by simp) | refine (State.tackOp_byl _ _ _ _ _ ?_).trans (by simp)
    intro b x r h; subst h; (repeat' split) <;> simp

theorem execPadRelease_frame (x0 : Nat) (x1 : Item) (x2 : Option BadCell) (s : State) {s' : State} : execPadRelease
    x0 x1 x2 s = .next s' →
    s'.cyc = s.cyc + (x0 - s.cyc) ∧ s'.pending = s.pending ∧ s'.hostMem = s.hostMem ∧ s'.live = s.live ∧ s'.whoa =
      s.whoa ∧ s'.chip = s.chip ∧ s'.tack = s.tack ∧ s'.recd = s.recd ∧ s'.net = s.net ∧ s'.tim = s.tim ∧ s'.gnb =
      s.gnb ∧ s'.gait = s.gait ∧ s'.fix = s.fix ∧ s'.air = s.air := by
  intro h
  simp only [execPadRelease] at h
  (repeat' split at h) <;> first | (have h := Host.Outcome.next.inj h; subst h; simp; done) | (have h := Option.some.inj h; subst h; simp; done) | (simp at h; done)

theorem execSetShape_frame (x0 : Nat) (x1 : Item) (x2 : List Sys2Proof.Byte) (s : State) {s' : State} : execSetShape
    x0 x1 x2 s = .next s' →
    s'.cyc = s.cyc + (x0 - s.cyc) ∧ s'.pending = s.pending ∧ s'.hostMem = s.hostMem ∧ s'.live = s.live ∧ s'.whoa =
      s.whoa ∧ s'.chip = s.chip ∧ s'.tack = s.tack ∧ s'.recd = s.recd ∧ s'.net = s.net ∧ s'.tim = s.tim ∧ s'.gnb =
      s.gnb ∧ s'.gait = s.gait ∧ s'.fix = s.fix ∧ s'.air = s.air := by
  intro h
  simp only [execSetShape] at h
  (repeat' split at h) <;> first | (have h := Host.Outcome.next.inj h; subst h; simp; done) | (have h := Option.some.inj h; subst h; simp; done) | (simp at h; done)

theorem execMapImport_frame (x0 : Nat) (x1 : Item) (x2 : List Sys2Proof.Byte) (x3 : Bool) (s : State) {s' : State} :
    execMapImport x0 x1 x2 x3 s = .next s' →
    s'.cyc = s.cyc + (x0 - s.cyc) ∧ s'.pending = s.pending ∧ s'.hostMem = s.hostMem ∧ s'.live = s.live ∧ s'.whoa =
      s.whoa ∧ s'.chip = s.chip ∧ s'.tack = s.tack ∧ s'.recd = s.recd ∧ s'.net = s.net ∧ s'.tim = s.tim ∧ s'.gnb =
      s.gnb ∧ s'.gait = s.gait ∧ s'.fix = s.fix ∧ s'.air = s.air ∧ s'.byl = s.byl := by
  intro h
  simp only [execMapImport] at h
  (repeat' split at h) <;> first | (have h := Host.Outcome.next.inj h; subst h; simp; done) | (have h := Option.some.inj h; subst h; simp; done) | (simp at h; done)

theorem execMapExport_frame (x0 : Nat) (x1 : Item) (s : State) {s' : State} : execMapExport x0 x1 s = .next s' →
    s'.cyc = s.cyc + (x0 - s.cyc) ∧ s'.pending = s.pending ∧ s'.hostMem = s.hostMem ∧ s'.live = s.live ∧ s'.whoa =
      s.whoa ∧ s'.chip = s.chip ∧ s'.tack = s.tack ∧ s'.recd = s.recd ∧ s'.net = s.net ∧ s'.tim = s.tim ∧ s'.gnb =
      s.gnb ∧ s'.gait = s.gait ∧ s'.fix = s.fix ∧ s'.air = s.air ∧ s'.byl = s.byl := by
  intro h
  simp only [execMapExport] at h
  have h := Host.Outcome.next.inj h
  subst h
  refine ⟨?_, ?_, ?_, ?_, ?_, ?_, ?_, ?_, ?_, ?_, ?_, ?_, ?_, ?_, ?_⟩
  · first | refine (State.runOp_cyc _ _ _ _ _ _ ?_).trans (by simp) | refine (State.sessOp_cyc _ _ _ _ _ _ _ ?_).trans (by simp) | refine (State.tackOp_cyc _ _ _ _ _ ?_).trans (by simp)
    intro b x r h; subst h; (repeat' split) <;> simp
  · first | refine (State.runOp_pending _ _ _ _ _ _ ?_).trans (by simp) | refine (State.sessOp_pending _ _ _ _ _ _ _ ?_).trans (by simp) | refine (State.tackOp_pending _ _ _ _ _ ?_).trans (by simp)
    intro b x r h; subst h; (repeat' split) <;> simp
  · first | refine (State.runOp_hostMem _ _ _ _ _ _ ?_).trans (by simp) | refine (State.sessOp_hostMem _ _ _ _ _ _ _ ?_).trans (by simp) | refine (State.tackOp_hostMem _ _ _ _ _ ?_).trans (by simp)
    intro b x r h; subst h; (repeat' split) <;> simp
  · first | refine (State.runOp_live _ _ _ _ _ _ ?_).trans (by simp) | refine (State.sessOp_live _ _ _ _ _ _ _ ?_).trans (by simp) | refine (State.tackOp_live _ _ _ _ _ ?_).trans (by simp)
    intro b x r h; subst h; (repeat' split) <;> simp
  · first | refine (State.runOp_whoa _ _ _ _ _ _ ?_).trans (by simp) | refine (State.sessOp_whoa _ _ _ _ _ _ _ ?_).trans (by simp) | refine (State.tackOp_whoa _ _ _ _ _ ?_).trans (by simp)
    intro b x r h; subst h; (repeat' split) <;> simp
  · first | refine (State.runOp_chip _ _ _ _ _ _ ?_).trans (by simp) | refine (State.sessOp_chip _ _ _ _ _ _ _ ?_).trans (by simp) | refine (State.tackOp_chip _ _ _ _ _ ?_).trans (by simp)
    intro b x r h; subst h; (repeat' split) <;> simp
  · first | refine (State.runOp_tack _ _ _ _ _ _ ?_).trans (by simp) | refine (State.sessOp_tack _ _ _ _ _ _ _ ?_).trans (by simp) | refine (State.tackOp_tack _ _ _ _ _ ?_).trans (by simp)
    intro b x r h; subst h; (repeat' split) <;> simp
  · first | refine (State.runOp_recd _ _ _ _ _ _ ?_).trans (by simp) | refine (State.sessOp_recd _ _ _ _ _ _ _ ?_).trans (by simp) | refine (State.tackOp_recd _ _ _ _ _ ?_).trans (by simp)
    intro b x r h; subst h; (repeat' split) <;> simp
  · first | refine (State.runOp_net _ _ _ _ _ _ ?_).trans (by simp) | refine (State.sessOp_net _ _ _ _ _ _ _ ?_).trans (by simp) | refine (State.tackOp_net _ _ _ _ _ ?_).trans (by simp)
    intro b x r h; subst h; (repeat' split) <;> simp
  · first | refine (State.runOp_tim _ _ _ _ _ _ ?_).trans (by simp) | refine (State.sessOp_tim _ _ _ _ _ _ _ ?_).trans (by simp) | refine (State.tackOp_tim _ _ _ _ _ ?_).trans (by simp)
    intro b x r h; subst h; (repeat' split) <;> simp
  · first | refine (State.runOp_gnb _ _ _ _ _ _ ?_).trans (by simp) | refine (State.sessOp_gnb _ _ _ _ _ _ _ ?_).trans (by simp) | refine (State.tackOp_gnb _ _ _ _ _ ?_).trans (by simp)
    intro b x r h; subst h; (repeat' split) <;> simp
  · first | refine (State.runOp_gait _ _ _ _ _ _ ?_).trans (by simp) | refine (State.sessOp_gait _ _ _ _ _ _ _ ?_).trans (by simp) | refine (State.tackOp_gait _ _ _ _ _ ?_).trans (by simp)
    intro b x r h; subst h; (repeat' split) <;> simp
  · first | refine (State.runOp_fix _ _ _ _ _ _ ?_).trans (by simp) | refine (State.sessOp_fix _ _ _ _ _ _ _ ?_).trans (by simp) | refine (State.tackOp_fix _ _ _ _ _ ?_).trans (by simp)
    intro b x r h; subst h; (repeat' split) <;> simp
  · first | refine (State.runOp_air _ _ _ _ _ _ ?_).trans (by simp) | refine (State.sessOp_air _ _ _ _ _ _ _ ?_).trans (by simp) | refine (State.tackOp_air _ _ _ _ _ ?_).trans (by simp)
    intro b x r h; subst h; (repeat' split) <;> simp
  · first | refine (State.runOp_byl _ _ _ _ _ _ ?_).trans (by simp) | refine (State.sessOp_byl _ _ _ _ _ _ _ ?_).trans (by simp) | refine (State.tackOp_byl _ _ _ _ _ ?_).trans (by simp)
    intro b x r h; subst h; (repeat' split) <;> simp

theorem execSetHold_frame (x0 : Nat) (x1 : Item) (x2 : Option BadCell) (s : State) {s' : State} : execSetHold x0 x1
    x2 s = .next s' →
    s'.cyc = s.cyc + (x0 - s.cyc) ∧ s'.pending = s.pending ∧ s'.hostMem = s.hostMem ∧ s'.live = s.live ∧ s'.whoa =
      s.whoa ∧ s'.chip = s.chip ∧ s'.tack = s.tack ∧ s'.recd = s.recd ∧ s'.net = s.net ∧ s'.tim = s.tim ∧ s'.gnb =
      s.gnb ∧ s'.gait = s.gait ∧ s'.fix = s.fix ∧ s'.air = s.air := by
  intro h
  simp only [execSetHold] at h
  have h := Host.Outcome.next.inj h
  subst h
  refine ⟨?_, ?_, ?_, ?_, ?_, ?_, ?_, ?_, ?_, ?_, ?_, ?_, ?_, ?_⟩
  · first | refine (State.runOp_cyc _ _ _ _ _ _ ?_).trans (by simp) | refine (State.sessOp_cyc _ _ _ _ _ _ _ ?_).trans (by simp) | refine (State.tackOp_cyc _ _ _ _ _ ?_).trans (by simp)
    intro b x r h; subst h; (repeat' split) <;> simp
  · first | refine (State.runOp_pending _ _ _ _ _ _ ?_).trans (by simp) | refine (State.sessOp_pending _ _ _ _ _ _ _ ?_).trans (by simp) | refine (State.tackOp_pending _ _ _ _ _ ?_).trans (by simp)
    intro b x r h; subst h; (repeat' split) <;> simp
  · first | refine (State.runOp_hostMem _ _ _ _ _ _ ?_).trans (by simp) | refine (State.sessOp_hostMem _ _ _ _ _ _ _ ?_).trans (by simp) | refine (State.tackOp_hostMem _ _ _ _ _ ?_).trans (by simp)
    intro b x r h; subst h; (repeat' split) <;> simp
  · first | refine (State.runOp_live _ _ _ _ _ _ ?_).trans (by simp) | refine (State.sessOp_live _ _ _ _ _ _ _ ?_).trans (by simp) | refine (State.tackOp_live _ _ _ _ _ ?_).trans (by simp)
    intro b x r h; subst h; (repeat' split) <;> simp
  · first | refine (State.runOp_whoa _ _ _ _ _ _ ?_).trans (by simp) | refine (State.sessOp_whoa _ _ _ _ _ _ _ ?_).trans (by simp) | refine (State.tackOp_whoa _ _ _ _ _ ?_).trans (by simp)
    intro b x r h; subst h; (repeat' split) <;> simp
  · first | refine (State.runOp_chip _ _ _ _ _ _ ?_).trans (by simp) | refine (State.sessOp_chip _ _ _ _ _ _ _ ?_).trans (by simp) | refine (State.tackOp_chip _ _ _ _ _ ?_).trans (by simp)
    intro b x r h; subst h; (repeat' split) <;> simp
  · first | refine (State.runOp_tack _ _ _ _ _ _ ?_).trans (by simp) | refine (State.sessOp_tack _ _ _ _ _ _ _ ?_).trans (by simp) | refine (State.tackOp_tack _ _ _ _ _ ?_).trans (by simp)
    intro b x r h; subst h; (repeat' split) <;> simp
  · first | refine (State.runOp_recd _ _ _ _ _ _ ?_).trans (by simp) | refine (State.sessOp_recd _ _ _ _ _ _ _ ?_).trans (by simp) | refine (State.tackOp_recd _ _ _ _ _ ?_).trans (by simp)
    intro b x r h; subst h; (repeat' split) <;> simp
  · first | refine (State.runOp_net _ _ _ _ _ _ ?_).trans (by simp) | refine (State.sessOp_net _ _ _ _ _ _ _ ?_).trans (by simp) | refine (State.tackOp_net _ _ _ _ _ ?_).trans (by simp)
    intro b x r h; subst h; (repeat' split) <;> simp
  · first | refine (State.runOp_tim _ _ _ _ _ _ ?_).trans (by simp) | refine (State.sessOp_tim _ _ _ _ _ _ _ ?_).trans (by simp) | refine (State.tackOp_tim _ _ _ _ _ ?_).trans (by simp)
    intro b x r h; subst h; (repeat' split) <;> simp
  · first | refine (State.runOp_gnb _ _ _ _ _ _ ?_).trans (by simp) | refine (State.sessOp_gnb _ _ _ _ _ _ _ ?_).trans (by simp) | refine (State.tackOp_gnb _ _ _ _ _ ?_).trans (by simp)
    intro b x r h; subst h; (repeat' split) <;> simp
  · first | refine (State.runOp_gait _ _ _ _ _ _ ?_).trans (by simp) | refine (State.sessOp_gait _ _ _ _ _ _ _ ?_).trans (by simp) | refine (State.tackOp_gait _ _ _ _ _ ?_).trans (by simp)
    intro b x r h; subst h; (repeat' split) <;> simp
  · first | refine (State.runOp_fix _ _ _ _ _ _ ?_).trans (by simp) | refine (State.sessOp_fix _ _ _ _ _ _ _ ?_).trans (by simp) | refine (State.tackOp_fix _ _ _ _ _ ?_).trans (by simp)
    intro b x r h; subst h; (repeat' split) <;> simp
  · first | refine (State.runOp_air _ _ _ _ _ _ ?_).trans (by simp) | refine (State.sessOp_air _ _ _ _ _ _ _ ?_).trans (by simp) | refine (State.tackOp_air _ _ _ _ _ ?_).trans (by simp)
    intro b x r h; subst h; (repeat' split) <;> simp

theorem execReadCell_frame (x0 : Nat) (x1 : Item) (x2 : Bool) (s : State) {s' : State} : execReadCell x0 x1 x2 s =
    .next s' →
    s'.cyc = s.cyc + (x0 - s.cyc) ∧ s'.pending = s.pending ∧ s'.hostMem = s.hostMem ∧ s'.live = s.live ∧ s'.whoa =
      s.whoa ∧ s'.chip = s.chip ∧ s'.tack = s.tack ∧ s'.recd = s.recd ∧ s'.net = s.net ∧ s'.tim = s.tim ∧ s'.gnb =
      s.gnb ∧ s'.gait = s.gait ∧ s'.fix = s.fix ∧ s'.air = s.air ∧ s'.byl = s.byl := by
  intro h
  simp only [execReadCell] at h
  have h := Host.Outcome.next.inj h
  subst h
  refine ⟨?_, ?_, ?_, ?_, ?_, ?_, ?_, ?_, ?_, ?_, ?_, ?_, ?_, ?_, ?_⟩
  · first | refine (State.runOp_cyc _ _ _ _ _ _ ?_).trans (by simp) | refine (State.sessOp_cyc _ _ _ _ _ _ _ ?_).trans (by simp) | refine (State.tackOp_cyc _ _ _ _ _ ?_).trans (by simp)
    intro b x r h; subst h; (repeat' split) <;> simp
  · first | refine (State.runOp_pending _ _ _ _ _ _ ?_).trans (by simp) | refine (State.sessOp_pending _ _ _ _ _ _ _ ?_).trans (by simp) | refine (State.tackOp_pending _ _ _ _ _ ?_).trans (by simp)
    intro b x r h; subst h; (repeat' split) <;> simp
  · first | refine (State.runOp_hostMem _ _ _ _ _ _ ?_).trans (by simp) | refine (State.sessOp_hostMem _ _ _ _ _ _ _ ?_).trans (by simp) | refine (State.tackOp_hostMem _ _ _ _ _ ?_).trans (by simp)
    intro b x r h; subst h; (repeat' split) <;> simp
  · first | refine (State.runOp_live _ _ _ _ _ _ ?_).trans (by simp) | refine (State.sessOp_live _ _ _ _ _ _ _ ?_).trans (by simp) | refine (State.tackOp_live _ _ _ _ _ ?_).trans (by simp)
    intro b x r h; subst h; (repeat' split) <;> simp
  · first | refine (State.runOp_whoa _ _ _ _ _ _ ?_).trans (by simp) | refine (State.sessOp_whoa _ _ _ _ _ _ _ ?_).trans (by simp) | refine (State.tackOp_whoa _ _ _ _ _ ?_).trans (by simp)
    intro b x r h; subst h; (repeat' split) <;> simp
  · first | refine (State.runOp_chip _ _ _ _ _ _ ?_).trans (by simp) | refine (State.sessOp_chip _ _ _ _ _ _ _ ?_).trans (by simp) | refine (State.tackOp_chip _ _ _ _ _ ?_).trans (by simp)
    intro b x r h; subst h; (repeat' split) <;> simp
  · first | refine (State.runOp_tack _ _ _ _ _ _ ?_).trans (by simp) | refine (State.sessOp_tack _ _ _ _ _ _ _ ?_).trans (by simp) | refine (State.tackOp_tack _ _ _ _ _ ?_).trans (by simp)
    intro b x r h; subst h; (repeat' split) <;> simp
  · first | refine (State.runOp_recd _ _ _ _ _ _ ?_).trans (by simp) | refine (State.sessOp_recd _ _ _ _ _ _ _ ?_).trans (by simp) | refine (State.tackOp_recd _ _ _ _ _ ?_).trans (by simp)
    intro b x r h; subst h; (repeat' split) <;> simp
  · first | refine (State.runOp_net _ _ _ _ _ _ ?_).trans (by simp) | refine (State.sessOp_net _ _ _ _ _ _ _ ?_).trans (by simp) | refine (State.tackOp_net _ _ _ _ _ ?_).trans (by simp)
    intro b x r h; subst h; (repeat' split) <;> simp
  · first | refine (State.runOp_tim _ _ _ _ _ _ ?_).trans (by simp) | refine (State.sessOp_tim _ _ _ _ _ _ _ ?_).trans (by simp) | refine (State.tackOp_tim _ _ _ _ _ ?_).trans (by simp)
    intro b x r h; subst h; (repeat' split) <;> simp
  · first | refine (State.runOp_gnb _ _ _ _ _ _ ?_).trans (by simp) | refine (State.sessOp_gnb _ _ _ _ _ _ _ ?_).trans (by simp) | refine (State.tackOp_gnb _ _ _ _ _ ?_).trans (by simp)
    intro b x r h; subst h; (repeat' split) <;> simp
  · first | refine (State.runOp_gait _ _ _ _ _ _ ?_).trans (by simp) | refine (State.sessOp_gait _ _ _ _ _ _ _ ?_).trans (by simp) | refine (State.tackOp_gait _ _ _ _ _ ?_).trans (by simp)
    intro b x r h; subst h; (repeat' split) <;> simp
  · first | refine (State.runOp_fix _ _ _ _ _ _ ?_).trans (by simp) | refine (State.sessOp_fix _ _ _ _ _ _ _ ?_).trans (by simp) | refine (State.tackOp_fix _ _ _ _ _ ?_).trans (by simp)
    intro b x r h; subst h; (repeat' split) <;> simp
  · first | refine (State.runOp_air _ _ _ _ _ _ ?_).trans (by simp) | refine (State.sessOp_air _ _ _ _ _ _ _ ?_).trans (by simp) | refine (State.tackOp_air _ _ _ _ _ ?_).trans (by simp)
    intro b x r h; subst h; (repeat' split) <;> simp
  · first | refine (State.runOp_byl _ _ _ _ _ _ ?_).trans (by simp) | refine (State.sessOp_byl _ _ _ _ _ _ _ ?_).trans (by simp) | refine (State.tackOp_byl _ _ _ _ _ ?_).trans (by simp)
    intro b x r h; subst h; (repeat' split) <;> simp

theorem execSetRef_frame (x0 : Nat) (x1 : Item) (s : State) {s' : State} : execSetRef x0 x1 s = .next s' →
    s'.cyc = s.cyc + (x0 - s.cyc) ∧ s'.pending = s.pending ∧ s'.hostMem = s.hostMem ∧ s'.live = s.live ∧ s'.whoa =
      s.whoa ∧ s'.chip = s.chip ∧ s'.tack = s.tack ∧ s'.recd = s.recd ∧ s'.net = s.net ∧ s'.tim = s.tim ∧ s'.gait =
      s.gait ∧ s'.pad = s.pad ∧ s'.fix = s.fix ∧ s'.air = s.air ∧ s'.byl = s.byl := by
  intro h
  simp only [execSetRef] at h
  (repeat' split at h) <;> first | (have h := Host.Outcome.next.inj h; subst h; simp; done) | (have h := Option.some.inj h; subst h; simp; done) | (simp at h; done)

theorem execSelfSurvey_frame (x0 : Nat) (x1 : Item) (s : State) {s' : State} : execSelfSurvey x0 x1 s = .next s' →
    s'.cyc = s.cyc + (x0 - s.cyc) ∧ s'.pending = s.pending ∧ s'.hostMem = s.hostMem ∧ s'.live = s.live ∧ s'.whoa =
      s.whoa ∧ s'.chip = s.chip ∧ s'.tack = s.tack ∧ s'.recd = s.recd ∧ s'.net = s.net ∧ s'.tim = s.tim ∧ s'.gait =
      s.gait ∧ s'.pad = s.pad ∧ s'.fix = s.fix ∧ s'.air = s.air ∧ s'.byl = s.byl := by
  intro h
  simp only [execSelfSurvey] at h
  (repeat' split at h) <;> first | (have h := Host.Outcome.next.inj h; subst h; simp; done) | (have h := Option.some.inj h; subst h; simp; done) | (simp at h; done)

theorem execCueSet_frame (x0 : Nat) (x1 : Item) (x2 : List Sys2Proof.Byte) (s : State) {s' : State} : execCueSet x0
    x1 x2 s = .next s' →
    s'.cyc = s.cyc + (x0 - s.cyc) ∧ s'.pending = s.pending ∧ s'.hostMem = s.hostMem ∧ s'.live = s.live ∧ s'.whoa =
      s.whoa ∧ s'.chip = s.chip ∧ s'.tack = s.tack ∧ s'.net = s.net ∧ s'.gnb = s.gnb ∧ s'.gait = s.gait ∧ s'.pad =
      s.pad ∧ s'.fix = s.fix ∧ s'.air = s.air ∧ s'.byl = s.byl := by
  intro h
  simp only [execCueSet] at h
  (repeat' split at h) <;> first | (have h := Host.Outcome.next.inj h; subst h; simp; done) | (have h := Option.some.inj h; subst h; simp; done) | (simp at h; done)

theorem execSetTime_frame (x0 : Nat) (x1 : Item) (s : State) {s' : State} : execSetTime x0 x1 s = .next s' →
    s'.cyc = s.cyc + (x0 - s.cyc) ∧ s'.pending = s.pending ∧ s'.hostMem = s.hostMem ∧ s'.live = s.live ∧ s'.whoa =
      s.whoa ∧ s'.chip = s.chip ∧ s'.tack = s.tack ∧ s'.recd = s.recd ∧ s'.net = s.net ∧ s'.gnb = s.gnb ∧ s'.gait =
      s.gait ∧ s'.pad = s.pad ∧ s'.fix = s.fix ∧ s'.air = s.air ∧ s'.byl = s.byl := by
  intro h
  simp only [execSetTime] at h
  (repeat' split at h) <;> first | (have h := Host.Outcome.next.inj h; subst h; simp; done) | (have h := Option.some.inj h; subst h; simp; done) | (simp at h; done)

theorem execPtpSample_frame (x0 : Nat) (x1 : Item) (s : State) {s' : State} : execPtpSample x0 x1 s = .next s' →
    s'.cyc = s.cyc + (x0 - s.cyc) ∧ s'.pending = s.pending ∧ s'.hostMem = s.hostMem ∧ s'.live = s.live ∧ s'.whoa =
      s.whoa ∧ s'.chip = s.chip ∧ s'.tack = s.tack ∧ s'.recd = s.recd ∧ s'.net = s.net ∧ s'.gnb = s.gnb ∧ s'.gait =
      s.gait ∧ s'.pad = s.pad ∧ s'.fix = s.fix ∧ s'.air = s.air ∧ s'.byl = s.byl := by
  intro h
  simp only [execPtpSample] at h
  (repeat' split at h) <;> first | (have h := Host.Outcome.next.inj h; subst h; simp; done) | (have h := Option.some.inj h; subst h; simp; done) | (simp at h; done)

theorem execFleetStop_frame (x0 : Nat) (x1 : Item) (s : State) {s' : State} : execFleetStop x0 x1 s = .next s' →
    s'.cyc = s.cyc + (x0 - s.cyc) ∧ s'.pending = s.pending ∧ s'.hostMem = s.hostMem ∧ s'.live = s.live ∧ s'.chip =
      s.chip ∧ s'.tack = s.tack ∧ s'.tim = s.tim ∧ s'.gnb = s.gnb ∧ s'.gait = s.gait ∧ s'.pad = s.pad ∧ s'.fix =
      s.fix ∧ s'.air = s.air ∧ s'.byl = s.byl := by
  intro h
  simp only [execFleetStop] at h
  (repeat' split at h) <;> first | (have h := Host.Outcome.next.inj h; subst h; simp; done) | (have h := Option.some.inj h; subst h; simp; done) | (simp at h; done)

theorem execFleetResume_frame (x0 : Nat) (x1 : Item) (s : State) {s' : State} : execFleetResume x0 x1 s = .next s' →
    s'.cyc = s.cyc + (x0 - s.cyc) ∧ s'.pending = s.pending ∧ s'.hostMem = s.hostMem ∧ s'.live = s.live ∧ s'.chip =
      s.chip ∧ s'.tack = s.tack ∧ s'.tim = s.tim ∧ s'.gnb = s.gnb ∧ s'.gait = s.gait ∧ s'.pad = s.pad ∧ s'.fix =
      s.fix ∧ s'.air = s.air ∧ s'.byl = s.byl := by
  intro h
  simp only [execFleetResume] at h
  (repeat' split at h) <;> first | (have h := Host.Outcome.next.inj h; subst h; simp; done) | (have h := Option.some.inj h; subst h; simp; done) | (simp at h; done)

theorem execNetTx_frame (x0 : Nat) (x1 : Item) (x2 : List Sys2Proof.Byte) (s : State) {s' : State} : execNetTx x0 x1
    x2 s = .next s' →
    s'.cyc = s.cyc + (x0 - s.cyc) ∧ s'.pending = s.pending ∧ s'.hostMem = s.hostMem ∧ s'.live = s.live ∧ s'.whoa =
      s.whoa ∧ s'.chip = s.chip ∧ s'.tack = s.tack ∧ s'.recd = s.recd ∧ s'.tim = s.tim ∧ s'.gnb = s.gnb ∧ s'.gait =
      s.gait ∧ s'.pad = s.pad ∧ s'.fix = s.fix ∧ s'.air = s.air ∧ s'.byl = s.byl := by
  intro h
  simp only [execNetTx] at h
  (repeat' split at h) <;> first | (have h := Host.Outcome.next.inj h; subst h; simp; done) | (have h := Option.some.inj h; subst h; simp; done) | (simp at h; done)

theorem execNetRx_frame (x0 : Nat) (x1 : Item) (s : State) {s' : State} : execNetRx x0 x1 s = .next s' →
    s'.cyc = s.cyc + (x0 - s.cyc) ∧ s'.pending = s.pending ∧ s'.hostMem = s.hostMem ∧ s'.live = s.live ∧ s'.whoa =
      s.whoa ∧ s'.chip = s.chip ∧ s'.tack = s.tack ∧ s'.recd = s.recd ∧ s'.tim = s.tim ∧ s'.gnb = s.gnb ∧ s'.gait =
      s.gait ∧ s'.pad = s.pad ∧ s'.fix = s.fix ∧ s'.air = s.air ∧ s'.byl = s.byl := by
  intro h
  simp only [execNetRx] at h
  (repeat' split at h) <;> first | (have h := Host.Outcome.next.inj h; subst h; simp; done) | (have h := Option.some.inj h; subst h; simp; done) | (simp at h; done)

theorem execMdio_frame (x0 : Nat) (x1 : Item) (x2 : Option (BitVec 16)) (s : State) {s' : State} : execMdio x0 x1 x2
    s = .next s' →
    s'.cyc = s.cyc + (x0 - s.cyc) ∧ s'.pending = s.pending ∧ s'.hostMem = s.hostMem ∧ s'.live = s.live ∧ s'.whoa =
      s.whoa ∧ s'.chip = s.chip ∧ s'.tack = s.tack ∧ s'.tim = s.tim ∧ s'.gnb = s.gnb ∧ s'.gait = s.gait ∧ s'.pad =
      s.pad ∧ s'.fix = s.fix ∧ s'.air = s.air ∧ s'.byl = s.byl := by
  intro h
  simp only [execMdio] at h
  (repeat' split at h) <;> first | (have h := Host.Outcome.next.inj h; subst h; simp; done) | (have h := Option.some.inj h; subst h; simp; done) | (simp at h; done)

theorem execTackLoad_frame (x0 : Nat) (x1 : Item) (x2 : List Sys2Proof.Byte) (x3 : Option (List Sys2Proof.Byte)) (s
    : State) {s' : State} : execTackLoad x0 x1 x2 x3 s = .next s' →
    s'.cyc = s.cyc + (x0 - s.cyc) ∧ s'.pending = s.pending ∧ s'.hostMem = s.hostMem ∧ s'.live = s.live ∧ s'.whoa =
      s.whoa ∧ s'.chip = s.chip ∧ s'.recd = s.recd ∧ s'.net = s.net ∧ s'.tim = s.tim ∧ s'.gnb = s.gnb ∧ s'.gait =
      s.gait ∧ s'.pad = s.pad ∧ s'.fix = s.fix ∧ s'.air = s.air ∧ s'.byl = s.byl := by
  intro h
  simp only [execTackLoad] at h
  (repeat' split at h) <;> first | (have h := Host.Outcome.next.inj h; subst h; simp; done) | (have h := Option.some.inj h; subst h; simp; done) | (simp at h; done)

theorem execTackGenerate_frame (x0 : Nat) (x1 : Item) (x2 : BitVec 512) (x3 : List Sys2Proof.Byte) (s : State) {s' :
    State} : execTackGenerate x0 x1 x2 x3 s = .next s' →
    s'.cyc = s.cyc + (x0 - s.cyc) ∧ s'.pending = s.pending ∧ s'.live = s.live ∧ s'.whoa = s.whoa ∧ s'.chip = s.chip
      ∧ s'.recd = s.recd ∧ s'.net = s.net ∧ s'.tim = s.tim ∧ s'.gnb = s.gnb ∧ s'.gait = s.gait ∧ s'.pad = s.pad ∧
      s'.fix = s.fix ∧ s'.air = s.air ∧ s'.byl = s.byl := by
  intro h
  simp only [execTackGenerate] at h
  (repeat' split at h) <;> first | (have h := Host.Outcome.next.inj h; subst h; simp; done) | (have h := Option.some.inj h; subst h; simp; done) | (simp at h; done)

theorem execTackDerive_frame (x0 : Nat) (x1 : Item) (x2 : BitVec 512) (s : State) {s' : State} : execTackDerive x0
    x1 x2 s = .next s' →
    s'.cyc = s.cyc + (x0 - s.cyc) ∧ s'.pending = s.pending ∧ s'.hostMem = s.hostMem ∧ s'.live = s.live ∧ s'.whoa =
      s.whoa ∧ s'.chip = s.chip ∧ s'.recd = s.recd ∧ s'.net = s.net ∧ s'.tim = s.tim ∧ s'.gnb = s.gnb ∧ s'.gait =
      s.gait ∧ s'.pad = s.pad ∧ s'.fix = s.fix ∧ s'.air = s.air ∧ s'.byl = s.byl := by
  intro h
  simp only [execTackDerive] at h
  (repeat' split at h) <;> first | (have h := Host.Outcome.next.inj h; subst h; simp; done) | (have h := Option.some.inj h; subst h; simp; done) | (simp at h; done)

theorem execTackExport_frame (x0 : Nat) (x1 : Item) (x2 : List Sys2Proof.Byte) (s : State) {s' : State} :
    execTackExport x0 x1 x2 s = .next s' →
    s'.cyc = s.cyc + (x0 - s.cyc) ∧ s'.pending = s.pending ∧ s'.live = s.live ∧ s'.whoa = s.whoa ∧ s'.chip = s.chip
      ∧ s'.tack = s.tack ∧ s'.recd = s.recd ∧ s'.net = s.net ∧ s'.tim = s.tim ∧ s'.gnb = s.gnb ∧ s'.gait = s.gait ∧
      s'.pad = s.pad ∧ s'.fix = s.fix ∧ s'.air = s.air ∧ s'.byl = s.byl := by
  intro h
  simp only [execTackExport] at h
  (repeat' split at h) <;> first | (have h := Host.Outcome.next.inj h; subst h; simp; done) | (have h := Option.some.inj h; subst h; simp; done) | (simp at h; done)

theorem execTackUnload_frame (x0 : Nat) (x1 : Item) (s : State) {s' : State} : execTackUnload x0 x1 s = .next s' →
    s'.cyc = s.cyc + (x0 - s.cyc) ∧ s'.pending = s.pending ∧ s'.hostMem = s.hostMem ∧ s'.live = s.live ∧ s'.whoa =
      s.whoa ∧ s'.chip = s.chip ∧ s'.recd = s.recd ∧ s'.net = s.net ∧ s'.tim = s.tim ∧ s'.gnb = s.gnb ∧ s'.gait =
      s.gait ∧ s'.pad = s.pad ∧ s'.fix = s.fix ∧ s'.air = s.air ∧ s'.byl = s.byl := by
  intro h
  simp only [execTackUnload] at h
  have h := Host.Outcome.next.inj h
  subst h
  refine ⟨?_, ?_, ?_, ?_, ?_, ?_, ?_, ?_, ?_, ?_, ?_, ?_, ?_, ?_, ?_⟩
  · first | refine (State.runOp_cyc _ _ _ _ _ _ ?_).trans (by simp) | refine (State.sessOp_cyc _ _ _ _ _ _ _ ?_).trans (by simp) | refine (State.tackOp_cyc _ _ _ _ _ ?_).trans (by simp)
    intro b x r h; subst h; (repeat' split) <;> simp
  · first | refine (State.runOp_pending _ _ _ _ _ _ ?_).trans (by simp) | refine (State.sessOp_pending _ _ _ _ _ _ _ ?_).trans (by simp) | refine (State.tackOp_pending _ _ _ _ _ ?_).trans (by simp)
    intro b x r h; subst h; (repeat' split) <;> simp
  · first | refine (State.runOp_hostMem _ _ _ _ _ _ ?_).trans (by simp) | refine (State.sessOp_hostMem _ _ _ _ _ _ _ ?_).trans (by simp) | refine (State.tackOp_hostMem _ _ _ _ _ ?_).trans (by simp)
    intro b x r h; subst h; (repeat' split) <;> simp
  · first | refine (State.runOp_live _ _ _ _ _ _ ?_).trans (by simp) | refine (State.sessOp_live _ _ _ _ _ _ _ ?_).trans (by simp) | refine (State.tackOp_live _ _ _ _ _ ?_).trans (by simp)
    intro b x r h; subst h; (repeat' split) <;> simp
  · first | refine (State.runOp_whoa _ _ _ _ _ _ ?_).trans (by simp) | refine (State.sessOp_whoa _ _ _ _ _ _ _ ?_).trans (by simp) | refine (State.tackOp_whoa _ _ _ _ _ ?_).trans (by simp)
    intro b x r h; subst h; (repeat' split) <;> simp
  · first | refine (State.runOp_chip _ _ _ _ _ _ ?_).trans (by simp) | refine (State.sessOp_chip _ _ _ _ _ _ _ ?_).trans (by simp) | refine (State.tackOp_chip _ _ _ _ _ ?_).trans (by simp)
    intro b x r h; subst h; (repeat' split) <;> simp
  · first | refine (State.runOp_recd _ _ _ _ _ _ ?_).trans (by simp) | refine (State.sessOp_recd _ _ _ _ _ _ _ ?_).trans (by simp) | refine (State.tackOp_recd _ _ _ _ _ ?_).trans (by simp)
    intro b x r h; subst h; (repeat' split) <;> simp
  · first | refine (State.runOp_net _ _ _ _ _ _ ?_).trans (by simp) | refine (State.sessOp_net _ _ _ _ _ _ _ ?_).trans (by simp) | refine (State.tackOp_net _ _ _ _ _ ?_).trans (by simp)
    intro b x r h; subst h; (repeat' split) <;> simp
  · first | refine (State.runOp_tim _ _ _ _ _ _ ?_).trans (by simp) | refine (State.sessOp_tim _ _ _ _ _ _ _ ?_).trans (by simp) | refine (State.tackOp_tim _ _ _ _ _ ?_).trans (by simp)
    intro b x r h; subst h; (repeat' split) <;> simp
  · first | refine (State.runOp_gnb _ _ _ _ _ _ ?_).trans (by simp) | refine (State.sessOp_gnb _ _ _ _ _ _ _ ?_).trans (by simp) | refine (State.tackOp_gnb _ _ _ _ _ ?_).trans (by simp)
    intro b x r h; subst h; (repeat' split) <;> simp
  · first | refine (State.runOp_gait _ _ _ _ _ _ ?_).trans (by simp) | refine (State.sessOp_gait _ _ _ _ _ _ _ ?_).trans (by simp) | refine (State.tackOp_gait _ _ _ _ _ ?_).trans (by simp)
    intro b x r h; subst h; (repeat' split) <;> simp
  · first | refine (State.runOp_pad _ _ _ _ _ _ ?_).trans (by simp) | refine (State.sessOp_pad _ _ _ _ _ _ _ ?_).trans (by simp) | refine (State.tackOp_pad _ _ _ _ _ ?_).trans (by simp)
    intro b x r h; subst h; (repeat' split) <;> simp
  · first | refine (State.runOp_fix _ _ _ _ _ _ ?_).trans (by simp) | refine (State.sessOp_fix _ _ _ _ _ _ _ ?_).trans (by simp) | refine (State.tackOp_fix _ _ _ _ _ ?_).trans (by simp)
    intro b x r h; subst h; (repeat' split) <;> simp
  · first | refine (State.runOp_air _ _ _ _ _ _ ?_).trans (by simp) | refine (State.sessOp_air _ _ _ _ _ _ _ ?_).trans (by simp) | refine (State.tackOp_air _ _ _ _ _ ?_).trans (by simp)
    intro b x r h; subst h; (repeat' split) <;> simp
  · first | refine (State.runOp_byl _ _ _ _ _ _ ?_).trans (by simp) | refine (State.sessOp_byl _ _ _ _ _ _ _ ?_).trans (by simp) | refine (State.tackOp_byl _ _ _ _ _ ?_).trans (by simp)
    intro b x r h; subst h; (repeat' split) <;> simp

theorem execTackRevoke_frame (x0 : Nat) (x1 : Item) (s : State) {s' : State} : execTackRevoke x0 x1 s = .next s' →
    s'.cyc = s.cyc + (x0 - s.cyc) ∧ s'.pending = s.pending ∧ s'.hostMem = s.hostMem ∧ s'.live = s.live ∧ s'.whoa =
      s.whoa ∧ s'.chip = s.chip ∧ s'.recd = s.recd ∧ s'.net = s.net ∧ s'.tim = s.tim ∧ s'.gnb = s.gnb ∧ s'.gait =
      s.gait ∧ s'.pad = s.pad ∧ s'.fix = s.fix ∧ s'.air = s.air ∧ s'.byl = s.byl := by
  intro h
  simp only [execTackRevoke] at h
  (repeat' split at h) <;> first | (have h := Host.Outcome.next.inj h; subst h; simp; done) | (have h := Option.some.inj h; subst h; simp; done) | (simp at h; done)

theorem execTackImport_frame (x0 : Nat) (x1 : Item) (x2 : Option (List Sys2Proof.Byte)) (s : State) {s' : State} :
    execTackImport x0 x1 x2 s = .next s' →
    s'.cyc = s.cyc + (x0 - s.cyc) ∧ s'.pending = s.pending ∧ s'.hostMem = s.hostMem ∧ s'.live = s.live ∧ s'.whoa =
      s.whoa ∧ s'.chip = s.chip ∧ s'.recd = s.recd ∧ s'.net = s.net ∧ s'.tim = s.tim ∧ s'.gnb = s.gnb ∧ s'.gait =
      s.gait ∧ s'.pad = s.pad ∧ s'.fix = s.fix ∧ s'.air = s.air ∧ s'.byl = s.byl := by
  intro h
  simp only [execTackImport] at h
  (repeat' split at h) <;> first | (have h := Host.Outcome.next.inj h; subst h; simp; done) | (have h := Option.some.inj h; subst h; simp; done) | (simp at h; done)

theorem execTackSign_frame (x0 : Nat) (x1 : Item) (x2 : List Sys2Proof.Byte) (s : State) {s' : State} : execTackSign
    x0 x1 x2 s = .next s' →
    s'.cyc = s.cyc + (x0 - s.cyc) ∧ s'.pending = s.pending ∧ s'.live = s.live ∧ s'.whoa = s.whoa ∧ s'.chip = s.chip
      ∧ s'.tack = s.tack ∧ s'.recd = s.recd ∧ s'.net = s.net ∧ s'.tim = s.tim ∧ s'.gnb = s.gnb ∧ s'.gait = s.gait ∧
      s'.pad = s.pad ∧ s'.fix = s.fix ∧ s'.air = s.air ∧ s'.byl = s.byl := by
  intro h
  simp only [execTackSign] at h
  (repeat' split at h) <;> first | (have h := Host.Outcome.next.inj h; subst h; simp; done) | (have h := Option.some.inj h; subst h; simp; done) | (simp at h; done)

theorem execTackMac_frame (x0 : Nat) (x1 : Item) (x2 : BitVec 192) (s : State) {s' : State} : execTackMac x0 x1 x2 s
    = .next s' →
    s'.cyc = s.cyc + (x0 - s.cyc) ∧ s'.pending = s.pending ∧ s'.hostMem = s.hostMem ∧ s'.live = s.live ∧ s'.whoa =
      s.whoa ∧ s'.chip = s.chip ∧ s'.tack = s.tack ∧ s'.recd = s.recd ∧ s'.net = s.net ∧ s'.tim = s.tim ∧ s'.gnb =
      s.gnb ∧ s'.gait = s.gait ∧ s'.pad = s.pad ∧ s'.fix = s.fix ∧ s'.air = s.air ∧ s'.byl = s.byl := by
  intro h
  simp only [execTackMac] at h
  (repeat' split at h) <;> first | (have h := Host.Outcome.next.inj h; subst h; simp; done) | (have h := Option.some.inj h; subst h; simp; done) | (simp at h; done)

theorem execTackRandom_frame (x0 : Nat) (x1 : Item) (x2 : List Sys2Proof.Byte) (s : State) {s' : State} :
    execTackRandom x0 x1 x2 s = .next s' →
    s'.cyc = s.cyc + (x0 - s.cyc) ∧ s'.pending = s.pending ∧ s'.live = s.live ∧ s'.whoa = s.whoa ∧ s'.chip = s.chip
      ∧ s'.tack = s.tack ∧ s'.recd = s.recd ∧ s'.net = s.net ∧ s'.tim = s.tim ∧ s'.gnb = s.gnb ∧ s'.gait = s.gait ∧
      s'.pad = s.pad ∧ s'.fix = s.fix ∧ s'.air = s.air ∧ s'.byl = s.byl := by
  intro h
  simp only [execTackRandom] at h
  (repeat' split at h) <;> first | (have h := Host.Outcome.next.inj h; subst h; simp; done) | (have h := Option.some.inj h; subst h; simp; done) | (simp at h; done)

theorem execTackPubkey_frame (x0 : Nat) (x1 : Item) (x2 : List Sys2Proof.Byte) (s : State) {s' : State} :
    execTackPubkey x0 x1 x2 s = .next s' →
    s'.cyc = s.cyc + (x0 - s.cyc) ∧ s'.pending = s.pending ∧ s'.live = s.live ∧ s'.whoa = s.whoa ∧ s'.chip = s.chip
      ∧ s'.tack = s.tack ∧ s'.recd = s.recd ∧ s'.net = s.net ∧ s'.tim = s.tim ∧ s'.gnb = s.gnb ∧ s'.gait = s.gait ∧
      s'.pad = s.pad ∧ s'.fix = s.fix ∧ s'.air = s.air ∧ s'.byl = s.byl := by
  intro h
  simp only [execTackPubkey] at h
  (repeat' split at h) <;> first | (have h := Host.Outcome.next.inj h; subst h; simp; done) | (have h := Option.some.inj h; subst h; simp; done) | (simp at h; done)

theorem execTackAttest_frame (x0 : Nat) (x1 : Item) (x2 : BitVec 384) (x3 : List Sys2Proof.Byte) (s : State) {s' :
    State} : execTackAttest x0 x1 x2 x3 s = .next s' →
    s'.cyc = s.cyc + (x0 - s.cyc) ∧ s'.pending = s.pending ∧ s'.live = s.live ∧ s'.whoa = s.whoa ∧ s'.chip = s.chip
      ∧ s'.tack = s.tack ∧ s'.recd = s.recd ∧ s'.net = s.net ∧ s'.tim = s.tim ∧ s'.gnb = s.gnb ∧ s'.gait = s.gait ∧
      s'.pad = s.pad ∧ s'.fix = s.fix ∧ s'.air = s.air ∧ s'.byl = s.byl := by
  intro h
  simp only [execTackAttest] at h
  (repeat' split at h) <;> first | (have h := Host.Outcome.next.inj h; subst h; simp; done) | (have h := Option.some.inj h; subst h; simp; done) | (simp at h; done)

theorem execEpochAdvance_frame (x0 : Nat) (x1 : Item) (s : State) {s' : State} : execEpochAdvance x0 x1 s = .next s' →
    s'.cyc = s.cyc + (x0 - s.cyc) ∧ s'.pending = s.pending ∧ s'.hostMem = s.hostMem ∧ s'.live = s.live ∧ s'.whoa =
      s.whoa ∧ s'.recd = s.recd ∧ s'.net = s.net ∧ s'.tim = s.tim ∧ s'.gnb = s.gnb ∧ s'.gait = s.gait ∧ s'.pad =
      s.pad ∧ s'.fix = s.fix ∧ s'.air = s.air ∧ s'.byl = s.byl := by
  intro h
  simp only [execEpochAdvance] at h
  (repeat' split at h) <;> first | (have h := Host.Outcome.next.inj h; subst h; simp; done) | (have h := Option.some.inj h; subst h; simp; done) | (simp at h; done)

theorem execTackRewrap_frame (x0 : Nat) (x1 : Item) (x2 : List Sys2Proof.Byte) (x3 : List (Option (List
    Sys2Proof.Byte) × List Sys2Proof.Byte)) (s : State) {s' : State} : execTackRewrap x0 x1 x2 x3 s = .next s' →
    s'.cyc = s.cyc + (x0 - s.cyc) ∧ s'.pending = s.pending ∧ s'.hostMem = s.hostMem ∧ s'.live = s.live ∧ s'.whoa =
      s.whoa ∧ s'.chip = s.chip ∧ s'.recd = s.recd ∧ s'.net = s.net ∧ s'.tim = s.tim ∧ s'.gnb = s.gnb ∧ s'.gait =
      s.gait ∧ s'.pad = s.pad ∧ s'.fix = s.fix ∧ s'.air = s.air ∧ s'.byl = s.byl := by
  intro h
  simp only [execTackRewrap] at h
  (repeat' split at h) <;> first | (have h := Host.Outcome.next.inj h; subst h; simp; done) | (have h := Option.some.inj h; subst h; simp; done) | (simp at h; done)

theorem execTackZeroise_frame (x0 : Nat) (x1 : Item) (s : State) {s' : State} : execTackZeroise x0 x1 s = .next s' →
    s'.cyc = s.cyc + (x0 - s.cyc) ∧ s'.pending = s.pending ∧ s'.live = s.live ∧ s'.whoa = s.whoa ∧ s'.recd = s.recd
      ∧ s'.net = s.net ∧ s'.tim = s.tim ∧ s'.gnb = s.gnb ∧ s'.fix = s.fix := by
  intro h
  simp only [execTackZeroise] at h
  (repeat' split at h) <;> first | (have h := Host.Outcome.next.inj h; subst h; simp; done) | (have h := Option.some.inj h; subst h; simp; done) | (simp at h; done)

theorem execTamperClear_frame (x0 : Nat) (x1 : Item) (s : State) {s' : State} : execTamperClear x0 x1 s = .next s' →
    s'.cyc = s.cyc + (x0 - s.cyc) ∧ s'.pending = s.pending ∧ s'.hostMem = s.hostMem ∧ s'.live = s.live ∧ s'.whoa =
      s.whoa ∧ s'.recd = s.recd ∧ s'.net = s.net ∧ s'.tim = s.tim ∧ s'.gnb = s.gnb ∧ s'.gait = s.gait ∧ s'.pad =
      s.pad ∧ s'.fix = s.fix ∧ s'.air = s.air ∧ s'.byl = s.byl := by
  intro h
  simp only [execTamperClear] at h
  (repeat' split at h) <;> first | (have h := Host.Outcome.next.inj h; subst h; simp; done) | (have h := Option.some.inj h; subst h; simp; done) | (simp at h; done)

theorem execRecArm_frame (x0 : Nat) (x1 : Item) (s : State) {s' : State} : execRecArm x0 x1 s = .next s' →
    s'.cyc = s.cyc + (x0 - s.cyc) ∧ s'.pending = s.pending ∧ s'.hostMem = s.hostMem ∧ s'.live = s.live ∧ s'.whoa =
      s.whoa ∧ s'.chip = s.chip ∧ s'.tack = s.tack ∧ s'.net = s.net ∧ s'.tim = s.tim ∧ s'.gnb = s.gnb ∧ s'.gait =
      s.gait ∧ s'.pad = s.pad ∧ s'.fix = s.fix ∧ s'.air = s.air := by
  intro h
  simp only [execRecArm] at h
  (repeat' split at h) <;> first | (have h := Host.Outcome.next.inj h; subst h; simp; done) | (have h := Option.some.inj h; subst h; simp; done) | (simp at h; done)

theorem execRecFire_frame (x0 : Nat) (x1 : Item) (s : State) {s' : State} : execRecFire x0 x1 s = .next s' →
    s'.cyc = s.cyc + (x0 - s.cyc) ∧ s'.pending = s.pending ∧ s'.hostMem = s.hostMem ∧ s'.live = s.live ∧ s'.whoa =
      s.whoa ∧ s'.chip = s.chip ∧ s'.tack = s.tack ∧ s'.net = s.net ∧ s'.tim = s.tim ∧ s'.gnb = s.gnb ∧ s'.gait =
      s.gait ∧ s'.pad = s.pad ∧ s'.fix = s.fix ∧ s'.air = s.air := by
  intro h
  simp only [execRecFire] at h
  (repeat' split at h) <;> first | (have h := Host.Outcome.next.inj h; subst h; simp; done) | (have h := Option.some.inj h; subst h; simp; done) | (simp at h; done)

theorem execRecDisarm_frame (x0 : Nat) (x1 : Item) (s : State) {s' : State} : execRecDisarm x0 x1 s = .next s' →
    s'.cyc = s.cyc + (x0 - s.cyc) ∧ s'.pending = s.pending ∧ s'.hostMem = s.hostMem ∧ s'.live = s.live ∧ s'.whoa =
      s.whoa ∧ s'.chip = s.chip ∧ s'.tack = s.tack ∧ s'.net = s.net ∧ s'.tim = s.tim ∧ s'.gnb = s.gnb ∧ s'.gait =
      s.gait ∧ s'.pad = s.pad ∧ s'.fix = s.fix ∧ s'.air = s.air ∧ s'.byl = s.byl := by
  intro h
  simp only [execRecDisarm] at h
  (repeat' split at h) <;> first | (have h := Host.Outcome.next.inj h; subst h; simp; done) | (have h := Option.some.inj h; subst h; simp; done) | (simp at h; done)

theorem execRecReadout_frame (x0 : Nat) (x1 : Item) (x2 : BitVec 64) (s : State) {s' : State} : execRecReadout x0 x1
    x2 s = .next s' →
    s'.cyc = s.cyc + (x0 - s.cyc) ∧ s'.pending = s.pending ∧ s'.live = s.live ∧ s'.whoa = s.whoa ∧ s'.chip = s.chip
      ∧ s'.net = s.net ∧ s'.tim = s.tim ∧ s'.gnb = s.gnb ∧ s'.gait = s.gait ∧ s'.pad = s.pad ∧ s'.fix = s.fix ∧
      s'.air = s.air ∧ s'.byl = s.byl := by
  intro h
  simp only [execRecReadout] at h
  have h := Host.Outcome.next.inj h
  subst h
  refine ⟨?_, ?_, ?_, ?_, ?_, ?_, ?_, ?_, ?_, ?_, ?_, ?_, ?_⟩
  · first | refine (State.runOp_cyc _ _ _ _ _ _ ?_).trans (by simp) | refine (State.sessOp_cyc _ _ _ _ _ _ _ ?_).trans (by simp) | refine (State.tackOp_cyc _ _ _ _ _ ?_).trans (by simp)
    intro b x r h; subst h; (repeat' split) <;> simp
  · first | refine (State.runOp_pending _ _ _ _ _ _ ?_).trans (by simp) | refine (State.sessOp_pending _ _ _ _ _ _ _ ?_).trans (by simp) | refine (State.tackOp_pending _ _ _ _ _ ?_).trans (by simp)
    intro b x r h; subst h; (repeat' split) <;> simp
  · first | refine (State.runOp_live _ _ _ _ _ _ ?_).trans (by simp) | refine (State.sessOp_live _ _ _ _ _ _ _ ?_).trans (by simp) | refine (State.tackOp_live _ _ _ _ _ ?_).trans (by simp)
    intro b x r h; subst h; (repeat' split) <;> simp
  · first | refine (State.runOp_whoa _ _ _ _ _ _ ?_).trans (by simp) | refine (State.sessOp_whoa _ _ _ _ _ _ _ ?_).trans (by simp) | refine (State.tackOp_whoa _ _ _ _ _ ?_).trans (by simp)
    intro b x r h; subst h; (repeat' split) <;> simp
  · first | refine (State.runOp_chip _ _ _ _ _ _ ?_).trans (by simp) | refine (State.sessOp_chip _ _ _ _ _ _ _ ?_).trans (by simp) | refine (State.tackOp_chip _ _ _ _ _ ?_).trans (by simp)
    intro b x r h; subst h; (repeat' split) <;> simp
  · first | refine (State.runOp_net _ _ _ _ _ _ ?_).trans (by simp) | refine (State.sessOp_net _ _ _ _ _ _ _ ?_).trans (by simp) | refine (State.tackOp_net _ _ _ _ _ ?_).trans (by simp)
    intro b x r h; subst h; (repeat' split) <;> simp
  · first | refine (State.runOp_tim _ _ _ _ _ _ ?_).trans (by simp) | refine (State.sessOp_tim _ _ _ _ _ _ _ ?_).trans (by simp) | refine (State.tackOp_tim _ _ _ _ _ ?_).trans (by simp)
    intro b x r h; subst h; (repeat' split) <;> simp
  · first | refine (State.runOp_gnb _ _ _ _ _ _ ?_).trans (by simp) | refine (State.sessOp_gnb _ _ _ _ _ _ _ ?_).trans (by simp) | refine (State.tackOp_gnb _ _ _ _ _ ?_).trans (by simp)
    intro b x r h; subst h; (repeat' split) <;> simp
  · first | refine (State.runOp_gait _ _ _ _ _ _ ?_).trans (by simp) | refine (State.sessOp_gait _ _ _ _ _ _ _ ?_).trans (by simp) | refine (State.tackOp_gait _ _ _ _ _ ?_).trans (by simp)
    intro b x r h; subst h; (repeat' split) <;> simp
  · first | refine (State.runOp_pad _ _ _ _ _ _ ?_).trans (by simp) | refine (State.sessOp_pad _ _ _ _ _ _ _ ?_).trans (by simp) | refine (State.tackOp_pad _ _ _ _ _ ?_).trans (by simp)
    intro b x r h; subst h; (repeat' split) <;> simp
  · first | refine (State.runOp_fix _ _ _ _ _ _ ?_).trans (by simp) | refine (State.sessOp_fix _ _ _ _ _ _ _ ?_).trans (by simp) | refine (State.tackOp_fix _ _ _ _ _ ?_).trans (by simp)
    intro b x r h; subst h; (repeat' split) <;> simp
  · first | refine (State.runOp_air _ _ _ _ _ _ ?_).trans (by simp) | refine (State.sessOp_air _ _ _ _ _ _ _ ?_).trans (by simp) | refine (State.tackOp_air _ _ _ _ _ ?_).trans (by simp)
    intro b x r h; subst h; (repeat' split) <;> simp
  · first | refine (State.runOp_byl _ _ _ _ _ _ ?_).trans (by simp) | refine (State.sessOp_byl _ _ _ _ _ _ _ ?_).trans (by simp) | refine (State.tackOp_byl _ _ _ _ _ ?_).trans (by simp)
    intro b x r h; subst h; (repeat' split) <;> simp

theorem execRecDiscard_frame (x0 : Nat) (x1 : Item) (s : State) {s' : State} : execRecDiscard x0 x1 s = .next s' →
    s'.cyc = s.cyc + (x0 - s.cyc) ∧ s'.pending = s.pending ∧ s'.hostMem = s.hostMem ∧ s'.live = s.live ∧ s'.whoa =
      s.whoa ∧ s'.chip = s.chip ∧ s'.tack = s.tack ∧ s'.net = s.net ∧ s'.tim = s.tim ∧ s'.gnb = s.gnb ∧ s'.gait =
      s.gait ∧ s'.pad = s.pad ∧ s'.fix = s.fix ∧ s'.air = s.air ∧ s'.byl = s.byl := by
  intro h
  simp only [execRecDiscard] at h
  (repeat' split at h) <;> first | (have h := Host.Outcome.next.inj h; subst h; simp; done) | (have h := Option.some.inj h; subst h; simp; done) | (simp at h; done)

theorem execStableEnter_frame (x0 : Nat) (x1 : Item) (s : State) {s' : State} : execStableEnter x0 x1 s = .next s' →
    s'.cyc = s.cyc + (x0 - s.cyc) ∧ s'.pending = s.pending ∧ s'.live = s.live ∧ s'.whoa = s.whoa := by
  intro h
  simp only [execStableEnter] at h
  (repeat' split at h) <;> first | (have h := Host.Outcome.next.inj h; subst h; simp; done) | (have h := Option.some.inj h; subst h; simp; done) | (simp at h; done)

theorem execImgWrite_frame (x0 : Nat) (x1 : Item) (x2 : Image) (s : State) {s' : State} : execImgWrite x0 x1 x2 s =
    .next s' →
    s'.cyc = s.cyc + (x0 - s.cyc) ∧ s'.pending = s.pending ∧ s'.hostMem = s.hostMem ∧ s'.live = s.live ∧ s'.whoa =
      s.whoa ∧ s'.tack = s.tack ∧ s'.recd = s.recd ∧ s'.net = s.net ∧ s'.tim = s.tim ∧ s'.gnb = s.gnb ∧ s'.gait =
      s.gait ∧ s'.pad = s.pad ∧ s'.fix = s.fix ∧ s'.air = s.air ∧ s'.byl = s.byl := by
  intro h
  simp only [execImgWrite] at h
  (repeat' split at h) <;> first | (have h := Host.Outcome.next.inj h; subst h; simp; done) | (have h := Option.some.inj h; subst h; simp; done) | (simp at h; done)

theorem execImgActivate_frame (x0 : Nat) (x1 : Item) (s : State) {s' : State} : execImgActivate x0 x1 s = .next s' →
    s'.cyc = s.cyc + (x0 - s.cyc) ∧ s'.pending = s.pending ∧ s'.hostMem = s.hostMem ∧ s'.live = s.live ∧ s'.whoa =
      s.whoa ∧ s'.tack = s.tack ∧ s'.recd = s.recd ∧ s'.net = s.net ∧ s'.tim = s.tim ∧ s'.gnb = s.gnb ∧ s'.gait =
      s.gait ∧ s'.pad = s.pad ∧ s'.fix = s.fix ∧ s'.air = s.air ∧ s'.byl = s.byl := by
  intro h
  simp only [execImgActivate] at h
  have h := Host.Outcome.next.inj h
  subst h
  refine ⟨?_, ?_, ?_, ?_, ?_, ?_, ?_, ?_, ?_, ?_, ?_, ?_, ?_, ?_, ?_⟩
  · first | refine (State.runOp_cyc _ _ _ _ _ _ ?_).trans (by simp) | refine (State.sessOp_cyc _ _ _ _ _ _ _ ?_).trans (by simp) | refine (State.tackOp_cyc _ _ _ _ _ ?_).trans (by simp)
    intro b x r h; subst h; (repeat' split) <;> simp
  · first | refine (State.runOp_pending _ _ _ _ _ _ ?_).trans (by simp) | refine (State.sessOp_pending _ _ _ _ _ _ _ ?_).trans (by simp) | refine (State.tackOp_pending _ _ _ _ _ ?_).trans (by simp)
    intro b x r h; subst h; (repeat' split) <;> simp
  · first | refine (State.runOp_hostMem _ _ _ _ _ _ ?_).trans (by simp) | refine (State.sessOp_hostMem _ _ _ _ _ _ _ ?_).trans (by simp) | refine (State.tackOp_hostMem _ _ _ _ _ ?_).trans (by simp)
    intro b x r h; subst h; (repeat' split) <;> simp
  · first | refine (State.runOp_live _ _ _ _ _ _ ?_).trans (by simp) | refine (State.sessOp_live _ _ _ _ _ _ _ ?_).trans (by simp) | refine (State.tackOp_live _ _ _ _ _ ?_).trans (by simp)
    intro b x r h; subst h; (repeat' split) <;> simp
  · first | refine (State.runOp_whoa _ _ _ _ _ _ ?_).trans (by simp) | refine (State.sessOp_whoa _ _ _ _ _ _ _ ?_).trans (by simp) | refine (State.tackOp_whoa _ _ _ _ _ ?_).trans (by simp)
    intro b x r h; subst h; (repeat' split) <;> simp
  · first | refine (State.runOp_tack _ _ _ _ _ _ ?_).trans (by simp) | refine (State.sessOp_tack _ _ _ _ _ _ _ ?_).trans (by simp) | refine (State.tackOp_tack _ _ _ _ _ ?_).trans (by simp)
    intro b x r h; subst h; (repeat' split) <;> simp
  · first | refine (State.runOp_recd _ _ _ _ _ _ ?_).trans (by simp) | refine (State.sessOp_recd _ _ _ _ _ _ _ ?_).trans (by simp) | refine (State.tackOp_recd _ _ _ _ _ ?_).trans (by simp)
    intro b x r h; subst h; (repeat' split) <;> simp
  · first | refine (State.runOp_net _ _ _ _ _ _ ?_).trans (by simp) | refine (State.sessOp_net _ _ _ _ _ _ _ ?_).trans (by simp) | refine (State.tackOp_net _ _ _ _ _ ?_).trans (by simp)
    intro b x r h; subst h; (repeat' split) <;> simp
  · first | refine (State.runOp_tim _ _ _ _ _ _ ?_).trans (by simp) | refine (State.sessOp_tim _ _ _ _ _ _ _ ?_).trans (by simp) | refine (State.tackOp_tim _ _ _ _ _ ?_).trans (by simp)
    intro b x r h; subst h; (repeat' split) <;> simp
  · first | refine (State.runOp_gnb _ _ _ _ _ _ ?_).trans (by simp) | refine (State.sessOp_gnb _ _ _ _ _ _ _ ?_).trans (by simp) | refine (State.tackOp_gnb _ _ _ _ _ ?_).trans (by simp)
    intro b x r h; subst h; (repeat' split) <;> simp
  · first | refine (State.runOp_gait _ _ _ _ _ _ ?_).trans (by simp) | refine (State.sessOp_gait _ _ _ _ _ _ _ ?_).trans (by simp) | refine (State.tackOp_gait _ _ _ _ _ ?_).trans (by simp)
    intro b x r h; subst h; (repeat' split) <;> simp
  · first | refine (State.runOp_pad _ _ _ _ _ _ ?_).trans (by simp) | refine (State.sessOp_pad _ _ _ _ _ _ _ ?_).trans (by simp) | refine (State.tackOp_pad _ _ _ _ _ ?_).trans (by simp)
    intro b x r h; subst h; (repeat' split) <;> simp
  · first | refine (State.runOp_fix _ _ _ _ _ _ ?_).trans (by simp) | refine (State.sessOp_fix _ _ _ _ _ _ _ ?_).trans (by simp) | refine (State.tackOp_fix _ _ _ _ _ ?_).trans (by simp)
    intro b x r h; subst h; (repeat' split) <;> simp
  · first | refine (State.runOp_air _ _ _ _ _ _ ?_).trans (by simp) | refine (State.sessOp_air _ _ _ _ _ _ _ ?_).trans (by simp) | refine (State.tackOp_air _ _ _ _ _ ?_).trans (by simp)
    intro b x r h; subst h; (repeat' split) <;> simp
  · first | refine (State.runOp_byl _ _ _ _ _ _ ?_).trans (by simp) | refine (State.sessOp_byl _ _ _ _ _ _ _ ?_).trans (by simp) | refine (State.tackOp_byl _ _ _ _ _ ?_).trans (by simp)
    intro b x r h; subst h; (repeat' split) <;> simp

theorem execImgConfirm_frame (x0 : Nat) (x1 : Item) (s : State) {s' : State} : execImgConfirm x0 x1 s = .next s' →
    s'.cyc = s.cyc + (x0 - s.cyc) ∧ s'.pending = s.pending ∧ s'.hostMem = s.hostMem ∧ s'.live = s.live ∧ s'.whoa =
      s.whoa ∧ s'.tack = s.tack ∧ s'.recd = s.recd ∧ s'.net = s.net ∧ s'.tim = s.tim ∧ s'.gnb = s.gnb ∧ s'.gait =
      s.gait ∧ s'.pad = s.pad ∧ s'.fix = s.fix ∧ s'.air = s.air ∧ s'.byl = s.byl := by
  intro h
  simp only [execImgConfirm] at h
  (repeat' split at h) <;> first | (have h := Host.Outcome.next.inj h; subst h; simp; done) | (have h := Option.some.inj h; subst h; simp; done) | (simp at h; done)

theorem execOtpProgram_frame (x0 : Nat) (x1 : Item) (x2 : OtpReq) (s : State) {s' : State} : execOtpProgram x0 x1 x2
    s = .next s' →
    s'.cyc = s.cyc + (x0 - s.cyc) ∧ s'.pending = s.pending ∧ s'.hostMem = s.hostMem ∧ s'.live = s.live ∧ s'.whoa =
      s.whoa ∧ s'.tack = s.tack ∧ s'.recd = s.recd ∧ s'.net = s.net ∧ s'.tim = s.tim ∧ s'.gnb = s.gnb ∧ s'.gait =
      s.gait ∧ s'.pad = s.pad ∧ s'.fix = s.fix ∧ s'.air = s.air ∧ s'.byl = s.byl := by
  intro h
  simp only [execOtpProgram] at h
  (repeat' split at h) <;> first | (have h := Host.Outcome.next.inj h; subst h; simp; done) | (have h := Option.some.inj h; subst h; simp; done) | (simp at h; done)

theorem execDebugUnlock_frame (x0 : Nat) (x1 : Item) (x2 : OtpReq) (s : State) {s' : State} : execDebugUnlock x0 x1
    x2 s = .next s' →
    s'.cyc = s.cyc + (x0 - s.cyc) ∧ s'.pending = s.pending ∧ s'.hostMem = s.hostMem ∧ s'.live = s.live ∧ s'.whoa =
      s.whoa ∧ s'.recd = s.recd ∧ s'.net = s.net ∧ s'.tim = s.tim ∧ s'.gnb = s.gnb ∧ s'.gait = s.gait ∧ s'.pad =
      s.pad ∧ s'.fix = s.fix ∧ s'.byl = s.byl := by
  intro h
  simp only [execDebugUnlock] at h
  (repeat' split at h) <;> first | (have h := Host.Outcome.next.inj h; subst h; simp; done) | (have h := Option.some.inj h; subst h; simp; done) | (simp at h; done)

theorem execPairHandover_frame (x0 : Nat) (x1 : Item) (s : State) {s' : State} : execPairHandover x0 x1 s = .next s' →
    s'.cyc = s.cyc + (x0 - s.cyc) ∧ s'.pending = s.pending ∧ s'.hostMem = s.hostMem ∧ s'.live = s.live ∧ s'.whoa =
      s.whoa ∧ s'.chip = s.chip ∧ s'.tack = s.tack ∧ s'.recd = s.recd ∧ s'.net = s.net ∧ s'.tim = s.tim ∧ s'.gnb =
      s.gnb ∧ s'.gait = s.gait ∧ s'.pad = s.pad ∧ s'.fix = s.fix ∧ s'.air = s.air := by
  intro h
  simp only [execPairHandover] at h
  (repeat' split at h) <;> first | (have h := Host.Outcome.next.inj h; subst h; simp; done) | (have h := Option.some.inj h; subst h; simp; done) | (simp at h; done)

theorem execPowerOnReset_frame (x0 : Nat) (x1 : BitVec 2) (x2 : Bool) (x3 : Option Part) (x4 : BitVec 10) (x5 :
    Bool) (s : State) {s' : State} : execPowerOnReset x0 x1 x2 x3 x4 x5 s = .next s' →
    s'.cyc = s.cyc + (x0 - s.cyc) ∧ s'.pending = s.pending ∧ s'.hostMem = s.hostMem := by
  intro h
  simp only [execPowerOnReset] at h
  (repeat' split at h) <;> first | (have h := Host.Outcome.next.inj h; subst h; simp; done) | (have h := Option.some.inj h; subst h; simp; done) | (simp at h; done)

theorem execChipBootGo_frame (x0 : Nat) (x1 : Requester) (x2 : Sys2Proof.Word) (x3 : Image) (x4 : Image) (s : State)
    {s' : State} : execChipBootGo x0 x1 x2 x3 x4 s = .next s' →
    s'.cyc = s.cyc + (x0 - s.cyc) ∧ s'.pending = s.pending ∧ s'.hostMem = s.hostMem ∧ s'.whoa = s.whoa ∧ s'.tack =
      s.tack ∧ s'.recd = s.recd ∧ s'.net = s.net ∧ s'.tim = s.tim ∧ s'.gnb = s.gnb ∧ s'.gait = s.gait ∧ s'.pad =
      s.pad ∧ s'.fix = s.fix ∧ s'.air = s.air ∧ s'.byl = s.byl := by
  intro h
  simp only [execChipBootGo] at h
  (repeat' split at h) <;> first | (have h := Host.Outcome.next.inj h; subst h; simp; done) | (have h := Option.some.inj h; subst h; simp; done) | (simp at h; done)

theorem execTrialConfirmTimeout_frame (x0 : Nat) (s : State) {s' : State} : execTrialConfirmTimeout x0 s = .next s' →
    s'.cyc = s.cyc + (x0 - s.cyc) ∧ s'.pending = s.pending ∧ s'.hostMem = s.hostMem := by
  intro h
  simp only [execTrialConfirmTimeout] at h
  (repeat' split at h) <;> first | (have h := Host.Outcome.next.inj h; subst h; simp; done) | (have h := Option.some.inj h; subst h; simp; done) | (simp at h; done)

theorem execActivateReset_frame (x0 : Nat) (s : State) {s' : State} : execActivateReset x0 s = .next s' →
    s'.cyc = s.cyc + (x0 - s.cyc) ∧ s'.pending = s.pending ∧ s'.hostMem = s.hostMem := by
  intro h
  simp only [execActivateReset] at h
  (repeat' split at h) <;> first | (have h := Host.Outcome.next.inj h; subst h; simp; done) | (have h := Option.some.inj h; subst h; simp; done) | (simp at h; done)

theorem execPciePerst_frame (x0 : Nat) (s : State) {s' : State} : execPciePerst x0 s = .next s' →
    s'.cyc = s.cyc + (x0 - s.cyc) ∧ s'.pending = s.pending ∧ s'.hostMem = s.hostMem := by
  intro h
  simp only [execPciePerst] at h
  (repeat' split at h) <;> first | (have h := Host.Outcome.next.inj h; subst h; simp; done) | (have h := Option.some.inj h; subst h; simp; done) | (simp at h; done)

theorem execPcieLinkReset_frame (x0 : Nat) (x1 : Bool) (s : State) {s' : State} : execPcieLinkReset x0 x1 s = .next
    s' →
    s'.cyc = s.cyc + (x0 - s.cyc) ∧ s'.pending = s.pending ∧ s'.hostMem = s.hostMem := by
  intro h
  simp only [execPcieLinkReset] at h
  (repeat' split at h) <;> first | (have h := Host.Outcome.next.inj h; subst h; simp; done) | (have h := Option.some.inj h; subst h; simp; done) | (simp at h; done)

theorem execBadAccess_frame (x0 : Nat) (x1 : Requester) (x2 : Bool) (x3 : Nat) (x4 : Nat) (x5 : BitVec 4) (s :
    State) {s' : State} : execBadAccess x0 x1 x2 x3 x4 x5 s = .next s' →
    s'.cyc = s.cyc + (x0 - s.cyc) ∧ s'.pending = s.pending ∧ s'.hostMem = s.hostMem ∧ s'.live = s.live ∧ s'.whoa =
      s.whoa ∧ s'.chip = s.chip ∧ s'.tack = s.tack ∧ s'.recd = s.recd ∧ s'.net = s.net ∧ s'.tim = s.tim ∧ s'.gnb =
      s.gnb ∧ s'.gait = s.gait ∧ s'.pad = s.pad ∧ s'.fix = s.fix ∧ s'.air = s.air ∧ s'.byl = s.byl := by
  intro h
  simp only [execBadAccess] at h
  (repeat' split at h) <;> first | (have h := Host.Outcome.next.inj h; subst h; simp; done) | (have h := Option.some.inj h; subst h; simp; done) | (simp at h; done)

theorem execRegisterWrite_frame (t : Nat) (rq : Requester) (a : Nat) (v x : Word) (s : State) {s' : State} : execRegisterWrite t rq a v x s = .next s' → Kept s s' := by
  intro h
  simp only [execRegisterWrite] at h
  (repeat' split at h) <;> first | (have h := Host.Outcome.next.inj h; subst h; first | exact (Kept.mk (State.to_mono s t) (by simp) (by simp)).trans (State.busWrite_frame _ _ _ _ _) | exact Kept.mk (by simp) (by simp) (by simp)) | (simp at h; done)

theorem execRcRegisterRead_frame (x0 : Nat) (x1 : Requester) (x2 : Nat) (x3 : Sys2Proof.Word) (s : State) {s' :
    State} : execRcRegisterRead x0 x1 x2 x3 s = .next s' →
    s'.cyc = s.cyc + (x0 - s.cyc) ∧ s'.pending = s.pending ∧ s'.hostMem = s.hostMem ∧ s'.live = s.live ∧ s'.whoa =
      s.whoa ∧ s'.chip = s.chip ∧ s'.tack = s.tack ∧ s'.recd = s.recd ∧ s'.net = s.net ∧ s'.tim = s.tim ∧ s'.gnb =
      s.gnb ∧ s'.gait = s.gait ∧ s'.pad = s.pad ∧ s'.fix = s.fix ∧ s'.air = s.air ∧ s'.byl = s.byl := by
  intro h
  simp only [execRcRegisterRead] at h
  (repeat' split at h) <;> first | (have h := Host.Outcome.next.inj h; subst h; simp; done) | (have h := Option.some.inj h; subst h; simp; done) | (simp at h; done)

theorem execReg64LowRead_frame (x0 : Nat) (x1 : Requester) (x2 : Nat) (s : State) {s' : State} : execReg64LowRead x0
    x1 x2 s = .next s' →
    s'.cyc = s.cyc + (x0 - s.cyc) ∧ s'.pending = s.pending ∧ s'.hostMem = s.hostMem ∧ s'.live = s.live ∧ s'.whoa =
      s.whoa ∧ s'.chip = s.chip ∧ s'.tack = s.tack ∧ s'.recd = s.recd ∧ s'.net = s.net ∧ s'.tim = s.tim ∧ s'.gnb =
      s.gnb ∧ s'.gait = s.gait ∧ s'.pad = s.pad ∧ s'.fix = s.fix ∧ s'.air = s.air ∧ s'.byl = s.byl := by
  intro h
  simp only [execReg64LowRead] at h
  (repeat' split at h) <;> first | (have h := Host.Outcome.next.inj h; subst h; simp; done) | (have h := Option.some.inj h; subst h; simp; done) | (simp at h; done)

theorem execReg64HighWrite_frame (t : Nat) (rq : Requester) (a : Nat) (v : Word) (s : State) {s' : State} : execReg64HighWrite t rq a v s = .next s' → Kept s s' := by
  intro h
  simp only [execReg64HighWrite] at h
  (repeat' split at h) <;> first | (have h := Host.Outcome.next.inj h; subst h; first | exact (Kept.mk (State.to_mono s t) (by simp) (by simp)).trans (State.busWrite_frame _ _ _ _ _) | exact Kept.mk (by simp) (by simp) (by simp)) | (simp at h; done)

theorem execTimTimeLowRead_frame (x0 : Nat) (x1 : Requester) (s : State) {s' : State} : execTimTimeLowRead x0 x1 s =
    .next s' →
    s'.cyc = s.cyc + (x0 - s.cyc) ∧ s'.pending = s.pending ∧ s'.hostMem = s.hostMem ∧ s'.live = s.live ∧ s'.whoa =
      s.whoa ∧ s'.chip = s.chip ∧ s'.tack = s.tack ∧ s'.recd = s.recd ∧ s'.net = s.net ∧ s'.tim = s.tim ∧ s'.gnb =
      s.gnb ∧ s'.gait = s.gait ∧ s'.pad = s.pad ∧ s'.fix = s.fix ∧ s'.air = s.air ∧ s'.byl = s.byl := by
  intro h
  simp only [execTimTimeLowRead] at h
  (repeat' split at h) <;> first | (have h := Host.Outcome.next.inj h; subst h; simp; done) | (have h := Option.some.inj h; subst h; simp; done) | (simp at h; done)

theorem execParamApply_frame (x0 : Nat) (x1 : Requester) (x2 : Fin 16) (x3 : BitVec 16) (s : State) {s' : State} :
    execParamApply x0 x1 x2 x3 s = .next s' →
    s'.cyc = s.cyc + (x0 - s.cyc) ∧ s'.pending = s.pending ∧ s'.hostMem = s.hostMem ∧ s'.whoa = s.whoa ∧ s'.chip =
      s.chip ∧ s'.tack = s.tack ∧ s'.recd = s.recd ∧ s'.net = s.net ∧ s'.tim = s.tim ∧ s'.gnb = s.gnb ∧ s'.gait =
      s.gait ∧ s'.pad = s.pad ∧ s'.fix = s.fix ∧ s'.air = s.air := by
  intro h
  simp only [execParamApply] at h
  (repeat' split at h) <;> first | (have h := Host.Outcome.next.inj h; subst h; simp; done) | (have h := Option.some.inj h; subst h; simp; done) | (simp at h; done)

theorem execRgnCmdReset_frame (x0 : Nat) (x1 : Requester) (x2 : Fin 16) (x3 : Sys2Proof.Word) (s : State) {s' :
    State} : execRgnCmdReset x0 x1 x2 x3 s = .next s' →
    s'.cyc = s.cyc + (x0 - s.cyc) ∧ s'.pending = s.pending ∧ s'.hostMem = s.hostMem := by
  intro h
  simp only [execRgnCmdReset] at h
  (repeat' split at h) <;> first | (have h := Host.Outcome.next.inj h; subst h; simp; done) | (have h := Option.some.inj h; subst h; simp; done) | (simp at h; done)

theorem execSqTailWrite_frame (x0 : Nat) (x1 : Fin 64) (x2 : Sys2Proof.Word) (s : State) {s' : State} :
    execSqTailWrite x0 x1 x2 s = .next s' →
    s'.cyc = s.cyc + (x0 - s.cyc) ∧ s'.pending = s.pending ∧ s'.hostMem = s.hostMem ∧ s'.live = s.live ∧ s'.whoa =
      s.whoa ∧ s'.chip = s.chip ∧ s'.tack = s.tack ∧ s'.recd = s.recd ∧ s'.net = s.net ∧ s'.tim = s.tim ∧ s'.gnb =
      s.gnb ∧ s'.gait = s.gait ∧ s'.pad = s.pad ∧ s'.fix = s.fix ∧ s'.air = s.air ∧ s'.byl = s.byl := by
  intro h
  simp only [execSqTailWrite] at h
  (repeat' split at h) <;> first | (have h := Host.Outcome.next.inj h; subst h; simp; done) | (have h := Option.some.inj h; subst h; simp; done) | (simp at h; done)

theorem execCqHeadWrite_frame (x0 : Nat) (x1 : Fin 64) (x2 : Sys2Proof.Word) (s : State) {s' : State} :
    execCqHeadWrite x0 x1 x2 s = .next s' →
    s'.cyc = s.cyc + (x0 - s.cyc) ∧ s'.pending = s.pending ∧ s'.hostMem = s.hostMem ∧ s'.live = s.live ∧ s'.whoa =
      s.whoa ∧ s'.chip = s.chip ∧ s'.tack = s.tack ∧ s'.recd = s.recd ∧ s'.net = s.net ∧ s'.tim = s.tim ∧ s'.gnb =
      s.gnb ∧ s'.gait = s.gait ∧ s'.pad = s.pad ∧ s'.fix = s.fix ∧ s'.air = s.air ∧ s'.byl = s.byl := by
  intro h
  simp only [execCqHeadWrite] at h
  (repeat' split at h) <;> first | (have h := Host.Outcome.next.inj h; subst h; simp; done) | (have h := Option.some.inj h; subst h; simp; done) | (simp at h; done)

theorem execRingEnable_frame (x0 : Nat) (x1 : Requester) (x2 : Fin 64) (x3 : Sys2Proof.Word) (x4 : List LogRec) (s :
    State) {s' : State} : execRingEnable x0 x1 x2 x3 x4 s = .next s' →
    s'.cyc = s.cyc + (x0 - s.cyc) ∧ s'.pending = s.pending ∧ s'.live = s.live ∧ s'.whoa = s.whoa ∧ s'.chip = s.chip
      ∧ s'.tack = s.tack ∧ s'.recd = s.recd ∧ s'.net = s.net ∧ s'.tim = s.tim ∧ s'.gnb = s.gnb ∧ s'.gait = s.gait ∧
      s'.pad = s.pad ∧ s'.fix = s.fix ∧ s'.air = s.air ∧ s'.byl = s.byl := by
  intro h
  simp only [execRingEnable] at h
  (repeat' split at h) <;> first | (have h := Host.Outcome.next.inj h; subst h; simp; done) | (have h := Option.some.inj h; subst h; simp; done) | (simp at h; done)

theorem execRingRecovered_frame (x0 : Nat) (x1 : Fin 64) (s : State) {s' : State} : execRingRecovered x0 x1 s =
    .next s' →
    s'.cyc = s.cyc + (x0 - s.cyc) ∧ s'.pending = s.pending ∧ s'.hostMem = s.hostMem ∧ s'.live = s.live ∧ s'.whoa =
      s.whoa ∧ s'.chip = s.chip ∧ s'.tack = s.tack ∧ s'.recd = s.recd ∧ s'.net = s.net ∧ s'.tim = s.tim ∧ s'.gnb =
      s.gnb ∧ s'.gait = s.gait ∧ s'.pad = s.pad ∧ s'.fix = s.fix ∧ s'.air = s.air ∧ s'.byl = s.byl := by
  intro h
  simp only [execRingRecovered] at h
  (repeat' split at h) <;> first | (have h := Host.Outcome.next.inj h; subst h; simp; done) | (have h := Option.some.inj h; subst h; simp; done) | (simp at h; done)

theorem execStaleCompletionWrite_frame (x0 : Nat) (x1 : Fin 64) (s : State) {s' : State} : execStaleCompletionWrite
    x0 x1 s = .next s' →
    s'.cyc = s.cyc + (x0 - s.cyc) ∧ s'.pending = s.pending ∧ s'.live = s.live ∧ s'.whoa = s.whoa ∧ s'.chip = s.chip
      ∧ s'.tack = s.tack ∧ s'.net = s.net ∧ s'.tim = s.tim ∧ s'.gnb = s.gnb ∧ s'.gait = s.gait ∧ s'.pad = s.pad ∧
      s'.fix = s.fix ∧ s'.air = s.air ∧ s'.byl = s.byl := by
  intro h
  simp only [execStaleCompletionWrite] at h
  (repeat' split at h) <;> first | (have h := Host.Outcome.next.inj h; subst h; simp; done) | (have h := Option.some.inj h; subst h; simp; done) | (simp at h; done)

theorem execDescriptorFetch_frame (x0 : Nat) (x1 : Fin 64) (x2 : List (List Sys2Proof.Byte)) (s : State) {s' :
    State} : execDescriptorFetch x0 x1 x2 s = .next s' →
    s'.cyc = s.cyc + (x0 - s.cyc) ∧ s'.pending = s.pending ∧ s'.live = s.live ∧ s'.whoa = s.whoa ∧ s'.chip = s.chip
      ∧ s'.tack = s.tack ∧ s'.recd = s.recd ∧ s'.net = s.net ∧ s'.tim = s.tim ∧ s'.gnb = s.gnb ∧ s'.gait = s.gait ∧
      s'.pad = s.pad ∧ s'.fix = s.fix ∧ s'.air = s.air ∧ s'.byl = s.byl := by
  intro h
  simp only [execDescriptorFetch] at h
  (repeat' split at h) <;> first | (have h := Host.Outcome.next.inj h; subst h; simp; done) | (have h := Option.some.inj h; subst h; simp; done) | (simp at h; done)

theorem execCompletionWrite_frame (x0 : Nat) (x1 : Fin 64) (s : State) {s' : State} : execCompletionWrite x0 x1 s =
    .next s' →
    s'.cyc = s.cyc + (x0 - s.cyc) ∧ s'.pending = s.pending ∧ s'.live = s.live ∧ s'.whoa = s.whoa ∧ s'.chip = s.chip
      ∧ s'.tack = s.tack ∧ s'.net = s.net ∧ s'.tim = s.tim ∧ s'.gnb = s.gnb ∧ s'.gait = s.gait ∧ s'.pad = s.pad ∧
      s'.fix = s.fix ∧ s'.air = s.air ∧ s'.byl = s.byl := by
  intro h
  simp only [execCompletionWrite] at h
  (repeat' split at h) <;> first | (have h := Host.Outcome.next.inj h; subst h; simp; done) | (have h := Option.some.inj h; subst h; simp; done) | (simp at h; done)

theorem execIrqHoldoffExpiry_frame (x0 : Nat) (x1 : Fin 64) (s : State) {s' : State} : execIrqHoldoffExpiry x0 x1 s
    = .next s' →
    s'.cyc = s.cyc + (x0 - s.cyc) ∧ s'.pending = s.pending ∧ s'.hostMem = s.hostMem ∧ s'.live = s.live ∧ s'.whoa =
      s.whoa ∧ s'.chip = s.chip ∧ s'.tack = s.tack ∧ s'.recd = s.recd ∧ s'.net = s.net ∧ s'.tim = s.tim ∧ s'.gnb =
      s.gnb ∧ s'.gait = s.gait ∧ s'.pad = s.pad ∧ s'.fix = s.fix ∧ s'.air = s.air ∧ s'.byl = s.byl := by
  intro h
  simp only [execIrqHoldoffExpiry] at h
  (repeat' split at h) <;> first | (have h := Host.Outcome.next.inj h; subst h; simp; done) | (have h := Option.some.inj h; subst h; simp; done) | (simp at h; done)

theorem execFlowEntry_frame (x0 : Nat) (x1 : Fin 78) (s : State) {s' : State} : execFlowEntry x0 x1 s = .next s' →
    s'.cyc = s.cyc + (x0 - s.cyc) ∧ s'.pending = s.pending ∧ s'.hostMem = s.hostMem := by
  intro h
  simp only [execFlowEntry] at h
  (repeat' split at h) <;> first | (have h := Host.Outcome.next.inj h; subst h; simp; done) | (have h := Option.some.inj h; subst h; simp; done) | (simp at h; done)

theorem execStageDispatch_frame (x0 : Nat) (x1 : Stage) (s : State) {s' : State} : execStageDispatch x0 x1 s = .next
    s' →
    s'.cyc = s.cyc + (x0 - s.cyc) ∧ s'.pending = s.pending ∧ s'.hostMem = s.hostMem ∧ s'.live = s.live ∧ s'.whoa =
      s.whoa ∧ s'.chip = s.chip ∧ s'.tack = s.tack ∧ s'.recd = s.recd ∧ s'.net = s.net ∧ s'.tim = s.tim ∧ s'.gnb =
      s.gnb := by
  intro h
  simp only [execStageDispatch] at h
  (repeat' split at h) <;> first | (have h := Host.Outcome.next.inj h; subst h; simp; done) | (have h := Option.some.inj h; subst h; simp; done) | (simp at h; done)

theorem execCompletionRelease_frame (x0 : Nat) (x1 : Fin 1024) (s : State) {s' : State} : execCompletionRelease x0
    x1 s = .next s' →
    s'.cyc = s.cyc + (x0 - s.cyc) ∧ s'.pending = s.pending ∧ s'.hostMem = s.hostMem ∧ s'.live = s.live ∧ s'.whoa =
      s.whoa ∧ s'.chip = s.chip ∧ s'.tack = s.tack ∧ s'.recd = s.recd ∧ s'.net = s.net ∧ s'.tim = s.tim ∧ s'.gnb =
      s.gnb ∧ s'.gait = s.gait ∧ s'.pad = s.pad ∧ s'.fix = s.fix ∧ s'.air = s.air ∧ s'.byl = s.byl := by
  intro h
  simp only [execCompletionRelease] at h
  (repeat' split at h) <;> first | (have h := Host.Outcome.next.inj h; subst h; simp; done) | (have h := Option.some.inj h; subst h; simp; done) | (simp at h; done)

theorem execDspLoadSelWrite_frame (x0 : Nat) (x1 : Requester) (x2 : Sys2Proof.Word) (x3 : Sys2Proof.Word) (x4 :
    Sys2Proof.Word) (s : State) {s' : State} : execDspLoadSelWrite x0 x1 x2 x3 x4 s = .next s' →
    s'.cyc = s.cyc + (x0 - s.cyc) ∧ s'.pending = s.pending ∧ s'.hostMem = s.hostMem ∧ s'.live = s.live ∧ s'.whoa =
      s.whoa ∧ s'.chip = s.chip ∧ s'.tack = s.tack ∧ s'.recd = s.recd ∧ s'.net = s.net ∧ s'.tim = s.tim ∧ s'.gnb =
      s.gnb ∧ s'.gait = s.gait ∧ s'.pad = s.pad ∧ s'.fix = s.fix ∧ s'.air = s.air ∧ s'.byl = s.byl := by
  intro h
  simp only [execDspLoadSelWrite] at h
  (repeat' split at h) <;> first | (have h := Host.Outcome.next.inj h; subst h; simp; done) | (have h := Option.some.inj h; subst h; simp; done) | (simp at h; done)

theorem execHandshakeRequest_frame (x0 : Nat) (x1 : Fin 16) (x2 : Fin 16) (x3 : BitVec 8) (x4 : Item) (x5 : Bool) (s
    : State) {s' : State} : execHandshakeRequest x0 x1 x2 x3 x4 x5 s = .next s' →
    s'.cyc = s.cyc + (x0 - s.cyc) ∧ s'.pending = s.pending ∧ s'.hostMem = s.hostMem ∧ s'.live = s.live ∧ s'.whoa =
      s.whoa ∧ s'.chip = s.chip ∧ s'.tack = s.tack ∧ s'.recd = s.recd ∧ s'.net = s.net ∧ s'.tim = s.tim ∧ s'.gnb =
      s.gnb ∧ s'.gait = s.gait ∧ s'.pad = s.pad ∧ s'.fix = s.fix ∧ s'.air = s.air ∧ s'.byl = s.byl := by
  intro h
  simp only [execHandshakeRequest] at h
  (repeat' split at h) <;> first | (have h := Host.Outcome.next.inj h; subst h; simp; done) | (have h := Option.some.inj h; subst h; simp; done) | (simp at h; done)

theorem execHandshakeAckSeen_frame (x0 : Nat) (x1 : Fin 16) (x2 : Fin 16) (x3 : BitVec 8) (s : State) {s' : State} :
    execHandshakeAckSeen x0 x1 x2 x3 s = .next s' →
    s'.cyc = s.cyc + (x0 - s.cyc) ∧ s'.pending = s.pending ∧ s'.hostMem = s.hostMem ∧ s'.live = s.live ∧ s'.whoa =
      s.whoa ∧ s'.chip = s.chip ∧ s'.tack = s.tack ∧ s'.recd = s.recd ∧ s'.net = s.net ∧ s'.tim = s.tim ∧ s'.gnb =
      s.gnb ∧ s'.gait = s.gait ∧ s'.pad = s.pad ∧ s'.fix = s.fix ∧ s'.air = s.air ∧ s'.byl = s.byl := by
  intro h
  simp only [execHandshakeAckSeen] at h
  (repeat' split at h) <;> first | (have h := Host.Outcome.next.inj h; subst h; simp; done) | (have h := Option.some.inj h; subst h; simp; done) | (simp at h; done)

theorem execHandshakeTimeout_frame (x0 : Nat) (x1 : Fin 16) (x2 : Fin 16) (x3 : BitVec 8) (x4 : List Nat) (s :
    State) {s' : State} : execHandshakeTimeout x0 x1 x2 x3 x4 s = .next s' →
    s'.cyc = s.cyc + (x0 - s.cyc) ∧ s'.pending = s.pending ∧ s'.hostMem = s.hostMem := by
  intro h
  simp only [execHandshakeTimeout] at h
  (repeat' split at h) <;> first | (have h := Host.Outcome.next.inj h; subst h; simp; done) | (have h := Option.some.inj h; subst h; simp; done) | (simp at h; done)

theorem execCellError_frame (x0 : Nat) (x1 : Fin 16) (x2 : CellKind) (x3 : BitVec 16) (x4 : BitVec 8) (x5 :
    ErrCause) (x6 : Bool) (x7 : Option Nat) (x8 : List Nat) (s : State) {s' : State} : execCellError x0 x1 x2 x3 x4
    x5 x6 x7 x8 s = .next s' →
    s'.cyc = s.cyc + (x0 - s.cyc) ∧ s'.pending = s.pending ∧ s'.hostMem = s.hostMem := by
  intro h
  simp only [execCellError] at h
  (repeat' split at h) <;> first | (have h := Host.Outcome.next.inj h; subst h; simp; done) | (have h := Option.some.inj h; subst h; simp; done) | (simp at h; done)

theorem execBlockError_frame (x0 : Nat) (x1 : Fin 16) (x2 : BitVec 8) (x3 : ErrCause) (x4 : List Nat) (x5 : Option
    DramAccess) (s : State) {s' : State} : execBlockError x0 x1 x2 x3 x4 x5 s = .next s' →
    s'.cyc = s.cyc + (x0 - s.cyc) ∧ s'.pending = s.pending ∧ s'.hostMem = s.hostMem := by
  intro h
  simp only [execBlockError] at h
  (repeat' split at h) <;> first | (have h := Host.Outcome.next.inj h; subst h; simp; done) | (have h := Option.some.inj h; subst h; simp; done) | (simp at h; done)

theorem execBlockRestartDone_frame (x0 : Nat) (x1 : Fin 16) (x2 : BitVec 8) (s : State) {s' : State} :
    execBlockRestartDone x0 x1 x2 s = .next s' →
    s'.cyc = s.cyc + (x0 - s.cyc) ∧ s'.pending = s.pending ∧ s'.hostMem = s.hostMem := by
  intro h
  simp only [execBlockRestartDone] at h
  (repeat' split at h) <;> first | (have h := Host.Outcome.next.inj h; subst h; simp; done) | (have h := Option.some.inj h; subst h; simp; done) | (simp at h; done)

theorem execRegionError_frame (x0 : Nat) (x1 : Fin 16) (x2 : ErrCause) (s : State) {s' : State} : execRegionError x0
    x1 x2 s = .next s' →
    s'.cyc = s.cyc + (x0 - s.cyc) ∧ s'.pending = s.pending ∧ s'.hostMem = s.hostMem := by
  intro h
  simp only [execRegionError] at h
  (repeat' split at h) <;> first | (have h := Host.Outcome.next.inj h; subst h; simp; done) | (have h := Option.some.inj h; subst h; simp; done) | (simp at h; done)

theorem execRegionReloaded_frame (x0 : Nat) (x1 : Fin 16) (x2 : Nat) (s : State) {s' : State} : execRegionReloaded
    x0 x1 x2 s = .next s' →
    s'.cyc = s.cyc + (x0 - s.cyc) ∧ s'.pending = s.pending ∧ s'.hostMem = s.hostMem := by
  intro h
  simp only [execRegionReloaded] at h
  (repeat' split at h) <;> first | (have h := Host.Outcome.next.inj h; subst h; simp; done) | (have h := Option.some.inj h; subst h; simp; done) | (simp at h; done)

theorem execChipError_frame (x0 : Nat) (x1 : BitVec 4) (x2 : Fin 16) (s : State) {s' : State} : execChipError x0 x1
    x2 s = .next s' →
    s'.cyc = s.cyc + (x0 - s.cyc) ∧ s'.pending = s.pending ∧ s'.hostMem = s.hostMem := by
  intro h
  simp only [execChipError] at h
  (repeat' split at h) <;> first | (have h := Host.Outcome.next.inj h; subst h; simp; done) | (have h := Option.some.inj h; subst h; simp; done) | (simp at h; done)

theorem execLongOpSafePoint_frame (x0 : Nat) (x1 : Fin 65) (x2 : BitVec 16) (x3 : LongUnit) (s : State) {s' : State}
    : execLongOpSafePoint x0 x1 x2 x3 s = .next s' →
    s'.cyc = s.cyc + (x0 - s.cyc) ∧ s'.pending = s.pending ∧ s'.live = s.live ∧ s'.whoa = s.whoa ∧ s'.net = s.net ∧
      s'.gait = s.gait ∧ s'.air = s.air := by
  intro h
  simp only [execLongOpSafePoint] at h
  (repeat' split at h) <;> first | (have h := Host.Outcome.next.inj h; subst h; simp; done) | (have h := Option.some.inj h; subst h; simp; done) | (simp at h; done)

theorem execHostWdogExpiry_frame (x0 : Nat) (s : State) {s' : State} : execHostWdogExpiry x0 s = .next s' →
    s'.cyc = s.cyc + (x0 - s.cyc) ∧ s'.pending = s.pending ∧ s'.hostMem = s.hostMem ∧ s'.live = s.live ∧ s'.whoa =
      s.whoa ∧ s'.chip = s.chip ∧ s'.tack = s.tack ∧ s'.recd = s.recd ∧ s'.net = s.net ∧ s'.tim = s.tim ∧ s'.gnb =
      s.gnb ∧ s'.gait = s.gait ∧ s'.pad = s.pad ∧ s'.fix = s.fix ∧ s'.air = s.air ∧ s'.byl = s.byl := by
  intro h
  simp only [execHostWdogExpiry] at h
  (repeat' split at h) <;> first | (have h := Host.Outcome.next.inj h; subst h; simp; done) | (have h := Option.some.inj h; subst h; simp; done) | (simp at h; done)

theorem execSuperframeStart_frame (x0 : Nat) (s : State) {s' : State} : execSuperframeStart x0 s = .next s' →
    s'.cyc = s.cyc + (x0 - s.cyc) ∧ s'.pending = s.pending ∧ s'.hostMem = s.hostMem ∧ s'.live = s.live ∧ s'.whoa =
      s.whoa ∧ s'.chip = s.chip ∧ s'.net = s.net ∧ s'.tim = s.tim ∧ s'.gnb = s.gnb ∧ s'.fix = s.fix := by
  intro h
  simp only [execSuperframeStart] at h
  (repeat' split at h) <;> first | (have h := Host.Outcome.next.inj h; subst h; simp; done) | (have h := Option.some.inj h; subst h; simp; done) | (simp at h; done)

theorem execSfCountStart_frame (x0 : Nat) (x1 : Requester) (x2 : Fin 8) (x3 : Sys2Proof.Word) (s : State) {s' :
    State} : execSfCountStart x0 x1 x2 x3 s = .next s' →
    s'.cyc = s.cyc + (x0 - s.cyc) ∧ s'.pending = s.pending ∧ s'.hostMem = s.hostMem ∧ s'.live = s.live ∧ s'.whoa =
      s.whoa ∧ s'.chip = s.chip ∧ s'.tack = s.tack ∧ s'.net = s.net ∧ s'.tim = s.tim ∧ s'.gnb = s.gnb ∧ s'.gait =
      s.gait ∧ s'.pad = s.pad ∧ s'.fix = s.fix ∧ s'.byl = s.byl := by
  intro h
  simp only [execSfCountStart] at h
  (repeat' split at h) <;> first | (have h := Host.Outcome.next.inj h; subst h; simp; done) | (have h := Option.some.inj h; subst h; simp; done) | (simp at h; done)

theorem execSuperframeBuild_frame (x0 : Nat) (s : State) {s' : State} : execSuperframeBuild x0 s = .next s' →
    s'.cyc = s.cyc + (x0 - s.cyc) ∧ s'.pending = s.pending ∧ s'.hostMem = s.hostMem ∧ s'.live = s.live ∧ s'.whoa =
      s.whoa ∧ s'.chip = s.chip ∧ s'.tack = s.tack ∧ s'.net = s.net ∧ s'.tim = s.tim ∧ s'.gnb = s.gnb ∧ s'.gait =
      s.gait ∧ s'.pad = s.pad ∧ s'.fix = s.fix ∧ s'.byl = s.byl := by
  intro h
  simp only [execSuperframeBuild] at h
  (repeat' split at h) <;> first | (have h := Host.Outcome.next.inj h; subst h; simp; done) | (have h := Option.some.inj h; subst h; simp; done) | (simp at h; done)

theorem execFrameMark_frame (x0 : Nat) (s : State) {s' : State} : execFrameMark x0 s = .next s' →
    s'.cyc = s.cyc + (x0 - s.cyc) ∧ s'.pending = s.pending ∧ s'.hostMem = s.hostMem ∧ s'.live = s.live ∧ s'.whoa =
      s.whoa ∧ s'.chip = s.chip ∧ s'.tack = s.tack ∧ s'.net = s.net ∧ s'.tim = s.tim ∧ s'.gnb = s.gnb ∧ s'.gait =
      s.gait ∧ s'.pad = s.pad ∧ s'.fix = s.fix ∧ s'.byl = s.byl := by
  intro h
  simp only [execFrameMark] at h
  (repeat' split at h) <;> first | (have h := Host.Outcome.next.inj h; subst h; simp; done) | (have h := Option.some.inj h; subst h; simp; done) | (simp at h; done)

theorem execDownlinkSpan_frame (x0 : Nat) (x1 : BitVec 8) (s : State) {s' : State} : execDownlinkSpan x0 x1 s =
    .next s' →
    s'.cyc = s.cyc + (x0 - s.cyc) ∧ s'.pending = s.pending ∧ s'.hostMem = s.hostMem ∧ s'.live = s.live ∧ s'.whoa =
      s.whoa ∧ s'.chip = s.chip ∧ s'.net = s.net ∧ s'.tim = s.tim ∧ s'.gnb = s.gnb ∧ s'.gait = s.gait ∧ s'.pad =
      s.pad ∧ s'.fix = s.fix := by
  intro h
  simp only [execDownlinkSpan] at h
  (repeat' split at h) <;> first | (have h := Host.Outcome.next.inj h; subst h; simp; done) | (have h := Option.some.inj h; subst h; simp; done) | (simp at h; done)

theorem execHeadLinkState_frame (x0 : Nat) (x1 : Fin 8) (x2 : List LinkSym) (s : State) {s' : State} :
    execHeadLinkState x0 x1 x2 s = .next s' →
    s'.cyc = s.cyc + (x0 - s.cyc) ∧ s'.pending = s.pending ∧ s'.hostMem = s.hostMem ∧ s'.live = s.live ∧ s'.whoa =
      s.whoa ∧ s'.chip = s.chip ∧ s'.tack = s.tack ∧ s'.net = s.net ∧ s'.tim = s.tim ∧ s'.gnb = s.gnb ∧ s'.gait =
      s.gait ∧ s'.pad = s.pad ∧ s'.fix = s.fix := by
  intro h
  simp only [execHeadLinkState] at h
  (repeat' split at h) <;> first | (have h := Host.Outcome.next.inj h; subst h; simp; done) | (have h := Option.some.inj h; subst h; simp; done) | (simp at h; done)

theorem execRxFrame_frame (x0 : Nat) (x1 : Fin 8) (x2 : List Sys2Proof.Byte) (x3 : List Opening) (s : State) {s' :
    State} : execRxFrame x0 x1 x2 x3 s = .next s' →
    s'.cyc = s.cyc + (x0 - s.cyc) ∧ s'.pending = s.pending ∧ s'.hostMem = s.hostMem ∧ s'.live = s.live ∧ s'.whoa =
      s.whoa ∧ s'.chip = s.chip ∧ s'.net = s.net ∧ s'.tim = s.tim ∧ s'.gnb = s.gnb := by
  intro h
  simp only [execRxFrame] at h
  have hk := State.takePacket_frame (s.to x0) x1.val x2 0x81
  (repeat' split at h) <;> (have h := Host.Outcome.next.inj h; subst h; first | (simp; done) | simp_all)

theorem execTxReport_frame (x0 : Nat) (x1 : Fin 8) (x2 : List Sys2Proof.Byte) (s : State) {s' : State} :
    execTxReport x0 x1 x2 s = .next s' →
    s'.cyc = s.cyc + (x0 - s.cyc) ∧ s'.pending = s.pending ∧ s'.hostMem = s.hostMem ∧ s'.live = s.live ∧ s'.whoa =
      s.whoa ∧ s'.chip = s.chip ∧ s'.tack = s.tack ∧ s'.net = s.net ∧ s'.tim = s.tim ∧ s'.gnb = s.gnb ∧ s'.gait =
      s.gait ∧ s'.pad = s.pad ∧ s'.fix = s.fix := by
  intro h
  simp only [execTxReport] at h
  have hk := State.takePacket_frame (s.to x0) x1.val x2 0x82
  (repeat' split at h) <;> (have h := Host.Outcome.next.inj h; subst h; first | (simp; done) | simp_all)

theorem execHeadStatus_frame (x0 : Nat) (x1 : Fin 8) (x2 : List Sys2Proof.Byte) (s : State) {s' : State} :
    execHeadStatus x0 x1 x2 s = .next s' →
    s'.cyc = s.cyc + (x0 - s.cyc) ∧ s'.pending = s.pending ∧ s'.hostMem = s.hostMem ∧ s'.live = s.live ∧ s'.whoa =
      s.whoa ∧ s'.chip = s.chip ∧ s'.tack = s.tack ∧ s'.recd = s.recd ∧ s'.net = s.net ∧ s'.tim = s.tim ∧ s'.gnb =
      s.gnb ∧ s'.gait = s.gait ∧ s'.pad = s.pad ∧ s'.fix = s.fix ∧ s'.byl = s.byl := by
  intro h
  simp only [execHeadStatus] at h
  have hk := State.takePacket_frame (s.to x0) x1.val x2 0x83
  (repeat' split at h) <;> (have h := Host.Outcome.next.inj h; subst h; first | (simp; done) | simp_all)

theorem execPong_frame (x0 : Nat) (x1 : Fin 8) (x2 : List Sys2Proof.Byte) (s : State) {s' : State} : execPong x0 x1
    x2 s = .next s' →
    s'.cyc = s.cyc + (x0 - s.cyc) ∧ s'.pending = s.pending ∧ s'.hostMem = s.hostMem ∧ s'.live = s.live ∧ s'.whoa =
      s.whoa ∧ s'.chip = s.chip ∧ s'.tack = s.tack ∧ s'.recd = s.recd ∧ s'.net = s.net ∧ s'.tim = s.tim ∧ s'.gnb =
      s.gnb ∧ s'.gait = s.gait ∧ s'.pad = s.pad ∧ s'.fix = s.fix ∧ s'.byl = s.byl := by
  intro h
  simp only [execPong] at h
  have hk := State.takePacket_frame (s.to x0) x1.val x2 0x84
  (repeat' split at h) <;> (have h := Host.Outcome.next.inj h; subst h; first | (simp; done) | simp_all)

theorem execSpanJudged_frame (x0 : Nat) (x1 : BitVec 8) (s : State) {s' : State} : execSpanJudged x0 x1 s = .next s' →
    s'.cyc = s.cyc + (x0 - s.cyc) ∧ s'.pending = s.pending ∧ s'.hostMem = s.hostMem ∧ s'.live = s.live ∧ s'.whoa =
      s.whoa ∧ s'.chip = s.chip ∧ s'.tack = s.tack ∧ s'.recd = s.recd ∧ s'.net = s.net ∧ s'.tim = s.tim ∧ s'.gnb =
      s.gnb ∧ s'.fix = s.fix := by
  intro h
  simp only [execSpanJudged] at h
  (repeat' split at h) <;> first | (have h := Host.Outcome.next.inj h; subst h; simp; done) | (have h := Option.some.inj h; subst h; simp; done) | (simp at h; done)

theorem execCallPeriodExpiry_frame (x0 : Nat) (x1 : BitVec 8) (s : State) {s' : State} : execCallPeriodExpiry x0 x1
    s = .next s' →
    s'.cyc = s.cyc + (x0 - s.cyc) ∧ s'.pending = s.pending ∧ s'.hostMem = s.hostMem ∧ s'.live = s.live ∧ s'.whoa =
      s.whoa ∧ s'.chip = s.chip ∧ s'.recd = s.recd ∧ s'.net = s.net ∧ s'.tim = s.tim ∧ s'.gnb = s.gnb := by
  intro h
  simp only [execCallPeriodExpiry] at h
  (repeat' split at h) <;> first | (have h := Host.Outcome.next.inj h; subst h; simp; done) | (have h := Option.some.inj h; subst h; simp; done) | (simp at h; done)

theorem execJoinTimeoutExpiry_frame (x0 : Nat) (x1 : BitVec 8) (s : State) {s' : State} : execJoinTimeoutExpiry x0
    x1 s = .next s' →
    s'.cyc = s.cyc + (x0 - s.cyc) ∧ s'.pending = s.pending ∧ s'.hostMem = s.hostMem ∧ s'.live = s.live ∧ s'.whoa =
      s.whoa ∧ s'.chip = s.chip ∧ s'.recd = s.recd ∧ s'.net = s.net ∧ s'.tim = s.tim ∧ s'.gnb = s.gnb ∧ s'.gait =
      s.gait ∧ s'.pad = s.pad ∧ s'.fix = s.fix := by
  intro h
  simp only [execJoinTimeoutExpiry] at h
  (repeat' split at h) <;> first | (have h := Host.Outcome.next.inj h; subst h; simp; done) | (have h := Option.some.inj h; subst h; simp; done) | (simp at h; done)

theorem execBaseObsEpoch_frame (x0 : Nat) (x1 : BitVec 64) (x2 : BitVec 64) (x3 : List Meas) (x4 : Option (Int ×
    Int)) (x5 : List SvRange) (s : State) {s' : State} : execBaseObsEpoch x0 x1 x2 x3 x4 x5 s = .next s' →
    s'.cyc = s.cyc + (x0 - s.cyc) ∧ s'.pending = s.pending ∧ s'.hostMem = s.hostMem ∧ s'.whoa = s.whoa ∧ s'.chip =
      s.chip ∧ s'.tack = s.tack ∧ s'.net = s.net ∧ s'.gait = s.gait ∧ s'.pad = s.pad ∧ s'.air = s.air ∧ s'.byl =
      s.byl := by
  intro h
  simp only [execBaseObsEpoch] at h
  (repeat' split at h) <;> first | (have h := Host.Outcome.next.inj h; subst h; simp; done) | (have h := Option.some.inj h; subst h; simp; done) | (simp at h; done)

theorem execBaseEpochTimeout_frame (x0 : Nat) (x1 : BitVec 64) (s : State) {s' : State} : execBaseEpochTimeout x0 x1
    s = .next s' →
    s'.cyc = s.cyc + (x0 - s.cyc) ∧ s'.pending = s.pending ∧ s'.hostMem = s.hostMem ∧ s'.live = s.live ∧ s'.whoa =
      s.whoa ∧ s'.chip = s.chip ∧ s'.tack = s.tack ∧ s'.recd = s.recd ∧ s'.net = s.net ∧ s'.tim = s.tim ∧ s'.gnb =
      s.gnb ∧ s'.gait = s.gait ∧ s'.pad = s.pad ∧ s'.air = s.air ∧ s'.byl = s.byl := by
  intro h
  simp only [execBaseEpochTimeout] at h
  (repeat' split at h) <;> first | (have h := Host.Outcome.next.inj h; subst h; simp; done) | (have h := Option.some.inj h; subst h; simp; done) | (simp at h; done)

theorem execSvSuspectClear_frame (x0 : Nat) (x1 : Fin 192) (s : State) {s' : State} : execSvSuspectClear x0 x1 s =
    .next s' →
    s'.cyc = s.cyc + (x0 - s.cyc) ∧ s'.pending = s.pending ∧ s'.hostMem = s.hostMem ∧ s'.live = s.live ∧ s'.whoa =
      s.whoa ∧ s'.chip = s.chip ∧ s'.tack = s.tack ∧ s'.recd = s.recd ∧ s'.net = s.net ∧ s'.tim = s.tim ∧ s'.gnb =
      s.gnb ∧ s'.gait = s.gait ∧ s'.pad = s.pad ∧ s'.air = s.air ∧ s'.byl = s.byl := by
  intro h
  simp only [execSvSuspectClear] at h
  (repeat' split at h) <;> first | (have h := Host.Outcome.next.inj h; subst h; simp; done) | (have h := Option.some.inj h; subst h; simp; done) | (simp at h; done)

theorem execInterferenceChange_frame (x0 : Nat) (s : State) {s' : State} : execInterferenceChange x0 s = .next s' →
    s'.cyc = s.cyc + (x0 - s.cyc) ∧ s'.pending = s.pending ∧ s'.hostMem = s.hostMem ∧ s'.live = s.live ∧ s'.whoa =
      s.whoa ∧ s'.chip = s.chip ∧ s'.tack = s.tack ∧ s'.recd = s.recd ∧ s'.net = s.net ∧ s'.tim = s.tim ∧ s'.gnb =
      s.gnb ∧ s'.gait = s.gait ∧ s'.pad = s.pad ∧ s'.air = s.air ∧ s'.byl = s.byl := by
  intro h
  simp only [execInterferenceChange] at h
  (repeat' split at h) <;> first | (have h := Host.Outcome.next.inj h; subst h; simp; done) | (have h := Option.some.inj h; subst h; simp; done) | (simp at h; done)

theorem execFixSolve_frame (x0 : Nat) (x1 : Nat) (x2 : FixSol) (s : State) {s' : State} : execFixSolve x0 x1 x2 s =
    .next s' →
    s'.cyc = s.cyc + (x0 - s.cyc) ∧ s'.pending = s.pending ∧ s'.live = s.live ∧ s'.whoa = s.whoa ∧ s'.chip = s.chip
      ∧ s'.tack = s.tack ∧ s'.recd = s.recd ∧ s'.net = s.net ∧ s'.tim = s.tim ∧ s'.gnb = s.gnb ∧ s'.gait = s.gait ∧
      s'.pad = s.pad ∧ s'.air = s.air ∧ s'.byl = s.byl := by
  intro h
  simp only [execFixSolve] at h
  (repeat' split at h) <;> first | (have h := Host.Outcome.next.inj h; subst h; simp; done) | (have h := Option.some.inj h; subst h; simp; done) | (simp at h; done)

theorem execAmbiguitySearch_frame (x0 : Nat) (x1 : BitVec 8) (x2 : List Attempt) (s : State) {s' : State} :
    execAmbiguitySearch x0 x1 x2 s = .next s' →
    s'.cyc = s.cyc + (x0 - s.cyc) ∧ s'.pending = s.pending ∧ s'.live = s.live ∧ s'.whoa = s.whoa ∧ s'.chip = s.chip
      ∧ s'.tack = s.tack ∧ s'.recd = s.recd ∧ s'.net = s.net ∧ s'.tim = s.tim ∧ s'.gnb = s.gnb ∧ s'.gait = s.gait ∧
      s'.pad = s.pad ∧ s'.air = s.air ∧ s'.byl = s.byl := by
  intro h
  simp only [execAmbiguitySearch] at h
  (repeat' split at h) <;> first | (have h := Host.Outcome.next.inj h; subst h; simp; done) | (have h := Option.some.inj h; subst h; simp; done) | (simp at h; done)

theorem execSearchWaitExpiry_frame (x0 : Nat) (x1 : BitVec 8) (s : State) {s' : State} : execSearchWaitExpiry x0 x1
    s = .next s' →
    s'.cyc = s.cyc + (x0 - s.cyc) ∧ s'.pending = s.pending ∧ s'.live = s.live ∧ s'.whoa = s.whoa ∧ s'.chip = s.chip
      ∧ s'.tack = s.tack ∧ s'.recd = s.recd ∧ s'.net = s.net ∧ s'.tim = s.tim ∧ s'.gnb = s.gnb ∧ s'.gait = s.gait ∧
      s'.pad = s.pad ∧ s'.air = s.air ∧ s'.byl = s.byl := by
  intro h
  simp only [execSearchWaitExpiry] at h
  (repeat' split at h) <;> first | (have h := Host.Outcome.next.inj h; subst h; simp; done) | (have h := Option.some.inj h; subst h; simp; done) | (simp at h; done)

theorem execGaitReplan_frame (x0 : Nat) (x1 : Nat) (s : State) {s' : State} : execGaitReplan x0 x1 s = .next s' →
    s'.cyc = s.cyc + (x0 - s.cyc) ∧ s'.pending = s.pending ∧ s'.hostMem = s.hostMem ∧ s'.live = s.live ∧ s'.whoa =
      s.whoa ∧ s'.chip = s.chip ∧ s'.tack = s.tack ∧ s'.recd = s.recd ∧ s'.net = s.net ∧ s'.tim = s.tim ∧ s'.gnb =
      s.gnb ∧ s'.pad = s.pad ∧ s'.air = s.air ∧ s'.byl = s.byl := by
  intro h
  simp only [execGaitReplan] at h
  (repeat' split at h) <;> (have h' := Host.Outcome.next.inj h; subst h') <;> first | (simp; done) | (have h := State.replanFrom_frame _ _ _ _ ‹_›; simp_all; done)

theorem execSweepLocksHeld_frame (x0 : Nat) (x1 : Nat) (x2 : Option BadCell) (s : State) {s' : State} :
    execSweepLocksHeld x0 x1 x2 s = .next s' →
    s'.cyc = s.cyc + (x0 - s.cyc) ∧ s'.pending = s.pending ∧ s'.hostMem = s.hostMem ∧ s'.live = s.live ∧ s'.whoa =
      s.whoa ∧ s'.chip = s.chip ∧ s'.tack = s.tack ∧ s'.recd = s.recd ∧ s'.net = s.net ∧ s'.tim = s.tim ∧ s'.gnb =
      s.gnb ∧ s'.air = s.air := by
  intro h
  simp only [execSweepLocksHeld] at h
  (repeat' split at h) <;> first | (have h := Host.Outcome.next.inj h; subst h; simp; done) | (have h := Option.some.inj h; subst h; simp; done) | (simp at h; done)

theorem execKnotPack_frame (x0 : Nat) (x1 : Nat) (s : State) {s' : State} : execKnotPack x0 x1 s = .next s' →
    s'.cyc = s.cyc + (x0 - s.cyc) ∧ s'.pending = s.pending ∧ s'.hostMem = s.hostMem ∧ s'.live = s.live ∧ s'.whoa =
      s.whoa ∧ s'.chip = s.chip ∧ s'.tack = s.tack ∧ s'.recd = s.recd ∧ s'.net = s.net ∧ s'.tim = s.tim ∧ s'.gnb =
      s.gnb ∧ s'.pad = s.pad ∧ s'.fix = s.fix ∧ s'.air = s.air ∧ s'.byl = s.byl := by
  intro h
  simp only [execKnotPack] at h
  (repeat' split at h) <;> first | (have h := Host.Outcome.next.inj h; subst h; simp; done) | (have h := Option.some.inj h; subst h; simp; done) | (simp at h; done)

theorem execLimitTakeover_frame (x0 : Nat) (x1 : BitVec 8) (s : State) {s' : State} : execLimitTakeover x0 x1 s =
    .next s' →
    s'.cyc = s.cyc + (x0 - s.cyc) ∧ s'.pending = s.pending ∧ s'.hostMem = s.hostMem ∧ s'.live = s.live ∧ s'.whoa =
      s.whoa ∧ s'.chip = s.chip ∧ s'.tack = s.tack ∧ s'.recd = s.recd ∧ s'.net = s.net ∧ s'.tim = s.tim ∧ s'.gnb =
      s.gnb ∧ s'.pad = s.pad ∧ s'.fix = s.fix ∧ s'.air = s.air ∧ s'.byl = s.byl := by
  intro h
  simp only [execLimitTakeover] at h
  (repeat' split at h) <;> first | (have h := Host.Outcome.next.inj h; subst h; simp; done) | (have h := Option.some.inj h; subst h; simp; done) | (simp at h; done)

theorem execPadTick_frame (x0 : Nat) (s : State) {s' : State} : execPadTick x0 s = .next s' →
    s'.cyc = s.cyc + (x0 - s.cyc) ∧ s'.pending = s.pending ∧ s'.hostMem = s.hostMem ∧ s'.live = s.live ∧ s'.whoa =
      s.whoa ∧ s'.chip = s.chip ∧ s'.tack = s.tack ∧ s'.recd = s.recd ∧ s'.net = s.net ∧ s'.tim = s.tim ∧ s'.gnb =
      s.gnb ∧ s'.gait = s.gait ∧ s'.pad = s.pad ∧ s'.fix = s.fix ∧ s'.air = s.air ∧ s'.byl = s.byl := by
  intro h
  simp only [execPadTick] at h
  (repeat' split at h) <;> first | (have h := Host.Outcome.next.inj h; subst h; simp; done) | (have h := Option.some.inj h; subst h; simp; done) | (simp at h; done)

theorem execGroomTile_frame (x0 : Nat) (x1 : Option BadCell) (s : State) {s' : State} : execGroomTile x0 x1 s =
    .next s' →
    s'.cyc = s.cyc + (x0 - s.cyc) ∧ s'.pending = s.pending ∧ s'.hostMem = s.hostMem ∧ s'.live = s.live ∧ s'.whoa =
      s.whoa ∧ s'.chip = s.chip ∧ s'.tack = s.tack ∧ s'.recd = s.recd ∧ s'.net = s.net ∧ s'.tim = s.tim ∧ s'.gnb =
      s.gnb ∧ s'.gait = s.gait ∧ s'.fix = s.fix ∧ s'.air = s.air := by
  intro h
  simp only [execGroomTile] at h
  (repeat' split at h) <;> first | (have h := Host.Outcome.next.inj h; subst h; simp; done) | (have h := Option.some.inj h; subst h; simp; done) | (simp at h; done)

theorem execParkRenewal_frame (x0 : Nat) (x1 : Option BadCell) (s : State) {s' : State} : execParkRenewal x0 x1 s =
    .next s' →
    s'.cyc = s.cyc + (x0 - s.cyc) ∧ s'.pending = s.pending ∧ s'.hostMem = s.hostMem ∧ s'.live = s.live ∧ s'.whoa =
      s.whoa ∧ s'.chip = s.chip ∧ s'.tack = s.tack ∧ s'.recd = s.recd ∧ s'.net = s.net ∧ s'.tim = s.tim ∧ s'.gnb =
      s.gnb ∧ s'.gait = s.gait ∧ s'.fix = s.fix ∧ s'.air = s.air := by
  intro h
  simp only [execParkRenewal] at h
  (repeat' split at h) <;> first | (have h := Host.Outcome.next.inj h; subst h; simp; done) | (have h := Option.some.inj h; subst h; simp; done) | (simp at h; done)

theorem execDiscWrite_frame (x0 : Nat) (x1 : BitVec 8) (x2 : BitVec 13) (x3 : Option BadCell) (s : State) {s' :
    State} : execDiscWrite x0 x1 x2 x3 s = .next s' →
    s'.cyc = s.cyc + (x0 - s.cyc) ∧ s'.pending = s.pending ∧ s'.hostMem = s.hostMem ∧ s'.live = s.live ∧ s'.whoa =
      s.whoa ∧ s'.chip = s.chip ∧ s'.tack = s.tack ∧ s'.recd = s.recd ∧ s'.net = s.net ∧ s'.tim = s.tim ∧ s'.gnb =
      s.gnb ∧ s'.gait = s.gait ∧ s'.fix = s.fix ∧ s'.air = s.air := by
  intro h
  simp only [execDiscWrite] at h
  (repeat' split at h) <;> first | (have h := Host.Outcome.next.inj h; subst h; simp; done) | (have h := Option.some.inj h; subst h; simp; done) | (simp at h; done)

theorem execDiscEnd_frame (x0 : Nat) (x1 : BitVec 8) (s : State) {s' : State} : execDiscEnd x0 x1 s = .next s' →
    s'.cyc = s.cyc + (x0 - s.cyc) ∧ s'.pending = s.pending ∧ s'.hostMem = s.hostMem ∧ s'.live = s.live ∧ s'.whoa =
      s.whoa ∧ s'.chip = s.chip ∧ s'.tack = s.tack ∧ s'.recd = s.recd ∧ s'.net = s.net ∧ s'.tim = s.tim ∧ s'.gnb =
      s.gnb ∧ s'.gait = s.gait ∧ s'.fix = s.fix ∧ s'.air = s.air := by
  intro h
  simp only [execDiscEnd] at h
  (repeat' split at h) <;> first | (have h := Host.Outcome.next.inj h; subst h; simp; done) | (have h := Option.some.inj h; subst h; simp; done) | (simp at h; done)

theorem execMirrorPadReceived_frame (x0 : Nat) (x1 : BylRx) (s : State) {s' : State} : execMirrorPadReceived x0 x1 s
    = .next s' →
    s'.cyc = s.cyc + (x0 - s.cyc) ∧ s'.pending = s.pending ∧ s'.hostMem = s.hostMem ∧ s'.live = s.live ∧ s'.whoa =
      s.whoa ∧ s'.chip = s.chip ∧ s'.tack = s.tack ∧ s'.recd = s.recd ∧ s'.net = s.net ∧ s'.tim = s.tim ∧ s'.gnb =
      s.gnb ∧ s'.gait = s.gait ∧ s'.fix = s.fix ∧ s'.air = s.air := by
  intro h
  simp only [execMirrorPadReceived] at h
  (repeat' split at h) <;> first | (have h := Host.Outcome.next.inj h; subst h; simp; done) | (have h := Option.some.inj h; subst h; simp; done) | (simp at h; done)

theorem execSurveyNetworkTimeout_frame (x0 : Nat) (s : State) {s' : State} : execSurveyNetworkTimeout x0 s = .next
    s' →
    s'.cyc = s.cyc + (x0 - s.cyc) ∧ s'.pending = s.pending ∧ s'.hostMem = s.hostMem ∧ s'.live = s.live ∧ s'.whoa =
      s.whoa ∧ s'.chip = s.chip ∧ s'.tack = s.tack ∧ s'.recd = s.recd ∧ s'.net = s.net ∧ s'.tim = s.tim ∧ s'.gait =
      s.gait ∧ s'.pad = s.pad ∧ s'.fix = s.fix ∧ s'.air = s.air ∧ s'.byl = s.byl := by
  intro h
  simp only [execSurveyNetworkTimeout] at h
  (repeat' split at h) <;> first | (have h := Host.Outcome.next.inj h; subst h; simp; done) | (have h := Option.some.inj h; subst h; simp; done) | (simp at h; done)

theorem execSampleCountCheck_frame (x0 : Nat) (x1 : Fin 2) (s : State) {s' : State} : execSampleCountCheck x0 x1 s =
    .next s' →
    s'.cyc = s.cyc + (x0 - s.cyc) ∧ s'.pending = s.pending ∧ s'.hostMem = s.hostMem ∧ s'.live = s.live ∧ s'.whoa =
      s.whoa ∧ s'.chip = s.chip ∧ s'.tack = s.tack ∧ s'.recd = s.recd ∧ s'.net = s.net ∧ s'.tim = s.tim ∧ s'.gait =
      s.gait ∧ s'.pad = s.pad ∧ s'.fix = s.fix ∧ s'.air = s.air ∧ s'.byl = s.byl := by
  intro h
  simp only [execSampleCountCheck] at h
  (repeat' split at h) <;> first | (have h := Host.Outcome.next.inj h; subst h; simp; done) | (have h := Option.some.inj h; subst h; simp; done) | (simp at h; done)

theorem execPortSyncChange_frame (x0 : Nat) (x1 : Fin 2) (x2 : List PortBit) (s : State) {s' : State} :
    execPortSyncChange x0 x1 x2 s = .next s' →
    s'.cyc = s.cyc + (x0 - s.cyc) ∧ s'.pending = s.pending ∧ s'.hostMem = s.hostMem ∧ s'.live = s.live ∧ s'.whoa =
      s.whoa ∧ s'.chip = s.chip ∧ s'.tack = s.tack ∧ s'.net = s.net ∧ s'.tim = s.tim ∧ s'.gait = s.gait ∧ s'.pad =
      s.pad ∧ s'.fix = s.fix ∧ s'.air = s.air ∧ s'.byl = s.byl := by
  intro h
  simp only [execPortSyncChange] at h
  (repeat' split at h) <;> first | (have h := Host.Outcome.next.inj h; subst h; simp; done) | (have h := Option.some.inj h; subst h; simp; done) | (simp at h; done)

theorem execAgcUpdate_frame (x0 : Nat) (x1 : Fin 2) (s : State) {s' : State} : execAgcUpdate x0 x1 s = .next s' →
    s'.cyc = s.cyc + (x0 - s.cyc) ∧ s'.pending = s.pending ∧ s'.hostMem = s.hostMem ∧ s'.live = s.live ∧ s'.whoa =
      s.whoa ∧ s'.chip = s.chip ∧ s'.tack = s.tack ∧ s'.recd = s.recd ∧ s'.net = s.net ∧ s'.tim = s.tim ∧ s'.gait =
      s.gait ∧ s'.pad = s.pad ∧ s'.air = s.air ∧ s'.byl = s.byl := by
  intro h
  simp only [execAgcUpdate] at h
  (repeat' split at h) <;> first | (have h := Host.Outcome.next.inj h; subst h; simp; done) | (have h := Option.some.inj h; subst h; simp; done) | (simp at h; done)

theorem execSpectrumFft_frame (x0 : Nat) (x1 : Fin 2) (x2 : List Nat) (s : State) {s' : State} : execSpectrumFft x0
    x1 x2 s = .next s' →
    s'.cyc = s.cyc + (x0 - s.cyc) ∧ s'.pending = s.pending ∧ s'.hostMem = s.hostMem ∧ s'.live = s.live ∧ s'.whoa =
      s.whoa ∧ s'.chip = s.chip ∧ s'.tack = s.tack ∧ s'.recd = s.recd ∧ s'.net = s.net ∧ s'.tim = s.tim ∧ s'.gait =
      s.gait ∧ s'.pad = s.pad ∧ s'.fix = s.fix ∧ s'.air = s.air ∧ s'.byl = s.byl := by
  intro h
  simp only [execSpectrumFft] at h
  (repeat' split at h) <;> first | (have h := Host.Outcome.next.inj h; subst h; simp; done) | (have h := Option.some.inj h; subst h; simp; done) | (simp at h; done)

theorem execAntennaSample_frame (x0 : Nat) (x1 : BitVec 16) (s : State) {s' : State} : execAntennaSample x0 x1 s =
    .next s' →
    s'.cyc = s.cyc + (x0 - s.cyc) ∧ s'.pending = s.pending ∧ s'.hostMem = s.hostMem ∧ s'.live = s.live ∧ s'.whoa =
      s.whoa ∧ s'.chip = s.chip ∧ s'.tack = s.tack ∧ s'.recd = s.recd ∧ s'.net = s.net ∧ s'.tim = s.tim ∧ s'.gait =
      s.gait ∧ s'.pad = s.pad ∧ s'.fix = s.fix ∧ s'.air = s.air ∧ s'.byl = s.byl := by
  intro h
  simp only [execAntennaSample] at h
  (repeat' split at h) <;> first | (have h := Host.Outcome.next.inj h; subst h; simp; done) | (have h := Option.some.inj h; subst h; simp; done) | (simp at h; done)

theorem execAntennaBiasRetry_frame (x0 : Nat) (s : State) {s' : State} : execAntennaBiasRetry x0 s = .next s' →
    s'.cyc = s.cyc + (x0 - s.cyc) ∧ s'.pending = s.pending ∧ s'.hostMem = s.hostMem ∧ s'.live = s.live ∧ s'.whoa =
      s.whoa ∧ s'.chip = s.chip ∧ s'.tack = s.tack ∧ s'.recd = s.recd ∧ s'.net = s.net ∧ s'.tim = s.tim ∧ s'.gait =
      s.gait ∧ s'.pad = s.pad ∧ s'.fix = s.fix ∧ s'.air = s.air ∧ s'.byl = s.byl := by
  intro h
  simp only [execAntennaBiasRetry] at h
  (repeat' split at h) <;> first | (have h := Host.Outcome.next.inj h; subst h; simp; done) | (have h := Option.some.inj h; subst h; simp; done) | (simp at h; done)

theorem execStabledBurst_frame (x0 : Nat) (x1 : Option Int) (x2 : List (Nat × BitVec 8)) (s : State) {s' : State} :
    execStabledBurst x0 x1 x2 s = .next s' →
    s'.cyc = s.cyc + (x0 - s.cyc) ∧ s'.pending = s.pending ∧ s'.hostMem = s.hostMem ∧ s'.live = s.live ∧ s'.whoa =
      s.whoa ∧ s'.chip = s.chip ∧ s'.tack = s.tack ∧ s'.recd = s.recd ∧ s'.net = s.net ∧ s'.gait = s.gait ∧ s'.pad =
      s.pad ∧ s'.fix = s.fix ∧ s'.air = s.air ∧ s'.byl = s.byl := by
  intro h
  simp only [execStabledBurst] at h
  (repeat' split at h) <;> first | (have h := Host.Outcome.next.inj h; subst h; simp; done) | (have h := Option.some.inj h; subst h; simp; done) | (simp at h; done)

theorem execSecondBoundary_frame (x0 : Nat) (s : State) {s' : State} : execSecondBoundary x0 s = .next s' →
    s'.cyc = s.cyc + (x0 - s.cyc) ∧ s'.pending = s.pending ∧ s'.hostMem = s.hostMem ∧ s'.live = s.live ∧ s'.whoa =
      s.whoa ∧ s'.chip = s.chip ∧ s'.tack = s.tack ∧ s'.net = s.net ∧ s'.gnb = s.gnb ∧ s'.gait = s.gait ∧ s'.pad =
      s.pad ∧ s'.air = s.air ∧ s'.byl = s.byl := by
  intro h
  simp only [execSecondBoundary] at h
  (repeat' split at h) <;> first | (have h := Host.Outcome.next.inj h; subst h; simp; done) | (have h := Option.some.inj h; subst h; simp; done) | (simp at h; done)

theorem execPpsPulse_frame (x0 : Nat) (x1 : Fin 2) (s : State) {s' : State} : execPpsPulse x0 x1 s = .next s' →
    s'.cyc = s.cyc + (x0 - s.cyc) ∧ s'.pending = s.pending ∧ s'.hostMem = s.hostMem ∧ s'.live = s.live ∧ s'.whoa =
      s.whoa ∧ s'.chip = s.chip ∧ s'.tack = s.tack ∧ s'.net = s.net ∧ s'.gnb = s.gnb ∧ s'.gait = s.gait ∧ s'.pad =
      s.pad ∧ s'.fix = s.fix ∧ s'.air = s.air ∧ s'.byl = s.byl := by
  intro h
  simp only [execPpsPulse] at h
  (repeat' split at h) <;> first | (have h := Host.Outcome.next.inj h; subst h; simp; done) | (have h := Option.some.inj h; subst h; simp; done) | (simp at h; done)

theorem execCueInstant_frame (x0 : Nat) (x1 : Fin 64) (s : State) {s' : State} : execCueInstant x0 x1 s = .next s' →
    s'.cyc = s.cyc + (x0 - s.cyc) ∧ s'.pending = s.pending ∧ s'.hostMem = s.hostMem ∧ s'.live = s.live ∧ s'.whoa =
      s.whoa ∧ s'.chip = s.chip ∧ s'.tack = s.tack ∧ s'.net = s.net ∧ s'.gnb = s.gnb ∧ s'.gait = s.gait ∧ s'.pad =
      s.pad ∧ s'.fix = s.fix ∧ s'.air = s.air ∧ s'.byl = s.byl := by
  intro h
  simp only [execCueInstant] at h
  (repeat' split at h) <;> first | (have h := Host.Outcome.next.inj h; subst h; simp; done) | (have h := Option.some.inj h; subst h; simp; done) | (simp at h; done)

theorem execPpsForceStart_frame (x0 : Nat) (x1 : Requester) (x2 : Fin 2) (s : State) {s' : State} :
    execPpsForceStart x0 x1 x2 s = .next s' →
    s'.cyc = s.cyc + (x0 - s.cyc) ∧ s'.pending = s.pending ∧ s'.hostMem = s.hostMem ∧ s'.live = s.live ∧ s'.whoa =
      s.whoa ∧ s'.chip = s.chip ∧ s'.tack = s.tack ∧ s'.recd = s.recd ∧ s'.net = s.net ∧ s'.gnb = s.gnb ∧ s'.gait =
      s.gait ∧ s'.pad = s.pad ∧ s'.fix = s.fix ∧ s'.air = s.air ∧ s'.byl = s.byl := by
  intro h
  simp only [execPpsForceStart] at h
  (repeat' split at h) <;> first | (have h := Host.Outcome.next.inj h; subst h; simp; done) | (have h := Option.some.inj h; subst h; simp; done) | (simp at h; done)

theorem execStopChannelOpen_frame (x0 : Nat) (x1 : Fin 2) (x2 : Nat) (s : State) {s' : State} : execStopChannelOpen
    x0 x1 x2 s = .next s' →
    s'.cyc = s.cyc + (x0 - s.cyc) ∧ s'.pending = s.pending ∧ s'.hostMem = s.hostMem ∧ s'.live = s.live ∧ s'.chip =
      s.chip ∧ s'.tack = s.tack ∧ s'.tim = s.tim ∧ s'.gnb = s.gnb ∧ s'.gait = s.gait ∧ s'.pad = s.pad ∧ s'.fix =
      s.fix ∧ s'.air = s.air ∧ s'.byl = s.byl := by
  intro h
  simp only [execStopChannelOpen] at h
  (repeat' split at h) <;> first | (have h := Host.Outcome.next.inj h; subst h; simp; done) | (have h := Option.some.inj h; subst h; simp; done) | (simp at h; done)

theorem execStopChannelClosed_frame (x0 : Nat) (x1 : Fin 2) (x2 : Nat) (s : State) {s' : State} :
    execStopChannelClosed x0 x1 x2 s = .next s' →
    s'.cyc = s.cyc + (x0 - s.cyc) ∧ s'.pending = s.pending ∧ s'.hostMem = s.hostMem ∧ s'.live = s.live ∧ s'.chip =
      s.chip ∧ s'.tack = s.tack ∧ s'.tim = s.tim ∧ s'.gnb = s.gnb ∧ s'.gait = s.gait ∧ s'.pad = s.pad ∧ s'.fix =
      s.fix ∧ s'.air = s.air ∧ s'.byl = s.byl := by
  intro h
  simp only [execStopChannelClosed] at h
  (repeat' split at h) <;> first | (have h := Host.Outcome.next.inj h; subst h; simp; done) | (have h := Option.some.inj h; subst h; simp; done) | (simp at h; done)

theorem execTestPulse_frame (x0 : Nat) (x1 : Fin 2) (x2 : Nat) (x3 : Nat) (x4 : Nat) (s : State) {s' : State} :
    execTestPulse x0 x1 x2 x3 x4 s = .next s' →
    s'.cyc = s.cyc + (x0 - s.cyc) ∧ s'.pending = s.pending ∧ s'.hostMem = s.hostMem ∧ s'.live = s.live ∧ s'.chip =
      s.chip ∧ s'.tack = s.tack ∧ s'.tim = s.tim ∧ s'.gnb = s.gnb ∧ s'.gait = s.gait ∧ s'.pad = s.pad ∧ s'.fix =
      s.fix ∧ s'.air = s.air ∧ s'.byl = s.byl := by
  intro h
  simp only [execTestPulse] at h
  (repeat' split at h) <;> first | (have h := Host.Outcome.next.inj h; subst h; simp; done) | (have h := Option.some.inj h; subst h; simp; done) | (simp at h; done)

theorem execDisagreeFault_frame (x0 : Nat) (x1 : Nat) (s : State) {s' : State} : execDisagreeFault x0 x1 s = .next
    s' →
    s'.cyc = s.cyc + (x0 - s.cyc) ∧ s'.pending = s.pending ∧ s'.hostMem = s.hostMem ∧ s'.live = s.live ∧ s'.chip =
      s.chip ∧ s'.tack = s.tack ∧ s'.tim = s.tim ∧ s'.gnb = s.gnb ∧ s'.gait = s.gait ∧ s'.pad = s.pad ∧ s'.fix =
      s.fix ∧ s'.air = s.air ∧ s'.byl = s.byl := by
  intro h
  simp only [execDisagreeFault] at h
  (repeat' split at h) <;> first | (have h := Host.Outcome.next.inj h; subst h; simp; done) | (have h := Option.some.inj h; subst h; simp; done) | (simp at h; done)

theorem execKeyPosition_frame (x0 : Nat) (x1 : Fin 4) (x2 : Nat) (s : State) {s' : State} : execKeyPosition x0 x1 x2
    s = .next s' →
    s'.cyc = s.cyc + (x0 - s.cyc) ∧ s'.pending = s.pending ∧ s'.hostMem = s.hostMem ∧ s'.live = s.live ∧ s'.chip =
      s.chip ∧ s'.tack = s.tack ∧ s'.tim = s.tim ∧ s'.gnb = s.gnb ∧ s'.gait = s.gait ∧ s'.pad = s.pad ∧ s'.fix =
      s.fix ∧ s'.air = s.air ∧ s'.byl = s.byl := by
  intro h
  simp only [execKeyPosition] at h
  (repeat' split at h) <;> first | (have h := Host.Outcome.next.inj h; subst h; simp; done) | (have h := Option.some.inj h; subst h; simp; done) | (simp at h; done)

theorem execTouchMeasure_frame (x0 : Nat) (x1 : List (BitVec 16)) (s : State) {s' : State} : execTouchMeasure x0 x1
    s = .next s' →
    s'.cyc = s.cyc + (x0 - s.cyc) ∧ s'.pending = s.pending ∧ s'.hostMem = s.hostMem ∧ s'.live = s.live ∧ s'.chip =
      s.chip ∧ s'.tack = s.tack ∧ s'.tim = s.tim ∧ s'.gnb = s.gnb ∧ s'.gait = s.gait ∧ s'.pad = s.pad ∧ s'.fix =
      s.fix ∧ s'.air = s.air ∧ s'.byl = s.byl := by
  intro h
  simp only [execTouchMeasure] at h
  (repeat' split at h) <;> first | (have h := Host.Outcome.next.inj h; subst h; simp; done) | (have h := Option.some.inj h; subst h; simp; done) | (simp at h; done)

theorem execResumeHoldComplete_frame (x0 : Nat) (s : State) {s' : State} : execResumeHoldComplete x0 s = .next s' →
    s'.cyc = s.cyc + (x0 - s.cyc) ∧ s'.pending = s.pending ∧ s'.hostMem = s.hostMem ∧ s'.live = s.live ∧ s'.chip =
      s.chip ∧ s'.tack = s.tack ∧ s'.tim = s.tim ∧ s'.gnb = s.gnb ∧ s'.gait = s.gait ∧ s'.pad = s.pad ∧ s'.fix =
      s.fix ∧ s'.air = s.air ∧ s'.byl = s.byl := by
  intro h
  simp only [execResumeHoldComplete] at h
  (repeat' split at h) <;> first | (have h := Host.Outcome.next.inj h; subst h; simp; done) | (have h := Option.some.inj h; subst h; simp; done) | (simp at h; done)

theorem execOutputReadbackFault_frame (x0 : Nat) (x1 : BitVec 4) (x2 : Nat) (s : State) {s' : State} :
    execOutputReadbackFault x0 x1 x2 s = .next s' →
    s'.cyc = s.cyc + (x0 - s.cyc) ∧ s'.pending = s.pending ∧ s'.hostMem = s.hostMem ∧ s'.live = s.live ∧ s'.chip =
      s.chip ∧ s'.tack = s.tack ∧ s'.tim = s.tim ∧ s'.gnb = s.gnb ∧ s'.gait = s.gait ∧ s'.pad = s.pad ∧ s'.fix =
      s.fix ∧ s'.air = s.air ∧ s'.byl = s.byl := by
  intro h
  simp only [execOutputReadbackFault] at h
  (repeat' split at h) <;> first | (have h := Host.Outcome.next.inj h; subst h; simp; done) | (have h := Option.some.inj h; subst h; simp; done) | (simp at h; done)

theorem execOscMonitor_frame (x0 : Nat) (x1 : Nat) (x2 : Nat) (s : State) {s' : State} : execOscMonitor x0 x1 x2 s =
    .next s' →
    s'.cyc = s.cyc + (x0 - s.cyc) ∧ s'.pending = s.pending ∧ s'.hostMem = s.hostMem ∧ s'.live = s.live ∧ s'.chip =
      s.chip ∧ s'.tack = s.tack ∧ s'.tim = s.tim ∧ s'.gnb = s.gnb ∧ s'.gait = s.gait ∧ s'.pad = s.pad ∧ s'.fix =
      s.fix ∧ s'.air = s.air ∧ s'.byl = s.byl := by
  intro h
  simp only [execOscMonitor] at h
  (repeat' split at h) <;> first | (have h := Host.Outcome.next.inj h; subst h; simp; done) | (have h := Option.some.inj h; subst h; simp; done) | (simp at h; done)

theorem execPlugDetect_frame (x0 : Nat) (x1 : BitVec 8) (x2 : Bool) (x3 : Bool) (x4 : Nat) (s : State) {s' : State}
    : execPlugDetect x0 x1 x2 x3 x4 s = .next s' →
    s'.cyc = s.cyc + (x0 - s.cyc) ∧ s'.pending = s.pending ∧ s'.hostMem = s.hostMem ∧ s'.live = s.live ∧ s'.chip =
      s.chip ∧ s'.tack = s.tack ∧ s'.tim = s.tim ∧ s'.gnb = s.gnb ∧ s'.gait = s.gait ∧ s'.pad = s.pad ∧ s'.fix =
      s.fix ∧ s'.air = s.air ∧ s'.byl = s.byl := by
  intro h
  simp only [execPlugDetect] at h
  (repeat' split at h) <;> first | (have h := Host.Outcome.next.inj h; subst h; simp; done) | (have h := Option.some.inj h; subst h; simp; done) | (simp at h; done)

theorem execWhoaStatusEvent_frame (x0 : Nat) (s : State) {s' : State} : execWhoaStatusEvent x0 s = .next s' →
    s'.cyc = s.cyc + (x0 - s.cyc) ∧ s'.pending = s.pending ∧ s'.hostMem = s.hostMem ∧ s'.live = s.live ∧ s'.chip =
      s.chip ∧ s'.tack = s.tack ∧ s'.net = s.net ∧ s'.tim = s.tim ∧ s'.gnb = s.gnb ∧ s'.gait = s.gait ∧ s'.pad =
      s.pad ∧ s'.fix = s.fix ∧ s'.air = s.air ∧ s'.byl = s.byl := by
  intro h
  simp only [execWhoaStatusEvent] at h
  (repeat' split at h) <;> first | (have h := Host.Outcome.next.inj h; subst h; simp; done) | (have h := Option.some.inj h; subst h; simp; done) | (simp at h; done)

theorem execStopFrameRepeat_frame (x0 : Nat) (s : State) {s' : State} : execStopFrameRepeat x0 s = .next s' →
    s'.cyc = s.cyc + (x0 - s.cyc) ∧ s'.pending = s.pending ∧ s'.hostMem = s.hostMem ∧ s'.live = s.live ∧ s'.whoa =
      s.whoa ∧ s'.chip = s.chip ∧ s'.tack = s.tack ∧ s'.tim = s.tim ∧ s'.gnb = s.gnb ∧ s'.gait = s.gait ∧ s'.pad =
      s.pad ∧ s'.fix = s.fix ∧ s'.air = s.air ∧ s'.byl = s.byl := by
  intro h
  simp only [execStopFrameRepeat] at h
  (repeat' split at h) <;> first | (have h := Host.Outcome.next.inj h; subst h; simp; done) | (have h := Option.some.inj h; subst h; simp; done) | (simp at h; done)

theorem execNetFrameRx_frame (x0 : Nat) (x1 : Fin 2) (x2 : List Sys2Proof.Byte) (x3 : Bool) (x4 : Bool) (x5 : BitVec
    64) (x6 : Nat) (s : State) {s' : State} : execNetFrameRx x0 x1 x2 x3 x4 x5 x6 s = .next s' →
    s'.cyc = s.cyc + (x0 - s.cyc) ∧ s'.pending = s.pending ∧ s'.live = s.live ∧ s'.whoa = s.whoa ∧ s'.chip = s.chip
      ∧ s'.tack = s.tack ∧ s'.tim = s.tim ∧ s'.gnb = s.gnb ∧ s'.gait = s.gait ∧ s'.pad = s.pad ∧ s'.fix = s.fix ∧
      s'.air = s.air ∧ s'.byl = s.byl := by
  intro h
  simp only [execNetFrameRx] at h
  (repeat' split at h) <;> first | (have h := Host.Outcome.next.inj h; subst h; simp; done) | (have h := Option.some.inj h; subst h; simp; done) | (simp at h; done)

theorem execNetTxStart_frame (x0 : Nat) (x1 : Fin 2) (x2 : Bool) (x3 : BitVec 64) (s : State) {s' : State} :
    execNetTxStart x0 x1 x2 x3 s = .next s' →
    s'.cyc = s.cyc + (x0 - s.cyc) ∧ s'.pending = s.pending ∧ s'.hostMem = s.hostMem ∧ s'.live = s.live ∧ s'.whoa =
      s.whoa ∧ s'.chip = s.chip ∧ s'.tack = s.tack ∧ s'.tim = s.tim ∧ s'.gnb = s.gnb ∧ s'.gait = s.gait ∧ s'.pad =
      s.pad ∧ s'.fix = s.fix ∧ s'.air = s.air ∧ s'.byl = s.byl := by
  intro h
  simp only [execNetTxStart] at h
  (repeat' split at h) <;> first | (have h := Host.Outcome.next.inj h; subst h; simp; done) | (have h := Option.some.inj h; subst h; simp; done) | (simp at h; done)

theorem execNetTxTimeout_frame (x0 : Nat) (x1 : Fin 2) (x2 : Bool) (s : State) {s' : State} : execNetTxTimeout x0 x1
    x2 s = .next s' →
    s'.cyc = s.cyc + (x0 - s.cyc) ∧ s'.pending = s.pending ∧ s'.hostMem = s.hostMem ∧ s'.live = s.live ∧ s'.whoa =
      s.whoa ∧ s'.chip = s.chip ∧ s'.tack = s.tack ∧ s'.recd = s.recd ∧ s'.tim = s.tim ∧ s'.gnb = s.gnb ∧ s'.gait =
      s.gait ∧ s'.pad = s.pad ∧ s'.fix = s.fix ∧ s'.air = s.air ∧ s'.byl = s.byl := by
  intro h
  simp only [execNetTxTimeout] at h
  (repeat' split at h) <;> first | (have h := Host.Outcome.next.inj h; subst h; simp; done) | (have h := Option.some.inj h; subst h; simp; done) | (simp at h; done)

theorem execPauseRx_frame (x0 : Nat) (x1 : BitVec 16) (s : State) {s' : State} : execPauseRx x0 x1 s = .next s' →
    s'.cyc = s.cyc + (x0 - s.cyc) ∧ s'.pending = s.pending ∧ s'.hostMem = s.hostMem ∧ s'.live = s.live ∧ s'.whoa =
      s.whoa ∧ s'.chip = s.chip ∧ s'.tack = s.tack ∧ s'.tim = s.tim ∧ s'.gnb = s.gnb ∧ s'.gait = s.gait ∧ s'.pad =
      s.pad ∧ s'.fix = s.fix ∧ s'.air = s.air ∧ s'.byl = s.byl := by
  intro h
  simp only [execPauseRx] at h
  (repeat' split at h) <;> first | (have h := Host.Outcome.next.inj h; subst h; simp; done) | (have h := Option.some.inj h; subst h; simp; done) | (simp at h; done)

theorem execPauseExpiry_frame (x0 : Nat) (s : State) {s' : State} : execPauseExpiry x0 s = .next s' →
    s'.cyc = s.cyc + (x0 - s.cyc) ∧ s'.pending = s.pending ∧ s'.hostMem = s.hostMem ∧ s'.live = s.live ∧ s'.whoa =
      s.whoa ∧ s'.chip = s.chip ∧ s'.tack = s.tack ∧ s'.tim = s.tim ∧ s'.gnb = s.gnb ∧ s'.gait = s.gait ∧ s'.pad =
      s.pad ∧ s'.fix = s.fix ∧ s'.air = s.air ∧ s'.byl = s.byl := by
  intro h
  simp only [execPauseExpiry] at h
  (repeat' split at h) <;> first | (have h := Host.Outcome.next.inj h; subst h; simp; done) | (have h := Option.some.inj h; subst h; simp; done) | (simp at h; done)

theorem execPauseTx_frame (x0 : Nat) (x1 : Nat) (s : State) {s' : State} : execPauseTx x0 x1 s = .next s' →
    s'.cyc = s.cyc + (x0 - s.cyc) ∧ s'.pending = s.pending ∧ s'.hostMem = s.hostMem ∧ s'.live = s.live ∧ s'.whoa =
      s.whoa ∧ s'.chip = s.chip ∧ s'.tack = s.tack ∧ s'.tim = s.tim ∧ s'.gnb = s.gnb ∧ s'.gait = s.gait ∧ s'.pad =
      s.pad ∧ s'.fix = s.fix ∧ s'.air = s.air ∧ s'.byl = s.byl := by
  intro h
  simp only [execPauseTx] at h
  (repeat' split at h) <;> first | (have h := Host.Outcome.next.inj h; subst h; simp; done) | (have h := Option.some.inj h; subst h; simp; done) | (simp at h; done)

theorem execPortBCollision_frame (x0 : Nat) (x1 : Bool) (s : State) {s' : State} : execPortBCollision x0 x1 s =
    .next s' →
    s'.cyc = s.cyc + (x0 - s.cyc) ∧ s'.pending = s.pending ∧ s'.hostMem = s.hostMem ∧ s'.live = s.live ∧ s'.whoa =
      s.whoa ∧ s'.chip = s.chip ∧ s'.tack = s.tack ∧ s'.recd = s.recd ∧ s'.tim = s.tim ∧ s'.gnb = s.gnb ∧ s'.gait =
      s.gait ∧ s'.pad = s.pad ∧ s'.fix = s.fix ∧ s'.air = s.air ∧ s'.byl = s.byl := by
  intro h
  simp only [execPortBCollision] at h
  (repeat' split at h) <;> first | (have h := Host.Outcome.next.inj h; subst h; simp; done) | (have h := Option.some.inj h; subst h; simp; done) | (simp at h; done)

theorem execPlcaBeaconTimeout_frame (x0 : Nat) (s : State) {s' : State} : execPlcaBeaconTimeout x0 s = .next s' →
    s'.cyc = s.cyc + (x0 - s.cyc) ∧ s'.pending = s.pending ∧ s'.hostMem = s.hostMem ∧ s'.live = s.live ∧ s'.whoa =
      s.whoa ∧ s'.chip = s.chip ∧ s'.tack = s.tack ∧ s'.recd = s.recd ∧ s'.net = s.net ∧ s'.tim = s.tim ∧ s'.gnb =
      s.gnb ∧ s'.gait = s.gait ∧ s'.pad = s.pad ∧ s'.fix = s.fix ∧ s'.air = s.air ∧ s'.byl = s.byl := by
  intro h
  simp only [execPlcaBeaconTimeout] at h
  (repeat' split at h) <;> first | (have h := Host.Outcome.next.inj h; subst h; simp; done) | (have h := Option.some.inj h; subst h; simp; done) | (simp at h; done)

theorem execPortLinkChange_frame (x0 : Nat) (x1 : Fin 2) (x2 : Bool) (x3 : Bool) (x4 : Bool) (s : State) {s' :
    State} : execPortLinkChange x0 x1 x2 x3 x4 s = .next s' →
    s'.cyc = s.cyc + (x0 - s.cyc) ∧ s'.pending = s.pending ∧ s'.hostMem = s.hostMem ∧ s'.live = s.live ∧ s'.whoa =
      s.whoa ∧ s'.chip = s.chip ∧ s'.tack = s.tack ∧ s'.recd = s.recd ∧ s'.net = s.net ∧ s'.tim = s.tim ∧ s'.gnb =
      s.gnb ∧ s'.gait = s.gait ∧ s'.pad = s.pad ∧ s'.fix = s.fix ∧ s'.air = s.air ∧ s'.byl = s.byl := by
  intro h
  simp only [execPortLinkChange] at h
  (repeat' split at h) <;> first | (have h := Host.Outcome.next.inj h; subst h; simp; done) | (have h := Option.some.inj h; subst h; simp; done) | (simp at h; done)

theorem execRtcmInputGap_frame (x0 : Nat) (x1 : List (List Sys2Proof.Byte)) (s : State) {s' : State} :
    execRtcmInputGap x0 x1 s = .next s' →
    s'.cyc = s.cyc + (x0 - s.cyc) ∧ s'.pending = s.pending ∧ s'.hostMem = s.hostMem ∧ s'.live = s.live ∧ s'.whoa =
      s.whoa ∧ s'.chip = s.chip ∧ s'.tack = s.tack ∧ s'.recd = s.recd ∧ s'.net = s.net ∧ s'.tim = s.tim ∧ s'.gnb =
      s.gnb ∧ s'.gait = s.gait ∧ s'.pad = s.pad ∧ s'.air = s.air ∧ s'.byl = s.byl := by
  intro h
  simp only [execRtcmInputGap] at h
  (repeat' split at h) <;> first | (have h := Host.Outcome.next.inj h; subst h; simp; done) | (have h := Option.some.inj h; subst h; simp; done) | (simp at h; done)

theorem execRefMonitor_frame (x0 : Nat) (x1 : Int × Int × Int) (s : State) {s' : State} : execRefMonitor x0 x1 s =
    .next s' →
    s'.cyc = s.cyc + (x0 - s.cyc) ∧ s'.pending = s.pending ∧ s'.hostMem = s.hostMem ∧ s'.live = s.live ∧ s'.whoa =
      s.whoa ∧ s'.chip = s.chip ∧ s'.tack = s.tack ∧ s'.recd = s.recd ∧ s'.net = s.net ∧ s'.tim = s.tim ∧ s'.gnb =
      s.gnb ∧ s'.gait = s.gait ∧ s'.pad = s.pad ∧ s'.air = s.air ∧ s'.byl = s.byl := by
  intro h
  simp only [execRefMonitor] at h
  (repeat' split at h) <;> first | (have h := Host.Outcome.next.inj h; subst h; simp; done) | (have h := Option.some.inj h; subst h; simp; done) | (simp at h; done)

theorem execTamperDetect_frame (x0 : Nat) (x1 : TamperSeen) (s : State) {s' : State} : execTamperDetect x0 x1 s =
    .next s' →
    s'.cyc = s.cyc + (x0 - s.cyc) ∧ s'.pending = s.pending ∧ s'.live = s.live ∧ s'.whoa = s.whoa ∧ s'.recd = s.recd
      ∧ s'.net = s.net ∧ s'.tim = s.tim ∧ s'.gnb = s.gnb ∧ s'.fix = s.fix := by
  intro h
  simp only [execTamperDetect] at h
  (repeat' split at h) <;> first | (have h := Host.Outcome.next.inj h; subst h; simp; done) | (have h := Option.some.inj h; subst h; simp; done) | (simp at h; done)

theorem execRecTrigger_frame (x0 : Nat) (s : State) {s' : State} : execRecTrigger x0 s = .next s' →
    s'.cyc = s.cyc + (x0 - s.cyc) ∧ s'.pending = s.pending ∧ s'.hostMem = s.hostMem ∧ s'.live = s.live ∧ s'.whoa =
      s.whoa ∧ s'.chip = s.chip ∧ s'.tack = s.tack ∧ s'.net = s.net ∧ s'.tim = s.tim ∧ s'.gnb = s.gnb ∧ s'.gait =
      s.gait ∧ s'.pad = s.pad ∧ s'.fix = s.fix ∧ s'.air = s.air := by
  intro h
  simp only [execRecTrigger] at h
  (repeat' split at h) <;> first | (have h := Host.Outcome.next.inj h; subst h; simp; done) | (have h := Option.some.inj h; subst h; simp; done) | (simp at h; done)

theorem execCaptureFilled_frame (x0 : Nat) (s : State) {s' : State} : execCaptureFilled x0 s = .next s' →
    s'.cyc = s.cyc + (x0 - s.cyc) ∧ s'.pending = s.pending ∧ s'.hostMem = s.hostMem ∧ s'.live = s.live ∧ s'.whoa =
      s.whoa ∧ s'.chip = s.chip ∧ s'.tack = s.tack ∧ s'.net = s.net ∧ s'.tim = s.tim ∧ s'.gnb = s.gnb ∧ s'.gait =
      s.gait ∧ s'.pad = s.pad ∧ s'.fix = s.fix ∧ s'.air = s.air ∧ s'.byl = s.byl := by
  intro h
  simp only [execCaptureFilled] at h
  (repeat' split at h) <;> first | (have h := Host.Outcome.next.inj h; subst h; simp; done) | (have h := Option.some.inj h; subst h; simp; done) | (simp at h; done)

theorem execTrigSyncPulse_frame (x0 : Nat) (x1 : Nat) (x2 : Nat) (s : State) {s' : State} : execTrigSyncPulse x0 x1
    x2 s = .next s' →
    s'.cyc = s.cyc + (x0 - s.cyc) ∧ s'.pending = s.pending ∧ s'.hostMem = s.hostMem ∧ s'.live = s.live ∧ s'.whoa =
      s.whoa ∧ s'.chip = s.chip ∧ s'.tack = s.tack ∧ s'.net = s.net ∧ s'.tim = s.tim ∧ s'.gnb = s.gnb ∧ s'.gait =
      s.gait ∧ s'.pad = s.pad ∧ s'.fix = s.fix ∧ s'.air = s.air := by
  intro h
  simp only [execTrigSyncPulse] at h
  (repeat' split at h) <;> first | (have h := Host.Outcome.next.inj h; subst h; simp; done) | (have h := Option.some.inj h; subst h; simp; done) | (simp at h; done)

theorem execQueuePush_frame (x0 : Nat) (x1 : Fin 128) (x2 : Fin 16) (x3 : QPush) (s : State) {s' : State} :
    execQueuePush x0 x1 x2 x3 s = .next s' →
    s'.cyc = s.cyc + (x0 - s.cyc) ∧ s'.pending = s.pending ∧ s'.hostMem = s.hostMem := by
  intro h
  simp only [execQueuePush] at h
  (repeat' split at h) <;> first | (have h := Host.Outcome.next.inj h; subst h; simp; done) | (have h := Option.some.inj h; subst h; simp; done) | (simp at h; done)

theorem execQueuePop_frame (x0 : Nat) (x1 : Fin 128) (x2 : Option QPush) (x3 : Bool) (x4 : Option Nat) (s : State)
    {s' : State} : execQueuePop x0 x1 x2 x3 x4 s = .next s' →
    s'.cyc = s.cyc + (x0 - s.cyc) ∧ s'.pending = s.pending ∧ s'.hostMem = s.hostMem := by
  intro h
  simp only [execQueuePop] at h
  (repeat' split at h) <;> first | (have h := Host.Outcome.next.inj h; subst h; simp; done) | (have h := Option.some.inj h; subst h; simp; done) | (simp at h; done)

theorem execQueueReadTimeout_frame (x0 : Nat) (x1 : Fin 128) (s : State) {s' : State} : execQueueReadTimeout x0 x1 s
    = .next s' →
    s'.cyc = s.cyc + (x0 - s.cyc) ∧ s'.pending = s.pending ∧ s'.hostMem = s.hostMem ∧ s'.live = s.live ∧ s'.whoa =
      s.whoa ∧ s'.chip = s.chip ∧ s'.tack = s.tack ∧ s'.recd = s.recd ∧ s'.net = s.net ∧ s'.tim = s.tim ∧ s'.gnb =
      s.gnb ∧ s'.gait = s.gait ∧ s'.pad = s.pad ∧ s'.fix = s.fix ∧ s'.air = s.air ∧ s'.byl = s.byl := by
  intro h
  simp only [execQueueReadTimeout] at h
  (repeat' split at h) <;> first | (have h := Host.Outcome.next.inj h; subst h; simp; done) | (have h := Option.some.inj h; subst h; simp; done) | (simp at h; done)

theorem execMergePortTake_frame (x0 : Nat) (x1 : Fin 9) (s : State) {s' : State} : execMergePortTake x0 x1 s = .next
    s' →
    s'.cyc = s.cyc + (x0 - s.cyc) ∧ s'.pending = s.pending ∧ s'.hostMem = s.hostMem := by
  intro h
  simp only [execMergePortTake] at h
  (repeat' split at h) <;> first | (have h := Host.Outcome.next.inj h; subst h; simp; done) | (have h := Option.some.inj h; subst h; simp; done) | (simp at h; done)

theorem execQueueEnableWrite_frame (x0 : Nat) (x1 : Requester) (x2 : Fin 128) (x3 : Sys2Proof.Word) (s : State) {s'
    : State} : execQueueEnableWrite x0 x1 x2 x3 s = .next s' →
    s'.cyc = s.cyc + (x0 - s.cyc) ∧ s'.pending = s.pending ∧ s'.hostMem = s.hostMem ∧ s'.live = s.live ∧ s'.whoa =
      s.whoa ∧ s'.chip = s.chip ∧ s'.tack = s.tack ∧ s'.recd = s.recd ∧ s'.net = s.net ∧ s'.tim = s.tim ∧ s'.gnb =
      s.gnb ∧ s'.gait = s.gait ∧ s'.pad = s.pad ∧ s'.fix = s.fix ∧ s'.air = s.air ∧ s'.byl = s.byl := by
  intro h
  simp only [execQueueEnableWrite] at h
  (repeat' split at h) <;> first | (have h := Host.Outcome.next.inj h; subst h; simp; done) | (have h := Option.some.inj h; subst h; simp; done) | (simp at h; done)

theorem execScrubWord_frame (x0 : Nat) (x1 : Fin 3) (s : State) {s' : State} : execScrubWord x0 x1 s = .next s' →
    s'.cyc = s.cyc + (x0 - s.cyc) ∧ s'.pending = s.pending ∧ s'.hostMem = s.hostMem ∧ s'.live = s.live ∧ s'.whoa =
      s.whoa ∧ s'.chip = s.chip ∧ s'.tack = s.tack ∧ s'.recd = s.recd ∧ s'.net = s.net ∧ s'.tim = s.tim ∧ s'.gnb =
      s.gnb ∧ s'.gait = s.gait ∧ s'.pad = s.pad ∧ s'.fix = s.fix ∧ s'.air = s.air ∧ s'.byl = s.byl := by
  intro h
  simp only [execScrubWord] at h
  (repeat' split at h) <;> first | (have h := Host.Outcome.next.inj h; subst h; simp; done) | (have h := Option.some.inj h; subst h; simp; done) | (simp at h; done)

theorem execThermalSample_frame (x0 : Nat) (x1 : List (Fin 16 × BitVec 8)) (s : State) {s' : State} :
    execThermalSample x0 x1 s = .next s' →
    s'.cyc = s.cyc + (x0 - s.cyc) ∧ s'.pending = s.pending ∧ s'.hostMem = s.hostMem := by
  intro h
  simp only [execThermalSample] at h
  (repeat' split at h) <;> first | (have h := Host.Outcome.next.inj h; subst h; simp; done) | (have h := Option.some.inj h; subst h; simp; done) | (simp at h; done)

theorem execRefClockCheck_frame (x0 : Nat) (x1 : Int) (x2 : Nat) (s : State) {s' : State} : execRefClockCheck x0 x1
    x2 s = .next s' →
    s'.cyc = s.cyc + (x0 - s.cyc) ∧ s'.pending = s.pending ∧ s'.hostMem = s.hostMem := by
  intro h
  simp only [execRefClockCheck] at h
  (repeat' split at h) <;> first | (have h := Host.Outcome.next.inj h; subst h; simp; done) | (have h := Option.some.inj h; subst h; simp; done) | (simp at h; done)

theorem execPwrGoodTimeout_frame (x0 : Nat) (x1 : Bool) (s : State) {s' : State} : execPwrGoodTimeout x0 x1 s =
    .next s' →
    s'.cyc = s.cyc + (x0 - s.cyc) ∧ s'.pending = s.pending ∧ s'.hostMem = s.hostMem ∧ s'.tim = s.tim ∧ s'.gnb =
      s.gnb ∧ s'.gait = s.gait ∧ s'.pad = s.pad ∧ s'.fix = s.fix ∧ s'.air = s.air ∧ s'.byl = s.byl := by
  intro h
  simp only [execPwrGoodTimeout] at h
  (repeat' split at h) <;> first | (have h := Host.Outcome.next.inj h; subst h; simp; done) | (have h := Option.some.inj h; subst h; simp; done) | (simp at h; done)

theorem execWakeSource_frame (x0 : Nat) (x1 : Fin 6) (s : State) {s' : State} : execWakeSource x0 x1 s = .next s' →
    s'.cyc = s.cyc + (x0 - s.cyc) ∧ s'.pending = s.pending ∧ s'.hostMem = s.hostMem ∧ s'.live = s.live ∧ s'.whoa =
      s.whoa ∧ s'.tack = s.tack ∧ s'.recd = s.recd ∧ s'.net = s.net ∧ s'.tim = s.tim ∧ s'.gnb = s.gnb ∧ s'.gait =
      s.gait ∧ s'.pad = s.pad ∧ s'.fix = s.fix ∧ s'.air = s.air ∧ s'.byl = s.byl := by
  intro h
  simp only [execWakeSource] at h
  (repeat' split at h) <;> first | (have h := Host.Outcome.next.inj h; subst h; simp; done) | (have h := Option.some.inj h; subst h; simp; done) | (simp at h; done)

theorem execWakeDone_frame (x0 : Nat) (s : State) {s' : State} : execWakeDone x0 s = .next s' →
    s'.cyc = s.cyc + (x0 - s.cyc) ∧ s'.pending = s.pending ∧ s'.live = s.live ∧ s'.whoa = s.whoa ∧ s'.net = s.net ∧
      s'.gait = s.gait ∧ s'.fix = s.fix ∧ s'.air = s.air := by
  intro h
  simp only [execWakeDone] at h
  (repeat' split at h) <;> first | (have h := Host.Outcome.next.inj h; subst h; simp; done) | (have h := Option.some.inj h; subst h; simp; done) | (simp at h; done)

theorem execHitchInChange_frame (x0 : Nat) (x1 : HitchIn) (s : State) {s' : State} : execHitchInChange x0 x1 s =
    .next s' →
    s'.cyc = s.cyc + (x0 - s.cyc) ∧ s'.pending = s.pending ∧ s'.hostMem = s.hostMem ∧ s'.live = s.live ∧ s'.whoa =
      s.whoa ∧ s'.chip = s.chip ∧ s'.tack = s.tack ∧ s'.recd = s.recd ∧ s'.net = s.net ∧ s'.tim = s.tim ∧ s'.gnb =
      s.gnb ∧ s'.gait = s.gait ∧ s'.pad = s.pad ∧ s'.fix = s.fix ∧ s'.air = s.air := by
  intro h
  simp only [execHitchInChange] at h
  (repeat' split at h) <;> first | (have h := Host.Outcome.next.inj h; subst h; simp; done) | (have h := Option.some.inj h; subst h; simp; done) | (simp at h; done)

theorem execTokenClaimCheck_frame (x0 : Nat) (s : State) {s' : State} : execTokenClaimCheck x0 s = .next s' →
    s'.cyc = s.cyc + (x0 - s.cyc) ∧ s'.pending = s.pending ∧ s'.hostMem = s.hostMem ∧ s'.live = s.live ∧ s'.whoa =
      s.whoa ∧ s'.chip = s.chip ∧ s'.net = s.net ∧ s'.tim = s.tim ∧ s'.gnb = s.gnb := by
  intro h
  simp only [execTokenClaimCheck] at h
  (repeat' split at h) <;> first | (have h := Host.Outcome.next.inj h; subst h; simp; done) | (have h := Option.some.inj h; subst h; simp; done) | (simp at h; done)

theorem execClaimWaitExpiry_frame (x0 : Nat) (s : State) {s' : State} : execClaimWaitExpiry x0 s = .next s' →
    s'.cyc = s.cyc + (x0 - s.cyc) ∧ s'.pending = s.pending ∧ s'.hostMem = s.hostMem ∧ s'.live = s.live ∧ s'.whoa =
      s.whoa ∧ s'.chip = s.chip ∧ s'.tack = s.tack ∧ s'.recd = s.recd ∧ s'.net = s.net ∧ s'.tim = s.tim ∧ s'.gnb =
      s.gnb ∧ s'.gait = s.gait ∧ s'.pad = s.pad ∧ s'.fix = s.fix ∧ s'.air = s.air := by
  intro h
  simp only [execClaimWaitExpiry] at h
  (repeat' split at h) <;> first | (have h := Host.Outcome.next.inj h; subst h; simp; done) | (have h := Option.some.inj h; subst h; simp; done) | (simp at h; done)

theorem execTokenRelease_frame (x0 : Nat) (x1 : Bool) (s : State) {s' : State} : execTokenRelease x0 x1 s = .next s' →
    s'.cyc = s.cyc + (x0 - s.cyc) ∧ s'.pending = s.pending ∧ s'.hostMem = s.hostMem ∧ s'.live = s.live ∧ s'.whoa =
      s.whoa ∧ s'.chip = s.chip ∧ s'.tack = s.tack ∧ s'.net = s.net ∧ s'.tim = s.tim ∧ s'.gnb = s.gnb ∧ s'.gait =
      s.gait ∧ s'.pad = s.pad ∧ s'.fix = s.fix := by
  intro h
  simp only [execTokenRelease] at h
  (repeat' split at h) <;> first | (have h := Host.Outcome.next.inj h; subst h; simp; done) | (have h := Option.some.inj h; subst h; simp; done) | (simp at h; done)

theorem execBylLinkTrained_frame (x0 : Nat) (x1 : List (List (BitVec 130))) (x2 : List Nat) (x3 : Nat) (s : State)
    {s' : State} : execBylLinkTrained x0 x1 x2 x3 s = .next s' →
    s'.cyc = s.cyc + (x0 - s.cyc) ∧ s'.pending = s.pending ∧ s'.hostMem = s.hostMem ∧ s'.live = s.live ∧ s'.whoa =
      s.whoa ∧ s'.chip = s.chip ∧ s'.tack = s.tack ∧ s'.recd = s.recd ∧ s'.net = s.net ∧ s'.tim = s.tim ∧ s'.gnb =
      s.gnb ∧ s'.gait = s.gait ∧ s'.pad = s.pad ∧ s'.fix = s.fix ∧ s'.air = s.air := by
  intro h
  simp only [execBylLinkTrained] at h
  (repeat' split at h) <;> first | (have h := Host.Outcome.next.inj h; subst h; simp; done) | (have h := Option.some.inj h; subst h; simp; done) | (simp at h; done)

theorem execBylHello_frame (x0 : Nat) (x1 : BylRx) (s : State) {s' : State} : execBylHello x0 x1 s = .next s' →
    s'.cyc = s.cyc + (x0 - s.cyc) ∧ s'.pending = s.pending ∧ s'.hostMem = s.hostMem ∧ s'.live = s.live ∧ s'.whoa =
      s.whoa ∧ s'.chip = s.chip ∧ s'.tack = s.tack ∧ s'.recd = s.recd ∧ s'.net = s.net ∧ s'.tim = s.tim ∧ s'.gnb =
      s.gnb ∧ s'.gait = s.gait ∧ s'.pad = s.pad ∧ s'.fix = s.fix ∧ s'.air = s.air := by
  intro h
  simp only [execBylHello] at h
  (repeat' split at h) <;> first | (have h := Host.Outcome.next.inj h; subst h; simp; done) | (have h := Option.some.inj h; subst h; simp; done) | (simp at h; done)

theorem execBylConfirm_frame (x0 : Nat) (x1 : BylRx) (s : State) {s' : State} : execBylConfirm x0 x1 s = .next s' →
    s'.cyc = s.cyc + (x0 - s.cyc) ∧ s'.pending = s.pending ∧ s'.hostMem = s.hostMem ∧ s'.live = s.live ∧ s'.whoa =
      s.whoa ∧ s'.chip = s.chip ∧ s'.tack = s.tack ∧ s'.recd = s.recd ∧ s'.net = s.net ∧ s'.tim = s.tim ∧ s'.gnb =
      s.gnb ∧ s'.gait = s.gait ∧ s'.pad = s.pad ∧ s'.fix = s.fix ∧ s'.air = s.air := by
  intro h
  simp only [execBylConfirm] at h
  (repeat' split at h) <;> first | (have h := Host.Outcome.next.inj h; subst h; simp; done) | (have h := Option.some.inj h; subst h; simp; done) | (simp at h; done)

theorem execBylResendTimeout_frame (x0 : Nat) (x1 : Fin 4) (x2 : Option Nat) (s : State) {s' : State} :
    execBylResendTimeout x0 x1 x2 s = .next s' →
    s'.cyc = s.cyc + (x0 - s.cyc) ∧ s'.pending = s.pending ∧ s'.hostMem = s.hostMem ∧ s'.live = s.live ∧ s'.whoa =
      s.whoa ∧ s'.chip = s.chip ∧ s'.tack = s.tack ∧ s'.recd = s.recd ∧ s'.net = s.net ∧ s'.tim = s.tim ∧ s'.gnb =
      s.gnb ∧ s'.gait = s.gait ∧ s'.pad = s.pad ∧ s'.fix = s.fix ∧ s'.air = s.air := by
  intro h
  simp only [execBylResendTimeout] at h
  (repeat' split at h) <;> first | (have h := Host.Outcome.next.inj h; subst h; simp; done) | (have h := Option.some.inj h; subst h; simp; done) | (simp at h; done)

theorem execHeartbeatSend_frame (x0 : Nat) (s : State) {s' : State} : execHeartbeatSend x0 s = .next s' →
    s'.cyc = s.cyc + (x0 - s.cyc) ∧ s'.pending = s.pending ∧ s'.hostMem = s.hostMem ∧ s'.live = s.live ∧ s'.whoa =
      s.whoa ∧ s'.chip = s.chip ∧ s'.tack = s.tack ∧ s'.recd = s.recd ∧ s'.net = s.net ∧ s'.tim = s.tim ∧ s'.gnb =
      s.gnb ∧ s'.gait = s.gait ∧ s'.pad = s.pad ∧ s'.fix = s.fix ∧ s'.air = s.air := by
  intro h
  simp only [execHeartbeatSend] at h
  (repeat' split at h) <;> first | (have h := Host.Outcome.next.inj h; subst h; simp; done) | (have h := Option.some.inj h; subst h; simp; done) | (simp at h; done)

theorem execHeartbeatReceived_frame (x0 : Nat) (x1 : BylRx) (s : State) {s' : State} : execHeartbeatReceived x0 x1 s
    = .next s' →
    s'.cyc = s.cyc + (x0 - s.cyc) ∧ s'.pending = s.pending ∧ s'.hostMem = s.hostMem ∧ s'.live = s.live ∧ s'.whoa =
      s.whoa ∧ s'.chip = s.chip ∧ s'.tack = s.tack ∧ s'.recd = s.recd ∧ s'.net = s.net ∧ s'.tim = s.tim ∧ s'.gnb =
      s.gnb ∧ s'.fix = s.fix := by
  intro h
  simp only [execHeartbeatReceived] at h
  (repeat' split at h) <;> first | (have h := Host.Outcome.next.inj h; subst h; simp; done) | (have h := Option.some.inj h; subst h; simp; done) | (simp at h; done)

theorem execHeartbeatMiss_frame (x0 : Nat) (s : State) {s' : State} : execHeartbeatMiss x0 s = .next s' →
    s'.cyc = s.cyc + (x0 - s.cyc) ∧ s'.pending = s.pending ∧ s'.hostMem = s.hostMem ∧ s'.live = s.live ∧ s'.whoa =
      s.whoa ∧ s'.chip = s.chip ∧ s'.tack = s.tack ∧ s'.recd = s.recd ∧ s'.net = s.net ∧ s'.tim = s.tim ∧ s'.gnb =
      s.gnb ∧ s'.fix = s.fix ∧ s'.air = s.air := by
  intro h
  simp only [execHeartbeatMiss] at h
  (repeat' split at h) <;> first | (have h := Host.Outcome.next.inj h; subst h; simp; done) | (have h := Option.some.inj h; subst h; simp; done) | (simp at h; done)

theorem execTakeover_frame (x0 : Nat) (s : State) {s' : State} : execTakeover x0 s = .next s' →
    s'.cyc = s.cyc + (x0 - s.cyc) ∧ s'.pending = s.pending ∧ s'.hostMem = s.hostMem ∧ s'.live = s.live ∧ s'.whoa =
      s.whoa ∧ s'.chip = s.chip ∧ s'.tack = s.tack ∧ s'.recd = s.recd ∧ s'.net = s.net ∧ s'.tim = s.tim ∧ s'.gnb =
      s.gnb ∧ s'.gait = s.gait ∧ s'.pad = s.pad ∧ s'.fix = s.fix ∧ s'.air = s.air := by
  intro h
  simp only [execTakeover] at h
  (repeat' split at h) <;> first | (have h := Host.Outcome.next.inj h; subst h; simp; done) | (have h := Option.some.inj h; subst h; simp; done) | (simp at h; done)

theorem execColdTakeover_frame (x0 : Nat) (s : State) {s' : State} : execColdTakeover x0 s = .next s' →
    s'.cyc = s.cyc + (x0 - s.cyc) ∧ s'.pending = s.pending ∧ s'.hostMem = s.hostMem ∧ s'.live = s.live ∧ s'.chip =
      s.chip ∧ s'.tack = s.tack ∧ s'.tim = s.tim ∧ s'.gnb = s.gnb ∧ s'.gait = s.gait ∧ s'.pad = s.pad ∧ s'.fix =
      s.fix ∧ s'.air = s.air := by
  intro h
  simp only [execColdTakeover] at h
  (repeat' split at h) <;> first | (have h := Host.Outcome.next.inj h; subst h; simp; done) | (have h := Option.some.inj h; subst h; simp; done) | (simp at h; done)

theorem execMirrorGait_frame (x0 : Nat) (x1 : BylRx) (x2 : BitVec 8) (x3 : GaitMirror) (s : State) {s' : State} :
    execMirrorGait x0 x1 x2 x3 s = .next s' →
    s'.cyc = s.cyc + (x0 - s.cyc) ∧ s'.pending = s.pending ∧ s'.hostMem = s.hostMem ∧ s'.live = s.live ∧ s'.whoa =
      s.whoa ∧ s'.chip = s.chip ∧ s'.tack = s.tack ∧ s'.recd = s.recd ∧ s'.net = s.net ∧ s'.tim = s.tim ∧ s'.gnb =
      s.gnb ∧ s'.pad = s.pad ∧ s'.fix = s.fix := by
  intro h
  simp only [execMirrorGait] at h
  (repeat' split at h) <;> first | (have h := Host.Outcome.next.inj h; subst h; simp; done) | (have h := Option.some.inj h; subst h; simp; done) | (simp at h; done)

theorem execMirrorSession_frame (x0 : Nat) (x1 : BylRx) (x2 : BitVec 8) (x3 : SessMirror) (s : State) {s' : State} :
    execMirrorSession x0 x1 x2 x3 s = .next s' →
    s'.cyc = s.cyc + (x0 - s.cyc) ∧ s'.pending = s.pending ∧ s'.hostMem = s.hostMem ∧ s'.live = s.live ∧ s'.whoa =
      s.whoa ∧ s'.chip = s.chip ∧ s'.recd = s.recd ∧ s'.net = s.net ∧ s'.tim = s.tim ∧ s'.gnb = s.gnb := by
  intro h
  simp only [execMirrorSession] at h
  (repeat' split at h) <;> first | (have h := Host.Outcome.next.inj h; subst h; simp; done) | (have h := Option.some.inj h; subst h; simp; done) | (simp at h; done)

theorem execMirrorConfig_frame (x0 : Nat) (x1 : BylRx) (x2 : ConfigMirror) (s : State) {s' : State} :
    execMirrorConfig x0 x1 x2 s = .next s' →
    s'.cyc = s.cyc + (x0 - s.cyc) ∧ s'.pending = s.pending ∧ s'.hostMem = s.hostMem ∧ s'.whoa = s.whoa ∧ s'.chip =
      s.chip ∧ s'.tack = s.tack ∧ s'.recd = s.recd ∧ s'.net = s.net ∧ s'.tim = s.tim ∧ s'.gait = s.gait ∧ s'.pad =
      s.pad := by
  intro h
  simp only [execMirrorConfig] at h
  (repeat' split at h) <;> first | (have h := Host.Outcome.next.inj h; subst h; simp; done) | (have h := Option.some.inj h; subst h; simp; done) | (simp at h; done)

theorem execMirrorAck_frame (x0 : Nat) (x1 : BylRx) (s : State) {s' : State} : execMirrorAck x0 x1 s = .next s' →
    s'.cyc = s.cyc + (x0 - s.cyc) ∧ s'.pending = s.pending ∧ s'.hostMem = s.hostMem ∧ s'.live = s.live ∧ s'.whoa =
      s.whoa ∧ s'.chip = s.chip ∧ s'.tack = s.tack ∧ s'.recd = s.recd ∧ s'.net = s.net ∧ s'.tim = s.tim ∧ s'.gnb =
      s.gnb ∧ s'.fix = s.fix ∧ s'.air = s.air := by
  intro h
  simp only [execMirrorAck] at h
  (repeat' split at h) <;> first | (have h := Host.Outcome.next.inj h; subst h; simp; done) | (have h := Option.some.inj h; subst h; simp; done) | (simp at h; done)

theorem execTileReq_frame (x0 : Nat) (x1 : BylRx) (s : State) {s' : State} : execTileReq x0 x1 s = .next s' →
    s'.cyc = s.cyc + (x0 - s.cyc) ∧ s'.pending = s.pending ∧ s'.hostMem = s.hostMem ∧ s'.live = s.live ∧ s'.whoa =
      s.whoa ∧ s'.chip = s.chip ∧ s'.tack = s.tack ∧ s'.recd = s.recd ∧ s'.net = s.net ∧ s'.tim = s.tim ∧ s'.gnb =
      s.gnb ∧ s'.gait = s.gait ∧ s'.pad = s.pad ∧ s'.fix = s.fix ∧ s'.air = s.air := by
  intro h
  simp only [execTileReq] at h
  (repeat' split at h) <;> first | (have h := Host.Outcome.next.inj h; subst h; simp; done) | (have h := Option.some.inj h; subst h; simp; done) | (simp at h; done)

theorem execTileData_frame (x0 : Nat) (x1 : BylRx) (x2 : TileData) (s : State) {s' : State} : execTileData x0 x1 x2
    s = .next s' →
    s'.cyc = s.cyc + (x0 - s.cyc) ∧ s'.pending = s.pending ∧ s'.hostMem = s.hostMem ∧ s'.live = s.live ∧ s'.whoa =
      s.whoa ∧ s'.chip = s.chip ∧ s'.tack = s.tack ∧ s'.recd = s.recd ∧ s'.net = s.net ∧ s'.tim = s.tim ∧ s'.gnb =
      s.gnb ∧ s'.gait = s.gait ∧ s'.fix = s.fix ∧ s'.air = s.air := by
  intro h
  simp only [execTileData] at h
  (repeat' split at h) <;> first | (have h := Host.Outcome.next.inj h; subst h; simp; done) | (have h := Option.some.inj h; subst h; simp; done) | (simp at h; done)

theorem execRecArmMessage_frame (x0 : Nat) (x1 : BylRx) (s : State) {s' : State} : execRecArmMessage x0 x1 s = .next
    s' →
    s'.cyc = s.cyc + (x0 - s.cyc) ∧ s'.pending = s.pending ∧ s'.hostMem = s.hostMem ∧ s'.live = s.live ∧ s'.whoa =
      s.whoa ∧ s'.chip = s.chip ∧ s'.tack = s.tack ∧ s'.net = s.net ∧ s'.tim = s.tim ∧ s'.gnb = s.gnb ∧ s'.gait =
      s.gait ∧ s'.pad = s.pad ∧ s'.fix = s.fix ∧ s'.air = s.air := by
  intro h
  simp only [execRecArmMessage] at h
  (repeat' split at h) <;> first | (have h := Host.Outcome.next.inj h; subst h; simp; done) | (have h := Option.some.inj h; subst h; simp; done) | (simp at h; done)

theorem execRecFireMessage_frame (x0 : Nat) (x1 : BylRx) (s : State) {s' : State} : execRecFireMessage x0 x1 s =
    .next s' →
    s'.cyc = s.cyc + (x0 - s.cyc) ∧ s'.pending = s.pending ∧ s'.hostMem = s.hostMem ∧ s'.live = s.live ∧ s'.whoa =
      s.whoa ∧ s'.chip = s.chip ∧ s'.tack = s.tack ∧ s'.net = s.net ∧ s'.tim = s.tim ∧ s'.gnb = s.gnb ∧ s'.gait =
      s.gait ∧ s'.pad = s.pad ∧ s'.fix = s.fix ∧ s'.air = s.air := by
  intro h
  simp only [execRecFireMessage] at h
  (repeat' split at h) <;> first | (have h := Host.Outcome.next.inj h; subst h; simp; done) | (have h := Option.some.inj h; subst h; simp; done) | (simp at h; done)

theorem execSvcMsg_frame (x0 : Nat) (x1 : BylRx) (x2 : Option Bool) (s : State) {s' : State} : execSvcMsg x0 x1 x2 s
    = .next s' →
    s'.cyc = s.cyc + (x0 - s.cyc) ∧ s'.pending = s.pending ∧ s'.hostMem = s.hostMem ∧ s'.live = s.live ∧ s'.whoa =
      s.whoa ∧ s'.chip = s.chip ∧ s'.tack = s.tack ∧ s'.recd = s.recd ∧ s'.net = s.net ∧ s'.tim = s.tim ∧ s'.gnb =
      s.gnb ∧ s'.gait = s.gait ∧ s'.pad = s.pad ∧ s'.fix = s.fix ∧ s'.air = s.air := by
  intro h
  simp only [execSvcMsg] at h
  (repeat' split at h) <;> first | (have h := Host.Outcome.next.inj h; subst h; simp; done) | (have h := Option.some.inj h; subst h; simp; done) | (simp at h; done)

theorem execHandoverTimeout_frame (x0 : Nat) (s : State) {s' : State} : execHandoverTimeout x0 s = .next s' →
    s'.cyc = s.cyc + (x0 - s.cyc) ∧ s'.pending = s.pending ∧ s'.hostMem = s.hostMem ∧ s'.live = s.live ∧ s'.whoa =
      s.whoa ∧ s'.chip = s.chip ∧ s'.tack = s.tack ∧ s'.recd = s.recd ∧ s'.net = s.net ∧ s'.tim = s.tim ∧ s'.gnb =
      s.gnb ∧ s'.gait = s.gait ∧ s'.pad = s.pad ∧ s'.fix = s.fix ∧ s'.air = s.air := by
  intro h
  simp only [execHandoverTimeout] at h
  (repeat' split at h) <;> first | (have h := Host.Outcome.next.inj h; subst h; simp; done) | (have h := Option.some.inj h; subst h; simp; done) | (simp at h; done)

theorem execPowerOff_frame (x0 : Nat) (s : State) {s' : State} : execPowerOff x0 s = .next s' →
    s'.cyc = s.cyc + (x0 - s.cyc) ∧ s'.pending = s.pending ∧ s'.hostMem = s.hostMem := by
  intro h
  simp only [execPowerOff] at h
  (repeat' split at h) <;> first | (have h := Host.Outcome.next.inj h; subst h; simp; done) | (have h := Option.some.inj h; subst h; simp; done) | (simp at h; done)

theorem execPllLockLoss_frame (x0 : Nat) (x1 : Fin 16) (s : State) {s' : State} : execPllLockLoss x0 x1 s = .next s' →
    s'.cyc = s.cyc + (x0 - s.cyc) ∧ s'.pending = s.pending ∧ s'.hostMem = s.hostMem := by
  intro h
  simp only [execPllLockLoss] at h
  (repeat' split at h) <;> first | (have h := Host.Outcome.next.inj h; subst h; simp; done) | (have h := Option.some.inj h; subst h; simp; done) | (simp at h; done)

theorem execBylLinkLoss_frame (x0 : Nat) (x1 : Fin 4) (x2 : List (BitVec 130)) (s : State) {s' : State} :
    execBylLinkLoss x0 x1 x2 s = .next s' →
    s'.cyc = s.cyc + (x0 - s.cyc) ∧ s'.pending = s.pending ∧ s'.hostMem = s.hostMem ∧ s'.live = s.live ∧ s'.whoa =
      s.whoa ∧ s'.chip = s.chip ∧ s'.tack = s.tack ∧ s'.recd = s.recd ∧ s'.net = s.net ∧ s'.tim = s.tim ∧ s'.gnb =
      s.gnb ∧ s'.fix = s.fix ∧ s'.air = s.air := by
  intro h
  simp only [execBylLinkLoss] at h
  (repeat' split at h) <;> first | (have h := Host.Outcome.next.inj h; subst h; simp; done) | (have h := Option.some.inj h; subst h; simp; done) | (simp at h; done)

theorem execHelloRetry_frame (x0 : Nat) (s : State) {s' : State} : execHelloRetry x0 s = .next s' →
    s'.cyc = s.cyc + (x0 - s.cyc) ∧ s'.pending = s.pending ∧ s'.hostMem = s.hostMem ∧ s'.live = s.live ∧ s'.whoa =
      s.whoa ∧ s'.chip = s.chip ∧ s'.tack = s.tack ∧ s'.recd = s.recd ∧ s'.net = s.net ∧ s'.tim = s.tim ∧ s'.gnb =
      s.gnb ∧ s'.gait = s.gait ∧ s'.pad = s.pad ∧ s'.fix = s.fix ∧ s'.air = s.air := by
  intro h
  simp only [execHelloRetry] at h
  (repeat' split at h) <;> first | (have h := Host.Outcome.next.inj h; subst h; simp; done) | (have h := Option.some.inj h; subst h; simp; done) | (simp at h; done)

theorem execPlcaBeaconReceived_frame (x0 : Nat) (s : State) {s' : State} : execPlcaBeaconReceived x0 s = .next s' →
    s'.cyc = s.cyc + (x0 - s.cyc) ∧ s'.pending = s.pending ∧ s'.hostMem = s.hostMem ∧ s'.live = s.live ∧ s'.whoa =
      s.whoa ∧ s'.chip = s.chip ∧ s'.tack = s.tack ∧ s'.recd = s.recd ∧ s'.tim = s.tim ∧ s'.gnb = s.gnb ∧ s'.gait =
      s.gait ∧ s'.pad = s.pad ∧ s'.fix = s.fix ∧ s'.air = s.air ∧ s'.byl = s.byl := by
  intro h
  simp only [execPlcaBeaconReceived] at h
  (repeat' split at h) <;> first | (have h := Host.Outcome.next.inj h; subst h; simp; done) | (have h := Option.some.inj h; subst h; simp; done) | (simp at h; done)

theorem execPreemptionVerify_frame (x0 : Nat) (x1 : Bool) (s : State) {s' : State} : execPreemptionVerify x0 x1 s =
    .next s' →
    s'.cyc = s.cyc + (x0 - s.cyc) ∧ s'.pending = s.pending ∧ s'.hostMem = s.hostMem ∧ s'.live = s.live ∧ s'.whoa =
      s.whoa ∧ s'.chip = s.chip ∧ s'.tack = s.tack ∧ s'.recd = s.recd ∧ s'.net = s.net ∧ s'.tim = s.tim ∧ s'.gnb =
      s.gnb ∧ s'.gait = s.gait ∧ s'.pad = s.pad ∧ s'.fix = s.fix ∧ s'.air = s.air ∧ s'.byl = s.byl := by
  intro h
  simp only [execPreemptionVerify] at h
  (repeat' split at h) <;> first | (have h := Host.Outcome.next.inj h; subst h; simp; done) | (have h := Option.some.inj h; subst h; simp; done) | (simp at h; done)

theorem execAcquisitionHandoff_frame (x0 : Nat) (x1 : Fin 2) (x2 : BitVec 6) (x3 : Fin 6) (x4 : List SigCand) (s :
    State) {s' : State} : execAcquisitionHandoff x0 x1 x2 x3 x4 s = .next s' →
    s'.cyc = s.cyc + (x0 - s.cyc) ∧ s'.pending = s.pending ∧ s'.hostMem = s.hostMem ∧ s'.live = s.live ∧ s'.whoa =
      s.whoa ∧ s'.chip = s.chip ∧ s'.tack = s.tack ∧ s'.recd = s.recd ∧ s'.net = s.net ∧ s'.tim = s.tim ∧ s'.gait =
      s.gait ∧ s'.pad = s.pad ∧ s'.fix = s.fix ∧ s'.air = s.air ∧ s'.byl = s.byl := by
  intro h
  simp only [execAcquisitionHandoff] at h
  (repeat' split at h) <;> first | (have h := Host.Outcome.next.inj h; subst h; simp; done) | (have h := Option.some.inj h; subst h; simp; done) | (simp at h; done)

theorem execSignalLockLoss_frame (x0 : Nat) (x1 : Fin 192) (x2 : Bool) (s : State) {s' : State} : execSignalLockLoss
    x0 x1 x2 s = .next s' →
    s'.cyc = s.cyc + (x0 - s.cyc) ∧ s'.pending = s.pending ∧ s'.hostMem = s.hostMem ∧ s'.live = s.live ∧ s'.whoa =
      s.whoa ∧ s'.chip = s.chip ∧ s'.tack = s.tack ∧ s'.recd = s.recd ∧ s'.net = s.net ∧ s'.tim = s.tim ∧ s'.gait =
      s.gait ∧ s'.pad = s.pad ∧ s'.fix = s.fix ∧ s'.air = s.air ∧ s'.byl = s.byl := by
  intro h
  simp only [execSignalLockLoss] at h
  (repeat' split at h) <;> first | (have h := Host.Outcome.next.inj h; subst h; simp; done) | (have h := Option.some.inj h; subst h; simp; done) | (simp at h; done)

theorem execDownlinkBulkSpan_frame (x0 : Nat) (x1 : BitVec 8) (s : State) {s' : State} : execDownlinkBulkSpan x0 x1
    s = .next s' →
    s'.cyc = s.cyc + (x0 - s.cyc) ∧ s'.pending = s.pending ∧ s'.hostMem = s.hostMem ∧ s'.live = s.live ∧ s'.whoa =
      s.whoa ∧ s'.chip = s.chip ∧ s'.net = s.net ∧ s'.tim = s.tim ∧ s'.gnb = s.gnb ∧ s'.gait = s.gait ∧ s'.pad =
      s.pad ∧ s'.fix = s.fix := by
  intro h
  simp only [execDownlinkBulkSpan] at h
  (repeat' split at h) <;> first | (have h := Host.Outcome.next.inj h; subst h; simp; done) | (have h := Option.some.inj h; subst h; simp; done) | (simp at h; done)

theorem execPulseWidthEnd_frame (x0 : Nat) (x1 : Fin 10) (s : State) {s' : State} : execPulseWidthEnd x0 x1 s =
    .next s' →
    s'.cyc = s.cyc + (x0 - s.cyc) ∧ s'.pending = s.pending ∧ s'.hostMem = s.hostMem ∧ s'.live = s.live ∧ s'.whoa =
      s.whoa ∧ s'.chip = s.chip ∧ s'.tack = s.tack ∧ s'.recd = s.recd ∧ s'.net = s.net ∧ s'.gnb = s.gnb ∧ s'.gait =
      s.gait ∧ s'.pad = s.pad ∧ s'.fix = s.fix ∧ s'.air = s.air ∧ s'.byl = s.byl := by
  intro h
  simp only [execPulseWidthEnd] at h
  (repeat' split at h) <;> first | (have h := Host.Outcome.next.inj h; subst h; simp; done) | (have h := Option.some.inj h; subst h; simp; done) | (simp at h; done)

theorem execHandoverYield_frame (x0 : Nat) (s : State) {s' : State} : execHandoverYield x0 s = .next s' →
    s'.cyc = s.cyc + (x0 - s.cyc) ∧ s'.pending = s.pending ∧ s'.hostMem = s.hostMem ∧ s'.live = s.live ∧ s'.whoa =
      s.whoa ∧ s'.chip = s.chip ∧ s'.tack = s.tack ∧ s'.net = s.net ∧ s'.tim = s.tim ∧ s'.gnb = s.gnb := by
  intro h
  simp only [execHandoverYield] at h
  (repeat' split at h) <;> first | (have h := Host.Outcome.next.inj h; subst h; simp; done) | (have h := Option.some.inj h; subst h; simp; done) | (simp at h; done)

theorem execInterconnectCorrectedError_frame (x0 : Nat) (s : State) {s' : State} : execInterconnectCorrectedError x0
    s = .next s' →
    s'.cyc = s.cyc + (x0 - s.cyc) ∧ s'.pending = s.pending ∧ s'.hostMem = s.hostMem ∧ s'.live = s.live ∧ s'.whoa =
      s.whoa ∧ s'.chip = s.chip ∧ s'.tack = s.tack ∧ s'.recd = s.recd ∧ s'.net = s.net ∧ s'.tim = s.tim ∧ s'.gnb =
      s.gnb ∧ s'.gait = s.gait ∧ s'.pad = s.pad ∧ s'.fix = s.fix ∧ s'.air = s.air ∧ s'.byl = s.byl := by
  intro h
  simp only [execInterconnectCorrectedError] at h
  (repeat' split at h) <;> first | (have h := Host.Outcome.next.inj h; subst h; simp; done) | (have h := Option.some.inj h; subst h; simp; done) | (simp at h; done)

end Sys2Proof.Machine
end

