-- ==== Sys2Proof/Laws/Items.lean ====
section
/-!
SUPPORT. Items and accesses: what the operations that every family shares answer where they act.
-/

namespace Sys2Proof.Machine

/-- Acting late or in time changes nothing but how an item stands to its WHEN. -/
theorem Item.acting_d (it : Item) (late : Bool) : (it.acting late).d = it.d := rfl
theorem Item.acting_ctx (it : Item) (late : Bool) : (it.acting late).ctx = it.ctx := rfl
theorem Item.acting_id (it : Item) (late : Bool) : (it.acting late).id = it.id := rfl
theorem Item.acting_handle (it : Item) (late : Bool) : (it.acting late).handle = it.handle := rfl

/-- A block that steps is in a region that serves items. -/
theorem State.runs_up {s : State} {r b : Nat} (h : s.runs r b = true) : s.up r = true := by
  simp only [State.runs, Bool.and_eq_true] at h
  exact h.1

/-- An operation that goes acts on its item, no longer waiting. -/
theorem State.runOpWith_goes {s : State} {r : Nat} {it : Item} {k : Checks} {late : Bool}
    {wait act : State → Item → State} (h : s.goes r it k late = true) :
    s.runOpWith r it k wait act = act (s.unwait it.id) (it.acting late) := by
  simp only [State.goes, Bool.and_eq_true, Bool.not_eq_true', beq_iff_eq] at h
  simp [State.runOpWith, h, State.runs_up h.1.2]

theorem State.runOp_goes {s : State} {r : Nat} {it : Item} {self : Item → Instr} {k : Checks} {late : Bool}
    {act : State → Item → State} (h : s.goes r it k late = true) :
    s.runOp r it self k act = act (s.unwait it.id) (it.acting late) := State.runOpWith_goes h

/-- An operation whose WHEN lies ahead waits for it. -/
theorem State.runOpWith_waits {s : State} {r : Nat} {it : Item} {k : Checks} {wait act : State → Item → State}
    (h : s.waits r it k = true) : s.runOpWith r it k wait act = wait s it := by
  simp only [State.waits, Bool.and_eq_true, Bool.not_eq_true', beq_iff_eq] at h
  simp [State.runOpWith, h, State.runs_up h.1.2]

theorem State.runOp_waits {s : State} {r : Nat} {it : Item} {self : Item → Instr} {k : Checks}
    {act : State → Item → State} (h : s.waits r it k = true) : s.runOp r it self k act = s.holdWhen it self :=
  State.runOpWith_waits h

/-- An operation that is rejected completes with that status. -/
theorem State.runOpWith_rejects {s : State} {r : Nat} {it : Item} {k : Checks} {st : Status}
    {wait act : State → Item → State} (h : s.rejects r it k st = true) :
    s.runOpWith r it k wait act = s.finish it r st := by
  simp only [State.rejects, Bool.and_eq_true, Bool.not_eq_true', beq_iff_eq] at h
  simp [State.runOpWith, h, State.runs_up h.1.2]

theorem State.runOp_rejects {s : State} {r : Nat} {it : Item} {self : Item → Instr} {k : Checks} {st : Status}
    {act : State → Item → State} (h : s.rejects r it k st = true) : s.runOp r it self k act = s.finish it r st :=
  State.runOpWith_rejects h

/-- An operation of TACK that goes acts on its item. -/
theorem State.tackOp_goes {s : State} {it : Item} {self : Item → Instr} {k : Checks} {late : Bool}
    {act : State → Item → State} (h : s.goes 12 it k late = true) :
    s.tackOp it self k act = act (s.unwait it.id) (it.acting late) := by
  have hj : s.judge it k = .act late := by
    simp only [State.goes, Bool.and_eq_true, beq_iff_eq] at h; exact h.2
  have hr : (!s.barred it && s.runs 12 (blockOf it.d.opcode.toNat) && s.judge it k == .reject .rejKey) = false := by rw [hj]; simp
  simp only [State.tackOp, hr, Bool.false_eq_true, if_false]
  exact State.runOp_goes h

/-- A served access does what it stands for, noted in its window. -/
theorem State.access_reaches {s : State} {rq : Requester} {a : Nat} {write : Bool} {act : State → State}
    (h : s.reaches rq a = true) : s.access rq a write act = act (s.reached rq a write) := by
  simp only [State.reaches, Bool.and_eq_true, Bool.not_eq_true', Bool.or_eq_true, bne_iff_ne] at h
  obtain ⟨⟨⟨⟨⟨h1, h2⟩, h3⟩, h6⟩, h4⟩, h5⟩ := h
  unfold State.access State.reached
  rw [if_neg (by rcases h3 with h3 | h3 <;> rcases h6 with h6 | h6 <;> simp [h1, h2, h3, h6])]
  by_cases hq : rq = 0
  · simp only [hq]
    have h5' : State.served { s with hif := { s.hif with linkUp := true } } a = true := h5
    simp [h4, h5']
  · simp only [if_neg hq]
    simp [h4, h5]

/-- An access to a region that does not answer sets REGION_DOWN; a read returns all ones. -/
theorem State.access_refuses {s : State} {rq : Requester} {a : Nat} {write : Bool} {act : State → State}
    (h : s.refuses rq a = true) : s.access rq a write act =
      if write then (s.reached rq a write).chipErr B.CHIP_ERR_STS_REGION_DOWN
      else ((s.reached rq a write).chipErr B.CHIP_ERR_STS_REGION_DOWN).answer rq (BitVec.allOnes 32) := by
  simp only [State.refuses, Bool.and_eq_true, Bool.not_eq_true', Bool.or_eq_true, bne_iff_ne] at h
  obtain ⟨⟨⟨⟨⟨h1, h2⟩, h3⟩, h6⟩, h4⟩, h5⟩ := h
  unfold State.access State.reached
  rw [if_neg (by rcases h3 with h3 | h3 <;> rcases h6 with h6 | h6 <;> simp [h1, h2, h3, h6])]
  by_cases hq : rq = 0
  · simp only [hq]
    have h5' : State.served { s with hif := { s.hif with linkUp := true } } a = false := h5
    simp [h4, h5']
  · simp only [if_neg hq]
    simp [h4, h5]

/-- With nothing else waiting, a SET_HOLD or RELEASE that holds its locks acts at once. -/
theorem State.waitLocks_acts {v w : State} {it : Item} {bad : Option BadCell} (hv : v.pad.waits = [])
    (ha : (v.askLocks (.item it.id) (v.waitTiles it)).pad.waits = [])
    (hw : w = { v.askLocks (.item it.id) (v.waitTiles it) with
      pad := { (v.askLocks (.item it.id) (v.waitTiles it)).pad with waits := [PadWait.mk it bad] } })
    (hl : w.holdsLocks (.item it.id) = true) : v.waitLocks it bad = w.actWait ⟨it, bad⟩ := by
  have hr : w.runWaits 1 = w.actWait ⟨it, bad⟩ := by
    have hp : w.pad.waits = [⟨it, bad⟩] := by rw [hw]
    simp [State.runWaits, hp, hl]
  simp only [State.waitLocks, hv, ha, List.any_nil, Bool.false_eq_true, if_false, List.nil_append, List.length_singleton]
  rw [← hw]; exact hr

/-- An acknowledgement leaves the next SEQ to be received as it was. -/
theorem State.takeAck_rxNext (s : State) (c : Nat) (a : Option Nat) : (s.takeAck c a).byl.rxNext = s.byl.rxNext := by
  unfold State.takeAck
  cases a with
  | none => rfl
  | some q => dsimp only; split <;> rfl

/-- A sealed frame of class 0 later than the last one received does what it stands for. -/
theorem State.accept0_takes {s : State} {rx : BylRx} {type : Nat} {act : State → List Byte → State} {f : BylFrame}
    {p : List Byte} (h : (s.takeSealed rx type).2 = some (f, p))
    (hq : (s.takeSealed rx type).1.byl.lastSeq.all (fun q => decide (q < f.seq)) = true) :
    s.accept0 rx type act =
      act { (s.takeSealed rx type).1 with byl := { (s.takeSealed rx type).1.byl with lastSeq := some f.seq } } p := by
  have hm : (match (s.takeSealed rx type).1.byl.lastSeq with | some q => decide (q < f.seq) | none => true) = true := by
    revert hq
    cases (s.takeSealed rx type).1.byl.lastSeq with
    | none => exact fun _ => rfl
    | some q => exact id
  unfold State.accept0
  simp only [h]
  exact if_pos hm

/-- A frame that the chip awaits does what it stands for, and is acknowledged where nothing else is to be sent. -/
theorem State.accept_takes {s : State} {rx : BylRx} {type : Nat} {act : State → List Byte → State}
    (ha : s.awaits rx type = true) : s.accept rx type act =
      (act (s.accepted rx type) (s.framed rx type).2).ackOnly (typeClass type) (s.framed rx type).1.seq := by
  unfold State.awaits at ha
  unfold State.accept State.accepted State.framed
  cases e : (s.takeSealed rx type).2 with
  | none => rw [e] at ha; simp at ha
  | some fp =>
    obtain ⟨f, p⟩ := fp
    rw [e] at ha
    simp only [beq_iff_eq] at ha
    simp only [State.takeAck_rxNext, Option.getD_some]
    rw [if_pos ha]

end Sys2Proof.Machine
end

