-- ==== Sys2Proof/Laws/Memory.lean ====
section
/-!
SUPPORT. Every function that writes host memory keeps its canonical form, and so does every command; an operation that
is run again as its WHEN comes keeps the queue, and the clock does not go back.
-/

namespace Sys2Proof.Machine

theorem foldl_wf {α : Type} (g : State → α → State) (l : List α) (s : State) (h : Sp.wf s.hostMem = true)
    (hg : ∀ s x, Sp.wf s.hostMem = true → Sp.wf (g s x).hostMem = true) :
    Sp.wf (l.foldl g s).hostMem = true := by
  induction l generalizing s with
  | nil => exact h
  | cons x r ih => exact ih _ (hg s x h)

@[simp] theorem State.writeHost_memory (s : State) (a : Nat) (bs : List Byte) (h : Sp.wf s.hostMem = true) :
    Sp.wf (s.writeHost a bs).hostMem = true := State.writeHost_wf s a bs h


theorem State.runOpWith_memory (s : State) (r : Nat) (it : Item) (k : Checks) (w a : State → Item → State)
    (m : Sp.wf s.hostMem = true) (hw : ∀ s it, Sp.wf s.hostMem = true → Sp.wf (w s it).hostMem = true)
    (ha : ∀ s it, Sp.wf s.hostMem = true → Sp.wf (a s it).hostMem = true) :
    Sp.wf (s.runOpWith r it k w a).hostMem = true := by
  unfold State.runOpWith
  (repeat' split) <;> first | (simp [m]; done) | exact hw _ _ m | exact ha _ _ (by simp [m])

theorem State.runOp_memory (s : State) (r : Nat) (it : Item) (f : Item → Instr) (k : Checks) (a : State → Item → State)
    (m : Sp.wf s.hostMem = true) (ha : ∀ s it, Sp.wf s.hostMem = true → Sp.wf (a s it).hostMem = true) :
    Sp.wf (s.runOp r it f k a).hostMem = true :=
  State.runOpWith_memory s r it k _ a m (fun s it h => by simp [h]) ha

theorem State.tackOp_memory (s : State) (it : Item) (f : Item → Instr) (k : Checks) (a : State → Item → State)
    (m : Sp.wf s.hostMem = true) (ha : ∀ s it, Sp.wf s.hostMem = true → Sp.wf (a s it).hostMem = true) :
    Sp.wf (s.tackOp it f k a).hostMem = true := by
  simp only [State.tackOp]
  have h := State.runOp_memory s 12 it f k a m ha
  split <;> simp [h]

theorem State.access_memory (s : State) (rq : Requester) (x : Nat) (w : Bool) (a : State → State)
    (m : Sp.wf s.hostMem = true) (ha : ∀ s, Sp.wf s.hostMem = true → Sp.wf (a s).hostMem = true) :
    Sp.wf (s.access rq x w a).hostMem = true := by
  unfold State.access
  split
  · exact m
  · dsimp only
    generalize e : (if rq = 0 then { s with hif := { s.hif with linkUp := true } } else s) = s'
    have m' : Sp.wf s'.hostMem = true := by subst e; simp [m]
    (repeat' split) <;> first | (exact ha _ (by simp [m'])) | (simp [m']; done)

theorem State.readCellsOr_memory (s : State) (b : Option BadCell) (f : State → Nat × Nat → State) (a : State → State)
    (m : Sp.wf s.hostMem = true) (hf : ∀ s o, Sp.wf s.hostMem = true → Sp.wf (f s o).hostMem = true)
    (ha : ∀ s, Sp.wf s.hostMem = true → Sp.wf (a s).hostMem = true) : Sp.wf (s.readCellsOr b f a).hostMem = true := by
  unfold State.readCellsOr
  (repeat' split) <;> first | exact ha _ m | exact hf _ _ (by simp [m])

theorem State.readCells_memory (s : State) (it : Item) (b : Option BadCell) (a : State → State)
    (m : Sp.wf s.hostMem = true) (ha : ∀ s, Sp.wf s.hostMem = true → Sp.wf (a s).hostMem = true) :
    Sp.wf (s.readCells it b a).hostMem = true :=
  State.readCellsOr_memory s b _ a m (fun s o h => by simp [h]) ha

theorem State.under_memory (s : State) (l : Sp Word) (f : State → State) (m : Sp.wf s.hostMem = true)
    (hf : ∀ s, Sp.wf s.hostMem = true → Sp.wf (f s).hostMem = true) : Sp.wf (s.under l f).hostMem = true := by
  unfold State.under
  have h := hf (s.withLive l) (by simpa using m)
  simpa using h

theorem State.withLocks_memory (s : State) (w : Locker) (l : List Nat) (a : State → State) (m : Sp.wf s.hostMem = true)
    (ha : ∀ s, Sp.wf s.hostMem = true → Sp.wf (a s).hostMem = true) : Sp.wf (s.withLocks w l a).hostMem = true := by
  unfold State.withLocks
  dsimp only
  split
  · simpa using ha _ (by simpa using m)
  · simpa using m

@[simp] theorem State.writeFix_memory (s : State) (x1 : FixRec) (m : Sp.wf s.hostMem = true) :
    Sp.wf (s.writeFix x1).hostMem = true := by
  unfold State.writeFix
  try simp [m]
  all_goals (repeat' split) <;> simp [m]

@[simp] theorem State.finishSolve_memory (s : State) (x1 : Solving) (m : Sp.wf s.hostMem = true) :
    Sp.wf (s.finishSolve x1).hostMem = true := by
  unfold State.finishSolve
  try simp [m]
  all_goals (repeat' split) <;> simp [m]

@[simp] theorem State.afterUpdate_memory (s : State) (x1 : Solving) (x2 : Bool) (m : Sp.wf s.hostMem = true) :
    Sp.wf (s.afterUpdate x1 x2).hostMem = true := by
  unfold State.afterUpdate
  try simp [m]
  all_goals (repeat' split) <;> simp [m]

@[simp] theorem State.answerGuesses_memory (s : State) (x1 : Item) (x2 : PadGeom) (x3 : Shape) (x4 : List SweepReq)
    (m : Sp.wf s.hostMem = true) :
    Sp.wf (s.answerGuesses x1 x2 x3 x4).hostMem = true := by
  unfold State.answerGuesses
  try simp [m]
  all_goals (repeat' split) <;> simp [m]

@[simp] theorem State.applySearch_memory (s : State) (x1 : Solving) (x2 : Found) (m : Sp.wf s.hostMem = true) :
    Sp.wf (s.applySearch x1 x2).hostMem = true := by
  unfold State.applySearch
  try simp [m]
  all_goals (repeat' split) <;> simp [m]

@[simp] theorem State.zeroHost_memory (s : State) (x1 : Nat) (x2 : Nat) (m : Sp.wf s.hostMem = true) :
    Sp.wf (s.zeroHost x1 x2).hostMem = true := by
  unfold State.zeroHost
  try simp [m]
  all_goals (repeat' split) <;> simp [m]

@[simp] theorem State.failRewrap_memory (s : State) (m : Sp.wf s.hostMem = true) :
    Sp.wf (s.failRewrap).hostMem = true := by
  unfold State.failRewrap
  try simp [m]
  all_goals (repeat' split) <;> simp [m]

@[simp] theorem State.failHolder_memory (s : State) (x1 : Nat) (m : Sp.wf s.hostMem = true) :
    Sp.wf (s.failHolder x1).hostMem = true := by
  unfold State.failHolder
  try simp [m]
  all_goals (repeat' split) <;> simp [m]

@[simp] theorem State.failHolders_memory (s : State) (m : Sp.wf s.hostMem = true) :
    Sp.wf (s.failHolders).hostMem = true := by
  unfold State.failHolders
  exact foldl_wf _ _ _ (by simp [m]) (fun s x h => by simp [h])

@[simp] theorem State.awake_memory (s : State) (m : Sp.wf s.hostMem = true) :
    Sp.wf (s.awake).hostMem = true := by
  unfold State.awake
  try simp [m]
  all_goals (repeat' split) <;> simp [m]

@[simp] theorem State.beginReadout_memory (s : State) (x1 : Item) (x2 : Nat) (m : Sp.wf s.hostMem = true) :
    Sp.wf (s.beginReadout x1 x2).hostMem = true := by
  unfold State.beginReadout
  try simp [m]
  all_goals (repeat' split) <;> simp [m]

@[simp] theorem State.exportTile_memory (s : State) (x1 : LongOp) (x2 : Exporting) (x3 : PadGeom) (x4 : List Byte)
    (m : Sp.wf s.hostMem = true) :
    Sp.wf (s.exportTile x1 x2 x3 x4).hostMem = true := by
  unfold State.exportTile
  try simp [m]
  all_goals (repeat' split) <;> simp [m]

@[simp] theorem State.exportUnit_memory (s : State) (x1 : LongOp) (x2 : List Byte) (x3 : Option BadCell) (m : Sp.wf
    s.hostMem = true) :
    Sp.wf (s.exportUnit x1 x2 x3).hostMem = true := by
  unfold State.exportUnit
  split
  · exact State.withLocks_memory _ _ _ _ m (fun s m => State.readCellsOr_memory _ _ _ _ m (fun s o m => by simp [m]) (fun s m => by simp [m]))
  · exact m

@[simp] theorem State.writeLog_memory (s : State) (x1 : Nat) (x2 : LogState) (x3 : Item) (x4 : Nat) (x5 : Nat) (m :
    Sp.wf s.hostMem = true) :
    Sp.wf (s.writeLog x1 x2 x3 x4 x5).hostMem = true := by
  unfold State.writeLog
  try simp [m]
  all_goals (repeat' split) <;> simp [m]

@[simp] theorem State.logFetched_memory (s : State) (x1 : Nat) (x2 : List Item) (m : Sp.wf s.hostMem = true) :
    Sp.wf (s.logFetched x1 x2).hostMem = true := by
  unfold State.logFetched
  exact foldl_wf _ _ _ m (fun s x h => by (repeat' split) <;> simp [h])

@[simp] theorem State.fetchBatch_memory (s : State) (x1 : Nat) (x2 : List Desc) (m : Sp.wf s.hostMem = true) :
    Sp.wf (s.fetchBatch x1 x2).hostMem = true := by
  unfold State.fetchBatch
  try simp [m]
  all_goals (repeat' split) <;> simp [m]

@[simp] theorem State.writeEntry_memory (s : State) (x1 : Nat) (x2 : Fin_) (m : Sp.wf s.hostMem = true) :
    Sp.wf (s.writeEntry x1 x2).hostMem = true := by
  simp only [State.writeEntry]
  (repeat' split) <;> first | (simp [m]; done) | exact State.writeLog_memory _ _ _ _ _ _ (by simp [m])

@[simp] theorem State.writeCompletion_memory (s : State) (x1 : Nat) (x2 : Fin_) (m : Sp.wf s.hostMem = true) :
    Sp.wf (s.writeCompletion x1 x2).hostMem = true := by
  unfold State.writeCompletion
  try simp [m]
  all_goals (repeat' split) <;> simp [m]

@[simp] theorem State.flushRing_memory (s : State) (x1 : Nat) (x2 : Nat) (m : Sp.wf s.hostMem = true) :
    Sp.wf (s.flushRing x1 x2).hostMem = true := by
  induction x2 generalizing s with
  | zero => simp [State.flushRing, m]
  | succ k ih => unfold State.flushRing; (repeat' split) <;> first | exact m | exact ih _ (by simp [m])

@[simp] theorem State.leaveRun_memory (s : State) (x1 : Item) (m : Sp.wf s.hostMem = true) :
    Sp.wf (s.leaveRun x1).hostMem = true := by
  unfold State.leaveRun
  try simp [m]
  all_goals (repeat' split) <;> simp [m]

@[simp] theorem State.rewrapUnit_memory (s : State) (x1 : LongOp) (m : Sp.wf s.hostMem = true) :
    Sp.wf (s.rewrapUnit x1).hostMem = true := by
  unfold State.rewrapUnit
  try simp [m]
  all_goals (repeat' split) <;> simp [m]

@[simp] theorem State.readoutUnit_memory (s : State) (x1 : LongOp) (x2 : List Byte) (x3 : Bool) (m : Sp.wf s.hostMem
    = true) :
    Sp.wf (s.readoutUnit x1 x2 x3).hostMem = true := by
  unfold State.readoutUnit
  try simp [m]
  all_goals (repeat' split) <;> simp [m]

@[simp] theorem State.longUnit_memory (s : State) (x1 : LongOp) (x2 : LongUnit) (m : Sp.wf s.hostMem = true) :
    Sp.wf (s.longUnit x1 x2).hostMem = true := by
  unfold State.longUnit
  try simp [m]
  all_goals (repeat' split) <;> simp [m]

@[simp] theorem State.netDeliver_memory (s : State) (x1 : Nat) (x2 : Nat) (x3 : Nat) (x4 : List Byte) (x5 : Bool)
    (x6 : BitVec 64) (m : Sp.wf s.hostMem = true) :
    Sp.wf (s.netDeliver x1 x2 x3 x4 x5 x6).hostMem = true := by
  unfold State.netDeliver
  try simp [m]
  all_goals (repeat' split) <;> simp [m]

@[simp] theorem State.scanRecord_memory (s : State) (x1 : Nat) (x2 : LogRec) (m : Sp.wf s.hostMem = true) :
    Sp.wf (s.scanRecord x1 x2).hostMem = true := by
  unfold State.scanRecord
  try simp [m]
  all_goals (repeat' split) <;> simp [m]

@[simp] theorem State.recoverRing_memory (s : State) (x1 : Nat) (x2 : List LogRec) (m : Sp.wf s.hostMem = true) :
    Sp.wf (s.recoverRing x1 x2).hostMem = true := by
  have h := foldl_wf (fun (s : State) r => s.scanRecord x1 r) (logOrder x2) (s.setRing x1 { s.ringOf x1 with fin := (s.ringOf x1).fin.map (fun (f : Fin_) => if f.kind = .stale then { f with kind := .normal } else f) }) (by simpa using m) (fun s x h => by simp [h])
  simp only [State.recoverRing, State.wr_frame, State.setRing_frame]
  exact h

@[simp] theorem State.search_memory (s : State) (x1 : Solving) (x2 : List Attempt) (m : Sp.wf s.hostMem = true) :
    Sp.wf (s.search x1 x2).hostMem = true := by
  unfold State.search
  try simp [m]
  all_goals (repeat' split) <;> simp [m]

@[simp] theorem State.solve_memory (s : State) (x1 : Item) (x2 : ObsReport) (x3 : Option BaseItem) (x4 : FixSol) (m
    : Sp.wf s.hostMem = true) :
    Sp.wf (s.solve x1 x2 x3 x4).hostMem = true := by
  unfold State.solve
  extract_lets
  split
  · refine State.afterUpdate_memory _ _ _ ?_
    simp only [State.noteUpdate_frame]
    show Sp.wf ((s.countBy _ _).noteCn0 _ _ _).hostMem = true
    simpa only [State.noteCn0_frame, State.countBy_frame] using m
  · refine State.finishSolve_memory _ _ ?_
    show Sp.wf ((State.released ((s.countBy _ _).noteCn0 _ _ _) _).setFixCtx _ _).hostMem = true
    simpa only [State.setFixCtx_frame, State.released_frame, State.noteCn0_frame, State.countBy_frame] using m

theorem execWhatIf_memory (x0 : Nat) (x1 : Item) (x2 : List Byte) (x3 : Option BadCell) (s : State) {s' : State} (m
    : Sp.wf s.hostMem = true) :
    execWhatIf x0 x1 x2 x3 s = .next s' → Sp.wf s'.hostMem = true := by
  intro h
  simp only [execWhatIf] at h
  have h := Host.Outcome.next.inj h
  subst h
  apply State.runOp_memory _ _ _ _ _ _ (by simp [m])
  intro s it m
  split
  · exact State.readCells_memory _ _ _ _ m (fun s m => by simp [m])
  · simp [m]

theorem execTackGenerate_memory (x0 : Nat) (x1 : Item) (x2 : BitVec 512) (x3 : List Byte) (s : State) {s' : State}
    (m : Sp.wf s.hostMem = true) :
    execTackGenerate x0 x1 x2 x3 s = .next s' → Sp.wf s'.hostMem = true := by
  intro h
  simp only [execTackGenerate] at h
  (repeat' split at h) <;>
    (have h := Host.Outcome.next.inj h; subst h; first
      | (simp [m]; done)
      | (apply State.tackOp_memory _ _ _ _ _ (by simp [m]); intro s it m; (repeat' split) <;> simp [m])
      | (apply State.runOp_memory _ _ _ _ _ _ (by simp [m]); intro s it m; (repeat' split) <;> simp [m]))

theorem execTackExport_memory (x0 : Nat) (x1 : Item) (x2 : List Byte) (s : State) {s' : State} (m : Sp.wf s.hostMem
    = true) :
    execTackExport x0 x1 x2 s = .next s' → Sp.wf s'.hostMem = true := by
  intro h
  simp only [execTackExport] at h
  (repeat' split at h) <;>
    (have h := Host.Outcome.next.inj h; subst h; first
      | (simp [m]; done)
      | (apply State.tackOp_memory _ _ _ _ _ (by simp [m]); intro s it m; (repeat' split) <;> simp [m])
      | (apply State.runOp_memory _ _ _ _ _ _ (by simp [m]); intro s it m; (repeat' split) <;> simp [m]))

theorem execTackSign_memory (x0 : Nat) (x1 : Item) (x2 : List Byte) (s : State) {s' : State} (m : Sp.wf s.hostMem =
    true) :
    execTackSign x0 x1 x2 s = .next s' → Sp.wf s'.hostMem = true := by
  intro h
  simp only [execTackSign] at h
  (repeat' split at h) <;>
    (have h := Host.Outcome.next.inj h; subst h; first
      | (simp [m]; done)
      | (apply State.tackOp_memory _ _ _ _ _ (by simp [m]); intro s it m; (repeat' split) <;> simp [m])
      | (apply State.runOp_memory _ _ _ _ _ _ (by simp [m]); intro s it m; (repeat' split) <;> simp [m]))

theorem execTackRandom_memory (x0 : Nat) (x1 : Item) (x2 : List Byte) (s : State) {s' : State} (m : Sp.wf s.hostMem
    = true) :
    execTackRandom x0 x1 x2 s = .next s' → Sp.wf s'.hostMem = true := by
  intro h
  simp only [execTackRandom] at h
  (repeat' split at h) <;>
    (have h := Host.Outcome.next.inj h; subst h; first
      | (simp [m]; done)
      | (apply State.tackOp_memory _ _ _ _ _ (by simp [m]); intro s it m; (repeat' split) <;> simp [m])
      | (apply State.runOp_memory _ _ _ _ _ _ (by simp [m]); intro s it m; (repeat' split) <;> simp [m]))

theorem execTackPubkey_memory (x0 : Nat) (x1 : Item) (x2 : List Byte) (s : State) {s' : State} (m : Sp.wf s.hostMem
    = true) :
    execTackPubkey x0 x1 x2 s = .next s' → Sp.wf s'.hostMem = true := by
  intro h
  simp only [execTackPubkey] at h
  (repeat' split at h) <;>
    (have h := Host.Outcome.next.inj h; subst h; first
      | (simp [m]; done)
      | (apply State.tackOp_memory _ _ _ _ _ (by simp [m]); intro s it m; (repeat' split) <;> simp [m])
      | (apply State.runOp_memory _ _ _ _ _ _ (by simp [m]); intro s it m; (repeat' split) <;> simp [m]))

theorem execTackAttest_memory (x0 : Nat) (x1 : Item) (x2 : BitVec 384) (x3 : List Byte) (s : State) {s' : State} (m
    : Sp.wf s.hostMem = true) :
    execTackAttest x0 x1 x2 x3 s = .next s' → Sp.wf s'.hostMem = true := by
  intro h
  simp only [execTackAttest] at h
  (repeat' split at h) <;>
    (have h := Host.Outcome.next.inj h; subst h; first
      | (simp [m]; done)
      | (apply State.tackOp_memory _ _ _ _ _ (by simp [m]); intro s it m; (repeat' split) <;> simp [m])
      | (apply State.runOp_memory _ _ _ _ _ _ (by simp [m]); intro s it m; (repeat' split) <;> simp [m]))

@[simp] theorem State.zeroise_memory (s : State) (x1 : Nat) (m : Sp.wf s.hostMem = true) :
    Sp.wf (s.zeroise x1).hostMem = true := by
  unfold State.zeroise
  try simp [m]
  all_goals (repeat' split) <;> simp [m]

@[simp] theorem State.zeroised_memory (s : State) (x1 : Nat) (m : Sp.wf s.hostMem = true) :
    Sp.wf (s.zeroised x1).hostMem = true := by
  unfold State.zeroised
  try simp [m]
  all_goals (repeat' split) <;> simp [m]

theorem execTackZeroise_memory (x0 : Nat) (x1 : Item) (s : State) {s' : State} (m : Sp.wf s.hostMem = true) :
    execTackZeroise x0 x1 s = .next s' → Sp.wf s'.hostMem = true := by
  intro h
  simp only [execTackZeroise] at h
  (repeat' split at h) <;>
    (have h := Host.Outcome.next.inj h; subst h; first
      | (simp [m]; done)
      | (apply State.tackOp_memory _ _ _ _ _ (by simp [m]); intro s it m; (repeat' split) <;> simp [m])
      | (apply State.runOp_memory _ _ _ _ _ _ (by simp [m]); intro s it m; (repeat' split) <;> simp [m]))

theorem execRecReadout_memory (x0 : Nat) (x1 : Item) (x2 : BitVec 64) (s : State) {s' : State} (m : Sp.wf s.hostMem
    = true) :
    execRecReadout x0 x1 x2 s = .next s' → Sp.wf s'.hostMem = true := by
  intro h
  simp only [execRecReadout] at h
  (repeat' split at h) <;>
    (have h := Host.Outcome.next.inj h; subst h; first
      | (simp [m]; done)
      | (apply State.tackOp_memory _ _ _ _ _ (by simp [m]); intro s it m; (repeat' split) <;> simp [m])
      | (apply State.runOp_memory _ _ _ _ _ _ (by simp [m]); intro s it m; (repeat' split) <;> simp [m]))

theorem execStableEnter_memory (x0 : Nat) (x1 : Item) (s : State) {s' : State} (m : Sp.wf s.hostMem = true) :
    execStableEnter x0 x1 s = .next s' → Sp.wf s'.hostMem = true := by
  intro h
  simp only [execStableEnter] at h
  have h := Host.Outcome.next.inj h
  subst h
  exact State.runOp_memory _ _ _ _ _ _ (by simp [m]) (fun s it m => by simp [m])

@[simp] theorem State.writeRingCtl_memory (s : State) (x1 : Nat) (x2 : Word) (x3 : List LogRec) (m : Sp.wf s.hostMem
    = true) :
    Sp.wf (s.writeRingCtl x1 x2 x3).hostMem = true := by
  unfold State.writeRingCtl
  try simp [m]
  all_goals (repeat' split) <;> simp [m]

theorem execRingEnable_memory (x0 : Nat) (x1 : Requester) (x2 : Fin 64) (x3 : Word) (x4 : List LogRec) (s : State)
    {s' : State} (m : Sp.wf s.hostMem = true) :
    execRingEnable x0 x1 x2 x3 x4 s = .next s' → Sp.wf s'.hostMem = true := by
  intro h
  simp only [execRingEnable] at h
  have h := Host.Outcome.next.inj h
  subst h
  exact State.access_memory _ _ _ _ _ (by simp [m]) (fun s m => by simp [m])

theorem execStaleCompletionWrite_memory (x0 : Nat) (x1 : Fin 64) (s : State) {s' : State} (m : Sp.wf s.hostMem =
    true) :
    execStaleCompletionWrite x0 x1 s = .next s' → Sp.wf s'.hostMem = true := by
  intro h
  simp only [execStaleCompletionWrite] at h
  (repeat' split at h) <;> (have h := Host.Outcome.next.inj h; subst h; simp [m])

theorem execDescriptorFetch_memory (x0 : Nat) (x1 : Fin 64) (x2 : List (List Byte)) (s : State) {s' : State} (m :
    Sp.wf s.hostMem = true) :
    execDescriptorFetch x0 x1 x2 s = .next s' → Sp.wf s'.hostMem = true := by
  intro h
  simp only [execDescriptorFetch] at h
  (repeat' split at h) <;> (have h := Host.Outcome.next.inj h; subst h; simp [m])

theorem execCompletionWrite_memory (x0 : Nat) (x1 : Fin 64) (s : State) {s' : State} (m : Sp.wf s.hostMem = true) :
    execCompletionWrite x0 x1 s = .next s' → Sp.wf s'.hostMem = true := by
  intro h
  simp only [execCompletionWrite] at h
  (repeat' split at h) <;> (have h := Host.Outcome.next.inj h; subst h; simp [m])

theorem execLongOpSafePoint_memory (x0 : Nat) (x1 : Fin 65) (x2 : BitVec 16) (x3 : LongUnit) (s : State) {s' :
    State} (m : Sp.wf s.hostMem = true) :
    execLongOpSafePoint x0 x1 x2 x3 s = .next s' → Sp.wf s'.hostMem = true := by
  intro h
  simp only [execLongOpSafePoint] at h
  (repeat' split at h) <;> (have h := Host.Outcome.next.inj h; subst h)
  · simp [m]
  · simp [m]
  · have k := State.under_memory (s.to x0) (LongOp.live ‹_›) _ (by simp [m]) (fun s m => State.longUnit_memory s ‹_› x3 m)
    simp [k]

theorem execFixSolve_memory (x0 : Nat) (x1 : Nat) (x2 : FixSol) (s : State) {s' : State} (m : Sp.wf s.hostMem =
    true) :
    execFixSolve x0 x1 x2 s = .next s' → Sp.wf s'.hostMem = true := by
  intro h
  simp only [execFixSolve] at h
  (repeat' split at h) <;> (have h := Host.Outcome.next.inj h; subst h; simp [m])

theorem execAmbiguitySearch_memory (x0 : Nat) (x1 : BitVec 8) (x2 : List Attempt) (s : State) {s' : State} (m :
    Sp.wf s.hostMem = true) :
    execAmbiguitySearch x0 x1 x2 s = .next s' → Sp.wf s'.hostMem = true := by
  intro h
  simp only [execAmbiguitySearch] at h
  (repeat' split at h) <;> (have h := Host.Outcome.next.inj h; subst h)
  · simp [m]
  · simp [m]
  · exact State.under_memory _ _ _ (by simp [m]) (fun s m => by simp [m])

theorem execSearchWaitExpiry_memory (x0 : Nat) (x1 : BitVec 8) (s : State) {s' : State} (m : Sp.wf s.hostMem = true) :
    execSearchWaitExpiry x0 x1 s = .next s' → Sp.wf s'.hostMem = true := by
  intro h
  simp only [execSearchWaitExpiry] at h
  split at h <;> (have h := Host.Outcome.next.inj h; subst h)
  · simp [m]
  · refine State.under_memory _ _ _ (by simp [m]) (fun s m => ?_)
    (try dsimp only)
    split <;> simp [m]

theorem execNetFrameRx_memory (x0 : Nat) (x1 : Fin 2) (x2 : List Byte) (x3 : Bool) (x4 : Bool) (x5 : BitVec 64) (x6
    : Nat) (s : State) {s' : State} (m : Sp.wf s.hostMem = true) :
    execNetFrameRx x0 x1 x2 x3 x4 x5 x6 s = .next s' → Sp.wf s'.hostMem = true := by
  intro h
  simp only [execNetFrameRx] at h
  (repeat' split at h) <;> (have h := Host.Outcome.next.inj h; subst h; simp [m])

theorem execTamperDetect_memory (x0 : Nat) (x1 : TamperSeen) (s : State) {s' : State} (m : Sp.wf s.hostMem = true) :
    execTamperDetect x0 x1 s = .next s' → Sp.wf s'.hostMem = true := by
  intro h
  simp only [execTamperDetect] at h
  (repeat' split at h) <;> (have h := Host.Outcome.next.inj h; subst h; simp [m])

theorem execWakeDone_memory (x0 : Nat) (s : State) {s' : State} (m : Sp.wf s.hostMem = true) :
    execWakeDone x0 s = .next s' → Sp.wf s'.hostMem = true := by
  intro h
  simp only [execWakeDone] at h
  (repeat' split at h) <;> (have h := Host.Outcome.next.inj h; subst h; simp [m])

/-! ### Operations run again as their WHEN comes -/

/-- The queue is as before, and the clock does not go back. -/
def Onward (s r : State) : Prop := s.cyc ≤ r.cyc ∧ r.pending = s.pending

theorem Onward.refl (s : State) : Onward s s := ⟨Nat.le_refl _, rfl⟩

theorem Onward.trans {s r t : State} (h : Onward s r) (k : Onward r t) : Onward s t :=
  ⟨Nat.le_trans h.1 k.1, k.2.trans h.2⟩

theorem Onward.of_frame {s r : State} {n : Nat} (c : r.cyc = s.cyc + (n - s.cyc)) (p : r.pending = s.pending) :
    Onward s r := ⟨by omega, p⟩

theorem foldl_onward {α : Type} (g : State → α → State) (l : List α) (s : State) (h : ∀ s x, Onward s (g s x)) :
    Onward s (l.foldl g s) := by
  induction l generalizing s with
  | nil => exact Onward.refl s
  | cons x r ih => exact (h s x).trans (ih _)

theorem runItem_onward (i : Instr) (s : State) {s' : State} (h : runItem i s = .next s') : Onward s s' := by
  unfold runItem at h
  split at h
  · have h := execHifNop_frame _ _ _ h; exact Onward.of_frame h.1 h.2.1
  · have h := execHifSuspend_frame _ _ _ h; exact Onward.of_frame h.1 h.2.1
  · have h := execHifResume_frame _ _ _ h; exact Onward.of_frame h.1 h.2.1
  · have h := execHifCancel_frame _ _ _ h; exact Onward.of_frame h.1 h.2.1
  · have h := execQueryOp_frame _ _ _ h; exact Onward.of_frame h.1 h.2.1
  · have h := execSchedLoad_frame _ _ _ _ h; exact Onward.of_frame h.1 h.2.1
  · have h := execSessionAccept_frame _ _ _ _ h; exact Onward.of_frame h.1 h.2.1
  · have h := execSessionRefuse_frame _ _ _ h; exact Onward.of_frame h.1 h.2.1
  · have h := execSessionLeave_frame _ _ _ h; exact Onward.of_frame h.1 h.2.1
  · have h := execSessionSleep_frame _ _ _ h; exact Onward.of_frame h.1 h.2.1
  · have h := execSessionWake_frame _ _ _ h; exact Onward.of_frame h.1 h.2.1
  · have h := execSetRoute_frame _ _ _ h; exact Onward.of_frame h.1 h.2.1
  · have h := execSetJoinKey_frame _ _ _ h; exact Onward.of_frame h.1 h.2.1
  · have h := execCompatInject_frame _ _ _ _ _ h; exact Onward.of_frame h.1 h.2.1
  · have h := execSetBeaconKey_frame _ _ _ h; exact Onward.of_frame h.1 h.2.1
  · have h := execReinit_frame _ _ _ _ h; exact Onward.of_frame h.1 h.2.1
  · have h := execResetCtx_frame _ _ _ h; exact Onward.of_frame h.1 h.2.1
  · have h := execReadCtx_frame _ _ _ h; exact Onward.of_frame h.1 h.2.1
  · have h := execSetTrack_frame _ _ _ _ h; exact Onward.of_frame h.1 h.2.1
  · have h := execSetLimits_frame _ _ _ h; exact Onward.of_frame h.1 h.2.1
  · have h := execGaitRetarget_frame _ _ _ h; exact Onward.of_frame h.1 h.2.1
  · have h := execDatumRun_frame _ _ _ h; exact Onward.of_frame h.1 h.2.1
  · have h := execPadCommit_frame _ _ _ _ h; exact Onward.of_frame h.1 h.2.1
  · have h := execWhatIf_frame _ _ _ _ _ h; exact Onward.of_frame h.1 h.2.1
  · have h := execPadRelease_frame _ _ _ _ h; exact Onward.of_frame h.1 h.2.1
  · have h := execSetShape_frame _ _ _ _ h; exact Onward.of_frame h.1 h.2.1
  · have h := execMapImport_frame _ _ _ _ _ h; exact Onward.of_frame h.1 h.2.1
  · have h := execMapExport_frame _ _ _ h; exact Onward.of_frame h.1 h.2.1
  · have h := execSetHold_frame _ _ _ _ h; exact Onward.of_frame h.1 h.2.1
  · have h := execReadCell_frame _ _ _ _ h; exact Onward.of_frame h.1 h.2.1
  · have h := execSetRef_frame _ _ _ h; exact Onward.of_frame h.1 h.2.1
  · have h := execSelfSurvey_frame _ _ _ h; exact Onward.of_frame h.1 h.2.1
  · have h := execCueSet_frame _ _ _ _ h; exact Onward.of_frame h.1 h.2.1
  · have h := execSetTime_frame _ _ _ h; exact Onward.of_frame h.1 h.2.1
  · have h := execPtpSample_frame _ _ _ h; exact Onward.of_frame h.1 h.2.1
  · have h := execFleetStop_frame _ _ _ h; exact Onward.of_frame h.1 h.2.1
  · have h := execFleetResume_frame _ _ _ h; exact Onward.of_frame h.1 h.2.1
  · have h := execNetTx_frame _ _ _ _ h; exact Onward.of_frame h.1 h.2.1
  · have h := execNetRx_frame _ _ _ h; exact Onward.of_frame h.1 h.2.1
  · have h := execMdio_frame _ _ _ _ h; exact Onward.of_frame h.1 h.2.1
  · have h := execTackLoad_frame _ _ _ _ _ h; exact Onward.of_frame h.1 h.2.1
  · have h := execTackGenerate_frame _ _ _ _ _ h; exact Onward.of_frame h.1 h.2.1
  · have h := execTackDerive_frame _ _ _ _ h; exact Onward.of_frame h.1 h.2.1
  · have h := execTackExport_frame _ _ _ _ h; exact Onward.of_frame h.1 h.2.1
  · have h := execTackUnload_frame _ _ _ h; exact Onward.of_frame h.1 h.2.1
  · have h := execTackRevoke_frame _ _ _ h; exact Onward.of_frame h.1 h.2.1
  · have h := execTackImport_frame _ _ _ _ h; exact Onward.of_frame h.1 h.2.1
  · have h := execTackSign_frame _ _ _ _ h; exact Onward.of_frame h.1 h.2.1
  · have h := execTackMac_frame _ _ _ _ h; exact Onward.of_frame h.1 h.2.1
  · have h := execTackRandom_frame _ _ _ _ h; exact Onward.of_frame h.1 h.2.1
  · have h := execTackPubkey_frame _ _ _ _ h; exact Onward.of_frame h.1 h.2.1
  · have h := execTackAttest_frame _ _ _ _ _ h; exact Onward.of_frame h.1 h.2.1
  · have h := execEpochAdvance_frame _ _ _ h; exact Onward.of_frame h.1 h.2.1
  · have h := execTackRewrap_frame _ _ _ _ _ h; exact Onward.of_frame h.1 h.2.1
  · have h := execTackZeroise_frame _ _ _ h; exact Onward.of_frame h.1 h.2.1
  · have h := execTamperClear_frame _ _ _ h; exact Onward.of_frame h.1 h.2.1
  · have h := execRecArm_frame _ _ _ h; exact Onward.of_frame h.1 h.2.1
  · have h := execRecFire_frame _ _ _ h; exact Onward.of_frame h.1 h.2.1
  · have h := execRecDisarm_frame _ _ _ h; exact Onward.of_frame h.1 h.2.1
  · have h := execRecReadout_frame _ _ _ _ h; exact Onward.of_frame h.1 h.2.1
  · have h := execRecDiscard_frame _ _ _ h; exact Onward.of_frame h.1 h.2.1
  · have h := execStableEnter_frame _ _ _ h; exact Onward.of_frame h.1 h.2.1
  · have h := execImgWrite_frame _ _ _ _ h; exact Onward.of_frame h.1 h.2.1
  · have h := execImgActivate_frame _ _ _ h; exact Onward.of_frame h.1 h.2.1
  · have h := execImgConfirm_frame _ _ _ h; exact Onward.of_frame h.1 h.2.1
  · have h := execOtpProgram_frame _ _ _ _ h; exact Onward.of_frame h.1 h.2.1
  · have h := execDebugUnlock_frame _ _ _ _ h; exact Onward.of_frame h.1 h.2.1
  · have h := execPairHandover_frame _ _ _ h; exact Onward.of_frame h.1 h.2.1
  · have h := Host.Outcome.next.inj h; subst h; exact Onward.refl s

theorem runItem_memory (i : Instr) (s : State) {s' : State} (m : Sp.wf s.hostMem = true) (h : runItem i s = .next s') :
    Sp.wf s'.hostMem = true := by
  unfold runItem at h
  split at h
  · have h := execHifNop_frame _ _ _ h; simp [h, m]
  · have h := execHifSuspend_frame _ _ _ h; simp [h, m]
  · have h := execHifResume_frame _ _ _ h; simp [h, m]
  · have h := execHifCancel_frame _ _ _ h; simp [h, m]
  · have h := execQueryOp_frame _ _ _ h; simp [h, m]
  · have h := execSchedLoad_frame _ _ _ _ h; simp [h, m]
  · have h := execSessionAccept_frame _ _ _ _ h; simp [h, m]
  · have h := execSessionRefuse_frame _ _ _ h; simp [h, m]
  · have h := execSessionLeave_frame _ _ _ h; simp [h, m]
  · have h := execSessionSleep_frame _ _ _ h; simp [h, m]
  · have h := execSessionWake_frame _ _ _ h; simp [h, m]
  · have h := execSetRoute_frame _ _ _ h; simp [h, m]
  · have h := execSetJoinKey_frame _ _ _ h; simp [h, m]
  · have h := execCompatInject_frame _ _ _ _ _ h; simp [h, m]
  · have h := execSetBeaconKey_frame _ _ _ h; simp [h, m]
  · have h := execReinit_frame _ _ _ _ h; simp [h, m]
  · have h := execResetCtx_frame _ _ _ h; simp [h, m]
  · have h := execReadCtx_frame _ _ _ h; simp [h, m]
  · have h := execSetTrack_frame _ _ _ _ h; simp [h, m]
  · have h := execSetLimits_frame _ _ _ h; simp [h, m]
  · have h := execGaitRetarget_frame _ _ _ h; simp [h, m]
  · have h := execDatumRun_frame _ _ _ h; simp [h, m]
  · have h := execPadCommit_frame _ _ _ _ h; simp [h, m]
  · exact execWhatIf_memory _ _ _ _ _ m h
  · have h := execPadRelease_frame _ _ _ _ h; simp [h, m]
  · have h := execSetShape_frame _ _ _ _ h; simp [h, m]
  · have h := execMapImport_frame _ _ _ _ _ h; simp [h, m]
  · have h := execMapExport_frame _ _ _ h; simp [h, m]
  · have h := execSetHold_frame _ _ _ _ h; simp [h, m]
  · have h := execReadCell_frame _ _ _ _ h; simp [h, m]
  · have h := execSetRef_frame _ _ _ h; simp [h, m]
  · have h := execSelfSurvey_frame _ _ _ h; simp [h, m]
  · have h := execCueSet_frame _ _ _ _ h; simp [h, m]
  · have h := execSetTime_frame _ _ _ h; simp [h, m]
  · have h := execPtpSample_frame _ _ _ h; simp [h, m]
  · have h := execFleetStop_frame _ _ _ h; simp [h, m]
  · have h := execFleetResume_frame _ _ _ h; simp [h, m]
  · have h := execNetTx_frame _ _ _ _ h; simp [h, m]
  · have h := execNetRx_frame _ _ _ h; simp [h, m]
  · have h := execMdio_frame _ _ _ _ h; simp [h, m]
  · have h := execTackLoad_frame _ _ _ _ _ h; simp [h, m]
  · exact execTackGenerate_memory _ _ _ _ _ m h
  · have h := execTackDerive_frame _ _ _ _ h; simp [h, m]
  · exact execTackExport_memory _ _ _ _ m h
  · have h := execTackUnload_frame _ _ _ h; simp [h, m]
  · have h := execTackRevoke_frame _ _ _ h; simp [h, m]
  · have h := execTackImport_frame _ _ _ _ h; simp [h, m]
  · exact execTackSign_memory _ _ _ _ m h
  · have h := execTackMac_frame _ _ _ _ h; simp [h, m]
  · exact execTackRandom_memory _ _ _ _ m h
  · exact execTackPubkey_memory _ _ _ _ m h
  · exact execTackAttest_memory _ _ _ _ _ m h
  · have h := execEpochAdvance_frame _ _ _ h; simp [h, m]
  · have h := execTackRewrap_frame _ _ _ _ _ h; simp [h, m]
  · exact execTackZeroise_memory _ _ _ m h
  · have h := execTamperClear_frame _ _ _ h; simp [h, m]
  · have h := execRecArm_frame _ _ _ h; simp [h, m]
  · have h := execRecFire_frame _ _ _ h; simp [h, m]
  · have h := execRecDisarm_frame _ _ _ h; simp [h, m]
  · exact execRecReadout_memory _ _ _ _ m h
  · have h := execRecDiscard_frame _ _ _ h; simp [h, m]
  · exact execStableEnter_memory _ _ _ m h
  · have h := execImgWrite_frame _ _ _ _ h; simp [h, m]
  · have h := execImgActivate_frame _ _ _ h; simp [h, m]
  · have h := execImgConfirm_frame _ _ _ h; simp [h, m]
  · have h := execOtpProgram_frame _ _ _ _ h; simp [h, m]
  · have h := execDebugUnlock_frame _ _ _ _ h; simp [h, m]
  · have h := execPairHandover_frame _ _ _ h; simp [h, m]
  · have h := Host.Outcome.next.inj h; subst h; exact m

theorem State.wakeItem_onward (s : State) (c : Instr) (w : Wait) : Onward s (s.wakeItem c w) := by
  unfold State.wakeItem
  split
  · exact Onward.refl s
  · split
    · rename_i h; exact runItem_onward _ _ h
    · exact Onward.refl s

theorem State.wakeItem_memory (s : State) (c : Instr) (w : Wait) (m : Sp.wf s.hostMem = true) :
    Sp.wf (s.wakeItem c w).hostMem = true := by
  unfold State.wakeItem
  split
  · exact m
  · split
    · rename_i h; exact runItem_memory _ _ m h
    · exact m

theorem State.stepWaiting_onward (s : State) (old : Nat) : Onward s (s.stepWaiting old) := by
  unfold State.stepWaiting
  refine foldl_onward _ _ _ (fun s c => ?_)
  split
  · exact State.wakeItem_onward _ _ _
  · exact Onward.refl s

theorem State.stepWaiting_memory (s : State) (old : Nat) (m : Sp.wf s.hostMem = true) :
    Sp.wf (s.stepWaiting old).hostMem = true := by
  unfold State.stepWaiting
  refine foldl_wf _ _ _ m (fun s c m => ?_)
  split
  · exact State.wakeItem_memory _ _ _ m
  · exact m

end Sys2Proof.Machine
end

