-- ==== Sys2Proof/Tests/Slice0.lean ====
section
/-!
SUPPORT. States that the tests share, a witness of the hypotheses of every statement (`wit_<statement>_<clause>`), terms
that each well-formedness check refuses, and single steps whose results the spec states.
-/

namespace Sys2Proof.Tests

open Sys2Proof Sys2Proof.Machine

set_option maxRecDepth 8000
set_option linter.unusedVariables false
set_option Elab.async false

/-- A machine whose regions all run. -/
def up : State := (List.range 15).foldl (fun (s : State) i => s.setRgnState (i + 1) rsRun) (State.reset.set B.CHIP_BOOT_STS_PHASE 5)

/-- A compatibility table that pairs major epoch 1 with major epoch 1. -/
def pairs : List Byte :=
  [0x44, 0x5A, 0x43, 0x54] ++ leBytes 2 1 ++ leBytes 2 1 ++ leBytes 2 1 ++ leBytes 2 0 ++ leBytes 2 9 ++ leBytes 2 1 ++ leBytes 2 0
    ++ leBytes 2 9 ++ leBytes 4 0

/-- A signature block of key 0 that verifies. -/
def signed0 : SigBlock := ⟨[0x44, 0x5A, 0x53, 0x47] ++ leBytes 2 1 ++ leBytes 10 0, 0, true, true⟩

/-- An image header (Tables BOOT-5, RGN-3) whose offsets are `p`, `c` and the signature's, `c` + 24. -/
def imgHeader (bundle : Bool) (tables params p c : Nat) : List Byte :=
  [0x44, 0x5A, if bundle then 0x47 else 0x46, if bundle then 0x42 else 0x57] ++ leBytes 2 0x100 ++ leBytes 2 1 ++ leBytes 2 0
    ++ leBytes 2 1 ++ leBytes 4 1 ++ leBytes 4 0 ++ leBytes 4 0x0D284000 ++ leBytes 1 0 ++ leBytes 1 tables ++ leBytes 2 params
    ++ leBytes 4 (c + 24 + 5488) ++ leBytes 48 0 ++ leBytes 4 0x100 ++ leBytes 4 p ++ leBytes 4 c ++ leBytes 4 (c + 24)
    ++ leBytes 160 0

/-- A firmware image that passes every check. -/
def fwImg : Image := ⟨imgHeader false 0 0 0 0x100, 0, signed0, pairs, [], [], [], [], []⟩

/-- A gait table of 64 zero bytes for region 1. -/
def tableDir : List Byte :=
  leBytes 1 1 ++ leBytes 1 0 ++ leBytes 2 1 ++ leBytes 4 0 ++ leBytes 4 64 ++ leBytes 2 1 ++ leBytes 2 1
    ++ leBytes 4 (crc32c (leBytes 64 0)).toNat ++ leBytes 4 0

/-- A bundle with that table and the parameter blocks of a directory. -/
def gbImg (n : Nat) (pdir : List Byte) (defaults : List (List Byte)) : Image :=
  ⟨imgHeader true 1 n 0x118 (0x118 + 16 * n), 0, signed0, pairs, tableDir, [leBytes 64 0], pdir, defaults, []⟩

/-- A part as fitted: one signing key, a ROM table that pairs the images, a channel of DRAM, a PUF that reconstructs. -/
def part : Part := ⟨0, { Otp.blank with keys := [(0, 0)] }, [⟨1, 0, 9, 1, 0, 9, false⟩], none, [4], true⟩

/-- An item of the chip's own. -/
def item (op : BitVec 16) (ctx : BitVec 8) (flow : BitVec 10) : Item :=
  ⟨7, .internal, none, { Desc.zero with opcode := op, context := ctx, flow := flow }, false, .fresh⟩

/-- A machine that waits for its images in HOST_WAIT. -/
def hostWaiting : State := { State.reset.hostWait with chip := { ChipRt.reset with part := part } }

/-- A bundle with a parameter block of GNB: ELEV_MASK, which software may write. -/
def gb5 : Image :=
  gbImg 1 (leBytes 2 1 ++ leBytes 1 5 ++ leBytes 1 1 ++ leBytes 4 0x80000 ++ leBytes 4 4 ++ leBytes 4 0) [leBytes 4 10]

/-- A machine whose ring 0 runs with 16 entries a side. -/
def ringUp : State := ((up.set (B.HIF_RING_CFG_SQ_LOG2 0) 4).set (B.HIF_RING_CFG_CQ_LOG2 0) 4).setFlag (B.HIF_RING_CTL_ENABLE 0) true

/-- Queue 100 enabled, a word queue of 16 words. -/
def queueUp : State := ((up.set (B.MQF_Q_CFG_BANK_LOG2 100) 4).setFlag (B.MQF_Q_CFG_MODE 100) false).setFlag (B.MQF_Q_CFG_ENABLE 100) true

/-- Merge queue 3 enabled, with a closed packet of region 5. -/
def mergeUp : State :=
  let s := ((up.set (B.MQF_Q_CFG_BANK_LOG2 3) 6).setFlag (B.MQF_Q_CFG_MODE 3) true).set (B.MQF_Q_CFG_MAX_PKT 3) 4
  let s := s.setFlag (B.MQF_Q_CFG_ENABLE 3) true
  { s with mqf := { s.mqf with staging := [(53, ⟨0, 0, [1], [], none⟩)] } }

/-- An OBS item of flow 0, for which no reserve stands. -/
def obsIt : Item := ⟨9, .airHead 0, some .allot, Desc.zero, true, .fresh⟩

/-- A dispatcher whose shared pool is full, an OBS item at the port of head 0. -/
def fullPool : State :=
  let s := up.toPort 64 obsIt
  { s with dsp := { s.dsp with entries := List.replicate 14344 ⟨item 0x7002 0 256, 256, false, .waiting .pad 0⟩ } }

/-- A schedule entry of context 5. -/
def entry (ty : SpanType) (c : BitVec 8) (cont : Bool) : SchedEntry := ⟨ty, cont, false, c, 0, 0⟩

/-- The entries of context 5's spans: DOWNLINK, BULK, UPLINK, SLEEPER. -/
def downE : SchedEntry := entry .downlink 5 false

/-- Its downlink BULK entry. -/
def bulkE : SchedEntry := entry .bulk 5 false

/-- AIR counting superframes under a schedule with spans of context 5 on head 0; the link of head 1 is up. -/
def airUp : State :=
  let x : Schedule := ⟨1, [⟨0, 0, 1, [entry .beacon 0 false, downE, entry .downlink 5 true, bulkE, entry .bulk 5 true,
    entry .uplink 5 false, entry .sleeper 5 false, entry .relay 5 false]⟩]⟩
  let s := (up.set (B.AIR_HEAD_STS_LINK 1) 2).setFlag (B.AIR_HEAD_CTL_ENABLE 0) true
  { s with ctr := 600000 * 2 ^ 40, air := { s.air with counting := true, sched := some x } }

/-- A key slot 1 that may be used for anything, the join key of context 5 and the beacon key. -/
def keyed (s : State) : State :=
  let s := { s with tack := { s.tack with slots :=
    [(1, ⟨⟨0, 4, 32, 0xFFFF, 0x3F, 77, 0, 0, 0, 0, false, false⟩, 0, false, false⟩)] } }
  (s.wr (Reg.AIR_CTX_JOINKEY 5) 0x201).wr Reg.AIR_BEACON_KEY 0x201

/-- Context 5 joined, with a live K in slot 1. -/
def airJoined : State :=
  let s := keyed (airUp.set (B.AIR_CTX_STS_STATE 5) ctxAwake)
  { s with air := { s.air with ctx := [(5, { AirCtx.reset with key := some ⟨1, 77, 0, 0, 0, 0⟩ })] } }

/-- A packet of 1,301 bytes reads back as it was built, whatever it carries. -/
theorem long_packet (pl : List Byte) (h : pl.length = 1301) :
    Packet8b.ofBytes (⟨0x81, 0, 0, pl⟩ : Packet8b).bytes = some ⟨0x81, 0, 0, pl⟩ := by
  generalize hc : crc32c (0x81#8 :: 0#8 :: 21#8 :: 5#8 :: 0#8 :: 0#8 :: 0#8 :: 0#8 :: pl) = c
  have hb : (⟨0x81, 0, 0, pl⟩ : Packet8b).bytes
      = 0x81#8 :: 0#8 :: 21#8 :: 5#8 :: 0#8 :: 0#8 :: 0#8 :: 0#8 :: (pl ++ leBytes 4 c.toNat) := by
    rw [← hc]; simp only [Packet8b.bytes, h]; rfl
  have hl : (leBytes 4 c.toNat).length = 4 := rfl
  have hn : leNat (leBytes 4 c.toNat) = c.toNat := by
    have := c.isLt
    simp [leNat, leBytes]; omega
  have h1 : (pl ++ leBytes 4 c.toNat).take 1301 = pl := by rw [← h]; exact List.take_left' rfl
  have h2 : (pl ++ leBytes 4 c.toNat).drop 1301 = leBytes 4 c.toNat := by rw [← h]; exact List.drop_left' rfl
  have h3 : leAt (0x81#8 :: 0#8 :: 21#8 :: 5#8 :: 0#8 :: 0#8 :: 0#8 :: 0#8 :: (pl ++ leBytes 4 c.toNat)) 1309 4 = c.toNat := by
    show leNat (((pl ++ leBytes 4 c.toNat).drop 1301).take 4) = _
    rw [h2]; exact hn
  have h4 : leAt (0x81#8 :: 0#8 :: 21#8 :: 5#8 :: 0#8 :: 0#8 :: 0#8 :: 0#8 :: (pl ++ leBytes 4 c.toNat)) 2 2 = 1301 := rfl
  rw [hb, Packet8b.ofBytes]
  simp only [h4]
  rw [if_pos ⟨by simp [h, hl], by decide, by 
    rw [show 8 + 1301 = 1309 from rfl, h3, BitVec.ofNat_toNat, BitVec.setWidth_eq]
    show crc32c (_ :: _ :: _ :: _ :: _ :: _ :: _ :: _ :: (pl ++ leBytes 4 c.toNat).take 1301) = c
    rw [h1, hc]⟩]
  congr 1
  show Packet8b.mk _ _ _ _ = _
  congr 1

/-- A head whose link is UP takes it. -/
theorem long_taken : ((airUp.to 0).takePacket (1 : Fin 8).val (⟨0x81, 0, 0, leBytes 1301 0⟩ : Packet8b).bytes 0x81).2 =
    some ⟨0x81, 0, 0, leBytes 1301 0⟩ := by
  have hu : ¬ (airUp.to 0).get (B.AIR_HEAD_STS_LINK (1 : Fin 8).val) ≠ 2 := by decide +kernel
  have hx : Sp.find (airUp.to 0).air.rxSeq (1 : Fin 8).val = none := by decide +kernel
  rw [State.takePacket, if_neg hu, long_packet _ (by decide +kernel)]
  rfl

/-- A measurement of a channel. -/
def meas (ch : Nat) : Meas := ⟨ch, none, false, 160, 9000, 0, 0, 0, 4500, 0⟩

/-- A base receiver that tracks four GPS satellites. -/
def baseUp : State := { up with gnb := { up.gnb with
  chans := [0, 1, 2, 3].map (fun k => (k, ⟨0, k + 1, 0, false, none, 0, 160, 4500, false⟩)) } }

/-- An epoch item of context 5. -/
def obsOf (id : Nat) : Item := ⟨id, .airHead 0, some .allot, { Desc.zero with context := 5, flow := 5 }, true, .fresh⟩

/-- A report without a signal. -/
def obsRep : ObsReport := ⟨32, 100000000, 0, 0, 0, 0, 0, 0, 0, 0, 0, 0, [], []⟩

/-- Epoch items at FIX with their reports; the base epoch of the report has been delivered. -/
def fixUp (obs : Sp (List (BitVec 64))) (ids : List Nat) : State :=
  { airJoined with
    dsp := { airJoined.dsp with entries := ids.map (fun i => ⟨obsOf i, 5, false, .at_ .fix⟩) }
    gnb := { airJoined.gnb with history := [⟨100000000, 0, 0, false, false, (false, false), 0, 0, 0, (0, 0, 0), []⟩] }
    fix := { airJoined.fix with obs := obs } }

/-- The packet of a report of context 5 at head 0. -/
def packetOf (r : ObsReport) (slotEnd : Nat) : List (BitVec 64) := obsPacket 5 0 slotEnd r.bytes

/-- An epoch that waits for its search. -/
def solving0 : Solving := ⟨obsOf 9, obsRep, 0, 0, 0, none, true, 0, false, []⟩

/-- A search of context 5 that waits. -/
def searchUp (n : Nat) : State :=
  let s := fixUp [(9, packetOf obsRep (gpsEpoch + 100000000))] [9]
  { s with cyc := n, fix := { s.fix with searches := [solving0] } }

/-- An epoch item of context 5 at a stage. -/
def gaitUp (st : Stage) : State :=
  { airJoined with dsp := { airJoined.dsp with entries := [⟨obsOf 9, 5, false, .at_ st⟩] } }

/-- A position at the frame's origin. -/
def fixRec : FixRec := { noneRec 5 with state := 3, pr := 0 }

/-- Ten metres to the east. -/
def track0 : Track := ⟨1, 0, [(0, 0), (10000, 0)]⟩

/-- Limits of a machine. -/
def limits0 : Limits := ⟨1000, 0, 1000, 1000, 1000, 100, 0, false⟩

/-- A grid of one tile of 1 m cells. -/
def geom0 : PadGeom := ⟨1, 1, 100, -3000, -3000⟩

/-- A triangle of 100 mm. -/
def shape0 : Shape := ⟨[(-50, -50), (50, -50), (0, 50)], 0, 1000⟩

/-- A map, and a shape and a position of context 5. -/
def mapUp (s : State) : State :=
  { (s.setFlag B.PAD_STS_MAP_VALID true) with
    pad := { s.pad with geom := some geom0, deflt := 1, shapes := [(5, shape0)] }
    fix := { s.fix with ctx := [(5, { FixCtx.reset with last := some fixRec, lastPos := some fixRec })] } }

/-- Context 5 may be planned for: it rests at its target. -/
def planning (st : Stage) : State :=
  (mapUp (gaitUp st)).setGaitCtx 5 { GaitCtx.reset with track := some track0, target := some 0, limits := some limits0 }

/-- A profile that rests. -/
def draft0 : Draft := ⟨⟨0, 0, 0, 0, 0, 0, [], 0, 1, 0, 0⟩, none, 0, none, ⟨1, 0, 0, []⟩, Res.zero, []⟩

/-- A committed profile at the knot packer. -/
def packing : State := let s := planning .pack; { s with gait := { s.gait with drafts := [(9, draft0)] } }

/-- A SET_LIMITS of context 5 with D_MAX and J_MAX. -/
def limItem (d j : Nat) : Item :=
  let i := item 0x8002 5 256
  { i with d := { i.d with arg0 := BitVec.ofNat 64 (1000 + 1000 * 2 ^ 32 + d * 2 ^ 48), arg1 := BitVec.ofNat 64 (j + 100 * 2 ^ 32) } }

/-- A plan at 2 m/s. -/
def planFast : Plan := ⟨0, 0, 0, 0, 2000, 0, [⟨16000000, 0, 2000⟩], 0, 1, 0, 0⟩

/-- Context 5 follows that plan. -/
def fast : State := (planning .gait).setGaitCtx 5 { (planning .gait).gaitCtx 5 with plans := [planFast] }

/-- A request to stand still at the origin. -/
def still : SweepReq := ⟨1, 0, 1, [⟨0, 0, 0, 0⟩]⟩

/-- The bytes of a paddock file without a record: one tile of 1 m cells, version 1. -/
def padRaw0 : List Byte :=
  [0x44, 0x5A, 0x50, 0x4D] ++ leBytes 2 0x80 ++ leBytes 2 1 ++ leBytes 2 1 ++ leBytes 2 1 ++ leBytes 2 100 ++ leBytes 38 0
    ++ leBytes 4 128 ++ leBytes 48 0 ++ leBytes 4 1 ++ leBytes 20 0

/-- The bytes of a square shape of 100 mm. -/
def shapeRaw0 : List Byte :=
  (⟨4, 100, 1000, [(0xFFCE, 0xFFCE), (50, 0xFFCE), (50, 50), (0xFFCE, 50)]⟩ : ShapeRec).bytes ++ leBytes 16 0

/-- A COMMIT of context 5 that has its place, over a map with reservations. -/
def sweeping (l : Sp Slots) : State :=
  let s := mapUp airJoined
  { s with pad := { s.pad with slots := l, sweeps := [⟨item 0x7010 5 256, still, s.live⟩] } }

/-- WHOA STOPPED with no cause left but POWER_ON, RESUME held and permitted. -/
def ready : State :=
  let s := ((up.setFlag B.WHOA_STS_CHAN_A true).setFlag B.WHOA_STS_CHAN_B true).setFlag B.WHOA_STS_STOPPED true
  let s := ((s.set B.WHOA_CAUSE_ACTIVE 512).setFlag B.WHOA_STS_PERMIT true).setFlag B.WHOA_TOUCH_STS_HOLD true
  { s.wr Reg.WHOA_KEY 0 with whoa := { s.whoa with latched := 0 } }

/-- Both wired ports enabled, with their links up. -/
def netUp : State :=
  let s := (up.setFlag B.NET_A_CFG_ENABLE true).setFlag B.NET_B_CFG_ENABLE true
  ((s.setFlag B.NET_A_STS_LINK true).setFlag B.NET_B_STS_LINK true).setFlag B.NET_A_CFG_BCAST_EN true

/-- A broadcast frame of 64 bytes. -/
def frame0 : List Byte := withFcs (leBytes 6 0xFFFFFFFFFFFF ++ leBytes 6 0x0A0000000002 ++ beBytes 2 0x88B5 ++ leBytes 46 1)

/-- A wrapping key that is not held. -/
def attr0 : KeyAttr := ⟨0, 1, 32, 3, 0x3F, 99, 0, 0, 0, 0, false, false⟩

/-- The key that is held. -/
def attr1 : KeyAttr := ⟨0, 3, 32, 0xFFFF, 0x3F, 77, 0, 0, 0, 0, false, false⟩

/-- A key store with its KEK and identity keys, and a key in slot 1. -/
def tackUp : State :=
  { up with
    chip := { up.chip with part := { part with otp := Otp.blank } }
    tack := { up.tack with kek := true, identity := true, slots := [(1, ⟨attr1, 0, false, false⟩)] } }

/-- A TACK item with ARG_0, ARG_1 and LEN. -/
def tackItem (op : BitVec 16) (a0 a1 : BitVec 64) (len : BitVec 32) : Item :=
  let i := item op 0 256
  { i with d := { i.d with arg0 := a0, arg1 := a1, len := len } }

/-- A recorder with one source of 1 MiB. -/
def recUp : State :=
  let s := ((up.setFlag (B.REC_SRC_CFG_EN 2) true).set (B.REC_SRC_CFG_SIZE_MIB 2) 1).wr (Reg.REC_SRC_POST 2) 64
  s.set B.REC_AREA_SIZE_SIZE 64

/-- A chip with both images in slots A of its flash, the policy LOCKED. -/
def updating : State :=
  { up with chip := { up.chip with part := { part with
      otp := { part.otp with locked := true }
      flash := some ⟨some fwImg, none, some (gbImg 0 [] []), none, (⟨0, false, false, false, false, 0, 60⟩ : BootRec).bytes, []⟩ } } }

/-- A chip of a pair in COLD, the partner absent since power-on. -/
def pair : State :=
  let s := up.set B.BYL_PAIR_STS_ROLE roleCold
  { s with byl := { s.byl with quietAt := some 0, absentAt := some 0 } }

/-- The link is authenticating, one lane wide. -/
def training : State :=
  let s := (pair.set B.BYL_LINK_STS_STATE 2).set B.BYL_LINK_STS_WIDTH 1
  { s with byl := { s.byl with rxScr := scrSeeds } }

/-- A HELLO of the other chip. -/
def hello0 : Hello := ⟨7, 9, true, 1, 0, 0, 0, 77⟩

/-- A frame on one lane, its payload as opened. -/
def rxOf (type seq : Nat) (ack : Option Nat) (p : List Byte) : BylRx :=
  ⟨linkBlocks 1 (bylHeader (typeClass type) type p.length seq ack ++ leBytes (16 * payloadChunks p.length) 0 ++ leBytes 16 0), some p⟩

/-- A heartbeat of a partner that is HOT. -/
def beat0 : Beat := ⟨0, 0, 2, false, false, false, 0, 0, 0⟩

/-- A chip of a pair in a role, its link UP, its partner HOT. -/
def linked (r : Nat) : State :=
  let s := ((pair.set B.BYL_PAIR_STS_ROLE r).set B.BYL_LINK_STS_STATE 3).set B.BYL_LINK_STS_WIDTH 1
  { s with byl := { s.byl with rxScr := scrSeeds, last := some beat0, lineIn := .present } }

/-! ### Witnesses of the clauses of the completion statements -/


theorem wit_PowerAndBootComplete_3 :
    ∃ (s : State) (t : Nat) (good : Bool),
      ((s.to t).chip.powered = true) ∧ ((s.to t).chip.railWait = true ∨ (s.to t).chip.wakeAt.isSome = true) ∧
        ((s.to t).chip.railTries = 2) :=
  ⟨{ State.reset with chip := { ChipRt.reset with railWait := true, railTries := 2 } }, 0, true, ⟨rfl, .inl rfl, rfl⟩⟩

theorem wit_PowerAndBootComplete_4 :
    ∃ (s : State) (t : Nat),
      ((s.to t).chip.powered = true) ∧ ((s.to t).chip.railWait = true) ∧ ((s.to t).chip.railTries < 2) :=
  ⟨{ State.reset with chip := { ChipRt.reset with railWait := true, railTries := 1 } }, 0, by decide +kernel⟩

theorem wit_PowerAndBootComplete_6 :
    ∃ (s : State) (t : Nat) (rq : Requester) (val : Word) (fw gb : Image),
      ((s.to t).reaches rq Reg.CHIP_BOOT_GO = true) ∧ (val.getLsbD 0 = true) ∧ (((s.to t).reached rq Reg.CHIP_BOOT_GO
        true).get B.CHIP_BOOT_STS_PHASE = 7) ∧ ((((s.to t).reached rq Reg.CHIP_BOOT_GO true).checkIn
        (((s.to t).reached rq Reg.CHIP_BOOT_GO true).rd Reg.CHIP_BOOT_HOST_LEN % 2 ^ 16 * 1024) fw false true).isNone
        = true) ∧ ((((s.to t).reached rq Reg.CHIP_BOOT_GO true).checkIn (((s.to t).reached rq Reg.CHIP_BOOT_GO
        true).rd Reg.CHIP_BOOT_HOST_LEN / 2 ^ 16 % 2 ^ 16 * 1024) gb true true).isNone = true) ∧ (((s.to t).reached rq
        Reg.CHIP_BOOT_GO true).chip.part.tested fw gb = true) :=
  ⟨hostWaiting.wr Reg.CHIP_BOOT_HOST_LEN 0x100010, 0, 0, 1, fwImg, gbImg 0 [] [], by decide +kernel⟩

theorem wit_FullChipResetsComplete_1 :
    ∃ (s : State) (t : Nat) (at_ : Nat),
      ((s.to t).chip.confirmAt = some at_) ∧ (at_ ≤ (s.to t).cyc) :=
  ⟨{ State.reset with chip := { ChipRt.reset with confirmAt := some 5 } }, 9, 5, by decide +kernel⟩

theorem wit_FullChipResetsComplete_2 :
    ∃ (s : State) (t : Nat) (at_ id : Nat),
      ((s.to t).chip.resetAt = some (at_, id)) ∧ (at_ ≤ (s.to t).cyc) ∧ ((s.to t).hif.rings.any (fun p => p.2.out.any
        (fun o => o.id == id)) = false) :=
  ⟨{ State.reset with chip := { ChipRt.reset with resetAt := some (5, 1) } }, 9, 5, 1, by decide +kernel⟩

theorem wit_FullChipResetsComplete_3 :
    ∃ (s : State) (t : Nat) (rq : Requester) (val : Word),
      ((s.to t).reaches rq Reg.CHIP_RST_CMD = true) ∧ (fieldOf val 0 16 = 0x8400) ∧ (val.getLsbD 16 = true) ∧
        (((s.to t).reached rq Reg.CHIP_RST_CMD true).chip.heldReset = false) :=
  ⟨up, 0, 0, 0x18400, by decide +kernel⟩

theorem wit_FullChipResetsComplete_4 :
    ∃ (s : State) (t : Nat) (rq : Requester) (val : Word),
      ((s.to t).reaches rq Reg.CHIP_RST_CMD = true) ∧ fieldOf val 0 16 ≠ 0x8400 :=
  ⟨up, 0, 0, 0x18401, by decide +kernel⟩

theorem wit_FullChipResetsComplete_5 :
    ∃ (s : State) (t : Nat) (cause : BitVec 4) (region : Fin 16),
      ((s.to t).chip.powered = true) ∧ ((s.to t).chip.stabled = false) ∧ (((s.to t).requestStop.wr Reg.CHIP_ERR_INFO
        (region.val % 16 + cause.toNat % 16 * 16)).halter = false) ∧ (((s.to t).requestStop.wr Reg.CHIP_ERR_INFO
        (region.val % 16 + cause.toNat % 16 * 16)).flag B.CHIP_ERR_CTL_ACTION = false) :=
  ⟨up, 0, 3, 6, by decide +kernel⟩

theorem wit_FullChipResetsComplete_6 :
    ∃ (s : State) (t : Nat) (region : Fin 16),
      ((s.to t).chip.powered = true) ∧ ((s.to t).chip.stabled = false) :=
  ⟨up, 0, 6, by decide +kernel⟩

theorem wit_FullChipResetsComplete_7 :
    ∃ (s : State) (t : Nat) (ppb : Int) (silent : Nat),
      ((s.to t).chip.powered = true) ∧ ((s.to t).chip.stabled = false) ∧ (1000000 < ppb.natAbs ∨ 10000 ≤ silent) :=
  ⟨up, 0, 0, 10000, ⟨rfl, rfl, .inr (by decide)⟩⟩

theorem wit_FullChipResetsComplete_8 :
    ∃ (s : State) (t : Nat),
      ((s.to t).chip.powered = true) :=
  ⟨up, 0, by decide +kernel⟩

theorem wit_RegionAndLinkResetsComplete_1 :
    ∃ (s : State) (t : Nat) (region : Fin 16) (cause : ErrCause),
      (s.to t).rgnState region.val ≠ rsOff ∧ region.val ≠ 0 ∧ region.val ≠ 3 ∧ region.val ≠ 13 ∧ cause ≠ .linkReset ∧
        ((s.to t).recentResets region.val < 2) ∧ (((s.to t).noteReset region.val).resetting region.val = false) :=
  ⟨up, 0, 6, .illegalStep, by decide +kernel⟩

theorem wit_RegionAndLinkResetsComplete_2 :
    ∃ (s : State) (t : Nat) (cause : ErrCause),
      (s.to t).rgnState 3 ≠ rsOff :=
  ⟨up, 0, .illegalStep, by decide +kernel⟩

theorem wit_RegionAndLinkResetsComplete_3 :
    ∃ (s : State) (t : Nat) (region : Fin 16) (cause : ErrCause),
      (s.to t).rgnState region.val ≠ rsOff ∧ region.val ≠ 0 ∧ region.val ≠ 3 ∧ cause ≠ .linkReset ∧ (2 ≤
        (s.to t).recentResets region.val) :=
  ⟨{ up with rgn := { up.rgn with resets := [(6, 0), (6, 0)] } }, 0, 6, .illegalStep, by decide +kernel⟩

theorem wit_RegionAndLinkResetsComplete_4 :
    ∃ (s : State) (t : Nat) (region : Fin 16) (svcHash : Nat),
      region.val ≠ 0 ∧ ((s.to t).rgnState region.val = rsLoading) ∧ ((s.to t).chip.gb.all (fun g => (g.badTable
        region.val).isNone) = true) ∧ (region.val = 4 → (s.to t).svcCopyOk svcHash = true) :=
  ⟨{ (up.setRgnState 4 rsLoading) with chip := { up.chip with fw := some fwImg, gb := some (gbImg 0 [] []) } }, 0, 4, 0, by decide +kernel⟩

theorem wit_RegionAndLinkResetsComplete_5 :
    ∃ (s : State) (t : Nat) (region : Fin 16) (svcHash : Nat) (gb : Image) (g : GaitTable),
      region.val ≠ 0 ∧ ((s.to t).rgnState region.val = rsLoading) ∧ ((s.to t).halter = false) ∧ ((s.to t).chip.gb =
        some gb) ∧ (gb.badTable region.val = some g) :=
  ⟨{ (up.setRgnState 1 rsLoading) with chip := { up.chip with gb := some { gbImg 0 [] [] with tableImgs := [leBytes 64 1] } } }, 0, 1, 0, { gbImg 0 [] [] with tableImgs := [leBytes 64 1] }, ⟨1, 0, 1, 0, 64, 1, 1, (crc32c (leBytes 64 0)).toNat, false, leBytes 64 1⟩, by decide +kernel⟩

theorem wit_RegionAndLinkResetsComplete_6 :
    ∃ (s : State) (t : Nat) (rq : Requester) (region : Fin 16) (val : Word),
      ((s.to t).reaches rq (Reg.RGN_CMD region.val) = true) ∧ (val.getLsbD 0 = true) ∧ region.val ≠ 0 ∧ region.val ≠ 3
        ∧ region.val ≠ 13 ∧ ((s.to t).reached rq (Reg.RGN_CMD region.val) true).rgnState region.val ≠ rsOff ∧
        (((s.to t).reached rq (Reg.RGN_CMD region.val) true).recentResets region.val < 2) ∧ ((((s.to t).reached rq
        (Reg.RGN_CMD region.val) true).noteReset region.val).resetting region.val = false) :=
  ⟨up, 0, 0, 6, 1, by decide +kernel⟩

theorem wit_RegionAndLinkResetsComplete_7 :
    ∃ (s : State) (t : Nat),
      (s.to t).rgnState 1 ≠ rsOff :=
  ⟨up, 0, by decide +kernel⟩

theorem wit_RegionAndLinkResetsComplete_8 :
    ∃ (s : State) (t : Nat) (up : Bool),
      (s.to t).rgnState 1 ≠ rsOff :=
  ⟨up, 0, true, by decide +kernel⟩

theorem wit_BlockCellAndCrossingErrorsComplete_1 :
    ∃ (s : State) (t : Nat) (region : Fin 16) (block : BitVec 8) (cause : ErrCause) (held : List Nat),
      region.val ≠ 0 ∧ region.val ≠ 13 ∧ (s.to t).rgnState region.val ≠ rsOff ∧ ((s.to t).resetting region.val =
        false) ∧ ((s.to t).recentRestarts region.val block.toNat < (s.to t).get (B.RGN_CTL_BLK_LIMIT region.val)) ∧
        (((s.to t).noteRestart region.val block.toNat).rgn.restarting.contains (region.val, block.toNat) = false) :=
  ⟨up, 0, 6, 1, .illegalStep, [], by decide +kernel⟩

theorem wit_BlockCellAndCrossingErrorsComplete_2 :
    ∃ (s : State) (t : Nat) (region : Fin 16) (block : BitVec 8) (cause : ErrCause) (held : List Nat) (x :
      DramAccess),
      ((s.to t).up region.val = true) ∧ ((s.to t).dramAllows region.val x = false) ∧ (x.write = true) :=
  ⟨up, 0, 6, 1, .illegalStep, [], ⟨0, true, none⟩, by decide +kernel⟩

theorem wit_BlockCellAndCrossingErrorsComplete_3 :
    ∃ (s : State) (t : Nat) (region : Fin 16) (block : BitVec 8),
      ((s.to t).rgn.restarting.contains (region.val, block.toNat) = true) ∧ ((({ (s.to t) with
          rgn := { (s.to t).rgn with
              restarting := (s.to t).rgn.restarting.filter (fun p => p != (region.val, block.toNat)) } }) :
        State).blockLoads region.val block.toNat = true) :=
  ⟨{ up with rgn := { up.rgn with restarting := [(6, 1)] } }, 0, 6, 1, by decide +kernel⟩

theorem wit_BlockCellAndCrossingErrorsComplete_4 :
    ∃ (s : State) (t : Nat) (region : Fin 16) (kind : CellKind) (cell : BitVec 16) (block : BitVec 8) (cause :
      ErrCause) (poison : Bool) (it : Item) (held : List Nat),
      region.val ≠ 0 ∧ (s.to t).rgnState region.val ≠ rsOff ∧ ((s.to t).rgn.retired.contains (region.val, cell.toNat)
        = false) ∧ (((s.to t).noteCell region.val block.toNat cell.toNat cause).itemOf? it.id = some it) ∧
        (((((s.to t).noteCell region.val block.toNat cell.toNat cause).failOne it region.val (cell.toNat % 0x1000) (if
        poison then .failPoison else .failFault)).cellMarks kind cell.toNat).cellHits region.val cell.toNat < 16) :=
  ⟨{ up with waiting := [.hifNop 0 (item 0x1000 0 0)] }, 0, 6, .solverLane, 3, 1, .parity, true, item 0x1000 0 0, [], by decide +kernel⟩

theorem wit_BlockCellAndCrossingErrorsComplete_5 :
    ∃ (s : State) (t : Nat) (region : Fin 16) (kind : CellKind) (cell : BitVec 16) (block : BitVec 8) (cause :
      ErrCause) (poison : Bool) (held : List Nat),
      region.val ≠ 0 ∧ (s.to t).rgnState region.val ≠ rsOff ∧ ((s.to t).rgn.retired.contains (region.val, cell.toNat)
        = false) ∧ (kind.pooled = true) ∧ (16 ≤ (((s.to t).noteCell region.val block.toNat cell.toNat cause).cellMarks
        kind cell.toNat).cellHits region.val cell.toNat) :=
  ⟨{ up with rgn := { up.rgn with cellErrs := List.replicate 15 (6, 3, 0) } }, 0, 6, .solverLane, 3, 1, .parity, true, [], by decide +kernel⟩

theorem wit_BlockCellAndCrossingErrorsComplete_6 :
    ∃ (s : State) (t : Nat) (sender receiver : Fin 16) (block : BitVec 8) (x : Item),
      receiver.val ≠ 2 ∧ ((s.to t).rgn.hs.any (fun h => h.is sender.val receiver.val block.toNat) = false) :=
  ⟨up, 0, 6, 8, 1, item 0x1000 0 0, by decide +kernel⟩

theorem wit_BlockCellAndCrossingErrorsComplete_7 :
    ∃ (s : State) (t : Nat) (sender receiver : Fin 16) (block : BitVec 8) (x : Item) (h : HsPort),
      receiver.val ≠ 2 ∧ ((s.to t).rgn.hs.any (fun h => h.is sender.val receiver.val block.toNat) = false) ∧ ((({
        (s.to t) with
          rgn := { (s.to t).rgn with
              hs := (s.to t).rgn.hs ++ [⟨sender.val, receiver.val, block.toNat, some x, false, (s.to t).cyc⟩], inbox
                := (s.to t).rgn.inbox.filter (fun p => p.2.id != x.id) } }) : State).up receiver.val = true) ∧ ((({
        (s.to t) with
          rgn := { (s.to t).rgn with
              hs := (s.to t).rgn.hs ++ [⟨sender.val, receiver.val, block.toNat, some x, false, (s.to t).cyc⟩], inbox
                := (s.to t).rgn.inbox.filter (fun p => p.2.id != x.id) } }) : State).crossNext receiver.val = some h)
        :=
  ⟨up, 0, 6, 8, 1, item 0x1000 0 0, ⟨6, 8, 1, some (item 0x1000 0 0), false, 0⟩, by decide +kernel⟩

theorem wit_BlockCellAndCrossingErrorsComplete_8 :
    ∃ (s : State) (t : Nat) (sender : Fin 16) (block : BitVec 8) (x : Item) (takes : Bool) (p : Nat × Source),
      (sourcePort sender.val = some p) :=
  ⟨up, 0, 4, 1, item 0x1000 0 0, false, (73, .svc), by decide +kernel⟩

theorem wit_BlockCellAndCrossingErrorsComplete_10 :
    ∃ (s : State) (t : Nat) (sender receiver : Fin 16) (block : BitVec 8) (held : List Nat) (h : HsPort),
      ((s.to t).rgn.hs.find? (fun h => h.is sender.val receiver.val block.toNat) = some h) ∧ (h.taken = false) ∧
        sender.val ≠ 0 ∧ ((s.to t).rgnState receiver.val = rsRun) ∧ (h.since + 10 * cycMs ≤ (s.to t).cyc) :=
  ⟨{ up with rgn := { up.rgn with hs := [⟨6, 8, 1, none, false, 0⟩] } }, 5000000, 6, 8, 1, [], ⟨6, 8, 1, none, false, 0⟩, by decide +kernel⟩

theorem wit_RegisterAccessesComplete_1 :
    ∃ (s : State) (t : Nat) (rq : Requester) (addr bytes : Nat) (enables : BitVec 4),
      (inBars addr = true) ∧ (¬ (addr % 4 = 0 ∧ bytes = 4 ∧ enables = 15#4)) :=
  ⟨up, 0, 0, 2, 4, 15, by decide +kernel⟩

theorem wit_RegisterAccessesComplete_2 :
    ∃ (s : State) (t : Nat) (rq : Requester) (addr bytes : Nat) (enables : BitVec 4),
      (inBars addr = true) ∧ (¬ (addr % 4 = 0 ∧ bytes = 4 ∧ enables = 15#4)) :=
  ⟨up, 0, 0, 4, 2, 3, by decide +kernel⟩

theorem wit_RegisterAccessesComplete_3 :
    ∃ (s : State) (t : Nat) (rq : Requester) (addr : Nat) (val same : Word),
      (addr < 0x1000000) ∧ (addr % 4 = 0) ∧ (ownRow addr = false) ∧ (((s.to t).rowWrite rq addr val).isNone = true) ∧
        (isKind addr .high = false) ∧ (isKind addr .low = false) ∧ (¬ (addr / 0x100000 ≠ 0 ∧ addr / 0x100000 ≠ 13 ∧
        addr % 0x100000 = 0x24)) ∧ (mapped addr = true) ∧ ((s.to t).reaches rq addr = true) ∧ ((((s.to t).reached rq
        addr true).forbids addr val).isNone = true) :=
  ⟨up, 0, 0, 0x60001C, 3, 0, by decide +kernel⟩

theorem wit_RegisterAccessesComplete_4 :
    ∃ (s : State) (t : Nat) (rq : Requester) (addr : Nat) (val same : Word),
      (addr < 0x1000000) ∧ (addr % 4 = 0) ∧ (ownRow addr = false) ∧ (((s.to t).rowWrite rq addr val).isNone = true) ∧
        (isKind addr .high = false) ∧ (isKind addr .low = false) ∧ (¬ (addr / 0x100000 ≠ 0 ∧ addr / 0x100000 ≠ 13 ∧
        addr % 0x100000 = 0x24)) ∧ (mapped addr = false) ∧ ((s.to t).reaches rq addr = true) :=
  ⟨up, 0, 0, 0x600FF0, 3, 0, by decide +kernel⟩

theorem wit_RegisterAccessesComplete_5 :
    ∃ (s : State) (t : Nat) (rq : Requester) (addr : Nat) (val same : Word),
      (0x1000000 ≤ addr) ∧ (barOf addr = none) :=
  ⟨up, 0, 0, 0x4000000, 0, 0, by decide +kernel⟩

theorem wit_RegisterAccessesComplete_6 :
    ∃ (s : State) (t : Nat) (ring : Fin 64) (val same : Word),
      ((s.to t).chip.powered = true) ∧ ((s.to t).chip.stabled = false) ∧ ((s.to t).hif.pcie.d3hot = false) :=
  ⟨up, 0, 3, 5, 0, by decide +kernel⟩

theorem wit_RegisterAccessesComplete_7 :
    ∃ (s : State) (t : Nat) (rq : Requester) (addr : Nat) (val same : Word),
      (addr < 0x1000000) ∧ (addr % 4 = 0) ∧ (ownRow addr = false) ∧ (((s.to t).rowWrite rq addr val).isNone = true) ∧
        (isKind addr .high = false) ∧ ((s.to t).refuses rq addr = true) :=
  ⟨up.setRgnState 6 rsOff, 0, 0, 0x600100, 3, 0, by decide +kernel⟩

theorem wit_RegisterAccessesComplete_8 :
    ∃ (s : State) (t : Nat) (rq : Requester) (addr : Nat) (same : Word),
      (addr < 0x1000000) ∧ (addr % 4 = 0) ∧ ((s.to t).refuses rq addr = true) :=
  ⟨up.setRgnState 3 rsOff, 0, 0, Reg.MQF_Q_HWM 3, 0, by decide +kernel⟩

theorem wit_RegisterAccessesComplete_9 :
    ∃ (s : State) (t : Nat) (rq : Requester) (addr : Nat) (same : Word) (d : RegDef),
      (addr < 0x1000000) ∧ (addr % 4 = 0) ∧ (regDef? addr = some d) ∧ (hasRc addr = true) ∧ addr ≠ Reg.WHOA_FAULT ∧
        ((s.to t).reaches rq addr = true) :=
  ⟨up, 0, 0, Reg.MQF_Q_HWM 3, 0, (regDef? (Reg.MQF_Q_HWM 3)).get (by decide +kernel), by decide +kernel⟩

theorem wit_RegisterAccessesComplete_10 :
    ∃ (s : State) (t : Nat) (rq : Requester) (addr : Nat),
      (isKind addr .low = true) ∧ addr ≠ Reg.TIM_TIME ∧ ((s.to t).reaches rq addr = true) :=
  ⟨up, 0, 0, Reg.TIM_INCR, by decide +kernel⟩

theorem wit_RegisterAccessesComplete_11 :
    ∃ (s : State) (t : Nat) (rq : Requester) (addr : Nat) (val : Word),
      (isKind addr .high = true) ∧ (((s.to t).rowWrite rq addr val).isNone = true) ∧ addr ≠ Reg.TIM_INCR + 4 ∧
        ((s.to t).reaches rq addr = true) ∧ ((((s.to t).reached rq addr true).forbids addr val).isNone = true) :=
  ⟨up, 0, 0, Reg.HIF_RING_SQ_BASE 2 + 4, 1, by decide +kernel⟩

theorem wit_RegisterAccessesComplete_12 :
    ∃ (s : State) (t : Nat) (rq : Requester) (region : Fin 16) (id : BitVec 16) (blk : ParamBlock),
      region.val ≠ 0 ∧ region.val ≠ 13 ∧ ((s.to t).reaches rq (Reg.RGN_PARAM_APPLY region.val) = true) ∧
        (((s.to t).reached rq (Reg.RGN_PARAM_APPLY region.val) true).blockOf? region.val id = some blk) ∧
        (((s.to t).reached rq (Reg.RGN_PARAM_APPLY region.val) true).mayApply blk = true) :=
  ⟨{ (up.wr P.GNB_ELEV_MASK 10) with chip := { up.chip with gb := some gb5 } }, 0, 0, 5, 1, gb5.param 0, by decide +kernel⟩

theorem wit_RegisterAccessesComplete_13 :
    ∃ (s : State) (t : Nat) (rq : Requester) (region : Fin 16) (id : BitVec 16) (blk : ParamBlock),
      region.val ≠ 0 ∧ region.val ≠ 13 ∧ ((s.to t).reaches rq (Reg.RGN_PARAM_APPLY region.val) = true) ∧
        (((s.to t).reached rq (Reg.RGN_PARAM_APPLY region.val) true).blockOf? region.val id = some blk) ∧
        (((s.to t).reached rq (Reg.RGN_PARAM_APPLY region.val) true).mayApply blk = false) :=
  ⟨{ (up.wr P.GNB_ELEV_MASK 99) with chip := { up.chip with gb := some gb5 } }, 0, 0, 5, 1, gb5.param 0, by decide +kernel⟩

theorem wit_DoorbellsAndRingStartsComplete_1 :
    ∃ (s : State) (t : Nat) (ring : Fin 64) (val : Word),
      (((s.to t).feedWatchdog ring.val).doorbellLive ring.val = true) ∧ (idxDiff val.toNat (((s.to t).feedWatchdog
        ring.val).rd (Reg.HIF_RING_SQ_HEAD ring.val)) ≤ 2 ^ ((s.to t).feedWatchdog ring.val).sqLog ring.val) ∧
        (idxDiff (((s.to t).feedWatchdog ring.val).ringOf ring.val).tail (((s.to t).feedWatchdog ring.val).rd
        (Reg.HIF_RING_SQ_HEAD ring.val)) ≤ idxDiff val.toNat (((s.to t).feedWatchdog ring.val).rd
        (Reg.HIF_RING_SQ_HEAD ring.val))) :=
  ⟨ringUp, 0, 0, 3, by decide +kernel⟩

theorem wit_DoorbellsAndRingStartsComplete_2 :
    ∃ (s : State) (t : Nat) (ring : Fin 64) (val : Word),
      (((s.to t).feedWatchdog ring.val).doorbellLive ring.val = true) ∧ (2 ^ ((s.to t).feedWatchdog ring.val).sqLog
        ring.val < idxDiff val.toNat (((s.to t).feedWatchdog ring.val).rd (Reg.HIF_RING_SQ_HEAD ring.val)) ∨ idxDiff
        val.toNat (((s.to t).feedWatchdog ring.val).rd (Reg.HIF_RING_SQ_HEAD ring.val)) < idxDiff
        (((s.to t).feedWatchdog ring.val).ringOf ring.val).tail (((s.to t).feedWatchdog ring.val).rd
        (Reg.HIF_RING_SQ_HEAD ring.val))) :=
  ⟨ringUp, 0, 0, 17, by decide +kernel⟩

theorem wit_DoorbellsAndRingStartsComplete_3 :
    ∃ (s : State) (t : Nat) (ring : Fin 64) (val : Word),
      (((s.to t).feedWatchdog ring.val).doorbellLive ring.val = false) :=
  ⟨up, 0, 0, 17, by decide +kernel⟩

theorem wit_DoorbellsAndRingStartsComplete_4 :
    ∃ (s : State) (t : Nat) (ring : Fin 64) (val : Word),
      (((s.to t).feedWatchdog ring.val).doorbellLive ring.val = true) ∧ (idxDiff (((s.to t).feedWatchdog ring.val).rd
        (Reg.HIF_RING_CQ_PI ring.val)) val.toNat ≤ 2 ^ ((s.to t).feedWatchdog ring.val).cqLog ring.val) ∧ (idxDiff
        (((s.to t).feedWatchdog ring.val).rd (Reg.HIF_RING_CQ_PI ring.val)) val.toNat ≤ idxDiff
        (((s.to t).feedWatchdog ring.val).rd (Reg.HIF_RING_CQ_PI ring.val)) (((s.to t).feedWatchdog ring.val).ringOf
        ring.val).cqHead) :=
  ⟨(ringUp.wr (Reg.HIF_RING_CQ_PI 0) 2), 0, 0, 2, by decide +kernel⟩

theorem wit_DoorbellsAndRingStartsComplete_5 :
    ∃ (s : State) (t : Nat) (ring : Fin 64) (val : Word),
      (((s.to t).feedWatchdog ring.val).doorbellLive ring.val = true) ∧ (2 ^ ((s.to t).feedWatchdog ring.val).cqLog
        ring.val < idxDiff (((s.to t).feedWatchdog ring.val).rd (Reg.HIF_RING_CQ_PI ring.val)) val.toNat ∨ idxDiff
        (((s.to t).feedWatchdog ring.val).rd (Reg.HIF_RING_CQ_PI ring.val)) (((s.to t).feedWatchdog ring.val).ringOf
        ring.val).cqHead < idxDiff (((s.to t).feedWatchdog ring.val).rd (Reg.HIF_RING_CQ_PI ring.val)) val.toNat) :=
  ⟨ringUp, 0, 0, 1, by decide +kernel⟩

theorem wit_DoorbellsAndRingStartsComplete_6 :
    ∃ (s : State) (t : Nat) (rq : Requester) (ring : Fin 64) (val : Word) (log : List LogRec),
      ((s.to t).reaches rq (Reg.HIF_RING_CTL ring.val) = true) ∧ (val.getLsbD 0 = true) ∧ (((s.to t).reached rq
        (Reg.HIF_RING_CTL ring.val) true).ringOn ring.val = false) ∧ ((((s.to t).reached rq (Reg.HIF_RING_CTL
        ring.val) true).setFlag (B.HIF_RING_CTL_RECOVER ring.val) (val.getLsbD 1)).ringCfgOk ring.val = true) :=
  ⟨(ringUp.setFlag (B.HIF_RING_CTL_ENABLE 0) false), 0, 0, 0, 1, [], by decide +kernel⟩

theorem wit_DoorbellsAndRingStartsComplete_7 :
    ∃ (s : State) (t : Nat) (rq : Requester) (ring : Fin 64) (val : Word) (log : List LogRec),
      ((s.to t).reaches rq (Reg.HIF_RING_CTL ring.val) = true) ∧ (val.getLsbD 0 = true) ∧ (((s.to t).reached rq
        (Reg.HIF_RING_CTL ring.val) true).ringOn ring.val = false) ∧ ((((s.to t).reached rq (Reg.HIF_RING_CTL
        ring.val) true).setFlag (B.HIF_RING_CTL_RECOVER ring.val) (val.getLsbD 1)).ringCfgOk ring.val = false) :=
  ⟨up, 0, 0, 0, 1, [], by decide +kernel⟩

theorem wit_DoorbellsAndRingStartsComplete_8 :
    ∃ (s : State) (t : Nat) (ring : Fin 64),
      ((s.to t).runs 1 blkWriter = true) ∧ ((s.to t).ringOn ring.val = true) ∧ ((s.to t).flag
        (B.HIF_RING_STS_RECOVERING ring.val) = true) ∧ ((s.to t).ringClear ring.val = true) :=
  ⟨(ringUp.setFlag (B.HIF_RING_STS_RECOVERING 0) true), 0, 0, by decide +kernel⟩

theorem wit_FetchesAndCompletionsComplete_1 :
    ∃ (s : State) (t : Nat) (ring : Fin 64) (raw : List (List Byte)),
      ((s.to t).mayFetch ring.val ((raw.map Desc.ofBytes)).length = true) :=
  ⟨(ringUp.setRing 0 { RingRt.reset with tail := 1 }), 0, 0, [[]], by decide +kernel⟩

theorem wit_FetchesAndCompletionsComplete_2 :
    ∃ (s : State) (t : Nat) (ring : Fin 64) (f : Fin_) (rest : List Fin_),
      (((s.to t).ringOf ring.val).fin = f :: rest) ∧ f.kind ≠ .stale ∧ ((s.to t).runs 1 blkWriter = true) ∧
        ((s.to t).hif.pcie.d3hot = false) ∧ ((s.to t).ringOn ring.val = true) ∧ ((s.to t).cqRoom ring.val = true) ∧
        ((s.to t).flag (B.HIF_RING_STS_RECOVERING ring.val) = false ∨ (s.to t).flag (B.HIF_RING_CTL_RECOVER ring.val)
        = true) :=
  ⟨(ringUp.toRing 0 .normal (item 0x1000 0 0) ⟨5, .done, false, 1, noCell, 9, Res.zero⟩), 0, 0, ⟨.normal, item 0x1000 0 0, ⟨5, .done, false, 1, noCell, 9, Res.zero⟩⟩, [], by decide +kernel⟩

theorem wit_FetchesAndCompletionsComplete_3 :
    ∃ (s : State) (t : Nat) (ring : Fin 64) (f : Fin_) (rest : List Fin_),
      (((s.to t).ringOf ring.val).fin = f :: rest) ∧ ((s.to t).cqRoom ring.val = false) :=
  ⟨((ringUp.toRing 0 .normal (item 0x1000 0 0) ⟨5, .done, false, 1, noCell, 9, Res.zero⟩).wr (Reg.HIF_RING_CQ_PI 0) 16), 0, 0, ⟨.normal, item 0x1000 0 0, ⟨5, .done, false, 1, noCell, 9, Res.zero⟩⟩, [], by decide +kernel⟩

theorem wit_FetchesAndCompletionsComplete_4 :
    ∃ (s : State) (t : Nat) (ring : Fin 64) (f : Fin_),
      (((s.to t).ringOf ring.val).fin.find? (fun f => f.kind == .stale) = some f) ∧ ((s.to t).runs 1 blkWriter = true)
        ∧ ((s.to t).hif.pcie.d3hot = false) ∧ ((s.to t).ringOn ring.val = true) ∧ ((s.to t).cqRoom ring.val = true) ∧
        ((s.to t).flag (B.HIF_RING_STS_RECOVERING ring.val) = true) :=
  ⟨((ringUp.setFlag (B.HIF_RING_STS_RECOVERING 0) true).toRing 0 .stale (item 0x1000 0 0) ⟨5, .done, false, 1, noCell, 9, Res.zero⟩), 0, 0, ⟨.stale, item 0x1000 0 0, ⟨5, .done, false, 1, noCell, 9, Res.zero⟩⟩, by decide +kernel⟩

theorem wit_FetchesAndCompletionsComplete_5 :
    ∃ (s : State) (t : Nat) (ring : Fin 64) (t0 : Nat),
      (((s.to t).ringOf ring.val).irqFirst = some t0) ∧ (t0 + (s.to t).get (B.HIF_RING_IRQ_HOLDOFF ring.val) * cycUs ≤
        (s.to t).cyc) :=
  ⟨(ringUp.setRing 0 { RingRt.reset with irqFirst := some 0 }), 9, 0, 0, by decide +kernel⟩

theorem wit_FetchesAndCompletionsComplete_6 :
    ∃ (s : State) (t : Nat) (id : Nat) (cmd : Instr) (it : Item),
      ((s.to t).waiting.find? (fun c => (c.item?.map Item.id) == some id) = some cmd) ∧ (cmd.item? = some it) ∧
        (it.d.when_.toNat ≤ (s.to t).devNs) :=
  ⟨{ up with waiting := [.hifNop 0 (item 0x1000 0 0)] }, 0, 7, .hifNop 0 (item 0x1000 0 0), item 0x1000 0 0, by decide +kernel⟩

theorem wit_HostInterfaceOperationsComplete_1 :
    ∃ (s : State) (t : Nat) (it : Item) (late : Bool),
      ((s.to t).goes 1 it Checks.pass late = true) :=
  ⟨up, 0, item 0x1000 0 0, false, by decide +kernel⟩

theorem wit_HostInterfaceOperationsComplete_2 :
    ∃ (s : State) (t : Nat) (it : Item) (late : Bool) (l : LongOp),
      ((s.to t).namedLong it = some l) ∧ ((s.to t).goes 1 it Checks.pass late = true) :=
  ⟨{ up with hif := { up.hif with longs := [⟨0, 0, item 0x7001 0 256, 7, .running, 0, 9, 0, none, 0, Desc.zero, []⟩] } }, 0, item 0x1004 0 0, false, ⟨0, 0, item 0x7001 0 256, 7, .running, 0, 9, 0, none, 0, Desc.zero, []⟩, by decide +kernel⟩

theorem wit_HostInterfaceOperationsComplete_3 :
    ∃ (s : State) (t : Nat) (it : Item) (late : Bool) (l : LongOp),
      ((s.to t).namedLong it = some l) ∧ (l.state = .running) ∧ ((s.to t).goes 1 it Checks.pass late = true) :=
  ⟨{ up with hif := { up.hif with longs := [⟨0, 0, item 0x7001 0 256, 7, .running, 0, 9, 0, none, 0, Desc.zero, []⟩] } }, 0, item 0x1001 0 0, false, ⟨0, 0, item 0x7001 0 256, 7, .running, 0, 9, 0, none, 0, Desc.zero, []⟩, by decide +kernel⟩

theorem wit_HostInterfaceOperationsComplete_4 :
    ∃ (s : State) (t : Nat) (it : Item) (late : Bool) (l : LongOp),
      ((s.to t).namedLong it = some l) ∧ (l.state = .running) ∧ (l.ctl = none) ∧ ((s.to t).goes 1 it Checks.pass late
        = true) :=
  ⟨{ up with hif := { up.hif with longs := [⟨0, 0, item 0x7001 0 256, 7, .running, 0, 9, 0, none, 0, Desc.zero, []⟩] } }, 0, item 0x1003 0 0, false, ⟨0, 0, item 0x7001 0 256, 7, .running, 0, 9, 0, none, 0, Desc.zero, []⟩, by decide +kernel⟩

theorem wit_HostInterfaceOperationsComplete_5 :
    ∃ (s : State) (t : Nat) (it : Item) (late : Bool) (l : LongOp),
      ((s.to t).namedLong it = some l) ∧ (l.state = .suspended) ∧ ((s.to t).goes 1 it Checks.pass late = true) :=
  ⟨{ up with hif := { up.hif with longs := [⟨0, 0, item 0x7001 0 256, 7, .suspended, 0, 9, 0, none, 0, Desc.zero, []⟩] } }, 0, item 0x1003 0 0, false, ⟨0, 0, item 0x7001 0 256, 7, .suspended, 0, 9, 0, none, 0, Desc.zero, []⟩, by decide +kernel⟩

theorem wit_HostInterfaceOperationsComplete_6 :
    ∃ (s : State) (t : Nat) (it : Item) (late : Bool) (l : LongOp),
      ((s.to t).namedLong it = some l) ∧ (l.state = .suspended) ∧ ((s.to t).resumeKeyOk l = true) ∧ ((s.to t).goes 1
        it Checks.pass late = true) :=
  ⟨{ up with hif := { up.hif with longs := [⟨0, 0, item 0x7001 0 256, 7, .suspended, 0, 9, 0, none, 0, Desc.zero, []⟩] } }, 0, item 0x1002 0 0, false, ⟨0, 0, item 0x7001 0 256, 7, .suspended, 0, 9, 0, none, 0, Desc.zero, []⟩, by decide +kernel⟩

theorem wit_HostInterfaceOperationsComplete_7 :
    ∃ (s : State) (t : Nat) (ring : Fin 65) (tag : BitVec 16) (x : LongUnit) (l : LongOp),
      ((s.to t).longOf? ring.val tag.toNat = some l) ∧ l.state ≠ .suspended ∧ ((s.to t).longAtStage l = true) ∧
        ((s.to t).runs l.region (blockOf l.start.opcode.toNat) = true) :=
  ⟨{ up with hif := { up.hif with longs := [⟨0, 0, item 0x7001 0 256, 7, .running, 0, 9, 0, none, 0, Desc.zero, []⟩] } }, 0, 0, 0, .plain, ⟨0, 0, item 0x7001 0 256, 7, .running, 0, 9, 0, none, 0, Desc.zero, []⟩, by decide +kernel⟩

theorem wit_DispatcherCommandsComplete_1 :
    ∃ (s : State) (t : Nat) (port : Fin 78) (it : Item) (reserve : Bool),
      ((s.to t).runs 2 blkReady = true) ∧ ((s.to t).portNext port.val = some it) ∧ ((s.to t).lowerFirst port.val
        ((s.to t).workOf it).flow = false) ∧ ((s.to t).admits port.val it = .take reserve) :=
  ⟨(up.toPort 3 (item 0x7002 0 256)), 0, 3, item 0x7002 0 256, false, by decide +kernel⟩

theorem wit_DispatcherCommandsComplete_2 :
    ∃ (s : State) (t : Nat) (port : Fin 78) (it : Item),
      ((s.to t).runs 2 blkReady = true) ∧ ((s.to t).portNext port.val = some it) ∧ ((s.to t).lowerFirst port.val
        ((s.to t).workOf it).flow = false) ∧ ((s.to t).admits port.val it = .obsFails) :=
  ⟨fullPool, 0, 64, obsIt, by decide +kernel⟩

theorem wit_DispatcherCommandsComplete_3 :
    ∃ (s : State) (t : Nat) (st : Stage) (e : Entry) (stage : Stage) (since : Nat),
      ((s.to t).runs 2 blkReady = true) ∧ ((s.to t).runs st.region (st.block e.item) = true) ∧ ((s.to t).offered st =
        some e) ∧ (e.place = .waiting stage since) :=
  ⟨{ up with dsp := { up.dsp with entries := [⟨item 0x7002 0 256, 256, false, .waiting .pad 0⟩] } }, 0, .pad, ⟨item 0x7002 0 256, 256, false, .waiting .pad 0⟩, .pad, 0, by decide +kernel⟩

theorem wit_DispatcherCommandsComplete_4 :
    ∃ (s : State) (t : Nat) (flow : Fin 1024),
      ((s.to t).runs 2 blkRelease = true) :=
  ⟨up, 0, 3, by decide +kernel⟩

theorem wit_DispatcherCommandsComplete_5 :
    ∃ (s : State) (t : Nat) (rq : Requester) (val : Word),
      ((s.to t).reaches rq Reg.DSP_OBS_SEL = true) :=
  ⟨up, 0, 0, 5, by decide +kernel⟩

theorem wit_DispatcherCommandsComplete_6 :
    ∃ (s : State) (t : Nat) (rq : Requester) (val busy win : Word),
      ((s.to t).reaches rq Reg.DSP_LOAD_SEL = true) :=
  ⟨up, 0, 0, 5, 7, 9, by decide +kernel⟩

theorem wit_QueueCommandsComplete_1 :
    ∃ (s : State) (t : Nat) (q : Fin 128) (producer : Fin 16) (d : BitVec 64) (o : Option (Nat × Nat)),
      (producerOk q.val producer.val = true) ∧ (isMerge q.val = false) ∧ (captureOf q.val = none) ∧ ((s.to t).queueOn
        q.val = true) ∧ ((s.to t).packetMode q.val = false) ∧ ((s.to t).queueFull q.val = false) :=
  ⟨queueUp, 0, 100, 5, 3, none, by decide +kernel⟩

theorem wit_QueueCommandsComplete_2 :
    ∃ (s : State) (t : Nat) (q : Fin 128) (producer : Fin 16) (d : BitVec 64) (o : Option (Nat × Nat)),
      (producerOk q.val producer.val = true) ∧ (isMerge q.val = false) ∧ (captureOf q.val = none) ∧ ((s.to t).queueOn
        q.val = true) ∧ ((s.to t).packetMode q.val = false) ∧ ((s.to t).queueFull q.val = true) :=
  ⟨(queueUp.setQueue 100 { QueueRt.reset with fill := List.replicate 16 ⟨0, 0, true, none⟩ }), 0, 100, 5, 3, none, by decide +kernel⟩

theorem wit_QueueCommandsComplete_3 :
    ∃ (s : State) (t : Nat) (q : Fin 128) (producer : Fin 16) (p : QPush),
      (producerOk q.val producer.val = true) ∧ (isMerge q.val = true) ∧ ((s.to t).runs 3 blkQueues = true) :=
  ⟨up, 0, 3, 5, .openPkt, by decide +kernel⟩

theorem wit_QueueCommandsComplete_4 :
    ∃ (s : State) (t : Nat) (q : Fin 128) (producer : Fin 16) (p : QPush),
      (producerOk q.val producer.val = false) :=
  ⟨up, 0, 25, 6, .openPkt, by decide +kernel⟩

theorem wit_QueueCommandsComplete_5 :
    ∃ (s : State) (t : Nat) (q : Fin 128) (x : QWord) (rest : List QWord),
      (captureOf q.val = none) ∧ ((s.to t).queueOn q.val = true) ∧ ((s.to t).mayRead q.val = true) ∧
        (((s.to t).queueOf q.val).drain = x :: rest) :=
  ⟨(queueUp.setQueue 100 { QueueRt.reset with drain := [⟨5, 0, true, none⟩] }), 0, 100, ⟨5, 0, true, none⟩, [], by decide +kernel⟩

theorem wit_QueueCommandsComplete_6 :
    ∃ (s : State) (t : Nat) (q : Fin 128) (x : QWord) (rest : List QWord) (it : Item) (r c : Nat),
      (captureOf q.val = none) ∧ ((s.to t).queueOn q.val = true) ∧ ((s.to t).mayRead q.val = true) ∧
        (((s.to t).queueOf q.val).drain = x :: rest) ∧ (x.tag = 7#3) ∧ (x.origin = some (r, c)) ∧ (((s.to t).queueOf
        q.val).poison = 0) ∧ (((s.to t).setQueue q.val { ((s.to t).queueOf q.val) with
          drain := rest, drainPk := stepPackets ((s.to t).queueOf q.val).drainPk, poison := ((s.to t).queueOf
            q.val).poison - 1, lastRead := (s.to t).cyc, popped := some x, reading := !rest.isEmpty }).itemOf? it.id =
        some it) :=
  ⟨{ (queueUp.setQueue 100 { QueueRt.reset with drain := [⟨5, 7, true, some (5, 3)⟩] }) with waiting := [.hifNop 0 (item 0x1000 0 0)] }, 0, 100, ⟨5, 7, true, some (5, 3)⟩, [], item 0x1000 0 0, 5, 3, by decide +kernel⟩

theorem wit_QueueCommandsComplete_7 :
    ∃ (s : State) (t : Nat) (q : Fin 128) (hit : Bool) (into : Option Nat),
      ((s.to t).queueOn q.val = true) ∧ ((s.to t).mayRead q.val = false) :=
  ⟨((queueUp.set (B.MQF_Q_LIM_BURST 100) 4).setQueue 100 { QueueRt.reset with drain := [⟨5, 0, true, none⟩] }), 0, 100, false, none, by decide +kernel⟩

theorem wit_QueueCommandsComplete_8 :
    ∃ (s : State) (t : Nat) (q : Fin 128),
      (captureOf q.val = none) ∧ ((s.to t).queueOn q.val = true) ∧ ((s.to t).mayRead q.val = true) ∧
        (((s.to t).queueOf q.val).drain = []) :=
  ⟨queueUp, 0, 100, by decide +kernel⟩

theorem wit_QueueCommandsComplete_9 :
    ∃ (s : State) (t : Nat) (q : Fin 128),
      ((s.to t).queueOn q.val = true) ∧ (s.to t).get (B.MQF_Q_LIM_QTO q.val) ≠ 0 ∧ ((((s.to t).queueOf
        q.val).drain.isEmpty && ((s.to t).queueOf q.val).fill.isEmpty) = false) ∧ (((s.to t).queueOf q.val).reading =
        false) ∧ ((s.to t).get (B.MQF_Q_LIM_QTO q.val) ≤ ((s.to t).cyc - ((s.to t).queueOf q.val).lastRead) * 2) :=
  ⟨((queueUp.setQueue 100 { QueueRt.reset with drain := [⟨5, 0, true, none⟩] }).set (B.MQF_Q_LIM_QTO 100) 4), 9, 100, by decide +kernel⟩

theorem wit_QueueCommandsComplete_10 :
    ∃ (s : State) (t : Nat) (q : Fin 9) (r : Nat) (rest : List Nat) (p : Packet),
      q.val ≠ 0 ∧ ((s.to t).queueOn q.val = true) ∧ ((s.to t).mergeTurn q.val = r :: rest) ∧ (Sp.find
        (s.to t).mqf.staging (16 * q.val + r) = some p) ∧ (((s.to t).pushPacket q.val r p).2 = false) ∧ (p.data.length
        ≤ (({ (((s.to t).pushPacket q.val r p).1) with
          mqf := { (((s.to t).pushPacket q.val r p).1).mqf with
              staging := Sp.drop (((s.to t).pushPacket q.val r p).1).mqf.staging (16 * q.val + r), served := Sp.put
                (((s.to t).pushPacket q.val r p).1).mqf.served q.val r } }) : State).get (B.MQF_Q_CFG_MAX_PKT q.val))
        ∧ (p.ends = none) :=
  ⟨mergeUp, 0, 3, 5, [], ⟨0, 0, [1], [], none⟩, by decide +kernel⟩

theorem wit_QueueCommandsComplete_11 :
    ∃ (s : State) (t : Nat) (rq : Requester) (q : Fin 128) (val : Word),
      ((s.to t).reaches rq (Reg.MQF_Q_CFG q.val) = true) ∧ (96 ≤ q.val) ∧ (((s.to t).reached rq (Reg.MQF_Q_CFG q.val)
        true).flag (B.MQF_Q_CFG_ENABLE q.val) = false) ∧ (val.getLsbD 31 = true) ∧ (((s.to t).reached rq
        (Reg.MQF_Q_CFG q.val) true).queueCfgOk val = true) :=
  ⟨up, 0, 0, 100, 0x80000004, by decide +kernel⟩

theorem wit_QueueCommandsComplete_12 :
    ∃ (s : State) (t : Nat) (rq : Requester) (q : Fin 128) (val : Word),
      ((s.to t).reaches rq (Reg.MQF_Q_CFG q.val) = true) ∧ (96 ≤ q.val) ∧ (((s.to t).reached rq (Reg.MQF_Q_CFG q.val)
        true).flag (B.MQF_Q_CFG_ENABLE q.val) = false) ∧ (val.getLsbD 31 = true) ∧ (((s.to t).reached rq
        (Reg.MQF_Q_CFG q.val) true).queueCfgOk val = false) :=
  ⟨up, 0, 0, 100, 0x80000003, by decide +kernel⟩

theorem wit_QueueCommandsComplete_13 :
    ∃ (s : State) (t : Nat) (rq : Requester) (q : Fin 128) (val : Word),
      ((s.to t).reaches rq (Reg.MQF_Q_CFG q.val) = true) ∧ (q.val < 96) ∧ (((s.to t).reached rq (Reg.MQF_Q_CFG q.val)
        true).flag (B.MQF_Q_CFG_ENABLE q.val) = true) :=
  ⟨(up.setFlag (B.MQF_Q_CFG_ENABLE 25) true), 0, 0, 25, 0, by decide +kernel⟩

theorem wit_QueueCommandsComplete_14 :
    ∃ (s : State) (t : Nat) (found : Fin 3),
      ((s.to t).up 3 = true) ∧ ((s.to t).halter = false) ∧ ((s.to t).chip.stabled = false) ∧ ((s.to t).flag
        B.MQF_DRAM_STS_TRAINED = true) :=
  ⟨(up.setFlag B.MQF_DRAM_STS_TRAINED true), 0, 1, by decide +kernel⟩

theorem wit_FleetCycleCommandsComplete_1 :
    ∃ (s : State) (t : Nat),
      (s.to t).hif.own ≠ 0 ∧ (s.to t).hif.wdogMs ≠ 0 ∧ ((s.to t).hif.wdogLast + (s.to t).hif.wdogMs * cycMs <
        (s.to t).cyc) :=
  ⟨{ up with hif := { up.hif with own := 1, wdogMs := 1 } }, 600000, by decide +kernel⟩

theorem wit_FleetCycleCommandsComplete_2 :
    ∃ (s : State) (t : Nat),
      ((s.to t).nextStart ≤ (s.to t).devNs) ∧ ((s.to t).air.counting = true) ∧ (((s.to t).beginFrame
        (s.to t).nextStart false).chip.stabled = false) ∧ (((s.to t).beginFrame (s.to t).nextStart
        false).takeOwners.air.counting = true) ∧ (((((s.to t).beginFrame (s.to t).nextStart
        false).takeOwners).switchSched).standby = false) :=
  ⟨{ airUp with ctr := 100000000 * 2 ^ 40 }, 0, by decide +kernel⟩

theorem wit_FleetCycleCommandsComplete_3 :
    ∃ (s : State) (t : Nat),
      ((s.to t).nextStart ≤ (s.to t).devNs) ∧ ((s.to t).air.counting = true) ∧ (((s.to t).beginFrame
        (s.to t).nextStart false).chip.stabled = true) :=
  ⟨{ airUp with ctr := 100000000 * 2 ^ 40, chip := { airUp.chip with stabled := true } }, 0, by decide +kernel⟩

theorem wit_FleetCycleCommandsComplete_4 :
    ∃ (s : State) (t : Nat) (rq : Requester) (head : Fin 8) (val : Word),
      ((s.to t).reaches rq (Reg.AIR_HEAD_CTL head.val) = true) ∧ (((if ((s.to t).reached rq (Reg.AIR_HEAD_CTL
        head.val) true).headsUp.contains head.val then (((s.to t).reached rq (Reg.AIR_HEAD_CTL head.val)
        true).softWrite (Reg.AIR_HEAD_CTL head.val) val) else (((s.to t).reached rq (Reg.AIR_HEAD_CTL head.val)
        true).softWrite (Reg.AIR_HEAD_CTL head.val) val).meetHead head.val)).flag (B.AIR_HEAD_CTL_ENABLE head.val) =
        true) ∧ (((if ((s.to t).reached rq (Reg.AIR_HEAD_CTL head.val) true).headsUp.contains head.val then
        (((s.to t).reached rq (Reg.AIR_HEAD_CTL head.val) true).softWrite (Reg.AIR_HEAD_CTL head.val) val) else
        (((s.to t).reached rq (Reg.AIR_HEAD_CTL head.val) true).softWrite (Reg.AIR_HEAD_CTL head.val) val).meetHead
        head.val)).air.startAt = none) :=
  ⟨up, 0, 0, 3, 1, by decide +kernel⟩

theorem wit_FleetCycleCommandsComplete_5 :
    ∃ (s : State) (t : Nat),
      ((s.to t).air.counting = true) ∧ ((s.to t).runs 9 blkSched = true) ∧ ((s.to t).standby = false) ∧
        ((s.to t).air.sfStart + 40000000 ≤ (s.to t).devNs) ∧ (s.to t).air.builtFor ≠ some (((s.to t).sfn + 1) % 2 ^
        48) :=
  ⟨{ airUp with ctr := 50000000 * 2 ^ 40 }, 0, by decide +kernel⟩

theorem wit_FleetCycleCommandsComplete_6 :
    ∃ (s : State) (t : Nat),
      ((s.to t).air.counting = false) ∧ ((s.to t).air.startAt.isSome = true) ∧ ((s.to t).nextStart ≤ (s.to t).devNs +
        60000000) ∧ ((s.to t).runs 9 blkSched = true) ∧ ((s.to t).standby = false) ∧ (s.to t).air.builtFor ≠ some
        ((s.to t).rd64 Reg.AIR_SF_NUM_INIT % 2 ^ 48) :=
  ⟨{ airUp with ctr := 50000000 * 2 ^ 40, air := { airUp.air with counting := false, startAt := some 100000000, builtFor := none } }, 0, by decide +kernel⟩

theorem wit_FleetCycleCommandsComplete_7 :
    ∃ (s : State) (t : Nat),
      ((s.to t).air.counting = true) ∧ (s.to t).air.marked ≠ some ((s.to t).markDue.1, (s.to t).markDue.2.1) :=
  ⟨airUp, 0, by decide +kernel⟩

theorem wit_HeadsAndDownlinksComplete_1 :
    ∃ (s : State) (t : Nat) (head : Fin 8) (chars : List LinkSym),
      ((s.to t).flag (B.AIR_HEAD_CTL_ENABLE head.val) = true) ∧ (((((s.to t).linkRx head.val).run chars)).2 = []) :=
  ⟨airUp, 0, 0, [.valid], by decide +kernel⟩

theorem wit_HeadsAndDownlinksComplete_2 :
    ∃ (s : State) (t : Nat) (head : Fin 8) (chars : List LinkSym) (st : Nat),
      ((s.to t).flag (B.AIR_HEAD_CTL_ENABLE head.val) = true) ∧ (((((s.to t).linkRx head.val).run chars)).2 = [st]) :=
  ⟨airUp, 0, 0, [.comma], 1, by decide +kernel⟩

theorem wit_HeadsAndDownlinksComplete_3 :
    ∃ (s : State) (t : Nat) (head : Fin 8) (pkt : List Byte) (p : Packet8b),
      (((s.to t).takePacket head.val pkt 0x83).2 = some p) :=
  ⟨airUp, 0, 1, (⟨0x83, 0, 0, [1, 40]⟩ : Packet8b).bytes, ⟨0x83, 0, 0, [1, 40]⟩, by decide +kernel⟩

theorem wit_HeadsAndDownlinksComplete_4 :
    ∃ (s : State) (t : Nat) (head : Fin 8) (pkt : List Byte),
      (((s.to t).takePacket head.val pkt 0x83).2 = none) :=
  ⟨airUp, 0, 1, [], by decide +kernel⟩

theorem wit_HeadsAndDownlinksComplete_5 :
    ∃ (s : State) (t : Nat) (head : Fin 8) (pkt : List Byte) (p : Packet8b),
      (((s.to t).takePacket head.val pkt 0x84).2 = some p) :=
  ⟨airUp, 0, 1, (⟨0x84, 0, 5, [7]⟩ : Packet8b).bytes, ⟨0x84, 0, 5, [7]⟩, by decide +kernel⟩

theorem wit_HeadsAndDownlinksComplete_6 :
    ∃ (s : State) (t : Nat) (head : Fin 8) (pkt : List Byte) (p : Packet8b),
      (((s.to t).takePacket head.val pkt 0x82).2 = some p) ∧ bitsOf p.arg 10 9 ≠ 1 ∧ bitsOf p.arg 10 9 ≠ 2 :=
  ⟨airUp, 0, 1, (⟨0x82, 0, 0, []⟩ : Packet8b).bytes, ⟨0x82, 0, 0, []⟩, by decide +kernel⟩

theorem wit_HeadsAndDownlinksComplete_7 :
    ∃ (s : State) (t : Nat) (head : Fin 8) (pkt : List Byte) (p : Packet8b),
      (((s.to t).takePacket head.val pkt 0x82).2 = some p) ∧ (bitsOf p.arg 10 9 = 1) :=
  ⟨airUp, 0, 1, (⟨0x82, 0, 0x200, []⟩ : Packet8b).bytes, ⟨0x82, 0, 0x200, []⟩, by decide +kernel⟩

theorem wit_HeadsAndDownlinksComplete_8 :
    ∃ (s : State) (t : Nat) (ctx : BitVec 8) (p : SpanOf) (k fc : Nat) (q : AirPlan),
      ((s.to t).airServes = true) ∧ ((s.to t).joined ctx.toNat = true) ∧ ((s.to t).nextHop ctx.toNat = 0) ∧
        ((s.to t).spanNow ((s.to t).spansType ctx.toNat .downlink) ((s.to t).airCtx ctx.toNat).downAt = some (p, k)) ∧
        ((((s.to t).setAirCtx ctx.toNat { (s.to t).airCtx ctx.toNat with downAt := k }).countLate ctx.toNat
        ((s.to t).air.sfStart + p.start)).nextFcnt ctx.toNat = some fc) ∧ (((((s.to t).setAirCtx ctx.toNat {
        (s.to t).airCtx ctx.toNat with downAt := k }).countLate ctx.toNat ((s.to t).air.sfStart + p.start)).airCtx
        ctx.toNat).planFor ((s.to t).air.sfStart + p.start) = some q) ∧ (q.bytes.length + 20 ≤ p.capacity) :=
  ⟨(airJoined.setAirCtx 5 { airJoined.airCtx 5 with plans := [⟨leBytes 40 9, 0, false⟩] }), 0, 5, ⟨downE, 0, 0, 1, 2⟩, 2, 1, ⟨leBytes 40 9, 0, false⟩, by decide +kernel⟩

theorem wit_HeadsAndDownlinksComplete_9 :
    ∃ (s : State) (t : Nat) (ctx : BitVec 8) (p : SpanOf) (k fc : Nat),
      ((s.to t).airServes = true) ∧ ((s.to t).joined ctx.toNat = true) ∧ ((s.to t).nextHop ctx.toNat = 0) ∧
        ((s.to t).spanNow ((s.to t).spansType ctx.toNat .downlink) ((s.to t).airCtx ctx.toNat).downAt = some (p, k)) ∧
        ((((s.to t).setAirCtx ctx.toNat { (s.to t).airCtx ctx.toNat with downAt := k }).countLate ctx.toNat
        ((s.to t).air.sfStart + p.start)).nextFcnt ctx.toNat = some fc) ∧ (((((s.to t).setAirCtx ctx.toNat {
        (s.to t).airCtx ctx.toNat with downAt := k }).countLate ctx.toNat ((s.to t).air.sfStart + p.start)).airCtx
        ctx.toNat).planFor ((s.to t).air.sfStart + p.start) = none) :=
  ⟨airJoined, 0, 5, ⟨downE, 0, 0, 1, 2⟩, 2, 1, by decide +kernel⟩

theorem wit_HeadsAndDownlinksComplete_10 :
    ∃ (s : State) (t : Nat) (ctx : BitVec 8) (p : SpanOf) (k : Nat) (g : AirMsg),
      ((s.to t).airServes = true) ∧ ctx.toNat ≠ 0 ∧ ((s.to t).nextHop ctx.toNat = 0) ∧ ((s.to t).spanNow
        ((s.to t).bulkDown ctx.toNat ++ (((s.to t).relaySpans ctx.toNat).filterMap (fun p => if p.2 then some p.1 else
        none))) ((s.to t).airCtx ctx.toNat).bulkAt = some (p, k)) ∧ (p.entry.type = .bulk) ∧ ((((s.to t).setAirCtx
        ctx.toNat { (s.to t).airCtx ctx.toNat with bulkAt := k }).airSent []).nextMsg ctx.toNat = some g) ∧ (g.total ≤
        p.capacity) :=
  ⟨{ airJoined with ctr := 1200000 * 2 ^ 40, air := { airJoined.air with ctx := [(5, { airJoined.airCtx 5 with sendSleep := true })] } }, 0, 5, ⟨bulkE, 0, 0, 3, 2⟩, 4, ⟨6, [6], true⟩, by decide +kernel⟩

theorem wit_ReceivedFramesAndTimersComplete_1 :
    ∃ (s : State) (t : Nat) (head : Fin 8) (pkt : List Byte) (opens : List Opening) (p : Packet8b),
      ((s.to t).rgnState 9 = rsRun) ∧ ((s.to t).runs 9 blkHeads = true) ∧ (((s.to t).takePacket head.val pkt 0x81).2 =
        some p) ∧ (20 ≤ p.payload.length) ∧ (p.payload.length ≤ 1300) :=
  ⟨airUp, 0, 1, (⟨0x81, 0, 0, leBytes 24 0⟩ : Packet8b).bytes, [], ⟨0x81, 0, 0, leBytes 24 0⟩, by decide +kernel⟩

theorem wit_ReceivedFramesAndTimersComplete_2 :
    ∃ (s : State) (t : Nat) (head : Fin 8) (pkt : List Byte) (opens : List Opening) (p : Packet8b),
      ((s.to t).rgnState 9 = rsRun) ∧ ((s.to t).runs 9 blkHeads = true) ∧ (((s.to t).takePacket head.val pkt 0x81).2 =
        some p) ∧ (p.payload.length ≤ 19) :=
  ⟨airUp, 0, 1, (⟨0x81, 0, 0, leBytes 19 0⟩ : Packet8b).bytes, [], ⟨0x81, 0, 0, leBytes 19 0⟩, by decide +kernel⟩

theorem wit_ReceivedFramesAndTimersComplete_3 :
    ∃ (s : State) (t : Nat) (head : Fin 8) (pkt : List Byte) (opens : List Opening) (p : Packet8b),
      ((s.to t).rgnState 9 = rsRun) ∧ ((s.to t).runs 9 blkHeads = true) ∧ (((s.to t).takePacket head.val pkt 0x81).2 =
        some p) ∧ (1301 ≤ p.payload.length) :=
  ⟨airUp, 0, 1, (⟨0x81, 0, 0, leBytes 1301 0⟩ : Packet8b).bytes, [], ⟨0x81, 0, 0, leBytes 1301 0⟩, ⟨by decide +kernel, by decide +kernel, long_taken, by decide +kernel⟩⟩

theorem wit_ReceivedFramesAndTimersComplete_4 :
    ∃ (s : State) (t : Nat) (head : Fin 8) (pkt : List Byte) (opens : List Opening),
      ((s.to t).rgnState 9 = rsRun) ∧ ((s.to t).runs 9 blkHeads = true) ∧ (((s.to t).takePacket head.val pkt 0x81).2 =
        none) :=
  ⟨airUp, 0, 1, [], [], by decide +kernel⟩

theorem wit_ReceivedFramesAndTimersComplete_5 :
    ∃ (s : State) (t : Nat) (ctx : BitVec 8) (e : Expect) (rest : List Expect),
      (((s.to t).airCtx ctx.toNat).expect = e :: rest) ∧ ((s.to t).airServes = true) ∧ ((s.to t).judgeDue ctx.toNat e
        = true) ∧ (e.heard = true) :=
  ⟨{ airJoined with air := { airJoined.air with ctx := [(5, { airJoined.airCtx 5 with expect := [⟨0, 0, true⟩] })] } }, 0, 5, ⟨0, 0, true⟩, [], by decide +kernel⟩

theorem wit_ReceivedFramesAndTimersComplete_6 :
    ∃ (s : State) (t : Nat) (ctx : BitVec 8) (e : Expect) (rest : List Expect),
      (((s.to t).airCtx ctx.toNat).expect = e :: rest) ∧ ((s.to t).airServes = true) ∧ ((s.to t).judgeDue ctx.toNat e
        = true) ∧ (e.heard = false) :=
  ⟨{ airJoined with air := { airJoined.air with ctx := [(5, { airJoined.airCtx 5 with expect := [⟨0, 0, false⟩] })] } }, 0, 5, ⟨0, 0, false⟩, [], by decide +kernel⟩

theorem wit_ReceivedFramesAndTimersComplete_7 :
    ∃ (s : State) (t : Nat) (ctx : BitVec 8) (until_ : Nat),
      (((s.to t).airCtx ctx.toNat).callUntil = some until_) ∧ ((s.to t).ctxState ctx.toNat = ctxLost) ∧ (until_ ≤
        (s.to t).cyc) ∧ ((s.to t).standby = false) :=
  ⟨((airJoined.setAirCtx 5 { airJoined.airCtx 5 with callUntil := some 4 }).set (B.AIR_CTX_STS_STATE 5) ctxLost), 9, 5, 4, by decide +kernel⟩

theorem wit_ReceivedFramesAndTimersComplete_8 :
    ∃ (s : State) (t : Nat) (ctx : BitVec 8) (j : Joining) (f : Nat),
      ((s.to t).standby = false) ∧ (((s.to t).airCtx ctx.toNat).joining = some j) ∧ (j.lapse = some f) ∧ (f ≤
        (s.to t).sfn) :=
  ⟨(airUp.setAirCtx 5 { AirCtx.reset with joining := some ⟨none, none, 0, 0, false, false, some 0⟩ }), 0, 5, ⟨none, none, 0, 0, false, false, some 0⟩, 0, by decide +kernel⟩

theorem wit_ReceivedFramesAndTimersComplete_9 :
    ∃ (s : State) (t : Nat) (ctx : BitVec 8) (r : JoinReq),
      ((s.to t).standby = false) ∧ (((s.to t).airCtx ctx.toNat).joining = none) ∧ (((s.to t).airCtx ctx.toNat).joinReq
        = some r) ∧ (r.lapse ≤ (s.to t).sfn) :=
  ⟨(airUp.setAirCtx 5 { AirCtx.reset with joinReq := some ⟨0, false, false, 0, 0⟩ }), 0, 5, ⟨0, false, false, 0, 0⟩, by decide +kernel⟩

theorem wit_SessionOperationsComplete_1 :
    ∃ (s : State) (t : Nat) (it : Item) (late : Bool) (bnonce : BitVec 128),
      ((s.to t).goes 9 it (⟨it.d.context != 0 && (s.to t).rateFits (argBit it.d.arg0 0), true, ((s.to t).joinKey?
        it.ctx).isSome && (s.to t).beaconKey?.isSome && ((s.to t).targetSlot 0x1FF).isSome, ((s.to t).airCtx
        it.ctx).joinReq.isSome && !(s.to t).joined it.ctx && ((s.to t).spansType it.ctx .uplink).length == (if (argBit
        it.d.arg0 0) then 2 else 1) && ((s.to t).bulkDown it.ctx).any (fun p => decide (78 ≤ p.capacity))⟩) late =
        true) :=
  ⟨(keyed (airUp.setAirCtx 5 { AirCtx.reset with joinReq := some ⟨0, false, false, 0, 0⟩ })), 0, item 0x9010 5 0, false, 0, by decide +kernel⟩

theorem wit_SessionOperationsComplete_2 :
    ∃ (s : State) (t : Nat) (it : Item) (late : Bool),
      ((s.to t).goes 9 it (⟨it.d.context != 0 && true, true, ((s.to t).joinKey? it.ctx).isSome, ((s.to t).airCtx
        it.ctx).joinReq.isSome && !((s.to t).bulkDown it.ctx).isEmpty⟩) late = true) :=
  ⟨(keyed (airUp.setAirCtx 5 { AirCtx.reset with joinReq := some ⟨0, false, false, 0, 0⟩ })), 0, item 0x9011 5 0, false, by decide +kernel⟩

theorem wit_SessionOperationsComplete_3 :
    ∃ (s : State) (t : Nat) (it : Item) (late : Bool),
      ((s.to t).goes 9 it (⟨it.d.context != 0 && ((argBits it.d.arg0 7 0) == 2 || (argBits it.d.arg0 7 0) == 4), true,
        true, (s.to t).joined it.ctx⟩) late = true) :=
  ⟨airJoined, 0, { item 0x9012 5 0 with d := { (item 0x9012 5 0).d with arg0 := 2 } }, false, by decide +kernel⟩

theorem wit_SessionOperationsComplete_4 :
    ∃ (s : State) (t : Nat) (it : Item) (late : Bool),
      ((s.to t).goes 9 it (⟨it.d.context != 0 && true, true, true, (s.to t).ctxState it.ctx == ctxAwake &&
        !((s.to t).spansType it.ctx .sleeper).isEmpty⟩) late = true) :=
  ⟨airJoined, 0, item 0x9013 5 0, false, by decide +kernel⟩

theorem wit_SessionOperationsComplete_5 :
    ∃ (s : State) (t : Nat) (it : Item) (late : Bool),
      ((s.to t).goes 9 it (⟨it.d.context != 0 && true, true, true, (s.to t).ctxState it.ctx == ctxSleeper⟩) late =
        true) :=
  ⟨(airJoined.set (B.AIR_CTX_STS_STATE 5) ctxSleeper), 0, item 0x9014 5 0, false, by decide +kernel⟩

theorem wit_SessionOperationsComplete_6 :
    ∃ (s : State) (t : Nat) (it : Item) (late : Bool),
      ((s.to t).goes 9 it (⟨it.d.context != 0 && true, true, true, (s.to t).routeAllowed it.ctx (argBits it.d.arg0 7
        0)⟩) late = true) :=
  ⟨airJoined, 0, item 0x9015 5 0, false, by decide +kernel⟩

theorem wit_KeyScheduleAndInjectOperationsComplete_1 :
    ∃ (s : State) (t : Nat) (it : Item) (late : Bool),
      ((s.to t).goes 9 it (⟨it.d.context != 0 && true, true, ((s.to t).airSlot? (argBits it.d.arg0 8 0)).isSome,
        !(s.to t).joined it.ctx⟩) late = true) :=
  ⟨(keyed airUp), 0, { item 0x9016 5 0 with d := { (item 0x9016 5 0).d with arg0 := 1 } }, false, by decide +kernel⟩

theorem wit_KeyScheduleAndInjectOperationsComplete_2 :
    ∃ (s : State) (t : Nat) (it : Item) (late : Bool),
      ((s.to t).goes 9 it ⟨it.d.context == 0, true, ((s.to t).airSlot? (argBits it.d.arg0 8 0)).isSome,
        (s.to t).joinedCtx.isEmpty⟩ late = true) :=
  ⟨(keyed airUp), 0, { item 0x9018 0 256 with d := { (item 0x9018 0 256).d with arg0 := 1 } }, false, by decide +kernel⟩

theorem wit_KeyScheduleAndInjectOperationsComplete_3 :
    ∃ (s : State) (t : Nat) (it : Item) (late : Bool) (raw : List Byte) (opens : List Opening),
      ((s.to t).goes 9 it (⟨it.d.context != 0 && decide (20 ≤ it.d.len.toNat ∧ it.d.len.toNat ≤ 1300), true, true,
        (s.to t).joined it.ctx && (s.to t).flag (B.AIR_CTX_SESS_COMPAT it.ctx)⟩) late = true) ∧ (argBit it.d.arg0 0 =
        true) :=
  ⟨(airJoined.setFlag (B.AIR_CTX_SESS_COMPAT 5) true), 0, { item 0x9017 5 0 with d := { (item 0x9017 5 0).d with arg0 := 1, len := 60 } }, false, [], [], by decide +kernel⟩

theorem wit_KeyScheduleAndInjectOperationsComplete_4 :
    ∃ (s : State) (t : Nat) (it : Item) (late : Bool) (raw : List Byte) (opens : List Opening),
      ((s.to t).goes 9 it (⟨it.d.context != 0 && decide (20 ≤ it.d.len.toNat ∧ it.d.len.toNat ≤ 1300), true, true,
        (s.to t).joined it.ctx && (s.to t).flag (B.AIR_CTX_SESS_COMPAT it.ctx)⟩) late = true) ∧ (argBit it.d.arg0 0 =
        false) :=
  ⟨(airJoined.setFlag (B.AIR_CTX_SESS_COMPAT 5) true), 0, { item 0x9017 5 0 with d := { (item 0x9017 5 0).d with len := 60 } }, false, [], [], by decide +kernel⟩

theorem wit_KeyScheduleAndInjectOperationsComplete_5 :
    ∃ (s : State) (t : Nat) (it : Item) (late : Bool) (raw : List Byte) (file : SchedFile),
      (SchedFile.ofBytes (raw.take it.d.len.toNat) = file) ∧ ((s.to t).goes 9 it ⟨it.d.context == 0 && file.headerOk
        && file.crcOk && file.sched.wellFormed, file.format == 1, true, (s.to t).air.next.isNone &&
        (s.to t).keepsContexts file.sched⟩ late = true) :=
  ⟨airUp, 0, { item 0x9001 0 256 with d := { (item 0x9001 0 256).d with len := 64 } }, false, [0x44, 0x5A, 0x41, 0x53] ++ leBytes 2 0x40 ++ leBytes 2 1 ++ leBytes 2 7 ++ leBytes 14 0 ++ leBytes 4 64 ++ leBytes 4 (crc32c []).toNat ++ leBytes 32 0, ⟨true, true, 1, ⟨7, []⟩⟩, by decide +kernel⟩

theorem wit_BandPortsComplete_1 :
    ∃ (s : State) (t : Nat) (port : Fin 2) (bits : List PortBit),
      ((s.to t).samples port.val = true) :=
  ⟨(up.setFlag (B.GNB_PORT_CTL_ENABLE 1) true), 0, 1, [], by decide +kernel⟩

theorem wit_BandPortsComplete_2 :
    ∃ (s : State) (t : Nat) (port : Fin 2) (b : PortBit) (x : BandPort),
      ((s.to t).samples port.val = true) ∧ (x = (s.to t).band port.val) ∧ (x.rx.bits.length = 3) ∧ (b.frm = false) :=
  ⟨(((up.setFlag (B.GNB_PORT_CTL_ENABLE 1) true).setBand 1 { BandPort.reset with rx := { Sampler.reset with bits := [⟨true, true, true⟩, ⟨false, true, true⟩, ⟨true, true, false⟩], good := 255 } })), 0, 1, ⟨true, true, false⟩, { BandPort.reset with rx := { Sampler.reset with bits := [⟨true, true, true⟩, ⟨false, true, true⟩, ⟨true, true, false⟩], good := 255 } }, by decide +kernel⟩

theorem wit_BandPortsComplete_3 :
    ∃ (s : State) (t : Nat) (p : Nat) (bits : List PortBit) (x : BandPort),
      (x = (s.to t).band p) ∧ ((s.to t).flag (B.GNB_PORT_STS_SYNC p) = false) ∧ (frameOk bits = true) ∧ (255 ≤
        x.rx.good) :=
  ⟨(up.setBand 1 { BandPort.reset with rx := { Sampler.reset with good := 255 } }), 0, 1, [⟨true, true, true⟩, ⟨false, true, true⟩, ⟨true, true, false⟩, ⟨true, false, false⟩], { BandPort.reset with rx := { Sampler.reset with good := 255 } }, by decide +kernel⟩

theorem wit_BandPortsComplete_4 :
    ∃ (s : State) (t : Nat) (p : Nat) (bits : List PortBit),
      ((s.to t).flag (B.GNB_PORT_STS_SYNC p) = true) ∧ (frameOk bits = false) ∧ (8 ≤ ((0 :: (((s.to t).band
        p).rx.wrongs.map (· + 1)).filter (· < 256))).length) :=
  ⟨((up.setFlag (B.GNB_PORT_STS_SYNC 1) true).setBand 1 { BandPort.reset with rx := { Sampler.reset with wrongs := [1, 2, 3, 4, 5, 6, 7] } }), 0, 1, [⟨true, true, true⟩], by decide +kernel⟩

theorem wit_BandPortsComplete_5 :
    ∃ (s : State) (t : Nat) (port : Fin 2),
      (((s.to t).setBand port.val { ((s.to t).band port.val) with
          rx := { ((s.to t).band port.val).rx with
              count := 0, whole := (s.to t).flag (B.GNB_PORT_STS_SYNC port.val) } }).samples port.val = true) ∧
        (((s.to t).band port.val).rx.whole = true) ∧ (((s.to t).band port.val).rx.count + 2 ≤ 61380 ∨ 61382 ≤
        ((s.to t).band port.val).rx.count) :=
  ⟨(((up.setFlag (B.GNB_PORT_CTL_ENABLE 1) true).setBand 1 { BandPort.reset with rx := { Sampler.reset with whole := true, count := 61377 } })), 0, 1, by decide +kernel⟩

theorem wit_BandPortsComplete_6 :
    ∃ (s : State) (t : Nat) (port : Fin 2),
      (61379 ≤ ((s.to t).band port.val).rx.count) ∧ (((s.to t).band port.val).rx.count ≤ 61381) :=
  ⟨(((up.setFlag (B.GNB_PORT_CTL_ENABLE 1) true).setBand 1 { BandPort.reset with rx := { Sampler.reset with whole := true, count := 61380 } })), 0, 1, by decide +kernel⟩

theorem wit_BandPortsComplete_7 :
    ∃ (s : State) (t : Nat) (port : Fin 2) (x : BandPort),
      (x = (s.to t).band port.val) ∧ (((s.to t).setBand port.val { x with
          rx := { x.rx with meas := 0, level := 0 } }).samples port.val = true) ∧ ((s.to t).flag (B.GNB_PORT_STS_SYNC
        port.val) = true) ∧ ((s.to t).flag (B.GNB_PORT_CTL_AGC_HOLD port.val) = false) ∧ ((x.rx.meas == 0) = false) ∧
        (x.rx.level * 10 < ((s.to t).setBand port.val { x with rx := { x.rx with meas := 0, level := 0 } }).param
        P.AGC_TARGET * (2 * x.rx.meas)) ∧ ((((s.to t).setBand port.val { x with
          rx := { x.rx with meas := 0, level := 0 } }).dutiesInForce x.duties (((s.to t).setBand port.val { x with
          rx := { x.rx with meas := 0, level := 0 } }).get (B.GNB_PORT_STS_AGC_DUTY port.val))).any (fun d => decide
        (((s.to t).setBand port.val { x with rx := { x.rx with meas := 0, level := 0 } }).param P.AGC_JUMP < (d.1 -
        (min 1023 ((((s.to t).setBand port.val { x with rx := { x.rx with meas := 0, level := 0 } }).get
        (B.GNB_PORT_STS_AGC_DUTY port.val)) + 1))) + ((min 1023 ((((s.to t).setBand port.val { x with
          rx := { x.rx with meas := 0, level := 0 } }).get (B.GNB_PORT_STS_AGC_DUTY port.val)) + 1)) - d.1))) = false)
        :=
  ⟨(((up.setFlag (B.GNB_PORT_CTL_ENABLE 1) true).setFlag (B.GNB_PORT_STS_SYNC 1) true).setBand 1 { BandPort.reset with rx := { Sampler.reset with meas := 10 } }), 0, 1, { BandPort.reset with rx := { Sampler.reset with meas := 10 } }, by decide +kernel⟩

theorem wit_BandPortsComplete_8 :
    ∃ (s : State) (t : Nat) (port : Fin 2) (x : BandPort),
      (x = (s.to t).band port.val) ∧ (((s.to t).setBand port.val { x with
          rx := { x.rx with meas := 0, level := 0 } }).samples port.val = true) ∧ ((s.to t).flag (B.GNB_PORT_STS_SYNC
        port.val) = true) ∧ ((s.to t).flag (B.GNB_PORT_CTL_AGC_HOLD port.val) = false) ∧ ((x.rx.meas == 0) = false) ∧
        (((s.to t).setBand port.val { x with rx := { x.rx with meas := 0, level := 0 } }).param P.AGC_TARGET * (2 *
        x.rx.meas) < x.rx.level * 10) ∧ ((((s.to t).setBand port.val { x with
          rx := { x.rx with meas := 0, level := 0 } }).dutiesInForce x.duties (((s.to t).setBand port.val { x with
          rx := { x.rx with meas := 0, level := 0 } }).get (B.GNB_PORT_STS_AGC_DUTY port.val))).any (fun d => decide
        (((s.to t).setBand port.val { x with rx := { x.rx with meas := 0, level := 0 } }).param P.AGC_JUMP < (d.1 -
        ((((s.to t).setBand port.val { x with rx := { x.rx with meas := 0, level := 0 } }).get
        (B.GNB_PORT_STS_AGC_DUTY port.val)) - 1)) + (((((s.to t).setBand port.val { x with
          rx := { x.rx with meas := 0, level := 0 } }).get (B.GNB_PORT_STS_AGC_DUTY port.val)) - 1) - d.1))) = true) ∧
        (x.jumped = false) :=
  ⟨(((up.setFlag (B.GNB_PORT_CTL_ENABLE 1) true).setFlag (B.GNB_PORT_STS_SYNC 1) true).setBand 1 { BandPort.reset with rx := { Sampler.reset with meas := 10, level := 1000 }, duties := [(900, 0)] }), 0, 1, { BandPort.reset with rx := { Sampler.reset with meas := 10, level := 1000 }, duties := [(900, 0)] }, by decide +kernel⟩

theorem wit_BandPortsComplete_9 :
    ∃ (s : State) (t : Nat) (port : Fin 2) (powers : List Nat),
      ((s.to t).samples port.val = true) ∧ ((s.to t).flag (B.GNB_PORT_STS_SYNC port.val) = true) ∧ (((List.range
        powers.length).zip powers).filter (fun l => decide ((median2 powers + 20 * (s.to t).param P.NOTCH_THRESH) ≤ 2
        * l.2)) = []) :=
  ⟨((up.setFlag (B.GNB_PORT_CTL_ENABLE 1) true).setFlag (B.GNB_PORT_STS_SYNC 1) true), 0, 1, [5, 5, 5], by decide +kernel⟩

theorem wit_AntennaAndChannelsComplete_1 :
    ∃ (s : State) (t : Nat) (cur : BitVec 16),
      ((s.to t).runs 5 (blkFront 0) = true) ∧ ((s.to t).antBias = false) :=
  ⟨up, 0, 50, by decide +kernel⟩

theorem wit_AntennaAndChannelsComplete_2 :
    ∃ (s : State) (t : Nat) (cur : BitVec 16),
      ((s.to t).runs 5 (blkFront 0) = true) ∧ ((s.to t).antBias = true) ∧ (((s.to t).wr Reg.GNB_ANT_CUR
        cur.toNat).gnb.runClass = (((s.to t).wr Reg.GNB_ANT_CUR cur.toNat).antClass cur.toNat)) ∧ (((s.to t).wr
        Reg.GNB_ANT_CUR cur.toNat).gnb.runLen = 9) :=
  ⟨{ (up.setFlag B.GNB_ANT_CFG_BIAS_EN true) with gnb := { up.gnb with runClass := 1, runLen := 9 } }, 0, 0, by decide +kernel⟩

theorem wit_AntennaAndChannelsComplete_3 :
    ∃ (s : State) (t : Nat) (cur : BitVec 16),
      ((s.to t).runs 5 (blkFront 0) = true) ∧ ((s.to t).antBias = true) ∧ (((s.to t).wr Reg.GNB_ANT_CUR
        cur.toNat).gnb.runClass = (((s.to t).wr Reg.GNB_ANT_CUR cur.toNat).antClass cur.toNat)) ∧ ((s.to t).wr
        Reg.GNB_ANT_CUR cur.toNat).gnb.runLen ≠ 9 :=
  ⟨{ (up.setFlag B.GNB_ANT_CFG_BIAS_EN true) with gnb := { up.gnb with runClass := 1, runLen := 3 } }, 0, 0, by decide +kernel⟩

theorem wit_AntennaAndChannelsComplete_4 :
    ∃ (s : State) (t : Nat) (cur : BitVec 16),
      ((s.to t).runs 5 (blkFront 0) = true) ∧ ((s.to t).antBias = true) ∧ ((s.to t).wr Reg.GNB_ANT_CUR
        cur.toNat).gnb.runClass ≠ (((s.to t).wr Reg.GNB_ANT_CUR cur.toNat).antClass cur.toNat) :=
  ⟨(up.setFlag B.GNB_ANT_CFG_BIAS_EN true), 0, 0, by decide +kernel⟩

theorem wit_AntennaAndChannelsComplete_5 :
    ∃ (s : State) (t : Nat) (t0 : Nat),
      ((s.to t).gnb.offAt = some t0) ∧ (t0 + 5 * cycS ≤ (s.to t).cyc) ∧ ((s.to t).flag B.GNB_ANT_STS_LATCHED = false)
        :=
  ⟨{ up with gnb := { up.gnb with offAt := some 0 } }, 3000000000, 0, by decide +kernel⟩

theorem wit_AntennaAndChannelsComplete_6 :
    ∃ (s : State) (t : Nat) (rq : Requester) (val : Word),
      ((s.to t).reaches rq Reg.GNB_ANT_CFG = true) ∧ (val.getLsbD 1 = true) ∧ ((((s.to t).reached rq Reg.GNB_ANT_CFG
        true).softWrite Reg.GNB_ANT_CFG val).flag B.GNB_ANT_STS_LATCHED = true) :=
  ⟨(up.setFlag B.GNB_ANT_STS_LATCHED true), 0, 0, 3, by decide +kernel⟩

theorem wit_AntennaAndChannelsComplete_7 :
    ∃ (s : State) (t : Nat) (rq : Requester) (val : Word),
      ((s.to t).reaches rq Reg.GNB_ANT_CFG = true) ∧ ((((s.to t).reached rq Reg.GNB_ANT_CFG true).softWrite
        Reg.GNB_ANT_CFG val).flag B.GNB_ANT_STS_LATCHED = false) :=
  ⟨up, 0, 0, 3, by decide +kernel⟩

theorem wit_AntennaAndChannelsComplete_8 :
    ∃ (s : State) (t : Nat) (rq : Requester) (val : Word),
      ((s.to t).reaches rq Reg.GNB_TRK_MASK_PRN = true) ∧ fieldOf val 0 6 ≠ 0 ∧ fieldOf val 6 2 ≠ 3 ∧ (val.getLsbD 8 =
        true) :=
  ⟨up, 0, 0, 0x105, by decide +kernel⟩

theorem wit_AntennaAndChannelsComplete_9 :
    ∃ (s : State) (t : Nat) (engine : Fin 2) (prn : BitVec 6) (sig : Fin 6) (known l : List SigCand) (free : List Nat)
      (k : Nat) (x : SigCand),
      ((s.to t).runs 5 blkAcquire = true) ∧ ((s.to t).runs 5 blkTrack = true) ∧ ((s.to t).retiredGnb.contains (192 +
        engine.val) = false) ∧ (l = sortBy (s.to t).goesBefore ((s.to t).untracked known)) ∧ (free =
        (s.to t).freeChans) ∧ (free.head? = some k) ∧ ((l.take free.length).find? (fun y => y.prn == prn && y.sig ==
        sig) = some x) ∧ ((s.to t).flag (B.GNB_PORT_STS_SYNC (bandOf sig.val)) = true) :=
  ⟨(up.setFlag (B.GNB_PORT_STS_SYNC 0) true), 0, 0, 7, 2, [⟨7, 2, 3000⟩], [⟨7, 2, 3000⟩], List.range 192, 0, ⟨7, 2, 3000⟩, by decide +kernel⟩

theorem wit_AntennaAndChannelsComplete_10 :
    ∃ (s : State) (t : Nat) (ch : Fin 192) (c : Chan),
      ((s.to t).runs 5 blkTrack = true) ∧ (Sp.find (s.to t).gnb.chans ch.val = some c) :=
  ⟨{ up with gnb := { up.gnb with chans := [(4, ⟨0, 7, 0, false, none, 0, 0, 0, false⟩)] } }, 0, 4, ⟨0, 7, 0, false, none, 0, 0, 0, false⟩, by decide +kernel⟩

theorem wit_AntennaAndChannelsComplete_11 :
    ∃ (s : State) (t : Nat) (ch : Fin 192) (c : Chan) (t0 : Nat),
      ((s.to t).runs 5 blkTrack = true) ∧ (Sp.find (s.to t).gnb.chans ch.val = some c) ∧ (c.coast = some t0) ∧ (t0 +
        100 * cycMs ≤ (s.to t).cyc) :=
  ⟨{ up with gnb := { up.gnb with chans := [(4, ⟨0, 7, 0, false, some 0, 0, 0, 0, false⟩)] } }, 80000000, 4, ⟨0, 7, 0, false, some 0, 0, 0, 0, false⟩, 0, by decide +kernel⟩

theorem wit_ReferenceAndSurveyComplete_1 :
    ∃ (s : State) (t : Nat) (it : Item) (late : Bool),
      ((s.to t).goes 5 it { Checks.pass with
          range := it.d.context == 0 && refInRange (signed 40 (argBits it.d.arg0 39 0)) (signed 40 (argBits it.d.arg1
            39 0)) (signed 40 (argBits it.d.arg2 39 0)), state := (s.to t).gnb.survey.isNone && (s.to t).refAllowed
            (signed 40 (argBits it.d.arg0 39 0)) (signed 40 (argBits it.d.arg1 39 0)) (signed 40 (argBits it.d.arg2 39
            0)) (argBit it.d.arg0 63) } late = true) :=
  ⟨up, 0, { item 0x5001 0 256 with d := { (item 0x5001 0 256).d with arg0 := 63500000000 } }, false, by decide +kernel⟩

theorem wit_ReferenceAndSurveyComplete_2 :
    ∃ (s : State) (t : Nat) (it : Item) (late : Bool),
      ((s.to t).goes 5 it { Checks.pass with
          range := it.d.context == 0 && 60 ≤ surveyDuration it.d && surveyDuration it.d ≤ 604800, state :=
            (s.to t).gnb.survey.isNone } late = true) :=
  ⟨up, 0, { item 0x5002 0 256 with d := { (item 0x5002 0 256).d with arg0 := 60 } }, false, by decide +kernel⟩

theorem wit_ReferenceAndSurveyComplete_3 :
    ∃ (s : State) (t : Nat) (v : Survey) (l : LongOp),
      ((s.to t).runs 5 blkTrack = true) ∧ ((s.to t).gnb.survey = some v) ∧ ((s.to t).longOf? v.ring v.tag = some l) ∧
        (argBit l.start.arg1 0 = true) ∧ l.state ≠ .suspended ∧ (v.last + 600 * cycS ≤ (s.to t).cyc) :=
  ⟨{ up with gnb := { up.gnb with survey := some ⟨0, 7, 0, 0, (0, 0, 0), (0, 0, 0)⟩ }, hif := { up.hif with longs := [⟨0, 7, item 0x5002 0 256, 5, .running, 0, 60, 0, none, 0, { Desc.zero with arg1 := 1 }, []⟩] } }, 600 * cycS, ⟨0, 7, 0, 0, (0, 0, 0), (0, 0, 0)⟩, ⟨0, 7, item 0x5002 0 256, 5, .running, 0, 60, 0, none, 0, { Desc.zero with arg1 := 1 }, []⟩, by decide +kernel⟩

theorem wit_ReferenceAndSurveyComplete_4 :
    ∃ (s : State) (t : Nat) (bias : Int) (found : List (Nat × BitVec 8)) (g : GnbRt),
      ((s.to t).chip.stabled = true) ∧ ((s.to t).param P.BURST_EN = 1) ∧ ((s.to t).gnb.emptyBursts < 60) ∧
        ((s.to t).devNs % 10 ^ 9 ≤ 40 * 10 ^ 6) ∧ ((s.to t).devNs / 10 ^ 9) ≠ (s.to t).gnb.burstSec ∧ (g = {
        (s.to t).gnb with
          chans := ((s.to t).gnb.chans.map (fun (x : Nat × Chan) => if (s.to t).burstChans.contains x.1 then (x.1, {
            x.2 with cn0 := match found.find? (fun f => f.1 == x.1) with | some f => f.2.toNat | none => 0 }) else
            x)), burst := (s.to t).burstChans, burstSec := ((s.to t).devNs / 10 ^ 9), emptyBursts := 0 }) :=
  ⟨({ up with chip := { up.chip with stabled := true }, ctr := 5000000000 * 2 ^ 40 }.setLive P.BURST_EN 1), 0, 5, [], { up.gnb with burst := [], burstSec := 5, emptyBursts := 0 }, by decide +kernel⟩

theorem wit_ReferenceAndSurveyComplete_5 :
    ∃ (s : State) (t : Nat) (found : List (Nat × BitVec 8)),
      ((s.to t).chip.stabled = true) ∧ ((s.to t).param P.BURST_EN = 1) ∧ ((s.to t).gnb.emptyBursts < 60) ∧
        ((s.to t).devNs % 10 ^ 9 ≤ 40 * 10 ^ 6) ∧ ((s.to t).devNs / 10 ^ 9) ≠ (s.to t).gnb.burstSec :=
  ⟨({ up with chip := { up.chip with stabled := true }, ctr := 5000000000 * 2 ^ 40 }.setLive P.BURST_EN 1), 0, [], by decide +kernel⟩

theorem wit_ReferenceAndSurveyComplete_6 :
    ∃ (s : State) (t : Nat) (epoch : BitVec 64),
      (devOfGps epoch.toNat + 2000000 ≤ (s.to t).devNs) ∧ (epoch.toNat % 50000000 = 0) ∧ (((s.to t).baseItem?
        epoch.toNat).isNone = true) ∧ ((s.to t).fix.missing.all (fun m => decide (m < epoch.toNat)) = true) :=
  ⟨{ up with ctr := (gpsEpoch + 52000000) * 2 ^ 40 }, 0, 50000000, by decide +kernel⟩

theorem wit_BaseEpochCompletes_1 :
    ∃ (s : State) (t : Nat) (epoch sampled : BitVec 64) (ms : List Meas) (bias drift : Int) (sats : List SvRange) (v w
      : State) (l : List (Nat × Chan × Meas)) (recs : List BaseSig) (b : BaseItem),
      ((s.to t).runs 5 blkTrack = true) ∧ ((s.to t).chip.stabled = false) ∧ (epoch.toNat % 50000000 = 0) ∧
        ((s.to t).gnb.history.all (fun b => decide (b.epoch < epoch.toNat)) = true) ∧ (((s.to t).applyRef
        sampled.toNat).measure ms ((s.to t).applyRef sampled.toNat).gnb.chans = (v, l)) ∧ (recs = (l.filter (fun p =>
        !p.2.1.fault)).map (fun p => v.recordOf p.1 p.2.1 p.2.2)) ∧ (v.clockPossible recs = true) ∧ (b = v.baseItem
        epoch.toNat sampled.toNat recs bias drift) ∧ (w = { v with
          gnb := { v.gnb with chans := l.map (fun p => (p.1, p.2.1.after p.2.2 true v.cyc)) } }) :=
  ⟨baseUp, 0, 50000000, 50000000, [meas 0, meas 1, meas 2, meas 3], 0, 0, [], _, _, _, _, _, by decide +kernel, by decide +kernel, by decide +kernel, by decide +kernel, rfl, rfl, by decide +kernel, rfl, rfl⟩

theorem wit_BaseEpochCompletes_2 :
    ∃ (s : State) (t : Nat) (epoch sampled : BitVec 64) (ms : List Meas) (sats : List SvRange) (v : State) (l : List
      (Nat × Chan × Meas)),
      ((s.to t).runs 5 blkTrack = true) ∧ ((s.to t).chip.stabled = false) ∧ (epoch.toNat % 50000000 = 0) ∧
        ((s.to t).gnb.history.all (fun b => decide (b.epoch < epoch.toNat)) = true) ∧ (((s.to t).applyRef
        sampled.toNat).measure ms ((s.to t).applyRef sampled.toNat).gnb.chans = (v, l)) :=
  ⟨baseUp, 0, 50000000, 50000000, [meas 0], [], _, _, by decide +kernel, by decide +kernel, by decide +kernel, by decide +kernel, rfl⟩

theorem wit_FixEpochsComplete_1 :
    ∃ (s : State) (t : Nat) (id : Nat) (sol : FixSol) (e : Entry) (ws : List (BitVec 64)),
      ((s.to t).entryOf? id = some e) ∧ (Sp.find (s.to t).fix.obs id = some ws) ∧ (e.place = .at_ .fix) ∧
        ((s.to t).runs 6 blkSolver = true) ∧ ((s.to t).fix.searches.any (fun v => v.item.id == id) = false) ∧
        ((s.to t).laterObs e.item = true) :=
  ⟨(fixUp [(9, packetOf obsRep (gpsEpoch + 100000000))] [9, 10]), 0, 9, ⟨[], none⟩, ⟨obsOf 9, 5, false, .at_ .fix⟩, packetOf obsRep (gpsEpoch + 100000000), by decide +kernel⟩

theorem wit_FixEpochsComplete_2 :
    ∃ (s : State) (t : Nat) (id : Nat) (sol : FixSol) (e : Entry) (ws : List (BitVec 64)) (st : Status),
      ((s.to t).entryOf? id = some e) ∧ (Sp.find (s.to t).fix.obs id = some ws) ∧ (e.place = .at_ .fix) ∧
        ((s.to t).runs 6 blkSolver = true) ∧ ((s.to t).fix.searches.any (fun v => v.item.id == id) = false) ∧
        ((s.to t).laterObs e.item = false) ∧ ((s.to t).obsCheck e.item.ctx (obsSlotEnd ws) (obsReport ws) = some st)
        :=
  ⟨(fixUp [(9, packetOf { obsRep with epoch := 100000001 } (gpsEpoch + 100000000))] [9]), 0, 9, ⟨[], none⟩, ⟨obsOf 9, 5, false, .at_ .fix⟩, packetOf { obsRep with epoch := 100000001 } (gpsEpoch + 100000000), .rejRange, by decide +kernel⟩

theorem wit_FixEpochsComplete_3 :
    ∃ (s : State) (t : Nat) (id : Nat) (sol : FixSol) (e : Entry) (ws : List (BitVec 64)) (b : BaseItem),
      ((s.to t).entryOf? id = some e) ∧ (Sp.find (s.to t).fix.obs id = some ws) ∧ (e.place = .at_ .fix) ∧
        ((s.to t).runs 6 blkSolver = true) ∧ ((s.to t).fix.searches.any (fun v => v.item.id == id) = false) ∧
        ((s.to t).laterObs e.item = false) ∧ ((s.to t).obsCheck e.item.ctx (obsSlotEnd ws) (obsReport ws) = none) ∧
        ((s.to t).baseItem? (obsReport ws).epoch.toNat = some b) :=
  ⟨(fixUp [(9, packetOf obsRep (gpsEpoch + 100000000))] [9]), 0, 9, ⟨[], none⟩, ⟨obsOf 9, 5, false, .at_ .fix⟩, packetOf obsRep (gpsEpoch + 100000000), ⟨100000000, 0, 0, false, false, (false, false), 0, 0, 0, (0, 0, 0), []⟩, by decide +kernel⟩

theorem wit_FixEpochsComplete_4 :
    ∃ (s : State) (t : Nat) (id : Nat) (sol : FixSol) (e : Entry) (ws : List (BitVec 64)),
      ((s.to t).entryOf? id = some e) ∧ (Sp.find (s.to t).fix.obs id = some ws) ∧ (e.place = .at_ .fix) ∧
        ((s.to t).runs 6 blkSolver = true) ∧ ((s.to t).fix.searches.any (fun v => v.item.id == id) = false) ∧
        ((s.to t).laterObs e.item = false) ∧ ((s.to t).obsCheck e.item.ctx (obsSlotEnd ws) (obsReport ws) = none) ∧
        ((s.to t).baseItem? (obsReport ws).epoch.toNat = none) ∧ (((s.to t).fix.late.contains (obsReport
        ws).epoch.toNat || (s.to t).fix.missing.any (fun m => decide ((obsReport ws).epoch.toNat ≤ m))) = true) :=
  ⟨(let v := fixUp [(9, packetOf obsRep (gpsEpoch + 100000000))] [9]; { v with gnb := { v.gnb with history := [] }, fix := { v.fix with missing := some 100000000 } }), 0, 9, ⟨[], none⟩, ⟨obsOf 9, 5, false, .at_ .fix⟩, packetOf obsRep (gpsEpoch + 100000000), by decide +kernel⟩

theorem wit_FixEpochsComplete_5 :
    ∃ (s : State) (t : Nat) (ctx : BitVec 8) (attempts : List Attempt) (v : Solving),
      (((s.to t).liveSearches.take ((s.to t).get B.FIX_CAP_UNITS)).find? (fun v => v.item.ctx == ctx.toNat) = some v)
        ∧ ((s.to t).runs 6 blkSearch = true) :=
  ⟨(searchUp 0), 0, 5, [], solving0, by decide +kernel⟩

theorem wit_FixEpochsComplete_6 :
    ∃ (s : State) (t : Nat) (ctx : BitVec 8) (attempts : List Attempt) (v : Solving) (l : List (Nat × Int)) (q :
      Found) (x : FixCtx) (w : State),
      (w = (s.to t).withLive v.live) ∧ (x = w.fixCtx v.item.ctx) ∧ (((s.to t).liveSearches.take ((s.to t).get
        B.FIX_CAP_UNITS)).find? (fun v => v.item.ctx == ctx.toNat) = some v) ∧ ((s.to t).runs 6 blkSearch = true) ∧
        (w.mayStart v = true) ∧ (w.searchSet x.work.g x.work.floats (w.param P.PAR_DROP) (w.param P.MIN_FIX -
        x.work.nfix) (w.param P.SEARCH_NODES) attempts = some q) ∧ (q.set = some l) :=
  ⟨(let s := searchUp 0; { s with fix := { s.fix with searches := [{ solving0 with live := [(P.RATIO, 0)] }] } }), 0, 5, [⟨[], [], 2000000000, 3⟩], { solving0 with live := [(P.RATIO, 0)] }, [], ⟨some [], 0, false⟩, _, _, rfl, rfl, by decide +kernel⟩

theorem wit_FixEpochsComplete_7 :
    ∃ (s : State) (t : Nat) (ctx : BitVec 8) (attempts : List Attempt) (v : Solving) (q : Found) (x : FixCtx) (w :
      State),
      (w = (s.to t).withLive v.live) ∧ (x = w.fixCtx v.item.ctx) ∧ (((s.to t).liveSearches.take ((s.to t).get
        B.FIX_CAP_UNITS)).find? (fun v => v.item.ctx == ctx.toNat) = some v) ∧ ((s.to t).runs 6 blkSearch = true) ∧
        (w.mayStart v = true) ∧ (w.searchSet x.work.g x.work.floats (w.param P.PAR_DROP) (w.param P.MIN_FIX -
        x.work.nfix) (w.param P.SEARCH_NODES) attempts = some q) ∧ (q.set = none) :=
  ⟨(searchUp 0), 0, 5, [⟨[], [], 0, 3⟩], solving0, ⟨none, 0, false⟩, _, _, rfl, rfl, by decide +kernel⟩

theorem wit_FixEpochsComplete_8 :
    ∃ (s : State) (t : Nat) (ctx : BitVec 8) (v : Solving),
      ((s.to t).liveSearches.find? (fun v => v.item.ctx == ctx.toNat) = some v) ∧ (((s.to t).withLive v.live).mayStart
        v = false) ∧ (((s.to t).withLive v.live).runs 6 blkSolver = true) :=
  ⟨(searchUp 1000000000), 1000000000, 5, solving0, by decide +kernel⟩

theorem wit_FixOperationsComplete_1 :
    ∃ (s : State) (t : Nat) (it : Item) (late : Bool),
      ((s.to t).goes 6 it { Checks.pass with range := it.ctx != 0, state := (s.to t).joined it.ctx } late = true) :=
  ⟨airJoined, 0, item 0x6002 5 0, false, by decide +kernel⟩

theorem wit_FixOperationsComplete_2 :
    ∃ (s : State) (t : Nat) (it : Item) (late : Bool),
      ((s.to t).goes 6 it { Checks.pass with range := it.ctx != 0, state := (s.to t).joined it.ctx } late = true) :=
  ⟨airJoined, 0, item 0x6003 5 0, false, by decide +kernel⟩

theorem wit_FixOperationsComplete_3 :
    ∃ (s : State) (t : Nat) (it : Item) (mask : List Byte) (late : Bool),
      ((s.to t).goes 6 it { Checks.pass with
          range := it.d.context == 0 && ((it.d.ptr == 0 && it.d.len == 0) || it.d.len == 32), state :=
            (s.to t).fix.reinit.isNone } late = true) ∧ ((((s.to t).unwait it.id).joinedCtx.filter (reinitMask it.d
        mask)).isEmpty = true) :=
  ⟨up, 0, item 0x6001 0 256, [], false, by decide +kernel⟩

theorem wit_FixOperationsComplete_4 :
    ∃ (s : State) (t : Nat) (it : Item) (mask : List Byte) (late : Bool),
      ((s.to t).goes 6 it { Checks.pass with
          range := it.d.context == 0 && ((it.d.ptr == 0 && it.d.len == 0) || it.d.len == 32), state :=
            (s.to t).fix.reinit.isNone } late = true) ∧ ((((s.to t).unwait it.id).joinedCtx.filter (reinitMask it.d
        mask)).isEmpty = false) :=
  ⟨airJoined, 0, item 0x6001 0 256, [], false, by decide +kernel⟩

theorem wit_IntegrityCommandsComplete_1 :
    ∃ (s : State) (t : Nat) (sat : Fin 192) (p : Nat × Nat) (q : BaseItem),
      ((s.to t).gnb.history.getLast? = some q) ∧ ((s.to t).fix.clean.find? (fun p => p.1 == sat.val) = some p) ∧
        ((s.to t).suspect sat.val = true) ∧ (p.2 + (s.to t).param P.SV_CLEAR_S * 10 ^ 9 ≤ q.epoch) :=
  ⟨{ (up.wr64 (suspectReg 0) 32) with fix := { up.fix with clean := [(5, 0)] }, gnb := { up.gnb with history := [⟨10000000000000, 0, 0, false, false, (false, false), 0, 0, 0, (0, 0, 0), []⟩] } }, 0, 5, (5, 0), ⟨10000000000000, 0, 0, false, false, (false, false), 0, 0, 0, (0, 0, 0), []⟩, by decide +kernel⟩

theorem wit_IntegrityCommandsComplete_2 :
    ∃ (s : State) (t : Nat),
      ((s.to t).runs 6 blkSolver = true) ∧ ((s.to t).cn0Falls = true) :=
  ⟨(let v := up.setLive P.FLEET_N 0; { v with ctr := (gpsEpoch + 2000000000) * 2 ^ 40, fix := { v.fix with cn0 := [(0, [(500000000, 10000, 1), (2000000000, 10, 1)])] } }), 0, by decide +kernel⟩

theorem wit_IntegrityCommandsComplete_3 :
    ∃ (s : State) (t : Nat),
      ((s.to t).runs 6 blkSolver = true) ∧ ((s.to t).cn0Falls = false) ∧ ((s.to t).flag B.FIX_INTEG_STS_INTERFERENCE =
        true) ∧ ((s.to t).fix.interfAt + (s.to t).param P.INTERF_HOLD * cycS ≤ (s.to t).cyc) :=
  ⟨(up.setFlag B.FIX_INTEG_STS_INTERFERENCE true), 3600 * cycS, by decide +kernel⟩

theorem wit_IntegrityCommandsComplete_4 :
    ∃ (s : State) (t : Nat) (rq : Requester) (c : Nat),
      ((s.to t).reaches rq Reg.FIX_INTEG_CMD = true) ∧ (((s.to t).reached rq Reg.FIX_INTEG_CMD true).flag
        B.FIX_INTEG_STS_SPOOF_SUSPECT = true) ∧ (((s.to t).reached rq Reg.FIX_INTEG_CMD true).fix.failedAt = some c) ∧
        (c + ((s.to t).reached rq Reg.FIX_INTEG_CMD true).param P.SPOOF_CLEAN_S * 10 ^ 9 ≤ ((s.to t).reached rq
        Reg.FIX_INTEG_CMD true).devNs) :=
  ⟨{ (up.setFlag B.FIX_INTEG_STS_SPOOF_SUSPECT true) with ctr := 10000000000000 * 2 ^ 40, fix := { up.fix with failedAt := some 0 } }, 0, 0, 0, by decide +kernel⟩

theorem wit_IntegrityCommandsComplete_5 :
    ∃ (s : State) (t : Nat) (rq : Requester) (c : Nat),
      ((s.to t).reaches rq Reg.FIX_INTEG_CMD = true) ∧ (((s.to t).reached rq Reg.FIX_INTEG_CMD true).flag
        B.FIX_INTEG_STS_SPOOF_SUSPECT = true) ∧ (((s.to t).reached rq Reg.FIX_INTEG_CMD true).fix.failedAt = some c) ∧
        (((s.to t).reached rq Reg.FIX_INTEG_CMD true).devNs < c + ((s.to t).reached rq Reg.FIX_INTEG_CMD true).param
        P.SPOOF_CLEAN_S * 10 ^ 9) :=
  ⟨{ (up.setFlag B.FIX_INTEG_STS_SPOOF_SUSPECT true) with fix := { up.fix with failedAt := some 0 } }, 0, 0, 0, by decide +kernel⟩

theorem wit_IntegrityCommandsComplete_6 :
    ∃ (s : State) (t : Nat) (rq : Requester),
      ((s.to t).reaches rq Reg.FIX_INTEG_CMD = true) :=
  ⟨up, 0, 0, by decide +kernel⟩

theorem wit_IntegrityCommandsComplete_7 :
    ∃ (s : State) (t : Nat) (frames : List (List Byte)) (v : State),
      (s.to t).param P.IN_UDP_PORT ≠ 0 ∧ ((s.to t).rtcmIns frames = (v, false)) ∧ (v.fix.inGap = false) ∧
        (v.fix.inputAt + v.param P.INPUT_GAP * cycS ≤ v.cyc) :=
  ⟨(up.setLive P.IN_UDP_PORT 2101), 3600 * cycS, [], _, by decide +kernel, rfl, by decide +kernel, by decide +kernel⟩

theorem wit_IntegrityCommandsComplete_8 :
    ∃ (s : State) (t : Nat) (frames : List (List Byte)) (v : State),
      (s.to t).param P.IN_UDP_PORT ≠ 0 ∧ ((s.to t).rtcmIns frames = (v, true)) ∧ (v.fix.inGap = true) :=
  ⟨{ (up.setLive P.IN_UDP_PORT 2101) with fix := { up.fix with inGap := true, stationPos := some (0, 0, 0) } }, 0, [rtcmFrame [0x43, 0x50, 0x01]], _, by decide +kernel, rfl, by decide +kernel⟩

theorem wit_IntegrityCommandsComplete_9 :
    ∃ (s : State) (t : Nat) (base : Int × Int × Int),
      (((s.to t).devNs / 10 ^ 9) = (s.to t).fix.monSec + 1) ∧ ((s.to t).param P.REF_STS % 2 = 1) ∧
        ((s.to t).fix.inputOn = true) ∧ (s.to t).param P.IN_UDP_PORT ≠ 0 ∧ ((s.to t).refAway base = true) ∧
        ((s.to t).fix.monRun = 59) :=
  ⟨(let v := (up.setLive P.IN_UDP_PORT 2101).setLive P.REF_STS 1; { v with ctr := 7000000000 * 2 ^ 40, fix := { v.fix with monRun := 59, monSec := 6, inputOn := true, stationPos := some (0, 0, 0) } }), 0, (100000, 0, 0), by decide +kernel⟩

theorem wit_IntegrityCommandsComplete_10 :
    ∃ (s : State) (t : Nat) (base : Int × Int × Int),
      ((s.to t).devNs / 10 ^ 9) ≠ (s.to t).fix.monSec ∧ ((s.to t).refAway base = false) :=
  ⟨(let v := (up.setLive P.IN_UDP_PORT 2101).setLive P.REF_STS 1; { v with ctr := 7000000000 * 2 ^ 40, fix := { v.fix with monRun := 59, monSec := 6, inputOn := true, stationPos := some (0, 0, 0) } }), 0, (0, 0, 0), by decide +kernel⟩

theorem wit_ReplansAndPackingComplete_1 :
    ∃ (s : State) (t : Nat) (id : Nat) (e : Entry),
      ((s.to t).entryOf? id = some e) ∧ (e.place = .at_ .gait) ∧ ((s.to t).runs 8 blkPlanner = true) ∧ (e.item.obs =
        true) ∧ ((s.to t).targetOpen e.item e.flow = false) ∧ (s.to t).get B.GAIT_STS_LANES ≠ 0 ∧ ((s.to t).fixPoint
        e.item.ctx = none) :=
  ⟨(gaitUp .gait).set B.GAIT_STS_LANES 2, 0, 9, ⟨obsOf 9, 5, false, .at_ .gait⟩, by decide +kernel⟩

theorem wit_ReplansAndPackingComplete_2 :
    ∃ (s : State) (t : Nat) (id : Nat) (e : Entry) (r : FixRec) (a : Aim) (l : Limits) (tick : Int) (w : Launch) (qs :
      List Knot) (short : Bool) (v : State) (x : GaitCtx) (g : Goal),
      ((s.to t).entryOf? id = some e) ∧ (e.place = .at_ .gait) ∧ ((s.to t).runs 8 blkPlanner = true) ∧ (e.item.obs =
        true) ∧ ((s.to t).targetOpen e.item e.flow = false) ∧ (s.to t).get B.GAIT_STS_LANES ≠ 0 ∧ ((s.to t).fixPoint
        e.item.ctx = some r) ∧ (v = (s.to t).ackPlan e.item.ctx r) ∧ (x = v.gaitCtx e.item.ctx) ∧ (g = goalOf true a l
        w.kin) ∧ (x.aim (Sp.find v.gait.asked e.item.id) = some a) ∧ (x.limits = some l) ∧ (v.switchTick e.item.ctx =
        some tick) ∧ (v.launch x a.tr r a.near (v.tickStart tick).toNat = some w) ∧ (x.datumOver r = false) ∧ (w.cross
        ≤ v.param P.XTRACK_MAX) ∧ (g.refuse = false) ∧ (g.behind = false) ∧ (w.dev = false) ∧ (v.profile e.item.ctx a
        l w.kin g.goal (w.kin.stopMm l.dMax l.jMax) g.turn = (qs, short)) :=
  ⟨(planning .gait).set B.GAIT_STS_LANES 2, 0, 9, ⟨obsOf 9, 5, false, .at_ .gait⟩, fixRec, ⟨track0, none, some 0, none, false⟩, limits0, (planning .gait |>.switchTick 5).getD 0, ⟨0, 0, 0, Kin.ofMm 0 0 0, false⟩, _, _, _, _, _, by decide +kernel, by decide +kernel, by decide +kernel, by decide +kernel, by decide +kernel, by decide +kernel, by decide +kernel, rfl, rfl, rfl, by decide +kernel, by decide +kernel, by decide +kernel, by decide +kernel, by decide +kernel, by decide +kernel, by decide +kernel, by decide +kernel, by decide +kernel, rfl⟩

theorem wit_ReplansAndPackingComplete_3 :
    ∃ (s : State) (t : Nat) (id : Nat) (e : Entry) (d : Draft) (f : Draft),
      ((s.to t).entryOf? id = some e) ∧ (Sp.find (s.to t).gait.drafts id = some d) ∧ (e.place = .at_ .pack) ∧
        ((s.to t).runs 8 blkPacker = true) ∧ (f = { d with packed := d.plan.bytes }) :=
  ⟨packing, 0, 9, ⟨obsOf 9, 5, false, .at_ .pack⟩, draft0, { draft0 with packed := draft0.plan.bytes }, by decide +kernel⟩

theorem wit_ReplansAndPackingComplete_4 :
    ∃ (s : State) (t : Nat) (it : Item) (d : Draft) (p : Plan) (v w : State),
      (Sp.find (s.to t).gait.drafts it.id = some d) ∧ (it.obs = true) ∧ (p = { d.plan with
          seq := (((s.to t).gaitCtx it.ctx).seq + 1) % 2 ^ 16 }) ∧ (v = (s.to t).gaitHanded it.ctx p) ∧ (w =
        v.setAirCtx it.ctx ((v.airCtx it.ctx).takePlan ⟨leBytes 2 p.seq ++ d.packed.drop 2, v.devNs, false⟩)) :=
  ⟨packing, 0, obsOf 9, draft0, _, _, _, by decide +kernel, rfl, rfl, rfl, rfl⟩

theorem wit_ReplansAndPackingComplete_5 :
    ∃ (s : State) (t : Nat) (ctx : BitVec 8) (d j tick : Nat) (l : Limits),
      (((s.to t).gaitCtx ctx.toNat).lowered = some (d, j, tick)) ∧ (((s.to t).gaitCtx ctx.toNat).limits = some l) ∧
        (idxDiff (s.to t).tickAbs tick < 2 ^ 31) :=
  ⟨(up.setGaitCtx 5 { GaitCtx.reset with limits := some limits0, lowered := some (500, 500, 0) }), 0, 5, 500, 500, 0, limits0, by decide +kernel⟩

theorem wit_GaitOperationsComplete_1 :
    ∃ (s : State) (t : Nat) (it : Item) (raw : List Byte) (rec_ : TrackRec) (late : Bool),
      (TrackRec.ofBytes raw = rec_) ∧ ((s.to t).goes 8 it { Checks.pass with
          range := it.d.context != 0 && rec_.legal it.d.len.toNat && (s.to t).trackInGrid rec_.track && (argBits
            it.d.arg0 31 0) ≤ rec_.track.lenMm && (argBits it.d.arg1 31 0) ≤ rec_.track.lenMm, state :=
            (s.to t).joined it.ctx && ((s.to t).gaitCtx it.ctx).datum.isNone && (s.to t).joinsTrack it.ctx rec_.track
            (argBits it.d.arg0 31 0) } late = true) :=
  ⟨(planning .gait), 0, { item 0x8001 5 256 with d := { (item 0x8001 5 256).d with len := 32 } }, (⟨1, 2, crc32c (trackPoints [(0, 0), (5000, 0)]), true, [(0, 0), (5000, 0)]⟩ : TrackRec).bytes, ⟨1, 2, crc32c (trackPoints [(0, 0), (5000, 0)]), true, [(0, 0), (5000, 0)]⟩, false, by decide +kernel⟩

theorem wit_GaitOperationsComplete_2 :
    ∃ (s : State) (t : Nat) (it : Item) (late : Bool),
      ((s.to t).goes 8 it { Checks.pass with
          range := it.d.context != 0 && ((argBit it.d.arg0 32) || (s.to t).onTrack it.ctx (signed 32 (argBits
            it.d.arg0 31 0))), state := (s.to t).joined it.ctx && ((s.to t).gaitCtx it.ctx).datum.isNone } late =
        true) :=
  ⟨airJoined, 0, item 0x8003 5 256, false, by decide +kernel⟩

theorem wit_GaitOperationsComplete_3 :
    ∃ (s : State) (t : Nat) (it : Item) (late : Bool) (stopAt sFix v : Int) (l : Limits),
      ((s.to t).goes 8 it { Checks.pass with
          range := it.d.context != 0 && (s.to t).datumRange it.d, state := (s.to t).joined it.ctx && ((s.to t).gaitCtx
            it.ctx).datum.isNone && ((s.to t).gaitCtx it.ctx).limits.isSome && (s.to t).datumSlow it.d } late = true)
        ∧ (((s.to t).unwait it.id).datumEnd it.d = some (stopAt, sFix, v)) ∧ ((((s.to t).unwait it.id).gaitCtx
        it.ctx).limits = some l) :=
  ⟨(planning .gait), 0, { item 0x8004 5 256 with d := { (item 0x8004 5 256).d with arg0 := 100 } }, false, (up.param P.DATUM_DIST : Int), 0, 0, limits0, by decide +kernel⟩

theorem wit_GaitOperationsComplete_4 :
    ∃ (s : State) (t : Nat) (it : Item) (late : Bool),
      ((s.to t).goes 8 it { Checks.pass with
          range := it.d.context != 0 && (limitsOf it.d).legal, state := (s.to t).joined it.ctx } late = true) ∧
        ((((s.to t).unwait it.id).gaitCtx it.ctx).limits = none) :=
  ⟨airJoined, 0, limItem 100 100, false, by decide +kernel⟩

theorem wit_GaitOperationsComplete_5 :
    ∃ (s : State) (t : Nat) (it : Item) (late : Bool) (old : Limits) (tr : Track) (r : FixRec) (p : Plan),
      ((s.to t).goes 8 it { Checks.pass with
          range := it.d.context != 0 && (limitsOf it.d).legal, state := (s.to t).joined it.ctx } late = true) ∧
        ((((s.to t).unwait it.id).gaitCtx it.ctx).limits = some old) ∧ ((((s.to t).unwait it.id).gaitCtx it.ctx).track
        = some tr) ∧ (((s.to t).unwait it.id).fixPoint it.ctx = some r) ∧ ((((s.to t).unwait it.id).gaitCtx
        it.ctx).followed r = some p) ∧ (¬ ((old.dMax ≤ (limitsOf it.d).dMax ∧ old.jMax ≤ (limitsOf it.d).jMax) ∨
        stopsOnTrack tr (p.at_ ((s.to t).unwait it.id).devNs) (limitsOf it.d).dMax (limitsOf it.d).jMax = true)) :=
  ⟨fast, 0, limItem 10 50, false, limits0, track0, fixRec, planFast, by decide +kernel⟩

theorem wit_PadOperationsComplete_1 :
    ∃ (s : State) (t : Nat) (it : Item) (raw : List Byte) (req : SweepReq) (late : Bool),
      (SweepReq.ofBytes raw = req) ∧ ((s.to t).causeBefore req (some it.d.len.toNat) = 0) ∧ ((s.to t).goes 7 it {
        Checks.pass with range := it.d.context != 0, state := (s.to t).sweepState it.ctx true } late = true) ∧
        (((s.to t).unwait it.id).causeBefore req (some it.d.len.toNat) = 0) ∧ (((s.to t).unwait it.id).sweepState
        it.ctx true = true) :=
  ⟨(mapUp airJoined), 0, { item 0x7010 5 256 with d := { (item 0x7010 5 256).d with len := 28 } }, still.bytes, still, false, by decide +kernel⟩

theorem wit_PadOperationsComplete_2 :
    ∃ (s : State) (t : Nat) (it : Item) (raw : List Byte) (cands : List SweepReq) (late : Bool) (g : PadGeom) (sh :
      Shape),
      (candsOf (leAt raw 0 1) (raw.drop 16) = cands) ∧ ((s.to t).goes 7 it { Checks.pass with
          range := it.d.context != 0 && 1 ≤ leAt raw 0 1 && leAt raw 0 1 ≤ 16 && (16 + (cands.map (fun q => 16 + 12 *
            q.nsamp.toNat)).sum) ≤ it.d.len.toNat, state := (s.to t).sweepState it.ctx true } late = true) ∧
        (((s.to t).unwait it.id).pad.geom = some g) ∧ (Sp.find ((s.to t).unwait it.id).pad.shapes it.ctx = some sh) :=
  ⟨(mapUp airJoined), 0, { item 0x7011 5 256 with d := { (item 0x7011 5 256).d with len := 64 } }, candBytes [still], [still], false, geom0, shape0, by decide +kernel⟩

theorem wit_PadOperationsComplete_3 :
    ∃ (s : State) (t : Nat) (it : Item) (raw : List Byte) (cands : List SweepReq) (bad : BadCell) (o : Nat × Nat)
      (late : Bool) (g : PadGeom) (sh : Shape),
      (candsOf (leAt raw 0 1) (raw.drop 16) = cands) ∧ ((s.to t).goes 7 it { Checks.pass with
          range := it.d.context != 0 && 1 ≤ leAt raw 0 1 && leAt raw 0 1 ≤ 16 && (16 + (cands.map (fun q => 16 + 12 *
            q.nsamp.toNat)).sum) ≤ it.d.len.toNat, state := (s.to t).sweepState it.ctx true } late = true) ∧
        (((s.to t).unwait it.id).pad.geom = some g) ∧ (Sp.find ((s.to t).unwait it.id).pad.shapes it.ctx = some sh) ∧
        (((s.to t).unwait it.id).badSeen bad = some o) :=
  ⟨(mapUp airJoined), 0, { item 0x7011 5 256 with d := { (item 0x7011 5 256).d with len := 64 } }, candBytes [still], [still], ⟨0, 0, 0⟩, (3, noCell), false, geom0, shape0, by decide +kernel⟩

theorem wit_PadOperationsComplete_4 :
    ∃ (s : State) (t : Nat) (it : Item) (late : Bool) (v w : State),
      ((s.to t).goes 7 it { Checks.pass with range := it.d.context != 0, state := (s.to t).sweepState it.ctx false }
        late = true) ∧ (v = (s.to t).unwait it.id) ∧ (v.pad.waits = []) ∧ (w = { v.askLocks (.item it.id) (v.waitTiles
        (it.acting late)) with
          pad := { (v.askLocks (.item it.id) (v.waitTiles (it.acting late))).pad with
              waits := [PadWait.mk (it.acting late) none] } }) ∧ ((v.askLocks (.item it.id) (v.waitTiles (it.acting
        late))).pad.waits = []) ∧ (w.holdsLocks (.item it.id) = true) :=
  ⟨(mapUp airJoined), 0, item 0x7012 5 256, false, _, _, by decide +kernel, rfl, by decide +kernel, rfl, by decide +kernel, by decide +kernel⟩

theorem wit_PadOperationsComplete_5 :
    ∃ (s : State) (t : Nat) (it : Item) (late : Bool) (v w : State),
      ((s.to t).goes 7 it { Checks.pass with
          range := it.d.context == 0 && (s.to t).holdRange it.d, state := (s.to t).mapValid && !(s.to t).fullImport }
        late = true) ∧ (v = (s.to t).unwait it.id) ∧ (v.pad.waits = []) ∧ (w = { v.askLocks (.item it.id) (v.waitTiles
        (it.acting late)) with
          pad := { (v.askLocks (.item it.id) (v.waitTiles (it.acting late))).pad with
              waits := [PadWait.mk (it.acting late) none] } }) ∧ ((v.askLocks (.item it.id) (v.waitTiles (it.acting
        late))).pad.waits = []) ∧ (w.holdsLocks (.item it.id) = true) :=
  ⟨(mapUp up), 0, item 0x7003 0 256, false, _, _, by decide +kernel, rfl, by decide +kernel, rfl, by decide +kernel, by decide +kernel⟩

theorem wit_PadOperationsComplete_6 :
    ∃ (s : State) (t : Nat) (it : Item) (x : State),
      it.d.opcode ≠ 0x7003 ∧ (x = { (s.to t) with
          pad := { (s.to t).pad with waits := (s.to t).pad.waits.filter (fun y => y.item.id != it.id) } }) :=
  ⟨(mapUp airJoined), 0, item 0x7012 5 256, _, by decide +kernel, rfl⟩

theorem wit_PadOperationsComplete_7 :
    ∃ (s : State) (t : Nat) (it : Item) (w : State),
      (w = (s.to t).padFree it.ctx) :=
  ⟨(mapUp airJoined), 0, item 0x7012 5 256, _, rfl⟩

theorem wit_PadOperationsComplete_8 :
    ∃ (s : State) (t : Nat) (it : Item) (x : State),
      (it.d.opcode = 0x7003) ∧ (x = { (s.to t) with
          pad := { (s.to t).pad with waits := (s.to t).pad.waits.filter (fun y => y.item.id != it.id) } }) :=
  ⟨(mapUp up), 0, item 0x7003 0 256, _, by decide +kernel, rfl⟩

theorem wit_PadOperationsComplete_10 :
    ∃ (s : State) (t : Nat) (it : Item) (raw : List Byte) (x : ShapeRec) (late : Bool),
      (ShapeRec.ofBytes raw = x) ∧ ((s.to t).goes 7 it { Checks.pass with
          range := it.d.context != 0 && it.d.len == 40 && x.legal, state := (s.to t).sweepState it.ctx false } late =
        true) :=
  ⟨(mapUp airJoined), 0, { item 0x7013 5 256 with d := { (item 0x7013 5 256).d with len := 40 } }, shapeRaw0, _, false, rfl, by decide +kernel⟩

theorem wit_PadOperationsComplete_11 :
    ∃ (s : State) (t : Nat) (it : Item) (raw : List Byte) (hashOk : Bool) (file : PadFile) (late : Bool),
      (PadFile.ofBytes raw hashOk = file) ∧ ((s.to t).goes 7 it ((s.to t).importChecks it.d file) late = true) :=
  ⟨{ up.set B.PAD_CAP_CELLS 4096 with fix := { up.fix with firstRef := some (0, 0, 0) } }, 0, { item 0x7001 0 256 with d := { (item 0x7001 0 256).d with len := 128 } }, padRaw0, true, _, false, rfl, by decide +kernel⟩

theorem wit_PadOperationsComplete_12 :
    ∃ (s : State) (t : Nat) (it : Item) (late : Bool) (g : PadGeom),
      ((s.to t).goes 7 it { Checks.pass with
          range := it.d.context == 0 && (s.to t).exportFits it.d, state := (s.to t).mapValid } late = true) ∧
        (((s.to t).unwait it.id).pad.geom = some g) :=
  ⟨(mapUp up), 0, { item 0x7002 0 256 with d := { (item 0x7002 0 256).d with len := 20000 } }, false, geom0, by decide +kernel⟩

theorem wit_PadOperationsComplete_13 :
    ∃ (s : State) (t : Nat) (it : Item) (late : Bool) (g : PadGeom),
      ((s.to t).goes 7 it { Checks.pass with
          range := it.d.context == 0 && (s.to t).cellNamed it.d, state := (s.to t).mapValid } late = true) ∧
        (((s.to t).unwait it.id).pad.geom = some g) :=
  ⟨(mapUp up), 0, item 0x7004 0 256, false, geom0, by decide +kernel⟩

theorem wit_SweepsAndMapUpkeepComplete_1 :
    ∃ (s : State) (t : Nat) (id : Nat) (w : Sweep) (g : PadGeom) (sh : Shape),
      ((s.to t).places.find? (fun w => w.item.id == id) = some w) ∧ ((s.to t).runs 7 blkSweeper = true) ∧
        ((s.to t).holdsLocks (.item id) = true) ∧ ((s.to t).sweepState w.item.ctx true = true) ∧ ((s.to t).pad.geom =
        some g) ∧ (Sp.find (s.to t).pad.shapes w.item.ctx = some sh) :=
  ⟨(sweeping []).seatSweeps, 0, 7, ⟨item 0x7010 5 256, still, airJoined.live⟩, geom0, shape0, by decide +kernel⟩

theorem wit_SweepsAndMapUpkeepComplete_2 :
    ∃ (s : State) (t : Nat) (g : PadGeom) (sh : Shape) (w : Sweep) (a : LockReq),
      ((s.to t).pad.asks.find? (fun a => a.who == .item w.item.id) = some a) ∧ (((s.to t).sweepTiles w).all (fun t =>
        a.tiles.contains t) = true) :=
  ⟨(sweeping []).seatSweeps, 0, geom0, shape0, ⟨item 0x7010 5 256, still, airJoined.live⟩, ⟨.item 7, [0]⟩, by decide +kernel⟩

theorem wit_SweepsAndMapUpkeepComplete_3 :
    ∃ (s : State) (t : Nat) (g : PadGeom) (sh : Shape) (w : Sweep) (locks : List Nat) (r : Raster) (gr x y : State)
      (keys : List Nat) (e : Eval) (f : Int),
      (f = relTick (s.to t).tickNow w.req.first.toNat) ∧ (r = (s.to t).raster g sh ((s.to t).latestPr w.item.ctx)
        w.req.samples) ∧ ((s.to t).sweepCause w.req w.item.ctx f locks.length = 0) ∧ (gr = locks.foldl (fun (s :
        State) t => s.groomAged t) (s.to t)) ∧ (e = gr.evalSweep g w.item.ctx (s.to t).tickNow ((s.to t).latestPr
        w.item.ctx) f w.req.samples r) ∧ (firstConflict e.conflicts = none) ∧ ((gr.count
        Reg.PAD_CNT_SWEEP).writeCommit w.item.ctx (s.to t).tickNow ((s.to t).latestPr w.item.ctx) w.req e.writes = (x,
        keys)) ∧ (y = x.mirror w.item.ctx (s.to t).tickNow ((s.to t).latestPr w.item.ctx) keys.length (x.cellsCrc
        keys) w.req.seq.toNat (.commit w.req)) :=
  ⟨(sweeping []), 0, geom0, shape0, ⟨item 0x7010 5 256, still, airJoined.live⟩, [0], _, _, _, _, _, _, _, rfl, rfl, by decide +kernel, rfl, rfl, by decide +kernel, rfl, rfl⟩

theorem wit_SweepsAndMapUpkeepComplete_4 :
    ∃ (s : State) (t : Nat) (g : PadGeom) (sh : Shape) (w : Sweep) (locks : List Nat) (r : Raster) (gr : State) (e :
      Eval) (f : Int) (k : Conflict),
      (f = relTick (s.to t).tickNow w.req.first.toNat) ∧ (r = (s.to t).raster g sh ((s.to t).latestPr w.item.ctx)
        w.req.samples) ∧ ((s.to t).sweepCause w.req w.item.ctx f locks.length = 0) ∧ (gr = locks.foldl (fun (s :
        State) t => s.groomAged t) (s.to t)) ∧ (e = gr.evalSweep g w.item.ctx (s.to t).tickNow ((s.to t).latestPr
        w.item.ctx) f w.req.samples r) ∧ (firstConflict e.conflicts = some k) :=
  ⟨{ sweeping [] with pad := { (sweeping []).pad with deflt := 0 } }, 0, geom0, shape0, ⟨item 0x7010 5 256, still, airJoined.live⟩, [0], _, _, _, _, ⟨0, 5, (2, 2), 0⟩, rfl, rfl, by decide +kernel, rfl, rfl, by decide +kernel⟩

theorem wit_SweepsAndMapUpkeepComplete_5 :
    ∃ (s : State) (t : Nat) (id : Nat) (w : Sweep) (bad : BadCell) (o : Nat × Nat) (g : PadGeom) (sh : Shape),
      ((s.to t).places.find? (fun w => w.item.id == id) = some w) ∧ ((s.to t).runs 7 blkSweeper = true) ∧
        ((s.to t).holdsLocks (.item id) = true) ∧ ((s.to t).sweepState w.item.ctx true = true) ∧ ((s.to t).pad.geom =
        some g) ∧ (Sp.find (s.to t).pad.shapes w.item.ctx = some sh) ∧ ((s.to t).badSeen bad = some o) ∧ (w.item.obs =
        false) :=
  ⟨(sweeping []).seatSweeps, 0, 7, ⟨item 0x7010 5 256, still, airJoined.live⟩, ⟨0, 0, 0⟩, (3, noCell), geom0, shape0, by decide +kernel⟩

theorem wit_SweepsAndMapUpkeepComplete_6 :
    ∃ (s : State) (t : Nat) (g : PadGeom) (v : State),
      ((s.to t).runs 7 blkGroom = true) ∧ (v = (s.to t).wr Reg.PAD_TICK_ABS (s.to t).tickAbs) ∧ (v.pad.geom = some g)
        :=
  ⟨(mapUp up), 0, geom0, _, by decide +kernel, rfl, by decide +kernel⟩

theorem wit_SweepsAndMapUpkeepComplete_7 :
    ∃ (s : State) (t : Nat) (v : State),
      ((s.to t).runs 7 blkGroom = true) ∧ (v = (s.to t).wr Reg.PAD_TICK_ABS (s.to t).tickAbs) ∧ (v.pad.geom = none) :=
  ⟨up, 0, _, by decide +kernel, rfl, by decide +kernel⟩

theorem wit_SweepsAndMapUpkeepComplete_8 :
    ∃ (s : State) (t : Nat) (g : PadGeom) (v : State),
      ((s.to t).pad.geom = some g) ∧ ((s.to t).rgnState 7 = rsRun) ∧ ((s.to t).runs 7 blkGroom = true) ∧
        ((s.to t).mapValid = true) ∧ ((s.to t).groomDue = true) ∧ (v = (s.to t).askLocks .groom
        [(s.to t).pad.groomNext]) ∧ (v.holdsLocks .groom = true) :=
  ⟨(mapUp up), 0, geom0, _, by decide +kernel, by decide +kernel, by decide +kernel, by decide +kernel, by decide +kernel, rfl, by decide +kernel⟩

theorem wit_SweepsAndMapUpkeepComplete_9 :
    ∃ (s : State) (t : Nat),
      ((s.to t).runs 7 blkGroom = true) ∧ ((s.to t).mapValid = true) ∧ ((s.to t).renewDue = true) :=
  ⟨{ (mapUp up) with ctr := 2000000000 * 2 ^ 40 }, 0, by decide +kernel⟩

theorem wit_SweepsAndMapUpkeepComplete_10 :
    ∃ (s : State) (t : Nat) (ctx : BitVec 8) (tile : BitVec 13) (g : PadGeom) (d : Disc) (v : State),
      ((s.to t).pad.geom = some g) ∧ (Sp.find (s.to t).pad.discs ctx.toNat = some d) ∧ ((s.to t).runs 7 blkSweeper =
        true) ∧ (((g.discCells d).filter (fun c => g.key c / 4096 == tile.toNat)).isEmpty = false) ∧ (v =
        (s.to t).askLocks (.disc ctx.toNat tile.toNat) [tile.toNat]) ∧ (v.holdsLocks (.disc ctx.toNat tile.toNat) =
        true) :=
  ⟨(let v := mapUp up; { v with pad := { v.pad with discs := [(5, ⟨0, 0, 0, 500 * 2 ^ 20, 0, 0, 500 * 2 ^ 20⟩)] } }), 0, 5, 0, geom0, ⟨0, 0, 0, 500 * 2 ^ 20, 0, 0, 500 * 2 ^ 20⟩, _, by decide +kernel, by decide +kernel, by decide +kernel, by decide +kernel, rfl, by decide +kernel⟩

theorem wit_SweepsAndMapUpkeepComplete_11 :
    ∃ (s : State) (t : Nat) (ctx : BitVec 8) (v w : State),
      ((s.to t).pad.ending.contains ctx.toNat = true) ∧ ((s.to t).runs 7 blkSweeper = true) ∧ (v = (s.to t).freeLocks
        (fun l => l.ofDisc ctx.toNat && (Sp.find (s.to t).pad.discs ctx.toNat).isNone)) ∧ (w = v.askLocks (.discEnd
        ctx.toNat) (tilesOf (v.slotCells ctx.toNat Slot.kind))) ∧ (w.holdsLocks (.discEnd ctx.toNat) = true) :=
  ⟨{ up with pad := { up.pad with ending := [5] } }, 0, 5, _, _, by decide +kernel, by decide +kernel, rfl, rfl, by decide +kernel⟩

theorem wit_TimeKeepingCompletes_1 :
    ∃ (s : State) (t : Nat) (rq : Requester),
      ((s.to t).reaches rq Reg.TIM_TIME = true) :=
  ⟨up, 5, 0, by decide +kernel⟩

theorem wit_TimeKeepingCompletes_2 :
    ∃ (s : State) (t : Nat) (x y : State),
      (x = (s.to t).wr64 Reg.TIM_TIME_SEC ((s.to t).ctr / 2 ^ 40 / 10 ^ 9 % 2 ^ 48)) ∧ (y = x.wr Reg.TIM_TIME_NSEC
        ((s.to t).ctr / 2 ^ 40 % 10 ^ 9)) :=
  ⟨up, 5, _, _, rfl, rfl⟩

theorem wit_TimeKeepingCompletes_3 :
    ∃ (s : State) (t : Nat) (rq : Requester) (val : BitVec 64),
      ((s.to t).reaches rq (Reg.TIM_INCR + 4) = true) ∧ (((s.to t).reached rq (Reg.TIM_INCR + 4) true).flag
        B.TIM_SERVO_CTL_MANUAL = true) ∧ (incrLegal (val.toNat % 2 ^ 48) = true) :=
  ⟨(up.setFlag B.TIM_SERVO_CTL_MANUAL true), 0, 0, 0x20000000001, by decide +kernel⟩

theorem wit_TimeKeepingCompletes_4 :
    ∃ (s : State) (t : Nat) (rq : Requester) (val : BitVec 64),
      ((s.to t).reaches rq (Reg.TIM_INCR + 4) = true) ∧ (((s.to t).reached rq (Reg.TIM_INCR + 4) true).flag
        B.TIM_SERVO_CTL_MANUAL = false ∨ incrLegal (val.toNat % 2 ^ 48) = false) :=
  ⟨up, 0, 0, 0x20000000001, by decide +kernel⟩

theorem wit_TimeKeepingCompletes_5 :
    ∃ (s : State) (t : Nat),
      (s.to t).devSec ≠ (s.to t).tim.second ∧ ((s.to t).runs 11 blkServo = true) :=
  ⟨{ up with ctr := 1000000000 * 2 ^ 40 }, 0, by decide +kernel⟩

theorem wit_TimeKeepingCompletes_6 :
    ∃ (s : State) (t : Nat) (it : Item) (late : Bool),
      ((s.to t).goes 11 it { Checks.pass with
          range := it.d.context == 0 && (s.to t).devNs ≤ it.d.arg2.toNat + 2 * 10 ^ 9, state := (s.to t).domCfg (if
            argBit it.d.arg0 0 then 1 else 0) == (1, (if argBit it.d.arg0 1 then 1 else 0)) } late = true) :=
  ⟨(up.set B.TIM_DOM_A_CFG_ROLE 1), 0, item 0xB004 0 256, false, by decide +kernel⟩

theorem wit_TimeKeepingCompletes_7 :
    ∃ (s : State) (t : Nat) (it : Item) (late : Bool),
      ((s.to t).goes 11 it { Checks.pass with
          range := it.d.context == 0 && it.d.arg0.toNat % 10 ^ 9 == 0, state := (s.to t).get B.TIM_STS_SELECTED == 0
            || (s.to t).flag B.TIM_SERVO_CTL_MANUAL } late = true) :=
  ⟨up, 0, item 0xB003 0 256, false, by decide +kernel⟩

theorem wit_TimeKeepingCompletes_8 :
    ∃ (s : State) (t : Nat) (S : Int) (sec : Nat),
      ((s.to t).runs 11 0 = true) ∧ ((s.to t).tim.setWaits = []) ∧ ((s.to t).tim.step = some (S, sec)) ∧ (sec ≤
        (s.to t).devNs / 10 ^ 9) :=
  ⟨{ up with ctr := 2000000000 * 2 ^ 40, tim := { up.tim with step := some (5, 2) } }, 0, 5, 2, by decide +kernel⟩

theorem wit_TimeKeepingCompletes_9 :
    ∃ (s : State) (t : Nat) (q : SetTimeWait) (l : List SetTimeWait),
      ((s.to t).runs 11 0 = true) ∧ ((s.to t).tim.setWaits = q :: l) ∧ (q.sec ≤ (s.to t).devNs / 10 ^ 9) :=
  ⟨{ up with ctr := 2000000000 * 2 ^ 40, tim := { up.tim with setWaits := [⟨item 0xB003 0 256, 2⟩] } }, 0, ⟨item 0xB003 0 256, 2⟩, [], by decide +kernel⟩

theorem wit_PulsesAndCuesComplete_1 :
    ∃ (s : State) (t : Nat) (rq : Requester) (n : Fin 2),
      ((s.to t).reaches rq (Reg.TIM_PPS_CTL n.val) = true) :=
  ⟨up, 0, 0, 1, by decide +kernel⟩

theorem wit_PulsesAndCuesComplete_2 :
    ∃ (s : State) (t : Nat) (n : Fin 2),
      (((s.to t).ppsOf n.val).started = true) ∧ (((s.to t).ppsOf n.val).mark < (s.to t).markOf n.val) ∧
        (((s.to t).setPps n.val { ((s.to t).ppsOf n.val) with mark := (s.to t).markOf n.val }).flag
        (B.TIM_PPS_CTL_ENABLE n.val) = true) ∧ (((s.to t).ppsOf n.val).quietTo ≤ ((s.to t).setPps n.val {
        ((s.to t).ppsOf n.val) with mark := (s.to t).markOf n.val }).cyc) :=
  ⟨({ up with ctr := 3000000000 * 2 ^ 40 }.setFlag (B.TIM_PPS_CTL_ENABLE 1) true |>.setPps 1 ⟨true, 0, none, 0, none, 0⟩), 0, 1, by decide +kernel⟩

theorem wit_PulsesAndCuesComplete_3 :
    ∃ (s : State) (t : Nat) (n : Fin 2),
      (((s.to t).ppsOf n.val).started = true) ∧ (((s.to t).ppsOf n.val).mark < (s.to t).markOf n.val) ∧
        (((s.to t).setPps n.val { ((s.to t).ppsOf n.val) with mark := (s.to t).markOf n.val }).flag
        (B.TIM_PPS_CTL_ENABLE n.val) = false) :=
  ⟨(({ up with ctr := 3000000000 * 2 ^ 40 }.setFlag (B.TIM_PPS_CTL_ENABLE 1) false).setPps 1 ⟨true, 0, none, 0, none, 0⟩), 0, 1, by decide +kernel⟩

theorem wit_PulsesAndCuesComplete_4 :
    ∃ (s : State) (t : Nat) (out : Fin 10) (e : Nat),
      (out.val < 2) ∧ (((s.to t).ppsOf out.val).pulseEnd = some e) ∧ (e ≤ (s.to t).cyc) :=
  ⟨(up.setPps 1 ⟨true, 0, none, 0, some 5, 0⟩), 5, 1, 5, by decide +kernel⟩

theorem wit_PulsesAndCuesComplete_5 :
    ∃ (s : State) (t : Nat) (out : Fin 10) (e : Nat) (v : Bool),
      (2 ≤ out.val) ∧ (Sp.find (s.to t).tim.cuePulse (out.val - 2) = some (e, v)) ∧ (e ≤ (s.to t).cyc) :=
  ⟨{ up with tim := { up.tim with cuePulse := [(7, (5, true))] } }, 5, 9, 5, true, by decide +kernel⟩

theorem wit_PulsesAndCuesComplete_6 :
    ∃ (s : State) (t : Nat) (it : Item) (raw : List Byte) (stored : Option Desc) (slot : Nat),
      ((if argBit it.d.arg0 6 then some (Desc.ofBytes raw) else none) = stored) ∧ ((s.to t).freeCue = some slot) ∧
        ((s.to t).waits 11 it { Checks.pass with range := cueRange it.d stored } = true) :=
  ⟨(up.set B.TIM_STS_QUALITY 3), 0, { item 0xB001 0 256 with d := { (item 0xB001 0 256).d with when_ := 1000000000, arg0 := 8 } }, [], none, 0, by decide +kernel⟩

theorem wit_PulsesAndCuesComplete_7 :
    ∃ (s : State) (t : Nat) (it : Item) (raw : List Byte) (stored : Option Desc) (slot : Nat) (late : Bool),
      ((if argBit it.d.arg0 6 then some (Desc.ofBytes raw) else none) = stored) ∧ ((s.to t).freeCue = some slot) ∧
        ((s.to t).goes 11 it { Checks.pass with range := cueRange it.d stored } late = true) :=
  ⟨{ (up.set B.TIM_STS_QUALITY 3) with ctr := 1000000000 * 2 ^ 40 }, 0, { item 0xB001 0 256 with d := { (item 0xB001 0 256).d with when_ := 1000000000, arg0 := 8 } }, [], none, 0, true, by decide +kernel⟩

theorem wit_PulsesAndCuesComplete_8 :
    ∃ (s : State) (t : Nat) (it : Item) (raw : List Byte) (stored : Option Desc),
      ((if argBit it.d.arg0 6 then some (Desc.ofBytes raw) else none) = stored) ∧ ((s.to t).freeCue = none) ∧
        ((s.to t).rejects 11 it { Checks.pass with range := cueRange it.d stored, state := false } .rejState = true)
        :=
  ⟨{ up with tim := { up.tim with cues := (List.range 64).map (fun k => (k, ⟨item 0xB001 0 256, none, 0, false, 0, 0⟩)) } }, 0, { item 0xB001 0 256 with d := { (item 0xB001 0 256).d with when_ := 1000000000, arg0 := 8 } }, [], none, by decide +kernel⟩

theorem wit_PulsesAndCuesComplete_9 :
    ∃ (s : State) (t : Nat) (slot : Fin 64) (c : CueSlot),
      ((s.to t).cueOf? slot.val = some c) ∧ (c.due ≤ (s.to t).devNs) ∧ ((s.to t).runs 11 blkCues = true) ∧
        ((s.to t).cueBehind slot.val = false) ∧ (c.repeats = true ∨ c.next ≠ 1) ∧ ((s.to t).cueHeld c = false) :=
  ⟨{ up with tim := { up.tim with cues := [(3, ⟨item 0xB001 0 256, none, 0, false, 0, 0⟩)] } }, 0, 3, ⟨item 0xB001 0 256, none, 0, false, 0, 0⟩, by decide +kernel⟩

theorem wit_PulsesAndCuesComplete_10 :
    ∃ (s : State) (t : Nat) (slot : Fin 64) (c : CueSlot),
      ((s.to t).cueOf? slot.val = some c) ∧ (c.due ≤ (s.to t).devNs) ∧ ((s.to t).runs 11 blkCues = true) ∧
        ((s.to t).cueBehind slot.val = false) ∧ (c.repeats = true) ∧ ((s.to t).cueHeld c = true) :=
  ⟨{ up with tim := { up.tim with cues := [(3, ⟨item 0xB001 0 256, none, 0, true, 0, 0⟩)] }, hif := { up.hif with longs := [⟨64, 0, item 0xB001 0 256, 11, .suspended, 0, 0, 0, none, 0, Desc.zero, []⟩] } }, 0, 3, ⟨item 0xB001 0 256, none, 0, true, 0, 0⟩, by decide +kernel⟩

theorem wit_VoteCommandsComplete_1 :
    ∃ (s : State) (t : Nat) (rq : Requester),
      ((s.to t).reaches rq Reg.TIM_VOTE_CMD = true) :=
  ⟨up, 0, 0, by decide +kernel⟩

theorem wit_VoteCommandsComplete_2 :
    ∃ (s : State) (t : Nat) (rq : Requester),
      ((s.to t).reaches rq Reg.TIM_VOTE_CMD = true) :=
  ⟨up, 0, 0, by decide +kernel⟩

theorem wit_VoteCommandsComplete_3 :
    ∃ (s : State) (t : Nat) (rq : Requester),
      ((s.to t).reaches rq Reg.TIM_VOTE_CMD = true) :=
  ⟨up, 0, 0, by decide +kernel⟩

theorem wit_VoteCommandsComplete_4 :
    ∃ (s : State) (t : Nat) (rq : Requester),
      ((s.to t).reaches rq Reg.TIM_VOTE_CMD = true) :=
  ⟨up, 0, 0, by decide +kernel⟩

theorem wit_VoteCommandsComplete_5 :
    ∃ (s : State) (t : Nat) (rq : Requester),
      ((s.to t).reaches rq Reg.TIM_VOTE_CMD = true) :=
  ⟨up, 0, 0, by decide +kernel⟩

theorem wit_VoteCommandsComplete_6 :
    ∃ (s : State) (t : Nat) (rq : Requester),
      ((s.to t).reaches rq Reg.TIM_VOTE_CMD = true) :=
  ⟨up, 0, 0, by decide +kernel⟩

theorem wit_VoteCommandsComplete_7 :
    ∃ (s : State) (t : Nat) (rq : Requester),
      ((s.to t).reaches rq Reg.TIM_VOTE_CMD = true) :=
  ⟨up, 0, 0, by decide +kernel⟩

theorem wit_StopInputsComplete_1 :
    ∃ (s : State) (t : Nat) (ch : Fin 2) (low : Nat),
      (19000 ≤ low) :=
  ⟨up, 0, 1, 19000, by decide +kernel⟩

theorem wit_StopInputsComplete_2 :
    ∃ (s : State) (t : Nat) (ch : Fin 2) (high : Nat),
      (19000 ≤ high) ∧ ((s.to t).flag (chanBit ch.val) = false) :=
  ⟨up, 0, 1, 19000, by decide +kernel⟩

theorem wit_StopInputsComplete_3 :
    ∃ (s : State) (t : Nat) (ch : Fin 2) (high : Nat),
      (19000 ≤ high) ∧ ((s.to t).flag (chanBit ch.val) = true) :=
  ⟨(up.setFlag B.WHOA_STS_CHAN_B true), 0, 1, 19000, by decide +kernel⟩

theorem wit_StopInputsComplete_4 :
    ∃ (s : State) (t : Nat) (ch : Fin 2) (fell low other : Nat) (v w : State),
      ((s.to t).whoaDue (if ch.val = 0 then (s.to t).whoa.pulseAt.1 else (s.to t).whoa.pulseAt.2) ((s.to t).get
        B.WHOA_CFG_TP_PERIOD * 10) = true) ∧ (low = 0 ∨ 2000 < fell ∨ (7000 < fell + low ∧ low < 19000)) ∧ (other = 0
        ∨ 19000 ≤ other) ∧ (v = { (s.to t) with
          whoa := { (s.to t).whoa with
              pulseAt := (if ch.val = 0 then (some (s.to t).cyc, (s.to t).whoa.pulseAt.2) else
                ((s.to t).whoa.pulseAt.1, some (s.to t).cyc)) } }) ∧ (w = v.latchFault (1 + ch.val)) :=
  ⟨up, 0, 1, 0, 0, 0, _, _, by decide +kernel, by decide +kernel, by decide +kernel, rfl, rfl⟩

theorem wit_StopInputsComplete_5 :
    ∃ (s : State) (t : Nat) (ch : Fin 2) (fell low other : Nat) (v w : State),
      ((s.to t).whoaDue (if ch.val = 0 then (s.to t).whoa.pulseAt.1 else (s.to t).whoa.pulseAt.2) ((s.to t).get
        B.WHOA_CFG_TP_PERIOD * 10) = true) ∧ (0 < low) ∧ (fell ≤ 2000) ∧ (fell + low ≤ 7000 ∨ 19000 ≤ low) ∧ (0 <
        other) ∧ (other < 19000) ∧ (v = { (s.to t) with
          whoa := { (s.to t).whoa with
              pulseAt := (if ch.val = 0 then (some (s.to t).cyc, (s.to t).whoa.pulseAt.2) else
                ((s.to t).whoa.pulseAt.1, some (s.to t).cyc)) } }) ∧ (w = v.latchFault 3) :=
  ⟨up, 0, 1, 10, 5000, 5000, _, _, by decide +kernel, by decide +kernel, by decide +kernel, by decide +kernel, by decide +kernel, by decide +kernel, rfl, rfl⟩

theorem wit_StopInputsComplete_6 :
    ∃ (s : State) (t : Nat) (ch : Fin 2) (fell low other : Nat),
      ((s.to t).whoaDue (if ch.val = 0 then (s.to t).whoa.pulseAt.1 else (s.to t).whoa.pulseAt.2) ((s.to t).get
        B.WHOA_CFG_TP_PERIOD * 10) = true) ∧ (0 < low) ∧ (fell ≤ 2000) ∧ (fell + low ≤ 7000 ∨ 19000 ≤ low) ∧ (other =
        0 ∨ 19000 ≤ other) :=
  ⟨up, 0, 1, 10, 5000, 0, by decide +kernel⟩

theorem wit_StopInputsComplete_7 :
    ∃ (s : State) (t : Nat) (apart : Nat),
      (s.to t).flag B.WHOA_STS_CHAN_A ≠ (s.to t).flag B.WHOA_STS_CHAN_B ∧ (5000000 < apart) :=
  ⟨(up.setFlag B.WHOA_STS_CHAN_B true), 0, 5000001, by decide +kernel⟩

theorem wit_StopInputsComplete_8 :
    ∃ (s : State) (t : Nat) (pos : Fin 4) (steady : Nat),
      (20 * whoaMs ≤ steady) ∧ ((s.to t).keyPos = 0) ∧ pos.val ≠ 0 ∧ pos.val ≠ 3 :=
  ⟨up, 0, 1, 2000000, by decide +kernel⟩

theorem wit_StopInputsComplete_9 :
    ∃ (s : State) (t : Nat) (steady : Nat),
      (20 * whoaMs ≤ steady) ∧ ((s.to t).keyPos = 1) ∧ ((((s.to t).wr Reg.WHOA_KEY 0).whoaChange 4 0 0).whoa.turning =
        true) ∧ ((((s.to t).wr Reg.WHOA_KEY 0).whoaChange 4 0 0).loopsGood = true) :=
  ⟨(let v := ((up.setFlag B.WHOA_STS_CHAN_A true).setFlag B.WHOA_STS_CHAN_B true).wr Reg.WHOA_KEY 1; { v with cyc := cycS, whoa := { v.whoa with turning := true, closedAt := (0, 0), failAt := 0 } }), 0, 2000000, by decide +kernel⟩

theorem wit_PanelAndMonitorsComplete_1 :
    ∃ (s : State) (t : Nat) (readings : List (BitVec 16)),
      ((s.to t).whoaDue (s.to t).whoa.touchAt 5 = true) :=
  ⟨up, 0, [], by decide +kernel⟩

theorem wit_PanelAndMonitorsComplete_2 :
    ∃ (s : State) (t : Nat),
      ((s.to t).flag B.WHOA_TOUCH_STS_HOLD = true) ∧ (2000 ≤ (s.to t).get B.WHOA_TOUCH_STS_HOLD_MS) ∧
        ((s.to t).stopped = true) ∧ ((s.to t).releaseReady = true) ∧ ((s.to t).releasePermitted = true) :=
  ⟨(ready.set B.WHOA_TOUCH_STS_HOLD_MS 2000), 0, by decide +kernel⟩

theorem wit_PanelAndMonitorsComplete_3 :
    ∃ (s : State) (t : Nat),
      ((s.to t).flag B.WHOA_TOUCH_STS_HOLD = true) ∧ (2000 ≤ (s.to t).get B.WHOA_TOUCH_STS_HOLD_MS) ∧
        ((s.to t).stopped = true) ∧ ((s.to t).releaseReady = true) ∧ ((s.to t).releasePermitted = false) :=
  ⟨((ready.set B.WHOA_TOUCH_STS_HOLD_MS 2000).setFlag B.WHOA_STS_PERMIT false), 0, by decide +kernel⟩

theorem wit_PanelAndMonitorsComplete_4 :
    ∃ (s : State) (t : Nat) (outs : BitVec 4) (steady : Nat),
      (whoaMs < steady) ∧ ((s.to t).get B.WHOA_STS_OUT ^^^ outs.toNat) ≠ 0 :=
  ⟨up, 0, 5, 100001, by decide +kernel⟩

theorem wit_PanelAndMonitorsComplete_5 :
    ∃ (s : State) (t : Nat) (main second : Nat),
      (main < ((main - second) + (second - main)) * 10) :=
  ⟨up, 0, 100, 80, by decide +kernel⟩

theorem wit_PanelAndMonitorsComplete_6 :
    ∃ (s : State) (t : Nat) (hpd : BitVec 8) (ant svc : Bool) (steady : Nat),
      (10 * whoaMs ≤ steady) ∧ ((s.to t).rd Reg.WHOA_PLUG_STS ≠ (hpd.toNat + (if ant then 2 ^ 8 else 0) + (if svc then
        2 ^ 9 else 0) + (if ((svc && (s.to t).keyPos == 1)) then 2 ^ 10 else 0))) :=
  ⟨up, 0, 3, true, true, 1000000, by decide +kernel⟩

theorem wit_StopRequestsComplete_1 :
    ∃ (s : State) (t : Nat) (x : WhoaChange) (l : List WhoaChange) (v : State) (r2 : Nat),
      ((s.to t).whoa.changes = x :: l) ∧ (v = { (s.to t) with whoa := { (s.to t).whoa with changes := l } }) ∧ (r2 =
        (if v.timeUnset then 0 else v.devNs)) :=
  ⟨{ up with whoa := { up.whoa with changes := [⟨2, 0, 0⟩] } }, 0, ⟨2, 0, 0⟩, [], _, _, by decide +kernel, rfl, rfl⟩

theorem wit_StopRequestsComplete_2 :
    ∃ (s : State) (t : Nat) (it : Item) (late : Bool),
      ((s.to t).goes 0 it Checks.pass late = true) :=
  ⟨up, 0, item 0xD001 0 256, false, by decide +kernel⟩

theorem wit_StopRequestsComplete_3 :
    ∃ (s : State) (t : Nat) (it : Item) (late : Bool),
      ((s.to t).goes 0 it { Checks.pass with state := (s.to t).stopped && !(s.to t).halter } late = true) :=
  ⟨(up.setFlag B.WHOA_STS_STOPPED true), 0, item 0xD002 0 256, false, by decide +kernel⟩

theorem wit_StopRequestsComplete_4 :
    ∃ (s : State) (t : Nat) (it : Item),
      ((s.to t).rejects 0 it { Checks.pass with state := (s.to t).stopped && !(s.to t).halter } .rejState = true) :=
  ⟨(up.setFlag B.WHOA_STS_STOPPED false), 0, item 0xD002 0 256, by decide +kernel⟩

theorem wit_StopRequestsComplete_5 :
    ∃ (s : State) (t : Nat),
      ((s.to t).stopped = true) ∧ ((s.to t).net.stopAt + 10 * cycMs ≤ (s.to t).cyc) :=
  ⟨(up.setFlag B.WHOA_STS_STOPPED true), 10 * cycMs, by decide +kernel⟩

theorem wit_FramesAndMediaComplete_1 :
    ∃ (s : State) (t : Nat) (port : Fin 2) (bs : List Byte) (express fragErr : Bool) (stamp : BitVec 64) (fill : Nat),
      ((s.to t).runs 10 (blkPort port.val) = true) ∧ ((s.to t).flag (netEnable port.val) = true) ∧ (bs.length ≤ 63) :=
  ⟨netUp, 0, 0, leBytes 63 0, false, false, 7, 0, by decide +kernel⟩

theorem wit_FramesAndMediaComplete_2 :
    ∃ (s : State) (t : Nat) (port : Fin 2) (bs : List Byte) (express : Bool) (stamp : BitVec 64) (fill : Nat),
      ((s.to t).runs 10 (blkPort port.val) = true) ∧ ((s.to t).flag (netEnable port.val) = true) ∧ (64 ≤ bs.length) ∧
        (fcsGood bs = false) :=
  ⟨netUp, 0, 0, leBytes 64 0, false, 7, 0, by decide +kernel⟩

theorem wit_FramesAndMediaComplete_3 :
    ∃ (s : State) (t : Nat) (port : Fin 2) (bs : List Byte) (express : Bool) (stamp : BitVec 64) (fill : Nat) (v :
      State),
      ((s.to t).runs 10 (blkPort port.val) = true) ∧ ((s.to t).flag (netEnable port.val) = true) ∧ (64 ≤ bs.length) ∧
        (fcsGood bs = true) ∧ (bs.length ≤ (s.to t).netMax port.val) ∧ (v = (s.to t).seeWire port.val false
        ((s.to t).rxStamp port.val stamp) (etherType bs) bs) ∧ (¬ (port.val = 0 ∧ beAt bs 0 6 = 0x0180C2000001)) ∧
        (v.netMatch port.val (beAt bs 0 6) = none) :=
  ⟨netUp, 0, 0, withFcs (leBytes 60 5), false, 7, 0, _, by decide +kernel, by decide +kernel, by decide +kernel, by decide +kernel, by decide +kernel, rfl, by decide +kernel, by decide +kernel⟩

theorem wit_FramesAndMediaComplete_4 :
    ∃ (s : State) (t : Nat) (port : Fin 2) (bs : List Byte) (express : Bool) (stamp : BitVec 64) (fill m d : Nat) (it
      : Item) (rest : List Item) (v w : State) (wrote : List Byte),
      ((s.to t).runs 10 (blkPort port.val) = true) ∧ ((s.to t).flag (netEnable port.val) = true) ∧ (64 ≤ bs.length) ∧
        (fcsGood bs = true) ∧ (bs.length ≤ (s.to t).netMax port.val) ∧ (v = (s.to t).seeWire port.val false
        ((s.to t).rxStamp port.val stamp) (etherType bs) bs) ∧ (¬ (port.val = 0 ∧ beAt bs 0 6 = 0x0180C2000001)) ∧
        (v.netMatch port.val (beAt bs 0 6) = some (m, d)) ∧ (fill + bs.length ≤ 32768) ∧ (v.bufs port.val d = it ::
        rest) ∧ (bs.length ≤ v.netMax port.val) ∧ (wrote = (bs.take (bs.length - 4)).take it.d.len.toNat) ∧ (w =
        ((v.setBufs port.val d rest).count (netCnt port.val 0)).writeHost it.d.ptr.toNat wrote) :=
  ⟨(netUp.setBufs 0 0 [item 0xA002 0 256]), 0, 0, frame0, false, 7, 0, 9, 0, item 0xA002 0 256, [], _, _, _, by decide +kernel, by decide +kernel, by decide +kernel, by decide +kernel, by decide +kernel, rfl, by decide +kernel, by decide +kernel, by decide +kernel, by decide +kernel, by decide +kernel, rfl, rfl⟩

theorem wit_FramesAndMediaComplete_5 :
    ∃ (s : State) (t : Nat) (bs : List Byte) (express : Bool) (stamp : BitVec 64) (fill q : Nat),
      ((s.to t).runs 10 (blkPort 0) = true) ∧ ((s.to t).flag (netEnable 0) = true) ∧ (64 ≤ bs.length) ∧ (fcsGood bs =
        true) ∧ (bs.length ≤ (s.to t).netMax 0) ∧ (pauseOf bs = some q) ∧ (beAt bs 0 6 = 0x0180C2000001) :=
  ⟨netUp, 0, withFcs (beBytes 6 0x0180C2000001 ++ beBytes 6 1 ++ beBytes 2 0x8808 ++ beBytes 2 1 ++ beBytes 2 9 ++ leBytes 42 0), false, 7, 0, 9, by decide +kernel⟩

theorem wit_FramesAndMediaComplete_6 :
    ∃ (s : State) (t : Nat) (it : Item) (raw frame : List Byte) (late : Bool),
      (((s.to t).txq (if argBit it.d.arg0 0 then 1 else 0)).length < 256) ∧ (frame = (raw ++ leBytes (it.d.len.toNat -
        raw.length) 0).take it.d.len.toNat) ∧ ((s.to t).goes 10 { it with d := { it.d with when_ := 0 } }
        ((s.to t).netTxChecks it frame) late = true) :=
  ⟨netUp, 0, { item 0xA001 0 256 with d := { (item 0xA001 0 256).d with len := 60 } }, [], leBytes 60 0, false, by decide +kernel⟩

theorem wit_FramesAndMediaComplete_7 :
    ∃ (s : State) (t : Nat) (it : Item) (late : Bool),
      (((s.to t).bufs (if argBit it.d.arg0 0 then 1 else 0) (if it.ring?.isSome then 1 else 0)).length < 256) ∧
        ((s.to t).goes 10 it { Checks.pass with
          range := it.d.context == 0 && 64 ≤ it.d.len.toNat && it.d.len.toNat ≤ 9216, state := (s.to t).flag (netLink
            (if argBit it.d.arg0 0 then 1 else 0)) } late = true) :=
  ⟨netUp, 0, { item 0xA002 0 256 with d := { (item 0xA002 0 256).d with len := 64 } }, false, by decide +kernel⟩

theorem wit_FramesAndMediaComplete_8 :
    ∃ (s : State) (t : Nat) (port : Fin 2) (express : Bool) (stamp : BitVec 64) (x : TxItem),
      ((s.to t).txOpen port.val = true) ∧ ((s.to t).lineTaken port.val express = false) ∧ (¬ (port.val = 0 ∧ express =
        false ∧ ((s.to t).txHead port.val true).isSome = true)) ∧ ((s.to t).net.held = none) ∧ ((s.to t).txHead
        port.val express = some x) ∧ (¬ ((s.to t).devNs < x.item.d.when_.toNat ∨ (s.to t).cyc < x.backoff)) ∧
        (x.item.d.noLate = false ∨ ((x.item.d.when_.toNat != 0 && decide (x.item.d.when_.toNat ≤ x.headNs))) = false)
        :=
  ⟨(netUp.setTxq 0 [⟨item 0xA001 0 256, false, leBytes 60 0, 0, 0, 0, 0⟩]), 0, 0, false, 7, ⟨item 0xA001 0 256, false, leBytes 60 0, 0, 0, 0, 0⟩, by decide +kernel⟩

theorem wit_FramesAndMediaComplete_9 :
    ∃ (s : State) (t : Nat) (port : Fin 2) (express : Bool) (stamp : BitVec 64) (x : TxItem),
      ((s.to t).txOpen port.val = true) ∧ ((s.to t).lineTaken port.val express = false) ∧ (¬ (port.val = 0 ∧ express =
        false ∧ ((s.to t).txHead port.val true).isSome = true)) ∧ ((s.to t).net.held = none) ∧ ((s.to t).txHead
        port.val express = some x) ∧ (¬ ((s.to t).devNs < x.item.d.when_.toNat ∨ (s.to t).cyc < x.backoff)) ∧
        (x.item.d.noLate = true) ∧ x.item.d.when_.toNat ≠ 0 ∧ (x.item.d.when_.toNat ≤ x.headNs) :=
  ⟨(let v := netUp.setTxq 0 [⟨{ item 0xA001 0 256 with d := { (item 0xA001 0 256).d with when_ := 5, noLate := true } }, false, leBytes 60 0, 0, 9, 0, 0⟩]; { v with ctr := 9 * 2 ^ 40 }), 0, 0, false, 7, ⟨{ item 0xA001 0 256 with d := { (item 0xA001 0 256).d with when_ := 5, noLate := true } }, false, leBytes 60 0, 0, 9, 0, 0⟩, by decide +kernel⟩

theorem wit_FramesAndMediaComplete_10 :
    ∃ (s : State) (t : Nat) (stamp : BitVec 64) (w : Wire),
      ((s.to t).txOpen 0 = true) ∧ ((s.to t).lineTaken 0 false = false) ∧ (((s.to t).txHead 0 true).isSome = false) ∧
        ((s.to t).net.held = some w) :=
  ⟨{ netUp with net := { netUp.net with held := some ⟨7, false, 1000, 300, 0⟩ } }, 0, 7, ⟨7, false, 1000, 300, 0⟩, by decide +kernel⟩

theorem wit_FramesAndMediaComplete_11 :
    ∃ (s : State) (t : Nat) (p : Nat) (x : TxItem) (late : Bool) (raw : BitVec 64) (v w : State) (n : Nat),
      (n = (s.to t).txStamp p raw) ∧ (v = ((s.to t).txDrop p x).netSent (.frame p x.express x.item.id n (x.frame n)))
        ∧ (w = (if p = 0 then { v with
          net := { v.net with wire := some ⟨x.item.id, x.express, (x.frame n).length, 0, v.tenths⟩ } } else v)) :=
  ⟨netUp, 0, 0, ⟨item 0xA001 0 256, false, leBytes 60 0, 0, 0, 0, 0⟩, false, 7, _, _, _, rfl, rfl, rfl⟩

theorem wit_FramesAndMediaComplete_12 :
    ∃ (s : State) (t : Nat) (port : Fin 2) (express : Bool) (x : TxItem),
      ((s.to t).txHead port.val express = some x) ∧ (x.headAt + (s.to t).get B.NET_A_CFG_TX_TIMEOUT * cycMs ≤
        (s.to t).cyc) ∧ ((s.to t).runs 10 (blkPort port.val) = true) :=
  ⟨((netUp.setTxq 0 [⟨item 0xA001 0 256, false, leBytes 60 0, 0, 0, 0, 0⟩]).set B.NET_A_CFG_TX_TIMEOUT 1), cycMs, 0, false, ⟨item 0xA001 0 256, false, leBytes 60 0, 0, 0, 0, 0⟩, by decide +kernel⟩

theorem wit_FramesAndMediaComplete_13 :
    ∃ (s : State) (t : Nat) (it : Item) (late : Bool) (x : BitVec 16),
      ((s.to t).goes 10 it { Checks.pass with range := it.d.context == 0 } late = true) ∧ (argBit it.d.arg0 1 = false)
        :=
  ⟨netUp, 0, item 0xA003 0 256, false, 7, by decide +kernel⟩

theorem wit_FramesAndMediaComplete_14 :
    ∃ (s : State) (t : Nat) (it : Item) (late : Bool),
      ((s.to t).goes 10 it { Checks.pass with range := it.d.context == 0 } late = true) ∧ (argBit it.d.arg0 1 = true)
        :=
  ⟨netUp, 0, { item 0xA003 0 256 with d := { (item 0xA003 0 256).d with arg0 := 2 } }, false, by decide +kernel⟩

theorem wit_FramesAndMediaComplete_15 :
    ∃ (s : State) (t : Nat) (it : Item) (late : Bool),
      ((s.to t).goes 10 it { Checks.pass with range := it.d.context == 0 } late = true) ∧ (argBit it.d.arg0 1 = false)
        ∧ (argBit it.d.arg0 0 = false) :=
  ⟨netUp, 0, item 0xA003 0 256, false, by decide +kernel⟩

theorem wit_PortEventsComplete_1 :
    ∃ (s : State) (t : Nat) (quanta : BitVec 16),
      ((s.to t).runs 10 (blkPort 0) = true) ∧ ((s.to t).flag B.NET_A_CFG_ENABLE = true) :=
  ⟨netUp, 0, 5, by decide +kernel⟩

theorem wit_PortEventsComplete_2 :
    ∃ (s : State) (t : Nat) (quanta : Nat) (v : State),
      quanta ≠ 0 ∧ (v = ((s.to t).count (netCnt 0 9)).preempt) :=
  ⟨netUp, 0, 5, _, by decide +kernel, rfl⟩

theorem wit_PortEventsComplete_4 :
    ∃ (s : State) (t : Nat),
      ((s.to t).net.paused = true) ∧ ((s.to t).net.pauseEnd ≤ (s.to t).tenths) :=
  ⟨{ netUp with net := { netUp.net with paused := true } }, 0, by decide +kernel⟩

theorem wit_PortEventsComplete_5 :
    ∃ (s : State) (t : Nat) (fill : Nat),
      ((s.to t).flag B.NET_A_PAUSE_TX_EN = true) ∧ ((s.to t).runs 10 (blkPort 0) = true) ∧ ((s.to t).flag
        B.NET_A_CFG_ENABLE = true) ∧ ((s.to t).net.pauseSent = none) ∧ (24576 < fill) :=
  ⟨(netUp.setFlag B.NET_A_PAUSE_TX_EN true), 0, 24577, by decide +kernel⟩

theorem wit_PortEventsComplete_6 :
    ∃ (s : State) (t : Nat) (fill t0 : Nat),
      ((s.to t).flag B.NET_A_PAUSE_TX_EN = true) ∧ ((s.to t).runs 10 (blkPort 0) = true) ∧ ((s.to t).flag
        B.NET_A_CFG_ENABLE = true) ∧ ((s.to t).net.pauseSent = some t0) ∧ (fill < 16384) :=
  ⟨(let v := netUp.setFlag B.NET_A_PAUSE_TX_EN true; { v with net := { v.net with pauseSent := some 0 } }), 0, 16383, 0, by decide +kernel⟩

theorem wit_PortEventsComplete_7 :
    ∃ (s : State) (t : Nat) (x : TxItem) (r : Nat) (v : State),
      ((s.to t).txHead 1 false = some x) ∧ ((s.to t).txOpen 1 = true) ∧ (x.tries < 15) ∧ (v = (s.to t).count (netCnt 1
        10)) ∧ (r = v.freeVal.toNat % 2 ^ min (x.tries + 1) 10) :=
  ⟨((netUp.setTxq 1 [⟨item 0xA001 0 256, false, leBytes 60 0, 0, 0, 0, 0⟩])), 0, ⟨item 0xA001 0 256, false, leBytes 60 0, 0, 0, 0, 0⟩, _, _, by decide +kernel, by decide +kernel, by decide +kernel, rfl, rfl⟩

theorem wit_PortEventsComplete_8 :
    ∃ (s : State) (t : Nat) (x : TxItem),
      ((s.to t).txHead 1 false = some x) ∧ ((s.to t).txOpen 1 = true) ∧ (15 ≤ x.tries) :=
  ⟨((netUp.setTxq 1 [⟨item 0xA001 0 256, false, leBytes 60 0, 0, 0, 15, 0⟩])), 0, ⟨item 0xA001 0 256, false, leBytes 60 0, 0, 0, 15, 0⟩, by decide +kernel⟩

theorem wit_PortEventsComplete_9 :
    ∃ (s : State) (t : Nat) (x : TxItem),
      ((s.to t).txHead 1 false = some x) ∧ ((s.to t).txOpen 1 = true) :=
  ⟨((netUp.setTxq 1 [⟨item 0xA001 0 256, false, leBytes 60 0, 0, 0, 0, 0⟩])), 0, ⟨item 0xA001 0 256, false, leBytes 60 0, 0, 0, 0, 0⟩, by decide +kernel⟩

theorem wit_PortEventsComplete_10 :
    ∃ (s : State) (t : Nat),
      ((s.to t).net.beaconAt + 130 * cycMs ≤ (s.to t).cyc) :=
  ⟨netUp, 130 * cycMs, by decide +kernel⟩

theorem wit_PortEventsComplete_11 :
    ∃ (s : State) (t : Nat),
      ((s.to t).runs 10 (blkPort 1) = true) ∧ ((s.to t).flag B.NET_B_CFG_ENABLE = true) :=
  ⟨netUp, 0, by decide +kernel⟩

theorem wit_PortEventsComplete_12 :
    ∃ (s : State) (t : Nat) (passed : Bool),
      ((s.to t).runs 10 (blkPort 0) = true) ∧ ((s.to t).flag B.NET_A_CFG_ENABLE = true) ∧ ((s.to t).flag
        B.NET_A_CFG_PREEMPT = true) :=
  ⟨(netUp.setFlag B.NET_A_CFG_PREEMPT true), 0, true, by decide +kernel⟩

theorem wit_PortEventsComplete_13 :
    ∃ (s : State) (t : Nat) (fast : Bool),
      ((s.to t).runs 10 (blkPort 0) = true) ∧ ((s.to t).flag B.NET_A_CFG_ENABLE = true) ∧ ((s.to t).flag
        B.NET_A_STS_LINK = false) :=
  ⟨(netUp.setFlag B.NET_A_STS_LINK false), 0, true, by decide +kernel⟩

theorem wit_PortEventsComplete_14 :
    ∃ (s : State) (t : Nat),
      ((s.to t).runs 10 (blkPort 1) = true) ∧ ((s.to t).flag B.NET_B_CFG_ENABLE = true) ∧ ((s.to t).flag
        B.NET_B_STS_LINK = true) :=
  ⟨netUp, 0, by decide +kernel⟩

theorem wit_KeySlotsComplete_1 :
    ∃ (s : State) (t : Nat) (it : Item) (raw : List Byte) (plain : Option (List Byte)) (late : Bool) (k : Nat),
      ((s.to t).goes 12 it ((s.to t).loadChecks it (loadBag it raw plain)) late = true) ∧ ((s.to t).targetSlot
        (argBits it.d.arg0 8 0) = some k) :=
  ⟨tackUp, 0, tackItem 0xC001 3 0 144, bagBytes attr0 0 [], some (attr0.bytes ++ leBytes 32 9), false, 3, by decide +kernel⟩

theorem wit_KeySlotsComplete_2 :
    ∃ (s : State) (t : Nat) (it : Item) (mat : BitVec 512) (blob : List Byte) (late : Bool) (k : Nat),
      ((s.to t).goes 12 it ((s.to t).generateChecks it) late = true) ∧ ((s.to t).targetSlot (argBits it.d.arg1 8 0) =
        some k) :=
  ⟨tackUp, 0, { tackItem 0xC002 0x101 0 200 with d := { (tackItem 0xC002 0x101 0 200).d with arg1 := 3 + 0x1FF * 2 ^ 16 + 88 * 2 ^ 32 } }, 5, [], false, 3, by decide +kernel⟩

theorem wit_KeySlotsComplete_3 :
    ∃ (s : State) (t : Nat) (it : Item) (mat : BitVec 512) (late : Bool) (k : Nat),
      ((s.to t).goes 12 it ((s.to t).deriveChecks it) late = true) ∧ ((s.to t).targetSlot (argBits it.d.arg0 17 9) =
        some k) :=
  ⟨tackUp, 0, { tackItem 0xC003 (1 + 3 * 2 ^ 9 + 88 * 2 ^ 32) 0 8 with d := { (tackItem 0xC003 (1 + 3 * 2 ^ 9 + 88 * 2 ^ 32) 0 8).d with arg1 := 0x101 } }, 5, false, 3, by decide +kernel⟩

theorem wit_KeySlotsComplete_4 :
    ∃ (s : State) (t : Nat) (it : Item) (blob : List Byte) (late : Bool) (x : KeySlot) (w : Option KeyAttr),
      ((s.to t).goes 12 it ((s.to t).exportChecks it) late = true) ∧ ((s.to t).loaded? (argBits it.d.arg0 8 0) = some
        x) ∧ ((s.to t).wrapKey? it (argBits it.d.arg0 24 16) = some w) :=
  ⟨tackUp, 0, tackItem 0xC004 (1 + 0x1FF * 2 ^ 16) 0 200, [], false, ⟨attr1, 0, false, false⟩, none, by decide +kernel⟩

theorem wit_KeySlotsComplete_5 :
    ∃ (s : State) (t : Nat) (it : Item) (plain : List Byte) (late : Bool) (k : Nat),
      ((s.to t).goes 12 it ((s.to t).keyImportChecks it (some plain)) late = true) ∧ ((s.to t).targetSlot (argBits
        it.d.arg0 17 9) = some k) :=
  ⟨tackUp, 0, tackItem 0xC007 (1 + 3 * 2 ^ 9) 0 1188, attr0.bytes ++ leBytes 32 9, false, 3, by decide +kernel⟩

theorem wit_KeySlotsComplete_6 :
    ∃ (s : State) (t : Nat) (it : Item) (late : Bool) (x : KeySlot),
      ((s.to t).goes 12 it ((s.to t).tackChecks it true true ((s.to t).loaded? (argBits it.d.arg0 8 0)).isSome true)
        late = true) ∧ (((s.to t).unwait it.id).slotOf? (argBits it.d.arg0 8 0) = some x) :=
  ⟨tackUp, 0, tackItem 0xC005 1 0 0, false, ⟨attr1, 0, false, false⟩, by decide +kernel⟩

theorem wit_KeySlotsComplete_7 :
    ∃ (s : State) (t : Nat) (it : Item) (late : Bool),
      ((s.to t).goes 12 it ((s.to t).tackChecks it ((argBits it.d.arg0 31 0) != 0) true true
        ((s.to t).tack.revoked.contains (argBits it.d.arg0 31 0) || (s.to t).tack.revoked.length < 1024)) late = true)
        ∧ ((s.to t).tack.revoked.contains (argBits it.d.arg0 31 0) = false) :=
  ⟨tackUp, 0, tackItem 0xC006 77 0 0, false, by decide +kernel⟩

theorem wit_KeySlotsComplete_8 :
    ∃ (s : State) (t : Nat) (it : Item) (late : Bool),
      ((s.to t).goes 12 it ((s.to t).tackChecks it true true true ((s.to t).epoch < 62 && !(s.to t).tampered &&
        (s.to t).tack.rewrap.isNone)) late = true) ∧ (((s.to t).unwait it.id).tack.kekPrev = false) :=
  ⟨tackUp, 0, tackItem 0xC00D 0 0 0, false, by decide +kernel⟩

theorem wit_KeySlotsComplete_9 :
    ∃ (s : State) (t : Nat) (it : Item) (raw : List Byte) (opens : List (Option (List Byte) × List Byte)) (late :
      Bool) (bags : List (Saddlebag × List Byte)),
      (bags = bagsIn ((raw.take it.d.len.toNat).length / 64 + 1) (raw.take it.d.len.toNat) opens) ∧ ((s.to t).goes 12
        it ((s.to t).tackChecks it (it.d.len.toNat ≤ argBits it.d.arg1 31 0) true true (((s.to t).tack.kekPrev ||
        (s.to t).anyWrap) && !(s.to t).tampered && (s.to t).tack.rewrap.isNone)) late = true) :=
  ⟨tackUp, 0, tackItem 0xC00E 0 200 144, bagBytes attr0 0 [], [], false, _, rfl, by decide +kernel⟩

theorem wit_KeyUseAndZeroiseComplete_1 :
    ∃ (s : State) (t : Nat) (it : Item) (sig : List Byte) (late : Bool) (n : Nat),
      ((s.to t).goes 12 it ((s.to t).tackChecks it (it.d.len.toNat ≤ 65536) true ((s.to t).useSlot? (argBits it.d.arg0
        8 0) 3).isSome true) late = true) ∧ ((((s.to t).unwait it.id).loaded? (argBits it.d.arg0 8 0)).map (fun x =>
        sigLen x.attr.type.toNat) = some n) :=
  ⟨tackUp, 0, tackItem 0xC008 1 0 10, [1], false, 3309, by decide +kernel⟩

theorem wit_KeyUseAndZeroiseComplete_2 :
    ∃ (s : State) (t : Nat) (it : Item) (mac : BitVec 192) (late : Bool),
      ((s.to t).goes 12 it ((s.to t).tackChecks it (it.d.len.toNat ≤ 65536) true ((s.to t).useSlot? (argBits it.d.arg0
        8 0) 4).isSome true) late = true) :=
  ⟨tackUp, 0, tackItem 0xC009 1 0 10, 1, false, by decide +kernel⟩

theorem wit_KeyUseAndZeroiseComplete_3 :
    ∃ (s : State) (t : Nat) (it : Item) (bytes : List Byte) (late : Bool),
      ((s.to t).goes 12 it ((s.to t).tackChecks it (1 ≤ it.d.len.toNat && it.d.len.toNat ≤ 4096) true true true) late
        = true) :=
  ⟨tackUp, 0, tackItem 0xC00A 0 0 4096, [1], false, by decide +kernel⟩

theorem wit_KeyUseAndZeroiseComplete_4 :
    ∃ (s : State) (t : Nat) (it : Item) (pub : List Byte) (late : Bool),
      ((s.to t).goes 12 it ((s.to t).pubkeyChecks it) late = true) :=
  ⟨tackUp, 0, tackItem 0xC00B 0x200 0 97, [1], false, by decide +kernel⟩

theorem wit_KeyUseAndZeroiseComplete_5 :
    ∃ (s : State) (t : Nat) (it : Item) (digest : BitVec 384) (sigs : List Byte) (late : Bool),
      ((s.to t).goes 12 it ((s.to t).tackChecks it (3565 ≤ it.d.len.toNat) true ((s.to t).tack.identity && (argBit
        it.d.arg0 10 || (s.to t).plainSlot it)) true) late = true) :=
  ⟨tackUp, 0, tackItem 0xC00C 0x400 0 3565, 0, [], false, by decide +kernel⟩

theorem wit_KeyUseAndZeroiseComplete_6 :
    ∃ (s : State) (t : Nat) (it : Item) (late : Bool),
      ((s.to t).goes 12 it ((s.to t).tackChecks it true true true true) late = true) :=
  ⟨tackUp, 0, tackItem 0xC00F 0 0 0, false, by decide +kernel⟩

theorem wit_KeyUseAndZeroiseComplete_7 :
    ∃ (s : State) (t : Nat) (it : Item) (late : Bool),
      ((s.to t).goes 12 it ((s.to t).tackChecks it true true true (!(s.to t).halter && (s.to t).get B.WHOA_KEY_POS ==
        1 && (s.to t).rd Reg.TACK_TAMPER_LIVE == 0 && !(s.to t).chip.part.otp.exhausted && (s.to t).tampered)) late =
        true) :=
  ⟨(let v := (tackUp.wr Reg.WHOA_KEY 1); v.setOtp { v.chip.part.otp with tampers := 1 }), 0, tackItem 0xC010 0 0 0, false, by decide +kernel⟩

theorem wit_KeyUseAndZeroiseComplete_8 :
    ∃ (s : State) (t : Nat) (seen : TamperSeen),
      (seen.holds ((s.to t).get B.TACK_TAMPER_CFG_IN_MESH) = true) ∧ ((s.to t).tamperEnabled seen.source = true) ∧
        ((((s.to t).rd Reg.TACK_TAMPER_LIVE)).testBit seen.source = false) :=
  ⟨(tackUp.wr Reg.TACK_TAMPER_CFG 1), 0, .input 0 [(true, false), (true, false)], by decide +kernel⟩

theorem wit_KeyUseAndZeroiseComplete_9 :
    ∃ (s : State) (t : Nat) (seen : TamperSeen),
      (seen.holds ((s.to t).get B.TACK_TAMPER_CFG_IN_MESH) = false) :=
  ⟨tackUp, 0, .input 0 [(true, true)], by decide +kernel⟩

theorem wit_RecorderOperationsComplete_1 :
    ∃ (s : State) (t : Nat) (it : Item) (late : Bool) (v w x : State),
      ((s.to t).goes 14 it ⟨(s.to t).armRange it.d, true, true, (s.to t).recState == recIdle || ((s.to t).recState ==
        recHeld && !(s.to t).flag B.REC_STS_READING)⟩ late = true) ∧ (argBit it.d.arg0 1 = true) ∧ (v =
        ((s.to t).unwait it.id).wr Reg.REC_CAP_ID ((((s.to t).unwait it.id).rd Reg.REC_CAP_ID + 1) % 2 ^ 32)) ∧ (w = {
        v with
          recd := { v.recd with
              srcs := (List.range 8).map (fun n => v.recSource n), arm := some (it.acting late), trig := none,
                poisoned := false, overran := false } }) ∧ (x = ((w.set B.REC_STS_TRIG_WORD 0).set
        B.REC_STS_FIRST_SOURCE 0).wr64 Reg.REC_TRIG_TIME 0) :=
  ⟨recUp, 0, { item 0xE001 0 256 with d := { (item 0xE001 0 256).d with arg0 := 2 } }, false, _, _, _, by decide +kernel, by decide +kernel, rfl, rfl, rfl⟩

theorem wit_RecorderOperationsComplete_2 :
    ∃ (s : State) (t : Nat) (it : Item) (late : Bool) (v w x : State),
      ((s.to t).goes 14 it ⟨(s.to t).armRange it.d, true, true, (s.to t).recState == recIdle || ((s.to t).recState ==
        recHeld && !(s.to t).flag B.REC_STS_READING)⟩ late = true) ∧ (argBit it.d.arg0 1 = false) ∧ (argBit it.d.arg0
        0 = false) ∧ (v = ((s.to t).unwait it.id).wr Reg.REC_CAP_ID ((((s.to t).unwait it.id).rd Reg.REC_CAP_ID + 1) %
        2 ^ 32)) ∧ (w = { v with
          recd := { v.recd with
              srcs := (List.range 8).map (fun n => v.recSource n), arm := some (it.acting late), trig := none,
                poisoned := false, overran := false } }) ∧ (x = ((w.set B.REC_STS_TRIG_WORD 0).set
        B.REC_STS_FIRST_SOURCE 0).wr64 Reg.REC_TRIG_TIME 0) :=
  ⟨recUp, 0, item 0xE001 0 256, false, _, _, _, by decide +kernel, by decide +kernel, by decide +kernel, rfl, rfl, rfl⟩

theorem wit_RecorderOperationsComplete_3 :
    ∃ (s : State) (t : Nat) (it : Item) (late : Bool) (v w x y : State),
      ((s.to t).goes 14 it ⟨(s.to t).armRange it.d, true, true, (s.to t).recState == recIdle || ((s.to t).recState ==
        recHeld && !(s.to t).flag B.REC_STS_READING)⟩ late = true) ∧ (argBit it.d.arg0 1 = false) ∧ (argBit it.d.arg0
        0 = true) ∧ (v = ((s.to t).unwait it.id).wr Reg.REC_CAP_ID ((((s.to t).unwait it.id).rd Reg.REC_CAP_ID + 1) %
        2 ^ 32)) ∧ (w = { v with
          recd := { v.recd with
              srcs := (List.range 8).map (fun n => v.recSource n), arm := some (it.acting late), trig := none,
                poisoned := false, overran := false } }) ∧ (x = ((w.set B.REC_STS_TRIG_WORD 0).set
        B.REC_STS_FIRST_SOURCE 0).wr64 Reg.REC_TRIG_TIME 0) ∧ (y = x.armed) ∧ (y.flag B.REC_SYNC_CFG_DRIVE_EN = true)
        ∧ ((y.recSend (.syncLow false)).flag B.REC_SYNC_CFG_BYL_EN = true) :=
  ⟨((recUp.setFlag B.REC_SYNC_CFG_DRIVE_EN true).setFlag B.REC_SYNC_CFG_BYL_EN true), 0, { item 0xE001 0 256 with d := { (item 0xE001 0 256).d with arg0 := 1 } }, false, _, _, _, _, by decide +kernel, by decide +kernel, by decide +kernel, rfl, rfl, rfl, rfl, by decide +kernel, by decide +kernel⟩

theorem wit_RecorderOperationsComplete_4 :
    ∃ (s : State) (t : Nat) (it : Item) (late : Bool),
      ((s.to t).goes 14 it ⟨it.d.context == 0, true, true, (s.to t).recState == recArmed⟩ late = true) :=
  ⟨(recUp.setRecState recArmed), 0, item 0xE002 0 256, false, by decide +kernel⟩

theorem wit_RecorderOperationsComplete_5 :
    ∃ (s : State) (t : Nat) (it : Item) (late : Bool),
      ((s.to t).goes 14 it ⟨it.d.context == 0, true, true, (s.to t).recState == recPrimed || (s.to t).recState ==
        recArmed || (s.to t).recState == recTriggered⟩ late = true) :=
  ⟨(recUp.setRecState recArmed), 0, item 0xE003 0 256, false, by decide +kernel⟩

theorem wit_RecorderOperationsComplete_6 :
    ∃ (s : State) (t : Nat) (it : Item) (late : Bool),
      ((s.to t).goes 14 it ⟨it.d.context == 0, true, true, (s.to t).recState == recHeld && !(s.to t).flag
        B.REC_STS_READING⟩ late = true) :=
  ⟨(recUp.setRecState recHeld), 0, item 0xE005 0 256, false, by decide +kernel⟩

theorem wit_RecorderOperationsComplete_7 :
    ∃ (s : State) (t : Nat) (it : Item) (nonce : BitVec 64) (late : Bool),
      ((s.to t).goes 14 it ((s.to t).readoutChecks it.d) late = true) :=
  ⟨(recUp.setRecState recHeld), 0, { item 0xE004 0 256 with d := { (item 0xE004 0 256).d with len := 320 } }, 7, false, by decide +kernel⟩

theorem wit_RecorderEventsComplete_1 :
    ∃ (s : State) (t : Nat),
      ((s.to t).runs 14 blkTrigger = true) :=
  ⟨recUp, 0, by decide +kernel⟩

theorem wit_RecorderEventsComplete_2 :
    ∃ (s : State) (t : Nat) (word at_ f i : Nat) (v y z : State),
      ((s.to t).recState = recArmed) ∧ ((s.to t).firedBy word at_ = some (f, i)) ∧ (v = (((({ (s.to t) with
          recd := { (s.to t).recd with trig := some i, fired := none } } : State).setRecState recTriggered).wr64
        Reg.REC_TRIG_TIME i).set B.REC_STS_TRIG_WORD f).set B.REC_STS_FIRST_SOURCE (lowestBit f)) ∧ (y = v.recEvent 1
        (f + lowestBit f * 2 ^ 8) i) ∧ (z = (if y.flag B.REC_SYNC_CFG_DRIVE_EN = true then y.recSend (.syncLow true)
        else y)) :=
  ⟨(recUp.setRecState recArmed), 0, 5, 77, 5, 77, _, _, _, by decide +kernel, by decide +kernel, rfl, rfl, rfl⟩

theorem wit_RecorderEventsComplete_3 :
    ∃ (s : State) (t : Nat),
      ((s.to t).recState = recTriggered) ∧ ((s.to t).recSrcs.all (fun x => !x.2.en || x.2.gotPost x.1
        (s.to t).recd.trig == x.2.post) = true) :=
  ⟨(recUp.setRecState recTriggered), 0, by decide +kernel⟩

theorem wit_RecorderEventsComplete_4 :
    ∃ (s : State) (t : Nat) (width edge : Nat),
      ((s.to t).flag B.REC_SYNC_CFG_SYNC_EN = true) ∧ ((s.to t).runs 14 blkTrigger = true) ∧ (500 ≤ width ∧ width ≤
        3000) :=
  ⟨(recUp.setFlag B.REC_SYNC_CFG_SYNC_EN true), 0, 3000, 5, by decide +kernel⟩

theorem wit_RecorderEventsComplete_5 :
    ∃ (s : State) (t : Nat) (width edge : Nat),
      ((s.to t).flag B.REC_SYNC_CFG_SYNC_EN = true) ∧ ((s.to t).runs 14 blkTrigger = true) ∧ (8000 ≤ width ∧ width ≤
        12000) ∧ ((s.to t).recState = recPrimed) :=
  ⟨((recUp.setFlag B.REC_SYNC_CFG_SYNC_EN true).setRecState recPrimed), 0, 8000, 5, by decide +kernel⟩

theorem wit_RecorderEventsComplete_6 :
    ∃ (s : State) (t : Nat) (width edge : Nat),
      ((s.to t).flag B.REC_SYNC_CFG_SYNC_EN = true) ∧ ((s.to t).runs 14 blkTrigger = true) ∧ (¬ (500 ≤ width ∧ width ≤
        3000)) ∧ (¬ (8000 ≤ width ∧ width ≤ 12000)) :=
  ⟨(recUp.setFlag B.REC_SYNC_CFG_SYNC_EN true), 0, 499, 5, by decide +kernel⟩

theorem wit_RecorderEventsComplete_7 :
    ∃ (s : State) (t : Nat) (rx : BylRx) (f : BylFrame) (p : List Byte) (v : State),
      (((s.to t).takeSealed rx 0x05).2 = some (f, p)) ∧ ((((s.to t).takeSealed rx 0x05).1).byl.lastSeq.all (fun q =>
        decide (q < f.seq)) = true) ∧ (v = { (((s.to t).takeSealed rx 0x05).1) with
          byl := { (((s.to t).takeSealed rx 0x05).1).byl with lastSeq := some f.seq } }) ∧ (v.runs 14 blkTrigger =
        true) ∧ (v.flag B.REC_SYNC_CFG_BYL_EN = true) ∧ (v.recState = recPrimed) :=
  ⟨(((linked roleHot).setFlag B.REC_SYNC_CFG_BYL_EN true).setRecState recPrimed), 0, rxOf 0x05 3 none [7, 0, 0, 0], _, [7, 0, 0, 0], _, rfl, by decide +kernel, rfl, by decide +kernel, by decide +kernel, by decide +kernel⟩

theorem wit_RecorderEventsComplete_8 :
    ∃ (s : State) (t : Nat) (rx : BylRx) (f : BylFrame) (p : List Byte) (v : State),
      (((s.to t).takeSealed rx 0x06).2 = some (f, p)) ∧ ((((s.to t).takeSealed rx 0x06).1).byl.lastSeq.all (fun q =>
        decide (q < f.seq)) = true) ∧ (v = { (((s.to t).takeSealed rx 0x06).1) with
          byl := { (((s.to t).takeSealed rx 0x06).1).byl with lastSeq := some f.seq } }) ∧ (v.runs 14 blkTrigger =
        true) ∧ (v.flag B.REC_SYNC_CFG_BYL_EN = true) :=
  ⟨((linked roleHot).setFlag B.REC_SYNC_CFG_BYL_EN true), 0, rxOf 0x06 3 none [7, 0, 0, 0, 0, 0, 0, 0], _, [7, 0, 0, 0, 0, 0, 0, 0], _, rfl, by decide +kernel, rfl, by decide +kernel, by decide +kernel⟩

theorem wit_ThermalLevelsAndWakeComplete_1 :
    ∃ (s : State) (t : Nat) (l : List (Fin 16 × BitVec 8)),
      (((s.to t).chip.powered && !(s.to t).chip.stabled && !(s.to t).chip.railWait && !l.isEmpty) = true) ∧
        (((s.to t).readTherm (hottest (l.map (fun p => (p.1.val, p.2.toInt))))).nextLevel (((s.to t).readTherm
        (hottest (l.map (fun p => (p.1.val, p.2.toInt))))).get B.CHIP_THERM_STS_LEVEL) = ((s.to t).readTherm (hottest
        (l.map (fun p => (p.1.val, p.2.toInt))))).get B.CHIP_THERM_STS_LEVEL) :=
  ⟨up, 0, [(3, 40)], by decide +kernel⟩

theorem wit_ThermalLevelsAndWakeComplete_2 :
    ∃ (s : State) (t : Nat) (l : List (Fin 16 × BitVec 8)),
      (((s.to t).chip.powered && !(s.to t).chip.stabled && !(s.to t).chip.railWait && !l.isEmpty) = true) ∧ (¬
        (((s.to t).readTherm (hottest (l.map (fun p => (p.1.val, p.2.toInt))))).nextLevel (((s.to t).readTherm
        (hottest (l.map (fun p => (p.1.val, p.2.toInt))))).get B.CHIP_THERM_STS_LEVEL) = ((s.to t).readTherm (hottest
        (l.map (fun p => (p.1.val, p.2.toInt))))).get B.CHIP_THERM_STS_LEVEL)) :=
  ⟨{ up with chip := { up.chip with hotRun := [(1, 1)] } }, 0, [(3, 96)], by decide +kernel⟩

theorem wit_ThermalLevelsAndWakeComplete_3 :
    ∃ (s : State) (t : Nat) (it : Item) (late : Bool),
      ((s.to t).goes 0 it { Checks.pass with range := it.d.context == 0, state := (s.to t).mayStable it } late = true)
        :=
  ⟨up.set B.CHIP_WAKE_EN_EN 2, 0, item 0x0030 0 0, false, by decide +kernel⟩

theorem wit_ThermalLevelsAndWakeComplete_4 :
    ∃ (s : State) (t : Nat) (src : Fin 6),
      ((s.to t).chip.stabled = true) ∧ (((s.to t).get B.CHIP_WAKE_EN_EN).testBit src.val = true) ∧ ((src.val == 2 &&
        decide ((s.to t).devNs < (s.to t).rd64 Reg.CHIP_WAKE_TIME)) = false) :=
  ⟨{ up.set B.CHIP_WAKE_EN_EN 2 with chip := { up.chip with stabled := true } }, 0, 1, by decide +kernel⟩

theorem wit_ThermalLevelsAndWakeComplete_5 :
    ∃ (s : State) (t : Nat) (src : Fin 6),
      (((s.to t).get B.CHIP_WAKE_EN_EN).testBit src.val = false) :=
  ⟨{ up.set B.CHIP_WAKE_EN_EN 2 with chip := { up.chip with stabled := true } }, 0, 2, by decide +kernel⟩

theorem wit_ThermalLevelsAndWakeComplete_6 :
    ∃ (s : State) (t : Nat) (c : Nat),
      ((s.to t).chip.wakeAt = some c) ∧ (c + 8 * cycMs ≤ (s.to t).cyc) :=
  ⟨{ up with chip := { up.chip with stabled := true, wakeAt := some 0 } }, 8000000, 0, by decide +kernel⟩

theorem wit_ImagesAndFusesComplete_1 :
    ∃ (s : State) (t : Nat) (it : Item) (img : Image) (late : Bool) (v w : State) (b : Bool),
      ((s.to t).goes 0 it (imageChecks (it.d.context == 0) (((s.to t).checkIn it.d.len.toNat img (argBit it.d.arg0 0)
        false).map ImgFail.status) (s.to t).updatable) late = true) ∧ (v = (s.to t).unwait it.id) ∧ (b = v.spareSlot
        (argBit it.d.arg0 0)) ∧ (w = { v with
          chip := { v.chip with writing := some ⟨it.handle.1, it.handle.2, argBit it.d.arg0 0, b, img⟩ } }) :=
  ⟨updating, 0, { item 0x0020 0 0 with d := { (item 0x0020 0 0).d with len := 8192 } }, fwImg, false, _, _, _, by decide +kernel, rfl, rfl, rfl⟩

theorem wit_ImagesAndFusesComplete_2 :
    ∃ (s : State) (t : Nat) (it : Item) (late : Bool),
      ((s.to t).goes 0 it ((s.to t).activateChecks it.d) late = true) :=
  ⟨updating, 0, { item 0x0021 0 0 with d := { (item 0x0021 0 0).d with arg0 := 60 * 2 ^ 16 } }, false, by decide +kernel⟩

theorem wit_ImagesAndFusesComplete_3 :
    ∃ (s : State) (t : Nat) (it : Item) (late : Bool),
      ((s.to t).goes 0 it { Checks.pass with
          range := it.d.context == 0 && it.d.ptr == 0 && it.d.len == 0, state := !(s.to t).halter && ((s.to t).flag
            B.CHIP_BOOT_STS_SOURCE || (s.to t).trialRuns) } late = true) :=
  ⟨up.setFlag B.CHIP_BOOT_STS_SOURCE true, 0, item 0x0022 0 0, false, by decide +kernel⟩

theorem wit_ImagesAndFusesComplete_4 :
    ∃ (s : State) (t : Nat) (it : Item) (r : OtpReq) (late : Bool),
      ((s.to t).goes 0 it (imageChecks (it.d.context == 0) ((s.to t).otpFail r it.d.len.toNat) ((s.to t).otpState r))
        late = true) ∧ (r.readback = true) :=
  ⟨up.set B.WHOA_KEY_POS 1, 0, { item 0x0023 0 0 with d := { (item 0x0023 0 0).d with len := 64 } }, ⟨[0x44, 0x5A, 0x4F, 0x50] ++ leBytes 2 1 ++ leBytes 1 1 ++ leBytes 57 0, signed0, true⟩, false, by decide +kernel⟩

theorem wit_ImagesAndFusesComplete_5 :
    ∃ (s : State) (t : Nat) (it : Item) (r : OtpReq) (late : Bool),
      ((s.to t).goes 0 it (imageChecks (it.d.context == 0) ((s.to t).otpFail r it.d.len.toNat) ((s.to t).otpState r))
        late = true) ∧ (r.readback = false) :=
  ⟨up.set B.WHOA_KEY_POS 1, 0, { item 0x0023 0 0 with d := { (item 0x0023 0 0).d with len := 64 } }, ⟨[0x44, 0x5A, 0x4F, 0x50] ++ leBytes 2 1 ++ leBytes 1 1 ++ leBytes 57 0, signed0, false⟩, false, by decide +kernel⟩

theorem wit_ImagesAndFusesComplete_6 :
    ∃ (s : State) (t : Nat) (it : Item) (r : OtpReq) (late : Bool),
      ((s.to t).goes 0 it (imageChecks (it.d.context == 0) ((s.to t).unlockFail r it.d.len.toNat) ((s.to t).policy ==
        1)) late = true) :=
  ⟨updating, 0, { item 0x0024 0 0 with d := { (item 0x0024 0 0).d with len := 8192 } }, ⟨[0x44, 0x5A, 0x4F, 0x50] ++ leBytes 2 1 ++ leBytes 1 5 ++ leBytes 57 0, signed0, true⟩, false, by decide +kernel⟩

theorem wit_HitchLineAndTokenComplete_1 :
    ∃ (s : State) (t : Nat) (seen : HitchIn) (pat : Hitch),
      (seen.pattern = some pat) ∧ ((s.to t).runs 15 blkHitch = true) ∧ ((pat == .absent && (s.to t).byl.lineIn !=
        .absent && (s.to t).bylUp && (s.to t).role != roleSolo) = false) :=
  ⟨pair, 0, .periods [500, 500, 500, 500], .heldJunior, by decide +kernel⟩

theorem wit_HitchLineAndTokenComplete_2 :
    ∃ (s : State) (t : Nat) (seen : HitchIn),
      (seen.pattern = some .absent) ∧ ((s.to t).runs 15 blkHitch = true) ∧ (s.to t).byl.lineIn ≠ .absent ∧
        ((s.to t).bylUp = true) ∧ (s.to t).role ≠ roleSolo :=
  ⟨linked roleHot, 0, .level 8000, by decide +kernel⟩

theorem wit_HitchLineAndTokenComplete_3 :
    ∃ (s : State) (t : Nat) (c : Nat) (w : ClaimFor),
      ((s.to t).byl.claim = some (c, w)) ∧ (c + 20 * cycUs ≤ (s.to t).cyc) ∧ ((s.to t).runs 15 blkHitch = true) ∧
        ((s.to t).byl.lineIn.isHeld = false) :=
  ⟨{ pair with byl := { pair.byl with claim := some (0, .start) } }, 20000, 0, .start, by decide +kernel⟩

theorem wit_HitchLineAndTokenComplete_4 :
    ∃ (s : State) (t : Nat) (c : Nat) (w : ClaimFor),
      ((s.to t).byl.claim = some (c, w)) ∧ (c + 20 * cycUs ≤ (s.to t).cyc) ∧ ((s.to t).runs 15 blkHitch = true) ∧
        ((s.to t).byl.lineIn.isHeld = true) ∧ ((s.to t).byl.lineIn = (s.to t).ownHeld) :=
  ⟨{ pair with byl := { pair.byl with claim := some (0, .start), lineIn := .heldJunior } }, 20000, 0, .start, by decide +kernel⟩

theorem wit_HitchLineAndTokenComplete_5 :
    ∃ (s : State) (t : Nat) (c : Nat) (w : ClaimFor),
      ((s.to t).byl.claim = some (c, w)) ∧ (c + 20 * cycUs ≤ (s.to t).cyc) ∧ ((s.to t).runs 15 blkHitch = true) ∧
        ((s.to t).byl.lineIn.isHeld = true) ∧ (s.to t).byl.lineIn ≠ (s.to t).ownHeld ∧ ((s.to t).flag
        B.BYL_PAIR_STS_SENIOR = true) :=
  ⟨{ (pair.setFlag B.BYL_PAIR_STS_SENIOR true) with byl := { pair.byl with claim := some (0, .start), lineIn := .heldJunior } }, 20000, 0, .start, by decide +kernel⟩

theorem wit_HitchLineAndTokenComplete_6 :
    ∃ (s : State) (t : Nat) (c : Nat) (w : ClaimFor),
      ((s.to t).byl.claim = some (c, w)) ∧ (c + 20 * cycUs ≤ (s.to t).cyc) ∧ ((s.to t).runs 15 blkHitch = true) ∧
        ((s.to t).byl.lineIn.isHeld = true) ∧ (s.to t).byl.lineIn ≠ (s.to t).ownHeld ∧ ((s.to t).flag
        B.BYL_PAIR_STS_SENIOR = false) :=
  ⟨{ pair with byl := { pair.byl with claim := some (0, .start), lineIn := .heldSenior } }, 20000, 0, .start, by decide +kernel⟩

theorem wit_HitchLineAndTokenComplete_7 :
    ∃ (s : State) (t : Nat),
      ((s.to t).role = roleCold) ∧ ((s.to t).byl.begun = false) ∧ ((if (s.to t).flag B.BYL_PAIR_STS_SENIOR then
        (s.to t).quietFor ((s.to t).param P.CLAIM_WAIT_S * cycMs) else (s.to t).absentFor ((s.to t).param
        P.CLAIM_WAIT_J * cycMs)) = true) ∧ ((s.to t).partnerActive = false) ∧ ((s.to t).mayClaim = true) :=
  ⟨pair, 5000000000, by decide +kernel⟩

theorem wit_HitchLineAndTokenComplete_8 :
    ∃ (s : State) (t : Nat),
      ((s.to t).role = roleHot) ∧ (((s.to t).byl.lost || (s.to t).partnerYields) = true) ∧ ((s.to t).byl.lineIn.isHeld
        = false) ∧ ((s.to t).mayClaim = true) :=
  ⟨{ linked roleHot with byl := { (linked roleHot).byl with lost := true } }, 5000000000, by decide +kernel⟩

theorem wit_HitchLineAndTokenComplete_9 :
    ∃ (s : State) (t : Nat),
      ((s.to t).role = roleCold) ∧ ((s.to t).flag B.BYL_PAIR_CFG_COLD_TAKEOVER = true) ∧ (((s.to t).byl.lost ||
        !(s.to t).bylUp) = true) ∧ ((s.to t).absentFor ((s.to t).param P.CLAIM_WAIT_S * cycMs) = true) ∧
        ((s.to t).mayClaim = true) :=
  ⟨pair.setFlag B.BYL_PAIR_CFG_COLD_TAKEOVER true, 5000000000, by decide +kernel⟩

theorem wit_HitchLineAndTokenComplete_10 :
    ∃ (s : State) (t : Nat) (partnerHeads : Bool),
      ((s.to t).role = roleActive) ∧ ((s.to t).runs 15 blkHitch = true) ∧ ((s.to t).partnerHot = true) ∧
        ((((s.to t).air.counting && decide ((s.to t).air.sfStart + 60000000 ≤ (s.to t).devNs) &&
        ((s.to t).headsUp.isEmpty || (s.to t).air.builtFor != some (((s.to t).sfn + 1) % 2 ^ 48))) || (s.to t).flag
        B.AIR_STS_BEACON_NOKEY || (partnerHeads && (s.to t).headsUp.isEmpty && decide ((s.to t).byl.headsAt + 20 *
        cycMs ≤ (s.to t).cyc))) = true) :=
  ⟨linked roleActive, 20000000, true, by decide +kernel⟩

theorem wit_PairLinkCommandsComplete_1 :
    ∃ (s : State) (t : Nat) (lanes : List (List (BitVec 130))) (skew : List Nat) (delay : Nat) (v w : State),
      (s.to t).role ≠ roleSolo ∧ ((s.to t).runs 15 blkLanes = true) ∧ ((s.to t).get B.BYL_LINK_STS_STATE < 2) ∧ ((([0,
        1, 2, 3].all fun k => laneLocks 0 (lanes.getD k [])) && deskewed [0, 1, 2, 3] skew) = true) ∧ (v =
        (s.to t).set B.BYL_LINK_STS_LANES_OK ((List.range 4).foldl (fun m k => if laneLocks 0 (lanes.getD k []) then m
        + 2 ^ k else m) 0)) ∧ (w = { v with
          byl := { v.byl with rxScr := scrSeeds, rxChunks := [], delay := delay } }) :=
  ⟨pair, 0, [(List.replicate 8 (2 : BitVec 130)), (List.replicate 8 (2 : BitVec 130)), (List.replicate 8 (2 : BitVec 130)), (List.replicate 8 (2 : BitVec 130))], [0, 20], 90, _, _, by decide +kernel, by decide +kernel, by decide +kernel, by decide +kernel, rfl, rfl⟩

theorem wit_PairLinkCommandsComplete_2 :
    ∃ (s : State) (t : Nat) (lanes : List (List (BitVec 130))) (skew : List Nat) (delay : Nat) (v w : State),
      (s.to t).role ≠ roleSolo ∧ ((s.to t).runs 15 blkLanes = true) ∧ ((s.to t).get B.BYL_LINK_STS_STATE < 2) ∧ ((([0,
        1, 2, 3].all fun k => laneLocks 0 (lanes.getD k [])) && deskewed [0, 1, 2, 3] skew) = false) ∧ ((([0, 1].all
        fun k => laneLocks 0 (lanes.getD k [])) && deskewed [0, 1] skew) = true) ∧ (v = (s.to t).set
        B.BYL_LINK_STS_LANES_OK ((List.range 4).foldl (fun m k => if laneLocks 0 (lanes.getD k []) then m + 2 ^ k else
        m) 0)) ∧ (w = { v with byl := { v.byl with rxScr := scrSeeds, rxChunks := [], delay := delay } }) :=
  ⟨pair, 0, [(List.replicate 8 (2 : BitVec 130)), (List.replicate 8 (2 : BitVec 130)), []], [], 90, _, _, by decide +kernel, by decide +kernel, by decide +kernel, by decide +kernel, by decide +kernel, rfl, rfl⟩

theorem wit_PairLinkCommandsComplete_3 :
    ∃ (s : State) (t : Nat) (lanes : List (List (BitVec 130))) (skew : List Nat) (delay : Nat) (v w : State),
      (s.to t).role ≠ roleSolo ∧ ((s.to t).runs 15 blkLanes = true) ∧ ((s.to t).get B.BYL_LINK_STS_STATE < 2) ∧ ((([0,
        1, 2, 3].all fun k => laneLocks 0 (lanes.getD k [])) && deskewed [0, 1, 2, 3] skew) = false) ∧ ((([0, 1].all
        fun k => laneLocks 0 (lanes.getD k [])) && deskewed [0, 1] skew) = false) ∧ ((([0].all fun k => laneLocks 0
        (lanes.getD k [])) && deskewed [0] skew) = true) ∧ (v = (s.to t).set B.BYL_LINK_STS_LANES_OK ((List.range
        4).foldl (fun m k => if laneLocks 0 (lanes.getD k []) then m + 2 ^ k else m) 0)) ∧ (w = { v with
          byl := { v.byl with rxScr := scrSeeds, rxChunks := [], delay := delay } }) :=
  ⟨pair, 0, [(List.replicate 8 (2 : BitVec 130)), (List.replicate 8 (2 : BitVec 130))], [0, 21], 90, _, _, by decide +kernel, by decide +kernel, by decide +kernel, by decide +kernel, by decide +kernel, by decide +kernel, rfl, rfl⟩

theorem wit_PairLinkCommandsComplete_4 :
    ∃ (s : State) (t : Nat) (lanes : List (List (BitVec 130))) (skew : List Nat) (delay : Nat) (v : State),
      (s.to t).role ≠ roleSolo ∧ ((s.to t).runs 15 blkLanes = true) ∧ ((s.to t).get B.BYL_LINK_STS_STATE < 2) ∧ ((([0,
        1, 2, 3].all fun k => laneLocks 0 (lanes.getD k [])) && deskewed [0, 1, 2, 3] skew) = false) ∧ ((([0, 1].all
        fun k => laneLocks 0 (lanes.getD k [])) && deskewed [0, 1] skew) = false) ∧ ((([0].all fun k => laneLocks 0
        (lanes.getD k [])) && deskewed [0] skew) = false) ∧ (v = (s.to t).set B.BYL_LINK_STS_LANES_OK ((List.range
        4).foldl (fun m k => if laneLocks 0 (lanes.getD k []) then m + 2 ^ k else m) 0)) :=
  ⟨pair, 0, [[], (List.replicate 8 (2 : BitVec 130))], [], 90, _, by decide +kernel, by decide +kernel, by decide +kernel, by decide +kernel, by decide +kernel, by decide +kernel, rfl⟩

theorem wit_PairLinkCommandsComplete_5 :
    ∃ (s : State) (t : Nat) (rx : BylRx) (x : Hello) (v : State),
      (v = ((s.to t).takeFrame rx 0x01).1) ∧ ((((s.to t).takeFrame rx 0x01).2).bind BylFrame.hello = some x) ∧ (v.get
        B.BYL_LINK_STS_STATE = 2) :=
  ⟨training, 0, ⟨linkBlocks 1 hello0.frame, none⟩, hello0, _, rfl, by decide +kernel, by decide +kernel⟩

theorem wit_PairLinkCommandsComplete_6 :
    ∃ (s : State) (t : Nat) (x : Hello),
      (x.epoch = (s.to t).pairEpoch) ∧ ((s.to t).setFlag B.BYL_PAIR_STS_PAIR_VERSION_MISMATCH false).flag
        B.BYL_PAIR_STS_SENIOR ≠ x.senior :=
  ⟨training, 0, { hello0 with epoch := 0 }, by decide +kernel⟩

theorem wit_PairLinkCommandsComplete_7 :
    ∃ (s : State) (t : Nat) (rx : BylRx) (f : BylFrame) (x : Hello) (v : State),
      (v = ((s.to t).takeFrame rx 0x02).1) ∧ (((s.to t).takeFrame rx 0x02).2 = some f) ∧ (v.byl.partner = some x) ∧
        (v.get B.BYL_LINK_STS_STATE = 2) ∧ (v.byl.authFail = none) ∧ (v.byl.linkKey = true) ∧ (rx.opens.map (fitBytes
        f.len) = some (v.bothNonces x)) :=
  ⟨{ training with byl := { training.byl with partner := some hello0, linkKey := true } }, 0, rxOf 2 0 none (leBytes 16 9 ++ leBytes 16 0), _, hello0, _, rfl, rfl, by decide +kernel, by decide +kernel, by decide +kernel, by decide +kernel, by decide +kernel⟩

theorem wit_PairLinkCommandsComplete_8 :
    ∃ (s : State) (t : Nat) (w : State),
      (w = { ((s.to t).set B.BYL_LINK_STS_STATE 3) with
          byl := { (((s.to t).set B.BYL_LINK_STS_STATE 3)).byl with
              tx := [], txNext := [], rxNext := [], ackAt := [], last := none, lastSeq := none, misses := 0, lost :=
                false, dueAt := (((s.to t).set B.BYL_LINK_STS_STATE 3)).nextBeat, linkLeft := none, resync :=
                Resync.reset } }) :=
  ⟨training, 0, _, rfl⟩

theorem wit_PairLinkCommandsComplete_9 :
    ∃ (s : State) (t : Nat) (rx : BylRx) (f : BylFrame) (x : Hello) (v : State),
      (v = ((s.to t).takeFrame rx 0x02).1) ∧ (((s.to t).takeFrame rx 0x02).2 = some f) ∧ (v.byl.partner = some x) ∧
        (v.get B.BYL_LINK_STS_STATE = 2) ∧ (v.byl.authFail = none) ∧ (¬ (v.byl.linkKey = true ∧ rx.opens.map (fitBytes
        f.len) = some (v.bothNonces x))) :=
  ⟨{ training with byl := { training.byl with partner := some hello0, linkKey := true } }, 0, { rxOf 2 0 none (leBytes 32 0) with opens := none }, _, hello0, _, rfl, rfl, by decide +kernel, by decide +kernel, by decide +kernel, by decide +kernel⟩

theorem wit_PairLinkCommandsComplete_11 :
    ∃ (s : State) (t : Nat) (c : Nat),
      ((s.to t).byl.authFail = some c) ∧ (c + cycS ≤ (s.to t).cyc) ∧ ((s.to t).get B.BYL_LINK_STS_STATE = 2) ∧
        ((s.to t).runs 15 blkLanes = true) :=
  ⟨{ training with byl := { training.byl with authFail := some 0 } }, 1000000000, 0, by decide +kernel⟩

theorem wit_PairLinkCommandsComplete_12 :
    ∃ (s : State) (t : Nat) (c : Fin 4) (a : Option Nat),
      ((Sp.at ((s.to t).takeAck c.val a).byl.tx [] c.val).take 256) ≠ [] ∧ (((s.to t).takeAck c.val a).bylUp = true) ∧
        (((s.to t).takeAck c.val a).runs 15 blkLanes = true) ∧ (Sp.at ((s.to t).takeAck c.val a).byl.ackAt 0 c.val +
        50 * cycUs ≤ ((s.to t).takeAck c.val a).cyc) :=
  ⟨{ linked roleActive with byl := { (linked roleActive).byl with tx := [(1, [(4, .ack 1)])] } }, 50000, 1, none, by decide +kernel⟩

theorem wit_PairLinkCommandsComplete_13 :
    ∃ (s : State) (t : Nat) (lane : Fin 4) (blocks : List (BitVec 130)),
      ((s.to t).bylUp = true) ∧ ((s.to t).runs 15 blkLanes = true) ∧ (lane.val < widthLanes ((s.to t).get
        B.BYL_LINK_STS_WIDTH)) ∧ (laneLost blocks = true) :=
  ⟨linked roleHot, 0, 0, List.replicate 16 0, by decide +kernel⟩

theorem wit_PairLinkCommandsComplete_14 :
    ∃ (s : State) (t : Nat),
      ((s.to t).bylUp = true) ∧ ((s.to t).runs 15 blkLanes = true) ∧ (s.to t).devNs / 10000000 ≠ (s.to t).byl.beatSent
        :=
  ⟨{ linked roleActive with ctr := 10000000 * 2 ^ 40 }, 0, by decide +kernel⟩

theorem wit_PairLinkCommandsComplete_15 :
    ∃ (s : State) (t : Nat) (rx : BylRx) (f : BylFrame) (p : List Byte) (v : State),
      (((s.to t).takeSealed rx 0x03).2 = some (f, p)) ∧ ((((s.to t).takeSealed rx 0x03).1).byl.lastSeq.all (fun q =>
        decide (q < f.seq)) = true) ∧ (v = { (((s.to t).takeSealed rx 0x03).1) with
          byl := { (((s.to t).takeSealed rx 0x03).1).byl with lastSeq := some f.seq } }) :=
  ⟨linked roleHot, 0, rxOf 3 5 none beat0.bytes, _, beat0.bytes, _, rfl, by decide +kernel, rfl⟩

theorem wit_PairLinkCommandsComplete_16 :
    ∃ (s : State) (t : Nat),
      (((s.to t).bylUp || (s.to t).byl.linkLeft.isSome) = true) ∧ ((s.to t).byl.dueAt + 2000000 ≤ (s.to t).devNs) ∧
        (s.to t).role ≠ roleSolo ∧ ((s.to t).byl.lost = false) ∧ ((s.to t).runs 15 blkLanes = true) ∧
        ((s.to t).byl.misses < 2) :=
  ⟨linked roleHot, 2000000, by decide +kernel⟩

theorem wit_PairLinkCommandsComplete_17 :
    ∃ (s : State) (t : Nat),
      (((s.to t).bylUp || (s.to t).byl.linkLeft.isSome) = true) ∧ ((s.to t).byl.dueAt + 2000000 ≤ (s.to t).devNs) ∧
        (s.to t).role ≠ roleSolo ∧ ((s.to t).byl.lost = false) ∧ ((s.to t).runs 15 blkLanes = true) ∧ (2 ≤
        (s.to t).byl.misses) :=
  ⟨{ linked roleHot with byl := { (linked roleHot).byl with misses := 2 } }, 2000000, by decide +kernel⟩

theorem wit_MirroredStateIsTaken_1 :
    ∃ (s : State) (t : Nat) (rx : BylRx) (r : MirrorRec),
      ((s.to t).awaits rx 0x10 = true) ∧ (MirrorRec.ofBytes (((s.to t).framed rx 0x10).2) = some r) ∧
        (((s.to t).accepted rx 0x10).standby = true) :=
  ⟨linked roleHot, 0, rxOf 0x10 0 none ((⟨1, 5, 0, 0, 0, 0, 0, 0, .release⟩ : MirrorRec).bytes), ⟨1, 5, 0, 0, 0, 0, 0, 0, .release⟩, by decide +kernel⟩

theorem wit_MirroredStateIsTaken_2 :
    ∃ (s : State) (t : Nat) (rx : BylRx) (f : BylFrame) (p : List Byte),
      (((s.to t).takeSealed rx 0x10).2 = some (f, p)) ∧ f.seq ≠ Sp.at (((s.to t).takeSealed rx 0x10).1).byl.rxNext 0 1
        :=
  ⟨linked roleHot, 0, rxOf 0x10 3 none [1], _, [1], rfl, by decide +kernel⟩

theorem wit_MirroredStateIsTaken_3 :
    ∃ (s : State) (t : Nat) (rx : BylRx),
      ((s.to t).awaits rx 0x11 = true) :=
  ⟨linked roleActive, 0, rxOf 0x11 0 none (leBytes 4 1), by decide +kernel⟩

theorem wit_MirroredStateIsTaken_4 :
    ∃ (s : State) (t : Nat) (rx : BylRx) (ctx : BitVec 8) (x : GaitMirror),
      ((s.to t).awaits rx 0x12 = true) ∧ (((s.to t).accepted rx 0x12).standby = true) :=
  ⟨linked roleHot, 0, rxOf 0x12 0 none ([1]), 5, ⟨some track0, some limits0, some 0, [planFast]⟩, by decide +kernel⟩

theorem wit_MirroredStateIsTaken_5 :
    ∃ (s : State) (t : Nat) (rx : BylRx) (ctx : BitVec 8) (x : SessMirror),
      ((s.to t).awaits rx 0x13 = true) ∧ (((s.to t).accepted rx 0x13).standby = true) ∧ ctx ≠ 0 :=
  ⟨linked roleHot, 0, rxOf 0x13 0 none ([1]), 5, ⟨0, false, false, 0, none, none, 0, 0⟩, by decide +kernel⟩

theorem wit_MirroredStateIsTaken_6 :
    ∃ (s : State) (t : Nat) (rx : BylRx) (x : ConfigMirror),
      ((s.to t).awaits rx 0x14 = true) ∧ (((s.to t).accepted rx 0x14).standby = true) :=
  ⟨linked roleHot, 0, rxOf 0x14 0 none ([1]), ⟨none, none, none, none, []⟩, by decide +kernel⟩

theorem wit_MirroredStateIsTaken_7 :
    ∃ (s : State) (t : Nat) (rx : BylRx),
      ((s.to t).awaits rx 0x20 = true) ∧ (((s.to t).accepted rx 0x20).role = roleActive) :=
  ⟨linked roleActive, 0, rxOf 0x20 0 none (leBytes 2 0), by decide +kernel⟩

theorem wit_MirroredStateIsTaken_8 :
    ∃ (s : State) (t : Nat) (rx : BylRx) (d : TileData),
      ((s.to t).awaits rx 0x21 = true) ∧ (((s.to t).accepted rx 0x21).standby = true) :=
  ⟨linked roleHot, 0, rxOf 0x21 0 none ([1]), .geometry ⟨none, 0, 0⟩, by decide +kernel⟩

theorem wit_MirroredStateIsTaken_9 :
    ∃ (s : State) (t : Nat) (rx : BylRx) (k : Option Bool),
      ((s.to t).awaits rx 0x30 = true) :=
  ⟨linked roleHot, 0, rxOf 0x30 0 none ([1]), some true, by decide +kernel⟩

theorem wit_PlannedHandoverCompletes_1 :
    ∃ (s : State) (t : Nat) (it : Item) (late : Bool),
      ((s.to t).goes 0 it { Checks.pass with
          state := (s.to t).role == roleActive && (s.to t).partnerHot && (s.to t).byl.handover.isNone } late = true)
        :=
  ⟨linked roleActive, 0, item 0xF001 0 0, false, by decide +kernel⟩

theorem wit_PlannedHandoverCompletes_2 :
    ∃ (s : State) (t : Nat) (x : Handover),
      ((s.to t).byl.handover = some x) ∧ (x.yielded = none) ∧ (x.at_ + 55000000 ≤ (s.to t).devNs) ∧ ((s.to t).role =
        roleActive) :=
  ⟨{ linked roleActive with byl := { (linked roleActive).byl with handover := some ⟨item 0xF001 0 0, 0, none⟩ } }, 60000000, ⟨item 0xF001 0 0, 0, none⟩, by decide +kernel⟩

theorem wit_PlannedHandoverCompletes_3 :
    ∃ (s : State) (t : Nat) (x : Handover) (c : Nat),
      ((s.to t).byl.handover = some x) ∧ (x.yielded = some c) ∧ (c + 100 * cycMs ≤ (s.to t).cyc) :=
  ⟨{ linked roleActive with byl := { (linked roleActive).byl with handover := some ⟨item 0xF001 0 0, 0, some 0⟩ } }, 100000000, ⟨item 0xF001 0 0, 0, some 0⟩, 0, by decide +kernel⟩

theorem wit_SixtyFourBitRegistersCommitAtTheHighWord_1 :
    ∃ (s : State) (t : Nat) (rq : Requester) (addr : Nat) (val same : Word),
      (addr < 0x1000000) ∧ (addr % 4 = 0) ∧ (ownRow addr = false) ∧ (((s.to t).rowWrite rq addr val).isNone = true) ∧
        (isKind addr .low = true) ∧ ((s.to t).reaches rq addr = true) :=
  ⟨up, 0, 0, Reg.CHIP_WAKE_TIME, 3, 0, by decide +kernel⟩

theorem wit_SixtyFourBitRegistersCommitAtTheHighWord_2 :
    ∃ (s : State) (t : Nat) (rq : Requester) (addr : Nat) (val : Word),
      (isKind addr .high = true) ∧ (((s.to t).rowWrite rq addr val).isNone = true) ∧ addr ≠ Reg.TIM_INCR + 4 ∧
        ((s.to t).reaches rq addr = true) ∧ ((((s.to t).reached rq addr true).forbids addr val).isNone = true) ∧
        (Sp.find ((s.to t).busOf rq).last (addr / 0x100000) = some (addr - 4, true)) :=
  ⟨{ up with bus := [(0, { BusRt.reset with last := [(0, (Reg.CHIP_WAKE_TIME, true))], shadow := 9 })] }, 0, 0, Reg.CHIP_WAKE_TIME + 4, 3, by decide +kernel⟩

theorem wit_SixtyFourBitRegistersCommitAtTheHighWord_3 :
    ∃ (s : State) (t : Nat) (rq : Requester) (addr : Nat) (val : Word),
      (isKind addr .high = true) ∧ (((s.to t).rowWrite rq addr val).isNone = true) ∧ addr ≠ Reg.TIM_INCR + 4 ∧
        ((s.to t).reaches rq addr = true) ∧ ((((s.to t).reached rq addr true).forbids addr val).isNone = true) ∧
        Sp.find ((s.to t).busOf rq).last (addr / 0x100000) ≠ some (addr - 4, true) :=
  ⟨up, 0, 0, Reg.CHIP_WAKE_TIME + 4, 3, by decide +kernel⟩

/-! ### Witnesses of the statements over the whole machine -/

/-- The command answers a next state. -/
def isNext (o : Out State) : Bool := match o with | .next _ => true | _ => false

theorem next_of {o : Out State} (h : isNext o = true) : ∃ s', o = .next s' := by
  cases o with
  | next s => exact ⟨s, rfl⟩
  | fault _ => exact absurd h Bool.false_ne_true
  | refused _ => exact absurd h Bool.false_ne_true

/-- Ring 0 with a completion to write, its log at 0x1000 and its completion ring at 0x2000. -/
def finUp : State :=
  ((ringUp.wr64 (Reg.HIF_RING_LOG_BASE 0) 0x1000).wr64 (Reg.HIF_RING_CQ_BASE 0) 0x2000).toRing 0 .normal
    (item 0x1000 0 0) ⟨5, .done, false, 1, noCell, 0, Res.zero⟩

/-- A machine whose host memory holds a byte. -/
def written : State := { up with hostMem := [(4, 1)] }

theorem wit_EmptyPopReturnsTheIdleItem :
    ∃ (s : State) (t : Nat) (q : Fin 128), (s.to t).queueOn q.val = true ∧ (s.to t).mayRead q.val = true ∧
      ((s.to t).queueOf q.val).drain = [] :=
  ⟨queueUp, 0, 100, by decide +kernel⟩

theorem wit_PhaseFollowsTheLapOfTheRing :
    ∃ (s : State) (t : Nat) (ring : Fin 64) (f : Fin_) (rest : List Fin_),
      ((s.to t).ringOf ring.val).fin = f :: rest ∧ (s.to t).runs 1 blkWriter = true ∧ (s.to t).hif.pcie.d3hot = false ∧
      (s.to t).ringOn ring.val = true ∧
      (s.to t).cqRoom ring.val = true ∧ f.kind ≠ .stale ∧
      ((s.to t).flag (B.HIF_RING_STS_RECOVERING ring.val) = false ∨ (s.to t).flag (B.HIF_RING_CTL_RECOVER ring.val) = true) ∧
      (∀ m i, f.item.src = .ring m i → (s.to t).logAt ring.val i + 16 ≤ (s.to t).cqEntry ring.val ∨
        (s.to t).cqEntry ring.val + 32 ≤ (s.to t).logAt ring.val i) := by
  refine ⟨finUp, 0, 0, ⟨.normal, item 0x1000 0 0, ⟨5, .done, false, 1, noCell, 0, Res.zero⟩⟩, [], by decide +kernel, by decide +kernel, by decide +kernel, by decide +kernel,
    by decide +kernel, by decide, by decide +kernel, ?_⟩
  intro m i h
  have e : (0 : Nat) = i := by injection h
  subst e
  decide +kernel

theorem wit_CompletionWritesStayInTheRing :
    ∃ (s s' : State) (t : Nat) (ring : Fin 64) (f : Fin_) (rest : List Fin_),
      ((s.to t).ringOf ring.val).fin = f :: rest ∧ exec (.completionWrite t ring) s = .next s' :=
  have ⟨s', h⟩ := next_of (o := exec (.completionWrite 0 0) finUp) (by decide +kernel)
  ⟨finUp, s', 0, 0, ⟨.normal, item 0x1000 0 0, ⟨5, .done, false, 1, noCell, 0, Res.zero⟩⟩, [], by decide +kernel, h⟩

theorem wit_StepRunsFrontCommand : ∃ (c : Instr) (rest : List Instr) (s : State), s.pending = c :: rest :=
  ⟨.powerOff 0, [], { up with pending := [.powerOff 0] }, rfl⟩

theorem wit_EmptyQueueTicks : ∃ s : State, s.pending = [] := ⟨up, by decide +kernel⟩

theorem wit_StepTakesOneCommandAndTheClockNeverTurnsBack : ∃ s s' : State, step s = .next s' :=
  ⟨{ up with pending := [.powerOff 9] }, _, rfl⟩

theorem wit_StepKeepsHostMemoryCanonical :
    ∃ s s' : State, Memory.wf s.hostMem = true ∧ step s = .next s' :=
  ⟨{ written with pending := [.powerOff 9] }, _, by decide, rfl⟩

theorem wit_OnlyListedCommandsWriteHostMemory :
    ∃ (c : Instr) (s s' : State), c.writesHost = false ∧ exec c s = .next s' :=
  ⟨.hifNop 0 (item 0x1000 0 0), written, _, rfl, rfl⟩

theorem wit_ProtectedStateStaysWithItsCommands :
    ∃ (c : Instr) (s s' : State), exec c s = .next s' ∧ c.touchesWhoa = false ∧ c.touchesTack = false ∧
      c.touchesRec = false ∧ c.touchesChip = false ∧ c.appliesParams = false :=
  ⟨.hifNop 0 (item 0x1000 0 0), written, _, rfl, rfl, rfl, rfl, rfl, rfl⟩

theorem wit_FleetStateStaysWithItsCommands :
    ∃ (c : Instr) (s s' : State), exec c s = .next s' ∧ c.touchesAir = false ∧ c.touchesGnb = false ∧
      c.touchesFix = false ∧ c.touchesGait = false ∧ c.touchesPad = false ∧ c.touchesNet = false ∧
      c.touchesTim = false ∧ c.touchesByl = false :=
  ⟨.hifNop 0 (item 0x1000 0 0), written, _, rfl, rfl, rfl, rfl, rfl, rfl, rfl, rfl, rfl⟩

theorem wit_WellFormedCommandsAnswerNext_1 : ∃ c : Instr, c.wf = true := ⟨.registerWrite 0 0 0xFFFFFC 1 0, rfl⟩

theorem wit_WellFormedCommandsAnswerNext_2 : ∃ (c : Instr) (s : State) (f : Fault), exec c s = .fault f :=
  ⟨.registerWrite 0 0 0x1040000 1 0, up, _, rfl⟩

theorem wit_KeyOutputsStayInTheirBuffers :
    ∃ (s : State) (t : Nat) (it : Item) (bytes : List Byte) (digest : BitVec 384) (a : Nat),
      (∃ s', exec (.tackSign t it bytes) s = .next s') ∧ (∃ s', exec (.tackRandom t it bytes) s = .next s') ∧
      (∃ s', exec (.tackPubkey t it bytes) s = .next s') ∧ (∃ s', exec (.tackAttest t it digest bytes) s = .next s') ∧
      a < it.d.ptr.toNat ∧ a < it.d.arg1.toNat :=
  ⟨tackUp, 0, { tackItem 0xC00A 0 4096 32 with d := { (tackItem 0xC00A 0 4096 32).d with ptr := 4096 } }, [1, 2], 0, 0,
    ⟨_, rfl⟩, ⟨_, rfl⟩, ⟨_, rfl⟩, ⟨_, rfl⟩, by decide, by decide⟩

theorem wit_DoorbellsTouchOnlyTheirRing_1 : ∃ (s s' : State) (t : Nat) (ring : Fin 64) (val : Word),
    exec (.sqTailWrite t ring val) s = .next s' :=
  have ⟨s', h⟩ := next_of (o := exec (.sqTailWrite 0 0 16) ringUp) (by decide +kernel)
  ⟨ringUp, s', 0, 0, 16, h⟩

theorem wit_DoorbellsTouchOnlyTheirRing_2 : ∃ (s s' : State) (t : Nat) (ring : Fin 64) (val : Word),
    exec (.cqHeadWrite t ring val) s = .next s' :=
  have ⟨s', h⟩ := next_of (o := exec (.cqHeadWrite 0 0 1) ringUp) (by decide +kernel)
  ⟨ringUp, s', 0, 0, 1, h⟩

/-! ### Well-formedness: a term that each check refuses -/

theorem test_wf_bad_access : (Instr.badAccess 0 0 true 0x1040000 2 15).wf = false := rfl

theorem test_wf_register_write : (Instr.registerWrite 0 0 0x3001000 1 0).wf = false := rfl

theorem test_wf_rc_register_read : (Instr.rcRegisterRead 0 0 0x2010000 0).wf = false := rfl

theorem test_wf_descriptor_fetch : (Instr.descriptorFetch 0 0 (List.replicate 17 (List.replicate 64 0))).wf = false := rfl

theorem test_wf_opcode : (Instr.fleetStop 0 (item 0x0011 0 0)).wf = false := rfl

theorem test_wf_opcode_right : (Instr.fleetStop 0 (item 0x0010 0 0)).wf = true := rfl

/-! ### Single steps, their results from the spec -/

/-- Whether the state a command answers meets `p`. -/
def after (o : Out State) (p : State → Bool) : Bool := match o with | .next s => p s | _ => false

/-- R60: a tail that would make tail − SQ_HEAD exceed 2^S sets DB_ERR, and the ring keeps its tail. -/
theorem test_tail_too_far : after (exec (.sqTailWrite 0 0 17) ringUp)
    (fun s => s.flag (B.HIF_RING_STS_DB_ERR 0) && (s.ringOf 0).tail == 0) = true := by decide +kernel

/-- R60: a tail 2^S ahead is taken. -/
theorem test_tail_full : after (exec (.sqTailWrite 0 0 16) ringUp)
    (fun s => !s.flag (B.HIF_RING_STS_DB_ERR 0) && (s.ringOf 0).tail == 16) = true := by decide +kernel

/-- Table HIF-5, R72: the first completion shows TAG 5 at offset 0 and PHASE 1 at offset 2. -/
theorem test_first_completion : after (exec (.completionWrite 0 0) finUp)
    (fun s => s.hostByte 0x2000 == some 5 && s.hostByte 0x2002 == some 0x80 && s.rd (Reg.HIF_RING_CQ_PI 0) == 1)
      = true := by decide +kernel

/-- R530: an offset that no chapter defines reads as 0. -/
theorem test_undefined_offset : after (exec (.rcRegisterRead 0 2 0x600FF0 0) up)
    (fun s => (s.busOf 2).readData == 0) = true := by decide +kernel

/-- R534: a word of a region in OFF reads all ones. -/
theorem test_region_off : after (exec (.rcRegisterRead 0 2 Reg.FIX_CNT_STALE 0) (up.setRgnState 6 rsOff))
    (fun s => (s.busOf 2).readData == 0xFFFFFFFF && s.flag B.CHIP_ERR_STS_REGION_DOWN) = true := by decide +kernel

/-- R106: the idle item. -/
theorem test_idle_item : after (exec (.queuePop 0 100 none false none) queueUp)
    (fun s => (s.queueOf 100).popped == some QWord.idle) = true := by decide +kernel

/-- R482: a claim on a line that shows no HELD pattern 20 µs later makes the chip ACTIVE. -/
theorem test_claim : after (exec (.tokenClaimCheck 10000) { pair with byl := { pair.byl with claim := some (0, .start) } })
    (fun s => s.role == 3 && s.flag B.BYL_PAIR_STS_TOKEN) = true := by decide +kernel

/-- R482: 1 ns earlier the claim is not settled. -/
theorem test_claim_early : after (exec (.tokenClaimCheck 9999) { pair with byl := { pair.byl with claim := some (0, .start) } })
    (fun s => s.role == 1 && s.byl.claim.isSome) = true := by decide +kernel

/-- R467: the third failed attempt leaves RAIL_FAIL. -/
theorem test_rail_fail : after (exec (.pwrGoodTimeout 0 true)
    { State.reset with chip := { ChipRt.reset with railWait := true, railTries := 2 } })
    (fun s => s.flag B.CHIP_PWR_STS_RAIL_FAIL) = true := by decide +kernel

/-- R32: with BLK_LIMIT 0 a block error is a region error, and the region reloads. -/
theorem test_block_limit_zero : after (exec (.blockError 0 8 3 .stepWatchdog [] none) ((up.set (B.RGN_CTL_BLK_LIMIT 8) 0)))
    (fun s => s.rgnState 8 == rsLoading) = true := by decide +kernel

/-- The table gives no row any bits: no word spells a command. -/
theorem test_no_word : decodeTableWord 16 0x1234 = none := rfl

theorem wit_RecordLayoutsReadBack_1 : ∃ h : AirHdr, h.reserved = false :=
  ⟨⟨15, true, true, true, 255, 2047, 0xFFFFFFFF, 255, 255, 3, 7, false⟩, rfl⟩

theorem wit_RecordLayoutsReadBack_2 : ∃ q : SweepReq, q.samples.length = q.nsamp.toNat :=
  ⟨⟨1, 0x3FFF, 7, [⟨0xFFFFFFFF, 1, 2, 0xFFFF⟩]⟩, rfl⟩

theorem wit_RecordLayoutsReadBack_3 : ∃ x : ShapeRec, x.verts.length = 8 :=
  ⟨⟨8, 1, 2, List.replicate 8 (0xFFFF, 3)⟩, rfl⟩

theorem wit_RecordLayoutsReadBack_4 : ∃ r : BootRec, r.gen < 2 ^ 32 ∧ r.tries < 256 ∧ r.wait < 65536 :=
  ⟨⟨0xFFFFFFFF, true, false, true, false, 255, 65535⟩, by decide⟩

end Sys2Proof.Tests
end

/-!
Records read back (O60): a field of a byte string is read where it was laid out, records back to back are read in
turn, and each layout is put together from these.
-/

namespace Sys2Proof.Machine

/-! ### Fields read back -/

/-- The last field of a byte string reads back. -/
theorem leAt_end (k m v : Nat) (h : m ≤ k) : leAt (leBytes k v) 0 m = v % 256 ^ m := by
  simpa using leAt_here k m v [] h

/-- Bytes read behind a cut are bytes of the whole. -/
theorem leAt_drop (b : List Byte) (i o n : Nat) : leAt (b.drop i) o n = leAt b (i + o) n := by
  rw [leAt, leAt, List.drop_drop]

/-- A field from bit 0 on is the number the bytes spell. -/
theorem fieldAt_zero (b : List Byte) (o n w : Nat) : fieldAt b o n 0 w = BitVec.ofNat w (leAt b o n) := by
  rw [fieldAt, Nat.pow_zero, Nat.div_one]

/-- Bytes enough for `w` bits hold all of a word of `w` bits. -/
theorem ofNat_toNat_mod {w M : Nat} (x : BitVec w) (h : 2 ^ w ≤ M) : BitVec.ofNat w (x.toNat % M) = x := by
  rw [Nat.mod_eq_of_lt (Nat.lt_of_lt_of_le x.isLt h), BitVec.ofNat_toNat, BitVec.setWidth_eq]

/-! ### Records back to back -/

/-- Of records of `n` bytes back to back behind a header, record `k` begins `n * k` bytes behind the header. -/
theorem drop_records {α : Type} (f : α → List Byte) (n : Nat) (hf : ∀ x, (f x).length = n) (l : List α) :
    ∀ (hd : List Byte) (k : Nat) (h : k < l.length),
      (hd ++ (l.map f).flatten).drop (hd.length + n * k) = f l[k] ++ ((l.drop (k + 1)).map f).flatten := by
  induction l with
  | nil => intro hd k h; exact absurd h (Nat.not_lt_zero k)
  | cons x r ih =>
    intro hd k h
    cases k with
    | zero => simp
    | succ k =>
      have hlen : hd.length + n * (k + 1) = (hd ++ f x).length + n * k := by
        rw [List.length_append, hf, Nat.mul_succ]; omega
      rw [List.map_cons, List.flatten_cons, ← List.append_assoc, hlen, ih _ k (by simpa using h)]
      rfl

/-- What is read at each index of a list in turn is the list. -/
theorem map_range_eq {α : Type} {l : List α} {n : Nat} {g : Nat → α} (hn : l.length = n)
    (hg : ∀ (k : Nat) (h : k < l.length), g k = l[k]) : (List.range n).map g = l := by
  subst hn
  exact List.ext_getElem (by simp) (fun k h _ => by simpa using hg k (by simpa using h))

/-- Two flags in the lowest bits of a field read back. -/
theorem twoFlags_read (a b : Bool) (M : Nat) (h : 4 ≤ M) :
    let v := ((if a then 1 else 0) + (if b then 2 else 0)) % M
    v.testBit 0 = a ∧ v.testBit 1 = b := by
  have hlt : (if a then 1 else 0) + (if b then 2 else 0) < M :=
    Nat.lt_of_lt_of_le (show _ < 4 by decide +revert) h
  rw [Nat.mod_eq_of_lt hlt]
  clear h hlt
  decide +revert

/-! ### Descriptors (R63, Table HIF-3) -/

/-- The flags of a descriptor read back from their two bytes. -/
theorem descFlags_read (a b c : Bool) :
    let v := ((if a then 1 else 0) + (if b then 2 else 0) + (if c then 4 else 0)) % 65536
    (v % 2 == 1) = a ∧ (v / 2 % 2 == 1) = b ∧ (v / 4 % 2 == 1) = c := by
  decide +revert

theorem Desc.bytes_length (d : Desc) : d.bytes.length = 64 := by simp [Desc.bytes]

theorem Desc.ofBytes_bytes (d : Desc) : Desc.ofBytes d.bytes = d := by
  obtain ⟨opcode, noLate, fence, irq, tag, flow, context, when_, ptr, len, arg0, arg1, arg2⟩ := d
  obtain ⟨hlate, hfence, hirq⟩ := descFlags_read noLate fence irq
  simp only [Desc.ofBytes, Desc.bytes, List.append_assoc, leAt_past, leAt_here, leAt_end, ofNat_toNat_mod, hlate,
    hfence, hirq, Nat.reduceLeDiff, Nat.reduceSub, Nat.reducePow, Nat.le_refl]

/-! ### What a key's slot says of it (R397, Table TACK-2) -/

theorem KeyAttr.bytes_length (a : KeyAttr) : a.bytes.length = 40 := by simp [KeyAttr.bytes]

theorem KeyAttr.ofBytes_bytes (a : KeyAttr) : KeyAttr.ofBytes a.bytes = a := by
  obtain ⟨epoch, type, len, usage, bind, id, anc0, anc1, anc2, anc3, inside, imported⟩ := a
  obtain ⟨hinside, himported⟩ := twoFlags_read inside imported 4294967296 (by decide)
  simp only [KeyAttr.ofBytes, KeyAttr.bytes, List.append_assoc, leAt_past, leAt_here, ofNat_toNat_mod, hinside,
    himported, Nat.reduceLeDiff, Nat.reduceSub, Nat.reducePow, Nat.le_refl]

/-! ### Air frame headers (R280, Table AIR-5) -/

/-- FTYPE and the three flags above it read back from the first byte, and its top bit is 0. -/
theorem airFlags_read (f : BitVec 4) (d r c : Bool) :
    let v := (f.toNat + (if d then 16 else 0) + (if r then 32 else 0) + (if c then 64 else 0)) % 256
    BitVec.ofNat 4 v = f ∧ v.testBit 4 = d ∧ v.testBit 5 = r ∧ v.testBit 6 = c ∧ v.testBit 7 = false := by
  decide +revert

theorem AirHdr.bytes_length (h : AirHdr) : h.bytes.length = 12 := by simp [AirHdr.bytes]

theorem AirHdr.ofBytes_bytes (h : AirHdr) (hr : h.reserved = false) : AirHdr.ofBytes h.bytes = h := by
  obtain ⟨ftype, dir, relayed, compat, context, len, fcnt, origin, target, hop, span, reserved⟩ := h
  obtain rfl : reserved = false := hr
  obtain ⟨hftype, hdir, hrelayed, hcompat, htop⟩ := airFlags_read ftype dir relayed compat
  have hlen : len.toNat % 65536 / 2048 = 0 := by have := len.isLt; omega
  have hhop : hop.toNat % 256 / 4 = 0 := by have := hop.isLt; omega
  have hspan : span.toNat % 256 / 8 = 0 := by have := span.isLt; omega
  simp only [AirHdr.ofBytes, AirHdr.bytes, fieldAt_zero, List.append_assoc, leAt_past, leAt_here, leAt_end,
    ofNat_toNat_mod, hftype, hdir, hrelayed, hcompat, htop, hlen, hhop, hspan, Nat.reduceLeDiff, Nat.reduceSub,
    Nat.reducePow, Nat.le_refl]
  rfl

/-! ### Schedule entries (R283, Table AIR-8) -/

/-- TYPE and the two flags above it read back from the first byte. -/
theorem schedFlags_read (t : SpanType) (c b : Bool) :
    let v := (t.code + (if c then 8 else 0) + (if b then 16 else 0)) % 256
    SpanType.ofCode (v % 8) = t ∧ v.testBit 3 = c ∧ v.testBit 4 = b := by
  cases t <;> decide +revert

theorem SchedEntry.bytes_length (e : SchedEntry) : e.bytes.length = 8 := by simp [SchedEntry.bytes]

theorem SchedEntry.ofBytes_bytes (e : SchedEntry) : SchedEntry.ofBytes e.bytes = e := by
  obtain ⟨type, cont, bulkUp, context, period, phase⟩ := e
  obtain ⟨htype, hcont, hbulk⟩ := schedFlags_read type cont bulkUp
  simp only [SchedEntry.ofBytes, SchedEntry.bytes, fieldAt_zero, List.append_assoc, leAt_past, leAt_here,
    ofNat_toNat_mod, htype, hcont, hbulk, Nat.reduceLeDiff, Nat.reduceSub, Nat.reducePow, Nat.le_refl]

/-! ### Heartbeats (R496, Table BYL-6) -/

/-- ROLE and YIELD read back from their byte. -/
theorem beatRole_read (r : BitVec 2) (y : Bool) :
    let v := (r.toNat + (if y then 128 else 0)) % 256
    BitVec.ofNat 2 v = r ∧ v.testBit 7 = y := by
  decide +revert

/-- The flags SYNC and STOPPED and the quality above them read back from their byte. -/
theorem beatState_read (a b : Bool) (q : BitVec 2) :
    let v := ((if a then 1 else 0) + (if b then 2 else 0) + q.toNat * 4) % 256
    v.testBit 0 = a ∧ v.testBit 1 = b ∧ BitVec.ofNat 2 (v / 4) = q := by
  decide +revert

theorem Beat.ofBytes_bytes (b : Beat) : Beat.ofBytes b.bytes = b := by
  obtain ⟨dev, sfn, role, yield, sync, stopped, quality, schedId, mseq⟩ := b
  obtain ⟨hrole, hyield⟩ := beatRole_read role yield
  obtain ⟨hsync, hstopped, hquality⟩ := beatState_read sync stopped quality
  simp only [Beat.ofBytes, Beat.bytes, List.append_assoc, leAt_past, leAt_here, leAt_end, ofNat_toNat_mod, hrole,
    hyield, hsync, hstopped, hquality, Nat.reduceLeDiff, Nat.reduceSub, Nat.reducePow, Nat.le_refl]

/-! ### Sweep requests (R221, Tables PAD-15 and PAD-16) -/

theorem Sample.bytes_length (x : Sample) : x.bytes.length = 12 := by simp [Sample.bytes]

theorem Sample.ofBytes_bytes_append (x : Sample) (b : List Byte) : Sample.ofBytes (x.bytes ++ b) = x := by
  simp only [Sample.ofBytes, Sample.bytes, List.append_assoc, leAt_past, leAt_here, ofNat_toNat_mod,
    Nat.reduceLeDiff, Nat.reduceSub, Nat.reducePow, Nat.le_refl]

/-- Sample `k` is read where it was laid out. -/
theorem SweepReq.sample_bytes (q : SweepReq) (k : Nat) (h : k < q.samples.length) :
    Sample.ofBytes (q.bytes.drop (16 + 12 * k)) = q.samples[k] := by
  have hd := drop_records Sample.bytes 12 Sample.bytes_length q.samples
    (leBytes 2 q.nsamp.toNat ++ leBytes 2 q.first.toNat ++ leBytes 4 q.seq.toNat ++ leBytes 8 0) k h
  simp only [List.length_append, leBytes_length] at hd
  rw [SweepReq.bytes, hd, Sample.ofBytes_bytes_append]

theorem SweepReq.ofBytes_bytes (q : SweepReq) (h : q.samples.length = q.nsamp.toNat) :
    SweepReq.ofBytes q.bytes = q := by
  have hn : leAt q.bytes 0 2 = q.nsamp.toNat := by
    simp only [SweepReq.bytes, List.append_assoc, leAt_here, Nat.le_refl]
    exact Nat.mod_eq_of_lt q.nsamp.isLt
  have hs := map_range_eq h q.sample_bytes
  simp only [SweepReq.ofBytes, hn, hs]
  simp only [SweepReq.bytes, List.append_assoc, leAt_past, leAt_here, ofNat_toNat_mod, BitVec.ofNat_toNat,
    BitVec.setWidth_eq, Nat.reduceLeDiff, Nat.reduceSub, Nat.reducePow, Nat.le_refl]

/-! ### Shape records (R220, Table PAD-14) -/

/-- The bytes of a vertex. -/
def vertexBytes (p : BitVec 16 × BitVec 16) : List Byte := leBytes 2 p.1.toNat ++ leBytes 2 p.2.toNat

/-- Vertex `k` is read where it was laid out. -/
theorem ShapeRec.vertex_bytes (x : ShapeRec) (k : Nat) (h : k < x.verts.length) :
    (BitVec.ofNat 16 (leAt x.bytes (8 + 4 * k) 2), BitVec.ofNat 16 (leAt x.bytes (10 + 4 * k) 2)) = x.verts[k] := by
  have hd : x.bytes.drop (8 + 4 * k) = _ := drop_records vertexBytes 4 (fun p => by simp [vertexBytes]) x.verts
    (leBytes 1 x.nvert.toNat ++ leBytes 1 0 ++ leBytes 2 x.clear.toNat ++ leBytes 4 x.cap.toNat) k h
  have he : leAt x.bytes (8 + 4 * k) 2 = leAt (x.bytes.drop (8 + 4 * k)) 0 2 := by rw [leAt_drop, Nat.add_zero]
  have hn : leAt x.bytes (10 + 4 * k) 2 = leAt (x.bytes.drop (8 + 4 * k)) 2 2 := by rw [leAt_drop]; congr 1; omega
  simp only [he, hn, hd, vertexBytes, List.append_assoc, leAt_past, leAt_here, ofNat_toNat_mod, Nat.reduceSub,
    Nat.reducePow, Nat.le_refl]

theorem ShapeRec.ofBytes_bytes (x : ShapeRec) (h : x.verts.length = 8) : ShapeRec.ofBytes x.bytes = x := by
  have hv := map_range_eq h x.vertex_bytes
  simp only [ShapeRec.ofBytes, hv]
  simp only [ShapeRec.bytes, List.append_assoc, leAt_past, leAt_here, ofNat_toNat_mod, Nat.reduceLeDiff,
    Nat.reduceSub, Nat.reducePow, Nat.le_refl]

/-! ### Boot records (R456, Table BOOT-9) -/

/-- A boot record behind its MAGIC, without its CRC. -/
def BootRec.body (r : BootRec) : List Byte :=
  leBytes 4 r.gen ++ leBytes 1 (if r.fwPref then 1 else 0) ++ leBytes 1 (if r.gbPref then 1 else 0) ++
    leBytes 1 ((if r.trialFw then 1 else 0) + (if r.trialGb then 2 else 0)) ++ leBytes 1 r.tries ++
      leBytes 2 r.wait ++ leBytes 46 0

theorem BootRec.bytes_eq (r : BootRec) :
    r.bytes = (recMagic ++ r.body) ++ leBytes 4 (crc32c (recMagic ++ r.body)).toNat := by
  simp [BootRec.bytes, BootRec.body]

theorem BootRec.body_length (r : BootRec) : (recMagic ++ r.body).length = 60 := by simp [BootRec.body, recMagic]

theorem BootRec.bytes_length (r : BootRec) : r.bytes.length = 64 := by
  rw [r.bytes_eq, List.length_append, r.body_length, leBytes_length]

/-- What lies behind MAGIC is read from the body. -/
theorem BootRec.leAt_bytes (r : BootRec) (o n : Nat) (h : 4 ≤ o) : leAt r.bytes o n =
    leAt (r.body ++ leBytes 4 (crc32c (recMagic ++ r.body)).toNat) (o - 4) n := by
  rw [r.bytes_eq, List.append_assoc, leAt_skip recMagic _ o n h]; rfl

/-- A selected slot reads back. -/
theorem bootPref_read (a : Bool) : ((if a then 1 else 0) % 256).testBit 0 = a := by decide +revert

theorem BootRec.ofBytes_bytes (r : BootRec) (hg : r.gen < 2 ^ 32) (ht : r.tries < 256) (hw : r.wait < 65536) :
    BootRec.ofBytes r.bytes = some r := by
  have hfit : fitBytes 0x3C r.bytes = recMagic ++ r.body := by
    rw [fitBytes, r.bytes_eq, List.append_assoc, List.take_left' r.body_length]
  have hmagic : r.bytes.take 4 = recMagic := by
    rw [r.bytes_eq, List.append_assoc]; exact List.take_left' rfl
  have hcrc : (crc32c (recMagic ++ r.body)).toNat = leAt r.bytes 0x3C 4 := by
    rw [r.bytes_eq, leAt_skip _ _ _ _ (Nat.le_of_eq r.body_length), r.body_length, leAt_end _ _ _ (Nat.le_refl _)]
    exact (Nat.mod_eq_of_lt (BitVec.isLt _)).symm
  obtain ⟨hfw, hgb⟩ := twoFlags_read r.trialFw r.trialGb 256 (by decide)
  rw [BootRec.ofBytes, hfit, if_pos ⟨hmagic, hcrc⟩]
  have hgen : r.gen % 4294967296 = r.gen := Nat.mod_eq_of_lt hg
  simp only [r.leAt_bytes, BootRec.body, List.append_assoc, leAt_past, leAt_here, bootPref_read, hfw, hgb, hgen,
    Nat.mod_eq_of_lt ht, Nat.mod_eq_of_lt hw, Nat.reduceLeDiff, Nat.reduceSub, Nat.reducePow, Nat.le_refl]

end Sys2Proof.Machine

namespace Sys2Proof
open Sys2Proof.Machine

/-- Settles O60: each layout by the field lemmas, the two with lists by their records in turn. -/
theorem recordLayoutsReadBack : Obligations.RecordLayoutsReadBack :=
  ⟨fun d => ⟨d.ofBytes_bytes, d.bytes_length⟩, fun h hr => ⟨h.ofBytes_bytes hr, h.bytes_length⟩,
    fun e => ⟨e.ofBytes_bytes, e.bytes_length⟩, SweepReq.ofBytes_bytes, ShapeRec.ofBytes_bytes,
    fun a => ⟨a.ofBytes_bytes, a.bytes_length⟩, Beat.ofBytes_bytes,
    fun r hg ht hw => ⟨r.ofBytes_bytes hg ht hw, r.bytes_length⟩⟩

end Sys2Proof

/-!
The queue and the clock (O50): every command leaves the queue as it finds it, and the clock does not go back.
-/

namespace Sys2Proof.Machine

/-! ### Every command goes onward -/

/-- What a frame lemma of ExecFrames.lean says of the clock and the queue. -/
theorem Onward.of_kept {s r : State} {n : Nat} {p : Prop}
    (h : r.cyc = s.cyc + (n - s.cyc) ∧ r.pending = s.pending ∧ p) : Onward s r := .of_frame h.1 h.2.1

/-- An operation on an item is run the same way when it is fetched and when its WHEN comes; any other command carries
no item. -/
theorem exec_item (i : Instr) (s : State) (h : i.item?.isSome = true) : exec i s = runItem i s := by
  cases i <;> first | rfl | exact absurd h (by simp [Instr.item?])

theorem State.to_onward (s : State) (t : Nat) : Onward s (s.to t) := .of_frame (State.to_cyc s t) (State.to_pending s t)

theorem execWhenReached_onward (t id : Nat) (s : State) {s' : State} (h : execWhenReached t id s = .next s') :
    Onward s s' := by
  simp only [execWhenReached] at h
  repeat' split at h
  all_goals (obtain rfl := Host.Outcome.next.inj h)
  · exact s.to_onward t
  · exact s.to_onward t
  · exact (s.to_onward t).trans (State.wakeItem_onward _ _ _)
  · exact s.to_onward t

/-- What device time drives moves with a step of the counter, and is not the clock nor the queue. -/
theorem State.stepDevTime_onward (s : State) (S : Int) (start : Nat) :
    Onward s (((s.stepAir S).stepTicks S).stepRest S start) := ⟨by simp, by simp⟩

theorem State.stepNet_onward (s : State) (old : Nat) : Onward s (s.stepNet old) := ⟨by simp, by simp⟩

theorem State.cueStep_onward (s : State) (slot : Nat) : Onward s (s.cueStep slot) := ⟨by simp, by simp⟩

theorem State.dueStep_onward (s : State) : Onward s s.dueStep.1 := ⟨by simp, by simp⟩

theorem execTimeStep_onward (t : Nat) (s : State) {s' : State} (h : execTimeStep t s = .next s') : Onward s s' := by
  simp only [execTimeStep] at h
  split at h
  · obtain rfl := Host.Outcome.next.inj h
    exact s.to_onward t
  · have hdue := (s.to_onward t).trans (s.to t).dueStep_onward
    split at h <;> (rename_i u e; rw [e] at hdue; obtain rfl := Host.Outcome.next.inj h)
    · exact hdue
    · have hdev := hdue.trans (State.stepDevTime_onward _ u (s.to t).nextStart)
      refine .trans ?_ (foldl_onward _ _ _ State.cueStep_onward)
      split
      · exact hdev.trans ((State.stepWaiting_onward _ _).trans (State.stepNet_onward _ _))
      · exact hdev

/-- Whatever a command does, the queue is as before and the clock does not go back. -/
theorem exec_onward (i : Instr) (s : State) {s' : State} (h : exec i s = .next s') : Onward s s' := by
  cases i with
  | hifNop | hifSuspend | hifResume | hifCancel | queryOp | schedLoad | sessionAccept | sessionRefuse
  | sessionLeave | sessionSleep | sessionWake | setRoute | setJoinKey | compatInject | setBeaconKey | reinit
  | resetCtx | readCtx | setTrack | setLimits | gaitRetarget | datumRun | padCommit | whatIf | padRelease
  | setShape | mapImport | mapExport | setHold | readCell | setRef | selfSurvey | cueSet | setTime | ptpSample
  | fleetStop | fleetResume | netTx | netRx | mdio | tackLoad | tackGenerate | tackDerive | tackExport
  | tackUnload | tackRevoke | tackImport | tackSign | tackMac | tackRandom | tackPubkey | tackAttest
  | epochAdvance | tackRewrap | tackZeroise | tamperClear | recArm | recFire | recDisarm | recReadout
  | recDiscard | stableEnter | imgWrite | imgActivate | imgConfirm | otpProgram | debugUnlock | pairHandover =>
    exact runItem_onward _ s ((exec_item _ s rfl).symm.trans h)
  | registerWrite =>
    obtain ⟨hc, hp, _⟩ := execRegisterWrite_frame _ _ _ _ _ s h
    exact ⟨hc, hp⟩
  | reg64HighWrite =>
    obtain ⟨hc, hp, _⟩ := execReg64HighWrite_frame _ _ _ _ s h
    exact ⟨hc, hp⟩
  | whenReached => exact execWhenReached_onward _ _ s h
  | timeStep => exact execTimeStep_onward _ s h
  | powerOnReset => exact .of_kept (execPowerOnReset_frame _ _ _ _ _ _ _ h)
  | chipBootGo => exact .of_kept (execChipBootGo_frame _ _ _ _ _ _ h)
  | trialConfirmTimeout => exact .of_kept (execTrialConfirmTimeout_frame _ _ h)
  | activateReset => exact .of_kept (execActivateReset_frame _ _ h)
  | chipRstCmdFullReset => exact .of_kept (execChipRstCmdFullReset_frame _ _ _ _ h)
  | pciePerst => exact .of_kept (execPciePerst_frame _ _ h)
  | pcieLinkReset => exact .of_kept (execPcieLinkReset_frame _ _ _ h)
  | badAccess => exact .of_kept (execBadAccess_frame _ _ _ _ _ _ _ h)
  | rcRegisterRead => exact .of_kept (execRcRegisterRead_frame _ _ _ _ _ h)
  | reg64LowRead => exact .of_kept (execReg64LowRead_frame _ _ _ _ h)
  | timTimeLowRead => exact .of_kept (execTimTimeLowRead_frame _ _ _ h)
  | paramApply => exact .of_kept (execParamApply_frame _ _ _ _ _ h)
  | rgnCmdReset => exact .of_kept (execRgnCmdReset_frame _ _ _ _ _ h)
  | sqTailWrite => exact .of_kept (execSqTailWrite_frame _ _ _ _ h)
  | cqHeadWrite => exact .of_kept (execCqHeadWrite_frame _ _ _ _ h)
  | ringEnable => exact .of_kept (execRingEnable_frame _ _ _ _ _ _ h)
  | ringRecovered => exact .of_kept (execRingRecovered_frame _ _ _ h)
  | staleCompletionWrite => exact .of_kept (execStaleCompletionWrite_frame _ _ _ h)
  | descriptorFetch => exact .of_kept (execDescriptorFetch_frame _ _ _ _ h)
  | completionWrite => exact .of_kept (execCompletionWrite_frame _ _ _ h)
  | irqHoldoffExpiry => exact .of_kept (execIrqHoldoffExpiry_frame _ _ _ h)
  | flowEntry => exact .of_kept (execFlowEntry_frame _ _ _ h)
  | stageDispatch => exact .of_kept (execStageDispatch_frame _ _ _ h)
  | completionRelease => exact .of_kept (execCompletionRelease_frame _ _ _ h)
  | dspObsSelWrite => exact .of_kept (execDspObsSelWrite_frame _ _ _ _ h)
  | dspLoadSelWrite => exact .of_kept (execDspLoadSelWrite_frame _ _ _ _ _ _ h)
  | handshakeRequest => exact .of_kept (execHandshakeRequest_frame _ _ _ _ _ _ _ h)
  | handshakeAckSeen => exact .of_kept (execHandshakeAckSeen_frame _ _ _ _ _ h)
  | handshakeTimeout => exact .of_kept (execHandshakeTimeout_frame _ _ _ _ _ _ h)
  | cellError => exact .of_kept (execCellError_frame _ _ _ _ _ _ _ _ _ _ h)
  | blockError => exact .of_kept (execBlockError_frame _ _ _ _ _ _ _ h)
  | blockRestartDone => exact .of_kept (execBlockRestartDone_frame _ _ _ _ h)
  | regionError => exact .of_kept (execRegionError_frame _ _ _ _ h)
  | regionReloaded => exact .of_kept (execRegionReloaded_frame _ _ _ _ h)
  | chipError => exact .of_kept (execChipError_frame _ _ _ _ h)
  | longOpSafePoint => exact .of_kept (execLongOpSafePoint_frame _ _ _ _ _ h)
  | hostWdogExpiry => exact .of_kept (execHostWdogExpiry_frame _ _ h)
  | superframeStart => exact .of_kept (execSuperframeStart_frame _ _ h)
  | sfCountStart => exact .of_kept (execSfCountStart_frame _ _ _ _ _ h)
  | superframeBuild => exact .of_kept (execSuperframeBuild_frame _ _ h)
  | frameMark => exact .of_kept (execFrameMark_frame _ _ h)
  | downlinkSpan => exact .of_kept (execDownlinkSpan_frame _ _ _ h)
  | headLinkState => exact .of_kept (execHeadLinkState_frame _ _ _ _ h)
  | rxFrame => exact .of_kept (execRxFrame_frame _ _ _ _ _ h)
  | txReport => exact .of_kept (execTxReport_frame _ _ _ _ h)
  | headStatus => exact .of_kept (execHeadStatus_frame _ _ _ _ h)
  | pong => exact .of_kept (execPong_frame _ _ _ _ h)
  | spanJudged => exact .of_kept (execSpanJudged_frame _ _ _ h)
  | callPeriodExpiry => exact .of_kept (execCallPeriodExpiry_frame _ _ _ h)
  | joinTimeoutExpiry => exact .of_kept (execJoinTimeoutExpiry_frame _ _ _ h)
  | baseObsEpoch => exact .of_kept (execBaseObsEpoch_frame _ _ _ _ _ _ _ h)
  | baseEpochTimeout => exact .of_kept (execBaseEpochTimeout_frame _ _ _ h)
  | svSuspectClear => exact .of_kept (execSvSuspectClear_frame _ _ _ h)
  | interferenceChange => exact .of_kept (execInterferenceChange_frame _ _ h)
  | fixSolve => exact .of_kept (execFixSolve_frame _ _ _ _ h)
  | ambiguitySearch => exact .of_kept (execAmbiguitySearch_frame _ _ _ _ h)
  | searchWaitExpiry => exact .of_kept (execSearchWaitExpiry_frame _ _ _ h)
  | gaitReplan => exact .of_kept (execGaitReplan_frame _ _ _ h)
  | sweepLocksHeld => exact .of_kept (execSweepLocksHeld_frame _ _ _ _ h)
  | knotPack => exact .of_kept (execKnotPack_frame _ _ _ h)
  | limitTakeover => exact .of_kept (execLimitTakeover_frame _ _ _ h)
  | padTick => exact .of_kept (execPadTick_frame _ _ h)
  | groomTile => exact .of_kept (execGroomTile_frame _ _ _ h)
  | parkRenewal => exact .of_kept (execParkRenewal_frame _ _ _ h)
  | discWrite => exact .of_kept (execDiscWrite_frame _ _ _ _ _ h)
  | discEnd => exact .of_kept (execDiscEnd_frame _ _ _ h)
  | mirrorPadReceived => exact .of_kept (execMirrorPadReceived_frame _ _ _ h)
  | surveyNetworkTimeout => exact .of_kept (execSurveyNetworkTimeout_frame _ _ h)
  | sampleCountCheck => exact .of_kept (execSampleCountCheck_frame _ _ _ h)
  | portSyncChange => exact .of_kept (execPortSyncChange_frame _ _ _ _ h)
  | agcUpdate => exact .of_kept (execAgcUpdate_frame _ _ _ h)
  | spectrumFft => exact .of_kept (execSpectrumFft_frame _ _ _ _ h)
  | antennaSample => exact .of_kept (execAntennaSample_frame _ _ _ h)
  | antennaBiasRetry => exact .of_kept (execAntennaBiasRetry_frame _ _ h)
  | antRearm => exact .of_kept (execAntRearm_frame _ _ _ _ h)
  | trkMaskPrnWrite => exact .of_kept (execTrkMaskPrnWrite_frame _ _ _ _ h)
  | stabledBurst => exact .of_kept (execStabledBurst_frame _ _ _ _ h)
  | secondBoundary => exact .of_kept (execSecondBoundary_frame _ _ h)
  | ppsPulse => exact .of_kept (execPpsPulse_frame _ _ _ h)
  | cueInstant => exact .of_kept (execCueInstant_frame _ _ _ h)
  | timIncrWrite => exact .of_kept (execTimIncrWrite_frame _ _ _ _ h)
  | voteExclGnss => exact .of_kept (execVoteExclGnss_frame _ _ _ h)
  | voteExclA => exact .of_kept (execVoteExclA_frame _ _ _ h)
  | voteExclB => exact .of_kept (execVoteExclB_frame _ _ _ h)
  | voteInclGnss => exact .of_kept (execVoteInclGnss_frame _ _ _ h)
  | voteInclA => exact .of_kept (execVoteInclA_frame _ _ _ h)
  | voteInclB => exact .of_kept (execVoteInclB_frame _ _ _ h)
  | clearSuspect => exact .of_kept (execClearSuspect_frame _ _ _ h)
  | ppsForceStart => exact .of_kept (execPpsForceStart_frame _ _ _ _ h)
  | spoofClear => exact .of_kept (execSpoofClear_frame _ _ _ h)
  | svClearAll => exact .of_kept (execSvClearAll_frame _ _ _ h)
  | stopChannelOpen => exact .of_kept (execStopChannelOpen_frame _ _ _ _ h)
  | stopChannelClosed => exact .of_kept (execStopChannelClosed_frame _ _ _ _ h)
  | testPulse => exact .of_kept (execTestPulse_frame _ _ _ _ _ _ h)
  | disagreeFault => exact .of_kept (execDisagreeFault_frame _ _ _ h)
  | keyPosition => exact .of_kept (execKeyPosition_frame _ _ _ _ h)
  | touchMeasure => exact .of_kept (execTouchMeasure_frame _ _ _ h)
  | resumeHoldComplete => exact .of_kept (execResumeHoldComplete_frame _ _ h)
  | outputReadbackFault => exact .of_kept (execOutputReadbackFault_frame _ _ _ _ h)
  | oscMonitor => exact .of_kept (execOscMonitor_frame _ _ _ _ h)
  | plugDetect => exact .of_kept (execPlugDetect_frame _ _ _ _ _ _ h)
  | whoaStatusEvent => exact .of_kept (execWhoaStatusEvent_frame _ _ h)
  | stopFrameRepeat => exact .of_kept (execStopFrameRepeat_frame _ _ h)
  | netFrameRx => exact .of_kept (execNetFrameRx_frame _ _ _ _ _ _ _ _ h)
  | netTxStart => exact .of_kept (execNetTxStart_frame _ _ _ _ _ h)
  | netTxTimeout => exact .of_kept (execNetTxTimeout_frame _ _ _ _ h)
  | pauseRx => exact .of_kept (execPauseRx_frame _ _ _ h)
  | pauseExpiry => exact .of_kept (execPauseExpiry_frame _ _ h)
  | pauseTx => exact .of_kept (execPauseTx_frame _ _ _ h)
  | portBCollision => exact .of_kept (execPortBCollision_frame _ _ _ h)
  | plcaBeaconTimeout => exact .of_kept (execPlcaBeaconTimeout_frame _ _ h)
  | portLinkChange => exact .of_kept (execPortLinkChange_frame _ _ _ _ _ _ h)
  | rtcmInputGap => exact .of_kept (execRtcmInputGap_frame _ _ _ h)
  | refMonitor => exact .of_kept (execRefMonitor_frame _ _ _ h)
  | tamperDetect => exact .of_kept (execTamperDetect_frame _ _ _ h)
  | recTrigger => exact .of_kept (execRecTrigger_frame _ _ h)
  | captureFilled => exact .of_kept (execCaptureFilled_frame _ _ h)
  | trigSyncPulse => exact .of_kept (execTrigSyncPulse_frame _ _ _ _ h)
  | queuePush => exact .of_kept (execQueuePush_frame _ _ _ _ _ h)
  | queuePop => exact .of_kept (execQueuePop_frame _ _ _ _ _ _ h)
  | queueReadTimeout => exact .of_kept (execQueueReadTimeout_frame _ _ _ h)
  | mergePortTake => exact .of_kept (execMergePortTake_frame _ _ _ h)
  | queueEnableWrite => exact .of_kept (execQueueEnableWrite_frame _ _ _ _ _ h)
  | scrubWord => exact .of_kept (execScrubWord_frame _ _ _ h)
  | thermalSample => exact .of_kept (execThermalSample_frame _ _ _ h)
  | refClockCheck => exact .of_kept (execRefClockCheck_frame _ _ _ _ h)
  | pwrGoodTimeout => exact .of_kept (execPwrGoodTimeout_frame _ _ _ h)
  | wakeSource => exact .of_kept (execWakeSource_frame _ _ _ h)
  | wakeDone => exact .of_kept (execWakeDone_frame _ _ h)
  | hitchInChange => exact .of_kept (execHitchInChange_frame _ _ _ h)
  | tokenClaimCheck => exact .of_kept (execTokenClaimCheck_frame _ _ h)
  | claimWaitExpiry => exact .of_kept (execClaimWaitExpiry_frame _ _ h)
  | tokenRelease => exact .of_kept (execTokenRelease_frame _ _ _ h)
  | bylLinkTrained => exact .of_kept (execBylLinkTrained_frame _ _ _ _ _ h)
  | bylHello => exact .of_kept (execBylHello_frame _ _ _ h)
  | bylConfirm => exact .of_kept (execBylConfirm_frame _ _ _ h)
  | bylResendTimeout => exact .of_kept (execBylResendTimeout_frame _ _ _ _ h)
  | heartbeatSend => exact .of_kept (execHeartbeatSend_frame _ _ h)
  | heartbeatReceived => exact .of_kept (execHeartbeatReceived_frame _ _ _ h)
  | heartbeatMiss => exact .of_kept (execHeartbeatMiss_frame _ _ h)
  | takeover => exact .of_kept (execTakeover_frame _ _ h)
  | coldTakeover => exact .of_kept (execColdTakeover_frame _ _ h)
  | mirrorGait => exact .of_kept (execMirrorGait_frame _ _ _ _ _ h)
  | mirrorSession => exact .of_kept (execMirrorSession_frame _ _ _ _ _ h)
  | mirrorConfig => exact .of_kept (execMirrorConfig_frame _ _ _ _ h)
  | mirrorAck => exact .of_kept (execMirrorAck_frame _ _ _ h)
  | tileReq => exact .of_kept (execTileReq_frame _ _ _ h)
  | tileData => exact .of_kept (execTileData_frame _ _ _ _ h)
  | recArmMessage => exact .of_kept (execRecArmMessage_frame _ _ _ h)
  | recFireMessage => exact .of_kept (execRecFireMessage_frame _ _ _ h)
  | svcMsg => exact .of_kept (execSvcMsg_frame _ _ _ _ h)
  | handoverTimeout => exact .of_kept (execHandoverTimeout_frame _ _ h)
  | powerOff => exact .of_kept (execPowerOff_frame _ _ h)
  | pllLockLoss => exact .of_kept (execPllLockLoss_frame _ _ _ h)
  | bylLinkLoss => exact .of_kept (execBylLinkLoss_frame _ _ _ _ h)
  | helloRetry => exact .of_kept (execHelloRetry_frame _ _ h)
  | plcaBeaconReceived => exact .of_kept (execPlcaBeaconReceived_frame _ _ h)
  | preemptionVerify => exact .of_kept (execPreemptionVerify_frame _ _ _ h)
  | acquisitionHandoff => exact .of_kept (execAcquisitionHandoff_frame _ _ _ _ _ _ h)
  | signalLockLoss => exact .of_kept (execSignalLockLoss_frame _ _ _ _ h)
  | downlinkBulkSpan => exact .of_kept (execDownlinkBulkSpan_frame _ _ _ h)
  | pulseWidthEnd => exact .of_kept (execPulseWidthEnd_frame _ _ _ h)
  | handoverYield => exact .of_kept (execHandoverYield_frame _ _ h)
  | interconnectCorrectedError => exact .of_kept (execInterconnectCorrectedError_frame _ _ h)

end Sys2Proof.Machine

namespace Sys2Proof
open Sys2Proof.Machine

/-- Settles O50: an idle cycle advances the clock by one, and a command goes onward from the queue's rest. -/
theorem stepTakesOneCommandAndTheClockNeverTurnsBack : Obligations.StepTakesOneCommandAndTheClockNeverTurnsBack := by
  intro s s' h
  unfold step at h
  split at h
  · rename_i hq
    obtain rfl := Host.Outcome.next.inj h
    simp [hq]
  · rename_i c rest hq
    obtain ⟨hcyc, hpending⟩ := exec_onward c _ h
    exact ⟨by simp [hpending, hq], hcyc⟩

end Sys2Proof

/-!
Register accesses (O5) and the reset state (O52): how a read or a write reaches its word, and what the word does.
-/

namespace Sys2Proof.Machine

/-! ### Register accesses -/

/-- An aligned write of a word of BAR0 without a row of its own goes to the register bus. -/
theorem execRegisterWrite_bar0 {s : State} {t : Nat} {rq : Requester} {a : Nat} {v same : Word} (hb : a < 0x1000000)
    (h4 : a % 4 = 0) (ho : ownRow a = false) :
    execRegisterWrite t rq a v same s = ok ((s.to t).busWrite rq a v same) := by
  simp [execRegisterWrite, hb, h4, ho]

/-- A write that no row carries, of a word that is no high half, is one access to its word. -/
theorem State.busWrite_word {s : State} {rq : Requester} {a : Nat} {v same : Word}
    (hr : (s.rowWrite rq a v).isNone = true) (hh : isKind a .high = false) :
    s.busWrite rq a v same = s.access rq a true (fun s =>
      if isKind a .low then s.shadowWrite rq v
      else if a / 0x100000 ≠ 0 ∧ a / 0x100000 ≠ 13 ∧ a % 0x100000 = 0x24 then
        s.applyParam (a / 0x100000) (v.truncate 16)
      else if mapped a then s.writeWord a v same
      else s.chipErr B.CHIP_ERR_STS_UNMAPPED) := by
  simp only [Option.isNone_iff_eq_none] at hr
  simp [State.busWrite, hr, hh]

/-- A write of a high half that no row carries commits both halves. -/
theorem State.busWrite_high {s : State} {rq : Requester} {a : Nat} {v : Word}
    (hr : (s.rowWrite rq a v).isNone = true) (hh : isKind a .high = true) (hi : a ≠ Reg.TIM_INCR + 4) :
    s.busWrite rq a v = s.access rq a true (fun w => w.commit64 a (s.lowHalf rq a) v) := by
  simp only [Option.isNone_iff_eq_none] at hr
  simp [State.busWrite, hr, hh, hi]

/-- A write that the present state allows acts under the access types of its fields. -/
theorem State.writeWord_allowed {s : State} {a : Nat} {v same : Word} (h : (s.forbids a v).isNone = true) :
    s.writeWord a v same = (s.softWrite a (s.adjust a v) same).written a v := by
  simp only [Option.isNone_iff_eq_none] at h
  simp [State.writeWord, h]

theorem State.commit64_allowed {s : State} {a : Nat} {low v : Word} (h : (s.forbids a v).isNone = true) :
    s.commit64 a low v = ((s.softWrite (a - 4) low).softWrite a v).written a v := by
  simp only [Option.isNone_iff_eq_none] at h
  simp [State.commit64, h]

/-- BAR2/3 holds the doorbells (R58). -/
theorem barOf_bar2 (o : Nat) (h : o < 0x40000) : barOf (0x1000000 + o) = some (2, o) := by
  have hlo : 0x1000000 ≤ 0x1000000 + o := by omega
  have hhi : 0x1000000 + o < 0x1040000 := by omega
  rw [barOf, if_pos ⟨hlo, hhi⟩, Nat.add_sub_cancel_left]

/-- A host's write to the page of ring `n` rings the doorbell at its offset. -/
theorem State.barWrite_doorbell {s : State} (n : Nat) (v : Word) (hd : s.hif.pcie.d3hot = false) :
    s.barWrite 2 (n * 0x1000) v = s.ringDoorbell n true v ∧
      s.barWrite 2 (n * 0x1000 + 4) v = s.ringDoorbell n false v := by
  have htail : n * 0x1000 % 0x1000 = 0 := Nat.mul_mod_left n 0x1000
  have hhead : (n * 0x1000 + 4) % 0x1000 = 4 := by rw [Nat.mul_add_mod_self_right]
  have htailRing : n * 0x1000 / 0x1000 = n := Nat.mul_div_cancel n (by decide)
  have hheadRing : (n * 0x1000 + 4) / 0x1000 = n := by rw [Nat.mul_comm, Nat.mul_add_div (by decide)]; rfl
  simp [State.barWrite, hd, htail, hhead, htailRing, hheadRing]

/-- A host's aligned write beside BAR0 goes to the BAR it lies in, while the chip has power and is awake. -/
theorem execRegisterWrite_bar {s : State} {t a b o : Nat} {v same : Word} (hb : 0x1000000 ≤ a)
    (ha : barOf a = some (b, o)) (h4 : a % 4 = 0) (hp : (s.to t).chip.powered = true)
    (hs : (s.to t).chip.stabled = false) : execRegisterWrite t 0 a v same s = ok ((s.to t).barWrite b o v) := by
  simp only [execRegisterWrite, if_neg (Nat.not_lt.mpr hb), ha]
  simp only [h4, hp, hs]
  simp

/-- An aligned read of a word of BAR0 that is not served returns all ones. -/
theorem execRcRegisterRead_refused {s : State} {t : Nat} {rq : Requester} {a : Nat} {same : Word} (hb : a < 0x1000000)
    (h4 : a % 4 = 0) (h : (s.to t).refuses rq a = true) :
    execRcRegisterRead t rq a same s = ok ((((s.to t).reached rq a false).chipErr B.CHIP_ERR_STS_REGION_DOWN).answer rq
      (BitVec.allOnes 32)) := by
  simp only [execRcRegisterRead, if_pos hb, h4, State.access_refuses h]
  simp

/-- The summary of a region's errors of WHOA has no RC field. -/
theorem hasRc_whoaRgnErr : hasRc (Reg.RGN_ERR 13) = false := by decide +kernel

/-- A served read of an RC word returns its state and clears its RC fields. -/
theorem execRcRegisterRead_rc {s : State} {t : Nat} {rq : Requester} {a : Nat} {same : Word} {d : RegDef}
    (hb : a < 0x1000000) (h4 : a % 4 = 0) (hd : regDef? a = some d) (hrc : hasRc a = true) (hw : a ≠ Reg.WHOA_FAULT)
    (h : (s.to t).reaches rq a = true) :
    execRcRegisterRead t rq a same s = ok (((s.to t).reached rq a false).rcRead rq a same) := by
  have hm : mapped a = true := by simp [mapped, hd]
  have hr : a ≠ Reg.RGN_ERR 13 := by rintro rfl; rw [hasRc_whoaRgnErr] at hrc; exact Bool.false_ne_true hrc
  simp only [execRcRegisterRead, if_pos hb, h4, State.access_reaches h]
  simp [hm, hrc, State.clearRead, hw, hr]

/-- What a read that clears leaves in a mapped word. -/
theorem State.rcRead_def {s : State} {rq : Requester} {a : Nat} {same : Word} {d : RegDef} (hd : regDef? a = some d) :
    s.rcRead rq a same = (s.answerWord rq a).setWord a ((s.word a &&& ~~~(fieldMask (fun c => c == .rc) d.fields)) |||
      (same &&& (fieldMask (fun c => c == .rc) d.fields))) := by
  simp [State.rcRead, hd]

end Sys2Proof.Machine

namespace Sys2Proof
open Sys2Proof.Machine

/-- Settles O5: each clause follows one access through the windows to what its word does. -/
theorem registerAccessesComplete : Obligations.RegisterAccessesComplete := by
  unfold Obligations.RegisterAccessesComplete
  refine ⟨?badWrite, ?badRead, ?write, ?writeUndefined, ?writeOutside, ?doorbell, ?writeRefused, ?readRefused,
    ?readRc, ?readLow, ?writeHigh, ?apply, ?applyRejected⟩
  case badWrite =>
    intro s t rq a bytes enables hin hbad
    simp only [exec, execBadAccess, hin, if_neg hbad]; rfl
  case badRead =>
    intro s t rq a bytes enables hin hbad
    simp only [exec, execBadAccess, hin, if_neg hbad]; rfl
  case write =>
    intro s t rq a v same hb h4 ho hr hh hl hp hm hs hf
    rw [exec, execRegisterWrite_bar0 hb h4 ho, State.busWrite_word hr hh, State.access_reaches hs]
    simp only [hl, hm, if_neg hp, State.writeWord_allowed hf]; rfl
  case writeUndefined =>
    intro s t rq a v same hb h4 ho hr hh hl hp hm hs
    rw [exec, execRegisterWrite_bar0 hb h4 ho, State.busWrite_word hr hh, State.access_reaches hs]
    simp only [hl, hm, if_neg hp]; rfl
  case writeOutside =>
    intro s t rq a v same hb ha
    simp only [exec, execRegisterWrite, if_neg (Nat.not_lt.mpr hb), ha]
  case doorbell =>
    intro s t ring v same hp hs hd
    obtain ⟨htail, hhead⟩ := (s.to t).barWrite_doorbell ring.val v hd
    have hr := ring.isLt
    constructor
    · rw [exec, execRegisterWrite_bar (by omega) (barOf_bar2 _ (by omega)) (by omega) hp hs, htail]
      rfl
    · rw [exec, Nat.add_assoc, execRegisterWrite_bar (by omega) (barOf_bar2 _ (by omega)) (by omega) hp hs, hhead]
      rfl
  case writeRefused =>
    intro s t rq a v same hb h4 ho hr hh hs
    rw [exec, execRegisterWrite_bar0 hb h4 ho, State.busWrite_word hr hh, State.access_refuses hs]
    rfl
  case readRefused =>
    intro s t rq a same hb h4 hs
    exact execRcRegisterRead_refused hb h4 hs
  case readRc =>
    intro s t rq a same d hb h4 hd hrc hw hs
    rw [exec, execRcRegisterRead_rc hb h4 hd hrc hw hs, State.rcRead_def hd]
    rfl
  case readLow =>
    intro s t rq a hl hn hs
    simp only [exec, execReg64LowRead, hl, State.access_reaches hs, State.readLow, if_neg hn]
    rfl
  case writeHigh =>
    intro s t rq a v hh hr hn hs hf
    simp only [exec, execReg64HighWrite, hh, State.busWrite_high hr hh hn, State.access_reaches hs,
      State.commit64_allowed hf]
    rfl
  case apply =>
    intro s t rq region id blk h0 h13 hs hb hm
    simp only [exec, execParamApply, h0, h13, State.access_reaches hs, State.applyParam, hb, hm]
    rfl
  case applyRejected =>
    intro s t rq region id blk h0 h13 hs hb hm
    simp only [exec, execParamApply, h0, h13, State.access_reaches hs, State.applyParam, hb, hm]
    rfl

/-- Settles O52: nothing waits and nothing is listed by definition; the words of the reset table are evaluated. -/
theorem resetStateIsEmptyAndCanonical : Obligations.ResetStateIsEmptyAndCanonical := by
  refine ⟨rfl, rfl, ?chipId, ?step, ?blkLimit⟩
  case chipId => decide +kernel
  case step => decide +kernel
  case blkLimit => decide +kernel

end Sys2Proof

/-!
Block errors, cell errors and handshakes between regions (O4): what each operation of the error chapter does where it
acts.
-/

namespace Sys2Proof.Machine

/-! ### Block errors (R31, R32) -/

/-- A block other than WHOA's, below its limit and not restarting yet, records its error, fails the items it holds and
restarts. -/
theorem State.blockError_restarts {s : State} {r block cell : Nat} {cause : ErrCause} {held : List Nat} (h0 : r ≠ 0)
    (h13 : r ≠ 13) (hon : s.rgnState r ≠ rsOff) (hrst : s.resetting r = false)
    (hlim : s.recentRestarts r block < s.get (B.RGN_CTL_BLK_LIMIT r))
    (hnew : (s.noteRestart r block).rgn.restarting.contains (r, block) = false) :
    s.blockError r block cell cause held =
      let x := (((s.noteRestart r block).rgnInfo r 1 block cell cause).rgnErr (B.RGN_ERR_BLOCK_ERR r)).failHeld r
        (cell % 0x1000) held
      { x with rgn := { x.rgn with restarting := x.rgn.restarting ++ [(r, block)] } } := by
  have hacts : ¬(r = 0 ∨ s.rgnState r = rsOff) := not_or.mpr ⟨h0, hon⟩
  simp only [State.blockError, if_neg hacts, hrst, if_neg (Nat.not_le.mpr hlim), hnew, if_neg h13, Bool.false_eq_true,
    if_false]

/-- A refused write to DRAM sets BOUNDS and fails no item (R437). -/
theorem State.dramRefused_write {s : State} {x : DramAccess} (h : x.write = true) :
    s.dramRefused x = s.setFlag B.MQF_DRAM_STS_BOUNDS true := by
  simp [State.dramRefused, h]

/-- A write to DRAM that R437 refuses is a block error of the block that makes it. -/
theorem execBlockError_refusedWrite {s : State} {t : Nat} {region : Fin 16} {block : BitVec 8} {cause : ErrCause}
    {held : List Nat} {x : DramAccess} (hup : (s.to t).up region.val = true)
    (hno : (s.to t).dramAllows region.val x = false) (hw : x.write = true) :
    execBlockError t region block cause held (some x) s =
      ok (((s.to t).setFlag B.MQF_DRAM_STS_BOUNDS true).blockError region.val block.toNat 0xFFFF cause held) := by
  simp [execBlockError, hup, hno, State.dramRefused_write hw]

/-- A block whose tables load takes the requests that waited and counts its restart. -/
theorem execBlockRestartDone_loads {s : State} {t : Nat} {region : Fin 16} {block : BitVec 8}
    (hr : (s.to t).rgn.restarting.contains (region.val, block.toNat) = true)
    (hl : ({ (s.to t) with rgn := { (s.to t).rgn with
      restarting := (s.to t).rgn.restarting.filter (fun p => p != (region.val, block.toNat)) } } :
        State).blockLoads region.val block.toNat = true) :
    execBlockRestartDone t region block s = ok ((({ (s.to t) with rgn := { (s.to t).rgn with
      restarting := (s.to t).rgn.restarting.filter (fun p => p != (region.val, block.toNat)) } } :
        State).takeCrossings region.val (s.to t).rgn.hs.length).count (Reg.RGN_BLK_RST_CNT region.val)) := by
  simp only [execBlockRestartDone, if_pos hr, if_pos hl]

/-! ### Cell errors (R30) -/

/-- An error of a cell in use, in a region that is on, is noted, fails its item, marks the cell and may escalate. -/
theorem State.cellError_acts {s : State} {r : Nat} {kind : CellKind} {cell block : Nat} {cause : ErrCause}
    {poison : Bool} {item : Option Nat} {held : List Nat} (h0 : r ≠ 0) (hon : s.rgnState r ≠ rsOff)
    (huse : s.rgn.retired.contains (r, cell) = false) :
    s.cellError r kind cell block cause poison item held = (((s.noteCell r block cell cause).cellFails r cell poison
      item).cellMarks kind cell).cellEscalates r kind cell block held := by
  have hmem : (r, cell) ∉ s.rgn.retired := by simpa using huse
  exact if_neg (not_or.mpr ⟨h0, not_or.mpr ⟨hon, hmem⟩⟩)

/-- The item of the identity given fails, with FAIL_POISON for bad data. -/
theorem State.cellFails_item {s : State} {r cell i : Nat} {poison : Bool} {it : Item} (h : s.itemOf? i = some it) :
    s.cellFails r cell poison (some i) =
      s.failOne it r (cell % 0x1000) (if poison then .failPoison else .failFault) := by
  simp only [State.cellFails, h]

/-- Below the sixteenth error within a second nothing escalates. -/
theorem State.cellEscalates_below {s : State} {r : Nat} {kind : CellKind} {cell block : Nat} {held : List Nat}
    (h : s.cellHits r cell < 16) : s.cellEscalates r kind cell block held = s := if_pos h

/-- The sixteenth error within a second retires a pooled cell. -/
theorem State.cellEscalates_pooled {s : State} {r : Nat} {kind : CellKind} {cell block : Nat} {held : List Nat}
    (hp : kind.pooled = true) (h : 16 ≤ s.cellHits r cell) :
    s.cellEscalates r kind cell block held = (s.clearHits r cell).retireCell r cell kind := by
  rw [State.cellEscalates, if_neg (Nat.not_lt.mpr h), if_pos hp]

/-! ### Handshakes (R15, R17, R18) -/

/-- The sender offers an item at its port, and holds it no more. -/
def State.offer (s : State) (sender receiver block : Nat) (x : Item) : State :=
  { s with rgn := { s.rgn with
    hs := s.rgn.hs ++ [⟨sender, receiver, block, some x, false, s.cyc⟩]
    inbox := s.rgn.inbox.filter (fun p => p.2.id != x.id) } }

/-- Outside DSP a request at a free port offers the item, and a receiver that serves requests may take one. -/
theorem execHandshakeRequest_free {s : State} {t : Nat} {sender receiver : Fin 16} {block : BitVec 8} {x : Item}
    (takes : Bool) (h2 : receiver.val ≠ 2)
    (hfree : (s.to t).rgn.hs.any (fun h => h.is sender.val receiver.val block.toNat) = false) :
    execHandshakeRequest t sender receiver block x takes s =
      let y := (s.to t).offer sender.val receiver.val block.toNat x
      ok (if takes ∧ y.up receiver.val then y.takeCrossing receiver.val else y) := by
  simp only [execHandshakeRequest, beq_eq_false_iff_ne.mpr h2, hfree, Bool.false_eq_true, if_false]
  rfl

/-- At DSP a region with a source port brings its item there. -/
theorem execHandshakeRequest_source {s : State} {t : Nat} {sender : Fin 16} {block : BitVec 8} {x : Item}
    {takes : Bool} {p : Nat × Source} (hp : sourcePort sender.val = some p) :
    execHandshakeRequest t sender 2 block x takes s = ok ((s.to t).bring p x) := by
  simp [execHandshakeRequest, hp]

/-- The port served next passes its item to the receiver, and its level remembers it. -/
theorem State.takeCrossing_some {s : State} {r : Nat} {h : HsPort} (hn : s.crossNext r = some h) :
    s.takeCrossing r = { s with rgn := { s.rgn with
      hs := s.rgn.hs.map (fun (y : HsPort) =>
        if y.receiver = r ∧ y.key = h.key then { y with item := none, taken := true } else y)
      inbox := s.rgn.inbox ++ (h.item.map (fun it => (r, it))).toList
      turn := Sp.put s.rgn.turn (8 * r + s.crossLevel h) h.key } } := by
  simp only [State.takeCrossing, hn]

/-- A request unacknowledged for 10 ms sets HS_TIMEOUT at the sender, and is a block error of the receiver. -/
theorem execHandshakeTimeout_late {s : State} {t : Nat} {sender receiver : Fin 16} {block : BitVec 8}
    {held : List Nat} {h : HsPort}
    (hf : (s.to t).rgn.hs.find? (fun h => h.is sender.val receiver.val block.toNat) = some h)
    (hopen : h.taken = false) (h0 : sender.val ≠ 0) (hrun : (s.to t).rgnState receiver.val = rsRun)
    (hlate : h.since + 10 * cycMs ≤ (s.to t).cyc) :
    execHandshakeTimeout t sender receiver block held s =
      ok ((({ (s.to t) with rgn := { (s.to t).rgn with hs := (s.to t).rgn.hs.map (fun (x : HsPort) =>
        if x.is sender.val receiver.val block.toNat then { x with since := (s.to t).cyc } else x) } } :
          State).rgnErr (B.RGN_ERR_HS_TIMEOUT sender.val)).blockError receiver.val block.toNat 0xFFFF .handshake
            held) := by
  have hdue : (!h.taken) = true ∧ (s.to t).rgnState receiver.val = rsRun ∧ h.since + 10 * cycMs ≤ (s.to t).cyc :=
    ⟨by rw [hopen]; rfl, hrun, hlate⟩
  simp only [execHandshakeTimeout, hf, if_pos hdue, if_neg h0]

end Sys2Proof.Machine

namespace Sys2Proof
open Sys2Proof.Machine

/-- Settles O4: each clause is the case of its operation that the premises select. -/
theorem blockCellAndCrossingErrorsComplete : Obligations.BlockCellAndCrossingErrorsComplete := by
  unfold Obligations.BlockCellAndCrossingErrorsComplete
  refine ⟨?blockError, ?dramAccess, ?restartDone, ?cellBelow, ?cellSixteenth, ?requestWaits, ?requestTaken,
    ?requestSource, ?ackSeen, ?timeout⟩
  case blockError =>
    intro s t region block cause held h0 h13 hon hrst hlim hnew
    exact congrArg Host.Outcome.next (State.blockError_restarts h0 h13 hon hrst hlim hnew)
  case dramAccess =>
    intro s t region block cause held x hup hno hw
    exact execBlockError_refusedWrite hup hno hw
  case restartDone =>
    intro s t region block hr hl
    exact execBlockRestartDone_loads hr hl
  case cellBelow =>
    intro s t region kind cell block cause poison it held h0 hon huse hit hlow
    simp only [exec, execCellError, State.cellError_acts h0 hon huse, State.cellFails_item hit,
      State.cellEscalates_below hlow]
  case cellSixteenth =>
    intro s t region kind cell block cause poison held h0 hon huse hpool hmany
    simp only [exec, execCellError, State.cellError_acts h0 hon huse, State.cellFails,
      State.cellEscalates_pooled hpool hmany]
  case requestWaits =>
    intro s t sender receiver block x h2 hfree
    exact execHandshakeRequest_free false h2 hfree
  case requestTaken =>
    intro s t sender receiver block x h h2 hfree hup hnext
    have htakes : true = true ∧ ((s.to t).offer sender.val receiver.val block.toNat x).up receiver.val = true :=
      ⟨rfl, hup⟩
    have hoffer := (execHandshakeRequest_free true h2 hfree).trans (congrArg ok (if_pos htakes))
    exact hoffer.trans (congrArg ok (State.takeCrossing_some hnext))
  case requestSource =>
    intro s t sender block x takes p hp
    exact execHandshakeRequest_source hp
  case ackSeen =>
    intro s t sender receiver block
    rfl
  case timeout =>
    intro s t sender receiver block held h hf hopen h0 hrun hlate
    exact execHandshakeTimeout_late hf hopen h0 hrun hlate

end Sys2Proof

/-!
The fleet cycle (O11): what its operations do where they act.
-/

namespace Sys2Proof.Machine

/-! ### Superframes, builds and marks (R55, R272 to R274, R279, R295) -/

/-- Once the count runs, a superframe whose start has come begins; awake, an active device takes owners, switches its
schedule and changes its contexts. -/
theorem execSuperframeStart_counting {s : State} {t : Nat} (hdue : (s.to t).nextStart ≤ (s.to t).devNs)
    (hcount : (s.to t).air.counting = true) :
    execSuperframeStart t s =
      let x := (s.to t).beginFrame (s.to t).nextStart false
      if x.chip.stabled then ok x
      else if !x.takeOwners.air.counting then ok x.takeOwners
      else if x.takeOwners.switchSched.standby then ok x.takeOwners.switchSched
      else ok x.takeOwners.switchSched.contextsStart := by
  simp only [execSuperframeStart, if_neg (Nat.not_lt.mpr hdue), hcount]
  rfl

/-- A build that is due, and has not been made, loads the superframe it is for. -/
theorem execSuperframeBuild_due {s : State} {t : Nat} (hdue : (s.to t).buildDue = true)
    (hruns : (s.to t).runs 9 blkSched = true) (hactive : (s.to t).standby = false)
    (hnew : (s.to t).air.builtFor ≠ some (s.to t).nextBuild) :
    execSuperframeBuild t s = ok ((s.to t).loadSuperframe (s.to t).nextBuild) :=
  if_pos ⟨hdue, hruns, by rw [hactive]; rfl, hnew⟩

/-- While the count runs, the build is due from 40 ms of the superframe on. -/
theorem State.buildDue_counting {s : State} (h : s.air.counting = true) :
    s.buildDue = decide (s.air.sfStart + 40000000 ≤ s.devNs) := if_pos h

/-- Before the first superframe, its build is due from 60 ms before the start on. -/
theorem State.buildDue_before {s : State} (h : s.air.counting = false) :
    s.buildDue = (s.air.startAt.isSome && decide (s.nextStart ≤ s.devNs + 60000000)) := by
  simp only [State.buildDue, h, Bool.false_eq_true, if_false]

theorem State.nextBuild_counting {s : State} (h : s.air.counting = true) : s.nextBuild = (s.sfn + 1) % 2 ^ 48 :=
  if_pos h

theorem State.nextBuild_before {s : State} (h : s.air.counting = false) :
    s.nextBuild = s.rd64 Reg.AIR_SF_NUM_INIT % 2 ^ 48 := by
  simp only [State.nextBuild, h, Bool.false_eq_true, if_false]

/-- While the count runs, a mark that has not gone out yet is sent. -/
theorem execFrameMark_new {s : State} {t : Nat} (hcount : (s.to t).air.counting = true)
    (hnew : (s.to t).air.marked ≠ some ((s.to t).markDue.1, (s.to t).markDue.2.1)) :
    execFrameMark t s =
      ok ((s.to t).sendMarks (s.to t).markDue.1 (s.to t).markDue.2.1 (s.to t).markDue.2.2) :=
  if_neg (not_or.mpr ⟨by rw [hcount]; exact Bool.false_ne_true, hnew⟩)

/-- What a write of AIR_HEAD_n_CTL does before it may start the count: the word changes, and a head it brings up is met
with what is built. -/
def State.headWritten (s : State) (h : Nat) (val : Word) : State :=
  if s.headsUp.contains h then s.softWrite (Reg.AIR_HEAD_CTL h) val
  else (s.softWrite (Reg.AIR_HEAD_CTL h) val).meetHead h

/-- A served write that leaves the head enabled, before any start of the count is fixed, fixes it at the next whole
100 ms. -/
theorem State.headCtl_first {s : State} {rq : Requester} {h : Nat} {val : Word}
    (hs : s.reaches rq (Reg.AIR_HEAD_CTL h) = true)
    (hon : ((s.reached rq (Reg.AIR_HEAD_CTL h) true).headWritten h val).flag (B.AIR_HEAD_CTL_ENABLE h) = true)
    (hnone : ((s.reached rq (Reg.AIR_HEAD_CTL h) true).headWritten h val).air.startAt = none) :
    s.headCtl rq h val =
      let x := (s.reached rq (Reg.AIR_HEAD_CTL h) true).headWritten h val
      { x with air := { x.air with startAt := some (up100 x.devNs) } } := by
  rw [State.headCtl, State.access_reaches hs]
  exact if_pos ⟨hon, Option.isNone_iff_eq_none.mpr hnone⟩

end Sys2Proof.Machine

namespace Sys2Proof
open Sys2Proof.Machine

/-- Settles O11: each clause is the case of its operation that the premises select. -/
theorem fleetCycleCommandsComplete : Obligations.FleetCycleCommandsComplete := by
  unfold Obligations.FleetCycleCommandsComplete
  refine ⟨?wdog, ?awake, ?stabled, ?countStart, ?build, ?firstBuild, ?mark⟩
  case wdog =>
    intro s t hown hms hlate
    exact if_pos ⟨hown, hms, hlate⟩
  case awake =>
    intro s t hdue hcount hst howners hactive
    rw [exec, execSuperframeStart_counting hdue hcount]
    simp only [hst, howners, hactive]
    rfl
  case stabled =>
    intro s t hdue hcount hst
    rw [exec, execSuperframeStart_counting hdue hcount]
    exact if_pos hst
  case countStart =>
    intro s t rq head val hs hon hnone
    exact congrArg ok (State.headCtl_first hs hon hnone)
  case build =>
    intro s t hcount hruns hactive hdue hnew
    rw [← State.nextBuild_counting hcount] at hnew ⊢
    exact execSuperframeBuild_due (by rw [State.buildDue_counting hcount]; exact decide_eq_true hdue) hruns hactive hnew
  case firstBuild =>
    intro s t hcount hstart hdue hruns hactive hnew
    rw [← State.nextBuild_before hcount] at hnew ⊢
    exact execSuperframeBuild_due (by rw [State.buildDue_before hcount, hstart]; exact decide_eq_true hdue) hruns
      hactive hnew
  case mark =>
    intro s t hcount hnew
    exact execFrameMark_new hcount hnew

end Sys2Proof

/-!
The fleet's regions (O55): a command changes what AIR, GNB, FIX, GAIT, PAD, NET, TIM and BYL hold only where
Safety.lean lists it.
-/

namespace Sys2Proof.Machine

/-- From `s` to `s'`, what each of the eight regions holds is as before unless the region lists `c`. -/
def FleetKept (c : Instr) (s s' : State) : Prop :=
  (c.touchesAir = false → s'.air = s.air) ∧ (c.touchesGnb = false → s'.gnb = s.gnb) ∧
    (c.touchesFix = false → s'.fix = s.fix) ∧ (c.touchesGait = false → s'.gait = s.gait) ∧
    (c.touchesPad = false → s'.pad = s.pad) ∧ (c.touchesNet = false → s'.net = s.net) ∧
    (c.touchesTim = false → s'.tim = s.tim) ∧ (c.touchesByl = false → s'.byl = s.byl)

/-- A command that may reset is listed for every region. -/
theorem FleetKept.of_mayReset {c : Instr} {s s' : State} (h : c.mayReset = true) : FleetKept c s s' := by
  simp only [FleetKept, Instr.touchesAir, Instr.touchesGnb, Instr.touchesFix, Instr.touchesGait, Instr.touchesPad,
    Instr.touchesNet, Instr.touchesTim, Instr.touchesByl, h, Bool.true_or, Bool.true_eq_false, false_implies, and_self]

/-- A frame lemma of ExecFrames.lean, `k`, is enough where it names every region that does not list the command: the
lists are evaluated at the command, and `k` rewrites the rest. -/
theorem FleetKept.of_frame {c : Instr} {s s' : State} {p : Prop} (k : p)
    (hk : p → FleetKept c s s' := by
      intro k
      simp only [FleetKept, k, Instr.touchesAir, Instr.touchesGnb, Instr.touchesFix, Instr.touchesGait,
        Instr.touchesPad, Instr.touchesNet, Instr.touchesTim, Instr.touchesByl, Bool.or_true, Bool.true_eq_false,
        false_implies, implies_true, and_self]) : FleetKept c s s' := hk k

/-- Whatever a command does, it leaves the regions that do not list it as they were. -/
theorem exec_fleetKept (c : Instr) (s : State) {s' : State} (h : exec c s = .next s') : FleetKept c s s' := by
  cases c with
  | powerOnReset | trialConfirmTimeout | activateReset | chipRstCmdFullReset | pciePerst | pcieLinkReset
  | registerWrite | reg64HighWrite | rgnCmdReset | whenReached | flowEntry | handshakeTimeout | cellError
  | blockError | blockRestartDone | regionError | regionReloaded | chipError | timeStep | queuePush | queuePop
  | mergePortTake | thermalSample | refClockCheck | powerOff | pllLockLoss =>
    exact .of_mayReset rfl
  | chipBootGo => exact .of_frame (execChipBootGo_frame _ _ _ _ _ _ h)
  | badAccess => exact .of_frame (execBadAccess_frame _ _ _ _ _ _ _ h)
  | rcRegisterRead => exact .of_frame (execRcRegisterRead_frame _ _ _ _ _ h)
  | reg64LowRead => exact .of_frame (execReg64LowRead_frame _ _ _ _ h)
  | timTimeLowRead => exact .of_frame (execTimTimeLowRead_frame _ _ _ h)
  | paramApply => exact .of_frame (execParamApply_frame _ _ _ _ _ h)
  | sqTailWrite => exact .of_frame (execSqTailWrite_frame _ _ _ _ h)
  | cqHeadWrite => exact .of_frame (execCqHeadWrite_frame _ _ _ _ h)
  | ringEnable => exact .of_frame (execRingEnable_frame _ _ _ _ _ _ h)
  | ringRecovered => exact .of_frame (execRingRecovered_frame _ _ _ h)
  | staleCompletionWrite => exact .of_frame (execStaleCompletionWrite_frame _ _ _ h)
  | descriptorFetch => exact .of_frame (execDescriptorFetch_frame _ _ _ _ h)
  | completionWrite => exact .of_frame (execCompletionWrite_frame _ _ _ h)
  | irqHoldoffExpiry => exact .of_frame (execIrqHoldoffExpiry_frame _ _ _ h)
  | stageDispatch => exact .of_frame (execStageDispatch_frame _ _ _ h)
  | completionRelease => exact .of_frame (execCompletionRelease_frame _ _ _ h)
  | dspObsSelWrite => exact .of_frame (execDspObsSelWrite_frame _ _ _ _ h)
  | dspLoadSelWrite => exact .of_frame (execDspLoadSelWrite_frame _ _ _ _ _ _ h)
  | handshakeRequest => exact .of_frame (execHandshakeRequest_frame _ _ _ _ _ _ _ h)
  | handshakeAckSeen => exact .of_frame (execHandshakeAckSeen_frame _ _ _ _ _ h)
  | hifNop => exact .of_frame (execHifNop_frame _ _ _ h)
  | hifSuspend => exact .of_frame (execHifSuspend_frame _ _ _ h)
  | hifResume => exact .of_frame (execHifResume_frame _ _ _ h)
  | hifCancel => exact .of_frame (execHifCancel_frame _ _ _ h)
  | queryOp => exact .of_frame (execQueryOp_frame _ _ _ h)
  | longOpSafePoint => exact .of_frame (execLongOpSafePoint_frame _ _ _ _ _ h)
  | hostWdogExpiry => exact .of_frame (execHostWdogExpiry_frame _ _ h)
  | superframeStart => exact .of_frame (execSuperframeStart_frame _ _ h)
  | sfCountStart => exact .of_frame (execSfCountStart_frame _ _ _ _ _ h)
  | superframeBuild => exact .of_frame (execSuperframeBuild_frame _ _ h)
  | frameMark => exact .of_frame (execFrameMark_frame _ _ h)
  | downlinkSpan => exact .of_frame (execDownlinkSpan_frame _ _ _ h)
  | headLinkState => exact .of_frame (execHeadLinkState_frame _ _ _ _ h)
  | rxFrame => exact .of_frame (execRxFrame_frame _ _ _ _ _ h)
  | txReport => exact .of_frame (execTxReport_frame _ _ _ _ h)
  | headStatus => exact .of_frame (execHeadStatus_frame _ _ _ _ h)
  | pong => exact .of_frame (execPong_frame _ _ _ _ h)
  | spanJudged => exact .of_frame (execSpanJudged_frame _ _ _ h)
  | callPeriodExpiry => exact .of_frame (execCallPeriodExpiry_frame _ _ _ h)
  | joinTimeoutExpiry => exact .of_frame (execJoinTimeoutExpiry_frame _ _ _ h)
  | schedLoad => exact .of_frame (execSchedLoad_frame _ _ _ _ h)
  | sessionAccept => exact .of_frame (execSessionAccept_frame _ _ _ _ h)
  | sessionRefuse => exact .of_frame (execSessionRefuse_frame _ _ _ h)
  | sessionLeave => exact .of_frame (execSessionLeave_frame _ _ _ h)
  | sessionSleep => exact .of_frame (execSessionSleep_frame _ _ _ h)
  | sessionWake => exact .of_frame (execSessionWake_frame _ _ _ h)
  | setRoute => exact .of_frame (execSetRoute_frame _ _ _ h)
  | setJoinKey => exact .of_frame (execSetJoinKey_frame _ _ _ h)
  | compatInject => exact .of_frame (execCompatInject_frame _ _ _ _ _ h)
  | setBeaconKey => exact .of_frame (execSetBeaconKey_frame _ _ _ h)
  | baseObsEpoch => exact .of_frame (execBaseObsEpoch_frame _ _ _ _ _ _ _ h)
  | baseEpochTimeout => exact .of_frame (execBaseEpochTimeout_frame _ _ _ h)
  | svSuspectClear => exact .of_frame (execSvSuspectClear_frame _ _ _ h)
  | interferenceChange => exact .of_frame (execInterferenceChange_frame _ _ h)
  | fixSolve => exact .of_frame (execFixSolve_frame _ _ _ _ h)
  | ambiguitySearch => exact .of_frame (execAmbiguitySearch_frame _ _ _ _ h)
  | searchWaitExpiry => exact .of_frame (execSearchWaitExpiry_frame _ _ _ h)
  | reinit => exact .of_frame (execReinit_frame _ _ _ _ h)
  | resetCtx => exact .of_frame (execResetCtx_frame _ _ _ h)
  | readCtx => exact .of_frame (execReadCtx_frame _ _ _ h)
  | gaitReplan => exact .of_frame (execGaitReplan_frame _ _ _ h)
  | sweepLocksHeld => exact .of_frame (execSweepLocksHeld_frame _ _ _ _ h)
  | knotPack => exact .of_frame (execKnotPack_frame _ _ _ h)
  | setTrack => exact .of_frame (execSetTrack_frame _ _ _ _ h)
  | setLimits => exact .of_frame (execSetLimits_frame _ _ _ h)
  | gaitRetarget => exact .of_frame (execGaitRetarget_frame _ _ _ h)
  | datumRun => exact .of_frame (execDatumRun_frame _ _ _ h)
  | limitTakeover => exact .of_frame (execLimitTakeover_frame _ _ _ h)
  | padCommit => exact .of_frame (execPadCommit_frame _ _ _ _ h)
  | whatIf => exact .of_frame (execWhatIf_frame _ _ _ _ _ h)
  | padRelease => exact .of_frame (execPadRelease_frame _ _ _ _ h)
  | setShape => exact .of_frame (execSetShape_frame _ _ _ _ h)
  | mapImport => exact .of_frame (execMapImport_frame _ _ _ _ _ h)
  | mapExport => exact .of_frame (execMapExport_frame _ _ _ h)
  | setHold => exact .of_frame (execSetHold_frame _ _ _ _ h)
  | readCell => exact .of_frame (execReadCell_frame _ _ _ _ h)
  | padTick => exact .of_frame (execPadTick_frame _ _ h)
  | groomTile => exact .of_frame (execGroomTile_frame _ _ _ h)
  | parkRenewal => exact .of_frame (execParkRenewal_frame _ _ _ h)
  | discWrite => exact .of_frame (execDiscWrite_frame _ _ _ _ _ h)
  | discEnd => exact .of_frame (execDiscEnd_frame _ _ _ h)
  | mirrorPadReceived => exact .of_frame (execMirrorPadReceived_frame _ _ _ h)
  | setRef => exact .of_frame (execSetRef_frame _ _ _ h)
  | selfSurvey => exact .of_frame (execSelfSurvey_frame _ _ _ h)
  | surveyNetworkTimeout => exact .of_frame (execSurveyNetworkTimeout_frame _ _ h)
  | sampleCountCheck => exact .of_frame (execSampleCountCheck_frame _ _ _ h)
  | portSyncChange => exact .of_frame (execPortSyncChange_frame _ _ _ _ h)
  | agcUpdate => exact .of_frame (execAgcUpdate_frame _ _ _ h)
  | spectrumFft => exact .of_frame (execSpectrumFft_frame _ _ _ _ h)
  | antennaSample => exact .of_frame (execAntennaSample_frame _ _ _ h)
  | antennaBiasRetry => exact .of_frame (execAntennaBiasRetry_frame _ _ h)
  | antRearm => exact .of_frame (execAntRearm_frame _ _ _ _ h)
  | trkMaskPrnWrite => exact .of_frame (execTrkMaskPrnWrite_frame _ _ _ _ h)
  | stabledBurst => exact .of_frame (execStabledBurst_frame _ _ _ _ h)
  | secondBoundary => exact .of_frame (execSecondBoundary_frame _ _ h)
  | ppsPulse => exact .of_frame (execPpsPulse_frame _ _ _ h)
  | cueInstant => exact .of_frame (execCueInstant_frame _ _ _ h)
  | cueSet => exact .of_frame (execCueSet_frame _ _ _ _ h)
  | setTime => exact .of_frame (execSetTime_frame _ _ _ h)
  | ptpSample => exact .of_frame (execPtpSample_frame _ _ _ h)
  | timIncrWrite => exact .of_frame (execTimIncrWrite_frame _ _ _ _ h)
  | voteExclGnss => exact .of_frame (execVoteExclGnss_frame _ _ _ h)
  | voteExclA => exact .of_frame (execVoteExclA_frame _ _ _ h)
  | voteExclB => exact .of_frame (execVoteExclB_frame _ _ _ h)
  | voteInclGnss => exact .of_frame (execVoteInclGnss_frame _ _ _ h)
  | voteInclA => exact .of_frame (execVoteInclA_frame _ _ _ h)
  | voteInclB => exact .of_frame (execVoteInclB_frame _ _ _ h)
  | clearSuspect => exact .of_frame (execClearSuspect_frame _ _ _ h)
  | ppsForceStart => exact .of_frame (execPpsForceStart_frame _ _ _ _ h)
  | spoofClear => exact .of_frame (execSpoofClear_frame _ _ _ h)
  | svClearAll => exact .of_frame (execSvClearAll_frame _ _ _ h)
  | stopChannelOpen => exact .of_frame (execStopChannelOpen_frame _ _ _ _ h)
  | stopChannelClosed => exact .of_frame (execStopChannelClosed_frame _ _ _ _ h)
  | testPulse => exact .of_frame (execTestPulse_frame _ _ _ _ _ _ h)
  | disagreeFault => exact .of_frame (execDisagreeFault_frame _ _ _ h)
  | keyPosition => exact .of_frame (execKeyPosition_frame _ _ _ _ h)
  | touchMeasure => exact .of_frame (execTouchMeasure_frame _ _ _ h)
  | resumeHoldComplete => exact .of_frame (execResumeHoldComplete_frame _ _ h)
  | outputReadbackFault => exact .of_frame (execOutputReadbackFault_frame _ _ _ _ h)
  | oscMonitor => exact .of_frame (execOscMonitor_frame _ _ _ _ h)
  | plugDetect => exact .of_frame (execPlugDetect_frame _ _ _ _ _ _ h)
  | whoaStatusEvent => exact .of_frame (execWhoaStatusEvent_frame _ _ h)
  | fleetStop => exact .of_frame (execFleetStop_frame _ _ _ h)
  | fleetResume => exact .of_frame (execFleetResume_frame _ _ _ h)
  | stopFrameRepeat => exact .of_frame (execStopFrameRepeat_frame _ _ h)
  | netFrameRx => exact .of_frame (execNetFrameRx_frame _ _ _ _ _ _ _ _ h)
  | netTxStart => exact .of_frame (execNetTxStart_frame _ _ _ _ _ h)
  | netTxTimeout => exact .of_frame (execNetTxTimeout_frame _ _ _ _ h)
  | pauseRx => exact .of_frame (execPauseRx_frame _ _ _ h)
  | pauseExpiry => exact .of_frame (execPauseExpiry_frame _ _ h)
  | pauseTx => exact .of_frame (execPauseTx_frame _ _ _ h)
  | portBCollision => exact .of_frame (execPortBCollision_frame _ _ _ h)
  | plcaBeaconTimeout => exact .of_frame (execPlcaBeaconTimeout_frame _ _ h)
  | portLinkChange => exact .of_frame (execPortLinkChange_frame _ _ _ _ _ _ h)
  | netTx => exact .of_frame (execNetTx_frame _ _ _ _ h)
  | netRx => exact .of_frame (execNetRx_frame _ _ _ h)
  | mdio => exact .of_frame (execMdio_frame _ _ _ _ h)
  | rtcmInputGap => exact .of_frame (execRtcmInputGap_frame _ _ _ h)
  | refMonitor => exact .of_frame (execRefMonitor_frame _ _ _ h)
  | tamperDetect => exact .of_frame (execTamperDetect_frame _ _ _ h)
  | tackLoad => exact .of_frame (execTackLoad_frame _ _ _ _ _ h)
  | tackGenerate => exact .of_frame (execTackGenerate_frame _ _ _ _ _ h)
  | tackDerive => exact .of_frame (execTackDerive_frame _ _ _ _ h)
  | tackExport => exact .of_frame (execTackExport_frame _ _ _ _ h)
  | tackUnload => exact .of_frame (execTackUnload_frame _ _ _ h)
  | tackRevoke => exact .of_frame (execTackRevoke_frame _ _ _ h)
  | tackImport => exact .of_frame (execTackImport_frame _ _ _ _ h)
  | tackSign => exact .of_frame (execTackSign_frame _ _ _ _ h)
  | tackMac => exact .of_frame (execTackMac_frame _ _ _ _ h)
  | tackRandom => exact .of_frame (execTackRandom_frame _ _ _ _ h)
  | tackPubkey => exact .of_frame (execTackPubkey_frame _ _ _ _ h)
  | tackAttest => exact .of_frame (execTackAttest_frame _ _ _ _ _ h)
  | epochAdvance => exact .of_frame (execEpochAdvance_frame _ _ _ h)
  | tackRewrap => exact .of_frame (execTackRewrap_frame _ _ _ _ _ h)
  | tackZeroise => exact .of_frame (execTackZeroise_frame _ _ _ h)
  | tamperClear => exact .of_frame (execTamperClear_frame _ _ _ h)
  | recArm => exact .of_frame (execRecArm_frame _ _ _ h)
  | recFire => exact .of_frame (execRecFire_frame _ _ _ h)
  | recDisarm => exact .of_frame (execRecDisarm_frame _ _ _ h)
  | recReadout => exact .of_frame (execRecReadout_frame _ _ _ _ h)
  | recDiscard => exact .of_frame (execRecDiscard_frame _ _ _ h)
  | recTrigger => exact .of_frame (execRecTrigger_frame _ _ h)
  | captureFilled => exact .of_frame (execCaptureFilled_frame _ _ h)
  | trigSyncPulse => exact .of_frame (execTrigSyncPulse_frame _ _ _ _ h)
  | queueReadTimeout => exact .of_frame (execQueueReadTimeout_frame _ _ _ h)
  | queueEnableWrite => exact .of_frame (execQueueEnableWrite_frame _ _ _ _ _ h)
  | scrubWord => exact .of_frame (execScrubWord_frame _ _ _ h)
  | pwrGoodTimeout => exact .of_frame (execPwrGoodTimeout_frame _ _ _ h)
  | stableEnter => exact .of_frame (execStableEnter_frame _ _ _ h)
  | wakeSource => exact .of_frame (execWakeSource_frame _ _ _ h)
  | wakeDone => exact .of_frame (execWakeDone_frame _ _ h)
  | imgWrite => exact .of_frame (execImgWrite_frame _ _ _ _ h)
  | imgActivate => exact .of_frame (execImgActivate_frame _ _ _ h)
  | imgConfirm => exact .of_frame (execImgConfirm_frame _ _ _ h)
  | otpProgram => exact .of_frame (execOtpProgram_frame _ _ _ _ h)
  | debugUnlock => exact .of_frame (execDebugUnlock_frame _ _ _ _ h)
  | hitchInChange => exact .of_frame (execHitchInChange_frame _ _ _ h)
  | tokenClaimCheck => exact .of_frame (execTokenClaimCheck_frame _ _ h)
  | claimWaitExpiry => exact .of_frame (execClaimWaitExpiry_frame _ _ h)
  | tokenRelease => exact .of_frame (execTokenRelease_frame _ _ _ h)
  | bylLinkTrained => exact .of_frame (execBylLinkTrained_frame _ _ _ _ _ h)
  | bylHello => exact .of_frame (execBylHello_frame _ _ _ h)
  | bylConfirm => exact .of_frame (execBylConfirm_frame _ _ _ h)
  | bylResendTimeout => exact .of_frame (execBylResendTimeout_frame _ _ _ _ h)
  | heartbeatSend => exact .of_frame (execHeartbeatSend_frame _ _ h)
  | heartbeatReceived => exact .of_frame (execHeartbeatReceived_frame _ _ _ h)
  | heartbeatMiss => exact .of_frame (execHeartbeatMiss_frame _ _ h)
  | takeover => exact .of_frame (execTakeover_frame _ _ h)
  | coldTakeover => exact .of_frame (execColdTakeover_frame _ _ h)
  | mirrorGait => exact .of_frame (execMirrorGait_frame _ _ _ _ _ h)
  | mirrorSession => exact .of_frame (execMirrorSession_frame _ _ _ _ _ h)
  | mirrorConfig => exact .of_frame (execMirrorConfig_frame _ _ _ _ h)
  | mirrorAck => exact .of_frame (execMirrorAck_frame _ _ _ h)
  | tileReq => exact .of_frame (execTileReq_frame _ _ _ h)
  | tileData => exact .of_frame (execTileData_frame _ _ _ _ h)
  | recArmMessage => exact .of_frame (execRecArmMessage_frame _ _ _ h)
  | recFireMessage => exact .of_frame (execRecFireMessage_frame _ _ _ h)
  | svcMsg => exact .of_frame (execSvcMsg_frame _ _ _ _ h)
  | pairHandover => exact .of_frame (execPairHandover_frame _ _ _ h)
  | handoverTimeout => exact .of_frame (execHandoverTimeout_frame _ _ h)
  | bylLinkLoss => exact .of_frame (execBylLinkLoss_frame _ _ _ _ h)
  | helloRetry => exact .of_frame (execHelloRetry_frame _ _ h)
  | plcaBeaconReceived => exact .of_frame (execPlcaBeaconReceived_frame _ _ h)
  | preemptionVerify => exact .of_frame (execPreemptionVerify_frame _ _ _ h)
  | acquisitionHandoff => exact .of_frame (execAcquisitionHandoff_frame _ _ _ _ _ _ h)
  | signalLockLoss => exact .of_frame (execSignalLockLoss_frame _ _ _ _ h)
  | downlinkBulkSpan => exact .of_frame (execDownlinkBulkSpan_frame _ _ _ h)
  | pulseWidthEnd => exact .of_frame (execPulseWidthEnd_frame _ _ _ h)
  | handoverYield => exact .of_frame (execHandoverYield_frame _ _ h)
  | interconnectCorrectedError => exact .of_frame (execInterconnectCorrectedError_frame _ _ h)

end Sys2Proof.Machine

namespace Sys2Proof
open Sys2Proof.Machine

/-- Settles O55: the frame of each command names every region that does not list it. -/
theorem fleetStateStaysWithItsCommands : Obligations.FleetStateStaysWithItsCommands :=
  fun c s _ h => exec_fleetKept c s h

end Sys2Proof

/-!
Host memory (O51, O53): only the commands that Instr.writesHost names write it, and they keep its canonical form.
-/

namespace Sys2Proof.Machine

/-! ### Commands that leave host memory alone -/

/-- What a frame lemma of ExecFrames.lean says of host memory. -/
theorem hostMem_of_frame {s r : State} {c q p : Prop} (h : c ∧ q ∧ r.hostMem = s.hostMem ∧ p) :
    r.hostMem = s.hostMem := by
  obtain ⟨_, _, hm, _⟩ := h
  exact hm

/-- The frame of a command that may reset names the clock, the queue and host memory only. -/
theorem hostMem_of_short_frame {s r : State} {c q : Prop} (h : c ∧ q ∧ r.hostMem = s.hostMem) :
    r.hostMem = s.hostMem := by
  obtain ⟨_, _, hm⟩ := h
  exact hm

/-- A command that is not listed as writing host memory leaves it as it was. -/
theorem exec_hostMem (c : Instr) (s : State) {s' : State} (hc : c.writesHost = false) (h : exec c s = .next s') :
    s'.hostMem = s.hostMem := by
  cases c with
  | ringEnable | staleCompletionWrite | descriptorFetch | completionWrite | whenReached | longOpSafePoint | fixSolve
  | ambiguitySearch | searchWaitExpiry | whatIf | timeStep | netFrameRx | tamperDetect | tackGenerate | tackExport
  | tackSign | tackRandom | tackPubkey | tackAttest | tackZeroise | recReadout | stableEnter | wakeDone =>
    exact absurd hc.symm Bool.false_ne_true
  | powerOnReset => exact hostMem_of_short_frame (execPowerOnReset_frame _ _ _ _ _ _ _ h)
  | chipBootGo => exact hostMem_of_frame (execChipBootGo_frame _ _ _ _ _ _ h)
  | trialConfirmTimeout => exact hostMem_of_short_frame (execTrialConfirmTimeout_frame _ _ h)
  | activateReset => exact hostMem_of_short_frame (execActivateReset_frame _ _ h)
  | chipRstCmdFullReset => exact hostMem_of_short_frame (execChipRstCmdFullReset_frame _ _ _ _ h)
  | pciePerst => exact hostMem_of_short_frame (execPciePerst_frame _ _ h)
  | pcieLinkReset => exact hostMem_of_short_frame (execPcieLinkReset_frame _ _ _ h)
  | badAccess => exact hostMem_of_frame (execBadAccess_frame _ _ _ _ _ _ _ h)
  | registerWrite => exact hostMem_of_short_frame (execRegisterWrite_frame _ _ _ _ _ _ h)
  | rcRegisterRead => exact hostMem_of_frame (execRcRegisterRead_frame _ _ _ _ _ h)
  | reg64LowRead => exact hostMem_of_frame (execReg64LowRead_frame _ _ _ _ h)
  | reg64HighWrite => exact hostMem_of_short_frame (execReg64HighWrite_frame _ _ _ _ _ h)
  | timTimeLowRead => exact hostMem_of_frame (execTimTimeLowRead_frame _ _ _ h)
  | paramApply => exact hostMem_of_frame (execParamApply_frame _ _ _ _ _ h)
  | rgnCmdReset => exact hostMem_of_short_frame (execRgnCmdReset_frame _ _ _ _ _ h)
  | sqTailWrite => exact hostMem_of_frame (execSqTailWrite_frame _ _ _ _ h)
  | cqHeadWrite => exact hostMem_of_frame (execCqHeadWrite_frame _ _ _ _ h)
  | ringRecovered => exact hostMem_of_frame (execRingRecovered_frame _ _ _ h)
  | irqHoldoffExpiry => exact hostMem_of_frame (execIrqHoldoffExpiry_frame _ _ _ h)
  | flowEntry => exact hostMem_of_short_frame (execFlowEntry_frame _ _ _ h)
  | stageDispatch => exact hostMem_of_frame (execStageDispatch_frame _ _ _ h)
  | completionRelease => exact hostMem_of_frame (execCompletionRelease_frame _ _ _ h)
  | dspObsSelWrite => exact hostMem_of_frame (execDspObsSelWrite_frame _ _ _ _ h)
  | dspLoadSelWrite => exact hostMem_of_frame (execDspLoadSelWrite_frame _ _ _ _ _ _ h)
  | handshakeRequest => exact hostMem_of_frame (execHandshakeRequest_frame _ _ _ _ _ _ _ h)
  | handshakeAckSeen => exact hostMem_of_frame (execHandshakeAckSeen_frame _ _ _ _ _ h)
  | handshakeTimeout => exact hostMem_of_short_frame (execHandshakeTimeout_frame _ _ _ _ _ _ h)
  | cellError => exact hostMem_of_short_frame (execCellError_frame _ _ _ _ _ _ _ _ _ _ h)
  | blockError => exact hostMem_of_short_frame (execBlockError_frame _ _ _ _ _ _ _ h)
  | blockRestartDone => exact hostMem_of_short_frame (execBlockRestartDone_frame _ _ _ _ h)
  | regionError => exact hostMem_of_short_frame (execRegionError_frame _ _ _ _ h)
  | regionReloaded => exact hostMem_of_short_frame (execRegionReloaded_frame _ _ _ _ h)
  | chipError => exact hostMem_of_short_frame (execChipError_frame _ _ _ _ h)
  | hifNop => exact hostMem_of_frame (execHifNop_frame _ _ _ h)
  | hifSuspend => exact hostMem_of_frame (execHifSuspend_frame _ _ _ h)
  | hifResume => exact hostMem_of_frame (execHifResume_frame _ _ _ h)
  | hifCancel => exact hostMem_of_frame (execHifCancel_frame _ _ _ h)
  | queryOp => exact hostMem_of_frame (execQueryOp_frame _ _ _ h)
  | hostWdogExpiry => exact hostMem_of_frame (execHostWdogExpiry_frame _ _ h)
  | superframeStart => exact hostMem_of_frame (execSuperframeStart_frame _ _ h)
  | sfCountStart => exact hostMem_of_frame (execSfCountStart_frame _ _ _ _ _ h)
  | superframeBuild => exact hostMem_of_frame (execSuperframeBuild_frame _ _ h)
  | frameMark => exact hostMem_of_frame (execFrameMark_frame _ _ h)
  | downlinkSpan => exact hostMem_of_frame (execDownlinkSpan_frame _ _ _ h)
  | headLinkState => exact hostMem_of_frame (execHeadLinkState_frame _ _ _ _ h)
  | rxFrame => exact hostMem_of_frame (execRxFrame_frame _ _ _ _ _ h)
  | txReport => exact hostMem_of_frame (execTxReport_frame _ _ _ _ h)
  | headStatus => exact hostMem_of_frame (execHeadStatus_frame _ _ _ _ h)
  | pong => exact hostMem_of_frame (execPong_frame _ _ _ _ h)
  | spanJudged => exact hostMem_of_frame (execSpanJudged_frame _ _ _ h)
  | callPeriodExpiry => exact hostMem_of_frame (execCallPeriodExpiry_frame _ _ _ h)
  | joinTimeoutExpiry => exact hostMem_of_frame (execJoinTimeoutExpiry_frame _ _ _ h)
  | schedLoad => exact hostMem_of_frame (execSchedLoad_frame _ _ _ _ h)
  | sessionAccept => exact hostMem_of_frame (execSessionAccept_frame _ _ _ _ h)
  | sessionRefuse => exact hostMem_of_frame (execSessionRefuse_frame _ _ _ h)
  | sessionLeave => exact hostMem_of_frame (execSessionLeave_frame _ _ _ h)
  | sessionSleep => exact hostMem_of_frame (execSessionSleep_frame _ _ _ h)
  | sessionWake => exact hostMem_of_frame (execSessionWake_frame _ _ _ h)
  | setRoute => exact hostMem_of_frame (execSetRoute_frame _ _ _ h)
  | setJoinKey => exact hostMem_of_frame (execSetJoinKey_frame _ _ _ h)
  | compatInject => exact hostMem_of_frame (execCompatInject_frame _ _ _ _ _ h)
  | setBeaconKey => exact hostMem_of_frame (execSetBeaconKey_frame _ _ _ h)
  | baseObsEpoch => exact hostMem_of_frame (execBaseObsEpoch_frame _ _ _ _ _ _ _ h)
  | baseEpochTimeout => exact hostMem_of_frame (execBaseEpochTimeout_frame _ _ _ h)
  | svSuspectClear => exact hostMem_of_frame (execSvSuspectClear_frame _ _ _ h)
  | interferenceChange => exact hostMem_of_frame (execInterferenceChange_frame _ _ h)
  | reinit => exact hostMem_of_frame (execReinit_frame _ _ _ _ h)
  | resetCtx => exact hostMem_of_frame (execResetCtx_frame _ _ _ h)
  | readCtx => exact hostMem_of_frame (execReadCtx_frame _ _ _ h)
  | gaitReplan => exact hostMem_of_frame (execGaitReplan_frame _ _ _ h)
  | sweepLocksHeld => exact hostMem_of_frame (execSweepLocksHeld_frame _ _ _ _ h)
  | knotPack => exact hostMem_of_frame (execKnotPack_frame _ _ _ h)
  | setTrack => exact hostMem_of_frame (execSetTrack_frame _ _ _ _ h)
  | setLimits => exact hostMem_of_frame (execSetLimits_frame _ _ _ h)
  | gaitRetarget => exact hostMem_of_frame (execGaitRetarget_frame _ _ _ h)
  | datumRun => exact hostMem_of_frame (execDatumRun_frame _ _ _ h)
  | limitTakeover => exact hostMem_of_frame (execLimitTakeover_frame _ _ _ h)
  | padCommit => exact hostMem_of_frame (execPadCommit_frame _ _ _ _ h)
  | padRelease => exact hostMem_of_frame (execPadRelease_frame _ _ _ _ h)
  | setShape => exact hostMem_of_frame (execSetShape_frame _ _ _ _ h)
  | mapImport => exact hostMem_of_frame (execMapImport_frame _ _ _ _ _ h)
  | mapExport => exact hostMem_of_frame (execMapExport_frame _ _ _ h)
  | setHold => exact hostMem_of_frame (execSetHold_frame _ _ _ _ h)
  | readCell => exact hostMem_of_frame (execReadCell_frame _ _ _ _ h)
  | padTick => exact hostMem_of_frame (execPadTick_frame _ _ h)
  | groomTile => exact hostMem_of_frame (execGroomTile_frame _ _ _ h)
  | parkRenewal => exact hostMem_of_frame (execParkRenewal_frame _ _ _ h)
  | discWrite => exact hostMem_of_frame (execDiscWrite_frame _ _ _ _ _ h)
  | discEnd => exact hostMem_of_frame (execDiscEnd_frame _ _ _ h)
  | mirrorPadReceived => exact hostMem_of_frame (execMirrorPadReceived_frame _ _ _ h)
  | setRef => exact hostMem_of_frame (execSetRef_frame _ _ _ h)
  | selfSurvey => exact hostMem_of_frame (execSelfSurvey_frame _ _ _ h)
  | surveyNetworkTimeout => exact hostMem_of_frame (execSurveyNetworkTimeout_frame _ _ h)
  | sampleCountCheck => exact hostMem_of_frame (execSampleCountCheck_frame _ _ _ h)
  | portSyncChange => exact hostMem_of_frame (execPortSyncChange_frame _ _ _ _ h)
  | agcUpdate => exact hostMem_of_frame (execAgcUpdate_frame _ _ _ h)
  | spectrumFft => exact hostMem_of_frame (execSpectrumFft_frame _ _ _ _ h)
  | antennaSample => exact hostMem_of_frame (execAntennaSample_frame _ _ _ h)
  | antennaBiasRetry => exact hostMem_of_frame (execAntennaBiasRetry_frame _ _ h)
  | antRearm => exact hostMem_of_frame (execAntRearm_frame _ _ _ _ h)
  | trkMaskPrnWrite => exact hostMem_of_frame (execTrkMaskPrnWrite_frame _ _ _ _ h)
  | stabledBurst => exact hostMem_of_frame (execStabledBurst_frame _ _ _ _ h)
  | secondBoundary => exact hostMem_of_frame (execSecondBoundary_frame _ _ h)
  | ppsPulse => exact hostMem_of_frame (execPpsPulse_frame _ _ _ h)
  | cueInstant => exact hostMem_of_frame (execCueInstant_frame _ _ _ h)
  | cueSet => exact hostMem_of_frame (execCueSet_frame _ _ _ _ h)
  | setTime => exact hostMem_of_frame (execSetTime_frame _ _ _ h)
  | ptpSample => exact hostMem_of_frame (execPtpSample_frame _ _ _ h)
  | timIncrWrite => exact hostMem_of_frame (execTimIncrWrite_frame _ _ _ _ h)
  | voteExclGnss => exact hostMem_of_frame (execVoteExclGnss_frame _ _ _ h)
  | voteExclA => exact hostMem_of_frame (execVoteExclA_frame _ _ _ h)
  | voteExclB => exact hostMem_of_frame (execVoteExclB_frame _ _ _ h)
  | voteInclGnss => exact hostMem_of_frame (execVoteInclGnss_frame _ _ _ h)
  | voteInclA => exact hostMem_of_frame (execVoteInclA_frame _ _ _ h)
  | voteInclB => exact hostMem_of_frame (execVoteInclB_frame _ _ _ h)
  | clearSuspect => exact hostMem_of_frame (execClearSuspect_frame _ _ _ h)
  | ppsForceStart => exact hostMem_of_frame (execPpsForceStart_frame _ _ _ _ h)
  | spoofClear => exact hostMem_of_frame (execSpoofClear_frame _ _ _ h)
  | svClearAll => exact hostMem_of_frame (execSvClearAll_frame _ _ _ h)
  | stopChannelOpen => exact hostMem_of_frame (execStopChannelOpen_frame _ _ _ _ h)
  | stopChannelClosed => exact hostMem_of_frame (execStopChannelClosed_frame _ _ _ _ h)
  | testPulse => exact hostMem_of_frame (execTestPulse_frame _ _ _ _ _ _ h)
  | disagreeFault => exact hostMem_of_frame (execDisagreeFault_frame _ _ _ h)
  | keyPosition => exact hostMem_of_frame (execKeyPosition_frame _ _ _ _ h)
  | touchMeasure => exact hostMem_of_frame (execTouchMeasure_frame _ _ _ h)
  | resumeHoldComplete => exact hostMem_of_frame (execResumeHoldComplete_frame _ _ h)
  | outputReadbackFault => exact hostMem_of_frame (execOutputReadbackFault_frame _ _ _ _ h)
  | oscMonitor => exact hostMem_of_frame (execOscMonitor_frame _ _ _ _ h)
  | plugDetect => exact hostMem_of_frame (execPlugDetect_frame _ _ _ _ _ _ h)
  | whoaStatusEvent => exact hostMem_of_frame (execWhoaStatusEvent_frame _ _ h)
  | fleetStop => exact hostMem_of_frame (execFleetStop_frame _ _ _ h)
  | fleetResume => exact hostMem_of_frame (execFleetResume_frame _ _ _ h)
  | stopFrameRepeat => exact hostMem_of_frame (execStopFrameRepeat_frame _ _ h)
  | netTxStart => exact hostMem_of_frame (execNetTxStart_frame _ _ _ _ _ h)
  | netTxTimeout => exact hostMem_of_frame (execNetTxTimeout_frame _ _ _ _ h)
  | pauseRx => exact hostMem_of_frame (execPauseRx_frame _ _ _ h)
  | pauseExpiry => exact hostMem_of_frame (execPauseExpiry_frame _ _ h)
  | pauseTx => exact hostMem_of_frame (execPauseTx_frame _ _ _ h)
  | portBCollision => exact hostMem_of_frame (execPortBCollision_frame _ _ _ h)
  | plcaBeaconTimeout => exact hostMem_of_frame (execPlcaBeaconTimeout_frame _ _ h)
  | portLinkChange => exact hostMem_of_frame (execPortLinkChange_frame _ _ _ _ _ _ h)
  | netTx => exact hostMem_of_frame (execNetTx_frame _ _ _ _ h)
  | netRx => exact hostMem_of_frame (execNetRx_frame _ _ _ h)
  | mdio => exact hostMem_of_frame (execMdio_frame _ _ _ _ h)
  | rtcmInputGap => exact hostMem_of_frame (execRtcmInputGap_frame _ _ _ h)
  | refMonitor => exact hostMem_of_frame (execRefMonitor_frame _ _ _ h)
  | tackLoad => exact hostMem_of_frame (execTackLoad_frame _ _ _ _ _ h)
  | tackDerive => exact hostMem_of_frame (execTackDerive_frame _ _ _ _ h)
  | tackUnload => exact hostMem_of_frame (execTackUnload_frame _ _ _ h)
  | tackRevoke => exact hostMem_of_frame (execTackRevoke_frame _ _ _ h)
  | tackImport => exact hostMem_of_frame (execTackImport_frame _ _ _ _ h)
  | tackMac => exact hostMem_of_frame (execTackMac_frame _ _ _ _ h)
  | epochAdvance => exact hostMem_of_frame (execEpochAdvance_frame _ _ _ h)
  | tackRewrap => exact hostMem_of_frame (execTackRewrap_frame _ _ _ _ _ h)
  | tamperClear => exact hostMem_of_frame (execTamperClear_frame _ _ _ h)
  | recArm => exact hostMem_of_frame (execRecArm_frame _ _ _ h)
  | recFire => exact hostMem_of_frame (execRecFire_frame _ _ _ h)
  | recDisarm => exact hostMem_of_frame (execRecDisarm_frame _ _ _ h)
  | recDiscard => exact hostMem_of_frame (execRecDiscard_frame _ _ _ h)
  | recTrigger => exact hostMem_of_frame (execRecTrigger_frame _ _ h)
  | captureFilled => exact hostMem_of_frame (execCaptureFilled_frame _ _ h)
  | trigSyncPulse => exact hostMem_of_frame (execTrigSyncPulse_frame _ _ _ _ h)
  | queuePush => exact hostMem_of_short_frame (execQueuePush_frame _ _ _ _ _ h)
  | queuePop => exact hostMem_of_short_frame (execQueuePop_frame _ _ _ _ _ _ h)
  | queueReadTimeout => exact hostMem_of_frame (execQueueReadTimeout_frame _ _ _ h)
  | mergePortTake => exact hostMem_of_short_frame (execMergePortTake_frame _ _ _ h)
  | queueEnableWrite => exact hostMem_of_frame (execQueueEnableWrite_frame _ _ _ _ _ h)
  | scrubWord => exact hostMem_of_frame (execScrubWord_frame _ _ _ h)
  | thermalSample => exact hostMem_of_short_frame (execThermalSample_frame _ _ _ h)
  | refClockCheck => exact hostMem_of_short_frame (execRefClockCheck_frame _ _ _ _ h)
  | pwrGoodTimeout => exact hostMem_of_frame (execPwrGoodTimeout_frame _ _ _ h)
  | wakeSource => exact hostMem_of_frame (execWakeSource_frame _ _ _ h)
  | imgWrite => exact hostMem_of_frame (execImgWrite_frame _ _ _ _ h)
  | imgActivate => exact hostMem_of_frame (execImgActivate_frame _ _ _ h)
  | imgConfirm => exact hostMem_of_frame (execImgConfirm_frame _ _ _ h)
  | otpProgram => exact hostMem_of_frame (execOtpProgram_frame _ _ _ _ h)
  | debugUnlock => exact hostMem_of_frame (execDebugUnlock_frame _ _ _ _ h)
  | hitchInChange => exact hostMem_of_frame (execHitchInChange_frame _ _ _ h)
  | tokenClaimCheck => exact hostMem_of_frame (execTokenClaimCheck_frame _ _ h)
  | claimWaitExpiry => exact hostMem_of_frame (execClaimWaitExpiry_frame _ _ h)
  | tokenRelease => exact hostMem_of_frame (execTokenRelease_frame _ _ _ h)
  | bylLinkTrained => exact hostMem_of_frame (execBylLinkTrained_frame _ _ _ _ _ h)
  | bylHello => exact hostMem_of_frame (execBylHello_frame _ _ _ h)
  | bylConfirm => exact hostMem_of_frame (execBylConfirm_frame _ _ _ h)
  | bylResendTimeout => exact hostMem_of_frame (execBylResendTimeout_frame _ _ _ _ h)
  | heartbeatSend => exact hostMem_of_frame (execHeartbeatSend_frame _ _ h)
  | heartbeatReceived => exact hostMem_of_frame (execHeartbeatReceived_frame _ _ _ h)
  | heartbeatMiss => exact hostMem_of_frame (execHeartbeatMiss_frame _ _ h)
  | takeover => exact hostMem_of_frame (execTakeover_frame _ _ h)
  | coldTakeover => exact hostMem_of_frame (execColdTakeover_frame _ _ h)
  | mirrorGait => exact hostMem_of_frame (execMirrorGait_frame _ _ _ _ _ h)
  | mirrorSession => exact hostMem_of_frame (execMirrorSession_frame _ _ _ _ _ h)
  | mirrorConfig => exact hostMem_of_frame (execMirrorConfig_frame _ _ _ _ h)
  | mirrorAck => exact hostMem_of_frame (execMirrorAck_frame _ _ _ h)
  | tileReq => exact hostMem_of_frame (execTileReq_frame _ _ _ h)
  | tileData => exact hostMem_of_frame (execTileData_frame _ _ _ _ h)
  | recArmMessage => exact hostMem_of_frame (execRecArmMessage_frame _ _ _ h)
  | recFireMessage => exact hostMem_of_frame (execRecFireMessage_frame _ _ _ h)
  | svcMsg => exact hostMem_of_frame (execSvcMsg_frame _ _ _ _ h)
  | pairHandover => exact hostMem_of_frame (execPairHandover_frame _ _ _ h)
  | handoverTimeout => exact hostMem_of_frame (execHandoverTimeout_frame _ _ h)
  | powerOff => exact hostMem_of_short_frame (execPowerOff_frame _ _ h)
  | pllLockLoss => exact hostMem_of_short_frame (execPllLockLoss_frame _ _ _ h)
  | bylLinkLoss => exact hostMem_of_frame (execBylLinkLoss_frame _ _ _ _ h)
  | helloRetry => exact hostMem_of_frame (execHelloRetry_frame _ _ h)
  | plcaBeaconReceived => exact hostMem_of_frame (execPlcaBeaconReceived_frame _ _ h)
  | preemptionVerify => exact hostMem_of_frame (execPreemptionVerify_frame _ _ _ h)
  | acquisitionHandoff => exact hostMem_of_frame (execAcquisitionHandoff_frame _ _ _ _ _ _ h)
  | signalLockLoss => exact hostMem_of_frame (execSignalLockLoss_frame _ _ _ _ h)
  | downlinkBulkSpan => exact hostMem_of_frame (execDownlinkBulkSpan_frame _ _ _ h)
  | pulseWidthEnd => exact hostMem_of_frame (execPulseWidthEnd_frame _ _ _ h)
  | handoverYield => exact hostMem_of_frame (execHandoverYield_frame _ _ h)
  | interconnectCorrectedError => exact hostMem_of_frame (execInterconnectCorrectedError_frame _ _ h)

/-! ### Commands that write it -/

theorem State.to_memory {s : State} (t : Nat) (m : Sp.wf s.hostMem = true) : Sp.wf (s.to t).hostMem = true := by
  rw [State.to_hostMem]; exact m

theorem execWhenReached_memory (t id : Nat) (s : State) {s' : State} (m : Sp.wf s.hostMem = true)
    (h : execWhenReached t id s = .next s') : Sp.wf s'.hostMem = true := by
  simp only [execWhenReached] at h
  repeat' split at h
  all_goals (obtain rfl := Host.Outcome.next.inj h)
  · exact State.to_memory t m
  · exact State.to_memory t m
  · exact State.wakeItem_memory _ _ _ (State.to_memory t m)
  · exact State.to_memory t m

/-- A step of the counter writes host memory only through the operations whose WHEN it passes. -/
theorem execTimeStep_memory (t : Nat) (s : State) {s' : State} (m : Sp.wf s.hostMem = true)
    (h : execTimeStep t s = .next s') : Sp.wf s'.hostMem = true := by
  simp only [execTimeStep] at h
  split at h
  · obtain rfl := Host.Outcome.next.inj h
    exact State.to_memory t m
  · have hdue : Sp.wf (s.to t).dueStep.1.hostMem = true := by simpa using m
    split at h <;> (rename_i e; rw [e] at hdue; obtain rfl := Host.Outcome.next.inj h)
    · exact hdue
    · refine foldl_wf _ _ _ ?_ (fun s slot m => by simpa using m)
      split
      · simpa using State.stepWaiting_memory _ _ (by simpa using hdue)
      · simpa using hdue

/-- A command that is listed as writing host memory keeps its canonical form. -/
theorem exec_writer_memory (c : Instr) (s : State) {s' : State} (hc : c.writesHost = true)
    (m : Sp.wf s.hostMem = true) (h : exec c s = .next s') : Sp.wf s'.hostMem = true := by
  cases c with
  | whatIf | tackGenerate | tackExport | tackSign | tackRandom | tackPubkey | tackAttest | tackZeroise | recReadout
  | stableEnter =>
    exact runItem_memory _ s m ((exec_item _ s rfl).symm.trans h)
  | ringEnable => exact execRingEnable_memory _ _ _ _ _ s m h
  | staleCompletionWrite => exact execStaleCompletionWrite_memory _ _ s m h
  | descriptorFetch => exact execDescriptorFetch_memory _ _ _ s m h
  | completionWrite => exact execCompletionWrite_memory _ _ s m h
  | whenReached => exact execWhenReached_memory _ _ s m h
  | longOpSafePoint => exact execLongOpSafePoint_memory _ _ _ _ s m h
  | fixSolve => exact execFixSolve_memory _ _ _ s m h
  | ambiguitySearch => exact execAmbiguitySearch_memory _ _ _ s m h
  | searchWaitExpiry => exact execSearchWaitExpiry_memory _ _ s m h
  | timeStep => exact execTimeStep_memory _ s m h
  | netFrameRx => exact execNetFrameRx_memory _ _ _ _ _ _ _ s m h
  | tamperDetect => exact execTamperDetect_memory _ _ s m h
  | wakeDone => exact execWakeDone_memory _ s m h
  | _ => exact absurd hc Bool.false_ne_true

/-- Whatever a command does, host memory stays in canonical form. -/
theorem exec_memory (c : Instr) (s : State) {s' : State} (m : Sp.wf s.hostMem = true) (h : exec c s = .next s') :
    Sp.wf s'.hostMem = true := by
  cases hc : c.writesHost with
  | false => rw [exec_hostMem c s hc h]; exact m
  | true => exact exec_writer_memory c s hc m h

end Sys2Proof.Machine

namespace Sys2Proof
open Sys2Proof.Machine

/-- Settles O51: an idle cycle writes nothing, and a command keeps the canonical form, whether it writes or not. -/
theorem stepKeepsHostMemoryCanonical : Obligations.StepKeepsHostMemoryCanonical := by
  intro s s' m h
  unfold step at h
  split at h
  · obtain rfl := Host.Outcome.next.inj h
    rw [State.advance_hostMem]; exact m
  · rename_i c rest _
    exact exec_memory c { s with pending := rest } m h

/-- Settles O53: a command that is not listed leaves host memory, so every byte of it. -/
theorem onlyListedCommandsWriteHostMemory : Obligations.OnlyListedCommandsWriteHostMemory :=
  fun c s _ hc h a => State.hostByte_keep (exec_hostMem c s hc h) a

end Sys2Proof

/-!
Every command answers (O56): a next state, or a fault where it names an address in no BAR.
-/

namespace Sys2Proof.Machine

/-! ### The commands that name an address (R57, R58) -/

/-- The address a command names that may lie in no BAR. -/
def address? : Instr → Option Nat
  | .badAccess _ _ _ a _ _ => some a
  | .registerWrite _ _ a _ _ => some a
  | .rcRegisterRead _ _ a _ => some a
  | _ => none

/-- An address beyond BAR0 in a BAR has a BAR and an offset in it. -/
theorem barOf_of_inBars {a : Nat} (h : inBars a = true) (h0 : ¬a < 0x1000000) : ∃ b o, barOf a = some (b, o) := by
  simp only [inBars, Bool.or_eq_true, decide_eq_true_eq, h0, false_or, Option.isSome_iff_exists, Prod.exists] at h
  exact h

/-- An address in no BAR lies beyond BAR0, and has no BAR. -/
theorem barOf_of_not_inBars {a : Nat} (h : inBars a = false) : ¬a < 0x1000000 ∧ barOf a = none := by
  simpa only [inBars, Bool.or_eq_false_iff, decide_eq_false_iff_not, Option.isSome_eq_false_iff,
    Option.isNone_iff_eq_none] using h

theorem execBadAccess_next {t : Nat} {rq : Requester} {write : Bool} {a bytes : Nat} {enables : BitVec 4} {s : State}
    (h : inBars a = true) : ∃ s', execBadAccess t rq write a bytes enables s = .next s' := by
  simp only [execBadAccess, h]
  split
  · contradiction
  · split <;> exact ⟨_, rfl⟩

theorem execRegisterWrite_next {t : Nat} {rq : Requester} {a : Nat} {v same : Word} {s : State}
    (h : inBars a = true) : ∃ s', execRegisterWrite t rq a v same s = .next s' := by
  by_cases h0 : a < 0x1000000
  · simp only [execRegisterWrite, if_pos h0]
    (repeat' split) <;> exact ⟨_, rfl⟩
  · obtain ⟨b, o, hbar⟩ := barOf_of_inBars h h0
    simp only [execRegisterWrite, if_neg h0, hbar]
    split <;> exact ⟨_, rfl⟩

theorem execRcRegisterRead_next {t : Nat} {rq : Requester} {a : Nat} {same : Word} {s : State}
    (h : inBars a = true) : ∃ s', execRcRegisterRead t rq a same s = .next s' := by
  by_cases h0 : a < 0x1000000
  · simp only [execRcRegisterRead, if_pos h0]
    split <;> exact ⟨_, rfl⟩
  · obtain ⟨b, o, hbar⟩ := barOf_of_inBars h h0
    simp only [execRcRegisterRead, if_neg h0, hbar]
    split <;> exact ⟨_, rfl⟩

/-- A command that names an address in no BAR faults at it. -/
theorem exec_outsideBar (c : Instr) (s : State) {a : Nat} (ha : address? c = some a) (h : inBars a = false) :
    exec c s = .fault (.outsideBar a) := by
  obtain ⟨h0, hbar⟩ := barOf_of_not_inBars h
  cases c with
  | badAccess =>
    obtain rfl := Option.some.inj ha
    simp only [exec, execBadAccess, h]
    rfl
  | registerWrite =>
    obtain rfl := Option.some.inj ha
    simp only [exec, execRegisterWrite, if_neg h0, hbar]
  | rcRegisterRead =>
    obtain rfl := Option.some.inj ha
    simp only [exec, execRcRegisterRead, if_neg h0, hbar]
  | _ => exact absurd ha.symm (Option.some_ne_none a)

/-! ### Every other command -/

/-- A command that names no address outside the BARs answers a next state: outright, or on every branch of its
meaning. -/
theorem exec_next (c : Instr) (s : State) (h : ∀ a, address? c = some a → inBars a = true) :
    ∃ s', exec c s = .next s' := by
  cases c with
  | chipBootGo | chipRstCmdFullReset | timTimeLowRead | sqTailWrite | cqHeadWrite | ringEnable | dspObsSelWrite
  | dspLoadSelWrite | handshakeAckSeen | cellError | regionError | hifNop | hifSuspend | hifResume | hifCancel
  | queryOp | sfCountStart | schedLoad | sessionAccept | sessionRefuse | sessionLeave | sessionSleep | sessionWake
  | setRoute | setJoinKey | compatInject | setBeaconKey | reinit | resetCtx | readCtx | setTrack | setLimits
  | gaitRetarget | datumRun | whatIf | padRelease | setShape | mapImport | mapExport | setHold | readCell
  | mirrorPadReceived | setRef | selfSurvey | antRearm | trkMaskPrnWrite | ppsPulse | setTime | ptpSample
  | timIncrWrite | voteExclGnss | voteExclA | voteExclB | voteInclGnss | voteInclA | voteInclB | clearSuspect
  | ppsForceStart | spoofClear | svClearAll | fleetStop | fleetResume | mdio | tackLoad | tackGenerate | tackDerive
  | tackExport | tackUnload | tackRevoke | tackImport | tackSign | tackMac | tackRandom | tackPubkey | tackAttest
  | epochAdvance | tackRewrap | tackZeroise | tamperClear | recArm | recFire | recDisarm | recReadout | recDiscard
  | queueEnableWrite | stableEnter | imgWrite | imgActivate | imgConfirm | otpProgram | debugUnlock
  | heartbeatReceived | mirrorGait | mirrorSession | mirrorConfig | mirrorAck | tileReq | tileData | recArmMessage
  | recFireMessage | svcMsg | pairHandover | powerOff =>
    exact ⟨_, rfl⟩
  | powerOnReset | trialConfirmTimeout | activateReset | pciePerst | pcieLinkReset | reg64LowRead | reg64HighWrite
  | paramApply | rgnCmdReset | ringRecovered | staleCompletionWrite | descriptorFetch | completionWrite
  | irqHoldoffExpiry | whenReached | stageDispatch | completionRelease | handshakeRequest | handshakeTimeout
  | blockError | blockRestartDone | regionReloaded | chipError | longOpSafePoint | hostWdogExpiry | superframeStart
  | superframeBuild | frameMark | headLinkState | headStatus | spanJudged | callPeriodExpiry | joinTimeoutExpiry
  | baseObsEpoch | baseEpochTimeout | svSuspectClear | interferenceChange | ambiguitySearch | searchWaitExpiry
  | sweepLocksHeld | knotPack | limitTakeover | padCommit | padTick | groomTile | parkRenewal | discEnd
  | surveyNetworkTimeout | sampleCountCheck | portSyncChange | agcUpdate | spectrumFft | antennaSample
  | antennaBiasRetry | stabledBurst | secondBoundary | timeStep | cueInstant | cueSet | stopChannelOpen
  | stopChannelClosed | testPulse | disagreeFault | keyPosition | touchMeasure | resumeHoldComplete
  | outputReadbackFault | oscMonitor | plugDetect | whoaStatusEvent | stopFrameRepeat | netFrameRx | netTxStart
  | netTxTimeout | pauseRx | pauseExpiry | pauseTx | portBCollision | plcaBeaconTimeout | portLinkChange | netTx
  | netRx | rtcmInputGap | refMonitor | tamperDetect | recTrigger | captureFilled | trigSyncPulse | queuePush
  | queuePop | queueReadTimeout | mergePortTake | scrubWord | thermalSample | refClockCheck | pwrGoodTimeout
  | wakeSource | wakeDone | hitchInChange | tokenClaimCheck | claimWaitExpiry | tokenRelease | bylLinkTrained
  | bylHello | bylConfirm | bylResendTimeout | heartbeatSend | heartbeatMiss | takeover | coldTakeover
  | handoverTimeout | pllLockLoss | bylLinkLoss | helloRetry | plcaBeaconReceived | preemptionVerify
  | acquisitionHandoff | pulseWidthEnd | handoverYield | interconnectCorrectedError =>
    dsimp -zeta only [exec, execPowerOnReset, execTrialConfirmTimeout, execActivateReset, execPciePerst,
      execPcieLinkReset, execReg64LowRead, execReg64HighWrite, execParamApply, execRgnCmdReset, execRingRecovered,
      execStaleCompletionWrite, execDescriptorFetch, execCompletionWrite, execIrqHoldoffExpiry, execWhenReached,
      execStageDispatch, execCompletionRelease, execHandshakeRequest, execHandshakeTimeout, execBlockError,
      execBlockRestartDone, execRegionReloaded, execChipError, execLongOpSafePoint, execHostWdogExpiry,
      execSuperframeStart, execSuperframeBuild, execFrameMark, execHeadLinkState, execHeadStatus, execSpanJudged,
      execCallPeriodExpiry, execJoinTimeoutExpiry, execBaseObsEpoch, execBaseEpochTimeout, execSvSuspectClear,
      execInterferenceChange, execAmbiguitySearch, execSearchWaitExpiry, execSweepLocksHeld, execKnotPack,
      execLimitTakeover, execPadCommit, execPadTick, execGroomTile, execParkRenewal, execDiscEnd,
      execSurveyNetworkTimeout, execSampleCountCheck, execPortSyncChange, execAgcUpdate, execSpectrumFft,
      execAntennaSample, execAntennaBiasRetry, execStabledBurst, execSecondBoundary, execTimeStep, execCueInstant,
      execCueSet, execStopChannelOpen, execStopChannelClosed, execTestPulse, execDisagreeFault, execKeyPosition,
      execTouchMeasure, execResumeHoldComplete, execOutputReadbackFault, execOscMonitor, execPlugDetect,
      execWhoaStatusEvent, execStopFrameRepeat, execNetFrameRx, execNetTxStart, execNetTxTimeout, execPauseRx,
      execPauseExpiry, execPauseTx, execPortBCollision, execPlcaBeaconTimeout, execPortLinkChange, execNetTx,
      execNetRx, execRtcmInputGap, execRefMonitor, execTamperDetect, execRecTrigger, execCaptureFilled,
      execTrigSyncPulse, execQueuePush, execQueuePop, execQueueReadTimeout, execMergePortTake, execScrubWord,
      execThermalSample, execRefClockCheck, execPwrGoodTimeout, execWakeSource, execWakeDone, execHitchInChange,
      execTokenClaimCheck, execClaimWaitExpiry, execTokenRelease, execBylLinkTrained, execBylHello, execBylConfirm,
      execBylResendTimeout, execHeartbeatSend, execHeartbeatMiss, execTakeover, execColdTakeover,
      execHandoverTimeout, execPllLockLoss, execBylLinkLoss, execHelloRetry, execPlcaBeaconReceived,
      execPreemptionVerify, execAcquisitionHandoff, execPulseWidthEnd, execHandoverYield,
      execInterconnectCorrectedError]
    extract_lets
    (repeat' split) <;> exact ⟨_, rfl⟩
  -- Here the values a branch is chosen by are bound under the match of another.
  | flowEntry | downlinkSpan | rxFrame | txReport | pong | fixSolve | gaitReplan | discWrite | signalLockLoss
  | downlinkBulkSpan =>
    dsimp only [exec, execFlowEntry, execDownlinkSpan, execRxFrame, execTxReport, execPong, execFixSolve,
      execGaitReplan, execDiscWrite, execSignalLockLoss, execDownlinkBulkSpan]
    (repeat' split) <;> exact ⟨_, rfl⟩
  | badAccess => exact execBadAccess_next (h _ rfl)
  | registerWrite => exact execRegisterWrite_next (h _ rfl)
  | rcRegisterRead => exact execRcRegisterRead_next (h _ rfl)

/-- A command answers a next state, or faults at an address in no BAR. -/
theorem exec_next_or_outsideBar (c : Instr) (s : State) :
    (∃ s', exec c s = .next s') ∨ ∃ a, inBars a = false ∧ exec c s = .fault (.outsideBar a) := by
  by_cases h : ∀ a, address? c = some a → inBars a = true
  · exact .inl (exec_next c s h)
  · obtain ⟨a, h⟩ := Classical.not_forall.mp h
    obtain ⟨ha, hbar⟩ := Classical.not_imp.mp h
    have hbar : inBars a = false := Bool.eq_false_iff.mpr hbar
    exact .inr ⟨a, hbar, exec_outsideBar c s ha hbar⟩

/-- The address of a well-formed command lies in a BAR. -/
theorem inBars_of_wf {c : Instr} (hc : c.wf = true) (a : Nat) (ha : address? c = some a) : inBars a = true := by
  cases c with
  | badAccess | registerWrite | rcRegisterRead =>
    obtain rfl := Option.some.inj ha
    exact hc
  | _ => exact absurd ha.symm (Option.some_ne_none a)

end Sys2Proof.Machine

namespace Sys2Proof
open Sys2Proof.Machine

/-- Settles O56: only a command that names an address in no BAR does not answer a next state, and it faults there. -/
theorem wellFormedCommandsAnswerNext : Obligations.WellFormedCommandsAnswerNext := by
  refine ⟨fun c s hc => exec_next c s (inBars_of_wf hc), fun c s r hr => ?_, fun c s f hf => ?_⟩
  · obtain ⟨s', h⟩ | ⟨a, _, h⟩ := exec_next_or_outsideBar c s <;> rw [h] at hr <;> contradiction
  · obtain ⟨s', h⟩ | ⟨a, hbar, h⟩ := exec_next_or_outsideBar c s <;> rw [h] at hf
    · contradiction
    · exact ⟨a, hbar, (Host.Outcome.fault.inj hf).symm⟩

end Sys2Proof

/-!
Doorbells and the starts of a ring (O6, O59): what a doorbell, a rising ENABLE and a recovered ring do, and that a
doorbell stays with its ring.
-/

namespace Sys2Proof.Machine

/-! ### What stays with one ring -/

/-- From `s` to `s'` only the clock, the status word and the runtime of ring `n`, and what HIF holds beside its rings,
may have changed. -/
structure OnlyRing (n : Nat) (s s' : State) : Prop where
  words : ∀ a, a ≠ Reg.HIF_RING_STS n → s'.word a = s.word a
  rings : ∀ m, m ≠ n → s'.ringOf m = s.ringOf m
  rest : s' = { s with cyc := s'.cyc, ctr := s'.ctr, regs := s'.regs, hif := s'.hif }

theorem OnlyRing.refl (n : Nat) (s : State) : OnlyRing n s s := ⟨fun _ _ => rfl, fun _ _ => rfl, rfl⟩

theorem OnlyRing.trans {n : Nat} {s r t : State} (h : OnlyRing n s r) (k : OnlyRing n r t) : OnlyRing n s t where
  words a ha := (k.words a ha).trans (h.words a ha)
  rings m hm := (k.rings m hm).trans (h.rings m hm)
  rest := by rw [k.rest, h.rest]

theorem OnlyRing.to (n : Nat) (s : State) (t : Nat) : OnlyRing n s (s.to t) := ⟨fun _ _ => rfl, fun _ _ => rfl, rfl⟩

theorem OnlyRing.set {n : Nat} (s : State) {b : Bits} (v : Nat) (hb : b.addr = Reg.HIF_RING_STS n) :
    OnlyRing n s (s.set b v) where
  words a ha := State.word_setWord_other s b.addr a _ (hb ▸ ha)
  rings _ _ := rfl
  rest := rfl

theorem OnlyRing.setFlag {n : Nat} (s : State) {b : Bits} (v : Bool) (hb : b.addr = Reg.HIF_RING_STS n) :
    OnlyRing n s (s.setFlag b v) := .set s _ hb

theorem OnlyRing.setRing (n : Nat) (s : State) (r : RingRt) : OnlyRing n s (s.setRing n r) where
  words _ _ := rfl
  rings m hm := State.ringOf_setRing_other s n m r hm
  rest := rfl

theorem OnlyRing.fire (n : Nat) (s : State) (v : Nat) : OnlyRing n s (s.fire v) :=
  ⟨fun _ _ => rfl, fun _ _ => rfl, rfl⟩

theorem OnlyRing.ringEvent {n : Nat} (s : State) {b : Bits} (hb : b.addr = Reg.HIF_RING_STS n) :
    OnlyRing n s (s.ringEvent n b) := (OnlyRing.setFlag s true hb).trans (.fire n _ n)

theorem OnlyRing.reportRing (n : Nat) (s : State) : OnlyRing n s (s.reportRing n) :=
  ((OnlyRing.set s _ rfl).trans (.setFlag _ _ rfl)).trans (.setFlag _ _ rfl)

theorem OnlyRing.feedWatchdog (n : Nat) (s : State) (m : Nat) : OnlyRing n s (s.feedWatchdog m) := by
  unfold State.feedWatchdog
  split
  · exact ⟨fun _ _ => rfl, fun _ _ => rfl, rfl⟩
  · exact .refl n s

theorem OnlyRing.applyTail (n : Nat) (s : State) (v : Nat) : OnlyRing n s (s.applyTail n v) := by
  unfold State.applyTail
  extract_lets
  split
  · exact .ringEvent s rfl
  · exact .setRing n s _

theorem OnlyRing.applyHead (n : Nat) (s : State) (v : Nat) : OnlyRing n s (s.applyHead n v) := by
  unfold State.applyHead
  extract_lets
  split
  · exact .ringEvent s rfl
  · exact (OnlyRing.setRing n s _).trans (.reportRing n _)

/-- A doorbell stays with its ring, whether it is live, tail or head, or kept. -/
theorem OnlyRing.ringDoorbell (n : Nat) (s : State) (tail : Bool) (v : Word) :
    OnlyRing n s (s.ringDoorbell n tail v) := by
  refine (OnlyRing.feedWatchdog n s n).trans ?_
  unfold State.ringDoorbell
  extract_lets
  split
  · split
    · exact .applyTail n _ _
    · exact .applyHead n _ _
  · exact .setRing n _ _

/-! ### Doorbells (R60) -/

theorem State.ringDoorbell_tail {s : State} {n : Nat} {v : Word} (h : (s.feedWatchdog n).doorbellLive n = true) :
    s.ringDoorbell n true v = (s.feedWatchdog n).applyTail n v.toNat := by
  simp only [State.ringDoorbell, h, if_true]

theorem State.ringDoorbell_head {s : State} {n : Nat} {v : Word} (h : (s.feedWatchdog n).doorbellLive n = true) :
    s.ringDoorbell n false v = (s.feedWatchdog n).applyHead n v.toNat := by
  simp only [State.ringDoorbell, h, if_true, Bool.false_eq_true, if_false]

theorem State.ringDoorbell_kept {s : State} {n : Nat} {v : Word} (h : (s.feedWatchdog n).doorbellLive n = false) :
    s.ringDoorbell n true v = (s.feedWatchdog n).setRing n { (s.feedWatchdog n).ringOf n with
      keptTail := some v.toNat } := by
  simp only [State.ringDoorbell, h, Bool.false_eq_true, if_false, if_true]

/-- A tail index within 2^S of SQ_HEAD that does not move backwards is taken. -/
theorem State.applyTail_legal {s : State} {n v : Nat}
    (hfar : idxDiff v (s.rd (Reg.HIF_RING_SQ_HEAD n)) ≤ 2 ^ s.sqLog n)
    (hback : idxDiff (s.ringOf n).tail (s.rd (Reg.HIF_RING_SQ_HEAD n)) ≤ idxDiff v (s.rd (Reg.HIF_RING_SQ_HEAD n))) :
    s.applyTail n v = s.setRing n { s.ringOf n with tail := v } :=
  if_neg (not_or.mpr ⟨Nat.not_lt.mpr hfar, Nat.not_lt.mpr hback⟩)

/-- A head index within 2^C of CQ_PI that does not move backwards is taken. -/
theorem State.applyHead_legal {s : State} {n v : Nat}
    (hfar : idxDiff (s.rd (Reg.HIF_RING_CQ_PI n)) v ≤ 2 ^ s.cqLog n)
    (hback : idxDiff (s.rd (Reg.HIF_RING_CQ_PI n)) v ≤ idxDiff (s.rd (Reg.HIF_RING_CQ_PI n)) (s.ringOf n).cqHead) :
    s.applyHead n v = (s.setRing n { s.ringOf n with cqHead := v }).reportRing n :=
  if_neg (not_or.mpr ⟨Nat.not_lt.mpr hfar, Nat.not_lt.mpr hback⟩)

/-! ### Enabling and recovery (R59, R78, R79) -/

/-- A rising ENABLE with a legal configuration starts the ring with the recovery scan or afresh. -/
theorem State.writeRingCtl_starts {s : State} {n : Nat} {v : Word} {log : List LogRec} (hon : v.getLsbD 0 = true)
    (hwas : s.ringOn n = false)
    (hcfg : (s.setFlag (B.HIF_RING_CTL_RECOVER n) (v.getLsbD 1)).ringCfgOk n = true) :
    s.writeRingCtl n v log =
      let x := ((s.setFlag (B.HIF_RING_CTL_RECOVER n) (v.getLsbD 1)).setFlag (B.HIF_RING_CTL_ENABLE n) true).setFlag
        (B.HIF_RING_STS_RECOVERING n) true
      (if v.getLsbD 1 then x.recoverRing n log else x.freshRing n).reportRing n := by
  have hrises : v.getLsbD 0 = true ∧ (!s.ringOn n) = true := ⟨hon, by rw [hwas]; rfl⟩
  rw [State.writeRingCtl, if_pos hrises, if_pos hcfg]

/-- A rising ENABLE with an illegal configuration sets CFG_ERR and enables nothing. -/
theorem State.writeRingCtl_refuses {s : State} {n : Nat} {v : Word} {log : List LogRec} (hon : v.getLsbD 0 = true)
    (hwas : s.ringOn n = false)
    (hcfg : (s.setFlag (B.HIF_RING_CTL_RECOVER n) (v.getLsbD 1)).ringCfgOk n = false) :
    s.writeRingCtl n v log =
      (s.setFlag (B.HIF_RING_CTL_RECOVER n) (v.getLsbD 1)).ringEvent n (B.HIF_RING_STS_CFG_ERR n) := by
  have hrises : v.getLsbD 0 = true ∧ (!s.ringOn n) = true := ⟨hon, by rw [hwas]; rfl⟩
  rw [State.writeRingCtl, if_pos hrises, if_neg (Bool.eq_false_iff.mp hcfg)]

end Sys2Proof.Machine

namespace Sys2Proof
open Sys2Proof.Machine

/-- Settles O59: both doorbells stay with their ring. -/
theorem doorbellsTouchOnlyTheirRing : Obligations.DoorbellsTouchOnlyTheirRing := by
  intro s s' t ring val h
  have honly : OnlyRing ring.val s s' := by
    obtain h | h := h <;> obtain rfl := Host.Outcome.next.inj h <;>
      exact (OnlyRing.to _ s t).trans (.ringDoorbell _ _ _ _)
  obtain ⟨hwords, hrings, hrest⟩ := honly
  refine ⟨hwords, hrings, ?_⟩
  rw [hrest]
  simp only [and_self]

/-- Settles O6: each clause is the case of its operation that the premises select. -/
theorem doorbellsAndRingStartsComplete : Obligations.DoorbellsAndRingStartsComplete := by
  unfold Obligations.DoorbellsAndRingStartsComplete
  refine ⟨?tailLegal, ?tailIllegal, ?tailKept, ?headLegal, ?headIllegal, ?enable, ?enableRefused, ?recovered⟩
  case tailLegal =>
    intro s t ring val hlive hfar hback
    exact congrArg ok ((State.ringDoorbell_tail hlive).trans (State.applyTail_legal hfar hback))
  case tailIllegal =>
    intro s t ring val hlive hbad
    exact congrArg ok ((State.ringDoorbell_tail hlive).trans (if_pos hbad))
  case tailKept =>
    intro s t ring val hlive
    exact congrArg ok (State.ringDoorbell_kept hlive)
  case headLegal =>
    intro s t ring val hlive hfar hback
    exact congrArg ok ((State.ringDoorbell_head hlive).trans (State.applyHead_legal hfar hback))
  case headIllegal =>
    intro s t ring val hlive hbad
    exact congrArg ok ((State.ringDoorbell_head hlive).trans (if_pos hbad))
  case enable =>
    intro s t rq ring val log hs hon hwas hcfg
    exact congrArg ok ((State.access_reaches hs).trans (State.writeRingCtl_starts hon hwas hcfg))
  case enableRefused =>
    intro s t rq ring val log hs hon hwas hcfg
    exact congrArg ok ((State.access_reaches hs).trans (State.writeRingCtl_refuses hon hwas hcfg))
  case recovered =>
    intro s t ring hruns hon hrec hclear
    exact if_pos ⟨hruns, hon, hrec, hclear⟩

end Sys2Proof

/-!
Fetches and completions (O7, O47, O57): what they do where they act, where a completion lies in host memory, and the
PHASE it carries there.
-/

namespace Sys2Proof.Machine

/-! ### The log record and the entry of a completion (R61, R76, R77) -/

/-- The bytes of the completion of ring `n` that is written next. -/
def State.entryBytes (s : State) (n : Nat) (f : Fin_) : List Byte :=
  f.c.bytes (if f.c.event then (s.ringOf n).evSeq else f.c.tag) (phaseOf (s.cqLog n) (s.rd (Reg.HIF_RING_CQ_PI n)))

theorem State.entryBytes_length (s : State) (n : Nat) (f : Fin_) : (s.entryBytes n f).length = 32 :=
  Completion.bytes_length _ _ _

/-- The machine before its completion entry is written: as it was, or with the item's log record COMPLETING. -/
inductive State.LogsBefore (s : State) (n : Nat) (f : Fin_) (i : Nat) : State → Prop
  | none : LogsBefore s n f i s
  | completing (pi : Nat) : LogsBefore s n f i (s.writeLog n .completing f.item i pi)

/-- A completion goes to its entry alone, or there and then to the log record of the index its item was fetched at. -/
theorem State.writeEntry_cases (s : State) (n : Nat) (f : Fin_) :
    s.writeEntry n f = s.writeHost (s.cqEntry n) (s.entryBytes n f) ∨
      ∃ m i r pi, f.item.src = .ring m i ∧ s.LogsBefore n f i r ∧
        s.writeEntry n f = (r.writeHost (s.cqEntry n) (s.entryBytes n f)).writeLog n .complete f.item i pi := by
  have hbytes : f.c.bytes (if f.c.event then (s.ringOf n).evSeq else f.c.tag)
      (phaseOf (s.cqLog n) (s.rd (Reg.HIF_RING_CQ_PI n))) = s.entryBytes n f := rfl
  simp only [State.writeEntry, hbytes]
  split
  · rename_i m i _ hsrc
    split
    · exact .inl rfl
    · exact .inr ⟨m, i, _, _, hsrc, .completing _, rfl⟩
  · rename_i m i _ hsrc
    exact .inr ⟨m, i, _, _, hsrc, .none, rfl⟩
  · exact .inl rfl

/-- Log records lie where the registers say, whatever has been written to host memory. -/
theorem State.logAt_congr {s r : State} (h : r.regs = s.regs) (n i : Nat) : r.logAt n i = s.logAt n i := by
  simp only [State.logAt, State.rd64, State.rd, State.sqLog, State.get, State.word_congr h]

theorem State.LogsBefore.regs {s r : State} {n : Nat} {f : Fin_} {i : Nat} (h : s.LogsBefore n f i r) :
    r.regs = s.regs := by
  cases h with
  | none => rfl
  | completing => exact State.writeHost_regs _ _ _

/-- A byte outside the log record of an index is as before. -/
theorem State.hostByte_writeLog {s r : State} {n : Nat} {st : LogState} {it : Item} {i pi a : Nat}
    (hr : r.regs = s.regs) (h : a < s.logAt n i ∨ s.logAt n i + 16 ≤ a) :
    (r.writeLog n st it i pi).hostByte a = r.hostByte a :=
  State.hostByte_writeHost r _ _ a (by rwa [logBytes_length, State.logAt_congr hr])

theorem State.LogsBefore.hostByte {s r : State} {n : Nat} {f : Fin_} {i a : Nat} (h : s.LogsBefore n f i r)
    (ha : a < s.logAt n i ∨ s.logAt n i + 16 ≤ a) : r.hostByte a = s.hostByte a := by
  cases h with
  | none => rfl
  | completing => exact State.hostByte_writeLog rfl ha

/-- A byte outside the completion entry and the item's log record is as before. -/
theorem State.hostByte_writeEntry_other {s : State} {n : Nat} {f : Fin_} {a : Nat}
    (he : a < s.cqEntry n ∨ s.cqEntry n + 32 ≤ a)
    (hl : ∀ m i, f.item.src = .ring m i → a < s.logAt n i ∨ s.logAt n i + 16 ≤ a) :
    (s.writeEntry n f).hostByte a = s.hostByte a := by
  have hentry (r : State) : (r.writeHost (s.cqEntry n) (s.entryBytes n f)).hostByte a = r.hostByte a :=
    State.hostByte_writeHost r _ _ a (by rwa [State.entryBytes_length])
  obtain h | ⟨m, i, r, pi, hsrc, hbefore, h⟩ := s.writeEntry_cases n f <;> rw [h]
  · exact hentry s
  · have ha := hl m i hsrc
    have hregs := (State.writeHost_regs r (s.cqEntry n) (s.entryBytes n f)).trans hbefore.regs
    rw [State.hostByte_writeLog hregs ha, hentry, hbefore.hostByte ha]

/-- A byte of the completion entry that lies apart from the item's log record reads as written. -/
theorem State.hostByte_writeEntry {s : State} {n : Nat} {f : Fin_} {k : Nat} (hk : k < 32)
    (hl : ∀ m i, f.item.src = .ring m i → s.logAt n i + 16 ≤ s.cqEntry n ∨ s.cqEntry n + 32 ≤ s.logAt n i) :
    (s.writeEntry n f).hostByte (s.cqEntry n + k) = (s.entryBytes n f)[k]? := by
  have hlen : k < (s.entryBytes n f).length := by rwa [State.entryBytes_length]
  have hentry (r : State) : (r.writeHost (s.cqEntry n) (s.entryBytes n f)).hostByte (s.cqEntry n + k) =
      (s.entryBytes n f)[k]? := by
    rw [State.hostByte_writeHost_at r _ _ k hlen, List.getElem?_eq_getElem hlen]
  obtain h | ⟨m, i, r, pi, hsrc, hbefore, h⟩ := s.writeEntry_cases n f <;> rw [h]
  · exact hentry s
  · have hapart := hl m i hsrc
    have hregs := (State.writeHost_regs r (s.cqEntry n) (s.entryBytes n f)).trans hbefore.regs
    have hk : s.cqEntry n + k < s.logAt n i ∨ s.logAt n i + 16 ≤ s.cqEntry n + k := by omega
    rw [State.hostByte_writeLog hregs hk, hentry]

/-- Past its entry and log records, the writing of a completion leaves host memory as it is. -/
theorem State.writeCompletion_hostMem (s : State) (n : Nat) (f : Fin_) :
    (s.writeCompletion n f).hostMem = (s.writeEntry n f).hostMem := by
  simp only [State.writeCompletion, State.passUnknown_frame, State.reportRing_frame, State.ringIrq_frame]
  split <;> simp

/-! ### COMPLETION_WRITE (R61, R77, R79) -/

/-- The ring's oldest completion leaves the ring's queue. -/
def State.takeFin (s : State) (n : Nat) (rest : List Fin_) : State := s.setRing n { s.ringOf n with fin := rest }

/-- The ring may write its oldest completion now. -/
def State.mayWrite (s : State) (n : Nat) (f : Fin_) : Prop :=
  s.runs 1 blkWriter = true ∧ (!s.hif.pcie.d3hot) = true ∧ s.ringOn n = true ∧ s.cqRoom n = true ∧
    f.kind ≠ .stale ∧ (!(s.flag (B.HIF_RING_STS_RECOVERING n) && !s.flag (B.HIF_RING_CTL_RECOVER n))) = true

theorem State.mayWrite_of {s : State} {n : Nat} {f : Fin_} (hruns : s.runs 1 blkWriter = true)
    (hd3 : s.hif.pcie.d3hot = false) (hon : s.ringOn n = true) (hroom : s.cqRoom n = true) (hk : f.kind ≠ .stale)
    (hrec : s.flag (B.HIF_RING_STS_RECOVERING n) = false ∨ s.flag (B.HIF_RING_CTL_RECOVER n) = true) :
    s.mayWrite n f := by
  refine ⟨hruns, by rw [hd3]; rfl, hon, hroom, hk, ?_⟩
  obtain h | h := hrec <;> simp [h]

theorem execCompletionWrite_writes {s : State} {t : Nat} {ring : Fin 64} {f : Fin_} {rest : List Fin_}
    (hfin : ((s.to t).ringOf ring.val).fin = f :: rest) (h : (s.to t).mayWrite ring.val f) :
    execCompletionWrite t ring s = ok (((s.to t).takeFin ring.val rest).writeCompletion ring.val f) := by
  simp only [execCompletionWrite, hfin]
  exact if_pos h

theorem execCompletionWrite_waits {s : State} {t : Nat} {ring : Fin 64} {f : Fin_} {rest : List Fin_}
    (hfin : ((s.to t).ringOf ring.val).fin = f :: rest) (h : ¬(s.to t).mayWrite ring.val f) :
    execCompletionWrite t ring s = ok ((s.to t).reportRing ring.val) := by
  simp only [execCompletionWrite, hfin]
  exact if_neg h

/-! ### PHASE (R72) -/

/-- A status, the EVENT bit and PHASE share a byte; PHASE is its top bit. -/
theorem phaseBit_read (st : Status) (event : Bool) (phase : Nat) (h : phase < 2) :
    (BitVec.ofNat 8 (st.code + (if event then 64 else 0) + phase * 128)).getLsbD 7 = (phase == 1) := by
  obtain rfl | rfl : phase = 0 ∨ phase = 1 := by omega
  all_goals cases st <;> cases event <;> rfl

/-- Byte 2 of a completion holds its status, EVENT and PHASE (Table HIF-5). -/
theorem Completion.bytes_two (c : Completion) (tag phase : Nat) :
    (c.bytes tag phase)[2]? = some (BitVec.ofNat 8 (c.status.code + (if c.event then 64 else 0) + phase * 128)) := rfl

theorem phaseOf_lt (C j : Nat) : phaseOf C j < 2 := Nat.mod_lt _ (by decide)

/-- PHASE is 1 on even laps. -/
theorem phaseOf_eq_one (C j : Nat) : phaseOf C j = 1 ↔ j / 2 ^ C % 2 = 0 := by
  unfold phaseOf
  omega

end Sys2Proof.Machine

namespace Sys2Proof
open Sys2Proof.Machine

/-- Settles O57: a completion is written at its entry and its log record, or nothing is written. -/
theorem completionWritesStayInTheRing : Obligations.CompletionWritesStayInTheRing := by
  intro s s' t ring f rest hfin h a he hl
  by_cases hmay : (s.to t).mayWrite ring.val f
  · obtain rfl := Host.Outcome.next.inj ((execCompletionWrite_writes hfin hmay).symm.trans h)
    rw [State.hostByte_keep (State.writeCompletion_hostMem _ _ _)]
    exact State.hostByte_writeEntry_other (s := (s.to t).takeFin ring.val rest) he hl
  · obtain rfl := Host.Outcome.next.inj ((execCompletionWrite_waits hfin hmay).symm.trans h)
    exact State.hostByte_keep (by simp) a

/-- Settles O47: byte 2 of the entry reads as written, with the PHASE of the ring's lap in its top bit. -/
theorem phaseFollowsTheLapOfTheRing : Obligations.PhaseFollowsTheLapOfTheRing := by
  intro s t ring f rest hfin hruns hd3 hon hroom hk hrec hl
  have hmay := State.mayWrite_of hruns hd3 hon hroom hk hrec
  have hbyte : (((s.to t).takeFin ring.val rest).writeEntry ring.val f).hostByte ((s.to t).cqEntry ring.val + 2) = _ :=
    (State.hostByte_writeEntry (s := (s.to t).takeFin ring.val rest) (by decide) hl).trans (Completion.bytes_two _ _ _)
  refine ⟨_, _, execCompletionWrite_writes hfin hmay,
    (State.hostByte_keep (State.writeCompletion_hostMem _ _ _) _).trans hbyte, ?_⟩
  rw [phaseBit_read _ _ _ (phaseOf_lt _ _), beq_iff_eq]
  exact phaseOf_eq_one _ _

/-- Settles O7: each clause is the case of its operation that the premises select. -/
theorem fetchesAndCompletionsComplete : Obligations.FetchesAndCompletionsComplete := by
  unfold Obligations.FetchesAndCompletionsComplete
  refine ⟨?fetch, ?completion, ?completionFull, ?stale, ?holdoff, ?when⟩
  case fetch =>
    intro s t ring raw hmay
    exact if_pos hmay
  case completion =>
    intro s t ring f rest hfin hk hruns hd3 hon hroom hrec
    exact execCompletionWrite_writes hfin (State.mayWrite_of hruns hd3 hon hroom hk hrec)
  case completionFull =>
    intro s t ring f rest hfin hroom
    refine execCompletionWrite_waits hfin (fun hmay => ?_)
    obtain ⟨_, _, _, h, _⟩ := hmay
    exact Bool.false_ne_true (hroom.symm.trans h)
  case stale =>
    intro s t ring f hfin hruns hd3 hon hroom hrec
    have hmay : (s.to t).runs 1 blkWriter = true ∧ (!(s.to t).hif.pcie.d3hot) = true ∧
        (s.to t).ringOn ring.val = true ∧ (s.to t).cqRoom ring.val = true ∧
        (s.to t).flag (B.HIF_RING_STS_RECOVERING ring.val) = true :=
      ⟨hruns, by rw [hd3]; rfl, hon, hroom, hrec⟩
    simp only [exec, execStaleCompletionWrite, hfin]
    exact if_pos hmay
  case holdoff =>
    intro s t ring t0 hfirst hdue
    simp only [exec, execIrqHoldoffExpiry, hfirst]
    exact if_pos hdue
  case when =>
    intro s t id cmd it hfind hitem hdue
    simp only [exec, execWhenReached, hfind, hitem]
    exact if_pos hdue

end Sys2Proof

/-!
Ping-pong queues (O10, O45): what a push, a pop, a swap, the merge ports, a queue's enabling and the scrub do where
they act, and that a pop from an empty drain bank is no read.
-/

namespace Sys2Proof.Machine

/-! ### A queue beside its registers (R104 to R107) -/

/-- The idle item is DATA of all ones under TAG IDLE, and its 66 ones make PARITY 0. -/
theorem QWord.idle_eq : QWord.idle = ⟨0xFFFFFFFFFFFFFFFF#64, 6#3, false, none⟩ := by decide +kernel

@[simp] theorem State.queueOf_setFlag (s : State) (b : Bits) (v : Bool) (q : Nat) :
    (s.setFlag b v).queueOf q = s.queueOf q := rfl

@[simp] theorem State.queueOf_setQueue (s : State) (q : Nat) (x : QueueRt) : (s.setQueue q x).queueOf q = x := by
  unfold State.setQueue
  extract_lets
  split <;> exact Sp.at_store_same s.mqf.queues QueueRt.reset q x

/-- A swap moves words between the banks; the word last popped and the instant of the last read stay. -/
theorem State.swapBanks_keeps (s : State) (q : Nat) :
    ((s.swapBanks q).queueOf q).popped = (s.queueOf q).popped ∧
      ((s.swapBanks q).queueOf q).lastRead = (s.queueOf q).lastRead := by
  unfold State.swapBanks
  extract_lets
  split
  · rw [State.queueOf_setFlag, State.queueOf_setQueue]
    exact ⟨rfl, rfl⟩
  · exact ⟨rfl, rfl⟩

/-! ### Pops (R105, R106, R112, R113) -/

/-- The queue from which a word that passes its parity check was read at `now`: it is delivered as `w`, and `rest` stays
in the drain bank. -/
def QueueRt.read (x : QueueRt) (w : QWord) (rest : List QWord) (now : Nat) : QueueRt :=
  { x with
    drain := rest, drainPk := stepPackets x.drainPk, poison := x.poison - 1, lastRead := now, popped := some w,
    reading := !rest.isEmpty }

/-- The word of queue `q` as it is delivered: POISON in a packet whose LEN word failed parity (R111). -/
def QueueRt.delivers (x : QueueRt) (q : Nat) (w : QWord) : QWord := if 0 < x.poison then w.poisoned (3, q) else w

theorem QueueRt.delivers_clean {x : QueueRt} (h : x.poison = 0) (q : Nat) (w : QWord) : x.delivers q w = w :=
  if_neg (by rw [h]; exact Nat.lt_irrefl 0)

theorem State.popOne_empty {s : State} {q : Nat} (hit : Bool) (h : (s.queueOf q).drain = []) :
    s.popOne q hit = (s.setQueue q { s.queueOf q with popped := some QWord.idle }, QWord.idle, false) := by
  simp only [State.popOne, h]

theorem State.popOne_word {s : State} {q : Nat} {w : QWord} {rest : List QWord}
    (h : (s.queueOf q).drain = w :: rest) :
    s.popOne q false = (s.setQueue q ((s.queueOf q).read ((s.queueOf q).delivers q w) rest s.cyc),
      (s.queueOf q).delivers q w, false) := by
  simp only [State.popOne, h, Bool.false_eq_true, false_and, false_or, if_false]
  rfl

/-- From an empty drain bank the consumer takes the idle item, whoever it is and whatever it takes words into. -/
theorem State.popTo_empty {s : State} {q : Nat} (hit : Bool) (into : Option Nat) (h : (s.queueOf q).drain = []) :
    s.popTo q hit into = s.setQueue q { s.queueOf q with popped := some QWord.idle } := by
  simp only [State.popTo, State.popOne_empty hit h, h]
  cases captureOf q <;> rfl

/-- A consumer other than the DRAM writer that takes a word into no item only reads it. -/
theorem State.popTo_word {s : State} {q : Nat} {w : QWord} {rest : List QWord} (hc : captureOf q = none)
    (h : (s.queueOf q).drain = w :: rest) :
    s.popTo q false none = s.setQueue q ((s.queueOf q).read ((s.queueOf q).delivers q w) rest s.cyc) := by
  simp only [State.popTo, State.popOne_word h, hc, Option.bind_none]
  cases ((s.queueOf q).delivers q w).origin <;> rfl

/-- A POISON word taken into an item fails it with the origin of its parity check. -/
theorem State.popTo_poison {s : State} {q r c : Nat} {w : QWord} {rest : List QWord} {it : Item}
    (hc : captureOf q = none) (h : (s.queueOf q).drain = w :: rest) (htag : w.tag = 7#3)
    (horigin : w.origin = some (r, c)) (hclean : (s.queueOf q).poison = 0)
    (hit : (s.setQueue q ((s.queueOf q).read w rest s.cyc)).itemOf? it.id = some it) :
    s.popTo q false (some it.id) =
      (s.setQueue q ((s.queueOf q).read w rest s.cyc)).failOne it r (c % 0x1000) .failPoison := by
  simp only [State.popTo, State.popOne_word h, QueueRt.delivers_clean hclean, hc, horigin, Option.bind_some,
    Bool.false_eq_true, if_false, hit]
  exact if_pos htag

/-- A consumer that may read pops, and the banks may swap at the end of the cycle. -/
theorem execQueuePop_reads {s : State} {t : Nat} {q : Fin 128} {hit : Bool} {into : Option Nat}
    (hon : (s.to t).queueOn q.val = true) (hmay : (s.to t).mayRead q.val = true) :
    execQueuePop t q none hit into s = ok (((s.to t).popTo q.val hit into).swapBanks q.val) := by
  simp only [execQueuePop, hon, hmay, if_true]

/-- A consumer that waits for BURST words does not pop. -/
theorem execQueuePop_waits {s : State} {t : Nat} {q : Fin 128} {hit : Bool} {into : Option Nat}
    (hon : (s.to t).queueOn q.val = true) (hmay : (s.to t).mayRead q.val = false) :
    execQueuePop t q none hit into s = ok ((s.to t).swapBanks q.val) := by
  simp only [execQueuePop, hon, hmay, if_true, Bool.false_eq_true, if_false]

/-! ### Pushes (R107, R108, R114, R115) -/

/-- In word mode a push into a fill bank with room appends the word. -/
theorem State.pushOne_word_room {s : State} {q : Nat} (r : Nat) (d : BitVec 64) (o : Option (Nat × Nat))
    (hmode : s.packetMode q = false) (hroom : s.queueFull q = false) :
    s.pushOne q r (.word d o) =
      (s.setQueue q { s.queueOf q with fill := (s.queueOf q).fill ++ [dataWord d o] }, false, false) := by
  simp only [State.pushOne, hmode, hroom, Bool.not_false, if_true, Bool.false_eq_true, if_false]

/-- In word mode a push into a full fill bank is refused, and curbs. -/
theorem State.pushOne_word_full {s : State} {q : Nat} (r : Nat) (d : BitVec 64) (o : Option (Nat × Nat))
    (hmode : s.packetMode q = false) (hfull : s.queueFull q = true) :
    s.pushOne q r (.word d o) = (s.curbQueue q, true, false) := by
  simp only [State.pushOne, hmode, hfull, Bool.not_false, if_true]

/-- A push into an enabled queue that takes no merged packets and feeds no capture, and that overruns no packet, is one
push and the swap that may follow. -/
theorem execQueuePush_pushes {s x : State} {t : Nat} {q : Fin 128} {producer : Fin 16} {p : QPush} {refused : Bool}
    (hprod : producerOk q.val producer.val = true) (hmerge : isMerge q.val = false) (hc : captureOf q.val = none)
    (hon : (s.to t).queueOn q.val = true)
    (h : (s.to t).pushOne q.val producer.val p = (x, refused, false)) :
    execQueuePush t q producer p s = ok (x.swapBanks q.val) := by
  simp only [execQueuePush, hprod, hmerge, hon, State.produce, State.pushFrom, hc, h, Bool.not_true,
    Bool.false_eq_true, if_false, if_true]

/-- A region's push into a merge queue goes to its staging buffer. -/
theorem execQueuePush_stages {s : State} {t : Nat} {q : Fin 128} {producer : Fin 16} {p : QPush}
    (hprod : producerOk q.val producer.val = true) (hmerge : isMerge q.val = true)
    (hruns : (s.to t).runs 3 blkQueues = true) :
    execQueuePush t q producer p s = ok ((s.to t).stagePush q.val producer.val p) := by
  simp only [execQueuePush, hprod, hmerge, hruns, Bool.not_true, Bool.false_eq_true, if_false, if_true]

/-- A region that does not produce into the queue pushes nothing. -/
theorem execQueuePush_foreign {s : State} {t : Nat} {q : Fin 128} {producer : Fin 16} {p : QPush}
    (hprod : producerOk q.val producer.val = false) : execQueuePush t q producer p s = ok (s.to t) := by
  simp only [execQueuePush, hprod, Bool.not_false, if_true]

/-! ### Merge ports (R115) -/

/-- The staging buffer of region `r` at merge queue `q` is empty again, and the turn passes to the next region. -/
def State.unstage (s : State) (q r : Nat) : State :=
  { s with mqf := { s.mqf with staging := Sp.drop s.mqf.staging (16 * q + r), served := Sp.put s.mqf.served q r } }

/-- Outside queue 0 the port takes the closed packet whose turn it is, where the queue accepts it and it is within
MAX_PKT. -/
theorem execMergePortTake_takes {s : State} {t : Nat} {q : Fin 9} {r : Nat} {rest : List Nat} {p : Packet}
    (h0 : q.val ≠ 0) (hon : (s.to t).queueOn q.val = true) (hturn : (s.to t).mergeTurn q.val = r :: rest)
    (hstaged : Sp.find (s.to t).mqf.staging (16 * q.val + r) = some p)
    (hpush : ((s.to t).pushPacket q.val r p).2 = false)
    (hfits : p.data.length ≤
      (((s.to t).pushPacket q.val r p).1.unstage q.val r).get (B.MQF_Q_CFG_MAX_PKT q.val))
    (hends : p.ends = none) :
    execMergePortTake t q s = ok (((s.to t).pushPacket q.val r p).1.unstage q.val r) := by
  simp only [execMergePortTake, hon, hturn, hstaged, hpush, hends, h0, Bool.not_true, Bool.false_eq_true, if_false]
  exact congrArg ok (if_neg (Nat.not_lt.mpr hfits))

/-! ### Enabling (R114, R116) -/

/-- A legal configuration enables a queue that is off, with empty banks. -/
theorem State.writeQueueCfg_enables {s : State} {q : Nat} {val : Word} (hq : 96 ≤ q)
    (hoff : s.flag (B.MQF_Q_CFG_ENABLE q) = false) (hon : val.getLsbD 31 = true) (hok : s.queueCfgOk val = true) :
    s.writeQueueCfg q val =
      ((s.softWrite (Reg.MQF_Q_CFG q) (val &&& 0x7FFFFFFF#32)).setFlag (B.MQF_Q_CFG_ENABLE q) true).setQueue q
        { QueueRt.reset with lastRead := s.cyc } := by
  simp only [State.writeQueueCfg, if_neg (Nat.not_lt.mpr hq), hoff, hon, hok, Bool.not_true, Bool.false_eq_true,
    if_false, if_true]

/-- An illegal configuration enables nothing and sets CFG_ERR. -/
theorem State.writeQueueCfg_refuses {s : State} {q : Nat} {val : Word} (hq : 96 ≤ q)
    (hoff : s.flag (B.MQF_Q_CFG_ENABLE q) = false) (hon : val.getLsbD 31 = true) (hbad : s.queueCfgOk val = false) :
    s.writeQueueCfg q val = s.queueCfgErr q := by
  simp only [State.writeQueueCfg, if_neg (Nat.not_lt.mpr hq), hoff, hon, hbad, Bool.not_true, Bool.false_eq_true,
    if_false]

/-- A write to an enabled queue of the gait bundle sets CFG_ERR. -/
theorem State.writeQueueCfg_bundle {s : State} {q : Nat} {val : Word} (hq : q < 96)
    (hon : s.flag (B.MQF_Q_CFG_ENABLE q) = true) : s.writeQueueCfg q val = s.queueCfgErr q := by
  simp only [State.writeQueueCfg, if_pos hq, hon, if_true]

/-! ### The scrub (R438) -/

/-- While MQF serves, the chip is out of HALTER and Stabled and DRAM is trained, nothing stops the scrub. -/
theorem State.scrub_unblocked {s : State} (hup : s.up 3 = true) (hhalter : s.halter = false)
    (hawake : s.chip.stabled = false) (htrained : s.flag B.MQF_DRAM_STS_TRAINED = true) :
    ¬((!s.up 3) = true ∨ s.halter = true ∨ s.chip.stabled = true ∨ (!s.flag B.MQF_DRAM_STS_TRAINED) = true) := by
  simp [hup, hhalter, hawake, htrained]

end Sys2Proof.Machine

namespace Sys2Proof
open Sys2Proof.Machine

/-- Settles O45: the pop delivers the idle item and no read, and the swap that may follow keeps both. -/
theorem emptyPopReturnsTheIdleItem : Obligations.EmptyPopReturnsTheIdleItem := by
  intro s t q hit into hon hmay hempty
  obtain ⟨hpopped, hlast⟩ :=
    State.swapBanks_keeps ((s.to t).setQueue q.val { (s.to t).queueOf q.val with popped := some QWord.idle }) q.val
  rw [State.queueOf_setQueue] at hpopped hlast
  have hexec := execQueuePop_reads (hit := hit) (into := into) hon hmay
  rw [State.popTo_empty hit into hempty] at hexec
  exact ⟨_, hexec, hpopped.trans (congrArg some QWord.idle_eq), hlast⟩

/-- Settles O10: each clause is the case of its operation that the premises select. -/
theorem queueCommandsComplete : Obligations.QueueCommandsComplete := by
  unfold Obligations.QueueCommandsComplete
  refine ⟨?pushRoom, ?pushFull, ?pushStaged, ?pushForeign, ?pop, ?popPoison, ?popWaits, ?popEmpty, ?timeout, ?merge,
    ?enable, ?enableRefused, ?enableBundle, ?scrub⟩
  case pushRoom =>
    intro s t q producer d o hprod hmerge hc hon hmode hroom
    exact execQueuePush_pushes hprod hmerge hc hon (State.pushOne_word_room producer.val d o hmode hroom)
  case pushFull =>
    intro s t q producer d o hprod hmerge hc hon hmode hfull
    exact execQueuePush_pushes hprod hmerge hc hon (State.pushOne_word_full producer.val d o hmode hfull)
  case pushStaged =>
    intro s t q producer p hprod hmerge hruns
    exact execQueuePush_stages hprod hmerge hruns
  case pushForeign =>
    intro s t q producer p hprod
    exact execQueuePush_foreign hprod
  case pop =>
    intro s t q x rest hc hon hmay hdrain
    exact (execQueuePop_reads hon hmay).trans
      (congrArg (fun y : State => ok (y.swapBanks q.val)) (State.popTo_word hc hdrain))
  case popPoison =>
    intro s t q x rest it r c hc hon hmay hdrain htag horigin hclean hit
    exact (execQueuePop_reads hon hmay).trans (congrArg (fun y : State => ok (y.swapBanks q.val))
      (State.popTo_poison hc hdrain htag horigin hclean hit))
  case popWaits =>
    intro s t q hit into hon hmay
    exact execQueuePop_waits hon hmay
  case popEmpty =>
    intro s t q hc hon hmay hempty
    exact (execQueuePop_reads hon hmay).trans
      (congrArg (fun y : State => ok (y.swapBanks q.val)) (State.popTo_empty false none hempty))
  case timeout =>
    intro s t q hon hqto hwords hidle hlate
    exact if_pos ⟨hon, hqto, by rw [hwords]; rfl, by rw [hidle]; rfl, hlate⟩
  case merge =>
    intro s t q r rest p h0 hon hturn hstaged hpush hfits hends
    exact execMergePortTake_takes h0 hon hturn hstaged hpush hfits hends
  case enable =>
    intro s t rq q val hs hq hoff hon hok
    exact congrArg ok ((State.access_reaches hs).trans (State.writeQueueCfg_enables hq hoff hon hok))
  case enableRefused =>
    intro s t rq q val hs hq hoff hon hbad
    exact congrArg ok ((State.access_reaches hs).trans (State.writeQueueCfg_refuses hq hoff hon hbad))
  case enableBundle =>
    intro s t rq q val hs hq hon
    exact congrArg ok ((State.access_reaches hs).trans (State.writeQueueCfg_bundle hq hon))
  case scrub =>
    intro s t found hup hhalter hawake htrained
    refine (if_neg (State.scrub_unblocked hup hhalter hawake htrained)).trans ?_
    simp only [decide_eq_true_eq]

end Sys2Proof

/-!
The dispatcher (O9): what its operations do where they act.
-/

namespace Sys2Proof.Machine

/-! ### Entering a flow and dispatch (R91 to R101) -/

/-- An item leaves its source port. -/
def State.leavePort (s : State) (port : Nat) (it : Item) : State :=
  { s with dsp := { s.dsp with
    ports := Sp.store s.dsp.ports [] port ((Sp.at s.dsp.ports [] port).filter (fun x => x.id != it.id)) } }

/-- An admitted item leaves its port, which does not change its work, and takes an entry of its flow; a ring's buffer
has room again. -/
theorem execFlowEntry_takes {s : State} {t : Nat} {port : Fin 78} {it : Item} {reserve : Bool}
    (hruns : (s.to t).runs 2 blkReady = true) (hnext : (s.to t).portNext port.val = some it)
    (hfirst : (s.to t).lowerFirst port.val ((s.to t).workOf it).flow = false)
    (htake : (s.to t).admits port.val it = .take reserve) :
    execFlowEntry t port s =
      let x := ((s.to t).leavePort port.val it).enterFlow it ((s.to t).workOf it).flow reserve
        ((s.to t).workOf it).firstStage
      ok (if port.val < 64 then x.reportRingCurb port.val else x) := by
  simp only [execFlowEntry, hruns, hnext, hfirst, htake, Bool.not_true, Bool.false_eq_true, if_false]
  rfl

/-- An OBS item that finds no entry is a block error of the admission block. -/
theorem execFlowEntry_obsFails {s : State} {t : Nat} {port : Fin 78} {it : Item}
    (hruns : (s.to t).runs 2 blkReady = true) (hnext : (s.to t).portNext port.val = some it)
    (hfirst : (s.to t).lowerFirst port.val ((s.to t).workOf it).flow = false)
    (hfails : (s.to t).admits port.val it = .obsFails) :
    execFlowEntry t port s =
      ok ((s.to t).blockError 2 blkReady ((s.to t).workOf it).flow .obsAdmission []) := by
  simp only [execFlowEntry, hruns, hnext, hfirst, hfails, Bool.not_true, Bool.false_eq_true, if_false]

/-- The turn of stage `st` passes to the flow of `e`, and its wait of `ns` is counted. -/
def State.noteDispatch (s : State) (st : Stage) (e : Entry) (ns : Nat) : State :=
  { s with dsp := { s.dsp with
    turn := Sp.put s.dsp.turn (st.port * 8 + s.levelOf e) e.flow,
    stats := Sp.put s.dsp.stats e.flow ((Sp.at s.dsp.stats WaitStat.zero e.flow).add ns) } }

/-- A stage that can accept takes the waiting entry it is offered. -/
theorem execStageDispatch_takes {s : State} {t : Nat} {st stage : Stage} {e : Entry} {since : Nat}
    (hruns : (s.to t).runs 2 blkReady = true) (haccepts : (s.to t).runs st.region (st.block e.item) = true)
    (hoffer : (s.to t).offered st = some e) (hwaits : e.place = .waiting stage since) :
    execStageDispatch t st s =
      ok ((((s.to t).noteDispatch st e (((s.to t).cyc - since) * 2)).reach e st).reportFlow e.flow) := by
  simp only [execStageDispatch, hruns, State.runs_up haccepts, hoffer, haccepts, hwaits, Bool.not_true,
    Bool.false_eq_true, or_self, if_false]
  rfl

end Sys2Proof.Machine

namespace Sys2Proof
open Sys2Proof.Machine

/-- Settles O9: each clause is the case of its operation that the premises select. -/
theorem dispatcherCommandsComplete : Obligations.DispatcherCommandsComplete := by
  unfold Obligations.DispatcherCommandsComplete
  refine ⟨?entry, ?obsFails, ?dispatch, ?release, ?obsSelect, ?loadSelect⟩
  case entry =>
    intro s t port it reserve hruns hnext hfirst htake
    exact execFlowEntry_takes hruns hnext hfirst htake
  case obsFails =>
    intro s t port it hruns hnext hfirst hfails
    exact execFlowEntry_obsFails hruns hnext hfirst hfails
  case dispatch =>
    intro s t st e stage since hruns haccepts hoffer hwaits
    exact execStageDispatch_takes hruns haccepts hoffer hwaits
  case release =>
    intro s t flow hruns
    exact if_neg (by rw [hruns]; exact Bool.false_ne_true)
  case obsSelect =>
    intro s t rq val hs
    exact congrArg ok (State.access_reaches hs)
  case loadSelect =>
    intro s t rq val busy win hs
    exact congrArg ok (State.access_reaches hs)

end Sys2Proof

/-!
The band ports of the base receiver (O16): what bit-times, samples, the sample count, the gain and the spectrum do
where they act.
-/

namespace Sys2Proof.Machine

/-! ### Bit-times and samples (R118, R120) -/

/-- A port that samples takes its bit-times one by one. -/
theorem execPortSyncChange_samples {s : State} {t : Nat} {port : Fin 2} {bits : List PortBit}
    (h : (s.to t).samples port.val = true) :
    execPortSyncChange t port bits s = ok (bits.foldl (fun (s : State) b => s.portBit port.val b) (s.to t)) :=
  if_pos h

/-- The fourth bit-time of a sample, with FRM 0, completes it. -/
theorem State.portBit_fourth {s : State} {p : Nat} {b : PortBit} (h3 : (s.band p).rx.bits.length = 3)
    (hfrm : b.frm = false) :
    s.portBit p b =
      (s.setBand p { s.band p with rx := { (s.band p).rx with
        lastFrm := b.frm, bits := (s.band p).rx.bits ++ [b] } }).portSample p ((s.band p).rx.bits ++ [b]) := by
  have hbegun : (s.band p).rx.bits.isEmpty = false := by
    rw [List.isEmpty_eq_false_iff_exists_mem]; exact List.exists_mem_of_length_pos (by omega)
  simp only [State.portBit, hfrm, hbegun, Bool.false_and, Bool.false_eq_true, if_false, List.length_append,
    List.length_singleton, h3, if_true]

/-- Out of sync the 256th correct sample in a row gains sync. -/
theorem State.portSample_gains {s : State} {p : Nat} {bits : List PortBit}
    (hsync : s.flag (B.GNB_PORT_STS_SYNC p) = false) (hok : Machine.frameOk bits = true)
    (hgood : 255 ≤ (s.band p).rx.good) :
    s.portSample p bits = (s.setBand p { s.band p with rx := { (s.band p).rx with
      bits := [], good := (s.band p).rx.good + 1, wrongs := [] } }).gainSync p := by
  have hmany : 256 ≤ (s.band p).rx.good + 1 := Nat.succ_le_succ hgood
  simp only [State.portSample, hsync, hok, hmany, Bool.false_eq_true, if_false, if_true]

/-- A wrong sample in sync that is the eighth within 256 is seen as a sample, and loses sync. -/
theorem State.portSample_loses {s : State} {p : Nat} {bits : List PortBit}
    (hsync : s.flag (B.GNB_PORT_STS_SYNC p) = true) (hwrong : Machine.frameOk bits = false)
    (height : 8 ≤ (0 :: ((s.band p).rx.wrongs.map (· + 1)).filter (· < 256)).length) :
    s.portSample p bits =
      let i := Machine.levelOf (bits.map PortBit.d0)
      let q := Machine.levelOf (bits.map PortBit.d1)
      ((s.seeSample p (s.devNs / 10 ^ 6 * 10 ^ 6 + (s.band p).rx.count * 10 ^ 6 / 61380)
        (codeOf (bits.map PortBit.d0) + 16 * codeOf (bits.map PortBit.d1)) i q).setBand p
          { s.band p with rx := { (s.band p).rx with
            bits := [], wrongs := 0 :: ((s.band p).rx.wrongs.map (· + 1)).filter (· < 256)
            count := (s.band p).rx.count + 1, meas := (s.band p).rx.meas + 1
            level := (s.band p).rx.level + i.natAbs + q.natAbs } }).loseSync p := by
  simp only [State.portSample, hsync, hwrong, height, Bool.false_eq_true, if_false, if_true]

/-! ### The sample count (R119) -/

/-- The sample count of a port begins again; whether the coming millisecond is whole rests on the sync now. -/
def State.restartCount (s : State) (p : Nat) : State :=
  s.setBand p { s.band p with rx := { (s.band p).rx with count := 0, whole := s.flag (B.GNB_PORT_STS_SYNC p) } }

/-- A slip of two samples or more in a whole millisecond is counted, and takes the sync away. -/
theorem execSampleCountCheck_slips {s : State} {t : Nat} {port : Fin 2}
    (hsamples : ((s.to t).restartCount port.val).samples port.val = true)
    (hwhole : ((s.to t).band port.val).rx.whole = true)
    (hslip : ((s.to t).band port.val).rx.count + 2 ≤ 61380 ∨ 61382 ≤ ((s.to t).band port.val).rx.count) :
    execSampleCountCheck t port s =
      ok ((((((s.to t).restartCount port.val).count (Reg.GNB_PORT_SLIP_CNT port.val)).setFlag
        (B.GNB_PORT_STS_SLIPPED port.val) true).mapBand port.val (fun c => { c with slip := true })).loseSync
          port.val) :=
  if_pos ⟨hsamples, hwhole, by omega⟩

/-- A count within one sample of the nominal 61,380 is no slip. -/
theorem execSampleCountCheck_full {s : State} {t : Nat} {port : Fin 2}
    (hlow : 61379 ≤ ((s.to t).band port.val).rx.count) (hhigh : ((s.to t).band port.val).rx.count ≤ 61381) :
    execSampleCountCheck t port s = ok ((s.to t).restartCount port.val) := by
  refine if_neg (fun hslip => ?_)
  obtain ⟨_, _, hfar⟩ := hslip
  omega

/-! ### The gain (R121) -/

/-- The level of a port is measured afresh. -/
def State.remeasure (s : State) (p : Nat) : State :=
  s.setBand p { s.band p with rx := { (s.band p).rx with meas := 0, level := 0 } }

/-- The duty that the level `x` measured steers to. -/
def State.agcDuty (s : State) (p : Nat) (x : BandPort) : Nat :=
  let old := s.get (B.GNB_PORT_STS_AGC_DUTY p)
  let aim := s.param P.AGC_TARGET * (2 * x.rx.meas)
  if x.rx.level * 10 < aim then min 1023 (old + 1) else if aim < x.rx.level * 10 then old - 1 else old

theorem State.agcDuty_below {s : State} {p : Nat} {x : BandPort}
    (h : x.rx.level * 10 < s.param P.AGC_TARGET * (2 * x.rx.meas)) :
    s.agcDuty p x = min 1023 (s.get (B.GNB_PORT_STS_AGC_DUTY p) + 1) := if_pos h

theorem State.agcDuty_above {s : State} {p : Nat} {x : BandPort}
    (h : s.param P.AGC_TARGET * (2 * x.rx.meas) < x.rx.level * 10) :
    s.agcDuty p x = s.get (B.GNB_PORT_STS_AGC_DUTY p) - 1 :=
  (if_neg (Nat.lt_asymm h)).trans (if_pos h)

/-- `duty` lies over AGC_JUMP from a duty that was in force within the last second. -/
def State.dutyJumps (s : State) (p : Nat) (x : BandPort) (duty : Nat) : Bool :=
  (s.dutiesInForce x.duties (s.get (B.GNB_PORT_STS_AGC_DUTY p))).any
    (fun d => decide (s.param P.AGC_JUMP < (d.1 - duty) + (duty - d.1)))

/-- DUTY moves to `duty`, which joins the duties in force, and whether it is a jump is kept. -/
def State.moveDuty (s : State) (p : Nat) (x : BandPort) (duty : Nat) (jump : Bool) : State :=
  let old := s.get (B.GNB_PORT_STS_AGC_DUTY p)
  let hist := s.dutiesInForce x.duties old
  (s.setBand p { s.band p with
    duties := if duty = old then hist else hist ++ [(duty, s.cyc)], jumped := jump }).set
      (B.GNB_PORT_STS_AGC_DUTY p) duty

/-- In sync and not held, a port that measured samples moves its duty, and a new jump is an event and counts as
interference. -/
theorem execAgcUpdate_moves {s : State} {t : Nat} {port : Fin 2} {duty : Nat} {jump : Bool}
    (hsamples : ((s.to t).remeasure port.val).samples port.val = true)
    (hsync : (s.to t).flag (B.GNB_PORT_STS_SYNC port.val) = true)
    (hfree : (s.to t).flag (B.GNB_PORT_CTL_AGC_HOLD port.val) = false)
    (hmeas : (((s.to t).band port.val).rx.meas == 0) = false)
    (hduty : ((s.to t).remeasure port.val).agcDuty port.val ((s.to t).band port.val) = duty)
    (hjump : ((s.to t).remeasure port.val).dutyJumps port.val ((s.to t).band port.val) duty = jump) :
    execAgcUpdate t port s =
      let v := ((s.to t).remeasure port.val).moveDuty port.val ((s.to t).band port.val) duty jump
      if jump = true ∧ (!((s.to t).band port.val).jumped) = true then
        ok ((v.setFlag (B.GNB_PORT_STS_AGC_JUMP port.val) true).gnbEvent.interfere)
      else ok v := by
  subst hduty hjump
  have hgoes : ¬((!((s.to t).remeasure port.val).samples port.val) = true ∨
      ((s.to t).flag (B.GNB_PORT_CTL_AGC_HOLD port.val) || !(s.to t).flag (B.GNB_PORT_STS_SYNC port.val) ||
        ((s.to t).band port.val).rx.meas == 0) = true) := by
    rw [hsamples, hsync, hfree, hmeas]; decide
  exact if_neg hgoes

/-! ### Notches (R122) -/

/-- A spectrum without a line refreshes no notch. -/
theorem notches_refresh_none (l : List Notch) (cyc : Nat) :
    l.map (fun (n : Notch) => if [].contains n.bin then { n with last := cyc } else n) = l := by
  simp only [List.contains_nil, Bool.false_eq_true, if_false]
  exact List.map_id l

/-- The notches of a port whose line was seen within the last second. -/
def State.lastingNotches (s : State) (p : Nat) : List Notch :=
  (s.band p).notches.filter (fun n => decide (s.cyc < n.last + cycS))

/-- None of the notches that last is newly placed. -/
theorem State.lastingNotches_placed (s : State) (p : Nat) :
    (s.lastingNotches p).filter (fun n => !(s.band p).notches.any (fun m => m.bin == n.bin)) = [] := by
  refine List.filter_eq_nil_iff.mpr (fun n hn => ?_)
  have hplaced : (s.band p).notches.any (fun m => m.bin == n.bin) = true :=
    List.any_eq_true.mpr ⟨n, (List.mem_filter.mp hn).left, beq_self_eq_true n.bin⟩
  rw [hplaced]
  exact Bool.false_ne_true

/-- A spectrum without a line over the threshold keeps the notches that last, and each one dropped is an event. -/
theorem execSpectrumFft_noLine {s : State} {t : Nat} {port : Fin 2} {powers : List Nat}
    (hsamples : (s.to t).samples port.val = true) (hsync : (s.to t).flag (B.GNB_PORT_STS_SYNC port.val) = true)
    (hnone : ((List.range powers.length).zip powers).filter
      (fun l => decide (median2 powers + 20 * (s.to t).param P.NOTCH_THRESH ≤ 2 * l.2)) = []) :
    execSpectrumFft t port powers s =
      let x := (s.to t).band port.val
      let now := (s.to t).lastingNotches port.val
      ok ((((s.to t).setBand port.val { x with notches := now, prev := [], overran := false }).set
        (B.GNB_PORT_STS_NOTCHES port.val) now.length).gnbEvents
          (x.notches.filter (fun n => !now.any (fun m => m.bin == n.bin))).length) := by
  have hnew := (s.to t).lastingNotches_placed port.val
  unfold State.lastingNotches at hnew ⊢
  simp only [execSpectrumFft, hsamples, hsync, hnone, sortBy, List.foldr_nil, Bool.not_true, Bool.false_eq_true,
    or_self, if_false, List.map_nil, List.filter_nil, List.length_nil, List.take_nil, List.append_nil,
    notches_refresh_none, hnew, Nat.not_lt_zero, decide_false, false_and, Nat.zero_add, Nat.add_zero]

end Sys2Proof.Machine

namespace Sys2Proof
open Sys2Proof.Machine

/-- Settles O16: each clause is the case of its operation that the premises select. -/
theorem bandPortsComplete : Obligations.BandPortsComplete := by
  unfold Obligations.BandPortsComplete
  refine ⟨?bits, ?fourthBit, ?gains, ?loses, ?slip, ?full, ?duty, ?jump, ?spectrum⟩
  case bits =>
    intro s t port bits hsamples
    exact execPortSyncChange_samples hsamples
  case fourthBit =>
    rintro s t port b _ hsamples rfl h3 hfrm
    exact (execPortSyncChange_samples hsamples).trans (congrArg ok (State.portBit_fourth h3 hfrm))
  case gains =>
    rintro s t p bits _ rfl hsync hok hgood
    exact State.portSample_gains hsync hok hgood
  case loses =>
    intro s t p bits hsync hwrong height
    exact State.portSample_loses hsync hwrong height
  case slip =>
    intro s t port hsamples hwhole hslip
    exact execSampleCountCheck_slips hsamples hwhole hslip
  case full =>
    intro s t port hlow hhigh
    exact execSampleCountCheck_full hlow hhigh
  case duty =>
    rintro s t port _ rfl hsamples hsync hfree hmeas hbelow hjump
    exact (execAgcUpdate_moves hsamples hsync hfree hmeas (State.agcDuty_below hbelow) hjump).trans
      (if_neg (fun h => Bool.false_ne_true h.1))
  case jump =>
    rintro s t port _ rfl hsamples hsync hfree hmeas habove hjump hfirst
    exact (execAgcUpdate_moves hsamples hsync hfree hmeas (State.agcDuty_above habove) hjump).trans
      (if_pos ⟨rfl, by rw [hfirst]; rfl⟩)
  case spectrum =>
    intro s t port powers hsamples hsync hnone
    simp only [notches_refresh_none]
    exact execSpectrumFft_noLine hsamples hsync hnone

end Sys2Proof

/-!
The antenna supply and the channels of the base receiver (O17): what their operations do where they act.
-/

namespace Sys2Proof.Machine

/-! ### The antenna supply (R123) -/

/-- The current of a millisecond is reported, and joins the run of its class: `n` samples of it now. -/
def State.classed (s : State) (cur n : Nat) : State :=
  let x := s.wr Reg.GNB_ANT_CUR cur
  { x with gnb := { x.gnb with runClass := x.antClass cur, runLen := n } }

/-- With the bias off the current reads 0 and is not classed. -/
theorem execAntennaSample_off {s : State} {t : Nat} {cur : BitVec 16} (hruns : (s.to t).runs 5 (blkFront 0) = true)
    (hoff : (s.to t).antBias = false) :
    execAntennaSample t cur s =
      ok (({ s.to t with gnb := { (s.to t).gnb with runLen := 0 } } : State).wr Reg.GNB_ANT_CUR 0) := by
  simp only [execAntennaSample, hruns, hoff, Bool.not_true, Bool.not_false, Bool.false_eq_true, if_false, if_true]

/-- With the bias on a sample makes a run of `n`, and the tenth of a class takes effect. -/
theorem execAntennaSample_on {s : State} {t n : Nat} {cur : BitVec 16}
    (hruns : (s.to t).runs 5 (blkFront 0) = true) (hon : (s.to t).antBias = true)
    (hn : (let x := (s.to t).wr Reg.GNB_ANT_CUR cur.toNat
      if x.gnb.runClass = x.antClass cur.toNat then x.gnb.runLen + 1 else 1) = n) :
    execAntennaSample t cur s =
      if n = 10 then
        ok (((s.to t).classed cur.toNat n).antEffect (((s.to t).wr Reg.GNB_ANT_CUR cur.toNat).antClass cur.toNat))
      else ok ((s.to t).classed cur.toNat n) := by
  subst hn
  simp only [execAntennaSample, hruns, hon, Bool.not_true, Bool.false_eq_true, if_false]
  rfl

/-- Five seconds after a SHORT that did not latch the bias returns. -/
theorem execAntennaBiasRetry_returns {s : State} {t t0 : Nat} (hoff : (s.to t).gnb.offAt = some t0)
    (hdue : t0 + 5 * cycS ≤ (s.to t).cyc) (hunlatched : (s.to t).flag B.GNB_ANT_STS_LATCHED = false) :
    execAntennaBiasRetry t s = ok { s.to t with gnb := { (s.to t).gnb with offAt := none, runLen := 0 } } := by
  simp only [execAntennaBiasRetry, hoff]
  exact if_pos ⟨hdue, by rw [hunlatched]; rfl⟩

/-- A served write of GNB_ANT_CFG lets the bias return where it sets REARM while LATCHED stands. -/
theorem execAntRearm_reaches {s : State} {t : Nat} {rq : Requester} {val : Word}
    (hs : (s.to t).reaches rq Reg.GNB_ANT_CFG = true) :
    execAntRearm t rq val s =
      let x := ((s.to t).reached rq Reg.GNB_ANT_CFG true).softWrite Reg.GNB_ANT_CFG val
      ok (if val.getLsbD 1 = true ∧ x.flag B.GNB_ANT_STS_LATCHED = true then
        ({ x with gnb := { x.gnb with offAt := none, runLen := 0, shorts := 0 } } : State).setFlag
          B.GNB_ANT_STS_LATCHED false
      else x) :=
  congrArg ok (State.access_reaches hs)

/-! ### Channels (R120, R124, R125) -/

/-- The satellites of `l` are disabled: the channels that track one are freed, and the count reports them. -/
def State.disableSats (s : State) (l : List Nat) : State :=
  (({ s with gnb := { s.gnb with
    disabled := l
    chans := s.gnb.chans.filter (fun c => !(l.contains (satId c.2.sys c.2.prn))) } } : State).set
      B.GNB_TRK_DIS_CNT_COUNT l.length).reportTrack

/-- A served write of GNB_TRK_MASK_PRN with DISABLE that names a satellite disables it with those disabled before. -/
theorem execTrkMaskPrnWrite_disables {s : State} {t : Nat} {rq : Requester} {val : Word}
    (hs : (s.to t).reaches rq Reg.GNB_TRK_MASK_PRN = true) (hprn : fieldOf val 0 6 ≠ 0) (hsys : fieldOf val 6 2 ≠ 3)
    (hdis : val.getLsbD 8 = true) :
    execTrkMaskPrnWrite t rq val s =
      let x := ((s.to t).reached rq Reg.GNB_TRK_MASK_PRN true).softWrite Reg.GNB_TRK_MASK_PRN val
      let sat := satId (fieldOf val 6 2) (fieldOf val 0 6)
      ok (x.disableSats (x.gnb.disabled.filter (fun y => y != sat) ++ [sat])) := by
  simp only [execTrkMaskPrnWrite, State.access_reaches hs, if_neg (not_or.mpr ⟨hprn, hsys⟩), hdis, if_true]
  rfl

/-- A found signal takes channel `k`, locked from now on. -/
def State.takeChan (s : State) (k : Nat) (prn : BitVec 6) (sig : Fin 6) (elev : Int) : State :=
  { s with gnb := { s.gnb with
    chans := Sp.put s.gnb.chans k ⟨sig.val / 2, prn.toNat, sig.val, true, none, s.cyc, 0, elev, false⟩ } }

/-- The candidates that no channel tracks, beyond the free channels, are reported. -/
def State.reportUntracked (s : State) (known : List SigCand) : State :=
  (s.set B.GNB_TRK_STS_UNTRACKED (min 255 ((s.untracked known).length - s.freeChans.length))).reportTrack

/-- A signal that an engine found on a band in sync, among the candidates that take the free channels, takes the lowest
of them. -/
theorem execAcquisitionHandoff_takes {s : State} {t k : Nat} {engine : Fin 2} {prn : BitVec 6} {sig : Fin 6}
    {known : List SigCand} {x : SigCand} (hacq : (s.to t).runs 5 blkAcquire = true)
    (htrk : (s.to t).runs 5 blkTrack = true) (hengine : (s.to t).retiredGnb.contains (192 + engine.val) = false)
    (hfree : (s.to t).freeChans.head? = some k)
    (hfind : ((sortBy (s.to t).goesBefore ((s.to t).untracked known)).take (s.to t).freeChans.length).find?
      (fun y => y.prn == prn && y.sig == sig) = some x)
    (hsync : (s.to t).flag (B.GNB_PORT_STS_SYNC (bandOf sig.val)) = true) :
    execAcquisitionHandoff t engine prn sig known s =
      ok (((s.to t).takeChan k prn sig x.elev).reportUntracked known) := by
  simp only [execAcquisitionHandoff, hacq, htrk, hengine, hfree, hfind, hsync, Bool.not_true, Bool.false_eq_true,
    or_self, if_false, if_true]
  rfl

/-- A channel whose signal lost carrier lock, or has coasted for 100 ms, is freed. -/
theorem execSignalLockLoss_drops {s : State} {t : Nat} {ch : Fin 192} {carrier : Bool} {c : Chan}
    (hruns : (s.to t).runs 5 blkTrack = true) (hfind : Sp.find (s.to t).gnb.chans ch.val = some c)
    (hlost : carrier = true ∨ ∃ t0, c.coast = some t0 ∧ t0 + 100 * cycMs ≤ (s.to t).cyc) :
    execSignalLockLoss t ch carrier s = ok ((s.to t).dropChan ch.val) := by
  simp only [execSignalLockLoss, hfind]
  refine if_pos ⟨hruns, ?_⟩
  obtain hcarrier | ⟨t0, hcoast, hlong⟩ := hlost
  · rw [hcarrier, Bool.true_or]
  · rw [hcoast]
    exact Bool.or_eq_true_iff.mpr (.inr (decide_eq_true hlong))

end Sys2Proof.Machine

namespace Sys2Proof
open Sys2Proof.Machine

/-- Settles O17: each clause is the case of its operation that the premises select. -/
theorem antennaAndChannelsComplete : Obligations.AntennaAndChannelsComplete := by
  unfold Obligations.AntennaAndChannelsComplete
  refine ⟨?biasOff, ?tenth, ?another, ?first, ?retry, ?rearm, ?noRearm, ?disable, ?handoff, ?carrier, ?coasted⟩
  case biasOff =>
    intro s t cur hruns hoff
    exact execAntennaSample_off hruns hoff
  case tenth =>
    intro s t cur hruns hon hclass hnine
    exact (execAntennaSample_on hruns hon ((if_pos hclass).trans (congrArg (· + 1) hnine))).trans (if_pos rfl)
  case another =>
    intro s t cur hruns hon hclass hother
    exact (execAntennaSample_on hruns hon (if_pos hclass)).trans (if_neg (fun h => hother (Nat.succ.inj h)))
  case first =>
    intro s t cur hruns hon hclass
    exact (execAntennaSample_on hruns hon (if_neg hclass)).trans (if_neg (by decide))
  case retry =>
    intro s t t0 hoff hdue hunlatched
    exact execAntennaBiasRetry_returns hoff hdue hunlatched
  case rearm =>
    intro s t rq val hs hrearm hlatched
    exact (execAntRearm_reaches hs).trans (congrArg ok (if_pos ⟨hrearm, hlatched⟩))
  case noRearm =>
    intro s t rq val hs hunlatched
    exact (execAntRearm_reaches hs).trans
      (congrArg ok (if_neg (fun h => Bool.false_ne_true (hunlatched.symm.trans h.2))))
  case disable =>
    intro s t rq val hs hprn hsys hdis
    exact execTrkMaskPrnWrite_disables hs hprn hsys hdis
  case handoff =>
    rintro s t engine prn sig known _ _ k x hacq htrk hengine rfl rfl hfree hfind hsync
    exact execAcquisitionHandoff_takes hacq htrk hengine hfree hfind hsync
  case carrier =>
    intro s t ch c hruns hfind
    exact execSignalLockLoss_drops hruns hfind (.inl rfl)
  case coasted =>
    intro s t ch c t0 hruns hfind hcoast hlong
    exact execSignalLockLoss_drops hruns hfind (.inr ⟨t0, hcoast, hlong⟩)

end Sys2Proof

/-!
The reference position, surveys and bursts (O18) and base epochs (O19): what their operations do where they act.
-/

namespace Sys2Proof.Machine

/-! ### The reference position and its survey (R131 to R134) -/

/-- A NETWORK survey that is not suspended and has counted no second for 600 s ends. -/
theorem execSurveyNetworkTimeout_ends {s : State} {t : Nat} {v : Survey} {l : LongOp}
    (hruns : (s.to t).runs 5 blkTrack = true) (hsurvey : (s.to t).gnb.survey = some v)
    (hlong : (s.to t).longOf? v.ring v.tag = some l) (hnetwork : argBit l.start.arg1 0 = true)
    (hrunning : l.state ≠ .suspended) (hlate : v.last + 600 * cycS ≤ (s.to t).cyc) :
    execSurveyNetworkTimeout t s = ok ((s.to t).endSurvey l .failTimeout) := by
  simp only [execSurveyNetworkTimeout, hsurvey, hlong]
  exact if_pos ⟨hruns, hnetwork, hrunning, hlate⟩

/-! ### Bursts in Stabled (R137, R138) -/

/-- A burst runs: in Stabled with BURST_EN, before 60 empty ones in a row, within 40 ms of a second without
one yet. -/
def State.burstDue (s : State) : Prop :=
  s.chip.stabled ∧ s.param P.BURST_EN = 1 ∧ s.gnb.emptyBursts < 60 ∧ s.devNs % 10 ^ 9 ≤ 40 * 10 ^ 6 ∧
    s.devNs / 10 ^ 9 ≠ s.gnb.burstSec

/-- What a burst leaves of the receiver: the C/N0 it found on its channels, and how many in a row were empty. -/
def State.burstRan (s : State) (found : List (Nat × BitVec 8)) (empty : Nat) : State :=
  { s with gnb := { s.gnb with
    chans := s.gnb.chans.map (fun (x : Nat × Chan) => if s.burstChans.contains x.1 then
      (x.1, { x.2 with cn0 := match found.find? (fun f => f.1 == x.1) with | some f => f.2.toNat | none => 0 }) else x)
    burst := s.burstChans, burstSec := s.devNs / 10 ^ 9, emptyBursts := empty } }

/-- A burst with a clock solution corrects the servo. -/
theorem execStabledBurst_solution {s : State} {t : Nat} {bias : Int} {found : List (Nat × BitVec 8)}
    (h : (s.to t).burstDue) :
    execStabledBurst t (some bias) found s =
      let x := (s.to t).burstRan found 0
      ok (x.sample 1 (bias * 2 ^ 16 / 1000 - x.param P.GNSS_DELAY * 2 ^ 16)) := if_pos h

/-- A burst without one is counted. -/
theorem execStabledBurst_empty {s : State} {t : Nat} {found : List (Nat × BitVec 8)} (h : (s.to t).burstDue) :
    execStabledBurst t none found s = ok ((s.to t).burstRan found ((s.to t).gnb.emptyBursts + 1)) := if_pos h

/-! ### Base epochs (R127 to R130) -/

/-- A base epoch is measured: the tracking block steps outside Stabled, at a multiple of 50 ms newer than
the history. -/
def State.epochDue (s : State) (epoch : Nat) : Prop :=
  s.runs 5 blkTrack = true ∧ s.chip.stabled = false ∧ epoch % 50000000 = 0 ∧
    s.gnb.history.all (fun b => decide (b.epoch < epoch)) = true

/-- Nothing skips an epoch that is due. -/
theorem State.epochDue_goes {s : State} {epoch : Nat} (h : s.epochDue epoch) :
    ¬((!s.runs 5 blkTrack) = true ∨ s.chip.stabled = true ∨ epoch % 50000000 ≠ 0 ∨
      (!s.gnb.history.all (fun b => decide (b.epoch < epoch))) = true) := by
  obtain ⟨hruns, hawake, hwhole, hnewer⟩ := h
  rw [hruns, hawake, hwhole, hnewer]
  decide

/-- What the channels measured at an epoch in state `s` is kept; `carried` says that an item carried it. -/
def State.chansMeasured (s : State) (l : List (Nat × Chan × Meas)) (carried : Bool) : State :=
  { s with gnb := { s.gnb with chans := l.map (fun p => (p.1, p.2.1.after p.2.2 carried s.cyc)) } }

/-- The records of the channels measured, those at fault left out. -/
def State.recordsOf (s : State) (l : List (Nat × Chan × Meas)) : List BaseSig :=
  (l.filter (fun p => !p.2.1.fault)).map (fun p => s.recordOf p.1 p.2.1 p.2.2)

/-- The servo is sampled with the clock solution of a base item, and the item is delivered. -/
def State.clockBase (s : State) (b : BaseItem) : State :=
  (s.sample 1 (b.bias * 2 ^ 16 / 1000 - s.param P.GNSS_DELAY * 2 ^ 16)).deliverBase b

/-- An epoch with a clock solution that its signals allow is delivered; FIX, where it serves, tests it, and it is
corrected from. -/
theorem execBaseObsEpoch_delivers {s v : State} {t : Nat} {epoch sampled : BitVec 64} {ms : List Meas}
    {bias drift : Int} {sats : List SvRange} {l : List (Nat × Chan × Meas)} (hdue : (s.to t).epochDue epoch.toNat)
    (hmeasure : ((s.to t).applyRef sampled.toNat).measure ms ((s.to t).applyRef sampled.toNat).gnb.chans = (v, l))
    (hclock : v.clockPossible (v.recordsOf l) = true) :
    execBaseObsEpoch t epoch sampled ms (some (bias, drift)) sats s =
      let b := v.baseItem epoch.toNat sampled.toNat (v.recordsOf l) bias drift
      let x := (v.chansMeasured l true).clockBase b
      ok ((if x.up 6 then x.fixBaseEpoch b sats else x).corrections b) := by
  unfold State.recordsOf at hclock
  simp only [execBaseObsEpoch, if_neg (State.epochDue_goes hdue), hmeasure, hclock, if_true]
  rfl

/-- An epoch without a clock solution delivers nothing, and what its channels owe stays owed. -/
theorem execBaseObsEpoch_noClock {s v : State} {t : Nat} {epoch sampled : BitVec 64} {ms : List Meas}
    {sats : List SvRange} {l : List (Nat × Chan × Meas)} (hdue : (s.to t).epochDue epoch.toNat)
    (hmeasure : ((s.to t).applyRef sampled.toNat).measure ms ((s.to t).applyRef sampled.toNat).gnb.chans = (v, l)) :
    execBaseObsEpoch t epoch sampled ms none sats s = ok (v.chansMeasured l false) := by
  simp only [execBaseObsEpoch, if_neg (State.epochDue_goes hdue), hmeasure]
  rfl

end Sys2Proof.Machine

namespace Sys2Proof
open Sys2Proof.Machine

/-- Settles O18: each clause is the case of its operation that the premises select. -/
theorem referenceAndSurveyComplete : Obligations.ReferenceAndSurveyComplete := by
  unfold Obligations.ReferenceAndSurveyComplete
  refine ⟨?setRef, ?survey, ?networkTimeout, ?burst, ?emptyBurst, ?outage⟩
  case setRef =>
    intro s t it late hgoes
    exact congrArg ok (State.runOp_goes hgoes)
  case survey =>
    intro s t it late hgoes
    exact congrArg ok (State.runOp_goes hgoes)
  case networkTimeout =>
    intro s t v l hruns hsurvey hlong hnetwork hrunning hlate
    exact execSurveyNetworkTimeout_ends hruns hsurvey hlong hnetwork hrunning hlate
  case burst =>
    rintro s t bias found _ hst hen hfew hearly hnew rfl
    exact execStabledBurst_solution ⟨hst, hen, hfew, hearly, hnew⟩
  case emptyBurst =>
    intro s t found hst hen hfew hearly hnew
    exact execStabledBurst_empty ⟨hst, hen, hfew, hearly, hnew⟩
  case outage =>
    intro s t epoch hlate hwhole hnone hnew
    exact if_pos ⟨hlate, hwhole, hnone, hnew⟩

/-- Settles O19: the epoch is measured, and what is made of it rests on the clock solution. -/
theorem baseEpochCompletes : Obligations.BaseEpochCompletes := by
  unfold Obligations.BaseEpochCompletes
  refine ⟨?delivers, ?noClock⟩
  case delivers =>
    rintro s t epoch sampled ms bias drift sats v _ l _ _ hruns hawake hwhole hnewer hmeasure rfl hclock rfl rfl
    exact execBaseObsEpoch_delivers ⟨hruns, hawake, hwhole, hnewer⟩ hmeasure hclock
  case noClock =>
    intro s t epoch sampled ms sats v l hruns hawake hwhole hnewer hmeasure
    exact execBaseObsEpoch_noClock (sats := sats) ⟨hruns, hawake, hwhole, hnewer⟩ hmeasure

end Sys2Proof

/-!
The epochs at FIX and their ambiguity searches (O20) and the operations of FIX (O21): what they do where they act.
-/

namespace Sys2Proof.Machine

/-! ### Epochs at FIX (R44, R145, R164) -/

/-- Entry `e` is at FIX with the observation words `ws`, the solver steps, and no search is kept for its item yet. -/
def State.epochAtFix (s : State) (id : Nat) (e : Entry) (ws : List (BitVec 64)) : Prop :=
  s.entryOf? id = some e ∧ Sp.find s.fix.obs id = some ws ∧ e.place = .at_ .fix ∧ s.runs 6 blkSolver = true ∧
    s.fix.searches.any (fun v => v.item.id == id) = false

/-- An epoch at FIX that no later one of its flow replaces and that passes the checks of Table FIX-4. -/
def State.epochAccepted (s : State) (id : Nat) (e : Entry) (ws : List (BitVec 64)) : Prop :=
  s.epochAtFix id e ws ∧ s.laterObs e.item = false ∧ s.obsCheck e.item.ctx (obsSlotEnd ws) (obsReport ws) = none

/-- Nothing skips an epoch at FIX. -/
theorem State.epochAtFix_goes {s : State} {id : Nat} {e : Entry} {ws : List (BitVec 64)} (h : s.epochAtFix id e ws) :
    ¬(e.place ≠ .at_ .fix ∨ (!s.runs 6 blkSolver) = true ∨ s.fix.searches.any (fun v => v.item.id == id) = true) := by
  obtain ⟨_, _, hplace, hruns, hnew⟩ := h
  rw [hplace, hruns, hnew]
  decide

/-- An epoch with a later one behind it is counted stale and ends without a solution. -/
theorem execFixSolve_stale {s : State} {t id : Nat} {sol : FixSol} {e : Entry} {ws : List (BitVec 64)}
    (h : (s.to t).epochAtFix id e ws) (hlater : (s.to t).laterObs e.item = true) :
    execFixSolve t id sol s = ok ((((s.to t).count Reg.FIX_CNT_STALE).setFlag B.FIX_STS_STALE true).endEpoch
      e.item 6 noCell .done .stale 0) := by
  have hgoes := State.epochAtFix_goes h
  obtain ⟨hentry, hobs, _⟩ := h
  simp only [execFixSolve, hentry, hobs, if_neg hgoes, hlater, if_true]

/-- An epoch that fails a check of Table FIX-4 ends with the status of that check. -/
theorem execFixSolve_fails {s : State} {t id : Nat} {sol : FixSol} {e : Entry} {ws : List (BitVec 64)} {st : Status}
    (h : (s.to t).epochAtFix id e ws) (hlast : (s.to t).laterObs e.item = false)
    (hcheck : (s.to t).obsCheck e.item.ctx (obsSlotEnd ws) (obsReport ws) = some st) :
    execFixSolve t id sol s = ok ((s.to t).endEpoch e.item 6 noCell st .failed 0) := by
  have hgoes := State.epochAtFix_goes h
  obtain ⟨hentry, hobs, _⟩ := h
  simp only [execFixSolve, hentry, hobs, if_neg hgoes, hlast, hcheck, Bool.false_eq_true, if_false]

/-- An accepted epoch whose base epoch has been delivered is solved with it. -/
theorem execFixSolve_withBase {s : State} {t id : Nat} {sol : FixSol} {e : Entry} {ws : List (BitVec 64)} {b : BaseItem}
    (h : (s.to t).epochAccepted id e ws) (hbase : (s.to t).baseItem? (obsReport ws).epoch.toNat = some b) :
    execFixSolve t id sol s = ok ((s.to t).solve e.item (obsReport ws) (some b) sol) := by
  obtain ⟨hat, hlast, hcheck⟩ := h
  have hgoes := State.epochAtFix_goes hat
  obtain ⟨hentry, hobs, _⟩ := hat
  simp only [execFixSolve, hentry, hobs, if_neg hgoes, hlast, hcheck, hbase, Bool.false_eq_true, if_false]

/-- An accepted epoch whose base epoch came late or is out is solved without one. -/
theorem execFixSolve_withoutBase {s : State} {t id : Nat} {sol : FixSol} {e : Entry} {ws : List (BitVec 64)}
    (h : (s.to t).epochAccepted id e ws) (hnone : (s.to t).baseItem? (obsReport ws).epoch.toNat = none)
    (hout : ((s.to t).fix.late.contains (obsReport ws).epoch.toNat ||
      (s.to t).fix.missing.any (fun m => decide ((obsReport ws).epoch.toNat ≤ m))) = true) :
    execFixSolve t id sol s = ok ((s.to t).solve e.item (obsReport ws) none sol) := by
  obtain ⟨hat, hlast, hcheck⟩ := h
  have hgoes := State.epochAtFix_goes hat
  obtain ⟨hentry, hobs, _⟩ := hat
  simp only [execFixSolve, hentry, hobs, if_neg hgoes, hlast, hcheck, hnone, hout, Bool.false_eq_true, if_false,
    if_true]

/-! ### Ambiguity searches (R153 to R155) -/

/-- A search on a unit runs with the parameters its epoch started with (R23). -/
theorem execAmbiguitySearch_starts {s : State} {t : Nat} {ctx : BitVec 8} {attempts : List Attempt} {v : Solving}
    (hunit : ((s.to t).liveSearches.take ((s.to t).get B.FIX_CAP_UNITS)).find?
      (fun v => v.item.ctx == ctx.toNat) = some v)
    (hruns : (s.to t).runs 6 blkSearch = true) :
    execAmbiguitySearch t ctx attempts s = ok ((s.to t).under v.live (fun s => s.search v attempts)) := by
  simp only [execAmbiguitySearch, hunit, hruns, Bool.not_true, Bool.false_eq_true, if_false]

/-- A search within SEARCH_WAIT whose attempts end it applies what they found. -/
theorem State.search_finds {s : State} {v : Solving} {attempts : List Attempt} {q : Found} (hmay : s.mayStart v = true)
    (hends : s.searchSet (s.fixCtx v.item.ctx).work.g (s.fixCtx v.item.ctx).work.floats (s.param P.PAR_DROP)
      (s.param P.MIN_FIX - (s.fixCtx v.item.ctx).work.nfix) (s.param P.SEARCH_NODES) attempts = some q) :
    s.search v attempts = s.applySearch v q := by
  simp only [State.search, hmay, hends, Bool.not_true, Bool.false_eq_true, if_false]

/-- The accepted set is fixed, and the epoch finishes with its ratio, marked where the set is a part of the floats. -/
theorem State.applySearch_set {s : State} {v : Solving} {q : Found} {l : List (Nat × Int)} (hset : q.set = some l) :
    s.applySearch v q =
      let x := s.fixCtx v.item.ctx
      (s.setFixCtx v.item.ctx (x.setWork (x.work.fix l))).finishSolve
        { v with flags := withFlag v.flags 8 (l.length != x.work.floats.length), ratio := q.ratio } := by
  simp only [State.applySearch, hset]

/-- Without an accepted set the epoch finishes with the last ratio, counted and marked where the node limit ended it. -/
theorem State.applySearch_none {s : State} {v : Solving} {q : Found} (hset : q.set = none) :
    s.applySearch v q = (if q.cap then s.count Reg.FIX_CNT_NODECAP else s).finishSolve
      { v with flags := withFlag v.flags 10 q.cap, ratio := q.ratio } := by
  simp only [State.applySearch, hset]

/-- A search that found no unit within SEARCH_WAIT is counted as skipped, and its epoch finishes without it. -/
theorem execSearchWaitExpiry_skips {s : State} {t : Nat} {ctx : BitVec 8} {v : Solving}
    (hfind : (s.to t).liveSearches.find? (fun v => v.item.ctx == ctx.toNat) = some v)
    (hlate : ((s.to t).withLive v.live).mayStart v = false)
    (hruns : ((s.to t).withLive v.live).runs 6 blkSolver = true) :
    execSearchWaitExpiry t ctx s = ok ((s.to t).under v.live (fun s =>
      (s.count Reg.FIX_CNT_SKIP).finishSolve { v with flags := withFlag v.flags 7 true })) := by
  simp only [execSearchWaitExpiry, State.under, hfind, hlate, hruns, Bool.not_true, Bool.false_eq_true, or_self,
    if_false]

/-! ### REINIT (R167) -/

/-- The joined contexts that a REINIT selects. -/
def State.reinitSelects (s : State) (it : Item) (mask : List Byte) : List Nat :=
  s.joinedCtx.filter (reinitMask it.d mask)

/-- A REINIT of the contexts `l` begins, with WAIT_FIX as its first argument says. -/
def State.beginReinit (s : State) (it : Item) (l : List Nat) : State :=
  let x := s.startLong it 6 l.length 0
  ({ x with fix := { x.fix with reinit := some ⟨it.handle.1, it.handle.2, argBit it.d.arg0 0, l, [], 0, 0⟩ } } :
    State).setFlag B.FIX_STS_REINIT_ACTIVE true

/-- What a REINIT is checked against: no context operand, no mask or one of 32 bytes, and no REINIT under way. -/
def State.reinitChecks (s : State) (it : Item) : Checks :=
  { Checks.pass with
    range := it.d.context == 0 && ((it.d.ptr == 0 && it.d.len == 0) || it.d.len == 32)
    state := s.fix.reinit.isNone }

/-- A REINIT that goes acts on the contexts it selects. -/
theorem execReinit_goes {s : State} {t : Nat} {it : Item} {mask : List Byte} {late : Bool}
    (hgoes : (s.to t).goes 6 it ((s.to t).reinitChecks it) late = true) :
    execReinit t it mask s =
      let x := (s.to t).unwait it.id
      let l := x.reinitSelects it mask
      ok (if l.isEmpty then x.finish (it.acting late) 6 .done else x.beginReinit (it.acting late) l) :=
  congrArg ok (State.runOp_goes hgoes)

end Sys2Proof.Machine

namespace Sys2Proof
open Sys2Proof.Machine

/-- Settles O20: each clause is the case of its operation that the premises select. -/
theorem fixEpochsComplete : Obligations.FixEpochsComplete := by
  unfold Obligations.FixEpochsComplete
  refine ⟨?stale, ?failed, ?withBase, ?withoutBase, ?search, ?accepts, ?acceptsNone, ?expiry⟩
  case stale =>
    intro s t id sol e ws hentry hobs hplace hruns hnew hlater
    exact execFixSolve_stale ⟨hentry, hobs, hplace, hruns, hnew⟩ hlater
  case failed =>
    intro s t id sol e ws st hentry hobs hplace hruns hnew hlast hcheck
    exact execFixSolve_fails ⟨hentry, hobs, hplace, hruns, hnew⟩ hlast hcheck
  case withBase =>
    intro s t id sol e ws b hentry hobs hplace hruns hnew hlast hcheck hbase
    exact execFixSolve_withBase ⟨⟨hentry, hobs, hplace, hruns, hnew⟩, hlast, hcheck⟩ hbase
  case withoutBase =>
    intro s t id sol e ws hentry hobs hplace hruns hnew hlast hcheck hnone hout
    exact execFixSolve_withoutBase ⟨⟨hentry, hobs, hplace, hruns, hnew⟩, hlast, hcheck⟩ hnone hout
  case search =>
    intro s t ctx attempts v hunit hruns
    exact execAmbiguitySearch_starts hunit hruns
  case accepts =>
    rintro s t ctx attempts v l q _ _ rfl rfl hunit hruns hmay hends hset
    have hfound := (State.search_finds hmay hends).trans (State.applySearch_set hset)
    exact (execAmbiguitySearch_starts hunit hruns).trans
      (congrArg (fun y : State => ok (y.withLive (s.to t).live)) hfound)
  case acceptsNone =>
    rintro s t ctx attempts v q _ _ rfl rfl hunit hruns hmay hends hset
    have hfound := (State.search_finds hmay hends).trans (State.applySearch_none hset)
    exact (execAmbiguitySearch_starts hunit hruns).trans
      (congrArg (fun y : State => ok (y.withLive (s.to t).live)) hfound)
  case expiry =>
    intro s t ctx v hfind hlate hruns
    exact execSearchWaitExpiry_skips hfind hlate hruns

/-- Settles O21: each clause is the case of its operation that the premises select. -/
theorem fixOperationsComplete : Obligations.FixOperationsComplete := by
  unfold Obligations.FixOperationsComplete
  refine ⟨?resetCtx, ?readCtx, ?reinitNone, ?reinitSome⟩
  case resetCtx =>
    intro s t it late hgoes
    exact congrArg ok (State.runOp_goes hgoes)
  case readCtx =>
    intro s t it late hgoes
    exact congrArg ok (State.runOp_goes hgoes)
  case reinitNone =>
    intro s t it mask late hgoes hnone
    exact (execReinit_goes hgoes).trans (congrArg ok (if_pos hnone))
  case reinitSome =>
    intro s t it mask late hgoes hsome
    exact (execReinit_goes hgoes).trans (congrArg ok (if_neg (ne_true_of_eq_false hsome)))

end Sys2Proof

/-!
Suspect satellites, interference, spoofing, the correction input and the reference monitor (O22): what their
operations do where their conditions hold.
-/

namespace Sys2Proof.Machine

/-! ### Suspect satellites (R177) -/

/-- A SUSPECT satellite clean for SV_CLEAR_S at the last base epoch returns. -/
theorem execSvSuspectClear_returns {s : State} {t : Nat} {sat : Fin 192} {p : Nat × Nat} {q : BaseItem}
    (hlast : (s.to t).gnb.history.getLast? = some q)
    (hclean : (s.to t).fix.clean.find? (fun p => p.1 == sat.val) = some p)
    (hsuspect : (s.to t).suspect sat.val = true)
    (hlong : p.2 + (s.to t).param P.SV_CLEAR_S * 10 ^ 9 ≤ q.epoch) :
    execSvSuspectClear t sat s = ok ((s.to t).clearSuspect sat.val) := by
  simp only [execSvSuspectClear, hlast, hclean]
  exact if_pos ⟨hsuspect, hlong⟩

/-! ### Interference (R179) -/

/-- While the solver steps, a drop of the fleet sets INTERFERENCE or starts its hold again. -/
theorem execInterferenceChange_falls {s : State} {t : Nat} (hruns : (s.to t).runs 6 blkSolver = true)
    (hfalls : (s.to t).cn0Falls = true) : execInterferenceChange t s = ok (s.to t).interfere := by
  simp only [execInterferenceChange, hruns, hfalls, Bool.not_true, Bool.false_eq_true, if_false, if_true]

/-- While the solver steps, a hold that passed without a drop ends INTERFERENCE. -/
theorem execInterferenceChange_ends {s : State} {t : Nat} (hruns : (s.to t).runs 6 blkSolver = true)
    (hfalls : (s.to t).cn0Falls = false) (hset : (s.to t).flag B.FIX_INTEG_STS_INTERFERENCE = true)
    (hheld : (s.to t).fix.interfAt + (s.to t).param P.INTERF_HOLD * cycS ≤ (s.to t).cyc) :
    execInterferenceChange t s =
      ok (((s.to t).setFlag B.FIX_INTEG_STS_INTERFERENCE false).integEvent 3 0 0) := by
  simp only [execInterferenceChange, hruns, hfalls, Bool.not_true, Bool.false_eq_true, if_false]
  exact if_pos ⟨hset, hheld⟩

/-! ### The spoofing latch (R182) -/

/-- SPOOF_SUSPECT and its cause are cleared, GNSS may return to the vote, the tests start over, and the event is
posted. -/
def State.spoofCleared (s : State) : State :=
  let x := ((s.setFlag B.FIX_INTEG_STS_SPOOF_SUSPECT false).set B.FIX_INTEG_STS_SPOOF_CAUSE 0).setFlag
    B.TIM_SRC_STS_EXCL_SPOOF false
  ({ x with fix := { x.fix with anchors := [] } } : State).integEvent 5 0 0

/-- While SPOOF_SUSPECT is set and a test failed at `c`, a served SPOOF_CLEAR is granted exactly when SPOOF_CLEAN_S has
passed since. -/
theorem execSpoofClear_reaches {s x : State} {t : Nat} {rq : Requester} {c : Nat}
    (hs : (s.to t).reaches rq Reg.FIX_INTEG_CMD = true) (hx : x = (s.to t).reached rq Reg.FIX_INTEG_CMD true)
    (hsuspect : x.flag B.FIX_INTEG_STS_SPOOF_SUSPECT = true) (hfailed : x.fix.failedAt = some c) :
    execSpoofClear t rq s = ok (if c + x.param P.SPOOF_CLEAN_S * 10 ^ 9 ≤ x.devNs then x.spoofCleared
      else x.setFlag B.FIX_INTEG_STS_CLEAR_REJ true) := by
  subst hx
  simp only [execSpoofClear, State.access_reaches hs, hsuspect, hfailed, Bool.not_true, Bool.false_eq_true, if_false,
    decide_eq_true_eq]
  rfl

/-! ### The correction input (R189) -/

/-- With no usable epoch for INPUT_GAP a gap begins: the station is given up, and the event is posted. -/
theorem execRtcmInputGap_begins {s v : State} {t : Nat} {frames : List (List Byte)}
    (hport : (s.to t).param P.IN_UDP_PORT ≠ 0) (hframes : (s.to t).rtcmIns frames = (v, false))
    (hnew : v.fix.inGap = false) (hlate : v.fix.inputAt + v.param P.INPUT_GAP * cycS ≤ v.cyc) :
    execRtcmInputGap t frames s = ok (({ v with
      fix := { v.fix with inGap := true, inputOn := false, station := none, stationPos := none } } :
        State).freeEvent (some .rtcm) 6) := by
  simp only [execRtcmInputGap, if_neg hport, hframes, hnew, Bool.false_eq_true, if_false]
  exact if_pos ⟨rfl, hlate⟩

/-- A usable epoch ends a gap with an event. -/
theorem execRtcmInputGap_ends {s v : State} {t : Nat} {frames : List (List Byte)}
    (hport : (s.to t).param P.IN_UDP_PORT ≠ 0) (hframes : (s.to t).rtcmIns frames = (v, true))
    (hgap : v.fix.inGap = true) :
    execRtcmInputGap t frames s = ok (({ v with
      fix := { v.fix with inputAt := v.cyc, inGap := false, inputOn := true } } :
        State).freeEvent (some .rtcm) 6) := by
  simp only [execRtcmInputGap, if_neg hport, hframes, hgap, if_true]

/-! ### The reference monitor (R190) -/

/-- The monitor has looked at the present second, and `n` seconds in succession were over REF_MON_MAX. -/
def State.monitored (s : State) (n : Nat) : State :=
  { s with fix := { s.fix with monRun := n, monSec := s.devNs / 10 ^ 9 } }

/-- The next second over REF_MON_MAX is counted, and the sixtieth posts the event. -/
theorem execRefMonitor_over {s : State} {t : Nat} {base : Int × Int × Int}
    (hnext : (s.to t).devNs / 10 ^ 9 = (s.to t).fix.monSec + 1) (hvalid : (s.to t).param P.REF_STS % 2 = 1)
    (hinput : (s.to t).fix.inputOn = true) (hport : (s.to t).param P.IN_UDP_PORT ≠ 0)
    (haway : (s.to t).refAway base = true) :
    execRefMonitor t base s =
      let n := (s.to t).fix.monRun + 1
      ok (if n = 60 then ((s.to t).monitored n).integEvent 6 0 0 else (s.to t).monitored n) := by
  have hnew : (s.to t).devNs / 10 ^ 9 ≠ (s.to t).fix.monSec := hnext ▸ Nat.succ_ne_self _
  have hcounts : ((s.to t).param P.REF_STS % 2 = 1 ∧ (s.to t).fix.inputOn = true ∧
      (s.to t).param P.IN_UDP_PORT ≠ 0) ∧ (s.to t).refAway base = true := ⟨⟨hvalid, hinput, hport⟩, haway⟩
  simp only [execRefMonitor, if_neg hnew, if_pos hnext, if_pos hcounts]
  rfl

/-- A new second within REF_MON_MAX starts the count over and posts nothing. -/
theorem execRefMonitor_within {s : State} {t : Nat} {base : Int × Int × Int}
    (hnew : (s.to t).devNs / 10 ^ 9 ≠ (s.to t).fix.monSec) (hnear : (s.to t).refAway base = false) :
    execRefMonitor t base s = ok ((s.to t).monitored 0) := by
  simp only [execRefMonitor, if_neg hnew, hnear, Bool.false_eq_true, and_false, if_false]
  rfl

end Sys2Proof.Machine

namespace Sys2Proof
open Sys2Proof.Machine

/-- Settles O22: each clause is the case of its operation that the premises select. -/
theorem integrityCommandsComplete : Obligations.IntegrityCommandsComplete := by
  unfold Obligations.IntegrityCommandsComplete
  refine ⟨?suspectClear, ?falls, ?holdEnds, ?granted, ?refused, ?clearAll, ?gapBegins, ?gapEnds, ?sixtieth, ?within⟩
  case suspectClear =>
    intro s t sat p q hlast hclean hsuspect hlong
    exact execSvSuspectClear_returns hlast hclean hsuspect hlong
  case falls =>
    intro s t hruns hfalls
    exact execInterferenceChange_falls hruns hfalls
  case holdEnds =>
    intro s t hruns hfalls hset hheld
    exact execInterferenceChange_ends hruns hfalls hset hheld
  case granted =>
    intro s t rq c hs hsuspect hfailed hclean
    exact (execSpoofClear_reaches hs rfl hsuspect hfailed).trans (congrArg ok (if_pos hclean))
  case refused =>
    intro s t rq c hs hsuspect hfailed hrecent
    exact (execSpoofClear_reaches hs rfl hsuspect hfailed).trans (congrArg ok (if_neg (Nat.not_le.mpr hrecent)))
  case clearAll =>
    intro s t rq hs
    exact congrArg ok (State.access_reaches hs)
  case gapBegins =>
    intro s t frames v hport hframes hnew hlate
    exact execRtcmInputGap_begins hport hframes hnew hlate
  case gapEnds =>
    intro s t frames v hport hframes hgap
    exact execRtcmInputGap_ends hport hframes hgap
  case sixtieth =>
    intro s t base hnext hvalid hinput hport haway hrun
    have hcounts := execRefMonitor_over hnext hvalid hinput hport haway
    rw [hrun] at hcounts
    exact hcounts
  case within =>
    intro s t base hnew hnear
    exact execRefMonitor_within hnew hnear

end Sys2Proof

/-!
The operations of PAD (O25): what they do where their checks pass, under the locks of their tiles, and where a cell word
fails.
-/

namespace Sys2Proof.Machine

/-! ### Cell words and locks (R206, R230) -/

/-- What reads a cell word that fails repairs the cell, and ends as it must. -/
theorem State.readCellsOr_fails {s : State} {bad : BadCell} {o : Nat × Nat} {fails : State → Nat × Nat → State}
    {act : State → State} (hseen : s.badSeen bad = some o) :
    s.readCellsOr (some bad) fails act = fails (s.repairCell bad) o := by
  simp only [State.readCellsOr, Option.bind_some, hseen, Option.map_some]

/-- A requester that holds its locks once it has asked for them acts and releases them. -/
theorem State.withLocks_holds {s v : State} {who : Locker} {tiles : List Nat} {act : State → State}
    (hasked : v = s.askLocks who tiles) (hholds : v.holdsLocks who = true) :
    s.withLocks who tiles act = (act v).freeLocks (fun l => l == who) := by
  subst hasked
  exact if_pos hholds

/-! ### COMMIT and WHAT_IF (R222, R236) -/

/-- A request without a cause, of a context that may sweep, takes its turn for a place. -/
theorem State.enqueueSweep_seats {s : State} {it : Item} {q : SweepReq} {len : Option Nat}
    (hcause : s.causeBefore q len = 0) (hmay : s.sweepState it.ctx true = true) :
    s.enqueueSweep it q len =
      ({ s with pad := { s.pad with sweeps := s.pad.sweeps ++ [Sweep.mk it q s.live] } } : State).seatSweeps := by
  simp only [State.enqueueSweep, hcause, hmay, ne_eq, not_true_eq_false, Bool.not_true, Bool.false_eq_true, if_false]

/-- A COMMIT whose request has no cause runs as any operation does. -/
theorem execPadCommit_goes {s : State} {t : Nat} {it : Item} {raw : List Byte} {late : Bool}
    (hcause : (s.to t).causeBefore (SweepReq.ofBytes raw) (some it.d.len.toNat) = 0)
    (hgoes : (s.to t).goes 7 it
      { Checks.pass with range := it.d.context != 0, state := (s.to t).sweepState it.ctx true } late = true) :
    execPadCommit t it raw s = ok (((s.to t).unwait it.id).enqueueSweep (it.acting late) (SweepReq.ofBytes raw)
      (some it.d.len.toNat)) := by
  simp only [execPadCommit, hcause]
  exact (if_neg (by simp)).trans (congrArg ok (State.runOp_goes hgoes))

/-- The candidates in the buffer of a WHAT_IF. -/
def whatIfCands (raw : List Byte) : List SweepReq := candsOf (leAt raw 0 1) (raw.drop 16)

/-- What a WHAT_IF is checked against: a context that may sweep, 1 to 16 candidates, and a buffer that holds them. -/
def State.whatIfChecks (s : State) (it : Item) (raw : List Byte) : Checks :=
  { Checks.pass with
    range := it.d.context != 0 && 1 ≤ leAt raw 0 1 && leAt raw 0 1 ≤ 16 &&
      (16 + ((whatIfCands raw).map (fun q => 16 + 12 * q.nsamp.toNat)).sum) ≤ it.d.len.toNat
    state := s.sweepState it.ctx true }

/-- A WHAT_IF that goes reads the cells and answers its candidates. -/
theorem execWhatIf_goes {s : State} {t : Nat} {it : Item} {raw : List Byte} {bad : Option BadCell} {late : Bool}
    {g : PadGeom} {sh : Shape} (hgoes : (s.to t).goes 7 it ((s.to t).whatIfChecks it raw) late = true)
    (hgeom : ((s.to t).unwait it.id).pad.geom = some g)
    (hshape : Sp.find ((s.to t).unwait it.id).pad.shapes it.ctx = some sh) :
    execWhatIf t it raw bad s = ok (((s.to t).unwait it.id).readCells (it.acting late) bad
      (fun s => s.answerGuesses (it.acting late) g sh (whatIfCands raw))) := by
  refine congrArg ok ((State.runOp_goes hgoes).trans ?_)
  simp only [hgeom, Item.acting_ctx, hshape]
  rfl

/-! ### RELEASE and SET_HOLD (R215, R237) -/

/-- A RELEASE or SET_HOLD whose cell words are good uses its tiles, does its work and releases its locks. -/
theorem State.actWait_acts {s x : State} {it : Item}
    (hx : x = { s with pad := { s.pad with waits := s.pad.waits.filter (fun y => y.item.id != it.id) } }) :
    s.actWait ⟨it, none⟩ =
      let y := (x.waitTiles it).foldl (fun (s : State) t => s.useTile t) x
      (if it.d.opcode = 0x7003 then y.holdCells it else y.releaseCells it).leaveLocks (fun l => l == .item it.id) := by
  subst hx
  rfl

/-! ### MAP_EXPORT and READ_CELL (R209, R214) -/

/-- A MAP_EXPORT that goes begins its long operation over all tiles of the map. -/
theorem execMapExport_begins {s : State} {t : Nat} {it : Item} {late : Bool} {g : PadGeom}
    (hgoes : (s.to t).goes 7 it
      { Checks.pass with range := it.d.context == 0 && (s.to t).exportFits it.d, state := (s.to t).mapValid } late
        = true)
    (hgeom : ((s.to t).unwait it.id).pad.geom = some g) :
    execMapExport t it s =
      let x := ((s.to t).unwait it.id).startLong (it.acting late) 7 g.tiles 0
      ok { x with pad := { x.pad with
        exports := x.pad.exports ++ [⟨it.handle.1, it.handle.2, argBit it.d.arg0 0, 0, 0⟩] } } := by
  refine congrArg ok ((State.runOp_goes hgoes).trans ?_)
  simp only [hgeom]
  rfl

/-- The key of the cell that a READ_CELL names. -/
def PadGeom.cellRead (g : PadGeom) (d : Desc) : Nat :=
  g.key (((argBits d.arg0 15 0 : Nat) : Int), ((argBits d.arg0 31 16 : Nat) : Int))

/-- A READ_CELL that goes and whose word is good grooms an aged tile and returns the cell word in two halves. -/
theorem execReadCell_returns {s : State} {t : Nat} {it : Item} {late : Bool} {g : PadGeom}
    (hgoes : (s.to t).goes 7 it
      { Checks.pass with range := it.d.context == 0 && (s.to t).cellNamed it.d, state := (s.to t).mapValid } late
        = true)
    (hgeom : ((s.to t).unwait it.id).pad.geom = some g) :
    execReadCell t it false s =
      let x := ((s.to t).unwait it.id).groomAged (g.cellRead it.d / 4096)
      ok (x.finish (it.acting late) 7 .done
        ⟨x.cellWord (g.cellRead it.d) % 2 ^ 64, x.cellWord (g.cellRead it.d) / 2 ^ 64, 0⟩) := by
  refine congrArg ok ((State.runOp_goes hgoes).trans ?_)
  simp only [hgeom]
  rfl

end Sys2Proof.Machine

namespace Sys2Proof
open Sys2Proof.Machine

/-- Settles O25: each clause is the case of its operation that the premises select. -/
theorem padOperationsComplete : Obligations.PadOperationsComplete := by
  unfold Obligations.PadOperationsComplete
  refine ⟨?commit, ?whatIf, ?whatIfFails, ?release, ?setHold, ?releaseActs, ?released, ?holdActs, ?held, ?setShape,
    ?mapImport, ?mapExport, ?readCell⟩
  case commit =>
    rintro s t it raw _ late rfl hbefore hgoes hcause hmay
    exact (execPadCommit_goes hbefore hgoes).trans (congrArg ok (State.enqueueSweep_seats hcause hmay))
  case whatIf =>
    rintro s t it raw _ late g sh rfl hgoes hgeom hshape
    exact execWhatIf_goes hgoes hgeom hshape
  case whatIfFails =>
    rintro s t it raw _ bad o late g sh rfl hgoes hgeom hshape hseen
    exact (execWhatIf_goes hgoes hgeom hshape).trans (congrArg ok (State.readCellsOr_fails hseen))
  case release =>
    rintro s t it late v w hgoes rfl hwaits hw hasked hholds
    exact congrArg ok ((State.runOp_goes hgoes).trans (State.waitLocks_acts hwaits hasked hw hholds))
  case setHold =>
    rintro s t it late v w hgoes rfl hwaits hw hasked hholds
    exact congrArg ok ((State.runOp_goes hgoes).trans (State.waitLocks_acts hwaits hasked hw hholds))
  case releaseActs =>
    intro s t it x hop hx
    exact (State.actWait_acts hx).trans (congrArg (State.leaveLocks · _) (if_neg hop))
  case released =>
    rintro s t it _ rfl
    rfl
  case holdActs =>
    intro s t it x hop hx
    exact (State.actWait_acts hx).trans (congrArg (State.leaveLocks · _) (if_pos hop))
  case held =>
    intro s t it
    rfl
  case setShape =>
    rintro s t it raw _ late rfl hgoes
    exact congrArg ok (State.runOp_goes hgoes)
  case mapImport =>
    rintro s t it raw hashOk _ late rfl hgoes
    exact congrArg ok (State.runOp_goes hgoes)
  case mapExport =>
    intro s t it late g hgoes hgeom
    exact execMapExport_begins hgoes hgeom
  case readCell =>
    intro s t it late g hgoes hgeom
    exact execReadCell_returns hgoes hgeom

end Sys2Proof

/-!
Sweeps under their locks and the upkeep of the map (O26): what their commands do where they act.
-/

namespace Sys2Proof.Machine

/-! ### Sweeps (R206, R226 to R232) -/

/-- The sweep `w` of item `id` holds its locks and may be checked: it has a place, its block steps, its context may sweep,
and its map and shape are given. -/
def State.sweepReady (s : State) (id : Nat) (w : Sweep) (g : PadGeom) (sh : Shape) : Prop :=
  s.places.find? (fun w => w.item.id == id) = some w ∧ s.runs 7 blkSweeper = true ∧
    s.holdsLocks (.item id) = true ∧ s.sweepState w.item.ctx true = true ∧ s.pad.geom = some g ∧
    Sp.find s.pad.shapes w.item.ctx = some sh

/-- A ready sweep reads its cells: it latches, or a cell word fails it. -/
theorem execSweepLocksHeld_ready {s : State} {t id : Nat} {bad : Option BadCell} {w : Sweep} {g : PadGeom} {sh : Shape}
    (hready : (s.to t).sweepReady id w g sh) :
    execSweepLocksHeld t id bad s = ok ((s.to t).readCellsOr bad (fun s o => s.poisonSweep w.item o)
      (fun s => s.under w.live (fun s => s.latchSweep g sh w))) := by
  obtain ⟨hplace, hruns, hholds, hmay, hgeom, hshape⟩ := hready
  simp only [execSweepLocksHeld, hplace, hruns, hholds, hmay, hgeom, hshape, Bool.not_true, Bool.false_eq_true, or_self,
    if_false]

/-- The sweep of an operation that a cell word fails leaves its place and ends FAIL_POISON. -/
theorem State.poisonSweep_operation {s : State} {it : Item} {o : Nat × Nat} (hop : it.obs = false) :
    s.poisonSweep it o = ({ s.dropSweep it.id with
      gait := { (s.dropSweep it.id).gait with drafts := Sp.drop (s.dropSweep it.id).gait.drafts it.id } } :
        State).finishAt it o.1 o.2 .failPoison Res.zero := by
  simp only [State.poisonSweep, hop, Bool.false_eq_true, if_false]

/-- A sweep whose locks cover the tiles of its latch runs on them. -/
theorem State.latchSweep_runs {s : State} {g : PadGeom} {sh : Shape} {w : Sweep} {a : LockReq}
    (hask : s.pad.asks.find? (fun a => a.who == .item w.item.id) = some a)
    (hcovers : (s.sweepTiles w).all (fun t => a.tiles.contains t) = true) :
    s.latchSweep g sh w = s.runSweep g sh w (s.sweepTiles w) := by
  simp only [State.latchSweep, hask, Option.map_some, Option.getD_some, hcovers, if_true]

/-- What a sweep under the locks `locks` finds in the cells of its tiles, each groomed where it is aged. -/
def State.sweepEval (s : State) (g : PadGeom) (sh : Shape) (w : Sweep) (locks : List Nat) : Eval :=
  (locks.foldl (fun (s : State) t => s.groomAged t) s).evalSweep g w.item.ctx s.tickNow (s.latestPr w.item.ctx)
    (relTick s.tickNow w.req.first.toNat) w.req.samples (s.raster g sh (s.latestPr w.item.ctx) w.req.samples)

/-- A sweep without a cause that finds no conflict writes its cells, mirrors them and is committed. -/
theorem State.runSweep_clear {s gr x : State} {g : PadGeom} {sh : Shape} {w : Sweep} {locks keys : List Nat}
    (hcause : s.sweepCause w.req w.item.ctx (relTick s.tickNow w.req.first.toNat) locks.length = 0)
    (hgr : gr = locks.foldl (fun (s : State) t => s.groomAged t) s)
    (hclear : firstConflict (s.sweepEval g sh w locks).conflicts = none)
    (hwrite : (gr.count Reg.PAD_CNT_SWEEP).writeCommit w.item.ctx s.tickNow (s.latestPr w.item.ctx) w.req
      (s.sweepEval g sh w locks).writes = (x, keys)) :
    s.runSweep g sh w locks =
      let y := x.mirror w.item.ctx s.tickNow (s.latestPr w.item.ctx) keys.length (x.cellsCrc keys) w.req.seq.toNat
        (.commit w.req)
      (y.parkAt w.item.ctx s.tickNow).committed w.item y.pad.mseq
        (y.commitRes s.tickNow keys.length locks.length w.req) := by
  subst hgr
  simp only [State.sweepEval] at hclear hwrite
  simp only [State.runSweep, hcause, hclear, hwrite, ne_eq, not_true_eq_false, if_false]

/-- A sweep without a cause that finds a conflict is counted and ends REJ_CONFLICT with the first one. -/
theorem State.runSweep_conflict {s gr : State} {g : PadGeom} {sh : Shape} {w : Sweep} {locks : List Nat} {k : Conflict}
    (hcause : s.sweepCause w.req w.item.ctx (relTick s.tickNow w.req.first.toNat) locks.length = 0)
    (hgr : gr = locks.foldl (fun (s : State) t => s.groomAged t) s)
    (hmeets : firstConflict (s.sweepEval g sh w locks).conflicts = some k) :
    s.runSweep g sh w locks = ((gr.count Reg.PAD_CNT_SWEEP).count Reg.PAD_CNT_CONFLICT).failSweep w.item .rejConflict
      .conflict (k.res s.tickNow) (k.word s.tickNow) := by
  subst hgr
  simp only [State.sweepEval] at hmeets
  simp only [State.runSweep, hcause, hmeets, ne_eq, not_true_eq_false, if_false]

/-! ### Ticks, groom and parked ground (R200, R207, R208, R233) -/

/-- As a tick begins, PAD_TICK_ABS follows it, and a map in use is judged for late grooming. -/
theorem execPadTick_map {s v : State} {t : Nat} {g : PadGeom} (hruns : (s.to t).runs 7 blkGroom = true)
    (hv : v = (s.to t).wr Reg.PAD_TICK_ABS (s.to t).tickAbs) (hgeom : v.pad.geom = some g) :
    execPadTick t s = ok (if v.rgnState 7 = rsRun ∧ v.mapValid then v.lateAt (v.oldestAge g) else v) := by
  subst hv
  simp only [execPadTick, hruns, hgeom, Bool.not_true, Bool.false_eq_true, if_false]

/-- Without a map a tick moves PAD_TICK_ABS alone. -/
theorem execPadTick_noMap {s v : State} {t : Nat} (hruns : (s.to t).runs 7 blkGroom = true)
    (hv : v = (s.to t).wr Reg.PAD_TICK_ABS (s.to t).tickAbs) (hgeom : v.pad.geom = none) :
    execPadTick t s = ok v := by
  subst hv
  simp only [execPadTick, hruns, hgeom, Bool.not_true, Bool.false_eq_true, if_false]

/-- The groom block of a running PAD with a valid map is due to visit its next tile. -/
def State.groomReady (s : State) : Prop :=
  s.rgnState 7 = rsRun ∧ s.runs 7 blkGroom = true ∧ s.mapValid = true ∧ s.groomDue = true

/-- A groom block that is due visits its next tile under that tile's lock. -/
theorem execGroomTile_ready {s : State} {t : Nat} {bad : Option BadCell} {g : PadGeom}
    (hgeom : (s.to t).pad.geom = some g) (hready : (s.to t).groomReady) :
    execGroomTile t bad s = ok ((s.to t).withLocks .groom [(s.to t).pad.groomNext]
      (fun v => v.groomVisit g (s.to t).pad.groomNext bad)) := by
  obtain ⟨hrun, hruns, hvalid, hdue⟩ := hready
  simp only [execGroomTile, hgeom, hrun, hruns, hvalid, hdue, ne_eq, not_true_eq_false, Bool.not_true,
    Bool.false_eq_true, or_self, if_false]

/-- A renewal that is due, with no cell word that fails, asks for its locks and is made where they are held. -/
theorem execParkRenewal_due {s : State} {t : Nat} (hruns : (s.to t).runs 7 blkGroom = true)
    (hvalid : (s.to t).mapValid = true) (hdue : (s.to t).renewDue = true) :
    execParkRenewal t none s = ok ((s.to t).askRenewals.renewing.foldl (fun (s : State) n => s.runRenewal n)
      (s.to t).askRenewals) := by
  simp only [execParkRenewal, hruns, hvalid, hdue, Bool.not_true, Bool.false_eq_true, or_self, if_false, if_true]

/-! ### Discs (R239, R240) -/

/-- The cells of a disc that lie in tile `k`. -/
def PadGeom.discCellsIn (g : PadGeom) (d : Disc) (k : Nat) : List Cell :=
  (g.discCells d).filter (fun c => g.key c / 4096 == k)

/-- The disc writer writes the cells that a disc has in a tile under that tile's lock. -/
theorem execDiscWrite_some {s : State} {t : Nat} {ctx : BitVec 8} {tile : BitVec 13} {bad : Option BadCell}
    {g : PadGeom} {d : Disc} (hgeom : (s.to t).pad.geom = some g)
    (hdisc : Sp.find (s.to t).pad.discs ctx.toNat = some d) (hruns : (s.to t).runs 7 blkSweeper = true)
    (hsome : (g.discCellsIn d tile.toNat).isEmpty = false) :
    execDiscWrite t ctx tile bad s = ok ((s.to t).withLocks (.disc ctx.toNat tile.toNat) [tile.toNat]
      (fun v => v.writeDisc g ctx.toNat d tile.toNat (g.discCellsIn d tile.toNat) bad)) := by
  simp only [PadGeom.discCellsIn] at hsome ⊢
  simp only [execDiscWrite, hgeom, hdisc, hruns, hsome, Bool.not_true, Bool.false_eq_true, if_false]

/-- A disc that has ended gives up its writer's locks, and its slots are freed under the locks of their tiles. -/
theorem execDiscEnd_ending {s v : State} {t : Nat} {ctx : BitVec 8}
    (hending : (s.to t).pad.ending.contains ctx.toNat = true) (hruns : (s.to t).runs 7 blkSweeper = true)
    (hv : v = (s.to t).freeLocks (fun l => l.ofDisc ctx.toNat && (Sp.find (s.to t).pad.discs ctx.toNat).isNone)) :
    execDiscEnd t ctx s = ok (v.withLocks (.discEnd ctx.toNat) (tilesOf (v.slotCells ctx.toNat Slot.kind))
      (fun w => w.endDisc ctx.toNat)) := by
  subst hv
  exact if_pos ⟨hending, hruns⟩

end Sys2Proof.Machine

namespace Sys2Proof
open Sys2Proof.Machine

/-- Settles O26: each clause is the case of its command that the premises select. -/
theorem sweepsAndMapUpkeepComplete : Obligations.SweepsAndMapUpkeepComplete := by
  unfold Obligations.SweepsAndMapUpkeepComplete
  refine ⟨?held, ?covered, ?clear, ?conflict, ?fails, ?tick, ?tickNoMap, ?groom, ?renewal, ?discWrite, ?discEnd⟩
  case held =>
    intro s t id w g sh hplace hruns hholds hmay hgeom hshape
    exact execSweepLocksHeld_ready ⟨hplace, hruns, hholds, hmay, hgeom, hshape⟩
  case covered =>
    intro s t g sh w a hask hcovers
    exact State.latchSweep_runs hask hcovers
  case clear =>
    rintro s t g sh w locks _ gr x _ keys _ _ rfl rfl hcause rfl rfl hclear hwrite rfl
    exact State.runSweep_clear hcause rfl hclear hwrite
  case conflict =>
    rintro s t g sh w locks _ gr _ _ k rfl rfl hcause rfl rfl hmeets
    exact State.runSweep_conflict hcause rfl hmeets
  case fails =>
    intro s t id w bad o g sh hplace hruns hholds hmay hgeom hshape hseen hop
    have hready := execSweepLocksHeld_ready (bad := some bad) ⟨hplace, hruns, hholds, hmay, hgeom, hshape⟩
    exact hready.trans (congrArg ok ((State.readCellsOr_fails hseen).trans (State.poisonSweep_operation hop)))
  case tick =>
    intro s t g v hruns hv hgeom
    exact execPadTick_map hruns hv hgeom
  case tickNoMap =>
    intro s t v hruns hv hgeom
    exact execPadTick_noMap hruns hv hgeom
  case groom =>
    intro s t g v hgeom hrun hruns hvalid hdue hv hholds
    exact (execGroomTile_ready hgeom ⟨hrun, hruns, hvalid, hdue⟩).trans (congrArg ok (State.withLocks_holds hv hholds))
  case renewal =>
    intro s t hruns hvalid hdue
    exact execParkRenewal_due hruns hvalid hdue
  case discWrite =>
    intro s t ctx tile g d v hgeom hdisc hruns hsome hv hholds
    exact (execDiscWrite_some hgeom hdisc hruns hsome).trans (congrArg ok (State.withLocks_holds hv hholds))
  case discEnd =>
    intro s t ctx v w hending hruns hv hw hholds
    exact (execDiscEnd_ending hending hruns hv).trans (congrArg ok (State.withLocks_holds hw hholds))

end Sys2Proof

/-!
Frames of classes 1 to 3 that mirror the active's state (O43): what their commands do where the link awaits them.
-/

namespace Sys2Proof.Machine

/-! ### Awaited and other frames (R490) -/

/-- A frame of another SEQ than the next of its class is dropped: it acknowledges what its ACK covers, and no more. -/
theorem State.accept_drops {s : State} {rx : BylRx} {type : Nat} {act : State → List Byte → State} {f : BylFrame}
    {p : List Byte} (htaken : (s.takeSealed rx type).2 = some (f, p))
    (hseq : f.seq ≠ Sp.at (s.takeSealed rx type).1.byl.rxNext 0 (typeClass type)) :
    s.accept rx type act = (s.takeSealed rx type).1.takeAck (typeClass type) f.ack := by
  simp only [State.accept, htaken, State.takeAck_rxNext, hseq, if_false]

/-- An awaited frame whose payload makes `v` of the machine that has accepted it leaves `v`, acknowledged where nothing
else is to be sent. -/
theorem State.accept_gives {s v : State} {rx : BylRx} {type : Nat} {act : State → List Byte → State}
    (hawaited : s.awaits rx type = true) (hact : act (s.accepted rx type) (s.framed rx type).2 = v) :
    s.accept rx type act = v.ackOnly (typeClass type) (s.framed rx type).1.seq :=
  hact ▸ State.accept_takes hawaited

/-- An awaited frame that only a standby obeys does there what it stands for. -/
theorem State.accept_standby {s : State} {rx : BylRx} {type : Nat} {act : State → List Byte → State}
    (hawaited : s.awaits rx type = true) (hstandby : (s.accepted rx type).standby = true) :
    s.accept rx type (fun s p => if !s.standby then s else act s p) =
      (act (s.accepted rx type) (s.framed rx type).2).ackOnly (typeClass type) (s.framed rx type).1.seq :=
  State.accept_gives hawaited (if_neg (by simp [hstandby]))

/-! ### Mirror records (R242) -/

/-- A standby applies a record that can be read. -/
theorem State.takeRecord_standby {s : State} {p : List Byte} {r : MirrorRec} (hrecord : MirrorRec.ofBytes p = some r)
    (hstandby : s.standby = true) : s.takeRecord p = s.mirrorPad r := by
  simp only [State.takeRecord, hrecord, hstandby, if_true]

end Sys2Proof.Machine

namespace Sys2Proof
open Sys2Proof.Machine

/-- Settles O43: each clause is an awaited frame that does what it stands for, or one of another SEQ that is dropped. -/
theorem mirroredStateIsTaken : Obligations.MirroredStateIsTaken := by
  unfold Obligations.MirroredStateIsTaken
  refine ⟨?record, ?otherSeq, ?ack, ?gait, ?session, ?config, ?tileReq, ?tileData, ?message⟩
  case record =>
    intro s t rx r hawaited hrecord hstandby
    exact congrArg ok (State.accept_gives hawaited (State.takeRecord_standby hrecord hstandby))
  case otherSeq =>
    intro s t rx f p htaken hseq
    exact congrArg ok (State.accept_drops htaken hseq)
  case ack =>
    intro s t rx hawaited
    exact congrArg ok (State.accept_takes hawaited)
  case gait =>
    intro s t rx ctx x hawaited hstandby
    exact congrArg ok (State.accept_standby hawaited hstandby)
  case session =>
    intro s t rx ctx x hawaited hstandby hctx
    exact congrArg ok (State.accept_gives hawaited (if_pos ⟨hstandby, hctx⟩))
  case config =>
    intro s t rx x hawaited hstandby
    exact congrArg ok (State.accept_standby hawaited hstandby)
  case tileReq =>
    intro s t rx hawaited hactive
    exact congrArg ok (State.accept_gives hawaited (if_neg (not_not_intro hactive)))
  case tileData =>
    intro s t rx d hawaited hstandby
    exact congrArg ok (State.accept_standby hawaited hstandby)
  case message =>
    intro s t rx k hawaited
    exact congrArg ok (State.accept_takes hawaited)

end Sys2Proof

/-!
Replans at GAIT, the knot packer, the handover of plans and the takeover of lowered limits (O23): what they do
where they act.
-/

namespace Sys2Proof.Machine

/-! ### Epochs at GAIT (R247, R252) -/

/-- The epoch item of entry `e` is at GAIT, the planner steps and has a working lane, and no earlier item of its flow
still has a new target before its commit. -/
def State.epochAtGait (s : State) (id : Nat) (e : Entry) : Prop :=
  s.entryOf? id = some e ∧ e.place = .at_ .gait ∧ s.runs 8 blkPlanner = true ∧ e.item.obs = true ∧
    s.targetOpen e.item e.flow = false ∧ s.get B.GAIT_STS_LANES ≠ 0

/-- Nothing holds an epoch at GAIT back from its replan. -/
theorem State.epochAtGait_goes {s : State} {id : Nat} {e : Entry} (h : s.epochAtGait id e) :
    ¬(e.place ≠ .at_ .gait ∨ (!s.runs 8 blkPlanner) = true ∨
      ((!e.item.obs) = true ∧ (Sp.find s.gait.asked id).isNone = true) ∨ s.targetOpen e.item e.flow = true ∨
      s.get B.GAIT_STS_LANES = 0) := by
  obtain ⟨_, hplace, hruns, hobs, hopen, hlanes⟩ := h
  simp [hplace, hruns, hobs, hopen, hlanes]

/-- An epoch at GAIT whose context has no position ends NO_FIX. -/
theorem execGaitReplan_noFix {s : State} {t id : Nat} {e : Entry} (h : (s.to t).epochAtGait id e)
    (hnone : (s.to t).fixPoint e.item.ctx = none) :
    execGaitReplan t id s = ok ((s.to t).endReplan e.item .noFix) := by
  have hgoes := State.epochAtGait_goes h
  obtain ⟨hentry, _⟩ := h
  simp only [execGaitReplan, hentry, if_neg hgoes, hnone]

/-- An epoch at GAIT whose context has a position is replanned from it, once its report's acknowledgement is taken. -/
theorem execGaitReplan_fix {s : State} {t id : Nat} {e : Entry} {r : FixRec} (h : (s.to t).epochAtGait id e)
    (hfix : (s.to t).fixPoint e.item.ctx = some r) :
    execGaitReplan t id s = ok (((s.to t).ackPlan e.item.ctx r).replanFrom e.item r) := by
  have hgoes := State.epochAtGait_goes h
  obtain ⟨hentry, _, _, hobs, _⟩ := h
  simp only [execGaitReplan, hentry, if_neg hgoes, hfix, if_pos hobs]

/-! ### Replans with every input at hand (R253 to R262) -/

/-- The inputs of a replan of item `it` from FIX item `r` are at hand: its aim, the limits, SWITCH_TICK and the start
state. -/
def State.replanInputs (s : State) (it : Item) (r : FixRec) (a : Aim) (l : Limits) (tick : Int) (w : Launch) : Prop :=
  (s.gaitCtx it.ctx).aim (Sp.find s.gait.asked it.id) = some a ∧ (s.gaitCtx it.ctx).limits = some l ∧
    s.switchTick it.ctx = some tick ∧
    s.launch (s.gaitCtx it.ctx) a.tr r a.near (s.tickStart tick).toNat = some w

/-- A replan with its inputs at hand, whose report ends no datum run, starts from its launch. -/
theorem State.replanFrom_launches {s : State} {it : Item} {r : FixRec} {a : Aim} {l : Limits} {tick : Int} {w : Launch}
    (h : s.replanInputs it r a l tick w) (hover : (s.gaitCtx it.ctx).datumOver r = false) :
    s.replanFrom it r = s.replan it (s.gaitCtx it.ctx) a l tick w := by
  obtain ⟨haim, hlimits, htick, hlaunch⟩ := h
  simp only [State.replanFrom, haim, hlimits, htick, hlaunch, hover, Bool.false_eq_true, and_false, if_false]

/-- A replan on its track and without a deviation, whose goal is allowed and not behind, goes on to PAD with the profile
that GAIT builds. -/
theorem State.replan_sweeps {s : State} {it : Item} {x : GaitCtx} {a : Aim} {l : Limits} {tick : Int} {w : Launch}
    {g : Goal} {qs : List Knot} {short : Bool} (hg : g = goalOf it.obs a l w.kin)
    (hcross : w.cross ≤ s.param P.XTRACK_MAX) (hdev : w.dev = false) (hrefuse : g.refuse = false)
    (hbehind : g.behind = false)
    (hprofile : s.profile it.ctx a l w.kin g.goal (w.kin.stopMm l.dMax l.jMax) g.turn = (qs, short)) :
    s.replan it x a l tick w =
      s.toSweep it x a w.kin (s.tickStart tick).toNat tick g.goal g.hold qs short := by
  subst hg
  simp only [State.replan, if_neg (Nat.not_lt.mpr hcross), hdev, hrefuse, hbehind, hprofile, Bool.false_eq_true,
    if_false]

/-! ### Packing and handing over (R263) -/

/-- The packer packs the bytes of a draft's plan, and the item goes on to AIR. -/
theorem execKnotPack_packs {s : State} {t id : Nat} {e : Entry} {d : Draft} (hentry : (s.to t).entryOf? id = some e)
    (hdraft : Sp.find (s.to t).gait.drafts id = some d) (hplace : e.place = .at_ .pack)
    (hruns : (s.to t).runs 8 blkPacker = true) :
    execKnotPack t id s = ok (({ (s.to t) with gait := { (s.to t).gait with
      drafts := Sp.put (s.to t).gait.drafts id { d with packed := d.plan.bytes } } } : State).passOn e.item .air) := by
  simp only [execKnotPack, hentry, hdraft, hplace, hruns, ne_eq, not_true_eq_false, Bool.not_true, Bool.false_eq_true,
    or_self, if_false]

/-- The plan of draft `d` as context `n` numbers it: the sequence after the context's latest. -/
def State.numberedPlan (s : State) (n : Nat) (d : Draft) : Plan :=
  { d.plan with seq := ((s.gaitCtx n).seq + 1) % 2 ^ 16 }

/-- AIR holds plan `p` of context `n` for its next downlink slot, as the bytes of draft `d` after the sequence. -/
def State.queuePlan (s : State) (n : Nat) (p : Plan) (d : Draft) : State :=
  s.setAirCtx n ((s.airCtx n).takePlan ⟨leBytes 2 p.seq ++ d.packed.drop 2, s.devNs, false⟩)

/-- An epoch item with a draft is handed over: its plan is numbered, queued and mirrored, the draft is given up, and the
item ends NEW_PLAN. -/
theorem State.handOver_epoch {s w : State} {it : Item} {d : Draft} (hdraft : Sp.find s.gait.drafts it.id = some d)
    (hobs : it.obs = true)
    (hw : w = (s.gaitHanded it.ctx (s.numberedPlan it.ctx d)).queuePlan it.ctx (s.numberedPlan it.ctx d) d) :
    s.handOver it = (({ w with gait := { w.gait with drafts := Sp.drop w.gait.drafts it.id } } :
      State).mirrorSend (.gait it.ctx)).endEpoch it 9 noCell .done .newPlan 0 := by
  subst hw
  simp only [State.handOver, State.queuePlan, State.numberedPlan, hdraft, hobs, if_true]

/-! ### Lowered limits (R261) -/

/-- At its tick a clamped limit takes the place of the one kept until then. -/
theorem execLimitTakeover_applies {s : State} {t d j tick : Nat} {ctx : BitVec 8} {l : Limits}
    (hlowered : ((s.to t).gaitCtx ctx.toNat).lowered = some (d, j, tick))
    (hlimits : ((s.to t).gaitCtx ctx.toNat).limits = some l) (hdue : idxDiff (s.to t).tickAbs tick < 2 ^ 31) :
    execLimitTakeover t ctx s = ok ((s.to t).setGaitCtx ctx.toNat { ((s.to t).gaitCtx ctx.toNat) with
      limits := some { l with dMax := d, jMax := j }, lowered := none }) := by
  simp only [execLimitTakeover, hlowered, hlimits, if_pos hdue]

end Sys2Proof.Machine

namespace Sys2Proof
open Sys2Proof.Machine

/-- Settles O23: each clause is the case of its operation that the premises select. -/
theorem replansAndPackingComplete : Obligations.ReplansAndPackingComplete := by
  unfold Obligations.ReplansAndPackingComplete
  refine ⟨?noFix, ?toSweep, ?pack, ?handOver, ?takeover⟩
  case noFix =>
    intro s t id e hentry hplace hruns hobs hopen hlanes hnone
    exact execGaitReplan_noFix ⟨hentry, hplace, hruns, hobs, hopen, hlanes⟩ hnone
  case toSweep =>
    rintro s t id e r a l tick w qs short v x g hentry hplace hruns hobs hopen hlanes hfix rfl rfl hg haim hlimits
      htick hlaunch hover hcross hrefuse hbehind hdev hprofile
    have hreplan := execGaitReplan_fix ⟨hentry, hplace, hruns, hobs, hopen, hlanes⟩ hfix
    have hlaunches := State.replanFrom_launches ⟨haim, hlimits, htick, hlaunch⟩ hover
    rw [← hobs] at hg
    exact hreplan.trans (congrArg ok (hlaunches.trans
      (State.replan_sweeps hg hcross hdev hrefuse hbehind hprofile)))
  case pack =>
    rintro s t id e d _ hentry hdraft hplace hruns rfl
    exact execKnotPack_packs hentry hdraft hplace hruns
  case handOver =>
    rintro s t it d _ _ w hdraft hobs rfl rfl hw
    exact State.handOver_epoch hdraft hobs hw
  case takeover =>
    intro s t ctx d j tick l hlowered hlimits hdue
    exact execLimitTakeover_applies hlowered hlimits hdue

end Sys2Proof

/-!
Heads and downlinks (O12): what packets of the heads and the spans of a direct context do where they act.
-/

namespace Sys2Proof.Machine

/-- A pair whose second part is known. -/
theorem pair_eq_of_snd {α β : Type} {p : α × β} {b : β} (h : p.2 = b) : p = (p.1, b) := Prod.ext rfl h

/-! ### Head links and their packets (R282, R296, R297, R299) -/

/-- The receiver of head `h` has come to `l`. -/
def State.putLink (s : State) (h : Nat) (l : LinkRx) : State :=
  { s with air := { s.air with links := Sp.put s.air.links h l } }

/-- The receiver of an enabled head takes the symbols, and each of its changes of state is reported. -/
theorem execHeadLinkState_enabled {s : State} {t : Nat} {head : Fin 8} {chars : List LinkSym} {l : LinkRx}
    {changes : List Nat} (hon : (s.to t).flag (B.AIR_HEAD_CTL_ENABLE head.val) = true)
    (hrun : ((s.to t).linkRx head.val).run chars = (l, changes)) :
    execHeadLinkState t head chars s =
      ok (changes.foldl (fun s x => s.linkTo head.val x) ((s.to t).putLink head.val l)) := by
  simp only [execHeadLinkState, hon, hrun, Bool.not_true, Bool.false_eq_true, if_false]
  rfl

/-- A packet with the outcome SENT or NO_BUFFER, or LATE, says that the head sends for this chip; LATE is counted. -/
theorem execTxReport_active {s v : State} {t : Nat} {head : Fin 8} {pkt : List Byte} {p : Packet8b}
    (hpkt : (s.to t).takePacket head.val pkt 0x82 = (v, some p)) (hactive : bitsOf p.arg 10 9 ≠ 2) :
    execTxReport t head pkt s =
      let x := v.setFlag (B.AIR_HEAD_STS_ACTIVE_HERE head.val) true
      ok (if bitsOf p.arg 10 9 = 1 then x.count (Reg.AIR_HEAD_CNT_TX_LATE head.val) else x) := by
  have hhere : (bitsOf p.arg 10 9 != 2) = true := bne_iff_ne.mpr hactive
  simp only [execTxReport, hpkt, hhere, hactive, false_and, if_false]
  exact (apply_ite ok _ _ _).symm

/-! ### Downlink spans (R49, R51, R287, R292, R305) -/

/-- A DOWNLINK span of context `n`, direct and joined, has come: span `p`, the `k`-th of its superframe. -/
def State.downSpan (s : State) (n : Nat) (p : SpanOf) (k : Nat) : Prop :=
  s.airServes = true ∧ s.joined n = true ∧ s.nextHop n = 0 ∧
    s.spanNow (s.spansType n .downlink) (s.airCtx n).downAt = some (p, k)

/-- The span is taken, and the plans too late for it are counted. -/
def State.takeDownSpan (s : State) (n : Nat) (p : SpanOf) (k : Nat) : State :=
  (s.setAirCtx n { s.airCtx n with downAt := k }).countLate n (s.air.sfStart + p.start)

theorem State.downSpan_goes {s : State} {n k : Nat} {p : SpanOf} (h : s.downSpan n p k) :
    ¬((!s.airServes) = true ∨ (!s.joined n) = true ∨ s.nextHop n ≠ 0) := by
  obtain ⟨hserves, hjoined, hdirect, _⟩ := h
  simp [hserves, hjoined, hdirect]

/-- With K live, the newest plan in time is sent where it fits the span. -/
theorem execDownlinkSpan_plan {s v : State} {t k fc : Nat} {ctx : BitVec 8} {p : SpanOf} {q : AirPlan}
    (hspan : (s.to t).downSpan ctx.toNat p k) (hv : v = (s.to t).takeDownSpan ctx.toNat p k)
    (hfcnt : v.nextFcnt ctx.toNat = some fc)
    (hplan : (v.airCtx ctx.toNat).planFor ((s.to t).air.sfStart + p.start) = some q)
    (hfits : q.bytes.length + 20 ≤ p.capacity) :
    execDownlinkSpan t ctx s =
      let x := v.setAirCtx ctx.toNat ((v.airCtx ctx.toNat).dropPlan q)
      ok ((x.airSent [x.planFrame p ctx.toNat fc (some q.bytes)]).sentUnder ctx.toNat) := by
  have hgoes := State.downSpan_goes hspan
  obtain ⟨_, _, _, hnow⟩ := hspan
  rw [hv, State.takeDownSpan] at hfcnt hplan
  simp only [execDownlinkSpan, if_neg hgoes, hnow, hfcnt, hplan, if_pos hfits, hv, State.takeDownSpan]

/-- With K live and no plan in time, the NO_PLAN header is sent. -/
theorem execDownlinkSpan_noPlan {s v : State} {t k fc : Nat} {ctx : BitVec 8} {p : SpanOf}
    (hspan : (s.to t).downSpan ctx.toNat p k) (hv : v = (s.to t).takeDownSpan ctx.toNat p k)
    (hfcnt : v.nextFcnt ctx.toNat = some fc)
    (hplan : (v.airCtx ctx.toNat).planFor ((s.to t).air.sfStart + p.start) = none) :
    execDownlinkSpan t ctx s = ok ((v.airSent [v.planFrame p ctx.toNat fc none]).sentUnder ctx.toNat) := by
  have hgoes := State.downSpan_goes hspan
  obtain ⟨_, _, _, hnow⟩ := hspan
  rw [hv, State.takeDownSpan] at hfcnt hplan
  simp only [execDownlinkSpan, if_neg hgoes, hnow, hfcnt, hplan, hv, State.takeDownSpan]

/-- A span of context `n`, direct, that may carry a message has come: span `p`, the `k`-th of its superframe. -/
def State.bulkSpan (s : State) (n : Nat) (p : SpanOf) (k : Nat) : Prop :=
  s.airServes = true ∧ n ≠ 0 ∧ s.nextHop n = 0 ∧
    s.spanNow (s.bulkDown n ++ (s.relaySpans n).filterMap (fun p => if p.2 then some p.1 else none))
      (s.airCtx n).bulkAt = some (p, k)

/-- A BULK span sends the message that waits where it fits. -/
theorem execDownlinkBulkSpan_sends {s v : State} {t k : Nat} {ctx : BitVec 8} {p : SpanOf} {g : AirMsg}
    (hspan : (s.to t).bulkSpan ctx.toNat p k) (hbulk : p.entry.type = .bulk)
    (hv : v = ((s.to t).setAirCtx ctx.toNat { (s.to t).airCtx ctx.toNat with bulkAt := k }).airSent [])
    (hmsg : v.nextMsg ctx.toNat = some g) (hfits : g.total ≤ p.capacity) :
    execDownlinkBulkSpan t ctx s =
      ok ((v.airSent [v.burst p (v.msgFrame ctx.toNat g p.slot p.len)]).msgSent ctx.toNat g) := by
  obtain ⟨hserves, hn, hdirect, hnow⟩ := hspan
  have hgoes : ¬((!(s.to t).airServes) = true ∨ ctx.toNat = 0 ∨ (s.to t).nextHop ctx.toNat ≠ 0) := by
    simp [hserves, hn, hdirect]
  rw [hv] at hmsg
  simp only [execDownlinkBulkSpan, if_neg hgoes, hnow, if_pos hbulk, hmsg, if_pos hfits, hv]

end Sys2Proof.Machine

namespace Sys2Proof
open Sys2Proof.Machine

/-- Settles O12: each clause is the case of its command that the premises select. -/
theorem headsAndDownlinksComplete : Obligations.HeadsAndDownlinksComplete := by
  unfold Obligations.HeadsAndDownlinksComplete
  refine ⟨?linkKept, ?linkMoves, ?status, ?noStatus, ?pong, ?sent, ?late, ?plan, ?noPlan, ?bulk⟩
  case linkKept =>
    intro s t head chars hon hnone
    exact execHeadLinkState_enabled hon (pair_eq_of_snd hnone)
  case linkMoves =>
    intro s t head chars st hon hone
    exact execHeadLinkState_enabled hon (pair_eq_of_snd hone)
  case status =>
    intro s t head pkt p hpkt
    rw [exec, execHeadStatus, pair_eq_of_snd hpkt]
  case noStatus =>
    intro s t head pkt hnone
    rw [exec, execHeadStatus, pair_eq_of_snd hnone]
  case pong =>
    intro s t head pkt p hpkt
    rw [exec, execPong, pair_eq_of_snd hpkt]
  case sent =>
    intro s t head pkt p hpkt hlate hactive
    exact (execTxReport_active (pair_eq_of_snd hpkt) hactive).trans (congrArg ok (if_neg hlate))
  case late =>
    intro s t head pkt p hpkt hlate
    exact (execTxReport_active (pair_eq_of_snd hpkt) (by omega)).trans (congrArg ok (if_pos hlate))
  case plan =>
    intro s t ctx p k fc q hserves hjoined hdirect hnow hfcnt hplan hfits
    exact execDownlinkSpan_plan ⟨hserves, hjoined, hdirect, hnow⟩ rfl hfcnt hplan hfits
  case noPlan =>
    intro s t ctx p k fc hserves hjoined hdirect hnow hfcnt hplan
    exact execDownlinkSpan_noPlan ⟨hserves, hjoined, hdirect, hnow⟩ rfl hfcnt hplan
  case bulk =>
    intro s t ctx p k g hserves hn hdirect hnow hbulk hmsg hfits
    exact execDownlinkBulkSpan_sends ⟨hserves, hn, hdirect, hnow⟩ hbulk rfl hmsg hfits

end Sys2Proof

/-!
Received frames and the timers of contexts (O13): how a frame is judged by its length, how a span is judged, and what
ends with its time.
-/

namespace Sys2Proof.Machine

/-! ### Received frames (R281) -/

/-- A RX_FRAME packet of a head, while AIR runs and the block of the heads steps, has been taken: the machine is `v`. -/
def State.framePacket (s v : State) (h : Nat) (pkt : List Byte) (p : Packet8b) : Prop :=
  s.rgnState 9 = rsRun ∧ s.runs 9 blkHeads = true ∧ s.takePacket h pkt 0x81 = (v, some p)

theorem State.receives_goes {s : State} (hrun : s.rgnState 9 = rsRun) (hruns : s.runs 9 blkHeads = true) :
    ¬(s.rgnState 9 ≠ rsRun ∨ (!s.runs 9 blkHeads) = true) := by simp [hrun, hruns]

/-- A frame of more than 1,300 bytes counts as LONG, one of fewer than 20 as RUNT, and another is judged. -/
theorem execRxFrame_packet {s v x : State} {t : Nat} {head : Fin 8} {pkt : List Byte} {opens : List Opening}
    {p : Packet8b} (hpkt : (s.to t).framePacket v head.val pkt p) (hx : x = v.seeReceived head.val p opens) :
    execRxFrame t head pkt opens s =
      ok (if 1301 ≤ p.payload.length then x.count (Reg.AIR_HEAD_CNT_LONG head.val)
        else if p.payload.length ≤ 19 then x.count (Reg.AIR_HEAD_CNT_RUNT head.val)
        else x.judgeFrame head.val (x.airFrame p.arg p.payload opens) true
          (x.airFrame p.arg p.payload opens).layers) := by
  obtain ⟨hrun, hruns, htaken⟩ := hpkt
  simp only [execRxFrame, if_neg (State.receives_goes hrun hruns), htaken, hx, apply_ite ok]

/-! ### Judged spans (R289, R291) -/

/-- The oldest span that waits for a frame is judged once it is due. -/
theorem execSpanJudged_due {s : State} {t : Nat} {ctx : BitVec 8} {e : Expect} {rest : List Expect}
    (hexpect : ((s.to t).airCtx ctx.toNat).expect = e :: rest) (hserves : (s.to t).airServes = true)
    (hdue : (s.to t).judgeDue ctx.toNat e = true) :
    execSpanJudged t ctx s =
      let x := (s.to t).setAirCtx ctx.toNat { (s.to t).airCtx ctx.toNat with expect := rest }
      ok (if e.heard then x.set (B.AIR_CTX_STS_MISSES ctx.toNat) 0 else x.missed ctx.toNat) := by
  have hjudged : (s.to t).airServes = true ∧ (s.to t).judgeDue ctx.toNat e = true := ⟨hserves, hdue⟩
  simp only [execSpanJudged, hexpect, if_pos hjudged, apply_ite ok]

/-! ### Timers of contexts (R306, R312, R315) -/

/-- On the active device a LOST_ASLEEP context whose CALL_PERIOD has ended leaves with cause LOST. -/
theorem execCallPeriodExpiry_lost {s : State} {t u : Nat} {ctx : BitVec 8}
    (hcall : ((s.to t).airCtx ctx.toNat).callUntil = some u) (hlost : (s.to t).ctxState ctx.toNat = ctxLost)
    (hover : u ≤ (s.to t).cyc) (hactive : (s.to t).standby = false) :
    execCallPeriodExpiry t ctx s = ok ((s.to t).airLeave ctx.toNat 3 false) := by
  have hleaves : (s.to t).ctxState ctx.toNat = ctxLost ∧ u ≤ (s.to t).cyc ∧ (!(s.to t).standby) = true :=
    ⟨hlost, hover, by rw [hactive]; rfl⟩
  simp only [execCallPeriodExpiry, hcall, if_pos hleaves]

/-- On the active device a join unconfirmed at its superframe fails. -/
theorem execJoinTimeoutExpiry_join {s : State} {t f : Nat} {ctx : BitVec 8} {j : Joining}
    (hactive : (s.to t).standby = false) (hjoining : ((s.to t).airCtx ctx.toNat).joining = some j)
    (hlapse : j.lapse = some f) (hover : f ≤ (s.to t).sfn) :
    execJoinTimeoutExpiry t ctx s = ok ((s.to t).joinFailed ctx.toNat j .failTimeout) := by
  simp only [execJoinTimeoutExpiry, hactive, hjoining, hlapse, if_pos hover, Bool.false_eq_true, if_false]

/-- On the active device a request that nobody accepted in time lapses. -/
theorem execJoinTimeoutExpiry_request {s : State} {t : Nat} {ctx : BitVec 8} {r : JoinReq}
    (hactive : (s.to t).standby = false) (hnone : ((s.to t).airCtx ctx.toNat).joining = none)
    (hreq : ((s.to t).airCtx ctx.toNat).joinReq = some r) (hover : r.lapse ≤ (s.to t).sfn) :
    execJoinTimeoutExpiry t ctx s =
      ok ((s.to t).setAirCtx ctx.toNat { (s.to t).airCtx ctx.toNat with joinReq := none }) := by
  simp only [execJoinTimeoutExpiry, hactive, hnone, hreq, if_pos hover, Bool.false_eq_true, if_false]

end Sys2Proof.Machine

namespace Sys2Proof
open Sys2Proof.Machine

/-- Settles O13: each clause is the case of its command that the premises select. -/
theorem receivedFramesAndTimersComplete : Obligations.ReceivedFramesAndTimersComplete := by
  unfold Obligations.ReceivedFramesAndTimersComplete
  refine ⟨?frame, ?runt, ?long, ?noFrame, ?heard, ?missed, ?call, ?join, ?request⟩
  case frame =>
    intro s t head pkt opens p hrun hruns hpkt hmin hmax
    have hpacket := execRxFrame_packet (opens := opens) ⟨hrun, hruns, pair_eq_of_snd hpkt⟩ rfl
    exact hpacket.trans (congrArg ok ((if_neg (by omega)).trans (if_neg (by omega))))
  case runt =>
    intro s t head pkt opens p hrun hruns hpkt hrunt
    have hpacket := execRxFrame_packet (opens := opens) ⟨hrun, hruns, pair_eq_of_snd hpkt⟩ rfl
    exact hpacket.trans (congrArg ok ((if_neg (by omega)).trans (if_pos hrunt)))
  case long =>
    intro s t head pkt opens p hrun hruns hpkt hlong
    have hpacket := execRxFrame_packet (opens := opens) ⟨hrun, hruns, pair_eq_of_snd hpkt⟩ rfl
    exact hpacket.trans (congrArg ok (if_pos hlong))
  case noFrame =>
    intro s t head pkt opens hrun hruns hnone
    refine (if_neg (State.receives_goes hrun hruns)).trans ?_
    rw [pair_eq_of_snd hnone]
  case heard =>
    intro s t ctx e rest hexpect hserves hdue hheard
    exact (execSpanJudged_due hexpect hserves hdue).trans (congrArg ok (if_pos hheard))
  case missed =>
    intro s t ctx e rest hexpect hserves hdue hmissed
    exact (execSpanJudged_due hexpect hserves hdue).trans (congrArg ok (if_neg (Bool.eq_false_iff.mp hmissed)))
  case call =>
    intro s t ctx u hcall hlost hover hactive
    exact execCallPeriodExpiry_lost hcall hlost hover hactive
  case join =>
    intro s t ctx j f hactive hjoining hlapse hover
    exact execJoinTimeoutExpiry_join hactive hjoining hlapse hover
  case request =>
    intro s t ctx r hactive hnone hreq hover
    exact execJoinTimeoutExpiry_request hactive hnone hreq hover

end Sys2Proof

/-!
Sessions (O14), and the keys, schedules and injected frames of AIR (O15): what their operations do where they go.
-/

namespace Sys2Proof
open Sys2Proof.Machine

/-- Settles O14: each operation of Table AIR-23 that goes acts. -/
theorem sessionOperationsComplete : Obligations.SessionOperationsComplete := by
  unfold Obligations.SessionOperationsComplete
  refine ⟨?accept, ?refuse, ?leave, ?sleep, ?wake, ?route⟩
  case accept =>
    intro s t it late bnonce hgoes
    exact congrArg ok (State.runOp_goes hgoes)
  case refuse =>
    intro s t it late hgoes
    exact congrArg ok (State.runOp_goes hgoes)
  case leave =>
    intro s t it late hgoes
    exact congrArg ok (State.runOp_goes hgoes)
  case sleep =>
    intro s t it late hgoes
    exact congrArg ok (State.runOp_goes hgoes)
  case wake =>
    intro s t it late hgoes
    exact congrArg ok (State.runOp_goes hgoes)
  case route =>
    intro s t it late hgoes
    exact congrArg ok (State.runOp_goes hgoes)

/-- Settles O15: each operation that goes acts, COMPAT_INJECT by its DIR. -/
theorem keyScheduleAndInjectOperationsComplete : Obligations.KeyScheduleAndInjectOperationsComplete := by
  unfold Obligations.KeyScheduleAndInjectOperationsComplete
  refine ⟨?joinKey, ?beaconKey, ?injectDown, ?injectUp, ?sched⟩
  case joinKey =>
    intro s t it late hgoes
    exact congrArg ok (State.runOp_goes hgoes)
  case beaconKey =>
    intro s t it late hgoes
    exact congrArg ok (State.runOp_goes hgoes)
  case injectDown =>
    intro s t it late raw opens hgoes hdown
    exact congrArg ok ((State.runOp_goes hgoes).trans (if_pos hdown))
  case injectUp =>
    intro s t it late raw opens hgoes hup
    exact congrArg ok ((State.runOp_goes hgoes).trans (if_neg (Bool.eq_false_iff.mp hup)))
  case sched =>
    rintro s t it late raw _ rfl hgoes
    exact congrArg ok (State.runOpWith_goes hgoes)

end Sys2Proof

/-!
What is protected (O54): a command changes what WHOA, TACK, REC and CHIP hold, and the live parameters, only where
Safety.lean lists it.
-/

namespace Sys2Proof.Machine

/-- From `s` to `s'`, what the four regions hold, and the live parameters, are as before unless the list names `c`. -/
def ProtectedKept (c : Instr) (s s' : State) : Prop :=
  (c.touchesWhoa = false → s'.whoa = s.whoa) ∧ (c.touchesTack = false → s'.tack = s.tack) ∧
    (c.touchesRec = false → s'.recd = s.recd) ∧ (c.touchesChip = false → s'.chip = s.chip) ∧
    (c.appliesParams = false → s'.live = s.live)

/-- A command that may reset is in every list. -/
theorem ProtectedKept.of_mayReset {c : Instr} {s s' : State} (h : c.mayReset = true) : ProtectedKept c s s' := by
  simp only [ProtectedKept, Instr.touchesWhoa, Instr.touchesTack, Instr.touchesRec, Instr.touchesChip,
    Instr.appliesParams, h, Bool.true_or, Bool.true_eq_false, false_implies, and_self]

/-- A frame lemma of ExecFrames.lean, `k`, is enough where it names everything whose list leaves the command out: the
lists are evaluated at the command, and `k` rewrites the rest. -/
theorem ProtectedKept.of_frame {c : Instr} {s s' : State} {p : Prop} (k : p)
    (hk : p → ProtectedKept c s s' := by
      intro k
      simp only [ProtectedKept, k, Instr.touchesWhoa, Instr.touchesTack, Instr.touchesRec, Instr.touchesChip,
        Instr.appliesParams, Bool.or_true, Bool.true_eq_false, false_implies, implies_true, and_self]) :
    ProtectedKept c s s' := hk k

/-- Whatever a command does, it leaves what is protected from it as it was. -/
theorem exec_protectedKept (c : Instr) (s : State) {s' : State} (h : exec c s = .next s') : ProtectedKept c s s' := by
  cases c with
  | powerOnReset | trialConfirmTimeout | activateReset | chipRstCmdFullReset | pciePerst | pcieLinkReset
  | registerWrite | reg64HighWrite | rgnCmdReset | whenReached | flowEntry | handshakeTimeout | cellError
  | blockError | blockRestartDone | regionError | regionReloaded | chipError | timeStep | queuePush | queuePop
  | mergePortTake | thermalSample | refClockCheck | powerOff | pllLockLoss =>
    exact .of_mayReset rfl
  | chipBootGo => exact .of_frame (execChipBootGo_frame _ _ _ _ _ _ h)
  | badAccess => exact .of_frame (execBadAccess_frame _ _ _ _ _ _ _ h)
  | rcRegisterRead => exact .of_frame (execRcRegisterRead_frame _ _ _ _ _ h)
  | reg64LowRead => exact .of_frame (execReg64LowRead_frame _ _ _ _ h)
  | timTimeLowRead => exact .of_frame (execTimTimeLowRead_frame _ _ _ h)
  | paramApply => exact .of_frame (execParamApply_frame _ _ _ _ _ h)
  | sqTailWrite => exact .of_frame (execSqTailWrite_frame _ _ _ _ h)
  | cqHeadWrite => exact .of_frame (execCqHeadWrite_frame _ _ _ _ h)
  | ringEnable => exact .of_frame (execRingEnable_frame _ _ _ _ _ _ h)
  | ringRecovered => exact .of_frame (execRingRecovered_frame _ _ _ h)
  | staleCompletionWrite => exact .of_frame (execStaleCompletionWrite_frame _ _ _ h)
  | descriptorFetch => exact .of_frame (execDescriptorFetch_frame _ _ _ _ h)
  | completionWrite => exact .of_frame (execCompletionWrite_frame _ _ _ h)
  | irqHoldoffExpiry => exact .of_frame (execIrqHoldoffExpiry_frame _ _ _ h)
  | stageDispatch => exact .of_frame (execStageDispatch_frame _ _ _ h)
  | completionRelease => exact .of_frame (execCompletionRelease_frame _ _ _ h)
  | dspObsSelWrite => exact .of_frame (execDspObsSelWrite_frame _ _ _ _ h)
  | dspLoadSelWrite => exact .of_frame (execDspLoadSelWrite_frame _ _ _ _ _ _ h)
  | handshakeRequest => exact .of_frame (execHandshakeRequest_frame _ _ _ _ _ _ _ h)
  | handshakeAckSeen => exact .of_frame (execHandshakeAckSeen_frame _ _ _ _ _ h)
  | hifNop => exact .of_frame (execHifNop_frame _ _ _ h)
  | hifSuspend => exact .of_frame (execHifSuspend_frame _ _ _ h)
  | hifResume => exact .of_frame (execHifResume_frame _ _ _ h)
  | hifCancel => exact .of_frame (execHifCancel_frame _ _ _ h)
  | queryOp => exact .of_frame (execQueryOp_frame _ _ _ h)
  | longOpSafePoint => exact .of_frame (execLongOpSafePoint_frame _ _ _ _ _ h)
  | hostWdogExpiry => exact .of_frame (execHostWdogExpiry_frame _ _ h)
  | superframeStart => exact .of_frame (execSuperframeStart_frame _ _ h)
  | sfCountStart => exact .of_frame (execSfCountStart_frame _ _ _ _ _ h)
  | superframeBuild => exact .of_frame (execSuperframeBuild_frame _ _ h)
  | frameMark => exact .of_frame (execFrameMark_frame _ _ h)
  | downlinkSpan => exact .of_frame (execDownlinkSpan_frame _ _ _ h)
  | headLinkState => exact .of_frame (execHeadLinkState_frame _ _ _ _ h)
  | rxFrame => exact .of_frame (execRxFrame_frame _ _ _ _ _ h)
  | txReport => exact .of_frame (execTxReport_frame _ _ _ _ h)
  | headStatus => exact .of_frame (execHeadStatus_frame _ _ _ _ h)
  | pong => exact .of_frame (execPong_frame _ _ _ _ h)
  | spanJudged => exact .of_frame (execSpanJudged_frame _ _ _ h)
  | callPeriodExpiry => exact .of_frame (execCallPeriodExpiry_frame _ _ _ h)
  | joinTimeoutExpiry => exact .of_frame (execJoinTimeoutExpiry_frame _ _ _ h)
  | schedLoad => exact .of_frame (execSchedLoad_frame _ _ _ _ h)
  | sessionAccept => exact .of_frame (execSessionAccept_frame _ _ _ _ h)
  | sessionRefuse => exact .of_frame (execSessionRefuse_frame _ _ _ h)
  | sessionLeave => exact .of_frame (execSessionLeave_frame _ _ _ h)
  | sessionSleep => exact .of_frame (execSessionSleep_frame _ _ _ h)
  | sessionWake => exact .of_frame (execSessionWake_frame _ _ _ h)
  | setRoute => exact .of_frame (execSetRoute_frame _ _ _ h)
  | setJoinKey => exact .of_frame (execSetJoinKey_frame _ _ _ h)
  | compatInject => exact .of_frame (execCompatInject_frame _ _ _ _ _ h)
  | setBeaconKey => exact .of_frame (execSetBeaconKey_frame _ _ _ h)
  | baseObsEpoch => exact .of_frame (execBaseObsEpoch_frame _ _ _ _ _ _ _ h)
  | baseEpochTimeout => exact .of_frame (execBaseEpochTimeout_frame _ _ _ h)
  | svSuspectClear => exact .of_frame (execSvSuspectClear_frame _ _ _ h)
  | interferenceChange => exact .of_frame (execInterferenceChange_frame _ _ h)
  | fixSolve => exact .of_frame (execFixSolve_frame _ _ _ _ h)
  | ambiguitySearch => exact .of_frame (execAmbiguitySearch_frame _ _ _ _ h)
  | searchWaitExpiry => exact .of_frame (execSearchWaitExpiry_frame _ _ _ h)
  | reinit => exact .of_frame (execReinit_frame _ _ _ _ h)
  | resetCtx => exact .of_frame (execResetCtx_frame _ _ _ h)
  | readCtx => exact .of_frame (execReadCtx_frame _ _ _ h)
  | gaitReplan => exact .of_frame (execGaitReplan_frame _ _ _ h)
  | sweepLocksHeld => exact .of_frame (execSweepLocksHeld_frame _ _ _ _ h)
  | knotPack => exact .of_frame (execKnotPack_frame _ _ _ h)
  | setTrack => exact .of_frame (execSetTrack_frame _ _ _ _ h)
  | setLimits => exact .of_frame (execSetLimits_frame _ _ _ h)
  | gaitRetarget => exact .of_frame (execGaitRetarget_frame _ _ _ h)
  | datumRun => exact .of_frame (execDatumRun_frame _ _ _ h)
  | limitTakeover => exact .of_frame (execLimitTakeover_frame _ _ _ h)
  | padCommit => exact .of_frame (execPadCommit_frame _ _ _ _ h)
  | whatIf => exact .of_frame (execWhatIf_frame _ _ _ _ _ h)
  | padRelease => exact .of_frame (execPadRelease_frame _ _ _ _ h)
  | setShape => exact .of_frame (execSetShape_frame _ _ _ _ h)
  | mapImport => exact .of_frame (execMapImport_frame _ _ _ _ _ h)
  | mapExport => exact .of_frame (execMapExport_frame _ _ _ h)
  | setHold => exact .of_frame (execSetHold_frame _ _ _ _ h)
  | readCell => exact .of_frame (execReadCell_frame _ _ _ _ h)
  | padTick => exact .of_frame (execPadTick_frame _ _ h)
  | groomTile => exact .of_frame (execGroomTile_frame _ _ _ h)
  | parkRenewal => exact .of_frame (execParkRenewal_frame _ _ _ h)
  | discWrite => exact .of_frame (execDiscWrite_frame _ _ _ _ _ h)
  | discEnd => exact .of_frame (execDiscEnd_frame _ _ _ h)
  | mirrorPadReceived => exact .of_frame (execMirrorPadReceived_frame _ _ _ h)
  | setRef => exact .of_frame (execSetRef_frame _ _ _ h)
  | selfSurvey => exact .of_frame (execSelfSurvey_frame _ _ _ h)
  | surveyNetworkTimeout => exact .of_frame (execSurveyNetworkTimeout_frame _ _ h)
  | sampleCountCheck => exact .of_frame (execSampleCountCheck_frame _ _ _ h)
  | portSyncChange => exact .of_frame (execPortSyncChange_frame _ _ _ _ h)
  | agcUpdate => exact .of_frame (execAgcUpdate_frame _ _ _ h)
  | spectrumFft => exact .of_frame (execSpectrumFft_frame _ _ _ _ h)
  | antennaSample => exact .of_frame (execAntennaSample_frame _ _ _ h)
  | antennaBiasRetry => exact .of_frame (execAntennaBiasRetry_frame _ _ h)
  | antRearm => exact .of_frame (execAntRearm_frame _ _ _ _ h)
  | trkMaskPrnWrite => exact .of_frame (execTrkMaskPrnWrite_frame _ _ _ _ h)
  | stabledBurst => exact .of_frame (execStabledBurst_frame _ _ _ _ h)
  | secondBoundary => exact .of_frame (execSecondBoundary_frame _ _ h)
  | ppsPulse => exact .of_frame (execPpsPulse_frame _ _ _ h)
  | cueInstant => exact .of_frame (execCueInstant_frame _ _ _ h)
  | cueSet => exact .of_frame (execCueSet_frame _ _ _ _ h)
  | setTime => exact .of_frame (execSetTime_frame _ _ _ h)
  | ptpSample => exact .of_frame (execPtpSample_frame _ _ _ h)
  | timIncrWrite => exact .of_frame (execTimIncrWrite_frame _ _ _ _ h)
  | voteExclGnss => exact .of_frame (execVoteExclGnss_frame _ _ _ h)
  | voteExclA => exact .of_frame (execVoteExclA_frame _ _ _ h)
  | voteExclB => exact .of_frame (execVoteExclB_frame _ _ _ h)
  | voteInclGnss => exact .of_frame (execVoteInclGnss_frame _ _ _ h)
  | voteInclA => exact .of_frame (execVoteInclA_frame _ _ _ h)
  | voteInclB => exact .of_frame (execVoteInclB_frame _ _ _ h)
  | clearSuspect => exact .of_frame (execClearSuspect_frame _ _ _ h)
  | ppsForceStart => exact .of_frame (execPpsForceStart_frame _ _ _ _ h)
  | spoofClear => exact .of_frame (execSpoofClear_frame _ _ _ h)
  | svClearAll => exact .of_frame (execSvClearAll_frame _ _ _ h)
  | stopChannelOpen => exact .of_frame (execStopChannelOpen_frame _ _ _ _ h)
  | stopChannelClosed => exact .of_frame (execStopChannelClosed_frame _ _ _ _ h)
  | testPulse => exact .of_frame (execTestPulse_frame _ _ _ _ _ _ h)
  | disagreeFault => exact .of_frame (execDisagreeFault_frame _ _ _ h)
  | keyPosition => exact .of_frame (execKeyPosition_frame _ _ _ _ h)
  | touchMeasure => exact .of_frame (execTouchMeasure_frame _ _ _ h)
  | resumeHoldComplete => exact .of_frame (execResumeHoldComplete_frame _ _ h)
  | outputReadbackFault => exact .of_frame (execOutputReadbackFault_frame _ _ _ _ h)
  | oscMonitor => exact .of_frame (execOscMonitor_frame _ _ _ _ h)
  | plugDetect => exact .of_frame (execPlugDetect_frame _ _ _ _ _ _ h)
  | whoaStatusEvent => exact .of_frame (execWhoaStatusEvent_frame _ _ h)
  | fleetStop => exact .of_frame (execFleetStop_frame _ _ _ h)
  | fleetResume => exact .of_frame (execFleetResume_frame _ _ _ h)
  | stopFrameRepeat => exact .of_frame (execStopFrameRepeat_frame _ _ h)
  | netFrameRx => exact .of_frame (execNetFrameRx_frame _ _ _ _ _ _ _ _ h)
  | netTxStart => exact .of_frame (execNetTxStart_frame _ _ _ _ _ h)
  | netTxTimeout => exact .of_frame (execNetTxTimeout_frame _ _ _ _ h)
  | pauseRx => exact .of_frame (execPauseRx_frame _ _ _ h)
  | pauseExpiry => exact .of_frame (execPauseExpiry_frame _ _ h)
  | pauseTx => exact .of_frame (execPauseTx_frame _ _ _ h)
  | portBCollision => exact .of_frame (execPortBCollision_frame _ _ _ h)
  | plcaBeaconTimeout => exact .of_frame (execPlcaBeaconTimeout_frame _ _ h)
  | portLinkChange => exact .of_frame (execPortLinkChange_frame _ _ _ _ _ _ h)
  | netTx => exact .of_frame (execNetTx_frame _ _ _ _ h)
  | netRx => exact .of_frame (execNetRx_frame _ _ _ h)
  | mdio => exact .of_frame (execMdio_frame _ _ _ _ h)
  | rtcmInputGap => exact .of_frame (execRtcmInputGap_frame _ _ _ h)
  | refMonitor => exact .of_frame (execRefMonitor_frame _ _ _ h)
  | tamperDetect => exact .of_frame (execTamperDetect_frame _ _ _ h)
  | tackLoad => exact .of_frame (execTackLoad_frame _ _ _ _ _ h)
  | tackGenerate => exact .of_frame (execTackGenerate_frame _ _ _ _ _ h)
  | tackDerive => exact .of_frame (execTackDerive_frame _ _ _ _ h)
  | tackExport => exact .of_frame (execTackExport_frame _ _ _ _ h)
  | tackUnload => exact .of_frame (execTackUnload_frame _ _ _ h)
  | tackRevoke => exact .of_frame (execTackRevoke_frame _ _ _ h)
  | tackImport => exact .of_frame (execTackImport_frame _ _ _ _ h)
  | tackSign => exact .of_frame (execTackSign_frame _ _ _ _ h)
  | tackMac => exact .of_frame (execTackMac_frame _ _ _ _ h)
  | tackRandom => exact .of_frame (execTackRandom_frame _ _ _ _ h)
  | tackPubkey => exact .of_frame (execTackPubkey_frame _ _ _ _ h)
  | tackAttest => exact .of_frame (execTackAttest_frame _ _ _ _ _ h)
  | epochAdvance => exact .of_frame (execEpochAdvance_frame _ _ _ h)
  | tackRewrap => exact .of_frame (execTackRewrap_frame _ _ _ _ _ h)
  | tackZeroise => exact .of_frame (execTackZeroise_frame _ _ _ h)
  | tamperClear => exact .of_frame (execTamperClear_frame _ _ _ h)
  | recArm => exact .of_frame (execRecArm_frame _ _ _ h)
  | recFire => exact .of_frame (execRecFire_frame _ _ _ h)
  | recDisarm => exact .of_frame (execRecDisarm_frame _ _ _ h)
  | recReadout => exact .of_frame (execRecReadout_frame _ _ _ _ h)
  | recDiscard => exact .of_frame (execRecDiscard_frame _ _ _ h)
  | recTrigger => exact .of_frame (execRecTrigger_frame _ _ h)
  | captureFilled => exact .of_frame (execCaptureFilled_frame _ _ h)
  | trigSyncPulse => exact .of_frame (execTrigSyncPulse_frame _ _ _ _ h)
  | queueReadTimeout => exact .of_frame (execQueueReadTimeout_frame _ _ _ h)
  | queueEnableWrite => exact .of_frame (execQueueEnableWrite_frame _ _ _ _ _ h)
  | scrubWord => exact .of_frame (execScrubWord_frame _ _ _ h)
  | pwrGoodTimeout => exact .of_frame (execPwrGoodTimeout_frame _ _ _ h)
  | stableEnter => exact .of_frame (execStableEnter_frame _ _ _ h)
  | wakeSource => exact .of_frame (execWakeSource_frame _ _ _ h)
  | wakeDone => exact .of_frame (execWakeDone_frame _ _ h)
  | imgWrite => exact .of_frame (execImgWrite_frame _ _ _ _ h)
  | imgActivate => exact .of_frame (execImgActivate_frame _ _ _ h)
  | imgConfirm => exact .of_frame (execImgConfirm_frame _ _ _ h)
  | otpProgram => exact .of_frame (execOtpProgram_frame _ _ _ _ h)
  | debugUnlock => exact .of_frame (execDebugUnlock_frame _ _ _ _ h)
  | hitchInChange => exact .of_frame (execHitchInChange_frame _ _ _ h)
  | tokenClaimCheck => exact .of_frame (execTokenClaimCheck_frame _ _ h)
  | claimWaitExpiry => exact .of_frame (execClaimWaitExpiry_frame _ _ h)
  | tokenRelease => exact .of_frame (execTokenRelease_frame _ _ _ h)
  | bylLinkTrained => exact .of_frame (execBylLinkTrained_frame _ _ _ _ _ h)
  | bylHello => exact .of_frame (execBylHello_frame _ _ _ h)
  | bylConfirm => exact .of_frame (execBylConfirm_frame _ _ _ h)
  | bylResendTimeout => exact .of_frame (execBylResendTimeout_frame _ _ _ _ h)
  | heartbeatSend => exact .of_frame (execHeartbeatSend_frame _ _ h)
  | heartbeatReceived => exact .of_frame (execHeartbeatReceived_frame _ _ _ h)
  | heartbeatMiss => exact .of_frame (execHeartbeatMiss_frame _ _ h)
  | takeover => exact .of_frame (execTakeover_frame _ _ h)
  | coldTakeover => exact .of_frame (execColdTakeover_frame _ _ h)
  | mirrorGait => exact .of_frame (execMirrorGait_frame _ _ _ _ _ h)
  | mirrorSession => exact .of_frame (execMirrorSession_frame _ _ _ _ _ h)
  | mirrorConfig => exact .of_frame (execMirrorConfig_frame _ _ _ _ h)
  | mirrorAck => exact .of_frame (execMirrorAck_frame _ _ _ h)
  | tileReq => exact .of_frame (execTileReq_frame _ _ _ h)
  | tileData => exact .of_frame (execTileData_frame _ _ _ _ h)
  | recArmMessage => exact .of_frame (execRecArmMessage_frame _ _ _ h)
  | recFireMessage => exact .of_frame (execRecFireMessage_frame _ _ _ h)
  | svcMsg => exact .of_frame (execSvcMsg_frame _ _ _ _ h)
  | pairHandover => exact .of_frame (execPairHandover_frame _ _ _ h)
  | handoverTimeout => exact .of_frame (execHandoverTimeout_frame _ _ h)
  | bylLinkLoss => exact .of_frame (execBylLinkLoss_frame _ _ _ _ h)
  | helloRetry => exact .of_frame (execHelloRetry_frame _ _ h)
  | plcaBeaconReceived => exact .of_frame (execPlcaBeaconReceived_frame _ _ h)
  | preemptionVerify => exact .of_frame (execPreemptionVerify_frame _ _ _ h)
  | acquisitionHandoff => exact .of_frame (execAcquisitionHandoff_frame _ _ _ _ _ _ h)
  | signalLockLoss => exact .of_frame (execSignalLockLoss_frame _ _ _ _ h)
  | downlinkBulkSpan => exact .of_frame (execDownlinkBulkSpan_frame _ _ _ h)
  | pulseWidthEnd => exact .of_frame (execPulseWidthEnd_frame _ _ _ h)
  | handoverYield => exact .of_frame (execHandoverYield_frame _ _ h)
  | interconnectCorrectedError => exact .of_frame (execInterconnectCorrectedError_frame _ _ h)

end Sys2Proof.Machine

namespace Sys2Proof
open Sys2Proof.Machine

/-- Settles O54: the frame of each command names everything whose list leaves the command out. -/
theorem protectedStateStaysWithItsCommands : Obligations.ProtectedStateStaysWithItsCommands :=
  fun c s _ h => exec_protectedKept c s h

end Sys2Proof

/-!
The panel and the monitors of WHOA (O31), and CHIP's side of it (O32): what their commands do where they act.
-/

namespace Sys2Proof.Machine

/-! ### The panel (R337, R338, R339, R341) -/

/-- A RESUME hold of 2 s in STOPPED with conditions 1 to 3 releases where condition 5 holds; else it is spent. -/
theorem execResumeHoldComplete_held {s : State} {t : Nat} (hhold : (s.to t).flag B.WHOA_TOUCH_STS_HOLD = true)
    (hms : 2000 ≤ (s.to t).get B.WHOA_TOUCH_STS_HOLD_MS) (hstopped : (s.to t).stopped = true)
    (hready : (s.to t).releaseReady = true) :
    execResumeHoldComplete t s =
      if (s.to t).releasePermitted then ok (s.to t).release
      else ok ((((({ (s.to t) with whoa := { (s.to t).whoa with holdSpent := true } }) : State).setFlag
        B.WHOA_TOUCH_STS_HOLD false).set B.WHOA_TOUCH_STS_HOLD_MS 0).reportWhoa) :=
  if_pos ⟨hhold, hms, hstopped, hready⟩

/-! ### The monitors (R334, R342, R343) -/

/-- WHOA_PLUG_STS as the plug detects give it: the hitch posts, the antenna plug, the service plug and SERVICE_OK. -/
def State.plugWord (s : State) (hpd : BitVec 8) (ant svc : Bool) : Nat :=
  hpd.toNat + (if ant then 2 ^ 8 else 0) + (if svc then 2 ^ 9 else 0) + (if svc && s.keyPos == 1 then 2 ^ 10 else 0)

/-- Plug detects steady for 10 ms that differ from those before are taken and reported. -/
theorem execPlugDetect_changes {s : State} {t steady : Nat} {hpd : BitVec 8} {ant svc : Bool}
    (hsteady : 10 * whoaMs ≤ steady) (hnew : (s.to t).rd Reg.WHOA_PLUG_STS ≠ (s.to t).plugWord hpd ant svc) :
    execPlugDetect t hpd ant svc steady s =
      ok (((((s.to t).wr Reg.WHOA_PLUG_STS ((s.to t).plugWord hpd ant svc)).setFlag B.CHIP_DEBUG_SERVICE_OK
        (svc && (s.to t).keyPos == 1)).whoaChange 6 0 ((s.to t).plugWord hpd ant svc)).whoaEval) := by
  rw [State.plugWord] at hnew
  simp only [execPlugDetect, if_neg (Nat.not_lt.mpr hsteady), if_neg hnew, State.plugWord]

end Sys2Proof.Machine

namespace Sys2Proof
open Sys2Proof.Machine

/-- Settles O31: each clause is the case of its command that the premises select. -/
theorem panelAndMonitorsComplete : Obligations.PanelAndMonitorsComplete := by
  unfold Obligations.PanelAndMonitorsComplete
  refine ⟨?touch, ?releases, ?spent, ?readback, ?osc, ?plug⟩
  case touch =>
    intro s t readings hdue
    exact if_neg (by rw [hdue]; decide)
  case releases =>
    intro s t hhold hms hstopped hready hpermitted
    exact (execResumeHoldComplete_held hhold hms hstopped hready).trans (if_pos hpermitted)
  case spent =>
    intro s t hhold hms hstopped hready hdenied
    exact (execResumeHoldComplete_held hhold hms hstopped hready).trans (if_neg (Bool.eq_false_iff.mp hdenied))
  case readback =>
    intro s t outs steady hsteady hbad
    exact if_pos ⟨hsteady, hbad⟩
  case osc =>
    intro s t main second hapart
    exact if_pos hapart
  case plug =>
    intro s t hpd ant svc steady hsteady hnew
    exact execPlugDetect_changes hsteady hnew

/-- Settles O32: each operation that goes acts, and what WHOA and NET do of themselves is the case selected. -/
theorem stopRequestsComplete : Obligations.StopRequestsComplete := by
  unfold Obligations.StopRequestsComplete
  refine ⟨?status, ?stop, ?resume, ?resumeInGo, ?repeats⟩
  case status =>
    rintro s t x l _ _ hchanges rfl rfl
    simp only [exec, execWhoaStatusEvent, hchanges]
  case stop =>
    intro s t it late hgoes
    exact congrArg ok (State.runOp_goes hgoes)
  case resume =>
    intro s t it late hgoes
    exact congrArg ok (State.runOp_goes hgoes)
  case resumeInGo =>
    intro s t it hrejects
    exact congrArg ok (State.runOp_rejects hrejects)
  case repeats =>
    intro s t hstopped hdue
    exact if_pos ⟨hstopped, hdue⟩

end Sys2Proof

/-!
The steps of the machine (O48, O49) and the time unit (O27, O28, O29): its samples, steps, pulses, cues and votes.
-/

namespace Sys2Proof.Machine

/-! ### Steps of the machine (R347) -/

/-- With no command waiting, one cycle of TIM passes. -/
theorem step_idle {s : State} (h : s.pending = []) : step s = .next (s.advance 1) := by
  simp only [step, h]

/-- A step takes the command at the front of the queue. -/
theorem step_front {s : State} {c : Instr} {rest : List Instr} (h : s.pending = c :: rest) :
    step s = exec c { s with pending := rest } := by
  simp only [step, h]

/-! ### Increments (R348) -/

/-- A served write of TIM_INCR is taken in MANUAL mode within 100 ppm of nominal, else refused. -/
theorem execTimIncrWrite_reaches {s x : State} {t : Nat} {rq : Requester} {val : BitVec 64}
    (hs : (s.to t).reaches rq (Reg.TIM_INCR + 4) = true) (hx : x = (s.to t).reached rq (Reg.TIM_INCR + 4) true) :
    execTimIncrWrite t rq val s =
      ok (if x.flag B.TIM_SERVO_CTL_MANUAL ∧ incrLegal (val.toNat % 2 ^ 48) then x.wr64 Reg.TIM_INCR
        (val.toNat % 2 ^ 48) else x.setFlag B.TIM_STS_INCR_REJ true) := by
  subst hx
  exact congrArg ok (State.access_reaches hs)

/-! ### Steps of the counter (R353, R361, R363, R364) -/

/-- A step of TIM's own is due at its second where no SET_TIME waits. -/
theorem State.dueStep_own {s : State} {S : Int} {sec : Nat} (hnone : s.tim.setWaits = [])
    (hstep : s.tim.step = some (S, sec)) (hdue : sec ≤ s.devNs / 10 ^ 9) : s.dueStep = (s.ownStep S, some S) := by
  simp only [State.dueStep, hnone, hstep, if_pos hdue]

/-- The step that a SET_TIME makes at its second. -/
def SetTimeWait.size (q : SetTimeWait) : Int := (q.item.d.arg0.toNat : Int) - (q.sec * 10 ^ 9 : Nat)

/-- The oldest SET_TIME is due at its second. -/
theorem State.dueStep_setTime {s : State} {q : SetTimeWait} {l : List SetTimeWait} (hwaits : s.tim.setWaits = q :: l)
    (hdue : q.sec ≤ s.devNs / 10 ^ 9) : s.dueStep = (s.setTimeStep q, some q.size) := by
  simp only [State.dueStep, hwaits, if_pos hdue, SetTimeWait.size]

/-- Once the counter of `v` has stepped by `S`, what keeps its place in device time moves with it: from the time `old`
and the superframe start `start`. -/
def State.followStep (v : State) (S : Int) (old start : Nat) : State :=
  let w := ((v.stepAir S).stepTicks S).stepRest S start
  let x := if 0 < S then (w.stepWaiting old).stepNet old else w
  x.cueSlots.foldl (fun (s : State) k => s.cueStep k) x

/-- While TIM runs, a due step is added to the counter, and what keeps its place in device time moves with it. -/
theorem execTimeStep_due {s v : State} {t : Nat} {S : Int} (hruns : (s.to t).runs 11 0 = true)
    (hdue : (s.to t).dueStep = (v, some S)) :
    execTimeStep t s = ok (v.followStep S (s.to t).devNs (s.to t).nextStart) := by
  simp only [execTimeStep, hruns, hdue, Bool.not_true, Bool.false_eq_true, if_false, State.followStep]

/-! ### PPS outputs (R359, R360) -/

/-- The mark that device time has reached is passed. -/
def State.atMark (s : State) (n : Nat) : State := s.setPps n { s.ppsOf n with mark := s.markOf n }

/-- A started output passes the mark that device time has reached, with a pulse where it is enabled and not quiet. -/
theorem State.passMark_new {s : State} {n : Nat} (hstarted : (s.ppsOf n).started = true)
    (hnew : (s.ppsOf n).mark < s.markOf n) :
    s.passMark n = if (s.atMark n).flag (B.TIM_PPS_CTL_ENABLE n) ∧ (s.ppsOf n).quietTo ≤ (s.atMark n).cyc
      then (s.atMark n).pulsePps n else s.atMark n :=
  if_pos ⟨hstarted, hnew⟩

/-! ### Ends of pulses (R362, R369) -/

/-- The end of the width ends the pulse of a PPS output. -/
theorem execPulseWidthEnd_pps {s : State} {t e : Nat} {out : Fin 10} (hpps : out.val < 2)
    (hend : ((s.to t).ppsOf out.val).pulseEnd = some e) (hover : e ≤ (s.to t).cyc) :
    execPulseWidthEnd t out s =
      ok ((s.to t).setPps out.val { ((s.to t).ppsOf out.val) with pulseEnd := none }) := by
  simp only [execPulseWidthEnd, if_pos hpps, hend, if_pos hover]

/-- The end of the width returns a cue output to its level. -/
theorem execPulseWidthEnd_cue {s : State} {t e : Nat} {out : Fin 10} {level : Bool} (hcue : 2 ≤ out.val)
    (hpulse : Sp.find (s.to t).tim.cuePulse (out.val - 2) = some (e, level)) (hover : e ≤ (s.to t).cyc) :
    execPulseWidthEnd t out s = ok (({ (s.to t) with tim := { (s.to t).tim with
      cuePulse := Sp.drop (s.to t).tim.cuePulse (out.val - 2) } } : State).setCueLevel (out.val - 2) level) := by
  simp only [execPulseWidthEnd, if_neg (Nat.not_lt.mpr hcue), hpulse, if_pos hover]

/-! ### Cues (R365, R366, R367) -/

/-- CUE_SET with a free slot runs as any operation does; ahead of its instant the cue takes the slot. -/
theorem execCueSet_free {s : State} {t slot : Nat} {it : Item} {raw : List Byte} {stored : Option Desc}
    (hstored : (if argBit it.d.arg0 6 then some (Desc.ofBytes raw) else none) = stored)
    (hfree : (s.to t).freeCue = some slot) :
    execCueSet t it raw s = ok ((s.to t).runOpWith 11 it { Checks.pass with range := cueRange it.d stored }
      (fun s it => s.takeCue it stored slot) (fun s it => s.cueNow it stored slot)) := by
  subst hstored
  simp only [execCueSet, hfree]

/-- CUE_SET without a free slot fails its state check. -/
theorem execCueSet_full {s : State} {t : Nat} {it : Item} {raw : List Byte} {stored : Option Desc}
    (hstored : (if argBit it.d.arg0 6 then some (Desc.ofBytes raw) else none) = stored)
    (hfree : (s.to t).freeCue = none) :
    execCueSet t it raw s = ok ((s.to t).runOpWith 11 it
      { Checks.pass with range := cueRange it.d stored, state := false } (fun s _ => s) (fun s _ => s)) := by
  subst hstored
  simp only [execCueSet, hfree]

/-- The instant of cue `c` in `slot` is due: TIM steps its cues, none behind it is still to act, and the cue has an
instant left. -/
def State.cueDue (s : State) (slot : Nat) (c : CueSlot) : Prop :=
  s.cueOf? slot = some c ∧ c.due ≤ s.devNs ∧ s.runs 11 blkCues = true ∧ s.cueBehind slot = false ∧
    (c.repeats = true ∨ c.next ≠ 1)

/-- A due instant is skipped while the cue is suspended, and acts otherwise. -/
theorem execCueInstant_due {s : State} {t : Nat} {slot : Fin 64} {c : CueSlot} (h : (s.to t).cueDue slot.val c) :
    execCueInstant t slot s =
      ok (if (s.to t).cueHeld c then (s.to t).cueSkip slot.val c 1 else (s.to t).cueFire slot.val c false 0) := by
  obtain ⟨hcue, hdue, hruns, hfirst, hleft⟩ := h
  have hgoes : ¬((s.to t).devNs < c.due ∨ (!(s.to t).runs 11 blkCues) = true ∨
      ((!c.repeats) = true ∧ c.next = 1) ∨ (s.to t).cueBehind slot.val = true) := by
    have hover : ¬(c.repeats = false ∧ c.next = 1) := by
      rintro ⟨honce, hone⟩
      simp [honce, hone] at hleft
    simp [Nat.not_lt.mpr hdue, hruns, hfirst, hover]
  simp only [execCueInstant, hcue, if_neg hgoes, apply_ite ok]

end Sys2Proof.Machine

namespace Sys2Proof
open Sys2Proof.Machine

/-- Settles O27: each clause is the case of its command that the premises select. -/
theorem timeKeepingCompletes : Obligations.TimeKeepingCompletes := by
  unfold Obligations.TimeKeepingCompletes
  refine ⟨?timeRead, ?snapshot, ?incr, ?incrRefused, ?second, ?sample, ?setTime, ?ownStep, ?setTimeStep⟩
  case timeRead =>
    intro s t rq hs
    exact congrArg ok (State.access_reaches hs)
  case snapshot =>
    rintro s t _ _ rfl rfl
    rfl
  case incr =>
    intro s t rq val hs hmanual hlegal
    exact (execTimIncrWrite_reaches hs rfl).trans (congrArg ok (if_pos ⟨hmanual, hlegal⟩))
  case incrRefused =>
    intro s t rq val hs hbad
    refine (execTimIncrWrite_reaches hs rfl).trans (congrArg ok (if_neg ?_))
    rintro ⟨hmanual, hlegal⟩
    rcases hbad with hbad | hbad
    · exact Bool.false_ne_true (hbad.symm.trans hmanual)
    · exact Bool.false_ne_true (hbad.symm.trans hlegal)
  case second =>
    intro s t hnew hruns
    exact if_neg (not_or.mpr ⟨hnew, by rw [hruns]; decide⟩)
  case sample =>
    intro s t it late hgoes
    exact congrArg ok (State.runOp_goes hgoes)
  case setTime =>
    intro s t it late hgoes
    exact congrArg ok (State.runOp_goes hgoes)
  case ownStep =>
    intro s t S sec hruns hnone hstep hdue
    exact execTimeStep_due hruns (State.dueStep_own hnone hstep hdue)
  case setTimeStep =>
    intro s t q l hruns hwaits hdue
    exact execTimeStep_due hruns (State.dueStep_setTime hwaits hdue)

/-- Settles O28: each clause is the case of its command that the premises select. -/
theorem pulsesAndCuesComplete : Obligations.PulsesAndCuesComplete := by
  unfold Obligations.PulsesAndCuesComplete
  refine ⟨?start, ?pulse, ?noPulse, ?ppsEnd, ?cueEnd, ?ahead, ?atOnce, ?full, ?acts, ?skipped⟩
  case start =>
    intro s t rq n hs
    exact congrArg ok (State.access_reaches hs)
  case pulse =>
    intro s t n hstarted hnew henabled hquiet
    exact congrArg ok ((State.passMark_new hstarted hnew).trans (if_pos ⟨henabled, hquiet⟩))
  case noPulse =>
    intro s t n hstarted hnew hdisabled
    refine congrArg ok ((State.passMark_new hstarted hnew).trans (if_neg ?_))
    rintro ⟨henabled, _⟩
    exact Bool.false_ne_true (hdisabled.symm.trans henabled)
  case ppsEnd =>
    intro s t out e hpps hend hover
    exact execPulseWidthEnd_pps hpps hend hover
  case cueEnd =>
    intro s t out e v hcue hpulse hover
    exact execPulseWidthEnd_cue hcue hpulse hover
  case ahead =>
    intro s t it raw stored slot hstored hfree hwaits
    exact (execCueSet_free hstored hfree).trans (congrArg ok (State.runOpWith_waits hwaits))
  case atOnce =>
    intro s t it raw stored slot late hstored hfree hgoes
    exact (execCueSet_free hstored hfree).trans (congrArg ok (State.runOpWith_goes hgoes))
  case full =>
    intro s t it raw stored hstored hfree hrejects
    exact (execCueSet_full hstored hfree).trans (congrArg ok (State.runOpWith_rejects hrejects))
  case acts =>
    intro s t slot c hcue hdue hruns hfirst hleft hheld
    exact (execCueInstant_due ⟨hcue, hdue, hruns, hfirst, hleft⟩).trans
      (congrArg ok (if_neg (Bool.eq_false_iff.mp hheld)))
  case skipped =>
    intro s t slot c hcue hdue hruns hfirst hrepeats hheld
    exact (execCueInstant_due ⟨hcue, hdue, hruns, hfirst, .inl hrepeats⟩).trans (congrArg ok (if_pos hheld))

/-- Settles O29: each command is one served access of TIM_VOTE_CMD. -/
theorem voteCommandsComplete : Obligations.VoteCommandsComplete := by
  unfold Obligations.VoteCommandsComplete
  refine ⟨?exclGnss, ?exclA, ?exclB, ?inclGnss, ?inclA, ?inclB, ?clear⟩
  all_goals
    intro s t rq hs
    exact congrArg ok (State.access_reaches hs)

/-- Settles O49: an idle step is one cycle of the clock. -/
theorem emptyQueueTicks : Obligations.EmptyQueueTicks := fun s hidle => ⟨(s.advance 1).ctr, step_idle hidle⟩

/-- Settles O48: a step takes the command at the front of the queue. -/
theorem stepRunsFrontCommand : Obligations.StepRunsFrontCommand := fun _ _ _ hqueue => step_front hqueue

end Sys2Proof

/-!
Frames and media of the wired ports (O33): how a frame is received, sent, dropped, and what MDIO returns.
-/

namespace Sys2Proof.Machine

/-! ### Received frames (R376, R377, R378) -/

/-- Port `p` is enabled and its block steps. -/
def State.portOn (s : State) (p : Nat) : Prop := s.runs 10 (blkPort p) = true ∧ s.flag (netEnable p) = true

theorem State.portOn_goes {s : State} {p : Nat} (h : s.portOn p) :
    ¬((!s.runs 10 (blkPort p)) = true ∨ (!s.flag (netEnable p)) = true) := by
  obtain ⟨hruns, hon⟩ := h
  simp [hruns, hon]

/-- A frame of fewer than 64 bytes counts as undersize. -/
theorem execNetFrameRx_undersize {s : State} {t fill : Nat} {port : Fin 2} {bs : List Byte} {express fragErr : Bool}
    {stamp : BitVec 64} (hport : (s.to t).portOn port.val) (hshort : bs.length ≤ 63) :
    execNetFrameRx t port bs express fragErr stamp fill s = ok ((s.to t).count (netCnt port.val 1)) := by
  simp only [execNetFrameRx, if_neg (State.portOn_goes hport), if_pos hshort]

/-- A whole frame with a bad FCS counts as such. -/
theorem execNetFrameRx_badFcs {s : State} {t fill : Nat} {port : Fin 2} {bs : List Byte} {express : Bool}
    {stamp : BitVec 64} (hport : (s.to t).portOn port.val) (hlong : 64 ≤ bs.length) (hbad : fcsGood bs = false) :
    execNetFrameRx t port bs express false stamp fill s = ok ((s.to t).count (netCnt port.val 2)) := by
  have hsize : ¬bs.length ≤ 63 := Nat.not_le.mpr hlong
  simp only [execNetFrameRx, if_neg (State.portOn_goes hport), if_neg hsize, hbad, Bool.not_false, Bool.false_eq_true,
    if_false, if_true]

/-- A frame of a legal length with a good FCS has come to an enabled port. -/
def State.frameGood (s : State) (p : Nat) (bs : List Byte) : Prop :=
  s.portOn p ∧ 64 ≤ bs.length ∧ fcsGood bs = true ∧ bs.length ≤ s.netMax p

/-- Such a frame is a MAC control frame of Port A. -/
def isControl (p : Nat) (bs : List Byte) : Prop := p = 0 ∧ beAt bs 0 6 = 0x0180C2000001

/-- A PAUSE is taken. -/
theorem execNetFrameRx_pause {s v : State} {t fill q : Nat} {port : Fin 2} {bs : List Byte} {express : Bool}
    {stamp : BitVec 64} (hgood : (s.to t).frameGood port.val bs)
    (hv : v = (s.to t).seeWire port.val false ((s.to t).rxStamp port.val stamp) (etherType bs) bs)
    (hcontrol : isControl port.val bs) (hpause : pauseOf bs = some q) :
    execNetFrameRx t port bs express false stamp fill s = ok (v.takePause q) := by
  obtain ⟨hport, hlong, hfcs, hmax⟩ := hgood
  have hsize : ¬bs.length ≤ 63 := Nat.not_le.mpr hlong
  rw [isControl] at hcontrol
  simp only [execNetFrameRx, if_neg (State.portOn_goes hport), if_neg hsize, hfcs, Nat.not_lt.mpr hmax, false_and,
    Bool.not_true, Bool.false_eq_true, if_false, if_pos hcontrol, hpause, hv]

/-- A frame that matches no address is counted and dropped. -/
theorem execNetFrameRx_unmatched {s v : State} {t fill : Nat} {port : Fin 2} {bs : List Byte} {express : Bool}
    {stamp : BitVec 64} (hgood : (s.to t).frameGood port.val bs)
    (hv : v = (s.to t).seeWire port.val false ((s.to t).rxStamp port.val stamp) (etherType bs) bs)
    (hdata : ¬isControl port.val bs) (hnone : v.netMatch port.val (beAt bs 0 6) = none) :
    execNetFrameRx t port bs express false stamp fill s = ok (v.count (netCnt port.val 4)) := by
  obtain ⟨hport, hlong, hfcs, hmax⟩ := hgood
  have hsize : ¬bs.length ≤ 63 := Nat.not_le.mpr hlong
  rw [isControl] at hdata
  rw [hv] at hnone
  simp only [execNetFrameRx, if_neg (State.portOn_goes hport), if_neg hsize, hfcs, Nat.not_lt.mpr hmax, false_and,
    Bool.not_true, Bool.false_eq_true, if_false, if_neg hdata, hnone, hv]

/-- A frame that matches and finds room is delivered. -/
theorem execNetFrameRx_delivers {s v : State} {t fill m d : Nat} {port : Fin 2} {bs : List Byte} {express : Bool}
    {stamp : BitVec 64} (hgood : (s.to t).frameGood port.val bs)
    (hv : v = (s.to t).seeWire port.val false ((s.to t).rxStamp port.val stamp) (etherType bs) bs)
    (hdata : ¬isControl port.val bs) (hmatch : v.netMatch port.val (beAt bs 0 6) = some (m, d))
    (hroom : fill + bs.length ≤ 32768) :
    execNetFrameRx t port bs express false stamp fill s = ok (v.netDeliver port.val m d bs express stamp) := by
  obtain ⟨hport, hlong, hfcs, hmax⟩ := hgood
  have hsize : ¬bs.length ≤ 63 := Nat.not_le.mpr hlong
  rw [isControl] at hdata
  rw [hv] at hmatch
  simp only [execNetFrameRx, if_neg (State.portOn_goes hport), if_neg hsize, hfcs, Nat.not_lt.mpr hmax, false_and,
    Bool.not_true, Bool.false_eq_true, if_false, if_neg hdata, hmatch, if_neg (Nat.not_lt.mpr hroom), hv]

/-- A frame of a legal length goes into the oldest buffer of its destination, clamped to it. -/
theorem State.netDeliver_buffer {s w : State} {p m d : Nat} {bs wrote : List Byte} {express : Bool}
    {stamp : BitVec 64} {it : Item} {rest : List Item} (hbuf : s.bufs p d = it :: rest)
    (hmax : bs.length ≤ s.netMax p) (hwrote : wrote = (bs.take (bs.length - 4)).take it.d.len.toNat)
    (hw : w = ((s.setBufs p d rest).count (netCnt p 0)).writeHost it.d.ptr.toNat wrote) :
    s.netDeliver p m d bs express stamp =
      w.finish it 10 (if it.d.len.toNat < (bs.take (bs.length - 4)).length then .doneClamped else .done)
        ⟨w.rxStamp p stamp, rxWord bs express false m, wrote.length⟩ := by
  subst hwrote hw
  simp only [State.netDeliver, hbuf, Nat.not_lt.mpr hmax, decide_false, if_false]

/-! ### Frames that start (R379, R380, R381) -/

/-- Port `p` is open to a frame of its queue: no frame holds its line, and no express frame goes before it. -/
def State.lineFree (s : State) (p : Nat) (express : Bool) : Prop :=
  s.txOpen p = true ∧ s.lineTaken p express = false ∧ ¬(p = 0 ∧ express = false ∧ (s.txHead p true).isSome = true)

theorem State.lineFree_goes {s : State} {p : Nat} {express : Bool} (h : s.lineFree p express) :
    ¬((!s.txOpen p) = true ∨ s.lineTaken p express = true ∨
      (p = 0 ∧ (!express) = true ∧ (s.txHead p true).isSome = true)) := by
  obtain ⟨hopen, hfree, hfirst⟩ := h
  simp only [hopen, hfree, Bool.not_true, Bool.false_eq_true, false_or, Bool.not_eq_true']
  exact hfirst

/-- With no frame cut short, the frame at the head is looked at. -/
theorem execNetTxStart_head {s : State} {t : Nat} {port : Fin 2} {express : Bool} {stamp : BitVec 64} {x : TxItem}
    (hfree : (s.to t).lineFree port.val express) (hnone : (s.to t).net.held = none)
    (hhead : (s.to t).txHead port.val express = some x) :
    execNetTxStart t port express stamp s = ok ((s.to t).startHead port.val x stamp) := by
  simp only [execNetTxStart, if_neg (State.lineFree_goes hfree), hnone, hhead]

/-- A frame cut short goes on before the next of its queue. -/
theorem execNetTxStart_continues {s : State} {t : Nat} {stamp : BitVec 64} {w : Wire}
    (hfree : (s.to t).lineFree 0 false) (hheld : (s.to t).net.held = some w) :
    execNetTxStart t 0 false stamp s = ok ((s.to t).continueFrame w) := by
  have hgoes := State.lineFree_goes hfree
  have hqueue : ((0 : Fin 2).val = 0) ∧ (!false) = true := ⟨rfl, rfl⟩
  simp only [execNetTxStart, hheld]
  exact (if_neg hgoes).trans (if_pos hqueue)

/-- The frame's WHEN had passed as it came to the head. -/
def TxItem.isLate (x : TxItem) : Bool := x.item.d.when_.toNat != 0 && decide (x.item.d.when_.toNat ≤ x.headNs)

/-- Once its WHEN and its back-off have passed, a frame that is late with NO_LATE is rejected, and another is sent. -/
theorem State.startHead_due {s : State} {p : Nat} {x : TxItem} {stamp : BitVec 64}
    (hdue : ¬(s.devNs < x.item.d.when_.toNat ∨ s.cyc < x.backoff)) :
    s.startHead p x stamp = if x.isLate && x.item.d.noLate then (s.txDrop p x).finish x.item 10 .rejExpired
      else s.preempt.txSend p x x.isLate stamp :=
  if_neg hdue

/-- The head that has waited TX_TIMEOUT fails. -/
theorem execNetTxTimeout_fails {s : State} {t : Nat} {port : Fin 2} {express : Bool} {x : TxItem}
    (hhead : (s.to t).txHead port.val express = some x)
    (hlong : x.headAt + (s.to t).get B.NET_A_CFG_TX_TIMEOUT * cycMs ≤ (s.to t).cyc)
    (hruns : (s.to t).runs 10 (blkPort port.val) = true) :
    execNetTxTimeout t port express s = ok (((s.to t).txDrop port.val x).finish x.item 10 .failTimeout) := by
  have hfails := And.intro hlong hruns
  simp only [execNetTxTimeout, hhead, if_pos hfails]

/-! ### MDIO (R391) -/

/-- MDIO sends its frame, and completes with what a PHY answers to a read. -/
theorem execMdio_read {s v : State} {t : Nat} {it : Item} {late : Bool} {data : Option (BitVec 16)}
    (hgoes : (s.to t).goes 10 it { Checks.pass with range := it.d.context == 0 } late = true)
    (hread : argBit it.d.arg0 1 = false) (hclause : data = none → argBit it.d.arg0 0 = false)
    (hv : v = ((s.to t).unwait it.id).netSent (.mdio false it.d.arg0.toNat)) :
    execMdio t it data s = ok (v.finish (it.acting late) 10 .done ⟨(data.map BitVec.toNat).getD 0xFFFF, 0, 0⟩) := by
  subst hv
  refine congrArg ok ((State.runOp_goes hgoes).trans ?_)
  simp only [Item.acting_d, hread, Bool.false_eq_true, if_false]
  cases data with
  | some x => rfl
  | none => exact if_neg (Bool.eq_false_iff.mp (hclause rfl))

end Sys2Proof.Machine

namespace Sys2Proof
open Sys2Proof.Machine

/-- Settles O33: each clause is the case of its command that the premises select. -/
theorem framesAndMediaComplete : Obligations.FramesAndMediaComplete := by
  unfold Obligations.FramesAndMediaComplete
  refine ⟨?undersize, ?badFcs, ?unmatched, ?buffer, ?pause, ?netTx, ?netRx, ?sends, ?expired, ?continues, ?txSend,
    ?timeout, ?mdioRead, ?mdioWrite, ?mdioNone⟩
  case undersize =>
    intro s t port bs express fragErr stamp fill hruns hon hshort
    exact execNetFrameRx_undersize ⟨hruns, hon⟩ hshort
  case badFcs =>
    intro s t port bs express stamp fill hruns hon hlong hbad
    exact execNetFrameRx_badFcs ⟨hruns, hon⟩ hlong hbad
  case unmatched =>
    intro s t port bs express stamp fill v hruns hon hlong hfcs hmax hv hdata hnone
    exact execNetFrameRx_unmatched ⟨⟨hruns, hon⟩, hlong, hfcs, hmax⟩ hv hdata hnone
  case buffer =>
    intro s t port bs express stamp fill m d it rest v w wrote hruns hon hlong hfcs hmax hv hdata hmatch hroom hbuf
      hfits hwrote hw
    have hdelivers := execNetFrameRx_delivers (express := express) ⟨⟨hruns, hon⟩, hlong, hfcs, hmax⟩ hv hdata hmatch
      hroom
    exact hdelivers.trans (congrArg ok (State.netDeliver_buffer hbuf hfits hwrote hw))
  case pause =>
    intro s t bs express stamp fill q hruns hon hlong hfcs hmax hpause hcontrol
    exact execNetFrameRx_pause ⟨⟨hruns, hon⟩, hlong, hfcs, hmax⟩ rfl ⟨rfl, hcontrol⟩ hpause
  case netTx =>
    rintro s t it raw _ late hroom rfl hgoes
    exact (if_neg (Nat.not_le.mpr hroom)).trans (congrArg ok (State.runOp_goes hgoes))
  case netRx =>
    intro s t it late hroom hgoes
    exact (if_neg (Nat.not_le.mpr hroom)).trans (congrArg ok (State.runOp_goes hgoes))
  case sends =>
    intro s t port express stamp x hopen hline hfirst hnone hhead hdue hmay
    have hsends : ¬(x.isLate && x.item.d.noLate) = true := by
      rw [Bool.and_eq_true]
      rintro ⟨hlate, hno⟩
      rcases hmay with hmay | hmay
      · exact Bool.false_ne_true (hmay.symm.trans hno)
      · exact Bool.false_ne_true (hmay.symm.trans hlate)
    have hlooks := execNetTxStart_head (stamp := stamp) ⟨hopen, hline, hfirst⟩ hnone hhead
    exact hlooks.trans (congrArg ok ((State.startHead_due hdue).trans (if_neg hsends)))
  case expired =>
    intro s t port express stamp x hopen hline hfirst hnone hhead hdue hno hwhen hlate
    have hexpired : (x.isLate && x.item.d.noLate) = true := by simp [TxItem.isLate, hno, hwhen, hlate]
    have hlooks := execNetTxStart_head (stamp := stamp) ⟨hopen, hline, hfirst⟩ hnone hhead
    exact hlooks.trans (congrArg ok ((State.startHead_due hdue).trans (if_pos hexpired)))
  case continues =>
    intro s t stamp w hopen hline hnoExpress hheld
    have hfirst : ¬(0 = 0 ∧ false = false ∧ ((s.to t).txHead 0 true).isSome = true) := by simp [hnoExpress]
    exact execNetTxStart_continues ⟨hopen, hline, hfirst⟩ hheld
  case txSend =>
    rintro s t p x late raw _ _ _ rfl rfl rfl
    rfl
  case timeout =>
    intro s t port express x hhead hlong hruns
    exact execNetTxTimeout_fails hhead hlong hruns
  case mdioRead =>
    intro s t it late x hgoes hread
    exact execMdio_read hgoes hread (by simp) rfl
  case mdioWrite =>
    intro s t it late hgoes hwrite
    refine congrArg ok ((State.runOp_goes hgoes).trans ?_)
    simp only [Item.acting_d, hwrite, if_true]
  case mdioNone =>
    intro s t it late hgoes hread hclause
    exact execMdio_read hgoes hread (fun _ => hclause) rfl

end Sys2Proof

/-!
Events of the wired ports (O34): pause, collisions, PLCA, preemption and links.
-/

namespace Sys2Proof.Machine

/-! ### Pause (R382, R383) -/

/-- Port A sends PAUSE of `n` quanta, and remembers when. -/
def State.sendPause (s : State) (n : Nat) (at_ : Option Nat) : State :=
  { s.netSent (.pause n) with net := { (s.netSent (.pause n)).net with pauseSent := at_ } }

/-- Port A may send PAUSE: it is enabled with PAUSE_TX, and its block steps. -/
def State.mayPause (s : State) : Prop :=
  s.flag B.NET_A_PAUSE_TX_EN = true ∧ s.runs 10 (blkPort 0) = true ∧ s.flag B.NET_A_CFG_ENABLE = true

theorem State.mayPause_goes {s : State} (h : s.mayPause) :
    ¬((!s.flag B.NET_A_PAUSE_TX_EN) = true ∨ (!s.runs 10 (blkPort 0)) = true ∨
      (!s.flag B.NET_A_CFG_ENABLE) = true) := by
  obtain ⟨hen, hruns, hon⟩ := h
  simp [hen, hruns, hon]

/-- Past three quarters of its buffer Port A sends PAUSE. -/
theorem execPauseTx_full {s : State} {t fill : Nat} (hmay : (s.to t).mayPause)
    (hnone : (s.to t).net.pauseSent = none) (hfull : 24576 < fill) :
    execPauseTx t fill s =
      ok ((s.to t).sendPause ((s.to t).get B.NET_A_PAUSE_TX_QUANTA) (some (s.to t).tenths)) := by
  simp only [execPauseTx, if_neg (State.mayPause_goes hmay), hnone, if_pos hfull, State.sendPause]

/-- Below half of its buffer Port A ends the pause. -/
theorem execPauseTx_drained {s : State} {t fill t0 : Nat} (hmay : (s.to t).mayPause)
    (hsent : (s.to t).net.pauseSent = some t0) (hdrained : fill < 16384) :
    execPauseTx t fill s = ok ((s.to t).sendPause 0 none) := by
  simp only [execPauseTx, if_neg (State.mayPause_goes hmay), hsent, if_pos hdrained, State.sendPause]

/-! ### Collisions on Port B (R388) -/

/-- A frame of Port B is on the open line. -/
def State.collides (s : State) (x : TxItem) : Prop := s.txHead 1 false = some x ∧ s.txOpen 1 = true

/-- A collision before the sixteenth sets the frame's back-off in R388's range. -/
theorem execPortBCollision_retries {s v : State} {t : Nat} {x : TxItem} (hcollides : (s.to t).collides x)
    (htries : x.tries < 15) (hv : v = (s.to t).count (netCnt 1 10)) :
    execPortBCollision t false s = ok (v.tookFree.setTxq 1 ((v.txq 1).map (fun y => if y.item.id = x.item.id
      then { y with
        tries := y.tries + 1, backoff := v.cyc + v.freeVal.toNat % 2 ^ min (x.tries + 1) 10 * 25600 } else y))) := by
  obtain ⟨hhead, hopen⟩ := hcollides
  subst hv
  simp only [execPortBCollision, hhead, hopen, if_neg (Nat.not_le.mpr htries), Bool.not_true, Bool.false_eq_true,
    if_false]

/-- The sixteenth collision rejects the frame. -/
theorem execPortBCollision_sixteenth {s : State} {t : Nat} {x : TxItem} (hcollides : (s.to t).collides x)
    (htries : 15 ≤ x.tries) :
    execPortBCollision t false s = ok (((((s.to t).count (netCnt 1 10)).count (netCnt 1 11)).txDrop 1 x).finish
      x.item 10 .rejConflict ⟨0, 1, 0⟩) := by
  obtain ⟨hhead, hopen⟩ := hcollides
  simp only [execPortBCollision, hhead, hopen, if_pos htries, Bool.not_true, Bool.false_eq_true, if_false]

/-- A late collision rejects the frame. -/
theorem execPortBCollision_late {s : State} {t : Nat} {x : TxItem} (hcollides : (s.to t).collides x) :
    execPortBCollision t true s =
      ok ((((s.to t).count (netCnt 1 12)).txDrop 1 x).finish x.item 10 .rejConflict ⟨0, 2, 0⟩) := by
  obtain ⟨hhead, hopen⟩ := hcollides
  simp only [execPortBCollision, hhead, hopen, Bool.not_true, Bool.false_eq_true, if_false, if_true]

/-! ### Links (R393) -/

/-- A link of port `p` that has changed to `up` is reported. -/
def State.linkReported (s : State) (p : Nat) (up : Bool) : State :=
  ((s.setFlag (netLink p) up).setFlag (netOpt p B.NET_A_STS_LINK_CHANGED B.NET_B_STS_LINK_CHANGED) true).fire 70

/-- Port A comes up without an auto-negotiation fault. -/
theorem execPortLinkChange_upA {s : State} {t : Nat} {fast : Bool} (hport : (s.to t).portOn 0)
    (hdown : (s.to t).flag B.NET_A_STS_LINK = false) :
    execPortLinkChange t 0 true fast false s =
      ok (((s.to t).linkReported 0 true).setFlag B.NET_A_STS_SPEED fast) := by
  have hlink : (s.to t).flag (netLink (0 : Fin 2).val) ≠ true := Bool.eq_false_iff.mp hdown
  refine (if_neg (State.portOn_goes hport)).trans ?_
  rw [if_pos rfl, if_neg hlink]
  rfl

/-- Port B goes down, and PLCA with it. -/
theorem execPortLinkChange_downB {s : State} {t : Nat} (hport : (s.to t).portOn 1)
    (hup : (s.to t).flag B.NET_B_STS_LINK = true) :
    execPortLinkChange t 1 false false false s =
      ok (((s.to t).linkReported 1 false).setFlag B.NET_B_STS_PLCA_UP false) := by
  have hwas : (s.to t).flag (netLink (1 : Fin 2).val) = true := hup
  have hlink : (s.to t).flag (netLink (1 : Fin 2).val) ≠ false := by rw [hwas]; decide
  refine (if_neg (State.portOn_goes hport)).trans ?_
  rw [if_neg (by decide), if_neg hlink]
  rfl

end Sys2Proof.Machine

namespace Sys2Proof
open Sys2Proof.Machine

/-- Settles O34: each clause is the case of its command that the premises select. -/
theorem portEventsComplete : Obligations.PortEventsComplete := by
  unfold Obligations.PortEventsComplete
  refine ⟨?pauseRx, ?pauseSome, ?pauseZero, ?pauseExpiry, ?pauseFull, ?pauseDrained, ?retry, ?sixteenth, ?late,
    ?beaconLost, ?beacon, ?verify, ?upA, ?downB⟩
  case pauseRx =>
    intro s t quanta hruns hon
    exact if_neg (State.portOn_goes ⟨hruns, hon⟩)
  case pauseSome =>
    rintro s t quanta _ hquanta rfl
    exact if_neg hquanta
  case pauseZero =>
    intro s t
    rfl
  case pauseExpiry =>
    intro s t hpaused hover
    exact if_pos ⟨hpaused, hover⟩
  case pauseFull =>
    intro s t fill hen hruns hon hnone hfull
    exact execPauseTx_full ⟨hen, hruns, hon⟩ hnone hfull
  case pauseDrained =>
    intro s t fill t0 hen hruns hon hsent hdrained
    exact execPauseTx_drained ⟨hen, hruns, hon⟩ hsent hdrained
  case retry =>
    rintro s t x _ v hhead hopen htries hv rfl
    exact execPortBCollision_retries ⟨hhead, hopen⟩ htries hv
  case sixteenth =>
    intro s t x hhead hopen htries
    exact execPortBCollision_sixteenth ⟨hhead, hopen⟩ htries
  case late =>
    intro s t x hhead hopen
    exact execPortBCollision_late ⟨hhead, hopen⟩
  case beaconLost =>
    intro s t hlate
    exact if_pos hlate
  case beacon =>
    intro s t hruns hon
    exact if_pos ⟨hruns, hon⟩
  case verify =>
    intro s t passed hruns hon hpreempt
    exact if_pos ⟨hruns, hon, hpreempt⟩
  case upA =>
    intro s t fast hruns hon hdown
    exact execPortLinkChange_upA ⟨hruns, hon⟩ hdown
  case downB =>
    intro s t hruns hon hup
    exact execPortLinkChange_downB ⟨hruns, hon⟩ hup

end Sys2Proof

/-!
Outputs of the key store (O58): SIGN, RANDOM, PUBKEY and ATTEST write host memory only in the buffer their item names.
-/

namespace Sys2Proof.Machine

theorem fitBytes_length (n : Nat) (bs : List Byte) : (fitBytes n bs).length = n := by
  rw [fitBytes, List.length_take, List.length_append, leBytes_length]
  omega

/-- An operation that leaves a byte of host memory alone where it acts leaves it alone where it does not. -/
theorem State.runOp_hostByte {s : State} {r a : Nat} {it : Item} {self : Item → Instr} {k : Checks}
    {act : State → Item → State}
    (hact : ∀ late, (act (s.unwait it.id) (it.acting late)).hostByte a = s.hostByte a) :
    (s.runOp r it self k act).hostByte a = s.hostByte a := by
  simp only [State.runOp, State.runOpWith]
  repeat' split
  case h_3 late _ => exact hact late
  all_goals exact State.hostByte_keep (by simp) a

theorem State.tackOp_hostByte {s : State} {a : Nat} {it : Item} {self : Item → Instr} {k : Checks}
    {act : State → Item → State}
    (hact : ∀ late, (act (s.unwait it.id) (it.acting late)).hostByte a = s.hostByte a) :
    (s.tackOp it self k act).hostByte a = s.hostByte a := by
  rw [← State.runOp_hostByte (r := 12) (self := self) (k := k) hact]
  simp only [State.tackOp]
  split
  · exact State.hostByte_keep (by simp) a
  · rfl

/-- An operation of TACK that writes its output and completes leaves every byte outside its buffer as it was: the `n`
bytes at `ptr` of its descriptor. -/
theorem State.tackOp_outside {s : State} {a n : Nat} {it : Item} {self : Item → Instr} {k : Checks} (ptr : Desc → Nat)
    {out : State → Item → List Byte} (hlen : ∀ late, (out (s.unwait it.id) (it.acting late)).length = n)
    (ha : a < ptr it.d ∨ ptr it.d + n ≤ a) :
    (s.tackOp it self k (fun v i => (v.writeHost (ptr i.d) (out v i)).finish i 12 .done)).hostByte a =
      s.hostByte a := by
  refine State.tackOp_hostByte (fun late => ?_)
  rw [← hlen late] at ha
  calc _ = ((s.unwait it.id).writeHost (ptr it.d) (out (s.unwait it.id) (it.acting late))).hostByte a :=
        State.hostByte_keep (by simp [Item.acting_d]) a
    _ = (s.unwait it.id).hostByte a := State.hostByte_writeHost _ _ _ _ ha
    _ = s.hostByte a := State.hostByte_keep (by simp) a

/-- The device's bytes of host memory do not change as the clock comes to an instant. -/
theorem State.hostByte_to (s : State) (t a : Nat) : (s.to t).hostByte a = s.hostByte a :=
  State.hostByte_keep (State.to_hostMem s t) a

end Sys2Proof.Machine

namespace Sys2Proof
open Sys2Proof.Machine

/-- Settles O58: each of the four writes as many bytes as its buffer has, and nothing else. -/
theorem keyOutputsStayInTheirBuffers : Obligations.KeyOutputsStayInTheirBuffers := by
  intro s s' t it bytes digest
  refine ⟨?sign, ?random, ?pubkey, ?attest⟩
  case sign =>
    intro h a ha
    simp only [exec, execTackSign] at h
    obtain rfl := Host.Outcome.next.inj h
    rw [← s.hostByte_to t a]
    exact State.tackOp_outside (fun d => d.arg1.toNat) (fun _ => fitBytes_length _ _) ha
  case random =>
    intro h a ha
    simp only [exec, execTackRandom] at h
    obtain rfl := Host.Outcome.next.inj h
    rw [← s.hostByte_to t a]
    exact State.tackOp_outside (fun d => d.ptr.toNat) (fun _ => fitBytes_length _ _) ha
  case pubkey =>
    intro h a ha
    simp only [exec, execTackPubkey] at h
    obtain rfl := Host.Outcome.next.inj h
    rw [← s.hostByte_to t a]
    exact State.tackOp_outside (fun d => d.ptr.toNat) (fun _ => fitBytes_length _ _) ha
  case attest =>
    intro h a ha
    simp only [exec, execTackAttest] at h
    obtain rfl := Host.Outcome.next.inj h
    rw [← s.hostByte_to t a]
    refine State.tackOp_outside (n := 3565) (fun d => d.ptr.toNat) (fun _ => ?_) ha
    rw [List.length_append, State.statement_length, fitBytes_length]

end Sys2Proof

/-!
The key store (O35, O36): what the operations of Table TACK-5 do where they go, and what a tamper source brings.
-/

namespace Sys2Proof.Machine

/-! ### Operations on slots (R399 to R409) -/

/-- The key of slot `k` is erased; the slot leaves once its users have ended. -/
def State.leaveSlot (s : State) (k : Nat) (x : KeySlot) : State :=
  s.putSlot k (some { x with mat := 0, leaving := true })

/-- UNLOAD erases the key of a full slot, and its item waits for the slot's users. -/
theorem execTackUnload_leaves {s v w : State} {t k : Nat} {it : Item} {late : Bool} {x : KeySlot}
    (hk : k = argBits it.d.arg0 8 0)
    (hgoes : (s.to t).goes 12 it ((s.to t).tackChecks it true true ((s.to t).loaded? k).isSome true) late = true)
    (hv : v = (s.to t).unwait it.id) (hslot : v.slotOf? k = some x) (hw : w = v.leaveSlot k x) :
    execTackUnload t it s = ok ({ w with tack := { w.tack with
      waits := w.tack.waits ++ [KeyWait.mk (it.acting late) [k] (w.usersOf [k]) ⟨k, 0, 0⟩] } } : State).settleKeys := by
  subst hk hv hw
  refine congrArg ok ((State.tackOp_goes hgoes).trans ?_)
  simp only [hslot, State.leaveSlot]

/-- The next epoch is programmed, and the KEK of the one before stays open. -/
def State.nextEpoch (s : State) : State :=
  let o := s.chip.part.otp
  let x := s.setOtp { o with epochs := o.epochs + 1 }
  { x with tack := { x.tack with kekPrev := x.tack.kek, kek := true } }

/-- With no window open, EPOCH_ADVANCE programs the next epoch and completes with it. -/
theorem execEpochAdvance_opens {s v w : State} {t : Nat} {it : Item} {late : Bool}
    (hgoes : (s.to t).goes 12 it ((s.to t).tackChecks it true true true ((s.to t).epoch < 62 && !(s.to t).tampered &&
      (s.to t).tack.rewrap.isNone)) late = true)
    (hv : v = (s.to t).unwait it.id) (hclosed : v.tack.kekPrev = false) (hw : w = v.nextEpoch) :
    execEpochAdvance t it s =
      ok ((w.reportTack.tackEvent 3 0 w.epoch).finish (it.acting late) 12 .done ⟨w.epoch, 0, 0⟩) := by
  subst hv hw
  refine congrArg ok ((State.tackOp_goes hgoes).trans ?_)
  simp only [hclosed, Bool.false_eq_true, if_false, State.nextEpoch]

end Sys2Proof.Machine

namespace Sys2Proof
open Sys2Proof.Machine

/-- Settles O35: each operation that goes acts, on the slot that its premises give. -/
theorem keySlotsComplete : Obligations.KeySlotsComplete := by
  unfold Obligations.KeySlotsComplete
  refine ⟨?load, ?generate, ?derive, ?exportBag, ?importKey, ?unload, ?revoke, ?epoch, ?rewrap⟩
  case load =>
    intro s t it raw plain late k hgoes hslot
    refine congrArg ok ((State.tackOp_goes hgoes).trans ?_)
    simp only [hslot]
  case generate =>
    intro s t it mat blob late k hgoes hslot
    refine congrArg ok ((State.tackOp_goes hgoes).trans ?_)
    simp only [hslot, Item.acting_d]
  case derive =>
    intro s t it mat late k hgoes hslot
    refine congrArg ok ((State.tackOp_goes hgoes).trans ?_)
    simp only [hslot]
  case exportBag =>
    intro s t it blob late x w hgoes hloaded hwrap
    refine congrArg ok ((State.tackOp_goes hgoes).trans ?_)
    simp only [hloaded, hwrap, Item.acting_d]
  case importKey =>
    intro s t it plain late k hgoes hslot
    refine congrArg ok ((State.tackOp_goes hgoes).trans ?_)
    simp only [hslot]
  case unload =>
    intro s t it late x hgoes hslot
    exact execTackUnload_leaves rfl hgoes rfl hslot rfl
  case revoke =>
    intro s t it late hgoes hnew
    exact congrArg ok ((State.tackOp_goes hgoes).trans (if_neg (Bool.eq_false_iff.mp hnew)))
  case epoch =>
    intro s t it late hgoes hclosed
    exact execEpochAdvance_opens hgoes rfl hclosed rfl
  case rewrap =>
    rintro s t it raw opens late _ rfl hgoes
    exact congrArg ok (State.tackOp_goes hgoes)

/-- Settles O36: each operation that goes acts, and a tamper source by what is seen of it. -/
theorem keyUseAndZeroiseComplete : Obligations.KeyUseAndZeroiseComplete := by
  unfold Obligations.KeyUseAndZeroiseComplete
  refine ⟨?sign, ?mac, ?random, ?pubkey, ?attest, ?zeroise, ?tamperClear, ?asserted, ?ended⟩
  case sign =>
    intro s t it sig late n hgoes hlen
    refine congrArg ok ((State.tackOp_goes hgoes).trans ?_)
    simp only [Item.acting_d, hlen, Option.getD_some]
  case mac =>
    intro s t it mac late hgoes
    exact congrArg ok (State.tackOp_goes hgoes)
  case random =>
    intro s t it bytes late hgoes
    exact congrArg ok (State.tackOp_goes hgoes)
  case pubkey =>
    intro s t it pub late hgoes
    exact congrArg ok (State.tackOp_goes hgoes)
  case attest =>
    intro s t it digest sigs late hgoes
    exact congrArg ok (State.tackOp_goes hgoes)
  case zeroise =>
    intro s t it late hgoes
    exact congrArg ok (State.tackOp_goes hgoes)
  case tamperClear =>
    intro s t it late hgoes
    exact congrArg ok (State.tackOp_goes hgoes)
  case asserted =>
    intro s t seen hholds henabled hnew
    exact (if_pos hholds).trans (if_pos ⟨henabled, by rw [hnew]; rfl⟩)
  case ended =>
    intro s t seen hends
    exact if_neg (Bool.eq_false_iff.mp hends)

end Sys2Proof

/-!
The recorder (O37, O38): what its operations do where they go, and what triggers, fills and arms a capture.
-/

namespace Sys2Proof.Machine

/-! ### Arming (R421, R429) -/

/-- What ARM is checked against: its range, and a recorder that is idle or holds a capture that nobody reads. -/
def State.armChecks (s : State) (d : Desc) : Checks :=
  ⟨s.armRange d, true, true, s.recState == recIdle || (s.recState == recHeld && !s.flag B.REC_STS_READING)⟩

/-- The next capture takes the sources as their registers stand. -/
def State.newCapture (s : State) (it : Item) : State :=
  let v := s.wr Reg.REC_CAP_ID ((s.rd Reg.REC_CAP_ID + 1) % 2 ^ 32)
  let w := { v with recd := { v.recd with
    srcs := (List.range 8).map (fun n => v.recSource n), arm := some it, trig := none, poisoned := false,
    overran := false } }
  ((w.set B.REC_STS_TRIG_WORD 0).set B.REC_STS_FIRST_SOURCE 0).wr64 Reg.REC_TRIG_TIME 0

/-- ARM that primes waits for the synchronisation line. -/
theorem execRecArm_primes {s : State} {t : Nat} {it : Item} {late : Bool}
    (hgoes : (s.to t).goes 14 it ((s.to t).armChecks it.d) late = true) (hprime : argBit it.d.arg0 1 = true) :
    execRecArm t it s = ok ((((s.to t).unwait it.id).newCapture (it.acting late)).setRecState recPrimed) :=
  congrArg ok ((State.runOp_goes hgoes).trans (if_pos hprime))

/-- ARM that is no master starts the capture. -/
theorem execRecArm_starts {s : State} {t : Nat} {it : Item} {late : Bool}
    (hgoes : (s.to t).goes 14 it ((s.to t).armChecks it.d) late = true) (hprime : argBit it.d.arg0 1 = false)
    (hmaster : argBit it.d.arg0 0 = false) :
    execRecArm t it s = ok (((s.to t).unwait it.id).newCapture (it.acting late)).armed :=
  congrArg ok ((State.runOp_goes hgoes).trans
    ((if_neg (Bool.eq_false_iff.mp hprime)).trans (if_neg (Bool.eq_false_iff.mp hmaster))))

/-- Where the pair's messages are enabled, the partner is told of the capture. -/
def State.sendArm (s : State) : State :=
  if s.flag B.REC_SYNC_CFG_BYL_EN then s.bylSend (.recArm (s.rd Reg.REC_CAP_ID)) else s

/-- ARM of the master starts the capture, pulls the line low, and sends its message to the partner. -/
theorem execRecArm_master {s y : State} {t : Nat} {it : Item} {late : Bool}
    (hgoes : (s.to t).goes 14 it ((s.to t).armChecks it.d) late = true) (hprime : argBit it.d.arg0 1 = false)
    (hmaster : argBit it.d.arg0 0 = true) (hy : y = (((s.to t).unwait it.id).newCapture (it.acting late)).armed)
    (hdrive : y.flag B.REC_SYNC_CFG_DRIVE_EN = true)
    (hbyl : (y.recSend (.syncLow false)).flag B.REC_SYNC_CFG_BYL_EN = true) :
    execRecArm t it s = ok ((y.recSend (.syncLow false)).bylSend (.recArm ((y.recSend (.syncLow false)).rd
      Reg.REC_CAP_ID))) := by
  subst hy
  refine congrArg ok ((State.runOp_goes hgoes).trans ((if_neg (Bool.eq_false_iff.mp hprime)).trans
    ((if_pos hmaster).trans ?_)))
  exact (congrArg State.sendArm (if_pos hdrive)).trans (if_pos hbyl)

/-! ### Triggers (R425, R426, R430) -/

/-- An armed capture that fires is triggered, and the partner hears of it. -/
theorem State.trigger_armed {s v y z : State} {word at_ f i : Nat} (harmed : s.recState = recArmed)
    (hfired : s.firedBy word at_ = some (f, i))
    (hv : v = (((({ s with recd := { s.recd with trig := some i, fired := none } } : State).setRecState
      recTriggered).wr64 Reg.REC_TRIG_TIME i).set B.REC_STS_TRIG_WORD f).set B.REC_STS_FIRST_SOURCE (lowestBit f))
    (hy : y = v.recEvent 1 (f + lowestBit f * 2 ^ 8) i)
    (hz : z = if y.flag B.REC_SYNC_CFG_DRIVE_EN = true then y.recSend (.syncLow true) else y) :
    s.trigger word at_ = if z.flag B.REC_SYNC_CFG_BYL_EN = true then z.bylSend (.recFire i) else z := by
  subst hz hy hv
  simp only [State.trigger, harmed, hfired, ne_eq, not_true_eq_false, if_false]

/-- The synchronisation line is enabled, and the block of the triggers steps. -/
def State.syncOn (s : State) : Prop := s.flag B.REC_SYNC_CFG_SYNC_EN = true ∧ s.runs 14 blkTrigger = true

/-- A low of the line triggers, arms a primed capture, or counts as an error, by its width. -/
theorem execTrigSyncPulse_on {s : State} {t width edge : Nat} (hon : (s.to t).syncOn) :
    execTrigSyncPulse t width edge s =
      if 500 ≤ width ∧ width ≤ 3000 then ok ((s.to t).trigger 2 (edge - (s.to t).get B.REC_SYNC_CFG_DELAY))
      else if 8000 ≤ width ∧ width ≤ 12000 then
        ok (if (s.to t).recState = recPrimed then (s.to t).armed else s.to t)
      else ok ((((s.to t).count Reg.REC_CNT_SYNC_ERR).setFlag B.REC_STS_SYNC_ERR true).recEvent 3 0 0) := by
  obtain ⟨hen, hruns⟩ := hon
  exact if_neg (by simp [hen, hruns])

end Sys2Proof.Machine

namespace Sys2Proof
open Sys2Proof.Machine

/-- Settles O37: each operation that goes acts, ARM by its two flags. -/
theorem recorderOperationsComplete : Obligations.RecorderOperationsComplete := by
  unfold Obligations.RecorderOperationsComplete
  refine ⟨?primes, ?starts, ?master, ?fire, ?disarm, ?discard, ?readout⟩
  case primes =>
    rintro s t it late _ _ _ hgoes hprime rfl rfl rfl
    exact execRecArm_primes hgoes hprime
  case starts =>
    rintro s t it late _ _ _ hgoes hprime hmaster rfl rfl rfl
    exact execRecArm_starts hgoes hprime hmaster
  case master =>
    rintro s t it late _ _ _ y hgoes hprime hmaster rfl rfl rfl hy hdrive hbyl
    exact execRecArm_master hgoes hprime hmaster hy hdrive hbyl
  case fire =>
    intro s t it late hgoes
    exact congrArg ok (State.runOp_goes hgoes)
  case disarm =>
    intro s t it late hgoes
    exact congrArg ok (State.runOp_goes hgoes)
  case discard =>
    intro s t it late hgoes
    exact congrArg ok (State.runOp_goes hgoes)
  case readout =>
    intro s t it nonce late hgoes
    exact congrArg ok (State.runOp_goes hgoes)

/-- Settles O38: each clause is the case of its command that the premises select. -/
theorem recorderEventsComplete : Obligations.RecorderEventsComplete := by
  unfold Obligations.RecorderEventsComplete
  refine ⟨?sources, ?triggers, ?filled, ?syncTriggers, ?syncArms, ?syncErr, ?armMessage, ?fireMessage⟩
  case sources =>
    intro s t hruns
    exact if_pos hruns
  case triggers =>
    intro s t word at_ f i v y z harmed hfired hv hy hz
    exact State.trigger_armed harmed hfired hv hy hz
  case filled =>
    intro s t htriggered hfull
    exact if_pos ⟨htriggered, hfull⟩
  case syncTriggers =>
    intro s t width edge hen hruns hshort
    exact (execTrigSyncPulse_on ⟨hen, hruns⟩).trans (if_pos hshort)
  case syncArms =>
    intro s t width edge hen hruns hlong hprimed
    have hnot : ¬(500 ≤ width ∧ width ≤ 3000) := by omega
    exact (execTrigSyncPulse_on ⟨hen, hruns⟩).trans
      ((if_neg hnot).trans ((if_pos hlong).trans (congrArg ok (if_pos hprimed))))
  case syncErr =>
    intro s t width edge hen hruns hshort hlong
    exact (execTrigSyncPulse_on ⟨hen, hruns⟩).trans ((if_neg hshort).trans (if_neg hlong))
  case armMessage =>
    rintro s t rx f p _ htaken hlater rfl hruns hbyl hprimed
    exact congrArg ok ((State.accept0_takes htaken hlater).trans (if_pos ⟨hruns, hbyl, hprimed⟩))
  case fireMessage =>
    rintro s t rx f p _ htaken hlater rfl hruns hbyl
    exact congrArg ok ((State.accept0_takes htaken hlater).trans (if_pos ⟨hruns, hbyl⟩))

end Sys2Proof

/-!
Power and boot (O1), full chip resets and chip errors (O2): what their commands do where they act.
-/

namespace Sys2Proof.Machine

/-! ### Rails and boot (R444, R448, R466, R467, R516) -/

/-- The chip waits for its rails, or for those of a wake, and has tried less than three times. -/
def State.railsAwaited (s : State) : Prop :=
  s.chip.powered = true ∧ (s.chip.railWait = true ∨ s.chip.wakeAt.isSome = true) ∧ s.chip.railTries < 3

theorem State.railsAwaited_goes {s : State} (h : s.railsAwaited) :
    ¬((!s.chip.powered) = true ∨ ((!s.chip.railWait) = true ∧ s.chip.wakeAt.isNone = true) ∨ 3 ≤ s.chip.railTries) := by
  obtain ⟨hpowered, hwaits, htries⟩ := h
  have hawaits : ¬((!s.chip.railWait) = true ∧ s.chip.wakeAt.isNone = true) := by
    rcases hwaits with hwaits | hwaits
    · simp [hwaits]
    · simp [Option.isSome_iff_ne_none.mp hwaits]
  simp only [hpowered, hawaits, Nat.not_le.mpr htries, Bool.not_true, Bool.false_eq_true, or_self, not_false_eq_true]

/-- The third timeout gives the rails up. -/
theorem execPwrGoodTimeout_third {s : State} {t : Nat} {good : Bool} (hawaited : (s.to t).railsAwaited)
    (htries : (s.to t).chip.railTries = 2) :
    execPwrGoodTimeout t good s = ok (({ (s.to t) with chip := { (s.to t).chip with
      railTries := 3, wakeAt := none } } : State).setFlag B.CHIP_PWR_STS_RAIL_FAIL true) := by
  have hthird : 3 ≤ (s.to t).chip.railTries + 1 := by omega
  refine (if_neg (State.railsAwaited_goes hawaited)).trans ((if_pos hthird).trans ?_)
  rw [htries]

/-- An earlier timeout whose next attempt succeeds runs the boot. -/
theorem execPwrGoodTimeout_boots {s : State} {t : Nat} (hawaited : (s.to t).railsAwaited)
    (hwaits : (s.to t).chip.railWait = true) (htries : (s.to t).chip.railTries < 2) :
    execPwrGoodTimeout t true s = ok (({ (s.to t) with
      chip := { (s.to t).chip with railTries := 0, railWait := false }
      tack := { (s.to t).tack with zeroise := 0 } } : State).boot (s.to t).tack.zeroise) := by
  have hearly : ¬3 ≤ (s.to t).chip.railTries + 1 := by omega
  exact (if_neg (State.railsAwaited_goes hawaited)).trans
    ((if_neg hearly).trans ((if_pos rfl).trans (if_pos hwaits)))

/-- The bytes that CHIP_BOOT_HOST_LEN gives in the half that begins at bit `lo`. -/
def State.hostLen (s : State) (lo : Nat) : Nat := s.rd Reg.CHIP_BOOT_HOST_LEN / 2 ^ lo % 2 ^ 16 * 1024

theorem State.hostLen_zero (s : State) : s.hostLen 0 = s.rd Reg.CHIP_BOOT_HOST_LEN % 2 ^ 16 * 1024 := by
  rw [State.hostLen, Nat.pow_zero, Nat.div_one]

/-- In HOST_WAIT, images that pass every check and a tested pair start. -/
theorem State.goBoot_starts {s : State} {val : Word} {fw gb : Image} (hgo : val.getLsbD 0 = true)
    (hphase : s.get B.CHIP_BOOT_STS_PHASE = 7) (hfw : (s.checkIn (s.hostLen 0) fw false true).isNone = true)
    (hgb : (s.checkIn (s.hostLen 16) gb true true).isNone = true) (htested : s.chip.part.tested fw gb = true) :
    s.goBoot val fw gb = s.startRun fw gb := by
  rw [Option.isNone_iff_eq_none, State.hostLen] at hfw hgb
  simp only [State.goBoot, hgo, hphase, hfw, hgb, htested, Bool.not_true, Bool.false_eq_true, ne_eq,
    not_true_eq_false, or_self, if_false, if_true]

/-! ### Full chip resets (R457, R458, R537) -/

/-- The end of CONFIRM_WAIT resets the chip. -/
theorem execTrialConfirmTimeout_over {s : State} {t at_ : Nat} (hwait : (s.to t).chip.confirmAt = some at_)
    (hover : at_ ≤ (s.to t).cyc) :
    execTrialConfirmTimeout t s = ok ((s.to t).fullReset B.CHIP_RST_CAUSE_TRIAL_TIMEOUT) := by
  simp only [execTrialConfirmTimeout, hwait, if_pos hover]

/-- The reset of an activation follows its completion, once no ring still holds it. -/
theorem execActivateReset_due {s : State} {t at_ id : Nat} (hreset : (s.to t).chip.resetAt = some (at_, id))
    (hover : at_ ≤ (s.to t).cyc)
    (hwritten : (s.to t).hif.rings.any (fun p => p.2.out.any (fun o => o.id == id)) = false) :
    execActivateReset t s = ok ((s.to t).fullReset B.CHIP_RST_CAUSE_ACTIVATE) := by
  simp only [execActivateReset, hreset, hwritten]
  exact if_pos ⟨hover, rfl⟩

end Sys2Proof.Machine

namespace Sys2Proof
open Sys2Proof.Machine

/-- Settles O1: each clause is the case of its command that the premises select. -/
theorem powerAndBootComplete : Obligations.PowerAndBootComplete := by
  unfold Obligations.PowerAndBootComplete
  refine ⟨?railsGood, ?railsBad, ?third, ?nextSucceeds, ?powerOff, ?bootGo⟩
  case railsGood =>
    intro s t straps senior part tamper on v
    rfl
  case railsBad =>
    intro s t straps senior part tamper on v
    rfl
  case third =>
    intro s t good hpowered hwaits htries
    exact execPwrGoodTimeout_third ⟨hpowered, hwaits, by omega⟩ htries
  case nextSucceeds =>
    intro s t hpowered hwaits htries
    exact execPwrGoodTimeout_boots ⟨hpowered, .inl hwaits, by omega⟩ hwaits htries
  case powerOff =>
    intro s t
    rfl
  case bootGo =>
    intro s t rq val fw gb hs hgo hphase hfw hgb htested
    rw [← State.hostLen_zero] at hfw
    exact congrArg ok ((State.access_reaches hs).trans (State.goBoot_starts hgo hphase hfw hgb htested))

/-- Settles O2: each clause is the case of its command that the premises select. -/
theorem fullChipResetsComplete : Obligations.FullChipResetsComplete := by
  unfold Obligations.FullChipResetsComplete
  refine ⟨?trial, ?activate, ?software, ?badKey, ?chipError, ?pll, ?refClock, ?corrected⟩
  case trial =>
    intro s t at_ hwait hover
    exact execTrialConfirmTimeout_over hwait hover
  case activate =>
    intro s t at_ id hreset hover hwritten
    exact execActivateReset_due hreset hover hwritten
  case software =>
    intro s t rq val hs hkey hbit hfree
    exact congrArg ok ((State.access_reaches hs).trans
      ((if_neg (not_not_intro hkey)).trans (if_pos ⟨hbit, by rw [hfree]; rfl⟩)))
  case badKey =>
    intro s t rq val hs hkey
    exact congrArg ok ((State.access_reaches hs).trans (if_pos hkey))
  case chipError =>
    intro s t cause region hpowered hawake hhalter haction
    have hacts : ¬((!(s.to t).chip.powered) = true ∨ (s.to t).chip.stabled = true) := by
      rw [hpowered, hawake]; decide
    refine (if_neg hacts).trans (congrArg ok (if_neg (not_or.mpr ⟨?_, ?_⟩)))
    · exact Bool.eq_false_iff.mp hhalter
    · exact Bool.eq_false_iff.mp haction
  case pll =>
    intro s t region hpowered hawake
    exact if_pos ⟨hpowered, by rw [hawake]; rfl⟩
  case refClock =>
    intro s t ppb silent hpowered hawake hlost
    exact if_pos ⟨hpowered, by rw [hawake]; rfl, hlost⟩
  case corrected =>
    intro s t hpowered
    exact if_pos hpowered

end Sys2Proof

/-!
Thermal levels and wake (O39), images and fuses (O40): what their commands do where they act.
-/

namespace Sys2Proof.Machine

/-! ### Thermal levels (R471) -/

/-- The machine once it has read the sensors `l`. -/
def State.sensed (s : State) (l : List (Fin 16 × BitVec 8)) : State :=
  s.readTherm (hottest (l.map (fun p => (p.1.val, p.2.toInt))))

/-- Awake on good rails, a sample is reported, and the level moves where Table PWR-5 says so. -/
theorem execThermalSample_reads {s v : State} {t : Nat} {l : List (Fin 16 × BitVec 8)}
    (hon : ((s.to t).chip.powered && !(s.to t).chip.stabled && !(s.to t).chip.railWait && !l.isEmpty) = true)
    (hv : v = (s.to t).sensed l) :
    execThermalSample t l s =
      let k := v.nextLevel (v.get B.CHIP_THERM_STS_LEVEL)
      if k = v.get B.CHIP_THERM_STS_LEVEL then ok v
      else ok (v.setLevel k (hottest (l.map (fun p => (p.1.val, p.2.toInt)))).2) := by
  subst hv
  simp only [Bool.and_eq_true, Bool.not_eq_true'] at hon
  obtain ⟨⟨⟨hpowered, hawake⟩, hrails⟩, hsome⟩ := hon
  have hreads : ¬((!(s.to t).chip.powered) = true ∨ (s.to t).chip.stabled = true ∨ (s.to t).chip.railWait = true ∨
      l.isEmpty = true) := by
    rw [hpowered, hawake, hrails, hsome]; decide
  exact if_neg hreads

/-! ### Waking (R475, R476, R477) -/

/-- 8 ms after the wake began the chip serves again. -/
theorem execWakeDone_over {s : State} {t c : Nat} (hwakes : (s.to t).chip.wakeAt = some c)
    (hover : c + 8 * cycMs ≤ (s.to t).cyc) : execWakeDone t s = ok (s.to t).awake := by
  simp only [execWakeDone, hwakes, if_neg (Nat.not_lt.mpr hover)]

end Sys2Proof.Machine

namespace Sys2Proof
open Sys2Proof.Machine

/-- Settles O39: each clause is the case of its command that the premises select. -/
theorem thermalLevelsAndWakeComplete : Obligations.ThermalLevelsAndWakeComplete := by
  unfold Obligations.ThermalLevelsAndWakeComplete
  refine ⟨?keeps, ?moves, ?stable, ?wake, ?disabled, ?wakeDone⟩
  case keeps =>
    intro s t l hon hsame
    exact (execThermalSample_reads hon rfl).trans (if_pos hsame)
  case moves =>
    intro s t l hon hmoves
    exact (execThermalSample_reads hon rfl).trans (if_neg hmoves)
  case stable =>
    intro s t it late hgoes
    exact congrArg ok (State.runOp_goes hgoes)
  case wake =>
    intro s t src hstabled henabled hready
    exact if_pos ⟨hstabled, henabled, by rw [hready]; rfl⟩
  case disabled =>
    intro s t src hdisabled
    refine if_neg ?_
    rintro ⟨_, henabled, _⟩
    exact Bool.false_ne_true (hdisabled.symm.trans henabled)
  case wakeDone =>
    intro s t c hwakes hover
    exact execWakeDone_over hwakes hover

/-- Settles O40: each operation that goes acts, OTP_PROGRAM by what reads back. -/
theorem imagesAndFusesComplete : Obligations.ImagesAndFusesComplete := by
  unfold Obligations.ImagesAndFusesComplete
  refine ⟨?write, ?activate, ?confirm, ?readsBack, ?differs, ?unlock⟩
  case write =>
    rintro s t it img late _ _ _ hgoes rfl rfl rfl
    exact congrArg ok (State.runOp_goes hgoes)
  case activate =>
    intro s t it late hgoes
    exact congrArg ok (State.runOp_goes hgoes)
  case confirm =>
    intro s t it late hgoes
    exact congrArg ok (State.runOp_goes hgoes)
  case readsBack =>
    intro s t it r late hgoes hread
    exact congrArg ok ((State.runOp_goes hgoes).trans (if_pos hread))
  case differs =>
    intro s t it r late hgoes hread
    exact congrArg ok ((State.runOp_goes hgoes).trans (if_neg (Bool.eq_false_iff.mp hread)))
  case unlock =>
    intro s t it r late hgoes
    exact congrArg ok (State.runOp_goes hgoes)

end Sys2Proof

/-!
The hitch line and the token (O41), and the planned handover (O44): what their commands do where they act.
-/

namespace Sys2Proof.Machine

/-! ### The line (R481, R482, R500) -/

/-- While the hitch block steps, a pattern of HITCH_IN is taken; ABSENT instead of another, on a chip in a pair whose
link is UP, is a hitch fault. -/
theorem execHitchInChange_pattern {s : State} {t : Nat} {seen : HitchIn} {pat : Hitch}
    (hpattern : seen.pattern = some pat) (hruns : (s.to t).runs 15 blkHitch = true) :
    execHitchInChange t seen s =
      let v := (s.to t).takeLine pat
      ok (if pat == Hitch.absent ∧ (s.to t).byl.lineIn != Hitch.absent ∧ v.bylUp ∧ v.role ≠ roleSolo then
        (v.setFlag B.BYL_PAIR_STS_HITCH_FAULT true).bylEvent 4 0 else v).bylEval := by
  simp only [execHitchInChange, hpattern, hruns, Bool.not_true, Bool.false_eq_true, if_false]

/-- Taking a pattern changes no field below those that report the partner's line. -/
theorem State.takeLine_get (s : State) (pat : Hitch) {b : Bits} (h : b.lo + b.width ≤ 3) :
    (s.takeLine pat).get b = s.get b := by
  rw [State.takeLine, State.setFlag, State.get_set_apart _ _ _ _ (by decide) (by omega) (.inl (by simp only; omega)),
    State.get_set_apart _ _ _ _ (by decide) (by omega) (.inl h)]
  rfl

theorem State.takeLine_bylUp (s : State) (pat : Hitch) : (s.takeLine pat).bylUp = s.bylUp := by
  rw [State.bylUp, State.takeLine_get s pat (by decide), State.bylUp]

theorem State.takeLine_role (s : State) (pat : Hitch) : (s.takeLine pat).role = s.role :=
  State.takeLine_get s pat (by decide)

/-! ### Claims (R483, R484) -/

/-- A claim for `w` has stood for 20 µs while the hitch block steps. -/
def State.claimRipe (s : State) (c : Nat) (w : ClaimFor) : Prop :=
  s.byl.claim = some (c, w) ∧ c + 20 * cycUs ≤ s.cyc ∧ s.runs 15 blkHitch = true

/-- The claim is given up: the line reads PRESENT again. -/
def State.dropClaim (s : State) : State := { s with byl := { s.byl with lineOut := .present, claim := none } }

/-- A ripe claim wins on a quiet line, finds equal straps, or is decided by the strap. -/
theorem execTokenClaimCheck_ripe {s : State} {t c : Nat} {w : ClaimFor} (h : (s.to t).claimRipe c w) :
    execTokenClaimCheck t s =
      if !(s.to t).byl.lineIn.isHeld then ok ((s.to t).gotToken w)
      else if (s.to t).byl.lineIn = (s.to t).ownHeld then
        ok (((s.to t).dropClaim.setFlag B.BYL_PAIR_STS_STRAP_ERR true).bylEvent 8 0)
      else if (s.to t).flag B.BYL_PAIR_STS_SENIOR then ok ((s.to t).gotToken w)
      else ok (s.to t).dropClaim := by
  obtain ⟨hclaim, hover, hruns⟩ := h
  have hripe : ¬((s.to t).cyc < c + 20 * cycUs ∨ (!(s.to t).runs 15 blkHitch) = true) :=
    not_or.mpr ⟨Nat.not_lt.mpr hover, by rw [hruns]; decide⟩
  simp only [execTokenClaimCheck, hclaim, if_neg hripe, State.dropClaim]

/-- On a held line the straps decide. -/
theorem execTokenClaimCheck_held {s : State} {t c : Nat} {w : ClaimFor} (h : (s.to t).claimRipe c w)
    (hheld : (s.to t).byl.lineIn.isHeld = true) (hother : (s.to t).byl.lineIn ≠ (s.to t).ownHeld) :
    execTokenClaimCheck t s =
      if (s.to t).flag B.BYL_PAIR_STS_SENIOR then ok ((s.to t).gotToken w) else ok (s.to t).dropClaim :=
  (execTokenClaimCheck_ripe h).trans ((if_neg (by rw [hheld]; decide)).trans (if_neg hother))

/-! ### The planned handover (R501) -/

/-- 55 ms after its superframe start the active yields the token. -/
theorem execHandoverYield_due {s : State} {t : Nat} {x : Handover} (hplanned : (s.to t).byl.handover = some x)
    (hnew : x.yielded = none) (hover : x.at_ + 55000000 ≤ (s.to t).devNs) (hactive : (s.to t).role = roleActive) :
    execHandoverYield t s = ok (({ (s.to t) with
      byl := { (s.to t).byl with handover := some { x with yielded := some (s.to t).cyc } } } : State).yieldToken) := by
  have hyields : ¬(x.yielded.isSome = true ∨ (s.to t).devNs < x.at_ + 55000000 ∨ (s.to t).role ≠ roleActive) := by
    rw [hnew, hactive]
    simp [Nat.not_lt.mpr hover]
  simp only [execHandoverYield, hplanned, if_neg hyields]

/-- 100 ms after the yield the operation fails, and the chip reclaims the token if it may. -/
theorem execHandoverTimeout_over {s v : State} {t c : Nat} {x : Handover}
    (hplanned : (s.to t).byl.handover = some x) (hyielded : x.yielded = some c)
    (hover : c + 100 * cycMs ≤ (s.to t).cyc)
    (hv : v = ({ (s.to t) with byl := { (s.to t).byl with handover := none } } : State).finish x.item 0 .failTimeout) :
    execHandoverTimeout t s = ok (if v.mayClaim then v.beginClaim .reclaim else v) := by
  simp only [execHandoverTimeout, hplanned, hyielded, if_pos hover, hv]

end Sys2Proof.Machine

namespace Sys2Proof
open Sys2Proof.Machine

/-- Settles O41: each clause is the case of its command that the premises select; the line leaves role and link as they
are. -/
theorem hitchLineAndTokenComplete : Obligations.HitchLineAndTokenComplete := by
  unfold Obligations.HitchLineAndTokenComplete
  refine ⟨?change, ?fault, ?quiet, ?equalStraps, ?senior, ?junior, ?claimWait, ?takeover, ?coldTakeover, ?release⟩
  case change =>
    intro s t seen pat hpattern hruns hnoFault
    refine (execHitchInChange_pattern hpattern hruns).trans (congrArg (fun v : State => ok v.bylEval) (if_neg ?_))
    rw [State.takeLine_bylUp, State.takeLine_role]
    rintro ⟨habsent, hwas, hup, hpair⟩
    rw [habsent, hwas, hup, bne_iff_ne.mpr hpair] at hnoFault
    exact Bool.false_ne_true hnoFault.symm
  case fault =>
    intro s t seen hpattern hruns hwas hup hpair
    refine (execHitchInChange_pattern hpattern hruns).trans (congrArg (fun v : State => ok v.bylEval) (if_pos ?_))
    rw [State.takeLine_bylUp, State.takeLine_role]
    exact ⟨rfl, bne_iff_ne.mpr hwas, hup, hpair⟩
  case quiet =>
    intro s t c w hclaim hover hruns hquiet
    exact (execTokenClaimCheck_ripe ⟨hclaim, hover, hruns⟩).trans (if_pos (by rw [hquiet]; rfl))
  case equalStraps =>
    intro s t c w hclaim hover hruns hheld hequal
    exact (execTokenClaimCheck_ripe ⟨hclaim, hover, hruns⟩).trans
      ((if_neg (by rw [hheld]; decide)).trans (if_pos hequal))
  case senior =>
    intro s t c w hclaim hover hruns hheld hother hsenior
    exact (execTokenClaimCheck_held ⟨hclaim, hover, hruns⟩ hheld hother).trans (if_pos hsenior)
  case junior =>
    intro s t c w hclaim hover hruns hheld hother hjunior
    exact (execTokenClaimCheck_held ⟨hclaim, hover, hruns⟩ hheld hother).trans
      (if_neg (Bool.eq_false_iff.mp hjunior))
  case claimWait =>
    intro s t hcold hstart hwaited hfree hmay
    exact if_pos ⟨hcold, by rw [hstart]; rfl, hwaited, by rw [hfree]; rfl, hmay⟩
  case takeover =>
    intro s t hhot hcause hfree hmay
    exact if_pos ⟨hhot, Bool.or_eq_true_iff.mp hcause, by rw [hfree]; rfl, hmay⟩
  case coldTakeover =>
    intro s t hcold hcfg hlost habsent hmay
    exact if_pos ⟨hcold, hcfg, Bool.or_eq_true_iff.mp hlost, habsent, hmay⟩
  case release =>
    intro s t partnerHeads hactive hruns hhot hcause
    rw [Bool.or_eq_true, Bool.or_eq_true, or_assoc] at hcause
    exact if_pos ⟨hactive, hruns, hhot, hcause⟩

/-- Settles O44: the operation that goes waits for its superframe, then each clause is the case that the premises
select. -/
theorem plannedHandoverCompletes : Obligations.PlannedHandoverCompletes := by
  unfold Obligations.PlannedHandoverCompletes
  refine ⟨?handover, ?yield, ?timeout⟩
  case handover =>
    intro s t it late hgoes
    exact congrArg ok (State.runOp_goes hgoes)
  case yield =>
    intro s t x hplanned hnew hover hactive
    exact execHandoverYield_due hplanned hnew hover hactive
  case timeout =>
    intro s t x c hplanned hyielded hover
    exact execHandoverTimeout_over hplanned hyielded hover rfl

end Sys2Proof

/-!
The link of the pair (O42): how it trains, authenticates, resends and is lost, and its heartbeats.
-/

namespace Sys2Proof.Machine

/-! ### Training (R486) -/

/-- The lanes in `l` lock and can be deskewed against each other. -/
def lanesFit (lanes : List (List (BitVec 130))) (skew l : List Nat) : Bool :=
  (l.all fun k => laneLocks 0 (lanes.getD k [])) && deskewed l skew

/-- The widest width that the lanes allow, in the code of BYL_LINK_STS.WIDTH. -/
def trainWidth (lanes : List (List (BitVec 130))) (skew : List Nat) : Nat :=
  if lanesFit lanes skew [0, 1, 2, 3] then 3
  else if lanesFit lanes skew [0, 1] then 2
  else if lanesFit lanes skew [0] then 1 else 0

/-- A chip in a pair whose lanes step and whose link is not trained yet. -/
def State.trains (s : State) : Prop :=
  s.role ≠ roleSolo ∧ s.runs 15 blkLanes = true ∧ s.get B.BYL_LINK_STS_STATE < 2

/-- LANES_OK shows the lanes that lock. -/
def State.lanesSeen (s : State) (lanes : List (List (BitVec 130))) : State :=
  s.set B.BYL_LINK_STS_LANES_OK
    ((List.range 4).foldl (fun m k => if laneLocks 0 (lanes.getD k []) then m + 2 ^ k else m) 0)

/-- The link is trained at width `k`, and sends HELLO. -/
def State.trainedAt (s : State) (delay k : Nat) : State :=
  ((({ s with byl := { s.byl with rxScr := scrSeeds, rxChunks := [], delay := delay } } : State).set
    B.BYL_LINK_STS_WIDTH k).set B.BYL_LINK_STS_STATE 2).sendHello

/-- A training trains the link at the widest width, or leaves it training without lane 0. -/
theorem execBylLinkTrained_width {s : State} {t delay : Nat} {lanes : List (List (BitVec 130))} {skew : List Nat}
    (htrains : (s.to t).trains) :
    execBylLinkTrained t lanes skew delay s =
      if trainWidth lanes skew = 0 then ok (((s.to t).lanesSeen lanes).set B.BYL_LINK_STS_STATE 1)
      else ok (((s.to t).lanesSeen lanes).trainedAt delay (trainWidth lanes skew)) := by
  obtain ⟨hpair, hruns, hstate⟩ := htrains
  exact if_neg (not_or.mpr ⟨hpair, not_or.mpr ⟨by rw [hruns]; decide, Nat.not_le.mpr hstate⟩⟩)

/-- A width that some lanes allow trains the link at it. -/
theorem execBylLinkTrained_trains {s : State} {t delay k : Nat} {lanes : List (List (BitVec 130))} {skew : List Nat}
    (htrains : (s.to t).trains) (hwidth : trainWidth lanes skew = k) (hk : k ≠ 0) :
    execBylLinkTrained t lanes skew delay s = ok (((s.to t).lanesSeen lanes).trainedAt delay k) := by
  subst hwidth
  exact (execBylLinkTrained_width htrains).trans (if_neg hk)

/-! ### Authentication (R488) -/

/-- A HELLO of the same version and the other strap ends a mismatch, and no more. -/
theorem State.judgeHello_agrees {s : State} {x : Hello} (hepoch : x.epoch = s.pairEpoch)
    (hstrap : (s.setFlag B.BYL_PAIR_STS_PAIR_VERSION_MISMATCH false).flag B.BYL_PAIR_STS_SENIOR ≠ x.senior) :
    s.judgeHello x = (s.setFlag B.BYL_PAIR_STS_PAIR_VERSION_MISMATCH false).bylEval := by
  have hsame : (x.epoch != s.pairEpoch) = false := by rw [hepoch, bne_self_eq_false]
  simp only [State.judgeHello, hsame, hstrap.symm, Bool.false_eq_true, false_and, if_false]

/-- In AUTH, and with no failure held, CONFIRM `f` of a partner known from `x` has been taken: the machine is `v`. -/
def State.confirmTaken (s v : State) (rx : BylRx) (f : BylFrame) (x : Hello) : Prop :=
  s.takeFrame rx 0x02 = (v, some f) ∧ v.byl.partner = some x ∧ v.get B.BYL_LINK_STS_STATE = 2 ∧ v.byl.authFail = none

/-- A CONFIRM brings the link UP exactly when its tag is right under the link key. -/
theorem execBylConfirm_taken {s v : State} {t : Nat} {rx : BylRx} {f : BylFrame} {x : Hello}
    (h : (s.to t).confirmTaken v rx f x) :
    execBylConfirm t rx s =
      if v.byl.linkKey ∧ rx.opens.map (fitBytes f.len) = some (v.bothNonces x) then ok v.linkUp
      else ok v.confirmFails := by
  obtain ⟨htaken, hpartner, hauth, hfree⟩ := h
  have hjudged : ¬(v.get B.BYL_LINK_STS_STATE ≠ 2 ∨ v.byl.authFail.isSome = true) := by simp [hauth, hfree]
  simp only [execBylConfirm, htaken, hpartner, if_neg hjudged]

/-- A second after a failed CONFIRM, HELLO goes out again. -/
theorem execHelloRetry_due {s : State} {t c : Nat} (hfail : (s.to t).byl.authFail = some c)
    (hover : c + cycS ≤ (s.to t).cyc) (hauth : (s.to t).get B.BYL_LINK_STS_STATE = 2)
    (hruns : (s.to t).runs 15 blkLanes = true) : execHelloRetry t s = ok (s.to t).sendHello := by
  have hdue := And.intro hover (And.intro hauth hruns)
  simp only [execHelloRetry, hfail, if_pos hdue]

/-! ### Frames sent again (R490) -/

/-- Frames that no ACK confirms for 50 µs are sent again. -/
theorem execBylResendTimeout_resends {s v : State} {t : Nat} {c : Fin 4} {a : Option Nat}
    {l : List (Nat × BylOut)} (hv : v = (s.to t).takeAck c.val a) (hl : l = (Sp.at v.byl.tx [] c.val).take 256)
    (hsome : l ≠ []) (hup : v.bylUp = true) (hruns : v.runs 15 blkLanes = true)
    (hlate : Sp.at v.byl.ackAt 0 c.val + 50 * cycUs ≤ v.cyc) :
    execBylResendTimeout t c a s =
      let w := v.countBy Reg.BYL_CNT_RESEND l.length
      ok { w with byl := { w.byl with sent := l.map Prod.snd, ackAt := Sp.store w.byl.ackAt 0 c.val w.cyc } } := by
  subst hl hv
  refine if_neg (not_or.mpr ⟨?_, not_or.mpr ⟨by rw [hup]; decide, not_or.mpr ⟨by rw [hruns]; decide, ?_⟩⟩⟩)
  · rwa [List.isEmpty_iff]
  · exact Nat.not_lt.mpr hlate

/-! ### Heartbeats (R496, R497) -/

/-- The beat that was due is counted as missed. -/
def State.missBeat (s : State) : State :=
  let v := s.count Reg.BYL_CNT_HB_MISS
  { v with byl := { v.byl with misses := s.byl.misses + 1, dueAt := v.byl.dueAt + 10000000 } }

/-- A beat is 2 ms late on a chip in a pair whose link is UP, or was, and that has not lost its partner yet. -/
def State.beatLate (s : State) : Prop :=
  (s.bylUp || s.byl.linkLeft.isSome) = true ∧ s.byl.dueAt + 2000000 ≤ s.devNs ∧ s.role ≠ roleSolo ∧
    s.byl.lost = false ∧ s.runs 15 blkLanes = true

/-- A late beat is missed, and the third miss in a row is heartbeat loss. -/
theorem execHeartbeatMiss_late {s : State} {t : Nat} (h : (s.to t).beatLate) :
    execHeartbeatMiss t s =
      if (s.to t).byl.misses + 1 < 3 then ok (s.to t).missBeat
      else ok (({ (s.to t).missBeat with byl := { (s.to t).missBeat.byl with lost := true } } :
        State).pairBroken).bylEval := by
  obtain ⟨hlink, hover, hpair, hkept, hruns⟩ := h
  have hlinked : ¬((!(s.to t).bylUp) = true ∧ (s.to t).byl.linkLeft.isNone = true) := by
    rintro ⟨hdown, hnone⟩
    rw [Option.isNone_iff_eq_none] at hnone
    rw [Bool.not_eq_true'] at hdown
    rw [hnone, hdown] at hlink
    exact Bool.false_ne_true hlink
  exact if_neg (not_or.mpr ⟨hlinked, not_or.mpr ⟨Nat.not_lt.mpr hover, not_or.mpr ⟨hpair,
    not_or.mpr ⟨by rw [hkept]; decide, by rw [hruns]; decide⟩⟩⟩⟩)

end Sys2Proof.Machine

namespace Sys2Proof
open Sys2Proof.Machine

/-- Settles O42: each clause is the case of its command that the premises select. -/
theorem pairLinkCommandsComplete : Obligations.PairLinkCommandsComplete := by
  unfold Obligations.PairLinkCommandsComplete
  refine ⟨?fourLanes, ?twoLanes, ?oneLane, ?noLane, ?hello, ?agrees, ?confirm, ?linkUp, ?confirmFails, ?holdsAuth,
    ?retry, ?resend, ?loss, ?send, ?received, ?miss, ?lost⟩
  case fourLanes =>
    rintro s t lanes skew delay _ _ hpair hruns hstate hfour rfl rfl
    exact execBylLinkTrained_trains ⟨hpair, hruns, hstate⟩ (if_pos hfour) (by decide)
  case twoLanes =>
    rintro s t lanes skew delay _ _ hpair hruns hstate hfour htwo rfl rfl
    exact execBylLinkTrained_trains ⟨hpair, hruns, hstate⟩
      ((if_neg (Bool.eq_false_iff.mp hfour)).trans (if_pos htwo)) (by decide)
  case oneLane =>
    rintro s t lanes skew delay _ _ hpair hruns hstate hfour htwo hone rfl rfl
    exact execBylLinkTrained_trains ⟨hpair, hruns, hstate⟩
      ((if_neg (Bool.eq_false_iff.mp hfour)).trans ((if_neg (Bool.eq_false_iff.mp htwo)).trans (if_pos hone)))
      (by decide)
  case noLane =>
    rintro s t lanes skew delay _ hpair hruns hstate hfour htwo hone rfl
    have hnone : trainWidth lanes skew = 0 := (if_neg (Bool.eq_false_iff.mp hfour)).trans
      ((if_neg (Bool.eq_false_iff.mp htwo)).trans (if_neg (Bool.eq_false_iff.mp hone)))
    exact (execBylLinkTrained_width ⟨hpair, hruns, hstate⟩).trans (if_pos hnone)
  case hello =>
    rintro s t rx x _ rfl htaken hauth
    simp only [exec, execBylHello, htaken, if_pos hauth]
  case agrees =>
    intro s t x hepoch hstrap
    exact State.judgeHello_agrees hepoch hstrap
  case confirm =>
    rintro s t rx f x _ rfl htaken hpartner hauth hfree hkey hright
    exact (execBylConfirm_taken ⟨pair_eq_of_snd htaken, hpartner, hauth, hfree⟩).trans (if_pos ⟨hkey, hright⟩)
  case linkUp =>
    rintro s t _ rfl
    rfl
  case confirmFails =>
    rintro s t rx f x _ rfl htaken hpartner hauth hfree hwrong
    exact (execBylConfirm_taken ⟨pair_eq_of_snd htaken, hpartner, hauth, hfree⟩).trans (if_neg hwrong)
  case holdsAuth =>
    intro s t
    rfl
  case retry =>
    intro s t c hfail hover hauth hruns
    exact execHelloRetry_due hfail hover hauth hruns
  case resend =>
    intro s t c a hsome hup hruns hlate
    exact execBylResendTimeout_resends rfl rfl hsome hup hruns hlate
  case loss =>
    intro s t lane blocks hup hruns hlane hlost
    exact if_pos ⟨hup, hruns, hlane, hlost⟩
  case send =>
    intro s t hup hruns hnew
    exact if_neg (not_or.mpr ⟨by rw [hup]; decide, not_or.mpr ⟨by rw [hruns]; decide, hnew⟩⟩)
  case received =>
    rintro s t rx f p _ htaken hlater rfl
    exact congrArg ok (State.accept0_takes htaken hlater)
  case miss =>
    intro s t hlink hover hpair hkept hruns hfew
    exact (execHeartbeatMiss_late ⟨hlink, hover, hpair, hkept, hruns⟩).trans (if_pos (by omega))
  case lost =>
    intro s t hlink hover hpair hkept hruns hmany
    exact (execHeartbeatMiss_late ⟨hlink, hover, hpair, hkept, hruns⟩).trans (if_neg (by omega))

end Sys2Proof

namespace Sys2Proof.Machine

/-! ## The 64-bit registers: what an access to one of their words does (R532) -/

/-- The low word of a 64-bit register is no high word. -/
theorem isKind_high_of_low {a : Nat} (h : isKind a .low = true) : isKind a .high = false := by
  unfold isKind at *
  cases hd : regDef? a with
  | none => rfl
  | some d =>
    rw [hd] at h
    have hk : d.kind = .low := eq_of_beq h
    simp only [hk]
    rfl

/-- A served write of the low word leaves it in the requester's shadow. -/
theorem execRegisterWrite_low {s : State} {t : Nat} {rq : Requester} {a : Nat} {v same : Word} (hb : a < 0x1000000)
    (h4 : a % 4 = 0) (ho : ownRow a = false) (hr : ((s.to t).rowWrite rq a v).isNone = true)
    (hl : isKind a .low = true) (hs : (s.to t).reaches rq a = true) :
    execRegisterWrite t rq a v same s = ok (((s.to t).reached rq a true).shadowWrite rq v) := by
  rw [execRegisterWrite_bar0 hb h4 ho, State.busWrite_word hr (isKind_high_of_low hl), State.access_reaches hs,
    if_pos hl]

/-- A served write of the high word that nothing forbids commits it with the low half the requester has. -/
theorem execReg64HighWrite_commits {s : State} {t : Nat} {rq : Requester} {a : Nat} {v : Word}
    (hh : isKind a .high = true) (hr : ((s.to t).rowWrite rq a v).isNone = true) (hn : a ≠ Reg.TIM_INCR + 4)
    (hs : (s.to t).reaches rq a = true) (hf : (((s.to t).reached rq a true).forbids a v).isNone = true) :
    execReg64HighWrite t rq a v s = ok (((((s.to t).reached rq a true).softWrite (a - 4)
      ((s.to t).lowHalf rq a)).softWrite a v).written a v) := by
  rw [execReg64HighWrite, if_pos hh, State.busWrite_high hr hh hn, State.access_reaches hs, State.commit64_allowed hf]

/-- The low half is the shadow right after the requester's write of the low word in the window. -/
theorem State.lowHalf_shadow {s : State} {rq : Requester} {a : Nat}
    (h : Sp.find (s.busOf rq).last (a / 0x100000) = some (a - 4, true)) : s.lowHalf rq a = (s.busOf rq).shadow :=
  if_pos h

/-- The low half is the present one after any other access in the window. -/
theorem State.lowHalf_present {s : State} {rq : Requester} {a : Nat}
    (h : Sp.find (s.busOf rq).last (a / 0x100000) ≠ some (a - 4, true)) : s.lowHalf rq a = s.word (a - 4) :=
  if_neg h

end Sys2Proof.Machine

namespace Sys2Proof
open Sys2Proof.Machine

/-- Settles O46: the write's one access, with the low half that the requester's previous access selects. -/
theorem sixtyFourBitRegistersCommitAtTheHighWord : Obligations.SixtyFourBitRegistersCommitAtTheHighWord := by
  unfold Obligations.SixtyFourBitRegistersCommitAtTheHighWord
  refine ⟨?low, ?afterLow, ?otherwise⟩
  case low =>
    intro s t rq a v same hb h4 ho hr hl hs
    exact execRegisterWrite_low hb h4 ho hr hl hs
  case afterLow =>
    intro s t rq a v hh hr hn hs hf hprev
    rw [← State.lowHalf_shadow hprev]
    exact execReg64HighWrite_commits hh hr hn hs hf
  case otherwise =>
    intro s t rq a v hh hr hn hs hf hprev
    rw [← State.lowHalf_present hprev]
    exact execReg64HighWrite_commits hh hr hn hs hf

end Sys2Proof
